-- ==== Sys2Proof/Word.lean ====
section
/-! DEFINITION. The words of the ZOA-4416: bytes, 32-bit values, the sixteen tag codes (R50, Table 01-4) and
the tagged word (R48). -/
namespace Sys2Proof

/-- One byte of code memory, of a frame or of a BYTES value. -/
abbrev Byte := BitVec 8

/-- The value part [31:0] of a tagged word, and an Expert register as a whole (R13, R48). -/
abbrev Word := BitVec 32

/-- The tag codes of Table 01-4 (R50), in code order 0x0 to 0xF. -/
inductive Tag where
  | nil | int | uint | bits | fix | angle | time | handle | ptr | bptr | odref | ticket | bool | code
  | reserved | trap
  deriving DecidableEq, Repr

/-- The code of a tag (R50). -/
def Tag.toCode : Tag → Nat
  | .nil => 0 | .int => 1 | .uint => 2 | .bits => 3 | .fix => 4 | .angle => 5 | .time => 6 | .handle => 7
  | .ptr => 8 | .bptr => 9 | .odref => 10 | .ticket => 11 | .bool => 12 | .code => 13 | .reserved => 14
  | .trap => 15

/-- The tag of a code, read modulo 16 (R50). -/
def Tag.ofCode (n : Nat) : Tag :=
  match n % 16 with
  | 0 => .nil | 1 => .int | 2 => .uint | 3 => .bits | 4 => .fix | 5 => .angle | 6 => .time | 7 => .handle
  | 8 => .ptr | 9 => .bptr | 10 => .odref | 11 => .ticket | 12 => .bool | 13 => .code | 14 => .reserved
  | _ => .trap

/-- A tagged word: the tag in [35:32] and the value in [31:0] (R48). -/
structure TWord where
  tag : Tag := .nil
  val : Word := 0
  deriving DecidableEq, Repr

/-- The canonical NIL word, value 0 (Table 01-4). -/
abbrev TWord.nilWord : TWord := ⟨.nil, 0⟩

end Sys2Proof
end

