-- ==== Sys2Proof/Machine/Store.lean ====
section
/-! DEFINITION. The sparse store: a list of key and value pairs in one canonical form (keys strictly rising, no
entry equal to what an unlisted key reads as). Registers, object-dictionary values, memories and every indexed
group of units are held in stores. -/
namespace Sys2Proof.Machine

/-- A sparse store: pairs of key and value. -/
abbrev Store (α : Type) := List (Nat × α)

/-- What key `k` reads as, `d` where it is not listed. -/
def Store.get {α : Type} (d : α) : Store α → Nat → α
  | [], _ => d
  | (a, v) :: t, k => if k = a then v else Store.get d t k

/-- The store without key `k`. -/
def Store.del {α : Type} : Store α → Nat → Store α
  | [], _ => []
  | (a, v) :: t, k => if k = a then Store.del t k else (a, v) :: Store.del t k

/-- The store with key `k` listed at `v`, before its first larger key. -/
def Store.put {α : Type} : Store α → Nat → α → Store α
  | [], k, v => [(k, v)]
  | (a, w) :: t, k, v =>
    if k < a then (k, v) :: (a, w) :: t else if k = a then (k, v) :: t else (a, w) :: Store.put t k v

/-- Write `v` at key `k`, keeping the canonical form: writing what an unlisted key reads as removes the entry. -/
def Store.set {α : Type} [DecidableEq α] (d : α) (m : Store α) (k : Nat) (v : α) : Store α :=
  if v = d then Store.del m k else Store.put m k v

/-- Change the value at key `k` by `f`. -/
def Store.upd {α : Type} [DecidableEq α] (d : α) (m : Store α) (k : Nat) (f : α → α) : Store α :=
  Store.set d m k (f (Store.get d m k))

/-- Keys strictly rising, each above `lo`. -/
def Store.risingFrom {α : Type} : Nat → Store α → Bool
  | _, [] => true
  | lo, (a, _) :: t => decide (lo < a) && Store.risingFrom a t

/-- The keys rise strictly. -/
def Store.rising {α : Type} : Store α → Bool
  | [] => true
  | (a, _) :: t => Store.risingFrom a t

/-- The canonical form against the default `d`. -/
def Store.wf {α : Type} [DecidableEq α] (d : α) (m : Store α) : Bool :=
  Store.rising m && m.all (fun e => decide (e.2 ≠ d))

/-- Saturating increment: `n + 1`, not above `hi`. -/
def satInc (hi n : Nat) : Nat := if n < hi then n + 1 else hi

/-- Whether `i` lies in [lo, hi]. -/
def within (lo hi i : Nat) : Bool := decide (lo ≤ i) && decide (i ≤ hi)

/-- Two's complement reading of the low `w` bits. -/
def signed (w n : Nat) : Int :=
  let m := n % 2 ^ w
  if 2 * m < 2 ^ w then (m : Int) else (m : Int) - (2 ^ w : Nat)

/-- The low `w` bits of a signed number, two's complement. -/
def unsigned (w : Nat) (i : Int) : Nat := (i % ((2 ^ w : Nat) : Int)).toNat

/-- `i` kept within [lo, hi]. -/
def clampInt (lo hi i : Int) : Int := if i < lo then lo else if hi < i then hi else i

/-- Bit `k` of `n`. -/
def bitOf (n k : Nat) : Bool := decide (n / 2 ^ k % 2 = 1)

/-- `n` with bit `k` set to `b`. -/
def setBit (n k : Nat) (b : Bool) : Nat :=
  if bitOf n k then (if b then n else n - 2 ^ k) else (if b then n + 2 ^ k else n)

/-- The bit field [lo + w - 1 : lo] of `n`. -/
def fieldOf (n lo w : Nat) : Nat := n / 2 ^ lo % 2 ^ w

/-- How many of the low `w` bits of `n` are 1. -/
def popCount (w n : Nat) : Nat := (List.range w).countP (fun k => bitOf n k)

/-- The little-endian bytes of `n`, `k` of them (R12). -/
def leBytes : Nat → Nat → List Byte
  | 0, _ => []
  | k + 1, n => BitVec.ofNat 8 n :: leBytes k (n / 256)

/-- The number that little-endian bytes spell (R12). -/
def leValue : List Byte → Nat
  | [] => 0
  | b :: t => b.toNat + 256 * leValue t

/-- 1 for true, 0 for false. -/
def b2n (b : Bool) : Nat := if b then 1 else 0

end Sys2Proof.Machine
end

