-- ==== Sys2Proof/Machine/Field.lean ====
section
/-! DEFINITION. Expert register fields: the access codes of Table 00-3 (R15), the values a write may store (R18)
and the shape of a field and of a register. -/
namespace Sys2Proof.Machine

/-- The register access codes of Table 00-3 (R15). -/
inductive Acc where
  | ro | rw | wo | w1c | rc | rwl | j
  deriving DecidableEq, Repr

/-- The codes a field lists (R18): a write of another leaves the field at its previous value. -/
inductive Legal where
  | any
  | range (lo hi : Nat)
  | srange (lo hi : Int)
  | oneOf (codes : List Nat)
  deriving DecidableEq, Repr

/-- One field of an Expert register: its register's address, bits [lo + w - 1 : lo], access code, reset value
and legal codes; `s1`, `n1` and `s2`, `n2` are the strides and counts of a register that repeats. -/
structure Field where
  addr : Nat
  lo : Nat
  w : Nat
  acc : Acc
  reset : Nat
  legal : Legal := .any
  s1 : Nat := 0
  n1 : Nat := 1
  s2 : Nat := 0
  n2 : Nat := 1
  deriving DecidableEq, Repr

/-- One register (or one repeated group of registers): base address, strides, counts and fields. -/
structure RegSpec where
  base : Nat
  s1 : Nat := 0
  n1 : Nat := 1
  s2 : Nat := 0
  n2 : Nat := 1
  fields : List Field
  deriving DecidableEq, Repr

/-- The field of instance `i` of a repeated register. -/
def Field.at (f : Field) (i : Nat) : Field := { f with addr := f.addr + i * f.s1 }

/-- The field of instance `i`, `j` of a register that repeats twice. -/
def Field.at2 (f : Field) (i j : Nat) : Field := { f with addr := f.addr + i * f.s1 + j * f.s2 }

/-- Where the register file holds the field: one key per register address and low bit. -/
def Field.key (f : Field) : Nat := f.addr * 32 + f.lo

/-- Whether the field lists code `v` (R18). -/
def Legal.ok (w v : Nat) : Legal → Bool
  | .any => true
  | .range lo hi => decide (lo ≤ v) && decide (v ≤ hi)
  | .srange lo hi => decide (lo ≤ signed w v) && decide (signed w v ≤ hi)
  | .oneOf cs => cs.contains v

end Sys2Proof.Machine
end

