-- ==== Sys2Proof/Machine/PartsBackup.lean ====
section
/-! DEFINITION. State of the backup domain and the real-time clock (chapter 16) that no register holds. -/
namespace Sys2Proof.Machine

/-- The sources of the backup rail (R932, Table 16-2). -/
inductive RailSource where
  | main | battery | unpowered
  deriving DecidableEq, Repr

/-- The backup domain (R931 to R958): the rail source; the 48-bit counter and the part of a tick that idle SCLK cycles have
gathered (32,768 per cycle, a tick at 3,000,000,000); a set that waits for the next tick edge; the periodic target; the
TRIM in use and the tick within the 64 s window; whether the oscillator stands still and the counter value at its resumption
until event 0x1002 is posted; the counter and device time, in ticks, at the start of the measurement of R951 that runs; interrupts to the Weaver
(bit 0 alarm, bit 1 periodic). -/
structure BackupState where
  source : RailSource := .main
  cnt : Nat := 0
  phase : Nat := 0
  setPending : Bool := false
  target : Option Nat := none
  trim : Int := 0
  winPos : Nat := 0
  stopped : Bool := false
  resumed : Option Nat := none
  measure : Option (Nat × Nat) := none
  irq : Nat := 0
  deriving DecidableEq, Repr

end Sys2Proof.Machine
end

