-- ==== Sys2Proof/Terms.lean ====
section
/-! DEFINITION. The operands of commands that are more than a number or a flag: the operand record of a Eurnafa
instruction and small enumerations. -/
namespace Sys2Proof

/-- The Eurnafa prefixes of Table 08-4 (R490). -/
inductive Prefix where
  | lock | predT | predF | shared | tagi | unchk | wide | byte | rep | order
  deriving DecidableEq, Repr

/-- The operand modes of Table 08-3 (R489). -/
inductive EurMode where
  | reg | i8 | i16 | i32 | m8 | m16 | a16 | mi
  deriving DecidableEq, Repr

/-- The operands of a Eurnafa instruction as its bytes give them (R486 to R489): the thread that issues it (0 and 1
Weaver, 2 + 4k + j thread j of Shuttle k, 34 PCP), its prefix bytes in order, the spec byte's MODE and D, the B byte, the
immediate, displacement or address in the low bits of `ext` (in the width of the mode; for MI it is the immediate), and the TAGI
tag byte. `fetchBad` says that the fetch met an uncorrectable word of the code ROM (R418),
`collided` that a port-A write met this access's word (R424), and `crc` counts the CRC failures of a register frame (R34). -/
structure EurOp where
  thread : Fin 35
  prefixes : List Prefix := []
  mode : EurMode := .reg
  d : Fin 32 := 0
  bByte : Byte := 0
  ext : Word := 0
  tagByte : Byte := 0
  fetchBad : Bool := false
  collided : Bool := false
  crc : Fin 3 := 0
  deriving DecidableEq, Repr

/-- Who makes an Expert register access: the Weaver, a client through the expert gateway (R317), the PCP, or a Shuttle
thread of the image in a slot. -/
inductive Writer where
  | weaver | gateway | pcp
  | image (slot : Fin 4)
  deriving DecidableEq, Repr

/-- A write of a UART register that may change the format, BAUDDIV or EN (R640): the RW fields of UARTn_CTRL, or BAUDDIV. -/
inductive UartCfg where
  | ctrl (v : Word)
  | baud (v : BitVec 24)
  deriving DecidableEq, Repr

/-- A CAN frame (R768, R774): identifier, extended format, FD format, bit-rate switch, error-passive flag of an FD frame, remote
frame, DLC and data bytes. -/
structure CanFrame where
  id : BitVec 29
  ide : Bool := false
  fdf : Bool := false
  brs : Bool := false
  esi : Bool := false
  rtr : Bool := false
  dlc : Fin 16 := 0
  data : List Byte := []
  deriving DecidableEq, Repr

/-- Why an attempt failed (R785, R792): lost arbitration, or an error with its LEC code; `exempt` where ISO 11898-1 leaves TEC
unchanged. -/
inductive CanFail where
  | arbitration
  | error (lec : Fin 7) (exempt : Bool)
  deriving DecidableEq, Repr

/-- What a sleeping transceiver sees (R812): a dominant state of at least 1 µs, a frame, or an error of its frame decoder. -/
inductive CanWakeCause where
  | dominant
  | frame (f : CanFrame)
  | error
  deriving DecidableEq, Repr

/-- A write of a message object's configuration (R775): its CFG or its ID register. -/
inductive MoWrite where
  | cfg (v : Word)
  | id (v : Word)
  deriving DecidableEq, Repr

/-- A partial write (R434): the value or the tag of a tagged word, or bytes of a packet word (mask bit k for byte k). -/
inductive PartWrite where
  | value (v : Word)
  | tag (t : Tag)
  | bytes (mask : BitVec 8) (data : BitVec 64)
  deriving DecidableEq, Repr

/-- A request on a network reach (R325, R326, R1046): reads or writes of network addresses (KEY), or an SDO access by index and
sub-index, with the bytes of written values as they stand on the wire. -/
inductive NetRequest where
  | reads (keys : List Nat)
  | writes (items : List (Nat × List Byte))
  | sdoRead (index : BitVec 16) (sub : Byte)
  | sdoWrite (index : BitVec 16) (sub : Byte) (data : List Byte)
  deriving DecidableEq, Repr

/-- A word that a march reads and that is not what the march wrote (R441, R443): in a spare or a row of the bank, at word `off` of it,
in the pass of background `bg`, by operation `op` of the algorithm's operations on a word, the raw word with its check bits. -/
structure MarchRead where
  spare : Bool
  line : Nat
  off : Fin 64
  bg : Fin 2
  op : Nat
  word : Nat
  deriving DecidableEq, Repr

end Sys2Proof
end

