-- ==== Sys2Proof/Machine/PartsCan.lean ====
section
/-! DEFINITION. State of the CAN FD channels (chapter 13) that no register holds. -/
namespace Sys2Proof.Machine

/-- A cell of the schedule as its mark took it (R806): TYPE, RESEND and object. -/
structure CanCell where
  type : Nat := 0
  resend : Bool := false
  mo : Nat := 0
  deriving DecidableEq, Repr

/-- A transmission attempt on the bus (R784): object, the frame copied at its start, the exclusive cell it belongs to (cycle × 32
+ column) with that cell's RESEND, and whether TXCANCEL met it. -/
structure CanAttempt where
  mo : Nat
  frame : CanFrame
  cell : Option Nat := none
  resend : Bool := false
  cancelled : Bool := false
  deriving DecidableEq, Repr

/-- A channel: the attempt in progress, a STOP that waits for it, the cycle of entry into bus-off, the nominal rate of the last
START in b/s, the error counter of the wake frame decoder, the exclusive cell whose transmit window is open with its object,
the receive window in progress with whether its object has stored a frame, the cell of the column in progress, and whether the
schedule waits for its next cycle start after bus-off (R807). -/
structure CanUnit where
  attempt : Option CanAttempt := none
  stopReq : Bool := false
  busoffCycle : Nat := 0
  rate : Nat := 250000
  wakeErr : Nat := 0
  openCell : Option (Nat × Nat) := none
  window : Option (Nat × Bool) := none
  cell : CanCell := {}
  resuming : Bool := false
  deriving DecidableEq, Repr

end Sys2Proof.Machine
end

