-- ==== Sys2Proof/Machine/PartsEur.lean ====
section
/-! DEFINITION. State of the Eurnafa threads (chapter 08). -/
namespace Sys2Proof.Machine

/-- Whether a thread issues: stopped (no owner has started it, or HALT), running, waiting in WAIT, waiting in WAITUNTIL for
the target held in a register word, or halted by a double trap. -/
inductive ThreadRun where
  | stopped | running | waiting
  | waitUntil (target : TWord)
  | halted
  deriving DecidableEq, Repr

/-- One Eurnafa thread (R480 to R485, R526, R535): G0 to G31, FL as five flags, PC, the trap registers, VBASE, TACTIVE, the
accumulator ACC, the wake latch and whether it issues. -/
structure Thread where
  g : Store TWord := []
  z : Bool := false
  n : Bool := false
  c : Bool := false
  v : Bool := false
  p : Bool := false
  pc : Word := 0
  tpc : Word := 0
  tcause : Nat := 0
  tval : Word := 0
  ttag : Nat := 0
  tfl : Nat := 0
  vbase : Word := 0x100
  tactive : Bool := false
  acc : BitVec 64 := 0
  wakeLatch : Bool := false
  run : ThreadRun := .stopped
  deriving DecidableEq, Repr

end Sys2Proof.Machine
end

