-- ==== Sys2Proof/Machine/PartsFan.lean ====
section
/-! DEFINITION. State of the fan drive and the thermal guard (chapter 15) that no register holds. -/
namespace Sys2Proof.Machine

/-- The fan (R892 to R909): cycles of its recent shorts, whether it waits after a short, whether commutation is locked, whether
event 0x0F02 has been posted in this wake, the integrator of the speed loop, the pending baseline and the effort windows of the
present point; the guard (R913 to R917): a held acknowledge and the cycle of the assertion. -/
structure FanState where
  shorts : List Nat := []
  shortWait : Bool := false
  locked : Bool := false
  swapPosted : Bool := false
  integ : Int := 0
  pending : List Nat := []
  valid : List Nat := []
  discarded : Nat := 0
  ackHeld : Bool := false
  assertCycle : Nat := 0
  deriving DecidableEq, Repr

end Sys2Proof.Machine
end

