-- ==== Sys2Proof/Machine/Digest.lean ====
section
/-! DEFINITION. SHA-256 (FIPS 180-4) and the check of ECDSA P-256 signatures (FIPS 186), as R311, R561 and R564 use them. -/
namespace Sys2Proof.Machine

/-! ### SHA-256 -/

/-- The largest `r` below 2^`bits` with r^`k` at most `n`, found bit by bit from the top. -/
def rootBits (k n : Nat) : Nat → Nat → Nat
  | 0, r => r
  | b + 1, r => rootBits k n b (if (r + 2 ^ b) ^ k ≤ n then r + 2 ^ b else r)

/-- The first 32 bits of the fractional part of the `k`-th root of `n` (for roots below 8). -/
def rootFraction (k n : Nat) : Nat := rootBits k (n * 2 ^ (32 * k)) 40 0 % 2 ^ 32

/-- The primes up to 311: the first 64 of them. -/
def smallPrimes : List Nat :=
  (List.range 312).filter (fun n => decide (2 ≤ n) && (List.range 18).all (fun d => decide (d < 2) || decide (n ≤ d) || n % d != 0))

/-- The addends of the 64 steps: cube roots of the primes. -/
def stepAddends : List Nat := smallPrimes.map (rootFraction 3)

/-- Rotate a 32-bit number right by `n`. -/
def rotr (n x : Nat) : Nat := x / 2 ^ n + x % 2 ^ n * 2 ^ (32 - n)

/-- The chaining value: the last four values of each of the two recurrences of the compression, newest first. -/
structure Chain where
  a : List Nat
  e : List Nat
  deriving DecidableEq, Repr

/-- The start of every hash: square roots of the first eight primes. -/
def Chain.start : Chain :=
  let h := (smallPrimes.take 8).map (rootFraction 2)
  ⟨h.take 4, h.drop 4⟩

/-- One step of the compression: `x` is the schedule word plus the step's addend. -/
def Chain.advance (c : Chain) (x : Nat) : Chain :=
  let e0 := c.e.getD 0 0
  let a0 := c.a.getD 0 0
  let choose := (e0 &&& c.e.getD 1 0) + ((2 ^ 32 - 1 - e0) &&& c.e.getD 2 0)
  let t := c.e.getD 3 0 + (rotr 6 e0 ^^^ rotr 11 e0 ^^^ rotr 25 e0) + choose + x
  let most := (a0 &&& c.a.getD 1 0) ||| (c.a.getD 2 0 &&& (a0 ||| c.a.getD 1 0))
  ⟨(t + (rotr 2 a0 ^^^ rotr 13 a0 ^^^ rotr 22 a0) + most) % 2 ^ 32 :: c.a.take 3, (c.a.getD 3 0 + t) % 2 ^ 32 :: c.e.take 3⟩

/-- The schedule's window of sixteen words moves on by one word. -/
def nextWindow (w : List Nat) : List Nat :=
  let p := w.getD 1 0
  let q := w.getD 14 0
  w.drop 1 ++ [(w.getD 0 0 + (rotr 7 p ^^^ rotr 18 p ^^^ p / 8) + w.getD 9 0 + (rotr 17 q ^^^ rotr 19 q ^^^ q / 1024)) % 2 ^ 32]

/-- The number that bytes spell, most significant first. -/
def beNum (b : List Byte) : Nat := b.foldl (fun n x => n * 256 + x.toNat) 0

/-- A block of 64 bytes enters the chain. -/
def Chain.absorb (c : Chain) (block : List Byte) : Chain :=
  let w := (List.range 16).map (fun i => beNum ((block.drop (4 * i)).take 4))
  let r := (stepAddends.foldl (fun s k => (s.1.advance (s.2.getD 0 0 + k), nextWindow s.2)) (c, w)).1
  ⟨(c.a.zip r.a).map (fun x => (x.1 + x.2) % 2 ^ 32), (c.e.zip r.e).map (fun x => (x.1 + x.2) % 2 ^ 32)⟩

/-- `n` blocks of a padded message enter the chain. -/
def Chain.absorbAll : Nat → Chain → List Byte → Chain
  | 0, c, _ => c
  | n + 1, c, m => Chain.absorbAll n (c.absorb (m.take 64)) (m.drop 64)

/-- SHA-256 of a message: the digest as a number, digest byte 0 most significant. -/
def sha256 (m : List Byte) : Nat :=
  let n := (m.length + 72) / 64
  let pad := m ++ 0x80#8 :: List.replicate (64 * n - m.length - 9) 0 ++ (leBytes 8 (8 * m.length)).reverse
  let c := Chain.absorbAll n Chain.start pad
  (c.a ++ c.e).foldl (fun x w => x * 2 ^ 32 + w) 0

/-! ### ECDSA P-256 -/

/-- The field prime of P-256. -/
def p256 : Nat := 2 ^ 256 - 2 ^ 224 + 2 ^ 192 + 2 ^ 96 - 1

/-- The order of the base point. -/
def p256Order : Nat := 0xffffffff00000000ffffffffffffffffbce6faada7179e84f3b9cac2fc632551

/-- The coefficient b of the curve y² = x³ - 3x + b. -/
def p256B : Nat := 0x5ac635d8aa3a93e7b3ebbd55769886bc651d06b0cc53b0f63bce3c3e27d2604b

/-- A point in Jacobian coordinates; z = 0 is the point at infinity. -/
structure CurvePoint where
  x : Nat
  y : Nat
  z : Nat
  deriving DecidableEq, Repr

/-- The base point. -/
def basePoint : CurvePoint :=
  ⟨0x6b17d1f2e12c4247f8bce6e563a440f277037d812deb33a0f4a13945d898c296,
   0x4fe342e2fe1a7f9b8ee7eb4a7c0f9e162bce33576b315ececbb6406837bf51f5, 1⟩

/-- Subtraction in the field. -/
def fieldSub (a b : Nat) : Nat := (a + p256 - b % p256) % p256

/-- Twice a point. -/
def CurvePoint.double (p : CurvePoint) : CurvePoint :=
  let zz := p.z * p.z % p256
  let yy := p.y * p.y % p256
  let s := 4 * p.x * yy % p256
  let m := 3 * fieldSub p.x zz * (p.x + zz) % p256
  let x := fieldSub (m * m) (2 * s)
  ⟨x, fieldSub (m * fieldSub s x) (8 * yy * yy), 2 * p.y * p.z % p256⟩

/-- The sum of two points. -/
def CurvePoint.add (p q : CurvePoint) : CurvePoint :=
  if p.z = 0 then q
  else if q.z = 0 then p
  else
    let u := p.x * q.z * q.z % p256
    let v := p.y * q.z * q.z * q.z % p256
    let h := fieldSub (q.x * p.z * p.z) u
    let r := fieldSub (q.y * p.z * p.z * p.z) v
    if h = 0 then (if r = 0 then p.double else ⟨1, 1, 0⟩)
    else
      let hh := h * h % p256
      let x := fieldSub (r * r) (h * hh + 2 * u * hh)
      ⟨x, fieldSub (r * fieldSub (u * hh) x) (v * h * hh), h * p.z * q.z % p256⟩

/-- u·G + v·Q from the top one of `n` bits down, with `both` = G + Q. -/
def jointMul (q both : CurvePoint) (u v : Nat) : Nat → CurvePoint → CurvePoint
  | 0, acc => acc
  | n + 1, acc =>
    let d := acc.double
    let next := match bitOf u n, bitOf v n with
      | true, true => d.add both
      | true, false => d.add basePoint
      | false, true => d.add q
      | false, false => d
    jointMul q both u v n next

/-- `b` to the power `e` modulo `m`, from the top one of `n` bits of `e` down. -/
def powModBits (b e m : Nat) : Nat → Nat → Nat
  | 0, acc => acc
  | n + 1, acc => powModBits b e m n (if bitOf e n then acc * acc % m * b % m else acc * acc % m)

/-- Whether the signature (r, s) over a digest verifies under the public key (x, y). -/
def ecdsaValid (digest x y r s : Nat) : Bool :=
  let w := powModBits s (p256Order - 2) p256Order 256 1
  let q : CurvePoint := ⟨x, y, 1⟩
  let pt := jointMul q (basePoint.add q) (digest * w % p256Order) (r * w % p256Order) 256 ⟨1, 1, 0⟩
  let zz := pt.z * pt.z % p256
  decide (x < p256) && decide (y < p256) && y * y % p256 == (x * x * x + (p256 - 3) * x + p256B) % p256 &&
    decide (1 ≤ r) && decide (r < p256Order) && decide (1 ≤ s) && decide (s < p256Order) && pt.z != 0 &&
    (pt.x == r * zz % p256 || (decide (r + p256Order < p256) && pt.x == (r + p256Order) * zz % p256))

end Sys2Proof.Machine
end

