-- ==== Sys2Proof/Machine/PartsOd.lean ====
section
/-! DEFINITION. State of the object dictionary server, the tickets, the journal and the host port (chapters 05 and 06
of the spec): the value of an entry, client contexts, ticket slots, journal records, bolts and events. -/
namespace Sys2Proof.Machine

/-- The value of an object-dictionary entry: a tagged scalar or BYTES (R283). -/
inductive OdVal where
  | scalar (tag : Tag) (v : Nat)
  | bytes (b : List Byte)
  deriving DecidableEq, Repr

/-- The type of an entry or member (R283): a tagged scalar, BYTES of a fixed or of at most a length, or DOMAIN transfers only. -/
inductive OdType where
  | scalar (t : Tag)
  | bytes (n : Nat)
  | bytesMax (n : Nat)
  | domainOnly
  deriving DecidableEq, Repr

/-- The access codes of entries (R284, Table 05-3). -/
inductive EAcc where
  | ro | rw | wo | rwj | rwl
  deriving DecidableEq, Repr

/-- The limits of a numeric member (R288): a closed interval, and a list of allowed values where it is not empty. -/
structure Limits where
  lo : Int := -4294967296
  hi : Int := 4294967296
  codes : List Int := []
  deriving DecidableEq, Repr

/-- The states of a client context (R304, codes 0 to 3). -/
inductive CtxState where
  | disabled | free | opened | draining
  deriving DecidableEq, Repr

/-- One of the 256 client contexts (R303 to R309), with the cycle up to which its tokens are counted, its expert unlock and the cycle of its last expert access (R314), the image
slot that opened it and its expert window (R317). -/
structure Ctx where
  state : CtxState := .free
  profile : Nat := 0
  quota : Nat := 0
  rate : Nat := 0
  burst : Nat := 50
  tokens : Nat := 50
  stamp : Nat := 0
  reach : Nat := 0
  refusals : Nat := 0
  session : Nat := 0
  image : Nat := 0xFF
  unlocked : Bool := false
  lastUse : Nat := 0
  winAddr : Nat := 0
  winAuto : Bool := false
  winLast : Nat := 0
  deriving DecidableEq, Repr

/-- The answer of the OD server to the last access: result code of Table 05-5 or ticket status, value, handle; and what that code becomes
as a CANopen SDO abort code and as a Modbus exception, 0 for none (R292, R326). -/
structure OdAnswer where
  ctx : Nat := 0
  code : Nat := 0
  value : Option OdVal := none
  handle : Option Nat := none
  abort : Nat := 0
  exception : Nat := 0
  deriving DecidableEq, Repr

/-- One row of an image's mapping table (R322); ORDER says whether the most significant 16-bit word comes first on the wire, and whether
the most significant byte of each word does. -/
structure MapRow where
  key : Nat
  ref : Nat
  width : Nat
  wordHigh : Bool
  byteHigh : Bool
  scale : Int
  canRead : Bool
  canWrite : Bool
  deriving DecidableEq, Repr

/-- State of the OD server: `vals` holds the value of every entry that no register or other state holds, keyed by
index × 256 + sub-index, where it differs from its default; `jvals` the newest committed journal value of each entry. -/
structure OdState where
  vals : Store (Option OdVal) := []
  jvals : Store (Option OdVal) := []
  poisoned : List Nat := []
  ctx : Store (Option Ctx) := []
  failCount : Nat := 0
  hostOnly : Bool := false
  unlockBlocked : Bool := false
  answer : OdAnswer := {}
  mapping : Store (List MapRow) := []
  deriving DecidableEq, Repr

/-- Ticket states, codes 0 to 6 of TICKET.SLOTn.STATE (R345, Table 06-9). -/
inductive TkState where
  | free | queued | running | done | failed | aborted | indoubt
  deriving DecidableEq, Repr

/-- The code of a ticket state in TICKET.SLOTn.STATE. -/
def TkState.toCode : TkState → Nat
  | .free => 0 | .queued => 1 | .running => 2 | .done => 3 | .failed => 4 | .aborted => 5 | .indoubt => 6

/-- One of the 128 ticket slots (R339 to R350). `members` of an OD_READ ticket hold a value where the snapshot has taken it already, and NIL
before; `rows` are the mapping rows by which a network reach reads the values of its members; `window` is the ADDRESS of an access to DATA
of the expert window, as it stood at admission. -/
structure Ticket where
  state : TkState := .free
  type : Nat := 0
  client : Nat := 0
  gen : Nat := 0
  step : Nat := 0
  steps : Nat := 0
  code : Nat := 0
  resTag : Tag := .nil
  resVal : Nat := 0
  readOnce : Bool := false
  ledgered : Bool := false
  firstStaged : Bool := false
  firstCommitted : Bool := false
  finalCommitted : Bool := false
  abortPending : Bool := false
  stepPending : Bool := false
  orphan : Bool := false
  order : Nat := 0
  members : List (Nat × OdVal) := []
  data : List OdVal := []
  params : List Nat := []
  rows : List MapRow := []
  window : Nat := 0
  deriving DecidableEq, Repr

/-- An event of the log (R378): code, source index, device time, ANG and 6 bytes of data. -/
structure Event where
  code : Nat
  src : Nat
  sec : Nat := 0
  ns : Nat := 0
  ang : Nat := 0
  data : List Nat := []
  deriving DecidableEq, Repr

/-- The body of a journal record (R366, Tables 06-6 and 06-12); `other` stands for a committed record that a mount skips, of an unlisted
type or with a body that does not parse. -/
inductive JBody where
  | boltHead (gen : Nat)
  | mount (seq : Nat)
  | value (handle k n : Nat) (last : Bool) (items : List (Nat × OdVal))
  | admission (handle type n : Nat) (params : List Nat)
  | step (handle k : Nat) (tag : Tag) (v : Nat)
  | final (handle : Nat) (st : TkState) (code : Nat) (tag : Tag) (v : Nat)
  | retire (handle : Nat)
  | shutdown (trigger sec ns : Nat)
  | resume (sec ns : Nat)
  | switch (gen : Nat)
  | fail (bolt cause seq : Nat)
  | repair (bank row spare flags : Nat)
  | event (e : Event)
  | other (type length : Nat)
  deriving DecidableEq, Repr

/-- A committed record with its sequence number within the bolt (R365). -/
structure JRec where
  seq : Nat
  body : JBody
  deriving DecidableEq, Repr

/-- One journal bolt as the Weaver knows it: its base in flash, its committed records in SEQ order, the byte at which the next append
begins, whether it reads erased and whether it is failing (R364 to R370, R385). The records themselves stand in flash. -/
structure Bolt where
  base : Nat := 0x840000
  recs : List JRec := []
  used : Nat := 0
  erased : Bool := true
  failing : Bool := false
  deriving DecidableEq, Repr

/-- The phases of fulling (R379, R380), with the 64 KiB blocks still to erase; `eraseAgain` erases the standby bolt of an abandoned copy
(R1116). -/
inductive FullPhase where
  | off
  | eraseStandby (blocks : Nat)
  | copying
  | eraseOld (blocks : Nat)
  | eraseAgain (blocks : Nat)
  deriving DecidableEq, Repr

/-- The journal (R360 to R388): bolts, staging area, waiting records and fulling, and what SFDP declares of the flash. -/
structure JournalState where
  boltA : Bolt := {}
  boltB : Bolt := { base := 0x940000 }
  boltSize : Nat := 0x100000
  capacity : Nat := 0x1000000
  tppSfdpUs : Nat := 200
  profile1 : Bool := true
  answersSfdp : Bool := true
  readOnly : Bool := false
  noJournal : Bool := false
  active : Nat := 0
  staging : List JBody := []
  waiting : List JBody := []
  headRetried : Bool := false
  phase : FullPhase := .off
  toCopy : List JBody := []
  carry : Nat := 0
  copyRetried : Bool := false
  delta : List JBody := []
  retryFill : Nat := 0
  fullings : Nat := 0
  programRetries : Nat := 0
  mountSeq : Nat := 0
  epoch : Nat := 0
  lastStop : Nat := 0
  fullTicket : Option Nat := none
  deriving DecidableEq, Repr

/-- A response of the host port: the status byte, RDATA and the CRC that follows them (R390, R391, R399). -/
structure HostResp where
  status : Nat := 0
  rdata : List Byte := []
  crc : Nat := 0
  deriving DecidableEq, Repr

/-- Tickets, the event ring and the host port's last response. -/
structure TicketState where
  slots : Store Ticket := []
  counts : Store Nat := []
  nextOrder : Nat := 0
  admitRefusals : Nat := 0
  ring : List Event := []
  resp : HostResp := {}
  deriving DecidableEq, Repr

end Sys2Proof.Machine
end

