-- ==== Sys2Proof/Machine/PartsImg.lean ====
section
/-! DEFINITION. State of the Kegifen images, the image store and the image slots (chapter 09). -/
namespace Sys2Proof.Machine

/-- The resource declaration of an image (R563, Table 09-5). -/
structure ImageDecl where
  shuttles : Nat := 1
  heddles : Nat := 0
  words0 : Nat := 0
  words1 : Nat := 0
  eth : Nat := 0
  field : Nat := 0
  commonWords : Nat := 0
  packetCells : Nat := 0
  sessions : Nat := 0
  sessionQuota : Nat := 0xFF
  odEntries : Nat := 0
  tpo : Nat := 0
  tpi : Nat := 0
  aev : Nat := 0
  ioReach : Nat := 0
  domains : Nat := 0
  deriving DecidableEq, Repr

/-- An image-defined entry or member of an OD_DEFS section (R281, R1048, Table 09-4): local index, sub-index, and the attributes
of R282; `jrnl` says that its default source is JOURNAL. -/
structure OdDef where
  localIndex : Nat
  sub : Nat
  type : OdType
  acc : EAcc
  expert : Bool := false
  jrnl : Bool := false
  dflt : Nat := 0
  dfltBytes : List Byte := []
  lim : Limits := {}
  deriving DecidableEq, Repr

/-- A claim of a CLAIMS section: kind 1 EtherType, 2 UDP port, 3 TCP port; value; port mask. -/
structure Claim where
  kind : Nat
  value : Nat
  ports : Nat
  deriving DecidableEq, Repr

/-- What an image-defined entry of a time image sets or shows of PTP instance `x` (R248, R250 to R252): the profile (0 default, 1 IEC/IEEE
61850-9-3, 2 IEEE 802.1AS), the mask of its ports, the transparent clock, peer-to-peer mode, the overload flag, and the measured link
delay of a port in nanoseconds. Which entry of the image plays a role, the image says. -/
inductive TimeRole where
  | profile | ports | residence | peer | overload
  | delay (port : Nat)
  deriving DecidableEq, Repr

/-- A Kegifen image as it stands in a store slot or in the staging cells: its bytes, laid out as R561 to R563 say, and what its OD_DEFS
and MAP_TABLE sections say, whose inner layout the spec does not give; `mappingOk` says that the bytes of its MAP_TABLE sections parse. -/
structure Image where
  bytes : List Byte
  odDefs : List OdDef := []
  mapRows : List MapRow := []
  mappingOk : Bool := true
  timeRoles : List ((Nat × TimeRole) × (Nat × Nat)) := []
  deriving DecidableEq, Repr

/-- An entry of the section table (R562): type, target, flags, offset and length. -/
structure Section where
  type : Nat
  target : Nat
  flags : Nat
  offset : Nat
  length : Nat
  deriving DecidableEq, Repr

/-- The little-endian number of `n` bytes at offset `o`; bytes beyond the end read 0. -/
def Image.num (im : Image) (o n : Nat) : Nat := leValue ((im.bytes.drop o).take n)

/-- The `n` bytes at offset `o`. -/
def Image.part (im : Image) (o n : Nat) : List Byte := (im.bytes.drop o).take n

/-- KIND. -/
def Image.kind (im : Image) : Nat := im.num 6 1

/-- KEY_INDEX. -/
def Image.keyIndex (im : Image) : Nat := im.num 7 1

/-- NAME. -/
def Image.name (im : Image) : List Byte := im.part 8 8

/-- BUILD_VERSION. -/
def Image.build (im : Image) : Nat := im.num 0x10 4

/-- SECURITY_VERSION. -/
def Image.secver (im : Image) : Nat := im.num 0x14 1

/-- TOTAL_LENGTH. -/
def Image.total (im : Image) : Nat := im.num 0x18 4

/-- The SHA-256 of PUBLIC_KEY (R565) as a fuse field holds it: digest byte 0 in the lowest bits, as DEVICE_ID byte 0 is (R311). DEDUCED
(log entry 118). -/
def Image.publicKeyHash (im : Image) : Nat := beNum (leBytes 32 (sha256 (im.part 0x20 64)))

/-- Whether the signature verifies (R564): over the bytes below 0x060 and from 0x0A0 to the end. -/
def Image.sigOk (im : Image) : Bool :=
  ecdsaValid (sha256 (im.part 0 0x60 ++ im.part 0xA0 (im.total - 0xA0))) (beNum (im.part 0x20 32)) (beNum (im.part 0x40 32))
    (beNum (im.part 0x60 32)) (beNum (im.part 0x80 32))

/-- The resource declaration (Table 09-5). -/
def Image.decl (im : Image) : ImageDecl :=
  let n (o w : Nat) : Nat := im.num (0xA0 + o) w
  { shuttles := n 0 1, heddles := n 2 2, words0 := n 4 1, words1 := n 5 1, eth := n 6 1, field := n 7 1, commonWords := n 8 4,
    packetCells := n 12 2, sessions := n 14 1, sessionQuota := n 15 1, odEntries := n 16 2, tpo := n 18 1, tpi := n 19 1, aev := n 20 4,
    ioReach := n 24 4, domains := n 28 1 }

/-- The section table. -/
def Image.sections (im : Image) : List Section :=
  (List.range (im.num 0x15 1)).map (fun k =>
    let o := 0x100 + 16 * k
    { type := im.num o 1, target := im.num (o + 1) 1, flags := im.num (o + 2) 2, offset := im.num (o + 4) 4, length := im.num (o + 8) 4 })

/-- The sections of a type. -/
def Image.ofType (im : Image) (t : Nat) : List Section := im.sections.filter (fun x => x.type == t)

/-- The content of a section. -/
def Image.content (im : Image) (x : Section) : List Byte := im.part x.offset x.length

/-- Bytes in pieces of `w`. -/
def pieces (w : Nat) (b : List Byte) : List (List Byte) := (List.range (b.length / w)).map (fun k => (b.drop (w * k)).take w)

/-- A tagged word in the byte-view layout of R67: the value, then the tag in [3:0]. -/
def wordOfBytes (b : List Byte) : TWord := ⟨Tag.ofCode (leValue ((b.drop 4).take 4)), BitVec.ofNat 32 (leValue (b.take 4))⟩

/-- CODE sections: local Shuttle and bytes. -/
def Image.code (im : Image) : List (Nat × List Byte) := (im.ofType 1).map (fun x => (x.target, im.content x))

/-- LOCAL_DATA sections: local Shuttle, word offset and word. -/
def Image.localData (im : Image) : List (Nat × Nat × TWord) :=
  (im.ofType 2).flatMap (fun x =>
    let l := pieces 8 (im.content x)
    ((List.range l.length).zip l).map (fun e => (x.target, e.1, wordOfBytes e.2)))

/-- The five words of the ENTRY section of local Shuttle `k`: VBASE and the entry PCs; without one no thread starts. -/
def Image.entryWords (im : Image) (k : Nat) : Option (List Nat) :=
  (((im.ofType 3).find? (fun x => x.target == k)).map im.content).map (fun b => (pieces 4 b).map leValue)

/-- HEDDLE_PROG sections: block and instruction words of 3 bytes. -/
def Image.heddleProg (im : Image) : List (Nat × List Nat) :=
  (im.ofType 4).map (fun x => (x.target, (pieces 3 (im.content x)).map leValue))

/-- The words of the COMMON_INIT sections. -/
def Image.commonInit (im : Image) : List TWord := (im.ofType 7).flatMap (fun x => (pieces 8 (im.content x)).map wordOfBytes)

/-- The rows of the CLAIMS sections. -/
def Image.claims (im : Image) : List Claim :=
  (im.ofType 8).flatMap (fun x => (pieces 8 (im.content x)).map (fun b =>
    { kind := leValue (b.take 1), value := leValue ((b.drop 2).take 2), ports := leValue ((b.drop 4).take 1) }))

/-- The bytes of the WEAVER_CODE section. -/
def Image.weaverCode (im : Image) : List Byte := (im.ofType 9).flatMap im.content

/-- Whether a section keeps R562 and the content limits of Table 09-4. -/
def Image.sectionOk (im : Image) (x : Section) : Bool :=
  let local' := decide (x.target < im.decl.shuttles)
  decide (0x100 + 16 * im.num 0x15 1 ≤ x.offset) && decide (x.offset + x.length ≤ im.total) && x.flags == 0 &&
    (match x.type with
     | 1 => local' && decide (x.length ≤ 131072)
     | 2 => local' && decide (x.length % 8 = 0) && decide (x.length ≤ 8 * 16368)
     | 3 => local' && x.length == 20
     | 4 => decide (x.target < 2) && decide (x.length % 3 = 0)
     | 5 => x.target == 0
     | 6 => true
     | 7 => x.target == 0 && decide (x.length % 8 = 0)
     | 8 => x.target == 0 && decide (x.length % 8 = 0) && (pieces 8 (im.content x)).all (fun b =>
         within 1 3 (leValue (b.take 1)) && leValue (b.drop 5) == 0 && leValue ((b.drop 1).take 1) == 0)
     | 9 => x.target == 0 && im.kind == 1 && decide (x.length ≤ 262144)
     | _ => false)

/-- Whether MAGIC, FORMAT, the lengths, the reserved bytes and the sections meet R561 to R563. -/
def Image.formatOk (im : Image) : Bool :=
  let l := im.sections
  im.num 0 4 == 0x5A4B4746 && im.num 4 2 == 1 && within 1 32 (im.num 0x15 1) && im.num 0x16 2 == 0 && im.num 0x1C 4 == 0 &&
    within 256 524288 im.total && decide (im.total ≤ im.bytes.length) && im.num 0xA1 1 == 0 && im.num 0xBD 35 == 0 &&
    im.num 0xE0 32 == 0 && l.all im.sectionOk &&
    (List.range l.length).all (fun i => (List.range i).all (fun j =>
      match l[i]?, l[j]? with
      | some x, some y => decide (x.offset + x.length ≤ y.offset) || decide (y.offset + y.length ≤ x.offset)
      | _, _ => true))

/-- What an image slot holds beside its register IMGSTATn (R576 to R586). -/
structure ImgSlot where
  image : Option Image := none
  placed : Bool := false
  shuttles : Nat := 0
  heddles : Nat := 0
  regionBank : Nat := 0
  regionOff : Nat := 0
  words0 : Nat := 0
  words1 : Nat := 0
  base0 : Nat := 0
  base1 : Nat := 0
  claims : List Claim := []
  restarts : Nat := 0
  restartPending : Bool := false
  faultCycle : Nat := 0
  sessions : Nat := 0
  deriving DecidableEq, Repr

/-- The image store, the image table and the slots (R568 to R586). -/
structure ImageState where
  slots : Store ImgSlot := []
  store : Store (Option Image) := []
  storeError : Store Nat := []
  staged : Option Image := none
  stagedCells : Bool := false
  weaverVersion : Nat := 0
  weaverFrom : Nat := 0
  hostImages : List (Option Image) := []
  deriving DecidableEq, Repr

/-- What an executor finds when it finishes a step: nothing beyond the state; that the step failed (an erase, a flash program, a
verify); or the image that the bytes of a download spell. -/
inductive StepFact where
  | plain | failed
  | image (im : Image)
  deriving DecidableEq, Repr

end Sys2Proof.Machine
end

