-- ==== Sys2Proof/Machine/PartsGrilor.lean ====
section
/-! DEFINITION. State of the Grilor links, the hierarchy and the twins (chapter 17) that no register holds, and the contents of
frames. -/
namespace Sys2Proof.Machine

/-- What a DATA frame carries (R989): a request of a GATEWAY ticket (entry key, operation 1 read or 2 write, tag code and value) or
a worker's answer (OD code, value). -/
inductive GwMsg where
  | request (key op tag : Nat) (val : List Byte)
  | answer (code : Nat) (val : Option OdVal)
  deriving DecidableEq, Repr

/-- What a MIRROR frame carries (R1005): a journal record that the owner stages or copies, or an RW write. -/
inductive MirrorMsg where
  | record (r : JBody)
  | rwWrite (items : List (Nat × OdVal))
  deriving DecidableEq, Repr

/-- What a BOOT frame carries (R981): a booting worker's request for the set of its IMG strap, or an image. -/
inductive BootMsg where
  | request (set : Nat)
  | image (img : Option Image)
  deriving DecidableEq, Repr

/-- The contents of a frame by its TYPE (R973, Table 17-3); ACK and NAK are no queued frames. -/
inductive GBody where
  | data (m : GwMsg)
  | sync (sec ns corr : Nat)
  | delayReq
  | delayResp (turnaround : Nat)
  | cross (sec ns ang : Nat)
  | enum (walk pos : Nat) (assigned : Option Nat)
  | enumResp (device side fixedId : Nat)
  | heartbeat (side st mirror seq sec ns ang : Nat)
  | handover
  | mirror (m : MirrorMsg)
  | mirrorAck
  | keepalive
  | boot (m : BootMsg)
  deriving DecidableEq, Repr

/-- TYPE of a frame (Table 17-3). -/
def GBody.type : GBody → Nat
  | .data _ => 0x10
  | .sync .. => 0x20
  | .delayReq => 0x21
  | .delayResp _ => 0x22
  | .cross .. => 0x23
  | .enum .. => 0x30
  | .enumResp .. => 0x31
  | .heartbeat .. => 0x40
  | .handover => 0x41
  | .mirror _ => 0x42
  | .mirrorAck => 0x43
  | .keepalive => 0x50
  | .boot _ => 0x60

/-- A frame with its DST and SRC. -/
structure GFrame where
  dst : Nat
  src : Nat
  body : GBody
  deriving DecidableEq, Repr

/-- The header of a received frame with the link it arrives by (Table 17-3) and whether its CRC is good. -/
structure GHead where
  link : Fin 10
  seq : Byte
  ack : Byte
  dst : Byte
  src : Byte
  crcOk : Bool
  deriving DecidableEq, Repr

/-- A link (R972 to R977, R992): the next SEQ to send and to expect, the frames not acknowledged (oldest first) with the cycles
at which they were last sent, the frames that wait
(highest class first), the replays of the oldest frame in a row, the last ACK or NAK sent (true for NAK) with its ACKSEQ, the
cycle of the last DELAY_REQ, the last delays in 1/32 ns (newest first) and whether it has been UP since the wake. -/
structure GLink where
  txNext : Nat := 0
  rxNext : Nat := 0
  unacked : List GFrame := []
  sent : List Nat := []
  waiting : List GFrame := []
  replays : Nat := 0
  lastCtl : Option (Bool × Nat) := none
  reqCycle : Option Nat := none
  delays : List Nat := []
  wasUp : Bool := false
  deriving DecidableEq, Repr

/-- The hierarchy and the twin: links GL0, GL1 and GE0 to GE7 (0 to 9). Of a worker: the walk and position it was met at, its
upstream link, whether the SYNC servo has loaded TDA and the SYNCs in a row within 100 ns. Of a manager: the number of the walk, its
position and port, the IDs numbered with their ports in this walk and in the walk before, the DEVICE_IDs met, whether the roster
was empty at its start, and whether the ring closed. Of a GATEWAY ticket: the answer that has arrived. Of a twin: the peer's
side, state and mirror state and the mirrored SEQ, seconds, nanoseconds and ANG of its last HEARTBEAT, a HANDOVER that waits for the line, mirrored records whose MIRROR_ACK is missing, committed
records that wait for it, the records of a copy in progress and all records that a standby holds of its owner. Of a worker: the
handles of the tickets that the manager's writes have admitted and that are not final. -/
structure GrilorState where
  links : Store GLink := []
  met : Option (Nat × Nat) := none
  upstream : Option Nat := none
  loaded : Bool := false
  good : Nat := 0
  walk : Nat := 0
  pos : Nat := 0
  port : Nat := 1
  assigned : List (Nat × Nat) := []
  before : List (Nat × Nat) := []
  metDevices : List Nat := []
  rosterEmpty : Bool := true
  ringClosed : Bool := false
  answer : Option (Nat × Option OdVal) := none
  peerSide : Option Nat := none
  peerState : Nat := 0
  peerMirror : Nat := 0
  peerBeat : List Nat := []
  handover : Bool := false
  mirrorOut : List JBody := []
  heldBack : List JBody := []
  copy : List JBody := []
  mirrored : List JBody := []
  pendingGw : List Nat := []
  deriving DecidableEq, Repr

end Sys2Proof.Machine
end

