-- ==== Sys2Proof/Machine/PartsHeddle.lean ====
section
/-! DEFINITION. State of the Heddles and the RS-485 UARTs (chapter 10) that no register holds. -/
namespace Sys2Proof.Machine

/-- A Heddle (R614, R618, R619, R621): its lanes and their counts, T, LASTOUT, the angle and time latches, whether its time
compare is armed, the level latch and output enable of each slot (bit k for slot k), its queues (oldest first), whether
its wait is a queue stall, and the phase sum of its divider with the divider value in force (R609, R611). FLAG, PC, CNT and the
register fields stand in the register file. -/
structure Heddle where
  sl : Nat := 0
  slen : Nat := 32
  sn : Nat := 32
  cl : Nat := 0
  cn : Nat := 0
  t : Nat := 0
  lastOut : Bool := false
  angLatch : Bool := false
  timeLatch : Bool := false
  armed : Bool := false
  lev : Nat := 0
  oe : Nat := 0
  txq : List Nat := []
  rxq : List Nat := []
  stalled : Bool := false
  phase : Nat := 0
  div : Nat := 0x100
  deriving DecidableEq, Repr

/-- A field write of a UART that waits for the end of the character in progress (R640): key of the field and value. -/
structure UartPend where
  en : Nat
  data8 : Nat
  parity : Nat
  stop2 : Nat
  deriving DecidableEq, Repr

/-- An RS-485 UART (R639 to R647): its FIFOs (oldest first; a received character with its flags FRAMING [8], PARITY [9] and
BREAK [10]), the character being sent and whether it reaches the bus (R646, R1026), whether DE is high, and the writes that wait for
the end of a character. -/
structure UartUnit where
  tx : List Nat := []
  rx : List Nat := []
  sending : Option Nat := none
  onBus : Bool := false
  de : Bool := false
  pend : Option UartPend := none
  pendBaud : Option Nat := none
  deriving DecidableEq, Repr

/-- The check of an RS-485 line (R1024, R1025): the idle measurements in a row that met the conditions of codes 1 and 2, the own
characters in a row that were driven below 1.0 V, whether own transmissions are normal (or none was made), and the cycle in which a
condition last held. -/
structure RsLine where
  opens : Nat := 0
  reversed : Nat := 0
  shorts : Nat := 0
  normal : Bool := true
  heldAt : Nat := 0
  deriving DecidableEq, Repr

/-- The Heddles, their program memory (keyed by block × 128 + word, R603), the UARTs and the Weaver interrupts that SIGNAL
raised (bit n for Heddle n, R615). -/
structure HeddleState where
  units : Store Heddle := []
  prog : Store Nat := []
  uart : Store UartUnit := []
  lines : Store RsLine := []
  irq : Nat := 0
  deriving DecidableEq, Repr

end Sys2Proof.Machine
end

