-- ==== Sys2Proof/Machine/PartsLoom.lean ====
section
/-! DEFINITION. State of the Loom, the Bobbin and the MACs (chapters 11 and 12) that no register holds. -/
namespace Sys2Proof.Machine

/-- A frame or buffer whose cells are held (R659, R663): its cells in chain order (the first is FIRST), its length with FCS,
the port it came from (Table 11-2) and the queue set of an internal port, its VLAN and priority as classified, the HSR or PRP
sequence number it arrived with, its receive clocks (device time, TDA, TDB), the queue sets that hold its handle, the queue
set whose cell limit it counts against, the egress copies not yet ended, how many ports it was queued on,
the sequence number of its HSR tag or PRP trailer, and the LARGE_SEND ticket slot it belongs to. -/
structure LFrame where
  cells : List Nat
  len : Nat
  port : Nat
  set : Nat := 0
  vid : Nat := 0
  tagged : Bool := false
  prio : Nat := 0
  bad : Bool := false
  dt : Nat := 0
  tda : Nat := 0
  tdb : Nat := 0
  ang : Nat := 0
  holders : List Nat := []
  owner : Option Nat := none
  copies : Nat := 0
  fan : Nat := 0
  red : Option Nat := none
  large : Option Nat := none
  deriving DecidableEq, Repr

/-- A copy in an egress queue: FIRST of its frame, whether it leaves untagged, whether a closed gate has held it, and whether
a frame from outside an HSR or PRP pair takes a tag or trailer with this sequence number. -/
structure Copy where
  first : Nat
  untag : Bool := false
  held : Bool := false
  tc : Nat := 0
  seq : Option Nat := none
  deriving DecidableEq, Repr

/-- A frame in the buffers of a port: its copy and, once it has left, the clocks (device time, TDA, TDB) and ANG at the instant at which
its start-of-frame delimiter crossed the reference plane (R241). -/
structure TxNow where
  copy : Copy
  dt : Nat := 0
  tda : Nat := 0
  tdb : Nat := 0
  ang : Nat := 0
  deriving DecidableEq, Repr

/-- An FDB or group entry (R673, R676), with the cycle of its last refresh. -/
structure FdbEntry where
  mac : Nat
  vid : Nat
  ports : Nat
  isStatic : Bool := false
  stamp : Nat := 0
  deriving DecidableEq, Repr

/-- A gate list in use (R686, R687): for a time list BASE in nanoseconds and CYCLE, for an angle list ABASE and ASRC; its
entries are (GATES, INTERVAL). -/
structure GateList where
  base : Nat := 0
  cycle : Nat := 1000000
  asrc : Bool := false
  ents : List (Nat × Nat) := [(0xFF, 0)]
  deriving DecidableEq, Repr

/-- An egress port: its eight queues, the frames in its two buffers (oldest first, R734), the DWRR deficits and pointer, the gate lists in use and those
that SWAP made pending, the restart of the angle list, the pause, and the last frame sent. -/
structure Egress where
  queues : Store (List Copy) := []
  now : List TxNow := []
  deficit : Store Nat := []
  turn : Nat := 0
  tg : GateList := {}
  ag : GateList := {}
  tgNext : Option GateList := none
  agNext : Option GateList := none
  agStart : Nat := 0
  paused : Bool := false
  quanta : Nat := 0
  sent : List Byte := []
  deriving DecidableEq, Repr

/-- An internal queue set (R692, R693): receive queue of handles, completion queue, and the delivery count of R733. -/
structure QueueSet where
  rx : List Nat := []
  cq : List Nat := []
  k : Nat := 0
  deriving DecidableEq, Repr

/-- A Bobbin record that waits in the FIFO (R699): its 128 bytes with LOST and RECSEQ still 0. -/
abbrev BobRec := List Byte

/-- The Loom, the Bobbin and the MACs. `frames` is keyed by FIRST; `arrived` holds FIRST of frames not yet decided, per
port; `pdelay` the sequenceId and the receive times (device time, TDA, TDB) of the last Pdelay_Req of a port (R246); `events` of each PTP
instance the cycle at which its present second began and the event messages it has received in it (R250); `t1lDown` and `t1lDiag`
the cycles at which the link of E5 last went down and its last cable diagnostic began (R751). -/
structure LoomState where
  frames : Store (Option LFrame) := []
  arrived : Store (List Nat) := []
  egress : Store Egress := []
  sets : Store QueueSet := []
  rxst : Store Nat := []
  fdb : List FdbEntry := []
  groups : List FdbEntry := []
  vlans : Store Nat := [(1, 0x3F01FF)]
  dup : List (Nat × Nat × Nat) := []
  seqs : Store Nat := []
  fdbEvent : Option Nat := none
  linkIrq : Nat := 0
  pdelay : Store (Option (Nat × Nat × Nat × Nat)) := []
  events : Store (Nat × Nat) := []
  large : Store (Nat × Nat) := []
  bobFifo : List BobRec := []
  bobUsed : Nat := 0
  bobSeq : Nat := 0
  bobLost : Nat := 0
  bobCount : Store Nat := []
  t1lDown : Nat := 0
  t1lDiag : Option Nat := none
  deriving DecidableEq, Repr

end Sys2Proof.Machine
end

