-- ==== Sys2Proof/Machine/PartsMem.lean ====
section
/-! DEFINITION. State of the memories, the scrubbers and Carding (chapter 07) that no register holds. -/
namespace Sys2Proof.Machine

/-- The error state of a stored word (R427 to R430): clean, one bit in error, an uncorrectable error, or (packet memory
and code RAM) the poison syndrome. In tagged memory poison is the tag TRAP. -/
inductive Ecc where
  | clean | single | double | poison
  deriving DecidableEq, Repr

/-- A stored word of a marchable bank or of a code RAM, at bank code × 65,536 + offset. Tagged banks use the low 32 bits
of `val`; a correctable word holds its corrected value, an uncorrectable one its raw bits. -/
structure MemWord where
  tag : Tag := .nil
  val : BitVec 64 := 0
  ecc : Ecc := .clean
  deriving DecidableEq, Repr

/-- The completion statuses of Table 07-3 (R427), and an access that is not yet served because its bank is under
destructive Carding (R447). -/
inductive MemStatus where
  | ok | okCorrected | mergedPoison | collided | poisoned | waiting | badTag
  deriving DecidableEq, Repr

/-- The answer of the last memory access: status and word of port A, and the status of a port-B write that met it. -/
structure MemAnswer where
  status : MemStatus := .ok
  word : MemWord := {}
  statusB : Option MemStatus := none
  deriving DecidableEq, Repr

/-- A foreground access that waits for the end of a destructive run on its bank (R447): a read, a whole-word write or a partial write,
with its requester, and for writes whether a port-B write of the same word met it. -/
inductive HeldAccess where
  | read (bank off src : Nat)
  | write (bank off : Nat) (tag : Tag) (v : BitVec 64) (met : Bool)
  | part (bank off src : Nat) (p : PartWrite) (met : Bool)
  deriving DecidableEq, Repr

/-- A spare row (R444, R445, R457), at bank × 8 + spare. -/
structure Spare where
  used : Bool := false
  fuse : Bool := false
  bad : Bool := false
  row : Nat := 0
  deriving DecidableEq, Repr

/-- A Carding run in progress (R449, R461, R462): its ticket's slot, the banks still to run, the present bank, the segments
of it still to run (spares, then rows; the flag says spare), the pass and the rows newly mapped. -/
structure CardRun where
  slot : Nat
  banks : List Nat
  bank : Nat
  segs : List (Bool × Nat)
  algo : Nat
  bgs : Nat
  destructive : Bool
  pass : Nat
  mapped : Nat
  deriving DecidableEq, Repr

/-- The memories (R53, R416 to R419) and the engines that work on them; `defer` counts deferrals in a row (R74), keyed by
activity and unit. `fusesApplied` and `startReads` are start-up Carding between its steps (R453): the fuse repairs are applied, and
what the march finds in the banks that are marched after the mount. `held` are the foreground accesses that wait for the end of a
destructive run, oldest first (R447). -/
structure MemState where
  mem : Store MemWord := []
  spares : Store Spare := []
  answer : MemAnswer := {}
  scrubPos : Store Nat := []
  defer : Store Nat := []
  run : Option CardRun := none
  runs : Nat := 0
  startupRepairs : Nat := 0
  fusesApplied : Bool := false
  startReads : List (Nat × MarchRead) := []
  held : List HeldAccess := []
  deriving DecidableEq, Repr

end Sys2Proof.Machine
end

