-- ==== Sys2Proof/Machine/PartsPower.lean ====
section
/-! DEFINITION. State of the die link, the clocks' monitors, the straps, the fuses, the wake and the shutdown
sequences (chapters 01 and 02 of the spec) that no register holds. -/
namespace Sys2Proof.Machine

/-- The die link (R28 to R37): for each lane whether it is trained, and while it is failed the index of the next attempt
of its grid and whether an attempt is in progress. -/
structure DieLink where
  up0 : Bool := true
  up1 : Bool := true
  tries0 : Nat := 0
  tries1 : Nat := 0
  trying0 : Bool := false
  trying1 : Bool := false
  deriving DecidableEq, Repr

/-- The outcome of the last companion-register access (R33, R34, R36). -/
inductive LinkAnswer where
  | none | ok | linkError | linkDown
  deriving DecidableEq, Repr

/-- The background activities of Table 01-14 (R73). -/
inductive Background where
  | scrub | carding | fulling | adcCal | bobbin | fan
  deriving DecidableEq, Repr

/-- An instruction of the JTAG port (R1076): those that it offers while it is locked, and every other by its code. -/
inductive JtagInstr where
  | bypass | idcode | samplePreload | extest
  | other (code : Nat)
  deriving DecidableEq, Repr

/-- What the companion die holds of a CAN channel's wake detector (R813, R815): WAKE_MODE, WAKE_ID, WAKE_ID_IGNORE, WAKE_FLAGS and the
data mask as the Weaver copied them, the nominal rate of the last START, and the error counter of the wake frame decoder. -/
structure CanWakeCopy where
  mode : Nat := 0
  id : Nat := 0
  ignore : Nat := 0
  ide : Bool := false
  dlcEn : Bool := false
  dlc : Nat := 0
  mask : List Byte := List.replicate 8 0xFF
  rate : Nat := 250000
  err : Nat := 0
  deriving DecidableEq, Repr

/-- Supplies, pins and sequencer state of chapter 02 (R106 to R140): `limp` is the set-up of LIMP (R120), `flushIncomplete` that
S4 was cut with records unflushed. -/
structure Power where
  vbat : Bool := true
  mainFeed : Bool := true
  vhvAbove9 : Bool := true
  enCore : Bool := true
  faultN : Bool := false
  pullDowns : Bool := false
  xspiVsel18 : Bool := false
  resetLow : Bool := false
  resetAfterCommit : Bool := false
  resetRestart : Bool := false
  weaverHalted : Bool := false
  wakeStep : Nat := 8
  attempt : Nat := 1
  waitRetry : Bool := false
  wsrc : Nat := 0
  allW4 : Bool := true
  strapRound : Nat := 0
  w8Cycle : Nat := 0
  firmwareOk : Bool := false
  firstPower : Bool := true
  lastTrigger : Nat := 0
  vhvFailArmed : Bool := false
  startedLimp : Bool := false
  capActive : Bool := false
  capCycle : Nat := 0
  afterSdAside : Bool := false
  restartCmd : Bool := false
  heldWake : Option Nat := none
  recordBegun : Bool := false
  resumeInS4 : Bool := false
  offWait : Bool := false
  limp : Bool := false
  flushIncomplete : Bool := false
  refclkBack : Bool := false
  canWake : Store CanWakeCopy := []
  jtag : JtagInstr := .idcode
  deriving DecidableEq, Repr

/-- A trigger of R126, R47 or R109 with the code of SD_TRIGGER (Table 02-13). -/
inductive SdTrigger where
  | vhvFail | pgCore | command | clockLost | lockstep | resetN
  deriving DecidableEq, Repr

/-- The code of a trigger in SD_TRIGGER (Table 02-13). -/
def SdTrigger.toCode : SdTrigger → Nat
  | .vhvFail => 1 | .pgCore => 2 | .command => 3 | .clockLost => 4 | .lockstep => 6 | .resetN => 7

end Sys2Proof.Machine
end

