-- ==== Sys2Proof/Machine/PartsPwm.lean ====
section
/-! DEFINITION. State of the power stages, the ADC and the PCP (chapter 14) that no register holds. -/
namespace Sys2Proof.Machine

/-- A converter group (R833 to R878): the firing order, the order from the next group period on, how far in 1/16 SCLK cycle the present
group period has gone and how long it is, the phases that do not start in it, whether a rotation is due and whether the periods that start
now are lengthened by it, the group periods since the last rotation, the reference in mV and where and when its
ramp (in PRECHECK, FAULT and RETRY_WAIT the state) began, the loop integrator, the pre-bias duty, the counts of the protections in consecutive loop steps, the current
samples of the averaging windows (newest first; one list of phase currents in mA per step), the retries of this wake, whether a
SEQUENCE fault ends its ramp, whether S2 stopped it, whether a sync event waits for its measure, what of e is not yet removed, the present and the standby
angle table with the last table angle, and the last measured output in mV, input in mV and current in mA. -/
structure Group where
  order : List Nat := []
  nextOrder : Option (List Nat) := none
  pos : Nat := 0
  len : Nat := 0
  skip : List Nat := []
  rotate : Bool := false
  stretch : Bool := false
  periods : Nat := 0
  ref : Int := 0
  refStart : Int := 0
  rampCycle : Nat := 0
  integ : Int := 0
  prebias : Nat := 0
  ov : Nat := 0
  uv : Nat := 0
  invalid : Nat := 0
  noDuty : Nat := 0
  window : List (List Int) := []
  retries : Nat := 0
  seqFault : Bool := false
  stoppedInS2 : Bool := false
  syncDue : Bool := false
  syncErr : Int := 0
  table : List Byte := []
  standby : Option (List Byte) := none
  lastA : Nat := 0
  vout : Nat := 0
  vin : Nat := 0
  iout : Int := 0
  deriving DecidableEq, Repr

/-- A phase (R839 to R847, R858): the shadow writes of DUTY with their cycles (newest first, back to the first that is 20 ns old), how far
its present period has gone and how long it is (none: no period has begun), the on-time of the main switch in it, consecutive truncated
periods, whether the synchronous switch is off for the rest of the period, whether the period is truncated and whether one was since the
last loop step, the current in mA and why it was dropped. -/
structure Phase where
  writes : List (Nat × Nat) := []
  since : Option Nat := none
  len : Nat := 0
  loaded : Nat := 0
  cbcRun : Nat := 0
  syncOff : Bool := false
  truncated : Bool := false
  cut : Bool := false
  current : Int := 0
  dropped : Nat := 0
  deriving DecidableEq, Repr

/-- The power stages: groups, phases, the last three samples of each converter channel (newest first; none: invalid, R31), the sequences
that convert,
and the calibration conversions of each core (newest first, R855). -/
structure PwmState where
  groups : Store Group := []
  phases : Store Phase := []
  samples : Store (List (Option Int)) := []
  converting : Nat := 0
  cal : Store (List Int) := []
  deriving DecidableEq, Repr

end Sys2Proof.Machine
end

