-- ==== Sys2Proof/Machine/PartsTime.lean ====
section
/-! DEFINITION. State of the Treadle (chapter 03) and of network time (chapter 04) that no register holds. -/
namespace Sys2Proof.Machine

/-- A cross-timestamp record (R197). -/
structure XtsRec where
  ang : Nat
  aSec : Nat
  aNs : Nat
  bSec : Nat
  bNs : Nat
  cand : Bool
  aOk : Bool
  bOk : Bool
  deriving DecidableEq, Repr

/-- A mains sense input (R155 to R158): its valid samples of the last cycle and of the last 20 ms, newest first, each with the SCLK
cycle at which its pin was sampled and its code of R850; whether it has been below zero level − HYST since the last crossing; the
instant at which it last rose through the zero level since then; and the crossing found and not yet taken. -/
structure MsInput where
  samples : List (Nat × Nat) := []
  low : Bool := false
  rise : Option Nat := none
  found : Option Nat := none
  deriving DecidableEq, Repr

/-- A stretch of SCLK cycles in which one value of INC is added: the cycle at which it begins, the accumulator there, and INC. -/
structure AngSeg where
  cycle : Nat
  acc : Nat
  inc : Nat
  deriving DecidableEq, Repr

/-- The Treadle (R155 to R201): the mains sense inputs; the cycle of its wake; the 64-bit accumulator whose upper half is ANG, and
the newest stretches of constant INC, newest first; INC without the phase correction that is being spread, and the SCLK cycles that
one still lasts (R168); the candidate run, newest first, in SCLK cycles; the cycle of the last accepted crossing and the period of
the measured track (R171, R177); ANG at the last MS0 crossing; consecutive misses; the window of the last accepted crossing; INC at
it; a step command that waits; the angles of MS1 and MS2 in this cycle and the run of equal verdicts (R180, R181); the part of a
cycle gathered in HOLDOVER; the cross-timestamp FIFO (oldest first) and the newest record; the units whose interrupts the last
firing presented to the Weaver, in their order (R195). -/
structure TreadleState where
  ms : Store MsInput := []
  start : Nat := 0
  acc : Nat := 0
  segs : List AngSeg := []
  base : Nat := 4691250
  corrLeft : Nat := 0
  run : List Nat := []
  last : Nat := 0
  track : Nat := 60000000
  refAng : Option Nat := none
  consec : Nat := 0
  winIndex : Option Nat := none
  incAccept : Nat := 4691250
  stepPending : Bool := false
  ms1 : Option Nat := none
  ms2 : Option Nat := none
  verdict : Nat := 0
  verdictCount : Nat := 0
  holdFrac : Nat := 0
  xts : List XtsRec := []
  newest : Option XtsRec := none
  irq : List Nat := []
  deriving DecidableEq, Repr

/-- MODE, SRC, START and PERIOD of a pulse output in force, the times in nanoseconds (R258). -/
structure TpoSet where
  mode : Nat := 0
  src : Nat := 0
  start : Nat := 0
  period : Nat := 1000000000
  deriving DecidableEq, Repr

/-- A pulse output (R253 to R258): the settings in force, whether it is asserted, the SCLK cycle of the assert edge, the width latched
for the pulse in progress, the source time in nanoseconds of its last assert instant, and the polarity latched at it. -/
structure TpoUnit where
  cur : TpoSet := {}
  asserted : Bool := false
  edge : Nat := 0
  width : Nat := 0
  lastNs : Option Nat := none
  pol : Bool := false
  deriving DecidableEq, Repr

/-- A capture record (R261). -/
structure TpiRec where
  aSec : Nat
  aNs : Nat
  bSec : Nat
  bNs : Nat
  dtSec : Nat
  dtNs : Nat
  ang : Nat
  rising : Bool
  deriving DecidableEq, Repr

/-- The clocks TDA, TDB and device time, in units of 2^-48 of a third of a nanosecond (R216, R220), the rate at which
device time runs in INIT and HOLDOVER (R227, R234), the
RATE applied to each domain and the cycle at which its heartbeat timer last restarted (R220, R225), the pulse outputs, the capture
FIFOs (oldest first), the cycle after that of each input's last captured edge (R261), and of each context the snapshot of device time
that its reads of 0x3101:04 to :06 share, with the mask of those already read (R266). -/
structure TimeState where
  tda : Nat := 0
  tdb : Nat := 0
  dt : Nat := 0
  dtRate : Int := 0
  rates : Store Int := []
  beat : Store Nat := []
  tpo : Store TpoUnit := []
  tpi : Store (List TpiRec) := []
  tpiEdge : Store Nat := []
  snaps : Store (Nat × Nat) := []
  deriving DecidableEq, Repr

end Sys2Proof.Machine
end

