-- ==== Sys2Proof/Syntax.lean ====
section
/-! DEFINITION. The commands of the ZOA-4416: one constructor for each row of the table of commands, with the row's operands:
first the commands with operands, then the instructions of the threads, then the commands without operands. What each operand says is told where the command has its meaning (Machine/<family>.lean). -/
namespace Sys2Proof

/-- A command: an access, an event on a pin or a link, an operation of a unit, or an instruction that a thread issues. -/
inductive Instr where
  /-- SAMPLE_FRAME (R31). -/
  | sampleFrame (c : Fin 4) (slot : Fin 50) (x : Fin 4) (code : Int) (crcOk : Bool)
  /-- COMPANION_REGISTER_ACCESS (R33). -/
  | companionRegisterAccess (a : Word) (v : Option Word) (w : Writer) (crc : Fin 3)
  /-- LANE_FAILURE (R35). -/
  | laneFailure (k : Fin 2)
  /-- RETRAIN_ATTEMPT (R37). -/
  | retrainAttempt (k : Fin 2)
  /-- RETRAIN_ATTEMPT_END (R37). -/
  | retrainAttemptEnd (k : Fin 2) (trained : Bool)
  /-- REGISTER_WRITE (R15). -/
  | registerWrite (a : Word) (v : Word) (w : Writer)
  /-- RC_REGISTER_READ (R15). -/
  | rcRegisterRead (a : Word)
  /-- MAIN_FEED_PRESENT (R109). -/
  | mainFeedPresent (vhv : Bool)
  /-- WAKE_EVENT (R108). -/
  | wakeEvent (src : Fin 8)
  /-- PG_CORE_HIGH (R112). -/
  | pgCoreHigh (vsel18 : Bool)
  /-- FUSE_CHECK (R102). -/
  | fuseCheck (differ : Bool)
  /-- STRAP_SAMPLE_ROUND (R90). -/
  | strapSampleRound (a : BitVec 12) (b : BitVec 12) (c : BitVec 12)
  /-- STARTUP_CARDING (R453). -/
  | startupCarding (reads : List (Nat × MarchRead))
  /-- JOURNAL_MOUNT (R371). -/
  | journalMount (failA : Fin 3) (failB : Fin 3) (mountFails : Fin 3)
  /-- FUSE_PROGRAM (R1047). -/
  | fuseProgram (c : Fin 256) (word : Fin 128) (mask : Word)
  /-- MS0_CROSSING (R171). -/
  | ms0Crossing (edge : Nat) (low : Nat) (high : Nat)
  /-- MS_PHASE_CROSSING (R180). -/
  | msPhaseCrossing (k : Fin 3)
  /-- AEV_ARM (R189). -/
  | aevArm (n : Fin 32) (reg : Fin 3) (v : Word)
  /-- TDX_STATE_WRITE (R224). -/
  | tdxStateWrite (x : Fin 2) (v : Fin 4) (w : Writer)
  /-- TDX_RATE_WRITE (R225). -/
  | tdxRateWrite (x : Fin 2) (rate : BitVec 40) (w : Writer)
  /-- TDX_HEARTBEAT (R225). -/
  | tdxHeartbeat (x : Fin 2) (w : Writer)
  /-- TDX_STEP (R222). -/
  | tdxStep (x : Fin 2) (ns : Word) (w : Writer)
  /-- TDX_SET (R222). -/
  | tdxSet (x : Fin 2) (w : Writer)
  /-- SERVO_TIMEOUT (R224). -/
  | servoTimeout (x : Fin 2)
  /-- TPO_ASSERT (R254). -/
  | tpoAssert (n : Fin 8)
  /-- TPO_DEASSERT (R256). -/
  | tpoDeassert (n : Fin 8)
  /-- TPI_CAPTURE (R261). -/
  | tpiCapture (n : Fin 8) (rising : Bool)
  /-- TPI_POP (R263). -/
  | tpiPop (n : Fin 8)
  /-- TPI_RECORD_READ (R265). -/
  | tpiRecordRead (n : Fin 8)
  /-- OD_READ (R290). -/
  | odRead (c : Fin 256) (i : BitVec 16) (sub : Byte) (found : Bool)
  /-- OD_WRITE (R285). -/
  | odWrite (c : Fin 256) (i : BitVec 16) (sub : Byte) (v : Machine.OdVal)
  /-- MULTI_READ (R295). -/
  | multiRead (c : Fin 256) (l : List (BitVec 16 × Byte))
  /-- MULTI_WRITE (R295). -/
  | multiWrite (c : Fin 256) (l : List (BitVec 16 × Byte × Machine.OdVal))
  /-- NETWORK_REQUEST (R325). -/
  | networkRequest (k : Fin 4) (c : Fin 256) (r : NetRequest)
  /-- EXPERT_UNLOCK (R311). -/
  | expertUnlock (c : Fin 256) (key : BitVec 64)
  /-- EXPERT_UNLOCK_EXPIRY (R314). -/
  | expertUnlockExpiry (c : Fin 256)
  /-- EXPERT_RELOCK (R314). -/
  | expertRelock (c : Fin 256)
  /-- EXPERT_WINDOW_DATA (R318). -/
  | expertWindowData (c : Fin 256) (v : Option Word) (crc : Fin 3)
  /-- CONFIG_LOCK (R320). -/
  | configLock (c : Fin 256) (v : Bool)
  /-- RESTORE_DEFAULTS (R321). -/
  | restoreDefaults (c : Fin 256) (mask : Word)
  /-- SESSION_OPEN (R306). -/
  | sessionOpen (k : Fin 4) (reach : Fin 6) (profile : Fin 16)
  /-- SESSION_CLOSE (R304). -/
  | sessionClose (c : Fin 256)
  /-- DRAIN_TIMEOUT (R304). -/
  | drainTimeout (c : Fin 256)
  /-- TICKET_EXECUTOR_START (R347). -/
  | ticketExecutorStart (i : Fin 128)
  /-- TICKET_STEP_COMPLETE (R345). -/
  | ticketStepComplete (i : Fin 128) (f : Machine.StepFact)
  /-- JOURNAL_PROGRAM_FAILURE (R384). -/
  | journalProgramFailure (copy : Bool) (readback : Bool) (page : Fin 17)
  /-- FULL_NOW (R1117). -/
  | fullNow (c : Fin 256)
  /-- VERIFY (R1117). -/
  | verify (c : Fin 256)
  /-- CLEAR_FAILING (R1117). -/
  | clearFailing (c : Fin 256)
  /-- ORPHAN_AUTO_RETIRE (R359). -/
  | orphanAutoRetire (i : Fin 128)
  /-- RETIRE (R354). -/
  | ticketRetire (c : Fin 256) (h : Word)
  /-- ABORT (R355). -/
  | ticketAbort (c : Fin 256) (h : Word)
  /-- RESULT_READ (R348). -/
  | resultRead (c : Fin 256) (h : Word)
  /-- RESULT_CONSUME (R351). -/
  | resultConsume (c : Fin 256) (h : Word)
  /-- RESULT_DATA (R397). -/
  | resultData (c : Fin 256) (h : Word)
  /-- TICKET_STATE (R397). -/
  | ticketState (c : Fin 256) (h : Word)
  /-- INT_ENABLE (R400). -/
  | intEnable (v : BitVec 16)
  /-- DOMAIN_OPEN (R344). -/
  | domainOpen (i : BitVec 16) (sub : Byte) (up : Bool) (total : Word) (first : BitVec 16)
  /-- DOMAIN_PUT (R344). -/
  | domainPut (h : Word) (k : BitVec 16) (b : List Byte)
  /-- DOMAIN_GET (R344). -/
  | domainGet (h : Word) (k : BitVec 16)
  /-- UNKNOWN_COMMAND (R394). -/
  | unknownCommand (req : List Byte) (crc : Byte)
  /-- MEMORY_READ (R428). -/
  | memoryRead (b : Fin 26) (off : Fin 65536) (src : Fin 16)
  /-- WHOLE_WORD_WRITE (R431). -/
  | wholeWordWrite (b : Fin 26) (off : Fin 65536) (tag : Tag) (v : BitVec 64) (met : Bool)
  /-- PARTIAL_WRITE (R434). -/
  | partialWrite (b : Fin 26) (off : Fin 65536) (p : PartWrite) (src : Fin 16) (met : Bool)
  /-- SCRUB_STEP (R437). -/
  | scrubStep (b : Fin 36) (fg : Bool) (beaten : Bool)
  /-- CARDING_RUN (R461). -/
  | cardingRun (c : Fin 256) (mask : BitVec 26) (algo : Fin 2) (bgs : Fin 3) (destructive : Bool)
  /-- CARDING_SEGMENT_STEP (R449). -/
  | cardingSegmentStep (fg : Bool) (reads : List MarchRead)
  /-- CARDING_BANK_MARCH (R447). -/
  | cardingBankMarch (reads : List MarchRead)
  /-- WAITUNTIL_REACHED (R527). -/
  | waituntilReached (i : Fin 35)
  /-- SHWAKE (R558). -/
  | shwake (t : Fin 32) (w : Writer)
  /-- LOAD (R576). -/
  | imageLoad (c : Fin 256) (slot : Fin 4) (src : Fin 17)
  /-- UNLOAD (R580). -/
  | unload (c : Fin 256) (slot : Fin 4)
  /-- STORE (R582). -/
  | store (c : Fin 256) (store : Fin 16)
  /-- TABLE (R582). -/
  | table (c : Fin 256) (set : Fin 9) (value : Word)
  /-- IMAGE_RESTART (R586). -/
  | imageRestart (k : Fin 4)
  /-- HEDDLE_NOP (R615). -/
  | heddleNop (n : Fin 16) (fetchBad : Bool)
  /-- SAMPLE (R615). -/
  | sample (n : Fin 16) (pins : BitVec 64) (fetchBad : Bool)
  /-- DRIVE (R615). -/
  | drive (n : Fin 16) (fetchBad : Bool)
  /-- AWAIT (R615). -/
  | await (n : Fin 16) (before : BitVec 64) (now : BitVec 64) (fetchBad : Bool)
  /-- COUNT (R615). -/
  | count (n : Fin 16) (fetchBad : Bool)
  /-- SHIFT (R615). -/
  | shift (n : Fin 16) (fetchBad : Bool)
  /-- EMIT (R615). -/
  | emit (n : Fin 16) (fetchBad : Bool)
  /-- TAKE (R615). -/
  | take (n : Fin 16) (fetchBad : Bool)
  /-- BRANCH (R615). -/
  | branch (n : Fin 16) (pins : BitVec 64) (fetchBad : Bool)
  /-- MATCH (R615). -/
  | hdMatch (n : Fin 16) (pins : BitVec 64) (fetchBad : Bool)
  /-- TIMEOUT (R615). -/
  | timeout (n : Fin 16) (fetchBad : Bool)
  /-- SIGNAL (R631). -/
  | signal (n : Fin 16) (fetchBad : Bool)
  /-- AWAIT_CONDITION_MET (R620). -/
  | awaitConditionMet (n : Fin 16) (cycles : Nat) (before : BitVec 64) (now : BitVec 64)
  /-- HEDDLE_STALL_RELEASE (R613). -/
  | heddleStallRelease (n : Fin 16) (cycles : Nat)
  /-- HEDDLE_T_EXPIRY (R620). -/
  | heddleTExpiry (n : Fin 16)
  /-- HEDDLE_TIME_COMPARE (R619). -/
  | heddleTimeCompare (n : Fin 16)
  /-- HEDDLE_ENABLE (R632). -/
  | heddleEnable (n : Fin 16) (wtr : Writer)
  /-- HEDDLE_DISABLE (R632). -/
  | heddleDisable (n : Fin 16) (wtr : Writer)
  /-- RESTART (R632). -/
  | restart (n : Fin 16) (wtr : Writer)
  /-- FLUSH (R634). -/
  | flush (n : Fin 16) (wtr : Writer)
  /-- SPLIT_WRITE (R629). -/
  | splitWrite (n : Fin 16) (wtr : Writer) (split : Fin 16)
  /-- HEDDLE_DIV_WRITE (R611). -/
  | heddleDivWrite (n : Fin 16) (wtr : Writer) (d : BitVec 24)
  /-- REGION_WRITE (R606). -/
  | regionWrite (n : Fin 16) (wtr : Writer) (base : Nat) (len : Nat) (start : Nat) (wrap : Nat)
  /-- SLOTMAP_WRITE (R622). -/
  | slotmapWrite (n : Fin 16) (wtr : Writer) (hi : Bool) (v : Word)
  /-- PROGRAM_WORD_WRITE (R607). -/
  | programWordWrite (b : Fin 2) (w : Fin 128) (wtr : Writer) (v : BitVec 24)
  /-- TXQ_WRITE (R630). -/
  | txqWrite (n : Fin 16) (wtr : Writer) (v : Word)
  /-- RXQ_READ (R630). -/
  | rxqRead (n : Fin 16)
  /-- TTARGET_WRITE (R619). -/
  | ttargetWrite (n : Fin 16) (wtr : Writer) (v : Word)
  /-- BYPASS_WRITE (R627). -/
  | bypassWrite (wtr : Writer) (v : BitVec 2)
  /-- DALI_CURRENT_LIMIT (R628). -/
  | daliCurrentLimit (i : Fin 2)
  /-- UART_TX_WRITE (R643). -/
  | uartTxWrite (n : Fin 2) (wtr : Writer) (b : Byte)
  /-- UART_RX_READ (R642). -/
  | uartRxRead (n : Fin 2)
  /-- TXFLUSH (R639). -/
  | txflush (n : Fin 2) (wtr : Writer)
  /-- RXFLUSH (R639). -/
  | rxflush (n : Fin 2) (wtr : Writer)
  /-- UART_CONFIG_WRITE (R640). -/
  | uartConfigWrite (n : Fin 2) (wtr : Writer) (cfg : UartCfg) (receiving : Bool)
  /-- UART_TRANSMIT_START (R643). -/
  | uartTransmitStart (n : Fin 2)
  /-- UART_CHARACTER_SENT (R643). -/
  | uartCharacterSent (n : Fin 2)
  /-- UART_DE_RELEASE (R643). -/
  | uartDeRelease (n : Fin 2)
  /-- UART_CHARACTER_RECEIVED (R642). -/
  | uartCharacterReceived (n : Fin 2) (data : Byte) (framing : Bool) (parity : Bool) (brk : Bool)
  /-- UART_IDLE (R644). -/
  | uartIdle (n : Fin 2)
  /-- MAC_FRAME_END (R727). -/
  | macFrameEnd (p : Fin 6) (b : List Byte) (symErr : Bool) (sfd : Nat)
  /-- FRAME_TOO_LONG (R727). -/
  | frameTooLong (p : Fin 6)
  /-- PORT_CELL_EXHAUSTED (R663). -/
  | portCellExhausted (p : Fin 6) (b : List Byte) (sfd : Nat)
  /-- FRAME_DECISION (R666). -/
  | frameDecision (p : Fin 6)
  /-- TRANSMIT_OPPORTUNITY (R684). -/
  | transmitOpportunity (p : Fin 6) (opening : BitVec 8)
  /-- FRAME_TRANSMITTED (R740). -/
  | frameTransmitted (p : Fin 6) (overrun : Bool) (sfd : Nat)
  /-- TIME_GATE_ENTRY_CHANGE (R686). -/
  | timeGateEntryChange (p : Fin 6) (restart : Bool)
  /-- ANGLE_GATE_ENTRY_CHANGE (R687). -/
  | angleGateEntryChange (p : Fin 6) (restart : Bool)
  /-- TG_SWAP (R690). -/
  | tgSwap (p : Fin 6)
  /-- AG_SWAP (R690). -/
  | agSwap (p : Fin 6)
  /-- FDB_AGEING (R675). -/
  | fdbAgeing (mac : BitVec 48) (vid : BitVec 12)
  /-- FDB_LOOKUP (R705). -/
  | fdbLookup (group : Bool)
  /-- FDB_INSERT (R705). -/
  | fdbInsert (group : Bool)
  /-- FDB_DELETE (R705). -/
  | fdbDelete (group : Bool)
  /-- NQ_RXPOP (R692). -/
  | nqRxpop (q : Fin 6)
  /-- NQ_ALLOC (R693). -/
  | nqAlloc (q : Fin 6)
  /-- NQ_TX (R693). -/
  | nqTx (q : Fin 6) (h : Word)
  /-- NQ_FREE (R693). -/
  | nqFree (q : Fin 6) (h : Word)
  /-- NQ_CPOP (R740). -/
  | nqCpop (q : Fin 6)
  /-- BOBBIN_RECORD_WRITE (R702). -/
  | bobbinRecordWrite (foreground : Bool)
  /-- LINK_UP (R725). -/
  | linkUp (p : Fin 6) (master : Bool) (level : Bool)
  /-- LINK_DOWN (R725). -/
  | linkDown (p : Fin 6)
  /-- PAUSE_EXPIRY (R730). -/
  | pauseExpiry (p : Fin 6)
  /-- MAC_MODE_WRITE (R722). -/
  | macModeWrite (p : Fin 6) (mode : Fin 4)
  /-- PHY_CONTROL_WORD (R723). -/
  | phyControlWord (p : Fin 4) (slow : Bool) (half : Bool)
  /-- PSTK_READ (R742). -/
  | pstkRead (p : Fin 6) (coincident : Byte)
  /-- LARGE_SEND (R744). -/
  | largeSend (c : Fin 256) (h : Word) (kind : Fin 4) (hdr : Byte) (payload : BitVec 16) (mss : BitVec 16) (ctl : Word)
  /-- T1L_DIAG_COMPLETE (R752). -/
  | t1lDiagComplete (result : Fin 5) (distance : Fin 2048)
  /-- CAN_START (R770). -/
  | canStart (n : Fin 2) (wtr : Writer)
  /-- CAN_STOP (R793). -/
  | canStop (n : Fin 2)
  /-- CAN_RECOVER (R790). -/
  | canRecover (n : Fin 2)
  /-- CAN_SLEEP (R811). -/
  | canSleep (n : Fin 2)
  /-- CAN_BUS_IDLE (R793). -/
  | canBusIdle (n : Fin 2)
  /-- CAN_RECOVERY_COMPLETE (R790). -/
  | canRecoveryComplete (n : Fin 2)
  /-- CAN_FRAME_RECEIVED (R777). -/
  | canFrameReceived (n : Fin 2) (f : CanFrame) (back : Nat)
  /-- TRANSMIT_ATTEMPT_START (R784). -/
  | transmitAttemptStart (n : Fin 2) (left : Nat)
  /-- TRANSMIT_SUCCESS (R785). -/
  | transmitSuccess (n : Fin 2) (back : Nat)
  /-- TRANSMIT_FAILURE (R785). -/
  | transmitFailure (n : Fin 2) (why : CanFail)
  /-- TXSET (R782). -/
  | txset (n : Fin 2) (k : Fin 128)
  /-- TXCANCEL (R786). -/
  | txcancel (n : Fin 2) (k : Fin 128)
  /-- MO_CONFIG_WRITE (R775). -/
  | moConfigWrite (n : Fin 2) (k : Fin 128) (w : MoWrite)
  /-- NEWDAT_CLEAR (R778). -/
  | newdatClear (n : Fin 2) (k : Fin 128)
  /-- TT_CYCLE_START (R796). -/
  | ttCycleStart (n : Fin 2) (cyc : Option (Fin 64))
  /-- TT_COLUMN_MARK (R794). -/
  | ttColumnMark (n : Fin 2)
  /-- TT_TX_WINDOW_EXPIRY (R799). -/
  | ttTxWindowExpiry (n : Fin 2)
  /-- REF_LOST (R798). -/
  | refLost (n : Fin 2)
  /-- TXD_TIMEOUT (R808). -/
  | txdTimeout (n : Fin 2)
  /-- BUS_FAULT (R809). -/
  | busFault (n : Fin 2) (code : Fin 7)
  /-- BUS_FAULT_CLEAR (R809). -/
  | busFaultClear (n : Fin 2)
  /-- CAN_WAKE (R812). -/
  | canWake (n : Fin 2) (c : CanWakeCause)
  /-- GROUP_START (R865). -/
  | groupStart (g : Fin 4)
  /-- GROUP_STOP (R865). -/
  | groupStop (g : Fin 4)
  /-- GROUP_PARK (R865). -/
  | groupPark (g : Fin 4)
  /-- GROUP_CLEAR (R865). -/
  | groupClear (g : Fin 4)
  /-- START_CONDITIONS_MET (R864). -/
  | startConditionsMet (g : Fin 4)
  /-- PRECHECK_DONE (R866). -/
  | precheckDone (g : Fin 4) (vout : Fin 16384) (vin : Fin 16384) (isen : List Int)
  /-- SOFTSTART_DONE (R865). -/
  | softstartDone (g : Fin 4)
  /-- RAMPDOWN_DONE (R865). -/
  | rampdownDone (g : Fin 4)
  /-- GROUP_RETRY (R874). -/
  | groupRetry (g : Fin 4)
  /-- LOOP_STEP (R861). -/
  | loopStep (g : Fin 4)
  /-- PWM_SYNC_EVENT (R843). -/
  | pwmSyncEvent (g : Fin 4)
  /-- PHASE_ROTATION (R844). -/
  | phaseRotation (g : Fin 4)
  /-- DUTY_WRITE (R841). -/
  | dutyWrite (n : Fin 8) (v : BitVec 24)
  /-- TRIP_LINE_EDGE (R858). -/
  | tripLineEdge (t : Fin 8)
  /-- GATE_DRIVER_FAULT (R859). -/
  | gateDriverFault (n : Fin 8) (active : Bool)
  /-- ZCD_EDGE (R847). -/
  | zcdEdge (n : Fin 8)
  /-- SEQ_GO (R851). -/
  | seqGo (k : Fin 8)
  /-- SEQ_PWM_TRIGGER (R851). -/
  | seqPwmTrigger (k : Fin 8)
  /-- SEQ_TIME_TRIGGER (R851). -/
  | seqTimeTrigger (k : Fin 8)
  /-- SEQUENCE_DONE (R852). -/
  | sequenceDone (k : Fin 8)
  /-- ADC_OFFSET_CALIBRATION (R855). -/
  | adcOffsetCalibration (c : Fin 4) (code : Int) (busy : Bool)
  /-- FAN_SPEED_LOOP (R895). -/
  | fanSpeedLoop (rpm : Fin 65536) (current : Fin 65536) (vhv : Fin 65536)
  /-- FAN_DUTY_WRITE (R897). -/
  | fanDutyWrite (v : Word)
  /-- FAN_LOCK (R901). -/
  | fanLock (reversed : Bool)
  /-- FAN_BASELINE_RUN (R905). -/
  | fanBaselineRun (c : Fin 256)
  /-- FAN_EFFORT_WINDOW (R906). -/
  | fanEffortWindow (effort : Fin 65536) (stable : Bool)
  /-- AGEING_UPDATE (R908). -/
  | ageingUpdate (rpm : Fin 65536) (effort : Fin 65536) (stable : Bool)
  /-- TEMPERATURE_UPDATE (R911). -/
  | temperatureUpdate (n : Fin 8) (t : BitVec 16)
  /-- GUARD_ASSERT (R914). -/
  | guardAssert (cause : Fin 3)
  /-- VBAT_MEASUREMENT (R937). -/
  | vbatMeasurement (mv : Fin 8192)
  /-- LOCAL_OFFSET_WRITE (R945). -/
  | localOffsetWrite (v : BitVec 31)
  /-- TRIM_WRITE (R949). -/
  | trimWrite (v : BitVec 10)
  /-- ALARM_DISARM (R952). -/
  | alarmDisarm (v : Word)
  /-- ALARM_ARM (R952). -/
  | alarmArm (v : BitVec 16)
  /-- PERIOD_WRITE (R954). -/
  | periodWrite (v : Word)
  /-- BLOCK_LOCK (R972). -/
  | blockLock (i : Fin 2)
  /-- GRILOR_LINK_UP (R972). -/
  | grilorLinkUp (i : Fin 10)
  /-- GRILOR_LINK_DOWN (R972). -/
  | grilorLinkDown (i : Fin 10)
  /-- ACK (R974). -/
  | glAck (i : Fin 10) (ack : Byte) (crcOk : Bool)
  /-- NAK (R974). -/
  | glNak (i : Fin 10) (ack : Byte) (crcOk : Bool)
  /-- DATA (R974). -/
  | glData (h : Machine.GHead) (m : Machine.GwMsg)
  /-- SYNC (R994). -/
  | glSync (h : Machine.GHead) (sec : BitVec 48) (ns : Word) (corr : BitVec 48) (residence : Word)
  /-- DELAY_REQ (R992). -/
  | delayReq (h : Machine.GHead) (turnaround : Word)
  /-- DELAY_RESP (R992). -/
  | delayResp (h : Machine.GHead) (turnaround : Word)
  /-- CROSS (R997). -/
  | glCross (h : Machine.GHead) (sec : BitVec 48) (ns : Word) (ang : Word)
  /-- ENUM (R982). -/
  | glEnum (h : Machine.GHead) (walk : Word) (pos : BitVec 16) (assigned : Option Byte)
  /-- ENUM_RESP (R983). -/
  | glEnumResp (h : Machine.GHead) (device : BitVec 128) (side : Fin 2) (fixedId : Byte)
  /-- HEARTBEAT (R998). -/
  | glHeartbeat (h : Machine.GHead) (side : Fin 2) (st : Fin 3) (mirror : Fin 3) (seq : Word) (sec : Word) (ns : Word) (ang : Word)
  /-- HANDOVER (R1003). -/
  | glHandover (h : Machine.GHead)
  /-- MIRROR (R1005). -/
  | glMirror (h : Machine.GHead) (m : Machine.MirrorMsg)
  /-- MIRROR_ACK (R1005). -/
  | glMirrorAck (h : Machine.GHead)
  /-- KEEPALIVE (R977). -/
  | glKeepalive (k : Fin 8) (h : Machine.GHead)
  /-- BOOT (R981). -/
  | glBoot (h : Machine.GHead) (m : Machine.BootMsg)
  /-- REPLAY_TIMEOUT (R974). -/
  | replayTimeout (i : Fin 10)
  /-- KEEPALIVE_TIMEOUT (R977). -/
  | keepaliveTimeout (k : Fin 8)
  /-- DELAY_MEASUREMENT (R992). -/
  | delayMeasurement (i : Fin 10)
  /-- KEEPALIVE_SEND (R977). -/
  | keepaliveSend (k : Fin 8)
  /-- GATEWAY (R988). -/
  | gateway (c : Fin 256) (w : Fin 255) (ref : Word) (op : Fin 3) (tag : Byte) (v : List Byte)
  /-- TWIN_OWN_CHANGE (R1000). -/
  | twinOwnChange (peer : Bool)
  /-- RS485_LINE_MEASUREMENT (R1025). -/
  | rs485LineMeasurement (n : Fin 2) (a : Int) (b : Int)
  /-- CAN_RECEIVE_ERROR (R787). -/
  | canReceiveError (n : Fin 2) (lec : Fin 7) (by8 : Bool)
  /-- NOP (R515). -/
  | euNop (op : EurOp)
  /-- HALT (R515). -/
  | euHalt (op : EurOp)
  /-- RET (R515). -/
  | euRet (op : EurOp)
  /-- WAIT (R526). -/
  | euWait (op : EurOp)
  /-- RTT (R532). -/
  | euRtt (op : EurOp)
  /-- PUSH (R515). -/
  | euPush (op : EurOp)
  /-- POP (R515). -/
  | euPop (op : EurOp)
  /-- NEG (R509). -/
  | euNeg (op : EurOp)
  /-- ABS (R509). -/
  | euAbs (op : EurOp)
  /-- NOT (R507). -/
  | euNot (op : EurOp)
  /-- BSWAP (R509). -/
  | euBswap (op : EurOp)
  /-- CLZ (R509). -/
  | euClz (op : EurOp)
  /-- MKNIL (R515). -/
  | euMknil (op : EurOp)
  /-- MOV (R515). -/
  | euMov (op : EurOp)
  /-- LD (R520). -/
  | euLd (op : EurOp)
  /-- ST (R520). -/
  | euSt (op : EurOp)
  /-- LDP (R515). -/
  | euLdp (op : EurOp)
  /-- STP (R520). -/
  | euStp (op : EurOp)
  /-- LDPH (R515). -/
  | euLdph (op : EurOp)
  /-- STPH (R520). -/
  | euStph (op : EurOp)
  /-- ADD (R501). -/
  | euAdd (op : EurOp)
  /-- SUB (R501). -/
  | euSub (op : EurOp)
  /-- ADDS (R503). -/
  | euAdds (op : EurOp)
  /-- SUBS (R503). -/
  | euSubs (op : EurOp)
  /-- MUL (R504). -/
  | euMul (op : EurOp)
  /-- DIV (R505). -/
  | euDiv (op : EurOp)
  /-- REM (R505). -/
  | euRem (op : EurOp)
  /-- CMP (R506). -/
  | euCmp (op : EurOp)
  /-- MIN (R501). -/
  | euMin (op : EurOp)
  /-- MAX (R501). -/
  | euMax (op : EurOp)
  /-- AND (R507). -/
  | euAnd (op : EurOp)
  /-- OR (R507). -/
  | euOr (op : EurOp)
  /-- XOR (R507). -/
  | euXor (op : EurOp)
  /-- TST (R507). -/
  | euTst (op : EurOp)
  /-- SHL (R508). -/
  | euShl (op : EurOp)
  /-- SHR (R508). -/
  | euShr (op : EurOp)
  /-- SAR (R508). -/
  | euSar (op : EurOp)
  /-- ROL (R508). -/
  | euRol (op : EurOp)
  /-- TAGOF (R515). -/
  | euTagof (op : EurOp)
  /-- TAGEQ (R515). -/
  | euTageq (op : EurOp)
  /-- RETAG (R510). -/
  | euRetag (op : EurOp)
  /-- CVTF (R509). -/
  | euCvtf (op : EurOp)
  /-- CVTI (R509). -/
  | euCvti (op : EurOp)
  /-- SETP (R514). -/
  | euSetp (op : EurOp)
  /-- B (R515). -/
  | euB (op : EurOp)
  /-- CALL (R515). -/
  | euCall (op : EurOp)
  /-- LOOP (R515). -/
  | euLoop (op : EurOp)
  /-- BNIL (R515). -/
  | euBnil (op : EurOp)
  /-- XCHG (R523). -/
  | euXchg (op : EurOp)
  /-- XADD (R523). -/
  | euXadd (op : EurOp)
  /-- CAS (R523). -/
  | euCas (op : EurOp)
  /-- COPYW (R500). -/
  | euCopyw (op : EurOp)
  /-- FILLW (R500). -/
  | euFillw (op : EurOp)
  /-- COPYP (R500). -/
  | euCopyp (op : EurOp)
  /-- CRC32C (R519). -/
  | euCrc32c (op : EurOp)
  /-- MFSR (R535). -/
  | euMfsr (op : EurOp)
  /-- MTSR (R535). -/
  | euMtsr (op : EurOp)
  /-- IOLD (R525). -/
  | euIold (op : EurOp)
  /-- IOST (R525). -/
  | euIost (op : EurOp)
  /-- SWT (R531). -/
  | euSwt (op : EurOp)
  /-- WAITUNTIL (R527). -/
  | euWaituntil (op : EurOp)
  /-- MAC (R518). -/
  | euMac (op : EurOp)
  /-- MACR (R515). -/
  | euMacr (op : EurOp)
  /-- CLRACC (R515). -/
  | euClracc (op : EurOp)
  /-- CLAMP (R515). -/
  | euClamp (op : EurOp)
  /-- LDANG (R515). -/
  | euLdang (op : EurOp)
  /-- LDTIME (R515). -/
  | euLdtime (op : EurOp)
  /-- LOCKSTEP_MISMATCH (R47). -/
  | lockstepMismatch
  /-- REFCLK_LOST (R61). -/
  | refclkLost
  /-- REFCLK_OUT_OF_RANGE (R61). -/
  | refclkOutOfRange
  /-- PLL_UNLOCK (R62). -/
  | pllUnlock
  /-- VBAT_PRESENT (R109). -/
  | vbatPresent
  /-- MAIN_FEED_LOST (R107). -/
  | mainFeedLost
  /-- COMPANION_REGULATORS_IN_REGULATION (R112). -/
  | companionRegulatorsInRegulation
  /-- REFCLK_IN_RANGE (R112). -/
  | refclkInRange
  /-- PLL0_LOCK (R112). -/
  | pll0Lock
  /-- WEAVER_FIRMWARE_VERIFY (R571). -/
  | weaverFirmwareVerify
  /-- IMAGE_SET_LOAD (R572). -/
  | imageSetLoad
  /-- WAKE_STEP_TIMEOUT (R116). -/
  | wakeStepTimeout
  /-- WAKE_ATTEMPT_RESTART (R116). -/
  | wakeAttemptRestart
  /-- REFCLK_BACK (R122). -/
  | refclkBack
  /-- RESET_N_LOW (R109). -/
  | resetNLow
  /-- RESET_N_RELEASE (R111). -/
  | resetNRelease
  /-- VHV_FAIL (R126). -/
  | vhvFail
  /-- PG_CORE_WARNING (R126). -/
  | pgCoreWarning
  /-- SHUTDOWN_POWER_OFF (R139). -/
  | shutdownPowerOff
  /-- SHUTDOWN_RESTART (R139). -/
  | shutdownRestart
  /-- SHUTDOWN_STEP_COMPLETE (R128). -/
  | shutdownStepComplete
  /-- RAMP_CAP_EXPIRED (R130). -/
  | rampCapExpired
  /-- S4_BOUND_REACHED (R133). -/
  | s4BoundReached
  /-- VHV_RETURNED (R135). -/
  | vhvReturned
  /-- OFF_INTERVAL_END (R136). -/
  | offIntervalEnd
  /-- WINDOW_MISS (R172). -/
  | windowMiss
  /-- ACQUIRE_TIMEOUT (R173). -/
  | acquireTimeout
  /-- INPUT_PRESENCE_UPDATE (R162). -/
  | inputPresenceUpdate
  /-- STEP_CMD (R179). -/
  | stepCmd
  /-- AEV_FIRE (R188). -/
  | aevFire
  /-- XTSPOP (R200). -/
  | xtspop
  /-- DEVICE_TIME_ALIGNED (R232). -/
  | deviceTimeAligned
  /-- DT_STEP_CMD (R235). -/
  | dtStepCmd
  /-- SNAP (R264). -/
  | snap
  /-- UNLOCK_BLOCK_END (R316). -/
  | unlockBlockEnd
  /-- JOURNAL_RECORD_COMMIT (R367). -/
  | journalRecordCommit
  /-- STAGING_ROOM_FREED (R375). -/
  | stagingRoomFreed
  /-- JOURNAL_FULL_TIMEOUT (R383). -/
  | journalFullTimeout
  /-- JOURNAL_ERASE_FAILURE (R385). -/
  | journalEraseFailure
  /-- FULLING_PAGE_PROGRAM (R381). -/
  | fullingPageProgram
  /-- FULLING_ERASE (R380). -/
  | fullingErase
  /-- STATUS (R396). -/
  | status
  /-- INT_READ (R400). -/
  | intRead
  /-- RESEND (R393). -/
  | resend
  /-- HOST_REQUEST_DISCARDED (R393). -/
  | hostRequestDiscarded
  /-- HOST_ACCESS_TIMEOUT (R392). -/
  | hostAccessTimeout
  /-- FLUSH_FDB (R705). -/
  | flushFdb
  /-- BOBBIN_RECORD (R704). -/
  | bobbinRecord
  /-- T1L_DIAG_RUN (R751). -/
  | t1lDiagRun
  /-- AUTO_DIAG (R751). -/
  | autoDiag
  /-- PCP_WAKE (R862). -/
  | pcpWake
  /-- FALLBACK (R897). -/
  | fallback
  /-- FAN_DEMAND_CHANGE (R896). -/
  | fanDemandChange
  /-- FAN_START_TIMEOUT (R898). -/
  | fanStartTimeout
  /-- FAN_STALL (R898). -/
  | fanStall
  /-- FAN_RESTART_WAIT_END (R898). -/
  | fanRestartWaitEnd
  /-- FAN_SHORT (R900). -/
  | fanShort
  /-- FAN_SHORT_RESUME (R900). -/
  | fanShortResume
  /-- FAN_OPEN_PHASE (R899). -/
  | fanOpenPhase
  /-- HALL_FAULT (R893). -/
  | hallFault
  /-- FAN_ATTEMPT_RESET (R898). -/
  | fanAttemptReset
  /-- FAN_UNDERSPEED (R902). -/
  | fanUnderspeed
  /-- FAN_UNDERSPEED_CLEAR (R902). -/
  | fanUnderspeedClear
  /-- FAN_CLEAR (R898). -/
  | fanClear
  /-- GUARD_COOLING (R916). -/
  | guardCooling
  /-- GUARD_ACK (R917). -/
  | guardAck
  /-- GUARD_RELEASE_TIMER (R916). -/
  | guardReleaseTimer
  /-- RAIL_SWITCHOVER (R932). -/
  | railSwitchover
  /-- RAIL_SWITCH_BACK (R932). -/
  | railSwitchBack
  /-- BACKUP_DOMAIN_LOST (R932). -/
  | backupDomainLost
  /-- OSC_FAIL (R940). -/
  | oscFail
  /-- OSC_RESUME (R940). -/
  | oscResume
  /-- CNTLO_READ (R941). -/
  | cntloRead
  /-- RTC_SET (R942). -/
  | rtcSet
  /-- RTC_SET_EDGE (R942). -/
  | rtcSetEdge
  /-- SUMMER_ON (R946). -/
  | summerOn
  /-- SUMMER_OFF (R946). -/
  | summerOff
  /-- TRIM_CORRECTION (R948). -/
  | trimCorrection
  /-- RTC_SYNC (R950). -/
  | rtcSync
  /-- AUTO_TRIM (R951). -/
  | autoTrim
  /-- ALARM_FIRE (R953). -/
  | alarmFire
  /-- PERIODIC_FIRE (R954). -/
  | periodicFire
  /-- COUNTER_WRAP (R938). -/
  | counterWrap
  /-- SYNC_SEND (R993). -/
  | syncSend
  /-- HEARTBEAT_SEND (R998). -/
  | heartbeatSend
  /-- HEARTBEAT_MISS (R998). -/
  | heartbeatMiss
  /-- ENUMERATE (R982). -/
  | enumerate
  /-- ENUM_RESP_TIMEOUT (R985). -/
  | enumRespTimeout
  /-- ROSTER_RESET (R984). -/
  | rosterReset
  /-- GATEWAY_TIMEOUT (R991). -/
  | gatewayTimeout
  /-- TWIN_INIT_TIMEOUT (R1003). -/
  | twinInitTimeout
  /-- HANDOVER_COMMAND (R1003). -/
  | handoverCommand
  /-- MIRROR_ACK_TIMEOUT (R1005). -/
  | mirrorAckTimeout
  /-- MIRROR_SYNC_DONE (R1005). -/
  | mirrorSyncDone
  /-- GUARD_CONDITION_RETURN (R916). -/
  | guardConditionReturn
  deriving DecidableEq, Repr

end Sys2Proof
end

