-- ==== Sys2Proof/Decode.lean ====
section
/-! DEFINITION. The words of the table of commands: the table gives none of its rows any bits, since no command of this block is encoded in a word
of an instruction memory. -/
namespace Sys2Proof

/-- The command that a word of `nbits` bits spells by the table's bits: none, for every word. -/
def decodeTableWord (_nbits _w : Nat) : Option Instr := none

end Sys2Proof
end

