-- ==== Sys2Proof/Config.lean ====
section
/-! DEFINITION. What an implementation fixes and the free values: each is an opaque constant, applied to a plain
counter of State (or to the operands), so that no proof can see a value the spec leaves open. -/
namespace Sys2Proof.Config

/-- A free 32-bit value (log entry 4): whatever the spec leaves open, one fresh value per count of `State.free`. -/
opaque freeWord : Nat → BitVec 32

/-- A free choice between two outcomes that the spec both allows (log entry 4). -/
opaque freeBool : Nat → Bool

/-- The FDB bucket of a MAC and a VID (R673): the spec does not give the byte layout that CRC-32C runs over (log entry 30). -/
opaque fdbBucket : Nat → Nat → BitVec 11

/-- The PI law of the PCP program (R861): from KP, KI (FIX words), the error in mV, the integrator and PERIOD, the new integrator
and the DUTY before clamping. The spec does not give the scale of the error (log entry 50). -/
opaque loopLaw : Nat → Nat → Int → Int → Nat → Int × Int

/-- The PI law of the fan speed loop (R895): from KP, KI (FIX words), the error in rpm and the integrator, the new integrator and
the drive before clamping. The spec does not give the scale of the error (log entry 50). -/
opaque fanLaw : Nat → Nat → Int → Int → Int × Int

end Sys2Proof.Config
end

