-- ==== Sys2Proof/Machine/RegMap.lean ====
section
/-! DEFINITION. The Expert register map: one constant per field of the register tables of the spec (Tables 01-8 to
01-12, 02-4, 02-7, 02-12, 02-13, 02-16, 02-17, 03-4, 04-5, 06-9, 07-9, 08-12, 09-13, 10-6, 10-8, 11-7, 12-10, 13-4 to
13-8, 14-4, 15-4, 16-3, 17-6 and 18-4), with its register's address, bits, access code, reset value and listed codes.
A field's name is BLOCK_REGISTER_FIELD. -/
namespace Sys2Proof.Machine.Reg

/-! die, power (ch 01, 02, 08, 09) -/

def SYS_DIEID_PART : Field := { addr := 0x40000000, lo := 16, w := 16, acc := .ro, reset := 0x4416 }
def SYS_DIEID_DSTEP : Field := { addr := 0x40000000, lo := 8, w := 8, acc := .ro, reset := 0x0B }
def SYS_DIEID_CSTEP : Field := { addr := 0x40000000, lo := 0, w := 8, acc := .ro, reset := 0x0C }
def SYS_CLKSTAT_LIMPCLK : Field := { addr := 0x40000004, lo := 3, w := 1, acc := .ro, reset := 0 }
def SYS_CLKSTAT_PLL_UNLOCK : Field := { addr := 0x40000004, lo := 2, w := 1, acc := .w1c, reset := 0 }
def SYS_CLKSTAT_REF_RANGE : Field := { addr := 0x40000004, lo := 1, w := 1, acc := .w1c, reset := 0 }
def SYS_CLKSTAT_REF_LOST : Field := { addr := 0x40000004, lo := 0, w := 1, acc := .w1c, reset := 0 }
def SYS_DLSTAT_RETRAINS : Field := { addr := 0x40000008, lo := 24, w := 8, acc := .rc, reset := 0 }
def SYS_DLSTAT_SAMPLE_BAD : Field := { addr := 0x40000008, lo := 4, w := 1, acc := .w1c, reset := 0 }
def SYS_DLSTAT_REG_RETRY : Field := { addr := 0x40000008, lo := 3, w := 1, acc := .w1c, reset := 0 }
def SYS_DLSTAT_DOWN : Field := { addr := 0x40000008, lo := 2, w := 1, acc := .ro, reset := 0 }
def SYS_DLSTAT_DEGRADED : Field := { addr := 0x40000008, lo := 1, w := 1, acc := .ro, reset := 0 }
def SYS_DLSTAT_UP : Field := { addr := 0x40000008, lo := 0, w := 1, acc := .ro, reset := 1 }
def SYS_BGSTAT_FAN_FORCED : Field := { addr := 0x4000000c, lo := 5, w := 1, acc := .w1c, reset := 0 }
def SYS_BGSTAT_BOB_FORCED : Field := { addr := 0x4000000c, lo := 4, w := 1, acc := .w1c, reset := 0 }
def SYS_BGSTAT_CAL_FORCED : Field := { addr := 0x4000000c, lo := 3, w := 1, acc := .w1c, reset := 0 }
def SYS_BGSTAT_FULL_FORCED : Field := { addr := 0x4000000c, lo := 2, w := 1, acc := .w1c, reset := 0 }
def SYS_BGSTAT_CARD_FORCED : Field := { addr := 0x4000000c, lo := 1, w := 1, acc := .w1c, reset := 0 }
def SYS_BGSTAT_SCRUB_FORCED : Field := { addr := 0x4000000c, lo := 0, w := 1, acc := .w1c, reset := 0 }
def SYS_RSTCAUSE_CAUSE : Field := { addr := 0x40000010, lo := 0, w := 8, acc := .ro, reset := 0 }
def SYS_PSTATE_SDTRIG : Field := { addr := 0x40000020, lo := 16, w := 8, acc := .ro, reset := 0 }
def SYS_PSTATE_SDSTEP : Field := { addr := 0x40000020, lo := 8, w := 4, acc := .ro, reset := 0 }
def SYS_PSTATE_STATE : Field := { addr := 0x40000020, lo := 0, w := 3, acc := .ro, reset := 3 }
def SYS_SDCMD_CMD : Field :=
  { addr := 0x40000024, lo := 0, w := 2, acc := .wo, reset := 0, legal := .oneOf [1,2] }
def SYS_TRAPCNT_DOUBLE : Field := { addr := 0x40000100, lo := 16, w := 16, acc := .ro, reset := 0 }
def SYS_TRAPCNT_TOTAL : Field := { addr := 0x40000100, lo := 0, w := 16, acc := .ro, reset := 0 }
def SYS_TRAPLAST_PROC : Field := { addr := 0x40000104, lo := 16, w := 8, acc := .ro, reset := 0 }
def SYS_TRAPLAST_THREAD : Field := { addr := 0x40000104, lo := 8, w := 8, acc := .ro, reset := 0 }
def SYS_TRAPLAST_CODE : Field := { addr := 0x40000104, lo := 0, w := 4, acc := .ro, reset := 0 }
def SYS_TRAPPC_PC : Field := { addr := 0x40000108, lo := 0, w := 32, acc := .ro, reset := 0 }
def SYS_SHSTAT_OWNER : Field :=
  { addr := 0x40000200, lo := 24, w := 8, acc := .ro, reset := 0xFF, s1 := 4, n1 := 8 }
def SYS_SHSTAT_AVAILABLE : Field :=
  { addr := 0x40000200, lo := 8, w := 1, acc := .ro, reset := 1, s1 := 4, n1 := 8 }
def SYS_SHSTAT_THREADS : Field :=
  { addr := 0x40000200, lo := 0, w := 8, acc := .ro, reset := 0, s1 := 4, n1 := 8 }
def SYS_SHWAKE_TARGET : Field := { addr := 0x40000240, lo := 0, w := 5, acc := .wo, reset := 0 }
def SYS_IMGSTAT_SECVER : Field :=
  { addr := 0x40000260, lo := 24, w := 8, acc := .ro, reset := 0, s1 := 4, n1 := 4 }
def SYS_IMGSTAT_STORE : Field :=
  { addr := 0x40000260, lo := 16, w := 8, acc := .ro, reset := 0xFF, s1 := 4, n1 := 4 }
def SYS_IMGSTAT_LAST_ERROR : Field :=
  { addr := 0x40000260, lo := 8, w := 8, acc := .ro, reset := 0, s1 := 4, n1 := 4 }
def SYS_IMGSTAT_STATE : Field :=
  { addr := 0x40000260, lo := 0, w := 3, acc := .ro, reset := 0, s1 := 4, n1 := 4 }
def STRAP_SAMPLED_ROUNDS : Field := { addr := 0x400f0000, lo := 16, w := 2, acc := .ro, reset := 0 }
def STRAP_SAMPLED_CONFLICT : Field := { addr := 0x400f0000, lo := 12, w := 1, acc := .ro, reset := 0 }
def STRAP_SAMPLED_STRAP : Field := { addr := 0x400f0000, lo := 0, w := 12, acc := .ro, reset := 0 }
def FUSE_STATUS_REPAIR_USED : Field := { addr := 0x400f0100, lo := 16, w := 5, acc := .ro, reset := 0 }
def FUSE_STATUS_ARB : Field := { addr := 0x400f0100, lo := 8, w := 7, acc := .ro, reset := 0 }
def FUSE_STATUS_KEY1_SET : Field := { addr := 0x400f0100, lo := 7, w := 1, acc := .ro, reset := 0 }
def FUSE_STATUS_KEY0_SET : Field := { addr := 0x400f0100, lo := 6, w := 1, acc := .ro, reset := 0 }
def FUSE_STATUS_DEBUG_LOCKED : Field := { addr := 0x400f0100, lo := 5, w := 1, acc := .ro, reset := 0 }
def FUSE_STATUS_CRC_OK : Field := { addr := 0x400f0100, lo := 4, w := 1, acc := .ro, reset := 0 }
def FUSE_STATUS_LIFECYCLE : Field := { addr := 0x400f0100, lo := 0, w := 4, acc := .ro, reset := 0 }
def FUSE_WORD_W : Field :=
  { addr := 0x400f0200, lo := 0, w := 32, acc := .ro, reset := 0, s1 := 4, n1 := 128 }
def BACKUP_WAKECFG_WSRC_EN : Field := { addr := 0x400a0110, lo := 8, w := 8, acc := .j, reset := 0xFF }
def BACKUP_WAKECFG_LIMP_ALLOWED : Field := { addr := 0x400a0110, lo := 2, w := 1, acc := .ro, reset := 0 }
def BACKUP_WAKECFG_AFTER_SD_WAKE : Field := { addr := 0x400a0110, lo := 1, w := 1, acc := .j, reset := 1 }
def BACKUP_WAKECFG_W4_LIMP : Field := { addr := 0x400a0110, lo := 0, w := 1, acc := .j, reset := 1 }
def BACKUP_WAKEREC0_RCAUSE : Field := { addr := 0x400a0100, lo := 24, w := 8, acc := .ro, reset := 0 }
def BACKUP_WAKEREC0_WFAIL_STEP : Field := { addr := 0x400a0100, lo := 16, w := 8, acc := .ro, reset := 0 }
def BACKUP_WAKEREC0_ATTEMPTS : Field := { addr := 0x400a0100, lo := 14, w := 2, acc := .ro, reset := 0 }
def BACKUP_WAKEREC0_WSRC : Field := { addr := 0x400a0100, lo := 0, w := 8, acc := .ro, reset := 0 }
def BACKUP_WAKEREC1_SD_TRIGGER : Field := { addr := 0x400a0104, lo := 24, w := 8, acc := .ro, reset := 0 }
def BACKUP_WAKEREC1_SD_STEP : Field := { addr := 0x400a0104, lo := 16, w := 8, acc := .ro, reset := 0 }
def BACKUP_WAKEREC1_WAKE_COUNT : Field := { addr := 0x400a0104, lo := 1, w := 15, acc := .ro, reset := 0 }
def BACKUP_WAKEREC1_FLUSH_INCOMPLETE : Field := { addr := 0x400a0104, lo := 0, w := 1, acc := .ro, reset := 0 }
def BACKUP_WAKEREC2_SD_TICK_LO : Field := { addr := 0x400a0108, lo := 0, w := 32, acc := .ro, reset := 0 }
def BACKUP_WAKEREC3_SD_TICK_HI : Field := { addr := 0x400a010c, lo := 0, w := 16, acc := .ro, reset := 0 }
/-! Treadle (ch 03) -/

def TREADLE_CTRL_OFFSET : Field := { addr := 0x40010000, lo := 16, w := 16, acc := .j, reset := 0 }
def TREADLE_CTRL_HYST : Field :=
  { addr := 0x40010000, lo := 8, w := 8, acc := .j, reset := 20, legal := .range 0 150 }
def TREADLE_CTRL_STEP : Field := { addr := 0x40010000, lo := 7, w := 1, acc := .wo, reset := 0 }
def TREADLE_CTRL_SRC : Field := { addr := 0x40010000, lo := 6, w := 1, acc := .j, reset := 0 }
def TREADLE_CTRL_REMAP_AUTO : Field := { addr := 0x40010000, lo := 5, w := 1, acc := .j, reset := 1 }
def TREADLE_CTRL_STEP_EN : Field := { addr := 0x40010000, lo := 4, w := 1, acc := .j, reset := 0 }
def TREADLE_CTRL_GAIN : Field := { addr := 0x40010000, lo := 2, w := 2, acc := .j, reset := 2 }
def TREADLE_CTRL_NOMINAL : Field :=
  { addr := 0x40010000, lo := 0, w := 2, acc := .j, reset := 0, legal := .range 0 1 }
def TREADLE_WIN_ACQ_TO : Field :=
  { addr := 0x40010004, lo := 16, w := 16, acc := .j, reset := 1000, legal := .range 100 60000 }
def TREADLE_WIN_W : Field :=
  { addr := 0x40010004, lo := 0, w := 13, acc := .j, reset := 1456, legal := .range 182 5461 }
def TREADLE_STAT_OPEN : Field := { addr := 0x40010008, lo := 16, w := 4, acc := .ro, reset := 0 }
def TREADLE_STAT_PRESENT : Field := { addr := 0x40010008, lo := 12, w := 4, acc := .ro, reset := 0 }
def TREADLE_STAT_SEQ_MISMATCH : Field := { addr := 0x40010008, lo := 11, w := 1, acc := .w1c, reset := 0 }
def TREADLE_STAT_XTS_OVF : Field := { addr := 0x40010008, lo := 10, w := 1, acc := .w1c, reset := 0 }
def TREADLE_STAT_RELOCKED : Field := { addr := 0x40010008, lo := 9, w := 1, acc := .w1c, reset := 0 }
def TREADLE_STAT_MAINS_LOST : Field := { addr := 0x40010008, lo := 8, w := 1, acc := .w1c, reset := 0 }
def TREADLE_STAT_MAP : Field := { addr := 0x40010008, lo := 7, w := 1, acc := .ro, reset := 0 }
def TREADLE_STAT_SEQ : Field := { addr := 0x40010008, lo := 5, w := 2, acc := .ro, reset := 0 }
def TREADLE_STAT_HOLDOVER : Field := { addr := 0x40010008, lo := 3, w := 1, acc := .ro, reset := 0 }
def TREADLE_STAT_ANG_VALID : Field := { addr := 0x40010008, lo := 2, w := 1, acc := .ro, reset := 0 }
def TREADLE_STAT_STATE : Field := { addr := 0x40010008, lo := 0, w := 2, acc := .ro, reset := 0 }
def TREADLE_ANG_ANG : Field := { addr := 0x4001000c, lo := 0, w := 32, acc := .ro, reset := 0 }
def TREADLE_INC_INC : Field := { addr := 0x40010010, lo := 0, w := 32, acc := .ro, reset := 4691250 }
def TREADLE_CNT_REJECT : Field := { addr := 0x40010014, lo := 16, w := 16, acc := .ro, reset := 0 }
def TREADLE_CNT_MISS : Field := { addr := 0x40010014, lo := 0, w := 16, acc := .ro, reset := 0 }
def TREADLE_PHASE_MS2 : Field := { addr := 0x40010018, lo := 16, w := 16, acc := .ro, reset := 0 }
def TREADLE_PHASE_MS1 : Field := { addr := 0x40010018, lo := 0, w := 16, acc := .ro, reset := 0 }
def TREADLE_MS3_MS3_PHASE : Field := { addr := 0x4001001c, lo := 0, w := 16, acc := .ro, reset := 0 }
def TREADLE_HOLD_HOLD : Field := { addr := 0x40010020, lo := 0, w := 32, acc := .ro, reset := 0 }
def TREADLE_XTSPOP_POP : Field := { addr := 0x40010040, lo := 0, w := 1, acc := .wo, reset := 0 }
def TREADLE_XTS_ANG_V : Field := { addr := 0x40010044, lo := 0, w := 32, acc := .ro, reset := 0 }
def TREADLE_XTS_ANS_V : Field := { addr := 0x40010048, lo := 0, w := 32, acc := .ro, reset := 0 }
def TREADLE_XTS_ASECLO_V : Field := { addr := 0x4001004c, lo := 0, w := 32, acc := .ro, reset := 0 }
def TREADLE_XTS_ASECHI_V : Field := { addr := 0x40010050, lo := 0, w := 16, acc := .ro, reset := 0 }
def TREADLE_XTS_BNS_V : Field := { addr := 0x40010054, lo := 0, w := 32, acc := .ro, reset := 0 }
def TREADLE_XTS_BSECLO_V : Field := { addr := 0x40010058, lo := 0, w := 32, acc := .ro, reset := 0 }
def TREADLE_XTS_BSECHI_FILL : Field := { addr := 0x4001005c, lo := 20, w := 5, acc := .ro, reset := 0 }
def TREADLE_XTS_BSECHI_VALID : Field := { addr := 0x4001005c, lo := 19, w := 1, acc := .ro, reset := 0 }
def TREADLE_XTS_BSECHI_CAND : Field := { addr := 0x4001005c, lo := 18, w := 1, acc := .ro, reset := 0 }
def TREADLE_XTS_BSECHI_B_OK : Field := { addr := 0x4001005c, lo := 17, w := 1, acc := .ro, reset := 0 }
def TREADLE_XTS_BSECHI_A_OK : Field := { addr := 0x4001005c, lo := 16, w := 1, acc := .ro, reset := 0 }
def TREADLE_XTS_BSECHI_V : Field := { addr := 0x4001005c, lo := 0, w := 16, acc := .ro, reset := 0 }
def TREADLE_AEV_CFG_FIRED : Field :=
  { addr := 0x40010100, lo := 16, w := 1, acc := .w1c, reset := 0, s1 := 16, n1 := 32 }
def TREADLE_AEV_CFG_SKIP : Field :=
  { addr := 0x40010100, lo := 15, w := 1, acc := .w1c, reset := 0, s1 := 16, n1 := 32 }
def TREADLE_AEV_CFG_LATE : Field :=
  { addr := 0x40010100, lo := 14, w := 1, acc := .w1c, reset := 0, s1 := 16, n1 := 32 }
def TREADLE_AEV_CFG_IRQ : Field :=
  { addr := 0x40010100, lo := 13, w := 1, acc := .rw, reset := 0, s1 := 16, n1 := 32 }
def TREADLE_AEV_CFG_TIDX : Field :=
  { addr := 0x40010100, lo := 8, w := 5, acc := .rw, reset := 0, s1 := 16, n1 := 32 }
def TREADLE_AEV_CFG_TCODE : Field :=
  { addr := 0x40010100, lo := 4, w := 4, acc := .rw, reset := 0, legal := .range 0 7, s1 := 16, n1 := 32 }
def TREADLE_AEV_CFG_PH : Field :=
  { addr := 0x40010100, lo := 2, w := 2, acc := .rw, reset := 0, s1 := 16, n1 := 32 }
def TREADLE_AEV_CFG_MODE : Field :=
  { addr := 0x40010100, lo := 0, w := 2, acc := .rw, reset := 0, s1 := 16, n1 := 32 }
def TREADLE_AEV_TARGET_TARGET : Field :=
  { addr := 0x40010104, lo := 0, w := 32, acc := .rw, reset := 0, s1 := 16, n1 := 32 }
def TREADLE_AEV_PERIOD_PERIOD : Field :=
  { addr := 0x40010108, lo := 0, w := 32, acc := .rw, reset := 65536, legal := .range 16 4294967295, s1 := 16, n1 := 32 }
def TREADLE_AEV_LASTTS_LASTTS : Field :=
  { addr := 0x4001010c, lo := 0, w := 32, acc := .ro, reset := 0, s1 := 16, n1 := 32 }
/-! time (ch 04) -/

def TIME_CTRL_SERVO_TO : Field :=
  { addr := 0x40020000, lo := 16, w := 16, acc := .j, reset := 300, legal := .range 1 6000 }
def TIME_CTRL_SLEW : Field :=
  { addr := 0x40020000, lo := 8, w := 8, acc := .j, reset := 100, legal := .range 1 100 }
def TIME_CTRL_FIRST_STEP : Field := { addr := 0x40020000, lo := 2, w := 1, acc := .j, reset := 1 }
def TIME_CTRL_SEL : Field := { addr := 0x40020000, lo := 0, w := 2, acc := .j, reset := 0 }
def TIME_STAT_DT_STEPPED : Field := { addr := 0x40020004, lo := 12, w := 1, acc := .w1c, reset := 0 }
def TIME_STAT_B_TIMEOUT : Field := { addr := 0x40020004, lo := 11, w := 1, acc := .w1c, reset := 0 }
def TIME_STAT_A_TIMEOUT : Field := { addr := 0x40020004, lo := 10, w := 1, acc := .w1c, reset := 0 }
def TIME_STAT_HOLD_ENTERED : Field := { addr := 0x40020004, lo := 9, w := 1, acc := .w1c, reset := 0 }
def TIME_STAT_SWITCHED : Field := { addr := 0x40020004, lo := 8, w := 1, acc := .w1c, reset := 0 }
def TIME_STAT_B_STATE : Field := { addr := 0x40020004, lo := 6, w := 2, acc := .ro, reset := 0 }
def TIME_STAT_A_STATE : Field := { addr := 0x40020004, lo := 4, w := 2, acc := .ro, reset := 0 }
def TIME_STAT_ALIGNED : Field := { addr := 0x40020004, lo := 2, w := 1, acc := .ro, reset := 0 }
def TIME_STAT_SOURCE : Field := { addr := 0x40020004, lo := 0, w := 2, acc := .ro, reset := 0 }
def TIME_SNAP_SNAP : Field := { addr := 0x40020008, lo := 0, w := 1, acc := .wo, reset := 0 }
def TIME_DTV_NS_V : Field :=
  { addr := 0x4002000c, lo := 0, w := 32, acc := .ro, reset := 0, s1 := 12, n1 := 3 }
def TIME_DTV_SECLO_V : Field :=
  { addr := 0x40020010, lo := 0, w := 32, acc := .ro, reset := 0, s1 := 12, n1 := 3 }
def TIME_DTV_SECHI_V : Field :=
  { addr := 0x40020014, lo := 0, w := 16, acc := .ro, reset := 0, s1 := 12, n1 := 3 }
def TIME_ANGV_ANG : Field := { addr := 0x40020030, lo := 0, w := 32, acc := .ro, reset := 0 }
def TIME_SHORT_SHORT : Field := { addr := 0x40020034, lo := 0, w := 32, acc := .ro, reset := 0 }
def TIME_DT_ERR_DT_ERR : Field := { addr := 0x40020038, lo := 0, w := 32, acc := .ro, reset := 0 }
def TIME_DTSTEP_STEP : Field := { addr := 0x4002003c, lo := 0, w := 1, acc := .wo, reset := 0 }
def TIME_TDX_STATE_STATE : Field :=
  { addr := 0x40020100, lo := 0, w := 2, acc := .rw, reset := 0, s1 := 256, n1 := 2 }
def TIME_TDX_RATELO_RATE : Field :=
  { addr := 0x40020104, lo := 0, w := 32, acc := .rw, reset := 0, s1 := 256, n1 := 2 }
def TIME_TDX_RATEHI_RATE : Field :=
  { addr := 0x40020108, lo := 0, w := 8, acc := .rw, reset := 0, s1 := 256, n1 := 2 }
def TIME_TDX_STEPS_STEPS : Field :=
  { addr := 0x4002010c, lo := 0, w := 32, acc := .rw, reset := 0, s1 := 256, n1 := 2 }
def TIME_TDX_STEP_STEPNS : Field :=
  { addr := 0x40020110, lo := 0, w := 32, acc := .wo, reset := 0, s1 := 256, n1 := 2 }
def TIME_TDX_SETSECLO_V : Field :=
  { addr := 0x40020114, lo := 0, w := 32, acc := .rw, reset := 0, s1 := 256, n1 := 2 }
def TIME_TDX_SETSECHI_V : Field :=
  { addr := 0x40020118, lo := 0, w := 16, acc := .rw, reset := 0, s1 := 256, n1 := 2 }
def TIME_TDX_SETNS_V : Field :=
  { addr := 0x4002011c, lo := 0, w := 32, acc := .rw, reset := 0, legal := .range 0 999999999, s1 := 256, n1 := 2 }
def TIME_TDX_SET_SET : Field :=
  { addr := 0x40020120, lo := 0, w := 1, acc := .wo, reset := 0, s1 := 256, n1 := 2 }
def TIME_TDX_HEARTBEAT_HB : Field :=
  { addr := 0x40020124, lo := 0, w := 1, acc := .wo, reset := 0, s1 := 256, n1 := 2 }
def TIME_TDA_PTPDOM_DOMNUM : Field := { addr := 0x40020128, lo := 0, w := 8, acc := .j, reset := 0 }
def TIME_TDB_PTPDOM_DOMNUM : Field := { addr := 0x40020228, lo := 0, w := 8, acc := .j, reset := 1 }
def TIME_TPO_CFG_MISSED : Field :=
  { addr := 0x40020400, lo := 9, w := 1, acc := .w1c, reset := 0, s1 := 32, n1 := 8 }
def TIME_TPO_CFG_POL : Field :=
  { addr := 0x40020400, lo := 8, w := 1, acc := .rw, reset := 0, s1 := 32, n1 := 8 }
def TIME_TPO_CFG_SRC : Field :=
  { addr := 0x40020400, lo := 4, w := 2, acc := .rw, reset := 0, legal := .range 0 2, s1 := 32, n1 := 8 }
def TIME_TPO_CFG_MODE : Field :=
  { addr := 0x40020400, lo := 0, w := 3, acc := .rw, reset := 0, legal := .range 0 4, s1 := 32, n1 := 8 }
def TIME_TPO_NS_V : Field :=
  { addr := 0x40020404, lo := 0, w := 32, acc := .rw, reset := 0, s1 := 32, n1 := 8, legal := .range 0 999999999 }
def TIME_TPO_SECLO_V : Field :=
  { addr := 0x40020408, lo := 0, w := 32, acc := .rw, reset := 0, s1 := 32, n1 := 8 }
def TIME_TPO_SECHI_V : Field :=
  { addr := 0x4002040c, lo := 0, w := 16, acc := .rw, reset := 0, s1 := 32, n1 := 8 }
def TIME_TPO_PERIOD_V : Field :=
  { addr := 0x40020410, lo := 0, w := 32, acc := .rw, reset := 1000000000, legal := .range 1000 4294967295, s1 := 32, n1 := 8 }
def TIME_TPO_WIDTH_V : Field :=
  { addr := 0x40020414, lo := 0, w := 32, acc := .rw, reset := 100000, s1 := 32, n1 := 8 }
def TIME_TPI_CFG_OVF : Field :=
  { addr := 0x40020600, lo := 16, w := 1, acc := .w1c, reset := 0, s1 := 32, n1 := 8 }
def TIME_TPI_CFG_FILT : Field :=
  { addr := 0x40020600, lo := 8, w := 8, acc := .rw, reset := 0, s1 := 32, n1 := 8 }
def TIME_TPI_CFG_EDGE : Field :=
  { addr := 0x40020600, lo := 0, w := 2, acc := .rw, reset := 0, s1 := 32, n1 := 8 }
def TIME_TPI_POP_POP : Field :=
  { addr := 0x40020604, lo := 0, w := 1, acc := .wo, reset := 0, s1 := 32, n1 := 8 }
def TIME_TPI_ANS_V : Field :=
  { addr := 0x40020608, lo := 0, w := 32, acc := .ro, reset := 0, s1 := 32, n1 := 8 }
def TIME_TPI_ASECLO_V : Field :=
  { addr := 0x4002060c, lo := 0, w := 32, acc := .ro, reset := 0, s1 := 32, n1 := 8 }
def TIME_TPI_BNS_V : Field :=
  { addr := 0x40020610, lo := 0, w := 32, acc := .ro, reset := 0, s1 := 32, n1 := 8 }
def TIME_TPI_BSECLO_V : Field :=
  { addr := 0x40020614, lo := 0, w := 32, acc := .ro, reset := 0, s1 := 32, n1 := 8 }
def TIME_TPI_DTNS_V : Field :=
  { addr := 0x40020618, lo := 0, w := 32, acc := .ro, reset := 0, s1 := 32, n1 := 8 }
def TIME_TPI_FLAGS_FILL : Field :=
  { addr := 0x4002061c, lo := 18, w := 3, acc := .ro, reset := 0, s1 := 32, n1 := 8 }
def TIME_TPI_FLAGS_VALID : Field :=
  { addr := 0x4002061c, lo := 17, w := 1, acc := .ro, reset := 0, s1 := 32, n1 := 8 }
def TIME_TPI_FLAGS_EDGE : Field :=
  { addr := 0x4002061c, lo := 16, w := 1, acc := .ro, reset := 0, s1 := 32, n1 := 8 }
def TIME_TPIX_DTSECLO_V : Field :=
  { addr := 0x40020700, lo := 0, w := 32, acc := .ro, reset := 0, s1 := 16, n1 := 8 }
def TIME_TPIX_ANG_V : Field :=
  { addr := 0x40020704, lo := 0, w := 32, acc := .ro, reset := 0, s1 := 16, n1 := 8 }
def TIME_TPIX_SECHI_BSEC : Field :=
  { addr := 0x40020708, lo := 16, w := 16, acc := .ro, reset := 0, s1 := 16, n1 := 8 }
def TIME_TPIX_SECHI_ASEC : Field :=
  { addr := 0x40020708, lo := 0, w := 16, acc := .ro, reset := 0, s1 := 16, n1 := 8 }
def TIME_PADJ_RX_RX_ADJ : Field :=
  { addr := 0x40020800, lo := 0, w := 18, acc := .j, reset := 0, legal := .srange (-100000) 100000, s1 := 8, n1 := 6 }
def TIME_PADJ_TX_TX_ADJ : Field :=
  { addr := 0x40020804, lo := 0, w := 18, acc := .j, reset := 0, legal := .srange (-100000) 100000, s1 := 8, n1 := 6 }
/-! tickets, journal, host (ch 06) -/

def TICKET_STAT_ORPHANS : Field := { addr := 0x400d0000, lo := 24, w := 8, acc := .ro, reset := 0 }
def TICKET_STAT_INDOUBT : Field := { addr := 0x400d0000, lo := 16, w := 8, acc := .ro, reset := 0 }
def TICKET_STAT_RUNNING : Field := { addr := 0x400d0000, lo := 8, w := 8, acc := .ro, reset := 0 }
def TICKET_STAT_FREE : Field := { addr := 0x400d0000, lo := 0, w := 8, acc := .ro, reset := 128 }
def TICKET_SLOT_STATE : Field :=
  { addr := 0x400d0100, lo := 29, w := 3, acc := .ro, reset := 0, s1 := 4, n1 := 128 }
def TICKET_SLOT_TYPE : Field :=
  { addr := 0x400d0100, lo := 24, w := 5, acc := .ro, reset := 0, s1 := 4, n1 := 128 }
def TICKET_SLOT_CLIENT : Field :=
  { addr := 0x400d0100, lo := 16, w := 8, acc := .ro, reset := 0, s1 := 4, n1 := 128 }
def TICKET_SLOT_STEP : Field :=
  { addr := 0x400d0100, lo := 0, w := 16, acc := .ro, reset := 0, s1 := 4, n1 := 128 }
def XSPI_CFG_TPP_US : Field := { addr := 0x40100000, lo := 16, w := 16, acc := .ro, reset := 0 }
def XSPI_CFG_DIV : Field := { addr := 0x40100000, lo := 4, w := 8, acc := .ro, reset := 30 }
def XSPI_CFG_MODE : Field := { addr := 0x40100000, lo := 0, w := 1, acc := .ro, reset := 0 }
def JOURNAL_STAT_FILL : Field := { addr := 0x40100010, lo := 16, w := 10, acc := .ro, reset := 0 }
def JOURNAL_STAT_B_FAILING : Field := { addr := 0x40100010, lo := 6, w := 1, acc := .ro, reset := 0 }
def JOURNAL_STAT_A_FAILING : Field := { addr := 0x40100010, lo := 5, w := 1, acc := .ro, reset := 0 }
def JOURNAL_STAT_FULLING : Field := { addr := 0x40100010, lo := 3, w := 1, acc := .ro, reset := 0 }
def JOURNAL_STAT_ACTIVE : Field := { addr := 0x40100010, lo := 2, w := 1, acc := .ro, reset := 0 }
def JOURNAL_STAT_STATE : Field := { addr := 0x40100010, lo := 0, w := 2, acc := .ro, reset := 0 }
def JOURNAL_STAGE_LIMIT : Field := { addr := 0x40100014, lo := 16, w := 14, acc := .ro, reset := 0 }
def JOURNAL_STAGE_USED : Field := { addr := 0x40100014, lo := 0, w := 14, acc := .ro, reset := 0 }
def JOURNAL_SEQ_SEQ : Field := { addr := 0x40100018, lo := 0, w := 32, acc := .ro, reset := 0 }
def HOSTPORT_INTSTAT_INTSTAT : Field := { addr := 0x400e0000, lo := 0, w := 16, acc := .ro, reset := 0 }
def HOSTPORT_INTEN_INTEN : Field := { addr := 0x400e0004, lo := 0, w := 16, acc := .j, reset := 0x003F }
def HOSTPORT_ERR_ABORTED : Field := { addr := 0x400e0008, lo := 8, w := 8, acc := .rc, reset := 0 }
def HOSTPORT_ERR_CRC_ERRORS : Field := { addr := 0x400e0008, lo := 0, w := 8, acc := .rc, reset := 0 }
/-! memory (ch 07) -/

def MEM_BANK_STAT_CE_COUNT : Field :=
  { addr := 0x400c0000, lo := 16, w := 16, acc := .ro, reset := 0, s1 := 4, n1 := 26 }
def MEM_BANK_STAT_UE_COUNT : Field :=
  { addr := 0x400c0000, lo := 8, w := 8, acc := .ro, reset := 0, s1 := 4, n1 := 26 }
def MEM_BANK_STAT_DEGRADED : Field :=
  { addr := 0x400c0000, lo := 5, w := 1, acc := .ro, reset := 0, s1 := 4, n1 := 26 }
def MEM_BANK_STAT_CARDING : Field :=
  { addr := 0x400c0000, lo := 4, w := 1, acc := .ro, reset := 0, s1 := 4, n1 := 26 }
def MEM_BANK_STAT_COLL : Field :=
  { addr := 0x400c0000, lo := 3, w := 1, acc := .w1c, reset := 0, s1 := 4, n1 := 26 }
def MEM_BANK_STAT_MERGED : Field :=
  { addr := 0x400c0000, lo := 2, w := 1, acc := .w1c, reset := 0, s1 := 4, n1 := 26 }
def MEM_BANK_STAT_UE : Field :=
  { addr := 0x400c0000, lo := 1, w := 1, acc := .w1c, reset := 0, s1 := 4, n1 := 26 }
def MEM_BANK_STAT_CE : Field :=
  { addr := 0x400c0000, lo := 0, w := 1, acc := .w1c, reset := 0, s1 := 4, n1 := 26 }
def MEM_ERRADDR_UE : Field := { addr := 0x400c0080, lo := 31, w := 1, acc := .ro, reset := 0 }
def MEM_ERRADDR_BANK : Field := { addr := 0x400c0080, lo := 24, w := 6, acc := .ro, reset := 0 }
def MEM_ERRADDR_SYNDROME : Field := { addr := 0x400c0080, lo := 16, w := 8, acc := .ro, reset := 0 }
def MEM_ERRADDR_OFFSET : Field := { addr := 0x400c0080, lo := 0, w := 16, acc := .ro, reset := 0 }
def MEM_ERRSRC_SOURCE : Field := { addr := 0x400c0084, lo := 0, w := 4, acc := .ro, reset := 0 }
def MEM_INJ_ARM : Field := { addr := 0x400c0088, lo := 31, w := 1, acc := .rw, reset := 0 }
def MEM_INJ_DOUBLE : Field := { addr := 0x400c0088, lo := 30, w := 1, acc := .rw, reset := 0 }
def MEM_INJ_BANK : Field :=
  { addr := 0x400c0088, lo := 24, w := 5, acc := .rw, reset := 0, legal := .range 0 25 }
def MEM_INJ_OFFSET : Field := { addr := 0x400c0088, lo := 0, w := 16, acc := .rw, reset := 0 }
def MEM_CODE_STAT_CE_COUNT : Field :=
  { addr := 0x400c00a0, lo := 16, w := 16, acc := .ro, reset := 0, s1 := 4, n1 := 10 }
def MEM_CODE_STAT_UE_COUNT : Field :=
  { addr := 0x400c00a0, lo := 8, w := 8, acc := .ro, reset := 0, s1 := 4, n1 := 10 }
def MEM_CODE_STAT_UE : Field :=
  { addr := 0x400c00a0, lo := 1, w := 1, acc := .w1c, reset := 0, s1 := 4, n1 := 10 }
def MEM_CODE_STAT_CE : Field :=
  { addr := 0x400c00a0, lo := 0, w := 1, acc := .w1c, reset := 0, s1 := 4, n1 := 10 }
def SCRUB_CTRL_EN : Field := { addr := 0x400c0100, lo := 0, w := 26, acc := .j, reset := 0x3FFFFFF }
def SCRUB_CTRL2_EN : Field := { addr := 0x400c0104, lo := 0, w := 10, acc := .j, reset := 0x3FF }
def CARDING_STAT_BANK : Field := { addr := 0x400c0200, lo := 22, w := 5, acc := .ro, reset := 0 }
def CARDING_STAT_ROW : Field := { addr := 0x400c0200, lo := 12, w := 10, acc := .ro, reset := 0 }
def CARDING_STAT_SPARE : Field := { addr := 0x400c0200, lo := 11, w := 1, acc := .ro, reset := 0 }
def CARDING_STAT_ALGO : Field := { addr := 0x400c0200, lo := 6, w := 2, acc := .ro, reset := 0 }
def CARDING_STAT_BG : Field := { addr := 0x400c0200, lo := 5, w := 1, acc := .ro, reset := 0 }
def CARDING_STAT_PRESERVE : Field := { addr := 0x400c0200, lo := 4, w := 1, acc := .ro, reset := 0 }
def CARDING_STAT_BUSY : Field := { addr := 0x400c0200, lo := 2, w := 1, acc := .ro, reset := 0 }
def CARDING_STAT_FAULT : Field := { addr := 0x400c0200, lo := 1, w := 1, acc := .ro, reset := 0 }
def CARDING_PACE_PACE_US : Field := { addr := 0x400c0204, lo := 0, w := 16, acc := .j, reset := 10 }
def REPAIR_SEL_BANK : Field :=
  { addr := 0x400c0300, lo := 0, w := 5, acc := .rw, reset := 0, legal := .range 0 16 }
def REPAIR_ENT_USED : Field :=
  { addr := 0x400c0310, lo := 31, w := 1, acc := .ro, reset := 0, s1 := 4, n1 := 8 }
def REPAIR_ENT_FUSE : Field :=
  { addr := 0x400c0310, lo := 30, w := 1, acc := .ro, reset := 0, s1 := 4, n1 := 8 }
def REPAIR_ENT_BAD : Field :=
  { addr := 0x400c0310, lo := 29, w := 1, acc := .ro, reset := 0, s1 := 4, n1 := 8 }
def REPAIR_ENT_ROW : Field :=
  { addr := 0x400c0310, lo := 0, w := 10, acc := .ro, reset := 0, s1 := 4, n1 := 8 }
/-! Heddles (ch 10, 18) -/

def HEDDLE_CTRL_CATCH_LEN : Field :=
  { addr := 0x40080000, lo := 9, w := 5, acc := .rw, reset := 0, s1 := 128, n1 := 16 }
def HEDDLE_CTRL_AUTOCATCH : Field :=
  { addr := 0x40080000, lo := 8, w := 1, acc := .rw, reset := 0, s1 := 128, n1 := 16 }
def HEDDLE_CTRL_SPLIT : Field :=
  { addr := 0x40080000, lo := 4, w := 4, acc := .rw, reset := 2, s1 := 128, n1 := 16 }
def HEDDLE_CTRL_FLUSH : Field :=
  { addr := 0x40080000, lo := 2, w := 1, acc := .wo, reset := 0, s1 := 128, n1 := 16 }
def HEDDLE_CTRL_RESTART : Field :=
  { addr := 0x40080000, lo := 1, w := 1, acc := .wo, reset := 0, s1 := 128, n1 := 16 }
def HEDDLE_CTRL_EN : Field :=
  { addr := 0x40080000, lo := 0, w := 1, acc := .rw, reset := 0, s1 := 128, n1 := 16 }
def HEDDLE_DIV_D : Field :=
  { addr := 0x40080004, lo := 0, w := 24, acc := .rw, reset := 0x100, s1 := 128, n1 := 16 }
def HEDDLE_REGION_WRAP : Field :=
  { addr := 0x40080008, lo := 24, w := 7, acc := .rw, reset := 0, s1 := 128, n1 := 16 }
def HEDDLE_REGION_START : Field :=
  { addr := 0x40080008, lo := 16, w := 7, acc := .rw, reset := 0, s1 := 128, n1 := 16 }
def HEDDLE_REGION_LEN : Field :=
  { addr := 0x40080008, lo := 8, w := 8, acc := .rw, reset := 0, legal := .range 0 128, s1 := 128, n1 := 16 }
def HEDDLE_REGION_BASE : Field :=
  { addr := 0x40080008, lo := 0, w := 7, acc := .rw, reset := 0, s1 := 128, n1 := 16 }
def HEDDLE_SLOTMAP0_V : Field :=
  { addr := 0x4008000c, lo := 0, w := 32, acc := .rw, reset := 0x3F3F3F3F, s1 := 128, n1 := 16 }
def HEDDLE_SLOTMAP1_V : Field :=
  { addr := 0x40080010, lo := 0, w := 32, acc := .rw, reset := 0x3F3F3F3F, s1 := 128, n1 := 16 }
def HEDDLE_SAFE_SAFE_OE : Field :=
  { addr := 0x40080014, lo := 8, w := 8, acc := .rw, reset := 0, s1 := 128, n1 := 16 }
def HEDDLE_SAFE_SAFE : Field :=
  { addr := 0x40080014, lo := 0, w := 8, acc := .rw, reset := 0, s1 := 128, n1 := 16 }
def HEDDLE_STAT_PROG_REFUSED : Field :=
  { addr := 0x40080018, lo := 26, w := 1, acc := .w1c, reset := 0, s1 := 128, n1 := 16 }
def HEDDLE_STAT_CLAIM_REFUSED : Field :=
  { addr := 0x40080018, lo := 25, w := 1, acc := .w1c, reset := 0, s1 := 128, n1 := 16 }
def HEDDLE_STAT_ANG_OVR : Field :=
  { addr := 0x40080018, lo := 24, w := 1, acc := .w1c, reset := 0, s1 := 128, n1 := 16 }
def HEDDLE_STAT_UNDERRUN : Field :=
  { addr := 0x40080018, lo := 23, w := 1, acc := .w1c, reset := 0, s1 := 128, n1 := 16 }
def HEDDLE_STAT_RX_OVF : Field :=
  { addr := 0x40080018, lo := 22, w := 1, acc := .w1c, reset := 0, s1 := 128, n1 := 16 }
def HEDDLE_STAT_TX_OVF : Field :=
  { addr := 0x40080018, lo := 21, w := 1, acc := .w1c, reset := 0, s1 := 128, n1 := 16 }
def HEDDLE_STAT_RXFILL : Field :=
  { addr := 0x40080018, lo := 17, w := 4, acc := .ro, reset := 0, s1 := 128, n1 := 16 }
def HEDDLE_STAT_TXFILL : Field :=
  { addr := 0x40080018, lo := 13, w := 4, acc := .ro, reset := 0, s1 := 128, n1 := 16 }
def HEDDLE_STAT_PC : Field :=
  { addr := 0x40080018, lo := 6, w := 7, acc := .ro, reset := 0, s1 := 128, n1 := 16 }
def HEDDLE_STAT_FLAG : Field :=
  { addr := 0x40080018, lo := 5, w := 1, acc := .ro, reset := 0, s1 := 128, n1 := 16 }
def HEDDLE_STAT_FAULT : Field :=
  { addr := 0x40080018, lo := 2, w := 3, acc := .ro, reset := 0, s1 := 128, n1 := 16 }
def HEDDLE_STAT_STATE : Field :=
  { addr := 0x40080018, lo := 0, w := 2, acc := .ro, reset := 0, s1 := 128, n1 := 16 }
def HEDDLE_CNT_CRELOAD : Field :=
  { addr := 0x4008001c, lo := 16, w := 16, acc := .rw, reset := 0, s1 := 128, n1 := 16 }
def HEDDLE_CNT_CNT : Field :=
  { addr := 0x4008001c, lo := 0, w := 16, acc := .ro, reset := 0, s1 := 128, n1 := 16 }
def HEDDLE_TLOAD_TLOAD : Field :=
  { addr := 0x40080020, lo := 0, w := 16, acc := .rw, reset := 0, s1 := 128, n1 := 16 }
def HEDDLE_MASK0_V : Field :=
  { addr := 0x40080024, lo := 0, w := 32, acc := .rw, reset := 0, s1 := 128, n1 := 16 }
def HEDDLE_PAT0_V : Field :=
  { addr := 0x40080028, lo := 0, w := 32, acc := .rw, reset := 0, s1 := 128, n1 := 16 }
def HEDDLE_MASK1_V : Field :=
  { addr := 0x4008002c, lo := 0, w := 32, acc := .rw, reset := 0, s1 := 128, n1 := 16 }
def HEDDLE_PAT1_V : Field :=
  { addr := 0x40080030, lo := 0, w := 32, acc := .rw, reset := 0, s1 := 128, n1 := 16 }
def HEDDLE_TTARGET_V : Field :=
  { addr := 0x40080034, lo := 0, w := 32, acc := .rw, reset := 0, s1 := 128, n1 := 16 }
def HEDDLE_TPERIOD_V : Field :=
  { addr := 0x40080038, lo := 0, w := 32, acc := .rw, reset := 0, s1 := 128, n1 := 16 }
def HEDDLE_TXQ_V : Field :=
  { addr := 0x4008003c, lo := 0, w := 32, acc := .wo, reset := 0, s1 := 128, n1 := 16 }
def HEDDLE_RXQ_V : Field :=
  { addr := 0x40080040, lo := 0, w := 32, acc := .ro, reset := 0, s1 := 128, n1 := 16 }
def HEDDLE_EVT_EVENTS : Field :=
  { addr := 0x40080044, lo := 16, w := 16, acc := .w1c, reset := 0, s1 := 128, n1 := 16 }
def HEDDLE_EVT_RXHIGH : Field :=
  { addr := 0x40080044, lo := 10, w := 4, acc := .rw, reset := 8, s1 := 128, n1 := 16 }
def HEDDLE_EVT_TXLOW : Field :=
  { addr := 0x40080044, lo := 6, w := 4, acc := .rw, reset := 0, s1 := 128, n1 := 16 }
def HEDDLE_EVT_WAKE_EN : Field :=
  { addr := 0x40080044, lo := 5, w := 1, acc := .rw, reset := 0, s1 := 128, n1 := 16 }
def HEDDLE_EVT_THREAD : Field :=
  { addr := 0x40080044, lo := 0, w := 5, acc := .rw, reset := 0, s1 := 128, n1 := 16 }
def HEDDLE_BYPASS_RS485 : Field := { addr := 0x40080800, lo := 0, w := 2, acc := .rw, reset := 0 }
def HEDDLE_DALI_STAT_SHORT1 : Field := { addr := 0x40080804, lo := 3, w := 1, acc := .w1c, reset := 0 }
def HEDDLE_DALI_STAT_BUS1 : Field := { addr := 0x40080804, lo := 2, w := 1, acc := .ro, reset := 0 }
def HEDDLE_DALI_STAT_SHORT0 : Field := { addr := 0x40080804, lo := 1, w := 1, acc := .w1c, reset := 0 }
def HEDDLE_DALI_STAT_BUS0 : Field := { addr := 0x40080804, lo := 0, w := 1, acc := .ro, reset := 0 }
def HEDDLE_BLOCKSTAT_ECC : Field := { addr := 0x40080808, lo := 0, w := 2, acc := .w1c, reset := 0 }
def HEDDLE_RS485_STAT_SEEN1 : Field := { addr := 0x4008080c, lo := 9, w := 1, acc := .w1c, reset := 0 }
def HEDDLE_RS485_STAT_SEEN0 : Field := { addr := 0x4008080c, lo := 8, w := 1, acc := .w1c, reset := 0 }
def HEDDLE_RS485_STAT_FAULT1 : Field := { addr := 0x4008080c, lo := 4, w := 3, acc := .ro, reset := 0 }
def HEDDLE_RS485_STAT_FAULT0 : Field := { addr := 0x4008080c, lo := 0, w := 3, acc := .ro, reset := 0 }
def UART_CTRL_THREAD : Field :=
  { addr := 0x40080900, lo := 9, w := 5, acc := .rw, reset := 0, s1 := 64, n1 := 2 }
def UART_CTRL_WAKE_EN : Field :=
  { addr := 0x40080900, lo := 8, w := 1, acc := .rw, reset := 0, s1 := 64, n1 := 2 }
def UART_CTRL_ECHO : Field :=
  { addr := 0x40080900, lo := 7, w := 1, acc := .rw, reset := 0, s1 := 64, n1 := 2 }
def UART_CTRL_STOP2 : Field :=
  { addr := 0x40080900, lo := 6, w := 1, acc := .rw, reset := 0, s1 := 64, n1 := 2 }
def UART_CTRL_PARITY : Field :=
  { addr := 0x40080900, lo := 4, w := 2, acc := .rw, reset := 1, legal := .range 0 2, s1 := 64, n1 := 2 }
def UART_CTRL_DATA8 : Field :=
  { addr := 0x40080900, lo := 3, w := 1, acc := .rw, reset := 1, s1 := 64, n1 := 2 }
def UART_CTRL_RXFLUSH : Field :=
  { addr := 0x40080900, lo := 2, w := 1, acc := .wo, reset := 0, s1 := 64, n1 := 2 }
def UART_CTRL_TXFLUSH : Field :=
  { addr := 0x40080900, lo := 1, w := 1, acc := .wo, reset := 0, s1 := 64, n1 := 2 }
def UART_CTRL_EN : Field :=
  { addr := 0x40080900, lo := 0, w := 1, acc := .rw, reset := 0, s1 := 64, n1 := 2 }
def UART_BAUD_BAUDDIV : Field :=
  { addr := 0x40080904, lo := 0, w := 24, acc := .rw, reset := 0x4C4B40, s1 := 64, n1 := 2 }
def UART_DE_IDLE_BITS : Field :=
  { addr := 0x40080908, lo := 16, w := 10, acc := .rw, reset := 39, legal := .range 1 1023, s1 := 64, n1 := 2 }
def UART_DE_LAG : Field :=
  { addr := 0x40080908, lo := 8, w := 8, acc := .rw, reset := 8, s1 := 64, n1 := 2 }
def UART_DE_LEAD : Field :=
  { addr := 0x40080908, lo := 0, w := 8, acc := .rw, reset := 8, s1 := 64, n1 := 2 }
def UART_TX_DATA : Field :=
  { addr := 0x4008090c, lo := 0, w := 8, acc := .wo, reset := 0, s1 := 64, n1 := 2 }
def UART_RX_VALID : Field :=
  { addr := 0x40080910, lo := 11, w := 1, acc := .ro, reset := 0, s1 := 64, n1 := 2 }
def UART_RX_BREAK : Field :=
  { addr := 0x40080910, lo := 10, w := 1, acc := .ro, reset := 0, s1 := 64, n1 := 2 }
def UART_RX_PARITY : Field :=
  { addr := 0x40080910, lo := 9, w := 1, acc := .ro, reset := 0, s1 := 64, n1 := 2 }
def UART_RX_FRAMING : Field :=
  { addr := 0x40080910, lo := 8, w := 1, acc := .ro, reset := 0, s1 := 64, n1 := 2 }
def UART_RX_DATA : Field :=
  { addr := 0x40080910, lo := 0, w := 8, acc := .ro, reset := 0, s1 := 64, n1 := 2 }
def UART_STAT_IDLE_EVENT : Field :=
  { addr := 0x40080914, lo := 29, w := 1, acc := .w1c, reset := 0, s1 := 64, n1 := 2 }
def UART_STAT_TX_OVF : Field :=
  { addr := 0x40080914, lo := 28, w := 1, acc := .w1c, reset := 0, s1 := 64, n1 := 2 }
def UART_STAT_BREAK_SEEN : Field :=
  { addr := 0x40080914, lo := 27, w := 1, acc := .w1c, reset := 0, s1 := 64, n1 := 2 }
def UART_STAT_OVERRUN : Field :=
  { addr := 0x40080914, lo := 26, w := 1, acc := .w1c, reset := 0, s1 := 64, n1 := 2 }
def UART_STAT_PARITY_SEEN : Field :=
  { addr := 0x40080914, lo := 25, w := 1, acc := .w1c, reset := 0, s1 := 64, n1 := 2 }
def UART_STAT_FRAMING_SEEN : Field :=
  { addr := 0x40080914, lo := 24, w := 1, acc := .w1c, reset := 0, s1 := 64, n1 := 2 }
def UART_STAT_IDLE : Field :=
  { addr := 0x40080914, lo := 17, w := 1, acc := .ro, reset := 0, s1 := 64, n1 := 2 }
def UART_STAT_TX_BUSY : Field :=
  { addr := 0x40080914, lo := 16, w := 1, acc := .ro, reset := 0, s1 := 64, n1 := 2 }
def UART_STAT_RXFILL : Field :=
  { addr := 0x40080914, lo := 8, w := 6, acc := .ro, reset := 0, s1 := 64, n1 := 2 }
def UART_STAT_TXFILL : Field :=
  { addr := 0x40080914, lo := 0, w := 6, acc := .ro, reset := 0, s1 := 64, n1 := 2 }
def UART_EVT_RXHIGH : Field :=
  { addr := 0x40080918, lo := 8, w := 6, acc := .rw, reset := 1, s1 := 64, n1 := 2 }
def UART_EVT_TXLOW : Field :=
  { addr := 0x40080918, lo := 0, w := 6, acc := .rw, reset := 0, s1 := 64, n1 := 2 }
/-! Loom (ch 11) -/

def LOOM_CTRL_AGEING : Field := { addr := 0x40030000, lo := 8, w := 20, acc := .j, reset := 300, legal := .range 10 1000000 }
def LOOM_CTRL_FLUSH_FDB : Field := { addr := 0x40030000, lo := 1, w := 1, acc := .wo, reset := 0 }
def LOOM_CTRL_EN : Field := { addr := 0x40030000, lo := 0, w := 1, acc := .rw, reset := 0 }
def LOOM_STAT_FREE_CELLS : Field := { addr := 0x40030004, lo := 16, w := 15, acc := .ro, reset := 16384 }
def LOOM_STAT_POOL_EMPTY : Field := { addr := 0x40030004, lo := 3, w := 1, acc := .w1c, reset := 0 }
def LOOM_STAT_BAD_HANDLE : Field := { addr := 0x40030004, lo := 2, w := 1, acc := .w1c, reset := 0 }
def LOOM_STAT_DUP_FULL : Field := { addr := 0x40030004, lo := 1, w := 1, acc := .w1c, reset := 0 }
def LOOM_STAT_FDB_FULL : Field := { addr := 0x40030004, lo := 0, w := 1, acc := .w1c, reset := 0 }
def LOOM_PORT_CFG_LEARN : Field :=
  { addr := 0x40030100, lo := 24, w := 1, acc := .j, reset := 1, s1 := 32, n1 := 9 }
def LOOM_PORT_CFG_STRICT : Field :=
  { addr := 0x40030100, lo := 20, w := 4, acc := .j, reset := 8, legal := .range 0 8, s1 := 32, n1 := 9 }
def LOOM_PORT_CFG_STATE : Field :=
  { addr := 0x40030100, lo := 18, w := 2, acc := .j, reset := 2, legal := .range 0 2, s1 := 32, n1 := 9 }
def LOOM_PORT_CFG_DEF_PRIO : Field :=
  { addr := 0x40030100, lo := 15, w := 3, acc := .j, reset := 0, s1 := 32, n1 := 9 }
def LOOM_PORT_CFG_INGRESS_FILTER : Field :=
  { addr := 0x40030100, lo := 14, w := 1, acc := .j, reset := 1, s1 := 32, n1 := 9 }
def LOOM_PORT_CFG_ACCEPT : Field :=
  { addr := 0x40030100, lo := 12, w := 2, acc := .j, reset := 0, legal := .range 0 2, s1 := 32, n1 := 9 }
def LOOM_PORT_CFG_PVID : Field :=
  { addr := 0x40030100, lo := 0, w := 12, acc := .j, reset := 1, legal := .range 1 4094, s1 := 32, n1 := 9 }
def LOOM_PORT_CELLS_MAX : Field :=
  { addr := 0x40030104, lo := 16, w := 14, acc := .j, reset := 2048, s1 := 32, n1 := 9 }
def LOOM_PORT_CELLS_RESERVE : Field :=
  { addr := 0x40030104, lo := 0, w := 14, acc := .j, reset := 64, s1 := 32, n1 := 9 }
def LOOM_PORT_TCMAP_TC_MAP : Field :=
  { addr := 0x40030108, lo := 0, w := 24, acc := .j, reset := 0xFAC688, s1 := 32, n1 := 9 }
def LOOM_PORT_EGMAX_EGRESS_MAX : Field :=
  { addr := 0x4003010c, lo := 0, w := 14, acc := .j, reset := 2048, s1 := 32, n1 := 9 }
def LOOM_PORT_USED_QUEUED : Field :=
  { addr := 0x40030110, lo := 16, w := 14, acc := .ro, reset := 0, s1 := 32, n1 := 9 }
def LOOM_PORT_USED_HELD : Field :=
  { addr := 0x40030110, lo := 0, w := 14, acc := .ro, reset := 0, s1 := 32, n1 := 9 }
def LOOM_PORT_WEIGHT_W7 : Field :=
  { addr := 0x40030114, lo := 28, w := 4, acc := .j, reset := 1, legal := .range 1 15, s1 := 32, n1 := 9 }
def LOOM_PORT_WEIGHT_W6 : Field :=
  { addr := 0x40030114, lo := 24, w := 4, acc := .j, reset := 1, legal := .range 1 15, s1 := 32, n1 := 9 }
def LOOM_PORT_WEIGHT_W5 : Field :=
  { addr := 0x40030114, lo := 20, w := 4, acc := .j, reset := 1, legal := .range 1 15, s1 := 32, n1 := 9 }
def LOOM_PORT_WEIGHT_W4 : Field :=
  { addr := 0x40030114, lo := 16, w := 4, acc := .j, reset := 1, legal := .range 1 15, s1 := 32, n1 := 9 }
def LOOM_PORT_WEIGHT_W3 : Field :=
  { addr := 0x40030114, lo := 12, w := 4, acc := .j, reset := 1, legal := .range 1 15, s1 := 32, n1 := 9 }
def LOOM_PORT_WEIGHT_W2 : Field :=
  { addr := 0x40030114, lo := 8, w := 4, acc := .j, reset := 1, legal := .range 1 15, s1 := 32, n1 := 9 }
def LOOM_PORT_WEIGHT_W1 : Field :=
  { addr := 0x40030114, lo := 4, w := 4, acc := .j, reset := 1, legal := .range 1 15, s1 := 32, n1 := 9 }
def LOOM_PORT_WEIGHT_W0 : Field :=
  { addr := 0x40030114, lo := 0, w := 4, acc := .j, reset := 1, legal := .range 1 15, s1 := 32, n1 := 9 }
def LOOM_FDB_MACLO_V : Field := { addr := 0x40030240, lo := 0, w := 32, acc := .rw, reset := 0 }
def LOOM_FDB_MACHI_VID : Field := { addr := 0x40030244, lo := 16, w := 12, acc := .rw, reset := 0 }
def LOOM_FDB_MACHI_MACHI : Field := { addr := 0x40030244, lo := 0, w := 16, acc := .rw, reset := 0 }
def LOOM_FDB_DATA_VALID : Field := { addr := 0x40030248, lo := 17, w := 1, acc := .rw, reset := 0 }
def LOOM_FDB_DATA_STATIC : Field := { addr := 0x40030248, lo := 16, w := 1, acc := .rw, reset := 0 }
def LOOM_FDB_DATA_PORTS : Field := { addr := 0x40030248, lo := 0, w := 9, acc := .rw, reset := 0 }
def LOOM_FDB_CMD_BUSY : Field := { addr := 0x4003024c, lo := 31, w := 1, acc := .ro, reset := 0 }
def LOOM_FDB_CMD_GROUP : Field := { addr := 0x4003024c, lo := 2, w := 1, acc := .wo, reset := 0 }
def LOOM_FDB_CMD_OP : Field :=
  { addr := 0x4003024c, lo := 0, w := 2, acc := .wo, reset := 0, legal := .range 1 3 }
def LOOM_VLAN_SEL_VID : Field := { addr := 0x40030250, lo := 0, w := 12, acc := .rw, reset := 0 }
def LOOM_VLAN_DATA_UNTAG : Field := { addr := 0x40030254, lo := 16, w := 9, acc := .rw, reset := 0 }
def LOOM_VLAN_DATA_MEMBER : Field := { addr := 0x40030254, lo := 0, w := 9, acc := .rw, reset := 0 }
def LOOM_RED_FORGET : Field := { addr := 0x40030300, lo := 16, w := 16, acc := .j, reset := 400, legal := .range 10 10000 }
def LOOM_RED_MODE23 : Field := { addr := 0x40030300, lo := 2, w := 2, acc := .j, reset := 0, legal := .range 0 2 }
def LOOM_RED_MODE01 : Field := { addr := 0x40030300, lo := 0, w := 2, acc := .j, reset := 0, legal := .range 0 2 }
def LOOM_DUPSTAT_FULL : Field := { addr := 0x40030304, lo := 16, w := 1, acc := .w1c, reset := 0 }
def LOOM_DUPSTAT_USED : Field := { addr := 0x40030304, lo := 0, w := 11, acc := .ro, reset := 0 }
def LOOM_N2CLAIM_EN : Field :=
  { addr := 0x40030380, lo := 16, w := 1, acc := .rw, reset := 0, s1 := 4, n1 := 8 }
def LOOM_N2CLAIM_ETYPE : Field :=
  { addr := 0x40030380, lo := 0, w := 16, acc := .rw, reset := 0, s1 := 4, n1 := 8 }
def LOOM_NQ_CFG_WAKE_EN : Field :=
  { addr := 0x40030600, lo := 5, w := 1, acc := .rw, reset := 0, s1 := 32, n1 := 6 }
def LOOM_NQ_CFG_THREAD : Field :=
  { addr := 0x40030600, lo := 0, w := 5, acc := .rw, reset := 0, s1 := 32, n1 := 6 }
def LOOM_NQ_RXPOP_HANDLE : Field :=
  { addr := 0x40030604, lo := 0, w := 32, acc := .ro, reset := 0, s1 := 32, n1 := 6 }
def LOOM_NQ_FREE_HANDLE : Field :=
  { addr := 0x40030608, lo := 0, w := 32, acc := .wo, reset := 0, s1 := 32, n1 := 6 }
def LOOM_NQ_TXCTL_TC : Field :=
  { addr := 0x4003060c, lo := 16, w := 3, acc := .rw, reset := 0, s1 := 32, n1 := 6 }
def LOOM_NQ_TXCTL_PORTS : Field :=
  { addr := 0x4003060c, lo := 0, w := 9, acc := .rw, reset := 0, s1 := 32, n1 := 6 }
def LOOM_NQ_TX_HANDLE : Field :=
  { addr := 0x40030610, lo := 0, w := 32, acc := .wo, reset := 0, s1 := 32, n1 := 6 }
def LOOM_NQ_CPOP_V : Field :=
  { addr := 0x40030614, lo := 0, w := 32, acc := .ro, reset := 0, s1 := 32, n1 := 6 }
def LOOM_NQ_ALLOC_HANDLE : Field :=
  { addr := 0x40030618, lo := 0, w := 32, acc := .ro, reset := 0, s1 := 32, n1 := 6 }
def LOOM_NQ_ALLOCN_CELLS : Field :=
  { addr := 0x4003061c, lo := 0, w := 6, acc := .rw, reset := 1, legal := .range 1 36, s1 := 32, n1 := 6 }
def LOOM_TG_CTRL_SWAP : Field :=
  { addr := 0x40031000, lo := 1, w := 1, acc := .wo, reset := 0, s1 := 2048, n1 := 6 }
def LOOM_TG_CTRL_EN : Field :=
  { addr := 0x40031000, lo := 0, w := 1, acc := .rw, reset := 0, s1 := 2048, n1 := 6 }
def LOOM_TG_BASENS_V : Field :=
  { addr := 0x40031004, lo := 0, w := 32, acc := .rw, reset := 0, s1 := 2048, n1 := 6 }
def LOOM_TG_BASESECLO_V : Field :=
  { addr := 0x40031008, lo := 0, w := 32, acc := .rw, reset := 0, s1 := 2048, n1 := 6 }
def LOOM_TG_BASESECHI_V : Field :=
  { addr := 0x4003100c, lo := 0, w := 16, acc := .rw, reset := 0, s1 := 2048, n1 := 6 }
def LOOM_TG_CYCLE_CYCLE : Field :=
  { addr := 0x40031010, lo := 0, w := 32, acc := .rw, reset := 1000000, legal := .range 1000 1000000000, s1 := 2048, n1 := 6 }
def LOOM_TG_LEN_LEN : Field :=
  { addr := 0x40031014, lo := 0, w := 9, acc := .rw, reset := 1, legal := .range 1 256, s1 := 2048, n1 := 6 }
def LOOM_TG_STAT_SWAP_PENDING : Field :=
  { addr := 0x40031018, lo := 9, w := 1, acc := .ro, reset := 0, s1 := 2048, n1 := 6 }
def LOOM_TG_STAT_ENTRY : Field :=
  { addr := 0x40031018, lo := 0, w := 9, acc := .ro, reset := 0, s1 := 2048, n1 := 6 }
def LOOM_TG_ENT_GATES : Field :=
  { addr := 0x40031400, lo := 24, w := 8, acc := .rw, reset := 0xFF, s1 := 2048, n1 := 6, s2 := 4, n2 := 256 }
def LOOM_TG_ENT_INTERVAL : Field :=
  { addr := 0x40031400, lo := 0, w := 24, acc := .rw, reset := 0, s1 := 2048, n1 := 6, s2 := 4, n2 := 256 }
def LOOM_AG_CTRL_ABASE : Field :=
  { addr := 0x40034000, lo := 16, w := 16, acc := .rw, reset := 0, s1 := 512, n1 := 6 }
def LOOM_AG_CTRL_ASRC : Field :=
  { addr := 0x40034000, lo := 2, w := 1, acc := .rw, reset := 0, s1 := 512, n1 := 6 }
def LOOM_AG_CTRL_SWAP : Field :=
  { addr := 0x40034000, lo := 1, w := 1, acc := .wo, reset := 0, s1 := 512, n1 := 6 }
def LOOM_AG_CTRL_EN : Field :=
  { addr := 0x40034000, lo := 0, w := 1, acc := .rw, reset := 0, s1 := 512, n1 := 6 }
def LOOM_AG_LEN_LEN : Field :=
  { addr := 0x40034004, lo := 0, w := 7, acc := .rw, reset := 1, legal := .range 1 64, s1 := 512, n1 := 6 }
def LOOM_AG_STAT_SWAP_PENDING : Field :=
  { addr := 0x40034008, lo := 9, w := 1, acc := .ro, reset := 0, s1 := 512, n1 := 6 }
def LOOM_AG_STAT_ENTRY : Field :=
  { addr := 0x40034008, lo := 0, w := 6, acc := .ro, reset := 0, s1 := 512, n1 := 6 }
def LOOM_AG_ENT_GATES : Field :=
  { addr := 0x40034100, lo := 24, w := 8, acc := .rw, reset := 0xFF, s1 := 512, n1 := 6, s2 := 4, n2 := 64 }
def LOOM_AG_ENT_INTERVAL : Field :=
  { addr := 0x40034100, lo := 0, w := 16, acc := .rw, reset := 0, legal := .range 1 65535, s1 := 512, n1 := 6, s2 := 4, n2 := 64 }
def BOBBIN_CTRL_OVERWRITE : Field := { addr := 0x40038000, lo := 1, w := 1, acc := .rw, reset := 0 }
def BOBBIN_CTRL_EN : Field := { addr := 0x40038000, lo := 0, w := 1, acc := .rw, reset := 0 }
def BOBBIN_BASE_BASE : Field := { addr := 0x40038004, lo := 0, w := 14, acc := .rw, reset := 0 }
def BOBBIN_SIZE_SIZE : Field := { addr := 0x40038008, lo := 0, w := 14, acc := .rw, reset := 1024 }
def BOBBIN_WR_WR : Field := { addr := 0x4003800c, lo := 0, w := 13, acc := .ro, reset := 0 }
def BOBBIN_RD_RD : Field := { addr := 0x40038010, lo := 0, w := 13, acc := .rw, reset := 0 }
def BOBBIN_STAT_LOST_TOTAL : Field := { addr := 0x40038014, lo := 16, w := 16, acc := .rc, reset := 0 }
def BOBBIN_STAT_STOPPED : Field := { addr := 0x40038014, lo := 0, w := 1, acc := .ro, reset := 0 }
def BOBBIN_F_CFG_ETYPE_EN : Field :=
  { addr := 0x40038100, lo := 18, w := 1, acc := .rw, reset := 0, s1 := 16, n1 := 16 }
def BOBBIN_F_CFG_VID_EN : Field :=
  { addr := 0x40038100, lo := 17, w := 1, acc := .rw, reset := 0, s1 := 16, n1 := 16 }
def BOBBIN_F_CFG_EN : Field :=
  { addr := 0x40038100, lo := 16, w := 1, acc := .rw, reset := 0, s1 := 16, n1 := 16 }
def BOBBIN_F_CFG_VERDICT : Field :=
  { addr := 0x40038100, lo := 11, w := 5, acc := .rw, reset := 0, s1 := 16, n1 := 16 }
def BOBBIN_F_CFG_DIR : Field :=
  { addr := 0x40038100, lo := 9, w := 2, acc := .rw, reset := 0, s1 := 16, n1 := 16 }
def BOBBIN_F_CFG_PORTS : Field :=
  { addr := 0x40038100, lo := 0, w := 9, acc := .rw, reset := 0, s1 := 16, n1 := 16 }
def BOBBIN_F_MATCH_VID : Field :=
  { addr := 0x40038104, lo := 16, w := 12, acc := .rw, reset := 0, s1 := 16, n1 := 16 }
def BOBBIN_F_MATCH_ETYPE : Field :=
  { addr := 0x40038104, lo := 0, w := 16, acc := .rw, reset := 0, s1 := 16, n1 := 16 }
def BOBBIN_F_SAMPLE_SAMPLE : Field :=
  { addr := 0x40038108, lo := 0, w := 16, acc := .rw, reset := 1, legal := .range 1 65535, s1 := 16, n1 := 16 }
/-! MAC (ch 12) -/

def MAC_CFG_MAX_FRAME : Field :=
  { addr := 0x40040000, lo := 16, w := 14, acc := .j, reset := 9216, legal := .range 1518 9216, s1 := 4096, n1 := 6 }
def MAC_CFG_MIN_FRAME : Field :=
  { addr := 0x40040000, lo := 8, w := 8, acc := .j, reset := 64, legal := .range 64 128, s1 := 4096, n1 := 6 }
def MAC_CFG_ONE_STEP : Field :=
  { addr := 0x40040000, lo := 5, w := 1, acc := .j, reset := 0, s1 := 4096, n1 := 6 }
def MAC_CFG_TX_CSUM : Field :=
  { addr := 0x40040000, lo := 4, w := 1, acc := .j, reset := 1, s1 := 4096, n1 := 6 }
def MAC_CFG_PAUSE_HONOUR : Field :=
  { addr := 0x40040000, lo := 3, w := 1, acc := .j, reset := 0, s1 := 4096, n1 := 6 }
def MAC_CFG_AN_EN : Field :=
  { addr := 0x40040000, lo := 2, w := 1, acc := .j, reset := 1, s1 := 4096, n1 := 6 }
def MAC_CFG_MODE : Field :=
  { addr := 0x40040000, lo := 0, w := 2, acc := .j, reset := 0, s1 := 4096, n1 := 6 }
def MAC_LINK_LINK_DOWNS : Field :=
  { addr := 0x40040004, lo := 8, w := 8, acc := .rc, reset := 0, s1 := 4096, n1 := 6 }
def MAC_LINK_LOOP : Field :=
  { addr := 0x40040004, lo := 6, w := 1, acc := .ro, reset := 0, s1 := 4096, n1 := 6 }
def MAC_LINK_SPEED_REFUSED : Field :=
  { addr := 0x40040004, lo := 5, w := 1, acc := .ro, reset := 0, s1 := 4096, n1 := 6 }
def MAC_LINK_HALF_REFUSED : Field :=
  { addr := 0x40040004, lo := 4, w := 1, acc := .ro, reset := 0, s1 := 4096, n1 := 6 }
def MAC_LINK_AN_DONE : Field :=
  { addr := 0x40040004, lo := 3, w := 1, acc := .ro, reset := 0, s1 := 4096, n1 := 6 }
def MAC_LINK_SPEED : Field :=
  { addr := 0x40040004, lo := 1, w := 2, acc := .ro, reset := 0, s1 := 4096, n1 := 6 }
def MAC_LINK_UP : Field :=
  { addr := 0x40040004, lo := 0, w := 1, acc := .ro, reset := 0, s1 := 4096, n1 := 6 }
def MAC_HOLD_LINKUP_HOLD : Field :=
  { addr := 0x40040008, lo := 0, w := 10, acc := .j, reset := 10, legal := .range 0 1000, s1 := 4096, n1 := 6 }
def MAC_PSTK_PSTK : Field :=
  { addr := 0x4004000c, lo := 0, w := 8, acc := .rc, reset := 0, s1 := 4096, n1 := 6 }
def MAC_PSTK_ACC_PSTK_ACC : Field :=
  { addr := 0x40040010, lo := 0, w := 8, acc := .w1c, reset := 0, s1 := 4096, n1 := 6 }
def MAC_SERDES_LOOPBACK : Field :=
  { addr := 0x40040014, lo := 10, w := 1, acc := .rw, reset := 0, s1 := 4096, n1 := 6 }
def MAC_SERDES_DEEMPH : Field :=
  { addr := 0x40040014, lo := 6, w := 4, acc := .j, reset := 0, s1 := 4096, n1 := 6 }
def MAC_SERDES_SWING : Field :=
  { addr := 0x40040014, lo := 2, w := 4, acc := .j, reset := 8, s1 := 4096, n1 := 6 }
def MAC_SERDES_RX_INV : Field :=
  { addr := 0x40040014, lo := 1, w := 1, acc := .j, reset := 0, s1 := 4096, n1 := 6 }
def MAC_SERDES_TX_INV : Field :=
  { addr := 0x40040014, lo := 0, w := 1, acc := .j, reset := 0, s1 := 4096, n1 := 6 }
def MAC_STAT_CQ_LOST : Field :=
  { addr := 0x40040018, lo := 0, w := 1, acc := .w1c, reset := 0, s1 := 4096, n1 := 6 }
def T1L_CFG_VF : Field := { addr := 0x40045100, lo := 8, w := 8, acc := .j, reset := 169 }
def T1L_CFG_AUTO_DIAG : Field := { addr := 0x40045100, lo := 3, w := 1, acc := .j, reset := 1 }
def T1L_CFG_ROLE : Field := { addr := 0x40045100, lo := 1, w := 2, acc := .j, reset := 0, legal := .range 0 2 }
def T1L_CFG_TX_LEVEL : Field := { addr := 0x40045100, lo := 0, w := 1, acc := .j, reset := 0 }
def T1L_STAT_LEVEL_2V4 : Field := { addr := 0x40045104, lo := 4, w := 1, acc := .ro, reset := 0 }
def T1L_STAT_MASTER : Field := { addr := 0x40045104, lo := 3, w := 1, acc := .ro, reset := 0 }
def T1L_STAT_SQI : Field := { addr := 0x40045104, lo := 0, w := 3, acc := .ro, reset := 0 }
def T1L_DIAG_DISTANCE : Field := { addr := 0x40045108, lo := 16, w := 11, acc := .ro, reset := 0 }
def T1L_DIAG_RESULT : Field := { addr := 0x40045108, lo := 2, w := 3, acc := .ro, reset := 0 }
def T1L_DIAG_BUSY : Field := { addr := 0x40045108, lo := 1, w := 1, acc := .ro, reset := 0 }
def T1L_DIAG_RUN : Field := { addr := 0x40045108, lo := 0, w := 1, acc := .wo, reset := 0 }
/-! CAN (ch 13) -/

def CAN_CTRL_THREAD : Field :=
  { addr := 0x40050000, lo := 11, w := 5, acc := .rw, reset := 0, s1 := 32768, n1 := 2 }
def CAN_CTRL_WAKE_EN : Field :=
  { addr := 0x40050000, lo := 10, w := 1, acc := .rw, reset := 0, s1 := 32768, n1 := 2 }
def CAN_CTRL_TDC_EN : Field :=
  { addr := 0x40050000, lo := 9, w := 1, acc := .rw, reset := 0, s1 := 32768, n1 := 2 }
def CAN_CTRL_BRS_OFF : Field :=
  { addr := 0x40050000, lo := 8, w := 1, acc := .rw, reset := 0, s1 := 32768, n1 := 2 }
def CAN_CTRL_TT : Field :=
  { addr := 0x40050000, lo := 7, w := 1, acc := .rw, reset := 0, s1 := 32768, n1 := 2 }
def CAN_CTRL_LOOPBACK : Field :=
  { addr := 0x40050000, lo := 6, w := 1, acc := .rw, reset := 0, s1 := 32768, n1 := 2 }
def CAN_CTRL_MON : Field :=
  { addr := 0x40050000, lo := 5, w := 1, acc := .rw, reset := 0, s1 := 32768, n1 := 2 }
def CAN_CTRL_AUTO_RECOVER : Field :=
  { addr := 0x40050000, lo := 4, w := 1, acc := .j, reset := 1, s1 := 32768, n1 := 2 }
def CAN_CTRL_SLEEP : Field :=
  { addr := 0x40050000, lo := 3, w := 1, acc := .wo, reset := 0, s1 := 32768, n1 := 2 }
def CAN_CTRL_RECOVER : Field :=
  { addr := 0x40050000, lo := 2, w := 1, acc := .wo, reset := 0, s1 := 32768, n1 := 2 }
def CAN_CTRL_STOP : Field :=
  { addr := 0x40050000, lo := 1, w := 1, acc := .wo, reset := 0, s1 := 32768, n1 := 2 }
def CAN_CTRL_START : Field :=
  { addr := 0x40050000, lo := 0, w := 1, acc := .wo, reset := 0, s1 := 32768, n1 := 2 }
def CAN_NBT_NSJW : Field :=
  { addr := 0x40050004, lo := 20, w := 7, acc := .rw, reset := 19, s1 := 32768, n1 := 2 }
def CAN_NBT_NTSEG2 : Field :=
  { addr := 0x40050004, lo := 13, w := 7, acc := .rw, reset := 19, s1 := 32768, n1 := 2 }
def CAN_NBT_NTSEG1 : Field :=
  { addr := 0x40050004, lo := 5, w := 8, acc := .rw, reset := 138, s1 := 32768, n1 := 2 }
def CAN_NBT_NBRP : Field :=
  { addr := 0x40050004, lo := 0, w := 5, acc := .rw, reset := 0, s1 := 32768, n1 := 2 }
def CAN_DBT_TDCO : Field :=
  { addr := 0x40050008, lo := 19, w := 7, acc := .rw, reset := 0, s1 := 32768, n1 := 2 }
def CAN_DBT_DSJW : Field :=
  { addr := 0x40050008, lo := 14, w := 4, acc := .rw, reset := 4, s1 := 32768, n1 := 2 }
def CAN_DBT_DTSEG2 : Field :=
  { addr := 0x40050008, lo := 10, w := 4, acc := .rw, reset := 4, s1 := 32768, n1 := 2 }
def CAN_DBT_DTSEG1 : Field :=
  { addr := 0x40050008, lo := 5, w := 5, acc := .rw, reset := 13, s1 := 32768, n1 := 2 }
def CAN_DBT_DBRP : Field :=
  { addr := 0x40050008, lo := 0, w := 5, acc := .rw, reset := 0, s1 := 32768, n1 := 2 }
def CAN_STAT_BUS_FAULT : Field :=
  { addr := 0x4005000c, lo := 20, w := 3, acc := .ro, reset := 0, s1 := 32768, n1 := 2 }
def CAN_STAT_LEC : Field :=
  { addr := 0x4005000c, lo := 16, w := 3, acc := .ro, reset := 0, s1 := 32768, n1 := 2 }
def CAN_STAT_BUSOFF_SEEN : Field :=
  { addr := 0x4005000c, lo := 13, w := 1, acc := .w1c, reset := 0, s1 := 32768, n1 := 2 }
def CAN_STAT_MISSED_ANY : Field :=
  { addr := 0x4005000c, lo := 12, w := 1, acc := .w1c, reset := 0, s1 := 32768, n1 := 2 }
def CAN_STAT_CYC_SKIP : Field :=
  { addr := 0x4005000c, lo := 11, w := 1, acc := .w1c, reset := 0, s1 := 32768, n1 := 2 }
def CAN_STAT_CYC_OVERLAP : Field :=
  { addr := 0x4005000c, lo := 10, w := 1, acc := .w1c, reset := 0, s1 := 32768, n1 := 2 }
def CAN_STAT_REF_LOST : Field :=
  { addr := 0x4005000c, lo := 9, w := 1, acc := .ro, reset := 0, s1 := 32768, n1 := 2 }
def CAN_STAT_TXD_TIMEOUT : Field :=
  { addr := 0x4005000c, lo := 8, w := 1, acc := .w1c, reset := 0, s1 := 32768, n1 := 2 }
def CAN_STAT_WAKE_SEEN : Field :=
  { addr := 0x4005000c, lo := 7, w := 1, acc := .w1c, reset := 0, s1 := 32768, n1 := 2 }
def CAN_STAT_CFG_REFUSED : Field :=
  { addr := 0x4005000c, lo := 6, w := 1, acc := .w1c, reset := 0, s1 := 32768, n1 := 2 }
def CAN_STAT_RTR_DROPPED : Field :=
  { addr := 0x4005000c, lo := 5, w := 1, acc := .w1c, reset := 0, s1 := 32768, n1 := 2 }
def CAN_STAT_UNMATCHED : Field :=
  { addr := 0x4005000c, lo := 4, w := 1, acc := .w1c, reset := 0, s1 := 32768, n1 := 2 }
def CAN_STAT_WARNING : Field :=
  { addr := 0x4005000c, lo := 3, w := 1, acc := .ro, reset := 0, s1 := 32768, n1 := 2 }
def CAN_STAT_STATE : Field :=
  { addr := 0x4005000c, lo := 0, w := 3, acc := .ro, reset := 0, s1 := 32768, n1 := 2 }
def CAN_ERR_BUSOFFS : Field :=
  { addr := 0x40050010, lo := 24, w := 8, acc := .rc, reset := 0, s1 := 32768, n1 := 2 }
def CAN_ERR_REC : Field :=
  { addr := 0x40050010, lo := 16, w := 8, acc := .ro, reset := 0, s1 := 32768, n1 := 2 }
def CAN_ERR_TEC : Field :=
  { addr := 0x40050010, lo := 0, w := 9, acc := .ro, reset := 0, s1 := 32768, n1 := 2 }
def CAN_WCFG_DLC : Field :=
  { addr := 0x40050020, lo := 3, w := 4, acc := .rw, reset := 0, s1 := 32768, n1 := 2 }
def CAN_WCFG_DLC_EN : Field :=
  { addr := 0x40050020, lo := 2, w := 1, acc := .rw, reset := 0, s1 := 32768, n1 := 2 }
def CAN_WCFG_IDE : Field :=
  { addr := 0x40050020, lo := 1, w := 1, acc := .rw, reset := 0, s1 := 32768, n1 := 2 }
def CAN_WCFG_MODE : Field :=
  { addr := 0x40050020, lo := 0, w := 1, acc := .rw, reset := 0, s1 := 32768, n1 := 2 }
def CAN_WID_WAKE_ID : Field :=
  { addr := 0x40050024, lo := 0, w := 29, acc := .rw, reset := 0, s1 := 32768, n1 := 2 }
def CAN_WIDM_WAKE_ID_IGNORE : Field :=
  { addr := 0x40050028, lo := 0, w := 29, acc := .rw, reset := 0, s1 := 32768, n1 := 2 }
def CAN_WDMASK0_V : Field :=
  { addr := 0x4005002c, lo := 0, w := 32, acc := .rw, reset := 0xFFFFFFFF, s1 := 32768, n1 := 2 }
def CAN_WDMASK1_V : Field :=
  { addr := 0x40050030, lo := 0, w := 32, acc := .rw, reset := 0xFFFFFFFF, s1 := 32768, n1 := 2 }
def CAN_TTCFG_TX_WINDOW : Field :=
  { addr := 0x40050040, lo := 21, w := 4, acc := .rw, reset := 15, s1 := 32768, n1 := 2 }
def CAN_TTCFG_REF_EN : Field :=
  { addr := 0x40050040, lo := 20, w := 1, acc := .rw, reset := 0, s1 := 32768, n1 := 2 }
def CAN_TTCFG_REF_MO : Field :=
  { addr := 0x40050040, lo := 13, w := 7, acc := .rw, reset := 0, s1 := 32768, n1 := 2 }
def CAN_TTCFG_COLS : Field :=
  { addr := 0x40050040, lo := 8, w := 5, acc := .rw, reset := 0, s1 := 32768, n1 := 2 }
def CAN_TTCFG_CYCLES : Field :=
  { addr := 0x40050040, lo := 2, w := 6, acc := .rw, reset := 0, s1 := 32768, n1 := 2 }
def CAN_TTCFG_SRC : Field :=
  { addr := 0x40050040, lo := 0, w := 2, acc := .rw, reset := 0, legal := .range 0 2, s1 := 32768, n1 := 2 }
def CAN_TTCYCLE_CYCLE_NS : Field :=
  { addr := 0x40050044, lo := 0, w := 32, acc := .rw, reset := 1000000, legal := .range 10000 1000000000, s1 := 32768, n1 := 2 }
def CAN_TTBASENS_V : Field :=
  { addr := 0x40050048, lo := 0, w := 32, acc := .rw, reset := 0, s1 := 32768, n1 := 2 }
def CAN_TTBASESECLO_V : Field :=
  { addr := 0x4005004c, lo := 0, w := 32, acc := .rw, reset := 0, s1 := 32768, n1 := 2 }
def CAN_TTBASESECHI_V : Field :=
  { addr := 0x40050050, lo := 0, w := 16, acc := .rw, reset := 0, s1 := 32768, n1 := 2 }
def CAN_TTCYCBT_V : Field :=
  { addr := 0x40050054, lo := 0, w := 16, acc := .rw, reset := 0, s1 := 32768, n1 := 2 }
def CAN_TTSTAT_RUNNING : Field :=
  { addr := 0x40050058, lo := 16, w := 1, acc := .ro, reset := 0, s1 := 32768, n1 := 2 }
def CAN_TTSTAT_COLUMN : Field :=
  { addr := 0x40050058, lo := 8, w := 5, acc := .ro, reset := 0, s1 := 32768, n1 := 2 }
def CAN_TTSTAT_CYCLE : Field :=
  { addr := 0x40050058, lo := 0, w := 6, acc := .ro, reset := 0, s1 := 32768, n1 := 2 }
def CAN_TTCOL_MARK : Field :=
  { addr := 0x40050080, lo := 0, w := 16, acc := .rw, reset := 0, s1 := 32768, n1 := 2, s2 := 4, n2 := 32 }
def CAN_MO_CFG_WAKE : Field :=
  { addr := 0x40051000, lo := 11, w := 1, acc := .rw, reset := 0, s1 := 32768, n1 := 2, s2 := 128, n2 := 128 }
def CAN_MO_CFG_TT_ONLY : Field :=
  { addr := 0x40051000, lo := 10, w := 1, acc := .rw, reset := 0, s1 := 32768, n1 := 2, s2 := 128, n2 := 128 }
def CAN_MO_CFG_ONESHOT : Field :=
  { addr := 0x40051000, lo := 9, w := 1, acc := .rw, reset := 0, s1 := 32768, n1 := 2, s2 := 128, n2 := 128 }
def CAN_MO_CFG_DLC : Field :=
  { addr := 0x40051000, lo := 5, w := 4, acc := .rw, reset := 0, s1 := 32768, n1 := 2, s2 := 128, n2 := 128 }
def CAN_MO_CFG_BRS : Field :=
  { addr := 0x40051000, lo := 4, w := 1, acc := .rw, reset := 0, s1 := 32768, n1 := 2, s2 := 128, n2 := 128 }
def CAN_MO_CFG_FDF : Field :=
  { addr := 0x40051000, lo := 3, w := 1, acc := .rw, reset := 0, s1 := 32768, n1 := 2, s2 := 128, n2 := 128 }
def CAN_MO_CFG_IDE : Field :=
  { addr := 0x40051000, lo := 2, w := 1, acc := .rw, reset := 0, s1 := 32768, n1 := 2, s2 := 128, n2 := 128 }
def CAN_MO_CFG_DIR : Field :=
  { addr := 0x40051000, lo := 0, w := 2, acc := .rw, reset := 0, legal := .range 0 2, s1 := 32768, n1 := 2, s2 := 128, n2 := 128 }
def CAN_MO_ID_ID : Field :=
  { addr := 0x40051004, lo := 0, w := 29, acc := .rw, reset := 0, s1 := 32768, n1 := 2, s2 := 128, n2 := 128 }
def CAN_MO_CTL_RXESI : Field :=
  { addr := 0x40051008, lo := 22, w := 1, acc := .ro, reset := 0, s1 := 32768, n1 := 2, s2 := 128, n2 := 128 }
def CAN_MO_CTL_RXBRS : Field :=
  { addr := 0x40051008, lo := 21, w := 1, acc := .ro, reset := 0, s1 := 32768, n1 := 2, s2 := 128, n2 := 128 }
def CAN_MO_CTL_RXFDF : Field :=
  { addr := 0x40051008, lo := 20, w := 1, acc := .ro, reset := 0, s1 := 32768, n1 := 2, s2 := 128, n2 := 128 }
def CAN_MO_CTL_RXDLC : Field :=
  { addr := 0x40051008, lo := 16, w := 4, acc := .ro, reset := 0, s1 := 32768, n1 := 2, s2 := 128, n2 := 128 }
def CAN_MO_CTL_SEQ : Field :=
  { addr := 0x40051008, lo := 8, w := 8, acc := .ro, reset := 0, s1 := 32768, n1 := 2, s2 := 128, n2 := 128 }
def CAN_MO_CTL_HELD : Field :=
  { addr := 0x40051008, lo := 7, w := 1, acc := .ro, reset := 0, s1 := 32768, n1 := 2, s2 := 128, n2 := 128 }
def CAN_MO_CTL_TX_FAIL : Field :=
  { addr := 0x40051008, lo := 6, w := 1, acc := .w1c, reset := 0, s1 := 32768, n1 := 2, s2 := 128, n2 := 128 }
def CAN_MO_CTL_TX_OK : Field :=
  { addr := 0x40051008, lo := 5, w := 1, acc := .w1c, reset := 0, s1 := 32768, n1 := 2, s2 := 128, n2 := 128 }
def CAN_MO_CTL_LOST : Field :=
  { addr := 0x40051008, lo := 4, w := 1, acc := .w1c, reset := 0, s1 := 32768, n1 := 2, s2 := 128, n2 := 128 }
def CAN_MO_CTL_NEWDAT : Field :=
  { addr := 0x40051008, lo := 3, w := 1, acc := .w1c, reset := 0, s1 := 32768, n1 := 2, s2 := 128, n2 := 128 }
def CAN_MO_CTL_TXCANCEL : Field :=
  { addr := 0x40051008, lo := 2, w := 1, acc := .wo, reset := 0, s1 := 32768, n1 := 2, s2 := 128, n2 := 128 }
def CAN_MO_CTL_TXSET : Field :=
  { addr := 0x40051008, lo := 1, w := 1, acc := .wo, reset := 0, s1 := 32768, n1 := 2, s2 := 128, n2 := 128 }
def CAN_MO_CTL_TXRQ : Field :=
  { addr := 0x40051008, lo := 0, w := 1, acc := .ro, reset := 0, s1 := 32768, n1 := 2, s2 := 128, n2 := 128 }
def CAN_MO_TS_TS : Field :=
  { addr := 0x4005100c, lo := 0, w := 32, acc := .ro, reset := 0, s1 := 32768, n1 := 2, s2 := 128, n2 := 128 }
def CAN_MO_ANG_ANG : Field :=
  { addr := 0x40051010, lo := 0, w := 32, acc := .ro, reset := 0, s1 := 32768, n1 := 2, s2 := 128, n2 := 128 }
def CAN_MO0_DATA_V : Field :=
  { addr := 0x40051040, lo := 0, w := 32, acc := .rw, reset := 0, s1 := 128, n1 := 128, s2 := 4, n2 := 16 }
def CAN_MO1_DATA_V : Field :=
  { addr := 0x40059040, lo := 0, w := 32, acc := .rw, reset := 0, s1 := 128, n1 := 128, s2 := 4, n2 := 16 }
def CAN_CELL_MO : Field :=
  { addr := 0x40056000, lo := 8, w := 7, acc := .rw, reset := 0, s1 := 32768, n1 := 2, s2 := 4, n2 := 2048 }
def CAN_CELL_MISSED : Field :=
  { addr := 0x40056000, lo := 3, w := 1, acc := .w1c, reset := 0, s1 := 32768, n1 := 2, s2 := 4, n2 := 2048 }
def CAN_CELL_RESEND : Field :=
  { addr := 0x40056000, lo := 2, w := 1, acc := .rw, reset := 0, s1 := 32768, n1 := 2, s2 := 4, n2 := 2048 }
def CAN_CELL_TYPE : Field :=
  { addr := 0x40056000, lo := 0, w := 2, acc := .rw, reset := 0, s1 := 32768, n1 := 2, s2 := 4, n2 := 2048 }
/-! power stage, ADC (ch 14) -/

def PWM_STAT_TRIP_SEEN : Field := { addr := 0x40060000, lo := 20, w := 8, acc := .w1c, reset := 0 }
def PWM_STAT_GDFLT_SEEN : Field := { addr := 0x40060000, lo := 12, w := 8, acc := .w1c, reset := 0 }
def PWM_STAT_GDFLT : Field := { addr := 0x40060000, lo := 4, w := 8, acc := .ro, reset := 0 }
def PWM_STAT_PARKED : Field := { addr := 0x40060000, lo := 0, w := 4, acc := .ro, reset := 0 }
def PWM_TRIPSEL_SEL : Field := { addr := 0x40060004, lo := 0, w := 32, acc := .j, reset := 0x76543210 }
def PWM_TRIPACT_ACT : Field := { addr := 0x40060008, lo := 0, w := 16, acc := .j, reset := 0 }
def PWM_GDCFG_FILT : Field := { addr := 0x4006000c, lo := 8, w := 8, acc := .j, reset := 10 }
def PWM_GDCFG_POL : Field := { addr := 0x4006000c, lo := 0, w := 8, acc := .j, reset := 0 }
def PWM_G_CFG_ROT_N : Field :=
  { addr := 0x40060100, lo := 24, w := 8, acc := .j, reset := 0, s1 := 64, n1 := 4 }
def PWM_G_CFG_STOP : Field :=
  { addr := 0x40060100, lo := 17, w := 1, acc := .j, reset := 0, s1 := 64, n1 := 4 }
def PWM_G_CFG_ANG_MODE : Field :=
  { addr := 0x40060100, lo := 16, w := 1, acc := .j, reset := 0, s1 := 64, n1 := 4 }
def PWM_G_CFG_ROT_EN : Field :=
  { addr := 0x40060100, lo := 15, w := 1, acc := .j, reset := 0, s1 := 64, n1 := 4 }
def PWM_G_CFG_EQ_EN : Field :=
  { addr := 0x40060100, lo := 14, w := 1, acc := .j, reset := 0, s1 := 64, n1 := 4 }
def PWM_G_CFG_PSKIP : Field :=
  { addr := 0x40060100, lo := 13, w := 1, acc := .j, reset := 0, s1 := 64, n1 := 4 }
def PWM_G_CFG_DE_EN : Field :=
  { addr := 0x40060100, lo := 12, w := 1, acc := .j, reset := 0, s1 := 64, n1 := 4 }
def PWM_G_CFG_SYNC_SRC : Field :=
  { addr := 0x40060100, lo := 10, w := 2, acc := .j, reset := 0, legal := .range 0 2, s1 := 64, n1 := 4 }
def PWM_G_CFG_KIND : Field :=
  { addr := 0x40060100, lo := 8, w := 2, acc := .j, reset := 0, legal := .range 0 2, s1 := 64, n1 := 4 }
def PWM_G_CFG_PHASES : Field :=
  { addr := 0x40060100, lo := 0, w := 8, acc := .j, reset := 0, s1 := 64, n1 := 4 }
def PWM_G_PERIOD_PERIOD : Field :=
  { addr := 0x40060104, lo := 0, w := 24, acc := .j, reset := 480000, legal := .range 24000 2400000, s1 := 64, n1 := 4 }
def PWM_G_DEAD_DT_LH : Field :=
  { addr := 0x40060108, lo := 16, w := 16, acc := .j, reset := 2400, legal := .range 0 62400, s1 := 64, n1 := 4 }
def PWM_G_DEAD_DT_HL : Field :=
  { addr := 0x40060108, lo := 0, w := 16, acc := .j, reset := 2400, legal := .range 0 62400, s1 := 64, n1 := 4 }
def PWM_G_MINON_MIN_ON : Field :=
  { addr := 0x4006010c, lo := 0, w := 16, acc := .j, reset := 2400, legal := .range 960 62400, s1 := 64, n1 := 4 }
def PWM_G_SYNC_V : Field :=
  { addr := 0x40060110, lo := 0, w := 32, acc := .rw, reset := 0, s1 := 64, n1 := 4 }
def PWM_G_SYNCPER_V : Field :=
  { addr := 0x40060114, lo := 0, w := 32, acc := .rw, reset := 0, legal := .range 1000 2147483647, s1 := 64, n1 := 4 }
def PWM_G_CMD_CLEAR : Field :=
  { addr := 0x40060118, lo := 3, w := 1, acc := .wo, reset := 0, s1 := 64, n1 := 4 }
def PWM_G_CMD_PARK : Field :=
  { addr := 0x40060118, lo := 2, w := 1, acc := .wo, reset := 0, s1 := 64, n1 := 4 }
def PWM_G_CMD_STOP : Field :=
  { addr := 0x40060118, lo := 1, w := 1, acc := .wo, reset := 0, s1 := 64, n1 := 4 }
def PWM_G_CMD_START : Field :=
  { addr := 0x40060118, lo := 0, w := 1, acc := .wo, reset := 0, s1 := 64, n1 := 4 }
def PWM_G_STAT_ACTIVE : Field :=
  { addr := 0x4006011c, lo := 16, w := 8, acc := .ro, reset := 0, s1 := 64, n1 := 4 }
def PWM_G_STAT_DE_ACTIVE : Field :=
  { addr := 0x4006011c, lo := 9, w := 1, acc := .ro, reset := 0, s1 := 64, n1 := 4 }
def PWM_G_STAT_SB_INHIBIT : Field :=
  { addr := 0x4006011c, lo := 8, w := 1, acc := .ro, reset := 0, s1 := 64, n1 := 4 }
def PWM_G_STAT_SYNCED : Field :=
  { addr := 0x4006011c, lo := 7, w := 1, acc := .ro, reset := 0, s1 := 64, n1 := 4 }
def PWM_G_STAT_FAULT : Field :=
  { addr := 0x4006011c, lo := 3, w := 4, acc := .ro, reset := 0, s1 := 64, n1 := 4 }
def PWM_G_STAT_STATE : Field :=
  { addr := 0x4006011c, lo := 0, w := 3, acc := .ro, reset := 0, s1 := 64, n1 := 4 }
def PWM_PH_DUTY_DUTY : Field :=
  { addr := 0x40060400, lo := 0, w := 24, acc := .rw, reset := 0, s1 := 16, n1 := 8 }
def PWM_PH_TRIM_TRIM : Field :=
  { addr := 0x40060404, lo := 0, w := 16, acc := .ro, reset := 0, s1 := 16, n1 := 8 }
def PWM_PH_DE_DE_DELAY : Field :=
  { addr := 0x40060408, lo := 0, w := 9, acc := .j, reset := 0, legal := .range 0 500, s1 := 16, n1 := 8 }
def PWM_PH_STAT_CBC : Field :=
  { addr := 0x4006040c, lo := 2, w := 1, acc := .w1c, reset := 0, s1 := 16, n1 := 8 }
def PWM_PH_STAT_STATE : Field :=
  { addr := 0x4006040c, lo := 0, w := 2, acc := .ro, reset := 0, s1 := 16, n1 := 8 }
def PCP_CTRL_DOUBLE_TRAP : Field := { addr := 0x40060800, lo := 2, w := 1, acc := .w1c, reset := 0 }
def PCP_CTRL_HALTED : Field := { addr := 0x40060800, lo := 1, w := 1, acc := .ro, reset := 0 }
def PCP_CTRL_RUNNING : Field := { addr := 0x40060800, lo := 0, w := 1, acc := .ro, reset := 1 }
def PCP_WAKE_WAKE : Field := { addr := 0x40060804, lo := 0, w := 1, acc := .wo, reset := 0 }
def ADC_CHCFG_VSEN_MED : Field := { addr := 0x40070000, lo := 16, w := 8, acc := .j, reset := 0 }
def ADC_CHCFG_ISEN_MED : Field := { addr := 0x40070000, lo := 8, w := 8, acc := .j, reset := 0 }
def ADC_CHCFG_ISEN_DIFF : Field := { addr := 0x40070000, lo := 0, w := 8, acc := .j, reset := 0xFF }
def ADC_BLANK_BLANK : Field := { addr := 0x40070004, lo := 0, w := 9, acc := .j, reset := 100, legal := .range 0 500 }
def ADC_CAL_OFF3 : Field := { addr := 0x40070008, lo := 24, w := 8, acc := .ro, reset := 0 }
def ADC_CAL_OFF2 : Field := { addr := 0x40070008, lo := 16, w := 8, acc := .ro, reset := 0 }
def ADC_CAL_OFF1 : Field := { addr := 0x40070008, lo := 8, w := 8, acc := .ro, reset := 0 }
def ADC_CAL_OFF0 : Field := { addr := 0x40070008, lo := 0, w := 8, acc := .ro, reset := 0 }
def ADC_SEQ_CFG_COUNT : Field :=
  { addr := 0x40070100, lo := 24, w := 3, acc := .rw, reset := 0, s1 := 32, n1 := 8 }
def ADC_SEQ_CFG_TIDX : Field :=
  { addr := 0x40070100, lo := 16, w := 8, acc := .rw, reset := 0, s1 := 32, n1 := 8 }
def ADC_SEQ_CFG_POS : Field :=
  { addr := 0x40070100, lo := 8, w := 8, acc := .rw, reset := 0, s1 := 32, n1 := 8 }
def ADC_SEQ_CFG_PHASE : Field :=
  { addr := 0x40070100, lo := 3, w := 3, acc := .rw, reset := 0, s1 := 32, n1 := 8 }
def ADC_SEQ_CFG_TRIG : Field :=
  { addr := 0x40070100, lo := 0, w := 3, acc := .rw, reset := 0, legal := .range 0 4, s1 := 32, n1 := 8 }
def ADC_SEQ_CH_CH : Field :=
  { addr := 0x40070104, lo := 0, w := 32, acc := .rw, reset := 0xFFFFFFFF, s1 := 32, n1 := 8 }
def ADC_SEQ_TT_V : Field :=
  { addr := 0x40070108, lo := 0, w := 32, acc := .rw, reset := 0, s1 := 32, n1 := 8 }
def ADC_SEQ_TP_V : Field :=
  { addr := 0x4007010c, lo := 0, w := 32, acc := .rw, reset := 0, legal := .range 1000 2147483647, s1 := 32, n1 := 8 }
def ADC_SEQ_GO_GO : Field :=
  { addr := 0x40070110, lo := 0, w := 1, acc := .wo, reset := 0, s1 := 32, n1 := 8 }
def ADC_SEQ_STAT_INVALID : Field :=
  { addr := 0x40070114, lo := 2, w := 1, acc := .w1c, reset := 0, s1 := 32, n1 := 8 }
def ADC_SEQ_STAT_OVR : Field :=
  { addr := 0x40070114, lo := 1, w := 1, acc := .w1c, reset := 0, s1 := 32, n1 := 8 }
def ADC_SEQ_STAT_DONE : Field :=
  { addr := 0x40070114, lo := 0, w := 1, acc := .w1c, reset := 0, s1 := 32, n1 := 8 }
def ADC_SEQ_RES_VALID : Field :=
  { addr := 0x40070400, lo := 16, w := 1, acc := .ro, reset := 0, s1 := 32, n1 := 8, s2 := 4, n2 := 8 }
def ADC_SEQ_RES_CODE : Field :=
  { addr := 0x40070400, lo := 0, w := 16, acc := .ro, reset := 0, s1 := 32, n1 := 8, s2 := 4, n2 := 8 }
def CMP_OC_DAC : Field :=
  { addr := 0x40070800, lo := 0, w := 10, acc := .j, reset := 0x3FF, s1 := 4, n1 := 8 }
def CMP_ZCD_DAC : Field :=
  { addr := 0x40070820, lo := 0, w := 10, acc := .j, reset := 0x200, s1 := 4, n1 := 8 }
/-! fan, thermal (ch 15) -/

def FAN_CFG_EN : Field := { addr := 0x40090000, lo := 6, w := 1, acc := .j, reset := 0 }
def FAN_CFG_DRIVE_MODE : Field := { addr := 0x40090000, lo := 5, w := 1, acc := .j, reset := 0 }
def FAN_CFG_SENSOR_MODE : Field :=
  { addr := 0x40090000, lo := 3, w := 2, acc := .j, reset := 0, legal := .range 0 2 }
def FAN_CFG_POLE_PAIRS : Field := { addr := 0x40090000, lo := 0, w := 3, acc := .j, reset := 1 }
def FAN_CMD_CLEAR : Field := { addr := 0x40090004, lo := 0, w := 1, acc := .wo, reset := 0 }
def FAN_DUTY_IREF : Field := { addr := 0x40090008, lo := 16, w := 12, acc := .rw, reset := 0 }
def FAN_DUTY_DUTY : Field := { addr := 0x40090008, lo := 0, w := 10, acc := .rw, reset := 0 }
def FAN_ILIM_CURRENT_LIMIT_MA : Field := { addr := 0x4009000c, lo := 0, w := 12, acc := .j, reset := 1500, legal := .range 200 3000 }
def FAN_FALLBACK_FALLBACK_DUTY : Field := { addr := 0x40090010, lo := 0, w := 10, acc := .j, reset := 600, legal := .range 0 1000 }
def FAN_STAT_HALL_FAULT : Field := { addr := 0x40090014, lo := 11, w := 1, acc := .w1c, reset := 0 }
def FAN_STAT_SHORT_SEEN : Field := { addr := 0x40090014, lo := 10, w := 1, acc := .w1c, reset := 0 }
def FAN_STAT_UNDERSPEED : Field := { addr := 0x40090014, lo := 9, w := 1, acc := .ro, reset := 0 }
def FAN_STAT_LEADS_SWAPPED : Field := { addr := 0x40090014, lo := 8, w := 1, acc := .ro, reset := 0 }
def FAN_STAT_ATTEMPTS : Field := { addr := 0x40090014, lo := 6, w := 2, acc := .ro, reset := 0 }
def FAN_STAT_FAULT : Field := { addr := 0x40090014, lo := 3, w := 3, acc := .ro, reset := 0 }
def FAN_STAT_STATE : Field := { addr := 0x40090014, lo := 0, w := 3, acc := .ro, reset := 0 }
def FAN_SPEED_CURRENT_MA : Field := { addr := 0x40090018, lo := 16, w := 16, acc := .ro, reset := 0 }
def FAN_SPEED_RPM : Field := { addr := 0x40090018, lo := 0, w := 16, acc := .ro, reset := 0 }
def FAN_VHV_VHV_MV : Field := { addr := 0x4009001c, lo := 0, w := 16, acc := .ro, reset := 0 }
def THERMAL_GUARD_ASSERTIONS : Field := { addr := 0x40090100, lo := 8, w := 8, acc := .rc, reset := 0 }
def THERMAL_GUARD_HELD : Field := { addr := 0x40090100, lo := 5, w := 1, acc := .ro, reset := 0 }
def THERMAL_GUARD_ACK : Field := { addr := 0x40090100, lo := 4, w := 1, acc := .wo, reset := 0 }
def THERMAL_GUARD_COOLING : Field := { addr := 0x40090100, lo := 3, w := 1, acc := .ro, reset := 0 }
def THERMAL_GUARD_CAUSE : Field := { addr := 0x40090100, lo := 1, w := 2, acc := .ro, reset := 0 }
def THERMAL_GUARD_ASSERTED : Field := { addr := 0x40090100, lo := 0, w := 1, acc := .ro, reset := 0 }
def THERMAL_GUARD_TS_TS : Field := { addr := 0x40090104, lo := 0, w := 2, acc := .ro, reset := 0 }
def THERMAL_T_FAULT : Field :=
  { addr := 0x40090110, lo := 17, w := 2, acc := .ro, reset := 0, s1 := 4, n1 := 8 }
def THERMAL_T_VALID : Field :=
  { addr := 0x40090110, lo := 16, w := 1, acc := .ro, reset := 0, s1 := 4, n1 := 8 }
def THERMAL_T_TEMP : Field :=
  { addr := 0x40090110, lo := 0, w := 16, acc := .ro, reset := 0, s1 := 4, n1 := 8 }
/-! backup, RTC (ch 16) -/

def RTC_CNTLO_V : Field := { addr := 0x400a0000, lo := 0, w := 32, acc := .ro, reset := 0 }
def RTC_CNTHI_V : Field := { addr := 0x400a0004, lo := 0, w := 16, acc := .ro, reset := 0 }
def RTC_SETLO_V : Field := { addr := 0x400a0008, lo := 0, w := 32, acc := .rw, reset := 0 }
def RTC_SETHI_V : Field := { addr := 0x400a000c, lo := 0, w := 16, acc := .rw, reset := 0 }
def RTC_CMD_SUMMER_OFF : Field := { addr := 0x400a0010, lo := 2, w := 1, acc := .wo, reset := 0 }
def RTC_CMD_SUMMER_ON : Field := { addr := 0x400a0010, lo := 1, w := 1, acc := .wo, reset := 0 }
def RTC_CMD_SET : Field := { addr := 0x400a0010, lo := 0, w := 1, acc := .wo, reset := 0 }
def RTC_TRIM_TRIM : Field := { addr := 0x400a0014, lo := 0, w := 10, acc := .rw, reset := 0 }
def RTC_LOCAL_OFFSET : Field := { addr := 0x400a0018, lo := 1, w := 31, acc := .rw, reset := 0 }
def RTC_LOCAL_DST : Field := { addr := 0x400a0018, lo := 0, w := 1, acc := .ro, reset := 0 }
def RTC_ALARMLO_V : Field := { addr := 0x400a001c, lo := 0, w := 32, acc := .rw, reset := 0 }
def RTC_ALARMHI_ARMED : Field := { addr := 0x400a0020, lo := 31, w := 1, acc := .ro, reset := 0 }
def RTC_ALARMHI_V : Field := { addr := 0x400a0020, lo := 0, w := 16, acc := .rw, reset := 0 }
def RTC_PERIOD_PERIOD : Field := { addr := 0x400a0024, lo := 0, w := 32, acc := .rw, reset := 0 }
def BACKUP_STAT_SWITCHOVERS : Field := { addr := 0x400a0030, lo := 16, w := 16, acc := .ro, reset := 0 }
def BACKUP_STAT_SUMMER_REJECT : Field := { addr := 0x400a0030, lo := 10, w := 1, acc := .w1c, reset := 0 }
def BACKUP_STAT_LATE : Field := { addr := 0x400a0030, lo := 9, w := 1, acc := .w1c, reset := 0 }
def BACKUP_STAT_PER_FIRED : Field := { addr := 0x400a0030, lo := 8, w := 1, acc := .w1c, reset := 0 }
def BACKUP_STAT_ALARM_FIRED : Field := { addr := 0x400a0030, lo := 7, w := 1, acc := .w1c, reset := 0 }
def BACKUP_STAT_WRAP : Field := { addr := 0x400a0030, lo := 6, w := 1, acc := .w1c, reset := 0 }
def BACKUP_STAT_OSC_FAIL : Field := { addr := 0x400a0030, lo := 5, w := 1, acc := .w1c, reset := 0 }
def BACKUP_STAT_BAT_ABSENT : Field := { addr := 0x400a0030, lo := 4, w := 1, acc := .ro, reset := 0 }
def BACKUP_STAT_BAT_LOW : Field := { addr := 0x400a0030, lo := 3, w := 1, acc := .ro, reset := 0 }
def BACKUP_STAT_BK_LOST : Field := { addr := 0x400a0030, lo := 2, w := 1, acc := .ro, reset := 1 }
def BACKUP_STAT_RTC_VALID : Field := { addr := 0x400a0030, lo := 1, w := 1, acc := .ro, reset := 0 }
def BACKUP_STAT_ON_BATTERY : Field := { addr := 0x400a0030, lo := 0, w := 1, acc := .ro, reset := 0 }
def BACKUP_VBAT_VBAT_MV : Field := { addr := 0x400a0034, lo := 0, w := 13, acc := .ro, reset := 0 }
def BACKUP_RET_RET : Field :=
  { addr := 0x400a0200, lo := 0, w := 32, acc := .rw, reset := 0, s1 := 4, n1 := 16 }
/-! Grilor (ch 17) -/

def GL_STAT_RETRAINS : Field :=
  { addr := 0x400b0000, lo := 8, w := 8, acc := .rc, reset := 0, s1 := 64, n1 := 2 }
def GL_STAT_REPLAYED : Field :=
  { addr := 0x400b0000, lo := 3, w := 1, acc := .w1c, reset := 0, s1 := 64, n1 := 2 }
def GL_STAT_CRC_ERR : Field :=
  { addr := 0x400b0000, lo := 2, w := 1, acc := .w1c, reset := 0, s1 := 64, n1 := 2 }
def GL_STAT_STATE : Field :=
  { addr := 0x400b0000, lo := 0, w := 2, acc := .ro, reset := 0, s1 := 64, n1 := 2 }
def GL_DELAY_DELAY : Field :=
  { addr := 0x400b0004, lo := 0, w := 32, acc := .ro, reset := 0, s1 := 64, n1 := 2 }
def GE_STAT_EN : Field :=
  { addr := 0x400b0100, lo := 2, w := 1, acc := .rw, reset := 0, s1 := 4, n1 := 8 }
def GE_STAT_STATE : Field :=
  { addr := 0x400b0100, lo := 0, w := 2, acc := .ro, reset := 0, s1 := 4, n1 := 8 }
def GRILOR_ENUM_UPSTREAM_GL0 : Field := { addr := 0x400b0200, lo := 25, w := 1, acc := .ro, reset := 0 }
def GRILOR_ENUM_ID_CONFLICT : Field := { addr := 0x400b0200, lo := 24, w := 1, acc := .w1c, reset := 0 }
def GRILOR_ENUM_MY_ID : Field := { addr := 0x400b0200, lo := 16, w := 8, acc := .ro, reset := 0 }
def GRILOR_ENUM_WORKERS : Field := { addr := 0x400b0200, lo := 8, w := 8, acc := .ro, reset := 0 }
def GRILOR_ENUM_ENUM_STATE : Field := { addr := 0x400b0200, lo := 0, w := 3, acc := .ro, reset := 0 }
def GRILOR_TWIN_SIDE_CONFLICT : Field := { addr := 0x400b0300, lo := 9, w := 1, acc := .w1c, reset := 0 }
def GRILOR_TWIN_OWN_FAULT : Field := { addr := 0x400b0300, lo := 8, w := 1, acc := .w1c, reset := 0 }
def GRILOR_TWIN_HB_MISSES : Field := { addr := 0x400b0300, lo := 6, w := 2, acc := .ro, reset := 0 }
def GRILOR_TWIN_OWN_SENSE : Field := { addr := 0x400b0300, lo := 5, w := 1, acc := .ro, reset := 0 }
def GRILOR_TWIN_OWN_DRIVE : Field := { addr := 0x400b0300, lo := 4, w := 1, acc := .ro, reset := 0 }
def GRILOR_TWIN_MIRROR : Field := { addr := 0x400b0300, lo := 2, w := 2, acc := .ro, reset := 0 }
def GRILOR_TWIN_STATE : Field := { addr := 0x400b0300, lo := 0, w := 2, acc := .ro, reset := 0 }
def GRILOR_TWCMD_HANDOVER : Field := { addr := 0x400b0304, lo := 0, w := 1, acc := .wo, reset := 0 }

/-- Registers of the map, part 1. -/
def tablePart1 : List RegSpec := [
  { base := 0x40000000, fields := [SYS_DIEID_PART, SYS_DIEID_DSTEP, SYS_DIEID_CSTEP] },
  { base := 0x40000004, fields := [SYS_CLKSTAT_LIMPCLK, SYS_CLKSTAT_PLL_UNLOCK, SYS_CLKSTAT_REF_RANGE, SYS_CLKSTAT_REF_LOST] },
  { base := 0x40000008, fields := [SYS_DLSTAT_RETRAINS, SYS_DLSTAT_SAMPLE_BAD, SYS_DLSTAT_REG_RETRY, SYS_DLSTAT_DOWN, SYS_DLSTAT_DEGRADED, SYS_DLSTAT_UP] },
  { base := 0x4000000c, fields := [SYS_BGSTAT_FAN_FORCED, SYS_BGSTAT_BOB_FORCED, SYS_BGSTAT_CAL_FORCED, SYS_BGSTAT_FULL_FORCED, SYS_BGSTAT_CARD_FORCED, SYS_BGSTAT_SCRUB_FORCED] },
  { base := 0x40000010, fields := [SYS_RSTCAUSE_CAUSE] },
  { base := 0x40000020, fields := [SYS_PSTATE_SDTRIG, SYS_PSTATE_SDSTEP, SYS_PSTATE_STATE] },
  { base := 0x40000024, fields := [SYS_SDCMD_CMD] },
  { base := 0x40000100, fields := [SYS_TRAPCNT_DOUBLE, SYS_TRAPCNT_TOTAL] },
  { base := 0x40000104, fields := [SYS_TRAPLAST_PROC, SYS_TRAPLAST_THREAD, SYS_TRAPLAST_CODE] },
  { base := 0x40000108, fields := [SYS_TRAPPC_PC] },
  { base := 0x40000200, s1 := 4, n1 := 8, fields := [SYS_SHSTAT_OWNER, SYS_SHSTAT_AVAILABLE, SYS_SHSTAT_THREADS] },
  { base := 0x40000240, fields := [SYS_SHWAKE_TARGET] },
  { base := 0x40000260, s1 := 4, n1 := 4, fields := [SYS_IMGSTAT_SECVER, SYS_IMGSTAT_STORE, SYS_IMGSTAT_LAST_ERROR, SYS_IMGSTAT_STATE] },
  { base := 0x400f0000, fields := [STRAP_SAMPLED_ROUNDS, STRAP_SAMPLED_CONFLICT, STRAP_SAMPLED_STRAP] },
  { base := 0x400f0100, fields := [FUSE_STATUS_REPAIR_USED, FUSE_STATUS_ARB, FUSE_STATUS_KEY1_SET, FUSE_STATUS_KEY0_SET, FUSE_STATUS_DEBUG_LOCKED, FUSE_STATUS_CRC_OK, FUSE_STATUS_LIFECYCLE] },
  { base := 0x400f0200, s1 := 4, n1 := 128, fields := [FUSE_WORD_W] },
  { base := 0x400a0110, fields := [BACKUP_WAKECFG_WSRC_EN, BACKUP_WAKECFG_LIMP_ALLOWED, BACKUP_WAKECFG_AFTER_SD_WAKE, BACKUP_WAKECFG_W4_LIMP] },
  { base := 0x400a0100, fields := [BACKUP_WAKEREC0_RCAUSE, BACKUP_WAKEREC0_WFAIL_STEP, BACKUP_WAKEREC0_ATTEMPTS, BACKUP_WAKEREC0_WSRC] },
  { base := 0x400a0104, fields := [BACKUP_WAKEREC1_SD_TRIGGER, BACKUP_WAKEREC1_SD_STEP, BACKUP_WAKEREC1_WAKE_COUNT, BACKUP_WAKEREC1_FLUSH_INCOMPLETE] },
  { base := 0x400a0108, fields := [BACKUP_WAKEREC2_SD_TICK_LO] },
  { base := 0x400a010c, fields := [BACKUP_WAKEREC3_SD_TICK_HI] },
  { base := 0x40010000, fields := [TREADLE_CTRL_OFFSET, TREADLE_CTRL_HYST, TREADLE_CTRL_STEP, TREADLE_CTRL_SRC, TREADLE_CTRL_REMAP_AUTO, TREADLE_CTRL_STEP_EN, TREADLE_CTRL_GAIN, TREADLE_CTRL_NOMINAL] },
  { base := 0x40010004, fields := [TREADLE_WIN_ACQ_TO, TREADLE_WIN_W] },
  { base := 0x40010008, fields := [TREADLE_STAT_OPEN, TREADLE_STAT_PRESENT, TREADLE_STAT_SEQ_MISMATCH, TREADLE_STAT_XTS_OVF, TREADLE_STAT_RELOCKED, TREADLE_STAT_MAINS_LOST, TREADLE_STAT_MAP, TREADLE_STAT_SEQ, TREADLE_STAT_HOLDOVER, TREADLE_STAT_ANG_VALID, TREADLE_STAT_STATE] },
  { base := 0x4001000c, fields := [TREADLE_ANG_ANG] }]

/-- Registers of the map, part 2. -/
def tablePart2 : List RegSpec := [
  { base := 0x40010010, fields := [TREADLE_INC_INC] },
  { base := 0x40010014, fields := [TREADLE_CNT_REJECT, TREADLE_CNT_MISS] },
  { base := 0x40010018, fields := [TREADLE_PHASE_MS2, TREADLE_PHASE_MS1] },
  { base := 0x4001001c, fields := [TREADLE_MS3_MS3_PHASE] },
  { base := 0x40010020, fields := [TREADLE_HOLD_HOLD] },
  { base := 0x40010040, fields := [TREADLE_XTSPOP_POP] },
  { base := 0x40010044, fields := [TREADLE_XTS_ANG_V] },
  { base := 0x40010048, fields := [TREADLE_XTS_ANS_V] },
  { base := 0x4001004c, fields := [TREADLE_XTS_ASECLO_V] },
  { base := 0x40010050, fields := [TREADLE_XTS_ASECHI_V] },
  { base := 0x40010054, fields := [TREADLE_XTS_BNS_V] },
  { base := 0x40010058, fields := [TREADLE_XTS_BSECLO_V] },
  { base := 0x4001005c, fields := [TREADLE_XTS_BSECHI_FILL, TREADLE_XTS_BSECHI_VALID, TREADLE_XTS_BSECHI_CAND, TREADLE_XTS_BSECHI_B_OK, TREADLE_XTS_BSECHI_A_OK, TREADLE_XTS_BSECHI_V] },
  { base := 0x40010100, s1 := 16, n1 := 32, fields := [TREADLE_AEV_CFG_FIRED, TREADLE_AEV_CFG_SKIP, TREADLE_AEV_CFG_LATE, TREADLE_AEV_CFG_IRQ, TREADLE_AEV_CFG_TIDX, TREADLE_AEV_CFG_TCODE, TREADLE_AEV_CFG_PH, TREADLE_AEV_CFG_MODE] },
  { base := 0x40010104, s1 := 16, n1 := 32, fields := [TREADLE_AEV_TARGET_TARGET] },
  { base := 0x40010108, s1 := 16, n1 := 32, fields := [TREADLE_AEV_PERIOD_PERIOD] },
  { base := 0x4001010c, s1 := 16, n1 := 32, fields := [TREADLE_AEV_LASTTS_LASTTS] },
  { base := 0x40020000, fields := [TIME_CTRL_SERVO_TO, TIME_CTRL_SLEW, TIME_CTRL_FIRST_STEP, TIME_CTRL_SEL] },
  { base := 0x40020004, fields := [TIME_STAT_DT_STEPPED, TIME_STAT_B_TIMEOUT, TIME_STAT_A_TIMEOUT, TIME_STAT_HOLD_ENTERED, TIME_STAT_SWITCHED, TIME_STAT_B_STATE, TIME_STAT_A_STATE, TIME_STAT_ALIGNED, TIME_STAT_SOURCE] },
  { base := 0x40020008, fields := [TIME_SNAP_SNAP] },
  { base := 0x4002000c, s1 := 12, n1 := 3, fields := [TIME_DTV_NS_V] },
  { base := 0x40020010, s1 := 12, n1 := 3, fields := [TIME_DTV_SECLO_V] },
  { base := 0x40020014, s1 := 12, n1 := 3, fields := [TIME_DTV_SECHI_V] },
  { base := 0x40020030, fields := [TIME_ANGV_ANG] },
  { base := 0x40020034, fields := [TIME_SHORT_SHORT] }]

/-- Registers of the map, part 3. -/
def tablePart3 : List RegSpec := [
  { base := 0x40020038, fields := [TIME_DT_ERR_DT_ERR] },
  { base := 0x4002003c, fields := [TIME_DTSTEP_STEP] },
  { base := 0x40020100, s1 := 256, n1 := 2, fields := [TIME_TDX_STATE_STATE] },
  { base := 0x40020104, s1 := 256, n1 := 2, fields := [TIME_TDX_RATELO_RATE] },
  { base := 0x40020108, s1 := 256, n1 := 2, fields := [TIME_TDX_RATEHI_RATE] },
  { base := 0x4002010c, s1 := 256, n1 := 2, fields := [TIME_TDX_STEPS_STEPS] },
  { base := 0x40020110, s1 := 256, n1 := 2, fields := [TIME_TDX_STEP_STEPNS] },
  { base := 0x40020114, s1 := 256, n1 := 2, fields := [TIME_TDX_SETSECLO_V] },
  { base := 0x40020118, s1 := 256, n1 := 2, fields := [TIME_TDX_SETSECHI_V] },
  { base := 0x4002011c, s1 := 256, n1 := 2, fields := [TIME_TDX_SETNS_V] },
  { base := 0x40020120, s1 := 256, n1 := 2, fields := [TIME_TDX_SET_SET] },
  { base := 0x40020124, s1 := 256, n1 := 2, fields := [TIME_TDX_HEARTBEAT_HB] },
  { base := 0x40020128, fields := [TIME_TDA_PTPDOM_DOMNUM] },
  { base := 0x40020228, fields := [TIME_TDB_PTPDOM_DOMNUM] },
  { base := 0x40020400, s1 := 32, n1 := 8, fields := [TIME_TPO_CFG_MISSED, TIME_TPO_CFG_POL, TIME_TPO_CFG_SRC, TIME_TPO_CFG_MODE] },
  { base := 0x40020404, s1 := 32, n1 := 8, fields := [TIME_TPO_NS_V] },
  { base := 0x40020408, s1 := 32, n1 := 8, fields := [TIME_TPO_SECLO_V] },
  { base := 0x4002040c, s1 := 32, n1 := 8, fields := [TIME_TPO_SECHI_V] },
  { base := 0x40020410, s1 := 32, n1 := 8, fields := [TIME_TPO_PERIOD_V] },
  { base := 0x40020414, s1 := 32, n1 := 8, fields := [TIME_TPO_WIDTH_V] },
  { base := 0x40020600, s1 := 32, n1 := 8, fields := [TIME_TPI_CFG_OVF, TIME_TPI_CFG_FILT, TIME_TPI_CFG_EDGE] },
  { base := 0x40020604, s1 := 32, n1 := 8, fields := [TIME_TPI_POP_POP] },
  { base := 0x40020608, s1 := 32, n1 := 8, fields := [TIME_TPI_ANS_V] },
  { base := 0x4002060c, s1 := 32, n1 := 8, fields := [TIME_TPI_ASECLO_V] },
  { base := 0x40020610, s1 := 32, n1 := 8, fields := [TIME_TPI_BNS_V] }]

/-- Registers of the map, part 4. -/
def tablePart4 : List RegSpec := [
  { base := 0x40020614, s1 := 32, n1 := 8, fields := [TIME_TPI_BSECLO_V] },
  { base := 0x40020618, s1 := 32, n1 := 8, fields := [TIME_TPI_DTNS_V] },
  { base := 0x4002061c, s1 := 32, n1 := 8, fields := [TIME_TPI_FLAGS_FILL, TIME_TPI_FLAGS_VALID, TIME_TPI_FLAGS_EDGE] },
  { base := 0x40020700, s1 := 16, n1 := 8, fields := [TIME_TPIX_DTSECLO_V] },
  { base := 0x40020704, s1 := 16, n1 := 8, fields := [TIME_TPIX_ANG_V] },
  { base := 0x40020708, s1 := 16, n1 := 8, fields := [TIME_TPIX_SECHI_BSEC, TIME_TPIX_SECHI_ASEC] },
  { base := 0x40020800, s1 := 8, n1 := 6, fields := [TIME_PADJ_RX_RX_ADJ] },
  { base := 0x40020804, s1 := 8, n1 := 6, fields := [TIME_PADJ_TX_TX_ADJ] },
  { base := 0x400d0000, fields := [TICKET_STAT_ORPHANS, TICKET_STAT_INDOUBT, TICKET_STAT_RUNNING, TICKET_STAT_FREE] },
  { base := 0x400d0100, s1 := 4, n1 := 128, fields := [TICKET_SLOT_STATE, TICKET_SLOT_TYPE, TICKET_SLOT_CLIENT, TICKET_SLOT_STEP] },
  { base := 0x40100000, fields := [XSPI_CFG_TPP_US, XSPI_CFG_DIV, XSPI_CFG_MODE] },
  { base := 0x40100010, fields := [JOURNAL_STAT_FILL, JOURNAL_STAT_B_FAILING, JOURNAL_STAT_A_FAILING, JOURNAL_STAT_FULLING, JOURNAL_STAT_ACTIVE, JOURNAL_STAT_STATE] },
  { base := 0x40100014, fields := [JOURNAL_STAGE_LIMIT, JOURNAL_STAGE_USED] },
  { base := 0x40100018, fields := [JOURNAL_SEQ_SEQ] },
  { base := 0x400e0000, fields := [HOSTPORT_INTSTAT_INTSTAT] },
  { base := 0x400e0004, fields := [HOSTPORT_INTEN_INTEN] },
  { base := 0x400e0008, fields := [HOSTPORT_ERR_ABORTED, HOSTPORT_ERR_CRC_ERRORS] },
  { base := 0x400c0000, s1 := 4, n1 := 26, fields := [MEM_BANK_STAT_CE_COUNT, MEM_BANK_STAT_UE_COUNT, MEM_BANK_STAT_DEGRADED, MEM_BANK_STAT_CARDING, MEM_BANK_STAT_COLL, MEM_BANK_STAT_MERGED, MEM_BANK_STAT_UE, MEM_BANK_STAT_CE] },
  { base := 0x400c0080, fields := [MEM_ERRADDR_UE, MEM_ERRADDR_BANK, MEM_ERRADDR_SYNDROME, MEM_ERRADDR_OFFSET] },
  { base := 0x400c0084, fields := [MEM_ERRSRC_SOURCE] },
  { base := 0x400c0088, fields := [MEM_INJ_ARM, MEM_INJ_DOUBLE, MEM_INJ_BANK, MEM_INJ_OFFSET] },
  { base := 0x400c00a0, s1 := 4, n1 := 10, fields := [MEM_CODE_STAT_CE_COUNT, MEM_CODE_STAT_UE_COUNT, MEM_CODE_STAT_UE, MEM_CODE_STAT_CE] },
  { base := 0x400c0100, fields := [SCRUB_CTRL_EN] },
  { base := 0x400c0104, fields := [SCRUB_CTRL2_EN] },
  { base := 0x400c0200, fields := [CARDING_STAT_BANK, CARDING_STAT_ROW, CARDING_STAT_SPARE, CARDING_STAT_ALGO, CARDING_STAT_BG, CARDING_STAT_PRESERVE, CARDING_STAT_BUSY, CARDING_STAT_FAULT] }]

/-- Registers of the map, part 5. -/
def tablePart5 : List RegSpec := [
  { base := 0x400c0204, fields := [CARDING_PACE_PACE_US] },
  { base := 0x400c0300, fields := [REPAIR_SEL_BANK] },
  { base := 0x400c0310, s1 := 4, n1 := 8, fields := [REPAIR_ENT_USED, REPAIR_ENT_FUSE, REPAIR_ENT_BAD, REPAIR_ENT_ROW] },
  { base := 0x40080000, s1 := 128, n1 := 16, fields := [HEDDLE_CTRL_CATCH_LEN, HEDDLE_CTRL_AUTOCATCH, HEDDLE_CTRL_SPLIT, HEDDLE_CTRL_FLUSH, HEDDLE_CTRL_RESTART, HEDDLE_CTRL_EN] },
  { base := 0x40080004, s1 := 128, n1 := 16, fields := [HEDDLE_DIV_D] },
  { base := 0x40080008, s1 := 128, n1 := 16, fields := [HEDDLE_REGION_WRAP, HEDDLE_REGION_START, HEDDLE_REGION_LEN, HEDDLE_REGION_BASE] },
  { base := 0x4008000c, s1 := 128, n1 := 16, fields := [HEDDLE_SLOTMAP0_V] },
  { base := 0x40080010, s1 := 128, n1 := 16, fields := [HEDDLE_SLOTMAP1_V] },
  { base := 0x40080014, s1 := 128, n1 := 16, fields := [HEDDLE_SAFE_SAFE_OE, HEDDLE_SAFE_SAFE] },
  { base := 0x40080018, s1 := 128, n1 := 16, fields := [HEDDLE_STAT_PROG_REFUSED, HEDDLE_STAT_CLAIM_REFUSED, HEDDLE_STAT_ANG_OVR, HEDDLE_STAT_UNDERRUN, HEDDLE_STAT_RX_OVF, HEDDLE_STAT_TX_OVF, HEDDLE_STAT_RXFILL, HEDDLE_STAT_TXFILL, HEDDLE_STAT_PC, HEDDLE_STAT_FLAG, HEDDLE_STAT_FAULT, HEDDLE_STAT_STATE] },
  { base := 0x4008001c, s1 := 128, n1 := 16, fields := [HEDDLE_CNT_CRELOAD, HEDDLE_CNT_CNT] },
  { base := 0x40080020, s1 := 128, n1 := 16, fields := [HEDDLE_TLOAD_TLOAD] },
  { base := 0x40080024, s1 := 128, n1 := 16, fields := [HEDDLE_MASK0_V] },
  { base := 0x40080028, s1 := 128, n1 := 16, fields := [HEDDLE_PAT0_V] },
  { base := 0x4008002c, s1 := 128, n1 := 16, fields := [HEDDLE_MASK1_V] },
  { base := 0x40080030, s1 := 128, n1 := 16, fields := [HEDDLE_PAT1_V] },
  { base := 0x40080034, s1 := 128, n1 := 16, fields := [HEDDLE_TTARGET_V] },
  { base := 0x40080038, s1 := 128, n1 := 16, fields := [HEDDLE_TPERIOD_V] },
  { base := 0x4008003c, s1 := 128, n1 := 16, fields := [HEDDLE_TXQ_V] },
  { base := 0x40080040, s1 := 128, n1 := 16, fields := [HEDDLE_RXQ_V] },
  { base := 0x40080044, s1 := 128, n1 := 16, fields := [HEDDLE_EVT_EVENTS, HEDDLE_EVT_RXHIGH, HEDDLE_EVT_TXLOW, HEDDLE_EVT_WAKE_EN, HEDDLE_EVT_THREAD] },
  { base := 0x40080800, fields := [HEDDLE_BYPASS_RS485] },
  { base := 0x40080804, fields := [HEDDLE_DALI_STAT_SHORT1, HEDDLE_DALI_STAT_BUS1, HEDDLE_DALI_STAT_SHORT0, HEDDLE_DALI_STAT_BUS0] },
  { base := 0x40080808, fields := [HEDDLE_BLOCKSTAT_ECC] },
  { base := 0x4008080c, fields := [HEDDLE_RS485_STAT_SEEN1, HEDDLE_RS485_STAT_SEEN0, HEDDLE_RS485_STAT_FAULT1, HEDDLE_RS485_STAT_FAULT0] }]

/-- Registers of the map, part 6. -/
def tablePart6 : List RegSpec := [
  { base := 0x40080900, s1 := 64, n1 := 2, fields := [UART_CTRL_THREAD, UART_CTRL_WAKE_EN, UART_CTRL_ECHO, UART_CTRL_STOP2, UART_CTRL_PARITY, UART_CTRL_DATA8, UART_CTRL_RXFLUSH, UART_CTRL_TXFLUSH, UART_CTRL_EN] },
  { base := 0x40080904, s1 := 64, n1 := 2, fields := [UART_BAUD_BAUDDIV] },
  { base := 0x40080908, s1 := 64, n1 := 2, fields := [UART_DE_IDLE_BITS, UART_DE_LAG, UART_DE_LEAD] },
  { base := 0x4008090c, s1 := 64, n1 := 2, fields := [UART_TX_DATA] },
  { base := 0x40080910, s1 := 64, n1 := 2, fields := [UART_RX_VALID, UART_RX_BREAK, UART_RX_PARITY, UART_RX_FRAMING, UART_RX_DATA] },
  { base := 0x40080914, s1 := 64, n1 := 2, fields := [UART_STAT_IDLE_EVENT, UART_STAT_TX_OVF, UART_STAT_BREAK_SEEN, UART_STAT_OVERRUN, UART_STAT_PARITY_SEEN, UART_STAT_FRAMING_SEEN, UART_STAT_IDLE, UART_STAT_TX_BUSY, UART_STAT_RXFILL, UART_STAT_TXFILL] },
  { base := 0x40080918, s1 := 64, n1 := 2, fields := [UART_EVT_RXHIGH, UART_EVT_TXLOW] },
  { base := 0x40030000, fields := [LOOM_CTRL_AGEING, LOOM_CTRL_FLUSH_FDB, LOOM_CTRL_EN] },
  { base := 0x40030004, fields := [LOOM_STAT_FREE_CELLS, LOOM_STAT_POOL_EMPTY, LOOM_STAT_BAD_HANDLE, LOOM_STAT_DUP_FULL, LOOM_STAT_FDB_FULL] },
  { base := 0x40030100, s1 := 32, n1 := 9, fields := [LOOM_PORT_CFG_LEARN, LOOM_PORT_CFG_STRICT, LOOM_PORT_CFG_STATE, LOOM_PORT_CFG_DEF_PRIO, LOOM_PORT_CFG_INGRESS_FILTER, LOOM_PORT_CFG_ACCEPT, LOOM_PORT_CFG_PVID] },
  { base := 0x40030104, s1 := 32, n1 := 9, fields := [LOOM_PORT_CELLS_MAX, LOOM_PORT_CELLS_RESERVE] },
  { base := 0x40030108, s1 := 32, n1 := 9, fields := [LOOM_PORT_TCMAP_TC_MAP] },
  { base := 0x4003010c, s1 := 32, n1 := 9, fields := [LOOM_PORT_EGMAX_EGRESS_MAX] },
  { base := 0x40030110, s1 := 32, n1 := 9, fields := [LOOM_PORT_USED_QUEUED, LOOM_PORT_USED_HELD] },
  { base := 0x40030114, s1 := 32, n1 := 9, fields := [LOOM_PORT_WEIGHT_W7, LOOM_PORT_WEIGHT_W6, LOOM_PORT_WEIGHT_W5, LOOM_PORT_WEIGHT_W4, LOOM_PORT_WEIGHT_W3, LOOM_PORT_WEIGHT_W2, LOOM_PORT_WEIGHT_W1, LOOM_PORT_WEIGHT_W0] },
  { base := 0x40030240, fields := [LOOM_FDB_MACLO_V] },
  { base := 0x40030244, fields := [LOOM_FDB_MACHI_VID, LOOM_FDB_MACHI_MACHI] },
  { base := 0x40030248, fields := [LOOM_FDB_DATA_VALID, LOOM_FDB_DATA_STATIC, LOOM_FDB_DATA_PORTS] },
  { base := 0x4003024c, fields := [LOOM_FDB_CMD_BUSY, LOOM_FDB_CMD_GROUP, LOOM_FDB_CMD_OP] },
  { base := 0x40030250, fields := [LOOM_VLAN_SEL_VID] },
  { base := 0x40030254, fields := [LOOM_VLAN_DATA_UNTAG, LOOM_VLAN_DATA_MEMBER] },
  { base := 0x40030300, fields := [LOOM_RED_FORGET, LOOM_RED_MODE23, LOOM_RED_MODE01] },
  { base := 0x40030304, fields := [LOOM_DUPSTAT_FULL, LOOM_DUPSTAT_USED] },
  { base := 0x40030380, s1 := 4, n1 := 8, fields := [LOOM_N2CLAIM_EN, LOOM_N2CLAIM_ETYPE] },
  { base := 0x40030600, s1 := 32, n1 := 6, fields := [LOOM_NQ_CFG_WAKE_EN, LOOM_NQ_CFG_THREAD] }]

/-- Registers of the map, part 7. -/
def tablePart7 : List RegSpec := [
  { base := 0x40030604, s1 := 32, n1 := 6, fields := [LOOM_NQ_RXPOP_HANDLE] },
  { base := 0x40030608, s1 := 32, n1 := 6, fields := [LOOM_NQ_FREE_HANDLE] },
  { base := 0x4003060c, s1 := 32, n1 := 6, fields := [LOOM_NQ_TXCTL_TC, LOOM_NQ_TXCTL_PORTS] },
  { base := 0x40030610, s1 := 32, n1 := 6, fields := [LOOM_NQ_TX_HANDLE] },
  { base := 0x40030614, s1 := 32, n1 := 6, fields := [LOOM_NQ_CPOP_V] },
  { base := 0x40030618, s1 := 32, n1 := 6, fields := [LOOM_NQ_ALLOC_HANDLE] },
  { base := 0x4003061c, s1 := 32, n1 := 6, fields := [LOOM_NQ_ALLOCN_CELLS] },
  { base := 0x40031000, s1 := 2048, n1 := 6, fields := [LOOM_TG_CTRL_SWAP, LOOM_TG_CTRL_EN] },
  { base := 0x40031004, s1 := 2048, n1 := 6, fields := [LOOM_TG_BASENS_V] },
  { base := 0x40031008, s1 := 2048, n1 := 6, fields := [LOOM_TG_BASESECLO_V] },
  { base := 0x4003100c, s1 := 2048, n1 := 6, fields := [LOOM_TG_BASESECHI_V] },
  { base := 0x40031010, s1 := 2048, n1 := 6, fields := [LOOM_TG_CYCLE_CYCLE] },
  { base := 0x40031014, s1 := 2048, n1 := 6, fields := [LOOM_TG_LEN_LEN] },
  { base := 0x40031018, s1 := 2048, n1 := 6, fields := [LOOM_TG_STAT_SWAP_PENDING, LOOM_TG_STAT_ENTRY] },
  { base := 0x40031400, s1 := 2048, n1 := 6, s2 := 4, n2 := 256, fields := [LOOM_TG_ENT_GATES, LOOM_TG_ENT_INTERVAL] },
  { base := 0x40034000, s1 := 512, n1 := 6, fields := [LOOM_AG_CTRL_ABASE, LOOM_AG_CTRL_ASRC, LOOM_AG_CTRL_SWAP, LOOM_AG_CTRL_EN] },
  { base := 0x40034004, s1 := 512, n1 := 6, fields := [LOOM_AG_LEN_LEN] },
  { base := 0x40034008, s1 := 512, n1 := 6, fields := [LOOM_AG_STAT_SWAP_PENDING, LOOM_AG_STAT_ENTRY] },
  { base := 0x40034100, s1 := 512, n1 := 6, s2 := 4, n2 := 64, fields := [LOOM_AG_ENT_GATES, LOOM_AG_ENT_INTERVAL] },
  { base := 0x40038000, fields := [BOBBIN_CTRL_OVERWRITE, BOBBIN_CTRL_EN] },
  { base := 0x40038004, fields := [BOBBIN_BASE_BASE] },
  { base := 0x40038008, fields := [BOBBIN_SIZE_SIZE] },
  { base := 0x4003800c, fields := [BOBBIN_WR_WR] },
  { base := 0x40038010, fields := [BOBBIN_RD_RD] },
  { base := 0x40038014, fields := [BOBBIN_STAT_LOST_TOTAL, BOBBIN_STAT_STOPPED] }]

/-- Registers of the map, part 8. -/
def tablePart8 : List RegSpec := [
  { base := 0x40038100, s1 := 16, n1 := 16, fields := [BOBBIN_F_CFG_ETYPE_EN, BOBBIN_F_CFG_VID_EN, BOBBIN_F_CFG_EN, BOBBIN_F_CFG_VERDICT, BOBBIN_F_CFG_DIR, BOBBIN_F_CFG_PORTS] },
  { base := 0x40038104, s1 := 16, n1 := 16, fields := [BOBBIN_F_MATCH_VID, BOBBIN_F_MATCH_ETYPE] },
  { base := 0x40038108, s1 := 16, n1 := 16, fields := [BOBBIN_F_SAMPLE_SAMPLE] },
  { base := 0x40040000, s1 := 4096, n1 := 6, fields := [MAC_CFG_MAX_FRAME, MAC_CFG_MIN_FRAME, MAC_CFG_ONE_STEP, MAC_CFG_TX_CSUM, MAC_CFG_PAUSE_HONOUR, MAC_CFG_AN_EN, MAC_CFG_MODE] },
  { base := 0x40040004, s1 := 4096, n1 := 6, fields := [MAC_LINK_LINK_DOWNS, MAC_LINK_LOOP, MAC_LINK_SPEED_REFUSED, MAC_LINK_HALF_REFUSED, MAC_LINK_AN_DONE, MAC_LINK_SPEED, MAC_LINK_UP] },
  { base := 0x40040008, s1 := 4096, n1 := 6, fields := [MAC_HOLD_LINKUP_HOLD] },
  { base := 0x4004000c, s1 := 4096, n1 := 6, fields := [MAC_PSTK_PSTK] },
  { base := 0x40040010, s1 := 4096, n1 := 6, fields := [MAC_PSTK_ACC_PSTK_ACC] },
  { base := 0x40040014, s1 := 4096, n1 := 6, fields := [MAC_SERDES_LOOPBACK, MAC_SERDES_DEEMPH, MAC_SERDES_SWING, MAC_SERDES_RX_INV, MAC_SERDES_TX_INV] },
  { base := 0x40040018, s1 := 4096, n1 := 6, fields := [MAC_STAT_CQ_LOST] },
  { base := 0x40045100, fields := [T1L_CFG_VF, T1L_CFG_AUTO_DIAG, T1L_CFG_ROLE, T1L_CFG_TX_LEVEL] },
  { base := 0x40045104, fields := [T1L_STAT_LEVEL_2V4, T1L_STAT_MASTER, T1L_STAT_SQI] },
  { base := 0x40045108, fields := [T1L_DIAG_DISTANCE, T1L_DIAG_RESULT, T1L_DIAG_BUSY, T1L_DIAG_RUN] },
  { base := 0x40050000, s1 := 32768, n1 := 2, fields := [CAN_CTRL_THREAD, CAN_CTRL_WAKE_EN, CAN_CTRL_TDC_EN, CAN_CTRL_BRS_OFF, CAN_CTRL_TT, CAN_CTRL_LOOPBACK, CAN_CTRL_MON, CAN_CTRL_AUTO_RECOVER, CAN_CTRL_SLEEP, CAN_CTRL_RECOVER, CAN_CTRL_STOP, CAN_CTRL_START] },
  { base := 0x40050004, s1 := 32768, n1 := 2, fields := [CAN_NBT_NSJW, CAN_NBT_NTSEG2, CAN_NBT_NTSEG1, CAN_NBT_NBRP] },
  { base := 0x40050008, s1 := 32768, n1 := 2, fields := [CAN_DBT_TDCO, CAN_DBT_DSJW, CAN_DBT_DTSEG2, CAN_DBT_DTSEG1, CAN_DBT_DBRP] },
  { base := 0x4005000c, s1 := 32768, n1 := 2, fields := [CAN_STAT_BUS_FAULT, CAN_STAT_LEC, CAN_STAT_BUSOFF_SEEN, CAN_STAT_MISSED_ANY, CAN_STAT_CYC_SKIP, CAN_STAT_CYC_OVERLAP, CAN_STAT_REF_LOST, CAN_STAT_TXD_TIMEOUT, CAN_STAT_WAKE_SEEN, CAN_STAT_CFG_REFUSED, CAN_STAT_RTR_DROPPED, CAN_STAT_UNMATCHED, CAN_STAT_WARNING, CAN_STAT_STATE] },
  { base := 0x40050010, s1 := 32768, n1 := 2, fields := [CAN_ERR_BUSOFFS, CAN_ERR_REC, CAN_ERR_TEC] },
  { base := 0x40050020, s1 := 32768, n1 := 2, fields := [CAN_WCFG_DLC, CAN_WCFG_DLC_EN, CAN_WCFG_IDE, CAN_WCFG_MODE] },
  { base := 0x40050024, s1 := 32768, n1 := 2, fields := [CAN_WID_WAKE_ID] },
  { base := 0x40050028, s1 := 32768, n1 := 2, fields := [CAN_WIDM_WAKE_ID_IGNORE] },
  { base := 0x4005002c, s1 := 32768, n1 := 2, fields := [CAN_WDMASK0_V] },
  { base := 0x40050030, s1 := 32768, n1 := 2, fields := [CAN_WDMASK1_V] },
  { base := 0x40050040, s1 := 32768, n1 := 2, fields := [CAN_TTCFG_TX_WINDOW, CAN_TTCFG_REF_EN, CAN_TTCFG_REF_MO, CAN_TTCFG_COLS, CAN_TTCFG_CYCLES, CAN_TTCFG_SRC] },
  { base := 0x40050044, s1 := 32768, n1 := 2, fields := [CAN_TTCYCLE_CYCLE_NS] }]

/-- Registers of the map, part 9. -/
def tablePart9 : List RegSpec := [
  { base := 0x40050048, s1 := 32768, n1 := 2, fields := [CAN_TTBASENS_V] },
  { base := 0x4005004c, s1 := 32768, n1 := 2, fields := [CAN_TTBASESECLO_V] },
  { base := 0x40050050, s1 := 32768, n1 := 2, fields := [CAN_TTBASESECHI_V] },
  { base := 0x40050054, s1 := 32768, n1 := 2, fields := [CAN_TTCYCBT_V] },
  { base := 0x40050058, s1 := 32768, n1 := 2, fields := [CAN_TTSTAT_RUNNING, CAN_TTSTAT_COLUMN, CAN_TTSTAT_CYCLE] },
  { base := 0x40050080, s1 := 32768, n1 := 2, s2 := 4, n2 := 32, fields := [CAN_TTCOL_MARK] },
  { base := 0x40051000, s1 := 32768, n1 := 2, s2 := 128, n2 := 128, fields := [CAN_MO_CFG_WAKE, CAN_MO_CFG_TT_ONLY, CAN_MO_CFG_ONESHOT, CAN_MO_CFG_DLC, CAN_MO_CFG_BRS, CAN_MO_CFG_FDF, CAN_MO_CFG_IDE, CAN_MO_CFG_DIR] },
  { base := 0x40051004, s1 := 32768, n1 := 2, s2 := 128, n2 := 128, fields := [CAN_MO_ID_ID] },
  { base := 0x40051008, s1 := 32768, n1 := 2, s2 := 128, n2 := 128, fields := [CAN_MO_CTL_RXESI, CAN_MO_CTL_RXBRS, CAN_MO_CTL_RXFDF, CAN_MO_CTL_RXDLC, CAN_MO_CTL_SEQ, CAN_MO_CTL_HELD, CAN_MO_CTL_TX_FAIL, CAN_MO_CTL_TX_OK, CAN_MO_CTL_LOST, CAN_MO_CTL_NEWDAT, CAN_MO_CTL_TXCANCEL, CAN_MO_CTL_TXSET, CAN_MO_CTL_TXRQ] },
  { base := 0x4005100c, s1 := 32768, n1 := 2, s2 := 128, n2 := 128, fields := [CAN_MO_TS_TS] },
  { base := 0x40051010, s1 := 32768, n1 := 2, s2 := 128, n2 := 128, fields := [CAN_MO_ANG_ANG] },
  { base := 0x40051040, s1 := 128, n1 := 128, s2 := 4, n2 := 16, fields := [CAN_MO0_DATA_V] },
  { base := 0x40059040, s1 := 128, n1 := 128, s2 := 4, n2 := 16, fields := [CAN_MO1_DATA_V] },
  { base := 0x40056000, s1 := 32768, n1 := 2, s2 := 4, n2 := 2048, fields := [CAN_CELL_MO, CAN_CELL_MISSED, CAN_CELL_RESEND, CAN_CELL_TYPE] },
  { base := 0x40060000, fields := [PWM_STAT_TRIP_SEEN, PWM_STAT_GDFLT_SEEN, PWM_STAT_GDFLT, PWM_STAT_PARKED] },
  { base := 0x40060004, fields := [PWM_TRIPSEL_SEL] },
  { base := 0x40060008, fields := [PWM_TRIPACT_ACT] },
  { base := 0x4006000c, fields := [PWM_GDCFG_FILT, PWM_GDCFG_POL] },
  { base := 0x40060100, s1 := 64, n1 := 4, fields := [PWM_G_CFG_ROT_N, PWM_G_CFG_STOP, PWM_G_CFG_ANG_MODE, PWM_G_CFG_ROT_EN, PWM_G_CFG_EQ_EN, PWM_G_CFG_PSKIP, PWM_G_CFG_DE_EN, PWM_G_CFG_SYNC_SRC, PWM_G_CFG_KIND, PWM_G_CFG_PHASES] },
  { base := 0x40060104, s1 := 64, n1 := 4, fields := [PWM_G_PERIOD_PERIOD] },
  { base := 0x40060108, s1 := 64, n1 := 4, fields := [PWM_G_DEAD_DT_LH, PWM_G_DEAD_DT_HL] },
  { base := 0x4006010c, s1 := 64, n1 := 4, fields := [PWM_G_MINON_MIN_ON] },
  { base := 0x40060110, s1 := 64, n1 := 4, fields := [PWM_G_SYNC_V] },
  { base := 0x40060114, s1 := 64, n1 := 4, fields := [PWM_G_SYNCPER_V] },
  { base := 0x40060118, s1 := 64, n1 := 4, fields := [PWM_G_CMD_CLEAR, PWM_G_CMD_PARK, PWM_G_CMD_STOP, PWM_G_CMD_START] }]

/-- Registers of the map, part 10. -/
def tablePart10 : List RegSpec := [
  { base := 0x4006011c, s1 := 64, n1 := 4, fields := [PWM_G_STAT_ACTIVE, PWM_G_STAT_DE_ACTIVE, PWM_G_STAT_SB_INHIBIT, PWM_G_STAT_SYNCED, PWM_G_STAT_FAULT, PWM_G_STAT_STATE] },
  { base := 0x40060400, s1 := 16, n1 := 8, fields := [PWM_PH_DUTY_DUTY] },
  { base := 0x40060404, s1 := 16, n1 := 8, fields := [PWM_PH_TRIM_TRIM] },
  { base := 0x40060408, s1 := 16, n1 := 8, fields := [PWM_PH_DE_DE_DELAY] },
  { base := 0x4006040c, s1 := 16, n1 := 8, fields := [PWM_PH_STAT_CBC, PWM_PH_STAT_STATE] },
  { base := 0x40060800, fields := [PCP_CTRL_DOUBLE_TRAP, PCP_CTRL_HALTED, PCP_CTRL_RUNNING] },
  { base := 0x40060804, fields := [PCP_WAKE_WAKE] },
  { base := 0x40070000, fields := [ADC_CHCFG_VSEN_MED, ADC_CHCFG_ISEN_MED, ADC_CHCFG_ISEN_DIFF] },
  { base := 0x40070004, fields := [ADC_BLANK_BLANK] },
  { base := 0x40070008, fields := [ADC_CAL_OFF3, ADC_CAL_OFF2, ADC_CAL_OFF1, ADC_CAL_OFF0] },
  { base := 0x40070100, s1 := 32, n1 := 8, fields := [ADC_SEQ_CFG_COUNT, ADC_SEQ_CFG_TIDX, ADC_SEQ_CFG_POS, ADC_SEQ_CFG_PHASE, ADC_SEQ_CFG_TRIG] },
  { base := 0x40070104, s1 := 32, n1 := 8, fields := [ADC_SEQ_CH_CH] },
  { base := 0x40070108, s1 := 32, n1 := 8, fields := [ADC_SEQ_TT_V] },
  { base := 0x4007010c, s1 := 32, n1 := 8, fields := [ADC_SEQ_TP_V] },
  { base := 0x40070110, s1 := 32, n1 := 8, fields := [ADC_SEQ_GO_GO] },
  { base := 0x40070114, s1 := 32, n1 := 8, fields := [ADC_SEQ_STAT_INVALID, ADC_SEQ_STAT_OVR, ADC_SEQ_STAT_DONE] },
  { base := 0x40070400, s1 := 32, n1 := 8, s2 := 4, n2 := 8, fields := [ADC_SEQ_RES_VALID, ADC_SEQ_RES_CODE] },
  { base := 0x40070800, s1 := 4, n1 := 8, fields := [CMP_OC_DAC] },
  { base := 0x40070820, s1 := 4, n1 := 8, fields := [CMP_ZCD_DAC] },
  { base := 0x40090000, fields := [FAN_CFG_EN, FAN_CFG_DRIVE_MODE, FAN_CFG_SENSOR_MODE, FAN_CFG_POLE_PAIRS] },
  { base := 0x40090004, fields := [FAN_CMD_CLEAR] },
  { base := 0x40090008, fields := [FAN_DUTY_IREF, FAN_DUTY_DUTY] },
  { base := 0x4009000c, fields := [FAN_ILIM_CURRENT_LIMIT_MA] },
  { base := 0x40090010, fields := [FAN_FALLBACK_FALLBACK_DUTY] },
  { base := 0x40090014, fields := [FAN_STAT_HALL_FAULT, FAN_STAT_SHORT_SEEN, FAN_STAT_UNDERSPEED, FAN_STAT_LEADS_SWAPPED, FAN_STAT_ATTEMPTS, FAN_STAT_FAULT, FAN_STAT_STATE] }]

/-- Registers of the map, part 11. -/
def tablePart11 : List RegSpec := [
  { base := 0x40090018, fields := [FAN_SPEED_CURRENT_MA, FAN_SPEED_RPM] },
  { base := 0x4009001c, fields := [FAN_VHV_VHV_MV] },
  { base := 0x40090100, fields := [THERMAL_GUARD_ASSERTIONS, THERMAL_GUARD_HELD, THERMAL_GUARD_ACK, THERMAL_GUARD_COOLING, THERMAL_GUARD_CAUSE, THERMAL_GUARD_ASSERTED] },
  { base := 0x40090104, fields := [THERMAL_GUARD_TS_TS] },
  { base := 0x40090110, s1 := 4, n1 := 8, fields := [THERMAL_T_FAULT, THERMAL_T_VALID, THERMAL_T_TEMP] },
  { base := 0x400a0000, fields := [RTC_CNTLO_V] },
  { base := 0x400a0004, fields := [RTC_CNTHI_V] },
  { base := 0x400a0008, fields := [RTC_SETLO_V] },
  { base := 0x400a000c, fields := [RTC_SETHI_V] },
  { base := 0x400a0010, fields := [RTC_CMD_SUMMER_OFF, RTC_CMD_SUMMER_ON, RTC_CMD_SET] },
  { base := 0x400a0014, fields := [RTC_TRIM_TRIM] },
  { base := 0x400a0018, fields := [RTC_LOCAL_OFFSET, RTC_LOCAL_DST] },
  { base := 0x400a001c, fields := [RTC_ALARMLO_V] },
  { base := 0x400a0020, fields := [RTC_ALARMHI_ARMED, RTC_ALARMHI_V] },
  { base := 0x400a0024, fields := [RTC_PERIOD_PERIOD] },
  { base := 0x400a0030, fields := [BACKUP_STAT_SWITCHOVERS, BACKUP_STAT_SUMMER_REJECT, BACKUP_STAT_LATE, BACKUP_STAT_PER_FIRED, BACKUP_STAT_ALARM_FIRED, BACKUP_STAT_WRAP, BACKUP_STAT_OSC_FAIL, BACKUP_STAT_BAT_ABSENT, BACKUP_STAT_BAT_LOW, BACKUP_STAT_BK_LOST, BACKUP_STAT_RTC_VALID, BACKUP_STAT_ON_BATTERY] },
  { base := 0x400a0034, fields := [BACKUP_VBAT_VBAT_MV] },
  { base := 0x400a0200, s1 := 4, n1 := 16, fields := [BACKUP_RET_RET] },
  { base := 0x400b0000, s1 := 64, n1 := 2, fields := [GL_STAT_RETRAINS, GL_STAT_REPLAYED, GL_STAT_CRC_ERR, GL_STAT_STATE] },
  { base := 0x400b0004, s1 := 64, n1 := 2, fields := [GL_DELAY_DELAY] },
  { base := 0x400b0100, s1 := 4, n1 := 8, fields := [GE_STAT_EN, GE_STAT_STATE] },
  { base := 0x400b0200, fields := [GRILOR_ENUM_UPSTREAM_GL0, GRILOR_ENUM_ID_CONFLICT, GRILOR_ENUM_MY_ID, GRILOR_ENUM_WORKERS, GRILOR_ENUM_ENUM_STATE] },
  { base := 0x400b0300, fields := [GRILOR_TWIN_SIDE_CONFLICT, GRILOR_TWIN_OWN_FAULT, GRILOR_TWIN_HB_MISSES, GRILOR_TWIN_OWN_SENSE, GRILOR_TWIN_OWN_DRIVE, GRILOR_TWIN_MIRROR, GRILOR_TWIN_STATE] },
  { base := 0x400b0304, fields := [GRILOR_TWCMD_HANDOVER] }]

/-- Every register of the spec, in the order of its chapters. -/
def table : List RegSpec :=
  tablePart1 ++ tablePart2 ++ tablePart3 ++ tablePart4 ++ tablePart5 ++ tablePart6 ++ tablePart7 ++ tablePart8 ++ tablePart9 ++ tablePart10 ++ tablePart11

end Sys2Proof.Machine.Reg
end

