-- ==== Sys2Proof/Machine/State.lean ====
section
/-! DEFINITION. The state of the ZOA-4416 as plain data, its faults and refusals, and the state right after reset. -/
namespace Sys2Proof.Machine

/-- Why the machine stops with a fault. `noSuchWord`: a memory command names an offset beyond the words of its bank (Table 07-2);
raised by MEMORY_READ, WHOLE_WORD_WRITE and PARTIAL_WRITE (safe: the machine stops where no word exists). -/
inductive Fault where
  | noSuchWord (bank offset : Nat)
  deriving DecidableEq, Repr

/-- Why a command is refused. `notModelled`: exec has no meaning for the command yet (safe: the machine stops). -/
inductive Refusal where
  | notModelled (mnemonic : String)
  deriving DecidableEq, Repr

/-- The whole state of the block. `regs` holds every Expert register field that differs from its reset value, keyed by
register address × 32 + low bit; the other fields hold what the spec gives the machine beside the registers; `flash` lists the bytes
of the xSPI flash that are not 0xFF; `marks` the cycles at which the intervals that the spec bounds began. `free` counts the free values drawn (the model's own), `pending` the commands that wait, first
in, first out. -/
structure State where
  regs : Store Nat := []
  cycle : Nat := 0
  free : Nat := 0
  marks : Store Nat := []
  fuse : Nat := 0
  link : DieLink := {}
  linkAnswer : LinkAnswer := .none
  pow : Power := {}
  od : OdState := {}
  tk : TicketState := {}
  jr : JournalState := {}
  flash : Store Byte := []
  trd : TreadleState := {}
  time : TimeState := {}
  mem : MemState := {}
  threads : Store (Option Thread) := []
  img : ImageState := {}
  hed : HeddleState := {}
  loom : LoomState := {}
  can : Store CanUnit := []
  pwm : PwmState := {}
  fan : FanState := {}
  bk : BackupState := {}
  gl : GrilorState := {}
  readData : Word := 0
  pending : List Instr := []
  deriving DecidableEq, Repr

/-- The outcome of a command. -/
abbrev Out := Host.Outcome State Fault Refusal

/-- The machine right after reset (R16): wake step W8 of the first wake after first power, every register at its Reset
column, memory holding NIL zeros (R55), nothing staged, no command waiting. -/
def State.reset : State := {}

end Sys2Proof.Machine
end

