-- ==== Sys2Proof/Machine/Ops.lean ====
section
/-! DEFINITION. The named operations that every family of commands shares: register fields, free values, the clocks and
ANG, object-dictionary values, events, journal staging and ticket slots. -/
namespace Sys2Proof.Machine

/-! ### Fuses -/

/-- The fuse field [lo + w - 1 : lo] (R99, Table 02-5). -/
def State.fuseField (s : State) (lo w : Nat) : Nat := fieldOf s.fuse lo w

/-- DEVICE_ID (Table 02-5). -/
def State.deviceId (s : State) : Nat := s.fuseField 0 128

/-! ### Register fields -/

/-- The value a register field holds. -/
def State.rd (s : State) (f : Field) : Nat := s.regs.get f.reset f.key

/-- Set a register field, in its width. -/
def State.wr (s : State) (f : Field) (v : Nat) : State :=
  { s with regs := s.regs.set f.reset f.key (v % 2 ^ f.w) }

/-- Whether a one-bit field is set. -/
def State.on (s : State) (f : Field) : Bool := decide (s.rd f ≠ 0)

/-- Add 1 to a field, saturating at its largest value. -/
def State.inc (s : State) (f : Field) : State := s.wr f (satInc (2 ^ f.w - 1) (s.rd f))

/-- Set a field where a condition holds. -/
def State.wrIf (s : State) (c : Bool) (f : Field) (v : Nat) : State := if c then s.wr f v else s

/-- Bit `k` of a field. -/
def State.bit (s : State) (f : Field) (k : Nat) : Bool := bitOf (s.rd f) k

/-- Set bit `k` of a field to `b`. -/
def State.wrBit (s : State) (f : Field) (k : Nat) (b : Bool) : State := s.wr f (setBit (s.rd f) k b)

/-! ### Free values -/

/-- The free 32-bit value of the present count, and the state with the count advanced. -/
def State.drawWord (s : State) : Word × State := (Config.freeWord s.free, { s with free := s.free + 1 })

/-- The intervals whose length the spec bounds and that State times: off time (R111, R116, R136), S4 (R133), the block after a failed
unlock (R316), the time since the mount (R359), since RUN (R1003), since the fan entered its state, since the last FAN.DUTY write (R897),
since the fan was last not underspeed or was (R902), cooling and loss of the main feed (R915, R916), the last ENUM (R985), the request of a
GATEWAY ticket (R991), the oldest MIRROR without acknowledgement (R1005), the pause of a port (R730), the last bus fault of a CAN channel
(R809), its last column mark and cycle start (R798, R799). -/
inductive Mark where
  | dieOff | s4 | unlockBlock | mount | run | fan | fanDuty | fanFast | fanSlow | cooling | feedLost | enum | gateway | mirror
  | beat | pause (p : Nat) | busFault (n : Nat) | ttMark (n : Nat) | ttCycle (n : Nat) | glLock (i : Nat) | alive (k : Nat)
  deriving DecidableEq, Repr

/-- The key of a mark. -/
def Mark.key : Mark → Nat
  | .dieOff => 0 | .s4 => 1 | .unlockBlock => 2 | .mount => 3 | .run => 4 | .fan => 5 | .fanDuty => 6 | .fanFast => 7 | .fanSlow => 8
  | .cooling => 9 | .feedLost => 10 | .enum => 11 | .gateway => 12 | .mirror => 13 | .beat => 14
  | .pause p => 8 * p + 16 | .busFault n => 8 * n + 17 | .ttMark n => 8 * n + 18 | .ttCycle n => 8 * n + 19 | .glLock i => 8 * i + 20
  | .alive k => 8 * k + 21

/-- An interval begins now. -/
def State.mark (s : State) (m : Mark) : State := { s with marks := s.marks.set 0 m.key s.cycle }

/-- Whether `n` SCLK cycles have passed since an interval began. -/
def State.passed (s : State) (m : Mark) (n : Nat) : Bool := decide (s.marks.get 0 m.key + n ≤ s.cycle)

/-- A millisecond in SCLK cycles. -/
def msCycles : Nat := 3000000

/-- The free choice of the present count, and the state with the count advanced. -/
def State.drawBool (s : State) : Bool × State := (Config.freeBool s.free, { s with free := s.free + 1 })

/-! ### Power state -/

/-- The power state, codes of R140: 0 OFF, 1 BACKUP, 2 LISTEN, 3 WAKE, 4 RUN, 5 LIMP, 6 SHUTDOWN. -/
def State.pstate (s : State) : Nat := s.rd Reg.SYS_PSTATE_STATE

/-- The shutdown step in progress, 0 outside SHUTDOWN (Table 02-16). -/
def State.sdStep (s : State) : Nat := s.rd Reg.SYS_PSTATE_SDSTEP

/-- Whether the Treadle, the domains, the Loom and the Shuttles run (stopped in LIMP, R121). -/
def State.running (s : State) : Bool := s.pstate == 4 || (s.pstate == 6 && !s.pow.startedLimp)

/-- Whether the device is in LIMP, in its set-up, or in a shutdown that began in LIMP (R120, R121). -/
def State.limping (s : State) : Bool := s.pstate == 5 || (s.pstate == 3 && s.pow.limp) || (s.pstate == 6 && s.pow.startedLimp)

/-- The wake step in progress of state WAKE, 0 elsewhere and between attempts. -/
def State.wakeAt (s : State) : Nat := if s.pstate = 3 && !s.pow.waitRetry then s.pow.wakeStep else 0

/-- Whether the mount of this wake is over (R371). -/
def State.mountOver (s : State) : Bool := s.jr.mountSeq != 0 || s.jr.noJournal || s.jr.readOnly

/-- The lifecycle, 0 BLANK to 4 RMA (R101, FUSE.STATUS.LIFECYCLE). -/
def State.lifecycle (s : State) : Nat := s.rd Reg.FUSE_STATUS_LIFECYCLE

/-- The strap field [lo + w - 1 : lo] of the accepted value (Table 02-2). -/
def State.strap (s : State) (lo w : Nat) : Nat := fieldOf (s.rd Reg.STRAP_SAMPLED_STRAP) lo w

/-- The role: 0 standalone, 1 manager, 2 worker, 3 twin (Table 02-2). -/
def State.role (s : State) : Nat := s.strap 3 2

/-- The boot source after R94: 0 flash, 1 host, 2 Grilor, 3 safe ROM. -/
def State.boot (s : State) : Nat := if s.on Reg.STRAP_SAMPLED_CONFLICT then 3 else s.strap 6 2

/-- Whether only the safe ROM runs (R95; lifecycles BLANK, VENDOR and RMA of Table 02-6). -/
def State.safeRom (s : State) : Bool := s.boot == 3 || s.lifecycle < 2 || s.lifecycle ≥ 4

/-- Whether the Loom, the networks and every client but the host stay off: in LIMP and under safe ROM (R95, R121). -/
def State.netsOff (s : State) : Bool := s.safeRom || s.limping

/-- Whether the digital die runs: from W6 of an attempt on (Table 02-11) and in RUN, LIMP and SHUTDOWN. -/
def State.dieOn (s : State) : Bool := decide (4 ≤ s.pstate) || decide (6 ≤ s.wakeAt)

/-- Whether the Weaver executes: the digital die runs, and no lockstep mismatch has halted the cores (R47, R83). -/
def State.weaverOn (s : State) : Bool := s.dieOn && !s.pow.weaverHalted

/-! ### Answers and the die link (R33 to R36) -/

/-- Record the code of the last OD access (Table 05-5). -/
def State.answer (s : State) (code : Nat) : State := { s with od := { s.od with answer := { s.od.answer with code := code } } }

/-- Whether an address lies in a block of the companion die (R33). -/
def companion (a : Nat) : Bool := decide (0x40090000 ≤ a) && decide (a < 0x400B0000)

/-- Whether both lanes have failed (R36). -/
def State.dlDown (s : State) : Bool := s.on Reg.SYS_DLSTAT_DOWN

/-- An access to the companion die that fails with LINK_DOWN changes nothing there (R36). -/
def State.linkFails (s : State) : State := { s with linkAnswer := .linkDown }.answer 0x17

/-- What a command does that reaches the companion die over the die link. -/
def State.overLink (s : State) (f : State → State) : State := if s.dlDown then s.linkFails else f s

/-! ### Clocks (R216, R218) and ANG (R163) -/

/-- `n / d` rounded to the nearest integer, halves away from zero. -/
def roundDiv (n d : Int) : Int := if 0 ≤ n then (2 * n + d) / (2 * d) else -((2 * (-n) + d) / (2 * d))

/-- The units of a clock in one nanosecond: thirds of a nanosecond with 48 fraction bits. -/
def unitsPerNs : Nat := 3 * 2 ^ 48

/-- The whole nanoseconds of a clock value. -/
def clockNs (c : Nat) : Nat := c / unitsPerNs

/-- The seconds of a clock value. -/
def clockSec (c : Nat) : Nat := clockNs c / 1000000000

/-- The nanoseconds within the second of a clock value. -/
def clockSub (c : Nat) : Nat := clockNs c % 1000000000

/-- Short time of a clock value: nanoseconds modulo 2^32 (R218). -/
def shortOf (c : Nat) : Nat := clockNs c % 2 ^ 32

/-- ANG: the upper 32 bits of the phase accumulator (R164). -/
def State.ang (s : State) : Nat := s.trd.acc / 2 ^ 32 % 2 ^ 32

/-- ANG in the SCLK cycle `t`, from the newest stretch of constant INC that had begun by then; before the oldest one kept, and where
none is kept, at the present INC. -/
def State.angAt (s : State) (t : Nat) : Nat :=
  if s.cycle ≤ t then s.ang
  else match s.trd.segs.find? (fun g => decide (g.cycle ≤ t)) with
    | some g => (g.acc + (t - g.cycle) * g.inc) / 2 ^ 32 % 2 ^ 32
    | none =>
      let g := s.trd.segs.getLast?.getD { cycle := s.cycle, acc := s.trd.acc, inc := s.rd Reg.TREADLE_INC_INC }
      (((g.acc : Int) - ((g.cycle - t) * g.inc : Nat)) % (2 ^ 64 : Nat)).toNat / 2 ^ 32 % 2 ^ 32

/-- ANG `k` SCLK cycles ago. -/
def State.angBack (s : State) (k : Nat) : Nat := s.angAt (s.cycle - k)

/-! ### Object-dictionary values that no register holds -/

/-- The key of an entry: index × 256 + sub-index (the value of an ODREF, Table 01-4). -/
def odKey (index sub : Nat) : Nat := index * 256 + sub

/-- The number an entry holds, `d` where it stands at its default. -/
def State.odN (s : State) (index sub d : Nat) : Nat :=
  match s.od.vals.get none (odKey index sub) with
  | some (.scalar _ v) => v
  | _ => d

/-- Set the value of an entry that no register holds. -/
def State.odPut (s : State) (index sub : Nat) (v : OdVal) : State :=
  { s with od := { s.od with vals := s.od.vals.set none (odKey index sub) (some v) } }

/-- Set a UINT entry that no register holds. -/
def State.odPutU (s : State) (index sub v : Nat) : State := s.odPut index sub (.scalar .uint (v % 2 ^ 32))

/-- Add 1 to a UINT entry, saturating at `hi`. -/
def State.odInc (s : State) (index sub hi : Nat) : State :=
  s.odPutU index sub (satInc hi (s.odN index sub 0))

/-! ### Journal staging (R374 to R377) -/

/-- The value length of an item (R1113): 4 for a scalar, 1 for BOOL, the length of a BYTES value. -/
def OdVal.len : OdVal → Nat
  | .scalar .bool _ => 1
  | .scalar _ _ => 4
  | .bytes b => b.length

/-- The bytes of a value on a byte-oriented reach (R293). -/
def OdVal.plain : OdVal → List Byte
  | .scalar .bool v => leBytes 1 v
  | .scalar _ v => leBytes 4 v
  | .bytes b => b

/-- The LENGTH of a record body (Table 06-12). -/
def JBody.len : JBody → Nat
  | .boltHead _ | .mount _ | .retire _ | .switch _ => 4
  | .value _ _ _ _ items => 12 + (items.map (fun e => 7 + e.2.len)).sum
  | .admission _ _ _ params => 8 + params.length
  | .step _ _ _ _ | .final _ _ _ _ _ | .shutdown _ _ _ | .resume _ _ => 12
  | .fail _ _ _ => 8
  | .repair _ _ _ _ => 5
  | .event _ => 24
  | .other _ n => n

/-- The bytes a record occupies: 16 + LENGTH, rounded up to a multiple of 16 (R365). -/
def JBody.size (b : JBody) : Nat := (16 + b.len + 15) / 16 * 16

/-- The bytes of a list of records. -/
def bodiesSize (l : List JBody) : Nat := (l.map JBody.size).sum

/-- The maximum page program time in use, in microseconds (R374). -/
def State.tppUs (s : State) : Nat :=
  let o := s.odN 0x2500 0x0E 0
  if o = 0 then s.jr.tppSfdpUs else o

/-- STAGING_LIMIT of R374. -/
def State.stagingLimit (s : State) : Nat := min 8192 ((6800 / s.tppUs - 3) * 256)

/-- Whether the journal takes records: not NO_JOURNAL (R386) and not mounted read-only (R388). -/
def State.journalOn (s : State) : Bool := !s.jr.noJournal && !s.jr.readOnly

/-- Whether the shutdown has entered S4, from which the staging area takes no record (R377). -/
def State.inS4 (s : State) : Bool := s.pstate == 6 && 4 ≤ s.sdStep

/-- Whether the staging area has room for a record now (R374 to R377). -/
def State.stagingRoom (s : State) (b : JBody) : Bool :=
  !s.inS4 && (s.jr.staging.isEmpty || bodiesSize s.jr.staging + b.size ≤ s.stagingLimit)

/-! ### Grilor links (R972 to R975): GL0 and GL1 are links 0 and 1, GE0 to GE7 links 2 to 9 -/

/-- The state of link `i`: 0 DOWN, 1 TRAIN, 2 UP (Table 17-2). -/
def State.glState (s : State) (i : Nat) : Nat :=
  if i < 2 then s.rd (Reg.GL_STAT_STATE.at i) else s.rd (Reg.GE_STAT_STATE.at (i - 2))

/-- Link `i` beside its registers. -/
def State.glink (s : State) (i : Nat) : GLink := s.gl.links.get {} i

/-- Put link `i`. -/
def State.setGlink (s : State) (i : Nat) (l : GLink) : State :=
  { s with gl := { s.gl with links := s.gl.links.set {} i l } }

/-- The class of a frame (R975): 0 goes first. -/
def GBody.cls : GBody → Nat
  | .heartbeat .. | .handover | .sync .. | .delayReq | .delayResp _ | .cross .. => 0
  | .mirror _ | .mirrorAck => 1
  | _ => 2

/-- A frame placed behind the waiting frames of its class and of higher classes (R975). -/
def placeFrame (f : GFrame) : List GFrame → List GFrame
  | [] => [f]
  | g :: t => if f.body.cls < g.body.cls then f :: g :: t else g :: placeFrame f t

/-- Waiting frames leave while fewer than 16 are unacknowledged (R974). -/
def GLink.pump (l : GLink) (now : Nat) : GLink :=
  let n := 16 - l.unacked.length
  { l with unacked := l.unacked ++ l.waiting.take n, sent := l.sent ++ (l.waiting.take n).map (fun _ => now), waiting := l.waiting.drop n,
           txNext := (l.txNext + min n l.waiting.length) % 256 }

/-- Send a frame on link `i`; a link that is not UP sends none, nor does a Weaver that a lockstep mismatch has halted (R83). -/
def State.glSend (s : State) (i : Nat) (f : GFrame) : State :=
  if s.glState i ≠ 2 ∨ s.pow.weaverHalted then s
  else
    let l := s.glink i
    s.setGlink i ({ l with waiting := placeFrame f l.waiting }.pump s.cycle)

/-- The own worker ID, 0 of a manager or a twin (Table 17-3). -/
def State.myId (s : State) : Nat := if s.role = 2 then s.rd Reg.GRILOR_ENUM_MY_ID else 0

/-- Whether this device is the OWNER of a twin (Table 17-5). -/
def State.owner (s : State) : Bool := s.role == 3 && s.rd Reg.GRILOR_TWIN_STATE == 2

/-- Whether the peer twin holds TWIN_OWN (R999): the line reads low and this twin does not drive it. -/
def State.peerHolds (s : State) : Bool := s.on Reg.GRILOR_TWIN_OWN_SENSE && !s.on Reg.GRILOR_TWIN_OWN_DRIVE

/-- The owner mirrors a record that it stages (R1005); in MIRRORING its effect waits for the MIRROR_ACK. -/
def State.mirrorRecord (s : State) (b : JBody) : State :=
  let m := s.rd Reg.GRILOR_TWIN_MIRROR
  if !s.owner || m = 0 then s
  else
    let s1 := s.glSend 0 ⟨0xFF, 0, .mirror (.record b)⟩
    if m = 2 then
      let s2 := if s1.gl.mirrorOut.isEmpty then s1.mark .mirror else s1
      { s2 with gl := { s2.gl with mirrorOut := s2.gl.mirrorOut ++ [b] } }
    else s1

/-- The owner mirrors an RW write without waiting for an acknowledgement (R1005). -/
def State.mirrorRw (s : State) (items : List (Nat × OdVal)) : State :=
  if s.owner && s.rd Reg.GRILOR_TWIN_MIRROR == 2 then s.glSend 0 ⟨0xFF, 0, .mirror (.rwWrite items)⟩ else s

/-- Stage a record, or let it wait for room behind the records that wait already (R375). -/
def State.stageLocal (s : State) (b : JBody) : State :=
  if !s.journalOn then s
  else if s.jr.waiting.isEmpty && s.stagingRoom b then { s with jr := { s.jr with staging := s.jr.staging ++ [b] } }
  else { s with jr := { s.jr with waiting := s.jr.waiting ++ [b] } }

/-- Stage a record (R375); the owner of a twin mirrors it (R1005). -/
def State.stage (s : State) (b : JBody) : State := if s.journalOn then (s.stageLocal b).mirrorRecord b else s

/-! ### Host interrupt and events -/

/-- Set bit `k` of INTSTAT (R400). -/
def State.intBit (s : State) (k : Nat) : State := s.wrBit Reg.HOSTPORT_INTSTAT_INTSTAT k true

/-- Whether INT_N is low: INTSTAT AND INTEN is not zero (R400). -/
def State.intN (s : State) : Bool :=
  decide (s.rd Reg.HOSTPORT_INTSTAT_INTSTAT &&& s.rd Reg.HOSTPORT_INTEN_INTEN ≠ 0)

/-- Post an event (R378): it enters the ring of the newest 256 with device time and ANG, it is staged as an EVENT record,
and INTSTAT.EVENT is set. -/
def State.event (s : State) (code src : Nat) (data : List Nat) : State :=
  let e : Event := { code := code, src := src, sec := clockSec s.time.dt, ns := clockSub s.time.dt, ang := s.ang,
                     data := data }
  ({ s with tk := { s.tk with ring := (e :: s.tk.ring).take 256 } }.stage (.event e)).intBit 3

/-- The little-endian bytes of `n` as event data. -/
def evBytes (k n : Nat) : List Nat := (leBytes k n).map BitVec.toNat

/-! ### Tickets -/

/-- The ticket in slot `i`. -/
def State.ticket (s : State) (i : Nat) : Ticket := s.tk.slots.get {} i

/-- Put a ticket into slot `i`. -/
def State.setTicket (s : State) (i : Nat) (t : Ticket) : State :=
  { s with tk := { s.tk with slots := s.tk.slots.set {} i t } }

/-- A ticket handle: client [31:24], generation [23:8], slot [6:0] (Table 01-4, R340). -/
def handleWord (client gen slot : Nat) : Nat := client * 2 ^ 24 + gen * 2 ^ 8 + slot

/-- The handle of the ticket in slot `i`. -/
def State.handleOf (s : State) (i : Nat) : Nat := handleWord (s.ticket i).client (s.ticket i).gen i

/-- The lowest free slot (R339). -/
def State.freeSlot (s : State) : Option Nat :=
  (List.range 128).find? (fun i => (s.ticket i).state == .free)

/-- Whether a ticket's state is final (Table 06-3). -/
def TkState.isFinal : TkState → Bool
  | .done | .failed | .aborted | .indoubt => true
  | _ => false

/-- The slots that hold a ticket of context `c`, orphans not counted (R359). -/
def State.heldBy (s : State) (c : Nat) : List Nat :=
  (List.range 128).filter (fun i => (s.ticket i).state != .free && (s.ticket i).client == c && !(s.ticket i).orphan)

/-- The slots that hold orphans (R359). -/
def State.orphans (s : State) : List Nat :=
  (List.range 128).filter (fun i => (s.ticket i).state != .free && (s.ticket i).orphan)

/-- Pack the members of an OD_WRITE into VALUE bodies of at most 4 KiB, in member order (R342). -/
def packItems : List (Nat × OdVal) → List (Nat × OdVal) → List (List (Nat × OdVal))
  | cur, [] => if cur.isEmpty then [] else [cur]
  | cur, e :: rest =>
    if 12 + ((cur ++ [e]).map (fun x => 7 + x.2.len)).sum ≤ 4096 || cur.isEmpty then packItems (cur ++ [e]) rest
    else cur :: packItems [e] rest

/-- The first record of a ledgered ticket: its ADMIT record, or for OD_WRITE its first VALUE record (R346). -/
def firstRecord (h : Nat) (t : Ticket) : JBody :=
  if t.type = 1 then .value h 1 t.steps (t.steps = 1) ((packItems [] t.members).headD [])
  else .admission h t.type t.steps t.params

/-- Admit a ticket into the lowest free slot (R339, R340, R345): the handle is issued and a ledgered ticket's first record
is staged. `none` where no slot is free. -/
def State.admitTicket (s : State) (t : Ticket) : Option (State × Nat) :=
  match s.freeSlot with
  | none => none
  | some i =>
    let n := s.tk.counts.get 0 i
    let t' := { t with state := .queued, gen := s.jr.epoch * 1024 + n % 1024, order := s.tk.nextOrder,
                       firstStaged := t.ledgered }
    let h := handleWord t'.client t'.gen i
    let s1 : State := { s with tk := { s.tk with slots := s.tk.slots.set {} i t', counts := s.tk.counts.set 0 i (n + 1),
                                                 nextOrder := s.tk.nextOrder + 1 } }
    some (if t.ledgered then s1.stage (firstRecord h t') else s1, h)

/-- The Carding run of the ticket in slot `i`, where there is one, is over. -/
def State.cardEnd (s : State) (i : Nat) : State :=
  match s.mem.run with
  | some r =>
    if r.slot = i then
      (({ s with mem := { s.mem with run := none } }).wr (Reg.MEM_BANK_STAT_CARDING.at r.bank) 0).wr Reg.CARDING_STAT_BUSY 0
    else s
  | none => s

/-- A ticket of a worker that a gateway request admitted is final with a code: its answer goes to the manager (R989). -/
def State.gwAnswer (s : State) (h code : Nat) : State :=
  if !s.gl.pendingGw.contains h then s
  else
    let s1 : State := { s with gl := { s.gl with pendingGw := s.gl.pendingGw.filter (· != h) } }
    match s.gl.upstream with
    | some i => s1.glSend i ⟨0, s.myId, .data (.answer code none)⟩
    | none => s1

/-! ### Network reaches (R292, R322, R324, R326, R353) -/

/-- The number that limits judge: signed for INT and FIX. -/
def limitNum (t : Tag) (v : Nat) : Int := if t = .int ∨ t = .fix then signed 32 v else v

/-- The CANopen SDO abort code of a result code (Table 05-5), 0 for OK; `side` says of OUT_OF_RANGE that the value is above (1) or below (2)
the limits. -/
def sdoAbort (code side : Nat) : Nat :=
  if code = 9 then [0x06090030, 0x06090031, 0x06090032].getD side 0x06090030
  else [0, 0x06020000, 0x06090011, 0x06010000, 0x06010000, 0x06010002, 0x06010001, 0x06070010, 0x06070010, 0, 0x08000020, 0x08000022,
    0x08000022, 0x05040005, 0x08000020, 0x06060000, 0x05040005, 0x08000022, 0x06060000, 0x08000022, 0x06090011, 0x06090030, 0x06060000,
    0x06060000, 0x08000020].getD code 0

/-- The Modbus exception of a result code (Table 05-5), 0 for OK. -/
def modbusException (code : Nat) : Nat :=
  [0, 2, 2, 1, 1, 1, 1, 3, 3, 3, 1, 4, 6, 6, 6, 4, 4, 4, 4, 6, 2, 3, 4, 4, 1].getD code 0

/-- The result code that stands for a ticket status on a network reach (R353): ABORTED, INDOUBT and STALE become WRONG_STATE, and so does
PENDING, for which no mapping is given (DESIGN CHOICE, log entry 119). -/
def netCode (status : Nat) : Nat := if 0x40 ≤ status ∧ status ≤ 0x43 then 0x0B else status

/-- Answer an access with a code, and with what it becomes on the protocols of Table 05-5. -/
def State.odAnswer (s : State) (c code : Nat) (v : Option OdVal) (h : Option Nat) (side : Nat := 0) : State :=
  { s with od := { s.od with answer :=
    { ctx := c, code := code, value := v, handle := h, abort := sdoAbort code side, exception := modbusException code } } }

/-- A number of `k` bytes on the wire, in a row's ORDER: words of 16 bits, and the bytes of each word (R322). -/
def MapRow.order (r : MapRow) (k n : Nat) : List Byte :=
  let words := (pieces 2 (leBytes k n)).map (fun w => if r.byteHigh then w.reverse else w)
  (if r.wordHigh then words.reverse else words).flatten

/-- The number that `b` spells in a row's ORDER. -/
def MapRow.number (r : MapRow) (b : List Byte) : Nat :=
  let words := (pieces 2 b).map (fun w => if r.byteHigh then w.reverse else w)
  leValue (if r.wordHigh then words.reverse else words).flatten

/-- The denominator of a number: FIX counts in 1/65,536. -/
def unitsOf (t : Tag) : Int := if t = .fix then 65536 else 1

/-- The value of an entry as bytes on the wire, scaled and rounded toward zero (R322, R324); a value that does not fit WIDTH is free, since
the spec states none. -/
def State.toWire (s : State) (r : MapRow) (v : OdVal) : List Byte × State :=
  match v with
  | .bytes b => (b, s)
  | .scalar t n =>
    let p : Int := ((10 ^ r.scale.natAbs : Nat) : Int)
    let x := limitNum t n
    let y : Int := if 0 ≤ r.scale then (x * p).tdiv (unitsOf t) else x.tdiv (unitsOf t * p)
    let k := r.width / 8
    let fits : Bool := if t = .int ∨ t = .fix then decide (-(2 ^ (8 * k - 1) : Nat) ≤ y) && decide (y < (2 ^ (8 * k - 1) : Nat))
      else decide (y < (2 ^ (8 * k) : Nat))
    if fits then (r.order k (unsigned (8 * k) y), s)
    else
      let d := s.drawWord
      (r.order k d.1.toNat, d.2)

/-- Values read through mapping rows, side by side on the wire. -/
def State.toWireAll (s : State) : List MapRow → List OdVal → List Byte × State
  | r :: rs, v :: vs =>
    let w := s.toWire r v
    let t := State.toWireAll w.2 rs vs
    (w.1 ++ t.1, t.2)
  | _, _ => ([], s)

/-- The image answers the request of a network session when its ticket is final (R353): DONE with the values of a read. -/
def State.netFinal (s : State) (i : Nat) : State :=
  let t := s.ticket i
  if t.client < 4 then s
  else if t.state ≠ .done then s.odAnswer t.client (if t.state = .failed then netCode t.code else 0x0B) none none
  else if t.type ≠ 2 then s.odAnswer t.client 0 none none
  else
    let w := s.toWireAll t.rows t.data
    w.2.odAnswer t.client 0 (some (.bytes (if t.rows.isEmpty then (t.data.flatMap OdVal.plain) else w.1))) none

/-- End a ticket in a final state with a code and a result word; a ledgered ticket's FINAL record is staged, a ticket of
the host sets INTSTAT.TICKET_FINAL, a gateway access is answered, and so is the request of a network session (R345, R353, R400, R989). -/
def State.finish (s : State) (i : Nat) (st : TkState) (code : Nat) (tag : Tag) (v : Nat) : State :=
  let t := s.ticket i
  let t' : Ticket := { t with state := st, code := code, resTag := tag, resVal := v, stepPending := false, readOnce := false, finalCommitted := false }
  let s1 := (s.cardEnd i).setTicket i t'
  let s2 := if t.ledgered then s1.stage (.final (s.handleOf i) st code tag v) else s1
  ((if t.client = 1 then s2.intBit 0 else s2).gwAnswer (s.handleOf i)
    (if st = .done then 0 else if st = .aborted then 0x43 else code)).netFinal i

/-- Fail a ticket with a code of Table 05-5; its result word is the last completed step (Table 06-4). -/
def State.failTicket (s : State) (i code : Nat) : State := s.finish i .failed code .uint (s.ticket i).step

/-- Free the slot of a ticket in a final state; a ledgered ticket's RETIRE record is staged (R354). -/
def State.retireSlot (s : State) (i : Nat) : State :=
  let t := s.ticket i
  let s1 := s.setTicket i {}
  if t.ledgered then s1.stage (.retire (s.handleOf i)) else s1

/-! ### Eurnafa threads and their wakes -/

/-- The words of the local memory of a thread's processor (Table 01-5): threads 0 and 1 Weaver, 2 + 4k + j thread j of
Shuttle k, 34 PCP. -/
def localWords (i : Nat) : Nat := if i < 2 then 65536 else if i < 34 then 16384 else 8192

/-- A thread as reset leaves it: the Weaver threads and the PCP issue, and G31 holds the end of local memory (R481). -/
def threadReset (i : Nat) : Thread :=
  { g := [(31, ⟨.ptr, BitVec.ofNat 32 (localWords i)⟩)], run := if i < 2 ∨ i = 34 then .running else .stopped }

/-- Thread `i`. -/
def State.thread (s : State) (i : Nat) : Thread := (s.threads.get none i).getD (threadReset i)

/-- Put thread `i`. -/
def State.setThread (s : State) (i : Nat) (t : Thread) : State :=
  { s with threads := s.threads.set none i (some t) }

/-- Wake thread `i` (R526, R558): a waiting thread issues again; the wake of another is latched; a wake of a halted
thread is discarded. -/
def State.wake (s : State) (i : Nat) : State :=
  let t := s.thread i
  match t.run with
  | .waiting => s.setThread i { t with run := .running }
  | .stopped | .halted => s
  | _ => s.setThread i { t with wakeLatch := true }

/-- An interrupt is raised to the Weaver: it wakes its threads (R526). -/
def State.interruptWeaver (s : State) : State := (s.wake 0).wake 1

/-- Wake a Shuttle thread by its number 4 × Shuttle + thread. -/
def State.wakeShuttle (s : State) (n : Nat) : State := s.wake (2 + n)

/-! ### Holdings of image slots (R578) -/

/-- Image slot `k` beside its register. -/
def State.slot (s : State) (k : Nat) : ImgSlot := s.img.slots.get {} k

/-- Put image slot `k`. -/
def State.setSlot (s : State) (k : Nat) (v : ImgSlot) : State :=
  { s with img := { s.img with slots := s.img.slots.set {} k v } }

/-- The declaration of the image in slot `k`; an EMPTY slot declares nothing. -/
def State.decl (s : State) (k : Nat) : ImageDecl := ((s.slot k).image.map (·.decl)).getD {}

/-- The slot of the time image of PTP instance `x`: its image declares the domain (R221, R249). -/
def State.timeSlot (s : State) (x : Nat) : Option Nat :=
  (List.range 4).find? (fun k => (s.slot k).placed && bitOf (s.decl k).domains x)

/-- The image-defined entry, as an ODREF value, that plays a role for PTP instance `x` (R252, R1048). -/
def State.timeKey (s : State) (x : Nat) (r : TimeRole) : Option Nat :=
  (s.timeSlot x).bind (fun k => ((s.slot k).image.bind (fun im => im.timeRoles.lookup (x, r))).map
    (fun e => odKey (0xA000 + 0x400 * k + e.1) e.2))

/-- The default of an image-defined entry. -/
def State.timeDflt (s : State) (key : Nat) : Nat :=
  let k := (key / 256 - 0xA000) / 0x400
  (((s.slot k).image.bind (fun im =>
    im.odDefs.find? (fun d => d.localIndex == key / 256 % 0x400 && d.sub == key % 256))).map (·.dflt)).getD 0

/-- The value that PTP instance `x` holds in a role, 0 where its image names no entry for it. -/
def State.timeNum (s : State) (x : Nat) (r : TimeRole) : Nat :=
  match s.timeKey x r with
  | none => 0
  | some key => s.odN (key / 256) (key % 256) (s.timeDflt key)

/-- The slot whose image holds Heddle `n`. -/
def State.heddleHolder (s : State) (n : Nat) : Option Nat :=
  (List.range 4).find? (fun k => (s.slot k).image.isSome && bitOf (s.slot k).heddles n)

/-- The slot whose image declares FIELD bit `b` (0 to 5: CAN0, CAN1, RS485_0, RS485_1, DALI0, DALI1). -/
def State.fieldHolder (s : State) (b : Nat) : Option Nat :=
  (List.range 4).find? (fun k => (s.slot k).image.isSome && bitOf (s.decl k).field b)

/-- The slot whose image declares TPI `n`. -/
def State.tpiHolder (s : State) (n : Nat) : Option Nat :=
  (List.range 4).find? (fun k => (s.slot k).image.isSome && bitOf (s.decl k).tpi n)

/-- The slot that holds Shuttle `k`. -/
def State.shuttleHolder (s : State) (k : Nat) : Option Nat :=
  (List.range 4).find? (fun j => (s.slot j).image.isSome && bitOf (s.slot j).shuttles k)

/-- Whether a write reaches a unit that `h` holds: any writer where no image holds it, else a Shuttle of that image or the
expert gateway (R635, R639). -/
def holderAllows (h : Option Nat) (w : Writer) : Bool :=
  match h, w with
  | none, _ => true
  | some _, .gateway => true
  | some k, .image j => k == j.val
  | some _, _ => false

/-! ### The background rule (R74, R75) -/

/-- One slot of a background activity: `bit` is its bit of SYS.BGSTAT and its code in Table 01-14 order (0 scrub, 1 Carding,
2 fulling, 3 ADC calibration, 4 Bobbin, 5 fan), `unit` the shared unit, `fg` whether a foreground request for the unit is
present. Answers whether the activity takes the slot. -/
def State.bgSlot (s : State) (bit unit : Nat) (fg : Bool) : Bool × State :=
  let key := bit * 64 + unit
  let n := s.mem.defer.get 0 key
  let put (s : State) (n : Nat) : State := { s with mem := { s.mem with defer := s.mem.defer.set 0 key n } }
  let flag : Field := { addr := 0x4000000C, lo := bit, w := 1, acc := .w1c, reset := 0 }
  if 64 ≤ n then (true, (put s 0).wrIf fg flag 1)
  else if fg then (false, put s (n + 1))
  else (true, put s 0)

/-! ### Packet memory (R417, R659) -/

/-- Where the store of memory words holds the packet-memory word of byte address `a`: bank 8 + PB number. -/
def pktKey (a : Nat) : Nat := 8 * 65536 + a / 8

/-- The packet-memory word at byte address `a`. -/
def State.pktWord (s : State) (a : Nat) : MemWord := s.mem.mem.get {} (pktKey a)

/-- The packet-memory byte at byte address `a`. -/
def State.pktByte (s : State) (a : Nat) : Byte := BitVec.ofNat 8 ((s.pktWord a).val.toNat / 2 ^ (8 * (a % 8)))

/-- Write one 64-bit unit of packet memory from up to eight bytes; the bytes it does not give keep their values. -/
def State.pktPut (s : State) (a : Nat) (b : List Byte) : State :=
  let old := (s.pktWord a).val.toNat
  let v := leValue b + old / 2 ^ (8 * b.length) * 2 ^ (8 * b.length)
  { s with mem := { s.mem with mem := s.mem.mem.set {} (pktKey a) { val := BitVec.ofNat 64 v } } }

/-- Write bytes into packet memory from a multiple of 8 on, `k` units at most. -/
def State.pktPutBytes : Nat → State → Nat → List Byte → State
  | 0, s, _, _ => s
  | k + 1, s, a, b => if b.isEmpty then s else State.pktPutBytes k (s.pktPut a (b.take 8)) (a + 8) (b.drop 8)

/-! ### Stepping over lists -/

/-- Apply `f` for each element of a list, in order. -/
def State.each {α : Type} (s : State) (l : List α) (f : State → α → State) : State := l.foldl f s

end Sys2Proof.Machine
end

