-- ==== Sys2Proof/Machine/Clocks.lean ====
section
/-! DEFINITION. The clocks of chapter 04: the domains, what device time follows, and their values some cycles ago. -/
namespace Sys2Proof.Machine

/-- The seconds field wraps at 2^48 (R216). -/
def clockMod : Nat := 2 ^ 48 * 1000000000 * unitsPerNs

/-- A clock moved by `d` units. -/
def clockAdd (c : Nat) (d : Int) : Nat := (((c : Int) + d) % (clockMod : Int)).toNat

/-- The clock that reads `sec` seconds and `ns` nanoseconds. -/
def clockOf (sec ns : Nat) : Nat := (sec * 1000000000 + ns) * unitsPerNs

/-- Domain `x`: 0 TDA, 1 TDB. -/
def State.dom (s : State) (x : Nat) : Nat := if x = 0 then s.time.tda else s.time.tdb

/-- The RATE applied to domain `x` (R220). -/
def State.domRate (s : State) (x : Nat) : Int := s.time.rates.get 0 x

/-- The state of domain `x`: 0 FREE, 1 ACQUIRING, 2 LOCKED, 3 HOLDOVER (R223). -/
def State.domState (s : State) (x : Nat) : Nat := s.rd (Reg.TIME_TDX_STATE_STATE.at x)

/-- Whether domain `x` is valid (R223). -/
def State.domValid (s : State) (x : Nat) : Bool := s.domState x == 2

/-- The source of device time: 0 INIT, 1 TDA, 2 TDB, 3 HOLDOVER (R228). -/
def State.dtSource (s : State) : Nat := s.rd Reg.TIME_STAT_SOURCE

/-- Whether device time follows a domain. -/
def State.dtFollows (s : State) : Bool := s.dtSource == 1 || s.dtSource == 2

/-- The domain that device time follows. -/
def State.followed (s : State) : Nat := s.dtSource - 1

/-- The slew of one SCLK cycle in clock units (R232, rounded down). -/
def State.slewUnit (s : State) : Nat := s.rd Reg.TIME_CTRL_SLEW * 2 ^ 48 / 1000000

/-- The alignment error in clock units (R231). -/
def State.alignError (s : State) : Int := (s.dom s.followed : Int) - s.time.dt

/-- Domain `x`, `k` SCLK cycles ago. -/
def State.domBack (s : State) (x k : Nat) : Nat := clockAdd (s.dom x) (-((2 ^ 48 + s.domRate x) * k))

/-- What one SCLK cycle adds to device time now (R220, R232 to R234), in clock units. -/
def State.dtStepUnits (s : State) : Int :=
  if !s.dtFollows then 2 ^ 48 + s.time.dtRate
  else
    let r : Int := 2 ^ 48 + s.domRate s.followed
    if s.on Reg.TIME_STAT_ALIGNED then r else if 0 < s.alignError then r + s.slewUnit else r - s.slewUnit

/-- Device time `k` SCLK cycles ago. -/
def State.dtBack (s : State) (k : Nat) : Nat := clockAdd s.time.dt (-(s.dtStepUnits * k))

end Sys2Proof.Machine
end

