-- ==== Sys2Proof/Machine/Can.lean ====
section
/-! DEFINITION. The CAN FD channels (chapter 13). -/
namespace Sys2Proof.Machine

/-! ### Shared operations -/

/-- Channel `n` beside its registers. -/
def State.cn (s : State) (n : Nat) : CanUnit := s.can.get {} n

/-- Put channel `n`. -/
def State.setCn (s : State) (n : Nat) (u : CanUnit) : State := { s with can := s.can.set {} n u }

/-- STATE of channel `n`: 0 STOPPED, 1 SYNC, 2 ACTIVE, 3 PASSIVE, 4 BUSOFF, 5 RECOVERING, 6 SLEEP (Table 13-5). -/
def State.cnState (s : State) (n : Nat) : Nat := s.rd (Reg.CAN_STAT_STATE.at n)

/-- Set STATE. -/
def State.cnTo (s : State) (n st : Nat) : State := s.wr (Reg.CAN_STAT_STATE.at n) st

/-- Whether the channel takes part in the bus: ACTIVE or PASSIVE. -/
def State.cnOnBus (s : State) (n : Nat) : Bool := s.cnState n == 2 || s.cnState n == 3

/-- A payload word of a message object. -/
def moDataField (n k w : Nat) : Field :=
  if n = 0 then Reg.CAN_MO0_DATA_V.at2 k w else Reg.CAN_MO1_DATA_V.at2 k w

/-- Wake the bound thread where the object's WAKE and the channel's WAKE_EN are 1 (R781). -/
def State.moWake (s : State) (n k : Nat) : State :=
  if s.on (Reg.CAN_MO_CFG_WAKE.at2 n k) && s.on (Reg.CAN_CTRL_WAKE_EN.at n) then
    s.wakeShuttle (s.rd (Reg.CAN_CTRL_THREAD.at n))
  else s

/-- CFG_REFUSED. -/
def State.cnRefuse (s : State) (n : Nat) : State := s.wr (Reg.CAN_STAT_CFG_REFUSED.at n) 1

/-- The bytes that a DLC gives (R774). -/
def dlcBytes (fdf : Bool) (dlc : Nat) : Nat :=
  if dlc ≤ 8 then dlc
  else if !fdf then 8
  else match dlc with
    | 9 => 12 | 10 => 16 | 11 => 20 | 12 => 24 | 13 => 32 | 14 => 48 | _ => 64

/-- The arbitration key: the smaller wins; a base frame wins over an extended frame with the same base identifier (R783). -/
def arbKey (ide : Bool) (id : Nat) : Nat :=
  if ide then id / 2 ^ 18 % 2 ^ 11 * 2 ^ 19 + 2 ^ 18 + id % 2 ^ 18 else id % 2 ^ 11 * 2 ^ 19

/-- The key of object `k`. -/
def State.moKey (s : State) (n k : Nat) : Nat :=
  arbKey (s.on (Reg.CAN_MO_CFG_IDE.at2 n k)) (s.rd (Reg.CAN_MO_ID_ID.at2 n k))

/-- Whether object `k` is a pending transmit object (R782). -/
def State.moPending (s : State) (n k : Nat) : Bool :=
  s.rd (Reg.CAN_MO_CFG_DIR.at2 n k) == 2 && s.on (Reg.CAN_MO_CTL_TXRQ.at2 n k)

/-- The object that wins among those that satisfy `p` (R783); the lower number wins a tie. -/
def State.cnSelect (s : State) (n : Nat) (p : Nat → Bool) : Option Nat :=
  (List.range 128).foldl (fun best k =>
    if s.moPending n k && p k then
      match best with
      | none => some k
      | some b => if s.moKey n k < s.moKey n b then some k else some b
    else best) none

/-- The header and payload of object `k` as an attempt copies them (R772, R784). -/
def State.moFrame (s : State) (n k : Nat) : CanFrame :=
  let fdf := s.on (Reg.CAN_MO_CFG_FDF.at2 n k)
  let dlc := s.rd (Reg.CAN_MO_CFG_DLC.at2 n k)
  let bytes := ((List.range 16).map (fun w => leBytes 4 (s.rd (moDataField n k w)))).flatten
  { id := BitVec.ofNat 29 (s.rd (Reg.CAN_MO_ID_ID.at2 n k)), ide := s.on (Reg.CAN_MO_CFG_IDE.at2 n k), fdf := fdf,
    brs := fdf && s.on (Reg.CAN_MO_CFG_BRS.at2 n k) && !s.on (Reg.CAN_CTRL_BRS_OFF.at n), esi := fdf && s.cnState n == 3,
    dlc := ⟨dlc % 16, Nat.mod_lt _ (by decide)⟩, data := bytes.take (dlcBytes fdf dlc) }

/-- TXRQ of an object clears, and with it HELD (R791). -/
def State.moClear (s : State) (n k : Nat) : State :=
  (s.wr (Reg.CAN_MO_CTL_TXRQ.at2 n k) 0).wr (Reg.CAN_MO_CTL_HELD.at2 n k) 0

/-- An object fails: TXRQ clears and TX_FAIL is set (R785, R799). -/
def State.moFail (s : State) (n k : Nat) : State :=
  ((s.moClear n k).wr (Reg.CAN_MO_CTL_TX_FAIL.at2 n k) 1).moWake n k

/-- TS of an edge `back` SCLK cycles ago: short time of device time at a resolution of 25 ns (R780). -/
def State.cnTs (s : State) (back : Nat) : Nat := clockNs (s.dtBack back) / 25 * 25 % 2 ^ 32

/-- A frame is stored into object `k` in one cycle (R777). -/
def State.moStore (s : State) (n k : Nat) (f : CanFrame) (back : Nat) : State :=
  let len := dlcBytes f.fdf f.dlc
  let bytes := f.data.take len ++ List.replicate (64 - len) 0
  let s1 := s.each (List.range 16) (fun s w => s.wr (moDataField n k w) (leValue ((bytes.drop (4 * w)).take 4)))
  let s2 := (((s1.wr (Reg.CAN_MO_CTL_RXDLC.at2 n k) f.dlc).wr (Reg.CAN_MO_CTL_RXFDF.at2 n k) (b2n f.fdf)).wr
    (Reg.CAN_MO_CTL_RXBRS.at2 n k) (b2n f.brs)).wr (Reg.CAN_MO_CTL_RXESI.at2 n k) (b2n f.esi)
  let s3 := (s2.wr (Reg.CAN_MO_TS_TS.at2 n k) (s.cnTs back)).wr (Reg.CAN_MO_ANG_ANG.at2 n k) (s.angBack back)
  let s4 := s3.wr (Reg.CAN_MO_CTL_SEQ.at2 n k) (s.rd (Reg.CAN_MO_CTL_SEQ.at2 n k) + 1)
  let s5 := (s4.wrIf (s.on (Reg.CAN_MO_CTL_NEWDAT.at2 n k)) (Reg.CAN_MO_CTL_LOST.at2 n k) 1).wr
    (Reg.CAN_MO_CTL_NEWDAT.at2 n k) 1
  s5.moWake n k

/-- Whether object `k` is a receive object whose identifier and IDE equal the frame's (R776). -/
def State.moTakes (s : State) (n : Nat) (f : CanFrame) (k : Nat) : Bool :=
  s.rd (Reg.CAN_MO_CFG_DIR.at2 n k) == 1 && s.on (Reg.CAN_MO_CFG_IDE.at2 n k) == f.ide &&
    s.rd (Reg.CAN_MO_ID_ID.at2 n k) % (if f.ide then 2 ^ 29 else 2 ^ 11) == f.id.toNat % (if f.ide then 2 ^ 29 else 2 ^ 11)

/-- The receive object that stores a frame: the lowest-numbered that takes it (R776). -/
def State.moMatch (s : State) (n : Nat) (f : CanFrame) : Option Nat := (List.range 128).find? (s.moTakes n f)

/-- Set TEC and REC: WARNING follows, and the channel moves between ACTIVE and PASSIVE with event 0x0D03 (R787, R793). -/
def State.cnCount (s : State) (n tec rec' : Nat) : State :=
  let s1 := ((s.wr (Reg.CAN_ERR_TEC.at n) tec).wr (Reg.CAN_ERR_REC.at n) rec').wr (Reg.CAN_STAT_WARNING.at n)
    (b2n (96 ≤ tec || 96 ≤ rec'))
  if s.cnState n = 2 ∧ (128 ≤ tec ∨ 128 ≤ rec') then (s1.cnTo n 3).event 0x0D03 n (evBytes 2 tec ++ [rec'])
  else if s.cnState n = 3 ∧ tec < 128 ∧ rec' < 128 then s1.cnTo n 2
  else s1

/-- The channel comes to STOPPED. -/
def State.cnStop (s : State) (n : Nat) : State :=
  (s.setCn n { s.cn n with attempt := none, stopReq := false, openCell := none, window := none }).cnTo n 0 |>.wr
    (Reg.CAN_TTSTAT_RUNNING.at n) 0

/-- An attempt is over: a STOP that waited for it takes effect (R793). -/
def State.cnEnd (s : State) (n : Nat) : State :=
  let s1 := s.setCn n { s.cn n with attempt := none }
  if (s.cn n).stopReq then s1.cnStop n else s1

/-! ### Bit timing (R770, R773) -/

/-- The smallest prescaler for which 40 MHz / (prescaler × rate) is an integer of at most 160 (R773). -/
def nbrpFor (kbps : Nat) : Nat :=
  ((List.range 32).find? (fun i => decide (40000 % ((i + 1) * kbps) = 0) && decide (40000 / ((i + 1) * kbps) ≤ 160))).getD 31 + 1

/-- N × sample point, rounded (R773). -/
def segRound (n permille : Nat) : Nat := (n * permille + 500) / 1000

/-- The Weaver derives NBT, DBT, BRS_OFF and TDC_EN from the Basic entries at a START (R773, R819). -/
def State.cnTiming (s : State) (n : Nat) : State :=
  let idx := 0x6100 + n
  let kbps := s.odN idx 1 250
  let nbrp := nbrpFor kbps
  let tq := 40000 / (nbrp * kbps)
  let seg1 := segRound tq (s.odN idx 2 875) - 1
  let seg2 := tq - 1 - seg1
  let data := s.odN idx 3 0
  let dq := 40000 / max 1 data
  let d1 := if data = 0 then min 32 seg1 else min 32 (segRound dq (s.odN idx 4 750) - 1)
  let d2 := if data = 0 then min 16 seg2 else min 16 (dq - 1 - (segRound dq (s.odN idx 4 750) - 1))
  let dbrp := if data = 0 then nbrp else 1
  let s1 := (((s.wr (Reg.CAN_NBT_NBRP.at n) (nbrp - 1)).wr (Reg.CAN_NBT_NTSEG1.at n) (seg1 - 1)).wr
    (Reg.CAN_NBT_NTSEG2.at n) (seg2 - 1)).wr (Reg.CAN_NBT_NSJW.at n) (seg2 - 1)
  let s2 := (((s1.wr (Reg.CAN_DBT_DBRP.at n) (dbrp - 1)).wr (Reg.CAN_DBT_DTSEG1.at n) (d1 - 1)).wr
    (Reg.CAN_DBT_DTSEG2.at n) (d2 - 1)).wr (Reg.CAN_DBT_DSJW.at n) (d2 - 1)
  let s3 := (s2.wr (Reg.CAN_CTRL_BRS_OFF.at n) (b2n (data == 0))).wr (Reg.CAN_CTRL_TDC_EN.at n) (b2n (decide (1000 < data)))
  s3.wrIf (decide (1000 < data)) (Reg.CAN_DBT_TDCO.at n) (1 + d1)

/-- fCAN periods of a nominal bit. -/
def State.nomBit (s : State) (n : Nat) : Nat :=
  (s.rd (Reg.CAN_NBT_NBRP.at n) + 1) * (3 + s.rd (Reg.CAN_NBT_NTSEG1.at n) + s.rd (Reg.CAN_NBT_NTSEG2.at n))

/-- fCAN periods of a data-phase bit. -/
def State.dataBit (s : State) (n : Nat) : Nat :=
  (s.rd (Reg.CAN_DBT_DBRP.at n) + 1) * (3 + s.rd (Reg.CAN_DBT_DTSEG1.at n) + s.rd (Reg.CAN_DBT_DTSEG2.at n))

/-- Whether both rates lie in their intervals (R770). -/
def State.ratesOk (s : State) (n : Nat) : Bool :=
  let a := s.nomBit n
  let b := s.dataBit n
  decide (40 ≤ a) && decide (a ≤ 4000) && decide (8 ≤ b) && decide (b ≤ a)

/-- A mark of the schedule. -/
def State.ttMark (s : State) (n j : Nat) : Nat := s.rd (Reg.CAN_TTCOL_MARK.at2 n j)

/-- COLS (R794). -/
def State.ttCols (s : State) (n : Nat) : Nat := s.rd (Reg.CAN_TTCFG_COLS.at n) + 1

/-- CYCLES (R794). -/
def State.ttCycles (s : State) (n : Nat) : Nat := s.rd (Reg.CAN_TTCFG_CYCLES.at n) + 1

/-- Whether a START in TT mode is allowed (R795). -/
def State.ttStartOk (s : State) (n : Nat) : Bool :=
  s.ttMark n 0 == 0 && (List.range (s.ttCols n - 1)).all (fun j => decide (s.ttMark n j < s.ttMark n (j + 1))) &&
    (!s.on (Reg.CAN_TTCFG_REF_EN.at n) || s.rd (Reg.CAN_MO_CFG_DIR.at2 n (s.rd (Reg.CAN_TTCFG_REF_MO.at n))) == 2)

/-! ### The schedule (R794 to R807) -/

/-- A cell is marked MISSED. -/
def State.cellMissed (s : State) (n cell : Nat) : State :=
  (s.wr (Reg.CAN_CELL_MISSED.at2 n cell) 1).wr (Reg.CAN_STAT_MISSED_ANY.at n) 1

/-- An exclusive cell misses (R799): MISSED, and with RESEND 0 its object fails. -/
def State.exclMiss (s : State) (n cell k : Nat) (resend : Bool) : State :=
  let s1 := s.cellMissed n cell
  if resend then s1 else s1.moFail n k

/-- The column in progress ends: a receive window without a stored frame, or an exclusive cell that did not start, is missed
(R799, R800). -/
def State.columnEnd (s : State) (n : Nat) : State :=
  let s1 := match (s.cn n).window with
    | some (c, false) => s.cellMissed n c
    | _ => s
  let s2 := match (s.cn n).openCell with
    | some (c, k) => s1.exclMiss n c k (s.cn n).cell.resend
    | none => s1
  s2.setCn n { s2.cn n with window := none, openCell := none }

/-- The mark of column `j` of the current cycle: its cell is taken as it stands (R806) and evaluated (R794, R797, R799, R800). -/
def State.evalCell (s0 : State) (n j : Nat) : State :=
  let s := s0.mark (.ttMark n)
  let cyc := s.rd (Reg.CAN_TTSTAT_CYCLE.at n)
  let cell := 32 * cyc + j
  let ref := s.rd (Reg.CAN_TTCFG_REF_MO.at n)
  if j = 0 ∧ s.on (Reg.CAN_TTCFG_REF_EN.at n) ∧ s.rd (Reg.CAN_TTCFG_SRC.at n) ≠ 0 then
    let w := s.rd (moDataField n ref 0)
    let s1 := (s.wr (moDataField n ref 0) (w / 64 * 64 + cyc)).wr (Reg.CAN_MO_CTL_TXRQ.at2 n ref) 1
    s1.setCn n { s1.cn n with openCell := some (cell, ref), cell := { type := 1, mo := ref } }
  else
    let x : CanCell := { type := s.rd (Reg.CAN_CELL_TYPE.at2 n cell), resend := s.on (Reg.CAN_CELL_RESEND.at2 n cell),
                         mo := s.rd (Reg.CAN_CELL_MO.at2 n cell) }
    let u := { s.cn n with cell := x }
    s.setCn n (if x.type = 1 ∧ s.moPending n x.mo then { u with openCell := some (cell, x.mo) }
      else if x.type = 2 then { u with window := some (cell, false) } else u)

/-- A basic cycle starts (R796, R803, R807): `cyc` is the number a reference message carries. A cycle in which no cell is evaluated, after
REF_LOST or bus-off, has no columns to overlap. -/
def State.ttStart (s : State) (n : Nat) (cyc : Option Nat) : State :=
  if !s.on (Reg.CAN_CTRL_TT.at n) || !s.cnOnBus n then s
  else
    let run := s.on (Reg.CAN_TTSTAT_RUNNING.at n)
    let col := s.rd (Reg.CAN_TTSTAT_COLUMN.at n)
    let s1 := if run then s.columnEnd n else s
    let cut := run && !(s.cn n).resuming && !s.on (Reg.CAN_STAT_REF_LOST.at n) && decide (col + 1 < s.ttCols n)
    let s2 := s1.wrIf cut (Reg.CAN_STAT_CYC_OVERLAP.at n) 1
    let next := match cyc with
      | some c => c % s.ttCycles n
      | none => if run then (s.rd (Reg.CAN_TTSTAT_CYCLE.at n) + 1) % s.ttCycles n else 0
    let s3 := (((s2.wr (Reg.CAN_TTSTAT_CYCLE.at n) next).wr (Reg.CAN_TTSTAT_COLUMN.at n) 0).wr
      (Reg.CAN_TTSTAT_RUNNING.at n) 1).wr (Reg.CAN_STAT_REF_LOST.at n) 0
    ((s3.mark (.ttCycle n)).setCn n { s3.cn n with resuming := false }).evalCell n 0

/-- A stored or discarded frame that is the reference message of a follower starts a cycle (R798). -/
def State.ttReference (s : State) (n : Nat) (f : CanFrame) : State :=
  let ref := s.rd (Reg.CAN_TTCFG_REF_MO.at n)
  if s.on (Reg.CAN_CTRL_TT.at n) && s.rd (Reg.CAN_TTCFG_SRC.at n) == 0 && s.moTakes n f ref then
    s.ttStart n (some ((f.data.headD 0).toNat % 64))
  else s

/-- An angle event with TCODE 5 reaches channel `n` (R796, R805). -/
def State.cnAngle (s : State) (n : Nat) : State :=
  if s.rd (Reg.CAN_TTCFG_SRC.at n) = 2 then s.ttStart n none else s

/-- The cycle starts of SRC 1 up to a device time in nanoseconds (R796). -/
def State.ttIndex (s : State) (n ns : Nat) : Int :=
  let base : Nat := (s.rd (Reg.CAN_TTBASESECLO_V.at n) + 2 ^ 32 * s.rd (Reg.CAN_TTBASESECHI_V.at n)) * 1000000000 +
    s.rd (Reg.CAN_TTBASENS_V.at n)
  ((ns : Int) - base) / (s.rd (Reg.CAN_TTCYCLE_CYCLE_NS.at n) : Nat)

/-- Device time steps from `before` to the present (R804): passing cycle starts forward causes one, with CYC_SKIP. -/
def State.ttStep (s : State) (before : Nat) : State :=
  s.each [0, 1] (fun s n =>
    if s.on (Reg.CAN_CTRL_TT.at n) && s.rd (Reg.CAN_TTCFG_SRC.at n) == 1 && s.cnOnBus n &&
        decide (s.ttIndex n (clockNs before) < s.ttIndex n (clockNs s.time.dt)) then
      (s.ttStart n none).wr (Reg.CAN_STAT_CYC_SKIP.at n) 1
    else s)

/-! ### Commands -/

/-- Whether a writer may start a channel (R816): its holding image, or a client through the expert gateway. -/
def State.cnMayStart (s : State) (n : Nat) (w : Writer) : Bool :=
  match w with
  | .gateway => true
  | .image k => s.fieldHolder n == some k.val
  | _ => false

/-- The wake entries and registers of channel `n` as the wake detector uses them, with the rate of the last START (R812, R813). -/
def State.canWakeOf (s : State) (n : Nat) : CanWakeCopy :=
  { mode := s.rd (Reg.CAN_WCFG_MODE.at n), id := s.rd (Reg.CAN_WID_WAKE_ID.at n), ignore := s.rd (Reg.CAN_WIDM_WAKE_ID_IGNORE.at n),
    ide := s.on (Reg.CAN_WCFG_IDE.at n), dlcEn := s.on (Reg.CAN_WCFG_DLC_EN.at n), dlc := s.rd (Reg.CAN_WCFG_DLC.at n),
    mask := leBytes 4 (s.rd (Reg.CAN_WDMASK0_V.at n)) ++ leBytes 4 (s.rd (Reg.CAN_WDMASK1_V.at n)),
    rate := (s.pow.canWake.get {} n).rate, err := (s.cn n).wakeErr }

/-- The companion die takes the wake settings of channel `n` (R815). -/
def State.copyWake (s : State) (n : Nat) : State :=
  { s with pow := { s.pow with canWake := s.pow.canWake.set {} n { s.canWakeOf n with err := 0 } } }

/-- START sets the nominal rate of the wake detector (R813). -/
def State.wakeRate (s : State) (n : Nat) : State :=
  { s with pow := { s.pow with canWake := s.pow.canWake.set {} n { s.canWakeOf n with rate := (s.cn n).rate, err := 0 } } }

/-- CAN_START (R770, R773, R793, R795, R816); a twin that is not OWNER starts no channel (R1001). -/
def execCanStart (n : Fin 2) (wtr : Writer) (s : State) : Out :=
  .next (if !s.cnMayStart n wtr || !(s.cnState n == 0 || s.cnState n == 6) || s.netsOff ||
      (s.role == 3 && !s.owner) then s
    else
      let s1 := s.cnTiming n
      if !s1.ratesOk n || (s1.on (Reg.CAN_CTRL_TT.at n) && !s1.ttStartOk n) then s1.cnRefuse n
      else
        let s2 := (s1.setCn n { rate := 40000000 / s1.nomBit n }).cnTo n 1
        ((s2.cnCount n 0 0).wr (Reg.CAN_TTSTAT_RUNNING.at n) 0).wakeRate n)

/-- CAN_STOP (R793): a frame in progress completes first. -/
def execCanStop (n : Fin 2) (s : State) : Out :=
  .next (if s.cnState n = 0 ∨ s.cnState n = 6 then s
    else if (s.cn n).attempt.isSome then s.setCn n { s.cn n with stopReq := true }
    else s.cnStop n)

/-- CAN_RECOVER (R790). -/
def execCanRecover (n : Fin 2) (s : State) : Out := .next (if s.cnState n = 4 then s.cnTo n 5 else s)

/-- CAN_SLEEP (R811). -/
def execCanSleep (n : Fin 2) (s : State) : Out :=
  .next (if s.cnState n = 0 then (s.setCn n { s.cn n with wakeErr := 0 }).cnTo n 6 else s)

/-- CAN_BUS_IDLE (R793): 11 consecutive recessive bits. -/
def execCanBusIdle (n : Fin 2) (s : State) : Out := .next (if s.cnState n = 1 then s.cnTo n 2 else s)

/-- CAN_RECOVERY_COMPLETE (R790, R820): error active with counters 0; the event carries the milliseconds since bus-off. -/
def execCanRecoveryComplete (n : Fin 2) (s : State) : Out :=
  .next (if s.cnState n ≠ 5 then s
    else ((s.cnCount n 0 0).cnTo n 2).event 0x0D02 n (evBytes 4 ((s.cycle - (s.cn n).busoffCycle) / 3000000)))

/-- REC after a valid reception (R787, the rule of ISO 11898-1): it falls by 1, and from above 127 to a value in 119 to 127. -/
def State.recAfter (s : State) (n : Nat) : Nat × State :=
  let r := s.rd (Reg.CAN_ERR_REC.at n)
  if 127 < r then (119 + s.drawWord.1.toNat % 9, s.drawWord.2) else (r - 1, s)

/-- A frame is offered to the receive objects (R776, R798, R800): stored, or UNMATCHED. -/
def State.cnOffer (s : State) (n : Nat) (f : CanFrame) (back : Nat) : State :=
  match s.moMatch n f with
  | none => s.wr (Reg.CAN_STAT_UNMATCHED.at n) 1
  | some k =>
    let s1 := s.moStore n k f back
    match (s1.cn n).window with
    | some (c, _) => if (s1.cn n).cell.mo = k then s1.setCn n { s1.cn n with window := some (c, true) } else s1
    | none => s1

/-- CAN_FRAME_RECEIVED (R769, R776, R777): a valid frame whose start-of-frame edge lay `back` SCLK cycles before. -/
def execCanFrameReceived (n : Fin 2) (f : CanFrame) (back : Nat) (s : State) : Out :=
  .next (if !s.cnOnBus n then s
    else
      let r := s.recAfter n
      let s1 := r.2.cnCount n (s.rd (Reg.CAN_ERR_TEC.at n)) r.1
      if f.rtr then s1.wr (Reg.CAN_STAT_RTR_DROPPED.at n) 1
      else (s1.cnOffer n f back).ttReference n f)

/-- The greatest length of a frame in fCAN periods, with the largest number of stuff bits (R801): for a classical frame the
figures of Example 13-1, for an FD frame those of ISO 11898-1 (log entry 40). -/
def State.frameMax (s : State) (n : Nat) (f : CanFrame) : Nat :=
  let bytes := dlcBytes f.fdf f.dlc
  let ext := if f.ide then 20 else 0
  if !f.fdf then (44 + ext + 8 * bytes + (34 + ext + 8 * bytes - 1) / 4) * s.nomBit n
  else
    let head := 17 + (if f.ide then 19 else 0)
    let data := 5 + 8 * bytes
    let crc := if bytes ≤ 16 then 17 else 21
    let dataBits := data + (data + 3) / 4 + 4 + crc + (4 + crc + 3) / 4
    (head + head / 4 + 12) * s.nomBit n + dataBits * (if f.brs then s.dataBit n else s.nomBit n)

/-- The object that may start a frame now and its exclusive cell: in event mode the selected one (R783); in TT mode the object of
the open exclusive cell (R799), or in an arbitration window the selected one among those with TT_ONLY 0 that fit the `left`
fCAN periods of the column (R801). -/
def State.cnNext (s : State) (n left : Nat) : Option (Nat × Option Nat) :=
  if !s.on (Reg.CAN_CTRL_TT.at n) then (s.cnSelect n (fun _ => true)).map (fun k => (k, none))
  else
    match (s.cn n).openCell with
    | some (c, k) => if s.moPending n k then some (k, some c) else none
    | none =>
      if s.on (Reg.CAN_TTSTAT_RUNNING.at n) && !s.on (Reg.CAN_STAT_REF_LOST.at n) && !(s.cn n).resuming &&
          (s.cn n).cell.type == 3 then
        match s.cnSelect n (fun k => !s.on (Reg.CAN_MO_CFG_TT_ONLY.at2 n k)) with
        | some k => if s.frameMax n (s.moFrame n k) ≤ left then some (k, none) else none
        | none => none
      else none

/-- TRANSMIT_ATTEMPT_START (R783, R784, R801, R817): no new frame starts from S3 on, nor while bus monitoring. -/
def execTransmitAttemptStart (n : Fin 2) (left : Nat) (s : State) : Out :=
  .next (if !s.cnOnBus n || (s.cn n).attempt.isSome || (s.cn n).stopReq || s.on (Reg.CAN_CTRL_MON.at n) ||
      (s.pstate == 6 && decide (3 ≤ s.sdStep)) then s
    else match s.cnNext n left with
      | none => s
      | some (k, c) =>
        s.setCn n { s.cn n with attempt := some { mo := k, frame := s.moFrame n k, cell := c, resend := c.isSome && (s.cn n).cell.resend },
                                openCell := if c.isSome then none else (s.cn n).openCell })

/-- TRANSMIT_SUCCESS (R776, R780, R785, R791); a transmitter held recessive while the peer twin holds TWIN_OWN sends nothing (R1000). -/
def execTransmitSuccess (n : Fin 2) (back : Nat) (s : State) : Out :=
  .next (match (s.cn n).attempt with
    | none => s
    | some a =>
      if s.role == 3 && s.peerHolds then s else
      let s1 := (s.moClear n a.mo).wr (Reg.CAN_MO_CTL_TX_OK.at2 n a.mo) 1
      let s2 := ((s1.wr (Reg.CAN_MO_TS_TS.at2 n a.mo) (s.cnTs back)).wr (Reg.CAN_MO_ANG_ANG.at2 n a.mo) (s.angBack back)).moWake
        n a.mo
      let s3 := s2.cnCount n (s.rd (Reg.CAN_ERR_TEC.at n) - 1) (s.rd (Reg.CAN_ERR_REC.at n))
      let s4 := if s.on (Reg.CAN_CTRL_LOOPBACK.at n) then s3.cnOffer n a.frame back else s3
      s4.cnEnd n)

/-- The channel enters bus-off (R789, R790). -/
def State.cnBusOff (s : State) (n : Nat) : State :=
  let held := s.cnSelect n (fun _ => true)
  let s1 := match held with
    | some k => s.wr (Reg.CAN_MO_CTL_HELD.at2 n k) 1
    | none => s
  let s2 := ((s1.inc (Reg.CAN_ERR_BUSOFFS.at n)).wr (Reg.CAN_STAT_BUSOFF_SEEN.at n) 1).odInc (0x6100 + n) 0x0A 65535
  let s3 := s2.setCn n { s2.cn n with busoffCycle := s.cycle, openCell := none, window := none, resuming := true }
  let s4 := s3.cnTo n (if s.on (Reg.CAN_CTRL_AUTO_RECOVER.at n) then 5 else 4)
  s4.event 0x0D01 n ([held.getD 0xFF, s.rd (Reg.CAN_STAT_LEC.at n)] ++ evBytes 2 (s.rd (Reg.CAN_ERR_TEC.at n)))

/-- TRANSMIT_FAILURE (R785 to R789, R799). -/
def execTransmitFailure (n : Fin 2) (why : CanFail) (s : State) : Out :=
  .next (match (s.cn n).attempt with
    | none => s
    | some a =>
      let tec := s.rd (Reg.CAN_ERR_TEC.at n)
      let tec' := match why with
        | .arbitration => tec
        | .error _ exempt => if exempt then tec else min 511 (tec + 8)
      let s1 := match why with
        | .arbitration => s
        | .error lec _ => s.wr (Reg.CAN_STAT_LEC.at n) lec
      let s2 := match a.cell with
        | some c => if a.cancelled then (s1.cellMissed n c).moFail n a.mo else s1.exclMiss n c a.mo a.resend
        | none => if a.cancelled || s.on (Reg.CAN_MO_CFG_ONESHOT.at2 n a.mo) then s1.moFail n a.mo else s1
      let s3 := s2.cnCount n tec' (s.rd (Reg.CAN_ERR_REC.at n))
      let s4 := s3.setCn n { s3.cn n with attempt := none }
      if 255 < tec' ∧ (s.cnState n = 2 ∨ s.cnState n = 3) then
        let s5 := s4.cnBusOff n
        if (s.cn n).stopReq then s5.cnStop n else s5
      else if (s.cn n).stopReq then s4.cnStop n else s4)

/-- CAN_RECEIVE_ERROR (R787, R792): REC rises by 1, or by 8 where ISO 11898-1 says so; nothing is stored. -/
def execCanReceiveError (n : Fin 2) (lec : Fin 7) (by8 : Bool) (s : State) : Out :=
  let rec' := min 255 (s.rd (Reg.CAN_ERR_REC.at n) + if by8 then 8 else 1)
  .next (if !s.cnOnBus n then s
    else (s.wr (Reg.CAN_STAT_LEC.at n) lec).cnCount n (s.rd (Reg.CAN_ERR_TEC.at n)) rec')

/-- TXSET (R782). -/
def execTxset (n : Fin 2) (k : Fin 128) (s : State) : Out :=
  .next (if s.rd (Reg.CAN_MO_CFG_DIR.at2 n k) = 2 then s.wr (Reg.CAN_MO_CTL_TXRQ.at2 n k) 1 else s.cnRefuse n)

/-- TXCANCEL (R786). -/
def execTxcancel (n : Fin 2) (k : Fin 128) (s : State) : Out :=
  let s1 := s.moClear n k
  .next (match (s.cn n).attempt with
    | some a => if a.mo = k.val then s1.setCn n { s.cn n with attempt := some { a with cancelled := true } } else s1
    | none => s1)

/-- MO_CONFIG_WRITE (R775): DIR 0 is always applied; any other write to an object whose DIR is not 0 is refused. DIR 3 leaves DIR
(R18). -/
def execMoConfigWrite (n : Fin 2) (k : Fin 128) (w : MoWrite) (s : State) : Out :=
  let dir := s.rd (Reg.CAN_MO_CFG_DIR.at2 n k)
  .next (match w with
    | .id v => if dir ≠ 0 then s.cnRefuse n else s.wr (Reg.CAN_MO_ID_ID.at2 n k) v.toNat
    | .cfg v =>
      let d := v.toNat % 4
      if d ≠ 0 ∧ dir ≠ 0 then s.cnRefuse n
      else
        let s0 := if d = 0 then s.moClear n k else s
        let s1 := ((s0.wr (Reg.CAN_MO_CFG_DIR.at2 n k) (if d = 3 then dir else d)).wr (Reg.CAN_MO_CFG_IDE.at2 n k)
          (fieldOf v.toNat 2 1)).wr (Reg.CAN_MO_CFG_FDF.at2 n k) (fieldOf v.toNat 3 1)
        let s2 := ((s1.wr (Reg.CAN_MO_CFG_BRS.at2 n k) (fieldOf v.toNat 4 1)).wr (Reg.CAN_MO_CFG_DLC.at2 n k)
          (fieldOf v.toNat 5 4)).wr (Reg.CAN_MO_CFG_ONESHOT.at2 n k) (fieldOf v.toNat 9 1)
        (s2.wr (Reg.CAN_MO_CFG_TT_ONLY.at2 n k) (fieldOf v.toNat 10 1)).wr (Reg.CAN_MO_CFG_WAKE.at2 n k) (fieldOf v.toNat 11 1))

/-- NEWDAT_CLEAR (R778): a W1C of NEWDAT; a store of the same cycle follows it as the next command. -/
def execNewdatClear (n : Fin 2) (k : Fin 128) (s : State) : Out := .next (s.wr (Reg.CAN_MO_CTL_NEWDAT.at2 n k) 0)

/-- TT_CYCLE_START (R796 to R798): from device time or an angle event (`none`), or from a reference message with its cycle
number. -/
def execTtCycleStart (n : Fin 2) (cyc : Option (Fin 64)) (s : State) : Out :=
  .next (s.ttStart n (cyc.map Fin.val))

/-- TT_COLUMN_MARK (R794, R800): the next column begins, unless the cycle has no further one, the reference is lost (R798), or the
channel is off the bus or waits for its next cycle start after that (R807). -/
def execTtColumnMark (n : Fin 2) (s : State) : Out :=
  let col := s.rd (Reg.CAN_TTSTAT_COLUMN.at n)
  .next (if !s.on (Reg.CAN_TTSTAT_RUNNING.at n) || s.on (Reg.CAN_STAT_REF_LOST.at n) || !s.cnOnBus n ||
      (s.cn n).resuming || decide (s.ttCols n ≤ col + 1) then s
    else ((s.columnEnd n).wr (Reg.CAN_TTSTAT_COLUMN.at n) (col + 1)).evalCell n (col + 1))

/-- SCLK cycles of `k` nominal bit times (R770). -/
def State.bitCycles (s : State) (n k : Nat) : Nat := k * s.nomBit n * 75

/-- TT_TX_WINDOW_EXPIRY (R799): TX_WINDOW nominal bit times after the mark. -/
def execTtTxWindowExpiry (n : Fin 2) (s : State) : Out :=
  .next (match (s.cn n).openCell with
    | none => s
    | some (c, k) =>
      if !s.passed (.ttMark n) (s.bitCycles n (s.rd (Reg.CAN_TTCFG_TX_WINDOW.at n) + 1)) then s else
      let s1 := s.exclMiss n c k (s.cn n).cell.resend
      s1.setCn n { s1.cn n with openCell := none })

/-- REF_LOST (R798): TTCYCBT + 16 nominal bit times after the last cycle start. -/
def execRefLost (n : Fin 2) (s : State) : Out :=
  .next (if s.on (Reg.CAN_CTRL_TT.at n) && s.rd (Reg.CAN_TTCFG_SRC.at n) == 0 && s.cnOnBus n &&
      s.passed (.ttCycle n) (s.bitCycles n (s.rd (Reg.CAN_TTCYCBT_V.at n) + 16)) then
      (s.setCn n { s.cn n with openCell := none, window := none }).wr (Reg.CAN_STAT_REF_LOST.at n) 1
    else s)

/-- TXD_TIMEOUT (R808). -/
def execTxdTimeout (n : Fin 2) (s : State) : Out :=
  .next ((s.wr (Reg.CAN_STAT_TXD_TIMEOUT.at n) 1).event 0x0D05 n [])

/-- BUS_FAULT (R809): each change to a code other than 0 posts event 0x0D04. -/
def execBusFault (n : Fin 2) (code : Fin 7) (s : State) : Out :=
  .next (if code.val = 0 then s
    else if s.rd (Reg.CAN_STAT_BUS_FAULT.at n) = code.val then s.mark (.busFault n)
    else ((s.mark (.busFault n)).wr (Reg.CAN_STAT_BUS_FAULT.at n) code).event 0x0D04 n [code.val])

/-- BUS_FAULT_CLEAR (R809): no fault has been seen for 1 s. -/
def execBusFaultClear (n : Fin 2) (s : State) : Out :=
  .next (if s.passed (.busFault n) (1000 * msCycles) then s.wr (Reg.CAN_STAT_BUS_FAULT.at n) 0 else s)

end Sys2Proof.Machine
end

