-- ==== Sys2Proof/Machine/LoomOps.lean ====
section
/-! DEFINITION. The operations of the Loom, the Bobbin and the MACs: header parsing, checksums, cells, gates, deliveries,
completion words and Bobbin records. -/
namespace Sys2Proof.Machine

/-! ### Headers. A frame is its bytes from the destination MAC on, FCS included; on the wire byte order is that of the
standards (R12). -/

/-- The big-endian number in `k` bytes from `i` on. -/
def beAt (b : List Byte) (i k : Nat) : Nat := ((b.drop i).take k).foldl (fun a x => a * 256 + x.toNat) 0

/-- The big-endian bytes of `n`, `k` of them. -/
def beBytes (k n : Nat) : List Byte := (leBytes k n).reverse

/-- What the Loom reads of a header: MACs, EtherType after at most one VLAN tag, tag, and the offset of the payload. -/
structure Hdr where
  dst : Nat
  src : Nat
  etype : Nat
  tci : Option Nat
  off : Nat
  deriving DecidableEq, Repr

/-- Parse a header (IEEE 802.1Q tag 0x8100). -/
def parseHdr (b : List Byte) : Hdr :=
  let t := beAt b 12 2
  if t = 0x8100 then { dst := beAt b 0 6, src := beAt b 6 6, etype := beAt b 16 2, tci := some (beAt b 14 2), off := 18 }
  else { dst := beAt b 0 6, src := beAt b 6 6, etype := t, tci := none, off := 14 }

/-- The IP protocol number and the offset of the TCP or UDP header, for IPv4 or IPv6 without extension headers and not a
fragment (R732). -/
def l4Of (b : List Byte) (h : Hdr) : Option (Nat × Nat) :=
  if h.etype = 0x0800 then
    if beAt b (h.off + 6) 2 % 0x4000 ≠ 0 then none
    else some (beAt b (h.off + 9) 1, h.off + beAt b h.off 1 % 16 * 4)
  else if h.etype = 0x86DD then some (beAt b (h.off + 6) 1, h.off + 40)
  else none

/-- The TCP or UDP destination port: (17, port) or (6, port). -/
def portOf (b : List Byte) (h : Hdr) : Option (Nat × Nat) :=
  match l4Of b h with
  | some (p, o) => if p = 6 ∨ p = 17 then some (p, beAt b (o + 2) 2) else none
  | none => none

/-- The offset of a PTP message: EtherType 0x88F7, or UDP to port 319 (event) or 320 (general) (R244). -/
def ptpOff (b : List Byte) (h : Hdr) : Option Nat :=
  if h.etype = 0x88F7 then some h.off
  else match l4Of b h with
    | some (17, o) => if beAt b (o + 2) 2 = 319 ∨ beAt b (o + 2) 2 = 320 then some (o + 8) else none
    | _ => none

/-- The offset of a PTP event message: messageType 0 to 3, over EtherType 0x88F7 or UDP port 319 (R244). -/
def ptpEvent (b : List Byte) : Option Nat :=
  let h := parseHdr b
  match ptpOff b h with
  | none => none
  | some o =>
    if beAt b o 1 % 16 ≤ 3 && (h.etype == 0x88F7 || beAt b (o - 6) 2 == 319) then some o else none

/-! ### Checksums -/

/-- One step of the CRC-32 of IEEE 802.3, least significant bit first. -/
def crcBit (c : Nat) : Nat := if c % 2 = 1 then c / 2 ^^^ 0xEDB88320 else c / 2

/-- The FCS of IEEE 802.3 over bytes (R660, R737). -/
def crc32 (b : List Byte) : Nat :=
  (b.foldl (fun c x => crcBit (crcBit (crcBit (crcBit (crcBit (crcBit (crcBit (crcBit (c ^^^ x.toNat))))))))) 0xFFFFFFFF)
    ^^^ 0xFFFFFFFF

/-- Whether the last four bytes are the FCS of the others. -/
def fcsOk (b : List Byte) : Bool := leValue (b.drop (b.length - 4)) == crc32 (b.take (b.length - 4))

/-- Append a newly computed FCS (R737). -/
def withFcs (b : List Byte) : List Byte := b ++ leBytes 4 (crc32 b)

/-- The sum of big-endian 16-bit words, an odd last byte padded with zero. -/
def sum16 : List Byte → Nat
  | a :: b :: t => a.toNat * 256 + b.toNat + sum16 t
  | [a] => a.toNat * 256
  | [] => 0

/-- The ones' complement fold of a sum into 16 bits. -/
def fold16 (n : Nat) : Nat := (n % 65536 + n / 65536) % 65536 + (n % 65536 + n / 65536) / 65536

/-- The Internet checksum of a sum. -/
def cksum (n : Nat) : Nat := 0xFFFF - fold16 (fold16 n)

/-- The IPv4 header of a frame. -/
def ip4Hdr (b : List Byte) (h : Hdr) : List Byte := (b.drop h.off).take (beAt b h.off 1 % 16 * 4)

/-- The TCP or UDP segment of an IP frame. -/
def l4Seg (b : List Byte) (h : Hdr) (o : Nat) : List Byte :=
  if h.etype = 0x0800 then (b.drop o).take (beAt b (h.off + 2) 2 - (o - h.off))
  else (b.drop o).take (beAt b (h.off + 4) 2)

/-- The sum of the pseudo header: addresses, protocol and length. -/
def pseudoSum (b : List Byte) (h : Hdr) (p n : Nat) : Nat :=
  (if h.etype = 0x0800 then sum16 ((b.drop (h.off + 12)).take 8) else sum16 ((b.drop (h.off + 8)).take 32)) + p + n

/-- FLAGS [3:0] of Table 12-4: IPv4 header and TCP or UDP checksum, 0 not checked, 1 good, 2 bad (R732). -/
def cksumFlags (b : List Byte) : Nat :=
  let h := parseHdr b
  let ip := if h.etype = 0x0800 then (if cksum (sum16 (ip4Hdr b h)) = 0 then 1 else 2) else 0
  let l4 := match l4Of b h with
    | some (p, o) =>
      if p = 6 ∨ p = 17 then
        let seg := l4Seg b h o
        if p = 17 ∧ h.etype = 0x0800 ∧ beAt b (o + 6) 2 = 0 then 1
        else if cksum (sum16 seg + pseudoSum b h p seg.length) = 0 then 1 else 2
      else 0
    | none => 0
  ip + 4 * l4

/-- Replace bytes from `i` on. -/
def putAt (b : List Byte) (i : Nat) (v : List Byte) : List Byte := b.take i ++ v ++ b.drop (i + v.length)

/-- Insert the checksums of R738 into a frame without FCS. -/
def insertCksums (b : List Byte) : List Byte :=
  let h := parseHdr b
  let b1 := if h.etype = 0x0800 then
      let z := putAt b (h.off + 10) [0, 0]
      putAt z (h.off + 10) (beBytes 2 (cksum (sum16 (ip4Hdr z h))))
    else b
  match l4Of b1 h with
  | some (p, o) =>
    let at' := if p = 6 then o + 16 else o + 6
    if p ≠ 6 ∧ p ≠ 17 then b1
    else if p = 17 ∧ h.etype = 0x0800 ∧ beAt b1 at' 2 = 0 then b1
    else
      let z := putAt b1 at' [0, 0]
      let seg := l4Seg z h o
      let c := cksum (sum16 seg + pseudoSum z h p seg.length)
      putAt z at' (beBytes 2 (if p = 17 ∧ c = 0 then 0xFFFF else c))
  | none => b1

/-! ### Time of a frame -/

/-- A clock value plus a signed number of nanoseconds (R243). -/
def adjClock (c : Nat) (ns : Int) : Nat := ((c : Int) + ns * unitsPerNs).toNat

/-- The fraction of a clock in 1/32 ns (Table 12-4). -/
def subNs (c : Nat) : Nat := c % unitsPerNs * 32 / unitsPerNs

/-! ### Ports -/

/-- The pair mode of a port (R679): 0 off, 1 HSR, 2 PRP. -/
def State.pairMode (s : State) (p : Nat) : Nat :=
  if p < 2 then s.rd Reg.LOOM_RED_MODE01 else if p < 4 then s.rd Reg.LOOM_RED_MODE23 else 0

/-- The other port of a pair. -/
def pairOther (p : Nat) : Nat := if p % 2 = 0 then p + 1 else p - 1

/-- The station address of 0x6000:02, default 0x02 then DEVICE_ID [39:0] (Table 11-8). -/
def State.stationMac (s : State) : Nat :=
  match s.od.vals.get none (odKey 0x6000 2) with
  | some (.bytes b) => beAt b 0 6
  | _ => 0x02 * 2 ^ 40 + s.deviceId % 2 ^ 40

/-- The station IPv4 address of 0x6000:07. -/
def State.stationIp (s : State) : Nat :=
  match s.od.vals.get none (odKey 0x6000 7) with
  | some (.bytes b) => beAt b 0 4
  | _ => 0

/-- The MAC rate of a port in Mb/s, by LINK.SPEED (Table 12-10). -/
def State.rateMbps (s : State) (p : Nat) : Nat :=
  match s.rd (Reg.MAC_LINK_SPEED.at p) with
  | 0 => 10 | 1 => 1000 | 2 => 2500 | _ => 10000

/-- Set a bit of PSTK and of PSTK_ACC (R742, Table 12-7). -/
def State.pstk (s : State) (p k : Nat) : State :=
  if p < 6 then (s.wrBit (Reg.MAC_PSTK_PSTK.at p) k true).wrBit (Reg.MAC_PSTK_ACC_PSTK_ACC.at p) k true else s

/-- The MEMBER mask of a VLAN (R672). -/
def State.vlanMember (s : State) (vid : Nat) : Nat := s.loom.vlans.get 0 vid % 512

/-- The UNTAG mask of a VLAN (R672). -/
def State.vlanUntag (s : State) (vid : Nat) : Nat := s.loom.vlans.get 0 vid / 65536 % 512

/-! ### Cells (R661 to R665) -/

/-- Egress port `p`. -/
def State.eg (s : State) (p : Nat) : Egress := s.loom.egress.get {} p

/-- Put egress port `p`. -/
def State.setEg (s : State) (p : Nat) (e : Egress) : State :=
  { s with loom := { s.loom with egress := s.loom.egress.set {} p e } }

/-- Queue set `q`: 0 to 3 N1 of the image slots, 4 N0, 5 N2. -/
def State.qset (s : State) (q : Nat) : QueueSet := s.loom.sets.get {} q

/-- Put queue set `q`. -/
def State.setQset (s : State) (q : Nat) (v : QueueSet) : State :=
  { s with loom := { s.loom with sets := s.loom.sets.set {} q v } }

/-- The frame or buffer whose first cell is `f`. -/
def State.frame (s : State) (f : Nat) : Option LFrame := s.loom.frames.get none f

/-- Put a frame. -/
def State.setFrame (s : State) (f : Nat) (v : Option LFrame) : State :=
  { s with loom := { s.loom with frames := s.loom.frames.set none f v } }

/-- Every frame whose cells are held. -/
def State.frameList (s : State) : List LFrame := s.loom.frames.filterMap (·.2)

/-- FIRST of a frame. -/
def LFrame.first (f : LFrame) : Nat := f.cells.headD 0

/-- Cells of the frames that satisfy `p`. -/
def State.cellsOf (s : State) (p : LFrame → Bool) : Nat := ((s.frameList.filter p).map (·.cells.length)).sum

/-- HELD of a port: frames not yet decided, or with egress copies left (R663). -/
def State.portHeld (s : State) (p : Nat) : Nat :=
  s.cellsOf (fun f => f.port == p && (f.copies != 0 || (s.loom.arrived.get [] p).contains f.first))

/-- Cells that an internal queue set holds (R665). -/
def State.setHeld (s : State) (q : Nat) : Nat :=
  s.cellsOf (fun f => f.holders.contains q || f.owner == some q)

/-- QUEUED of a port: cells of the copies in its queues (R664). -/
def State.portQueued (s : State) (p : Nat) : Nat :=
  ((List.range 8).map (fun t => (((s.eg p).queues.get [] t).map (fun c =>
    ((s.frame c.first).map (·.cells.length)).getD 0)).sum)).sum

/-- The cells of the Bobbin ring (R698). -/
def State.bobCells (s : State) : Nat := if s.on Reg.BOBBIN_CTRL_EN then s.rd Reg.BOBBIN_SIZE_SIZE else 0

/-- The frame pool (R661). -/
def State.framePool (s : State) : Nat :=
  16384 - s.bobCells - ((List.range 4).map (fun k => (s.decl k).packetCells)).sum -
    (if s.img.stagedCells then 2048 else 0)

/-- The sum of RESERVE (R662). -/
def State.sumReserve (s : State) : Nat :=
  ((List.range 6).map (fun p => s.rd (Reg.LOOM_PORT_CELLS_RESERVE.at p))).sum

/-- Cells taken from the shared part of the pool. -/
def State.sharedUsed (s : State) : Nat :=
  ((List.range 6).map (fun p => s.portHeld p - s.rd (Reg.LOOM_PORT_CELLS_RESERVE.at p))).sum + s.setHeld 4 + s.setHeld 5

/-- Whether port `p` may take `k` more cells (R662, R663). -/
def State.portMayTake (s : State) (p k : Nat) : Bool :=
  let held := s.portHeld p
  let res := s.rd (Reg.LOOM_PORT_CELLS_RESERVE.at p)
  decide (held + k ≤ s.rd (Reg.LOOM_PORT_CELLS_MAX.at p)) &&
    decide (s.sharedUsed + ((held + k - res) - (held - res)) ≤ s.framePool - s.sumReserve)

/-- Whether queue set `q` may take `k` more cells: PACKET_CELLS for an image (R665), the shared part for N0 and N2. -/
def State.setMayTake (s : State) (q k : Nat) : Bool :=
  if q < 4 then decide (s.setHeld q + k ≤ (s.decl q).packetCells)
  else decide (s.sharedUsed + k ≤ s.framePool - s.sumReserve)

/-- The cells that no frame and no Bobbin ring occupies. -/
def State.freeCells (s : State) : List Nat :=
  let used := (s.frameList.map (·.cells)).flatten
  let base := s.rd Reg.BOBBIN_BASE_BASE
  (List.range 16384).filter (fun c => !used.contains c && !(decide (base ≤ c) && decide (c < base + s.bobCells)))

/-- Take `k` of the free cells `l`; which of them is free (log entry 31). -/
def State.pickCells : Nat → State → List Nat → List Nat × State
  | 0, s, _ => ([], s)
  | k + 1, s, l =>
    let d := s.drawWord
    let i := d.1.toNat % l.length
    let r := State.pickCells k d.2 (l.eraseIdx i)
    (l.getD i 0 :: r.1, r.2)

/-- How many cells a frame of `n` bytes occupies (R659). -/
def cellsFor (n : Nat) : Nat := (n + 255) / 256

/-- FREE_CELLS: the frame pool less the cells in use from it. -/
def State.freeCount (s : State) : Nat := s.framePool - ((List.range 6).map s.portHeld).sum - s.setHeld 4 - s.setHeld 5

/-- Write bytes into the cells of a frame, 256 bytes a cell. -/
def State.putCells : State → List Nat → List Byte → State
  | s, [], _ => s
  | s, c :: cs, b => State.putCells (s.pktPutBytes 32 (256 * c) (b.take 256)) cs (b.drop 256)

/-- The bytes of a frame, read from its cells. -/
def State.frameBytes (s : State) (f : LFrame) : List Byte :=
  ((f.cells.map (fun c => (List.range 256).map (fun i => s.pktByte (256 * c + i)))).flatten).take f.len

/-- Whether a read of a frame's cells meets an uncorrectable or poisoned word (R429). -/
def State.framePoisoned (s : State) (f : LFrame) : Bool :=
  f.cells.any (fun c => (List.range 32).any (fun i =>
    let e := (s.pktWord (256 * c + 8 * i)).ecc
    e == .double || e == .poison))

/-- A handle value (R659). -/
def frameHandle (buffer : Bool) (first len : Nat) : Nat := b2n buffer * 2 ^ 31 + first * 2 ^ 17 + len % 2 ^ 14

/-- Free the cells of a frame that nothing holds any more (R663). -/
def State.release (s : State) (first : Nat) : State :=
  match s.frame first with
  | none => s
  | some f =>
    if f.copies == 0 && f.holders.isEmpty && !(s.loom.arrived.get [] f.port).contains first then s.setFrame first none
    else s

/-! ### Bobbin records (R699 to R703) -/

/-- The class of a verdict as a bit of a filter's VERDICT mask (R667, R701). -/
def verdictClass (v : Nat) : Nat :=
  match v with
  | 0 | 1 | 2 => 0
  | 0x03 | 0x17 => 3
  | 0x10 => 2
  | 0x18 => 4
  | _ => 1

/-- Whether filter `k` matches (R701). -/
def State.bobMatches (s : State) (k port dir etype vid verdict : Nat) : Bool :=
  s.on (Reg.BOBBIN_F_CFG_EN.at k) && s.bit (Reg.BOBBIN_F_CFG_PORTS.at k) port && s.bit (Reg.BOBBIN_F_CFG_DIR.at k) dir &&
    s.bit (Reg.BOBBIN_F_CFG_VERDICT.at k) (verdictClass verdict) &&
    (!s.on (Reg.BOBBIN_F_CFG_ETYPE_EN.at k) || s.rd (Reg.BOBBIN_F_MATCH_ETYPE.at k) == 0 ||
      s.rd (Reg.BOBBIN_F_MATCH_ETYPE.at k) == etype) &&
    (!s.on (Reg.BOBBIN_F_CFG_VID_EN.at k) || s.rd (Reg.BOBBIN_F_MATCH_VID.at k) == 0 ||
      s.rd (Reg.BOBBIN_F_MATCH_VID.at k) == vid)

/-- Count a lost record (R702). -/
def State.bobLose (s : State) : State :=
  { s.inc Reg.BOBBIN_STAT_LOST_TOTAL with loom := { s.loom with bobLost := satInc 255 s.loom.bobLost } }

/-- Offer a frame to the Bobbin: each matching filter counts, and where one samples, a record waits in the FIFO, or is lost
where that is full (R699 to R702). `clock` is the device time and `ang` the ANG of the record. -/
def State.bobbin (s : State) (bytes : List Byte) (port dir verdict tc vid clock ang : Nat) : State :=
  if !s.on Reg.BOBBIN_CTRL_EN then s
  else
    let etype := (parseHdr bytes).etype
    let hits := (List.range 16).filter (fun k => s.bobMatches k port dir etype vid verdict)
    let fires := hits.filter (fun k => s.rd (Reg.BOBBIN_F_SAMPLE_SAMPLE.at k) ≤ s.loom.bobCount.get 0 k + 1)
    let s1 := s.each hits (fun s k => { s with loom := { s.loom with
      bobCount := s.loom.bobCount.set 0 k (if fires.contains k then 0 else s.loom.bobCount.get 0 k + 1) } })
    if fires.isEmpty then s1
    else if 16 ≤ s1.loom.bobFifo.length then s1.bobLose
    else
      let slice := bytes.take 104
      let r : List Byte := leBytes 2 bytes.length ++ [BitVec.ofNat 8 (port + 16 * dir), BitVec.ofNat 8 verdict,
          BitVec.ofNat 8 (hits.headD 0 + 16 * tc), 0, 0, 0] ++ leBytes 4 (clockSub clock) ++ leBytes 6 (clockSec clock) ++
        leBytes 4 ang ++ leBytes 2 vid ++ slice ++ List.replicate (104 - slice.length) 0
      { s1 with loom := { s1.loom with bobFifo := s1.loom.bobFifo ++ [r] } }

/-! ### Deliveries and completion words -/

/-- Put a completion word into the queue of set `q`, or answer that the queue is full (R692, R740, R741). -/
def State.complete (s : State) (q w : Nat) : Option State :=
  let v := s.qset q
  if v.cq.length < 64 then some (s.setQset q { v with cq := v.cq ++ [w] }) else none

/-- A completion word (Table 12-5). -/
def completionWord (kind verdict port first : Nat) : Nat := kind * 2 ^ 28 + verdict * 2 ^ 23 + port * 2 ^ 14 + first

/-- An egress copy ends: the frame's count of copies falls and its cells are freed where nothing holds them. -/
def State.endCopy (s : State) (first : Nat) : State :=
  match s.frame first with
  | none => s
  | some f => (s.setFrame first (some { f with copies := f.copies - 1, owner := if f.copies ≤ 1 then none else f.owner })).release
      first

/-- A copy is dropped at egress with a verdict (R664, R678, R688, R696, R719): the transmit record is made (R700), the sender
gets a DROPPED completion word or CQ_LOST (R740, R741), and a LARGE_SEND counts it (R748). -/
def State.dropCopy (s : State) (port verdict : Nat) (c : Copy) : State :=
  match s.frame c.first with
  | none => s
  | some f =>
    let s1 := s.bobbin (s.frameBytes f) port 1 verdict c.tc f.vid s.time.dt s.ang
    let s2 := match f.large with
      | some i => { s1 with loom := { s1.loom with large := s1.loom.large.upd (0, 0) i (fun x => (x.1, x.2 + 1)) } }
      | none =>
        if f.port < 6 then s1
        else (s1.complete f.set (completionWord 2 verdict port c.first)).getD (s1.wr (Reg.MAC_STAT_CQ_LOST.at port) 1)
    s2.endCopy c.first

/-- The 16-byte status entry of a delivered frame as four words (R733, Table 12-4). -/
def State.statusEntry (s : State) (f : LFrame) (b : List Byte) : List Nat :=
  let h := parseHdr b
  let ev := (ptpEvent b).isSome
  let adj := signed 18 (s.rd (Reg.TIME_PADJ_RX_RX_ADJ.at f.port))
  let c (x : Nat) : Nat := if f.port < 6 then adjClock x adj else x
  let frag := h.etype == 0x0800 && beAt b (h.off + 6) 2 % 0x4000 != 0
  let flags := cksumFlags b + 16 * b2n ev + 32 * b2n f.tagged + 64 * b2n frag
  [flags + 2 ^ 8 * f.port + 2 ^ 16 * (subNs (c f.dt) + 2 ^ 5 * subNs (c f.tda) + 2 ^ 10 * subNs (c f.tdb)),
    clockSub (c f.dt), if ev then clockSub (c f.tda) else 0, if ev then clockSub (c f.tdb) else 0]

/-- The PTP instance of the time image in slot `q` that a frame is an event message for (R245, R250). -/
def State.eventFor (s : State) (q : Nat) (b : List Byte) : Option Nat :=
  match ptpEvent b with
  | none => none
  | some o =>
    let d := beAt b (o + 4) 1
    [0, 1].find? (fun x => s.timeSlot x == some q &&
      d == s.rd (if x = 0 then Reg.TIME_TDA_PTPDOM_DOMNUM else Reg.TIME_TDB_PTPDOM_DOMNUM))

/-- An event message reaches PTP instance `x` (R250): whether it is handled, the 512th of its second being the last; beyond that the
instance's overload flag is set. -/
def State.eventCount (s : State) (x : Nat) : Bool × State :=
  let e := s.loom.events.get (0, 0) x
  let e1 := if e.1 + 3000000000 ≤ s.cycle then (s.cycle, 0) else e
  if e1.2 < 512 then (true, { s with loom := { s.loom with events := s.loom.events.set (0, 0) x (e1.1, e1.2 + 1) } })
  else (false, match s.timeKey x .overload with
    | none => s
    | some key => s.odPut (key / 256) (key % 256) (.scalar .bool 1))

/-- Deliver a frame to queue set `q` (R692, R733): NOBUF (0x11) for an image at its cell limit (R665), QUEUE_FULL (0x16) where
256 handles wait, else DELIVERED (0x01): the status entry is written, then the handle queued, and the bound thread woken; an event
message beyond R250 is delivered and dropped there. -/
def State.deliver (s : State) (q first : Nat) : Nat × State :=
  match s.frame first with
  | none => (0x14, s)
  | some f =>
    let v := s.qset q
    if q < 4 && !s.setMayTake q f.cells.length then (0x11, s)
    else if 256 ≤ v.rx.length then (0x16, s)
    else
      let c := match s.eventFor q (s.frameBytes f) with
        | some x => s.eventCount x
        | none => (true, s)
      if !c.1 then (1, c.2)
      else
      let s := c.2
      let e := s.statusEntry f (s.frameBytes f)
      let base := q * 1024 + v.k % 256 * 4
      let s1 := { s with loom := { s.loom with
        rxst := (((s.loom.rxst.set 0 base (e.getD 0 0)).set 0 (base + 1) (e.getD 1 0)).set 0 (base + 2) (e.getD 2 0)).set 0
          (base + 3) (e.getD 3 0) } }
      let s2 := (s1.setFrame first (some { f with holders := q :: f.holders })).setQset q
        { v with rx := v.rx ++ [frameHandle false first f.len], k := v.k + 1 }
      (1, if q < 4 && s.on (Reg.LOOM_NQ_CFG_WAKE_EN.at q) then s2.wakeShuttle (s.rd (Reg.LOOM_NQ_CFG_THREAD.at q)) else s2)

/-! ### Gates (R685 to R691) -/

/-- The segments of a list over one period of `total` units: interval × `unit` each, cut at the period's end, the last entry
holding until then (R686, R687). -/
def gateSegs (unit : Nat) : Nat → List (Nat × Nat) → List (Nat × Nat)
  | left, [] => if left = 0 then [] else [(0xFF, left)]
  | left, [(g, _)] => [(g, left)]
  | left, (g, i) :: t => (g, min left (i * unit)) :: gateSegs unit (left - min left (i * unit)) t

/-- Drop `pos` units from the front of segments. -/
def segsFrom : Nat → List (Nat × Nat) → List (Nat × Nat)
  | _, [] => []
  | pos, (g, d) :: t => if pos < d then (g, d - pos) :: t else segsFrom (pos - d) t

/-- How long the gate of queue `t` stays open over segments; `none` where none closes it. -/
def openFor (t : Nat) : List (Nat × Nat) → Option Nat
  | [] => none
  | (g, d) :: rest => if d ≠ 0 && !bitOf g t then some 0 else (openFor t rest).map (· + d)

/-- The time list of port `p` from device time on: the segments from now over the next two periods, in nanoseconds. -/
def State.tgNow (s : State) (p : Nat) : List (Nat × Nat) :=
  let g := (s.eg p).tg
  let pos := (((clockNs s.time.dt : Int) - g.base) % (max g.cycle 1 : Nat)).toNat
  let segs := gateSegs 8 g.cycle g.ents
  segsFrom pos segs ++ segs

/-- The angle list of port `p` from ANG on, in ac (R687): with ASRC 1 it restarts only on an angle event, so its last entry
holds. -/
def State.agNow (s : State) (p : Nat) : List (Nat × Nat) :=
  let g := (s.eg p).ag
  if g.asrc then
    segsFrom ((s.ang + 2 ^ 32 - (s.eg p).agStart) % 2 ^ 32) (gateSegs 1 (2 ^ 32) g.ents)
  else
    let segs := gateSegs 1 65536 g.ents
    segsFrom ((s.ang + 65536 - g.base % 65536) % 65536) segs ++ segs

/-- Nanoseconds until queue `t` closes in the time list; `none`: it does not. -/
def State.tgClose (s : State) (p t : Nat) : Option Nat :=
  if s.on (Reg.LOOM_TG_CTRL_EN.at p) then openFor t (s.tgNow p) else none

/-- Nanoseconds until queue `t` closes in the angle list, from the present INC (R688). -/
def State.agClose (s : State) (p t : Nat) : Option Nat :=
  if s.on (Reg.LOOM_AG_CTRL_EN.at p) && s.on Reg.TREADLE_STAT_ANG_VALID then
    (openFor t (s.agNow p)).map (fun ac =>
      if ac = 0 then 0 else (ac * 2 ^ 32 - s.trd.acc % 2 ^ 32) / (3 * max 1 (s.rd Reg.TREADLE_INC_INC)))
  else none

/-- Whether the gates of queue `t` are open in both lists (R685). -/
def State.gateOpen (s : State) (p t : Nat) : Bool :=
  6 ≤ p || (s.tgClose p t != some 0 && s.agClose p t != some 0)

/-- Whether a frame of `n` bytes ends before the next close of its queue in both lists (R688). -/
def State.gateFits (s : State) (p t n : Nat) : Bool :=
  let need := (n + 8) * 8 * 1000
  let ok : Option Nat → Bool
    | none => true
    | some ns => decide (need ≤ ns * s.rateMbps p)
  6 ≤ p || (ok (s.tgClose p t) && ok (s.agClose p t))

/-- The administrative time list of port `p`, from its registers. -/
def State.tgAdmin (s : State) (p : Nat) : GateList :=
  { base := (s.rd (Reg.LOOM_TG_BASESECLO_V.at p) + 2 ^ 32 * s.rd (Reg.LOOM_TG_BASESECHI_V.at p)) * 1000000000 +
      s.rd (Reg.LOOM_TG_BASENS_V.at p),
    cycle := s.rd (Reg.LOOM_TG_CYCLE_CYCLE.at p),
    ents := (List.range (s.rd (Reg.LOOM_TG_LEN_LEN.at p))).map (fun k =>
      (s.rd (Reg.LOOM_TG_ENT_GATES.at2 p k), s.rd (Reg.LOOM_TG_ENT_INTERVAL.at2 p k))) }

/-- The administrative angle list of port `p`, from its registers. -/
def State.agAdmin (s : State) (p : Nat) : GateList :=
  { base := s.rd (Reg.LOOM_AG_CTRL_ABASE.at p), asrc := s.on (Reg.LOOM_AG_CTRL_ASRC.at p),
    ents := (List.range (s.rd (Reg.LOOM_AG_LEN_LEN.at p))).map (fun k =>
      (s.rd (Reg.LOOM_AG_ENT_GATES.at2 p k), s.rd (Reg.LOOM_AG_ENT_INTERVAL.at2 p k))) }

/-- The time list of port `p` restarts: a pending list becomes current (R690). -/
def State.tgRestart (s : State) (p : Nat) : State :=
  let e := s.eg p
  let s1 := match e.tgNext with
    | none => s
    | some g => (s.setEg p { e with tg := g, tgNext := none }).wr (Reg.LOOM_TG_STAT_SWAP_PENDING.at p) 0
  s1.wr (Reg.LOOM_TG_STAT_ENTRY.at p) 0

/-- The angle list of port `p` restarts (R687, R690). -/
def State.agRestart (s : State) (p : Nat) : State :=
  let e := s.eg p
  let s1 := match e.agNext with
    | none => s
    | some g => (s.setEg p { e with ag := g, agNext := none }).wr (Reg.LOOM_AG_STAT_SWAP_PENDING.at p) 0
  (s1.setEg p { s1.eg p with agStart := s.ang }).wr (Reg.LOOM_AG_STAT_ENTRY.at p) 0

/-- The entry that segments hold at position `pos`. -/
def entryAt (unit : Nat) : Nat → List (Nat × Nat) → Nat
  | _, [] => 0
  | _, [_] => 0
  | pos, (_, i) :: t => if pos < i * unit then 0 else entryAt unit (pos - i * unit) t + 1

/-- A step of device time re-places every time list (R691). -/
def State.rePlaceTime (s : State) : State :=
  s.each (List.range 6) (fun s p =>
    let g := (s.eg p).tg
    s.wr (Reg.LOOM_TG_STAT_ENTRY.at p)
      (entryAt 8 (((clockNs s.time.dt : Int) - g.base) % (max g.cycle 1 : Nat)).toNat g.ents))

/-- A step of ANG re-places every angle list (R691). -/
def State.rePlaceAngle (s : State) : State :=
  s.each (List.range 6) (fun s p =>
    let g := (s.eg p).ag
    if g.asrc then s
    else s.wr (Reg.LOOM_AG_STAT_ENTRY.at p) (entryAt 1 ((s.ang + 65536 - g.base % 65536) % 65536) g.ents))

/-! ### The decision (R666) -/

/-- The FDB or group entry for a MAC and a VID. -/
def findEntry (l : List FdbEntry) (mac vid : Nat) : Option FdbEntry := l.find? (fun e => e.mac == mac && e.vid == vid)

/-- Learn the source of a frame (R674). -/
def State.learn (s : State) (mac vid port : Nat) : State :=
  let put (l : List FdbEntry) : State := { s with loom := { s.loom with fdb := l } }
  match findEntry s.loom.fdb mac vid with
  | some e =>
    if e.isStatic then s
    else put (s.loom.fdb.map (fun x =>
      if x.mac == mac && x.vid == vid then { x with ports := 2 ^ port, stamp := s.cycle } else x))
  | none =>
    let bucket := Config.fdbBucket mac vid
    if (s.loom.fdb.filter (fun e => Config.fdbBucket e.mac e.vid == bucket)).length < 4 then
      put (s.loom.fdb ++ [{ mac := mac, vid := vid, ports := 2 ^ port, stamp := s.cycle }])
    else
      let s1 := s.wr Reg.LOOM_STAT_FDB_FULL 1
      let quiet := match s.loom.fdbEvent with
        | some c => decide (s.cycle < c + 3000000000)
        | none => false
      if quiet then s1
      else { s1.event 0x0B01 port (evBytes 2 bucket.toNat) with loom := { s1.loom with fdbEvent := some s.cycle } }

/-- The image slot whose claim a frame matches (R694): EtherType, or UDP or TCP destination port, on its port mask. -/
def State.claimant (s : State) (b : List Byte) (port : Nat) : Option Nat :=
  let h := parseHdr b
  let ptp := (ptpOff b h).isSome
  let hit (c : Claim) : Bool :=
    (6 ≤ port || bitOf c.ports port) &&
      (if ptp then (c.kind == 1 && c.value == 0x88F7) || (c.kind == 2 && (c.value == 319 || c.value == 320))
       else (c.kind == 1 && c.value == h.etype) ||
        (match portOf b h with
         | some (17, q) => c.kind == 2 && c.value == q
         | some (_, q) => c.kind == 3 && c.value == q
         | none => false))
  (List.range 4).find? (fun k => (s.slot k).claims.any hit)

/-- Whether a frame is of the kinds that always go to N0 (R694): EtherType 0x88B5, MRP, HSR and PRP supervision, LLDP, ARP. -/
def toWeaver (etype : Nat) : Bool := [0x88B5, 0x88E3, 0x88FB, 0x88CC, 0x0806].contains etype

/-- Whether a frame is an ICMP echo request to the station IPv4 address (R694). -/
def State.icmpEcho (s : State) (b : List Byte) (h : Hdr) : Bool :=
  h.etype == 0x0800 && s.stationIp != 0 && beAt b (h.off + 16) 4 == s.stationIp && beAt b (h.off + 9) 1 == 1 &&
    beAt b (h.off + beAt b h.off 1 % 16 * 4) 1 == 8

/-- Whether an enabled N2 claim matches (R694). -/
def State.n2Claims (s : State) (etype : Nat) : Bool :=
  (List.range 8).any (fun k => s.on (Reg.LOOM_N2CLAIM_EN.at k) && s.rd (Reg.LOOM_N2CLAIM_ETYPE.at k) == etype)

/-- Whether a destination is one of 01-80-C2-00-00-00 to -0F (R676). -/
def linkLocal (dst : Nat) : Bool := dst / 16 == 0x0180C200000

/-- The queue sets that a frame reaches at step 5 (R676, R694). -/
def State.localSets (s : State) (b : List Byte) (port vid : Nat) : List Nat :=
  let h := parseHdr b
  let ptp := (ptpOff b h).isSome
  let bcast := h.dst == 0xFFFFFFFFFFFF
  let own := h.dst == s.stationMac
  let grp := match findEntry s.loom.groups h.dst vid with
    | some e => e.ports / 64 != 0
    | none => false
  if linkLocal h.dst then (if ptp then (s.claimant b port).toList else [4])
  else if !(bcast || own || grp) then []
  else
    let img := (s.claimant b port).toList
    let n2 := if s.n2Claims h.etype then [5] else []
    let n0 := if bcast || toWeaver h.etype || (own && img.isEmpty && n2.isEmpty && s.icmpEcho b h) then [4] else []
    img ++ n2 ++ n0

/-- Table 11-5: whether a port in BLOCKING passes a received frame to the internal ports. -/
def blockingPasses (b : List Byte) (h : Hdr) : Bool :=
  linkLocal h.dst || h.etype == 0x88E3 || h.etype == 0x88FB || (ptpOff b h).isSome

/-- The egress mask of steps 6 and 7 (R666, R672, R676, R680) over E0 to E5: FDB or group ports or the VLAN members, without
the source port, ports not FORWARDING and non-members; a pair port entered from outside brings the other; within an HSR pair
the other ring port is added unless the source is this RedBox or proxied, within a PRP pair it is removed. -/
def State.egressMask (s : State) (h : Hdr) (port vid : Nat) : List Nat :=
  let multi := bitOf (h.dst / 2 ^ 40) 0
  let found := if multi then findEntry s.loom.groups h.dst vid else findEntry s.loom.fdb h.dst vid
  let mask := match found with
    | some e => e.ports
    | none => s.vlanMember vid
  let proxied := h.src == s.stationMac || (match findEntry s.loom.fdb h.src vid with
    | some e => e.ports % 64 != 0 && !bitOf e.ports port && !bitOf e.ports (pairOther port)
    | none => false)
  (List.range 6).filter (fun p =>
    let inPair := port < 4 && s.pairMode port != 0 && p == pairOther port
    let want :=
      if inPair then s.pairMode port == 1 && !proxied
      else bitOf mask p || (p < 4 && s.pairMode p != 0 && bitOf mask (pairOther p) && port / 2 != p / 2)
    want && p != port && s.rd (Reg.LOOM_PORT_CFG_STATE.at p) == 2 && bitOf (s.vlanMember vid) p && !linkLocal h.dst)

/-- The traffic class of a priority by a port's TC_MAP (R682). -/
def State.tcOf (s : State) (p prio : Nat) : Nat := fieldOf (s.rd (Reg.LOOM_PORT_TCMAP_TC_MAP.at p)) (3 * prio) 3

/-- Queue a copy on port `p` (R664): QUEUE_FULL where EGRESS_MAX would be exceeded. -/
def State.enqueue (s : State) (p tc : Nat) (c : Copy) : Bool × State :=
  match s.frame c.first with
  | none => (false, s)
  | some f =>
    let s1 := s.setFrame c.first (some { f with copies := f.copies + 1, fan := f.fan + 1 })
    if s.portQueued p + f.cells.length ≤ s.rd (Reg.LOOM_PORT_EGMAX_EGRESS_MAX.at p) then
      let e := s1.eg p
      (true, s1.setEg p { e with queues := e.queues.set [] tc (e.queues.get [] tc ++ [c]) })
    else (false, s1.dropCopy p 0x16 c)

/-- The sequence number of the tag or trailer on port `p` of an active pair (R680): the next one of its source where the frame
enters the pair from outside, the one it arrived with where it stays on the ring. -/
def State.pairSeq (s : State) (src port p : Nat) (red : Option Nat) : Option Nat :=
  if 4 ≤ p || s.pairMode p == 0 then none
  else if port / 2 == p / 2 then red
  else some (s.loom.seqs.get 0 src)

/-- Steps 5 to 8 of Table 11-3 for a frame that passed step 4: local delivery, forwarding and queue admission; answers the
verdict. `tcs` is the descriptor's TC of a frame from an internal port. -/
def State.forward (s : State) (first : Nat) (b : List Byte) (port vid prio : Nat) (tcs : Option Nat) (localOnly : Bool) :
    Nat × State :=
  let h := parseHdr b
  let sets := s.localSets b port vid
  let own := h.dst == s.stationMac
  let d := sets.foldl (fun a q =>
    let r := a.2.deliver q first
    (a.1 ++ [r.1], r.2)) (([] : List Nat), s)
  let s1 := d.2
  if own && sets.isEmpty then (0x15, s1)
  else if own || localOnly then
    (if d.1.contains 1 then 1 else d.1.headD (if localOnly then 0x13 else 0x15), s1)
  else
    let mask := s.egressMask h port vid
    let red := ((s.frame first).map (·.red)).getD none
    let seqd := mask.any (fun p => port / 2 != p / 2 && (s.pairSeq h.src port p none).isSome)
    let r := mask.foldl (fun a p =>
      let tc := tcs.getD (a.2.tcOf p prio)
      let q := a.2.enqueue p tc { first := first, untag := bitOf (s.vlanUntag vid) p, tc := tc, seq := s.pairSeq h.src port p red }
      (a.1 || q.1, q.2)) (false, s1)
    let s2 := if seqd then { r.2 with loom := { r.2.loom with seqs := r.2.loom.seqs.upd 0 h.src (fun n => (n + 1) % 65536) } }
      else r.2
    if r.1 then (0, s2)
    else if d.1.contains 1 then (1, s2)
    else if !mask.isEmpty then (0x16, s2)
    else (d.1.headD 0x14, s2)

end Sys2Proof.Machine
end

