-- ==== Sys2Proof/Machine/Time.lean ====
section
/-! DEFINITION. Network time: the domains TDA and TDB, device time, the pulse outputs and the captures (chapter 04). -/
namespace Sys2Proof.Machine

/-! ### Device time and the domains -/

/-- DT_ERR in nanoseconds, saturating (R231); 0, its reset value, in INIT. In HOLDOVER it is not defined (R234): its reads draw a free
value. -/
def State.dtErr (s : State) : Int :=
  if s.dtFollows then clampInt (-2147483647) 2147483647 (s.alignError.tdiv (unitsPerNs : Int)) else 0

/-! ### Pulse outputs (R253 to R258) -/

/-- Pulse output `n` beside its registers. -/
def State.tpo (s : State) (n : Nat) : TpoUnit := s.time.tpo.get {} n

/-- Put pulse output `n`. -/
def State.setTpo (s : State) (n : Nat) (u : TpoUnit) : State :=
  { s with time := { s.time with tpo := s.time.tpo.set {} n u } }

/-- The clock of source code `k`: 0 device time, 1 TDA, 2 TDB (R253). -/
def State.srcClock (s : State) (k : Nat) : Nat :=
  if k = 1 then s.time.tda else if k = 2 then s.time.tdb else s.time.dt

/-- START of pulse output `n` in nanoseconds. -/
def State.tpoStart (s : State) (n : Nat) : Nat :=
  (s.rd (Reg.TIME_TPO_SECLO_V.at n) + 2 ^ 32 * s.rd (Reg.TIME_TPO_SECHI_V.at n)) * 1000000000 +
    s.rd (Reg.TIME_TPO_NS_V.at n)

/-- The latest assert instant of settings `c` that is not after `now` nanoseconds of their source (R254). -/
def TpoSet.instant (c : TpoSet) (now : Nat) : Option Nat :=
  let ns := c.start % 1000000000
  let period := max 1 c.period
  match c.mode with
  | 1 => if c.start ≤ now then some c.start else none
  | 2 => if c.start ≤ now then some (c.start + (now - c.start) / period * period) else none
  | 3 =>
    if ns ≤ now % 1000000000 then some (now - now % 1000000000 + ns)
    else if 1000000000 ≤ now then some (now - now % 1000000000 + ns - 1000000000)
    else none
  | _ => none

/-- The settings that the registers of pulse output `n` hold. -/
def State.tpoRegs (s : State) (n : Nat) : TpoSet :=
  { mode := s.rd (Reg.TIME_TPO_CFG_MODE.at n), src := s.rd (Reg.TIME_TPO_CFG_SRC.at n), start := s.tpoStart n,
    period := s.rd (Reg.TIME_TPO_PERIOD_V.at n) }

/-- Pulse output `n` asserts: WIDTH and POL are latched; an output that is asserted completes its pulse (R256, R258). -/
def State.tpoPulse (s : State) (n : Nat) : State :=
  if (s.tpo n).asserted then s
  else s.setTpo n { s.tpo n with asserted := true, edge := s.cycle, width := s.rd (Reg.TIME_TPO_WIDTH_V.at n),
                                 pol := s.on (Reg.TIME_TPO_CFG_POL.at n) }

/-- The time of the source of settings `c` in nanoseconds. -/
def State.tpoNow (s : State) (c : TpoSet) : Nat := clockNs (s.srcClock c.src)

/-- The assert instant that pulse output `n` has reached and not yet served. -/
def State.tpoDue (s : State) (n : Nat) : Option Nat :=
  let u := s.tpo n
  match u.cur.instant (s.tpoNow u.cur) with
  | none => none
  | some i => if u.lastNs.all (fun l => decide (l < i)) then some i else none

/-- The registers of pulse output `n` come into force: a one-shot waits for its START anew, and in modes 2 and 3 the instants already
past are not served. -/
def State.tpoArm (s : State) (n : Nat) : State :=
  let c := s.tpoRegs n
  s.setTpo n { s.tpo n with cur := c, lastNs := if c.mode = 1 then none else c.instant (s.tpoNow c) }

/-- Whether the settings in force have an assert instant to come (R258). -/
def TpoUnit.waits (u : TpoUnit) : Bool := u.cur.mode == 2 || u.cur.mode == 3 || (u.cur.mode == 1 && u.lastNs.isNone)

/-- Whether WIDTH of pulse output `n` lies within R253, for its MODE and PERIOD. -/
def State.tpoWidthOk (s : State) (n : Nat) : Bool :=
  let w := s.rd (Reg.TIME_TPO_WIDTH_V.at n)
  decide (20 ≤ w) && (s.rd (Reg.TIME_TPO_CFG_MODE.at n) != 2 || decide (w + 20 ≤ s.rd (Reg.TIME_TPO_PERIOD_V.at n)))

/-- Settings of pulse output `n` were written (R258): they take effect at the next assert instant, where the settings in force have one
to come; MODE 0 takes effect at once, or after the pulse in progress. -/
def State.tpoChanged (s : State) (n : Nat) : State :=
  let c := s.tpoRegs n
  let u := s.tpo n
  if c = u.cur then s
  else if c.mode = 0 then (if u.asserted then s else s.tpoArm n)
  else if u.waits then s
  else s.tpoArm n

/-- Pulse output `n` serves assert instant `i` of the settings in force: the output asserts, and settings written since take effect
(R254, R258). -/
def State.tpoServe (s : State) (n i : Nat) : State :=
  let s1 := if s.rd (Reg.TIME_TPO_CFG_MODE.at n) = 0 then s else s.tpoPulse n
  let u := s1.tpo n
  if s.tpoRegs n = u.cur then s1.setTpo n { u with lastNs := some i } else s1.tpoArm n

/-- A step of clock `src` (R257): forward past an assert instant, the output asserts once with MISSED; backward, it waits for the
next instant ahead. -/
def State.tpoStep (s : State) (src : Nat) (forward : Bool) : State :=
  s.each (List.range 8) (fun s n =>
    let u := s.tpo n
    if u.cur.src ≠ src then s
    else if forward then
      match s.tpoDue n with
      | none => s
      | some i => (s.tpoServe n i).wr (Reg.TIME_TPO_CFG_MISSED.at n) 1
    else if u.cur.mode = 1 then s
    else s.setTpo n { u with lastNs := u.cur.instant (s.tpoNow u.cur) })

/-! ### Device time -/

/-- Device time is set to `c` in one cycle: pulse outputs, Loom time gates and CAN schedules see the step (R237). -/
def State.dtSet (s : State) (c : Nat) : State :=
  let before := s.time.dt
  let s1 : State := { s with time := { s.time with dt := c } }
  ((s1.tpoStep 0 (decide (before ≤ c))).rePlaceTime).ttStep before

/-- A step of device time onto the domain it follows (R235). -/
def State.dtStep (s : State) : State :=
  ((s.dtSet (s.dom s.followed)).wr Reg.TIME_STAT_DT_STEPPED 1).wr Reg.TIME_STAT_ALIGNED 1

/-- The source that SELECT_POLICY gives (R229, Table 04-3). -/
def dtChoice (policy : Nat) (a b : Bool) : Nat :=
  match policy, a, b with
  | 0, true, _ => 1
  | 0, false, true => 2
  | 1, _, true => 2
  | 1, true, false => 1
  | 2, true, _ => 1
  | 3, _, true => 2
  | _, _, _ => 3

/-- The source is chosen again (R228 to R235). -/
def State.reSource (s : State) : State :=
  let old := s.dtSource
  let new := dtChoice (s.rd Reg.TIME_CTRL_SEL) (s.domValid 0) (s.domValid 1)
  if new = old ∨ (new = 3 ∧ old = 0) then s
  else if new = 3 then
    let s1 := ((s.wr Reg.TIME_STAT_SOURCE 3).wr Reg.TIME_STAT_ALIGNED 0).wr Reg.TIME_STAT_HOLD_ENTERED 1
    { s1 with time := { s1.time with dtRate := s.domRate s.followed } }
  else
    let s1 := (s.wr Reg.TIME_STAT_SOURCE new).wr Reg.TIME_STAT_ALIGNED 0
    let s2 := s1.wrIf (old == 1 || old == 2) Reg.TIME_STAT_SWITCHED 1
    if old = 0 ∧ s.on Reg.TIME_CTRL_FIRST_STEP then s2.dtStep else s2

/-- A step command of device time; none where it is refused (R235, R236). -/
def State.dtCommand (s : State) : Option State := if s.dtFollows && !s.limping then some s.dtStep else none

/-! ### Domains -/

/-- Who writes TDA (R221, R994, R1006): on a twin, and on a worker with TIME_FOLLOW, the Grilor distribution. -/
def State.tdaFollows (s : State) : Bool := s.role == 3 || (s.role == 2 && s.odN 0x9000 8 1 == 1)

/-- Whether a write of domain `x` takes effect (R221): an image that declares the domain, where the Grilor distribution does not
hold it; the Weaver and a client with the Expert right always. -/
def State.domWriter (s : State) (x : Nat) (w : Writer) : Bool :=
  match w with
  | .weaver => true
  | .gateway => true
  | .pcp => false
  | .image k => bitOf (s.decl k.val).domains x && !(x == 0 && s.tdaFollows)

/-- Move domain `x` in one cycle to clock value `c` (R222, R233). -/
def State.domMove (s : State) (x c : Nat) : State :=
  let before := s.dom x
  let s1 : State := if x = 0 then { s with time := { s.time with tda := c } } else { s with time := { s.time with tdb := c } }
  let s2 := s1.tpoStep (x + 1) (decide (before ≤ c))
  s2.wrIf (s.dtSource == x + 1 && c != before) Reg.TIME_STAT_ALIGNED 0

/-- Restart the heartbeat timer of domain `x` (R225). -/
def State.beatNow (s : State) (x : Nat) : State :=
  { s with time := { s.time with beat := s.time.beat.set 0 x s.cycle } }

/-- Domain `x` enters state `st`; the copy in TIME.STAT follows and the source is chosen again. -/
def State.domTo (s : State) (x st : Nat) : State :=
  let view := if x = 0 then Reg.TIME_STAT_A_STATE else Reg.TIME_STAT_B_STATE
  ((s.wr (Reg.TIME_TDX_STATE_STATE.at x) st).wr view st).reSource

/-- Whether Table 04-2 allows the state write `v` from state `st`. -/
def domAllows (st v : Nat) : Bool :=
  v == 0 || (v == 1 && st != 1) || (v == 2 && st == 1) || (v == 3 && st == 2)

/-- A state write of domain `x` (R224). -/
def State.domStateWrite (s : State) (x v : Nat) : State :=
  if !domAllows (s.domState x) v then s
  else if v = 1 ∧ s.domState x ≠ 2 then (s.beatNow x).domTo x 1
  else s.domTo x v

/-- A RATE write of domain `x` (R225, R226). -/
def State.domRateWrite (s : State) (x : Nat) (rate : BitVec 40) : State :=
  let s1 := s.beatNow x
  if s.domState x = 0 ∨ s.domState x = 3 then s1
  else
    let s2 := (s1.wr (Reg.TIME_TDX_RATELO_RATE.at x) rate.toNat).wr (Reg.TIME_TDX_RATEHI_RATE.at x) (rate.toNat / 2 ^ 32)
    { s2 with time := { s2.time with rates := s2.time.rates.set 0 x rate.toInt } }

/-- A write of RATELO of domain `x` (R225, R226): the heartbeat timer restarts; in FREE and HOLDOVER the value is ignored. -/
def State.domRateLo (s : State) (x v : Nat) : State :=
  (s.beatNow x).wrIf (s.domState x == 1 || s.domState x == 2) (Reg.TIME_TDX_RATELO_RATE.at x) v

/-- A step of domain `x` by STEPS seconds and `ns` nanoseconds (R222). -/
def State.domStep (s : State) (x : Nat) (ns : Int) : State :=
  let d := signed 32 (s.rd (Reg.TIME_TDX_STEPS_STEPS.at x)) * 1000000000 + ns
  s.domMove x (clockAdd (s.dom x) (d * (unitsPerNs : Int)))

/-- A load of domain `x` from SETSEC and SETNS (R222). -/
def State.domSet (s : State) (x : Nat) : State :=
  s.domMove x (clockOf (s.rd (Reg.TIME_TDX_SETSECLO_V.at x) + 2 ^ 32 * s.rd (Reg.TIME_TDX_SETSECHI_V.at x))
    (s.rd (Reg.TIME_TDX_SETNS_V.at x)))

/-! ### One SCLK cycle (R220, R227, R232 to R234) -/

/-- Device time after one SCLK cycle, with the followed domain at `d` and its RATE. -/
def State.dtNext (s : State) (d : Nat) (rate : Int) : Nat × Bool :=
  let free := clockAdd s.time.dt (2 ^ 48 + s.time.dtRate)
  if !s.dtFollows then (free, s.on Reg.TIME_STAT_ALIGNED)
  else if s.on Reg.TIME_STAT_ALIGNED then (d, true)
  else
    let e := s.alignError
    let w : Int := s.slewUnit
    if -w < e ∧ e < w then (d, true)
    else (clockAdd s.time.dt (2 ^ 48 + rate + if 0 < e then w else -w), false)

/-- The clocks advance by one SCLK cycle. -/
def State.tickTime (s : State) : State :=
  let a := clockAdd s.time.tda (2 ^ 48 + s.domRate 0)
  let b := clockAdd s.time.tdb (2 ^ 48 + s.domRate 1)
  let r := s.dtNext (if s.followed = 0 then a else b) (s.domRate s.followed)
  ({ s with time := { s.time with tda := a, tdb := b, dt := r.1 } }).wr Reg.TIME_STAT_ALIGNED (b2n r.2)

/-- The domains and device time at W8 (R227, Table 04-2), from the RTC counter value `cnt`. -/
def State.timeStart (s : State) (cnt : Nat) : State :=
  let c := clockOf (cnt / 32768) (cnt % 32768 * 1000000000 / 32768)
  { s with time := { s.time with
    tda := c, tdb := c, dt := c, dtRate := 0, rates := [], beat := [], tpo := [], tpi := [], tpiEdge := [], snaps := [] } }

/-! ### Captures (R260 to R265) -/

/-- The capture FIFO of input `n`. -/
def State.tpiFifo (s : State) (n : Nat) : List TpiRec := s.time.tpi.get [] n

/-- Put the capture FIFO of input `n`. -/
def State.setTpi (s : State) (n : Nat) (l : List TpiRec) : State :=
  { s with time := { s.time with tpi := s.time.tpi.set [] n l } }

/-- The record of an edge of `k` SCLK cycles ago (R261). -/
def State.tpiRecord (s : State) (rising : Bool) (k : Nat) : TpiRec :=
  { aSec := clockSec (s.domBack 0 k), aNs := clockSub (s.domBack 0 k), bSec := clockSec (s.domBack 1 k),
    bNs := clockSub (s.domBack 1 k), dtSec := clockSec (s.dtBack k), dtNs := clockSub (s.dtBack k), ang := s.angBack k,
    rising := rising }

/-- Move the oldest record of input `n` into its view registers (R263, R265). -/
def State.tpiPop (s : State) (n : Nat) : State :=
  match s.tpiFifo n with
  | [] => (s.wr (Reg.TIME_TPI_FLAGS_VALID.at n) 0).wr (Reg.TIME_TPI_FLAGS_FILL.at n) 0
  | r :: rest =>
    let s1 := (((s.setTpi n rest).wr (Reg.TIME_TPI_ANS_V.at n) r.aNs).wr (Reg.TIME_TPI_ASECLO_V.at n) r.aSec).wr
      (Reg.TIME_TPI_BNS_V.at n) r.bNs
    let s2 := ((s1.wr (Reg.TIME_TPI_BSECLO_V.at n) r.bSec).wr (Reg.TIME_TPI_DTNS_V.at n) r.dtNs).wr
      (Reg.TIME_TPI_FLAGS_EDGE.at n) (b2n r.rising)
    let s3 := ((s2.wr (Reg.TIME_TPI_FLAGS_VALID.at n) 1).wr (Reg.TIME_TPI_FLAGS_FILL.at n) rest.length).wr
      (Reg.TIME_TPIX_DTSECLO_V.at n) r.dtSec
    ((s3.wr (Reg.TIME_TPIX_ANG_V.at n) r.ang).wr (Reg.TIME_TPIX_SECHI_ASEC.at n) (r.aSec / 2 ^ 32)).wr
      (Reg.TIME_TPIX_SECHI_BSEC.at n) (r.bSec / 2 ^ 32)

/-- The bytes of a capture record as its consuming read returns them (R265, Table 04-6). -/
def TpiRec.bytes (r : TpiRec) : List Byte :=
  leBytes 6 r.aSec ++ leBytes 4 r.aNs ++ leBytes 6 r.bSec ++ leBytes 4 r.bNs ++ leBytes 4 r.dtNs ++ leBytes 4 r.dtSec ++
    leBytes 4 r.ang ++ leBytes 1 (b2n r.rising)

/-- The consuming read of 0x3130–0x3137:03 (R265): the oldest record, which is popped. -/
def State.tpiTake (s : State) (n : Nat) : List Byte × State :=
  match s.tpiFifo n with
  | [] => ([], s)
  | r :: rest => (r.bytes, s.setTpi n rest)

/-! ### Commands -/

/-- TDX_STATE_WRITE (R224). -/
def execTdxStateWrite (x : Fin 2) (v : Fin 4) (w : Writer) (s : State) : Out :=
  .next (if s.domWriter x w && !s.limping then s.domStateWrite x v else s)

/-- TDX_RATE_WRITE (R225, R226). -/
def execTdxRateWrite (x : Fin 2) (rate : BitVec 40) (w : Writer) (s : State) : Out :=
  .next (if s.domWriter x w && !s.limping then s.domRateWrite x rate else s)

/-- TDX_HEARTBEAT (R225). -/
def execTdxHeartbeat (x : Fin 2) (w : Writer) (s : State) : Out :=
  .next (if s.domWriter x w && !s.limping then s.beatNow x else s)

/-- TDX_STEP (R222): a write of STEPNS. -/
def execTdxStep (x : Fin 2) (ns : Word) (w : Writer) (s : State) : Out :=
  .next (if s.domWriter x w && !s.limping then s.domStep x ns.toInt else s)

/-- TDX_SET (R222). -/
def execTdxSet (x : Fin 2) (w : Writer) (s : State) : Out :=
  .next (if s.domWriter x w && !s.limping then s.domSet x else s)

/-- SERVO_TIMEOUT (R224, Table 04-2): a LOCKED domain whose heartbeat timer has run for SERVO_TIMEOUT. -/
def execServoTimeout (x : Fin 2) (s : State) : Out :=
  .next (if s.domState x = 2 ∧ !s.limping ∧ s.time.beat.get 0 x + s.rd Reg.TIME_CTRL_SERVO_TO * 30000000 ≤ s.cycle then
      ((s.wr (if x = 0 then Reg.TIME_STAT_A_TIMEOUT else Reg.TIME_STAT_B_TIMEOUT) 1).odInc (0x3110 + x.val) 7 65535).domTo x 3
    else s)

/-- DEVICE_TIME_ALIGNED (R232): the remaining error is smaller than one cycle's slew. -/
def execDeviceTimeAligned (s : State) : Out :=
  let e := s.alignError
  let w : Int := s.slewUnit
  .next (if s.dtFollows ∧ !s.limping ∧ !s.on Reg.TIME_STAT_ALIGNED ∧ -w < e ∧ e < w then
      ({ s with time := { s.time with dt := s.dom s.followed } }).wr Reg.TIME_STAT_ALIGNED 1
    else s)

/-- DT_STEP_CMD (R235, R236): refused with WRONG_STATE where device time follows no domain. -/
def execDtStepCmd (s : State) : Out :=
  .next (match s.dtCommand with
    | some s1 => s1.answer 0
    | none => s.answer 0x0B)

/-- SNAP (R264). -/
def State.snap (s : State) : State :=
  let put (s : State) (k c : Nat) : State :=
    ((s.wr (Reg.TIME_DTV_NS_V.at k) (clockSub c)).wr (Reg.TIME_DTV_SECLO_V.at k) (clockSec c)).wr
      (Reg.TIME_DTV_SECHI_V.at k) (clockSec c / 2 ^ 32)
  (put (put (put s 0 s.time.dt) 1 s.time.tda) 2 s.time.tdb).wr Reg.TIME_ANGV_ANG s.ang

/-- SNAP (R264). -/
def execSnap (s : State) : Out := .next s.snap

/-- TPO_ASSERT (R254): pulse output `n` reaches an assert instant of modes 1 to 3. -/
def execTpoAssert (n : Fin 8) (s : State) : Out :=
  .next (if s.limping then s
    else match s.tpoDue n with
      | none => s
      | some i => s.tpoServe n i)

/-- An angle event with TCODE 6 (R254, mode 4). -/
def State.tpoAngle (s : State) (n : Nat) : State :=
  if (s.tpo n).cur.mode = 4 then s.tpoPulse n else s

/-- TPO_DEASSERT (R256): WIDTH of the pulse has elapsed, counted in SCLK cycles from the assert edge; a MODE 0 written during the pulse
takes effect (R258). -/
def execTpoDeassert (n : Fin 8) (s : State) : Out :=
  let u := s.tpo n
  let s1 := s.setTpo n { u with asserted := false }
  .next (if !u.asserted || decide (s.cycle < u.edge + 3 * u.width) then s
    else if s.rd (Reg.TIME_TPO_CFG_MODE.at n) = 0 then s1.tpoArm n
    else s1)

/-- TPI_CAPTURE (R260 to R262): an edge whose new level has held for the filter time; one less than 20 ns after the last edge captured is
not captured separately. -/
def execTpiCapture (n : Fin 8) (rising : Bool) (s : State) : Out :=
  let edge := s.rd (Reg.TIME_TPI_CFG_EDGE.at n)
  let back := s.rd (Reg.TIME_TPI_CFG_FILT.at n) * 30
  let last := s.time.tpiEdge.get 0 n
  let s1 : State := { s with time := { s.time with tpiEdge := s.time.tpiEdge.set 0 n (s.cycle - back + 1) } }
  .next (if edge = 0 ∨ (edge = 1 ∧ !rising) ∨ (edge = 2 ∧ rising) then s
    else if last ≠ 0 ∧ s.cycle - back + 1 < last + 60 then s
    else if 4 ≤ (s.tpiFifo n).length then s1.wr (Reg.TIME_TPI_CFG_OVF.at n) 1
    else s1.setTpi n (s1.tpiFifo n ++ [s1.tpiRecord rising back]))

/-- TPI_POP (R263). -/
def execTpiPop (n : Fin 8) (s : State) : Out := .next (s.tpiPop n)

/-- TPI_RECORD_READ (R265): the consuming read. -/
def execTpiRecordRead (n : Fin 8) (s : State) : Out :=
  let r := s.tpiTake n
  .next { r.2 with od := { r.2.od with answer := { r.2.od.answer with code := 0, value := some (.bytes r.1) } } }

end Sys2Proof.Machine
end

