-- ==== Sys2Proof/Machine/Backup.lean ====
section
/-! DEFINITION. The backup domain and the real-time clock (chapter 16). -/
namespace Sys2Proof.Machine

/-! ### Kept fields -/

/-- Whether the register field of a key is kept over W8 and over the supply states (R931): the BACKUP and RTC block but SETLO,
SETHI, CMD and VBAT, the reset cause, FALLBACK_DUTY, and the guard with its time stamp. -/
def keptKey (k : Nat) : Bool :=
  let a := k / 32
  (0x400A0000 ≤ a && a < 0x400B0000 && a != 0x400A0008 && a != 0x400A000C && a != 0x400A0010 && a != 0x400A0034) ||
    a == Reg.SYS_RSTCAUSE_CAUSE.addr || a == Reg.FAN_FALLBACK_FALLBACK_DUTY.addr ||
    (a == Reg.THERMAL_GUARD_ASSERTED.addr && k % 32 < 4) || a == Reg.THERMAL_GUARD_TS_TS.addr

/-- First power (R932, Table 16-2): every kept field and the counter take their first-power values. -/
def State.firstPower (s : State) (src : RailSource) : State :=
  let s1 : State := { s with regs := s.regs.filter (fun e => !keptKey e.1), bk := { source := src }, pow := { s.pow with firstPower := true } }
  s1.wr Reg.BACKUP_STAT_ON_BATTERY (b2n (src == .battery))

/-! ### The counter -/

/-- Whether the Weaver runs and takes interrupts of the block (R955). -/
def State.weaverRuns (s : State) : Bool := s.pstate == 4 || s.pstate == 5

/-- The low ten bits of `j`, reversed (R948). -/
def bitRev10 (j : Nat) : Nat := ((List.range 10).map (fun k => b2n (bitOf j k) * 2 ^ (9 - k))).sum

/-- What one tick edge adds, without a set (R948): 1; 2 or 0 at the last tick of a selected sub-window. -/
def State.rtcDelta (s : State) : Nat :=
  let p := s.bk.winPos
  if p % 2048 = 2047 ∧ bitRev10 (p / 2048) < s.bk.trim.natAbs then (if 0 < s.bk.trim then 2 else 0) else 1

/-- The alarm value (R952). -/
def State.alarmVal (s : State) : Nat := s.rd Reg.RTC_ALARMLO_V + 2 ^ 32 * s.rd Reg.RTC_ALARMHI_V

/-- SETHI and SETLO (R942). -/
def State.setVal (s : State) : Nat := s.rd Reg.RTC_SETLO_V + 2 ^ 32 * s.rd Reg.RTC_SETHI_V

/-- The counter after the next tick edge. -/
def State.rtcNext (s : State) : Nat :=
  if s.bk.setPending then s.setVal else (s.bk.cnt + s.rtcDelta) % 2 ^ 48

/-- Place the periodic target at the counter plus PERIOD; PERIOD 0 turns it off (R954). -/
def State.placeTarget (s : State) : State :=
  let p := s.rd Reg.RTC_PERIOD_PERIOD
  { s with bk := { s.bk with target := if p = 0 then none else some ((s.bk.cnt + p) % 2 ^ 48) } }

/-- Whether counter value `c` has reached target `t` (R954), over a wrap as well. -/
def reached48 (c t : Nat) : Bool := decide ((c + 2 ^ 48 - t) % 2 ^ 48 < 2 ^ 47)

/-- The alarm fires (R953, R955): ALARM_FIRED, disarmed, LATE where the value had been reached before; in RUN and LIMP the Weaver
is interrupted and event 0x1004 posted. -/
def State.alarmFire (s : State) (late : Bool) : State :=
  let s1 := ((s.wr Reg.BACKUP_STAT_ALARM_FIRED 1).wr Reg.RTC_ALARMHI_ARMED 0).wrIf late Reg.BACKUP_STAT_LATE 1
  if s.weaverRuns then
    let s2 := s1.interruptWeaver.event 0x1004 0 (evBytes 6 s.alarmVal)
    { s2 with bk := { s2.bk with irq := setBit s2.bk.irq 0 true } }
  else s1

/-- The periodic target is reached (R954, R955): PER_FIRED, the target advances by PERIOD. -/
def State.periodFire (s : State) (t : Nat) : State :=
  let s0 := s.wr Reg.BACKUP_STAT_PER_FIRED 1
  let s1 := if s.weaverRuns then s0.interruptWeaver else s0
  { s1 with bk := { s1.bk with target := some ((t + s.rd Reg.RTC_PERIOD_PERIOD) % 2 ^ 48),
                               irq := if s.weaverRuns then setBit s1.bk.irq 1 true else s1.bk.irq } }

/-- Fire the periodic target where the counter has reached it. -/
def State.periodCheck (s : State) : State :=
  match s.bk.target with
  | none => s
  | some t => if reached48 s.bk.cnt t then s.periodFire t else s

/-- The counter loads SET at this edge (R942): OSC_FAIL, BK_LOST and WRAP clear, RTC_VALID sets, event 0x1005. -/
def State.rtcLoad (s : State) : State :=
  let step : Int := (s.setVal : Int) - ((s.bk.cnt + s.rtcDelta) % 2 ^ 48 : Nat)
  let s1 : State := { s with bk := { s.bk with cnt := s.setVal, setPending := false, measure := none } }
  let s2 := (((s1.wr Reg.BACKUP_STAT_OSC_FAIL 0).wr Reg.BACKUP_STAT_BK_LOST 0).wr Reg.BACKUP_STAT_WRAP 0).wr
    Reg.BACKUP_STAT_RTC_VALID 1
  (if 3 ≤ s.pstate then s2.event 0x1005 0 (evBytes 6 (unsigned 48 step)) else s2).placeTarget

/-- The tick moves on in its 64 s window; at a window start TRIM comes into use (R949). -/
def State.winTick (s : State) : State :=
  let p := (s.bk.winPos + 1) % 2097152
  { s with bk := { s.bk with winPos := p, trim := if p = 0 then signed 10 (s.rd Reg.RTC_TRIM_TRIM) else s.bk.trim } }

/-- One edge of the crystal (R938 to R954): the set or the increment with its trim correction, the wrap, the alarm and the
periodic target. A stopped oscillator and an unpowered domain give no edge. -/
def State.rtcEdge (s : State) : State :=
  if s.bk.stopped || s.bk.source == .unpowered then s
  else
    let late := decide (s.alarmVal ≤ s.bk.cnt)
    let raw := s.bk.cnt + s.rtcDelta
    let s1 : State := if s.bk.setPending then s.rtcLoad
      else ({ s with bk := { s.bk with cnt := raw % 2 ^ 48 } }).wrIf (decide (2 ^ 48 ≤ raw)) Reg.BACKUP_STAT_WRAP 1
    let s2 := if s.on Reg.RTC_ALARMHI_ARMED && decide (s.alarmVal ≤ s1.bk.cnt) then s1.alarmFire late else s1
    (if s.bk.setPending then s2 else s2.periodCheck).winTick

/-- An edge that a command reports, where `c` holds: the next tick starts from it. -/
def State.rtcEdgeIf (s : State) (c : Bool) : State :=
  if c then ({ s with bk := { s.bk with phase := 0 } }).rtcEdge else s

/-! ### Operations that entries and registers share -/

/-- A write of OFFSET (R945); none where it lies outside its interval. -/
def State.offsetWrite (s : State) (v : Int) : Option State :=
  if -64800 ≤ v ∧ v ≤ 64800 then some (s.wr Reg.RTC_LOCAL_OFFSET (unsigned 31 v)) else none

/-- SUMMER_ON or SUMMER_OFF (R946, R947), with the code that 0x8002:03 answers. -/
def State.summer (s : State) (on : Bool) : State × Nat :=
  let o := signed 31 (s.rd Reg.RTC_LOCAL_OFFSET)
  if s.on Reg.RTC_LOCAL_DST == on then (s.wr Reg.BACKUP_STAT_SUMMER_REJECT 1, 0x0B)
  else
    match s.offsetWrite (if on then o + 3600 else o - 3600) with
    | none => (s.wr Reg.BACKUP_STAT_SUMMER_REJECT 1, 0x09)
    | some s1 => (s1.wr Reg.RTC_LOCAL_DST (b2n on), 0)

/-- A SET command (R942). -/
def State.rtcSet (s : State) : State := { s with bk := { s.bk with setPending := true } }

/-- A set to counter value `v` (R942). -/
def State.rtcSetTo (s : State) (v : Nat) : State :=
  ((s.wr Reg.RTC_SETLO_V v).wr Reg.RTC_SETHI_V (v / 2 ^ 32)).rtcSet

/-- A write of ALARMLO disarms (R952). -/
def State.alarmLo (s : State) (v : Nat) : State := (s.wr Reg.RTC_ALARMLO_V v).wr Reg.RTC_ALARMHI_ARMED 0

/-- A write of ALARMHI arms (R952). -/
def State.alarmHi (s : State) (v : Nat) : State := (s.wr Reg.RTC_ALARMHI_V v).wr Reg.RTC_ALARMHI_ARMED 1

/-- A write of PERIOD (R954): values 1 to 31 leave it unchanged. -/
def State.periodWrite (s : State) (v : Nat) : State :=
  if v = 0 ∨ 32 ≤ v then (s.wr Reg.RTC_PERIOD_PERIOD v).placeTarget else s

/-- The condition of R950: device time follows a domain and ALIGNED is 1. -/
def State.syncReady (s : State) : Bool := s.dtFollows && s.on Reg.TIME_STAT_ALIGNED

/-- Device time in ticks (R939). -/
def State.dtTicks (s : State) : Nat := clockSec s.time.dt * 32768 + clockSub s.time.dt * 32768 / 1000000000

/-- Event 0x1002 at the first RUN after the oscillator resumed (Table 16-5). -/
def State.postResumed (s : State) : State :=
  match s.bk.resumed with
  | some c =>
    if s.pstate = 4 then { s.event 0x1002 0 (evBytes 6 c) with bk := { s.bk with resumed := none } } else s
  | none => s

/-- What W8 does in the block (R958). -/
def State.backupW8 (s : State) : State := if s.on Reg.BACKUP_STAT_BK_LOST then s.event 0x1001 0 [] else s

/-- Whether AUTO_TRIM measures (R951): AUTO_TRIM is true and the condition of R950 holds. -/
def State.trims (s : State) : Bool := s.syncReady && s.odN 0x8003 2 0 == 1

/-- The measurement of R951 as the condition stands: discarded where it does not hold, begun where none runs. -/
def State.measureOn (s : State) : State :=
  { s with bk := { s.bk with measure := if s.trims then some (s.bk.measure.getD (s.bk.cnt, s.dtTicks)) else none } }

/-- A measurement whose condition is lost is discarded (R951). -/
def State.measureKeep (s : State) : State := if s.bk.measure.isSome && !s.trims then s.measureOn else s

/-- What one idle SCLK cycle adds to the counter: an edge every 3,000,000,000 / 32,768 cycles; a measurement whose
condition is lost is discarded. -/
def State.tickRtc (s : State) : State :=
  let p := s.bk.phase + 32768
  let s1 := s.measureKeep
  if p < 3000000000 then { s1 with bk := { s1.bk with phase := p } }
  else ({ s1 with bk := { s1.bk with phase := p - 3000000000 } }).rtcEdge

/-! ### Commands -/

/-- RAIL_SWITCHOVER (R932). -/
def execRailSwitchover (s : State) : Out :=
  .next (if s.bk.source ≠ .main then s
    else ({ s with bk := { s.bk with source := .battery } }.inc Reg.BACKUP_STAT_SWITCHOVERS).wr Reg.BACKUP_STAT_ON_BATTERY 1)

/-- RAIL_SWITCH_BACK (R932, R933). -/
def execRailSwitchBack (s : State) : Out :=
  .next (if s.bk.source ≠ .battery then s
    else { s with bk := { s.bk with source := .main } }.wr Reg.BACKUP_STAT_ON_BATTERY 0)

/-- BACKUP_DOMAIN_LOST (R109, R932): the rail is UNPOWERED until the next first power; BACKUP moves to OFF. -/
def execBackupDomainLost (s : State) : Out :=
  .next (({ s with bk := { s.bk with source := .unpowered }, pow := { s.pow with vbat := false } }).wrIf (s.pstate == 1)
    Reg.SYS_PSTATE_STATE 0)

/-- VBAT_MEASUREMENT (R937). -/
def execVbatMeasurement (mv : Fin 8192) (s : State) : Out :=
  let low := if mv.val < 2200 then true else if 2300 ≤ mv.val then false else s.on Reg.BACKUP_STAT_BAT_LOW
  let absent := decide (mv.val < 1600)
  let s1 := ((s.wr Reg.BACKUP_VBAT_VBAT_MV mv).wr Reg.BACKUP_STAT_BAT_LOW (b2n low)).wr Reg.BACKUP_STAT_BAT_ABSENT (b2n absent)
  let sets := (low && !s.on Reg.BACKUP_STAT_BAT_LOW) || (absent && !s.on Reg.BACKUP_STAT_BAT_ABSENT)
  .next (if s.bk.source ≠ .main then s
    else if sets && decide (3 ≤ s.pstate) then s1.event 0x1003 0 (evBytes 2 mv.val ++ [b2n low + 2 * b2n absent])
    else s1)

/-- OSC_FAIL (R940). -/
def execOscFail (s : State) : Out :=
  .next (({ s with bk := { s.bk with stopped := true } }.wr Reg.BACKUP_STAT_OSC_FAIL 1).wr Reg.BACKUP_STAT_RTC_VALID 0)

/-- OSC_RESUME (R940): the counter resumes from its held value. -/
def execOscResume (s : State) : Out :=
  .next (if !s.bk.stopped then s
    else ({ s with bk := { s.bk with stopped := false, phase := 0, resumed := some s.bk.cnt } }).postResumed)

/-- CNTLO_READ (R941). -/
def State.cntloRead (s : State) : State :=
  { s.wr Reg.RTC_CNTHI_V (s.bk.cnt / 2 ^ 32) with readData := BitVec.ofNat 32 s.bk.cnt }

/-- CNTLO_READ (R941). -/
def execCntloRead (s : State) : Out := .next (s.overLink State.cntloRead)

/-- RTC_SET (R942). -/
def execRtcSet (s : State) : Out := .next (s.overLink State.rtcSet)

/-- RTC_SET_EDGE (R942, R969): the tick edge at which a waiting set is made. -/
def execRtcSetEdge (s : State) : Out := .next (s.rtcEdgeIf s.bk.setPending)

/-- SUMMER_ON (R946, R947). -/
def execSummerOn (s : State) : Out := .next (s.overLink (fun s => (s.summer true).1.answer (s.summer true).2))

/-- SUMMER_OFF (R946, R947). -/
def execSummerOff (s : State) : Out := .next (s.overLink (fun s => (s.summer false).1.answer (s.summer false).2))

/-- LOCAL_OFFSET_WRITE (R945). -/
def execLocalOffsetWrite (v : BitVec 31) (s : State) : Out :=
  .next (s.overLink (fun s => match s.offsetWrite v.toInt with
    | some s1 => s1.answer 0
    | none => s.answer 0x09))

/-- TRIM_WRITE (R949). -/
def execTrimWrite (v : BitVec 10) (s : State) : Out := .next (s.overLink (fun s => s.wr Reg.RTC_TRIM_TRIM v.toNat))

/-- TRIM_CORRECTION (R948): the tick edge at which the counter adds 2 or holds. -/
def execTrimCorrection (s : State) : Out := .next (s.rtcEdgeIf (!s.bk.setPending && s.rtcDelta != 1))

/-- RTC_SYNC (R950): a difference of more than SYNC_TOL ticks sets the counter from device time, to the value of the next tick. -/
def execRtcSync (s : State) : Out :=
  let d : Int := (s.bk.cnt : Int) - s.dtTicks
  let s1 := s.measureOn
  .next (if !s.weaverRuns || s.pow.weaverHalted then s
    else if s.syncReady && s.odN 0x8003 3 1 == 1 && decide (s.odN 0x8003 4 33 < d.natAbs) then
      s1.overLink (fun s1 => s1.rtcSetTo ((s.dtTicks + 1) % 2 ^ 48))
    else s1)

/-- A complete measurement (R951): the counter gained `gain` ticks more than the `span` ticks of device time; TRIM is corrected by
e / 0.4768 ppm, and e is written in ppb to 0x8003:05. -/
def State.trimBy (s : State) (gain : Int) (span : Nat) : State :=
  let t := signed 10 (s.rd Reg.RTC_TRIM_TRIM) - roundDiv (gain * 10000000000) (span * 4768)
  (s.overLink (fun s => s.wr Reg.RTC_TRIM_TRIM (unsigned 10 (clampInt (-512) 511 t)))).odPut 0x8003 5
    (.scalar .int (unsigned 32 (roundDiv (gain * 1000000000) span)))

/-- AUTO_TRIM (R951): 4,096 s of device time have passed since the measurement began; the next begins. A measurement that a set or a
loss of the condition interrupted is discarded. -/
def execAutoTrim (s : State) : Out :=
  .next (if !s.weaverRuns || s.pow.weaverHalted then s
    else if !s.trims then s.measureOn
    else match s.bk.measure with
    | none => s.measureOn
    | some (c, d) =>
      let span := s.dtTicks - d
      let s1 : State := { s with bk := { s.bk with measure := none } }
      if span < 134217728 then s
      else (s1.trimBy ((((s.bk.cnt + 2 ^ 48 - c) % 2 ^ 48 : Nat) : Int) - span) span).measureOn)

/-- ALARM_DISARM (R952): a write of ALARMLO. -/
def execAlarmDisarm (v : Word) (s : State) : Out := .next (s.overLink (fun s => s.alarmLo v.toNat))

/-- ALARM_ARM (R952): a write of ALARMHI. -/
def execAlarmArm (v : BitVec 16) (s : State) : Out := .next (s.overLink (fun s => s.alarmHi v.toNat))

/-- ALARM_FIRE (R953): the tick edge at which the counter reaches the armed alarm. -/
def execAlarmFire (s : State) : Out :=
  .next (s.rtcEdgeIf (s.on Reg.RTC_ALARMHI_ARMED && decide (s.alarmVal ≤ s.rtcNext)))

/-- PERIOD_WRITE (R954). -/
def execPeriodWrite (v : Word) (s : State) : Out := .next (s.overLink (fun s => s.periodWrite v.toNat))

/-- PERIODIC_FIRE (R954): the tick edge at which the counter reaches the periodic target. -/
def execPeriodicFire (s : State) : Out :=
  .next (s.rtcEdgeIf (!s.bk.setPending && s.bk.target.any (reached48 s.rtcNext)))

/-- COUNTER_WRAP (R938): the tick edge at which the counter wraps. -/
def execCounterWrap (s : State) : Out :=
  .next (s.rtcEdgeIf (!s.bk.setPending && decide (2 ^ 48 ≤ s.bk.cnt + s.rtcDelta)))

end Sys2Proof.Machine
end

