-- ==== Sys2Proof/Machine/Sense.lean ====
section
/-! DEFINITION. Mains sense: the samples of MS0 to MS3, their zero levels, crossings and presence (R155 to R162). -/
namespace Sys2Proof.Machine

/-- Mains sense input `k`. -/
def State.ms (s : State) (k : Nat) : MsInput := s.trd.ms.get {} k

/-- Put mains sense input `k`. -/
def State.setMs (s : State) (k : Nat) (m : MsInput) : State := { s with trd := { s.trd with ms := s.trd.ms.set {} k m } }

/-- The length of the last full cycle in SCLK cycles, by INC (R155, R165). -/
def State.mainsCycle (s : State) : Nat := 2 ^ 48 / max 1 (s.rd Reg.TREADLE_INC_INC)

/-- 20 ms in SCLK cycles (R162). -/
def openSpan : Nat := 60000000

/-- From the sampling of a pin to the arrival of its sample: a conversion slot of 80 ns and the 40 ns of R30. -/
def senseLatency : Nat := 360

/-- The codes of the samples that are less than `span` SCLK cycles old. -/
def MsInput.codes (m : MsInput) (now span : Nat) : List Nat :=
  (m.samples.filter (fun p => decide (now < p.1 + span))).map (·.2)

/-- A code `x` less the zero level, the mean of `l` (R155), in units of 1 mV / (1,024 × the number of samples): a code is 75 / 1,024 mV
(R850). -/
def overZero (l : List Nat) (x : Nat) : Int := 75 * ((l.length * x : Nat) - (l.sum : Nat) : Int)

/-- A level of `mv` millivolts in the units of `overZero`. -/
def mvLevel (l : List Nat) (mv : Nat) : Int := (1024 * mv * l.length : Nat)

/-- The instant at which the straight line through two samples passes the zero level (R158), rounded to nearest. -/
def crossAt (l : List Nat) (p q : Nat × Nat) : Nat :=
  let d := overZero l q.2 - overZero l p.2
  p.1 + (roundDiv (-(overZero l p.2) * ((q.1 - p.1 : Nat) : Int)) d).toNat

/-- A valid sample of code `x` of input `k` (R155, R158): the input passes from below (zero level − HYST) to above (zero level +
HYST), and the crossing instant is interpolated between the two samples that straddle the zero level. -/
def State.msSample (s : State) (k x : Nat) : State :=
  let m := s.ms k
  let q : Nat × Nat := (s.cycle - senseLatency, x)
  let keep := m.samples.filter (fun p => decide (q.1 < p.1 + max openSpan s.mainsCycle))
  let l := ({ m with samples := q :: keep } : MsInput).codes q.1 s.mainsCycle
  let h := mvLevel l (s.rd Reg.TREADLE_CTRL_HYST)
  let rise := match keep.head? with
    | some p => if overZero l p.2 < 0 ∧ 0 ≤ overZero l x then some (crossAt l p q) else m.rise
    | none => m.rise
  let m1 : MsInput :=
    if overZero l x < -h then { m with samples := q :: keep, low := true, rise := none }
    else if m.low ∧ h < overZero l x then { samples := q :: keep, found := rise, low := false, rise := none }
    else { m with samples := q :: keep, rise := rise }
  s.setMs k m1

/-- The crossing found on input `k` is taken. -/
def State.msTake (s : State) (k : Nat) : State := s.setMs k { s.ms k with found := none }

/-- Whether input `k` is PRESENT (R162): its peak deviation from the zero level over the last cycle is at least 50 mV. A cycle without
a valid sample leaves the bit. -/
def State.msPresent (s : State) (k : Nat) : Bool :=
  let l := (s.ms k).codes (s.cycle - senseLatency) s.mainsCycle
  if l.isEmpty then bitOf (s.rd Reg.TREADLE_STAT_PRESENT) k
  else l.any (fun x => decide (mvLevel l 50 ≤ (overZero l x).natAbs))

/-- Whether input `k` is OPEN (R162): its mean over the last 20 ms exceeds 1.10 V or falls below 0.10 V. -/
def State.msOpen (s : State) (k : Nat) : Bool :=
  let l := (s.ms k).codes (s.cycle - senseLatency) openSpan
  if l.isEmpty then bitOf (s.rd Reg.TREADLE_STAT_OPEN) k
  else decide (1024 * 1100 * l.length < 75 * l.sum) || decide (75 * l.sum < 1024 * 100 * l.length)

end Sys2Proof.Machine
end

