-- ==== Sys2Proof/Machine/DieLink.lean ====
section
/-! DEFINITION. The die link: sample frames, lane failures and retraining (R28 to R37). -/
namespace Sys2Proof.Machine

/-- Whether lane `k` is trained. -/
def DieLink.up (l : DieLink) (k : Fin 2) : Bool := if k = 0 then l.up0 else l.up1

/-- Whether an attempt for lane `k` is in progress. -/
def DieLink.trying (l : DieLink) (k : Fin 2) : Bool := if k = 0 then l.trying0 else l.trying1

/-- Put lane `k`: trained, attempts of its grid so far, an attempt in progress. -/
def DieLink.put (l : DieLink) (k : Fin 2) (up : Bool) (tries : Nat) (trying : Bool) : DieLink :=
  if k = 0 then { l with up0 := up, tries0 := tries, trying0 := trying } else { l with up1 := up, tries1 := tries, trying1 := trying }

/-- The attempts so far of the grid of lane `k`. -/
def DieLink.tries (l : DieLink) (k : Fin 2) : Nat := if k = 0 then l.tries0 else l.tries1

/-- UP, DEGRADED and DOWN show the present state of the lanes (R35 to R37). -/
def State.linkView (s : State) : State :=
  let l := s.link
  ((s.wr Reg.SYS_DLSTAT_UP (b2n (l.up0 || l.up1))).wr Reg.SYS_DLSTAT_DEGRADED (b2n (l.up0 != l.up1))).wr Reg.SYS_DLSTAT_DOWN
    (b2n (!l.up0 && !l.up1))

/-- What slot `slot` of core `c` converts (R849, R850, R911): slot 0 only ever MSc (codes 16 to 19, R156), slot 25 a housekeeping input
`x` of the core (codes 20 to 27), every other slot its ISEN and VSEN inputs (`x` 0, 1 and 2, 3; codes 0 to 15). -/
def slotChannel (c slot x : Nat) : Nat :=
  if slot = 0 then 16 + c
  else if slot = 25 then 20 + 2 * c + x % 2
  else if x < 2 then 2 * c + x else 8 + 2 * c + (x - 2)

/-- SAMPLE_FRAME (R31, R36, R155, R156): the sample of a converter slot; a failing CRC, or a link that is down, delivers it marked
invalid, and an invalid mains sense sample is ignored (R162). -/
def execSampleFrame (c : Fin 4) (slot : Fin 50) (x : Fin 4) (code : Int) (crcOk : Bool) (s : State) : Out :=
  let bad := !crcOk || s.on Reg.SYS_DLSTAT_DOWN
  let ch := slotChannel c slot x
  let s1 : State := { s with pwm := { s.pwm with samples := s.pwm.samples.upd [] ch (fun l => (if bad then none else some code) :: l.take 2) } }
  .next (if bad then s1.wr Reg.SYS_DLSTAT_SAMPLE_BAD 1 else if slot.val = 0 then s1.msSample c code.toNat else s1)

/-- LANE_FAILURE (R35 to R37): the lane's grid of attempts begins. -/
def execLaneFailure (k : Fin 2) (s : State) : Out :=
  .next (if !s.link.up k then s else ({ s with link := s.link.put k false 0 false }).linkView)

/-- RETRAIN_ATTEMPT (R37): the next attempt of the grid of a failed lane. -/
def execRetrainAttempt (k : Fin 2) (s : State) : Out :=
  .next (if s.link.up k || s.link.trying k then s else { s with link := s.link.put k false (s.link.tries k + 1) true })

/-- RETRAIN_ATTEMPT_END (R37): a trained lane carries traffic again, and RETRAINS rises. -/
def execRetrainAttemptEnd (k : Fin 2) (trained : Bool) (s : State) : Out :=
  .next (if !s.link.trying k then s
    else if trained then (({ s with link := s.link.put k true 0 false }).linkView).inc Reg.SYS_DLSTAT_RETRAINS
    else { s with link := s.link.put k false (s.link.tries k) false })

end Sys2Proof.Machine
end

