-- ==== Sys2Proof/Machine/Flags.lean ====
section
/-! DEFINITION. Flags and results of the Eurnafa arithmetic, compare, logic and shift instructions (R499 to R509). -/
namespace Sys2Proof.Machine

/-- The flags Z, N, C and V of a result. -/
structure Flags where
  z : Bool
  n : Bool
  c : Bool
  v : Bool

/-- ADD of `w` bits (R502): result and flags. -/
def addFlags {w : Nat} (a b : BitVec w) : BitVec w × Flags :=
  let r := a + b
  (r, { z := r == 0, n := r.msb, c := decide (2 ^ w ≤ a.toNat + b.toNat), v := decide (r.toInt ≠ a.toInt + b.toInt) })

/-- SUB of `w` bits (R502): result and flags. -/
def subFlags {w : Nat} (a b : BitVec w) : BitVec w × Flags :=
  let r := a - b
  (r, { z := r == 0, n := r.msb, c := decide (b.toNat ≤ a.toNat), v := decide (r.toInt ≠ a.toInt - b.toInt) })

/-- The result of ADDS or SUBS with the exact sum or difference `x`, clamped to the range of its tag, and whether it was clamped
(R503). -/
def satResult (tag : Tag) (x : Int) : Word × Bool :=
  let lo : Int := if tag = .uint then 0 else -2147483648
  let hi : Int := if tag = .uint then 4294967295 else 2147483647
  let y := if x < lo then lo else if hi < x then hi else x
  (BitVec.ofInt 32 y, decide (y ≠ x))

/-- The number that a value stands for under a tag: unsigned for UINT, else signed. -/
def numOf (tag : Tag) (v : Word) : Int := if tag = .uint then (v.toNat : Int) else v.toInt

/-- Whether a number fits a tag. -/
def fitsTag (tag : Tag) (x : Int) : Bool :=
  if tag = .uint then decide (0 ≤ x) && decide (x ≤ 4294967295) else decide (-2147483648 ≤ x) && decide (x ≤ 2147483647)

/-- The full product of MUL (R504): FIX times FIX is shifted right by 16, rounded toward minus infinity. -/
def mulFull (a b : Tag) (x y : Word) : Int :=
  if a = .fix ∧ b = .fix then (x.toInt * y.toInt) / 65536 else numOf a x * numOf b y

/-- The quotient of DIV before it is narrowed (R504, R505). -/
def divFull (a b : Tag) (x y : Word) : Int :=
  if a = .fix ∧ b = .fix then (x.toInt * 65536).tdiv y.toInt else (numOf a x).tdiv (numOf b y)

/-- The remainder of REM (R505): the sign follows A; an INT divisor of a FIX stands for an integer. -/
def remFull (a b : Tag) (x y : Word) : Int :=
  if a = .fix ∧ b = .int then x.toInt.tmod (y.toInt * 65536) else (numOf a x).tmod (numOf b y)

/-- Z and N of a 32-bit result with C and V clear. -/
def logicFlags (r : Word) : Flags := { z := r == 0, n := r.msb, c := false, v := false }

/-- The kinds of compare (Table 08-5). -/
inductive CmpKind where
  | signed | unsigned | difference | equality

/-- The flags of CMP (R506). -/
def cmpFlags (k : CmpKind) (a b : TWord) : Flags :=
  match k with
  | .signed | .unsigned => (subFlags a.val b.val).2
  | .difference => logicFlags (a.val - b.val)
  | .equality => { z := a == b, n := false, c := false, v := false }

/-- SHL, SHR, SAR and ROL (R508) by their number 0 to 3: result and C. -/
def shiftOp (k : Nat) (a : Word) (count : Nat) : Word × Bool :=
  let n := if k = 3 then count % 32 else min count 33
  if n = 0 then (a, false)
  else
    match k with
    | 0 => (a <<< n, decide (n ≤ 32) && a.getLsbD (32 - n))
    | 1 => (a >>> n, decide (n ≤ 32) && a.getLsbD (n - 1))
    | 2 => (a.sshiftRight (min n 32), if n ≤ 32 then a.getLsbD (n - 1) else a.msb)
    | _ => (a.rotateLeft n, (a.rotateLeft n).getLsbD 0)

/-- The conditions of Table 08-6, with P; none for codes 17 to 31. -/
def condHolds (code : Nat) (f : Flags) (p : Bool) : Option Bool :=
  match code with
  | 0 => some true
  | 1 => some f.z
  | 2 => some !f.z
  | 3 => some (f.n != f.v)
  | 4 => some (f.n == f.v)
  | 5 => some (!f.z && f.n == f.v)
  | 6 => some (f.z || f.n != f.v)
  | 7 => some !f.c
  | 8 => some f.c
  | 9 => some (f.c && !f.z)
  | 10 => some (!f.c || f.z)
  | 11 => some f.n
  | 12 => some !f.n
  | 13 => some f.v
  | 14 => some !f.v
  | 15 => some p
  | 16 => some !p
  | _ => none

end Sys2Proof.Machine
end

