-- ==== Sys2Proof/Machine/Groups.lean ====
section
/-! DEFINITION. Converter groups: states, parking, faults and the operations of the PCP's control loop (chapter 14). -/
namespace Sys2Proof.Machine

/-- Group `g` beside its registers. -/
def State.gr (s : State) (g : Nat) : Group := s.pwm.groups.get {} g

/-- Put group `g`. -/
def State.setGr (s : State) (g : Nat) (v : Group) : State :=
  { s with pwm := { s.pwm with groups := s.pwm.groups.set {} g v } }

/-- Phase `n` beside its registers. -/
def State.ph (s : State) (n : Nat) : Phase := s.pwm.phases.get {} n

/-- Put phase `n`. -/
def State.setPh (s : State) (n : Nat) (v : Phase) : State :=
  { s with pwm := { s.pwm with phases := s.pwm.phases.set {} n v } }

/-- STATE of group `g`: 0 DISABLED, 1 PRECHECK, 2 SOFTSTART, 3 RUN, 4 RAMPDOWN, 5 FAULT, 6 RETRY_WAIT (Table 14-4). -/
def State.grState (s : State) (g : Nat) : Nat := s.rd (Reg.PWM_G_STAT_STATE.at g)

/-- The FAULT code latched in group `g`. -/
def State.grFault (s : State) (g : Nat) : Nat := s.rd (Reg.PWM_G_STAT_FAULT.at g)

/-- Whether group `g` switches: SOFTSTART, RUN or RAMPDOWN. -/
def State.grSwitching (s : State) (g : Nat) : Bool := decide (2 ≤ s.grState g) && decide (s.grState g ≤ 4)

/-- The group that holds phase `n` (R833). -/
def State.groupOf (s : State) (n : Nat) : Option Nat :=
  (List.range 4).find? (fun g => s.bit (Reg.PWM_G_CFG_PHASES.at g) n)

/-- The active phases of group `g`. -/
def State.activePhases (s : State) (g : Nat) : List Nat :=
  (List.range 8).filter (fun n => s.bit (Reg.PWM_G_STAT_ACTIVE.at g) n)

/-- KIND of group `g` (R834). -/
def State.grKind (s : State) (g : Nat) : Nat := s.rd (Reg.PWM_G_CFG_KIND.at g)

/-- Whether group `g` runs in ANGLE_MODE (R869). -/
def State.grAngle (s : State) (g : Nat) : Bool := s.on (Reg.PWM_G_CFG_ANG_MODE.at g)

/-- A member of 0x4010 + g, 0x4018 + g or 0x4020 + g (Table 14-5). -/
def State.grCfg (s : State) (base g sub d : Nat) : Nat := s.odN (base + g) sub d

/-- ENABLE of a group (0x4018 + g:01). -/
def State.grEnable (s : State) (g : Nat) : Bool := s.grCfg 0x4018 g 1 0 == 1

/-- POWER_START: the value of 0x4000:01, its strap-derived default PSAFE (Table 02-3), 0 under safe ROM (R95). -/
def State.powerStart (s : State) : Nat := if s.safeRom then 0 else s.odN 0x4000 1 (s.strap 8 1)

/-- Whether the PCP runs. -/
def State.pcpRuns (s : State) : Bool := s.on Reg.PCP_CTRL_RUNNING

/-- Wake the PCP (R862). -/
def State.wakePcp (s : State) : State := s.wake 34

/-- WAIT_REASON (R864, R1001): 7 NOT_OWNER on a twin that is not OWNER, else the first condition of R864 that does not hold, 1 to 6
in its order; 0 where all hold. -/
def State.waitReason (s : State) (g : Nat) : Nat :=
  if s.role == 3 && !s.owner then 7
  else if s.powerStart ≠ 1 then 1
  else if !s.grEnable g then 2
  else if s.pstate ≠ 4 then 3
  else if !s.pcpRuns then 4
  else if s.grFault g ≠ 0 then 5
  else if s.grAngle g && !s.on Reg.TREADLE_STAT_ANG_VALID then 6
  else 0

/-- Set STATE of group `g`. -/
def State.grTo (s : State) (g st : Nat) : State := s.wr (Reg.PWM_G_STAT_STATE.at g) st

/-- The outputs of a group's phases go low (R836): its active phases become idle and PARKED shows it. -/
def State.grOutputsLow (s : State) (g : Nat) : State :=
  let s1 := s.each (s.activePhases g) (fun s n =>
    (s.setPh n { s.ph n with since := none, len := 0, loaded := 0, cbcRun := 0, syncOff := false, truncated := false }).wr
      (Reg.PWM_PH_STAT_STATE.at n) 0)
  (((s1.wr (Reg.PWM_G_STAT_ACTIVE.at g) 0).wr (Reg.PWM_G_STAT_DE_ACTIVE.at g) 0).wr (Reg.PWM_G_STAT_SB_INHIBIT.at g) 0).wrBit
    Reg.PWM_STAT_PARKED g true

/-- A group becomes DISABLED with its outputs low (Table 14-2). -/
def State.grDisable (s : State) (g : Nat) : State := (s.grOutputsLow g).grTo g 0

/-- PARK of a group: any but DISABLED becomes DISABLED within 50 ns (Table 14-2). -/
def State.grPark (s : State) (g : Nat) : State := if s.grState g = 0 then s else s.grDisable g

/-- Whether a fault is retried automatically: OV, UV, OC_CBC, OC_AVG (R874). -/
def retriable (code : Nat) : Bool := decide (1 ≤ code) && decide (code ≤ 4)

/-- A fault of group `g` (Table 14-2, R872, R874): it is parked, the code is latched, event 0x0E01 carries code and VOUT_MV, the
PCP is woken, and a retry that is due takes it to RETRY_WAIT. A group in FAULT keeps its code. -/
def State.grFaults (s : State) (g code : Nat) : State :=
  if s.grState g = 0 ∨ s.grState g = 5 then s
  else
    let retry := retriable code && decide ((s.gr g).retries < s.grCfg 0x4010 g 0x1C 0)
    let s1 := ((s.grOutputsLow g).grTo g (if retry then 6 else 5)).wr (Reg.PWM_G_STAT_FAULT.at g) code
    let s2 := s1.setGr g { s1.gr g with retries := if retry then (s1.gr g).retries + 1 else (s1.gr g).retries, seqFault := false,
                                        rampCycle := s.cycle }
    (s2.event 0x0E01 g (code :: evBytes 4 (s.gr g).vout)).wakePcp

/-- Ramp a group down: SOFTSTART and RUN go to RAMPDOWN (Table 14-2). -/
def State.grRamp (s : State) (g : Nat) : State :=
  if s.grState g = 2 ∨ s.grState g = 3 then
    (s.setGr g { s.gr g with refStart := (s.gr g).ref, rampCycle := s.cycle }).grTo g 4
  else s

/-- SEQ_MISMATCH of the Treadle is set (R872 code 8): a group in ANGLE_MODE ramps down and then faults, where SEQ_ACTION is 1. -/
def State.grSequence (s : State) : State :=
  if s.odN 0x4000 5 1 ≠ 1 then s
  else s.each (List.range 4) (fun s g =>
    if s.grAngle g && (s.grState g == 2 || s.grState g == 3) then
      let s1 := s.grRamp g
      s1.setGr g { s1.gr g with seqFault := true }
    else s)

/-- A group enters PRECHECK (Table 14-2): all its phases become active, outputs low. -/
def State.grPrecheck (s : State) (g : Nat) : State :=
  let mask := s.rd (Reg.PWM_G_CFG_PHASES.at g)
  let phases := (List.range 8).filter (fun n => bitOf mask n)
  let s1 := (s.each phases (fun s n => (s.setPh n { writes := (s.ph n).writes }).wr (Reg.PWM_PH_STAT_STATE.at n) 1)).wr (Reg.PWM_G_STAT_ACTIVE.at g) mask
  let old := s1.gr g
  ((s1.setGr g { order := phases, retries := old.retries, table := old.table, standby := old.standby, rampCycle := s.cycle }).wrBit
    Reg.PWM_STAT_PARKED g false).grTo g 1

/-- The PCP halts on a double trap (R863): every switching group parks and faults with PCP_HALT, and event 0x0E04 carries the
trap code. -/
def State.pcpHalt (s : State) (code : Nat) : State :=
  let s1 := ((s.wr Reg.PCP_CTRL_RUNNING 0).wr Reg.PCP_CTRL_HALTED 1).wr Reg.PCP_CTRL_DOUBLE_TRAP 1
  (s1.each (List.range 4) (fun s g => if s.grSwitching g then s.grFaults g 9 else s)).event 0x0E04 0 [code]

/-- Every group is parked (Table 17-5). -/
def State.parkAll (s : State) : State :=
  s.each (List.range 4) (fun s g => if s.grState g = 0 ∨ s.grState g = 5 then s else s.grDisable g)

/-- A park-all request of the companion sequencer (R860): every group that is not DISABLED faults with TRIP_PARK (Table 14-3). -/
def State.parkRequest (s : State) : State := s.each (List.range 4) (fun s g => s.grFaults g 10)

/-- Shutdown step S2 stops every group by its STOP_POLICY (R876); a group that does not switch yet is disabled. -/
def State.grStopAll (s : State) : State :=
  s.each (List.range 4) (fun s g =>
    if s.grState g = 0 ∨ s.grState g = 5 then s
    else
      let s0 := s.setGr g { s.gr g with stoppedInS2 := true }
      if s.on (Reg.PWM_G_CFG_STOP.at g) || !s.grSwitching g then s0.grDisable g else s0.grRamp g)

/-- A shutdown aborts (R877): every group that S2 stopped and whose ENABLE is true passes through PRECHECK. -/
def State.grResume (s : State) : State :=
  s.each (List.range 4) (fun s g =>
    let s0 := s.setGr g { s.gr g with stoppedInS2 := false }
    if (s.gr g).stoppedInS2 && s0.waitReason g == 0 then (s0.grDisable g).grPrecheck g else s0)

/-- Whether every group is DISABLED or FAULT, so that S2 ends (R876). -/
def State.grAllStopped (s : State) : Bool := (List.range 4).all (fun g => s.grState g == 0 || s.grState g == 5)

/-! ### Sensing -/

/-- The position of a channel in the list of a sequence (R851). -/
def State.seqPos (s : State) (k ch : Nat) : Option Nat :=
  (List.range (s.rd (Reg.ADC_SEQ_CFG_COUNT.at k) + 1)).find? (fun i => fieldOf (s.rd (Reg.ADC_SEQ_CH_CH.at k)) (4 * i) 4 == ch)

/-- Whether an ISEN channel is in its differential range (R850). -/
def State.isenDiff (s : State) (ch : Nat) : Bool := decide (ch < 8) && s.bit Reg.ADC_CHCFG_ISEN_DIFF ch

/-- The valid result of a channel in a sequence, as a signed or unsigned code (R850, R854). -/
def State.seqResult (s : State) (k ch : Nat) : Option Int :=
  match s.seqPos k ch with
  | none => none
  | some i =>
    if s.on (Reg.ADC_SEQ_RES_VALID.at2 k i) then
      let c := s.rd (Reg.ADC_SEQ_RES_CODE.at2 k i)
      some (if s.isenDiff ch then signed 16 c else c)
    else none

/-- A voltage code in millivolts at the converter, with its scale in FIX (R850, R880). -/
def voltMv (code scale : Nat) : Nat := code * 1200 * scale / (16384 * 65536)

/-- A current code in milliamperes, with I_SCALE in FIX mA per mV (R850, R880). -/
def currentMa (diff : Bool) (code : Int) (scale : Nat) : Int :=
  if diff then code * 250 * scale / (8192 * 65536) else code * 1200 * scale / (16384 * 65536)

/-- The FIX scale of a phase's current (0x4040 + n:01). -/
def State.iScale (s : State) (n : Nat) : Nat := s.odN (0x4040 + n) 1 65536

/-- The clamp of R840 on DUTY with the trim included: at most PERIOD − DT_HL − DT_LH, and below MIN_ON either no pulse (0) or
MIN_ON. -/
def State.dutyClamp (s : State) (g : Nat) (d : Int) : Nat :=
  let top := s.rd (Reg.PWM_G_PERIOD_PERIOD.at g) - s.rd (Reg.PWM_G_DEAD_DT_HL.at g) - s.rd (Reg.PWM_G_DEAD_DT_LH.at g)
  let m := s.rd (Reg.PWM_G_MINON_MIN_ON.at g)
  let v := min top d.toNat
  if v < m then (if s.on (Reg.PWM_G_CFG_PSKIP.at g) then 0 else m) else v

/-! ### PWM generation (R838 to R844) -/

/-- PERIOD of group `g` in 1/16 SCLK cycle. -/
def State.grPeriod (s : State) (g : Nat) : Nat := s.rd (Reg.PWM_G_PERIOD_PERIOD.at g)

/-- When firing position `i` of `k` starts after the group period start: i × PERIOD / k, rounded to one unit (R838). -/
def firesAt (per k i : Nat) : Nat := (2 * i * per + k) / (2 * k)

/-- When phase `n` starts after the group period start in a firing order. -/
def startOf (per : Nat) (order : List Nat) (n : Nat) : Nat := firesAt per order.length (order.idxOf n)

/-- The DUTY that a period starting now loads: the newest write that landed at least 20 ns before (R841). -/
def Phase.shadow (p : Phase) (now : Nat) : Nat := ((p.writes.find? (fun w => decide (w.1 + 60 ≤ now))).map (·.2)).getD 0

/-- A write of DUTY joins the shadow writes; those before one that is 20 ns old are no longer needed. -/
def Phase.written (p : Phase) (now v : Nat) : Phase :=
  { p with writes := (now, v) :: p.writes.take ((p.writes.takeWhile (fun w => decide (now < w.1 + 60))).length + 1) }

/-- The shadow register of a phase takes `v` (R841). -/
def State.dutyPut (s : State) (n v : Nat) : State :=
  (s.setPh n ((s.ph n).written s.cycle v)).wr (Reg.PWM_PH_DUTY_DUTY.at n) v

/-- Phase `n` of group `g` begins a period, `back` units ago (R839 to R841, R844): it loads its DUTY with its trim; while a rotation lengthens
the periods by PERIOD / k, the on-time grows in the same ratio. -/
def State.phaseStart (s : State) (g n back : Nat) : State :=
  let v := s.gr g
  let p := s.ph n
  let per := s.grPeriod g
  let more := if v.stretch then per / max 1 v.order.length else 0
  let d := s.dutyClamp g (p.shadow s.cycle + signed 16 (s.rd (Reg.PWM_PH_TRIM_TRIM.at n)))
  s.setPh n { p with since := some back, len := v.len + more, loaded := d + d * more / max 1 per, syncOff := false, truncated := false,
                     cbcRun := if p.truncated then p.cbcRun else 0 }

/-- The phases of a new firing order that pass over one start, so that no period is shortened (R844, R873). -/
def passOver (per : Nat) (old new : List Nat) : List Nat :=
  new.filter (fun n => decide (startOf per new n < startOf per old n))

/-- The last phase of an order comes first (R844). -/
def lastFirst (order : List Nat) : List Nat := order.drop (order.length - 1) ++ order.take (order.length - 1)

/-- A group period begins after `pos` units of it (R838, R843, R844): its length takes min(|e|, PERIOD / 64) off what is left of e; a new
firing order takes its place; a rotation that is due lengthens the periods that now start and turns the order at the next start. -/
def State.periodStart (s : State) (g pos : Nat) : State :=
  let v := s.gr g
  let per := s.grPeriod g
  let adj := clampInt (-(per / 64 : Nat)) (per / 64 : Nat) v.syncErr
  let order := v.nextOrder.getD v.order
  s.setGr g { v with pos := pos, len := ((per : Int) + adj).toNat, syncErr := v.syncErr - adj, order := order,
                     nextOrder := if v.rotate then some (lastFirst order) else none, skip := passOver per v.order order,
                     stretch := v.rotate, rotate := false, periods := v.periods + 1 }

/-- One SCLK cycle of the PWM generation of a group (R838): the group period and the periods of its phases go on, and begin where their
instant is reached. -/
def State.tickGroup (s : State) (g : Nat) : State :=
  let v := s.gr g
  let wrap := decide (v.len ≤ v.pos + 16)
  let s1 := if wrap then s.periodStart g (v.pos + 16 - v.len) else s.setGr g { v with pos := v.pos + 16 }
  let w := s1.gr g
  s1.each (s1.activePhases g) (fun s n =>
    let o := startOf (s.grPeriod g) w.order n
    if decide (o ≤ w.pos) && (wrap || decide (v.pos < o)) && !w.skip.contains n then s.phaseStart g n (w.pos - o)
    else s.setPh n { s.ph n with since := (s.ph n).since.map (· + 16) })

/-- One SCLK cycle of the PWM generation. -/
def State.tickPwm (s : State) : State := s.each (List.range 4) (fun s g => if s.grSwitching g then s.tickGroup g else s)

/-- Whether the main switch of phase `n` is on (R839). -/
def State.mainOn (s : State) (n : Nat) : Bool :=
  match s.groupOf n, (s.ph n).since with
  | some g, some t => s.grSwitching g && s.bit (Reg.PWM_G_STAT_ACTIVE.at g) n && decide (t < (s.ph n).loaded)
  | _, _ => false

/-- Whether the synchronous switch of phase `n` is on (R839, R840, R847, R867): from DT_HL after the main switch turned off until DT_LH
before its next turn-on, not in a period without a pulse, after a ZCD edge under diode emulation, or while it is inhibited. -/
def State.syncOn (s : State) (n : Nat) : Bool :=
  match s.groupOf n, (s.ph n).since with
  | some g, some t =>
    let p := s.ph n
    s.grSwitching g && s.bit (Reg.PWM_G_STAT_ACTIVE.at g) n && !s.on (Reg.PWM_G_STAT_SB_INHIBIT.at g) && !p.syncOff &&
      (p.loaded != 0 || p.truncated) && decide (p.loaded + s.rd (Reg.PWM_G_DEAD_DT_HL.at g) ≤ t) &&
      decide (t + s.rd (Reg.PWM_G_DEAD_DT_LH.at g) < p.len)
  | _, _ => false

/-- The levels of PWM_HSn and PWM_LSn by the KIND of the group (R834, R836); low while the peer twin holds TWIN_OWN (R1000). -/
def State.pwmPins (s : State) (n : Nat) : Bool × Bool :=
  if s.role == 3 && s.peerHolds then (false, false)
  else match s.groupOf n with
  | some g => if s.grKind g = 1 then (s.syncOn n, s.mainOn n) else (s.mainOn n, s.syncOn n)
  | none => (false, false)

/-- The signed time from the nearest group period start to now, in units (R843). -/
def State.syncError (s : State) (g : Nat) : Int :=
  let v := s.gr g
  if 2 * v.pos ≤ v.len then v.pos else (v.pos : Int) - v.len

/-- Entry `i` of an angle table, FIX (R869). -/
def tableEntry (t : List Byte) (i : Nat) : Int := signed 32 (leValue ((t.drop (4 * i)).take 4))

/-- T(a) as FIX: linear interpolation between entries a >> 6 and the next (R869). -/
def tableAt (t : List Byte) (a : Nat) : Int :=
  let i := a / 64
  let x := tableEntry t i
  let y := tableEntry t ((i + 1) % 1024)
  x + (y - x) * (a % 64 : Nat) / 64

/-- Spread a residual over trims so that they sum to zero within ± `lim`. -/
def spreadTrim (lim : Int) : Int → List Int → List Int
  | _, [] => []
  | r, t :: rest =>
    let t' := clampInt (-lim) lim (t - r)
    t' :: spreadTrim lim (r - (t - t')) rest

end Sys2Proof.Machine
end

