-- ==== Sys2Proof/Machine/Catalog.lean ====
section
/-! DEFINITION. The catalogue of the object dictionary (chapter 19 and the entry tables of the owning chapters): the highest
sub-index of every entry, and the type, access, level, default source, default, limits and home of every member. -/
namespace Sys2Proof.Machine

/-- Where a member's value stands: in the dictionary's own values, in a register field (unsigned or signed), or in other state, from
which it is computed. -/
inductive Home where
  | val | fld (f : Field) | sfld (f : Field) | calc
  deriving DecidableEq, Repr

/-- A member's attributes (R282): type, access, level E, default source JOURNAL, default, limits and home; `step` is its rounding
granularity (R288). -/
structure OdSpec where
  type : OdType
  acc : EAcc
  expert : Bool := false
  jrnl : Bool := false
  dflt : Nat := 0
  lim : Limits := {}
  home : Home := .val
  step : Nat := 1
  dfltBytes : List Byte := []
  deriving DecidableEq, Repr

/-- Whether an access code journals its writes. -/
def EAcc.journals : EAcc → Bool
  | .rwj | .rwl => true
  | _ => false

/-- A scalar member without limits. -/
def mem' (t : Tag) (a : EAcc) (h : Home) (d : Nat) : OdSpec := { type := .scalar t, acc := a, home := h, dflt := d, jrnl := a.journals }

/-- A UINT member. -/
def mU (a : EAcc) (h : Home) (d : Nat := 0) : OdSpec := mem' .uint a h d

/-- A UINT member with limits. -/
def mUl (a : EAcc) (h : Home) (d : Nat) (lo hi : Int) : OdSpec := { mem' .uint a h d with lim := { lo := lo, hi := hi } }

/-- An INT member with limits; its default is given in two's complement. -/
def mIl (a : EAcc) (h : Home) (lo hi : Int) (d : Nat := 0) : OdSpec := { mem' .int a h d with lim := { lo := lo, hi := hi } }

/-- An INT member. -/
def mI (a : EAcc) (h : Home) (d : Nat := 0) : OdSpec := mem' .int a h d

/-- A BITS member. -/
def mX (a : EAcc) (h : Home) (d : Nat := 0) : OdSpec := mem' .bits a h d

/-- A BITS member with limits. -/
def mXl (a : EAcc) (h : Home) (d : Nat) (lo hi : Int) : OdSpec := { mem' .bits a h d with lim := { lo := lo, hi := hi } }

/-- A BOOL member. -/
def mB (a : EAcc) (h : Home) (d : Bool := false) : OdSpec := mem' .bool a h (b2n d)

/-- A FIX member. -/
def mF (a : EAcc) (d : Nat) : OdSpec := mem' .fix a .val d

/-- A BYTES member of a fixed length. -/
def mY (a : EAcc) (n : Nat) (h : Home := .val) : OdSpec :=
  { type := .bytes n, acc := a, home := h, jrnl := a.journals, dfltBytes := List.replicate n 0 }

/-- A member that is the `k`-th of a list (sub-index 1 is the first). -/
def nthMember (l : List OdSpec) (sub : Nat) : Option OdSpec := if sub = 0 then none else l[sub - 1]?

/-- Every member of a record read-only and computed, of type UINT, `n` of them. -/
def calcs (n : Nat) : List OdSpec := List.replicate n (mU .ro .calc)

/-! ### The highest sub-index of an entry (Tables 19-2 to 19-6): none where the index is absent, `some none` for an entry that is not a
RECORD or ARRAY -/

/-- Areas 0x1 and 0x2 (Table 19-2). -/
def last12 (i : Nat) : Option (Option Nat) :=
  if i = 0x1000 then some (some 5)
  else if i = 0x2000 then some (some 2)
  else if i = 0x2010 then some (some 4)
  else if i = 0x2011 then some (some 2)
  else if i = 0x2020 then some (some 8)
  else if i = 0x2100 then some (some 5)
  else if i = 0x2200 then some (some 7)
  else if i = 0x2201 then some (some 4)
  else if i = 0x2202 then some none
  else if within 0x2208 0x220B i then some (some 9)
  else if i = 0x2210 then some (some 9)
  else if i = 0x2218 then some (some 16)
  else if within 0x2240 0x2247 i then some (some 3)
  else if i = 0x2300 ∨ i = 0x2301 then some (some 4)
  else if i = 0x2302 then some (some 0x88)
  else if within 0x2310 0x2329 i then some (some 6)
  else if i = 0x2330 then some (some 3)
  else if i = 0x2331 then some (some 10)
  else if i = 0x2400 then some (some 6)
  else if i = 0x2401 ∨ i = 0x2402 then some none
  else if within 0x2480 0x24FF i then some (some 8)
  else if i = 0x2500 then some (some 15)
  else if i = 0x2501 then some none
  else if i = 0x2510 then some (some 3)
  else if i = 0x2600 then some (some 2)
  else if i = 0x2700 then some (some 6)
  else if within 0x2E00 0x2EFF i then some (some 8)
  else if i = 0x2F00 then some none
  else if i = 0x2F01 then some (some 4)
  else if i = 0x2F02 ∨ i = 0x2F03 ∨ i = 0x2F04 then some none
  else if i = 0x2F05 then some (some 7)
  else if i = 0x2F06 then some none
  else if i = 0x2F10 then some (some 8)
  else if i = 0x2F12 then some (some 4)
  else if within 0x2F18 0x2F1F i then some (some 2)
  else none

/-- Area 0x3 (Table 19-3). -/
def last3 (i : Nat) : Option (Option Nat) :=
  if i = 0x3000 ∨ i = 0x3001 then some (some 9)
  else if i = 0x3002 ∨ i = 0x3102 then some none
  else if within 0x3010 0x302F i ∨ i = 0x3030 then some (some 8)
  else if i = 0x3100 then some (some 4)
  else if i = 0x3101 ∨ i = 0x3110 ∨ i = 0x3111 then some (some 7)
  else if within 0x3120 0x3127 i then some (some 9)
  else if within 0x3130 0x3137 i then some (some 4)
  else if within 0x3150 0x3155 i then some (some 2)
  else none

/-- Areas 0x4 and 0x5 (Table 19-4). -/
def last45 (i : Nat) : Option (Option Nat) :=
  if i = 0x4000 then some (some 8)
  else if within 0x4010 0x4013 i then some (some 0x1D)
  else if within 0x4018 0x401B i then some (some 3)
  else if within 0x4020 0x4023 i then some (some 9)
  else if within 0x4028 0x402B i then some none
  else if within 0x4030 0x4033 i ∨ within 0x4040 0x4047 i then some (some 9)
  else if i = 0x4050 then some (some 8)
  else if i = 0x4051 then some none
  else if i = 0x4058 then some (some 3)
  else if within 0x4060 0x4063 i then some (some 7)
  else if i = 0x5000 then some (some 6)
  else if i = 0x5001 then some (some 9)
  else if i = 0x5008 then some (some 0x0F)
  else if i = 0x5009 then some (some 2)
  else if i = 0x500A then some (some 7)
  else if i = 0x5010 then some none
  else if i = 0x5011 then some (some 8)
  else if i = 0x5012 then some (some 4)
  else none

/-- Areas 0x6 and 0x7 (Table 19-5). -/
def last67 (i : Nat) : Option (Option Nat) :=
  if i = 0x6000 then some (some 7)
  else if within 0x6010 0x6015 i then some (some 0x0C)
  else if within 0x6020 0x6022 i then some (some 0x40)
  else if i = 0x6030 then some (some 4)
  else if within 0x6040 0x6045 i ∨ within 0x6048 0x604D i then some none
  else if i = 0x6050 then some (some 6)
  else if within 0x6051 0x6060 i then some (some 7)
  else if i = 0x6061 then some none
  else if within 0x6070 0x6075 i then some (some 0x0B)
  else if i = 0x6078 then some (some 8)
  else if i = 0x6080 then some (some 6)
  else if i = 0x6100 ∨ i = 0x6101 then some (some 0x10)
  else if i = 0x6108 ∨ i = 0x6109 then some (some 5)
  else if i = 0x6118 then some (some 3)
  else if within 0x7000 0x7003 i then some (some 4)
  else if within 0x7010 0x701F i then some (some 6)
  else none

/-- Areas 0x8, 0x9, 0xB and 0xF (Table 19-6). -/
def last8F (i : Nat) : Option (Option Nat) :=
  if i = 0x8000 ∨ i = 0x8002 ∨ i = 0x8004 then some (some 3)
  else if i = 0x8001 ∨ i = 0x8005 then some none
  else if i = 0x8003 then some (some 5)
  else if i = 0x8006 then some (some 4)
  else if i = 0x8010 then some (some 0x10)
  else if i = 0x9000 then some (some 0x0C)
  else if i = 0x9001 then some (some 5)
  else if i = 0x9002 then some (some 0xFF)
  else if i = 0x9003 then some none
  else if within 0x9008 0x900F i then some (some 5)
  else if i = 0x9010 then some (some 7)
  else if within 0x9101 0x91FF i then some (some 4)
  else if within 0xB000 0xB0FF i then some none
  else if i = 0xF000 then some (some 4)
  else none

/-! ### Image-defined entries (R281, R1048) -/

/-- The image slot and the local index of an index of area 0xA; none of the space beyond the four slots is used. -/
def imageIndex (i : Nat) : Option (Nat × Nat) :=
  if within 0xA000 0xAFFF i then some ((i - 0xA000) / 0x400, (i - 0xA000) % 0x400) else none

/-- The definitions at an index of area 0xA; they exist from PLACE to RELEASE. -/
def State.imageDefs (s : State) (i : Nat) : List OdDef :=
  match imageIndex i with
  | none => []
  | some (k, loc) =>
    if (s.slot k).placed then (((s.slot k).image.map (·.odDefs)).getD []).filter (fun d => d.localIndex == loc) else []

/-- The highest sub-index of an image-defined index: an index with sub-index 0 only is not a RECORD. -/
def State.lastImage (s : State) (i : Nat) : Option (Option Nat) :=
  match s.imageDefs i with
  | [] => none
  | l => if l.all (fun d => d.sub == 0) then some none else some (some ((l.map (·.sub)).foldl max 0))

/-- The highest sub-index of an entry, in every area (R1041). -/
def State.odLast (s : State) (i : Nat) : Option (Option Nat) :=
  if i < 0x3000 then last12 i
  else if i < 0x4000 then last3 i
  else if i < 0x6000 then last45 i
  else if i < 0x8000 then last67 i
  else if i < 0xA000 then last8F i
  else if i < 0xB000 then s.lastImage i
  else last8F i

/-! ### Members of areas 0x1 and 0x2 -/

/-- Members of 0x2E00 + c (Table 05-10). -/
def ctxMembers (c : Nat) : List OdSpec :=
  let j := within 1 3 c
  [mU .ro .calc,
   if j then mUl .rwj .calc c 0 15 else mU .ro .calc,
   if c = 0 then mU .ro .calc else if j then mUl .rwj .calc 8 0 16 else mUl .rw .calc 8 0 16,
   if c = 0 then mU .ro .calc else mUl .rw .calc 0 0 65535,
   if c = 0 then mU .ro .calc else mUl .rw .calc 50 1 65535,
   mU .ro .calc, mU .ro .calc, mU .ro .calc]

/-- Members of areas 0x1 and 0x2 below 0x2200. -/
def spec12a (i sub : Nat) : Option OdSpec :=
  match i with
  | 0x1000 => nthMember [mU .ro .calc, mU .ro .calc, mU .ro .calc, mU .ro .calc, mY .ro 16 .calc] sub
  | 0x2000 => nthMember [mU .ro (.fld Reg.STRAP_SAMPLED_STRAP), mB .ro (.fld Reg.STRAP_SAMPLED_CONFLICT)] sub
  | 0x2010 => nthMember [mU .ro (.fld Reg.FUSE_STATUS_LIFECYCLE), mU .ro (.fld Reg.FUSE_STATUS_ARB),
      mU .ro (.fld Reg.FUSE_STATUS_REPAIR_USED), mB .ro (.fld Reg.FUSE_STATUS_DEBUG_LOCKED)] sub
  | 0x2011 => nthMember [{ mUl .wo .val 0 0 127 with expert := true }, { mX .wo .val with expert := true }] sub
  | 0x2020 => nthMember [mU .ro (.fld Reg.SYS_PSTATE_STATE), mUl .rwj (.fld Reg.BACKUP_WAKECFG_W4_LIMP) 1 0 1,
      mUl .rwj (.fld Reg.BACKUP_WAKECFG_AFTER_SD_WAKE) 1 0 1, mXl .rwj (.fld Reg.BACKUP_WAKECFG_WSRC_EN) 0xFF 0 0xFF,
      mUl .wo .val 0 1 2, mY .ro 16 .calc, mB .ro .calc, mU .ro .calc] sub
  | 0x2100 => nthMember [mU .ro .calc, mX .ro .calc, mU .ro .calc, mXl .rw .calc 0 0 0x3F, mU .ro (.fld Reg.SYS_RSTCAUSE_CAUSE)] sub
  | _ => none

/-- Members of 0x2200 to 0x2331. -/
def State.spec12b (s : State) (i sub : Nat) : Option OdSpec :=
  if i = 0x2200 then nthMember [mUl .rw .val (s.strap 0 3) 0 7, mX .ro .calc, mX .ro .calc, mX .ro .calc, mU .ro .calc, mU .ro .calc,
      mUl .rwj .val 1 0 1] sub
  else if i = 0x2201 then nthMember [mUl .wo .val 0 1 4, mUl .wo .val 0 0 15, mUl .wo .val 0 0 16, mX .wo .val] sub
  else if i = 0x2202 then (if sub = 0 then some { type := .domainOnly, acc := .wo } else none)
  else if within 0x2208 0x220B i then
    nthMember [mU .ro .calc, mY .ro 8 .calc, mU .ro .calc, mU .ro .calc, mX .ro .calc, mX .ro .calc, mU .ro .calc, mU .ro .calc,
      mU .ro .calc] sub
  else if i = 0x2210 then nthMember (List.replicate 9 (mX .ro .calc)) sub
  else if i = 0x2218 then nthMember (List.replicate 16 (mX .ro .calc)) sub
  else if within 0x2240 0x2247 i then nthMember [mU .ro .calc, mX .ro .calc, mB .ro .calc true] sub
  else if i = 0x2300 then nthMember [mU .ro .calc, mU .ro .calc, mUl .rwj (.fld Reg.CARDING_PACE_PACE_US) 10 1 10000, mU .ro .calc] sub
  else if i = 0x2301 then nthMember [mXl .wo .val 0 1 0x3FFFFFF, mUl .wo .val 0 0 1, mUl .wo .val 0 1 2, mB .wo .val] sub
  else if i = 0x2302 then nthMember (calcs 136) sub
  else if within 0x2310 0x2329 i then
    let b := i - 0x2310
    nthMember [mU .ro (.fld (Reg.MEM_BANK_STAT_CE_COUNT.at b)), mU .ro (.fld (Reg.MEM_BANK_STAT_UE_COUNT.at b)), mB .ro .val,
      mU .ro .calc, mB .ro (.fld (Reg.MEM_BANK_STAT_DEGRADED.at b)), mU .ro .val] sub
  else if i = 0x2330 then
    nthMember [{ mX .rwj (.fld Reg.SCRUB_CTRL_EN) 0x3FFFFFF with expert := true }, mUl .rwj .val 16 1 65535,
      { mXl .rwj (.fld Reg.SCRUB_CTRL2_EN) 0x3FF 0 0x3FF with expert := true }] sub
  else if i = 0x2331 then nthMember (calcs 10) sub
  else none

/-- Members of 0x2400 to 0x2700. -/
def spec12c (i sub : Nat) : Option OdSpec :=
  if i = 0x2400 then nthMember (calcs 4 ++ [mUl .rwj .val 600 60 86400, mU .ro .calc]) sub
  else if i = 0x2401 ∨ i = 0x2402 then (if sub = 0 then some (mem' .ticket .wo .val 0) else none)
  else if within 0x2480 0x24FF i then
    nthMember ([mem' .ticket .ro .calc 0] ++ calcs 5 ++ [mX .ro .calc, mU .ro .calc]) sub
  else if i = 0x2500 then nthMember (calcs 3 ++ [mB .ro .calc] ++ calcs 9 ++ [mUl .rwj .val 0 0 1500, mU .ro .calc]) sub
  else if i = 0x2501 then (if sub = 0 then some { mU .wo .val with lim := { codes := [1, 2, 3] } } else none)
  else if i = 0x2510 then nthMember [mU .ro .calc, mUl .rw .val 0 0 255, mY .ro 24 .calc] sub
  else if i = 0x2600 then nthMember [mX .rwj (.fld Reg.HOSTPORT_INTEN_INTEN) 0x3F, mU .ro (.fld Reg.HOSTPORT_ERR_CRC_ERRORS)] sub
  else if i = 0x2700 then nthMember [mU .ro (.fld Reg.SYS_TRAPCNT_TOTAL), mU .ro (.fld Reg.SYS_TRAPCNT_DOUBLE),
      mU .ro (.fld Reg.SYS_TRAPLAST_PROC), mU .ro (.fld Reg.SYS_TRAPLAST_THREAD), mU .ro (.fld Reg.SYS_TRAPLAST_CODE),
      mU .ro (.fld Reg.SYS_TRAPPC_PC)] sub
  else none

/-- Members of 0x2E00 to 0x2F1F (Table 05-10). -/
def spec12d (i sub : Nat) : Option OdSpec :=
  if within 0x2E00 0x2EFF i then nthMember (ctxMembers (i - 0x2E00)) sub
  else if i = 0x2F00 then (if sub = 0 then some (mY .wo 8) else none)
  else if i = 0x2F01 then nthMember [mB .ro .calc, mU .ro .calc, mU .ro .calc, mB .ro .calc] sub
  else if i = 0x2F02 then (if sub = 0 then some (mB .rwj .val) else none)
  else if i = 0x2F03 then (if sub = 0 then some (mX .wo .val) else none)
  else if i = 0x2F04 then (if sub = 0 then some (mB .wo .val) else none)
  else if i = 0x2F05 then
    nthMember (calcs 3 ++ [mUl .rwj .val 30 1 3600, mUl .rwj .val 8 0 16, mUl .rwj .val 200 0 65535, mUl .rwj .val 50 1 65535]) sub
  else if i = 0x2F06 then (if sub = 0 then some (mU .ro .val) else none)
  else if i = 0x2F10 then nthMember (List.replicate 8 (mX .ro .calc)) sub
  else if i = 0x2F12 then
    nthMember (List.replicate 4 { mU .rwj .val 0xFF with lim := { codes := 0xFF :: (List.range 16).map Int.ofNat } }) sub
  else if within 0x2F18 0x2F1F i then nthMember [mUl .rwj .val 0 0 7, mX .rwj .val] sub
  else none

/-! ### Members of area 0x3 -/

/-- Members of 0x3000 to 0x3030 (Table 03-5). -/
def spec3a (i sub : Nat) : Option OdSpec :=
  if i = 0x3000 then
    nthMember [{ mU .rwj .calc 50 with lim := { codes := [50, 60] } }, mUl .rwj (.fld Reg.TREADLE_WIN_W) 1456 182 5461,
      mIl .rwj (.sfld Reg.TREADLE_CTRL_OFFSET) (-32768) 32767, mB .rwj (.fld Reg.TREADLE_CTRL_STEP_EN),
      mUl .rwj (.fld Reg.TREADLE_CTRL_HYST) 20 0 150, mUl .rwj (.fld Reg.TREADLE_CTRL_GAIN) 2 0 3,
      mUl .rwj (.fld Reg.TREADLE_CTRL_REMAP_AUTO) 1 0 1, mUl .rwj (.fld Reg.TREADLE_WIN_ACQ_TO) 1000 100 60000,
      mUl .rwj (.fld Reg.TREADLE_CTRL_SRC) 0 0 1] sub
  else if i = 0x3001 then
    nthMember [mU .ro (.fld Reg.TREADLE_STAT_STATE), mem' .angle .ro .calc 0, mU .ro .calc, mU .ro (.fld Reg.TREADLE_CNT_REJECT),
      mU .ro (.fld Reg.TREADLE_CNT_MISS), mU .ro (.fld Reg.TREADLE_STAT_SEQ), mX .ro .calc, mI .ro (.sfld Reg.TREADLE_MS3_MS3_PHASE),
      mU .ro (.fld Reg.TREADLE_HOLD_HOLD)] sub
  else if i = 0x3002 then (if sub = 0 then some (mB .wo .val) else none)
  else if within 0x3010 0x302F i then
    let n := i - 0x3010
    nthMember [mUl .rw (.fld (Reg.TREADLE_AEV_CFG_MODE.at n)) 0 0 3, mem' .angle .rw (.fld (Reg.TREADLE_AEV_TARGET_TARGET.at n)) 0,
      mUl .rw (.fld (Reg.TREADLE_AEV_PERIOD_PERIOD.at n)) 65536 16 4294967295, mUl .rw (.fld (Reg.TREADLE_AEV_CFG_PH.at n)) 0 0 3,
      mUl .rw (.fld (Reg.TREADLE_AEV_CFG_TCODE.at n)) 0 0 7, mUl .rw (.fld (Reg.TREADLE_AEV_CFG_TIDX.at n)) 0 0 31,
      mB .rw (.fld (Reg.TREADLE_AEV_CFG_IRQ.at n)), mX .ro .calc] sub
  else if i = 0x3030 then nthMember ([mem' .angle .ro .calc 0] ++ calcs 7) sub
  else none

/-- Members of 0x3100 to 0x3155 (Table 04-6). -/
def spec3b (i sub : Nat) : Option OdSpec :=
  if i = 0x3100 then
    nthMember [mUl .rwj (.fld Reg.TIME_CTRL_SEL) 0 0 3, mUl .rwj (.fld Reg.TIME_CTRL_SLEW) 100 1 100,
      mB .rwj (.fld Reg.TIME_CTRL_FIRST_STEP) true, { mUl .rwj .calc 3000 10 60000 with step := 10 }] sub
  else if i = 0x3101 then
    nthMember [mU .ro (.fld Reg.TIME_STAT_SOURCE), mB .ro (.fld Reg.TIME_STAT_ALIGNED), mI .ro .calc, mU .ro .calc, mU .ro .calc,
      mU .ro .calc, mem' .time .ro .calc 0] sub
  else if i = 0x3102 then (if sub = 0 then some (mB .wo .val) else none)
  else if i = 0x3110 ∨ i = 0x3111 then
    let x := i - 0x3110
    nthMember [mU .ro (.fld (Reg.TIME_TDX_STATE_STATE.at x)), mI .ro .calc,
      mUl .rwj (.fld (if x = 0 then Reg.TIME_TDA_PTPDOM_DOMNUM else Reg.TIME_TDB_PTPDOM_DOMNUM)) x 0 255, mU .ro .calc, mU .ro .calc,
      mU .ro .calc, mU .ro .val] sub
  else if within 0x3120 0x3127 i then
    let n := i - 0x3120
    nthMember [mUl .rw (.fld (Reg.TIME_TPO_CFG_MODE.at n)) 0 0 4, mUl .rw (.fld (Reg.TIME_TPO_CFG_SRC.at n)) 0 0 2,
      mUl .rw (.fld (Reg.TIME_TPO_SECHI_V.at n)) 0 0 65535, mU .rw (.fld (Reg.TIME_TPO_SECLO_V.at n)),
      mUl .rw (.fld (Reg.TIME_TPO_NS_V.at n)) 0 0 999999999, mUl .rw (.fld (Reg.TIME_TPO_PERIOD_V.at n)) 1000000000 1000 4294967295,
      mUl .rw (.fld (Reg.TIME_TPO_WIDTH_V.at n)) 100000 20 4294967295, mB .rw (.fld (Reg.TIME_TPO_CFG_POL.at n)),
      mB .ro (.fld (Reg.TIME_TPO_CFG_MISSED.at n))] sub
  else if within 0x3130 0x3137 i then
    let n := i - 0x3130
    nthMember [mUl .rw (.fld (Reg.TIME_TPI_CFG_EDGE.at n)) 0 0 3, mUl .rw (.fld (Reg.TIME_TPI_CFG_FILT.at n)) 0 0 255,
      { type := .bytesMax 33, acc := .ro, home := .calc }, mB .ro (.fld (Reg.TIME_TPI_CFG_OVF.at n))] sub
  else if within 0x3150 0x3155 i then
    let n := i - 0x3150
    nthMember [mIl .rwj (.sfld (Reg.TIME_PADJ_RX_RX_ADJ.at n)) (-100000) 100000,
      mIl .rwj (.sfld (Reg.TIME_PADJ_TX_TX_ADJ.at n)) (-100000) 100000] sub
  else none

/-! ### Members of areas 0x4 and 0x5 -/

/-- Members of CONFIG_CGg (Table 14-5). -/
def groupCfg (g : Nat) : List OdSpec :=
  [mU .rwl (.fld (Reg.PWM_G_CFG_PHASES.at g)), mUl .rwl (.fld (Reg.PWM_G_CFG_KIND.at g)) 0 0 2, mUl .rwl .val 100000 20000 2000000,
   mUl .rwl .val 50 0 1300, mUl .rwl .val 50 0 1300, mUl .rwl .val 50 20 1300, mUl .rwl (.fld (Reg.PWM_G_CFG_SYNC_SRC.at g)) 0 0 2,
   mU .rwl (.fld (Reg.PWM_G_SYNCPER_V.at g)), mUl .rwl (.fld (Reg.PWM_G_CFG_STOP.at g)) 0 0 1, mUl .rwl .val 10 1 1000,
   mUl .rwl .val 20 1 1000, mUl .rwl .calc 0 0 256, mB .rwl (.fld (Reg.PWM_G_CFG_EQ_EN.at g)) true,
   mB .rwl (.fld (Reg.PWM_G_CFG_DE_EN.at g)) true, mB .rwl (.fld (Reg.PWM_G_CFG_PSKIP.at g)) true, mUl .rwl .val 1 1 256,
   mF .rwl 3277, mF .rwl 131, mUl .rwl .val 0 0 7, mUl .rwl .val 1 0 7, mF .rwl 65536, mF .rwl 65536,
   mB .rwl (.fld (Reg.PWM_G_CFG_ANG_MODE.at g)), mIl .rwl .val (-32768) 32767, mUl .rwl .val 10 0 100, mU .rwl .val 0, mU .rwl .val 1,
   mUl .rwl .val 0 0 7, mUl .rwl .val 1000 10 10000]

/-- Members of 0x4000 to 0x4033. -/
def State.spec4a (s : State) (i sub : Nat) : Option OdSpec :=
  if i = 0x4000 then
    nthMember [mUl .rw .val (s.strap 8 1) 0 1, mX .ro .calc, mX .ro .calc, mU .ro .calc, mUl .rwj .val 1 0 1, mX .wo .val, mX .wo .val,
      mX .wo .val] sub
  else if within 0x4010 0x4013 i then nthMember (groupCfg (i - 0x4010)) sub
  else if within 0x4018 0x401B i then nthMember [mB .rwj .val, mU .rwj .val, mU .rwj .val] sub
  else if within 0x4020 0x4023 i then
    nthMember [mU .rwl .val, mU .rwl .val, mU .rwl .val, mUl .rwl .val 10 1 1000, mUl .rwl .val 8 1 255, mUl .rwl .val 20 1 1000,
      mU .rwl .val, mUl .rwl .val 0 0 1, mUl .rwl .val 4 1 64] sub
  else if within 0x4028 0x402B i then (if sub = 0 then some (mY .rwl 4096) else none)
  else if within 0x4030 0x4033 i then
    let g := i - 0x4030
    nthMember [mU .ro (.fld (Reg.PWM_G_STAT_STATE.at g)), mU .ro (.fld (Reg.PWM_G_STAT_FAULT.at g)), mU .ro .calc, mU .ro .calc,
      mI .ro .calc, mU .ro (.fld (Reg.PWM_G_STAT_ACTIVE.at g)), mU .ro (.fld (Reg.PWM_G_STAT_SYNCED.at g)), mU .ro .calc,
      mU .ro .calc] sub
  else none

/-- Members of 0x4040 to 0x4063. -/
def spec4b (i sub : Nat) : Option OdSpec :=
  if within 0x4040 0x4047 i then
    let n := i - 0x4040
    nthMember [mF .rwl 65536, mB .rwl .calc true, mU .rwl .val, mIl .rwl .val (-50) 50,
      mUl .rwl (.fld (Reg.PWM_PH_DE_DE_DELAY.at n)) 0 0 500, mB .rwl .calc, mU .ro (.fld (Reg.PWM_PH_STAT_STATE.at n)), mI .ro .calc,
      mI .ro .calc] sub
  else if i = 0x4050 then (if within 1 8 sub then some (mUl .rwl .calc (sub - 1) 0 63) else none)
  else if i = 0x4051 then (if sub = 0 then some { mUl .rwl .calc 100 0 2550 with step := 10 } else none)
  else if i = 0x4058 then nthMember [mUl .rwj (.fld Reg.ADC_BLANK_BLANK) 100 0 500, mX .rwj .calc, mY .ro 16 .calc] sub
  else if within 0x4060 0x4063 i then
    let k := i - 0x4060 + 4
    nthMember [mX .rwj (.fld (Reg.ADC_SEQ_CH_CH.at k)) 0xFFFFFFFF, mUl .rwj (.fld (Reg.ADC_SEQ_CFG_TRIG.at k)) 0 0 4,
      mU .rwj .calc, mUl .rwj (.fld (Reg.ADC_SEQ_CFG_TIDX.at k)) 0 0 7, mU .rwj (.fld (Reg.ADC_SEQ_TP_V.at k)), mY .ro 32 .calc,
      mUl .rwj .calc 1 1 8] sub
  else none

/-- Members of area 0x5 (Table 15-5). -/
def spec5 (i sub : Nat) : Option OdSpec :=
  if i = 0x5000 then
    nthMember [mU .ro .calc, mB .ro (.fld Reg.THERMAL_GUARD_ASSERTED), mU .ro (.fld Reg.THERMAL_GUARD_CAUSE), mUl .rwj .val 0 0 1,
      mB .wo .val, mU .ro .val] sub
  else if i = 0x5001 then
    nthMember ((List.range 8).map (fun n => mI .ro (.sfld (Reg.THERMAL_T_TEMP.at n))) ++ [mX .ro .calc]) sub
  else if i = 0x5008 then
    nthMember [mUl .rwl .calc 2 1 8, mUl .rwl (.fld Reg.FAN_CFG_SENSOR_MODE) 0 0 2, mUl .rwl (.fld Reg.FAN_CFG_DRIVE_MODE) 0 0 1,
      mUl .rwl .val 0 0 1, mUl .rwl .val 600 100 20000, mUl .rwl .val 3000 200 30000, mUl .rwl .val 1 0 3, mI .rwl .val 300,
      mI .rwl .val 450, mU .rwl .val 300, mUl .rwl .val 3000 100 60000, mUl .rwl (.fld Reg.FAN_FALLBACK_FALLBACK_DUTY) 600 0 1000,
      mUl .rwl (.fld Reg.FAN_ILIM_CURRENT_LIMIT_MA) 1500 200 3000, mF .rwl 13107, mF .rwl 655] sub
  else if i = 0x5009 then nthMember [mB .rwj (.fld Reg.FAN_CFG_EN), mUl .rwj .val 0 0 30000] sub
  else if i = 0x500A then
    nthMember [mU .ro (.fld Reg.FAN_STAT_STATE), mU .ro (.fld Reg.FAN_STAT_FAULT), mU .ro (.fld Reg.FAN_SPEED_RPM),
      mU .ro (.fld Reg.FAN_SPEED_CURRENT_MA), mU .ro .calc, mX .ro .calc, mB .wo .val] sub
  else if i = 0x5010 then (if sub = 0 then some (mB .wo .val) else none)
  else if i = 0x5011 then nthMember (List.replicate 8 { mU .ro .val with jrnl := true }) sub
  else if i = 0x5012 then nthMember [mU .ro .val, mU .ro .val, mUl .rwj .val 1150 1001 2000, mUl .rwj .val 1300 1002 3000] sub
  else none

/-! ### Members of areas 0x6 and 0x7 -/

/-- The default of 0x6000:02: 0x02, then DEVICE_ID [39:0] with its lowest byte first. -/
def State.macDefault (s : State) : List Byte := 0x02 :: leBytes 5 s.deviceId

/-- Members of 0x6000 to 0x6030 (Table 11-8). -/
def State.spec6a (s : State) (i sub : Nat) : Option OdSpec :=
  if i = 0x6000 then
    nthMember [mB .rwj (.fld Reg.LOOM_CTRL_EN) true, { mY .rwj 6 with dfltBytes := s.macDefault },
      mUl .rwj (.fld Reg.LOOM_CTRL_AGEING) 300 10 1000000, mU .ro .calc, mU .ro .calc, mU .ro .calc, mY .rwj 4] sub
  else if within 0x6010 0x6015 i then
    let n := i - 0x6010
    nthMember [mUl .rwj (.fld (Reg.LOOM_PORT_CFG_STATE.at n)) 2 0 2, mUl .rwj (.fld (Reg.LOOM_PORT_CFG_PVID.at n)) 1 1 4094,
      mUl .rwj (.fld (Reg.LOOM_PORT_CFG_ACCEPT.at n)) 0 0 2, mB .rwj (.fld (Reg.LOOM_PORT_CFG_INGRESS_FILTER.at n)) true,
      mUl .rwj (.fld (Reg.LOOM_PORT_CFG_DEF_PRIO.at n)) 0 0 7, mU .rwj (.fld (Reg.LOOM_PORT_TCMAP_TC_MAP.at n)) 0xFAC688,
      mUl .rwj (.fld (Reg.LOOM_PORT_CFG_STRICT.at n)) 8 0 8, mU .rwj .calc 0x11111111,
      mU .rwj (.fld (Reg.LOOM_PORT_CELLS_RESERVE.at n)) 64, mUl .rwj (.fld (Reg.LOOM_PORT_CELLS_MAX.at n)) 2048 1 16383,
      mUl .rwj (.fld (Reg.LOOM_PORT_EGMAX_EGRESS_MAX.at n)) 2048 1 16383, mB .rwj (.fld (Reg.LOOM_PORT_CFG_LEARN.at n)) true] sub
  else if i = 0x6020 ∨ i = 0x6022 then (if within 1 64 sub then some (mY .rwj 12) else none)
  else if i = 0x6021 then
    (if sub = 1 then some { mY .rwj 8 with dfltBytes := [0x01, 0x00, 0xFF, 0x01, 0x3F, 0x00, 0x00, 0x00] }
     else if within 1 64 sub then some (mY .rwj 8) else none)
  else if i = 0x6030 then
    nthMember [mUl .rwj (.fld Reg.LOOM_RED_MODE01) 0 0 2, mUl .rwj (.fld Reg.LOOM_RED_MODE23) 0 0 2,
      mUl .rwj (.fld Reg.LOOM_RED_FORGET) 400 10 10000, mU .ro .calc] sub
  else none

/-- Members of 0x6040 to 0x6061. -/
def spec6b (i sub : Nat) : Option OdSpec :=
  if within 0x6040 0x6045 i then (if sub = 0 then some (mY .rwj 1048) else none)
  else if within 0x6048 0x604D i then (if sub = 0 then some (mY .rwj 264) else none)
  else if i = 0x6050 then
    nthMember [mB .rwj (.fld Reg.BOBBIN_CTRL_EN), { mUl .rwj .calc 256 64 1024 with step := 64 }, mB .rwj (.fld Reg.BOBBIN_CTRL_OVERWRITE),
      mU .ro .calc, mU .ro (.fld Reg.BOBBIN_STAT_LOST_TOTAL), mU .ro (.fld Reg.BOBBIN_STAT_STOPPED)] sub
  else if within 0x6051 0x6060 i then
    let k := i - 0x6051
    nthMember [mB .rwj (.fld (Reg.BOBBIN_F_CFG_EN.at k)), mU .rwj (.fld (Reg.BOBBIN_F_CFG_PORTS.at k)) 0x1FF,
      mU .rwj (.fld (Reg.BOBBIN_F_CFG_DIR.at k)) 3, mU .rwj .calc, mU .rwj .calc, mU .rwj (.fld (Reg.BOBBIN_F_CFG_VERDICT.at k)) 0x1F,
      mUl .rwj (.fld (Reg.BOBBIN_F_SAMPLE_SAMPLE.at k)) 1 1 65535] sub
  else if i = 0x6061 then (if sub = 0 then some (mY .ro 128 .calc) else none)
  else none

/-- The MODE codes that Table 12-2 lists for a port (R722). -/
def macModes (p : Nat) : List Int := if p < 4 then [0, 1, 2, 3] else [0, 1]

/-- Members of 0x6070 to 0x6118 (Tables 12-11, 13-9, R1028). -/
def spec6c (i sub : Nat) : Option OdSpec :=
  if within 0x6070 0x6075 i then
    let p := i - 0x6070
    nthMember [{ mU .rwj (.fld (Reg.MAC_CFG_MODE.at p)) (if p = 4 then 0 else 1) with lim := { codes := macModes p } },
      mB .rwj (.fld (Reg.MAC_CFG_AN_EN.at p)) true, mB .ro (.fld (Reg.MAC_LINK_UP.at p)), mU .ro .calc,
      mUl .rwj (.fld (Reg.MAC_CFG_MIN_FRAME.at p)) 64 64 128, mUl .rwj (.fld (Reg.MAC_CFG_MAX_FRAME.at p)) 9216 1518 9216,
      mB .rwj (.fld (Reg.MAC_CFG_PAUSE_HONOUR.at p)), mB .rwj (.fld (Reg.MAC_CFG_TX_CSUM.at p)) true, mX .rw .calc,
      mUl .rwj (.fld (Reg.MAC_HOLD_LINKUP_HOLD.at p)) 10 0 1000, mU .ro .val] sub
  else if i = 0x6078 then
    nthMember [mUl .rwj (.fld Reg.T1L_CFG_TX_LEVEL) 0 0 1, mUl .rwj (.fld Reg.T1L_CFG_ROLE) 0 0 2, mU .ro (.fld Reg.T1L_STAT_SQI),
      mU .ro (.fld Reg.T1L_DIAG_RESULT), mU .ro (.fld Reg.T1L_DIAG_DISTANCE), mB .wo .val, mB .rwj (.fld Reg.T1L_CFG_AUTO_DIAG) true,
      mUl .rwj (.fld Reg.T1L_CFG_VF) 169 128 255] sub
  else if i = 0x6080 then
    nthMember [mU .wo .val, mUl .wo .val 0 1 3, mUl .wo .val 0 42 138, mUl .wo .val 0 1 65535, mUl .wo .val 0 1 9170,
      mU .wo .val] sub
  else if i = 0x6100 ∨ i = 0x6101 then
    let n := i - 0x6100
    nthMember [{ mU .rwj .val 250 with lim := { codes := [10, 20, 50, 125, 250, 500, 800, 1000] } }, mUl .rwj .val 875 500 900,
      { mU .rwj .val 0 with lim := { codes := [0, 1000, 2000, 4000, 5000] } }, mUl .rwj .val 750 600 900,
      mB .rwj (.fld (Reg.CAN_CTRL_AUTO_RECOVER.at n)) true, mU .ro (.fld (Reg.CAN_STAT_STATE.at n)), mU .ro (.fld (Reg.CAN_ERR_TEC.at n)),
      mU .ro (.fld (Reg.CAN_ERR_REC.at n)), mX .rw .calc, mU .ro .val, mUl .rwj (.fld (Reg.CAN_WCFG_MODE.at n)) 0 0 1,
      mU .rwj (.fld (Reg.CAN_WID_WAKE_ID.at n)), mU .rwj (.fld (Reg.CAN_WIDM_WAKE_ID_IGNORE.at n)), mU .rwj .calc,
      { mY .rwj 8 .calc with dfltBytes := List.replicate 8 0xFF }, mU .ro (.fld (Reg.CAN_STAT_BUS_FAULT.at n))] sub
  else if i = 0x6108 ∨ i = 0x6109 then
    let n := i - 0x6108
    nthMember [mU .ro (.fld (Reg.CAN_CTRL_TT.at n)), mU .ro (.fld (Reg.CAN_TTCFG_SRC.at n)), mU .ro (.fld (Reg.CAN_TTSTAT_CYCLE.at n)),
      mB .ro (.fld (Reg.CAN_STAT_REF_LOST.at n)), mU .ro .calc] sub
  else if i = 0x6118 then
    nthMember [mU .ro (.fld Reg.HEDDLE_RS485_STAT_FAULT0), mU .ro (.fld Reg.HEDDLE_RS485_STAT_FAULT1), mX .ro .calc] sub
  else none

/-- Members of area 0x7 (Table 10-7). -/
def spec7 (i sub : Nat) : Option OdSpec :=
  if i = 0x7000 then nthMember [mX .ro .calc, mX .ro (.fld Reg.HEDDLE_BYPASS_RS485), mU .ro .calc, mU .ro .calc] sub
  else if i = 0x7001 then
    nthMember [mB .ro (.fld Reg.HEDDLE_DALI_STAT_BUS0), mB .ro (.fld Reg.HEDDLE_DALI_STAT_SHORT0),
      mB .ro (.fld Reg.HEDDLE_DALI_STAT_BUS1), mB .ro (.fld Reg.HEDDLE_DALI_STAT_SHORT1)] sub
  else if i = 0x7002 ∨ i = 0x7003 then nthMember [mU .ro .calc, mU .ro .calc, mX .ro .calc, mX .rw .calc] sub
  else if within 0x7010 0x701F i then
    let n := i - 0x7010
    nthMember [mU .ro (.fld (Reg.HEDDLE_STAT_STATE.at n)), mU .ro .calc, mU .ro (.fld (Reg.HEDDLE_STAT_FAULT.at n)),
      mU .ro (.fld (Reg.HEDDLE_STAT_PC.at n)), mU .ro .calc, mU .ro .calc] sub
  else none

/-! ### Members of areas 0x8, 0x9, 0xB and 0xF -/

/-- Members of area 0x8 (Table 16-4). -/
def spec8 (i sub : Nat) : Option OdSpec :=
  if i = 0x8000 then nthMember [mU .ro .calc, mU .ro .calc, mB .ro (.fld Reg.BACKUP_STAT_RTC_VALID)] sub
  else if i = 0x8001 then (if sub = 0 then some (mY .wo 6) else none)
  else if i = 0x8002 then
    nthMember [mIl .rw (.sfld Reg.RTC_LOCAL_OFFSET) (-64800) 64800, mB .ro (.fld Reg.RTC_LOCAL_DST),
      { mU .wo .val with lim := { codes := [1, 2] } }] sub
  else if i = 0x8003 then
    nthMember [mIl .rw (.sfld Reg.RTC_TRIM_TRIM) (-512) 511, mB .rwj .val, mB .rwj .val true, mUl .rwj .val 33 1 32768, mI .ro .val] sub
  else if i = 0x8004 then
    nthMember [mU .rw (.fld Reg.RTC_ALARMLO_V), mUl .rw (.fld Reg.RTC_ALARMHI_V) 0 0 65535, mB .ro (.fld Reg.RTC_ALARMHI_ARMED)] sub
  else if i = 0x8005 then (if sub = 0 then some (mU .rw (.fld Reg.RTC_PERIOD_PERIOD)) else none)
  else if i = 0x8006 then
    nthMember [mU .ro (.fld Reg.BACKUP_STAT_ON_BATTERY), mU .ro (.fld Reg.BACKUP_VBAT_VBAT_MV),
      mU .ro (.fld Reg.BACKUP_STAT_SWITCHOVERS), mX .rw .calc] sub
  else if i = 0x8010 then (if within 1 16 sub then some (mX .rw (.fld (Reg.BACKUP_RET_RET.at (sub - 1)))) else none)
  else none

/-- Members of areas 0x9, 0xB and 0xF (Tables 17-7, 05-10, R281). -/
def spec9F (i sub : Nat) : Option OdSpec :=
  if i = 0x9000 then
    nthMember [mU .ro .calc, mU .ro .calc, mU .ro (.fld Reg.GRILOR_ENUM_MY_ID), mUl .rwj .val 1 1 255,
      mU .ro (.fld Reg.GRILOR_ENUM_ENUM_STATE), mU .ro (.fld Reg.GRILOR_ENUM_WORKERS), mB .rwj .val, mB .rwj .val true,
      mB .rwj .val true, mUl .rwj .val 10 1 1000, mUl .rwj .val 100 10 10000, mB .wo .val] sub
  else if i = 0x9001 then
    nthMember [mU .ro (.fld (Reg.GL_STAT_STATE.at 0)), mU .ro (.fld (Reg.GL_STAT_STATE.at 1)), mU .ro .calc, mU .ro .calc,
      mX .ro .calc] sub
  else if i = 0x9002 then (if within 1 255 sub then some { mY .ro 16 with jrnl := true } else none)
  else if i = 0x9003 then (if sub = 0 then some (mB .wo .val) else none)
  else if within 0x9008 0x900F i then
    let k := i - 0x9008
    nthMember [mB .rwj (.fld (Reg.GE_STAT_EN.at k)), mY .rwj 6, mUl .rwj .val 0 0 5, mUl .rwj .val 0 0 4094,
      mU .ro (.fld (Reg.GE_STAT_STATE.at k))] sub
  else if i = 0x9010 then
    nthMember [mU .ro (.fld Reg.GRILOR_TWIN_STATE), mU .ro (.fld Reg.GRILOR_TWIN_MIRROR), mU .ro .calc,
      mU .ro (.fld Reg.GRILOR_TWIN_HB_MISSES), mB .wo .val, mU .ro .val, mB .rwj .val true] sub
  else if within 0x9101 0x91FF i then
    nthMember [mem' .odref .wo .val 0, mUl .wo .val 0 1 2, mU .wo .val, { type := .bytesMax 4096, acc := .wo }] sub
  else if within 0xB000 0xB0FF i then (if sub = 0 then some (mY .rwj 64) else none)
  else if i = 0xF000 then
    (nthMember [mU .rw .calc, mX .rw .calc, mB .rw .calc, mU .ro .calc] sub).map (fun m => { m with expert := true })
  else none

/-- A member of area 0xA (R1048). -/
def State.specImage (s : State) (i sub : Nat) : Option OdSpec :=
  ((s.imageDefs i).find? (fun d => d.sub == sub)).map (fun d =>
    { type := d.type, acc := d.acc, expert := d.expert, jrnl := d.jrnl, dflt := d.dflt, dfltBytes := d.dfltBytes, lim := d.lim })

/-- Whether every member of an entry has level E, so that its sub-index 0 has it too. -/
def expertEntry (i : Nat) : Bool := i == 0x2011 || i == 0xF000

/-- The attributes of a member; sub-index 0 of a RECORD or ARRAY is a read-only UINT (R279). -/
def State.odSpec (s : State) (i sub : Nat) : Option OdSpec :=
  match s.odLast i with
  | none => none
  | some l =>
    if l.isSome && sub == 0 then some { mU .ro .calc with expert := expertEntry i }
    else if i < 0x2200 then spec12a i sub
    else if i < 0x2400 then s.spec12b i sub
    else if i < 0x2E00 then spec12c i sub
    else if i < 0x3000 then spec12d i sub
    else if i < 0x3100 then spec3a i sub
    else if i < 0x4000 then spec3b i sub
    else if i < 0x4040 then s.spec4a i sub
    else if i < 0x5000 then spec4b i sub
    else if i < 0x6000 then spec5 i sub
    else if i < 0x6040 then s.spec6a i sub
    else if i < 0x6070 then spec6b i sub
    else if i < 0x7000 then spec6c i sub
    else if i < 0x8000 then spec7 i sub
    else if i < 0x9000 then spec8 i sub
    else if within 0xA000 0xAFFF i then s.specImage i sub
    else spec9F i sub

end Sys2Proof.Machine
end

