-- ==== Sys2Proof/Machine/Contexts.lean ====
section
/-! DEFINITION. Client contexts, rights profiles and the expert unlock (chapter 05). -/
namespace Sys2Proof.Machine

/-- A context as the wake leaves it (Tables 05-6 and 05-7, R308). -/
def State.ctxReset (s : State) (c : Nat) : Ctx :=
  if c = 0 then { state := .opened, profile := 0xFF, quota := 16, reach := 0xFF }
  else if c = 1 then { state := .opened, profile := s.odN 0x2E01 2 1, quota := s.odN 0x2E01 3 8, reach := 0 }
  else if c = 2 then
    { state := if s.role = 2 then .opened else .disabled, profile := s.odN 0x2E02 2 2, quota := s.odN 0x2E02 3 8, reach := 1 }
  else if c = 3 then
    { state := if s.role = 3 then .opened else .disabled, profile := s.odN 0x2E03 2 3, quota := s.odN 0x2E03 3 8, reach := 1 }
  else {}

/-- Context `c`. -/
def State.ctx (s : State) (c : Nat) : Ctx := (s.od.ctx.get none c).getD (s.ctxReset c)

/-- Put context `c`. -/
def State.setCtx (s : State) (c : Nat) (v : Ctx) : State :=
  { s with od := { s.od with ctx := s.od.ctx.set none c (some v) } }

/-- The reserved quotas (R305): contexts that are OPEN or DRAINING, and orphans (R359). -/
def State.reserved (s : State) : Nat :=
  ((List.range 256).map (fun c =>
    if (s.ctx c).state == .opened || (s.ctx c).state == .draining then (s.ctx c).quota else 0)).sum + s.orphans.length

/-- The value of profile `p`: 0 to 7 fused, 8 to 15 configured (R298). -/
def State.profileRights (s : State) (p : Nat) : Nat :=
  if p < 8 then s.fuseField (648 + 32 * p) 32 else s.odN (0x2F18 + (p - 8)) 2 0

/-- The right code of a rights value for area `a` (R297): 0 none, 1 read, 2 read-write, 3 read-write-expert. -/
def rightOf (rights a : Nat) : Nat := fieldOf rights (2 * a) 2

/-- Whether a context holds every right without a profile (R302). -/
def State.allRights (s : State) (c : Nat) : Bool := c == 0 || (c == 1 && decide (s.lifecycle < 2))

/-- The profile of context `c`: for a session of image slot n − 1, that of 0x2F12:n while it is not 0xFF (R327). -/
def State.ctxProfile (s : State) (c : Nat) : Nat :=
  let x := s.ctx c
  let p := s.odN 0x2F12 (x.image + 1) 0xFF
  if c < 4 ∨ 4 ≤ x.image ∨ p = 0xFF then x.profile else p

/-- The right of context `c` for area `a` (R297, R302). -/
def State.ctxRight (s : State) (c a : Nat) : Nat :=
  if s.allRights c then 3 else rightOf (s.profileRights (s.ctxProfile c)) a

/-- Whether context `c` is unlocked (R302, R310). -/
def State.ctxUnlocked (s : State) (c : Nat) : Bool := s.allRights c || (s.ctx c).unlocked

/-- The areas whose right fields count (R297): not 0x0 and not 0xC to 0xE. -/
def rightAreas : List Nat := [1, 2, 3, 4, 5, 6, 7, 8, 9, 10, 11, 15]

/-- Whether context `c` holds, in every area, at least the rights of a rights value (R300). -/
def State.coversRights (s : State) (c rights : Nat) : Bool :=
  c == 0 || rightAreas.all (fun a => decide (rightOf rights a ≤ s.ctxRight c a))

/-- Whether rights stay within the fused profile `ceiling` (R299). -/
def State.underCeiling (s : State) (rights ceiling : Nat) : Bool :=
  rightAreas.all (fun a => decide (rightOf rights a ≤ rightOf (s.profileRights ceiling) a))

/-! ### Expert unlock (R311 to R316) -/

/-- The EXPERT_POLICY fuse field [lo + w - 1 : lo] (R312). -/
def State.policy (s : State) (lo w : Nat) : Nat := s.fuseField (904 + lo) w

/-- MAX_FAILS (R312). -/
def State.maxFails (s : State) : Nat := if s.policy 40 8 = 0 then 8 else s.policy 40 8

/-- Whether only the host port may still unlock, for the rest of the wake once the failure count has reached MAX_FAILS (R316). -/
def State.hostOnly (s : State) : Bool := s.od.hostOnly || decide (s.maxFails ≤ s.od.failCount)

/-- Whether a key opens the unlock (R311): the first 32 bits of SHA-256 over the key and DEVICE_ID equal KEY_CHECK. -/
def State.keyMatches (s : State) (key : List Byte) : Bool :=
  sha256 (key ++ leBytes 16 s.deviceId) / 2 ^ 224 == s.policy 0 32

/-- An unlock write of an 8-byte key by context `c` (R311, R313, R316): the result code and the state. -/
def State.unlock (s : State) (c : Nat) (key : List Byte) : Nat × State :=
  let x := s.ctx c
  if s.policy 48 1 = 1 ∨ s.policy 0 32 = 0 ∨ 4 ≤ s.lifecycle ∨ 6 ≤ x.reach ∨ !bitOf (s.policy 32 8) x.reach ∨ s.od.unlockBlocked ∨
      (s.hostOnly ∧ x.reach ≠ 0) then (0x18, s)
  else if s.keyMatches key then
    (0, ({ s with od := { s.od with failCount := 0 } }).setCtx c { x with unlocked := true, lastUse := s.cycle })
  else
    let n := s.od.failCount + 1
    let od := { s.od with failCount := n, unlockBlocked := true, hostOnly := s.hostOnly || decide (s.maxFails ≤ n) }
    (0x18, { s.mark .unlockBlock with od := od })

/-- End the unlock of context `c`; the expiry of C1's sets INTSTAT.EXPERT (R314, R400). -/
def State.relockCtx (s : State) (c : Nat) : State := s.setCtx c { s.ctx c with unlocked := false }

/-- An E-level or gateway access by context `c` restarts the 600 s (R314). -/
def State.touchUnlock (s : State) (c : Nat) : State :=
  if (s.ctx c).unlocked then s.setCtx c { s.ctx c with lastUse := s.cycle } else s

/-- Context `c` becomes FREE (R304, R309, R314): its quota is released and its unlock ends. -/
def State.freeCtx (s : State) (c : Nat) : State := s.setCtx c {}

/-- An image closes the session of context `c` (Table 05-7). -/
def State.closeSession (s : State) (c : Nat) : State :=
  if (s.ctx c).state != .opened || c < 4 then s
  else
    let s1 : State := match (s.ctx c).image with
      | k => if k < 4 then s.setSlot k { s.slot k with sessions := (s.slot k).sessions - 1 } else s
    if (s1.heldBy c).isEmpty then s1.freeCtx c
    else s1.setCtx c { s1.ctx c with state := .draining, session := s.cycle }

/-- The last ticket of a DRAINING context is retired (Table 05-7). -/
def State.drained (s : State) (c : Nat) : State :=
  if (s.ctx c).state == .draining && (s.heldBy c).isEmpty then s.freeCtx c else s

/-- Retire the ticket in slot `i`, and free its context where it was draining and this was its last ticket (R354, Table 05-7). -/
def State.retireTicket (s : State) (i : Nat) : State :=
  let c := (s.ticket i).client
  (s.retireSlot i).drained c

end Sys2Proof.Machine
end

