-- ==== Sys2Proof/Machine/Fan.lean ====
section
/-! DEFINITION. The fan drive, its ageing index, the temperatures and the thermal guard (chapter 15). -/
namespace Sys2Proof.Machine

/-! ### Shared operations -/

/-- The fan's STATE: 0 OFF, 1 STARTING, 2 RUN, 3 RESTART_WAIT, 4 FAULT, 5 FALLBACK, 6 HELD (R898). -/
def State.fanSt (s : State) : Nat := s.rd Reg.FAN_STAT_STATE

/-- Set the fan's STATE: its time in the state begins. -/
def State.fanTo (s : State) (n : Nat) : State := (s.mark .fan).wr Reg.FAN_STAT_STATE n

/-- Whether the guard asserts SHDN_N; the peer's ownership holds the pin released (R903). -/
def State.shdnLow (s : State) : Bool := s.on Reg.THERMAL_GUARD_ASSERTED && !s.on Reg.THERMAL_GUARD_HELD

/-- The temperature of sensor `n` in 0.1 °C. -/
def State.temp (s : State) (n : Nat) : Int := signed 16 (s.rd (Reg.THERMAL_T_TEMP.at n))

/-- A member of 0x5008. -/
def State.fanCfg (s : State) (sub d : Nat) : Nat := s.odN 0x5008 sub d

/-- SPEED_MIN_RPM. -/
def State.fanMin (s : State) : Nat := s.fanCfg 5 600

/-- SPEED_MAX_RPM. -/
def State.fanMax (s : State) : Nat := s.fanCfg 6 3000

/-- The speed demand in rpm (R896). -/
def State.fanDemand (s : State) : Nat :=
  let lo := s.fanMin
  let hi := s.fanMax
  let n := s.fanCfg 7 1
  let t := s.temp n
  let tl := signed 32 (s.fanCfg 8 300)
  let th := signed 32 (s.fanCfg 9 450)
  if s.shdnLow then hi
  else if s.fanCfg 4 0 = 1 then
    if s.rd (Reg.THERMAL_T_FAULT.at n) ≠ 0 then hi
    else if t ≤ tl then lo
    else if th ≤ t then hi
    else (lo + (((hi : Int) - lo) * (t - tl) / (th - tl))).toNat
  else
    let v := s.odN 0x5009 2 0
    if v = 0 then 0 else min hi (max lo v)

/-- Whether the fan is to turn: ENABLE and a demand that is not 0. -/
def State.fanWanted (s : State) : Bool := s.on Reg.FAN_CFG_EN && s.fanDemand != 0

/-- The bridge is off and the fan OFF. -/
def State.fanOff (s : State) : State := { s.fanTo 0 with fan := { s.fan with locked := false, shortWait := false } }

/-- A fault latches (Table 15-2): FAULT code 1 LOCKED or 2 SHORT, event 0x0F01. -/
def State.fanFaults (s : State) (code : Nat) : State :=
  ({ (s.fanTo 4).wr Reg.FAN_STAT_FAULT code with fan := { s.fan with locked := false, shortWait := false } }).event 0x0F01 0 [code]

/-- An attempt is counted (R898): the fan waits in RESTART_WAIT; in FALLBACK the hardware counts by the same rules and the third
latches LOCKED. -/
def State.fanAttempt (s : State) : State :=
  let n := min 3 (s.rd Reg.FAN_STAT_ATTEMPTS + 1)
  let s1 : State := { s.wr Reg.FAN_STAT_ATTEMPTS n with fan := { s.fan with locked := false } }
  if s.fanSt = 5 then (if 3 ≤ n then s1.fanFaults 1 else s1) else s1.fanTo 3

/-- A FAN.DUTY write feeds the watchdog and leaves FALLBACK (R897, Table 15-2); in LIMP the fan stays in its fallback mode (R121). -/
def State.fanDuty (s : State) (duty iref : Nat) : State :=
  let s1 := ((s.mark .fanDuty).wr Reg.FAN_DUTY_DUTY duty).wr Reg.FAN_DUTY_IREF iref
  if s.fanSt = 5 ∧ !s.limping then s1.fanTo (if s.fan.locked then 2 else 1) else s1

/-! ### Fan commands -/

/-- FAN_SPEED_LOOP (R895): the speed, current and VHV measured, the PI law on demand minus speed, and the FAN.DUTY write; without
the PCP or the die link no write is made. -/
def execFanSpeedLoop (rpm current vhv : Fin 65536) (s : State) : Out :=
  let s0 := s.mark (if rpm.val < s.fanCfg 0x0A 300 then .fanSlow else .fanFast)
  let s1 := ((s0.wr Reg.FAN_SPEED_RPM rpm).wr Reg.FAN_SPEED_CURRENT_MA current).wr Reg.FAN_VHV_VHV_MV vhv
  let law := Config.fanLaw (s.fanCfg 0x0E 13107) (s.fanCfg 0x0F 655) ((s.fanDemand : Int) - rpm.val) s.fan.integ
  let s2 : State := { s1 with fan := { s1.fan with integ := law.1 } }
  .next (if !s.on Reg.PCP_CTRL_RUNNING || s.on Reg.SYS_DLSTAT_DOWN then s
    else if s.on Reg.FAN_CFG_DRIVE_MODE then s2.fanDuty (s.rd Reg.FAN_DUTY_DUTY) (clampInt 0 (s.rd Reg.FAN_ILIM_CURRENT_LIMIT_MA) law.2).toNat
    else s2.fanDuty (clampInt 0 1000 law.2).toNat (s.rd Reg.FAN_DUTY_IREF))

/-- FAN_DUTY_WRITE (R897). -/
def execFanDutyWrite (v : Word) (s : State) : Out := .next (s.overLink (fun s => s.fanDuty (fieldOf v.toNat 0 10) (fieldOf v.toNat 16 12)))

/-- FALLBACK (R897, Table 15-2): 100 ms without a FAN.DUTY write while the fan is enabled; in LIMP where FALLBACK_DUTY is not 0. -/
def execFallback (s : State) : Out :=
  let can := if s.limping then decide (s.rd Reg.FAN_FALLBACK_FALLBACK_DUTY ≠ 0) else s.on Reg.FAN_CFG_EN && s.passed .fanDuty (100 * msCycles)
  .next (if can && decide (s.fanSt ≤ 2) then s.fanTo 5 else s)

/-- FAN_DEMAND_CHANGE (R896, Table 15-2): in LIMP the fan runs by FALLBACK alone (R121). -/
def State.fanDemandChange (s : State) : State :=
  if s.limping then s
  else if s.fanSt = 0 ∧ s.fanWanted then s.fanTo 1
  else if (s.fanSt = 1 ∨ s.fanSt = 2) ∧ !s.fanWanted then s.fanOff
  else s

/-- FAN_DEMAND_CHANGE (R896). -/
def execFanDemandChange (s : State) : Out := .next s.fanDemandChange

/-- FAN_LOCK (R898, R901): `reversed` says that the rotor turns against the driven direction; V and W are then swapped, with event
0x0F02 once per wake. -/
def execFanLock (reversed : Bool) (s : State) : Out :=
  .next (if !(s.fanSt == 1 || s.fanSt == 5) then s
    else
      let s1 : State := { s.wr Reg.FAN_STAT_LEADS_SWAPPED (b2n reversed) with fan := { s.fan with locked := true } }
      let s2 := if s.fanSt = 1 then s1.fanTo 2 else s1
      if reversed && !s.fan.swapPosted then
        { s2.event 0x0F02 0 [] with fan := { s2.fan with swapPosted := true } }
      else s2)

/-- FAN_START_TIMEOUT (R898): no lock within 2 s of the start. -/
def execFanStartTimeout (s : State) : Out :=
  .next (if (s.fanSt = 1 ∨ (s.fanSt = 5 ∧ !s.fan.locked)) ∧ s.passed .fan (2000 * msCycles) then s.fanAttempt else s)

/-- FAN_STALL (R898). -/
def execFanStall (s : State) : Out :=
  .next (if s.fanSt = 2 ∨ (s.fanSt = 5 ∧ s.fan.locked) then s.fanAttempt else s)

/-- FAN_RESTART_WAIT_END (R898): after 2 s the fan starts again, or after the third attempt latches LOCKED. -/
def execFanRestartWaitEnd (s : State) : Out :=
  .next (if s.fanSt ≠ 3 ∨ !s.passed .fan (2000 * msCycles) then s
    else if s.rd Reg.FAN_STAT_ATTEMPTS < 3 then s.fanTo 1
    else s.fanFaults 1)

/-- FAN_SHORT (R900): the bridge turns off for 100 ms; the eighth short within 10 s latches SHORT. -/
def execFanShort (s : State) : Out :=
  let recent := s.cycle :: s.fan.shorts.filter (fun c => decide (s.cycle < c + 30000000000))
  .next (if !(s.fanSt == 1 || s.fanSt == 2 || s.fanSt == 5) then s
    else
      let s1 : State := { s.wr Reg.FAN_STAT_SHORT_SEEN 1 with fan := { s.fan with shorts := recent, shortWait := true, locked := false } }
      if 8 ≤ recent.length then s1.fanFaults 2 else s1)

/-- FAN_SHORT_RESUME (R900): 100 ms after the short the fan resumes from STARTING. -/
def execFanShortResume (s : State) : Out :=
  .next (if !s.fan.shortWait || decide (s.cycle < s.fan.shorts.headD 0 + 100 * msCycles) then s
    else
      let s1 : State := { s with fan := { s.fan with shortWait := false } }
      if s.fanSt = 2 then s1.fanTo 1 else s1)

/-- FAN_OPEN_PHASE (R899). -/
def execFanOpenPhase (s : State) : Out :=
  .next (if s.fanSt = 1 ∨ s.fanSt = 2 ∨ s.fanSt = 5 then s.fanAttempt else s)

/-- HALL_FAULT (R893): an invalid code in 3 readings; with SENSOR_MODE 1 it counts as a stall, with 2 the commutator changes to
back-EMF, with 0 the Hall inputs are not read. -/
def execHallFault (s : State) : Out :=
  let s1 := s.wr Reg.FAN_STAT_HALL_FAULT 1
  .next (match s.rd Reg.FAN_CFG_SENSOR_MODE with
    | 0 => s
    | 1 => if s.fanSt = 2 ∨ (s.fanSt = 5 ∧ s.fan.locked) then s1.fanAttempt else s1
    | _ => s1)

/-- FAN_ATTEMPT_RESET (R898): 60 s in RUN. -/
def execFanAttemptReset (s : State) : Out := .next (if s.fanSt = 2 ∧ s.passed .fan (60000 * msCycles) then s.wr Reg.FAN_STAT_ATTEMPTS 0 else s)

/-- FAN_UNDERSPEED (R902): in RUN, with a demand above 1.1 × UNDER_RPM, the speed has stayed below UNDER_RPM for UNDER_TIME_MS; event 0x0F03 carries the speed. -/
def execFanUnderspeed (s : State) : Out :=
  .next (if s.fanSt = 2 ∧ s.fanCfg 0x0A 300 * 11 < s.fanDemand * 10 ∧ !s.on Reg.FAN_STAT_UNDERSPEED ∧
      s.rd Reg.FAN_SPEED_RPM < s.fanCfg 0x0A 300 ∧ s.passed .fan (s.fanCfg 0x0B 3000 * msCycles) ∧
      s.passed .fanFast (s.fanCfg 0x0B 3000 * msCycles) then
      (s.wr Reg.FAN_STAT_UNDERSPEED 1).event 0x0F03 0 (evBytes 2 (s.rd Reg.FAN_SPEED_RPM))
    else s)

/-- FAN_UNDERSPEED_CLEAR (R902): the speed has been at or above UNDER_RPM for 1 s. -/
def execFanUnderspeedClear (s : State) : Out :=
  .next (if s.passed .fanSlow (1000 * msCycles) then s.wr Reg.FAN_STAT_UNDERSPEED 0 else s)

/-- CLEAR of the fan (Table 15-2, R898). -/
def State.fanClear (s : State) : State :=
  let s1 := s.wr Reg.FAN_STAT_ATTEMPTS 0
  if s.fanSt = 4 then (s1.wr Reg.FAN_STAT_FAULT 0).fanOff else s1

/-- FAN_CLEAR (R898). -/
def execFanClear (s : State) : Out := .next (s.overLink State.fanClear)

/-- The peer twin holds TWIN_OWN, or this device does (Table 15-2, R903). -/
def State.fanHold (s : State) (held : Bool) : State :=
  let s1 := s.wr Reg.THERMAL_GUARD_HELD (b2n held)
  if held then { s1.fanTo 6 with fan := { s1.fan with locked := false, shortWait := false } }
  else if s.fanSt = 6 then (s1.fanTo 0).fanDemandChange
  else s1

/-! ### Baseline and ageing -/

/-- The speed of baseline point `p` (R904). -/
def State.pointRpm (s : State) (p : Nat) : Nat := s.fanMin + p * (s.fanMax - s.fanMin) / 7

/-- A point of 0x5011: speed [31:16] and effort [15:0]. -/
def State.basePoint (s : State) (p : Nat) : Nat × Nat :=
  let v := s.odN 0x5011 (p + 1) 0
  (v / 65536, v % 65536)

/-- Whether 0x5011 is empty. -/
def State.baseEmpty (s : State) : Bool := (List.range 8).all (fun p => s.odN 0x5011 (p + 1) 0 == 0)

/-- The ageing index in ‰ (R908): effort over the baseline interpolated at a mean speed, rounded down. -/
def State.ageIndex (s : State) (rpm effort : Nat) : Nat :=
  let top := s.basePoint 7
  let seg := ((List.range 7).find? (fun p => decide (rpm ≤ (s.basePoint (p + 1)).1))).getD 7
  let a := s.basePoint seg
  let b := s.basePoint (seg + 1)
  let d := b.1 - a.1
  if top.1 ≤ rpm ∨ seg = 7 ∨ d = 0 then effort * 1000 / max 1 top.2
  else (((effort * 1000 * d : Nat) : Int) / max 1 ((a.2 * d : Nat) + ((b.2 : Int) - a.2) * ((rpm : Int) - a.1))).toNat

/-- The ageing state after an index (R909): 20 ‰ below a threshold before WARNING or ALARM is left. -/
def ageState (old idx warn alarm : Nat) : Nat :=
  if alarm ≤ idx ∨ (old = 3 ∧ alarm ≤ idx + 20) then 3
  else if warn ≤ idx ∨ (old = 2 ∧ warn ≤ idx + 20) then 2
  else 1

/-- AGEING_UPDATE (R908, R909): the end of a 60 s period with its mean speed and effort; `stable` says that speed stayed within
± 2 % of its mean. -/
def execAgeingUpdate (rpm effort : Fin 65536) (stable : Bool) (s : State) : Out :=
  let old := s.odN 0x5012 2 0
  let idx := s.ageIndex rpm effort
  let st := ageState old idx (s.odN 0x5012 3 1150) (s.odN 0x5012 4 1300)
  .next (if !s.on Reg.PCP_CTRL_RUNNING then s
    else if s.baseEmpty then s.odPutU 0x5012 2 0
    else if s.fanSt ≠ 2 ∨ !stable ∨ rpm.val < (s.basePoint 0).1 then s
    else
      let s1 := (s.odPutU 0x5012 1 idx).odPutU 0x5012 2 st
      if st = 3 ∧ old ≠ 3 then s1.event 0x0F05 0 (evBytes 2 idx)
      else if st = 2 ∧ old ≠ 2 then s1.event 0x0F04 0 (evBytes 2 idx)
      else s1)

/-! ### Temperatures and the guard -/

/-- The fault of NTCn by its latest valid housekeeping sample (R850, R911, R912): 1 OPEN above 1.18 V, 2 SHORT below 0.02 V, 0 none. -/
def State.ntcFault (s : State) (n : Nat) : Nat :=
  match ((s.pwm.samples.get [] (20 + 2 * n)).filterMap id).head? with
  | some code => if 1180 * 16384 < 1200 * code then 1 else if 1200 * code < 20 * 16384 then 2 else 0
  | none => 0

/-- TEMPERATURE_UPDATE (R911, R912): the PCP reports a 100 ms average of sensor `n` in 0.1 °C, across the die link; event 0x0F06 on each
entry of an NTC into a fault. -/
def execTemperatureUpdate (n : Fin 8) (t : BitVec 16) (s : State) : Out :=
  let f := if n.val < 4 then s.ntcFault n else 0
  let old := s.rd (Reg.THERMAL_T_FAULT.at n)
  let s1 := ((s.wr (Reg.THERMAL_T_TEMP.at n) t.toNat).wr (Reg.THERMAL_T_VALID.at n) (b2n (f == 0))).wr
    (Reg.THERMAL_T_FAULT.at n) f
  .next (if !s.on Reg.PCP_CTRL_RUNNING || s.on Reg.SYS_DLSTAT_DOWN then s
    else if f ≠ 0 ∧ f ≠ old then s1.event 0x0F06 0 [n.val, f]
    else s1)

/-- GUARD_ASSERT (R913, R914, R916): a condition (1 NTC0_HOT, 2 NTC0_OPEN, 3 JUNCTION_HOT) asserts SHDN_N, records the cause and
posts 0x0F07; its return before release ends cooling. The guard evaluates while the main feed is present (R914, R915). -/
def execGuardAssert (cause : Fin 3) (s : State) : Out :=
  let code := cause.val + 1
  .next (if !s.pow.mainFeed then s
    else if s.on Reg.THERMAL_GUARD_ASSERTED then s.wr Reg.THERMAL_GUARD_COOLING 0
    else
      let s1 := (((s.wr Reg.THERMAL_GUARD_ASSERTED 1).wr Reg.THERMAL_GUARD_CAUSE code).wr Reg.THERMAL_GUARD_COOLING 0).inc
        Reg.THERMAL_GUARD_ASSERTIONS
      let s2 : State := { s1.odInc 0x5000 6 (2 ^ 32 - 1) with fan := { s1.fan with ackHeld := false, assertCycle := s.cycle } }
      s2.event 0x0F07 0 [code])

/-- GUARD_CONDITION_RETURN (R916): a condition returns before release, so cooling ends and the 60 s start anew. -/
def execGuardConditionReturn (s : State) : Out :=
  .next (if s.on Reg.THERMAL_GUARD_ASSERTED && s.pow.mainFeed then s.wr Reg.THERMAL_GUARD_COOLING 0 else s)

/-- SHDN_N is released (R916); event 0x0F08 carries the seconds asserted. -/
def State.guardRelease (s : State) : State :=
  let s1 := (s.wr Reg.THERMAL_GUARD_ASSERTED 0).wr Reg.THERMAL_GUARD_COOLING 0
  ({ s1 with fan := { s1.fan with ackHeld := false } }).event 0x0F08 0 (evBytes 4 ((s.cycle - s.fan.assertCycle) / 3000000000))

/-- GUARD_COOLING (R916, R917): a held acknowledge applies as cooling begins. -/
def execGuardCooling (s : State) : Out :=
  .next (if !s.on Reg.THERMAL_GUARD_ASSERTED || !s.pow.mainFeed then s
    else if s.fan.ackHeld then s.guardRelease
    else if s.on Reg.THERMAL_GUARD_COOLING then s
    else (s.mark .cooling).wr Reg.THERMAL_GUARD_COOLING 1)

/-- The Weaver's acknowledge (R916, R917): before cooling it is held. -/
def State.guardAck (s : State) : State :=
  if !s.on Reg.THERMAL_GUARD_ASSERTED then s
  else if s.on Reg.THERMAL_GUARD_COOLING then s.guardRelease
  else { s with fan := { s.fan with ackHeld := true } }

/-- GUARD_ACK (R917). -/
def execGuardAck (s : State) : Out := .next (s.overLink State.guardAck)

/-- GUARD_RELEASE_TIMER (R916): 60 s of cooling have passed without acknowledge; the timer pauses without the main feed (R915). -/
def execGuardReleaseTimer (s : State) : Out :=
  .next (if s.on Reg.THERMAL_GUARD_ASSERTED && s.on Reg.THERMAL_GUARD_COOLING && s.pow.mainFeed && s.passed .cooling (60000 * msCycles) then
      s.guardRelease
    else s)

end Sys2Proof.Machine
end

