-- ==== Sys2Proof/Machine/Crc.lean ====
section
/-! DEFINITION. The checksums that several units share: the CRC-32C of the fuse check, the CRC32C instruction, the journal and the boot
flash (R100, R365, R519, R569), and the CRC-8 of the host port (R391). -/
namespace Sys2Proof.Machine

/-- One bit of the reflected CRC-32C (R519). -/
def crc32cBit (c : Nat) : Nat := if c % 2 = 1 then c / 2 ^^^ 0x82F63B78 else c / 2

/-- One byte of the reflected CRC-32C: no initial value and no final XOR. -/
def crc32cByte (c b : Nat) : Nat := (List.range 8).foldl (fun a _ => crc32cBit a) (c ^^^ b)

/-- The CRC-32C of bytes, with the initial value and the final XOR of R519. -/
def crc32cOf (b : List Byte) : Nat := (b.foldl (fun c x => crc32cByte c x.toNat) 0xFFFFFFFF) ^^^ 0xFFFFFFFF

/-- The CRC-32C of the low `k` bytes of `n`, in ascending order, with the initial value and the final XOR of R519. -/
def crc32c (k n : Nat) : Nat :=
  ((List.range k).foldl (fun c i => crc32cByte c (n / 2 ^ (8 * i) % 256)) 0xFFFFFFFF) ^^^ 0xFFFFFFFF

/-- One bit of the CRC-8 with polynomial 0x07, most significant bit first (R391). -/
def crc8Bit (c : Nat) : Nat := if 128 ≤ c then (2 * c % 256) ^^^ 0x07 else 2 * c

/-- The CRC-8 of the host port over bytes: initial value 0xFF, no reflection, no final XOR (R391). -/
def crc8 (b : List Byte) : Nat := b.foldl (fun c x => (List.range 8).foldl (fun a _ => crc8Bit a) (c ^^^ x.toNat)) 0xFF

end Sys2Proof.Machine
end

