-- ==== Sys2Proof/Machine/Flash.lean ====
section
/-! DEFINITION. The xSPI flash: bytes, programs and erases, journal records and their scan, the boot record and the image table (R364 to
R370, R568 to R570, R1113). -/
namespace Sys2Proof.Machine

/-! ### Bytes -/

/-- The flash byte at address `a`; an erased byte reads 0xFF. -/
def flashByte (f : Store Byte) (a : Nat) : Byte := f.get 0xFF a

/-- The `n` flash bytes from address `a` on. -/
def flashRead (f : Store Byte) (a n : Nat) : List Byte := (List.range n).map (fun i => flashByte f (a + i))

/-- Program bytes from address `a` on: a program only clears bits. -/
def flashProgram (f : Store Byte) : Nat → List Byte → Store Byte
  | _, [] => f
  | a, b :: t => flashProgram (f.set 0xFF a (flashByte f a &&& b)) (a + 1) t

/-- Erase `n` bytes from address `a` on. -/
def flashErase (f : Store Byte) (a n : Nat) : Store Byte := f.filter (fun e => decide (e.1 < a) || decide (a + n ≤ e.1))

/-- Program bytes into the flash of a machine. -/
def State.program (s : State) (a : Nat) (b : List Byte) : State := { s with flash := flashProgram s.flash a b }

/-- Erase bytes of the flash of a machine. -/
def State.erase (s : State) (a n : Nat) : State := { s with flash := flashErase s.flash a n }

/-! ### Values in bytes (R293, R1113) -/

/-- The tag byte of a value (R293): the tag code of a scalar, 0x80 for BYTES. -/
def OdVal.tagByte : OdVal → Nat
  | .scalar t _ => t.toCode
  | .bytes _ => 0x80

/-- An item of a VALUE record (Table 06-12). -/
def itemBytes (e : Nat × OdVal) : List Byte :=
  leBytes 4 e.1 ++ leBytes 1 e.2.tagByte ++ leBytes 2 e.2.plain.length ++ e.2.plain

/-- A value from its tag byte and its bytes, none where they do not parse. -/
def valueOf (tag : Nat) (b : List Byte) : Option OdVal :=
  if tag = 0x80 then some (.bytes b)
  else if 16 ≤ tag then none
  else if b.length = (if Tag.ofCode tag = .bool then 1 else 4) then some (.scalar (Tag.ofCode tag) (leValue b))
  else none

/-- `n` items of a VALUE record that take all of `b`, none where they do not parse. -/
def itemsOf : Nat → List Byte → Option (List (Nat × OdVal))
  | 0, b => if b.isEmpty then some [] else none
  | n + 1, b =>
    let len := leValue ((b.drop 5).take 2)
    if b.length < 7 + len then none
    else
      match valueOf (leValue ((b.drop 4).take 1)) ((b.drop 7).take len), itemsOf n (b.drop (7 + len)) with
      | some v, some l => some ((leValue (b.take 4), v) :: l)
      | _, _ => none

/-! ### Record bodies (Table 06-12) -/

/-- The 24 bytes of an EVENT body. -/
def Event.bytes (e : Event) : List Byte :=
  leBytes 2 e.code ++ leBytes 2 e.src ++ leBytes 6 e.sec ++ leBytes 4 e.ns ++ leBytes 4 e.ang ++
    ((e.data.map (BitVec.ofNat 8)) ++ List.replicate 6 0).take 6

/-- The TYPE of a record (Table 06-6). -/
def JBody.type : JBody → Nat
  | .boltHead _ => 1 | .mount _ => 2 | .value .. => 3 | .admission .. => 4 | .step .. => 5 | .final .. => 6 | .retire _ => 7
  | .shutdown .. => 8 | .resume .. => 9 | .switch _ => 0x0A | .fail .. => 0x0B | .repair .. => 0x0C | .event _ => 0x0D
  | .other t _ => t

/-- The body of a record in bytes. -/
def JBody.bytes : JBody → List Byte
  | .boltHead g | .switch g => leBytes 4 g
  | .mount q => leBytes 4 q
  | .value h k n last items =>
    leBytes 4 h ++ leBytes 2 k ++ leBytes 2 n ++ leBytes 1 (b2n last) ++ leBytes 1 0 ++ leBytes 2 items.length ++ items.flatMap itemBytes
  | .admission h type n params =>
    leBytes 4 h ++ leBytes 1 type ++ leBytes 1 params.length ++ leBytes 2 n ++ params.map (BitVec.ofNat 8)
  | .step h k tag v => leBytes 4 h ++ leBytes 2 k ++ leBytes 1 0 ++ leBytes 1 tag.toCode ++ leBytes 4 v
  | .final h st code tag v =>
    leBytes 4 h ++ leBytes 1 st.toCode ++ leBytes 1 code ++ leBytes 1 tag.toCode ++ leBytes 1 0 ++ leBytes 4 v
  | .retire h => leBytes 4 h
  | .shutdown tr sec ns => leBytes 1 tr ++ leBytes 1 0 ++ leBytes 6 sec ++ leBytes 4 ns
  | .resume sec ns => leBytes 2 0 ++ leBytes 6 sec ++ leBytes 4 ns
  | .fail bolt cause seq => leBytes 1 bolt ++ leBytes 1 cause ++ leBytes 2 0 ++ leBytes 4 seq
  | .repair bank row spare action => leBytes 1 bank ++ leBytes 2 row ++ leBytes 1 spare ++ leBytes 1 action
  | .event e => e.bytes
  | .other _ n => List.replicate n 0

/-- The ticket state of a code. -/
def TkState.ofCode? (n : Nat) : Option TkState :=
  [TkState.free, .queued, .running, .done, .failed, .aborted, .indoubt][n]?

/-- The body that bytes of a type spell, `other` where its type is not listed, its length not allowed or its bytes do not parse (R366). -/
def JBody.ofBytes (type : Nat) (b : List Byte) : JBody :=
  let n (o w : Nat) : Nat := leValue ((b.drop o).take w)
  let len := b.length
  let no : JBody := .other type len
  match type with
  | 1 => if len = 4 then .boltHead (n 0 4) else no
  | 2 => if len = 4 then .mount (n 0 4) else no
  | 3 =>
    if len < 12 then no
    else match itemsOf (n 10 2) (b.drop 12) with
      | some l => .value (n 0 4) (n 4 2) (n 6 2) (bitOf (n 8 1) 0) l
      | none => no
  | 4 => if 8 ≤ len ∧ len = 8 + n 5 1 ∧ n 5 1 ≤ 64 then .admission (n 0 4) (n 4 1) (n 6 2) ((b.drop 8).map BitVec.toNat) else no
  | 5 => if len = 12 ∧ n 7 1 < 16 then .step (n 0 4) (n 4 2) (Tag.ofCode (n 7 1)) (n 8 4) else no
  | 6 =>
    if len = 12 ∧ n 6 1 < 16 then
      (match TkState.ofCode? (n 4 1) with
       | some st => .final (n 0 4) st (n 5 1) (Tag.ofCode (n 6 1)) (n 8 4)
       | none => no)
    else no
  | 7 => if len = 4 then .retire (n 0 4) else no
  | 8 => if len = 12 then .shutdown (n 0 1) (n 2 6) (n 8 4) else no
  | 9 => if len = 12 then .resume (n 2 6) (n 8 4) else no
  | 0x0A => if len = 4 then .switch (n 0 4) else no
  | 0x0B => if len = 8 then .fail (n 0 1) (n 1 1) (n 4 4) else no
  | 0x0C => if len = 5 then .repair (n 0 1) (n 1 2) (n 3 1) (n 4 1) else no
  | 0x0D =>
    if len = 24 then
      .event { code := n 0 2, src := n 2 2, sec := n 4 6, ns := n 10 4, ang := n 14 4, data := (b.drop 18).map BitVec.toNat }
    else no
  | _ => no

/-! ### Records (R365, R367) -/

/-- A record in flash: the header of Table 06-5 with its CRC, and the body. -/
def recordBytes (seq : Nat) (r : JBody) : List Byte :=
  let body := r.bytes
  let head := leBytes 2 0x7B4C ++ leBytes 4 seq ++ leBytes 1 r.type ++ leBytes 1 0 ++ leBytes 2 body.length ++ leBytes 2 0
  head ++ leBytes 4 (crc32cOf (head ++ body)) ++ body

/-- The committed record with sequence number `seq` that begins at byte `off` of a bolt of `size` bytes at `base`, none where none does
(R367). -/
def recordAt (f : Store Byte) (base size off seq : Nat) : Option JBody :=
  let head := flashRead f (base + off) 16
  let n (o w : Nat) : Nat := leValue ((head.drop o).take w)
  let len := n 8 2
  if n 0 2 ≠ 0x7B4C ∨ n 2 4 ≠ seq ∨ 4096 < len ∨ size < off + 16 + len then none
  else
    let body := flashRead f (base + off + 16) len
    if crc32cOf (head.take 12 ++ body) = n 12 4 then some (JBody.ofBytes (n 6 1) body) else none

/-- The first page boundary at or after byte `n`. -/
def pageUp (n : Nat) : Nat := (n + 255) / 256 * 256

/-- The page boundaries at which a scan looks after a record at byte `off` that is not committed (R369): up to the first at or beyond
4,112 bytes after its start. -/
def searchPages (off : Nat) : List Nat :=
  (List.range ((pageUp (off + 4112) - off / 256 * 256) / 256)).map (fun k => (off / 256 + k + 1) * 256)

/-- The committed records of a bolt with their offsets, scanned from byte `off` on with expected SEQ `seq` (R369); at most `n` records. -/
def scanFrom (f : Store Byte) (base size : Nat) : Nat → Nat → Nat → List (Nat × JRec)
  | 0, _, _ => []
  | n + 1, off, seq =>
    match recordAt f base size off seq with
    | some r => (off, ⟨seq, r⟩) :: scanFrom f base size n (off + r.size) (seq + 1)
    | none =>
      match (searchPages off).find? (fun p => (recordAt f base size p seq).isSome) with
      | none => []
      | some p =>
        match recordAt f base size p seq with
        | some r => (p, ⟨seq, r⟩) :: scanFrom f base size n (p + r.size) (seq + 1)
        | none => []

/-- The scan of a bolt. -/
def scanBolt (f : Store Byte) (base size : Nat) : List (Nat × JRec) := scanFrom f base size (size / 16) 0 1

/-- The first page boundary at or after byte `off` of a bolt whose whole page reads erased (R370); `n` pages are looked at. -/
def erasedPage (f : Store Byte) (base : Nat) : Nat → Nat → Nat
  | 0, off => off
  | n + 1, off =>
    if f.any (fun e => decide (base + off ≤ e.1) && decide (e.1 < base + off + 256)) then erasedPage f base n (off + 256) else off

/-- Whether all of a bolt reads erased. -/
def boltErased (f : Store Byte) (base size : Nat) : Bool := !f.any (fun e => decide (base ≤ e.1) && decide (e.1 < base + size))

/-- A bolt as a mount finds it in flash. -/
def boltOf (f : Store Byte) (base size : Nat) : Bolt :=
  let l := scanBolt f base size
  let fin := match l.getLast? with | some e => e.1 + e.2.body.size | none => 0
  { base := base, recs := l.map (·.2), used := erasedPage f base (size / 256) (pageUp fin), erased := boltErased f base size }

/-! ### The boot record (R364, R569) -/

/-- Where the bolts stand: generation of the copy, bases and size. -/
structure BootRecord where
  gen : Nat := 0
  baseA : Nat := 0x840000
  baseB : Nat := 0x940000
  size : Nat := 0x100000
  deriving DecidableEq, Repr

/-- Whether the bolts of a boot record meet R364 and R568 in a flash of `capacity` bytes. -/
def BootRecord.ok (b : BootRecord) (capacity : Nat) : Bool :=
  b.baseA % 65536 == 0 && b.baseB % 65536 == 0 && b.size % 65536 == 0 && within 0x40000 0x1000000 b.size &&
    decide (0x840000 ≤ b.baseA) && decide (0x840000 ≤ b.baseB) &&
    (decide (b.baseA + b.size ≤ b.baseB) || decide (b.baseB + b.size ≤ b.baseA)) &&
    decide (b.baseA + b.size ≤ capacity) && decide (b.baseB + b.size ≤ capacity)

/-- The boot record copy at address `a`, none where it is invalid. -/
def bootCopy (f : Store Byte) (capacity a : Nat) : Option BootRecord :=
  let b := flashRead f a 24
  let n (o : Nat) : Nat := leValue ((b.drop o).take 4)
  let r : BootRecord := { gen := n 4, baseA := n 8, baseB := n 12, size := n 16 }
  if n 0 = 0x5A424F54 ∧ crc32cOf (b.take 20) = n 20 ∧ r.ok capacity then some r else none

/-- The valid copy with the higher generation, copy 0 at equal ones (R569). -/
def newerCopy {α : Type} (gen : α → Nat) (a b : Option α) : Option α :=
  match a, b with
  | some x, some y => if gen x < gen y then some y else some x
  | some x, none => some x
  | none, y => y

/-- The boot record in use (R569). -/
def State.bootRecord (s : State) : BootRecord :=
  (newerCopy (·.gen) (bootCopy s.flash s.jr.capacity 0) (bootCopy s.flash s.jr.capacity 0x10000)).getD {}

/-! ### The image table (R570, R582) -/

/-- An image table: generation, store slots of the Weaver firmware, eight sets of 4 bytes. -/
structure ImgTable where
  gen : Nat := 0
  primary : Nat := 0xFF
  fallback : Nat := 0xFF
  sets : List Nat := List.replicate 8 0xFFFFFFFF
  deriving DecidableEq, Repr

/-- The 48 bytes of an image table. -/
def ImgTable.bytes (t : ImgTable) : List Byte :=
  let b := leBytes 4 0x5A495442 ++ leBytes 4 t.gen ++ leBytes 1 t.primary ++ leBytes 1 t.fallback ++ leBytes 2 0 ++
    ((t.sets ++ List.replicate 8 0xFFFFFFFF).take 8).flatMap (leBytes 4)
  b ++ leBytes 4 (crc32cOf b)

/-- The image table copy at address `a`, none where it is invalid. -/
def tableCopy (f : Store Byte) (a : Nat) : Option ImgTable :=
  let b := flashRead f a 48
  let n (o w : Nat) : Nat := leValue ((b.drop o).take w)
  if n 0 4 = 0x5A495442 ∧ crc32cOf (b.take 44) = n 44 4 then
    some { gen := n 4 4, primary := n 8 1, fallback := n 9 1, sets := (List.range 8).map (fun k => n (12 + 4 * k) 4) }
  else none

/-- The image table in use, none where neither copy is valid (R570). -/
def State.tableInUse (s : State) : Option ImgTable :=
  newerCopy (·.gen) (tableCopy s.flash 0x20000) (tableCopy s.flash 0x30000)

/-- The members of the image table in use; without one every store slot reads 0xFF. -/
def State.imgTable (s : State) : ImgTable := s.tableInUse.getD {}

/-- Erase and program copy `k` of the image table. -/
def State.putTable (s : State) (k : Nat) (t : ImgTable) : State :=
  (s.erase (0x20000 + 0x10000 * k) 0x10000).program (0x20000 + 0x10000 * k) t.bytes

/-! ### Bolts -/

/-- The last committed SEQ of a bolt, 0 where none is committed. -/
def Bolt.lastSeq (b : Bolt) : Nat := (b.recs.getLast?.map (·.seq)).getD 0

/-- Bolt `k`: 0 A, 1 B. -/
def State.bolt (s : State) (k : Nat) : Bolt := if k = 0 then s.jr.boltA else s.jr.boltB

/-- Put bolt `k`. -/
def State.setBolt (s : State) (k : Nat) (b : Bolt) : State :=
  if k = 0 then { s with jr := { s.jr with boltA := b } } else { s with jr := { s.jr with boltB := b } }

/-- A bolt with one more record committed at the next SEQ (R365, R367). -/
def Bolt.append (b : Bolt) (r : JBody) : Bolt :=
  { b with recs := b.recs ++ [⟨b.lastSeq + 1, r⟩], used := b.used + r.size, erased := false }

/-- A record is programmed into bolt `k` and committed (R367). -/
def State.boltWrite (s : State) (k : Nat) (r : JBody) : State :=
  let b := s.bolt k
  (s.program (b.base + b.used) (recordBytes (b.lastSeq + 1) r)).setBolt k (b.append r)

/-- Bytes of a record that do not make it committed: the first `n` of them. -/
def State.tornWrite (s : State) (k : Nat) (r : JBody) (n : Nat) : State :=
  let b := s.bolt k
  (s.program (b.base + b.used) ((recordBytes (b.lastSeq + 1) r).take n)).setBolt k { b with erased := false }

/-- All of bolt `k` is erased; what the Weaver holds of it is reset but for `failing`. -/
def State.boltErase (s : State) (k : Nat) : State :=
  let b := s.bolt k
  (s.erase b.base s.jr.boltSize).setBolt k { base := b.base, failing := b.failing }

/-- The 64 KiB block of bolt `k` that is `n` blocks before its end is erased. -/
def State.blockErase (s : State) (k n : Nat) : State := s.erase ((s.bolt k).base + s.jr.boltSize - 65536 * n) 65536

end Sys2Proof.Machine
end

