-- ==== Sys2Proof/Machine/Loom.lean ====
section
/-! DEFINITION. The Loom and the Bobbin (chapter 11): frame decision, transmission, gate lists, bridging tables, internal
queues and Bobbin records. -/
namespace Sys2Proof.Machine

/-! ### Frame decision -/

/-- Strip the HSR tag (EtherType 0x892F) or PRP trailer (suffix 0x88FB) of a received frame (R679, R680; the layouts of IEC
62439-3): the frame without it, and its sequence number. -/
def stripRed (mode : Nat) (b : List Byte) : List Byte × Option Nat :=
  let n := b.length - 4
  let i := if beAt b 12 2 = 0x8100 then 16 else 12
  if mode = 1 ∧ beAt b i 2 = 0x892F then
    (withFcs (b.take i ++ (b.take n).drop (i + 6)), some (beAt b (i + 4) 2))
  else if mode = 2 ∧ beAt b (n - 2) 2 = 0x88FB then (withFcs (b.take (n - 6)), some (beAt b (n - 6) 2))
  else (b, none)

/-- Look a source and sequence number up in the duplicate table (R681): `true` for a duplicate; else it is entered, in place of
the oldest entry where the table is full. -/
def State.dupCheck (s : State) (src seq : Nat) : Bool × State :=
  let young := s.loom.dup.filter (fun e => decide (s.cycle < e.2.2 + s.rd Reg.LOOM_RED_FORGET * 3000000))
  if young.any (fun e => e.1 == src && e.2.1 == seq) then (true, s)
  else
    let full := decide (1024 ≤ young.length)
    let l := (if full then young.drop 1 else young) ++ [(src, seq, s.cycle)]
    let s1 := { s with loom := { s.loom with dup := l } }
    (false, ((s1.wr Reg.LOOM_DUPSTAT_USED l.length).wrIf full Reg.LOOM_DUPSTAT_FULL 1).wrIf full Reg.LOOM_STAT_DUP_FULL 1)

/-- VLAN classification (R671): VID, whether tagged, priority (R682). -/
def State.classify (s : State) (port : Nat) (h : Hdr) : Nat × Bool × Nat :=
  let pvid := s.rd (Reg.LOOM_PORT_CFG_PVID.at port)
  match h.tci with
  | none => (pvid, false, s.rd (Reg.LOOM_PORT_CFG_DEF_PRIO.at port))
  | some t => if t % 4096 = 0 then (pvid, false, t / 8192) else (t % 4096, true, t / 8192)

/-- The Loom decides a received frame (R666): steps 1 to 8; answers the verdict. -/
def State.loomDecide (s : State) (port first : Nat) (f : LFrame) : Nat × State :=
  let raw := s.frameBytes f
  if f.bad || !fcsOk raw then (0x10, s)
  else
    let r := stripRed (s.pairMode port) raw
    let b := r.1
    let h := parseHdr b
    let d := match r.2 with
      | some q => s.dupCheck h.src q
      | none => (false, s)
    if d.1 then (0x18, s)
    else
      let s1 := if r.2.isSome then
          (d.2.putCells f.cells b).setFrame first (some { f with len := b.length, red := r.2 })
        else d.2
      let c := s1.classify port h
      let vid := c.1
      let accept := s1.rd (Reg.LOOM_PORT_CFG_ACCEPT.at port)
      let tagged := c.2.1
      let state := s1.rd (Reg.LOOM_PORT_CFG_STATE.at port)
      if vid = 0xFFF ∨ (accept = 1 ∧ !tagged) ∨ (accept = 2 ∧ tagged) ∨
          (s1.on (Reg.LOOM_PORT_CFG_INGRESS_FILTER.at port) ∧ !bitOf (s1.vlanMember vid) port) then (0x12, s1)
      else if state = 0 ∨ (state = 1 ∧ !blockingPasses b h) then (0x13, s1)
      else
        let unicast := !bitOf (h.src / 2 ^ 40) 0
        let s2 := if state = 2 && s1.on (Reg.LOOM_PORT_CFG_LEARN.at port) && unicast then s1.learn h.src vid port else s1
        let f2 := (s2.frame first).getD f
        let s3 := s2.setFrame first (some { f2 with vid := vid, tagged := h.tci.isSome, prio := c.2.2 })
        s3.forward first b port vid c.2.2 none (state == 1)

/-- The receive times of a Pdelay_Req of port `p` are kept for the one-step answer (R246). -/
def State.pdelayNote (s : State) (p : Nat) (f : LFrame) : State :=
  let b := s.frameBytes f
  match ptpEvent b with
  | none => s
  | some o =>
    if beAt b o 1 % 16 = 2 then
      { s with loom := { s.loom with pdelay := s.loom.pdelay.set none p (some (beAt b (o + 30) 2, f.dt, f.tda, f.tdb)) } }
    else s

/-- PORT_CELL_EXHAUSTED (R663): verdict NOBUF; `b` is what of the frame has arrived, its
start-of-frame delimiter `sfd` SCLK cycles ago. POOL_EMPTY shows that the shared part had
no cell (log entry 32). -/
def State.noBuf (s : State) (p : Nat) (b : List Byte) (sfd : Nat) : State :=
  let s1 := (s.pstk p 3).wrIf (decide (s.portHeld p + cellsFor b.length ≤ s.rd (Reg.LOOM_PORT_CELLS_MAX.at p)))
    Reg.LOOM_STAT_POOL_EMPTY 1
  s1.bobbin b p 0 0x11 0 0 (adjClock (s.dtBack sfd) (signed 18 (s.rd (Reg.TIME_PADJ_RX_RX_ADJ.at p)))) (s.angBack sfd)

/-- PORT_CELL_EXHAUSTED (R663). -/
def execPortCellExhausted (p : Fin 6) (b : List Byte) (sfd : Nat) (s : State) : Out := .next (s.noBuf p b sfd)

/-! ### Transmission -/

/-- The length of a frame as it leaves a port (R737): FCS included, tags added or removed. -/
def txLen (f : LFrame) (c : Copy) : Nat :=
  let base := if f.tagged then f.len - 4 else f.len
  base + (if c.untag then 0 else 4) + (if c.seq.isSome then 6 else 0)

/-- The PTP domain clock of a frame: TDA, TDB, or device time for an unmapped domainNumber (R245, R248). -/
def State.ptpClock (s : State) (domain dt tda tdb : Nat) : Nat :=
  if domain = s.rd Reg.TIME_TDA_PTPDOM_DOMNUM then tda else if domain = s.rd Reg.TIME_TDB_PTPDOM_DOMNUM then tdb else dt

/-- Recompute the UDP checksum after a PTP field changed: recomputed over IPv6, 0 over IPv4 (R246). -/
def ptpChecksum (b : List Byte) : List Byte :=
  let h := parseHdr b
  match l4Of b h with
  | some (17, o) =>
    if h.etype = 0x0800 then putAt b (o + 6) [0, 0]
    else
      let z := putAt b (o + 6) [0, 0]
      let seg := l4Seg z h o
      let c := cksum (sum16 seg + pseudoSum z h 17 seg.length)
      putAt z (o + 6) (beBytes 2 (if c = 0 then 0xFFFF else c))
  | _ => b

/-- The correctionField of a PTP message at `o` grows by `x` clock units, in units of 2^-16 ns; the checksum follows. -/
def addCorrection (b : List Byte) (o : Nat) (x : Int) : List Byte :=
  ptpChecksum (putAt b (o + 8) (beBytes 8 (unsigned 64 ((beAt b (o + 8) 8 : Int) + x * 65536 / unitsPerNs))))

/-- The PTP instance of a domainNumber (R245), none where it is unmapped. -/
def State.ptpInstance (s : State) (domain : Nat) : Option Nat :=
  if domain = s.rd Reg.TIME_TDA_PTPDOM_DOMNUM then some 0 else if domain = s.rd Reg.TIME_TDB_PTPDOM_DOMNUM then some 1 else none

/-- Whether the transparent clock serves a domainNumber (R248): enabled for its instance, or of an unmapped one for either. -/
def State.tcOn (s : State) (domain : Nat) : Bool :=
  match s.ptpInstance domain with
  | some x => s.timeNum x .residence != 0
  | none => s.timeNum 0 .residence != 0 || s.timeNum 1 .residence != 0

/-- The link delay of ingress port `q` in nanoseconds that the peer-to-peer mode of an instance adds (R248). -/
def State.tcDelay (s : State) (domain q : Nat) : Int :=
  match s.ptpInstance domain with
  | some x => if s.timeNum x .peer = 0 then 0 else signed 32 (s.timeNum x (.delay q))
  | none => 0

/-- The PTP fields of a frame as it leaves port `p` (R246, R248): one-step Sync and Pdelay_Resp of an internal port, the residence time of
a forwarded event message. The turnaround of a Pdelay_Resp runs from the last Pdelay_Req of the port with its sequenceId; without one it
is a free value (log entry 33). -/
def State.ptpOut (s : State) (p : Nat) (f : LFrame) (n : TxNow) (b : List Byte) : List Byte :=
  match ptpEvent b with
  | none => b
  | some o =>
    let kind := beAt b o 1 % 16
    let dom := beAt b (o + 4) 1
    let tx := adjClock (s.ptpClock dom n.dt n.tda n.tdb) (signed 18 (s.rd (Reg.TIME_PADJ_TX_TX_ADJ.at p)))
    let rxAdj (q : Nat) : Int := signed 18 (s.rd (Reg.TIME_PADJ_RX_RX_ADJ.at q))
    if s.on (Reg.MAC_CFG_ONE_STEP.at p) && kind == 0 && decide (6 ≤ f.port) then
      ptpChecksum (putAt b (o + 34) (beBytes 6 (clockSec tx) ++ beBytes 4 (clockSub tx)))
    else if s.on (Reg.MAC_CFG_ONE_STEP.at p) && kind == 3 && decide (6 ≤ f.port) then
      addCorrection b o (match s.loom.pdelay.get none p with
        | some (q, dt, tda, tdb) =>
          if q = beAt b (o + 30) 2 then (tx : Int) - adjClock (s.ptpClock dom dt tda tdb) (rxAdj p)
          else (Config.freeWord s.free).toNat * unitsPerNs
        | none => (Config.freeWord s.free).toNat * unitsPerNs)
    else if f.port < 6 && s.tcOn dom then
      addCorrection b o ((tx : Int) - adjClock (s.ptpClock dom f.dt f.tda f.tdb) (rxAdj f.port) + s.tcDelay dom f.port * unitsPerNs)
    else b

/-- The bytes that leave port `p` (R737): VLAN tag (R672), checksums (R738), one-step time (R246) or transparent-clock correction (R248),
HSR tag or PRP trailer (R680), FCS. -/
def State.txBytes (s : State) (p : Nat) (f : LFrame) (n : TxNow) : List Byte :=
  let b0 := (s.frameBytes f).take (f.len - 4)
  let tci := if f.tagged then beAt b0 14 2 / 4096 * 4096 + f.vid else f.prio * 8192 + f.vid
  let bare := if f.tagged then b0.take 12 ++ b0.drop 16 else b0
  let b1 := if n.copy.untag then bare else bare.take 12 ++ beBytes 2 0x8100 ++ beBytes 2 tci ++ bare.drop 12
  let b2 := if 6 ≤ f.port ∧ s.on (Reg.MAC_CFG_TX_CSUM.at p) then insertCksums b1 else b1
  let b3 := s.ptpOut p f n b2
  withFcs (match n.copy.seq with
    | none => b3
    | some q =>
      let i := if n.copy.untag then 12 else 16
      if s.pairMode p = 1 then
        b3.take i ++ beBytes 2 0x892F ++ beBytes 2 (p % 2 * 4096 + (b3.length - i + 4) % 4096) ++ beBytes 2 q ++ b3.drop i
      else b3 ++ beBytes 2 q ++ beBytes 2 ((0xA + p % 2) * 4096 + (b3.length - i + 4) % 4096) ++ beBytes 2 0x88FB)

/-- Whether queue `t`'s head may leave port `p` by the port's state (Table 11-5). -/
def State.stateAllows (s : State) (p : Nat) (f : LFrame) : Bool :=
  match s.rd (Reg.LOOM_PORT_CFG_STATE.at p) with
  | 2 => true
  | 1 => f.port == 6 || f.port == 7
  | _ => false

/-- The head of queue `t` and its frame. -/
def State.headOf (s : State) (p t : Nat) : Option (Copy × LFrame) :=
  match (s.eg p).queues.get [] t with
  | [] => none
  | c :: _ => (s.frame c.first).map (fun f => (c, f))

/-- Remove the head of queue `t`. -/
def State.popHead (s : State) (p t : Nat) : State :=
  let e := s.eg p
  s.setEg p { e with queues := e.queues.upd [] t List.tail }

/-- Whether queue `t` competes (R684, R685, R688). -/
def State.competes (s : State) (p t : Nat) : Bool :=
  match s.headOf p t with
  | none => false
  | some (c, f) => s.stateAllows p f && s.gateOpen p t && s.gateFits p t (txLen f c)

/-- Mark the head of queue `t` as held where a gate is closed (verdict TX_AFTER_HOLD, Table 11-4). -/
def State.markHeld (s : State) (p t : Nat) : State :=
  if s.gateOpen p t then s
  else
    let e := s.eg p
    s.setEg p { e with queues := e.queues.upd [] t (fun l => match l with
      | [] => []
      | c :: r => { c with held := true } :: r) }

/-- WEIGHT of queue `t` (R683). -/
def State.weightOf (s : State) (p t : Nat) : Nat :=
  fieldOf (s.rd (Reg.LOOM_PORT_WEIGHT_W0.at p) + 16 * s.rd (Reg.LOOM_PORT_WEIGHT_W1.at p) +
    16 ^ 2 * s.rd (Reg.LOOM_PORT_WEIGHT_W2.at p) + 16 ^ 3 * s.rd (Reg.LOOM_PORT_WEIGHT_W3.at p) +
    16 ^ 4 * s.rd (Reg.LOOM_PORT_WEIGHT_W4.at p) + 16 ^ 5 * s.rd (Reg.LOOM_PORT_WEIGHT_W5.at p) +
    16 ^ 6 * s.rd (Reg.LOOM_PORT_WEIGHT_W6.at p) + 16 ^ 7 * s.rd (Reg.LOOM_PORT_WEIGHT_W7.at p)) (4 * t) 4

/-- DWRR over the queues below `n` (R683): the queue at the pointer gains its quantum of 512 B × WEIGHT as the pointer reaches
it and sends while its deficit covers its head frame; at most `fuel` visits. -/
def State.dwrr (p n : Nat) : Nat → State → Option Nat × State
  | 0, s => (none, s)
  | fuel + 1, s =>
    let e := s.eg p
    let t := e.turn % n
    let need := match s.headOf p t with
      | some (c, f) => txLen f c
      | none => 0
    if s.competes p t ∧ need ≤ e.deficit.get 0 t then
      (some t, s.setEg p { e with deficit := e.deficit.upd 0 t (· - need) })
    else
      let t' := (t + 1) % n
      let d := if (e.queues.get [] t).isEmpty then e.deficit.set 0 t 0 else e.deficit
      State.dwrr p n fuel (s.setEg p { e with turn := t', deficit := d.upd 0 t' (· + 512 * s.weightOf p t') })

/-- The queue that a port selects (R683, R684): strict priority from 7 down to 8 − STRICT, then DWRR. -/
def State.select (s : State) (p : Nat) : Option Nat × State :=
  let strict := s.rd (Reg.LOOM_PORT_CFG_STRICT.at p)
  match ((List.range strict).map (7 - ·)).find? (fun t => s.competes p t) with
  | some t => (some t, s)
  | none =>
    let n := 8 - strict
    if n = 0 ∨ !(List.range n).any (fun t => s.competes p t) then (none, s) else State.dwrr p n 256 s

/-- TRANSMIT_OPPORTUNITY (R684, R688, R734 to R736): `opening` names the queues whose window opens at this instant. While the
port is idle, a head frame that does not fit its opening window is dropped with GATE_HELD. -/
def execTransmitOpportunity (p : Fin 6) (opening : BitVec 8) (s : State) : Out :=
  let idle := (s.eg p).now.isEmpty
  let s1 := s.each (List.range 8) (fun s t =>
    match s.headOf p t with
    | none => s
    | some (c, f) =>
      if idle && opening.getLsbD t && s.gateOpen p t && !s.gateFits p t (txLen f c) then
        ((s.popHead p t).dropCopy p 0x17 c).pstk p 7
      else s.markHeld p t)
  .next (if (s.eg p).paused || !s.on (Reg.MAC_LINK_UP.at p) || 2 ≤ (s.eg p).now.length then s1
    else
      let r := s1.select p
      match r.1 with
      | none => r.2
      | some t =>
        match r.2.headOf p t with
        | none => r.2
        | some (c, f) =>
          let s2 := r.2.popHead p t
          if s2.framePoisoned f then s2.dropCopy p 0x1A c
          else
            let e := s2.eg p
            s2.setEg p { e with now := e.now ++ [{ copy := c }] })

/-- The transmit timestamp record (Table 12-6). -/
def State.tsRecord (s : State) (p : Nat) (b : List Byte) (o : Nat) (n : TxNow) : List Byte :=
  let adj := signed 18 (s.rd (Reg.TIME_PADJ_TX_TX_ADJ.at p))
  let t (c : Nat) : List Byte := leBytes 4 (clockSub (adjClock c adj)) ++ leBytes 4 (clockSec (adjClock c adj))
  let sub := subNs (adjClock n.dt adj) + 2 ^ 5 * subNs (adjClock n.tda adj) + 2 ^ 10 * subNs (adjClock n.tdb adj)
  t n.dt ++ t n.tda ++ t n.tdb ++ leBytes 2 sub ++
    [BitVec.ofNat 8 p, BitVec.ofNat 8 (beAt b o 1 % 16)] ++ leBytes 2 (beAt b (o + 30) 2) ++
    [BitVec.ofNat 8 (beAt b (o + 4) 1), 0]

/-- The completion of a frame that has left (R740, R741): a PTP event message of a queue set that left one port only gets its
timestamp record and a TX_TS word and keeps its cells; else it has no transmit time, and TS_MISS is set. -/
def State.txDone (s : State) (p : Nat) (f : LFrame) (n : TxNow) : State :=
  let b := s.frameBytes f
  match f.large, ptpEvent b with
  | some i, _ => { s with loom := { s.loom with large := s.loom.large.upd (0, 0) i (fun x => (x.1 + 1, x.2)) } }
  | none, none => s
  | none, some o =>
    if f.port < 6 then s
    else if f.fan ≠ 1 then s.pstk p 5
    else
      match s.complete f.set (completionWord 1 (if n.copy.held then 3 else 2) p n.copy.first) with
      | none => s.pstk p 5
      | some s1 => (s1.putCells (f.cells.take 1) (s1.tsRecord p b o n)).setFrame n.copy.first
          (some { f with holders := f.set :: f.holders })

/-- A frame in a port's buffers with the clocks of `sfd` SCLK cycles ago, when its start-of-frame delimiter crossed the plane (R241). -/
def State.txStamp (s : State) (n : TxNow) (sfd : Nat) : TxNow :=
  { n with dt := s.dtBack sfd, tda := s.domBack 0 sfd, tdb := s.domBack 1 sfd, ang := s.angBack sfd }

/-- FRAME_TRANSMITTED (R241, R689, R700, R740): the oldest frame of the port's buffers has left; its start-of-frame delimiter crossed the
reference plane `sfd` SCLK cycles ago; `overrun` says that its gate closed while it was being sent. -/
def execFrameTransmitted (p : Fin 6) (overrun : Bool) (sfd : Nat) (s : State) : Out :=
  .next (match (s.eg p).now with
    | [] => s
    | n0 :: rest =>
      let n := s.txStamp n0 sfd
      let s0 := if overrun then s.pstk p 7 else s
      match s.frame n.copy.first with
      | none => s0.setEg p { s0.eg p with now := rest }
      | some f =>
        let b := s.txBytes p f n
        let tx := adjClock n.dt (signed 18 (s.rd (Reg.TIME_PADJ_TX_TX_ADJ.at p)))
        let s1 := s0.setEg p { s0.eg p with now := rest, sent := b }
        let s2 := { s1 with free := s1.free + 1 }
        let s3 := s2.bobbin b p 1 (if n.copy.held then 3 else 2) n.copy.tc f.vid tx n.ang
        (s3.txDone p f n).endCopy n.copy.first)

/-! ### Gate lists -/

/-- TIME_GATE_ENTRY_CHANGE (R686, R690): the next entry becomes current, or the list restarts. -/
def execTimeGateEntryChange (p : Fin 6) (restart : Bool) (s : State) : Out :=
  let f := Reg.LOOM_TG_STAT_ENTRY.at p
  .next (if restart then s.tgRestart p
    else s.wr f (min (s.rd f + 1) ((s.eg p).tg.ents.length - 1)))

/-- ANGLE_GATE_ENTRY_CHANGE (R687, R690): with ASRC 1 the list restarts only on an angle event. -/
def execAngleGateEntryChange (p : Fin 6) (restart : Bool) (s : State) : Out :=
  let f := Reg.LOOM_AG_STAT_ENTRY.at p
  .next (if restart then (if (s.eg p).ag.asrc then s else s.agRestart p)
    else s.wr f (min (s.rd f + 1) ((s.eg p).ag.ents.length - 1)))

/-- TG_SWAP (R690). -/
def execTgSwap (p : Fin 6) (s : State) : Out :=
  .next ((s.setEg p { s.eg p with tgNext := some (s.tgAdmin p) }).wr (Reg.LOOM_TG_STAT_SWAP_PENDING.at p) 1)

/-- AG_SWAP (R690). -/
def execAgSwap (p : Fin 6) (s : State) : Out :=
  .next ((s.setEg p { s.eg p with agNext := some (s.agAdmin p) }).wr (Reg.LOOM_AG_STAT_SWAP_PENDING.at p) 1)

/-! ### Bridging tables -/

/-- Whether an entry has aged (R675): learned, and not refreshed for AGEING seconds. -/
def State.aged (s : State) (e : FdbEntry) : Bool :=
  !e.isStatic && decide (e.stamp + s.rd Reg.LOOM_CTRL_AGEING * 3000000000 ≤ s.cycle)

/-- FDB_AGEING (R675): an entry that has aged is removed. -/
def execFdbAgeing (mac : BitVec 48) (vid : BitVec 12) (s : State) : Out :=
  let l := s.loom.fdb.filter (fun e => !(e.mac == mac.toNat && e.vid == vid.toNat && s.aged e))
  .next { s with loom := { s.loom with fdb := l } }

/-- The MAC of FDB_MACLO and FDB_MACHI. -/
def State.fdbMac (s : State) : Nat := s.rd Reg.LOOM_FDB_MACLO_V + 2 ^ 32 * s.rd Reg.LOOM_FDB_MACHI_MACHI

/-- The VID of FDB_MACHI. -/
def State.fdbVid (s : State) : Nat := s.rd Reg.LOOM_FDB_MACHI_VID

/-- FDB_LOOKUP (R705): FDB_DATA shows the entry, VALID 0 where there is none. -/
def execFdbLookup (group : Bool) (s : State) : Out :=
  .next (match findEntry (if group then s.loom.groups else s.loom.fdb) s.fdbMac s.fdbVid with
    | none => ((s.wr Reg.LOOM_FDB_DATA_PORTS 0).wr Reg.LOOM_FDB_DATA_STATIC 0).wr Reg.LOOM_FDB_DATA_VALID 0
    | some e => ((s.wr Reg.LOOM_FDB_DATA_PORTS e.ports).wr Reg.LOOM_FDB_DATA_STATIC (b2n e.isStatic)).wr
        Reg.LOOM_FDB_DATA_VALID 1)

/-- A static, learned or group entry takes its place (R673, R676): a full bucket or group table takes nothing, and FDB_FULL is
then set for a bucket. -/
def State.fdbPut (s : State) (group : Bool) (e : FdbEntry) : State :=
  let others (l : List FdbEntry) : List FdbEntry := l.filter (fun x => !(x.mac == e.mac && x.vid == e.vid))
  if group then
    let l := others s.loom.groups
    if l.length < 1024 then { s with loom := { s.loom with groups := l ++ [e] } } else s
  else
    let l := others s.loom.fdb
    let bucket := Config.fdbBucket e.mac e.vid
    if (l.filter (fun x => Config.fdbBucket x.mac x.vid == bucket)).length < 4 then
      { s with loom := { s.loom with fdb := l ++ [e] } }
    else s.wr Reg.LOOM_STAT_FDB_FULL 1

/-- The entry of a MAC and a VID is removed. -/
def State.fdbDrop (s : State) (group : Bool) (mac vid : Nat) : State :=
  let others (l : List FdbEntry) : List FdbEntry := l.filter (fun x => !(x.mac == mac && x.vid == vid))
  if group then { s with loom := { s.loom with groups := others s.loom.groups } }
  else { s with loom := { s.loom with fdb := others s.loom.fdb } }

/-- FDB_INSERT (R673, R676, R705). -/
def execFdbInsert (group : Bool) (s : State) : Out :=
  .next (s.fdbPut group { mac := s.fdbMac, vid := s.fdbVid, ports := s.rd Reg.LOOM_FDB_DATA_PORTS,
                          isStatic := group || s.on Reg.LOOM_FDB_DATA_STATIC, stamp := s.cycle })

/-- FDB_DELETE (R705). -/
def execFdbDelete (group : Bool) (s : State) : Out := .next (s.fdbDrop group s.fdbMac s.fdbVid)

/-- FLUSH_FDB (R705): every learned entry is removed. -/
def execFlushFdb (s : State) : Out :=
  .next { s with loom := { s.loom with fdb := s.loom.fdb.filter (·.isStatic) } }

/-! ### Internal queues -/

/-- The port number of a queue set: N1 for the image slots, N0, N2 (Table 11-2). -/
def setPort (q : Nat) : Nat := if q < 4 then 7 else if q = 4 then 6 else 8

/-- NQ_RXPOP (R692). -/
def execNqRxpop (q : Fin 6) (s : State) : Out :=
  .next (match (s.qset q).rx with
    | [] => { s with readData := 0 }
    | h :: t => { s.setQset q { s.qset q with rx := t } with readData := BitVec.ofNat 32 h })

/-- NQ_ALLOC (R693): a buffer handle of ALLOCN cells, or 0 where the limit would be exceeded. Its LENGTH is the bytes of its
cells (log entry 34). -/
def execNqAlloc (q : Fin 6) (s : State) : Out :=
  let k := s.rd (Reg.LOOM_NQ_ALLOCN_CELLS.at q)
  let free := s.freeCells
  .next (if !s.setMayTake q k || decide (free.length < k) then
      { s.wrIf (decide (4 ≤ q.val)) Reg.LOOM_STAT_POOL_EMPTY 1 with readData := 0 }
    else
      let r := State.pickCells k s free
      let f : LFrame := { cells := r.1, len := 256 * k, port := setPort q, set := q, holders := [q.val] }
      { r.2.setFrame f.first (some f) with readData := BitVec.ofNat 32 (frameHandle true f.first (256 * k)) })

/-- The frame that a handle names, where queue set `q` holds its cells and they cover its LENGTH. -/
def State.heldFrame (s : State) (q : Nat) (h : Word) : Option LFrame :=
  match s.frame (fieldOf h.toNat 17 14) with
  | none => none
  | some f => if f.holders.contains q && decide (h.toNat % 2 ^ 14 ≤ 256 * f.cells.length) then some f else none

/-- A frame of queue set `q` enters egress (R693): by the egress mask, or decided as a frame of its internal port where the
mask is 0. -/
def State.sendFrame (s : State) (q first : Nat) (f : LFrame) (ports tc : Nat) : State :=
  let s0 := s.setFrame first (some f)
  let b := s0.frameBytes f
  let h := parseHdr b
  let port := setPort q
  let c := s0.classify port h
  let f1 := { f with vid := c.1, tagged := h.tci.isSome, prio := c.2.2, port := port, set := q, copies := 0, fan := 0 }
  let s1 := s0.setFrame first (some f1)
  let s2 := if ports = 0 then (s1.forward first b port c.1 c.2.2 (some tc) false).2
    else
      let ext := (List.range 6).filter (fun p => bitOf ports p)
      let seqd := ext.any (fun p => (s1.pairSeq h.src port p none).isSome)
      let r := s1.each ext (fun s p =>
        (s.enqueue p tc { first := first, untag := bitOf (s.vlanUntag c.1) p, tc := tc, seq := s1.pairSeq h.src port p none }).2)
      let r1 := if seqd then { r with loom := { r.loom with seqs := r.loom.seqs.upd 0 h.src (fun n => (n + 1) % 65536) } } else r
      let sets := (if bitOf ports 6 then [4] else []) ++ (if bitOf ports 7 then (s1.claimant b port).toList else []) ++
        (if bitOf ports 8 then [5] else [])
      r1.each sets (fun s k => (s.deliver k first).2)
  let f2 := (s2.frame first).getD f1
  (s2.setFrame first (some { f2 with holders := f2.holders.erase q, owner := if f2.copies = 0 then none else some q })).release
    first

/-- The Ethernet header of an answer to the sender of `b` from the station address, with the VLAN tag of `b` (R694). -/
def State.answerHdr (s : State) (b : List Byte) : List Byte :=
  (b.drop 6).take 6 ++ beBytes 6 s.stationMac ++ (b.drop 12).take ((parseHdr b).off - 12)

/-- The answer of the Weaver firmware to an ARP request for the station IPv4 address or to an ICMP echo request to it (R694), without FCS
and padding. -/
def State.stationAnswer (s : State) (b : List Byte) : Option (List Byte) :=
  let h := parseHdr b
  let o := h.off
  if h.etype = 0x0806 then
    if beAt b (o + 6) 2 = 1 ∧ s.stationIp ≠ 0 ∧ beAt b (o + 24) 4 = s.stationIp then
      some (s.answerHdr b ++ (b.drop o).take 6 ++ beBytes 2 2 ++ beBytes 6 s.stationMac ++ beBytes 4 s.stationIp ++
        (b.drop (o + 8)).take 10)
    else none
  else if s.icmpEcho b h then
    let i := beAt b o 1 % 16 * 4
    let ip := putAt ((b.drop o).take i) 12 ((b.drop (o + 16)).take 4 ++ (b.drop (o + 12)).take 4)
    let body := putAt ((b.drop (o + i)).take (beAt b (o + 2) 2 - i)) 0 [0, 0, 0, 0]
    some (s.answerHdr b ++ ip ++ putAt body 2 (beBytes 2 (cksum (sum16 body))))
  else none

/-- The Weaver firmware sends `b` on port `p` from N0, in a traffic class the spec leaves open (log entry 126); without cells nothing
is sent. -/
def State.weaverSend (s : State) (p : Nat) (b : List Byte) : State :=
  let w := withFcs (b ++ List.replicate (60 - b.length) 0)
  let free := s.freeCells
  let k := cellsFor w.length
  if !s.setMayTake 4 k || decide (free.length < k) then s
  else
    let d := s.drawWord
    let r := State.pickCells k d.2 free
    let f : LFrame := { cells := r.1, len := w.length, port := 6, set := 4, holders := [4] }
    (r.2.putCells f.cells w).sendFrame 4 f.first f (2 ^ p) (d.1.toNat % 8)

/-- What the Weaver firmware sends when frame `b` of port `p` has reached N0 (R694). -/
def State.weaverAnswer (s : State) (p : Nat) (b : List Byte) : State :=
  match s.stationAnswer b with
  | some r => if s.pow.weaverHalted then s else s.weaverSend p r
  | none => s

/-- FRAME_DECISION (R666, R700): the oldest frame of port `p` not yet decided; its receive record is made once the verdict is
known, and the Weaver firmware answers what reached N0 (R694). -/
def execFrameDecision (p : Fin 6) (s : State) : Out :=
  .next (match s.loom.arrived.get [] p with
    | [] => s
    | first :: rest =>
      match s.frame first with
      | none => { s with loom := { s.loom with arrived := s.loom.arrived.set [] p rest } }
      | some f =>
        let b := s.frameBytes f
        let r := s.loomDecide p first f
        let f' := (r.2.frame first).getD f
        let rx := adjClock f.dt (signed 18 (s.rd (Reg.TIME_PADJ_RX_RX_ADJ.at p)))
        let q := if r.1 = 0x10 then r.2 else r.2.pdelayNote p f'
        let vid := if r.1 = 0x10 then 0 else f'.vid
        let s1 := q.bobbin b p 0 r.1 (r.2.tcOf p f'.prio) vid rx f.ang
        let s2 := { s1 with loom := { s1.loom with arrived := s1.loom.arrived.set [] p rest } }
        (if (s2.qset 4).k = (s.qset 4).k then s2 else s2.weaverAnswer p b).release first)

/-- NQ_TX (R693): a handle that the set does not hold sets BAD_HANDLE. -/
def execNqTx (q : Fin 6) (h : Word) (s : State) : Out :=
  .next (match s.heldFrame q h with
    | none => s.wr Reg.LOOM_STAT_BAD_HANDLE 1
    | some f => s.sendFrame q f.first { f with len := h.toNat % 2 ^ 14 } (s.rd (Reg.LOOM_NQ_TXCTL_PORTS.at q))
        (s.rd (Reg.LOOM_NQ_TXCTL_TC.at q)))

/-- NQ_FREE (R693). -/
def execNqFree (q : Fin 6) (h : Word) (s : State) : Out :=
  .next (match s.heldFrame q h with
    | none => s.wr Reg.LOOM_STAT_BAD_HANDLE 1
    | some f => (s.setFrame f.first (some { f with holders := f.holders.erase q.val })).release f.first)

/-- NQ_CPOP (R740). -/
def execNqCpop (q : Fin 6) (s : State) : Out :=
  .next (match (s.qset q).cq with
    | [] => { s with readData := 0 }
    | w :: t => { s.setQset q { s.qset q with cq := t } with readData := BitVec.ofNat 32 w })

/-! ### Bobbin -/

/-- The records of the ring (R698). -/
def State.bobRecords (s : State) : Nat := 2 * s.rd Reg.BOBBIN_SIZE_SIZE

/-- The byte address of record `i` (R698). -/
def State.bobAddr (s : State) (i : Nat) : Nat := 256 * s.rd Reg.BOBBIN_BASE_BASE + 128 * i

/-- BOBBIN_RECORD_WRITE (R702, R703): a waiting record takes its slot, or defers while a foreground request is present (R74,
R75). A full ring loses it with STOPPED, or with OVERWRITE 1 advances RD. -/
def execBobbinRecordWrite (foreground : Bool) (s : State) : Out :=
  .next (match s.loom.bobFifo with
    | [] => s
    | r :: rest =>
      let b := s.bgSlot 4 0 foreground
      if !b.1 then b.2
      else
        let s1 : State := { b.2 with loom := { b.2.loom with bobFifo := rest } }
        let full := decide (s1.bobRecords ≤ s1.loom.bobUsed)
        if full && !s1.on Reg.BOBBIN_CTRL_OVERWRITE then
          let s2 := s1.bobLose
          if s2.on Reg.BOBBIN_STAT_STOPPED then s2 else (s2.wr Reg.BOBBIN_STAT_STOPPED 1).event 0x0B03 0 []
        else
          let w := s1.rd Reg.BOBBIN_WR_WR
          let rec' := putAt (putAt r 5 [BitVec.ofNat 8 s1.loom.bobLost]) 6 (leBytes 2 s1.loom.bobSeq)
          let s2 := s1.pktPutBytes 16 (s1.bobAddr w) rec'
          let s3 := s2.wr Reg.BOBBIN_WR_WR ((w + 1) % s1.bobRecords)
          let s4 := if full then s3.wr Reg.BOBBIN_RD_RD ((s3.rd Reg.BOBBIN_RD_RD + 1) % s1.bobRecords) else s3
          { s4 with loom := { s4.loom with bobUsed := if full then s4.loom.bobUsed else s4.loom.bobUsed + 1, bobLost := 0,
                                           bobSeq := (s4.loom.bobSeq + 1) % 65536 } })

/-- The consuming read of 0x6061 (R704): the record at RD, RD advanced; 128 zero bytes where the ring is empty. -/
def State.bobRead (s : State) : List Byte × State :=
  if s.loom.bobUsed = 0 then (List.replicate 128 0, s)
  else
    let r := s.rd Reg.BOBBIN_RD_RD
    let b := (List.range 128).map (fun i => s.pktByte (s.bobAddr r + i))
    let s1 := (s.wr Reg.BOBBIN_RD_RD ((r + 1) % s.bobRecords)).wr Reg.BOBBIN_STAT_STOPPED 0
    (b, { s1 with loom := { s1.loom with bobUsed := s1.loom.bobUsed - 1 } })

/-- BOBBIN_RECORD (R704): the answer of the OD server to the read. -/
def execBobbinRecord (s : State) : Out :=
  let r := s.bobRead
  .next { r.2 with od := { r.2.od with answer := { ctx := s.od.answer.ctx, code := 0, value := some (.bytes r.1) } } }

end Sys2Proof.Machine
end

