-- ==== Sys2Proof/Machine/TicketOps.lean ====
section
/-! DEFINITION. Steps of running tickets, shared by every executor (chapter 06). -/
namespace Sys2Proof.Machine

/-- Step k of a running ticket is committed (R345): the ticket goes on, ends DONE with its result word after step n, or ABORTED where
an abort came while step k < n ran. -/
def State.stepCommitted (s : State) (i : Nat) (tag : Tag) (v : Nat) : State :=
  let t := s.ticket i
  let k := t.step + 1
  let s1 := s.setTicket i { t with step := k, stepPending := false }
  if t.steps ≤ k then s1.finish i .done 0 tag v
  else if t.abortPending then s1.finish i .aborted 0 .uint k
  else s1

/-- An executor has finished the next step of the ticket in slot `i` (R345): a ledgered ticket's STEP record is staged, with the
result word where it is the last step, or the ticket fails with NO_JOURNAL where both bolts are failing (R386); another ticket's step is
committed at once. -/
def State.stepDone (s : State) (i : Nat) (tag : Tag) (v : Nat) : State :=
  let t := s.ticket i
  let k := t.step + 1
  let last := decide (t.steps ≤ k)
  if t.ledgered && s.jr.noJournal then s.failTicket i 0x12
  else if t.ledgered then
    (s.setTicket i { t with stepPending := true, resTag := tag, resVal := v }).stage
      (.step (s.handleOf i) k (if last then tag else .nil) (if last then v else 0))
  else s.stepCommitted i tag v

/-- Whether the executor of the ticket in slot `i` may work on its next step. -/
def State.stepOpen (s : State) (i : Nat) : Bool :=
  (s.ticket i).state == .running && !(s.ticket i).stepPending

/-- The slot of the running ticket of a type (R347). -/
def State.runningOf (s : State) (type : Nat) : Option Nat :=
  (List.range 128).find? (fun i => (s.ticket i).state == .running && (s.ticket i).type == type)

/-- The slot that heads the queue of a type (R347): the QUEUED ticket admitted first. -/
def State.queueHead (s : State) (type : Nat) : Option Nat :=
  (List.range 128).find? (fun i => (s.ticket i).state == .queued && (s.ticket i).type == type &&
    (List.range 128).all (fun j => !((s.ticket j).state == .queued && (s.ticket j).type == type) ||
      decide ((s.ticket i).order ≤ (s.ticket j).order)))

end Sys2Proof.Machine
end

