-- ==== Sys2Proof/Machine/Mem.lean ====
section
/-! DEFINITION. The memory banks: accesses, check bits and poison, the patrol scrubber and Carding (chapter 07). -/
namespace Sys2Proof.Machine

/-! ### Words -/

/-- The words of a bank or code RAM (Table 07-2, R419). -/
def bankWords (b : Nat) : Nat :=
  if b ≤ 0x10 then 65536 else if b ≤ 0x18 then 16384 else if b = 0x19 then 8192
  else if b = 0x1A then 32768 else if b ≤ 0x22 then 16384 else 8192

/-- The rows of a bank (R416). -/
def bankRows (b : Nat) : Nat := bankWords b / 64

/-- Whether a bank is tagged memory. -/
def bankTagged (b : Nat) : Bool := b < 8 || (0x10 ≤ b && b ≤ 0x19)

/-- Where the store holds a word. -/
def memKey (b off : Nat) : Nat := b * 65536 + off

/-- A stored word; an unlisted one is NIL-tagged zero, or zero (R55). -/
def State.word (s : State) (b off : Nat) : MemWord := s.mem.mem.get {} (memKey b off)

/-- Store a word. -/
def State.setWord (s : State) (b off : Nat) (w : MemWord) : State :=
  { s with mem := { s.mem with mem := s.mem.mem.set {} (memKey b off) w } }

/-- Whether a stored word is poisoned (R430). -/
def MemWord.poisoned (w : MemWord) : Bool := w.tag == .trap || w.ecc == .poison

/-- Record the answer of a memory access. -/
def State.memAnswer (s : State) (st : MemStatus) (w : MemWord) : State :=
  { s with mem := { s.mem with answer := { status := st, word := w } } }

/-! ### Error logging (R419, R433) -/

/-- MEM.ERRADDR and MEM.ERRSRC, with the syndrome a free value. -/
def State.errLog (s : State) (b off src : Nat) (ue : Bool) : Nat × State :=
  let d := s.drawWord
  let syn := d.1.toNat % 256
  (syn, ((((d.2.wr Reg.MEM_ERRADDR_UE (b2n ue)).wr Reg.MEM_ERRADDR_BANK b).wr Reg.MEM_ERRADDR_SYNDROME syn).wr
    Reg.MEM_ERRADDR_OFFSET off).wr Reg.MEM_ERRSRC_SOURCE src)

/-- A corrected error at a word. -/
def State.logCe (s : State) (b off src : Nat) : State :=
  let r := s.errLog b off src false
  let data := evBytes 2 off ++ [r.1]
  if 0x1A ≤ b then
    let k := b - 0x1A
    ((r.2.inc (Reg.MEM_CODE_STAT_CE_COUNT.at k)).wr (Reg.MEM_CODE_STAT_CE.at k) 1).event 0x0701 b data
  else
    let f := Reg.MEM_BANK_STAT_CE_COUNT.at b
    let s1 := (((r.2.inc f).wr (Reg.MEM_BANK_STAT_CE.at b) 1).odPutU (0x2310 + b) 6 off)
    if s.rd f < 65535 ∧ (s.rd f + 1) % s.odN 0x2330 2 16 = 0 then s1.event 0x0701 b data else s1

/-- An uncorrectable word. -/
def State.logUe (s : State) (b off src : Nat) : State :=
  let r := s.errLog b off src true
  let s1 := if 0x1A ≤ b then
      (r.2.inc (Reg.MEM_CODE_STAT_UE_COUNT.at (b - 0x1A))).wr (Reg.MEM_CODE_STAT_UE.at (b - 0x1A)) 1
    else ((r.2.inc (Reg.MEM_BANK_STAT_UE_COUNT.at b)).wr (Reg.MEM_BANK_STAT_UE.at b) 1).odPutU (0x2310 + b) 6 off
  s1.event 0x0702 b (evBytes 2 off ++ [r.1, src])

/-! ### Accesses (R424 to R435) -/

/-- Whether a bank is under destructive Carding, and foreground accesses to it wait (R447). -/
def State.bankBusy (s : State) (b : Nat) : Bool := s.mem.run.any (fun r => r.destructive && r.bank == b)

/-- A read of a word by requester `src` (R428 to R430, R433). -/
def State.memRead (s : State) (b off src : Nat) : MemStatus × MemWord × State :=
  let w := s.word b off
  if w.poisoned then (.poisoned, { w with tag := if bankTagged b then .trap else w.tag }, s)
  else
    match w.ecc with
    | .single => (.okCorrected, { w with ecc := .clean }, s.logCe b off src)
    | .clean => (.ok, w, s)
    | _ => (.poisoned, { w with tag := if bankTagged b then .trap else w.tag }, s.logUe b off src)

/-- A whole-word write (R431); MEM.INJ flips check bits of the word it names (Table 07-9). -/
def State.memWrite (s : State) (b off : Nat) (tag : Tag) (v : BitVec 64) : State :=
  if s.on Reg.MEM_INJ_ARM ∧ s.rd Reg.MEM_INJ_BANK = b ∧ s.rd Reg.MEM_INJ_OFFSET = off then
    (s.wr Reg.MEM_INJ_ARM 0).setWord b off
      { tag := tag, val := v, ecc := if s.on Reg.MEM_INJ_DOUBLE then .double else .single }
  else s.setWord b off { tag := tag, val := v }

/-- The merge of a partial write into an old word. -/
def mergeWord (p : PartWrite) (w : MemWord) : MemWord :=
  match p with
  | .value v => { w with val := BitVec.ofNat 64 v.toNat }
  | .tag t => { w with tag := t }
  | .bytes mask data =>
    { w with val := BitVec.ofNat 64 (leValue ((List.range 8).map (fun k =>
        if mask.getLsbD k then BitVec.ofNat 8 (data.toNat / 2 ^ (8 * k)) else BitVec.ofNat 8 (w.val.toNat / 2 ^ (8 * k))))) }

/-- The stored word of a merge over an uncorrectable or poisoned word: poisoned (Table 07-5). -/
def poisonWord (b : Nat) (w : MemWord) : MemWord :=
  if bankTagged b then { w with tag := .trap, ecc := .clean } else { w with ecc := .poison }

/-- MERGED of a bank is set. -/
def State.logMerged (s : State) (b : Nat) : State := s.wrIf (decide (b < 0x1A)) (Reg.MEM_BANK_STAT_MERGED.at b) 1

/-- A partial write by requester `src` (R434, Table 07-5). -/
def State.memPartial (s : State) (b off src : Nat) (p : PartWrite) : MemStatus × State :=
  let w := s.word b off
  if w.poisoned then (.mergedPoison, (s.setWord b off (poisonWord b (mergeWord p w))).logMerged b)
  else
    match w.ecc with
    | .clean => (.ok, s.setWord b off (mergeWord p w))
    | .single => (.okCorrected, (s.setWord b off { mergeWord p w with ecc := .clean }).logCe b off src)
    | _ => (.mergedPoison,
        (((s.setWord b off (poisonWord b (mergeWord p w))).logUe b off src).logMerged b).event 0x0703 b (evBytes 2 off ++ [src]))

/-- A port-B write that met a port-A write of the same word is discarded (R424, R426). -/
def State.portBMet (s : State) (b : Nat) (met : Bool) : State :=
  if met && decide (b < 8) then
    ({ s with mem := { s.mem with answer := { s.mem.answer with statusB := some .collided } } }.wr
      (Reg.MEM_BANK_STAT_COLL.at b) 1).odPut (0x2310 + b) 3 (.scalar .bool 1)
  else s

/-- Every word of a bank is cleared to NIL-tagged zeros, or zero (R447, R55). -/
def State.clearBank (s : State) (b : Nat) : State :=
  { s with mem := { s.mem with mem := s.mem.mem.filter (fun e => e.1 / 65536 != b) } }

/-! ### Commands: accesses -/

/-- Whether a partial write fits the kind of its bank. -/
def writeFits (p : PartWrite) (b : Nat) : Bool :=
  match p with
  | .bytes _ _ => !bankTagged b
  | _ => bankTagged b

/-- A read by requester `src`, served (R425, R428, R429). -/
def State.readServed (s : State) (b off src : Nat) : State :=
  let r := s.memRead b off src
  r.2.2.memAnswer r.1 r.2.1

/-- A whole-word write, served (R431): tagged memory takes 32 value bits, and no tag 0xE (R69). -/
def State.writeServed (s : State) (b off : Nat) (tag : Tag) (v : BitVec 64) (met : Bool) : State :=
  if bankTagged b ∧ tag = .reserved then s.memAnswer .badTag {}
  else
    let v' := if bankTagged b then BitVec.ofNat 64 (v.toNat % 2 ^ 32) else v
    let t := if bankTagged b then tag else .nil
    ((s.memWrite b off t v').memAnswer .ok {}).portBMet b met

/-- A partial write, served (R434, R435). -/
def State.partServed (s : State) (b off src : Nat) (p : PartWrite) (met : Bool) : State :=
  if p = .tag .reserved then s.memAnswer .badTag {}
  else
    let r := s.memPartial b off src p
    (r.2.memAnswer r.1 {}).portBMet b met

/-- An access that waited is served. -/
def State.serveHeld (s : State) : HeldAccess → State
  | .read b off src => s.readServed b off src
  | .write b off tag v met => s.writeServed b off tag v met
  | .part b off src p met => s.partServed b off src p met

/-- An access waits for the end of the destructive run (R447). -/
def State.hold (s : State) (h : HeldAccess) : State :=
  { s.memAnswer .waiting {} with mem := { (s.memAnswer .waiting {}).mem with held := s.mem.held ++ [h] } }

/-- The accesses that waited are served in order, as the destructive run of their bank has ended (R447). -/
def State.serveAll (s : State) : State := ({ s with mem := { s.mem with held := [] } }).each s.mem.held State.serveHeld

/-- MEMORY_READ (R425, R428, R429, R447) of a tagged or packet word by requester `src` (codes of ERRSRC). -/
def execMemoryRead (b : Fin 26) (off : Fin 65536) (src : Fin 16) (s : State) : Out :=
  if bankWords b ≤ off then .fault (.noSuchWord b off)
  else .next (if s.bankBusy b then s.hold (.read b off src) else s.readServed b off src)

/-- WHOLE_WORD_WRITE (R431, R447): `met` where a port-B write of the same word falls in the same cycle. -/
def execWholeWordWrite (b : Fin 26) (off : Fin 65536) (tag : Tag) (v : BitVec 64) (met : Bool) (s : State) : Out :=
  if bankWords b ≤ off then .fault (.noSuchWord b off)
  else .next (if s.bankBusy b then s.hold (.write b off tag v met) else s.writeServed b off tag v met)

/-- PARTIAL_WRITE (R434, R435, R447). A partial write of another kind of bank, and one that would store tag 0xE (R69), store
nothing. -/
def execPartialWrite (b : Fin 26) (off : Fin 65536) (p : PartWrite) (src : Fin 16) (met : Bool) (s : State) : Out :=
  if bankWords b ≤ off then .fault (.noSuchWord b off)
  else .next (if !writeFits p b then s
    else if s.bankBusy b then s.hold (.part b off src p met)
    else s.partServed b off src p met)

/-- The destructive run on bank `b` has ended: the bank is cleared, and the accesses that waited are served (R447). -/
def State.runOver (s : State) (b : Nat) : State :=
  ({ s.clearBank b with mem := { (s.clearBank b).mem with run := none } }).serveAll

/-- A read over the host bridge (R447): on a bank under a destructive run it returns what the run leaves there. -/
def State.bridgeRead (s : State) (b off src : Nat) : MemStatus × MemWord × State :=
  if s.bankBusy b then (.ok, (s.runOver b).word b off, s) else s.memRead b off src

/-- A partial write over the host bridge (R447). -/
def State.bridgeWrite (s : State) (b off src : Nat) (p : PartWrite) : State :=
  if s.bankBusy b then s.hold (.part b off src p false) else (s.memPartial b off src p).2

/-! ### Patrol scrubber (R436 to R440) -/

/-- Whether scrubbing of a code is enabled (R419, R440). -/
def State.scrubOn (s : State) (b : Nat) : Bool :=
  if b ≤ 0x19 then bitOf (s.rd Reg.SCRUB_CTRL_EN) b else bitOf (s.rd Reg.SCRUB_CTRL2_EN) (b - 0x1A)

/-- The scrubber of a bank visits its word (R437); `beaten` where a foreground write met the word (R438). -/
def State.scrubWord (s : State) (b : Nat) (beaten : Bool) : State :=
  let off := s.mem.scrubPos.get 0 b
  let w := s.word b off
  let s1 : State :=
    if w.poisoned then s
    else
      match w.ecc with
      | .clean => s
      | .single => (if beaten then s else s.setWord b off { w with ecc := .clean }).logCe b off 0
      | _ => (if beaten then s else s.setWord b off (poisonWord b w)).logUe b off 0
  { s1 with mem := { s1.mem with scrubPos := s1.mem.scrubPos.set 0 b ((off + 1) % bankWords b) } }

/-- SCRUB_STEP (R436, R437): the slot of bank or code RAM `b`; `fg` where a foreground request for it is present. -/
def execScrubStep (b : Fin 36) (fg beaten : Bool) (s : State) : Out :=
  let r := s.bgSlot 0 b fg
  .next (if !s.scrubOn b || s.bankBusy b then s else if r.1 then r.2.scrubWord b beaten else r.2)

/-! ### Repair (R444 to R459) -/

/-- Spare `k` of bank `b`. -/
def State.spare (s : State) (b k : Nat) : Spare := s.mem.spares.get {} (b * 8 + k)

/-- Put spare `k` of bank `b`. -/
def State.setSpare (s : State) (b k : Nat) (x : Spare) : State :=
  { s with mem := { s.mem with spares := s.mem.spares.set {} (b * 8 + k) x } }

/-- Whether a bank has spare rows. -/
def hasSpares (b : Nat) : Bool := b ≤ 0x10

/-- The lowest spare of a bank that is free and not BAD. -/
def State.freeSpare (s : State) (b : Nat) : Option Nat :=
  if hasSpares b then (List.range 8).find? (fun k => !(s.spare b k).used && !(s.spare b k).bad) else none

/-- The spare that a row is mapped to. -/
def State.spareOf (s : State) (b row : Nat) : Option Nat :=
  (List.range 8).find? (fun k => (s.spare b k).used && (s.spare b k).row == row)

/-- A spare fails (R444, R445): it is marked BAD, and a REPAIR record is staged. -/
def State.spareFails (s : State) (b k : Nat) : State :=
  (s.setSpare b k { s.spare b k with bad := true, used := false }).stage (.repair b (s.spare b k).row k 2)

/-- A bank stays in service DEGRADED (R445, R446): event 0x0705. -/
def State.degrade (s : State) (b row : Nat) : State :=
  ((s.wr (Reg.MEM_BANK_STAT_DEGRADED.at b) 1).stage (.repair b row 0 3)).event 0x0705 b (evBytes 2 row)

/-- A row fails (R445): it moves to the lowest free spare with a REPAIR record and event 0x0704, or its bank is degraded. Answers
whether it was newly mapped. -/
def State.rowFails (s : State) (b row : Nat) : Bool × State :=
  let s1 := match s.spareOf b row with
    | some k => s.spareFails b k
    | none => s
  match s1.freeSpare b with
  | some k => (true, ((s1.setSpare b k { used := true, row := row }).stage (.repair b row k 1)).event 0x0704 b (evBytes 2 row ++ [k]))
  | none => (false, s1.degrade b row)

/-! ### March algorithms (R441 to R444) -/

/-- An operation of a march on a word: a read that expects background value `one`, or a write of it. -/
inductive MarchOp where
  | r (one : Bool)
  | w (one : Bool)
  deriving DecidableEq, Repr

/-- The operations of an algorithm on each word, element by element (Table 07-6): 10 of March C−, 22 of March SS. The order of the
words within an element bears on no expected value. -/
def marchOps (algo : Nat) : List MarchOp :=
  let pass (one : Bool) : List MarchOp :=
    if algo = 0 then [.r one, .w (!one)] else [.r one, .r one, .w one, .r one, .w (!one)]
  [.w false] ++ pass false ++ pass true ++ pass false ++ pass true ++ [.r false]

/-- The bits of a raw word of a bank: 64 and 8 check bits in packet memory, 43 in tagged memory (R49, Table 01-9). -/
def rawBits (b : Nat) : Nat := if bankTagged b then 43 else 72

/-- Background value `one` of the raw word at offset `w` (R442): solid, or checkerboard. -/
def marchWord (b bg : Nat) (one : Bool) (w : Nat) : Nat :=
  if bg = 0 then (if one then 2 ^ rawBits b - 1 else 0)
  else (List.range (rawBits b)).foldl (fun n j => n + (if ((j + w) % 2 == 1) != one then 2 ^ j else 0)) 0

/-- Whether a read of a march differs from its expected value (R443). -/
def readDiffers (b algo : Nat) (x : MarchRead) : Bool :=
  match (marchOps algo)[x.op]? with
  | some (.r one) => x.word != marchWord b x.bg one x.off
  | _ => false

/-- The spares (or rows) of bank `b` that fail in the pass of background `bg`, in ascending order. -/
def failingLines (b algo bg : Nat) (spare : Bool) (reads : List MarchRead) : List Nat :=
  (List.range (if spare then (if hasSpares b then 8 else 0) else bankRows b)).filter (fun n =>
    reads.any (fun x => x.spare == spare && x.line == n && x.bg.val == bg && readDiffers b algo x))

/-- Whether any read differs in the first `bgs` passes. -/
def marchFailed (b algo bgs : Nat) (reads : List MarchRead) : Bool :=
  reads.any (fun x => decide (x.bg.val < bgs) && readDiffers b algo x)

/-! ### Carding (R447 to R464) -/

/-- Whether some converter group is enabled (R452): its ENABLE setpoint, or a state other than OFF. -/
def State.anyGroupOn (s : State) : Bool := (List.range 4).any (fun g => s.grEnable g || s.grState g != 0)

/-- Whether a bank is free for a destructive run (R448). -/
def State.bankFree (s : State) (b : Nat) : Bool :=
  if 1 ≤ b ∧ b ≤ 7 then
    (List.range 4).all (fun k => (s.slot k).image.isNone || (s.decl k).commonWords == 0 || (s.slot k).regionBank != b)
  else if 0x11 ≤ b ∧ b ≤ 0x18 then (s.shuttleHolder (b - 0x11)).isNone
  else false

/-- Whether a run may start on a bank (R463). -/
def State.cardAllowed (s : State) (b : Nat) (destructive : Bool) : Bool :=
  if destructive then s.bankFree b else b != 0x19 || !s.anyGroupOn

/-- The segments of a pass over a bank (R444): its spares neither in use nor BAD, then its rows. -/
def State.cardSegs (s : State) (b : Nat) : List (Bool × Nat) :=
  (if hasSpares b then ((List.range 8).filter (fun k => !(s.spare b k).used && !(s.spare b k).bad)).map (fun k => (true, k)) else []) ++
    (List.range (bankRows b)).map (fun r => (false, r))

/-- CARDING.STAT follows the run. -/
def State.cardView (s : State) : State :=
  match s.mem.run with
  | none => s.wr Reg.CARDING_STAT_BUSY 0
  | some r =>
    let g := r.segs.headD (false, 0)
    let s1 := (((s.wr Reg.CARDING_STAT_BUSY 1).wr Reg.CARDING_STAT_BANK r.bank).wr Reg.CARDING_STAT_ROW g.2).wr
      Reg.CARDING_STAT_SPARE (b2n g.1)
    ((s1.wr Reg.CARDING_STAT_ALGO r.algo).wr Reg.CARDING_STAT_BG r.pass).wr Reg.CARDING_STAT_PRESERVE (b2n (!r.destructive))

/-- The run goes to its next bank: the step of a bank that may not be run fails with WRONG_STATE (R463). -/
def State.cardBank (s : State) (r : CardRun) : State :=
  match r.banks with
  | [] => ({ s with mem := { s.mem with run := none } }).cardView
  | b :: rest =>
    if !s.cardAllowed b r.destructive then
      (({ s with mem := { s.mem with run := none } }).cardView).failTicket r.slot 0x0B
    else
      let r' : CardRun := { r with banks := rest, bank := b, segs := if r.destructive then [] else s.cardSegs b, pass := 0 }
      (({ s with mem := { s.mem with run := some r' } }).wr (Reg.MEM_BANK_STAT_CARDING.at b) 1).cardView

/-- The parameters of a CARDING ticket: mask, algorithm, backgrounds, destructive. -/
def cardParams (mask algo bgs destructive : Nat) : List Nat := evBytes 4 mask ++ [algo, bgs, destructive]

/-- The bank mask of a CARDING ticket's parameters. -/
def cardMask (p : List Nat) : Nat := leValue ((p.take 4).map (BitVec.ofNat 8))

/-- Whether a destructive run that is admitted and not over reserves a bank (R448, R594). -/
def State.cardReserved (s : State) (b : Nat) : Bool :=
  (List.range 128).any (fun i =>
    let t := s.ticket i
    t.type == 8 && (t.state == .queued || t.state == .running) && t.params.getD 6 0 != 0 && bitOf (cardMask t.params) b)

/-- AVAILABLE of Shuttle `k` (Table 09-13). -/
def State.shAvailable (s : State) (k : Nat) : Bool :=
  !s.on (Reg.MEM_BANK_STAT_DEGRADED.at (0x11 + k)) && !s.cardReserved (0x11 + k)

/-- The CARDING ticket in slot `i` starts (R461). -/
def State.cardStart (s : State) (i : Nat) : State :=
  let p := (s.ticket i).params
  let r : CardRun := { slot := i, banks := (List.range 26).filter (bitOf (cardMask p)), bank := 0, segs := [], algo := p.getD 4 0,
                       bgs := p.getD 5 1, destructive := decide (p.getD 6 0 ≠ 0), pass := 0, mapped := 0 }
  (({ s with mem := { s.mem with runs := s.mem.runs + 1 } }).wr Reg.CARDING_STAT_FAULT 0).cardBank r

/-- The bank of the run is done: its step is finished with the rows newly mapped, and the next bank starts (R462). -/
def State.cardBankDone (s : State) (r : CardRun) : State :=
  let s1 := (s.wr (Reg.MEM_BANK_STAT_CARDING.at r.bank) 0).stepDone r.slot .uint r.mapped
  if (s1.ticket r.slot).state = .running then s1.cardBank r else ({ s1 with mem := { s1.mem with run := none } }).cardView

/-- Whether the engine starts nothing more: from S3 of a shutdown (R464). -/
def State.cardHeld (s : State) : Bool := s.pstate == 6 && decide (3 ≤ s.sdStep)

/-- Save and restore the 64 words of a row through SECDED (R449). -/
def State.cardRow (s : State) (b row : Nat) : State :=
  s.each (List.range 64) (fun s k =>
    let off := 64 * row + k
    let w := s.word b off
    if w.poisoned then s
    else
      match w.ecc with
      | .clean => s
      | .single => (s.setWord b off { w with ecc := .clean }).logCe b off 1
      | _ => (s.setWord b off (poisonWord b w)).logUe b off 1)

/-- Whether the march of the next segment of a preserving run reads a word that differs (R443): with the run's algorithm and the
background of its pass. -/
def CardRun.segmentFailed (r : CardRun) (reads : List MarchRead) : Bool :=
  match r.segs with
  | [] => false
  | (isSpare, n) :: _ =>
    reads.any (fun x => x.spare == isSpare && x.line == n && x.bg.val == r.pass && readDiffers r.bank r.algo x)

/-- A segment step of a preserving run (R444, R445, R449); `failed` where a read of the march differs. -/
def State.cardSegment (s : State) (r : CardRun) (failed : Bool) : State :=
  match r.segs with
  | [] => s.cardBankDone r
  | (isSpare, n) :: rest =>
    let s0 := s.wrIf failed Reg.CARDING_STAT_FAULT 1
    let s1 := if isSpare then (if failed then s0.spareFails r.bank n else s0) else s0.cardRow r.bank n
    let f := if failed && !isSpare then s1.rowFails r.bank n else (false, s1)
    let r1 : CardRun := { r with segs := rest, mapped := r.mapped + b2n f.1 }
    if !rest.isEmpty then ({ f.2 with mem := { f.2.mem with run := some r1 } }).cardView
    else if r.pass + 1 < r.bgs then
      ({ f.2 with mem := { f.2.mem with run := some { r1 with pass := r.pass + 1, segs := f.2.cardSegs r.bank } } }).cardView
    else f.2.cardBankDone r1

/-- CARDING_SEGMENT_STEP (R449, R451): the PACE slot of a preserving run, with the reads that its march finds; `fg` where a request for
the next row is pending. -/
def execCardingSegmentStep (fg : Bool) (reads : List MarchRead) (s : State) : Out :=
  .next (match s.mem.run with
    | none => s
    | some r =>
      if r.destructive || s.cardHeld || !s.stepOpen r.slot then s
      else
        let g := s.bgSlot 1 r.bank fg
        if g.1 then g.2.cardSegment r (r.segmentFailed reads) else g.2)

/-- The repairs of one pass over a bank (R444, R445): its spares, then its rows; with the number of rows newly mapped. -/
def State.marchPass (s : State) (b algo bg : Nat) (reads : List MarchRead) : Nat × State :=
  let s1 := s.each ((failingLines b algo bg true reads).filter (fun k => !(s.spare b k).used && !(s.spare b k).bad))
      (fun s k => s.spareFails b k)
  (failingLines b algo bg false reads).foldl (fun a r =>
    let f := a.2.rowFails b r
    (a.1 + b2n f.1, f.2)) (0, s1)

/-- The repairs of a march of a bank with algorithm `algo` and `bgs` backgrounds, one pass per background (R442). -/
def State.marchBank (s : State) (b algo bgs : Nat) (reads : List MarchRead) : Nat × State :=
  (List.range bgs).foldl (fun a bg =>
    let m := a.2.marchPass b algo bg reads
    (a.1 + m.1, m.2)) (0, s)

/-- CARDING_BANK_MARCH (R447): a destructive march of a bank ends, with the reads that it found, and the bank is cleared. -/
def execCardingBankMarch (reads : List MarchRead) (s : State) : Out :=
  .next (match s.mem.run with
    | none => s
    | some r =>
      if !r.destructive || !s.stepOpen r.slot then s
      else
        let f := s.marchBank r.bank r.algo r.bgs reads
        let s1 := (f.2.wrIf (marchFailed r.bank r.algo r.bgs reads) Reg.CARDING_STAT_FAULT 1).runOver r.bank
        let r1 : CardRun := { r with mapped := r.mapped + f.1 }
        if s.cardHeld then ({ s1.wr (Reg.MEM_BANK_STAT_CARDING.at r.bank) 0 with mem := { s1.mem with run := none } }).cardView
        else s1.cardBankDone r1)

/-! ### Start-up Carding (R453 to R459) -/

/-- Fuse repair entry `e` (R457, Table 07-7). -/
def State.fuseEntry (s : State) (e : Nat) : Nat := s.fuseField (1040 + 24 * e) 24

/-- Whether a fuse repair entry is valid (R457). -/
def fuseEntryOk (x : Nat) : Bool :=
  bitOf x 23 && fieldOf x 18 5 ≤ 0x10 && fieldOf x 0 5 == 19 - popCount 19 (x / 32)

/-- The fuse repair entries are applied in ascending order (R458). -/
def State.applyFuses (s : State) : State :=
  s.each (List.range 16) (fun s e =>
    let x := s.fuseEntry e
    let b := fieldOf x 18 5
    let k := fieldOf x 5 3
    if x = 0 then s
    else if fuseEntryOk x && !(s.spare b k).used && (s.spareOf b (fieldOf x 8 10)).isNone then
      s.setSpare b k { used := true, fuse := true, row := fieldOf x 8 10 }
    else s.event 0x0706 b [e])

/-- The fuse repairs of this wake are applied, once (R453). -/
def State.fusesOnce (s : State) : State :=
  if s.mem.fusesApplied then s else { s.applyFuses with mem := { s.applyFuses.mem with fusesApplied := true } }

/-- A journaled soft repair at mount (R455): one whose row or spare a fuse entry claims is discarded (R459). -/
def State.applyRepair (s : State) (b row k action : Nat) : State :=
  if b = 0x10 ∨ !hasSpares b then
    (if action = 3 ∧ b ≠ 0x10 then s.wr (Reg.MEM_BANK_STAT_DEGRADED.at b) 1 else s)
  else if action = 2 then
    (if (s.spare b k).fuse then s else s.setSpare b k { s.spare b k with bad := true, used := false })
  else if action = 3 then s.wr (Reg.MEM_BANK_STAT_DEGRADED.at b) 1
  else if (s.spareOf b row).any (fun j => (s.spare b j).fuse) || (s.spare b k).fuse then s
  else s.setSpare b k { used := true, row := row }

/-- A discarded soft repair whose row nothing covers is mapped afresh to the lowest free spare (R459). -/
def State.remapRepair (s : State) (b row k action : Nat) : State :=
  if b = 0x10 ∨ !hasSpares b ∨ action ≠ 1 ∨ !(s.spare b k).fuse ∨ (s.spareOf b row).isSome then s
  else
    match s.freeSpare b with
    | some j => ((s.setSpare b j { used := true, row := row }).stage (.repair b row j 1)).event 0x0704 b (evBytes 2 row ++ [j])
    | none => s

/-- Whether Table 07-2 marks a bank as marched at start-up under the CARD strap (Table 02-3). -/
def State.startMarched (s : State) (b : Nat) : Bool := b < 8 || b == 0x10 || s.strap 9 1 == 1

/-- The algorithm of start-up Carding under the CARD strap (R454): March C−, or March SS. -/
def State.startAlgo (s : State) : Nat := s.strap 9 1

/-- The backgrounds of start-up Carding (R454): background 0, or both. -/
def State.startBgs (s : State) : Nat := s.startAlgo + 1

/-- Marched banks are marched in ascending code order under R454, with the reads that the march finds (R453). -/
def State.startMarch (s : State) (banks : List Nat) (reads : List (Nat × MarchRead)) : State :=
  s.each (banks.filter s.startMarched) (fun s b =>
    let l := (reads.filter (fun f => f.1 == b)).map (·.2)
    let m := s.marchBank b s.startAlgo s.startBgs l
    ({ m.2 with mem := { m.2.mem with startupRepairs := m.2.mem.startupRepairs + m.1 } }).wrIf
      (marchFailed b s.startAlgo s.startBgs l) Reg.CARDING_STAT_FAULT 1)

/-- The banks other than WL are marched once the journaled soft repairs are applied (R453, steps 3 and 4). -/
def State.startMarchHeld (s : State) : State :=
  let t := s.startMarch ((List.range 26).filter (· != 0x10)) s.mem.startReads
  { t with mem := { t.mem with startReads := [] } }

/-- CARDING.STAT takes the algorithm and the last background of start-up Carding, a destructive run (R454, Table 07-9). -/
def State.startView (s : State) : State :=
  ((s.wr Reg.CARDING_STAT_ALGO s.startAlgo).wr Reg.CARDING_STAT_BG s.startAlgo).wr Reg.CARDING_STAT_PRESERVE 0

/-- STARTUP_CARDING (R453, R454): the fuse entries are applied, the marched banks are marched with the reads given (bank and read),
and every bank is cleared. WL is marched first, the others after the mount. -/
def execStartupCarding (reads : List (Nat × MarchRead)) (s : State) : Out :=
  let s1 := ({ s with mem := { s.mem with mem := [], spares := s.mem.spares.filter (fun e => e.1 / 8 != 0x10 || e.2.fuse) } }).fusesOnce
  let s2 := s1.startView.startMarch [0x10] reads
  let s3 : State := { s2 with mem := { s2.mem with startReads := reads } }
  .next (if s.wakeAt ≠ 8 then s else if s.mountOver then s3.startMarchHeld else s3)

end Sys2Proof.Machine
end

