-- ==== Sys2Proof/Machine/GrilorOps.lean ====
section
/-! DEFINITION. Grilor operations that other families share: the ports of a role, the numbered workers and CROSS (chapter 17). -/
namespace Sys2Proof.Machine

/-- Whether this device drives the chain start and the branches (Table 17-4): a manager, or the owner of a twin. -/
def State.managing (s : State) : Bool := s.role == 1 || s.owner

/-- The virtual links that are UP. -/
def State.branchesUp (s : State) : List Nat := ((List.range 8).map (· + 2)).filter (fun i => s.glState i == 2)

/-- RING of the hierarchy, of a manager (Table 17-4). -/
def State.ring (s : State) : Bool := s.role == 1 && s.odN 0x9000 7 0 == 1

/-- The ports by which SYNC and CROSS leave: the chain start, the far end of a broken ring, the branches, and the mirror link of an
owner (R993, R996, R1006). -/
def State.downPorts (s : State) : List Nat :=
  if !s.managing then []
  else (if s.owner || s.rd Reg.GRILOR_ENUM_ENUM_STATE == 5 then [0, 1] else [1]) ++ s.branchesUp

/-- The other chain link of a worker (R980); a virtual link has none. -/
def otherPort (i : Nat) : Option Nat := if i = 0 then some 1 else if i = 1 then some 0 else none

/-- The port by which worker `w` is reached (R986), where it is numbered: by this walk, or while it lasts by the walk before. -/
def State.portOf (s : State) (w : Nat) : Option Nat :=
  match s.gl.assigned.lookup w with
  | some p => some p
  | none => if s.rd Reg.GRILOR_ENUM_ENUM_STATE = 1 then s.gl.before.lookup w else none

/-- CROSS of an accepted MS0 crossing `back` SCLK cycles ago (R996). -/
def State.crossSend (s : State) (ang back : Nat) : State :=
  let t := s.dtBack back
  s.each s.downPorts (fun s i => s.glSend i ⟨0xFF, 0, .cross (clockSec t) (clockSub t) ang⟩)

/-- Set the TWIN_OWN line as this twin drives it (R999); a released line reads high until a change is seen. -/
def State.ownDrive (s : State) (d : Bool) : State :=
  (s.wr Reg.GRILOR_TWIN_OWN_DRIVE (b2n d)).wr Reg.GRILOR_TWIN_OWN_SENSE (b2n (d || s.peerHolds))

/-- The twin's shutdown reaches the end of S2 as OWNER (Table 17-5): HANDOVER is sent and TWIN_OWN released. -/
def State.twinS2 (s : State) : State := if s.owner then (s.glSend 0 ⟨0xFF, 0, .handover⟩).ownDrive false else s

end Sys2Proof.Machine
end

