-- ==== Sys2Proof/Machine/Heddle.lean ====
section
/-! DEFINITION. Heddles (chapter 10): the twelve operations, waits, stalls and timeouts, pins, queues, and the writes of
their registers. A command carries the levels of the sixty-four pins in the cycle it names, since the field wiring sets
them. -/
namespace Sys2Proof.Machine

/-! ### Shared operations -/

/-- Heddle `n` beside its registers. -/
def State.hd (s : State) (n : Nat) : Heddle := s.hed.units.get {} n

/-- Put Heddle `n`. -/
def State.setHd (s : State) (n : Nat) (h : Heddle) : State :=
  { s with hed := { s.hed with units := s.hed.units.set {} n h } }

/-- STATE of Heddle `n`: 0 STOPPED, 1 RUN, 2 WAIT, 3 FAULTED (Table 10-6). -/
def State.hdState (s : State) (n : Nat) : Nat := s.rd (Reg.HEDDLE_STAT_STATE.at n)

/-- Words of the transmit queue (R629). -/
def State.hdTxSize (s : State) (n : Nat) : Nat := 2 * s.rd (Reg.HEDDLE_CTRL_SPLIT.at n)

/-- Words of the receive queue (R629). -/
def State.hdRxSize (s : State) (n : Nat) : Nat := 8 - s.hdTxSize n

/-- CATCH_LEN, where 0 stands for 32 (R616). -/
def State.hdCatchLen (s : State) (n : Nat) : Nat :=
  let c := s.rd (Reg.HEDDLE_CTRL_CATCH_LEN.at n)
  if c = 0 then 32 else c

/-- Wake the bound thread where WAKE_EN is 1 (R631). -/
def State.hdWake (s : State) (n : Nat) : State :=
  if s.on (Reg.HEDDLE_EVT_WAKE_EN.at n) then s.wakeShuttle (s.rd (Reg.HEDDLE_EVT_THREAD.at n)) else s

/-- Put the transmit queue: TXFILL follows, and a fall to TXLOW or below wakes (R631). -/
def State.hdSetTx (s : State) (n : Nat) (q : List Nat) : State :=
  let old := (s.hd n).txq.length
  let s1 := (s.setHd n { s.hd n with txq := q }).wr (Reg.HEDDLE_STAT_TXFILL.at n) q.length
  if q.length < old ∧ q.length ≤ s.rd (Reg.HEDDLE_EVT_TXLOW.at n) then s1.hdWake n else s1

/-- Put the receive queue: RXFILL follows, and a rise to RXHIGH or above wakes (R631). -/
def State.hdSetRx (s : State) (n : Nat) (q : List Nat) : State :=
  let old := (s.hd n).rxq.length
  let s1 := (s.setHd n { s.hd n with rxq := q }).wr (Reg.HEDDLE_STAT_RXFILL.at n) q.length
  if old < q.length ∧ s.rd (Reg.HEDDLE_EVT_RXHIGH.at n) ≤ q.length then s1.hdWake n else s1

/-- The slot map byte of slot `k` (R621). -/
def State.slotByte (s : State) (n k : Nat) : Nat :=
  if k < 4 then fieldOf (s.rd (Reg.HEDDLE_SLOTMAP0_V.at n)) (8 * k) 8
  else fieldOf (s.rd (Reg.HEDDLE_SLOTMAP1_V.at n)) (8 * (k - 4)) 8

/-- The level a pin reads as: pins 42 to 63 read 0 (Table 10-4), an internal receive line reads 1 while the die link is
down (R626), any other pin reads its level. -/
def State.pinReads (s : State) (pins p : Nat) : Bool :=
  if 42 ≤ p then false
  else if s.on Reg.SYS_DLSTAT_DOWN && [32, 34, 36, 39].contains p then true
  else bitOf pins p

/-- The level a slot reads, INV applied (R621). -/
def State.slotReads (s : State) (n pins k : Nat) : Bool :=
  let b := s.slotByte n k
  s.pinReads pins (b % 64) != bitOf b 7

/-- Whether a slot drives its pin (R623), and the level it puts there: the level latch while the Heddle is in RUN or WAIT
with OE 1, else SAFE where SAFE_OE is 1; INV applied. -/
def State.slotDrives (s : State) (n k : Nat) : Option Bool :=
  let b := s.slotByte n k
  let active := s.hdState n == 1 || s.hdState n == 2
  if !bitOf b 6 then none
  else if active then (if bitOf (s.hd n).oe k then some (bitOf (s.hd n).lev k != bitOf b 7) else none)
  else if s.bit (Reg.HEDDLE_SAFE_SAFE_OE.at n) k then some (s.bit (Reg.HEDDLE_SAFE_SAFE.at n) k != bitOf b 7)
  else none

/-- What the slots of all Heddles put on pin `p` (R622, R623); none where no slot drives it. -/
def State.pinDriven (s : State) (p : Nat) : Option Bool :=
  ((List.range 128).filterMap (fun k => if s.slotByte (k / 8) (k % 8) % 64 = p then s.slotDrives (k / 8) (k % 8) else none)).head?

/-- Whether DALIn_TXL is released (R621, R623): at the level its slot gives, released where no slot drives it and while the die link is
down (R626). -/
def State.daliReleased (s : State) (n : Nat) : Bool := s.on Reg.SYS_DLSTAT_DOWN || (s.pinDriven (33 + 2 * n)).getD true

/-- The fault code of RS-485 line `n` (Table 18-4). -/
def rsFault (n : Nat) : Field := if n = 0 then Reg.HEDDLE_RS485_STAT_FAULT0 else Reg.HEDDLE_RS485_STAT_FAULT1

/-- Whether the transmitter of RS-485 channel `n` may be on: off while code 4 holds (R1026) and while the die link is down (R626). -/
def State.rsMayDrive (s : State) (n : Nat) : Bool := s.rd (rsFault n) != 4 && !s.on Reg.SYS_DLSTAT_DOWN

/-- Whether the transmitter of RS-485 channel `n` drives the bus: on the DE of the Heddle pins under bypass (R627), else of the UART. -/
def State.rsDrives (s : State) (n : Nat) : Bool :=
  s.rsMayDrive n &&
    (if s.bit Reg.HEDDLE_BYPASS_RS485 n then s.pinDriven (38 + 3 * n) == some true else (s.hed.uart.get {} n).de)

/-- Set the level latch of a slot. -/
def State.hdLevel (s : State) (n k : Nat) (b : Bool) : State :=
  s.setHd n { s.hd n with lev := setBit (s.hd n).lev k b }

/-- T counts down `k` cycles; where it reaches 0, FLAG becomes 1 (R620). -/
def State.hdCount (s : State) (n k : Nat) : State :=
  let t := (s.hd n).t
  if t = 0 then s
  else if t ≤ k then (s.setHd n { s.hd n with t := 0 }).wr (Reg.HEDDLE_STAT_FLAG.at n) 1
  else s.setHd n { s.hd n with t := t - k }

/-- A Heddle enters FAULTED (Table 10-5): EN becomes 0, its pins take SAFE, event 0x0A01 carries code and PC (R637). -/
def State.hdFault (s : State) (n code : Nat) : State :=
  let s1 := ((s.wr (Reg.HEDDLE_STAT_STATE.at n) 3).wr (Reg.HEDDLE_STAT_FAULT.at n) code).wr (Reg.HEDDLE_CTRL_EN.at n) 0
  (s1.setHd n { s1.hd n with stalled := false }).event 0x0A01 n [code, s.rd (Reg.HEDDLE_STAT_PC.at n)]

/-- A Heddle stops (Table 10-5): its pins take SAFE and its PC is kept. -/
def State.hdStop (s : State) (n : Nat) : State :=
  let s1 := (s.wr (Reg.HEDDLE_STAT_STATE.at n) 0).wr (Reg.HEDDLE_CTRL_EN.at n) 0
  s1.setHd n { s1.hd n with stalled := false }

/-- An uncorrectable program fetch (R608): every Heddle of the block in RUN or WAIT faults with ECC. -/
def State.hdEcc (s : State) (b : Nat) : State :=
  (s.each (List.range 8) (fun s k =>
    let m := 8 * b + k
    if s.hdState m = 1 ∨ s.hdState m = 2 then s.hdFault m 3 else s)).wrBit Reg.HEDDLE_BLOCKSTAT_ECC b true

/-- Deliver a word to the receive queue, dropped with RX_OVF where the queue is full (Table 10-3). -/
def State.hdDeliver (s : State) (n w : Nat) : State :=
  if (s.hd n).rxq.length < s.hdRxSize n then s.hdSetRx n ((s.hd n).rxq ++ [w])
  else s.wr (Reg.HEDDLE_STAT_RX_OVF.at n) 1

/-- What an operation does: it ends (with a branch target or not), it waits, it stalls, or it faults with a code. -/
inductive HdRes where
  | done (s : State) (target : Option Nat)
  | waits (s : State)
  | stalls (s : State)
  | faults (s : State) (code : Nat)
  deriving DecidableEq, Repr

/-- T reached 0 in the first cycle of an operation: a wait or stall that begins in it ends with no other effect (R620). -/
def HdRes.expired : HdRes → HdRes
  | .waits s => .done s none
  | .stalls s => .done s none
  | r => r

/-- The end of an instruction: HOLD cycles pass and the PC moves on, wrapping after the last word (R605, R613); a branch
target of LEN or more faults with BAD_PC. -/
def State.hdAdvance (s : State) (n hold : Nat) (target : Option Nat) : State :=
  let len := s.rd (Reg.HEDDLE_REGION_LEN.at n)
  let pc := s.rd (Reg.HEDDLE_STAT_PC.at n)
  let next := target.getD (if pc + 1 = len then s.rd (Reg.HEDDLE_REGION_WRAP.at n) else pc + 1)
  if len ≤ next then s.hdFault n 2
  else
    let s1 := ((s.hdCount n hold).wr (Reg.HEDDLE_STAT_PC.at n) next).wr (Reg.HEDDLE_STAT_STATE.at n) 1
    s1.setHd n { s1.hd n with stalled := false }

/-- The instruction word at the PC of a Heddle (R603, R604). -/
def State.hdWord (s : State) (n : Nat) : Nat :=
  s.hed.prog.get 0 (n / 8 * 128 + (s.rd (Reg.HEDDLE_REGION_BASE.at n) + s.rd (Reg.HEDDLE_STAT_PC.at n)) % 128)

/-- The pinset of Table 10-2: with PSEN 1 the slots 4 to 7 take PSLEV. -/
def State.hdPinset (s : State) (n w : Nat) : State :=
  if bitOf w 19 then s.setHd n { s.hd n with lev := (s.hd n).lev % 16 + 16 * fieldOf w 15 4 } else s

/-- Apply the result of an operation whose word is `w`. -/
def State.hdEnd (n w : Nat) : HdRes → State
  | .done s t => s.hdAdvance n (fieldOf w 10 5) t
  | .waits s => s.wr (Reg.HEDDLE_STAT_STATE.at n) 2
  | .stalls s => (s.setHd n { s.hd n with stalled := true }).wr (Reg.HEDDLE_STAT_STATE.at n) 2
  | .faults s code => s.hdFault n code

/-- One Heddle in RUN issues the instruction at its PC, where that is operation `op` (R612, R613): the pinset takes effect,
T counts the cycle, and the operation runs on its argument. An uncorrectable fetch faults the block (R608); an OP code of
0xC to 0xF faults with ILLEGAL (R616). Where the instruction is another operation, or the Heddle is not in RUN, nothing
happens: the command then names no event of this state. -/
def State.hdIssue (s : State) (n op : Nat) (fetchBad : Bool) (body : Nat → State → HdRes) : State :=
  let w := s.hdWord n
  if s.hdState n ≠ 1 then s
  else if fetchBad then s.hdEcc (n / 8)
  else if 12 ≤ fieldOf w 20 4 then s.hdFault n 1
  else if fieldOf w 20 4 ≠ op then s
  else
    let r := body (fieldOf w 0 10) ((s.hdPinset n w).hdCount n 1)
    State.hdEnd n w (if (s.hd n).t = 1 then r.expired else r)

/-- Set FLAG. -/
def State.hdFlag (s : State) (n : Nat) (b : Bool) : State := s.wr (Reg.HEDDLE_STAT_FLAG.at n) (b2n b)

/-- The position a lane count names: the count itself, or 31 minus it where the order bit is 1 (R614). -/
def lanePos (order : Bool) (k : Nat) : Nat := if order then 31 - k else k

/-- NOP (Table 10-3): a set argument bit is ILLEGAL. -/
def hdNopBody (arg : Nat) (s : State) : HdRes := if arg ≠ 0 then .faults s 1 else .done s none

/-- SAMPLE (Table 10-3). -/
def hdSampleBody (n pins arg : Nat) (s : State) : HdRes :=
  if fieldOf arg 5 5 ≠ 0 ∨ bitOf arg 3 then .faults s 1
  else
    let h := s.hd n
    if h.cn = 32 then .done (s.wr (Reg.HEDDLE_STAT_RX_OVF.at n) 1) none
    else
      let s1 := s.setHd n { h with cl := setBit h.cl (lanePos (bitOf arg 4) h.cn) (s.slotReads n pins (arg % 8)),
                                   cn := h.cn + 1 }
      if s.on (Reg.HEDDLE_CTRL_AUTOCATCH.at n) && h.cn + 1 == s.hdCatchLen n then
        if s.hdRxSize n = 0 then .faults s1 4
        else
          let s2 := s1.hdDeliver n (s1.hd n).cl
          .done (s2.setHd n { s2.hd n with cl := 0, cn := 0 }) none
      else .done s1 none

/-- DRIVE (Table 10-3). -/
def hdDriveBody (n arg : Nat) (s : State) : HdRes :=
  if fieldOf arg 4 4 ≠ 0 then .faults s 1
  else
    let s1 := s.hdLevel n (arg % 8) (bitOf arg 3)
    .done (if bitOf arg 9 then s1.setHd n { s1.hd n with oe := setBit (s1.hd n).oe (arg % 8) (bitOf arg 8) } else s1) none

/-- Whether an argument is one of AWAIT's, with every bit that its source does not name at 0 (R616). -/
def awaitLegal (arg : Nat) : Bool :=
  match fieldOf arg 7 3 with
  | 0 => fieldOf arg 4 3 == 0
  | 1 => fieldOf arg 5 2 == 0 && fieldOf arg 3 2 != 0
  | 2 | 3 | 4 => fieldOf arg 0 7 == 0
  | 5 => fieldOf arg 1 6 == 0
  | _ => false

/-- Whether AWAIT names a queue of size 0 (R616). -/
def State.awaitNoQueue (s : State) (n arg : Nat) : Bool :=
  fieldOf arg 7 3 == 5 && (if bitOf arg 0 then s.hdRxSize n == 0 else s.hdTxSize n == 0)

/-- AWAIT's condition in one cycle, with the pin levels of the cycle before and of this cycle; a counter wait has already
counted this cycle (Table 10-3, R617 to R619). -/
def State.awaitMet (s : State) (n before now arg : Nat) : Bool :=
  let k := arg % 8
  match fieldOf arg 7 3 with
  | 0 => s.slotReads n now k == bitOf arg 3
  | 1 =>
    let a := s.slotReads n before k
    let b := s.slotReads n now k
    a != b && (if b then bitOf arg 3 else bitOf arg 4)
  | 2 => s.rd (Reg.HEDDLE_CNT_CNT.at n) == 0
  | 3 => (s.hd n).angLatch
  | 4 => (s.hd n).timeLatch
  | _ => if bitOf arg 0 then decide ((s.hd n).rxq.length < s.hdRxSize n) else !(s.hd n).txq.isEmpty

/-- A counter wait counts `k` cycles (Table 10-3, AWAIT source 2). -/
def State.awaitCount (s : State) (n arg k : Nat) : State :=
  if fieldOf arg 7 3 = 2 then
    s.wr (Reg.HEDDLE_CNT_CNT.at n) (s.rd (Reg.HEDDLE_CNT_CNT.at n) - k)
  else s

/-- AWAIT ends by its condition: the latch it names is cleared and FLAG becomes 0 (R618 to R620). -/
def State.awaitEnd (s : State) (n arg : Nat) : State :=
  let h := s.hd n
  let src := fieldOf arg 7 3
  (s.setHd n { h with angLatch := h.angLatch && src != 3, timeLatch := h.timeLatch && src != 4 }).hdFlag n false

/-- AWAIT in its first cycle (Table 10-3, R617). -/
def hdAwaitBody (n before now arg : Nat) (s : State) : HdRes :=
  if !awaitLegal arg then .faults s 1
  else if s.awaitNoQueue n arg then .faults s 4
  else
    let s1 := s.awaitCount n arg 1
    if s1.awaitMet n before now arg then .done (s1.awaitEnd n arg) none else .waits s1

/-- COUNT (Table 10-3). -/
def hdCountBody (n arg : Nat) (s : State) : HdRes :=
  let f := Reg.HEDDLE_CNT_CNT.at n
  match fieldOf arg 8 2 with
  | 0 => .done (s.wr f (fieldOf arg 0 8)) none
  | 1 => if fieldOf arg 0 8 ≠ 0 then .faults s 1 else .done (s.wr f (s.rd (Reg.HEDDLE_CNT_CRELOAD.at n))) none
  | 2 =>
    if fieldOf arg 0 8 ≠ 0 then .faults s 1
    else .done ((s.wr f (s.rd f - 1)).hdFlag n (decide (s.rd f ≤ 1))) none
  | _ => .faults s 1

/-- SHIFT (Table 10-3). -/
def hdShiftBody (n arg : Nat) (s : State) : HdRes :=
  if fieldOf arg 5 5 ≠ 0 then .faults s 1
  else
    let place (s : State) : HdRes :=
      let h := s.hd n
      let b := bitOf h.sl (lanePos (bitOf arg 4) h.sn) != bitOf arg 3
      .done ((s.setHd n { h with lastOut := b, sn := h.sn + 1 }).hdLevel n (arg % 8) b) none
    let h := s.hd n
    if h.sn ≠ h.slen then place s
    else if s.hdTxSize n = 0 then .faults s 4
    else
      match h.txq with
      | [] => .stalls (s.wr (Reg.HEDDLE_STAT_UNDERRUN.at n) 1)
      | w :: q =>
        let s1 := s.hdSetTx n q
        place (s1.setHd n { s1.hd n with sl := w, sn := 0 })

/-- EMIT (Table 10-3). -/
def hdEmitBody (n arg : Nat) (s : State) : HdRes :=
  if fieldOf arg 2 8 ≠ 0 then .faults s 1
  else if s.hdRxSize n = 0 then .faults s 4
  else if !bitOf arg 1 && decide (s.hdRxSize n ≤ (s.hd n).rxq.length) then .stalls s
  else
    let s1 := s.hdDeliver n (s.hd n).cl
    .done (if bitOf arg 0 then s1.setHd n { s1.hd n with cl := 0, cn := 0 } else s1) none

/-- TAKE (Table 10-3). A beat length of 33 to 63 is not stated: SLEN is then a free value in [1, 32] (log entry 20). -/
def hdTakeBody (n arg : Nat) (s : State) : HdRes :=
  if fieldOf arg 7 3 ≠ 0 then .faults s 1
  else if s.hdTxSize n = 0 then .faults s 4
  else
    match (s.hd n).txq with
    | [] => if bitOf arg 6 then .done (s.hdFlag n true) none else .stalls s
    | w :: q =>
      let l := fieldOf arg 0 6
      let d := s.drawWord
      let s0 := if 32 < l then d.2 else s
      let slen := if l = 0 then 32 else if l ≤ 32 then l else d.1.toNat % 32 + 1
      let s1 := s0.hdSetTx n q
      let s2 := s1.setHd n { s1.hd n with sl := w, sn := 0, slen := slen }
      .done (if bitOf arg 6 then s2.hdFlag n false else s2) none

/-- BRANCH (Table 10-3). -/
def hdBranchBody (n pins arg : Nat) (s : State) : HdRes :=
  let h := s.hd n
  let goIf (c : Bool) : HdRes := .done s (if c then some (fieldOf arg 0 7) else none)
  match fieldOf arg 7 3 with
  | 0 => goIf true
  | 1 => goIf (s.on (Reg.HEDDLE_STAT_FLAG.at n))
  | 2 => goIf (!s.on (Reg.HEDDLE_STAT_FLAG.at n))
  | 3 => goIf (h.sn == h.slen)
  | 4 => goIf (decide (s.hdCatchLen n ≤ h.cn))
  | 5 => goIf (s.slotReads n pins 0)
  | 6 => goIf (!s.slotReads n pins 0)
  | _ => .faults s 1

/-- MATCH (Table 10-3). -/
def hdMatchBody (n pins arg : Nat) (s : State) : HdRes :=
  match fieldOf arg 8 2 with
  | 0 =>
    if fieldOf arg 1 7 ≠ 0 then .faults s 1
    else
      let m := if bitOf arg 0 then s.rd (Reg.HEDDLE_MASK1_V.at n) else s.rd (Reg.HEDDLE_MASK0_V.at n)
      let p := if bitOf arg 0 then s.rd (Reg.HEDDLE_PAT1_V.at n) else s.rd (Reg.HEDDLE_PAT0_V.at n)
      .done (s.hdFlag n (decide ((s.hd n).cl &&& m = p))) none
  | 1 =>
    if fieldOf arg 3 5 ≠ 0 then .faults s 1
    else .done (s.hdFlag n (s.slotReads n pins (arg % 8) != (s.hd n).lastOut)) none
  | _ => .faults s 1

/-- TIMEOUT (Table 10-3). -/
def hdTimeoutBody (n arg : Nat) (s : State) : HdRes :=
  if bitOf arg 9 then
    if fieldOf arg 0 9 ≠ 0 then .faults s 1
    else .done (s.setHd n { s.hd n with t := s.rd (Reg.HEDDLE_TLOAD_TLOAD.at n) }) none
  else .done (s.setHd n { s.hd n with t := fieldOf arg 0 9 }) none

/-- SIGNAL (Table 10-3, R631): the EVENTS bit is set, the bound thread is woken and the Weaver may be interrupted. -/
def hdSignalBody (n arg : Nat) (s : State) : HdRes :=
  if fieldOf arg 4 4 ≠ 0 ∨ bitOf arg 9 then .faults s 1
  else
    let s1 := (s.wrBit (Reg.HEDDLE_EVT_EVENTS.at n) (arg % 16) true).hdWake n
    .done (if bitOf arg 8 then ({ s1 with hed := { s1.hed with irq := setBit s1.hed.irq n true } }).interruptWeaver else s1) none

/-! ### The twelve operations -/

/-- HEDDLE_NOP (R615). -/
def execHeddleNop (n : Fin 16) (fetchBad : Bool) (s : State) : Out := .next (s.hdIssue n 0 fetchBad hdNopBody)

/-- SAMPLE (R615). -/
def execSample (n : Fin 16) (pins : BitVec 64) (fetchBad : Bool) (s : State) : Out :=
  .next (s.hdIssue n 1 fetchBad (hdSampleBody n pins.toNat))

/-- DRIVE (R615). -/
def execDrive (n : Fin 16) (fetchBad : Bool) (s : State) : Out := .next (s.hdIssue n 2 fetchBad (hdDriveBody n))

/-- AWAIT (R615, R617): `before` and `now` are the pin levels of the cycle before and of its first cycle. -/
def execAwait (n : Fin 16) (before now : BitVec 64) (fetchBad : Bool) (s : State) : Out :=
  .next (s.hdIssue n 3 fetchBad (hdAwaitBody n before.toNat now.toNat))

/-- COUNT (R615). -/
def execCount (n : Fin 16) (fetchBad : Bool) (s : State) : Out := .next (s.hdIssue n 4 fetchBad (hdCountBody n))

/-- SHIFT (R615). -/
def execShift (n : Fin 16) (fetchBad : Bool) (s : State) : Out := .next (s.hdIssue n 5 fetchBad (hdShiftBody n))

/-- EMIT (R615). -/
def execEmit (n : Fin 16) (fetchBad : Bool) (s : State) : Out := .next (s.hdIssue n 6 fetchBad (hdEmitBody n))

/-- TAKE (R615). -/
def execTake (n : Fin 16) (fetchBad : Bool) (s : State) : Out := .next (s.hdIssue n 7 fetchBad (hdTakeBody n))

/-- BRANCH (R615). -/
def execBranch (n : Fin 16) (pins : BitVec 64) (fetchBad : Bool) (s : State) : Out :=
  .next (s.hdIssue n 8 fetchBad (hdBranchBody n pins.toNat))

/-- MATCH (R615). -/
def execMatch (n : Fin 16) (pins : BitVec 64) (fetchBad : Bool) (s : State) : Out :=
  .next (s.hdIssue n 9 fetchBad (hdMatchBody n pins.toNat))

/-- TIMEOUT (R615). -/
def execTimeout (n : Fin 16) (fetchBad : Bool) (s : State) : Out := .next (s.hdIssue n 10 fetchBad (hdTimeoutBody n))

/-- SIGNAL (R615, R631). -/
def execSignal (n : Fin 16) (fetchBad : Bool) (s : State) : Out := .next (s.hdIssue n 11 fetchBad (hdSignalBody n))

/-! ### Waits, stalls and timeouts -/

/-- T expires in a wait or a stall: FLAG becomes 1, the wait ends with no other effect, and HOLD follows (R620). -/
def State.hdExpire (s : State) (n : Nat) : State :=
  let w := s.hdWord n
  let s1 := s.awaitCount n (fieldOf w 0 10) (if (s.hd n).stalled then 0 else (s.hd n).t)
  let s2 := (s1.setHd n { s1.hd n with t := 0 }).hdFlag n true
  s2.hdAdvance n (fieldOf w 10 5) none

/-- AWAIT_CONDITION_MET (R617 to R620): `cycles` cycles after the wait's first, its condition holds, with the pin levels of
the cycle before and of that cycle. Where T reached 0 in an earlier cycle, the timeout has ended the wait. -/
def execAwaitConditionMet (n : Fin 16) (cycles : Nat) (before now : BitVec 64) (s : State) : Out :=
  let arg := fieldOf (s.hdWord n) 0 10
  let t := (s.hd n).t
  let s1 := s.awaitCount n arg cycles
  .next (if s.hdState n ≠ 2 ∨ (s.hd n).stalled then s
    else if 0 < t ∧ t < cycles then s.hdExpire n
    else if !s1.awaitMet n before.toNat now.toNat arg then s
    else ((s1.hdCount n cycles).awaitEnd n arg).hdAdvance n (fieldOf (s.hdWord n) 10 5) none)

/-- HEDDLE_STALL_RELEASE (R613): `cycles` cycles after a stall of SHIFT, EMIT or TAKE began, its queue allows it and the
operation runs. Where T reached 0 before, the timeout has ended the stall (R620). -/
def execHeddleStallRelease (n : Fin 16) (cycles : Nat) (s : State) : Out :=
  let w := s.hdWord n
  let arg := fieldOf w 0 10
  let t := (s.hd n).t
  let ready :=
    if fieldOf w 20 4 = 6 then decide ((s.hd n).rxq.length < s.hdRxSize n) else !(s.hd n).txq.isEmpty
  let body (s : State) : HdRes :=
    match fieldOf w 20 4 with
    | 5 => hdShiftBody n arg s
    | 6 => hdEmitBody n arg s
    | _ => hdTakeBody n arg s
  .next (if s.hdState n ≠ 2 ∨ !(s.hd n).stalled then s
    else if 0 < t ∧ t < cycles then s.hdExpire n
    else if !ready then s
    else State.hdEnd n w (body (s.hdCount n cycles)))

/-- HEDDLE_T_EXPIRY (R620). -/
def execHeddleTExpiry (n : Fin 16) (s : State) : Out :=
  .next (if (s.hd n).t = 0 then s
    else if s.hdState n = 2 then s.hdExpire n
    else if s.hdState n = 1 then (s.setHd n { s.hd n with t := 0 }).hdFlag n true
    else s)

/-- HEDDLE_TIME_COMPARE (R619): the armed compare is met once the short time of device time minus TTARGET, signed, is 0 or
more (R239). -/
def execHeddleTimeCompare (n : Fin 16) (s : State) : Out :=
  let tt := s.rd (Reg.HEDDLE_TTARGET_V.at n)
  let per := s.rd (Reg.HEDDLE_TPERIOD_V.at n)
  let h := s.hd n
  .next (if h.armed ∧ 0 ≤ signed 32 (shortOf s.time.dt + 2 ^ 32 - tt) then
      (s.setHd n { h with timeLatch := true, armed := decide (per ≠ 0) }).wr (Reg.HEDDLE_TTARGET_V.at n) (tt + per)
    else s)

/-- An angle event reaches Heddle `n` (R618). -/
def State.hdAngle (s : State) (n : Nat) : State :=
  if (s.hd n).angLatch then s.wr (Reg.HEDDLE_STAT_ANG_OVR.at n) 1
  else s.setHd n { s.hd n with angLatch := true }

/-! ### Registers -/

/-- Whether a region is usable with offset `pc` (R606). -/
def regionUsable (len start wrap pc : Nat) : Bool :=
  decide (0 < len) && decide (start < len) && decide (wrap < len) && decide (pc < len)

/-- HEDDLE_ENABLE (R632, R606); in LIMP every Heddle stays STOPPED (R633). -/
def execHeddleEnable (n : Fin 16) (wtr : Writer) (s : State) : Out :=
  let usable := regionUsable (s.rd (Reg.HEDDLE_REGION_LEN.at n)) (s.rd (Reg.HEDDLE_REGION_START.at n))
    (s.rd (Reg.HEDDLE_REGION_WRAP.at n)) (s.rd (Reg.HEDDLE_STAT_PC.at n))
  .next (if !holderAllows (s.heddleHolder n) wtr || s.hdState n != 0 || s.limping then s
    else if !usable then s.hdFault n 2
    else ((s.setHd n { s.hd n with lev := s.rd (Reg.HEDDLE_SAFE_SAFE.at n),
                                   oe := s.rd (Reg.HEDDLE_SAFE_SAFE_OE.at n) }).wr (Reg.HEDDLE_CTRL_EN.at n) 1).wr
            (Reg.HEDDLE_STAT_STATE.at n) 1)

/-- HEDDLE_DISABLE (R632): it stops in its next cycle, HOLD abandoned. -/
def execHeddleDisable (n : Fin 16) (wtr : Writer) (s : State) : Out :=
  .next (if holderAllows (s.heddleHolder n) wtr ∧ (s.hdState n = 1 ∨ s.hdState n = 2) then s.hdStop n else s)

/-- RESTART (R614, R632). -/
def execRestart (n : Fin 16) (wtr : Writer) (s : State) : Out :=
  let h := s.hd n
  .next (if holderAllows (s.heddleHolder n) wtr ∧ (s.hdState n = 0 ∨ s.hdState n = 3) then
      let s1 := s.setHd n { h with sl := 0, cl := 0, cn := 0, slen := 32, sn := 32, t := 0, angLatch := false,
                                   timeLatch := false }
      ((((s1.wr (Reg.HEDDLE_STAT_PC.at n) (s.rd (Reg.HEDDLE_REGION_START.at n))).wr (Reg.HEDDLE_CNT_CNT.at n) 0).wr
        (Reg.HEDDLE_STAT_FLAG.at n) 0).wr (Reg.HEDDLE_STAT_FAULT.at n) 0).wr (Reg.HEDDLE_STAT_STATE.at n) 0
    else s)

/-- FLUSH (R634): both queues are emptied. -/
def execFlush (n : Fin 16) (wtr : Writer) (s : State) : Out :=
  .next (if holderAllows (s.heddleHolder n) wtr then (s.hdSetTx n []).hdSetRx n [] else s)

/-- SPLIT_WRITE (R629). -/
def execSplitWrite (n : Fin 16) (wtr : Writer) (split : Fin 16) (s : State) : Out :=
  .next (if holderAllows (s.heddleHolder n) wtr ∧ split.val ≤ 4 ∧ s.hdState n = 0 then
      ((s.hdSetTx n []).hdSetRx n []).wr (Reg.HEDDLE_CTRL_SPLIT.at n) split.val
    else s)

/-- A base-clock edge of Heddle `n` (R609): its phase sum gains 256; where that reaches the divider in force, a Heddle cycle begins,
and the divider written takes effect (R611). -/
def State.tickHeddle (s : State) (n : Nat) : State :=
  let h := s.hd n
  let p := h.phase + 256
  s.setHd n (if p < h.div then { h with phase := p } else { h with phase := p - h.div, div := s.rd (Reg.HEDDLE_DIV_D.at n) })

/-- One SCLK cycle of the Heddle clocks: the base clock is SCLK / 8, 375 MHz (R609). -/
def State.tickHeddles (s : State) : State := if s.cycle % 8 = 0 then s.each (List.range 16) State.tickHeddle else s

/-- HEDDLE_DIV_WRITE (R609, R611): the divider written takes effect at the next Heddle cycle boundary. -/
def execHeddleDivWrite (n : Fin 16) (wtr : Writer) (d : BitVec 24) (s : State) : Out :=
  .next (if holderAllows (s.heddleHolder n) wtr ∧ 256 ≤ d.toNat then s.wr (Reg.HEDDLE_DIV_D.at n) d.toNat else s)

/-- The run of block words that an image's writer may use for Heddle `n` (R604): first word and length; a Heddle that no
image holds may use its whole block. -/
def State.hdRun (s : State) (n : Nat) : Nat × Nat :=
  match s.heddleHolder n with
  | none => (0, 128)
  | some k => if n < 8 then ((s.slot k).base0, (s.slot k).words0) else ((s.slot k).base1, (s.slot k).words1)

/-- REGION_WRITE (R604 to R606): a region outside the run leaves BASE and LEN; a write that would make the region of a
Heddle in RUN or WAIT unusable leaves REGION. -/
def execRegionWrite (n : Fin 16) (wtr : Writer) (base len start wrap : Nat) (s : State) : Out :=
  let run := s.hdRun n
  let inside := wtr == .weaver || (decide (run.1 ≤ base) && decide (base + len ≤ run.1 + run.2))
  let ok := decide (base < 128) && decide (len ≤ 128) && inside
  let base' := if ok then base else s.rd (Reg.HEDDLE_REGION_BASE.at n)
  let len' := if ok then len else s.rd (Reg.HEDDLE_REGION_LEN.at n)
  let active := s.hdState n == 1 || s.hdState n == 2
  .next (if !(wtr == .weaver || holderAllows (s.heddleHolder n) wtr) then s
    else if active && !regionUsable len' (start % 128) (wrap % 128) (s.rd (Reg.HEDDLE_STAT_PC.at n)) then s
    else (((s.wr (Reg.HEDDLE_REGION_BASE.at n) base').wr (Reg.HEDDLE_REGION_LEN.at n) len').wr
      (Reg.HEDDLE_REGION_START.at n) start).wr (Reg.HEDDLE_REGION_WRAP.at n) wrap)

/-- Whether another slot than slot `k` of Heddle `n` drives pin `p` (R622). -/
def State.pinClaimed (s : State) (n k p : Nat) : Bool :=
  (List.range 16).any (fun m => (List.range 8).any (fun j =>
    (m != n || j != k) && (let b := s.slotByte m j; b % 64 == p && bitOf b 6)))

/-- The FIELD bit of the channel of an internal pin 32 to 41 (Tables 09-5, 10-4). -/
def pinChannel (p : Nat) : Nat := if p < 34 then 4 else if p < 36 then 5 else if p < 39 then 2 else 3

/-- Whether slot `k` of Heddle `n` may take a map byte (R622, Table 10-4). -/
def State.claimOk (s : State) (n k b : Nat) : Bool :=
  let p := b % 64
  if !bitOf b 6 then true
  else if 42 ≤ p || s.pinClaimed n k p then false
  else if 32 ≤ p then
    match s.heddleHolder n with
    | none => true
    | some j => s.fieldHolder (pinChannel p) == some j
  else true

/-- Put the map byte of slot `k`. -/
def State.putSlotByte (s : State) (n k b : Nat) : State :=
  let f := if k < 4 then Reg.HEDDLE_SLOTMAP0_V.at n else Reg.HEDDLE_SLOTMAP1_V.at n
  let sh := 8 * (k % 4)
  s.wr f (s.rd f - fieldOf (s.rd f) sh 8 * 2 ^ sh + b * 2 ^ sh)

/-- SLOTMAP_WRITE (R621, R622): register `hi` (slots 4 to 7) or not (slots 0 to 3), each byte on its own. -/
def execSlotmapWrite (n : Fin 16) (wtr : Writer) (hi : Bool) (v : Word) (s : State) : Out :=
  .next (if !holderAllows (s.heddleHolder n) wtr then s
    else s.each (List.range 4) (fun s j =>
      let k := if hi then 4 + j else j
      let b := fieldOf v.toNat (8 * j) 8
      if s.claimOk n k b then s.putSlotByte n k b else s.wr (Reg.HEDDLE_STAT_CLAIM_REFUSED.at n) 1))

/-- Whether block word `w` lies in the run of the image in slot `k`. -/
def State.inRun (s : State) (k b w : Nat) : Bool :=
  let base := if b = 0 then (s.slot k).base0 else (s.slot k).base1
  let len := if b = 0 then (s.slot k).words0 else (s.slot k).words1
  decide (base ≤ w) && decide (w < base + len)

/-- PROGRAM_WORD_WRITE (R603, R607): refused with PROG_REFUSED on each Heddle in RUN or WAIT whose region holds the word;
an image reaches only its own run. -/
def execProgramWordWrite (b : Fin 2) (w : Fin 128) (wtr : Writer) (v : BitVec 24) (s : State) : Out :=
  let hit := (List.range 8).map (8 * b.val + ·) |>.filter (fun n =>
    let base := s.rd (Reg.HEDDLE_REGION_BASE.at n)
    (s.hdState n == 1 || s.hdState n == 2) && decide (base ≤ w.val) &&
      decide (w.val < base + s.rd (Reg.HEDDLE_REGION_LEN.at n)))
  let own := match wtr with
    | .image k => s.inRun k.val b.val w.val
    | _ => true
  .next (if !own then s
    else if !hit.isEmpty then s.each hit (fun s n => s.wr (Reg.HEDDLE_STAT_PROG_REFUSED.at n) 1)
    else { s with hed := { s.hed with prog := s.hed.prog.set 0 (b.val * 128 + w.val) v.toNat } })

/-- TXQ_WRITE (R630). -/
def execTxqWrite (n : Fin 16) (wtr : Writer) (v : Word) (s : State) : Out :=
  .next (if !holderAllows (s.heddleHolder n) wtr then s
    else if (s.hd n).txq.length < s.hdTxSize n then s.hdSetTx n ((s.hd n).txq ++ [v.toNat])
    else s.wr (Reg.HEDDLE_STAT_TX_OVF.at n) 1)

/-- RXQ_READ (R630): the oldest word is popped, and an empty queue reads 0. -/
def execRxqRead (n : Fin 16) (s : State) : Out :=
  .next (match (s.hd n).rxq with
    | [] => { s with readData := 0 }
    | w :: q => { s.hdSetRx n q with readData := BitVec.ofNat 32 w })

/-- TTARGET_WRITE (R619). -/
def execTtargetWrite (n : Fin 16) (wtr : Writer) (v : Word) (s : State) : Out :=
  .next (if holderAllows (s.heddleHolder n) wtr then
      (s.setHd n { s.hd n with armed := true }).wr (Reg.HEDDLE_TTARGET_V.at n) v.toNat
    else s)

/-- BYPASS_WRITE (R627, R646): each bit changes only for the image that holds its RS-485 channel; while it is set the UART
reads TX_BUSY 0 and sends nothing. -/
def execBypassWrite (wtr : Writer) (v : BitVec 2) (s : State) : Out :=
  .next (s.each [0, 1] (fun s k =>
    match wtr, s.fieldHolder (2 + k) with
    | .image j, some h =>
      if j.val = h then
        let s1 := s.wrBit Reg.HEDDLE_BYPASS_RS485 k (v.getLsbD k)
        if v.getLsbD k then
          ({ s1 with hed := { s1.hed with uart := s1.hed.uart.upd {} k (fun u => { u with sending := none, onBus := false, de := false }) } }).wr
            (Reg.UART_STAT_TX_BUSY.at k) 0
        else s1
      else s
    | _, _ => s))

/-- DALI_CURRENT_LIMIT (R628, R637). -/
def execDaliCurrentLimit (i : Fin 2) (s : State) : Out :=
  .next ((if i.val = 0 then s.wr Reg.HEDDLE_DALI_STAT_SHORT0 1 else s.wr Reg.HEDDLE_DALI_STAT_SHORT1 1).event 0x0A02 i [])

end Sys2Proof.Machine
end

