-- ==== Sys2Proof/Machine/PowerStage.lean ====
section
/-! DEFINITION. Commands of the power stages, the ADC sequences and the PCP (chapter 14). -/
namespace Sys2Proof.Machine

/-! ### Group commands and states (Table 14-2) -/

/-- Start a DISABLED group where R864 holds. -/
def State.grTryStart (s : State) (g : Nat) : State :=
  if s.grState g = 0 ∧ s.waitReason g = 0 then s.grPrecheck g else s

/-- GROUP_START (R864, R865). -/
def execGroupStart (g : Fin 4) (s : State) : Out := .next (s.grTryStart g)

/-- GROUP_STOP (R865). -/
def execGroupStop (g : Fin 4) (s : State) : Out := .next (s.grRamp g)

/-- GROUP_PARK (R865). -/
def execGroupPark (g : Fin 4) (s : State) : Out := .next (s.grPark g)

/-- GROUP_CLEAR (R865, R872, R878): the latched fault is released; PCP_HALT stays until the PCP runs again. -/
def State.grClear (s : State) (g : Nat) : State :=
  if s.grFault g = 9 ∧ !s.pcpRuns then s
  else
    let s1 := s.wr (Reg.PWM_G_STAT_FAULT.at g) 0
    if 5 ≤ s.grState g then s1.grTo g 0 else s1

/-- GROUP_CLEAR (R865). -/
def execGroupClear (g : Fin 4) (s : State) : Out := .next (s.grClear g)

/-- START_CONDITIONS_MET (R864). -/
def execStartConditionsMet (g : Fin 4) (s : State) : Out := .next (s.grTryStart g)

/-- Whether an ISEN mean is at or beyond 90 % of full scale (R866). -/
def openSense (diff : Bool) (mean : Int) : Bool :=
  if diff then decide (9 * 8192 ≤ 10 * mean.natAbs) else decide (9 * 16384 ≤ 10 * mean)

/-- Whether the gate-driver input of a phase of group `g` is at its active level (R859). -/
def State.gateFault (s : State) (g : Nat) : Bool :=
  (List.range 8).any (fun n => s.bit (Reg.PWM_G_CFG_PHASES.at g) n && s.bit Reg.PWM_STAT_GDFLT n)

/-- SCLK cycles since a group entered its state, or its ramp began. -/
def State.grAge (s : State) (g : Nat) : Nat := s.cycle - (s.gr g).rampCycle

/-- PRECHECK_DONE (R865 to R867): 64 µs have passed; `vout`, `vin` and `isen` (phase 0 first) are the means of the 16 conversions. Phases with open
sense are dropped with event 0x0E02; a gate-driver input at its active level faults the group with GATE_DRIVER (R891), and where no
phase is left it faults with NO_PHASE; else SOFTSTART begins. -/
def execPrecheckDone (g : Fin 4) (vout vin : Fin 16384) (isen : List Int) (s : State) : Out :=
  let bad := (s.activePhases g).filter (fun n => openSense (s.isenDiff n) (isen.getD n 0))
  let good := (s.activePhases g).filter (fun n => !openSense (s.isenDiff n) (isen.getD n 0))
  let vo := voltMv vout (s.grCfg 0x4010 g 0x15 65536)
  let vi := voltMv vin (s.grCfg 0x4010 g 0x16 65536)
  let per := s.rd (Reg.PWM_G_PERIOD_PERIOD.at g)
  let dc := decide (s.grKind g ≠ 2) && !s.grAngle g
  let bias := if !dc then 0
    else if s.grKind g = 0 then min per (per * vo / max 1 vi)
    else per - min per (per * vi / max 1 vo)
  .next (if s.grState g ≠ 1 ∨ s.grAge g < 192000 then s
    else
      let s1 := s.each bad (fun s n =>
        ((s.setPh n { s.ph n with dropped := 1 }).wr (Reg.PWM_PH_STAT_STATE.at n) 2).event 0x0E02 n [1])
      let s2 := s1.wr (Reg.PWM_G_STAT_ACTIVE.at g) ((good.map (2 ^ ·)).sum)
      let s3 := s2.setGr g { s2.gr g with order := good, vout := vo, vin := vi, prebias := bias, integ := bias,
                                          refStart := if dc then vo else 0, ref := if dc then vo else 0, rampCycle := s.cycle,
                                          pos := per, len := per }
      if s.gateFault g then s3.grFaults g 6
      else if good.isEmpty then s3.grFaults g 11
      else (s3.wr (Reg.PWM_G_STAT_SB_INHIBIT.at g) (b2n dc)).grTo g 2)

/-- SOFTSTART_DONE (R865): SOFTSTART_MS have passed. -/
def execSoftstartDone (g : Fin 4) (s : State) : Out :=
  .next (if s.grState g = 2 ∧ s.grCfg 0x4010 g 0x0B 20 * 3000000 ≤ s.grAge g then s.grTo g 3 else s)

/-- GROUP_RETRY (R874): RETRY_DELAY_MS have passed since the fault; event 0x0E03 carries the retry number. -/
def execGroupRetry (g : Fin 4) (s : State) : Out :=
  .next (if s.grState g ≠ 6 ∨ s.grAge g < s.grCfg 0x4010 g 0x1D 1000 * 3000000 then s
    else (s.event 0x0E03 g [(s.gr g).retries]).grPrecheck g)

/-! ### The control loop (R861) -/

/-- The share of the reference that RAMPDOWN has taken off, over 2^32 (R867): RAMP_MS of slope from where the ramp began, and under the
ramp cap no more than 2 ms from the capping trigger (R130), from which on the remainder slopes to zero. -/
def State.rampShare (s : State) (g : Nat) : Nat :=
  let v := s.gr g
  let ramp := max 1 (s.grCfg 0x4010 g 0x0A 10) * 3000000
  let one := 2 ^ 32
  let plain (c : Nat) : Nat := min (c - v.rampCycle) ramp * one / ramp
  let start := max v.rampCycle s.pow.capCycle
  let left := min (v.rampCycle + ramp) (s.pow.capCycle + 6000000) - start
  if !s.pow.capActive || decide (v.rampCycle + ramp ≤ s.pow.capCycle + 6000000) then plain s.cycle
  else if left = 0 then one
  else plain start + (one - plain start) * min (s.cycle - start) left / left

/-- RAMPDOWN_DONE (R865): the reference is at zero; a ramp that SEQUENCE began ends in FAULT. -/
def execRampdownDone (g : Fin 4) (s : State) : Out :=
  .next (if s.grState g ≠ 4 ∨ s.rampShare g < 4294967296 then s
    else if (s.gr g).seqFault then s.grFaults g 8
    else s.grDisable g)

/-- The reference at a loop step in mV (R867 to R869): it slopes from where its ramp began to its target over SOFTSTART_MS, to zero
over RAMP_MS, and in ANGLE_MODE adds AMPLITUDE_MV × T(a), whose amplitude the soft start ramps. -/
def State.loopRef (s : State) (g : Nat) : Int :=
  let v := s.gr g
  let elapsed := s.cycle - v.rampCycle
  let soft := s.grCfg 0x4010 g 0x0B 20 * 3000000
  let vref : Int := s.grCfg 0x4018 g 2 0
  let amp : Int := s.grCfg 0x4018 g 3 0
  let dc := decide (s.grKind g ≠ 2) && !s.grAngle g
  let part (full : Int) : Int := if s.grState g = 2 then full * min elapsed soft / soft else full
  let off := signed 32 (s.grCfg 0x4010 g 0x18 0)
  let a := ((((s.ang % 65536 : Nat) : Int) + off) % 65536).toNat
  let target :=
    if dc then (if s.grState g = 2 then v.refStart + (vref - v.refStart) * min elapsed soft / soft else vref)
    else if s.grAngle g then vref + part (amp * tableAt v.table a) / 65536
    else part vref
  if s.grState g = 4 then v.refStart - v.refStart * s.rampShare g / 4294967296 else target

/-- The mean of signed numbers over `n`, rounded down. -/
def meanInt (l : List Int) (n : Nat) : Int := l.sum / ((max 1 n : Nat) : Int)

/-- How many loop steps a window of `ms` milliseconds holds (R861). -/
def State.loopSteps (s : State) (g ms : Nat) : Nat :=
  max 1 (48000000000 * ms / 1000 / max 1 (s.rd (Reg.PWM_G_PERIOD_PERIOD.at g) * s.grCfg 0x4010 g 0x10 1))

/-- The group's mean phase current over `n` steps of current samples, newest first. -/
def winMean (win : List (List Int)) (n k : Nat) : Int := meanInt ((win.take n).map (fun r => meanInt r k)) n

/-- The mean current of the phase at position `i` over `n` steps. -/
def winPhase (win : List (List Int)) (n i : Nat) : Int := meanInt ((win.take n).map (fun r => r.getD i 0)) n

/-- The phase of a phase-fail (R873): the first of at least two active phases that carries less than 10 % of the group's mean over
PF_MS, where that mean is at least PF_MIN_MA. -/
def State.pfPhase (s : State) (g : Nat) (phases : List Nat) (win : List (List Int)) : Option Nat :=
  let n := s.loopSteps g (s.grCfg 0x4020 g 6 20)
  let mean := winMean win n phases.length
  if 2 ≤ phases.length && decide (n ≤ win.length) && decide ((s.grCfg 0x4020 g 7 0 : Int) ≤ mean) then
    ((List.range phases.length).find? (fun i => decide (10 * winPhase win n i < mean))).map (fun i => phases.getD i 0)
  else none

/-- The first fault that a loop step finds (R872, R873, R875): 0 where none. `win` holds the current samples, newest first. -/
def State.loopFault (s : State) (g : Nat) (v : Group) (phases : List Nat) (win : List (List Int)) : Nat :=
  let n := s.loopSteps g (s.grCfg 0x4020 g 4 10)
  if 2 ≤ v.ov then 1
  else if 8 ≤ v.uv then 2
  else if n ≤ win.length && decide ((s.grCfg 0x4020 g 3 0 : Int) < winMean win n phases.length) then 4
  else if (s.pfPhase g phases win).isSome then 5
  else 0

/-- Drop a phase for phase-fail with PF_ACTION 0 (R873): the others are re-placed under R838 from the next group period on. -/
def State.dropPhase (s : State) (g n : Nat) : State :=
  let s1 := (s.setPh n { writes := (s.ph n).writes, dropped := 2 }).wr (Reg.PWM_PH_STAT_STATE.at n) 2
  let s2 := s1.wrBit (Reg.PWM_G_STAT_ACTIVE.at g) n false
  let v := s2.gr g
  (s2.setGr g { v with nextOrder := some ((v.nextOrder.getD v.order).filter (· != n)), window := [] }).event 0x0E02 n [2]

/-- The equalisation trims after a loop step (R845): KEQ × (mean − current) is added, each trim clamped to ± 2 % of PERIOD and the
sum kept at zero; a truncated period does not update its phase (R846). -/
def State.loopTrims (s : State) (g : Nat) (phases : List Nat) (cur : List Int) : List Int :=
  let per : Int := s.rd (Reg.PWM_G_PERIOD_PERIOD.at g)
  let mean := cur.sum / (max 1 phases.length : Nat)
  let lim := per * 2 / 100
  let raw := (phases.zip cur).map (fun x =>
    let t := signed 16 (s.rd (Reg.PWM_PH_TRIM_TRIM.at x.1))
    if (s.ph x.1).cut then t else clampInt (-lim) lim (t + per * (mean - x.2) / 256000))
  spreadTrim lim raw.sum raw

/-- LOOP_STEP (R861): the PCP is woken by the group's tick; with valid results it computes the reference, the PI law and the trims
and writes every DUTY, which each phase loads at its next period start (R841), and the protections are judged; an invalid result holds the DUTY (R854); a PCP that does not run writes no
DUTY, and the 16th such step parks the group with PCP_HALT (R863). -/
def execLoopStep (g : Fin 4) (s : State) : Out :=
  let s0 := s.wakePcp
  let v := s0.gr g
  let phases := s0.activePhases g
  let vo := s0.seqResult g (8 + s0.grCfg 0x4010 g 0x13 0)
  let vi := s0.seqResult g (8 + s0.grCfg 0x4010 g 0x14 1)
  let cur := phases.map (fun n => (s0.seqResult g n).map (fun c => currentMa (s0.isenDiff n) c (s0.iScale n)))
  .next (if !s0.grSwitching g then s
    else if !s0.pcpRuns then
      let s1 := s0.setGr g { v with noDuty := v.noDuty + 1 }
      if 16 ≤ v.noDuty + 1 then s1.grFaults g 9 else s1
    else
      match vo, vi with
      | some co, some ci =>
        if cur.any Option.isNone then
          let s1 := s0.setGr g { v with invalid := v.invalid + 1, noDuty := 0 }
          if s0.grCfg 0x4020 g 9 4 ≤ v.invalid + 1 then s1.grFaults g 7 else s1
        else
          let cs := cur.map (fun x => x.getD 0)
          let mv := voltMv co.toNat (s0.grCfg 0x4010 g 0x15 65536)
          let miv := voltMv ci.toNat (s0.grCfg 0x4010 g 0x16 65536)
          let off := signed 32 (s0.grCfg 0x4010 g 0x18 0)
          let a := ((((s0.ang % 65536 : Nat) : Int) + off) % 65536).toNat
          let swap := decide (a < v.lastA) && v.standby.isSome
          let v0 := { v with lastA := a, table := if swap then v.standby.getD [] else v.table,
                             standby := if swap then none else v.standby }
          let s1 := s0.setGr g v0
          let ref := s1.loopRef g
          let per := s1.rd (Reg.PWM_G_PERIOD_PERIOD.at g)
          let law := Config.loopLaw (s1.grCfg 0x4010 g 0x11 3277) (s1.grCfg 0x4010 g 0x12 131) (ref - mv) v0.integ per
          let hold := s1.on (Reg.PWM_G_STAT_SB_INHIBIT.at g) && decide (ref < mv)
          let duty : Int := if hold then 0 else law.2
          let keep := max (s1.loopSteps g (s1.grCfg 0x4020 g 4 10)) (s1.loopSteps g (s1.grCfg 0x4020 g 6 20))
          let win := (cs :: v0.window).take keep
          let v1 := { v0 with ref := ref, integ := law.1, noDuty := 0, invalid := 0, window := win, vout := mv, vin := miv,
                              iout := cs.sum, ov := if s1.grCfg 0x4020 g 1 0 < mv then v0.ov + 1 else 0,
                              uv := if s1.grState g = 3 ∧ mv < s1.grCfg 0x4020 g 2 0 then v0.uv + 1 else 0 }
          let s2 := s1.setGr g v1
          let trims := s1.loopTrims g phases cs
          let s3 := if s1.on (Reg.PWM_G_CFG_EQ_EN.at g) && decide (2 ≤ phases.length) then
              s2.each (phases.zip trims) (fun s x => s.wr (Reg.PWM_PH_TRIM_TRIM.at x.1) (unsigned 16 x.2))
            else s2
          let s4 := s3.each (phases.zip cs) (fun s x =>
            (s.setPh x.1 { s.ph x.1 with current := x.2, cut := false }).dutyPut x.1 (min duty.toNat (2 ^ 24 - 1)))
          let release := s4.on (Reg.PWM_G_STAT_SB_INHIBIT.at g) &&
            decide ((v1.prebias + per * s4.grCfg 0x4010 g 0x19 10 / 1000 : Nat) < duty)
          let s5 := s4.wrIf release (Reg.PWM_G_STAT_SB_INHIBIT.at g) 0
          let mean := cs.sum / (max 1 phases.length : Nat)
          let de := s5.on (Reg.PWM_G_STAT_DE_ACTIVE.at g)
          let de' := s5.on (Reg.PWM_G_CFG_DE_EN.at g) && decide (s5.grKind g ≠ 2) &&
            (if de then decide (mean ≤ (s5.grCfg 0x4010 g 0x1B 1 : Int)) else decide (mean < (s5.grCfg 0x4010 g 0x1A 0 : Int)))
          let s6 := s5.wr (Reg.PWM_G_STAT_DE_ACTIVE.at g) (b2n de')
          match s6.loopFault g v1 phases win with
          | 0 => s6
          | 5 =>
            if s6.grCfg 0x4020 g 8 0 = 1 then s6.grFaults g 5
            else match s6.pfPhase g phases win with
              | some n => s6.dropPhase g n
              | none => s6
          | c => s6.grFaults g c
      | _, _ =>
        let s1 := s0.setGr g { v with invalid := v.invalid + 1, noDuty := 0 }
        if s0.grCfg 0x4020 g 9 4 ≤ v.invalid + 1 then s1.grFaults g 7 else s1)

/-! ### PWM generation -/

/-- PWM_SYNC_EVENT (R842, R843): for an angle event that reached the group (SYNC_SRC 1), or once SYNC_TARGET is reached (SYNC_SRC 2),
which then advances, the time e from the nearest group period start is measured, and the periods to come remove it; SYNCED shows |e| of at
most 1 SCLK cycle. -/
def execPwmSyncEvent (g : Fin 4) (s : State) : Out :=
  let e := s.syncError g
  let src := s.rd (Reg.PWM_G_CFG_SYNC_SRC.at g)
  let t := s.rd (Reg.PWM_G_SYNC_V.at g)
  let due := if src = 1 then (s.gr g).syncDue
    else decide (src = 2) && decide (0 ≤ signed 32 (shortOf s.time.dt + 2 ^ 32 - t))
  .next (if !due then s
    else
      let s1 := if src = 2 then s.wr (Reg.PWM_G_SYNC_V.at g) (t + s.rd (Reg.PWM_G_SYNCPER_V.at g)) else s
      (s1.setGr g { s1.gr g with syncDue := false, syncErr := e }).wr (Reg.PWM_G_STAT_SYNCED.at g) (b2n (decide (e.natAbs ≤ 16))))

/-- PHASE_ROTATION (R844): once ROTATE_PERIODS group periods have passed, the periods that start in the next group period are lengthened,
and after it the phase that fired last fires first. -/
def execPhaseRotation (g : Fin 4) (s : State) : Out :=
  .next (if s.on (Reg.PWM_G_CFG_ROT_EN.at g) && s.grSwitching g && decide (s.rd (Reg.PWM_G_CFG_ROT_N.at g) + 1 ≤ (s.gr g).periods) then
      s.setGr g { s.gr g with rotate := true, periods := 0 }
    else s)

/-- DUTY_WRITE (R840, R841): the shadow takes `v`, and the phase loads it at the first period start at least 20 ns later. -/
def execDutyWrite (n : Fin 8) (v : BitVec 24) (s : State) : Out :=
  let s1 := s.dutyPut n v.toNat
  .next (match s.groupOf n with
    | none => s1
    | some g => s1.setGr g { s1.gr g with noDuty := 0 })

/-- A phase's period is truncated (R857, R858): its main switch turns off for the rest of the period. Truncation in OC_CBC_LIMIT
consecutive periods faults the group with OC_CBC. -/
def State.truncate (s : State) (g n : Nat) : State :=
  let p := s.ph n
  let run := if p.truncated then p.cbcRun else p.cbcRun + 1
  let s1 := (s.setPh n { p with cbcRun := run, loaded := p.since.getD 0, truncated := true, cut := true }).wr (Reg.PWM_PH_STAT_CBC.at n) 1
  if s1.grCfg 0x4020 g 5 8 ≤ run then s1.grFaults g 3 else s1

/-- TRIP_LINE_EDGE (R857, R858): the comparator that TRIPSEL names acts as TRIPACT says; a main switch that is off is not truncated. -/
def execTripLineEdge (t : Fin 8) (s : State) : Out :=
  let n := fieldOf (s.rd Reg.PWM_TRIPSEL_SEL) (4 * t.val) 4 % 8
  let s0 := s.wrBit Reg.PWM_STAT_TRIP_SEEN t true
  .next (match fieldOf (s.rd Reg.PWM_TRIPACT_ACT) (2 * t.val) 2, s.groupOf n with
    | 0, some g => if s.mainOn n then (s0.truncate g n).wakePcp else s0
    | 1, some g => s0.grFaults g 10
    | 2, _ => s0.each (List.range 4) (fun s g => s.grFaults g 10)
    | _, _ => s0)

/-- GATE_DRIVER_FAULT (R859): the input has been at its active level for GD_FILTER_NS, or (`active` false) has left it. -/
def execGateDriverFault (n : Fin 8) (active : Bool) (s : State) : Out :=
  let s0 := s.wrBit Reg.PWM_STAT_GDFLT n active
  .next (if !active then s0
    else
      let s1 := s0.wrBit Reg.PWM_STAT_GDFLT_SEEN n true
      match s.groupOf n with
      | none => s1
      | some g => s1.grFaults g 6)

/-- ZCD_EDGE (R847): while diode emulation is active the synchronous switch of the phase turns off for the rest of the period. -/
def execZcdEdge (n : Fin 8) (s : State) : Out :=
  .next (match s.groupOf n with
    | none => s
    | some g =>
      if s.on (Reg.PWM_G_STAT_DE_ACTIVE.at g) && s.bit (Reg.PWM_G_STAT_ACTIVE.at g) n then
        s.setPh n { s.ph n with syncOff := true }
      else s)

/-! ### ADC sequences -/

/-- A trigger of sequence `k` (R852): dropped with OVR while it converts. -/
def State.seqTrigger (s : State) (k : Nat) : State :=
  if bitOf s.pwm.converting k then s.wr (Reg.ADC_SEQ_STAT_OVR.at k) 1
  else { s with pwm := { s.pwm with converting := setBit s.pwm.converting k true } }

/-- SEQ_GO (R851). -/
def execSeqGo (k : Fin 8) (s : State) : Out :=
  .next (if s.rd (Reg.ADC_SEQ_CFG_TRIG.at k) = 1 then s.seqTrigger k else s)

/-- SEQ_PWM_TRIGGER (R851). -/
def execSeqPwmTrigger (k : Fin 8) (s : State) : Out :=
  .next (if s.rd (Reg.ADC_SEQ_CFG_TRIG.at k) = 2 then s.seqTrigger k else s)

/-- SEQ_TIME_TRIGGER (R851): the target advances by its period. -/
def execSeqTimeTrigger (k : Fin 8) (s : State) : Out :=
  let t := s.rd (Reg.ADC_SEQ_TT_V.at k)
  .next (if s.rd (Reg.ADC_SEQ_CFG_TRIG.at k) = 4 ∧ 0 ≤ signed 32 (shortOf s.time.dt + 2 ^ 32 - t) then
      (s.seqTrigger k).wr (Reg.ADC_SEQ_TT_V.at k) (t + s.rd (Reg.ADC_SEQ_TP_V.at k))
    else s)

/-- The calibration offset of a core (R855). -/
def State.calOffset (s : State) (c : Nat) : Int :=
  signed 8 (s.rd (match c with
    | 0 => Reg.ADC_CAL_OFF0
    | 1 => Reg.ADC_CAL_OFF1
    | 2 => Reg.ADC_CAL_OFF2
    | _ => Reg.ADC_CAL_OFF3))

/-- The median of three numbers. -/
def median (a b c : Int) : Int := max (min a b) (min (max a b) c)

/-- The sample of a channel, invalid where the die link marked it (R854): with its MEDIAN bit the median of three conversions (R853). -/
def State.sampleOf (s : State) (ch : Nat) : Option Int :=
  let l := s.pwm.samples.get [] ch
  if s.bit (if ch < 8 then Reg.ADC_CHCFG_ISEN_MED else Reg.ADC_CHCFG_VSEN_MED) (ch % 8) then
    match l with
    | some a :: some b :: some c :: _ => some (median a b c)
    | _ => none
  else l.headD none

/-- SEQUENCE_DONE (R850, R852, R854, R855): each listed channel's sample, less its core's offset, becomes a result; an invalid one
reads VALID 0 with a free CODE; DONE is set and the PCP woken. -/
def execSequenceDone (k : Fin 8) (s : State) : Out :=
  .next (if !bitOf s.pwm.converting k then s
    else
      let s1 := s.each (List.range (s.rd (Reg.ADC_SEQ_CFG_COUNT.at k) + 1)) (fun s i =>
        let ch := fieldOf (s.rd (Reg.ADC_SEQ_CH_CH.at k)) (4 * i) 4
        let code := Reg.ADC_SEQ_RES_CODE.at2 k i
        let valid := Reg.ADC_SEQ_RES_VALID.at2 k i
        match s.sampleOf ch with
        | some raw =>
          let x := raw - s.calOffset (ch % 8 / 2)
          let y := if s.isenDiff ch then clampInt (-8192) 8191 x else clampInt 0 16383 x
          (s.wr code (unsigned 16 y)).wr valid 1
        | none =>
          let d := s.drawWord
          ((d.2.wr code d.1.toNat).wr valid 0).wr (Reg.ADC_SEQ_STAT_INVALID.at k) 1)
      let s2 : State := { s1 with pwm := { s1.pwm with converting := setBit s1.pwm.converting k false } }
      (s2.wr (Reg.ADC_SEQ_STAT_DONE.at k) 1).wakePcp)

/-- ADC_OFFSET_CALIBRATION (R855): a calibration conversion of core `c` takes its slot, or defers to a sequence; the offset is the
mean of the last 64. -/
def execAdcOffsetCalibration (c : Fin 4) (code : Int) (busy : Bool) (s : State) : Out :=
  let b := s.bgSlot 3 c busy
  let l := (code :: s.pwm.cal.get [] c).take 64
  let off := unsigned 8 (l.sum / (l.length : Nat))
  .next (if !b.1 then b.2
    else
      let s1 : State := { b.2 with pwm := { b.2.pwm with cal := b.2.pwm.cal.set [] c l } }
      s1.wr (match c.val with
        | 0 => Reg.ADC_CAL_OFF0
        | 1 => Reg.ADC_CAL_OFF1
        | 2 => Reg.ADC_CAL_OFF2
        | _ => Reg.ADC_CAL_OFF3) off)

/-- PCP_WAKE (R862): a write of PCP.WAKE by the Weaver. -/
def execPcpWake (s : State) : Out := .next s.wakePcp

/-- An angle event with TCODE 1 reaches group `g` (R842): its sync event waits for the measure of e. -/
def State.grSync (s : State) (g : Nat) : State :=
  if s.rd (Reg.PWM_G_CFG_SYNC_SRC.at g) = 1 then s.setGr g { s.gr g with syncDue := true } else s

/-- An angle event with TCODE 2 reaches sequence `k` (R851). -/
def State.seqAngle (s : State) (k : Nat) : State :=
  if s.rd (Reg.ADC_SEQ_CFG_TRIG.at k) = 3 then s.seqTrigger k else s

end Sys2Proof.Machine
end

