-- ==== Sys2Proof/Machine/Treadle.lean ====
section
/-! DEFINITION. The Treadle: mains angle, its states and the angle event units (chapter 03). -/
namespace Sys2Proof.Machine

/-! ### The accumulator -/

/-- The Treadle's state: 0 ACQUIRE, 1 LOCKED, 2 HOLDOVER, 3 SLEW (R169). -/
def State.trdSt (s : State) : Nat := s.rd Reg.TREADLE_STAT_STATE

/-- Enter a Treadle state; the flags HOLDOVER and ANG_VALID follow (R169). -/
def State.trdTo (s : State) (st : Nat) : State :=
  ((s.wr Reg.TREADLE_STAT_STATE st).wr Reg.TREADLE_STAT_HOLDOVER (b2n (st == 2))).wr Reg.TREADLE_STAT_ANG_VALID (b2n (st != 0))

/-- INC within its interval (R165). -/
def clampInc (n : Nat) : Nat := min 6567749 (max 3753000 n)

/-- A new stretch of INC begins in this SCLK cycle; the newest sixteen are kept. -/
def State.angSeg (s : State) : State :=
  let g : AngSeg := { cycle := s.cycle, acc := s.trd.acc, inc := s.rd Reg.TREADLE_INC_INC }
  { s with trd := { s.trd with segs := (g :: s.trd.segs.filter (fun h => h.cycle != s.cycle)).take 16 } }

/-- INC becomes `n`, clamped (R165). -/
def State.putInc (s : State) (n : Nat) : State := (s.wr Reg.TREADLE_INC_INC (clampInc n)).angSeg

/-- Set INC (R165); a phase correction that is being spread ends. -/
def State.setInc (s : State) (n : Nat) : State :=
  ({ s with trd := { s.trd with base := clampInc n, corrLeft := 0 } }).putInc n

/-- INC of NOMINAL_HZ (R165): 50 Hz or 60 Hz. -/
def State.incNominal (s : State) : Nat := if s.rd Reg.TREADLE_CTRL_NOMINAL = 1 then 5629500 else 4691250

/-- INC of a cycle that lasts `num / den` SCLK cycles (R165), rounded to nearest. -/
def incFor (num den : Nat) : Nat := if num = 0 then 0 else (2 * 2 ^ 48 * den + num) / (2 * num)

/-- OFFSET in ac (R166). -/
def State.angOffset (s : State) : Int := signed 16 (s.rd Reg.TREADLE_CTRL_OFFSET)

/-- The phase error of an ANG value (R167). -/
def State.phaseErr (s : State) (ang : Nat) : Int := signed 16 (unsigned 16 ((ang : Int) - s.angOffset))

/-- Spread a phase change of `num / den` ac over the following cycle, as a change of INC (R168, R177). -/
def State.spread (s : State) (num den : Int) : State :=
  let b := s.trd.base
  ({ s with trd := { s.trd with corrLeft := 2 ^ 48 / max 1 b } }).putInc
    ((b : Int) + roundDiv (num * (b : Int)) (65536 * den)).toNat

/-- ANG moves by `d` ac in one SCLK cycle, and with it the angle of the last MS0 crossing. -/
def State.angMove (s : State) (d : Int) : State :=
  ({ s with trd := { s.trd with acc := (((s.trd.acc : Int) + d * (2 ^ 32 : Nat)) % (2 ^ 64 : Nat)).toNat,
                                refAng := s.trd.refAng.map (fun r => unsigned 32 ((r : Int) + d)) } }).angSeg

/-- ANG and HOLD after one SCLK cycle (R164, R176). -/
def State.tickTreadle (s : State) : State :=
  let inc := s.rd Reg.TREADLE_INC_INC
  let f := s.trd.holdFrac + inc
  let s0 : State := { s with trd := { s.trd with acc := (s.trd.acc + inc) % 2 ^ 64, corrLeft := s.trd.corrLeft - 1 } }
  let s1 := if s.trd.corrLeft = 1 then s0.putInc s.trd.base else s0
  if s.trdSt ≠ 2 then s1
  else if f < 2 ^ 48 then { s1 with trd := { s1.trd with holdFrac := f } }
  else { s1.inc Reg.TREADLE_HOLD_HOLD with trd := { s1.trd with holdFrac := f - 2 ^ 48 } }

/-! ### Angle event units (R186 to R196) -/

/-- MODE of unit `n`. -/
def State.aevMode (s : State) (n : Nat) : Nat := s.rd (Reg.TREADLE_AEV_CFG_MODE.at n)

/-- PERIOD of unit `n` in use: mode 3 is once per cycle (R186). -/
def State.aevPeriod (s : State) (n : Nat) : Nat :=
  if s.aevMode n = 3 then 65536 else max 1 (s.rd (Reg.TREADLE_AEV_PERIOD_PERIOD.at n))

/-- R(PH): the angle of a phase reference (R187, R182). -/
def State.phaseRef (s : State) (ph : Nat) : Nat :=
  let swapped := s.on Reg.TREADLE_STAT_MAP
  match ph with
  | 0 => 0
  | 1 => if swapped then 43691 else 21845
  | 2 => if swapped then 21845 else 43691
  | _ => unsigned 32 (signed 16 (s.rd Reg.TREADLE_MS3_MS3_PHASE))

/-- ANG minus the effective target of unit `n`, signed (R187, R188). -/
def State.aevDiff (s : State) (n : Nat) : Int :=
  signed 32 (s.ang + 2 ^ 33 - s.rd (Reg.TREADLE_AEV_TARGET_TARGET.at n) - s.phaseRef (s.rd (Reg.TREADLE_AEV_CFG_PH.at n)))

/-- Whether unit `n` has reached its effective target. -/
def State.aevDue (s : State) (n : Nat) : Bool := s.aevMode n != 0 && decide (0 ≤ s.aevDiff n)

/-- Advance TARGET of a periodic unit by `k` periods (R190). -/
def State.aevAdvance (s : State) (n k : Nat) : State :=
  s.wr (Reg.TREADLE_AEV_TARGET_TARGET.at n) (s.rd (Reg.TREADLE_AEV_TARGET_TARGET.at n) + k * s.aevPeriod n)

/-- Unit `n` fires: FIRED, LASTTS, its interrupt, and LATE where `late`; a one-shot unit turns off, a periodic one advances (R189,
R190, R194). -/
def State.aevFires (s : State) (n : Nat) (late : Bool) : State :=
  let s1 := ((s.wr (Reg.TREADLE_AEV_CFG_FIRED.at n) 1).wr (Reg.TREADLE_AEV_LASTTS_LASTTS.at n) (shortOf s.time.dt)).wrIf late
    (Reg.TREADLE_AEV_CFG_LATE.at n) 1
  let s2 := if s.on (Reg.TREADLE_AEV_CFG_IRQ.at n) then
      ({ s1 with trd := { s1.trd with irq := s1.trd.irq ++ [n] } }).interruptWeaver
    else s1
  if s.aevMode n = 1 then s2.wr (Reg.TREADLE_AEV_CFG_MODE.at n) 0
  else
    let d := (s.aevDiff n).toNat
    if s.aevPeriod n < d then
      (s2.aevAdvance n (d / s.aevPeriod n + 1)).wr (Reg.TREADLE_AEV_CFG_SKIP.at n) 1
    else s2.aevAdvance n 1

/-- The target of unit `n`: TCODE × 32 + TIDX. -/
def State.aevTarget (s : State) (n : Nat) : Nat := s.rd (Reg.TREADLE_AEV_CFG_TCODE.at n) * 32 + s.rd (Reg.TREADLE_AEV_CFG_TIDX.at n)

/-- A firing reaches its target (R193, Table 03-3). -/
def State.aevDeliver (s : State) (tcode tidx : Nat) : State :=
  match tcode with
  | 1 => if tidx < 4 then s.grSync tidx else s
  | 2 => if tidx < 8 then s.seqAngle tidx else s
  | 3 => if tidx < 16 then s.hdAngle tidx else s
  | 4 => if tidx < 6 then s.agRestart tidx else s
  | 5 => if tidx < 2 then s.cnAngle tidx else s
  | 6 => if tidx < 8 then s.tpoAngle tidx else s
  | 7 => s.wakeShuttle tidx
  | _ => s

/-- The units of `l` fire in one SCLK cycle, in ascending order, and present their interrupts in that order; each target receives one
event (R195). -/
def State.aevFireAll (s : State) (l : List Nat) (late : Bool) : State :=
  let targets := (l.map s.aevTarget).dedup
  (({ s with trd := { s.trd with irq := if l.isEmpty then s.trd.irq else [] } }).each l (fun s n => s.aevFires n late)).each targets (fun s t => s.aevDeliver (t / 32) (t % 32))

/-- The units that fire in this SCLK cycle; none while the units are suspended in ACQUIRE (R188, R191). -/
def State.aevDueList (s : State) : List Nat := if s.trdSt = 0 then [] else (List.range 32).filter s.aevDue

/-- The units resume on leaving ACQUIRE (R191): a one-shot unit behind ANG sets LATE and turns off, a periodic one advances. -/
def State.aevResume (s : State) : State :=
  s.each (List.range 32) (fun s n =>
    if s.aevMode n = 0 ∨ s.aevDiff n ≤ 0 then s
    else if s.aevMode n = 1 then
      (s.wr (Reg.TREADLE_AEV_CFG_LATE.at n) 1).wr (Reg.TREADLE_AEV_CFG_MODE.at n) 0
    else s.aevAdvance n ((s.aevDiff n).toNat / s.aevPeriod n + 1))

/-- A step of ANG by `d` ac (R178): a forward step fires each passed unit once with LATE; the angle gate lists are placed anew. -/
def State.angStep (s : State) (d : Int) : State :=
  let s2 := (s.angMove d).rePlaceAngle
  if 0 < d then s2.aevFireAll s2.aevDueList true else s2

/-- A write of CFG (register 0), TARGET (1) or PERIOD (2) of unit `n` (R189, R196, R202): a unit armed, or given a TARGET, that is
already reached fires with LATE. -/
def State.aevWrite (s : State) (n : Nat) (reg : Nat) (v : Nat) : State :=
  let s1 :=
    match reg with
    | 0 =>
      let s0 := ((((s.wr (Reg.TREADLE_AEV_CFG_IRQ.at n) (fieldOf v 13 1)).wr (Reg.TREADLE_AEV_CFG_TIDX.at n) (fieldOf v 8 5)).wrIf
        (decide (fieldOf v 4 4 < 8)) (Reg.TREADLE_AEV_CFG_TCODE.at n) (fieldOf v 4 4)).wr (Reg.TREADLE_AEV_CFG_PH.at n)
        (fieldOf v 2 2)).wr (Reg.TREADLE_AEV_CFG_MODE.at n) (fieldOf v 0 2)
      ((s0.wrIf (bitOf v 16) (Reg.TREADLE_AEV_CFG_FIRED.at n) 0).wrIf (bitOf v 15) (Reg.TREADLE_AEV_CFG_SKIP.at n) 0).wrIf
        (bitOf v 14) (Reg.TREADLE_AEV_CFG_LATE.at n) 0
    | 1 => s.wr (Reg.TREADLE_AEV_TARGET_TARGET.at n) v
    | _ => s.wrIf (decide (16 ≤ v)) (Reg.TREADLE_AEV_PERIOD_PERIOD.at n) v
  if (reg = 1 ∨ (reg = 0 ∧ s.aevMode n = 0)) ∧ s1.trdSt ≠ 0 ∧ s1.aevDue n then s1.aevFireAll [n] true else s1

/-! ### Phase sequence (R180 to R184) -/

/-- SEQ_MISMATCH where SEQUENCE disagrees with MAP outside ACQUIRE (R184); the power stages react. -/
def State.seqCheck (s : State) : State :=
  let q := s.rd Reg.TREADLE_STAT_SEQ
  let m := s.rd Reg.TREADLE_STAT_MAP
  if s.trdSt ≠ 0 ∧ ((q = 1 ∧ m = 1) ∨ (q = 2 ∧ m = 0)) then (s.wr Reg.TREADLE_STAT_SEQ_MISMATCH 1).grSequence else s

/-- Whether angle `r` lies within 2,731 ac of `a`. -/
def near (r : Option Nat) (a : Nat) : Bool := r.any (fun x => decide (a ≤ x + 2731 ∧ x ≤ a + 2731))

/-- The verdict of a cycle (R180): 1 ABC, 2 ACB, 3 FAULT. -/
def seqVerdict (m1 m2 : Option Nat) : Nat :=
  if near m1 21845 && near m2 43691 then 1 else if near m1 43691 && near m2 21845 then 2 else 3

/-- Whether MS0, MS1 and MS2 are PRESENT. -/
def State.allPresent (s : State) : Bool := s.rd Reg.TREADLE_STAT_PRESENT % 8 == 7

/-- A cycle ends at an MS0 crossing whose ANG is `ang`: its verdict counts (R180, R181). -/
def State.seqCycle (s : State) (ang : Nat) : State :=
  let s1 :=
    if !s.allPresent then
      { s.wr Reg.TREADLE_STAT_SEQ 0 with trd := { s.trd with verdict := 0, verdictCount := 0 } }
    else if s.trd.refAng.isNone then s
    else
      let v := seqVerdict s.trd.ms1 s.trd.ms2
      let n := if v = s.trd.verdict then s.trd.verdictCount + 1 else 1
      let s0 := s.wrIf (decide (4 ≤ n)) Reg.TREADLE_STAT_SEQ v
      { s0 with trd := { s0.trd with verdict := v, verdictCount := n } }
  ({ s1 with trd := { s1.trd with refAng := some ang, ms1 := none, ms2 := none } }).seqCheck

/-! ### Crossings (R167 to R178, R197) -/

/-- The cross-timestamp record of a crossing `back` SCLK cycles ago (R197, R199). -/
def State.xtsPut (s : State) (ang back : Nat) (cand : Bool) : State :=
  let r : XtsRec := { ang := ang, aSec := clockSec (s.domBack 0 back), aNs := clockSub (s.domBack 0 back),
                      bSec := clockSec (s.domBack 1 back), bNs := clockSub (s.domBack 1 back), cand := cand,
                      aOk := s.domValid 0, bOk := s.domValid 1 }
  let full := decide (16 ≤ s.trd.xts.length)
  let l := (if full then s.trd.xts.drop 1 else s.trd.xts) ++ [r]
  ({ s with trd := { s.trd with xts := l, newest := some r } }).wrIf full Reg.TREADLE_STAT_XTS_OVF 1

/-- The index of the window in which an ANG value lies nearest (R171). -/
def State.winOf (s : State) (ang : Nat) : Nat := unsigned 16 (((ang : Int) - s.angOffset + 32768) / 65536)

/-- Enter LOCKED at a crossing whose window index is `w` (Table 03-2). -/
def State.lockAt (s : State) (w : Nat) : State :=
  let s1 := s.trdTo 1
  { s1 with trd := { s1.trd with winIndex := some w, consec := 0, stepPending := false,
                                 incAccept := s1.trd.base } }

/-- LOCKED again with RELOCKED set, from SLEW or by a step. -/
def State.relock (s : State) : State := (s.lockAt (s.winOf s.ang)).wr Reg.TREADLE_STAT_RELOCKED 1

/-- SLEW goes on with residual error `e` (R177): within ±16 ac it is LOCKED, else at most 200 ac leave in the next cycle. -/
def State.slewOn (s : State) (e : Int) : State :=
  if -16 ≤ e ∧ e ≤ 16 then s.relock else s.spread (-(clampInt (-200) 200 e)) 1

/-- A candidate run is complete at the crossing of time `t` and error `e`; `sum` is the time of its three periods (Table 03-2). In
a worker that follows the manager's angle the cycle field is loaded from the manager's ANG (R997). -/
def State.runDone (s : State) (t sum : Nat) (e : Int) (mgr : Option Nat) : State :=
  let s1 := (s.setInc (incFor sum 3))
  let s2 : State := { s1 with trd := { s1.trd with run := [], last := t, track := sum / 3, consec := 0,
                                                   incAccept := s1.trd.base } }
  if s.trdSt = 0 then
    let d := match mgr with
      | none => -e
      | some m => -e + (((m : Int) - ((s.ang : Int) - e) + 32768) / 65536) * 65536
    let s3 := s2.angMove d
    let s4 := if 3 ≤ s3.trd.verdictCount then s3.wr Reg.TREADLE_STAT_SEQ s3.trd.verdict else s3
    let map := s4.on Reg.TREADLE_CTRL_REMAP_AUTO && s4.rd Reg.TREADLE_STAT_SEQ == 2
    let s5 := (s4.wr Reg.TREADLE_STAT_MAP (b2n map)).rePlaceAngle
    (s5.lockAt (s5.winOf s5.ang)).aevResume.seqCheck
  else if s.on Reg.TREADLE_CTRL_STEP_EN then (s2.angStep (-e)).relock
  else ((s2.trdTo 3).slewOn e)

/-- A crossing is taken into a candidate run (R170). -/
def State.runAdd (s : State) (t : Nat) (e : Int) (mgr : Option Nat) : State :=
  let r := s.trd.run
  let p := t - r.headD 0
  let q := r.headD 0 - r.tail.headD 0
  let close := decide (2 ≤ r.length) && !decide ((max p q - min p q) * 100 ≤ q)
  let l := if r.isEmpty || p < 42858000 || 75000000 < p || close then [t] else t :: r
  if l.length = 4 then s.runDone t (t - l.getLastD t) e mgr
  else { s with trd := { s.trd with run := l } }

/-- An accepted crossing in LOCKED (R168, R178). -/
def State.acceptLocked (s : State) (t : Nat) (e : Int) (ang : Nat) : State :=
  let s1 : State := { s with trd := { s.trd with winIndex := some (s.winOf ang), consec := 0, last := t } }
  if s.trd.stepPending then (s1.angStep (-e)).relock
  else
    let g : Nat := 2 ^ (6 - s.rd Reg.TREADLE_CTRL_GAIN)
    let inc := s.trd.base
    let s2 := s1.setInc (roundDiv ((inc : Int) * (8 * (g : Int) * 65536 - e)) (8 * (g : Int) * 65536)).toNat
    ({ s2 with trd := { s2.trd with incAccept := s2.trd.base } }).spread (-e) g

/-- An accepted crossing in SLEW (R177). -/
def State.acceptSlew (s : State) (t : Nat) (e : Int) : State :=
  let k := s.trd.consec + 1
  let s1 := s.setInc (incFor (t - s.trd.last) k)
  let s2 : State := { s1 with trd := { s1.trd with track := (t - s.trd.last) / k, last := t, consec := 0,
                                                   incAccept := s1.trd.base } }
  if s.trd.stepPending then (s2.angStep (-e)).relock else s2.slewOn e

/-- Whether a crossing lies in its acceptance window, as the first of it (R171). -/
def State.inWindow (s : State) (t : Nat) (e : Int) (ang : Nat) : Bool :=
  let w := s.rd Reg.TREADLE_WIN_W
  if s.trdSt = 1 then decide (e.natAbs ≤ w) && s.trd.winIndex != some (s.winOf ang)
  else
    let at' := s.trd.last + (s.trd.consec + 1) * s.trd.track
    decide ((max t at' - min t at') * 65536 ≤ w * s.trd.track)

/-- A positive-going MS0 crossing `back` SCLK cycles ago (R171, R175): accepted, rejected or taken into a candidate run;
a manager sends CROSS for an accepted one (R996). -/
def State.ms0Crossing (s : State) (back : Nat) (mgr : Option Nat) : State :=
  let ang := s.angBack back
  let e := s.phaseErr ang
  let t := s.cycle - back
  if s.trdSt = 0 ∨ s.trdSt = 2 then (((s.xtsPut ang back true).seqCycle ang).runAdd t e mgr)
  else if !s.inWindow t e ang then s.inc Reg.TREADLE_CNT_REJECT
  else
    let s1 := ((s.xtsPut ang back false).seqCycle ang).crossSend ang back
    if s.trdSt = 1 then s1.acceptLocked t e ang else s1.acceptSlew t e

/-- Whether the Treadle takes its MS0 crossings from CROSS (R997, R1006): a worker with ANGLE_FOLLOW, and the standby twin. -/
def State.angleFollows (s : State) : Bool :=
  (s.role == 2 && s.odN 0x9000 9 1 == 1) || (s.role == 3 && s.rd Reg.GRILOR_TWIN_STATE == 1)

/-- Whether the Treadle runs and sees its pins: not stopped, and the die link not down (R209). -/
def State.trdSees (s : State) : Bool := s.running && !s.on Reg.SYS_DLSTAT_DOWN

/-! ### Commands -/

/-- The crossing that MS0_CROSSING takes, in SCLK cycles ago: of the ADC source the one that the samples made; of the comparator an
edge `edge` ticks of 2.5 ns ago that came from `low` mV below the zero level to `high` mV above it, with HYST as its hysteresis
(R158, R159). -/
def State.ms0Back (s : State) (edge low high : Nat) : Option Nat :=
  let h := s.rd Reg.TREADLE_CTRL_HYST
  if s.on Reg.TREADLE_CTRL_SRC then (if h < low ∧ h < high then some (15 * edge / 2) else none)
  else (s.ms 0).found.map (fun t => s.cycle - t)

/-- MS0_CROSSING (R158 to R171): a crossing of the MS0 pin from the source of CTRL.SRC. -/
def execMs0Crossing (edge low high : Nat) (s : State) : Out :=
  .next (if !s.trdSees || s.angleFollows then s
    else match s.ms0Back edge low high with
      | none => s
      | some back => (s.msTake 0).ms0Crossing back none)

/-- The third consecutive miss, or ACQUIRE_TIMEOUT, enters HOLDOVER (Table 03-2); a candidate run goes on (R170). -/
def State.toHoldover (s : State) : State :=
  let s1 := (s.trdTo 2).wr Reg.TREADLE_HOLD_HOLD 0
  { s1 with trd := { s1.trd with holdFrac := 0, stepPending := false } }

/-- Whether the acceptance window of the expected crossing has closed (R171, R172): on ANG in LOCKED, on the measured track in SLEW. -/
def State.windowOver (s : State) : Bool :=
  let w := s.rd Reg.TREADLE_WIN_W
  if s.trdSt = 1 then
    let at' : Int := ((s.trd.winIndex.getD 0 + s.trd.consec + 1) * 65536 : Nat) + s.angOffset
    decide ((w : Int) < signed 32 (unsigned 32 ((s.ang : Int) - at')))
  else decide ((s.trd.last + (s.trd.consec + 1) * s.trd.track) * 65536 + w * s.trd.track < s.cycle * 65536)

/-- WINDOW_MISS (R172, Table 03-2). -/
def execWindowMiss (s : State) : Out :=
  let s1 := s.inc Reg.TREADLE_CNT_MISS
  let s2 : State := { s1 with trd := { s1.trd with consec := s.trd.consec + 1 } }
  .next (if !(s.trdSt == 1 || s.trdSt == 3) || !s.running || !s.windowOver then s
    else if s.trd.consec < 2 then s2
    else ((s2.setInc s.trd.incAccept).wr Reg.TREADLE_STAT_MAINS_LOST 1).toHoldover)

/-- Whether ACQUIRE_TIMEOUT has elapsed since wake (Table 03-2). -/
def State.acquireOver (s : State) : Bool := decide (s.trd.start + s.rd Reg.TREADLE_WIN_ACQ_TO * 3000000 ≤ s.cycle)

/-- ACQUIRE_TIMEOUT (R173): HOLDOVER at nominal frequency; the angle event units resume, and SEQUENCE is held against MAP (R184). -/
def execAcquireTimeout (s : State) : Out :=
  .next (if s.trdSt ≠ 0 || !s.running || !s.acquireOver then s
    else (s.setInc s.incNominal).toHoldover.aevResume.seqCheck)

/-- MS_PHASE_CROSSING (R180, R185): the crossing that the samples of MS1, MS2 or MS3 made (R159). -/
def execMsPhaseCrossing (k : Fin 3) (s : State) : Out :=
  .next (if !s.trdSees then s
    else match (s.ms (k + 1)).found with
      | none => s
      | some t =>
        let ang := s.angAt t
        let rel := s.trd.refAng.map (fun r => (ang + 65536 - r % 65536) % 65536)
        let s1 := s.msTake (k + 1)
        if k = 2 then s1.wrIf (bitOf (s.rd Reg.TREADLE_STAT_PRESENT) 3) Reg.TREADLE_MS3_MS3_PHASE (unsigned 16 (s.phaseErr ang))
        else
          let s2 := s1.wrIf (s.allPresent && rel.isSome) (if k = 0 then Reg.TREADLE_PHASE_MS1 else Reg.TREADLE_PHASE_MS2) (rel.getD 0)
          if k = 0 then { s2 with trd := { s2.trd with ms1 := rel } } else { s2 with trd := { s2.trd with ms2 := rel } })

/-- INPUT_PRESENCE_UPDATE (R162, R181): every input is judged PRESENT or OPEN. -/
def execInputPresenceUpdate (s : State) : Out :=
  let mask (f : Nat → Bool) : Nat := ((List.range 4).map (fun k => b2n (f k) * 2 ^ k)).sum
  let s1 := (s.wr Reg.TREADLE_STAT_PRESENT (mask s.msPresent)).wr Reg.TREADLE_STAT_OPEN (mask s.msOpen)
  .next (if !s.trdSees then s
    else if s1.allPresent then s1
    else { s1.wr Reg.TREADLE_STAT_SEQ 0 with trd := { s1.trd with verdict := 0, verdictCount := 0 } })

/-- A step command (R179): none where it is refused. -/
def State.stepCommand (s : State) : Option State :=
  if s.on Reg.TREADLE_CTRL_STEP_EN && (s.trdSt == 1 || s.trdSt == 3) then some { s with trd := { s.trd with stepPending := true } }
  else none

/-- STEP_CMD (R178, R179): refused with WRONG_STATE. -/
def execStepCmd (s : State) : Out :=
  .next (match s.stepCommand with
    | some s1 => s1.answer 0
    | none => s.answer 0x0B)

/-- AEV_ARM (R189, R196): a write of CFG (0), TARGET (1) or PERIOD (2) of unit `n`. -/
def execAevArm (n : Fin 32) (reg : Fin 3) (v : Word) (s : State) : Out := .next (s.aevWrite n reg v.toNat)

/-- AEV_FIRE (R188, R195): every unit that has reached its effective target fires in this SCLK cycle. -/
def execAevFire (s : State) : Out := .next (if s.running then s.aevFireAll s.aevDueList false else s)

/-- A write of XTSPOP.POP (R200). -/
def State.xtsPop (s : State) : State :=
  match s.trd.xts with
  | [] => s.wr Reg.TREADLE_XTS_BSECHI_VALID 0
  | r :: rest =>
    let s1 : State := { s with trd := { s.trd with xts := rest } }
    let s2 := (((s1.wr Reg.TREADLE_XTS_ANG_V r.ang).wr Reg.TREADLE_XTS_ANS_V r.aNs).wr Reg.TREADLE_XTS_ASECLO_V r.aSec).wr
      Reg.TREADLE_XTS_ASECHI_V (r.aSec / 2 ^ 32)
    let s3 := (((s2.wr Reg.TREADLE_XTS_BNS_V r.bNs).wr Reg.TREADLE_XTS_BSECLO_V r.bSec).wr Reg.TREADLE_XTS_BSECHI_V
      (r.bSec / 2 ^ 32)).wr Reg.TREADLE_XTS_BSECHI_A_OK (b2n r.aOk)
    (((s3.wr Reg.TREADLE_XTS_BSECHI_B_OK (b2n r.bOk)).wr Reg.TREADLE_XTS_BSECHI_CAND (b2n r.cand)).wr
      Reg.TREADLE_XTS_BSECHI_VALID 1).wr Reg.TREADLE_XTS_BSECHI_FILL rest.length

/-- XTSPOP (R200). -/
def execXtspop (s : State) : Out := .next s.xtsPop

/-- The Treadle at W8 (Table 03-2): ACQUIRE, ANG 0, INC nominal. -/
def State.treadleStart (s : State) : State :=
  let s1 : State := { s with trd := { ms := s.trd.ms, start := s.cycle } }
  (s1.trdTo 0).setInc s1.incNominal

end Sys2Proof.Machine
end

