-- ==== Sys2Proof/Machine/Uart.lean ====
section
/-! DEFINITION. The two RS-485 UARTs (R639 to R647). -/
namespace Sys2Proof.Machine

/-- UART `n` beside its registers. -/
def State.ua (s : State) (n : Nat) : UartUnit := s.hed.uart.get {} n

/-- Put UART `n`. -/
def State.setUa (s : State) (n : Nat) (u : UartUnit) : State :=
  { s with hed := { s.hed with uart := s.hed.uart.set {} n u } }

/-- Wake the bound thread where WAKE_EN is 1 (R645). -/
def State.uaWake (s : State) (n : Nat) : State :=
  if s.on (Reg.UART_CTRL_WAKE_EN.at n) then s.wakeShuttle (s.rd (Reg.UART_CTRL_THREAD.at n)) else s

/-- Put the transmit FIFO: TXFILL follows, and a fall to TXLOW or below wakes (R645). -/
def State.uaSetTx (s : State) (n : Nat) (q : List Nat) : State :=
  let old := (s.ua n).tx.length
  let s1 := (s.setUa n { s.ua n with tx := q }).wr (Reg.UART_STAT_TXFILL.at n) q.length
  if q.length < old ∧ q.length ≤ s.rd (Reg.UART_EVT_TXLOW.at n) then s1.uaWake n else s1

/-- Put the receive FIFO: RXFILL follows, and a rise to RXHIGH or above wakes (R645). -/
def State.uaSetRx (s : State) (n : Nat) (q : List Nat) : State :=
  let old := (s.ua n).rx.length
  let s1 := (s.setUa n { s.ua n with rx := q }).wr (Reg.UART_STAT_RXFILL.at n) q.length
  if old < q.length ∧ s.rd (Reg.UART_EVT_RXHIGH.at n) ≤ q.length then s1.uaWake n else s1

/-- Whether a write reaches the registers of UART `n` (R639). -/
def State.uaAllows (s : State) (n : Nat) (w : Writer) : Bool := holderAllows (s.fieldHolder (2 + n)) w

/-- Whether UART `n` may start a character: EN is 1, no bypass (R646), and the shutdown has not entered S3 (R647). -/
def State.uaMayStart (s : State) (n : Nat) : Bool :=
  s.on (Reg.UART_CTRL_EN.at n) && !s.bit Reg.HEDDLE_BYPASS_RS485 n && !(s.pstate == 6 && decide (3 ≤ s.sdStep))

/-- The writes that waited for the end of a character take effect (R640). -/
def State.uaApply (s : State) (n : Nat) : State :=
  let u := s.ua n
  let s1 := match u.pend with
    | none => s
    | some p => (((s.wr (Reg.UART_CTRL_EN.at n) p.en).wr (Reg.UART_CTRL_DATA8.at n) p.data8).wr
        (Reg.UART_CTRL_PARITY.at n) p.parity).wr (Reg.UART_CTRL_STOP2.at n) p.stop2
  let s2 := match u.pendBaud with
    | none => s1
    | some b => s1.wr (Reg.UART_BAUD_BAUDDIV.at n) b
  s2.setUa n { s2.ua n with pend := none, pendBaud := none }

/-- Disable UART `n` and empty its FIFOs (R647). -/
def State.uaDisable (s : State) (n : Nat) : State :=
  let s1 := ((s.setUa n {}).wr (Reg.UART_CTRL_EN.at n) 0).wr (Reg.UART_STAT_TXFILL.at n) 0
  (s1.wr (Reg.UART_STAT_RXFILL.at n) 0).wr (Reg.UART_STAT_TX_BUSY.at n) 0

/-- UART_TX_WRITE (R643). -/
def execUartTxWrite (n : Fin 2) (wtr : Writer) (b : Byte) (s : State) : Out :=
  .next (if !s.uaAllows n wtr then s
    else if (s.ua n).tx.length < 32 then s.uaSetTx n ((s.ua n).tx ++ [b.toNat])
    else s.wr (Reg.UART_STAT_TX_OVF.at n) 1)

/-- UART_RX_READ (R642): the word read has DATA, FRAMING, PARITY, BREAK, and VALID [11], 0 when the FIFO is empty. -/
def execUartRxRead (n : Fin 2) (s : State) : Out :=
  .next (match (s.ua n).rx with
    | [] => { s with readData := 0 }
    | c :: q => { s.uaSetRx n q with readData := BitVec.ofNat 32 (c + 2 ^ 11) })

/-- TXFLUSH (R639). -/
def execTxflush (n : Fin 2) (wtr : Writer) (s : State) : Out :=
  .next (if s.uaAllows n wtr then s.uaSetTx n [] else s)

/-- RXFLUSH (R639). -/
def execRxflush (n : Fin 2) (wtr : Writer) (s : State) : Out :=
  .next (if s.uaAllows n wtr then s.uaSetRx n [] else s)

/-- UART_CONFIG_WRITE (R640, R641): PARITY code 3 and a BAUDDIV below 31.25 leave their fields (R18); format, BAUDDIV and EN
wait while a character is being sent or received (`receiving`), ECHO, WAKE_EN and THREAD take effect at once; in LIMP and
under BOOT 0b11 the UART stays disabled (R647). -/
def execUartConfigWrite (n : Fin 2) (wtr : Writer) (cfg : UartCfg) (receiving : Bool) (s : State) : Out :=
  let u := s.ua n
  let busy := u.sending.isSome || receiving
  .next (if !s.uaAllows n wtr then s
    else match cfg with
      | .baud v =>
        if v.toNat < 8000 then s
        else
          let s1 := s.setUa n { u with pendBaud := some v.toNat }
          if busy then s1 else s1.uaApply n
      | .ctrl v =>
        let w := v.toNat
        let parity := if fieldOf w 4 2 = 3 then s.rd (Reg.UART_CTRL_PARITY.at n) else fieldOf w 4 2
        let en := if s.netsOff then 0 else fieldOf w 0 1
        let p : UartPend := { en := en, data8 := fieldOf w 3 1, parity := parity, stop2 := fieldOf w 6 1 }
        let s1 := ((s.wr (Reg.UART_CTRL_ECHO.at n) (fieldOf w 7 1)).wr (Reg.UART_CTRL_WAKE_EN.at n) (fieldOf w 8 1)).wr
          (Reg.UART_CTRL_THREAD.at n) (fieldOf w 9 5)
        let s2 := s1.setUa n { u with pend := some p }
        if busy then s2 else s2.uaApply n)

/-- The next character leaves the transmit FIFO and is being sent; it reaches the bus where the transmitter may be on (R646, R1026). -/
def State.uaStart (s : State) (n : Nat) : State :=
  match (s.ua n).tx with
  | [] => s
  | c :: q =>
    let s1 := s.uaSetTx n q
    ((s1.setUa n { s1.ua n with sending := some c, onBus := s.rsMayDrive n, de := true }).wr (Reg.UART_STAT_TX_BUSY.at n) 1).wr
      (Reg.UART_STAT_IDLE.at n) 0

/-- UART_TRANSMIT_START (R643): DE rises LEAD eighths of a bit before the first start bit. -/
def execUartTransmitStart (n : Fin 2) (s : State) : Out :=
  .next (if s.uaMayStart n && (s.ua n).sending.isNone then s.uaStart n else s)

/-- UART_CHARACTER_SENT (R640, R643): the writes that waited take effect, and the next character follows back to back. -/
def execUartCharacterSent (n : Fin 2) (s : State) : Out :=
  .next (if (s.ua n).sending.isNone then s
    else
      let s1 := (s.setUa n { s.ua n with sending := none, onBus := false }).uaApply n
      if s1.uaMayStart n then s1.uaStart n else s1)

/-- UART_DE_RELEASE (R643, R647): LAG eighths of a bit after the last stop bit DE falls. -/
def execUartDeRelease (n : Fin 2) (s : State) : Out :=
  let u := s.ua n
  .next (if u.de && u.sending.isNone && !(s.uaMayStart n && !u.tx.isEmpty) then
      (s.setUa n { u with de := false }).wr (Reg.UART_STAT_TX_BUSY.at n) 0
    else s)

/-- UART_CHARACTER_RECEIVED (R640, R642, R645): ignored while DE is high and ECHO is 0, and by a disabled UART; with DATA8 at
0 bit 7 reads 0; a full FIFO discards it with OVERRUN. -/
def execUartCharacterReceived (n : Fin 2) (data : Byte) (framing parity brk : Bool) (s : State) : Out :=
  let u := s.ua n
  let d := if s.on (Reg.UART_CTRL_DATA8.at n) then data.toNat else data.toNat % 128
  let par := parity && s.on (Reg.UART_CTRL_PARITY.at n)
  let c := d + 2 ^ 8 * b2n framing + 2 ^ 9 * b2n par + 2 ^ 10 * b2n brk
  .next (if !s.on (Reg.UART_CTRL_EN.at n) || (u.de && !s.on (Reg.UART_CTRL_ECHO.at n)) then s
    else
      let s0 := s.wr (Reg.UART_STAT_IDLE.at n) 0
      let s1 :=
        if u.rx.length < 32 then
          let s2 := s0.uaSetRx n (u.rx ++ [c])
          let s3 := ((s2.wrIf framing (Reg.UART_STAT_FRAMING_SEEN.at n) 1).wrIf par (Reg.UART_STAT_PARITY_SEEN.at n) 1).wrIf brk
            (Reg.UART_STAT_BREAK_SEEN.at n) 1
          if framing || par || brk then s3.uaWake n else s3
        else s0.wr (Reg.UART_STAT_OVERRUN.at n) 1
      if u.sending.isNone then s1.uaApply n else s1)

/-- UART_IDLE (R644, R645): the line has been high with DE low for IDLE_BITS bit periods. -/
def execUartIdle (n : Fin 2) (s : State) : Out :=
  .next (if (s.ua n).de || s.on (Reg.UART_STAT_IDLE.at n) then s
    else ((s.wr (Reg.UART_STAT_IDLE.at n) 1).wr (Reg.UART_STAT_IDLE_EVENT.at n) 1).uaWake n)

end Sys2Proof.Machine
end

