-- ==== Sys2Proof/Machine/OdRead.lean ====
section
/-! DEFINITION. What a read of an object-dictionary entry gives: the entries that are computed from registers and other state, and the
consuming reads. -/
namespace Sys2Proof.Machine

/-! ### Journal views (R401, Table 06-9) -/

/-- The journal state: 3 read-only, 2 no journal, 1 a bolt failing, 0 normal (R385 to R388). -/
def State.journalState (s : State) : Nat :=
  if s.jr.readOnly then 3 else if s.jr.noJournal then 2 else if s.jr.boltA.failing || s.jr.boltB.failing then 1 else 0

/-- The fill of the active bolt in ‰. -/
def State.fillPermille (s : State) : Nat := (s.bolt s.jr.active).used * 1000 / s.jr.boltSize

/-- Whether the xSPI port runs 8D-8D-8D: profile 1.0 declared, from the mount on (R361). -/
def State.octal (s : State) : Bool := s.jr.profile1 && s.jr.answersSfdp && (decide (4 ≤ s.pstate) || (s.pstate == 3 && s.mountOver))

/-! ### Scattered fields -/

/-- A mask of the numbers below `n` that satisfy `p`. -/
def maskOf (n : Nat) (p : Nat → Bool) : Nat := ((List.range n).map (fun k => b2n (p k) * 2 ^ k)).sum

/-- Fields side by side: each value at its bit. -/
def joinFields (l : List (Nat × Nat)) : Nat := (l.map (fun e => e.2 * 2 ^ e.1)).sum

/-- The words WAKEREC0 to WAKEREC3 (Table 02-13). -/
def State.wakeRec (s : State) : List Nat :=
  [joinFields [(0, s.rd Reg.BACKUP_WAKEREC0_WSRC), (14, s.rd Reg.BACKUP_WAKEREC0_ATTEMPTS),
      (16, s.rd Reg.BACKUP_WAKEREC0_WFAIL_STEP), (24, s.rd Reg.BACKUP_WAKEREC0_RCAUSE)],
   joinFields [(0, s.rd Reg.BACKUP_WAKEREC1_FLUSH_INCOMPLETE), (1, s.rd Reg.BACKUP_WAKEREC1_WAKE_COUNT),
      (16, s.rd Reg.BACKUP_WAKEREC1_SD_STEP), (24, s.rd Reg.BACKUP_WAKEREC1_SD_TRIGGER)],
   s.rd Reg.BACKUP_WAKEREC2_SD_TICK_LO, s.rd Reg.BACKUP_WAKEREC3_SD_TICK_HI]

/-- The state code of a Shuttle thread (R555): HALTED 0, RUN 1, WAIT 2, FAULTED 3. -/
def ThreadRun.code : ThreadRun → Nat
  | .stopped => 0 | .running => 1 | .waiting => 2 | .waitUntil _ => 2 | .halted => 3

/-- THREADS of Shuttle `k`: two bits per thread. -/
def State.shThreads (s : State) (k : Nat) : Nat :=
  ((List.range 4).map (fun j => (s.thread (2 + 4 * k + j)).run.code * 4 ^ j)).sum

/-- The holder of something as a code, 0xFF for none. -/
def ownerCode (o : Option Nat) : Nat := o.getD 0xFF

/-- Set `k` of the image table. -/
def State.imgSet (s : State) (k : Nat) : Nat := s.imgTable.sets.getD k 0xFFFFFFFF

/-- The word of a store slot in 0x2218. -/
def State.storeWord (s : State) (k : Nat) : Nat :=
  let e := s.img.storeError.get 0 k
  match s.img.store.get none k with
  | none => e * 256
  | some i => joinFields [(31, b2n i.formatOk), (24, i.kind), (16, i.secver), (8, e)]

/-- Program words of block `b` that loaded images hold. -/
def State.heldWords (s : State) (b : Nat) : Nat :=
  ((List.range 4).map (fun k =>
    if (s.slot k).image.isSome then (if b = 0 then (s.slot k).words0 else (s.slot k).words1) else 0)).sum

/-- The entry of a spare row in 0x2302 and REPAIR.ENT. -/
def Spare.word (x : Spare) : Nat := joinFields [(31, b2n x.used), (30, b2n x.fuse), (29, b2n x.bad), (0, x.row)]

/-- Seconds that an unlock still lasts (R314). -/
def State.unlockLeft (s : State) (c : Nat) : Nat :=
  if (s.ctx c).unlocked then 600 - (s.cycle - (s.ctx c).lastUse) / 3000000000 else 0

/-- EFFORT of the fan: the drive voltage in mV, or the current in mA (R903). -/
def State.fanEffort (s : State) : Nat :=
  if s.rd Reg.FAN_CFG_DRIVE_MODE = 0 then s.rd Reg.FAN_DUTY_DUTY * s.rd Reg.FAN_VHV_VHV_MV / 1000 else s.rd Reg.FAN_SPEED_CURRENT_MA

/-- TRIM of a phase in hundredths of a per cent of the period. -/
def State.trimCenti (s : State) (n : Nat) : Int :=
  match s.groupOf n with
  | none => 0
  | some g =>
    let p := s.rd (Reg.PWM_G_PERIOD_PERIOD.at g)
    if p = 0 then 0 else roundDiv (signed 16 (s.rd (Reg.PWM_PH_TRIM_TRIM.at n)) * 10000) (p : Int)

/-- The RATE of a clock in ppb, rounded. -/
def ratePpb (r : Int) : Int := roundDiv (r * 1000000000) (2 ^ 48)

/-- SPEED_MBPS: the rate while the link is up, else 0. -/
def State.speedMbps (s : State) (p : Nat) : Nat := if s.on (Reg.MAC_LINK_UP.at p) then s.rateMbps p else 0

/-- The weights of a port as nibbles. -/
def State.weights (s : State) (p : Nat) : Nat := ((List.range 8).map (fun t => s.weightOf p t * 16 ^ t)).sum

/-! ### Computed members, area by area -/

/-- Areas 0x1 and 0x2 below 0x2400, numbers. -/
def State.calc12a (s : State) (i sub : Nat) : Nat :=
  if i = 0x1000 then [0x5A4F, 0x4416, 0x0B0C, s.deviceId % 2 ^ 32].getD (sub - 1) 0
  else if i = 0x2020 then (if sub = 7 then b2n s.pow.refclkBack else s.boot)
  else if i = 0x2100 then
    (if sub = 1 then (if s.limping then 100000000 else 3000000000)
     else if sub = 2 then joinFields [(0, s.rd Reg.SYS_CLKSTAT_REF_LOST), (1, s.rd Reg.SYS_CLKSTAT_REF_RANGE),
        (2, s.rd Reg.SYS_CLKSTAT_PLL_UNLOCK), (3, s.rd Reg.SYS_CLKSTAT_LIMPCLK)]
     else if sub = 3 then (if s.on Reg.SYS_DLSTAT_DOWN then 2 else s.rd Reg.SYS_DLSTAT_DEGRADED)
     else joinFields [(0, s.rd Reg.SYS_BGSTAT_SCRUB_FORCED), (1, s.rd Reg.SYS_BGSTAT_CARD_FORCED),
        (2, s.rd Reg.SYS_BGSTAT_FULL_FORCED), (3, s.rd Reg.SYS_BGSTAT_CAL_FORCED), (4, s.rd Reg.SYS_BGSTAT_BOB_FORCED),
        (5, s.rd Reg.SYS_BGSTAT_FAN_FORCED)])
  else if i = 0x2200 then
    (if sub = 2 then maskOf 4 (fun k => s.rd (Reg.SYS_IMGSTAT_STATE.at k) == 2 || s.rd (Reg.SYS_IMGSTAT_STATE.at k) == 3)
     else if sub = 3 then maskOf 8 (fun k => (s.shuttleHolder k).isNone)
     else if sub = 4 then maskOf 16 (fun n => (s.heddleHolder n).isNone)
     else if sub = 5 then s.img.weaverVersion else s.img.weaverFrom)
  else if within 0x2208 0x220B i then
    let k := i - 0x2208
    let im := (s.slot k).image
    (if sub = 1 then s.rd (Reg.SYS_IMGSTAT_STATE.at k) else if sub = 3 then (im.map (·.build)).getD 0
     else if sub = 4 then s.rd (Reg.SYS_IMGSTAT_SECVER.at k) else if sub = 5 then (s.slot k).shuttles
     else if sub = 6 then (s.slot k).heddles else if sub = 7 then s.rd (Reg.SYS_IMGSTAT_STORE.at k)
     else if sub = 8 then s.rd (Reg.SYS_IMGSTAT_LAST_ERROR.at k) else (s.slot k).restarts)
  else if i = 0x2210 then (if sub = 9 then s.imgTable.primary + 256 * s.imgTable.fallback else s.imgSet (sub - 1))
  else if i = 0x2218 then s.storeWord (sub - 1)
  else if within 0x2240 0x2247 i then
    (if sub = 1 then ownerCode (s.shuttleHolder (i - 0x2240)) else if sub = 2 then s.shThreads (i - 0x2240)
     else b2n (s.shAvailable (i - 0x2240)))
  else if i = 0x2300 then (if sub = 1 then s.strap 9 1 else if sub = 2 then s.mem.startupRepairs else s.mem.runs)
  else if i = 0x2302 then (s.spare ((sub - 1) / 8) ((sub - 1) % 8)).word
  else if within 0x2310 0x2329 i then (List.range 8).countP (fun k => (s.spare (i - 0x2310) k).used)
  else if i = 0x2331 then
    joinFields [(16, s.rd (Reg.MEM_CODE_STAT_CE_COUNT.at (sub - 1))), (8, s.rd (Reg.MEM_CODE_STAT_UE_COUNT.at (sub - 1)))]
  else 0

/-- How many ticket slots satisfy `p`. -/
def State.countSlots (s : State) (p : Ticket → Bool) : Nat := (List.range 128).countP (fun i => p (s.ticket i))

/-- A member of LEDGER_i (Table 06-11); a free slot reads zeros, and a result that does not exist yet reads as NIL (R349). -/
def State.ledgerMember (s : State) (i sub : Nat) : Nat :=
  let t := s.ticket i
  if t.state = .free then 0
  else
    let fin := t.state.isFinal
    [s.handleOf i, t.state.toCode, t.type, t.step, t.steps, t.code, if fin then t.resVal else 0,
      if fin then t.resTag.toCode else 0].getD (sub - 1) 0

/-- A member of 0x2500 (Table 06-11). -/
def State.journalMember (s : State) (sub : Nat) : Nat :=
  [s.journalState, s.jr.active, s.fillPermille, b2n (s.jr.phase != .off), s.jr.fullings, s.stagingLimit, bodiesSize s.jr.staging,
   s.tppUs, s.jr.programRetries, if s.jr.noJournal then 0 else s.jr.mountSeq, (s.bolt s.jr.active).lastSeq, s.jr.boltSize / 1024,
   b2n s.octal, 0, s.jr.lastStop].getD (sub - 1) 0

/-- A member of 0x2E00 + c (Table 05-10); C0 holds the orphans (R359). -/
def State.ctxMember (s : State) (c sub : Nat) : Nat :=
  let x := s.ctx c
  let st := match x.state with | .disabled => 0 | .free => 1 | .opened => 2 | .draining => 3
  [st, s.ctxProfile c, x.quota, x.rate, x.burst, x.reach, (s.heldBy c).length + (if c = 0 then s.orphans.length else 0), x.refusals].getD (sub - 1) 0

/-- 0x2400 to 0x2FFF, numbers; `c` is the reader's context. -/
def State.calc12b (s : State) (c i sub : Nat) : Nat :=
  if i = 0x2400 then
    (if sub = 1 then s.countSlots (fun t => t.state == .free) else if sub = 2 then s.countSlots (fun t => t.state == .running)
     else if sub = 3 then s.countSlots (fun t => t.state == .indoubt) else if sub = 4 then s.orphans.length else s.tk.admitRefusals)
  else if within 0x2480 0x24FF i then s.ledgerMember (i - 0x2480) sub
  else if i = 0x2500 then s.journalMember sub
  else if i = 0x2510 then s.tk.ring.length
  else if within 0x2E00 0x2EFF i then s.ctxMember (i - 0x2E00) sub
  else if i = 0x2F01 then
    (if sub = 1 then b2n (s.ctxUnlocked c) else if sub = 2 then s.unlockLeft c else if sub = 3 then s.od.failCount else b2n s.hostOnly)
  else if i = 0x2F05 then
    (if sub = 1 then (List.range 256).countP (fun k => (s.ctx k).state == .opened)
     else if sub = 2 then 128 - s.reserved else s.odN 0x2F05 3 0)
  else if i = 0x2F10 then s.profileRights (sub - 1)
  else 0

/-- A member of 0x3030: the newest record (R201); FLAGS are A_OK, B_OK, CAND, VALID from bit 0. -/
def State.crossMember (s : State) (sub : Nat) : Nat :=
  match s.trd.newest with
  | none => 0
  | some x =>
    [x.ang, x.aSec / 2 ^ 32, x.aSec % 2 ^ 32, x.aNs, x.bSec / 2 ^ 32, x.bSec % 2 ^ 32, x.bNs,
     b2n x.aOk + 2 * b2n x.bOk + 4 * b2n x.cand + 8].getD (sub - 1) 0

/-- Area 0x3, numbers. -/
def State.calc3 (s : State) (i sub : Nat) : Nat :=
  if i = 0x3000 then (if s.rd Reg.TREADLE_CTRL_NOMINAL = 1 then 60 else 50)
  else if i = 0x3001 then
    (if sub = 2 then s.ang else if sub = 3 then (s.rd Reg.TREADLE_INC_INC * 3000000000000 + 2 ^ 47) / 2 ^ 48
     else s.rd Reg.TREADLE_STAT_PRESENT + 16 * s.rd Reg.TREADLE_STAT_OPEN)
  else if within 0x3010 0x302F i then
    let n := i - 0x3010
    joinFields [(0, s.rd (Reg.TREADLE_AEV_CFG_LATE.at n)), (1, s.rd (Reg.TREADLE_AEV_CFG_SKIP.at n)),
      (2, s.rd (Reg.TREADLE_AEV_CFG_FIRED.at n))]
  else if i = 0x3030 then s.crossMember sub
  else if i = 0x3100 then 10 * s.rd Reg.TIME_CTRL_SERVO_TO
  else if i = 0x3101 then
    (if sub = 3 then unsigned 32 s.dtErr else if sub = 4 then clockSec s.time.dt / 2 ^ 32
     else if sub = 5 then clockSec s.time.dt % 2 ^ 32 else if sub = 6 then clockSub s.time.dt else shortOf s.time.dt)
  else if i = 0x3110 ∨ i = 0x3111 then
    let x := i - 0x3110
    (if sub = 2 then unsigned 32 (ratePpb (s.domRate x)) else if sub = 4 then clockSec (s.dom x) / 2 ^ 32
     else if sub = 5 then clockSec (s.dom x) % 2 ^ 32 else clockSub (s.dom x))
  else 0

/-- Area 0x4, numbers. -/
def State.calc4 (s : State) (i sub : Nat) : Nat :=
  if i = 0x4000 then
    (if sub = 2 then maskOf 4 (fun g => s.grState g == 2 || s.grState g == 3)
     else if sub = 3 then maskOf 4 (fun g => s.grState g == 5) else s.rd Reg.PCP_CTRL_HALTED)
  else if within 0x4010 0x4013 i then
    let g := i - 0x4010
    (if s.on (Reg.PWM_G_CFG_ROT_EN.at g) then s.rd (Reg.PWM_G_CFG_ROT_N.at g) + 1 else 0)
  else if within 0x4030 0x4033 i then
    let g := i - 0x4030
    (if sub = 3 then (s.gr g).vout else if sub = 4 then (s.gr g).vin else if sub = 5 then unsigned 32 (s.gr g).iout
     else if sub = 8 then s.waitReason g else (s.gr g).retries)
  else if within 0x4040 0x4047 i then
    let n := i - 0x4040
    (if sub = 2 then b2n (s.bit Reg.ADC_CHCFG_ISEN_DIFF n) else if sub = 6 then b2n (s.bit Reg.PWM_GDCFG_POL n)
     else if sub = 8 then unsigned 32 (s.ph n).current else unsigned 32 (s.trimCenti n))
  else if i = 0x4050 then
    fieldOf (s.rd Reg.PWM_TRIPSEL_SEL) (4 * (sub - 1)) 4 + 16 * fieldOf (s.rd Reg.PWM_TRIPACT_ACT) (2 * (sub - 1)) 2
  else if i = 0x4051 then 10 * s.rd Reg.PWM_GDCFG_FILT
  else if i = 0x4058 then s.rd Reg.ADC_CHCFG_ISEN_MED + 256 * s.rd Reg.ADC_CHCFG_VSEN_MED
  else
    let k := i - 0x4060 + 4
    (if sub = 3 then s.rd (Reg.ADC_SEQ_CFG_PHASE.at k) + 256 * s.rd (Reg.ADC_SEQ_CFG_POS.at k)
     else s.rd (Reg.ADC_SEQ_CFG_COUNT.at k) + 1)

/-- Area 0x5, numbers. -/
def State.calc5 (s : State) (i sub : Nat) : Nat :=
  if i = 0x5000 then 65 + 10 * s.strap 10 2
  else if i = 0x5001 then joinFields ((List.range 8).map (fun n => (2 * n, s.rd (Reg.THERMAL_T_FAULT.at n))))
  else if i = 0x5008 then s.rd Reg.FAN_CFG_POLE_PAIRS + 1
  else if sub = 5 then s.fanEffort
  else joinFields [(0, s.rd Reg.FAN_STAT_LEADS_SWAPPED), (1, s.rd Reg.FAN_STAT_UNDERSPEED), (2, s.rd Reg.FAN_STAT_SHORT_SEEN),
    (3, s.rd Reg.FAN_STAT_HALL_FAULT)]

/-- The sticky bits of CAN channel `n`, STAT [13:4]. -/
def canSticky : List Field :=
  [Reg.CAN_STAT_UNMATCHED, Reg.CAN_STAT_RTR_DROPPED, Reg.CAN_STAT_CFG_REFUSED, Reg.CAN_STAT_WAKE_SEEN, Reg.CAN_STAT_TXD_TIMEOUT,
   Reg.CAN_STAT_REF_LOST, Reg.CAN_STAT_CYC_OVERLAP, Reg.CAN_STAT_CYC_SKIP, Reg.CAN_STAT_MISSED_ANY, Reg.CAN_STAT_BUSOFF_SEEN]

/-- The sticky bits of an RS-485 UART, STAT [29:24]. -/
def uartSticky : List Field :=
  [Reg.UART_STAT_FRAMING_SEEN, Reg.UART_STAT_PARITY_SEEN, Reg.UART_STAT_OVERRUN, Reg.UART_STAT_BREAK_SEEN, Reg.UART_STAT_TX_OVF,
   Reg.UART_STAT_IDLE_EVENT]

/-- The flags of BACKUP.STAT [10:1]. -/
def backupFlags : List Field :=
  [Reg.BACKUP_STAT_RTC_VALID, Reg.BACKUP_STAT_BK_LOST, Reg.BACKUP_STAT_BAT_LOW, Reg.BACKUP_STAT_BAT_ABSENT, Reg.BACKUP_STAT_OSC_FAIL,
   Reg.BACKUP_STAT_WRAP, Reg.BACKUP_STAT_ALARM_FIRED, Reg.BACKUP_STAT_PER_FIRED, Reg.BACKUP_STAT_LATE, Reg.BACKUP_STAT_SUMMER_REJECT]

/-- One-bit fields side by side from bit 0. -/
def State.packBits (s : State) (l : List Field) : Nat := joinFields ((List.range l.length).zip (l.map s.rd))

/-- The exclusive cells of CAN channel `n` that missed. -/
def State.missedCells (s : State) (n : Nat) : Nat := (List.range 2048).countP (fun c => s.on (Reg.CAN_CELL_MISSED.at2 n c))

/-- Area 0x6, numbers. -/
def State.calc6 (s : State) (i sub : Nat) : Nat :=
  if i = 0x6000 then
    (if sub = 4 then s.freeCount else if sub = 5 then s.loom.fdb.length
     else s.packBits [Reg.LOOM_STAT_FDB_FULL, Reg.LOOM_STAT_DUP_FULL, Reg.LOOM_STAT_BAD_HANDLE, Reg.LOOM_STAT_POOL_EMPTY])
  else if within 0x6010 0x6015 i then s.weights (i - 0x6010)
  else if i = 0x6030 then s.loom.dup.length
  else if i = 0x6050 then (if sub = 2 then s.rd Reg.BOBBIN_SIZE_SIZE / 4 else s.loom.bobUsed)
  else if within 0x6051 0x6060 i then
    let k := i - 0x6051
    (if sub = 4 then (if s.on (Reg.BOBBIN_F_CFG_ETYPE_EN.at k) then s.rd (Reg.BOBBIN_F_MATCH_ETYPE.at k) else 0)
     else (if s.on (Reg.BOBBIN_F_CFG_VID_EN.at k) then s.rd (Reg.BOBBIN_F_MATCH_VID.at k) else 0))
  else if within 0x6070 0x6075 i then
    (if sub = 4 then s.speedMbps (i - 0x6070) else s.rd (Reg.MAC_PSTK_ACC_PSTK_ACC.at (i - 0x6070)))
  else if i = 0x6100 ∨ i = 0x6101 then
    let n := i - 0x6100
    (if sub = 9 then s.packBits (canSticky.map (·.at n))
     else joinFields [(0, s.rd (Reg.CAN_WCFG_IDE.at n)), (1, s.rd (Reg.CAN_WCFG_DLC_EN.at n)), (2, s.rd (Reg.CAN_WCFG_DLC.at n))])
  else if i = 0x6108 ∨ i = 0x6109 then s.missedCells (i - 0x6108)
  else s.packBits [Reg.HEDDLE_RS485_STAT_SEEN0, Reg.HEDDLE_RS485_STAT_SEEN1]

/-- Area 0x7, numbers. -/
def State.calc7 (s : State) (i sub : Nat) : Nat :=
  if i = 0x7000 then
    (if sub = 1 then maskOf 16 (fun n => (s.heddleHolder n).isNone) else 128 - s.heldWords (if sub = 3 then 0 else 1))
  else if i = 0x7002 ∨ i = 0x7003 then
    let n := i - 0x7002
    let d := s.rd (Reg.UART_BAUD_BAUDDIV.at n)
    (if sub = 1 then ownerCode (s.fieldHolder (2 + n)) else if sub = 2 then (if d = 0 then 0 else (2 * 96000000000 + d) / (2 * d))
     else if sub = 3 then joinFields [(0, s.rd (Reg.UART_CTRL_DATA8.at n)), (1, s.rd (Reg.UART_CTRL_PARITY.at n)),
        (3, s.rd (Reg.UART_CTRL_STOP2.at n))]
     else s.packBits (uartSticky.map (·.at n)))
  else
    let n := i - 0x7010
    let d := s.rd (Reg.HEDDLE_DIV_D.at n)
    (if sub = 2 then ownerCode (s.heddleHolder n) else if sub = 5 then (if d = 0 then 0 else (2 * 96000000000 + d) / (2 * d))
     else s.packBits ([Reg.HEDDLE_STAT_TX_OVF, Reg.HEDDLE_STAT_RX_OVF, Reg.HEDDLE_STAT_UNDERRUN, Reg.HEDDLE_STAT_ANG_OVR,
        Reg.HEDDLE_STAT_CLAIM_REFUSED, Reg.HEDDLE_STAT_PROG_REFUSED].map (·.at n)))

/-- Areas 0x8, 0x9 and 0xF, numbers; `c` is the reader's context. -/
def State.calc89F (s : State) (c i sub : Nat) : Nat :=
  if i = 0x8000 then (if sub = 1 then s.bk.cnt / 2 ^ 32 else s.bk.cnt % 2 ^ 32)
  else if i = 0x8006 then s.packBits backupFlags
  else if i = 0x9000 then (if sub = 1 then s.role else s.strap 5 1)
  else if i = 0x9001 then
    (if sub = 3 ∨ sub = 4 then s.rd (Reg.GL_DELAY_DELAY.at (sub - 3)) / 32
     else s.packBits [Reg.GL_STAT_CRC_ERR.at 0, Reg.GL_STAT_REPLAYED.at 0, Reg.GL_STAT_CRC_ERR.at 1, Reg.GL_STAT_REPLAYED.at 1])
  else if i = 0x9010 then s.gl.peerSide.getD 0
  else
    let x := s.ctx c
    (if sub = 1 then x.winAddr else if sub = 3 then b2n x.winAuto else x.winLast)

/-- A computed number. -/
def State.calcNum (s : State) (c i sub : Nat) : Nat :=
  if sub = 0 ∧ (s.odLast i).join.isSome then ((s.odLast i).join).getD 0
  else if i < 0x2400 then s.calc12a i sub
  else if i < 0x3000 then s.calc12b c i sub
  else if i < 0x4000 then s.calc3 i sub
  else if i < 0x5000 then s.calc4 i sub
  else if i < 0x6000 then s.calc5 i sub
  else if i < 0x7000 then s.calc6 i sub
  else if i < 0x8000 then s.calc7 i sub
  else s.calc89F c i sub

/-- Integers as the elements of an ARRAY member (R1110). -/
def intBytes (l : List Int) : List Byte := l.flatMap (fun x => leBytes 4 (unsigned 32 x))

/-- Computed BYTES, but for the consuming reads. -/
def State.calcBytes (s : State) (i : Nat) : List Byte :=
  if i = 0x1000 then leBytes 16 s.deviceId
  else if i = 0x2020 then s.wakeRec.flatMap (leBytes 4)
  else if within 0x2208 0x220B i then
    (match (s.slot (i - 0x2208)).image with
     | none => List.replicate 8 0
     | some im => (im.name ++ List.replicate 8 0).take 8)
  else if i = 0x2510 then (((s.tk.ring[s.odN 0x2510 2 0]?).map Event.bytes)).getD (List.replicate 24 0)
  else if i = 0x4058 then
    intBytes ([Reg.ADC_CAL_OFF0, Reg.ADC_CAL_OFF1, Reg.ADC_CAL_OFF2, Reg.ADC_CAL_OFF3].map (fun f => signed 8 (s.rd f)))
  else if within 0x4060 0x4063 i then
    let k := i - 0x4060 + 4
    intBytes ((List.range 8).map (fun j =>
      let ch := fieldOf (s.rd (Reg.ADC_SEQ_CH_CH.at k)) (4 * j) 4
      let v := s.rd (Reg.ADC_SEQ_RES_CODE.at2 k j)
      if s.isenDiff ch then signed 16 v else (v : Int)))
  else if i = 0x6100 ∨ i = 0x6101 then
    leBytes 4 (s.rd (Reg.CAN_WDMASK0_V.at (i - 0x6100))) ++ leBytes 4 (s.rd (Reg.CAN_WDMASK1_V.at (i - 0x6100)))
  else []

/-! ### Values -/

/-- The default value of a member. -/
def OdSpec.dfltVal (m : OdSpec) : OdVal :=
  match m.type with
  | .scalar t => .scalar t m.dflt
  | .bytesMax _ => .bytes m.dfltBytes
  | _ => .bytes m.dfltBytes

/-- The value of a member without the effect of a consuming read. -/
def State.odPeek (s : State) (c i sub : Nat) (m : OdSpec) : OdVal :=
  match m.home with
  | .val => (s.od.vals.get none (odKey i sub)).getD m.dfltVal
  | .fld f => .scalar (match m.type with | .scalar t => t | _ => .uint) (s.rd f)
  | .sfld f => .scalar .int (unsigned 32 (signed f.w (s.rd f)))
  | .calc =>
    match m.type with
    | .scalar t => .scalar t (s.calcNum c i sub % 2 ^ 32)
    | _ => .bytes (s.calcBytes i)

/-- Whether an access of a member reaches a register of the companion die (R33): the kept copies of journaled entries only by a write. -/
def viaLink (i sub : Nat) (m : OdSpec) : Bool :=
  let far := match m.home with
    | .fld f | .sfld f => companion f.addr
    | .val => i == 0x8001 || (i == 0x8002 && sub == 3) || (i == 0x5000 && sub == 5) || (i == 0x500A && sub == 7)
    | .calc => sub != 0 && (i == 0x8000 || i == 0x8006 || (i == 0x2020 && sub == 6) || i == 0x5001 || (i == 0x5008 && sub == 1) ||
        (i == 0x500A && (sub == 5 || sub == 6)))
  far

/-- What a register shows of the wire at the moment of a read, by its base: T1L_STAT.SQI while the link of E5 is up (R750) and the bus
levels of DALI_STAT (R628) are free values. -/
def State.regSense (s : State) (base : Nat) : State :=
  if base = 0x40045104 then
    (if s.on (Reg.MAC_LINK_UP.at 5) then s.drawWord.2.wr Reg.T1L_STAT_SQI (s.drawWord.1.toNat % 8) else s)
  else if base = 0x40080804 then
    let d := s.drawWord
    (d.2.wr Reg.HEDDLE_DALI_STAT_BUS0 (d.1.toNat % 2)).wr Reg.HEDDLE_DALI_STAT_BUS1 (d.1.toNat / 2 % 2)
  else s

/-- A single read of 0x3101:04 to :06 (R266): the members of one snapshot of device time, which the context's reads share until one of
them repeats. -/
def State.snapRead (s : State) (c sub : Nat) : Nat × State :=
  let e := s.time.snaps.get (0, 0) c
  let e1 := if e.2 = 0 ∨ bitOf e.2 sub then (s.time.dt, 0) else e
  ([clockSec e1.1 / 2 ^ 32, clockSec e1.1 % 2 ^ 32, clockSub e1.1].getD (sub - 4) 0,
    { s with time := { s.time with snaps := s.time.snaps.set (0, 0) c (e1.1, setBit e1.2 sub true) } })

/-- A read of a member's value: the consuming reads of 0x3130 + n:03 (R265) and 0x6061 (R704) take what they return; DT_ERROR_NS
is a free value in HOLDOVER (R234). -/
def State.odTake (s : State) (c i sub : Nat) (m : OdSpec) : OdVal × State :=
  if within 0x3130 0x3137 i && sub == 3 then
    let r := s.tpiTake (i - 0x3130)
    (.bytes r.1, r.2)
  else if i = 0x6061 then
    let r := s.bobRead
    (.bytes r.1, r.2)
  else if i = 0x3101 ∧ sub = 3 ∧ s.dtSource = 3 then
    let d := s.drawWord
    (.scalar .int d.1.toNat, d.2)
  else if i = 0x3101 ∧ within 4 6 sub then
    let r := s.snapRead c sub
    (.scalar .uint r.1, r.2)
  else
    let s1 := s.regSense (if i = 0x6078 ∧ sub = 3 then 0x40045104 else if i = 0x7001 then 0x40080804 else 0)
    (s1.odPeek c i sub m, s1)

end Sys2Proof.Machine
end

