-- ==== Sys2Proof/Machine/Images.lean ====
section
/-! DEFINITION. Kegifen images: checks, allocation, the steps of the image operations, slots, faults and restarts (chapter 09). -/
namespace Sys2Proof.Machine

/-! ### Does a value fit an entry? (R283, R288, R289) -/

/-- Check 10 of Table 05-4: 0, TYPE_MISMATCH or LENGTH. -/
def OdSpec.typeCode (m : OdSpec) (v : OdVal) : Nat :=
  match m.type, v with
  | .scalar t, .scalar u _ => if t = u then 0 else 7
  | .bytes n, .bytes b => if b.length = n then 0 else 8
  | .bytesMax n, .bytes b => if b.length ≤ n then 0 else 8
  | _, _ => 7

/-- Whether a value lies within the limits (check 11): a closed interval, and the list of allowed values where there is one. A BOOL is
0 or 1 (R293). -/
def OdSpec.inLimits (m : OdSpec) (v : OdVal) : Bool :=
  match v with
  | .bytes _ => true
  | .scalar .bool n => decide (n ≤ 1)
  | .scalar t n =>
    let x := limitNum t n
    decide (m.lim.lo ≤ x) && decide (x ≤ m.lim.hi) && (m.lim.codes.isEmpty || m.lim.codes.contains x)

/-- Whether a journaled value fits its entry (R289). -/
def OdSpec.fits (m : OdSpec) (v : OdVal) : Bool := m.typeCode v == 0 && m.inLimits v

/-- A journaled value that does not fit is counted in DEFAULT_REVERTS (R289). -/
def State.reverted (s : State) : State := s.odPutU 0x2F06 0 (s.odN 0x2F06 0 0 + 1)

/-! ### Checks of Table 09-6 -/

/-- KEY_HASHk of the fuse block (Table 02-5). -/
def State.keyHash (s : State) (k : Nat) : Nat := s.fuseField (136 + 256 * k) 256

/-- Whether a declaration keeps the limits of Table 09-5. -/
def declOk (kind : Nat) (d : ImageDecl) : Bool :=
  decide (d.shuttles ≤ 8) && (kind == 1 || decide (1 ≤ d.shuttles)) && decide (d.heddles < 65536) && decide (d.words0 ≤ 128) &&
    decide (d.words1 ≤ 128) && decide (d.eth < 64) && decide (d.field < 64) && decide (d.commonWords ≤ 65536) &&
    decide (d.commonWords % 4096 = 0) && decide (d.packetCells ≤ 4096) && decide (d.sessions ≤ 64) &&
    (decide (d.sessionQuota ≤ 16) || d.sessionQuota == 0xFF) && decide (d.odEntries ≤ 1024) && decide (d.tpo < 256) &&
    decide (d.tpi < 256) && decide (d.aev < 2 ^ 32) && decide (d.ioReach < 2 ^ 17) && decide (d.domains < 4)

/-- The tags that an entry may have (R283). -/
def entryTag (t : Tag) : Bool := [Tag.int, .uint, .bits, .fix, .angle, .time, .bool, .odref, .ticket].contains t

/-- Whether an image-defined entry keeps the rules of R1048 and R283, beside the others of its image. -/
def defOk (l : List OdDef) (d : OdDef) : Bool :=
  decide (d.localIndex < 1024) && decide (d.sub < 256) &&
    (match d.type with
     | .scalar t => entryTag t
     | .bytes n | .bytesMax n => decide (n ≤ 4096)
     | .domainOnly => false) &&
    (d.jrnl || !d.acc.journals) &&
    (l.filter (fun e => e.localIndex == d.localIndex && (e.sub == d.sub || e.sub == 0 || d.sub == 0))).length == 1

/-- Checks 1 to 5 of Table 09-6 for a kind that `kindOk` accepts: the detail of the first that fails, 0 where all pass. -/
def State.imageDetail (s : State) (im : Image) (kindOk : Nat → Bool) : Nat :=
  if s.safeRom then 6
  else if !im.formatOk || !declOk im.kind im.decl || decide (64 < im.secver) || !im.odDefs.all (defOk im.odDefs) then 1
  else if !kindOk im.kind then 2
  else if 1 < im.keyIndex ∨ s.keyHash im.keyIndex = 0 ∨ im.publicKeyHash ≠ s.keyHash im.keyIndex then 3
  else if im.secver < s.rd Reg.FUSE_STATUS_ARB then 5
  else 0

/-- The attributes that a mapping row's ODREF names, the image's own entries in slot `k` included, and sub-index 0 of its RECORDs (R279). -/
def State.rowSpec (s : State) (im : Image) (k ref : Nat) : Option OdSpec :=
  let i := ref / 256 % 65536
  match imageIndex i with
  | some (j, loc) =>
    if j = k then
      match im.odDefs.find? (fun d => d.localIndex == loc && d.sub == ref % 256) with
      | some d =>
        some { type := d.type, acc := d.acc, expert := d.expert, jrnl := d.jrnl, dflt := d.dflt, dfltBytes := d.dfltBytes, lim := d.lim }
      | none =>
        if ref % 256 = 0 ∧ im.odDefs.any (fun d => d.localIndex == loc) then some { type := .scalar .uint, acc := .ro, home := .calc } else none
    else s.odSpec i (ref % 256)
  | none => s.odSpec i (ref % 256)

/-- Check 7 (R323): no row names an absent entry, none has ACCESS beyond the entry's access code, no two share a KEY. -/
def State.mappingOk (s : State) (im : Image) (k : Nat) : Bool :=
  im.mappingOk && im.mapRows.all (fun r =>
    match s.rowSpec im k r.ref with
    | none => false
    | some m => !(r.canRead && m.acc == .wo) && !(r.canWrite && m.acc == .ro) &&
        (im.mapRows.filter (fun q => q.key == r.key)).length == 1)

/-- VERIFY: checks 6 and 7. -/
def State.verifyDetail (s : State) (im : Image) (k : Nat) : Nat := if !im.sigOk then 4 else if !s.mappingOk im k then 0x0C else 0

/-- The ticket code of a load detail (Table 09-9). -/
def detailCode (d : Nat) : Nat :=
  if d = 1 ∨ d = 2 ∨ d = 4 ∨ d = 0x0C ∨ d = 0x0F then 0x0F else if 7 ≤ d ∧ d ≤ 0x0B then 0x10 else 0x0B

/-! ### Allocation (R577, R578) -/

/-- The slots that hold an image. -/
def State.loadedSlots (s : State) : List Nat := (List.range 4).filter (fun k => (s.slot k).image.isSome)

/-- The Shuttles for an image that asks for `n`: the lowest-numbered free and available ones. -/
def State.pickShuttles (s : State) (n : Nat) : Option (List Nat) :=
  let free := (List.range 8).filter (fun k => (s.shuttleHolder k).isNone && s.shAvailable k)
  if free.length < n then none else some (free.take n)

/-- Whether page `p` of bank CB`b` belongs to a loaded image's common region. -/
def State.pageTaken (s : State) (b p : Nat) : Bool :=
  s.loadedSlots.any (fun k => (s.slot k).regionBank == b && decide ((s.slot k).regionOff ≤ 4096 * p) &&
    decide (4096 * p < (s.slot k).regionOff + (s.decl k).commonWords))

/-- First fit of a common region in pages of CB1 to CB7. -/
def State.commonFit (s : State) (words : Nat) : Option (Nat × Nat) :=
  let n := words / 4096
  if n = 0 then some (0, 0)
  else
    let places := [1, 2, 3, 4, 5, 6, 7].flatMap (fun b => (List.range (17 - n)).map (fun p => (b, p)))
    (places.find? (fun x => !s.cardReserved x.1 && (List.range n).all (fun j => !s.pageTaken x.1 (x.2 + j)))).map
      (fun x => (x.1, 4096 * x.2))

/-- A contiguous run of program words in block `b`, first fit. -/
def State.wordsFit (s : State) (b n : Nat) : Option Nat :=
  if n = 0 then some 0
  else
    let taken (w : Nat) : Bool := s.loadedSlots.any (fun k =>
      let v := s.slot k
      let base := if b = 0 then v.base0 else v.base1
      let len := if b = 0 then v.words0 else v.words1
      decide (base ≤ w) && decide (w < base + len))
    (List.range (129 - n)).find? (fun w => (List.range n).all (fun j => !taken (w + j)))

/-- Whether the Loom can lend `n` cells (R661, R662): free, and RESERVE still within the pool. -/
def State.cellsLend (s : State) (n : Nat) : Bool := decide (n ≤ s.freeCount) && decide (s.sumReserve + n ≤ s.framePool)

/-- Whether some loaded image shares a bit of a mask. -/
def State.maskHeld (s : State) (mask : Nat) (f : ImageDecl → Nat) : Bool := s.loadedSlots.any (fun k => decide (f (s.decl k) &&& mask ≠ 0))

/-- The resource check of an image: the detail of the first resource that is not free, else the slot record with what it reserves. -/
def State.resources (s : State) (im : Image) : Nat × ImgSlot :=
  let d := im.decl
  match s.pickShuttles d.shuttles with
  | none => (7, {})
  | some sh =>
    if s.maskHeld d.heddles (·.heddles) then (8, {})
    else if s.maskHeld d.field (·.field) || s.maskHeld d.tpo (·.tpo) || s.maskHeld d.tpi (·.tpi) || s.maskHeld d.aev (·.aev) ||
        s.maskHeld d.domains (·.domains) ||
        im.claims.any (fun c => s.loadedSlots.any (fun k =>
          (((s.slot k).image.map (·.claims)).getD []).any (fun e => e.kind == c.kind && e.value == c.value))) then (9, {})
    else
      match s.commonFit d.commonWords, s.wordsFit 0 d.words0, s.wordsFit 1 d.words1 with
      | some r, some b0, some b1 =>
        if !s.cellsLend d.packetCells then (0x0A, {})
        else if d.odEntries < im.odDefs.length ∨ 252 < d.sessions + (s.loadedSlots.map (fun k => (s.decl k).sessions)).sum then (0x0B, {})
        else (0, { image := some im, shuttles := (sh.map (2 ^ ·)).sum, heddles := d.heddles, regionBank := r.1, regionOff := r.2,
                   words0 := d.words0, words1 := d.words1, base0 := b0, base1 := b1 })
      | _, _, _ => (0x0A, {})

/-! ### Slots -/

/-- STATE of image slot `k`: 0 EMPTY, 1 LOADING, 2 RUNNING, 3 FAULTED, 4 UNLOADING (Table 09-13). -/
def State.slotState (s : State) (k : Nat) : Nat := s.rd (Reg.SYS_IMGSTAT_STATE.at k)

/-- Set STATE of image slot `k`. -/
def State.slotTo (s : State) (k st : Nat) : State := s.wr (Reg.SYS_IMGSTAT_STATE.at k) st

/-- Record a detail in LAST_ERROR of slot `k`. -/
def State.slotErr (s : State) (k d : Nat) : State := s.wr (Reg.SYS_IMGSTAT_LAST_ERROR.at k) d

/-- The Shuttles of slot `k`, in the image's own order. -/
def State.slotShuttles (s : State) (k : Nat) : List Nat := (List.range 8).filter (bitOf (s.slot k).shuttles)

/-- The Heddles of slot `k`. -/
def State.slotHeddles (s : State) (k : Nat) : List Nat := (List.range 16).filter (bitOf (s.slot k).heddles)

/-- A Shuttle that no image holds (R554): threads halted, code RAM zero, local memory NIL-tagged zeros. -/
def State.clearShuttle (s : State) (n : Nat) : State :=
  let s1 := s.each (List.range 4) (fun s j => s.setThread (2 + 4 * n + j) (threadReset (2 + 4 * n + j)))
  (s1.clearBank (0x11 + n)).clearBank (0x1B + n)

/-- Clear `n` words of bank `b` from offset `off`. -/
def State.clearWords (s : State) (b off n : Nat) : State :=
  { s with mem := { s.mem with mem := s.mem.mem.filter (fun e => e.1 < memKey b off || memKey b off + n ≤ e.1) } }

/-- Everything that slot `k` reserved is freed and nothing of its image remains (R579, R580): entries in area 0xA, mapping rows,
Shuttles, the common region, the frames its queue set holds. -/
def State.slotFree (s : State) (k : Nat) : State :=
  let v := s.slot k
  let s1 := s.each (s.slotShuttles k) State.clearShuttle
  let s2 := if (s.decl k).commonWords = 0 then s1 else s1.clearWords v.regionBank v.regionOff (s.decl k).commonWords
  let lo := odKey (0xA000 + 0x400 * k) 0
  let s3 : State := { s2 with od := { s2.od with vals := s2.od.vals.filter (fun e => e.1 < lo || lo + 0x40000 ≤ e.1),
                                                 mapping := s2.od.mapping.set [] k [] } }
  let s4 := (s3.setQset k {}).each s3.frameList (fun s f =>
    if f.holders.contains k || f.owner == some k then
      (s.setFrame f.first (some { f with holders := f.holders.filter (· != k) })).release f.first
    else s)
  (((s4.setSlot k { restarts := v.restarts }).wr (Reg.SYS_IMGSTAT_STORE.at k) 0xFF).wr (Reg.SYS_IMGSTAT_SECVER.at k) 0).slotTo k 0

/-- CHECK of a load (R576): checks 1 to 5, the slot, the resources; on success the reservation is made and the slot is LOADING. -/
def State.loadCheck (s : State) (k src : Nat) (im : Option Image) : Nat × State :=
  match im with
  | none => (0x0E, s.slotErr k 0x0E)
  | some im =>
    let d := s.imageDetail im (fun n => n == 2 || n == 3)
    let d := if d ≠ 0 then d else if s.slotState k ≠ 0 then 0x0D else 0
    if d ≠ 0 then (d, s.slotErr k d)
    else
      let r := s.resources im
      if r.1 ≠ 0 then (r.1, s.slotErr k r.1)
      else
        let s1 := s.setSlot k { r.2 with restarts := (s.slot k).restarts }
        (0, (((s1.wr (Reg.SYS_IMGSTAT_STORE.at k) src).wr (Reg.SYS_IMGSTAT_SECVER.at k) im.secver).slotErr k 0).slotTo k 1)

/-- VERIFY of a load (R576, R579). -/
def State.loadVerify (s : State) (k : Nat) : Nat × State :=
  match (s.slot k).image with
  | none => (0x0E, s)
  | some im =>
    let d := s.verifyDetail im k
    if d = 0 then (0, s) else (d, (s.slotFree k).slotErr k d)

/-- Write a tagged word into a bank. -/
def State.putTagged (s : State) (b off : Nat) (w : TWord) : State :=
  s.setWord b off { tag := w.tag, val := w.val.setWidth 64 }

/-- Load code bytes into a code RAM, 64-bit units from address 0. -/
def State.putCode (s : State) (b : Nat) (code : List Byte) : State :=
  s.each (List.range ((code.length + 7) / 8)) (fun s u =>
    s.setWord b u { val := BitVec.ofNat 64 (leValue ((code.drop (8 * u)).take 8)) })

/-- Load a program of 24-bit words into Heddle block `b` from word `base`, within the run of `n` words (R603, R604). -/
def State.putProg (s : State) (b base n : Nat) (ws : List Nat) : State :=
  s.each ((List.range n).zip ws) (fun s e => { s with hed := { s.hed with prog := s.hed.prog.set 0 (b * 128 + base + e.1) (e.2 % 2 ^ 24) } })

/-- The load descriptor of Table 09-2 for Shuttle number `li` of the image in slot `k`. -/
def State.descriptor (s : State) (k li : Nat) (im : Image) : List TWord :=
  let v := s.slot k
  let w (n : Nat) : Word := BitVec.ofNat 32 n
  let doms := if s.role = 3 then im.decl.domains &&& 2 else im.decl.domains
  [⟨.uint, w k⟩, ⟨.uint, w li⟩, ⟨.bits, w v.shuttles⟩,
   if im.decl.commonWords = 0 then TWord.nilWord else ⟨.ptr, w (65536 * v.regionBank + v.regionOff)⟩,
   ⟨.uint, w im.decl.commonWords⟩, ⟨.bits, w v.heddles⟩, ⟨.uint, w im.decl.packetCells⟩,
   ⟨.odref, w (odKey (0xA000 + 0x400 * k) 0)⟩, ⟨.uint, w im.secver⟩, ⟨.uint, w s.lifecycle⟩, ⟨.bits, w doms⟩,
   TWord.nilWord, TWord.nilWord, TWord.nilWord, TWord.nilWord, TWord.nilWord]

/-- Words side by side from offset `off` of a bank. -/
def State.putWords (s : State) (b off : Nat) (ws : List TWord) : State :=
  s.each ((List.range ws.length).zip ws) (fun s e => s.putTagged b (off + e.1) e.2)

/-- The entries of the image in slot `k` take their journaled values (R1049). -/
def State.takeJournaled (s : State) (k : Nat) (im : Image) : State :=
  s.each (im.odDefs.filter (·.jrnl)) (fun s d =>
    let i := 0xA000 + 0x400 * k + d.localIndex
    match s.od.jvals.get none (odKey i d.sub), s.specImage i d.sub with
    | some v, some m => if m.fits v then s.odPut i d.sub v else s.reverted
    | _, _ => s)

/-- PLACE (R556, R604, R1048, R1049). -/
def State.loadPlace (s : State) (k : Nat) : State :=
  match (s.slot k).image with
  | none => s
  | some im =>
    let v := s.slot k
    let shs := s.slotShuttles k
    let s1 := s.each ((List.range shs.length).zip shs) (fun s e =>
      let s1 := (s.clearShuttle e.2).putWords (0x11 + e.2) 0 (s.descriptor k e.1 im)
      let s2 := s1.each (im.localData.filter (fun x => x.1 == e.1)) (fun s x => s.putTagged (0x11 + e.2) (16 + x.2.1) x.2.2)
      s2.each (im.code.filter (fun x => x.1 == e.1)) (fun s x => s.putCode (0x1B + e.2) x.2))
    let s2 := if im.decl.commonWords = 0 then s1 else s1.putWords v.regionBank v.regionOff (im.commonInit.take im.decl.commonWords)
    let s3 := s2.each im.heddleProg (fun s x =>
      if x.1 = 0 then s.putProg 0 v.base0 v.words0 x.2 else s.putProg 1 v.base1 v.words1 x.2)
    let s4 := s3.each (s3.slotHeddles k) (fun s n =>
      (s.wr (Reg.HEDDLE_REGION_BASE.at n) (if n < 8 then v.base0 else v.base1)).wr (Reg.HEDDLE_REGION_LEN.at n)
        (if n < 8 then v.words0 else v.words1))
    let s5 := s4.setSlot k { s4.slot k with placed := true, sessions := 0 }
    let s6 : State := { s5 with od := { s5.od with mapping := s5.od.mapping.set [] k im.mapRows } }
    s6.takeJournaled k im

/-- START (R555): a thread with an entry address runs; the image's claims take effect; the slot is RUNNING. -/
def State.loadStart (s : State) (k : Nat) : State :=
  match (s.slot k).image with
  | none => s
  | some im =>
    let shs := s.slotShuttles k
    let s1 := s.each ((List.range shs.length).zip shs) (fun s e =>
      s.each (List.range 4) (fun s j =>
        let t := 2 + 4 * e.2 + j
        let w := (im.entryWords e.1).getD []
        let pc := w.getD (j + 1) 0xFFFFFFFF
        if pc = 0xFFFFFFFF then s
        else s.setThread t { threadReset t with pc := BitVec.ofNat 32 pc, vbase := BitVec.ofNat 32 (w.headD 0), run := .running }))
    (s1.setSlot k { s1.slot k with claims := im.claims, restartPending := false }).slotTo k 2

/-- The result word of a LOAD: its Shuttles and Heddles. -/
def State.loadResult (s : State) (k : Nat) : Nat := (s.slot k).shuttles + 256 * (s.slot k).heddles

/-- Steps 2 to 4 of a load without a ticket (R572, R586); the detail of a failure. -/
def State.loadRest (s : State) (k : Nat) : Nat × State :=
  let r := s.loadVerify k
  if r.1 ≠ 0 then r else (0, (r.2.loadPlace k).loadStart k)

/-- A whole load without a ticket (R572). -/
def State.loadNow (s : State) (k src : Nat) (im : Option Image) : Nat × State :=
  let r := s.loadCheck k src im
  if r.1 ≠ 0 then r else r.2.loadRest k

/-! ### Leaving service -/

/-- The threads of slot `k` are halted. -/
def State.haltThreads (s : State) (k : Nat) : State :=
  s.each (s.slotShuttles k) (fun s n =>
    s.each (List.range 4) (fun s j =>
      let t := s.thread (2 + 4 * n + j)
      s.setThread (2 + 4 * n + j) { t with run := .stopped, wakeLatch := false }))

/-- The sessions of slot `k` are closed (R560, R580): their contexts are DRAINING, or FREE where they hold no ticket. -/
def State.closeSessions (s : State) (k : Nat) : State :=
  s.each (List.range 256) (fun s c =>
    if 4 ≤ c && (s.ctx c).state == .opened && (s.ctx c).image == k then s.closeSession c else s)

/-- The channels of slot `k` take their safe states: Heddles STOPPED with pins SAFE (Table 10-5), UARTs disabled (R647), CAN channels
stopped (a frame in progress completes). -/
def State.channelsSafe (s : State) (k : Nat) : State :=
  let d := s.decl k
  let s1 := s.each (s.slotHeddles k) State.hdStop
  let s2 := s1.each [0, 1] (fun s n => if bitOf d.field (2 + n) then s.uaDisable n else s)
  s2.each [0, 1] (fun s n =>
    if !bitOf d.field n || s.cnState n = 0 || s.cnState n = 6 then s
    else if (s.cn n).attempt.isSome then s.setCn n { s.cn n with stopReq := true }
    else s.cnStop n)

/-- What QUIESCE and a fault share: threads, sessions, channels, claims. -/
def State.slotQuiet (s : State) (k : Nat) : State :=
  let s1 := ((s.haltThreads k).closeSessions k).channelsSafe k
  s1.setSlot k { s1.slot k with claims := [] }

/-- QUIESCE (R580). -/
def State.slotQuiesce (s : State) (k : Nat) : State :=
  let s1 := s.slotQuiet k
  (s1.setSlot k { s1.slot k with restartPending := false }).slotTo k 4

/-- A double trap in thread `j` of Shuttle `n` (R533, R560): its image is FAULTED, the thread shows FAULTED, event 0x0901. -/
def State.imageFault (s : State) (n j code : Nat) : State :=
  let t := 2 + 4 * n + j
  let s0 := s.setThread t { s.thread t with run := .halted }
  match s.shuttleHolder n with
  | none => s0
  | some k =>
    if s.slotState k ≠ 2 then s0
    else
      let s1 := s0.slotQuiet k
      let s2 := s1.setThread t { s1.thread t with run := .halted }
      let due := s.odN 0x2200 7 1 == 1 && decide (s.rd (Reg.SYS_IMGSTAT_STORE.at k) < 16) && decide ((s.slot k).restarts < 3)
      ((s2.setSlot k { s2.slot k with restartPending := due, faultCycle := s.cycle }).slotTo k 3).event 0x0901 k [n, j, code]

/-! ### Steps of the IMAGE_LOAD ticket (R573 to R583); parameters: operation, target, source, four bytes of VALUE -/

/-- The parameters of an IMAGE_LOAD ticket. -/
def imageParams (op target src value : Nat) : List Nat := [op, target, src] ++ evBytes 4 value

/-- The steps of an operation (Table 09-8). -/
def imageSteps (op : Nat) : Nat := if op = 1 ∨ op = 3 then 4 else 2

/-- The image that SOURCE names. -/
def State.sourceImage (s : State) (src : Nat) : Option Image := if src = 16 then s.img.staged else s.img.store.get none src

/-- The staging cells return to the Loom (R581). -/
def State.stageReturn (s : State) : State := { s with img := { s.img with staged := none, stagedCells := false } }

/-- The slot of a LOAD ticket that ended after CHECK without being DONE (R579), and the staging cells of an operation with SOURCE 16 that
ended (R581). -/
def State.imageSettle (s : State) (i : Nat) : State :=
  let t := s.ticket i
  if t.type ≠ 9 ∨ !t.state.isFinal then s
  else
    let op := t.params.getD 0 0
    let s1 := if op = 1 ∧ t.state ≠ .done ∧ 1 ≤ t.step ∧ s.slotState (t.params.getD 1 0) = 1 then s.slotFree (t.params.getD 1 0) else s
    if t.params.getD 2 0 = 16 then s1.stageReturn else s1

/-- A step of an image operation fails with a detail: LAST_ERROR of a store slot is recorded, and the ticket fails (R583). -/
def State.storeFail (s : State) (i k d : Nat) : State :=
  ({ s with img := { s.img with storeError := s.img.storeError.set 0 k d } }).failTicket i (detailCode d)

/-- A LOAD step. -/
def State.stepLoad (s : State) (i k src : Nat) : State :=
  let n := (s.ticket i).step + 1
  let r : Nat × State :=
    if n = 1 then s.loadCheck k src (s.sourceImage src)
    else if n = 2 then s.loadVerify k
    else if n = 3 then (0, s.loadPlace k)
    else (0, s.loadStart k)
  if r.1 ≠ 0 then r.2.failTicket i (detailCode r.1) else r.2.stepDone i .uint (r.2.loadResult k)

/-- An UNLOAD step. -/
def State.stepUnload (s : State) (i k : Nat) : State :=
  if (s.ticket i).step = 0 then
    if s.slotState k = 2 ∨ s.slotState k = 3 then (s.slotQuiesce k).stepDone i .uint k
    else (s.slotErr k 0x0D).failTicket i (detailCode 0x0D)
  else (s.slotFree k).stepDone i .uint k

/-- A STORE step; `failed` where the flash does not program or read back. -/
def State.stepStore (s : State) (i k : Nat) (failed : Bool) : State :=
  let n := (s.ticket i).step + 1
  match s.img.staged with
  | none => s.storeFail i k 0x0E
  | some im =>
    if n = 1 then
      let d := s.imageDetail im (fun q => decide (1 ≤ q) && decide (q ≤ 3))
      let d := if d ≠ 0 then d else if im.sigOk then 0 else 4
      if d ≠ 0 then s.storeFail i k d else s.stepDone i .uint im.total
    else if failed then s.storeFail i k 0x0F
    else
      let put (v : Option Image) : State := { s with img := { s.img with store := s.img.store.set none k v } }
      let s1 : State := if n = 2 then put none else if n = 3 then put (some im) else
        { s with img := { s.img with storeError := s.img.storeError.set 0 k 0 } }
      s1.stepDone i .uint im.total

/-- A TABLE step (R582): copy 0 is written with a GEN one higher than the highest valid one, and copy 1, once copy 0 has read back correct,
with the same content and GEN. -/
def State.stepTable (s : State) (i k value : Nat) (failed : Bool) : State :=
  let old := s.imgTable
  let next : ImgTable := { old with gen := (old.gen + 1) % 2 ^ 32 }
  let new := if k = 8 then { next with primary := value % 256, fallback := value / 256 % 256 }
    else { next with sets := next.sets.set k value }
  if failed then (s.erase (0x20000 + 0x10000 * (s.ticket i).step) 0x10000).failTicket i (detailCode 0x0F)
  else if (s.ticket i).step = 0 then (s.putTable 0 new).stepDone i .uint new.gen
  else (s.putTable 1 old).stepDone i .uint old.gen

/-- The next step of the IMAGE_LOAD ticket in slot `i`. -/
def State.stepImage (s : State) (i : Nat) (failed : Bool) : State :=
  let p := (s.ticket i).params
  let op := p.getD 0 0
  let k := p.getD 1 0
  let s1 := if op = 1 then s.stepLoad i k (p.getD 2 0)
    else if op = 2 then s.stepUnload i k
    else if op = 3 then s.stepStore i k failed
    else s.stepTable i k (leValue (((p.drop 3).take 4).map (BitVec.ofNat 8))) failed
  s1.imageSettle i

/-- Whether the members of IMAGE_OP name an operation of Table 09-8 (R573, R574). -/
def imageOpOk (op target src value : Nat) : Bool :=
  if op = 1 then decide (target < 4) && decide (src ≤ 16) && value == 0
  else if op = 2 then decide (target < 4) && src == 0 && value == 0
  else if op = 3 then decide (target < 16) && src == 16 && value == 0
  else decide (target ≤ 8) && src == 0

/-! ### Commands -/

/-- SHWAKE (R558): by the Weaver, the gateway, or a thread of the same image. -/
def execShwake (t : Fin 32) (w : Writer) (s : State) : Out :=
  let may := match w with
    | .image k => s.shuttleHolder (t.val / 4) == some k.val
    | .pcp => false
    | _ => true
  .next (if may then s.wakeShuttle t else s)

/-- The 10 ms between a fault and its restart (R586), in SCLK cycles. -/
def restartSpan : Nat := 30000000

/-- IMAGE_RESTART (R586): 10 ms after the fault, steps 2 to 4 from the store slot, with the reservations kept. -/
def execImageRestart (k : Fin 4) (s : State) : Out :=
  let v := s.slot k
  .next (if s.slotState k ≠ 3 ∨ !v.restartPending ∨ s.cycle < v.faultCycle + restartSpan then s
    else
      let im := s.img.store.get none (s.rd (Reg.SYS_IMGSTAT_STORE.at k))
      let s1 := (s.setSlot k { v with restarts := v.restarts + 1, restartPending := false,
                                      image := if im.isSome then im else v.image }).slotTo k 1
      if im.isNone then (s1.slotFree k).slotErr k 0x0E
      else
        let r := s1.loadRest k
        if r.1 ≠ 0 then r.2.slotErr k r.1 else r.2)

end Sys2Proof.Machine
end

