-- ==== Sys2Proof/Machine/Power.lean ====
section
/-! DEFINITION. Supplies, the wake sequence up to W7, the shutdown sequence and the clock monitors (chapters 01 and 02). -/
namespace Sys2Proof.Machine

/-! ### Power states -/

/-- Enter a power state; INTSTAT.POWER is set (R400). -/
def State.powerTo (s : State) (st : Nat) : State := (s.wr Reg.SYS_PSTATE_STATE st).intBit 4

/-- Power leaves while a staged record is programmed: a free part of the record at the head of the staging area stands in flash, and where
that is all of it the record is committed (R367, R376). -/
def State.tearHead (s : State) : State :=
  match s.jr.staging with
  | [] => s
  | r :: _ =>
    let b := s.bolt s.jr.active
    if !s.weaverOn || !s.mountOver || b.failing || decide (s.jr.boltSize < b.used + r.size) then s
    else
      let d := s.drawWord
      d.2.tornWrite s.jr.active r (d.1.toNat % (17 + r.len))

/-- EN_CORE drops: the digital die loses everything but the kept fields, the flash contents, the fuses and the supplies (R106,
R931). -/
def State.dieOff (s0 : State) : State :=
  let s := s0.tearHead
  { s with
    regs := s.regs.filter (fun e => keptKey e.1), link := {}, linkAnswer := .none, od := {}, tk := {},
    marks := s.marks.set 0 Mark.dieOff.key s.cycle,
    jr := { capacity := s.jr.capacity, tppSfdpUs := s.jr.tppSfdpUs, profile1 := s.jr.profile1, answersSfdp := s.jr.answersSfdp },
    trd := {}, time := {}, mem := {}, threads := [],
    img := { store := s.img.store },
    hed := {}, loom := {}, can := [], pwm := {}, fan := {}, gl := {},
    pow := { s.pow with enCore := false, pullDowns := false, xspiVsel18 := false, weaverHalted := false, firmwareOk := false,
                        strapRound := 0, refclkBack := false, capActive := false, capCycle := 0, resumeInS4 := false, limp := false,
                        recordBegun := false, jtag := .idcode } }

/-- What the JTAG port does with the instruction that it holds (R1076): while DEBUG_LOCKED reads 1, every instruction but the four that
it offers then behaves as BYPASS. -/
def State.jtagActs (s : State) : JtagInstr :=
  match s.pow.jtag with
  | .other _ => if s.on Reg.FUSE_STATUS_DEBUG_LOCKED then .bypass else s.pow.jtag
  | i => i

/-- The state in which the device rests without its digital die (Table 02-10): LISTEN with the main feed, else BACKUP, or OFF where the
backup rail is unpowered. -/
def State.restState (s : State) : Nat := if s.pow.mainFeed then 2 else if s.pow.vbat && s.bk.source != .unpowered then 1 else 0

/-- The device comes to rest. -/
def State.rest (s : State) : State := s.wr Reg.SYS_PSTATE_STATE s.restState

/-- W1 of a wake from source `src` (R112): W1 starts the companion regulators and W2 waits for them. -/
def State.wakeStart (s : State) (src : Nat) : State :=
  { s.wr Reg.SYS_PSTATE_STATE 3 with
    pow := { s.pow with wakeStep := 2, attempt := 1, waitRetry := false, wsrc := src, allW4 := true, strapRound := 0,
                        heldWake := none, offWait := false, pullDowns := true, limp := false } }

/-- W1 calls, where RESET_N is high (R111); else the wake waits for its release. -/
def State.wakeCall (s : State) (src : Nat) : State :=
  if s.pow.resetLow then { s.rest with pow := { s.pow with heldWake := some src } } else s.wakeStart src

/-- The wake goes on to step `n` (R113). -/
def State.wakeTo (s : State) (n : Nat) : State := { s with pow := { s.pow with wakeStep := n } }

/-- The restart cause (R125): 0 at the first wake after first power, 7 after 2 or 3 attempts (`again`), else by the last shutdown. -/
def State.wakeCause (s : State) (again : Bool) : Nat :=
  let t := s.pow.lastTrigger
  if s.pow.firstPower then 0
  else if again then 7
  else if t = 1 ∨ t = 2 then 5
  else if t = 3 then 6
  else if t = 4 then 4
  else if t = 6 then 3
  else if t = 7 then 2
  else 1

/-- The wake record of a third failed attempt (R117, R124): R118 gives 7 only to a wake that completes, so RCAUSE follows the last
shutdown (log entry 10). The first wake after first power is over. -/
def State.failRecord (s : State) (step : Nat) : State :=
  let c := s.wakeCause false
  let s1 := ((((s.wr Reg.BACKUP_WAKEREC0_RCAUSE c).wr Reg.SYS_RSTCAUSE_CAUSE c).wr Reg.BACKUP_WAKEREC0_WFAIL_STEP step).wr
    Reg.BACKUP_WAKEREC0_ATTEMPTS 3).wr Reg.BACKUP_WAKEREC0_WSRC s.pow.wsrc
  { s1 with pow := { s1.pow with firstPower := false } }

/-- A wake step fails (R116 to R120): EN_CORE drops and another attempt follows, or after the third the wake record is written, FAULT_N
is asserted and the device enters LIMP, whose PCP is stopped (R121), or rests. -/
def State.wakeFail (s : State) (step : Nat) : State :=
  let s1 := { s.dieOff with pow := { s.dieOff.pow with allW4 := s.pow.allW4 && step == 4 } }
  if s.pow.limp then { s1.rest with pow := { s1.pow with faultN := true } }
  else if s.pow.attempt < 3 then { s1.wr Reg.SYS_PSTATE_STATE 3 with pow := { s1.pow with waitRetry := true } }
  else
    let s2 := s1.failRecord step
    if s1.pow.allW4 && s.on Reg.BACKUP_WAKECFG_W4_LIMP && s.on Reg.BACKUP_WAKECFG_LIMP_ALLOWED then
      { ((s2.wr Reg.SYS_PSTATE_STATE 3).wr Reg.SYS_CLKSTAT_LIMPCLK 1).wr Reg.PCP_CTRL_RUNNING 0 with
        pow := { s2.pow with faultN := true, enCore := true, wakeStep := 6, limp := true, pullDowns := true } }
    else { s2.rest with pow := { s2.pow with faultN := true } }

/-! ### Shutdown -/

/-- Records that wait enter the staging area in order while there is room (R375). -/
def State.fillStaging : Nat → State → State
  | 0, s => s
  | k + 1, s =>
    match s.jr.waiting with
    | [] => s
    | b :: t =>
      if s.stagingRoom b then State.fillStaging k { s with jr := { s.jr with staging := s.jr.staging ++ [b], waiting := t } }
      else s

/-- Whether a trigger caps the ramp time of the groups (R130). -/
def SdTrigger.caps : SdTrigger → Bool
  | .vhvFail | .pgCore | .clockLost => true
  | _ => false

/-- S1 of a shutdown by trigger `t`, or the ramp cap of a later trigger (R127, R128, R130). -/
def State.sdStart (s : State) (t : SdTrigger) : State :=
  if s.pstate = 6 then
    (if t.caps && s.sdStep < 5 && !s.pow.capActive then { s with pow := { s.pow with capActive := true, capCycle := s.cycle } } else s)
  else if s.pstate = 4 ∨ s.pstate = 5 then
    let s1 := ((s.wr Reg.SYS_PSTATE_SDTRIG t.toCode).wr Reg.SYS_PSTATE_SDSTEP 1).powerTo 6
    { s1 with pow := { s1.pow with startedLimp := s.pstate == 5, capActive := t.caps, capCycle := s.cycle, afterSdAside := false,
                                   restartCmd := false, heldWake := none, recordBegun := false, resumeInS4 := false,
                                   flushIncomplete := false } }
  else s

/-- Entry to S5, the commit point (R124, R129): WAKEREC1 to WAKEREC3 are written, with the last step completed; the companion die
releases TWIN_OWN (R1002). -/
def State.enterS5 (s : State) (last : Nat) : State :=
  let s1 := ((((s.wr Reg.BACKUP_WAKEREC1_SD_TRIGGER (s.rd Reg.SYS_PSTATE_SDTRIG)).wr Reg.BACKUP_WAKEREC1_SD_STEP last).wr
    Reg.BACKUP_WAKEREC1_FLUSH_INCOMPLETE (b2n s.pow.flushIncomplete)).wr Reg.BACKUP_WAKEREC2_SD_TICK_LO s.bk.cnt).wr
    Reg.BACKUP_WAKEREC3_SD_TICK_HI (s.bk.cnt / 2 ^ 32)
  let s2 := if s.role = 3 then s1.ownDrive false else s1
  { s2.wr Reg.SYS_PSTATE_SDSTEP 5 with pow := { s2.pow with lastTrigger := s.rd Reg.SYS_PSTATE_SDTRIG } }

/-- The step that a shutdown has completed last. -/
def State.sdDone (s : State) : Nat := if s.pstate = 6 then s.sdStep - 1 else 0

/-- S5 at once with a trigger that takes the record over (R47, R109, R111). -/
def State.jumpS5 (s : State) (t : SdTrigger) : State :=
  if s.pstate = 6 ∧ 5 ≤ s.sdStep then s
  else
    let last := s.sdDone
    let cut := s.pstate == 6 && s.sdStep == 4 && !s.jr.staging.isEmpty
    let s1 := (s.wr Reg.SYS_PSTATE_SDTRIG t.toCode).powerTo 6
    ({ s1 with pow := { s1.pow with flushIncomplete := cut, waitRetry := false, afterSdAside := false, restartCmd := false,
                                    startedLimp := s.pstate == 5, limp := false } }).enterS5 last

/-- The copies that E0 to E5 have not sent are dropped with verdict SHUTDOWN (R696). -/
def State.loomDrain (s : State) : State :=
  s.each (List.range 6) (fun s p =>
    let e := s.eg p
    let copies := e.now.map (·.copy) ++ ((List.range 8).map (fun t => e.queues.get [] t)).flatten
    (s.setEg p { e with now := [], queues := [] }).each copies (fun s c => s.dropCopy p 0x19 c))

/-- The shutdown ends in a resume (Table 02-15): RUN or LIMP, the groups that S2 stopped restart, waiting records are staged. -/
def State.resume (s : State) : State :=
  let s0 := if s.sdStep = 3 then s.loomDrain else s
  let s1 := ((s0.wr Reg.SYS_PSTATE_SDSTEP 0).wr Reg.SYS_PSTATE_SDTRIG 0).powerTo (if s.pow.startedLimp then 5 else 4)
  let s2 : State := { s1 with pow := { s1.pow with capActive := false, heldWake := none, resumeInS4 := false,
                                                   vhvFailArmed := s1.pow.vhvAbove9 } }
  (State.fillStaging s2.jr.waiting.length s2).grResume

/-- Device time seconds and nanoseconds. -/
def State.dtNow (s : State) : Nat × Nat := (clockSec s.time.dt, clockSub s.time.dt)

/-- S4 begins (R377): the SHUTDOWN record follows the records that stand in the staging area. -/
def State.enterS4 (s : State) : State :=
  let s1 := (s.wr Reg.SYS_PSTATE_SDSTEP 4).mark .s4
  if !s.journalOn then s1
  else
    { s1 with jr := { s1.jr with staging := s1.jr.staging ++ [.shutdown (s.rd Reg.SYS_PSTATE_SDTRIG) s.dtNow.1 s.dtNow.2] } }

/-- VHV counts as returned in S4 (Table 02-15): a SHUTDOWN record not yet begun gives way to a RESUME record, else RESUME follows. -/
def State.resumeRecord (s : State) : State :=
  let r : JBody := .resume s.dtNow.1 s.dtNow.2
  let l := s.jr.staging
  let l1 := if !s.journalOn then l else if 2 ≤ l.length then l.dropLast ++ [r] else l ++ [r]
  { s with jr := { s.jr with staging := l1 }, pow := { s.pow with resumeInS4 := true } }

/-- S4 has ended: the resume, or S5 (R133). -/
def State.endS4 (s : State) (incomplete : Bool) : State :=
  if s.pow.resumeInS4 then s.resume
  else ({ s with pow := { s.pow with flushIncomplete := incomplete } }).enterS5 4

/-- S6 has ended: EN_CORE drops, and the off interval begins (Table 02-10). -/
def State.endS6 (s : State) : State :=
  let s1 := (s.wr Reg.BACKUP_WAKEREC1_SD_STEP 6).dieOff
  { s1.rest with pow := { s1.pow with offWait := true } }

/-- A shutdown command (R139): the code of Table 05-5 that it answers. -/
def State.sdCommand (s : State) (restart : Bool) : Nat × State :=
  if s.pstate = 6 then (0x0C, s)
  else if s.pstate = 4 ∨ s.pstate = 5 then
    let s1 := s.sdStart .command
    (0, { s1 with pow := { s1.pow with afterSdAside := !restart, restartCmd := restart } })
  else (0x0B, s)

/-- A write of SYS.SDCMD (R139, R140) with the code it answers; codes 0 and 3 are refused with no effect. -/
def State.sdcmdWrite (s : State) (code : Nat) : Nat × State :=
  if code = 1 then s.sdCommand false else if code = 2 then s.sdCommand true else (0, s)

/-! ### Commands: clocks and lockstep (chapter 01) -/

/-- LOCKSTEP_MISMATCH (R47): the cores halt, FAULT_N is asserted, every group is parked, and S5 follows at once. -/
def execLockstepMismatch (s : State) : Out :=
  let weaver := s.dieOn && !(s.pstate == 6 && decide (5 ≤ s.sdStep))
  let s1 := s.each [0, 1] (fun s i => s.setThread i { s.thread i with run := .halted })
  let s2 := s1.parkRequest
  .next (if !weaver then s
    else ({ s2 with pow := { s2.pow with faultN := true, weaverHalted := true } }).jumpS5 .lockstep)

/-- The clock monitors flag a lost or wrong clock (R60 to R62): `own` names what the monitor found, `run` what R61 or R62 sets in RUN,
with FAULT_N and the CLOCK_LOST shutdown; in SHUTDOWN the cap of R130 applies. -/
def State.clockLost (s : State) (own run : List Field) : State :=
  let flag (s : State) (l : List Field) : State := s.each l (fun s f => s.wr f 1)
  if !s.dieOn then s
  else if s.pstate = 4 then
    let s1 := flag s (own ++ run)
    ({ s1 with pow := { s1.pow with faultN := true } }).sdStart .clockLost
  else if s.pstate = 6 ∧ !s.pow.startedLimp then (flag s own).sdStart .clockLost
  else flag s own

/-- REFCLK_LOST (R60, R61). -/
def execRefclkLost (s : State) : Out :=
  .next (({ s with pow := { s.pow with refclkBack := false } }).clockLost [Reg.SYS_CLKSTAT_REF_LOST] [])

/-- REFCLK_OUT_OF_RANGE (R60, R61). -/
def execRefclkOutOfRange (s : State) : Out :=
  .next (({ s with pow := { s.pow with refclkBack := false } }).clockLost [Reg.SYS_CLKSTAT_REF_RANGE] [Reg.SYS_CLKSTAT_REF_LOST])

/-- PLL_UNLOCK (R62): in LIMP the Weaver runs from the RC oscillator, and PLL0 is not in use (R120). -/
def execPllUnlock (s : State) : Out := .next (if s.limping then s else s.clockLost [Reg.SYS_CLKSTAT_PLL_UNLOCK] [])

/-! ### Commands: supplies -/

/-- VBAT_PRESENT (R109). -/
def execVbatPresent (s : State) : Out :=
  let s1 : State := { s with pow := { s.pow with vbat := true } }
  .next (if s.pstate = 0 ∧ !s.pow.mainFeed then
      (if s.bk.source == .unpowered then s1.firstPower .battery else s1).wr Reg.SYS_PSTATE_STATE 1
    else s1)

/-- The release timer of the guard has paused while the main feed was away (R915). -/
def State.coolingOn (s : State) : State :=
  if s.pow.mainFeed then s
  else { s with marks := s.marks.set 0 Mark.cooling.key (s.marks.get 0 Mark.cooling.key + (s.cycle - s.marks.get 0 Mark.feedLost.key)) }

/-- MAIN_FEED_PRESENT (R107, R109); `vhv` says that VHV is above 9.0 V. -/
def execMainFeedPresent (vhv : Bool) (s : State) : Out :=
  let s1 : State := { s.coolingOn with pow := { s.pow with mainFeed := true, vhvAbove9 := vhv } }
  let s2 := if s.bk.source == .unpowered then s1.firstPower .main else s1
  .next (if s.pstate = 0 ∨ s.pstate = 1 then
      (if s.pow.offWait then { s2.wr Reg.SYS_PSTATE_STATE 2 with pow := { s2.pow with heldWake := some 0 } } else s2.wakeCall 0)
    else s2)

/-- MAIN_FEED_LOST (R107, R109): a wake attempt is abandoned and not counted; LISTEN moves to BACKUP or OFF. -/
def execMainFeedLost (s : State) : Out :=
  let s1 : State := { s.mark .feedLost with pow := { s.pow with mainFeed := false, vhvAbove9 := false, waitRetry := false } }
  .next (if s.pstate = 3 then s1.dieOff.rest else if s.pstate = 2 then s1.rest else s1)

/-- Whether the detector of a wake source works: the CAN transceivers need VHV, that of VDD_IO alone wakes nothing (R153, R814, R830). -/
def State.detectorFed (s : State) (src : Nat) : Bool := decide (2 ≤ src) || s.pow.vhvAbove9

/-- WAKE_EVENT (R108, R137): source 0 to 7 in the order of Table 02-9. DESIGN CHOICE (log entry 116): of several events held during one
shutdown the first is recorded as WSRC. -/
def execWakeEvent (src : Fin 8) (s : State) : Out :=
  let hold : State := { s with pow := { s.pow with heldWake := some (s.pow.heldWake.getD (src + 1)) } }
  .next (if !s.bit Reg.BACKUP_WAKECFG_WSRC_EN src || !s.detectorFed src then s
    else if s.pstate = 2 then (if s.pow.offWait then hold else s.wakeCall (src + 1))
    else if s.pstate = 6 then hold
    else s)

/-- Whether a frame is a wake frame (R812). -/
def CanWakeCopy.frameWakes (x : CanWakeCopy) (f : CanFrame) : Bool :=
  !f.fdf && !f.rtr && decide ((f.id.toNat ^^^ x.id) &&& (2 ^ 29 - 1 - x.ignore) = 0) && x.ide == f.ide &&
    (!x.dlcEn || x.dlc == f.dlc) && ((f.data.take 8).zip x.mask).any (fun y => y.1 &&& y.2 != 0)

/-- Whether the detector works in WAKE_MODE 1: it acts as 0 where the nominal rate is outside [125 kb/s, 1 Mb/s] (R813). -/
def CanWakeCopy.mode1 (x : CanWakeCopy) : Bool := x.mode == 1 && decide (125000 ≤ x.rate) && decide (x.rate ≤ 1000000)

/-- The error counter of the wake frame decoder after a happening on the bus. -/
def CanWakeCopy.errAfter (x : CanWakeCopy) : CanWakeCause → Nat
  | .error => if x.mode1 then x.err + 1 else x.err
  | .frame f => if x.mode1 && !f.fdf then x.err - 1 else x.err
  | .dominant => x.err

/-- Whether a happening on the bus is a wake (R812). -/
def CanWakeCopy.wakes (x : CanWakeCopy) : CanWakeCause → Bool
  | .dominant => !x.mode1
  | .frame f => x.mode1 && x.frameWakes f
  | .error => x.mode1 && decide (31 < x.err + 1)

/-- CAN_WAKE (R781, R811 to R815): the wake detector of channel `n`, in SLEEP by the registers of the channel, in LISTEN by what the
companion die holds; without VHV nothing is detected. -/
def execCanWake (n : Fin 2) (c : CanWakeCause) (s : State) : Out :=
  let x := if s.pstate = 2 then s.pow.canWake.get {} n else s.canWakeOf n
  if !s.detectorFed n then .next s
  else if s.pstate = 2 then
    let s1 : State := { s with pow := { s.pow with canWake := s.pow.canWake.set {} n { x with err := x.errAfter c } } }
    if x.wakes c then execWakeEvent (if n = 0 then 0 else 1) s1 else .next s1
  else .next (if s.cnState n ≠ 6 then s
    else
      let s1 := s.setCn n { s.cn n with wakeErr := x.errAfter c }
      if x.wakes c then
        let s2 := (s1.cnTo n 0).wr (Reg.CAN_STAT_WAKE_SEEN.at n) 1
        if s2.on (Reg.CAN_CTRL_WAKE_EN.at n) then s2.wakeShuttle (s2.rd (Reg.CAN_CTRL_THREAD.at n)) else s2
      else s1)

/-! ### Commands: wake steps -/

/-- COMPANION_REGULATORS_IN_REGULATION (R112). -/
def execCompanionRegulatorsInRegulation (s : State) : Out :=
  .next (if s.wakeAt = 2 then { s.wakeTo 3 with pow := { (s.wakeTo 3).pow with enCore := true } } else s)

/-- PG_CORE_HIGH (R112, R1096): XSPI_VSEL, 1.8 V where it is high, is latched. -/
def execPgCoreHigh (vsel18 : Bool) (s : State) : Out :=
  .next (if s.wakeAt = 3 then { s.wakeTo 4 with pow := { (s.wakeTo 4).pow with xspiVsel18 := vsel18 } } else s)

/-- REFCLK_IN_RANGE (R112). -/
def execRefclkInRange (s : State) : Out := .next (if s.wakeAt = 4 then s.wakeTo 5 else s)

/-- PLL0_LOCK (R112). -/
def execPll0Lock (s : State) : Out := .next (if s.wakeAt = 5 then s.wakeTo 6 else s)

/-- The number of set LIFECYCLE bits (R101), none where a set bit stands above a clear one. -/
def State.lifecycleFuse (s : State) : Option Nat :=
  (List.range 9).find? (fun n => s.fuseField 128 8 == 2 ^ n - 1)

/-- The fixed fields of the fuse block in ascending order (R100). -/
def State.fixedFields (s : State) : Nat :=
  s.fuseField 0 128 + 2 ^ 128 * (s.fuseField 136 840 + 2 ^ 840 * s.fuseField 1424 512)

/-- Whether FCRC matches (R100). -/
def State.fcrcOk (s : State) : Bool := crc32c 185 s.fixedFields == s.fuseField 1936 32

/-- FUSE_CHECK (R101, R102, Table 02-7); `differ` says that the two reads differ. -/
def execFuseCheck (differ : Bool) (s : State) : Out :=
  .next (if s.wakeAt ≠ 6 then s
    else
      match s.lifecycleFuse with
      | none => s.wakeFail 6
      | some n =>
        let lc := min n 4
        if differ || ((lc == 2 || lc == 3) && !s.fcrcOk) then s.wakeFail 6
        else
          let s1 := ((s.wr Reg.FUSE_STATUS_LIFECYCLE lc).wr Reg.FUSE_STATUS_CRC_OK (b2n s.fcrcOk)).wr
            Reg.FUSE_STATUS_DEBUG_LOCKED (b2n (decide (2 ≤ popCount 8 (s.fuseField 968 8))))
          let s2 := (s1.wr Reg.FUSE_STATUS_KEY0_SET (b2n (s.keyHash 0 != 0))).wr Reg.FUSE_STATUS_KEY1_SET (b2n (s.keyHash 1 != 0))
          let used := (List.range 16).countP (fun e => s.fuseEntry e != 0)
          ((s2.wr Reg.FUSE_STATUS_ARB (popCount 64 (s.fuseField 976 64))).wr Reg.FUSE_STATUS_REPAIR_USED used).wakeTo 7)

/-- STRAP_SAMPLE_ROUND (R90 to R94): the three samples of a round; W7 writes TS of the guard (R914). W8 loads device time (R227, R958); in LIMP it is stopped (R238). -/
def execStrapSampleRound (a b c : BitVec 12) (s : State) : Out :=
  let r := s.pow.strapRound
  .next (if s.wakeAt ≠ 7 then s
    else if a = b ∧ b = c then
      let conflict := fieldOf a.toNat 6 2 == 2 && fieldOf a.toNat 3 2 != 2
      let s0 := ((s.wr Reg.STRAP_SAMPLED_STRAP a.toNat).wr Reg.STRAP_SAMPLED_CONFLICT (b2n conflict)).wr Reg.STRAP_SAMPLED_ROUNDS r
      let s1 := s0.wrIf (!s.dlDown) Reg.THERMAL_GUARD_TS_TS (fieldOf a.toNat 10 2)
      let s2 := if s.pow.limp then s1 else s1.timeStart (if s.on Reg.BACKUP_STAT_BK_LOST then 0 else s.bk.cnt)
      { s2.wakeTo 8 with pow := { (s2.wakeTo 8).pow with strapRound := 0, pullDowns := false, w8Cycle := s.cycle } }
    else if r < 3 then { s with pow := { s.pow with strapRound := r + 1 } }
    else s.wakeFail 7)

/-- WAKE_STEP_TIMEOUT (R112 to R117): the step in progress has exceeded its bound. -/
def execWakeStepTimeout (s : State) : Out := .next (if s.wakeAt = 0 then s else s.wakeFail s.wakeAt)

/-- WAKE_ATTEMPT_RESTART (R116): 10 ms after EN_CORE dropped. -/
def execWakeAttemptRestart (s : State) : Out :=
  .next (if s.pstate = 3 && s.pow.waitRetry && s.passed .dieOff (10 * msCycles) then
      { s with pow := { s.pow with waitRetry := false, attempt := s.pow.attempt + 1, wakeStep := 2, pullDowns := true } }
    else s)

/-- REFCLK_BACK (R122). -/
def execRefclkBack (s : State) : Out :=
  .next (if s.pstate = 5 then { s with pow := { s.pow with refclkBack := true } } else s)

/-! ### Commands: RESET_N -/

/-- RESET_N_LOW (R109, R111, R152). -/
def execResetNLow (s : State) : Out :=
  let after := s.pow.offWait || (s.pstate == 6 && decide (5 ≤ s.sdStep))
  let s1 : State := { s with pow := { s.pow with resetLow := true, resetAfterCommit := after } }
  let s2 := if s.role = 3 then s1.ownDrive false else s1
  .next (if after then s2
    else if 3 ≤ s.pstate then s2.jumpS5 .resetN
    else { s1 with pow := { s1.pow with lastTrigger := SdTrigger.resetN.toCode } })

/-- RESET_N_RELEASE (R111): RESET_N has been high for 1 ms and EN_CORE low for 50 ms. -/
def execResetNRelease (s : State) : Out :=
  let s1 : State := { s with pow := { s.pow with resetLow := false, resetAfterCommit := false, offWait := false } }
  .next (if !s.pow.resetLow ∨ 3 ≤ s.pstate ∨ !s.passed .dieOff (50 * msCycles) then s
    else if s.pow.mainFeed then s1.wakeStart 0x0A else s1)

/-! ### Commands: shutdown -/

/-- VHV_FAIL (R126). -/
def execVhvFail (s : State) : Out :=
  let s1 : State := { s with pow := { s.pow with vhvAbove9 := false } }
  .next (if s.pow.vhvFailArmed then s1.sdStart .vhvFail else s1)

/-- PG_CORE_WARNING (R126, R138). -/
def execPgCoreWarning (s : State) : Out :=
  .next (if s.pstate = 6 ∧ s.sdStep < 5 ∧ s.rd Reg.SYS_PSTATE_SDTRIG ≠ SdTrigger.pgCore.toCode then
      ({ s with pow := { s.pow with flushIncomplete := s.sdStep == 4 && !s.jr.staging.isEmpty } }).enterS5 s.sdDone
    else s.sdStart .pgCore)

/-- SHUTDOWN_POWER_OFF (R139). -/
def execShutdownPowerOff (s : State) : Out := .next ((s.sdCommand false).2.answer (s.sdCommand false).1)

/-- SHUTDOWN_RESTART (R139). -/
def execShutdownRestart (s : State) : Out := .next ((s.sdCommand true).2.answer (s.sdCommand true).1)

/-- SHUTDOWN_STEP_COMPLETE (R128, Table 02-14). S2 ends when every group is DISABLED or FAULT (R876), S4 when the records are
written (R377). -/
def execShutdownStepComplete (s : State) : Out :=
  .next (if s.pstate ≠ 6 then s
    else if s.sdStep = 1 then (s.wr Reg.SYS_PSTATE_SDSTEP 2).grStopAll
    else if s.sdStep = 2 then
      (if s.grAllStopped then (s.twinS2.wr Reg.SYS_PSTATE_SDSTEP 3).each (List.range 16) State.hdStop else s)
    else if s.sdStep = 3 then s.loomDrain.enterS4
    else if s.sdStep = 4 then (if s.jr.staging.isEmpty || !s.journalOn then s.endS4 false else s)
    else if s.sdStep = 5 then (s.wr Reg.BACKUP_WAKEREC1_SD_STEP 5).wr Reg.SYS_PSTATE_SDSTEP 6
    else s.endS6)

/-- RAMP_CAP_EXPIRED (R130): 2 ms after the capping trigger every group still ramping is parked. -/
def execRampCapExpired (s : State) : Out :=
  .next (if s.pstate = 6 && s.pow.capActive && s.sdStep < 5 && s.pow.capCycle + 2 * msCycles ≤ s.cycle then
      let s1 := s.each (List.range 4) (fun s g => if s.grState g = 4 then s.grFaults g 10 else s)
      { s1 with pow := { s1.pow with capActive := false } }
    else s)

/-- S4_BOUND_REACHED (R133): S4 has lasted 7 ms. -/
def execS4BoundReached (s : State) : Out :=
  .next (if s.inS4 && s.sdStep == 4 && s.passed .s4 (7 * msCycles) then s.endS4 (!s.jr.staging.isEmpty) else s)

/-- VHV_RETURNED (R135, Table 02-15). -/
def execVhvReturned (s : State) : Out :=
  let s1 : State := { s with pow := { s.pow with vhvAbove9 := true } }
  .next (if s.pstate ≠ 6 ∨ s.rd Reg.SYS_PSTATE_SDTRIG ≠ SdTrigger.vhvFail.toCode then s1
    else if s.sdStep ≤ 3 then s1.resume
    else if s.sdStep = 4 ∧ !s.pow.resumeInS4 then s1.resumeRecord
    else s1)

/-- OFF_INTERVAL_END (R136, R137): which W1 follows the off interval, by source; none where the device rests. -/
def State.offOutcome (s : State) : Option Nat :=
  let p := s.pow
  if p.lastTrigger = SdTrigger.lockstep.toCode then some 0x0B
  else if p.lastTrigger = SdTrigger.command.toCode ∧ p.restartCmd then some 0x09
  else if (p.lastTrigger = 1 ∨ p.lastTrigger = 2 ∨ p.lastTrigger = 4) ∧ !p.afterSdAside ∧ s.on Reg.BACKUP_WAKECFG_AFTER_SD_WAKE ∧
      p.vhvAbove9 then some 0x0B
  else p.heldWake

/-- OFF_INTERVAL_END (R136): 50 ms after S6; a restart that RESET_N governs waits for its release (R111). -/
def execOffIntervalEnd (s : State) : Out :=
  let s1 : State := { s with pow := { s.pow with offWait := false } }
  .next (if !s.pow.offWait || !s.passed .dieOff (50 * msCycles) then s
    else if s.pow.resetLow then s1
    else
      match s.offOutcome with
      | some src => if s.pow.mainFeed then s1.wakeStart src else { s1 with pow := { s1.pow with heldWake := none } }
      | none => s1)

end Sys2Proof.Machine
end

