-- ==== Sys2Proof/Machine/Operands.lean ====
section
/-! DEFINITION. Eurnafa instructions: profiles, encoding checks, operands, trap entry and issue (R480 to R500, R511 to R513, R520,
R528 to R533). -/
namespace Sys2Proof.Machine

/-! ### Threads and their processors -/

/-- The profiles of Table 08-2. -/
inductive Profile where
  | full | stream | control
  deriving DecidableEq

/-- The profile of thread `i`. -/
def profileOf (i : Nat) : Profile := if i < 2 then .full else if i < 34 then .stream else .control

/-- The processor number of THREAD [15:8] (Table 08-11): 0 Weaver, 1 to 8 Shuttles, 9 PCP. -/
def procOf (i : Nat) : Nat := if i < 2 then 0 else if i < 34 then (i - 2) / 4 + 1 else 9

/-- The thread number within its processor. -/
def threadNo (i : Nat) : Nat := if i < 2 then i else if i < 34 then (i - 2) % 4 else 0

/-- The code of the processor in MEM.ERRSRC. -/
def srcOf (i : Nat) : Nat := if i < 2 then 2 else if i < 34 then 6 + (i - 2) / 4 else 3

/-- The bank of the local memory of thread `i` (Table 07-2). -/
def localBank (i : Nat) : Nat := if i < 2 then 0x10 else if i < 34 then 0x11 + (i - 2) / 4 else 0x19

/-- The code RAM of thread `i` (R419). -/
def codeBank (i : Nat) : Nat := if i < 2 then 0x1A else if i < 34 then 0x1B + (i - 2) / 4 else 0x23

/-- The byte of code memory at which the code RAM begins: above the Weaver's ROM (Table 01-7), 0 elsewhere. -/
def codeBase (i : Nat) : Nat := if i < 2 then 0x10000 else 0

/-- Whether thread `i` may issue in the present power state (Table 02-14, R43, R47, R121). -/
def State.mayIssue (s : State) (i : Nat) : Bool :=
  (s.thread i).run == .running &&
    (if i < 2 then s.weaverOn
     else if i < 34 then s.pstate == 4 || (s.pstate == 6 && decide (s.sdStep < 3))
     else s.running && s.on Reg.PCP_CTRL_RUNNING)

/-- General register `n` of thread `i`. -/
def State.greg (s : State) (i n : Nat) : TWord := (s.thread i).g.get TWord.nilWord n

/-- Write general register `n` of thread `i`; a register never holds tag 0xE (R480, R512). -/
def State.setG (s : State) (i n : Nat) (w : TWord) : State :=
  let t := s.thread i
  s.setThread i { t with g := t.g.set TWord.nilWord n (if w.tag = .reserved then { w with tag := .bits } else w) }

/-- The flags of a thread. -/
def Thread.flags (t : Thread) : Flags := { z := t.z, n := t.n, c := t.c, v := t.v }

/-- Write Z, N, C and V of thread `i`. -/
def State.setFlags (s : State) (i : Nat) (f : Flags) : State :=
  s.setThread i { s.thread i with z := f.z, n := f.n, c := f.c, v := f.v }

/-- Set V of thread `i` where `b` holds. -/
def State.setV (s : State) (i : Nat) (b : Bool) : State := if b then s.setThread i { s.thread i with v := true } else s

/-- Write P of thread `i`. -/
def State.setP (s : State) (i : Nat) (b : Bool) : State := s.setThread i { s.thread i with p := b }

/-- FL as a number (R482). -/
def Thread.fl (t : Thread) : Nat := b2n t.z + 2 * b2n t.n + 4 * b2n t.c + 8 * b2n t.v + 16 * b2n t.p

/-- A thread with FL written from a number. -/
def Thread.setFl (t : Thread) (v : Nat) : Thread :=
  { t with z := bitOf v 0, n := bitOf v 1, c := bitOf v 2, v := bitOf v 3, p := bitOf v 4 }

/-! ### Outcomes of an instruction -/

/-- What an instruction does once it executes: it goes on at the next instruction, jumps, waits at its own address for memory, traps with the word
that failed, or completes and then traps. -/
inductive EurRes where
  | done (s : State)
  | jump (s : State) (pc : Word)
  | again (s : State)
  | trap (code : Nat) (w : TWord) (s : State)
  | after (code : Nat) (w : TWord) (s : State)

/-- The word that TVAL and TTAG show for an address (R531). -/
def addrWord (a : Nat) : TWord := ⟨.uint, BitVec.ofNat 32 a⟩

/-- A free word: TVAL and TTAG of a trap whose operand the spec does not name. -/
def State.freeTagged (s : State) : TWord × State :=
  let d1 := s.drawWord
  let d2 := d1.2.drawWord
  (⟨Tag.ofCode d1.1.toNat, d2.1⟩, d2.2)

/-! ### Trap entry (R531, R533) -/

/-- Trap entry of thread `i` with a code, a TPC and the word of TVAL and TTAG. -/
def State.trapEnter (s : State) (i code : Nat) (tpc : Word) (w : TWord) : State :=
  let t := s.thread i
  let s1 := s.setThread i { t with tpc := tpc, tcause := code, tval := w.val, ttag := w.tag.toCode, tfl := t.fl, tactive := true,
                                   pc := t.vbase + BitVec.ofNat 32 (16 * code) }
  ((((s1.inc Reg.SYS_TRAPCNT_TOTAL).wr Reg.SYS_TRAPLAST_PROC (procOf i)).wr Reg.SYS_TRAPLAST_THREAD (threadNo i)).wr
    Reg.SYS_TRAPLAST_CODE code).wr Reg.SYS_TRAPPC_PC tpc.toNat

/-- A double trap of thread `i` (R533): event 0x0801; a Shuttle's image faults, the PCP halts, a Weaver thread enters the ROM fatal entry, which
runs the shutdown sequence as for a restart command. -/
def State.doubleTrap (s : State) (i code : Nat) (tpc : Word) : State :=
  let s1 := (s.inc Reg.SYS_TRAPCNT_DOUBLE).event 0x0801 (procOf i) ([code] ++ evBytes 4 tpc.toNat)
  if i < 2 then ((s1.setThread i { s1.thread i with pc := 0x40 }).sdCommand true).2
  else if i < 34 then s1.imageFault ((i - 2) / 4) ((i - 2) % 4) code
  else (s1.setThread i { s1.thread i with run := .halted }).pcpHalt code

/-- A trap of thread `i` (R531, R533). -/
def State.takeTrap (s : State) (i code : Nat) (tpc : Word) (w : TWord) : State :=
  if (s.thread i).tactive then s.doubleTrap i code tpc else s.trapEnter i code tpc w

/-! ### Encoding (R486 to R493) -/

/-- The forms of R487. -/
inductive EurForm where
  | n | d | s
  deriving DecidableEq

/-- What Tables 08-4 and 08-7 say of an instruction: form, modes of form S, the escape byte, the profiles, and the prefixes beside PRED, TAGI,
UNCHK and ORDER that stand on it, WIDE with its modes. -/
structure EurDesc where
  form : EurForm
  modes : List EurMode := []
  esc : Bool := false
  full : Bool := true
  stream : Bool := true
  control : Bool := true
  lock : Bool := false
  shared : Bool := false
  byte : Bool := false
  rep : Bool := false
  wide : List EurMode := []
  pred : Bool := true

/-- Whether an instruction carries a prefix. -/
def eurHas (op : EurOp) (p : Prefix) : Bool := op.prefixes.contains p

/-- Whether a mode has an immediate. -/
def immMode (m : EurMode) : Bool := [EurMode.i8, .i16, .i32, .mi].contains m

/-- Whether the operand in memory is addressed by the instruction's mode. -/
def memMode (m : EurMode) : Bool := [EurMode.m8, .m16, .a16, .mi].contains m

/-- Whether a prefix stands on an instruction of thread `i` (Table 08-4, R483). -/
def prefixOk (i : Nat) (d : EurDesc) (op : EurOp) (p : Prefix) : Bool :=
  match p with
  | .lock => d.lock
  | .predT | .predF => d.pred
  | .shared => d.shared && (d.form != .s || memMode op.mode || d.rep)
  | .tagi => d.form == .s && immMode op.mode
  | .unchk => profileOf i == .full
  | .wide => d.wide.contains op.mode
  | .byte => d.byte
  | .rep => d.rep
  | .order => true

/-- The extension bytes of a mode (Table 08-3). -/
def extBytes : EurMode → Nat
  | .reg => 1 | .i8 => 1 | .i16 => 2 | .i32 => 4 | .m8 => 2 | .m16 => 3 | .a16 => 2 | .mi => 5

/-- The bytes of an instruction (R486). -/
def eurLen (d : EurDesc) (op : EurOp) : Nat :=
  op.prefixes.length + (if d.esc then 2 else 1) +
    (match d.form with | .n => 0 | .d => 1 | .s => 1 + extBytes op.mode) + (if eurHas op .tagi then 1 else 0)

/-- Whether a TAGI byte is allowed (R496). -/
def tagByteOk (op : EurOp) : Bool :=
  let t := op.tagByte.toNat
  decide (t < 16) && t != 0xE && (eurHas op .unchk || (t != 0 && t != 0xF))

/-- Whether the encoding is illegal (R491). -/
def encIllegal (d : EurDesc) (op : EurOp) : Bool :=
  let i := op.thread.val
  let hasB := d.form == .s && ([EurMode.reg, .m8, .m16, .mi].contains op.mode)
  !decide op.prefixes.Nodup || decide (4 < op.prefixes.length) || (eurHas op .predT && eurHas op .predF) ||
    !op.prefixes.all (prefixOk i d op) || (d.lock && !eurHas op .lock) ||
    (d.form == .s && !d.modes.contains op.mode) || (d.form == .d && op.mode != .reg) ||
    (hasB && decide (32 ≤ op.bByte.toNat)) || decide (12 < eurLen d op) ||
    (eurHas op .tagi && !tagByteOk op) ||
    (eurHas op .wide && (decide (op.d.val % 2 = 1) || (op.mode == .reg && decide (op.bByte.toNat % 2 = 1))))

/-- Whether the profile of thread `i` lists the instruction (R483). -/
def inProfile (d : EurDesc) (i : Nat) : Bool :=
  match profileOf i with
  | .full => d.full
  | .stream => d.stream
  | .control => d.control

/-! ### Fetch (R418) -/

/-- The fetch of `len` bytes at PC: whether it fails, and the state with the errors it logs (R419). -/
def State.fetchFails (s : State) (i len : Nat) : Bool × State :=
  let pc := (s.thread i).pc.toNat
  let b := codeBank i
  if codeBase i + 8 * bankWords b < pc + len then (true, s)
  else
    let lo := max pc (codeBase i)
    let first := (lo - codeBase i) / 8
    let last := (pc + len - 1 - codeBase i) / 8
    if pc + len ≤ codeBase i then (false, s)
    else
      (List.range (last + 1 - first)).foldl (fun a k =>
        let r := a.2.memRead b (first + k) (srcOf i)
        (a.1 || r.1 == .poisoned, r.2.2)) (false, s)

/-- Issue of an instruction (R493, R529 to R531): nothing where its thread does not issue; else FETCH_ERROR, ILLEGAL_ENCODING (also where `enc`
holds), ILLEGAL_OPCODE (also where `opc` holds), a false predicate, or its body. -/
def State.issue (s : State) (d : EurDesc) (op : EurOp) (enc opc : Bool) (body : State → EurRes) : State :=
  let i := op.thread.val
  let t := s.thread i
  let len := eurLen d op
  let next := t.pc + BitVec.ofNat 32 len
  if !s.mayIssue i then s
  else
    let f := s.fetchFails i len
    if op.fetchBad || f.1 then f.2.takeTrap i 0xA t.pc ⟨.uint, t.pc⟩
    else if encIllegal d op || enc then f.2.freeTagged.2.takeTrap i 1 t.pc f.2.freeTagged.1
    else if !inProfile d i || opc then f.2.freeTagged.2.takeTrap i 2 t.pc f.2.freeTagged.1
    else if (eurHas op .predT && !t.p) || (eurHas op .predF && t.p) then f.2.setThread i { t with pc := next }
    else
      match body f.2 with
      | .done s1 => s1.setThread i { s1.thread i with pc := next }
      | .jump s1 pc => s1.setThread i { s1.thread i with pc := pc }
      | .again s1 => s1
      | .trap code w s1 => s1.takeTrap i code t.pc w
      | .after code w s1 => (s1.setThread i { s1.thread i with pc := next }).takeTrap i code next w

/-! ### Operands (R489, R494 to R499) -/

/-- Whether tag checks are suspended (R512). -/
def unchecked (op : EurOp) : Bool := eurHas op .unchk

/-- The trap that a source operand raises by itself (R511): POISON 5, NIL_USE 4 unless NIL is accepted, else none. -/
def srcTrap (op : EurOp) (nilOk : Bool) (w : TWord) : Nat :=
  if unchecked op then 0 else if w.tag = .trap then 5 else if w.tag = .nil ∧ !nilOk then 4 else 0

/-- The immediate of a mode under the tag it takes (R494 to R496). -/
def immOf (op : EurOp) (dflt : Tag) : TWord :=
  let tag := if eurHas op .tagi then Tag.ofCode op.tagByte.toNat else dflt
  let sext := tag == .int || tag == .fix || tag == .time
  let v : Word := match op.mode with
    | .i8 => if sext then (op.ext.setWidth 8).signExtend 32 else (op.ext.setWidth 8).setWidth 32
    | .i16 => if sext then (op.ext.setWidth 16).signExtend 32 else (op.ext.setWidth 16).setWidth 32
    | _ => op.ext
  let short := op.mode == .i8 || op.mode == .i16
  ⟨tag, if tag == .fix && short then v <<< 16 else v⟩

/-- The register number of the B byte. -/
def bReg (op : EurOp) : Nat := op.bByte.toNat % 32

/-- The displacement of M8 and M16, sign-extended. -/
def dispOf (op : EurOp) : Word :=
  match op.mode with
  | .m8 => (op.ext.setWidth 8).signExtend 32
  | .m16 => (op.ext.setWidth 16).signExtend 32
  | _ => 0

/-- The bytes of packet memory. -/
def packetBytes : Nat := 4194304

/-- Whether `n` words from word address `a` on lie in the tagged memory that an access addresses: local memory or, with SHARED, common
memory (R498), of which a Shuttle reaches only the common region of its image (R557). -/
def State.spaceHas (s : State) (op : EurOp) (n a : Nat) : Bool :=
  if !eurHas op .shared then decide (a + n ≤ localWords op.thread)
  else if profileOf op.thread ≠ .stream then decide (a + n ≤ 524288)
  else
    match s.shuttleHolder ((op.thread.val - 2) / 4) with
    | none => false
    | some k =>
      let lo := 65536 * (s.slot k).regionBank + (s.slot k).regionOff
      decide (lo ≤ a) && decide (a + n ≤ lo + (s.decl k).commonWords)

/-- Whether a packet-memory byte address lies in the memory that an access addresses (R498): a Shuttle reaches only the cells that the
Loom has handed to its image (R557). -/
def State.packetHas (s : State) (op : EurOp) (a : Nat) : Bool :=
  decide (a < packetBytes) && (profileOf op.thread != .stream ||
    (s.shuttleHolder ((op.thread.val - 2) / 4)).any (fun k =>
      s.frameList.any (fun f => f.holders.contains k && f.cells.contains (a / 256))))

/-- The bank and offset of a word address. -/
def placeOf (op : EurOp) (a : Nat) : Nat × Nat := if eurHas op .shared then (a / 65536, a % 65536) else (localBank op.thread, a)

/-- The bank, offset and address of a memory operand that a base register of tag `baseTag` or an address names: TAG_MISMATCH or BAD_ADDRESS,
or the access goes on (R498). -/
def State.withAddr (s : State) (op : EurOp) (baseTag : Tag) (has : Nat → Bool) (k : Nat → EurRes) : EurRes :=
  let base := s.greg op.thread (bReg op)
  if op.mode = .a16 then
    let a := (op.ext.setWidth 16).toNat
    if has a then k a else .trap 8 (addrWord a) s
  else if base.tag ≠ baseTag ∧ !unchecked op then .trap 3 base s
  else
    let a := (base.val + dispOf op).toNat
    if has a then k a else .trap 8 (addrWord a) s

/-- Load a tagged word (R511 to R513, R520): a bank under destructive Carding lets the access wait; tag 0xE raises ILLEGAL_TAG, or reads as BITS
under UNCHK; a poisoned word has tag TRAP. -/
def State.withWord (s : State) (op : EurOp) (a : Nat) (k : TWord → State → EurRes) : EurRes :=
  let p := placeOf op a
  let r := s.memRead p.1 p.2 (srcOf op.thread)
  let w : TWord := ⟨r.2.1.tag, r.2.1.val.setWidth 32⟩
  if s.bankBusy p.1 then .again s
  else if w.tag = .reserved then (if unchecked op then k { w with tag := .bits } r.2.2 else .trap 6 w r.2.2)
  else k w r.2.2

/-- Whether a store of this instruction collides (R424, R520): a Shuttle's store to common memory that a port-A write meets. -/
def collides (op : EurOp) : Bool := op.collided && eurHas op .shared && profileOf op.thread == .stream

/-- Store a tagged word (R520); a colliding store has no effect beyond COLL. -/
def State.storeWord' (s : State) (op : EurOp) (a : Nat) (w : TWord) (hit : Bool) : State :=
  let p := placeOf op a
  if hit then s.portBMet p.1 true
  else s.memWrite p.1 p.2 (if w.tag = .reserved then .bits else w.tag) (w.val.setWidth 64)

/-- The second operand (R489, R497): register, immediate with its default tag, or memory. -/
def State.withB (s : State) (op : EurOp) (dflt : Tag) (k : TWord → State → EurRes) : EurRes :=
  if op.mode = .reg then k (s.greg op.thread (bReg op)) s
  else if memMode op.mode then s.withAddr op .ptr (s.spaceHas op 1) (fun a => s.withWord op a k)
  else k (immOf op dflt) s

/-- The tag that a result takes under UNCHK where its operands make no valid combination (R512). -/
def uncheckedTag (op : EurOp) : Tag := if eurHas op .tagi then Tag.ofCode op.tagByte.toNat else .bits

/-- The tag of a result (R512): the valid combination's, or under UNCHK the TAGI tag or BITS. -/
def resultTag (op : EurOp) (valid : Option Tag) : Option Tag :=
  match valid with
  | some t => some (if unchecked op && eurHas op .tagi then uncheckedTag op else t)
  | none => if unchecked op then some (uncheckedTag op) else none

/-- All tags. -/
def allTags : List Tag := (List.range 16).map Tag.ofCode

/-- Two source operands under a table of tag pairs (R501, R511, R529): POISON and NIL_USE of A and of B, TAG_MISMATCH, or the result's tag with
both operands. -/
def State.withPair (s : State) (op : EurOp) (a : TWord) (dflt : Tag) (pair : Tag → Tag → Option Tag)
    (k : Tag → TWord → State → EurRes) : EurRes :=
  let ta := srcTrap op false a
  let dead := !unchecked op && !allTags.any (fun t => (pair a.tag t).isSome)
  if ta ≠ 0 then .trap ta a s
  else if dead && memMode op.mode then .trap 3 a s
  else s.withB op dflt (fun b s1 =>
    let tb := srcTrap op false b
    if tb ≠ 0 then .trap tb b s1
    else
      match resultTag op (pair a.tag b.tag) with
      | some t => k t b s1
      | none => .trap 3 (if dead then a else b) s1)

/-- One source register with the tags it accepts (R511, R529). -/
def State.withSrc (s : State) (op : EurOp) (w : TWord) (nilOk : Bool) (ok : Tag → Bool) (k : EurRes) : EurRes :=
  let t := srcTrap op nilOk w
  if t ≠ 0 then .trap t w s
  else if !ok w.tag ∧ !unchecked op then .trap 3 w s
  else k

end Sys2Proof.Machine
end

