-- ==== Sys2Proof/Machine/EurArith.lean ====
section
/-! DEFINITION. Eurnafa instructions on registers: arithmetic, compare, logic, shifts, tags and the accumulator (R499 to R514, R518). -/
namespace Sys2Proof.Machine

/-! ### Table 08-5 -/

/-- The tag that an immediate takes in the row of A. -/
def immTag (a : Tag) : Tag :=
  match a with
  | .uint => .uint
  | .fix => .fix
  | .bits => .bits
  | .bool => .bool
  | .handle => .handle
  | .odref => .odref
  | .ticket => .ticket
  | _ => .int

/-- The result tag of ADD. -/
def addPair (a b : Tag) : Option Tag :=
  match a, b with
  | .int, .int => some .int
  | .uint, .uint => some .uint
  | .fix, .fix => some .fix
  | .fix, .int => some .fix
  | .angle, .int => some .angle
  | .angle, .uint => some .angle
  | .time, .int => some .time
  | .ptr, .int => some .ptr
  | .bptr, .int => some .bptr
  | .code, .int => some .code
  | _, _ => none

/-- The result tag of SUB. -/
def subPair (a b : Tag) : Option Tag :=
  match a, b with
  | .angle, .angle => some .int
  | .time, .time => some .int
  | .ptr, .ptr => some .int
  | .bptr, .bptr => some .int
  | .code, .code => some .int
  | _, _ => addPair a b

/-- The result tag of ADDS, SUBS, MUL, DIV and REM. -/
def mulPair (a b : Tag) : Option Tag :=
  match a, b with
  | .int, .int => some .int
  | .uint, .uint => some .uint
  | .fix, .fix => some .fix
  | .fix, .int => some .fix
  | _, _ => none

/-- The result tag of MIN and MAX. -/
def minPair (a b : Tag) : Option Tag :=
  match a, b with
  | .int, .int => some .int
  | .uint, .uint => some .uint
  | .fix, .fix => some .fix
  | _, _ => none

/-- How CMP compares. -/
def cmpKind (a b : Tag) : Option CmpKind :=
  match a, b with
  | .int, .int => some .signed
  | .fix, .fix => some .signed
  | .uint, .uint => some .unsigned
  | .angle, .angle => some .difference
  | .time, .time => some .difference
  | .ptr, .ptr => some .unsigned
  | .bptr, .bptr => some .unsigned
  | .code, .code => some .unsigned
  | .bits, .bits => some .equality
  | .bool, .bool => some .equality
  | .handle, .handle => some .equality
  | .odref, .odref => some .equality
  | .ticket, .ticket => some .equality
  | _, _ => none

/-- The pairs of CMP. -/
def cmpPair (a b : Tag) : Option Tag := if (cmpKind a b).isSome then some a else none

/-- The pairs of AND, OR, XOR and TST (R507). -/
def logicPair (a b : Tag) : Option Tag :=
  match a, b with
  | .bits, .bits => some .bits
  | .uint, .uint => some .uint
  | .bool, .bool => some .bool
  | _, _ => none

/-- The pairs of MAC (Table 08-7). -/
def macPair (a b : Tag) : Option Tag :=
  match a, b with
  | .fix, .fix => some .fix
  | .fix, .int => some .fix
  | _, _ => none

/-- The pairs of CLAMP (R509): INT or FIX, the same tag. -/
def clampPair (a b : Tag) : Option Tag :=
  match a, b with
  | .int, .int => some .int
  | .fix, .fix => some .fix
  | _, _ => none

/-! ### Descriptions -/

/-- The modes of arithmetic, compare and logic instructions. -/
def aluModes : List EurMode := [.reg, .i8, .i16, .i32, .m8, .m16, .a16]

/-- An instruction of form S with modes 0 to 6. -/
def aluDesc : EurDesc := { form := .s, modes := aluModes, shared := true }

/-- ADD, SUB and CMP, which WIDE may widen. -/
def wideDesc : EurDesc := { aluDesc with wide := [.reg] }

/-- An instruction of form D. -/
def dDesc : EurDesc := { form := .d }

/-- An instruction of form S with modes 0 to 3. -/
def shortDesc : EurDesc := { form := .s, modes := [.reg, .i8, .i16, .i32] }

/-! ### Pairs under WIDE (R499) -/

/-- The 64-bit value of an even register and its odd one. -/
def State.wideVal (s : State) (i n : Nat) : BitVec 64 := (s.greg i (n + 1)).val ++ (s.greg i n).val

/-- Write a register pair with one tag. -/
def State.setWide (s : State) (i n : Nat) (t : Tag) (v : BitVec 64) : State :=
  (s.setG i n ⟨t, v.setWidth 32⟩).setG i (n + 1) ⟨t, (v >>> 32).setWidth 32⟩

/-- Both pairs of a WIDE instruction (R499, R529): `ok` says which tags it accepts. -/
def State.withWide (s : State) (op : EurOp) (ok : Tag → Bool) (k : Tag → BitVec 64 → BitVec 64 → EurRes) : EurRes :=
  let i := op.thread.val
  let d := op.d.val
  let b := bReg op
  let ws := [s.greg i d, s.greg i (d + 1), s.greg i b, s.greg i (b + 1)]
  match ws.find? (fun w => srcTrap op false w != 0) with
  | some w => .trap (srcTrap op false w) w s
  | none =>
    let t := (s.greg i d).tag
    match ws.find? (fun w => w.tag != t || !ok w.tag) with
    | some w => if unchecked op then k (if ok t then t else .bits) (s.wideVal i d) (s.wideVal i b) else .trap 3 w s
    | none => k t (s.wideVal i d) (s.wideVal i b)

/-- Whether WIDE ADD and SUB accept a tag. -/
def wideTag (t : Tag) : Bool := t == .int || t == .uint || t == .bits

/-! ### Arithmetic -/

/-- An arithmetic instruction: A is Gd, B the second operand under a pair table; `f` gives value and flags from A and B. -/
def State.alu (s : State) (op : EurOp) (pair : Tag → Tag → Option Tag) (f : TWord → TWord → Word × Flags) : EurRes :=
  let i := op.thread.val
  let a := s.greg i op.d
  s.withPair op a (immTag a.tag) pair (fun t b s1 =>
    let r := f a b
    .done ((s1.setG i op.d ⟨t, r.1⟩).setFlags i r.2))

/-- An arithmetic instruction that writes no flag. -/
def State.aluPlain (s : State) (op : EurOp) (pair : Tag → Tag → Option Tag) (f : TWord → TWord → Word) : EurRes :=
  let i := op.thread.val
  let a := s.greg i op.d
  s.withPair op a (immTag a.tag) pair (fun t b s1 => .done (s1.setG i op.d ⟨t, f a b⟩))

/-- ADD (R501, R502). -/
def execEuAdd (op : EurOp) (s : State) : Out :=
  .next (s.issue wideDesc op false false (fun s =>
    if eurHas op .wide then
      s.withWide op wideTag (fun t a b =>
        let r := addFlags a b
        .done ((s.setWide op.thread op.d t r.1).setFlags op.thread r.2))
    else s.alu op addPair (fun a b => addFlags a.val b.val)))

/-- SUB (R501, R502). -/
def execEuSub (op : EurOp) (s : State) : Out :=
  .next (s.issue wideDesc op false false (fun s =>
    if eurHas op .wide then
      s.withWide op wideTag (fun t a b =>
        let r := subFlags a b
        .done ((s.setWide op.thread op.d t r.1).setFlags op.thread r.2))
    else s.alu op subPair (fun a b => subFlags a.val b.val)))

/-- ADDS (R503): Z and N of the clamped result, C as ADD, V where it was clamped. -/
def execEuAdds (op : EurOp) (s : State) : Out :=
  .next (s.issue aluDesc op false false (fun s => s.alu op mulPair (fun a b =>
    let r := satResult a.tag (numOf a.tag a.val + numOf a.tag b.val)
    (r.1, { z := r.1 == 0, n := r.1.msb, c := (addFlags a.val b.val).2.c, v := r.2 }))))

/-- SUBS (R503). -/
def execEuSubs (op : EurOp) (s : State) : Out :=
  .next (s.issue aluDesc op false false (fun s => s.alu op mulPair (fun a b =>
    let r := satResult a.tag (numOf a.tag a.val - numOf a.tag b.val)
    (r.1, { z := r.1 == 0, n := r.1.msb, c := (subFlags a.val b.val).2.c, v := r.2 }))))

/-- MUL (R502, R504): C is not written. -/
def execEuMul (op : EurOp) (s : State) : Out :=
  .next (s.issue aluDesc op false false (fun s =>
    let c := (s.thread op.thread).c
    s.alu op mulPair (fun a b =>
      let x := mulFull a.tag b.tag a.val b.val
      let r := BitVec.ofInt 32 x
      (r, { z := r == 0, n := r.msb, c := c, v := !fitsTag a.tag x }))))

/-- DIV (R504, R505): a FIX quotient that does not fit is a free value. -/
def execEuDiv (op : EurOp) (s : State) : Out :=
  .next (s.issue { aluDesc with stream := false } op false false (fun s =>
    let i := op.thread.val
    let a := s.greg i op.d
    s.withPair op a (immTag a.tag) mulPair (fun t b s1 =>
      let q := divFull a.tag b.tag a.val b.val
      let free := a.tag == .fix && !fitsTag .fix q
      let d := s1.drawWord
      if b.val = 0 then .trap 7 b s1
      else if free then .done (d.2.setG i op.d ⟨t, d.1⟩)
      else .done ((s1.setG i op.d ⟨t, BitVec.ofInt 32 q⟩).setV i (!fitsTag a.tag q)))))

/-- REM (R505). -/
def execEuRem (op : EurOp) (s : State) : Out :=
  .next (s.issue { aluDesc with stream := false } op false false (fun s =>
    let i := op.thread.val
    let a := s.greg i op.d
    s.withPair op a (immTag a.tag) mulPair (fun t b s1 =>
      if b.val = 0 then .trap 7 b s1
      else .done (s1.setG i op.d ⟨t, BitVec.ofInt 32 (remFull a.tag b.tag a.val b.val)⟩))))

/-- CMP (R506). -/
def execEuCmp (op : EurOp) (s : State) : Out :=
  .next (s.issue wideDesc op false false (fun s =>
    let i := op.thread.val
    if eurHas op .wide then
      s.withWide op wideTag (fun t a b =>
        let f : Flags := if t = .bits then { z := a == b, n := false, c := false, v := false } else (subFlags a b).2
        .done (s.setFlags i f))
    else
      let a := s.greg i op.d
      s.withPair op a (immTag a.tag) cmpPair (fun _ b s1 =>
        .done (s1.setFlags i (cmpFlags ((cmpKind a.tag b.tag).getD .signed) a b)))))

/-- MIN (R501). -/
def execEuMin (op : EurOp) (s : State) : Out :=
  .next (s.issue aluDesc op false false (fun s => s.aluPlain op minPair (fun a b =>
    if numOf a.tag b.val < numOf a.tag a.val then b.val else a.val)))

/-- MAX (R501). -/
def execEuMax (op : EurOp) (s : State) : Out :=
  .next (s.issue aluDesc op false false (fun s => s.aluPlain op minPair (fun a b =>
    if numOf a.tag a.val < numOf a.tag b.val then b.val else a.val)))

/-! ### Logic and shifts -/

/-- AND (R507). -/
def execEuAnd (op : EurOp) (s : State) : Out :=
  .next (s.issue aluDesc op false false (fun s => s.alu op logicPair (fun a b => (a.val &&& b.val, logicFlags (a.val &&& b.val)))))

/-- OR (R507). -/
def execEuOr (op : EurOp) (s : State) : Out :=
  .next (s.issue aluDesc op false false (fun s => s.alu op logicPair (fun a b => (a.val ||| b.val, logicFlags (a.val ||| b.val)))))

/-- XOR (R507). -/
def execEuXor (op : EurOp) (s : State) : Out :=
  .next (s.issue aluDesc op false false (fun s => s.alu op logicPair (fun a b => (a.val ^^^ b.val, logicFlags (a.val ^^^ b.val)))))

/-- TST (R507). -/
def execEuTst (op : EurOp) (s : State) : Out :=
  .next (s.issue aluDesc op false false (fun s =>
    let i := op.thread.val
    let a := s.greg i op.d
    s.withPair op a (immTag a.tag) logicPair (fun _ b s1 => .done (s1.setFlags i (logicFlags (a.val &&& b.val))))))

/-- A shift of kind `k` on the tags of `ok` (R508): the count is B as unsigned, whatever its tag; only C is written. -/
def State.shift (s : State) (op : EurOp) (k : Nat) (ok : Tag → Bool) : EurRes :=
  let i := op.thread.val
  let a := s.greg i op.d
  s.withPair op a .uint (fun t _ => if ok t then some t else none) (fun t b s1 =>
    let r := shiftOp k a.val b.val.toNat
    let s2 := s1.setG i op.d ⟨t, r.1⟩
    .done (s2.setThread i { s2.thread i with c := r.2 }))

/-- SHL (R508). -/
def execEuShl (op : EurOp) (s : State) : Out :=
  .next (s.issue shortDesc op false false (fun s => s.shift op 0 (fun t => t == .bits || t == .uint || t == .int)))

/-- SHR (R508). -/
def execEuShr (op : EurOp) (s : State) : Out :=
  .next (s.issue shortDesc op false false (fun s => s.shift op 1 (fun t => t == .bits || t == .uint || t == .int)))

/-- SAR (R508). -/
def execEuSar (op : EurOp) (s : State) : Out :=
  .next (s.issue shortDesc op false false (fun s => s.shift op 2 (fun t => t == .int)))

/-- ROL (R508). -/
def execEuRol (op : EurOp) (s : State) : Out :=
  .next (s.issue shortDesc op false false (fun s => s.shift op 3 (fun t => t == .bits || t == .uint)))

/-! ### One register -/

/-- An instruction of form D on the register Gd with the tags of `ok`; `f` gives the result and the state after it from its tag and value. -/
def State.unary (s : State) (op : EurOp) (ok : Tag → Bool) (f : Tag → Word → State → TWord × State) : EurRes :=
  let i := op.thread.val
  let a := s.greg i op.d
  s.withSrc op a false ok (
    let r := f (if ok a.tag then a.tag else .bits) a.val s
    .done (r.2.setG i op.d r.1))

/-- NEG (R509): the spec states no result for −2^31, which is a free value. -/
def execEuNeg (op : EurOp) (s : State) : Out :=
  .next (s.issue dDesc op false false (fun s => s.unary op (fun t => t == .int || t == .fix) (fun t v s =>
    let d := s.drawWord
    if v = 0x80000000 then (⟨t, d.1⟩, d.2) else (⟨t, -v⟩, s))))

/-- ABS (R509, Table 08-7). -/
def execEuAbs (op : EurOp) (s : State) : Out :=
  .next (s.issue dDesc op false false (fun s => s.unary op (fun t => t == .int || t == .fix) (fun t v s =>
    (⟨t, if v.msb then -v else v⟩, s.setV op.thread (v == 0x80000000)))))

/-- NOT (R507). -/
def execEuNot (op : EurOp) (s : State) : Out :=
  .next (s.issue dDesc op false false (fun s => s.unary op (fun t => t == .bits || t == .uint || t == .bool) (fun t v s =>
    let r : Word := if t = .bool then 1 - v else ~~~v
    (⟨t, r⟩, s.setFlags op.thread (logicFlags r)))))

/-- BSWAP (R509). -/
def execEuBswap (op : EurOp) (s : State) : Out :=
  .next (s.issue dDesc op false false (fun s => s.unary op (fun t => t == .bits || t == .uint) (fun t v s =>
    (⟨t, BitVec.ofNat 32 (leValue (leBytes 4 v.toNat).reverse)⟩, s))))

/-- The count of leading zeros of a word, 0 to 32. -/
def leadingZeros (v : Word) : Nat := ((List.range 32).find? (fun k => v.getLsbD (31 - k))).getD 32

/-- CLZ (R509). -/
def execEuClz (op : EurOp) (s : State) : Out :=
  .next (s.issue dDesc op false false (fun s => s.unary op (fun t => t == .bits || t == .uint) (fun _ v s =>
    (⟨.uint, BitVec.ofNat 32 (leadingZeros v)⟩, s))))

/-- MKNIL (Table 08-7). -/
def execEuMknil (op : EurOp) (s : State) : Out :=
  .next (s.issue dDesc op false false (fun s => .done (s.setG op.thread op.d TWord.nilWord)))

/-- CVTF (R509): INT to FIX, saturating with V set. -/
def execEuCvtf (op : EurOp) (s : State) : Out :=
  .next (s.issue dDesc op false false (fun s => s.unary op (fun t => t == .int) (fun _ v s =>
    let r := satResult .fix (v.toInt * 65536)
    (⟨.fix, r.1⟩, s.setV op.thread r.2))))

/-- CVTI (R509): FIX to INT, truncating toward zero. -/
def execEuCvti (op : EurOp) (s : State) : Out :=
  .next (s.issue dDesc op false false (fun s => s.unary op (fun t => t == .fix) (fun _ v s =>
    (⟨.int, BitVec.ofInt 32 (v.toInt.tdiv 65536)⟩, s))))

/-! ### Moves and tags -/

/-- MOV (Table 08-7, R499, R511): any tag but TRAP. -/
def execEuMov (op : EurOp) (s : State) : Out :=
  .next (s.issue { shortDesc with wide := [.reg] } op false false (fun s =>
    let i := op.thread.val
    let b := bReg op
    if eurHas op .wide then
      let lo := s.greg i b
      let hi := s.greg i (b + 1)
      s.withSrc op lo true (fun _ => true) (s.withSrc op hi true (fun t => t == lo.tag)
        (.done ((s.setG i op.d lo).setG i (op.d + 1) { hi with tag := lo.tag })))
    else s.withB op .int (fun w s1 => s1.withSrc op w true (fun _ => true) (.done (s1.setG i op.d w)))))

/-- TAGOF (R511). -/
def execEuTagof (op : EurOp) (s : State) : Out :=
  .next (s.issue { form := .s, modes := [.reg] } op false false (fun s =>
    .done (s.setG op.thread op.d ⟨.uint, BitVec.ofNat 32 (s.greg op.thread (bReg op)).tag.toCode⟩)))

/-- TAGEQ (R511): the immediate's upper half must be 0. -/
def execEuTageq (op : EurOp) (s : State) : Out :=
  .next (s.issue { form := .s, modes := [.i8] } op (decide (16 ≤ op.ext.toNat % 256)) false (fun s =>
    .done (s.setP op.thread ((s.greg op.thread op.d).tag.toCode == op.ext.toNat % 16))))

/-- Whether RETAG may change tag `a` to `b` (R510). -/
def retagPath (a b : Tag) : Bool :=
  (b == .bits && a != .nil && a != .trap) || (a == .bits && b != .nil && b != .trap && b != .reserved) ||
    (a == .int && b == .uint) || (a == .uint && b == .int)

/-- RETAG (R510): a target of 0xE is an illegal encoding. -/
def execEuRetag (op : EurOp) (s : State) : Out :=
  let b := Tag.ofCode op.ext.toNat
  .next (s.issue { form := .s, modes := [.i8] } op (b == .reserved) false (fun s =>
    let a := s.greg op.thread op.d
    s.withSrc op a true (fun t => retagPath t b) (.done (s.setG op.thread op.d { a with tag := b }))))

/-- SETP (R514): codes 17 to 31 are illegal encodings. -/
def execEuSetp (op : EurOp) (s : State) : Out :=
  .next (s.issue dDesc op (decide (16 < op.d.val)) false (fun s =>
    let t := s.thread op.thread
    .done (s.setP op.thread ((condHolds op.d t.flags t.p).getD false))))

/-! ### The accumulator (R518) -/

/-- MAC (R518): saturating; FIX times INT stands in Q32.32 as well. -/
def execEuMac (op : EurOp) (s : State) : Out :=
  .next (s.issue { shortDesc with esc := true, stream := false } op false false (fun s =>
    let i := op.thread.val
    let a := s.greg i op.d
    s.withPair op a (immTag a.tag) macPair (fun _ b s1 =>
      let p := a.val.toInt * b.val.toInt * (if b.tag = .int then 65536 else 1)
      let x := (s1.thread i).acc.toInt + p
      let y := clampInt (-(2 ^ 63 : Nat)) ((2 ^ 63 : Nat) - 1) x
      .done ((s1.setThread i { s1.thread i with acc := BitVec.ofInt 64 y }).setV i (decide (x ≠ y))))))

/-- MACR (Table 08-7): ACC rounded to nearest and saturated; the spec does not say which way a tie goes. -/
def execEuMacr (op : EurOp) (s : State) : Out :=
  .next (s.issue { dDesc with esc := true, stream := false } op false false (fun s =>
    let i := op.thread.val
    let x := (s.thread i).acc.toInt
    let d := s.drawBool
    let tie := decide (x % 65536 = 32768)
    let q := if tie then x / 65536 + (if d.1 then 1 else 0) else (x + 32768) / 65536
    let s1 := if tie then d.2 else s
    let s2 := s1.setG i op.d ⟨.fix, (satResult .fix q).1⟩
    .done (s2.setThread i { s2.thread i with acc := 0 })))

/-- CLRACC (Table 08-7). -/
def execEuClracc (op : EurOp) (s : State) : Out :=
  .next (s.issue { form := .n, esc := true, stream := false } op false false (fun s =>
    .done (s.setThread op.thread { s.thread op.thread with acc := 0 })))

/-- CLAMP (R509, Table 08-7). -/
def execEuClamp (op : EurOp) (s : State) : Out :=
  .next (s.issue { shortDesc with esc := true, stream := false } op false false (fun s => s.aluPlain op clampPair (fun a b =>
    let m : Int := (b.val.toInt.natAbs : Int)
    BitVec.ofInt 32 (clampInt (-m) m a.val.toInt))))

end Sys2Proof.Machine
end

