-- ==== Sys2Proof/Machine/EurMemory.lean ====
section
/-! DEFINITION. Eurnafa instructions on memory: stack, tagged and packet loads and stores, locked operations, copies (R497 to R500, R511 to
R513, R519 to R524). -/
namespace Sys2Proof.Machine

/-! ### Tagged memory -/

/-- LD and ST: modes 4 to 6. -/
def memModes : List EurMode := [.m8, .m16, .a16]

/-- LD (R511 to R513, R520): Gd takes the word with its tag, TRAP for a poisoned one; under WIDE two consecutive words. -/
def execEuLd (op : EurOp) (s : State) : Out :=
  .next (s.issue { form := .s, modes := memModes, shared := true, wide := memModes } op false false (fun s =>
    let i := op.thread.val
    s.withAddr op .ptr (s.spaceHas op (if eurHas op .wide then 2 else 1)) (fun a => s.withWord op a (fun w s1 =>
      if eurHas op .wide then
        s1.withWord op (a + 1) (fun w2 s2 => .done ((s2.setG i op.d w).setG i (op.d + 1) w2))
      else .done (s1.setG i op.d w)))))

/-- A store of a word at an address, where its bank is not under destructive Carding. -/
def State.storeAt (s : State) (op : EurOp) (a : Nat) (w : TWord) (hit : Bool) (k : State → EurRes) : EurRes :=
  if s.bankBusy (placeOf op a).1 then .again s else k (s.storeWord' op a w hit)

/-- ST (R489, R497, R511, R520): Gd or the MI immediate; under WIDE a pair of one tag. -/
def execEuSt (op : EurOp) (s : State) : Out :=
  .next (s.issue { form := .s, modes := memModes ++ [.mi], shared := true, wide := memModes } op false false (fun s =>
    let i := op.thread.val
    let w := if op.mode = .mi then immOf op .int else s.greg i op.d
    let hit := collides op
    if eurHas op .wide then
      let w2 := s.greg i (op.d + 1)
      s.withSrc op w true (fun _ => true) (s.withSrc op w2 true (fun t => t == w.tag)
        (s.withAddr op .ptr (s.spaceHas op 2) (fun a =>
          s.storeAt op a w hit (fun s1 => s1.storeAt op (a + 1) w2 hit .done))))
    else s.withSrc op w true (fun _ => true) (s.withAddr op .ptr (s.spaceHas op 1) (fun a => s.storeAt op a w hit .done))))

/-- The stack pointer G31 moved to a word of local memory (R481): TAG_MISMATCH where it is no PTR, BAD_ADDRESS outside. -/
def State.withStack (s : State) (op : EurOp) (a : Word) (k : Nat → EurRes) : EurRes :=
  let sp := s.greg op.thread 31
  if sp.tag ≠ .ptr ∧ !unchecked op then .trap 3 sp s
  else if localWords op.thread ≤ a.toNat then .trap 8 (addrWord a.toNat) s
  else k a.toNat

/-- PUSH (Table 08-7). -/
def execEuPush (op : EurOp) (s : State) : Out :=
  .next (s.issue dDesc op false false (fun s =>
    let i := op.thread.val
    let w := s.greg i op.d
    let sp := (s.greg i 31).val - 1
    s.withSrc op w true (fun _ => true) (s.withStack op sp (fun a =>
      s.storeAt op a w false (fun s1 => .done (s1.setG i 31 ⟨.ptr, sp⟩))))))

/-- POP (Table 08-7, R511). -/
def execEuPop (op : EurOp) (s : State) : Out :=
  .next (s.issue dDesc op false false (fun s =>
    let i := op.thread.val
    let sp := (s.greg i 31).val
    s.withStack op sp (fun a => s.withWord op a (fun w s1 => .done ((s1.setG i 31 ⟨.ptr, sp + 1⟩).setG i op.d w)))))

/-! ### Packet memory -/

/-- The bank and offset of a packet byte address. -/
def packetPlace (a : Nat) : Nat × Nat := (8 + a / 524288, a % 524288 / 8)

/-- The byte address of a packet access of `n` bytes (R498): BAD_ADDRESS where it is not aligned to its width. -/
def State.withPacket (s : State) (op : EurOp) (n : Nat) (k : Nat → EurRes) : EurRes :=
  s.withAddr op .bptr (s.packetHas op) (fun a => if a % n ≠ 0 then .trap 8 (addrWord a) s
    else if s.bankBusy (packetPlace a).1 then .again s else k a)

/-- The bytes at a packet address as a number, and whether the word is poisoned. -/
def State.packetRead (s : State) (op : EurOp) (a n : Nat) : Bool × Nat × State :=
  let p := packetPlace a
  let r := s.memRead p.1 p.2 (srcOf op.thread)
  (r.1 == .poisoned, r.2.1.val.toNat / 2 ^ (8 * (a % 8)) % 2 ^ (8 * n), r.2.2)

/-- Store the low `n` bytes of a number at a packet address; whether it merged into a poisoned word. -/
def State.packetWrite (s : State) (op : EurOp) (a n v : Nat) : Bool × State :=
  let p := packetPlace a
  let mask := (2 ^ n - 1) * 2 ^ (a % 8)
  let r := s.memPartial p.1 p.2 (srcOf op.thread)
    (.bytes (BitVec.ofNat 8 mask) (BitVec.ofNat 64 (v % 2 ^ (8 * n) * 2 ^ (8 * (a % 8)))))
  (r.1 == .mergedPoison, r.2)

/-- LDP and LDPH: a load of `n` bytes (R498, R511). -/
def State.packetLoad (s : State) (op : EurOp) (n : Nat) : EurRes :=
  s.withPacket op n (fun a =>
    let r := s.packetRead op a n
    .done (r.2.2.setG op.thread op.d ⟨if r.1 then .trap else .bits, BitVec.ofNat 32 r.2.1⟩))

/-- STP and STPH: a store of `n` bytes (R498, R520). -/
def State.packetStore (s : State) (op : EurOp) (n : Nat) : EurRes :=
  let w := s.greg op.thread op.d
  s.withSrc op w false (fun t => t == .bits || t == .uint || t == .int) (s.withPacket op n (fun a =>
    let r := s.packetWrite op a n w.val.toNat
    let d := r.2.freeTagged
    if r.1 then .after 0xB d.1 d.2 else .done r.2))

/-- Loads and stores of packet memory: modes 4 and 5, not in the Control profile. -/
def packetDesc : EurDesc := { form := .s, modes := [.m8, .m16], control := false }

/-- LDP (Table 08-7). -/
def execEuLdp (op : EurOp) (s : State) : Out :=
  .next (s.issue { packetDesc with byte := true } op false false (fun s => s.packetLoad op (if eurHas op .byte then 1 else 4)))

/-- STP (Table 08-7). -/
def execEuStp (op : EurOp) (s : State) : Out :=
  .next (s.issue { packetDesc with byte := true } op false false (fun s => s.packetStore op (if eurHas op .byte then 1 else 4)))

/-- LDPH (Table 08-7). -/
def execEuLdph (op : EurOp) (s : State) : Out := .next (s.issue packetDesc op false false (fun s => s.packetLoad op 2))

/-- STPH (Table 08-7). -/
def execEuStph (op : EurOp) (s : State) : Out := .next (s.issue packetDesc op false false (fun s => s.packetStore op 2))

/-! ### Locked operations (R520, R523, R524) -/

/-- XCHG, XADD and CAS. -/
def lockDesc : EurDesc := { form := .s, modes := memModes, shared := true, lock := true }

/-- The word of a locked operation: a poisoned one raises POISON with nothing written. -/
def State.withLocked (s : State) (op : EurOp) (k : Nat → TWord → State → EurRes) : EurRes :=
  s.withAddr op .ptr (s.spaceHas op 1) (fun a => s.withWord op a (fun w s1 =>
    if w.tag = .trap ∧ !unchecked op then .trap 5 w s1 else k a w s1))

/-- A collided locked operation changes nothing but P and COLL. -/
def State.collided (s : State) (op : EurOp) (a : Nat) : State := (s.portBMet (placeOf op a).1 true).setP op.thread false

/-- XCHG (Table 08-7). -/
def execEuXchg (op : EurOp) (s : State) : Out :=
  .next (s.issue lockDesc op false false (fun s =>
    let i := op.thread.val
    let d := s.greg i op.d
    s.withSrc op d true (fun _ => true) (s.withLocked op (fun a w s1 =>
      if collides op then .done (s1.collided op a)
      else .done (((s1.storeWord' op a d false).setG i op.d w).setP i true)))))

/-- XADD (Table 08-7): the memory word is A, Gd is B. -/
def execEuXadd (op : EurOp) (s : State) : Out :=
  .next (s.issue lockDesc op false false (fun s =>
    let i := op.thread.val
    let d := s.greg i op.d
    s.withSrc op d false (fun _ => true) (s.withLocked op (fun a w s1 =>
      let tw := srcTrap op false w
      if tw ≠ 0 then .trap tw w s1
      else
        match resultTag op (addPair w.tag d.tag) with
        | none => .trap 3 d s1
        | some t =>
          if collides op then .done (s1.collided op a)
          else .done (((s1.storeWord' op a ⟨t, w.val + d.val⟩ false).setG i op.d w).setP i true)))))

/-- CAS (Table 08-7): `d` must be even. -/
def execEuCas (op : EurOp) (s : State) : Out :=
  .next (s.issue lockDesc op (decide (op.d.val % 2 = 1)) false (fun s =>
    let i := op.thread.val
    let d := s.greg i op.d
    let e := s.greg i (op.d + 1)
    s.withSrc op d true (fun _ => true) (s.withSrc op e true (fun _ => true) (s.withLocked op (fun a w s1 =>
      if collides op then .done (s1.collided op a)
      else
        let hit := w == e
        let s2 := if hit then s1.storeWord' op a d false else s1
        .done ((s2.setG i (op.d + 1) w).setP i hit))))))

/-! ### Copies (R500) -/

/-- The iterations of an instruction under REP: each completed one decrements G29. -/
def repeatIt (one : Bool → State → EurRes) (i : Nat) : Nat → Bool → State → EurRes
  | 0, _, s => .done s
  | n + 1, first, s =>
    match one first s with
    | .done s1 => repeatIt one i n false (s1.setG i 29 ⟨.uint, (s1.greg i 29).val - 1⟩)
    | r => r

/-- An instruction that REP repeats; `one` is one iteration, told whether it is the first. -/
def State.repeated (s : State) (op : EurOp) (one : Bool → State → EurRes) : EurRes :=
  let c := s.greg op.thread 29
  if !eurHas op .rep then one true s
  else if c.tag ≠ .uint ∧ !unchecked op then .trap 3 c s
  else repeatIt one op.thread c.val.toNat true s

/-- A pointer register of a copy: its tag and the addresses that it may hold. -/
def State.withPointer (s : State) (op : EurOp) (n : Nat) (tag : Tag) (has : Nat → Bool) (k : Nat → EurRes) : EurRes :=
  let p := s.greg op.thread n
  if p.tag ≠ tag ∧ !unchecked op then .trap 3 p s
  else if has p.val.toNat then k p.val.toNat
  else .trap 8 (addrWord p.val.toNat) s

/-- A pointer register moved to address `a`. -/
def State.movePointer (s : State) (op : EurOp) (n : Nat) (tag : Tag) (a : Nat) : State :=
  s.setG op.thread n ⟨tag, BitVec.ofNat 32 a⟩

/-- Copies and fills of tagged memory. -/
def copyDesc : EurDesc := { form := .s, modes := [.reg], shared := true, rep := true }

/-- COPYW (Table 08-7). -/
def execEuCopyw (op : EurOp) (s : State) : Out :=
  .next (s.issue copyDesc op false false (fun s => s.repeated op (fun first s =>
    let d := op.d.val
    let b := bReg op
    s.withPointer op d .ptr (s.spaceHas op 1) (fun x => s.withPointer op b .ptr (s.spaceHas op 1) (fun y =>
      s.withWord op y (fun w s1 =>
        if w.tag = .trap ∧ !unchecked op then .trap 5 w s1
        else s1.storeAt op x w (collides op && first) (fun s2 =>
          .done ((s2.movePointer op d .ptr (x + 1)).movePointer op b .ptr (y + 1)))))))))

/-- FILLW (Table 08-7). -/
def execEuFillw (op : EurOp) (s : State) : Out :=
  .next (s.issue copyDesc op false false (fun s => s.repeated op (fun first s =>
    let d := op.d.val
    let w := s.greg op.thread (bReg op)
    s.withPointer op d .ptr (s.spaceHas op 1) (fun x => s.withSrc op w true (fun _ => true)
      (s.storeAt op x w (collides op && first) (fun s1 => .done (s1.movePointer op d .ptr (x + 1))))))))

/-- COPYP (Table 08-7): a poisoned source byte raises POISON. -/
def execEuCopyp (op : EurOp) (s : State) : Out :=
  .next (s.issue { form := .s, modes := [.reg], rep := true, control := false } op false false (fun s => s.repeated op (fun _ s =>
    let d := op.d.val
    let b := bReg op
    s.withPointer op d .bptr (s.packetHas op) (fun x => s.withPointer op b .bptr (s.packetHas op) (fun y =>
      if s.bankBusy (packetPlace x).1 || s.bankBusy (packetPlace y).1 then .again s
      else
        let r := s.packetRead op y 1
        if r.1 && !unchecked op then .trap 5 ⟨.trap, BitVec.ofNat 32 r.2.1⟩ r.2.2
        else .done ((((r.2.2.packetWrite op x 1 r.2.1).2).movePointer op d .bptr (x + 1)).movePointer op b .bptr (y + 1)))))))

/-- CRC32C (R519): the update of Gd with the byte at [Gb]; a poisoned byte raises POISON. -/
def execEuCrc32c (op : EurOp) (s : State) : Out :=
  .next (s.issue { form := .s, modes := [.reg], rep := true, control := false } op false false (fun s => s.repeated op (fun _ s =>
    let i := op.thread.val
    let b := bReg op
    let w := s.greg i op.d
    s.withSrc op w false (fun t => t == .uint) (s.withPointer op b .bptr (s.packetHas op) (fun y =>
      if s.bankBusy (packetPlace y).1 then .again s
      else
        let r := s.packetRead op y 1
        if r.1 && !unchecked op then .trap 5 ⟨.trap, BitVec.ofNat 32 r.2.1⟩ r.2.2
        else .done ((r.2.2.setG i op.d ⟨.uint, BitVec.ofNat 32 (crc32cByte w.val.toNat r.2.1)⟩).movePointer op b .bptr (y + 1)))))))

end Sys2Proof.Machine
end

