-- ==== Sys2Proof/Machine/GrilorLink.lean ====
section
/-! DEFINITION. Grilor links: acknowledgement, replay and loss; enumeration and the roster; the handover command (chapter 17). -/
namespace Sys2Proof.Machine

/-! ### Links (R972 to R977) -/

/-- Set the state of link `i`. -/
def State.glTo (s : State) (i st : Nat) : State :=
  if i < 2 then s.wr (Reg.GL_STAT_STATE.at i) st else s.wr (Reg.GE_STAT_STATE.at (i - 2)) st

/-- Whether the links run: from W8, in RUN and in SHUTDOWN, with a role that uses them (Table 17-4). -/
def State.glRuns (s : State) : Bool := s.role != 0 && ((s.pstate == 3 && s.pow.wakeStep == 8) || s.running)

/-- Whether a frame carries the request of a GATEWAY ticket of this device. -/
def State.ownRequest (s : State) (f : GFrame) : Bool :=
  match f.body with
  | .data (.request ..) => s.managing && f.src == 0
  | _ => false

/-- ANSWERED (R990, R991): the answer of the worker ends the running GATEWAY ticket, after its first step. -/
def State.gwAdvance (s : State) : State :=
  match s.runningOf 0x0B, s.gl.answer with
  | some i, some (code, v) =>
    if !s.stepOpen i || (s.ticket i).step != 1 then s
    else
      let s1 : State := { s with gl := { s.gl with answer := none } }
      if code ≠ 0 then s1.failTicket i code
      else
        match v with
        | some (.scalar t x) => s1.stepDone i t x
        | some (.bytes b) => (s1.setTicket i { s1.ticket i with data := [.bytes b] }).stepDone i .uint b.length
        | none => s1.stepDone i .uint 1
  | _, _ => s

/-- SENT (R990): the first link acknowledges the request of the running GATEWAY ticket. -/
def State.gwSent (s : State) : State :=
  match s.runningOf 0x0B with
  | some i => if s.stepOpen i && (s.ticket i).step == 0 then ((s.mark .gateway).stepDone i .uint 1).gwAdvance else s
  | none => s

/-- ACKSEQ acknowledges the frames up to it (R974). -/
def State.ackTo (s : State) (i a : Nat) : State :=
  let l := s.glink i
  let n := (a + 1 + 256 - (l.txNext + 256 - l.unacked.length) % 256) % 256
  if n = 0 ∨ l.unacked.length < n then s
  else
    let s1 := s.setGlink i ({ l with unacked := l.unacked.drop n, sent := l.sent.drop n, replays := 0 }.pump s.cycle)
    if (l.unacked.take n).any s.ownRequest then s1.gwSent else s1

/-- The answer to a received frame: ACK or NAK with the last SEQ received in order (R974). -/
def State.ctlSend (s : State) (i : Nat) (nak : Bool) : State :=
  let l := s.glink i
  s.setGlink i { l with lastCtl := some (nak, (l.rxNext + 255) % 256) }

/-! ### Enumeration (R982 to R987) -/

/-- The DEVICE_ID of roster entry `w`, 0 where it is unused (0x9002:w). -/
def State.rosterAt (s : State) (w : Nat) : Nat :=
  match s.od.vals.get none (odKey 0x9002 w) with
  | some (.bytes b) => leValue b
  | _ => 0

/-- The roster ID of a DEVICE_ID. -/
def State.rosterId (s : State) (dev : Nat) : Option Nat :=
  ((List.range 255).map (· + 1)).find? (fun w => dev != 0 && s.rosterAt w == dev)

/-- The roster IDs in use. -/
def State.rosterUsed (s : State) : List Nat := ((List.range 255).map (· + 1)).filter (fun w => s.rosterAt w != 0)

/-- Journal roster entries (R983, R984). -/
def State.rosterPut (s : State) (l : List (Nat × Nat)) : State :=
  let items := l.map (fun e => (odKey 0x9002 e.1, OdVal.bytes (leBytes 16 e.2)))
  (s.each l (fun s e => if e.2 = 0 then { s with od := { s.od with vals := s.od.vals.set none (odKey 0x9002 e.1) none } }
      else s.odPut 0x9002 e.1 (.bytes (leBytes 16 e.2)))).each (packItems [] items)
    (fun s x => s.stage (.value 0 0 0 true x))

/-- The ports of a walk in order: GL1, GL0 of a ring not closed, the branches. -/
def State.enumPorts (s : State) : List Nat :=
  ([1] ++ (if s.ring && !s.gl.ringClosed then [0] else []) ++ ((List.range 8).map (· + 2))).filter (fun i => s.glState i == 2)

/-- A walk is complete (R984 to R987). -/
def State.enumDone (s : State) : State :=
  let missing := s.rosterUsed.filter (fun w => !s.gl.metDevices.contains (s.rosterAt w))
  let n := s.gl.assigned.length
  let st := if s.ring then (if s.gl.ringClosed then 4 else 5) else if missing.isEmpty then 2 else 3
  let s1 := (s.wr Reg.GRILOR_ENUM_ENUM_STATE st).wr Reg.GRILOR_ENUM_WORKERS n
  (s1.each missing (fun s w => s.event 0x1104 w [])).event 0x1102 0 [st, n]

/-- Send the ENUM of the present position, with the ID of the position before. -/
def State.enumSend (s : State) (assigned : Option Nat) : State :=
  (s.mark .enum).glSend s.gl.port ⟨0xFF, 0, .enum s.gl.walk s.gl.pos assigned⟩

/-- The walk goes on at a port, from position 1. -/
def State.enumFrom (s : State) (p : Nat) : State :=
  { s with gl := { s.gl with port := p, pos := 1 } }.enumSend none

/-- The walk at the present port is over (R985): the next port, or the end. -/
def State.enumPortEnd (s : State) : State :=
  let rank (p : Nat) : Nat := if p = 1 then 0 else if p = 0 then 1 else p
  match s.enumPorts.find? (fun p => rank s.gl.port < rank p) with
  | some p => s.enumFrom p
  | none => s.enumDone

/-- A walk begins (R982). -/
def State.enumStart (s : State) : State :=
  if !s.managing ∨ s.pstate ≠ 4 then s
  else
    let g := s.gl
    let before := if s.rd Reg.GRILOR_ENUM_ENUM_STATE = 1 then g.assigned ++ g.before else g.assigned
    let s1 : State := { s with gl := { g with walk := g.walk + 1, before := before, assigned := [], metDevices := [],
                                              rosterEmpty := s.rosterUsed.isEmpty, ringClosed := false } }
    let s2 := s1.wr Reg.GRILOR_ENUM_ENUM_STATE 1
    match s2.enumPorts with
    | p :: _ => s2.enumFrom p
    | [] => s2.enumDone

/-- The lowest ID that is neither in the roster nor assigned in this walk. -/
def State.freeId (s : State) : Option Nat :=
  ((List.range 255).map (· + 1)).find? (fun w => s.rosterAt w == 0 && (s.gl.assigned.lookup w).isNone)

/-- The ID of a worker that answers at the present position (R983), and whether its roster entry is new. -/
def State.assignId (s : State) (dev side fixedId : Nat) : Option Nat × Bool :=
  let used (w : Nat) : Bool := (s.gl.assigned.lookup w).isSome
  if side = 0 then (if used fixedId then none else some fixedId, false)
  else
    match s.rosterId dev with
    | some w => if used w then (s.freeId, false) else (some w, false)
    | none => if s.gl.rosterEmpty && !used s.gl.pos then (some s.gl.pos, true) else (s.freeId, true)

/-- An ENUM_RESP reaches the manager (R982, R983). -/
def State.enumResp (s : State) (port dev side fixedId : Nat) : State :=
  if s.rd Reg.GRILOR_ENUM_ENUM_STATE ≠ 1 ∨ port ≠ s.gl.port ∨ !s.managing then s
  else
    let r := s.assignId dev side fixedId
    let s1 := s.wrIf (side == 0 && r.1.isNone) Reg.GRILOR_ENUM_ID_CONFLICT 1
    let s2 : State := { s1 with gl := { s1.gl with metDevices := s1.gl.metDevices ++ [dev],
                                                   assigned := s1.gl.assigned ++ (r.1.map (fun w => (w, port))).toList } }
    let s3 := match r.1, r.2 with
      | some w, true => (s2.rosterPut [(w, dev)]).event 0x1103 w [s.gl.pos]
      | _, _ => s2
    if 255 ≤ s.gl.pos then s3.enumPortEnd
    else { s3 with gl := { s3.gl with pos := s3.gl.pos + 1 } }.enumSend r.1

/-- ROSTER_RESET (R984): all entries are removed, and a walk begins. -/
def State.rosterReset (s : State) : State :=
  if !s.managing then s else (s.rosterPut (s.rosterUsed.map (fun w => (w, 0)))).enumStart

/-! ### Loss of a link -/

/-- Link `i` goes DOWN (Table 17-2): frames that are not acknowledged are discarded, their requesters see LINK_DOWN, a worker loses
its upstream, and the manager enumerates (R982). -/
def State.glDown (s : State) (i : Nat) : State :=
  if s.glState i = 0 then s
  else
    let l := s.glink i
    let s1 := (s.glTo i 0).setGlink i { wasUp := l.wasUp }
    let s2 := if (l.unacked ++ l.waiting).any s.ownRequest then
        (match s1.runningOf 0x0B with
         | some k => if (s1.ticket k).step = 0 then s1.failTicket k 0x17 else s1
         | none => s1)
      else s1
    let s3 : State := if s2.gl.upstream = some i then { s2 with gl := { s2.gl with upstream := none, loaded := false, good := 0 } }
      else if s2.role = 3 ∧ i = 0 then { s2 with gl := { s2.gl with loaded := false, good := 0 } }
      else s2
    if s.glState i = 2 then s3.enumStart else s3

/-- The unacknowledged frames of link `i` are replayed (R974); the eighth replay in a row takes the link DOWN. -/
def State.glReplay (s : State) (i : Nat) : State :=
  let l := s.glink i
  if l.unacked.isEmpty then s
  else
    let s1 := s.wrIf (decide (i < 2)) (Reg.GL_STAT_REPLAYED.at i) 1
    if 7 ≤ l.replays then s1.glDown i else s1.setGlink i { l with replays := l.replays + 1, sent := l.unacked.map (fun _ => s.cycle) }

/-- A write of ENABLE of virtual link `k` (R977). -/
def State.geEnable (s : State) (k : Nat) (en : Bool) : State :=
  let s1 := s.wr (Reg.GE_STAT_EN.at k) (b2n en)
  if en then s1 else s1.glDown (k + 2)

/-! ### Handover -/

/-- Whether the handover command is allowed (Table 17-5). -/
def State.handoverOk (s : State) : Bool := s.owner && s.gl.peerState == 1 && s.rd Reg.GRILOR_TWIN_MIRROR == 2

/-- The handover command (Table 17-5): the groups are parked, HANDOVER is sent and TWIN_OWN released. -/
def State.handoverCmd (s : State) : State :=
  if !s.handoverOk then s
  else (((s.parkAll.glSend 0 ⟨0xFF, 0, .handover⟩).ownDrive false).wr Reg.GRILOR_TWIN_STATE 1)

end Sys2Proof.Machine
end

