-- ==== Sys2Proof/Machine/Mac.lean ====
section
/-! DEFINITION. The Ethernet MACs and the 10BASE-T1L port (chapter 12). -/
namespace Sys2Proof.Machine

/-- Whether ingress is stopped: from shutdown step S3 on (R132, R696). -/
def State.ingressStopped (s : State) : Bool := s.pstate == 6 && decide (3 ≤ s.sdStep)

/-- A PAUSE frame (R730): PAUSE_RX is set; with PAUSE_HONOUR 1 its quanta replace the remaining pause time, and 0 ends the pause. -/
def State.pauseFrame (s : State) (p : Nat) (b : List Byte) : State :=
  if beAt b 14 2 ≠ 1 then s
  else
    let q := beAt b 16 2
    let s1 := s.pstk p 6
    if s.on (Reg.MAC_CFG_PAUSE_HONOUR.at p) then (s1.mark (.pause p)).setEg p { s1.eg p with paused := decide (q ≠ 0), quanta := q } else s1

/-- A frame is passed to the Loom (R727 steps 4 and 5, R663): its cells are taken and it waits for its decision, or it is dropped
with NOBUF; while ingress is stopped it is dropped with RX_NOBUF (R132). -/
def State.toLoom (s : State) (p : Nat) (b : List Byte) (symErr : Bool) (sfd : Nat) : State :=
  let bad := symErr || !fcsOk b
  let s0 := if bad then s.pstk p 0 else s
  let k := cellsFor b.length
  let free := s0.freeCells
  if s0.ingressStopped then s0.pstk p 3
  else if !s0.on Reg.LOOM_CTRL_EN then s0
  else if !s0.portMayTake p k || decide (free.length < k) then s0.noBuf p b sfd
  else
    let r := State.pickCells k s0 free
    let f : LFrame := { cells := r.1, len := b.length, port := p, bad := symErr, dt := s.dtBack sfd, tda := s.domBack 0 sfd,
                        tdb := s.domBack 1 sfd, ang := s.angBack sfd }
    let s1 := (r.2.putCells f.cells b).setFrame f.first (some f)
    { s1 with loom := { s1.loom with arrived := s1.loom.arrived.upd [] p (· ++ [f.first]) } }

/-- MAC_FRAME_END (R241, R727, Table 12-3). The frame `b` runs from the destination MAC to the FCS; its start-of-frame delimiter crossed the
reference plane `sfd` SCLK cycles ago. -/
def execMacFrameEnd (p : Fin 6) (b : List Byte) (symErr : Bool) (sfd : Nat) (s : State) : Out :=
  .next (if !s.on (Reg.MAC_LINK_UP.at p) then s
    else if b.length < s.rd (Reg.MAC_CFG_MIN_FRAME.at p) then s.pstk p 1
    else if beAt b 12 2 = 0x8808 ∧ fcsOk b ∧ !symErr then s.pauseFrame p b
    else if s.rd (Reg.MAC_CFG_MAX_FRAME.at p) < b.length then s.pstk p 2
    else s.toLoom p b symErr sfd)

/-- FRAME_TOO_LONG (R727 step 3): cells already taken are freed, so none stays held. -/
def execFrameTooLong (p : Fin 6) (s : State) : Out :=
  .next (if s.on (Reg.MAC_LINK_UP.at p) then s.pstk p 2 else s)

/-- PAUSE_EXPIRY (R730): the quanta of 512 bit times at the port rate have passed since the PAUSE frame. -/
def execPauseExpiry (p : Fin 6) (s : State) : Out :=
  .next (if s.passed (.pause p) ((s.eg p).quanta * 512 * 3000 / s.rateMbps p) then s.setEg p { s.eg p with paused := false, quanta := 0 } else s)

/-! ### Links -/

/-- LINK.SPEED of a port in a mode (Tables 12-2, 12-10). -/
def speedCode (p mode : Nat) : Nat := if p = 4 then 3 else if p = 5 then 0 else if mode = 3 then 2 else 1

/-- LINK_UP (R725): the conditions of R724 have held for LINKUP_HOLD. `master` and `level` are what 10BASE-T1L negotiated
(R749). -/
def execLinkUp (p : Fin 6) (master level : Bool) (s : State) : Out :=
  let mode := s.rd (Reg.MAC_CFG_MODE.at p)
  let held := s.on (Reg.MAC_LINK_SPEED_REFUSED.at p) || s.on (Reg.MAC_LINK_HALF_REFUSED.at p) ||
    (p.val == 5 && s.on Reg.T1L_DIAG_BUSY)
  let an := p.val == 5 || (decide (p.val < 4) && (mode == 1 || (mode == 2 && s.on (Reg.MAC_CFG_AN_EN.at p))))
  .next (if mode = 0 ∨ s.on (Reg.MAC_LINK_UP.at p) ∨ held then s
    else
      let s1 := ((s.wr (Reg.MAC_LINK_UP.at p) 1).wr (Reg.MAC_LINK_SPEED.at p) (speedCode p mode)).wr
        (Reg.MAC_LINK_AN_DONE.at p) (b2n an)
      let s2 := if p.val = 5 then (s1.wr Reg.T1L_STAT_MASTER (b2n master)).wr Reg.T1L_STAT_LEVEL_2V4 (b2n level) else s1
      s2.event 0x0C01 p [speedCode p mode])

/-- A link goes down (R678, R725, R739): LINK_FLAP, LINK_DOWNS, the learned entries of the port are flushed, its copies and the
frames in its buffers are dropped with NO_DEST, the Weaver is interrupted, and event 0x0B02 is posted (R707). -/
def State.linkDown (s : State) (p : Nat) : State :=
  if !s.on (Reg.MAC_LINK_UP.at p) then s
  else
    let s1 := ((s.wr (Reg.MAC_LINK_UP.at p) 0).wr (Reg.MAC_LINK_AN_DONE.at p) 0).pstk p 4
    let s2 := (s1.inc (Reg.MAC_LINK_LINK_DOWNS.at p)).odInc (0x6070 + p) 0x0B 65535
    let e := s2.eg p
    let copies := e.now.map (·.copy) ++ ((List.range 8).map (fun t => e.queues.get [] t)).flatten
    let s3 := s2.setEg p { e with now := [], queues := [] }
    let s4 := s3.each copies (fun s c => s.dropCopy p 0x14 c)
    let keep (x : FdbEntry) : Bool := x.isStatic || !bitOf x.ports p
    let s5 : State := { s4 with loom := { s4.loom with fdb := s4.loom.fdb.filter keep,
                                                       linkIrq := setBit s4.loom.linkIrq p true } }
    let s6 : State := if p = 5 then { s5 with loom := { s5.loom with t1lDown := s5.cycle } } else s5
    (s6.interruptWeaver.wrIf (p == 5) Reg.T1L_STAT_SQI 0).event 0x0B02 p []

/-- LINK_DOWN (R725). -/
def execLinkDown (p : Fin 6) (s : State) : Out := .next (s.linkDown p)

/-- Whether a MODE code is listed for a port (Table 12-2). -/
def modeListed (p mode : Nat) : Bool := decide (mode < (if p < 4 then 4 else 2))

/-- MAC_MODE_WRITE (R722, R753): an unlisted code is refused (R18); a write while the link is up takes it down; in LIMP and under
safe ROM every port stays in MODE 0. -/
def State.macMode (s : State) (p mode : Nat) : State :=
  if !modeListed p mode || (s.netsOff && mode != 0) then s
  else
    let s1 := s.linkDown p
    ((s1.wr (Reg.MAC_CFG_MODE.at p) mode).wr (Reg.MAC_LINK_HALF_REFUSED.at p) 0).wr (Reg.MAC_LINK_SPEED_REFUSED.at p) 0

/-- MAC_MODE_WRITE (R722). -/
def execMacModeWrite (p : Fin 6) (mode : Fin 4) (s : State) : Out := .next (s.macMode p mode)

/-- PHY_CONTROL_WORD (R723): in SGMII mode a word that announces 10 or 100 Mb/s (`slow`) or half duplex holds the link down. -/
def execPhyControlWord (p : Fin 4) (slow half : Bool) (s : State) : Out :=
  .next (if s.rd (Reg.MAC_CFG_MODE.at p) ≠ 1 then s
    else
      let s1 := if slow || half then s.linkDown p else s
      ((s1.wr (Reg.MAC_LINK_SPEED_REFUSED.at p) (b2n slow)).wr (Reg.MAC_LINK_HALF_REFUSED.at p) (b2n half)).wr
        (Reg.MAC_LINK_AN_DONE.at p) (b2n !(slow || half)))

/-- PSTK_READ (R742): the events are returned and cleared; `coincident` names the events that meet the read in its cycle, which
stay set. -/
def execPstkRead (p : Fin 6) (coincident : Byte) (s : State) : Out :=
  let f := Reg.MAC_PSTK_PSTK.at p
  let a := Reg.MAC_PSTK_ACC_PSTK_ACC.at p
  .next { (s.wr f coincident.toNat).wr a (s.rd a ||| coincident.toNat) with readData := BitVec.ofNat 32 (s.rd f) }

/-! ### 10BASE-T1L -/

/-- A cable diagnostic starts (R751). -/
def State.diagStart (s : State) : State :=
  ({ s with loom := { s.loom with t1lDiag := some s.cycle } }).wr Reg.T1L_DIAG_BUSY 1

/-- Whether a diagnostic may start: the link is down and none runs (R751). -/
def State.diagMayRun (s : State) : Bool :=
  !s.on (Reg.MAC_LINK_UP.at 5) && !s.on Reg.T1L_DIAG_BUSY

/-- T1L_DIAG_RUN (R751): refused while the link is up. -/
def execT1lDiagRun (s : State) : Out := .next (if s.diagMayRun then s.diagStart else s)

/-- Whether a run of AUTO_DIAG is due (R751): the link has been down for 1 s, and 10 s have passed since the last run. -/
def State.diagDue (s : State) : Bool :=
  decide (s.loom.t1lDown + 3000000000 ≤ s.cycle) &&
    (match s.loom.t1lDiag with
     | some c => decide (c + 30000000000 ≤ s.cycle)
     | none => true)

/-- AUTO_DIAG (R751). -/
def execAutoDiag (s : State) : Out :=
  .next (if s.on Reg.T1L_CFG_AUTO_DIAG && s.diagMayRun && s.diagDue then s.diagStart else s)

/-- T1L_DIAG_COMPLETE (R751, R752, R756): DISTANCE is 0 for results 0 and 4. -/
def execT1lDiagComplete (result : Fin 5) (distance : Fin 2048) (s : State) : Out :=
  let fault := result.val == 1 || result.val == 2 || result.val == 3
  let d := if fault then distance.val else 0
  .next (if !s.on Reg.T1L_DIAG_BUSY then s
    else
      let s1 := ((s.wr Reg.T1L_DIAG_BUSY 0).wr Reg.T1L_DIAG_RESULT result.val).wr Reg.T1L_DIAG_DISTANCE d
      if fault then s1.event 0x0C02 0 (result.val :: evBytes 2 d) else s1)

end Sys2Proof.Machine
end

