-- ==== Sys2Proof/Machine/RegRead.lean ====
section
/-! DEFINITION. Reads of the Expert address map (R15, R63 to R70, R318): registers as they stand, registers whose fields other state
holds, reads with an effect, and the memory regions. -/
namespace Sys2Proof.Machine

/-- The state that an outcome leaves, `s` where it is no next state. -/
def stateOf (s : State) (o : Out) : State :=
  match o with
  | .next t => t
  | _ => s

/-! ### Finding a register -/

/-- The instance indices at which a register group holds address `a`. -/
def RegSpec.at? (r : RegSpec) (a : Nat) : Option (Nat × Nat) :=
  if a < r.base then none
  else
    let o := a - r.base
    let i := if r.s1 = 0 then 0 else if r.s2 ≠ 0 ∧ r.n1 ≤ 1 then 0 else o / r.s1
    let o1 := o - i * r.s1
    let j := if r.s2 = 0 then 0 else o1 / r.s2
    if o1 = j * r.s2 ∧ i < r.n1 ∧ j < r.n2 then some (i, j) else none

/-- The register at an address with its instance (R65: none where the offset names no register). -/
def findReg (a : Nat) : Option (RegSpec × Nat × Nat) := Reg.table.findSome? (fun r => (r.at? a).map (fun x => (r, x.1, x.2)))

/-- The value of a register from its stored fields; WO fields read 0 (Table 00-3). -/
def State.regStored (s : State) (r : RegSpec) (i j : Nat) : Nat :=
  joinFields (r.fields.map (fun f => (f.lo, if f.acc = .wo then 0 else s.rd (f.at2 i j))))

/-- A read clears the RC fields of a register (Table 00-3). -/
def State.rcClear (s : State) (r : RegSpec) (i j : Nat) : State :=
  s.each (r.fields.filter (fun f => f.acc == .rc)) (fun s f => s.wr (f.at2 i j) 0)

/-! ### Registers whose fields other state holds -/

/-- Whether the journal has been mounted in this wake. -/
def State.mounted (s : State) : Bool := s.pstate != 3 || s.jr.mountSeq != 0

/-- The XSPI and JOURNAL views (Table 06-9); all but the divider read 0 before the mount. -/
def State.journalReg (s : State) (a : Nat) : Nat :=
  let b := s.bolt s.jr.active
  if a = 0x40100000 then
    joinFields [(16, if s.mounted then s.tppUs else 0), (4, if s.octal then 15 else 30), (0, b2n s.octal)]
  else if !s.mounted then 0
  else if a = 0x40100010 then
    joinFields [(16, s.fillPermille), (6, b2n s.jr.boltB.failing), (5, b2n s.jr.boltA.failing), (3, b2n (s.jr.phase != .off)),
      (2, s.jr.active), (0, s.journalState)]
  else if a = 0x40100014 then joinFields [(16, s.stagingLimit), (0, bodiesSize s.jr.staging)]
  else b.lastSeq

/-- TICKET.STAT and TICKET.SLOTn (Table 06-9). -/
def State.ticketReg (s : State) (a : Nat) : Nat :=
  if a = 0x400D0000 then
    joinFields [(24, s.countSlots (·.orphan)), (16, s.countSlots (·.state == .indoubt)), (8, s.countSlots (·.state == .running)),
      (0, s.countSlots (·.state == .free))]
  else
    let t := s.ticket ((a - 0x400D0100) / 4)
    joinFields [(29, t.state.toCode), (24, t.type), (16, t.client), (0, t.step)]

/-- A register that is computed, by the base of its group and its instance. -/
def State.regLive (s : State) (base i a : Nat) : Option Nat :=
  if base = 0x40000200 then
    some (joinFields [(24, ownerCode (s.shuttleHolder i)), (8, b2n (s.shAvailable i)), (0, s.shThreads i)])
  else if base = 0x400F0200 then some (s.fuseField (32 * i) 32)
  else if base = 0x4001000C then some s.ang
  else if base = 0x40020034 then some (shortOf s.time.dt)
  else if base = 0x40020038 then some (unsigned 32 s.dtErr)
  else if base = 0x400D0000 ∨ base = 0x400D0100 then some (s.ticketReg a)
  else if 0x40100000 ≤ base then some (s.journalReg a)
  else if base = 0x400C0310 then some (s.spare (s.rd Reg.REPAIR_SEL_BANK) i).word
  else if base = 0x40030004 then
    some (joinFields [(16, s.freeCount), (3, s.rd Reg.LOOM_STAT_POOL_EMPTY), (2, s.rd Reg.LOOM_STAT_BAD_HANDLE),
      (1, s.rd Reg.LOOM_STAT_DUP_FULL), (0, s.rd Reg.LOOM_STAT_FDB_FULL)])
  else if base = 0x40030110 then
    some (joinFields [(16, s.portQueued i), (0, if i < 6 then s.portHeld i else s.setHeld (if i = 6 then 4 else if i = 8 then 5 else 0))])
  else if base = 0x40030254 then some (s.loom.vlans.get 0 (s.rd Reg.LOOM_VLAN_SEL_VID))
  else if base = 0x40030304 then some (joinFields [(16, s.rd Reg.LOOM_DUPSTAT_FULL), (0, s.loom.dup.length)])
  else none

/-! ### Reads with an effect -/

/-- A read of a register that takes what it returns, by the base of its group. -/
def State.regTake (s : State) (base i : Nat) : Option State :=
  if base = 0x400A0000 then some s.cntloRead
  else if base = 0x40020038 then
    (if s.dtSource = 3 then some { s.drawWord.2 with readData := s.drawWord.1 } else none)
  else if base = 0x40080040 then some (stateOf s (execRxqRead (Fin.ofNat 16 i) s))
  else if base = 0x40080910 then some (stateOf s (execUartRxRead (Fin.ofNat 2 i) s))
  else if base = 0x40030604 then some (stateOf s (execNqRxpop (Fin.ofNat 6 i) s))
  else if base = 0x40030614 then some (stateOf s (execNqCpop (Fin.ofNat 6 i) s))
  else if base = 0x40030618 then some (stateOf s (execNqAlloc (Fin.ofNat 6 i) s))
  else if base = 0x4004000C then some (stateOf s (execPstkRead (Fin.ofNat 6 i) 0 s))
  else none

/-- A read of a register: its value and the state after the read. -/
def State.regRead (s0 : State) (r : RegSpec) (i j a : Nat) : Nat × State :=
  let s := s0.regSense r.base
  match s.regTake r.base i with
  | some t => (t.readData.toNat, t)
  | none =>
    match s.regLive r.base i a with
    | some v => (v, s)
    | none => (s.regStored r i j, s.rcClear r i j)

/-! ### The address map (Table 01-7) -/

/-- Whether an address lies in a register block of Table 01-7. -/
def inBlock (a : Nat) : Bool :=
  decide (0x40000000 ≤ a) && decide (a < 0x40110000) && !(decide (0x40046000 ≤ a) && decide (a < 0x40050000))

/-- The die link carries a register access whose frame fails its CRC `crc` times (R32 to R36): 0, LINK_ERROR or LINK_DOWN. -/
def State.linkCarry (s : State) (a crc : Nat) : Nat × State :=
  if !companion a then (0, s)
  else if s.dlDown then (0x17, { s with linkAnswer := .linkDown })
  else
    let s1 := s.wrIf (decide (0 < crc)) Reg.SYS_DLSTAT_REG_RETRY 1
    if 2 ≤ crc then (0x16, { s1 with linkAnswer := .linkError }) else (0, { s1 with linkAnswer := .ok })

/-- The bank and offset of a 64-bit unit of packet memory or Weaver code RAM at an address of its region. -/
def unitAt (a : Nat) : Nat × Nat :=
  if 0x20000000 ≤ a then (8 + (a - 0x20000000) / 8 / 65536, (a - 0x20000000) / 8 % 65536) else (0x1A, (a - 0x10000) / 8)

/-- Half `h` of a 64-bit value. -/
def halfOf (v : BitVec 64) (h : Nat) : Nat := v.toNat / 2 ^ (32 * h) % 2 ^ 32

/-- A 32-bit read at an Expert address by requester `src` (codes of MEM.ERRSRC); `crc` counts CRC failures on the die link. Answers
a code of Table 05-5 and the value (Table 07-4: a poisoned word of tagged memory is read, one of packet memory fails with DATA 0).
DESIGN CHOICE (log entry 115): an access to a memory region that is not aligned to 4 bytes answers NO_TARGET, as R66 states of
registers. -/
def State.expertRead (s : State) (a src crc : Nat) : Nat × Nat × State :=
  if a % 4 ≠ 0 then (0x14, 0, s)
  else if a < 0x10000 then
    let d := s.drawWord
    (0, d.1.toNat, d.2)
  else if a < 0x50000 ∨ (0x20000000 ≤ a ∧ a < 0x20400000) then
    let u := unitAt a
    let r := s.bridgeRead u.1 u.2 src
    if r.1 = .poisoned then (0x0F, 0, r.2.2) else (0, halfOf r.2.1.val (a / 4 % 2), r.2.2)
  else if 0x10000000 ≤ a ∧ a < 0x10400000 then
    let w := (a - 0x10000000) / 8
    let r := s.bridgeRead (w / 65536) (w % 65536) src
    (0, if a / 4 % 2 = 1 then r.2.1.tag.toCode else halfOf r.2.1.val 0, r.2.2)
  else if !inBlock a then (0x14, 0, s)
  else
    let l := s.linkCarry a crc
    if l.1 ≠ 0 then (l.1, 0, l.2)
    else if 0x4003A000 ≤ a ∧ a < 0x40040000 then (0, s.loom.rxst.get 0 ((a - 0x4003A000) / 4), l.2)
    else if 0x40082000 ≤ a ∧ a < 0x40082400 then (0, s.hed.prog.get 0 ((a - 0x40082000) / 4), l.2)
    else
      match findReg a with
      | none => (0, 0, l.2)
      | some (r, i, j) =>
        let x := l.2.regRead r i j a
        (0, x.1, x.2)

end Sys2Proof.Machine
end

