-- ==== Sys2Proof/Machine/RegWrite.lean ====
section
/-! DEFINITION. Writes of the Expert address map (R15 to R18, R63 to R70): the access codes, the registers whose write has an effect of
its own, and the memory regions. -/
namespace Sys2Proof.Machine

/-! ### Access codes (Table 00-3) -/

/-- A write of `v` to a field under its access code; a code that the field does not list leaves it (R18). -/
def State.fieldStore (s : State) (f : Field) (v : Nat) : State :=
  match f.acc with
  | .ro | .rc | .wo => s
  | .w1c => s.wr f (s.rd f - (s.rd f &&& v))
  | _ => if f.legal.ok f.w v then s.wr f v else s

/-- A write of a register with no effect beyond its fields. -/
def State.regStore (s : State) (r : RegSpec) (i j v : Nat) : State :=
  s.each r.fields (fun s f => s.fieldStore (f.at2 i j) (fieldOf v f.lo f.w))

/-- Apply `f` where bit `k` of a written value is 1. -/
def State.onBit (s : State) (v k : Nat) (f : State → State) : State := if bitOf v k then f s else s

/-! ### Registers of the common blocks -/

/-- Writes with an effect in SYS, TREADLE and TIME, by the base of the register group; none where the write is only stored. -/
def State.writeSysTime (s : State) (r : RegSpec) (i v : Nat) (w : Writer) : Option State :=
  let st := s.regStore r i 0 v
  if r.base = 0x40000240 then some (stateOf s (execShwake (Fin.ofNat 32 v) w s))
  else if r.base = 0x40010000 then some (st.onBit v 7 (fun s => s.stepCommand.getD s))
  else if r.base = 0x40010040 then some (s.onBit v 0 State.xtsPop)
  else if within 0x40010100 0x40010108 r.base then some (s.aevWrite i ((r.base - 0x40010100) / 4) v)
  else if r.base = 0x40020000 then some st.reSource
  else if r.base = 0x40020008 then some (s.onBit v 0 State.snap)
  else if r.base = 0x4002003C then some (s.onBit v 0 (fun s => s.dtCommand.getD s))
  else if within 0x40020100 0x40020124 r.base then
    some (if !s.domWriter i w || s.limping then s
      else if r.base = 0x40020100 then s.domStateWrite i (v % 4)
      else if r.base = 0x40020104 then s.domRateLo i v
      else if r.base = 0x40020108 then
        s.domRateWrite i (BitVec.ofNat 40 (s.rd (Reg.TIME_TDX_RATELO_RATE.at i) + 2 ^ 32 * (v % 256)))
      else if r.base = 0x40020110 then s.domStep i (signed 32 v)
      else if r.base = 0x40020120 then s.onBit v 0 (fun s => s.domSet i)
      else if r.base = 0x40020124 then s.beatNow i
      else st)
  else if r.base = 0x40020128 then some (if v % 256 = s.rd Reg.TIME_TDB_PTPDOM_DOMNUM then s else st)
  else if r.base = 0x40020228 then some (if v % 256 = s.rd Reg.TIME_TDA_PTPDOM_DOMNUM then s else st)
  else if r.base = 0x40020400 then
    let t := if st.tpoWidthOk i then st else st.wr (Reg.TIME_TPO_CFG_MODE.at i) (s.rd (Reg.TIME_TPO_CFG_MODE.at i))
    some (t.tpoChanged i)
  else if within 0x40020404 0x4002040C r.base then some (st.tpoChanged i)
  else if within 0x40020410 0x40020414 r.base then some (if st.tpoWidthOk i then st.tpoChanged i else s)
  else if r.base = 0x40020604 then some (s.onBit v 0 (fun s => s.tpiPop i))
  else if r.base = 0x400C0204 then some (if 1 ≤ v % 65536 ∧ v % 65536 ≤ 10000 then st else s)
  else none

/-- Writes in the HEDDLE block (R634, R635, R639); a writer that does not hold the unit reaches none of its registers. -/
def State.writeHeddle (s : State) (r : RegSpec) (i v : Nat) (w : Writer) : Option State :=
  let n := Fin.ofNat 16 i
  let u := Fin.ofNat 2 i
  let st := s.regStore r i 0 v
  if r.base = 0x40080000 then
    some (if !holderAllows (s.heddleHolder i) w then s
      else
        let s1 := (s.wr (Reg.HEDDLE_CTRL_CATCH_LEN.at i) (fieldOf v 9 5)).wr (Reg.HEDDLE_CTRL_AUTOCATCH.at i) (fieldOf v 8 1)
        let s2 := if fieldOf v 4 4 = s.rd (Reg.HEDDLE_CTRL_SPLIT.at i) then s1
          else stateOf s1 (execSplitWrite n w (Fin.ofNat 16 (fieldOf v 4 4)) s1)
        let s3 := s2.onBit v 2 (fun s => stateOf s (execFlush n w s))
        let s4 := s3.onBit v 1 (fun s => stateOf s (execRestart n w s))
        if bitOf v 0 then stateOf s4 (execHeddleEnable n w s4) else stateOf s4 (execHeddleDisable n w s4))
  else if r.base = 0x40080004 then some (stateOf s (execHeddleDivWrite n w (BitVec.ofNat 24 v) s))
  else if r.base = 0x40080008 then
    some (stateOf s (execRegionWrite n w (fieldOf v 0 7) (fieldOf v 8 8) (fieldOf v 16 7) (fieldOf v 24 7) s))
  else if r.base = 0x4008000C then some (stateOf s (execSlotmapWrite n w false (BitVec.ofNat 32 v) s))
  else if r.base = 0x40080010 then some (stateOf s (execSlotmapWrite n w true (BitVec.ofNat 32 v) s))
  else if r.base = 0x40080034 then some (stateOf s (execTtargetWrite n w (BitVec.ofNat 32 v) s))
  else if r.base = 0x4008003C then some (stateOf s (execTxqWrite n w (BitVec.ofNat 32 v) s))
  else if r.base = 0x40080800 then some (stateOf s (execBypassWrite w (BitVec.ofNat 2 v) s))
  else if r.base = 0x40080900 then
    let s1 := s.onBit v 1 (fun s => stateOf s (execTxflush u w s))
    let s2 := s1.onBit v 2 (fun s => stateOf s (execRxflush u w s))
    let d := s2.drawBool
    some (stateOf d.2 (execUartConfigWrite u w (.ctrl (BitVec.ofNat 32 v)) d.1 d.2))
  else if r.base = 0x40080904 then
    let d := s.drawBool
    some (stateOf d.2 (execUartConfigWrite u w (.baud (BitVec.ofNat 24 v)) d.1 d.2))
  else if r.base = 0x4008090C then some (stateOf s (execUartTxWrite u w (BitVec.ofNat 8 v) s))
  else if within 0x40080014 0x40080044 r.base then some (if holderAllows (s.heddleHolder i) w then st else s)
  else if within 0x40080908 0x40080918 r.base then some (if s.uaAllows i w then st else s)
  else none

/-! ### Loom, Bobbin, MACs -/

/-- Whether the frame pool keeps the sum of RESERVE with `r` cells in place of those of port `p` (R662); internal ports reserve
none of it. -/
def State.reserveFits (s : State) (p r : Nat) : Bool :=
  decide (6 ≤ p) || decide (s.sumReserve - s.rd (Reg.LOOM_PORT_CELLS_RESERVE.at p) + r ≤ s.framePool)

/-- Whether the Bobbin can take SIZE cells from BASE on (R662, R698). -/
def State.bobbinFits (s : State) : Bool :=
  let base := s.rd Reg.BOBBIN_BASE_BASE
  let size := s.rd Reg.BOBBIN_SIZE_SIZE
  decide (base + size ≤ 16384) && decide (s.sumReserve + size ≤ s.framePool) &&
    ((s.freeCells.filter (fun c => decide (base ≤ c) && decide (c < base + size))).length == size)

/-- Enable or disable the Bobbin: 0, or RESOURCE (R662). -/
def State.bobbinEnable (s : State) (en : Bool) : Nat × State :=
  if !en then (0, s.wr Reg.BOBBIN_CTRL_EN 0)
  else if s.on Reg.BOBBIN_CTRL_EN then (0, s)
  else if s.bobbinFits then (0, s.wr Reg.BOBBIN_CTRL_EN 1) else (0x10, s)

/-- Records between RD and WR. -/
def State.bobFill (s : State) : Nat := (s.rd Reg.BOBBIN_WR_WR + s.bobRecords - s.rd Reg.BOBBIN_RD_RD) % s.bobRecords

/-- Writes in the LOOM and BOBBIN block with an effect or a refusal (R662, R665 to R703). -/
def State.writeLoom (s : State) (r : RegSpec) (i v : Nat) : Option (Nat × State) :=
  let st := s.regStore r i 0 v
  let p := Fin.ofNat 6 i
  if r.base = 0x40030000 then some (0, (if s.netsOff then st.wr Reg.LOOM_CTRL_EN 0 else st).onBit v 1 (fun s => stateOf s (execFlushFdb s)))
  else if r.base = 0x40030104 then
    some (if s.reserveFits i (fieldOf v 0 14) then (0, st) else (0x10, s.wr (Reg.LOOM_PORT_CELLS_MAX.at i) (fieldOf v 16 14)))
  else if r.base = 0x4003024C then
    let g := bitOf v 2
    some (0, if v % 4 = 1 then stateOf s (execFdbLookup g s) else if v % 4 = 2 then stateOf s (execFdbInsert g s)
      else if v % 4 = 3 then stateOf s (execFdbDelete g s) else s)
  else if r.base = 0x40030254 then
    let x := fieldOf v 0 9 + 65536 * fieldOf v 16 9
    some (0, { s with loom := { s.loom with vlans := s.loom.vlans.set 0 (s.rd Reg.LOOM_VLAN_SEL_VID) x } })
  else if r.base = 0x40030608 then some (0, stateOf s (execNqFree p (BitVec.ofNat 32 v) s))
  else if r.base = 0x40030610 then some (0, stateOf s (execNqTx p (BitVec.ofNat 32 v) s))
  else if r.base = 0x40031000 then some (0, st.onBit v 1 (fun s => stateOf s (execTgSwap p s)))
  else if r.base = 0x40034000 then some (0, st.onBit v 1 (fun s => stateOf s (execAgSwap p s)))
  else if r.base = 0x40038000 then
    some ((s.wr Reg.BOBBIN_CTRL_OVERWRITE (fieldOf v 1 1)).bobbinEnable (bitOf v 0))
  else if r.base = 0x40038004 then some (if s.on Reg.BOBBIN_CTRL_EN then (0x0B, s) else (0, st))
  else if r.base = 0x40038008 then
    let n := fieldOf v 0 14
    some (if s.on Reg.BOBBIN_CTRL_EN then (0x0B, s)
      else if 256 ≤ n ∧ n ≤ 4096 ∧ n % 256 = 0 then (0, st) else (0, s))
  else if r.base = 0x40038010 then
    let s1 := st.wr Reg.BOBBIN_STAT_STOPPED 0
    some (0, { s1 with loom := { s1.loom with bobUsed := s1.bobFill } })
  else if r.base = 0x40040000 then
    some (0, (s.each (r.fields.filter (fun f => f.lo != 0)) (fun s f => s.fieldStore (f.at i) (fieldOf v f.lo f.w))).macMode i (v % 4))
  else if r.base = 0x40040014 then some (0, st.wr (Reg.MAC_LINK_LOOP.at i) (fieldOf v 10 1))
  else if r.base = 0x40045108 then some (0, s.onBit v 0 (fun s => stateOf s (execT1lDiagRun s)))
  else none

/-! ### CAN -/

/-- The fields of CTRL that change only while the channel is STOPPED (R817). -/
def canHeld : List Field := [Reg.CAN_CTRL_MON, Reg.CAN_CTRL_LOOPBACK, Reg.CAN_CTRL_TT, Reg.CAN_CTRL_BRS_OFF, Reg.CAN_CTRL_TDC_EN]

/-- A write of CAN CTRL (R793, R817): the held fields are refused where the channel is not STOPPED and they would change. -/
def State.writeCanCtrl (s : State) (r : RegSpec) (n v : Nat) (w : Writer) : State :=
  let stopped := s.cnState n == 0
  let c := Fin.ofNat 2 n
  let s1 := s.each (r.fields.filter (fun f => !(canHeld.any (fun h => h.lo == f.lo))))
    (fun s f => s.fieldStore (f.at n) (fieldOf v f.lo f.w))
  let differs := canHeld.any (fun f => s.rd (f.at n) != fieldOf v f.lo f.w)
  let s2 := if stopped then s1.each canHeld (fun s f => s.wr (f.at n) (fieldOf v f.lo f.w))
    else if differs then s1.cnRefuse n else s1
  let s3 := s2.onBit v 0 (fun s => stateOf s (execCanStart c w s))
  let s4 := s3.onBit v 1 (fun s => stateOf s (execCanStop c s))
  let s5 := s4.onBit v 2 (fun s => stateOf s (execCanRecover c s))
  s5.onBit v 3 (fun s => stateOf s (execCanSleep c s))

/-- A write of MOk_CTL (R777, R782, R786). -/
def State.writeMoCtl (s : State) (r : RegSpec) (n k v : Nat) : State :=
  let c := Fin.ofNat 2 n
  let s1 := s.regStore r n k v
  let s2 := s1.onBit v 2 (fun s => stateOf s (execTxcancel c (Fin.ofNat 128 k) s))
  s2.onBit v 1 (fun s => stateOf s (execTxset c (Fin.ofNat 128 k) s))

/-- Writes in a CAN block with an effect or a refusal; the payload of an object is written only while it transmits (Table 13-8). -/
def State.writeCan (s : State) (r : RegSpec) (i j v : Nat) (w : Writer) : Option State :=
  let c := Fin.ofNat 2 i
  if r.base = 0x40050000 then some (s.writeCanCtrl r i v w)
  else if within 0x40050004 0x40050008 r.base ∨ within 0x40050040 0x40050054 r.base ∨ r.base = 0x40050080 then
    some (if s.cnState i = 0 then s.regStore r i j v else s.cnRefuse i)
  else if r.base = 0x40051000 then some (stateOf s (execMoConfigWrite c (Fin.ofNat 128 j) (.cfg (BitVec.ofNat 32 v)) s))
  else if r.base = 0x40051004 then some (stateOf s (execMoConfigWrite c (Fin.ofNat 128 j) (.id (BitVec.ofNat 32 v)) s))
  else if r.base = 0x40051008 then some (s.writeMoCtl r i j v)
  else if r.base = 0x40051040 ∨ r.base = 0x40059040 then
    some (if s.rd (Reg.CAN_MO_CFG_DIR.at2 (if r.base = 0x40051040 then 0 else 1) i) = 2 then s.regStore r i j v else s)
  else none

/-! ### Power stages, fan, clock, links -/

/-- Writes with an effect in the PWM, ADC, FAN, THERMAL, RTC and GRILOR blocks. -/
def State.writeStage (s : State) (r : RegSpec) (i v : Nat) : Option State :=
  let st := s.regStore r i 0 v
  if r.base = 0x40060118 then
    some ((((s.onBit v 2 (fun s => s.grPark i)).onBit v 1 (fun s => s.grRamp i)).onBit v 3 (fun s => s.grClear i)).onBit v 0
      (fun s => s.grTryStart i))
  else if r.base = 0x40060400 then
    some (stateOf s (execDutyWrite (Fin.ofNat 8 i) (BitVec.ofNat 24 v) s))
  else if r.base = 0x40060804 then some (s.onBit v 0 State.wakePcp)
  else if r.base = 0x40070110 then some (s.onBit v 0 (fun s => stateOf s (execSeqGo (Fin.ofNat 8 i) s)))
  else if r.base = 0x40090000 then some st.fanDemandChange
  else if r.base = 0x40090004 then some (s.onBit v 0 State.fanClear)
  else if r.base = 0x40090008 then some (stateOf s (execFanDutyWrite (BitVec.ofNat 32 v) s))
  else if r.base = 0x40090100 then some (s.onBit v 4 State.guardAck)
  else if r.base = 0x400A0010 then
    some (((s.onBit v 0 State.rtcSet).onBit v 1 (fun s => (s.summer true).1)).onBit v 2 (fun s => (s.summer false).1))
  else if r.base = 0x400A0018 then some ((s.offsetWrite (signed 31 (v / 2))).getD s)
  else if r.base = 0x400A001C then some (s.alarmLo v)
  else if r.base = 0x400A0020 then some (s.alarmHi v)
  else if r.base = 0x400A0024 then some (s.periodWrite v)
  else if r.base = 0x400B0100 then some (s.geEnable i (bitOf v 2))
  else if r.base = 0x400B0304 then some (s.onBit v 0 (fun s => if s.handoverOk then s.handoverCmd else s))
  else none

/-! ### Refusals of the chapters -/

/-- The code with which a write of Gg_CFG to Gg_SYNCPER is refused (R833, R835): OUT_OF_RANGE where PHASES would place a phase in two
groups, or leave an enabled group without one; WRONG_STATE where the group is not DISABLED. -/
def State.groupWriteCode (s : State) (base g v : Nat) : Nat :=
  let m := v % 256
  let shared := (List.range 4).any (fun h => h != g && m &&& s.rd (Reg.PWM_G_CFG_PHASES.at h) != 0)
  if base = 0x40060100 ∧ (shared || (m == 0 && s.grEnable g)) then 9
  else if s.grState g ≠ 0 then 0x0B
  else 0

/-- Whether a pair may take a redundancy mode (R679): off, or with both ports at the same rate. -/
def State.redAllowed (s : State) (pair mode : Nat) : Bool := mode == 0 || s.rateMbps (2 * pair) == s.rateMbps (2 * pair + 1)

/-- The code with which the chapter of a register refuses the whole write, or 0. -/
def State.regRefused (s : State) (base i v : Nat) : Nat :=
  if within 0x40060100 0x40060114 base then s.groupWriteCode base i v
  else if base = 0x40030300 then (if s.redAllowed 0 (v % 4) && s.redAllowed 1 (v / 4 % 4) then 0 else 0x0B)
  else 0

/-! ### Registers -/

/-- A write of a register: 0, or the code that refuses it (R139, R662, R679, R698, R833). -/
def State.regWrite (s : State) (r : RegSpec) (i j v : Nat) (w : Writer) : Nat × State :=
  let b := r.base
  let plain := (0, s.regStore r i j v)
  let code := s.regRefused b i v
  if code ≠ 0 then (code, s)
  else if b = 0x40000024 then s.sdcmdWrite (v % 4)
  else if b < 0x40030000 ∨ (0x400C0000 ≤ b ∧ b < 0x400D0000) then ((s.writeSysTime r i v w).map (fun t => (0, t))).getD plain
  else if b < 0x40050000 then (s.writeLoom r i v).getD plain
  else if b < 0x40060000 then ((s.writeCan r i j v w).map (fun t => (0, t))).getD plain
  else if 0x40080000 ≤ b ∧ b < 0x40090000 then ((s.writeHeddle r i v w).map (fun t => (0, t))).getD plain
  else ((s.writeStage r i v).map (fun t => (0, t))).getD plain

/-- The entries whose values stand in the J fields of a register group, by its base and instance: index, first and last
sub-index (R15). -/
def jEntries (base i : Nat) : List (Nat × Nat × Nat) :=
  if base = 0x40010000 ∨ base = 0x40010004 then [(0x3000, 1, 9)]
  else if base = 0x40020000 then [(0x3100, 1, 4)]
  else if base = 0x40020128 then [(0x3110, 3, 3)]
  else if base = 0x40020228 then [(0x3111, 3, 3)]
  else if within 0x40020800 0x40020804 base then [(0x3150 + i, 1, 2)]
  else if base = 0x400E0004 then [(0x2600, 1, 1)]
  else if within 0x400C0100 0x400C0104 base then [(0x2330, 1, 3)]
  else if base = 0x400C0204 then [(0x2300, 3, 3)]
  else if base = 0x40030000 then [(0x6000, 3, 3)]
  else if within 0x40030100 0x40030114 base then (if i < 6 then [(0x6010 + i, 1, 12)] else [])
  else if base = 0x40030300 then [(0x6030, 1, 3)]
  else if within 0x40040000 0x40040008 base then [(0x6070 + i, 1, 10)]
  else if base = 0x40045100 then [(0x6078, 1, 8)]
  else if base = 0x40050000 then [(0x6100 + i, 5, 5)]
  else if base = 0x40060004 ∨ base = 0x40060008 then [(0x4050, 1, 8)]
  else if base = 0x4006000C then (0x4051, 0, 0) :: (List.range 8).map (fun n => (0x4040 + n, 6, 6))
  else if base = 0x40060100 then [(0x4010 + i, 1, 0x1D)]
  else if base = 0x40060408 then [(0x4040 + i, 5, 5)]
  else if base = 0x40070000 then (0x4058, 2, 2) :: (List.range 8).map (fun n => (0x4040 + n, 2, 2))
  else if base = 0x40070004 then [(0x4058, 1, 1)]
  else if base = 0x40090000 then [(0x5008, 1, 3), (0x5009, 1, 1)]
  else if base = 0x4009000C ∨ base = 0x40090010 then [(0x5008, 12, 13)]
  else if base = 0x400A0110 then [(0x2020, 2, 4)]
  else []

/-- The J fields of a register group that no Basic entry shows, of instance `i` (R15): their value is journaled as that of the register's
address (log entry 28). -/
def RegSpec.rawFields (r : RegSpec) (i : Nat) : List Field :=
  r.fields.filter (fun f => f.acc == .j &&
    ([0x40040014, 0x40060104, 0x40060108, 0x4006010c, 0x40070800, 0x40070820].contains r.base ||
      (within 0x40030100 0x40030114 r.base && decide (6 ≤ i)) || (r.base == 0x40040000 && f.lo == 5)))

/-- Whether a key of a VALUE item is a register address. -/
def rawKey (k : Nat) : Bool := decide (0x40000000 ≤ k)

/-- The journaled value of the register at a key: its J fields that no entry shows. -/
def State.rawWord (s : State) (k : Nat) : OdVal :=
  match findReg k with
  | none => .scalar .bits 0
  | some (r, i, j) => .scalar .bits (joinFields ((r.rawFields i).map (fun f => (f.lo, s.rd (f.at2 i j)))))

/-- A journaled register value takes effect. -/
def State.rawTake (s : State) (k v : Nat) : State :=
  match findReg k with
  | none => s
  | some (r, i, j) => s.each (r.rawFields i) (fun s f => s.fieldStore (f.at2 i j) (fieldOf v f.lo f.w))

/-- The journaled entries of a register group with their values. -/
def State.jValues (s : State) (base i : Nat) : List (Nat × OdVal) :=
  (jEntries base i).flatMap (fun e => ((List.range (e.2.2 + 1 - e.2.1)).map (· + e.2.1)).filterMap (fun sub =>
    match s.odSpec e.1 sub with
    | some m => if m.acc.journals && m.home != .val then some (odKey e.1 sub, s.odPeek 0 e.1 sub m) else none
    | none => none))

/-- What a register write changed of the journaled values of its group: entries, and J fields that no entry shows. -/
def State.jChanged (s before : State) (r : RegSpec) (i a : Nat) : List (Nat × OdVal) :=
  (s.jValues r.base i).filter (fun e => !(before.jValues r.base i).contains e) ++
    (if (r.rawFields i).isEmpty || s.rawWord a == before.rawWord a then [] else [(a, s.rawWord a)])

/-- Stage the values that a register write changed as VALUE records of an engine (R15, Table 06-6). -/
def State.jStage (s before : State) (r : RegSpec) (i a : Nat) : State :=
  s.each (packItems [] (s.jChanged before r i a)) (fun s items => s.stage (.value 0 0 0 true items))

/-- A write of the register at address `a` with the journaling of its J fields. -/
def State.regWriteJ (s : State) (r : RegSpec) (i j a v : Nat) (w : Writer) : Nat × State :=
  let o := s.regWrite r i j v w
  if r.fields.any (fun f => f.acc == .j) then (o.1, o.2.jStage s r i a) else o

/-! ### The address map -/

/-- A 32-bit write at an Expert address by requester `src` (codes of MEM.ERRSRC); `crc` counts CRC failures on the die link. Answers
a code of Table 05-5 and the state. -/
def State.expertWrite (s : State) (a v : Nat) (w : Writer) (src crc : Nat) : Nat × State :=
  let word := BitVec.ofNat 32 v
  if a % 4 ≠ 0 then (0x14, s)
  else if a < 0x10000 then (0, s)
  else if a < 0x50000 ∨ (0x20000000 ≤ a ∧ a < 0x20400000) then
    let u := unitAt a
    let h := a / 4 % 2
    (0, s.bridgeWrite u.1 u.2 src (.bytes (if h = 0 then 0x0F else 0xF0) (BitVec.ofNat 64 (v % 2 ^ 32 * 2 ^ (32 * h)))))
  else if 0x10000000 ≤ a ∧ a < 0x10400000 then
    let x := (a - 0x10000000) / 8
    if a / 4 % 2 = 0 then (0, s.bridgeWrite (x / 65536) (x % 65536) src (.value word))
    else if v % 16 = 14 then (0x15, s)
    else (0, s.bridgeWrite (x / 65536) (x % 65536) src (.tag (Tag.ofCode v)))
  else if !inBlock a then (0x14, s)
  else
    let l := s.linkCarry a crc
    if l.1 ≠ 0 then l
    else if 0x40082000 ≤ a ∧ a < 0x40082400 then
      let k := (a - 0x40082000) / 4
      (0, stateOf l.2 (execProgramWordWrite (Fin.ofNat 2 (k / 128)) (Fin.ofNat 128 k) w (BitVec.ofNat 24 v) l.2))
    else
      match findReg a with
      | none => (0, l.2)
      | some (r, i, j) => l.2.regWriteJ r i j a (v % 2 ^ 32) w

/-! ### Commands -/

/-- Whether a requester can make a register access: the digital die runs (R140), and a lockstep mismatch stops the Weaver (R47, R83)
and with it the gateway. -/
def State.mayAccess (s : State) (w : Writer) : Bool :=
  s.dieOn && !(s.pow.weaverHalted && (w == .weaver || w == .gateway))

/-- REGISTER_WRITE (R15 to R18): a write of a register by writer `w`; an offset that names no register has no effect (R65), and a
companion register is reached while the die link is up. -/
def execRegisterWrite (a v : Word) (w : Writer) (s : State) : Out :=
  let r := s.expertWrite a.toNat v.toNat w 2 0
  .next (if s.mayAccess w then r.2.answer r.1 else s)

/-- RC_REGISTER_READ (R15): the value is returned, then the RC fields are cleared. -/
def execRcRegisterRead (a : Word) (s : State) : Out :=
  let r := s.expertRead a.toNat 2 0
  .next (if s.weaverOn then { r.2.2.answer r.1 with readData := BitVec.ofNat 32 r.2.1 } else s)

/-- COMPANION_REGISTER_ACCESS (R33, R34, R36): a read or a write (`v`) of a register, with the number of CRC failures its frame meets
on the die link. -/
def execCompanionRegisterAccess (a : Word) (v : Option Word) (w : Writer) (crc : Fin 3) (s : State) : Out :=
  match v with
  | none =>
    let r := s.expertRead a.toNat 2 crc
    .next (if s.mayAccess w then { r.2.2.answer r.1 with readData := BitVec.ofNat 32 r.2.1 } else s)
  | some x =>
    let r := s.expertWrite a.toNat x.toNat w 2 crc
    .next (if s.mayAccess w then r.2.answer r.1 else s)

end Sys2Proof.Machine
end

