-- ==== Sys2Proof/Machine/EurSystem.lean ====
section
/-! DEFINITION. Eurnafa instructions of control flow, waiting, special registers and Expert registers (R514, R515, R525 to R527, R531,
R532, R535). -/
namespace Sys2Proof.Machine

/-- An instruction of form N. -/
def nDesc : EurDesc := { form := .n }

/-- The present address of the next instruction of an instruction. -/
def State.nextPc (s : State) (d : EurDesc) (op : EurOp) : Word := (s.thread op.thread).pc + BitVec.ofNat 32 (eurLen d op)

/-! ### Control flow -/

/-- NOP (Table 08-7). -/
def execEuNop (op : EurOp) (s : State) : Out := .next (s.issue nDesc op false false .done)

/-- HALT (Table 08-7, R528): not in the Full profile. -/
def execEuHalt (op : EurOp) (s : State) : Out :=
  .next (s.issue { nDesc with full := false } op false false (fun s =>
    .done (s.setThread op.thread { s.thread op.thread with run := .stopped })))

/-- RET (R481). -/
def execEuRet (op : EurOp) (s : State) : Out :=
  .next (s.issue nDesc op false false (fun s =>
    let w := s.greg op.thread 30
    s.withSrc op w false (fun t => t == .code) (.jump s w.val)))

/-- WAIT (R526). -/
def execEuWait (op : EurOp) (s : State) : Out :=
  .next (s.issue nDesc op false false (fun s =>
    let t := s.thread op.thread
    .done (if t.wakeLatch then s.setThread op.thread { t with wakeLatch := false } else s.setThread op.thread { t with run := .waiting })))

/-- RTT (R532): outside a handler an illegal opcode. -/
def execEuRtt (op : EurOp) (s : State) : Out :=
  let t := s.thread op.thread
  .next (s.issue { nDesc with pred := false } op false (!t.tactive) (fun s =>
    let t := s.thread op.thread
    .jump (s.setThread op.thread { t.setFl t.tfl with tactive := false }) t.tpc))

/-- A branch by the second operand (Table 08-7): an immediate is added to the next PC, a register holds CODE. -/
def State.branch (s : State) (d : EurDesc) (op : EurOp) : EurRes :=
  if op.mode = .reg then
    let w := s.greg op.thread (bReg op)
    s.withSrc op w false (fun t => t == .code) (.jump s w.val)
  else .jump s (s.nextPc d op + (immOf op .int).val)

/-- B (R514): codes 17 to 31 are illegal encodings. -/
def execEuB (op : EurOp) (s : State) : Out :=
  .next (s.issue shortDesc op (decide (16 < op.d.val)) false (fun s =>
    let t := s.thread op.thread
    if (condHolds op.d t.flags t.p).getD false then s.branch shortDesc op else .done s))

/-- CALL (R481): `D` must be 0. -/
def execEuCall (op : EurOp) (s : State) : Out :=
  let desc : EurDesc := { form := .s, modes := [.reg, .i16, .i32] }
  .next (s.issue desc op (decide (op.d.val ≠ 0)) false (fun s =>
    match s.branch desc op with
    | .jump s1 pc => .jump (s1.setG op.thread 30 ⟨.code, s.nextPc desc op⟩) pc
    | r => r))

/-- LOOP (R481): `D` must be 0. -/
def execEuLoop (op : EurOp) (s : State) : Out :=
  let desc : EurDesc := { form := .s, modes := [.i8, .i16] }
  .next (s.issue desc op (decide (op.d.val ≠ 0)) false (fun s =>
    let w := s.greg op.thread 29
    let n := w.val - 1
    s.withSrc op w false (fun t => t == .uint) (
      let s1 := s.setG op.thread 29 ⟨.uint, n⟩
      if n = 0 then .done s1 else s1.branch desc op)))

/-- BNIL (R511). -/
def execEuBnil (op : EurOp) (s : State) : Out :=
  let desc : EurDesc := { form := .s, modes := [.i8, .i16] }
  .next (s.issue desc op false false (fun s =>
    if (s.greg op.thread op.d).tag = .nil then s.branch desc op else .done s))

/-- SWT (R531): SOFT with the immediate as TVAL, after the instruction. -/
def execEuSwt (op : EurOp) (s : State) : Out :=
  .next (s.issue { form := .s, modes := [.i8] } op false false (fun s => .after 0xC (immOf op .uint) s))

/-! ### Live values and waiting on them -/

/-- LDANG (Table 08-7). -/
def execEuLdang (op : EurOp) (s : State) : Out :=
  .next (s.issue { dDesc with esc := true } op false false (fun s =>
    .done (s.setG op.thread op.d ⟨.angle, BitVec.ofNat 32 s.ang⟩)))

/-- LDTIME (Table 08-7). -/
def execEuLdtime (op : EurOp) (s : State) : Out :=
  .next (s.issue { dDesc with esc := true } op false false (fun s =>
    .done (s.setG op.thread op.d ⟨.time, BitVec.ofNat 32 (shortOf s.time.dt)⟩)))

/-- Whether a target of WAITUNTIL is reached (R527). -/
def State.targetReached (s : State) (w : TWord) : Bool :=
  let now : Word := BitVec.ofNat 32 (if w.tag = .angle then s.ang else shortOf s.time.dt)
  !(now - w.val).msb

/-- WAITUNTIL (R527). -/
def execEuWaituntil (op : EurOp) (s : State) : Out :=
  .next (s.issue dDesc op false false (fun s =>
    let w := s.greg op.thread op.d
    s.withSrc op w false (fun t => t == .angle || t == .time) (
      .done (if s.targetReached w then s else s.setThread op.thread { s.thread op.thread with run := .waitUntil w }))))

/-- WAITUNTIL_REACHED (R527): issue resumes. -/
def execWaituntilReached (i : Fin 35) (s : State) : Out :=
  let t := s.thread i
  .next (match t.run with
    | .waitUntil w => if s.targetReached w then s.setThread i { t with run := .running } else s
    | _ => s)

/-! ### Special registers (R535) -/

/-- Whether thread `i` has special register `n` (Table 08-11). -/
def hasSpecial (i n : Nat) : Bool := decide (n < 12) && (decide (n ≠ 8 ∧ n ≠ 9) || profileOf i != .stream)

/-- Special register `n` of thread `i` as MFSR reads it. -/
def State.special (s : State) (i n : Nat) : TWord :=
  let t := s.thread i
  let w (k : Nat) : Word := BitVec.ofNat 32 k
  match n with
  | 0 => ⟨.bits, w t.fl⟩
  | 1 => ⟨.code, t.tpc⟩
  | 2 => ⟨.uint, w t.tcause⟩
  | 3 => ⟨.bits, t.tval⟩
  | 4 => ⟨.uint, w t.ttag⟩
  | 5 => ⟨.bits, w t.tfl⟩
  | 6 => ⟨.code, t.vbase⟩
  | 7 => ⟨.uint, w (256 * procOf i + threadNo i)⟩
  | 8 => ⟨.bits, t.acc.setWidth 32⟩
  | 9 => ⟨.bits, (t.acc >>> 32).setWidth 32⟩
  | 10 => ⟨.uint, w (s.cycle - s.pow.w8Cycle)⟩
  | _ => ⟨.bits, w (b2n t.tactive)⟩

/-- MFSR (R535). -/
def execEuMfsr (op : EurOp) (s : State) : Out :=
  let n := (immOf op .uint).val.toNat
  .next (s.issue { form := .s, modes := [.i8] } op (!hasSpecial op.thread n) false (fun s =>
    .done (s.setG op.thread op.d (s.special op.thread n))))

/-- The tag that MTSR takes for a writable special register; none where it is RO. -/
def specialTag (n : Nat) : Option Tag :=
  match n with
  | 0 | 5 | 8 | 9 => some .bits
  | 1 | 6 => some .code
  | _ => none

/-- Write special register `n` of a thread. -/
def Thread.setSpecial (t : Thread) (n : Nat) (v : Word) : Thread :=
  match n with
  | 0 => t.setFl v.toNat
  | 1 => { t with tpc := v }
  | 5 => { t with tfl := v.toNat % 32 }
  | 6 => { t with vbase := v }
  | 8 => { t with acc := (t.acc >>> 32).setWidth 32 ++ v }
  | _ => { t with acc := v ++ t.acc.setWidth 32 }

/-- MTSR (R535): a register marked RO is an illegal opcode; VBASE is aligned to 256 bytes. -/
def execEuMtsr (op : EurOp) (s : State) : Out :=
  let n := (immOf op .uint).val.toNat
  .next (s.issue { form := .s, modes := [.i8] } op (!hasSpecial op.thread n) (specialTag n).isNone (fun s =>
    let w := s.greg op.thread op.d
    s.withSrc op w false (fun t => some t == specialTag n) (
      if n = 6 ∧ w.val.toNat % 256 ≠ 0 then .trap 8 (addrWord w.val.toNat) s
      else .done (s.setThread op.thread ((s.thread op.thread).setSpecial n w.val)))))

/-! ### Expert registers (R525) -/

/-- Who thread `i` is to a register; none for a Shuttle that no image holds. -/
def State.writerOf (s : State) (i : Nat) : Option Writer :=
  if i < 2 then some .weaver
  else if i < 34 then (s.shuttleHolder ((i - 2) / 4)).map (fun k => .image (Fin.ofNat 4 k))
  else some .pcp

/-- Whether an address lies in the reach of thread `i` (Table 08-2). -/
def State.inReach (s : State) (i a : Nat) : Bool :=
  if i < 2 then true
  else if a < 0x40000000 ∨ 0x40110000 ≤ a then false
  else
    let n := (a - 0x40000000) / 0x10000
    if i < 34 then ((s.shuttleHolder ((i - 2) / 4)).map (fun k => bitOf (s.decl k).ioReach n)).getD false
    else [1, 2, 6, 7, 9].contains n

/-- Whether the code of a register access is a failure that raises BUS_ERROR (R34, R36, R64, R525). -/
def busFails (code : Nat) : Bool := code == 0x14 || code == 0x16 || code == 0x17

/-- The address of IOLD and IOST: Gb or an I32 immediate, UINT. -/
def State.withIo (s : State) (op : EurOp) (k : Nat → Writer → EurRes) : EurRes :=
  let i := op.thread.val
  let w := if op.mode = .reg then s.greg i (bReg op) else immOf op .uint
  s.withSrc op w false (fun t => t == .uint) (
    match s.writerOf i with
    | some x => if s.inReach i w.val.toNat then k w.val.toNat x else .trap 9 (addrWord w.val.toNat) s
    | none => .trap 9 (addrWord w.val.toNat) s)

/-- IOLD and IOST. -/
def ioDesc : EurDesc := { form := .s, modes := [.reg, .i32] }

/-- The tag of an Expert register in a G register: BITS (Table 08-7), and ANGLE for TREADLE.ANG (R163). -/
def ioTag (a : Nat) : Tag := if a = 0x4001000C then .angle else .bits

/-- IOLD (Table 08-7, R163, R525). -/
def execEuIold (op : EurOp) (s : State) : Out :=
  .next (s.issue ioDesc op false false (fun s => s.withIo op (fun a _ =>
    let r := s.expertRead a (srcOf op.thread) op.crc
    if busFails r.1 then .trap 9 (addrWord a) r.2.2
    else .done (r.2.2.setG op.thread op.d ⟨ioTag a, BitVec.ofNat 32 r.2.1⟩))))

/-- IOST (Table 08-7, R525): POISON and NIL_USE of both operands come before TAG_MISMATCH (R529). -/
def execEuIost (op : EurOp) (s : State) : Out :=
  .next (s.issue ioDesc op false false (fun s =>
    let d := s.greg op.thread op.d
    let b := if op.mode = .reg then s.greg op.thread (bReg op) else immOf op .uint
    s.withSrc op d false (fun _ => true) (s.withSrc op b false (fun _ => true)
      (s.withSrc op d false (fun t => t == .bits || t == .uint || t == .int) (s.withIo op (fun a w =>
        let r := s.expertWrite a d.val.toNat w (srcOf op.thread) op.crc
        if busFails r.1 then .trap 9 (addrWord a) r.2 else .done r.2))))))

end Sys2Proof.Machine
end

