-- ==== Sys2Proof/Machine/LargeSend.lean ====
section
/-! DEFINITION. LARGE_SEND: the template, its segments and the steps of the ticket (R744 to R748). -/
namespace Sys2Proof.Machine

/-- The parameters of a LARGE_SEND ticket: the six members of 0x6080. -/
def largeParams (handle kind hdr payload mss txctl : Nat) : List Nat :=
  evBytes 4 handle ++ [kind, hdr] ++ evBytes 2 payload ++ evBytes 2 mss ++ evBytes 4 txctl

/-- A little-endian number of `k` parameter bytes from `o` on. -/
def paramAt (p : List Nat) (o k : Nat) : Nat := leValue (((p.drop o).take k).map (BitVec.ofNat 8))

/-- The queue set of a LARGE_SEND: N2 for the host, else the N1 set that holds the buffer. -/
def State.largeSet (s : State) (client handle : Nat) : Nat :=
  if client = 1 then 5
  else ((List.range 4).find? (fun q => (s.heldFrame q (BitVec.ofNat 32 handle)).isSome)).getD 0

/-- Whether a template parses to exactly `hdr` bytes of a kind (R745). -/
def templateOk (kind hdr : Nat) (b : List Byte) : Bool :=
  let h := parseHdr b
  let ihl := beAt b h.off 1 % 16 * 4
  let doff (o : Nat) : Nat := beAt b (o + 12) 1 / 16 * 4
  if kind = 2 then
    h.etype == 0x86DD && beAt b h.off 1 / 16 == 6 && beAt b (h.off + 6) 1 == 6 && hdr == h.off + 40 + doff (h.off + 40)
  else
    h.etype == 0x0800 && beAt b h.off 1 / 16 == 4 && decide (20 ≤ ihl) &&
      (if kind = 1 then beAt b (h.off + 9) 1 == 6 && hdr == h.off + ihl + doff (h.off + ihl)
       else beAt b (h.off + 9) 1 == 17 && hdr == h.off + ihl + 8)

/-- Segment `i` of `n` as R746 forms it, with a newly computed FCS; `t` is the template and `d` its payload bytes. -/
def segmentBytes (kind mss n i : Nat) (t d : List Byte) : List Byte :=
  let h := parseHdr t
  let l4 := t.length - (if kind = 3 then 8 else beAt t ((((l4Of t h).map (·.2)).getD 0) + 12) 1 / 16 * 4)
  let ipLen := t.length - h.off + d.length
  let b0 := if kind = 2 then putAt t (h.off + 4) (beBytes 2 (ipLen - 40))
    else putAt (putAt t (h.off + 2) (beBytes 2 ipLen)) (h.off + 4) (beBytes 2 ((beAt t (h.off + 4) 2 + i) % 65536))
  let b1 := if kind = 3 then putAt b0 (l4 + 4) (beBytes 2 (8 + d.length))
    else
      let f := beAt t (l4 + 13) 1
      let f1 := if i + 1 = n then f else f - (f &&& 0x09)
      let f2 := if i = 0 then f1 else f1 - (f1 &&& 0x80)
      putAt (putAt b0 (l4 + 4) (beBytes 4 ((beAt t (l4 + 4) 4 + i * mss) % 2 ^ 32))) (l4 + 13) (beBytes 1 f2)
  let b2 := insertCksums (b1 ++ d)
  withFcs (b2 ++ List.replicate (60 - b2.length) 0)

/-- Write the segments from number `i` on into cells; answers the FIRST of each. -/
def State.buildSegments (s : State) (slot q kind mss n : Nat) (t d : List Byte) : Nat → Nat → List Nat × State
  | 0, _ => ([], s)
  | k + 1, i =>
    let b := segmentBytes kind mss n i t ((d.drop (i * mss)).take mss)
    let r := State.pickCells (cellsFor b.length) s s.freeCells
    let f : LFrame := { cells := r.1, len := b.length, port := setPort q, set := q, holders := [q], large := some slot }
    let s1 := (r.2.setFrame f.first (some f)).putCells r.1 b
    let r2 := State.buildSegments s1 slot q kind mss n t d k (i + 1)
    (f.first :: r2.1, r2.2)

/-- BUILD (step 1, Table 12-8). -/
def State.largeBuild (s : State) (i : Nat) : State :=
  let t := s.ticket i
  let p := t.params
  let h := paramAt p 0 4
  let kind := paramAt p 4 1
  let hdr := paramAt p 5 1
  let payload := paramAt p 6 2
  let mss := paramAt p 8 2
  let q := s.largeSet t.client h
  match s.heldFrame q (BitVec.ofNat 32 h) with
  | none => s.failTicket i 0x0F
  | some f =>
    let b := s.frameBytes { f with len := hdr + payload }
    let tmpl := b.take hdr
    if b.length < hdr + payload ∨ s.framePoisoned f ∨ !templateOk kind hdr tmpl then s.failTicket i 0x0F
    else
      let n := (payload + mss - 1) / max 1 mss
      let size (j : Nat) : Nat := max 64 (hdr + min mss (payload - j * mss) + 4)
      if 16384 < n then s.failTicket i 0x10
      else
        let cells := ((List.range n).map (fun j => cellsFor (size j))).sum
        if !s.setMayTake q cells || decide (s.freeCells.length < cells) then s.failTicket i 0x10
        else
          let r := s.buildSegments i q kind mss n tmpl (b.drop hdr) n 0
          let s1 : State := { r.2 with loom := { r.2.loom with large := r.2.loom.large.set (0, 0) i (0, 0) } }
          (s1.setTicket i { s1.ticket i with data := r.1.map (fun x => .scalar .uint x) }).stepDone i .uint n

/-- QUEUE (step 2): every segment is handed to egress, in order. -/
def State.largeQueue (s : State) (i : Nat) : State :=
  let t := s.ticket i
  let ctl := paramAt t.params 10 4
  let get (f : Field) : Nat := fieldOf ctl f.lo f.w
  let s1 := s.each (t.data.map (fun v => match v with | .scalar _ x => x | .bytes _ => 0)) (fun s first =>
    match s.frame first with
    | some f => s.sendFrame f.set first f (get Reg.LOOM_NQ_TXCTL_PORTS) (get Reg.LOOM_NQ_TXCTL_TC)
    | none => s)
  s1.stepDone i .uint 0

/-- SENT (step 3, R748): every segment has left or been dropped; the result word counts both. -/
def State.largeSent (s : State) (i : Nat) : State :=
  if s.frameList.any (fun f => f.large == some i && f.copies != 0) then s
  else
    let c := s.loom.large.get (0, 0) i
    s.stepDone i .uint (c.1 % 65536 + 65536 * (c.2 % 65536))

/-- The next step of the LARGE_SEND ticket in slot `i`. -/
def State.stepLarge (s : State) (i : Nat) : State :=
  if (s.ticket i).step = 0 then s.largeBuild i else if (s.ticket i).step = 1 then s.largeQueue i else s.largeSent i

/-- The segments of a LARGE_SEND ticket that ended before QUEUE are freed. -/
def State.largeSettle (s : State) (i : Nat) : State :=
  let t := s.ticket i
  if t.type ≠ 0x0A ∨ !t.state.isFinal ∨ 2 ≤ t.step then s
  else s.each (s.frameList.filter (fun f => f.large == some i)) (fun s f =>
    (s.setFrame f.first (some { f with holders := [] })).release f.first)

end Sys2Proof.Machine
end

