-- ==== Sys2Proof/Machine/TicketAccess.lean ====
section
/-! DEFINITION. Access to tickets by handle: result reads, retire and abort (R348 to R355, R1115). -/
namespace Sys2Proof.Machine

/-- The slot that a handle names for context `c`, none where it is foreign (R352); an orphan is foreign to all but C0 (R309,
R359). -/
def State.slotOf (s : State) (c h : Nat) : Option Nat :=
  let i := h % 128
  let t := s.ticket i
  if t.state = .free ∨ s.handleOf i ≠ h then none
  else if c = 0 ∨ (t.client = c ∧ !t.orphan) then some i
  else none

/-- The status of a ticket (Table 06-4). -/
def Ticket.status (t : Ticket) : Nat :=
  match t.state with
  | .free => 0x41
  | .queued | .running => 0x40
  | .done => 0
  | .failed => t.code
  | .aborted => 0x43
  | .indoubt => 0x42

/-- A result read (R348, R350): status with READ_AGAIN, tag and value of the result word, and the state. -/
def State.resultRead (s : State) (c h : Nat) : (Nat × Tag × Nat) × State :=
  match s.slotOf c h with
  | none => ((0x41, .nil, 0), s)
  | some i =>
    let t := s.ticket i
    if !t.state.isFinal then ((t.status, .nil, 0), s)
    else ((t.status + (if t.readOnce then 0x80 else 0), t.resTag, t.resVal), s.setTicket i { t with readOnce := true })

/-- A consuming read (R351). -/
def State.resultConsume (s : State) (c h : Nat) : (Nat × Tag × Nat) × State :=
  let r := s.resultRead c h
  match s.slotOf c h with
  | some i => if (s.ticket i).state.isFinal then (r.1, r.2.retireTicket i) else r
  | none => r

/-- Retire the ticket in slot `i` where it is final (R354): status and state. -/
def State.retireAt (s : State) (i : Nat) : Nat × State :=
  if (s.ticket i).state.isFinal then (0, s.retireTicket i) else (0x40, s)

/-- A retire by handle (R354). -/
def State.retire (s : State) (c h : Nat) : Nat × State :=
  match s.slotOf c h with
  | none => (0x41, s)
  | some i => s.retireAt i

/-- A retire through 0x2401 (R354, R359): a client with read-write in area 0x2 also retires an orphan. -/
def State.retireBy (s : State) (c h : Nat) : Nat × State :=
  let i := h % 128
  if (s.ticket i).orphan ∧ (s.ticket i).state ≠ .free ∧ s.handleOf i = h then s.retireAt i else s.retire c h

/-- What the end of a ticket releases beside its slot: a load's reservation and staging cells (R579, R581), segments not yet queued. -/
def State.settle (s : State) (i : Nat) : State := (s.imageSettle i).largeSettle i

/-- Whether no record of a queued ticket is staged (R1115). -/
def State.unstaged (s : State) (i : Nat) : Bool :=
  let t := s.ticket i
  !t.ledgered || (!t.firstCommitted && (!s.journalOn || s.jr.waiting.contains (firstRecord (s.handleOf i) t)))

/-- An abort of a QUEUED ticket (Table 06-3, R1115): at once where no record of it is staged; else when its first record
commits. -/
def State.abortQueued (s : State) (i : Nat) : Nat × State :=
  let t := s.ticket i
  if s.unstaged i then
    let s1 : State := { s with jr := { s.jr with waiting := s.jr.waiting.filter (· != firstRecord (s.handleOf i) t) } }
    (0x43, ((s1.setTicket i { t with ledgered := false }).finish i .aborted 0 .uint 0).settle i)
  else if !t.firstCommitted then (0x40, s.setTicket i { t with abortPending := true })
  else if t.type = 1 then
    (if t.steps ≤ 1 then (0x40, s)
     else (0x43, (s.setTicket i { t with step := 1 }).finish i .aborted 0 .uint 1))
  else (0x43, (s.finish i .aborted 0 .uint 0).settle i)

/-- An abort by handle (R355). -/
def State.abortBy (s : State) (c h : Nat) : Nat × State :=
  match s.slotOf c h with
  | none => (0x41, s)
  | some i =>
    let t := s.ticket i
    if t.state = .queued then s.abortQueued i
    else if t.state = .running then (0x40, s.setTicket i { t with abortPending := true })
    else (t.status, s)

end Sys2Proof.Machine
end

