-- ==== Sys2Proof/Machine/OdApply.lean ====
section
/-! DEFINITION. What a written value of an object-dictionary entry does when it takes effect: the entry's own value, the register
field it stands in, and the action of the owning chapter. -/
namespace Sys2Proof.Machine

/-- The number of a value. -/
def OdVal.num : OdVal → Nat
  | .scalar _ v => v
  | .bytes b => leValue b

/-- The bytes of a BYTES value. -/
def OdVal.data : OdVal → List Byte
  | .scalar _ _ => []
  | .bytes b => b

/-- Clear, of a list of sticky bits side by side from bit 0, those that a written mask names and that a write of 1 clears. -/
def State.clearMask (s : State) (l : List Field) (mask : Nat) : State :=
  s.each ((List.range l.length).zip l) (fun s e => s.wrIf (bitOf mask e.1 && e.2.acc == .w1c) e.2 0)

/-- Apply `f` to each unit that a mask of `n` bits names. -/
def State.eachBit (s : State) (n mask : Nat) (f : State → Nat → State) : State := s.each ((List.range n).filter (bitOf mask)) f

/-- A register with one field replaced, as a write of the whole register gives it (W1C bits 0). -/
def State.withField (s : State) (l : List Field) (lo v : Nat) : Nat :=
  joinFields (l.map (fun f => (f.lo, if f.lo = lo then v % 2 ^ f.w else s.rd f)))

/-! ### Areas 0x2 and 0x3 -/

/-- The quota that context `k` can take beside the other reserved quotas (R305): at most what the write asks for. -/
def State.quotaRoom (s : State) (k v : Nat) : Nat :=
  let x := s.ctx k
  if x.state = .opened ∨ x.state = .draining then min v (128 + x.quota - s.reserved) else v

/-- A written member of context `k` (Table 05-10, R305, R308). -/
def State.ctxApply (s : State) (k sub v : Nat) : State :=
  let x := s.ctx k
  s.setCtx k (match sub with
    | 2 => { x with profile := v }
    | 3 => { x with quota := s.quotaRoom k v }
    | 4 => { x with rate := v, tokens := x.burst, stamp := s.cycle }
    | 5 => { x with burst := v, tokens := v, stamp := s.cycle }
    | _ => x)

/-- Actions of area 0x2; the value itself is stored already. -/
def State.act2 (s : State) (c i sub : Nat) (v : OdVal) : State :=
  let n := v.num
  if i = 0x2020 then (if sub = 5 then (s.sdCommand (n == 2)).2 else s)
  else if i = 0x2100 then
    (if sub = 4 then s.clearMask [Reg.SYS_BGSTAT_SCRUB_FORCED, Reg.SYS_BGSTAT_CARD_FORCED, Reg.SYS_BGSTAT_FULL_FORCED,
      Reg.SYS_BGSTAT_CAL_FORCED, Reg.SYS_BGSTAT_BOB_FORCED, Reg.SYS_BGSTAT_FAN_FORCED] n else s)
  else if within 0x2E00 0x2EFF i then s.ctxApply (i - 0x2E00) sub n
  else if i = 0x2401 then (s.retireBy c n).2
  else if i = 0x2402 then (s.abortBy c n).2
  else if i = 0x2F00 then (s.unlock c v.data).2
  else if i = 0x2F04 then (if n = 1 then s.relockCtx c else s)
  else s

/-- Actions of area 0x3. -/
def State.act3 (s : State) (i sub n : Nat) : State :=
  if i = 0x3000 then (if sub = 1 then s.wr Reg.TREADLE_CTRL_NOMINAL (b2n (n == 60)) else s)
  else if i = 0x3002 then (if n = 1 then s.stepCommand.getD s else s)
  else if within 0x3010 0x302F i then
    let k := i - 0x3010
    if sub = 2 then s.aevWrite k 1 n
    else if sub = 3 then s.aevWrite k 2 n
    else
      let l := [Reg.TREADLE_AEV_CFG_IRQ.at k, Reg.TREADLE_AEV_CFG_TIDX.at k, Reg.TREADLE_AEV_CFG_TCODE.at k,
        Reg.TREADLE_AEV_CFG_PH.at k, Reg.TREADLE_AEV_CFG_MODE.at k]
      s.aevWrite k 0 (s.withField l ([0, 0, 0, 2, 4, 8, 13].getD (if sub = 1 then 0 else sub - 1) 0) n)
  else if i = 0x3100 then
    let s1 := if sub = 4 then s.wr Reg.TIME_CTRL_SERVO_TO (n / 10) else s
    if sub = 1 then s1.reSource else s1
  else if i = 0x3102 then (if n = 1 then s.dtCommand.getD s else s)
  else s

/-! ### Areas 0x4 and 0x5 -/

/-- The DAC code of a voltage of `uv` microvolts on ISENn (R856): 1,024 codes across the channel's range. -/
def State.cmpDac (s : State) (n : Nat) (uv : Int) : Nat :=
  let diff := s.bit Reg.ADC_CHCFG_ISEN_DIFF n
  let lo : Int := if diff then -250000 else 0
  let range : Int := if diff then 500000 else 1200000
  (clampInt 0 1023 ((uv - lo) * 1024 / range)).toNat

/-- The thresholds of phase `n` from OC_CBC_MA and ZCD_MV (R856, R880); an OC_CBC_MA of 0 leaves the comparator at full scale. -/
def State.thresholds (s : State) (n : Nat) : State :=
  let ma := s.odN (0x4040 + n) 3 0
  let oc := if ma = 0 then 0x3FF else s.cmpDac n ((ma * 1000 * 65536 / max 1 (s.iScale n) : Nat) : Int)
  (s.wr (Reg.CMP_OC_DAC.at n) oc).wr (Reg.CMP_ZCD_DAC.at n) (s.cmpDac n (signed 32 (s.odN (0x4040 + n) 4 0) * 1000))

/-- Actions of CONFIG_CGg (R837, R844, Table 14-4): nanoseconds are 48 units of 1/16 SCLK cycle. -/
def State.groupApply (s : State) (g sub n : Nat) : State :=
  if sub = 3 then s.wr (Reg.PWM_G_PERIOD_PERIOD.at g) ((48000000000 + n / 2) / max 1 n)
  else if sub = 4 then s.wr (Reg.PWM_G_DEAD_DT_HL.at g) (48 * n)
  else if sub = 5 then s.wr (Reg.PWM_G_DEAD_DT_LH.at g) (48 * n)
  else if sub = 6 then s.wr (Reg.PWM_G_MINON_MIN_ON.at g) (48 * n)
  else if sub = 12 then
    if n = 0 then s.wr (Reg.PWM_G_CFG_ROT_EN.at g) 0
    else (s.wr (Reg.PWM_G_CFG_ROT_EN.at g) 1).wr (Reg.PWM_G_CFG_ROT_N.at g) (n - 1)
  else s

/-- A bit of a mask field that an entry of one unit gives. -/
def State.unitBit (s : State) (f : Field) (k n : Nat) : State := s.wrBit f k (n == 1)

/-- Actions of area 0x4. -/
def State.act4 (s : State) (i sub : Nat) (v : OdVal) : State :=
  let n := v.num
  if i = 0x4000 then
    (if sub = 1 then (if n = 1 then s.each (List.range 4) State.grTryStart else s)
     else if sub = 6 then s.eachBit 4 n State.grClear
     else if sub = 7 then s.eachBit 4 n State.grPark
     else if sub = 8 then s.eachBit 4 n State.grRamp else s)
  else if within 0x4010 0x4013 i then s.groupApply (i - 0x4010) sub n
  else if within 0x4018 0x401B i then
    (if sub = 1 then (if n = 1 then s.grTryStart (i - 0x4018) else s.grRamp (i - 0x4018)) else s)
  else if within 0x4028 0x402B i then s.setGr (i - 0x4028) { s.gr (i - 0x4028) with standby := some v.data }
  else if within 0x4040 0x4047 i then
    let k := i - 0x4040
    let s1 := if sub = 2 then s.unitBit Reg.ADC_CHCFG_ISEN_DIFF k n else if sub = 6 then s.unitBit Reg.PWM_GDCFG_POL k n else s
    if sub ≤ 4 then s1.thresholds k else s1
  else if i = 0x4050 then
    let t := sub - 1
    let put (s : State) (f : Field) (w x : Nat) : State :=
      s.wr f (s.rd f - fieldOf (s.rd f) (w * t) w * 2 ^ (w * t) + x * 2 ^ (w * t))
    put (put s Reg.PWM_TRIPSEL_SEL 4 (n % 16)) Reg.PWM_TRIPACT_ACT 2 (n / 16 % 4)
  else if i = 0x4051 then s.wr Reg.PWM_GDCFG_FILT (n / 10)
  else if i = 0x4058 then
    (if sub = 2 then (s.wr Reg.ADC_CHCFG_ISEN_MED n).wr Reg.ADC_CHCFG_VSEN_MED (n / 256) else s)
  else if within 0x4060 0x4063 i then
    let k := i - 0x4060 + 4
    (if sub = 3 then (s.wr (Reg.ADC_SEQ_CFG_PHASE.at k) n).wr (Reg.ADC_SEQ_CFG_POS.at k) (n / 256)
     else if sub = 7 then s.wr (Reg.ADC_SEQ_CFG_COUNT.at k) (n - 1) else s)
  else s

/-- Actions of area 0x5. -/
def State.act5 (s : State) (i sub n : Nat) : State :=
  if i = 0x5000 then (if sub = 5 ∧ n = 1 then s.guardAck else s)
  else if i = 0x5008 then (if sub = 1 then s.wr Reg.FAN_CFG_POLE_PAIRS (n - 1) else s).fanDemandChange
  else if i = 0x5009 then s.fanDemandChange
  else if i = 0x500A then (if sub = 7 ∧ n = 1 then s.fanClear else s)
  else s

/-! ### Areas 0x6 and 0x7 -/

/-- A static or group entry of 12 bytes: MAC in transmission order, VID, ports; none where it is empty. -/
def tableEntryOf (b : List Byte) : Option FdbEntry :=
  let mac := beAt b 0 6
  let ports := leValue ((b.drop 8).take 2) % 512
  if mac = 0 ∧ ports = 0 then none
  else some { mac := mac, vid := leValue ((b.drop 6).take 2) % 4096, ports := ports, isStatic := true }

/-- 0x6020 and 0x6022: the old entry of the element leaves its table, the new one enters. -/
def State.tableApply (s : State) (group : Bool) (old new : List Byte) : State :=
  let s1 := match tableEntryOf old with
    | some e => s.fdbDrop group e.mac e.vid
    | none => s
  match tableEntryOf new with
  | some e => s1.fdbPut group { e with stamp := s.cycle }
  | none => s1

/-- 0x6021: VID, MEMBER and UNTAG of 2 bytes each; VID 0 names no VLAN. -/
def State.vlanApply (s : State) (old new : List Byte) : State :=
  let vid (b : List Byte) : Nat := leValue (b.take 2) % 4096
  let put (s : State) (v x : Nat) : State := { s with loom := { s.loom with vlans := s.loom.vlans.set 0 v x } }
  let s1 := if vid old = 0 then s else put s (vid old) 0
  if vid new = 0 then s1
  else put s1 (vid new) (leValue ((new.drop 2).take 2) % 512 + 65536 * (leValue ((new.drop 4).take 2) % 512))

/-- The 32-bit list entries of a gate list from byte `o` on. -/
def gateWords (b : List Byte) (o n : Nat) : List Nat := (List.range n).map (fun k => leValue ((b.drop (o + 4 * k)).take 4))

/-- TGATE (R686, R690): the administrative list is loaded, and swapped in where EN is not 0. -/
def State.tgateApply (s : State) (p : Nat) (b : List Byte) : State :=
  let at' (o k : Nat) : Nat := leValue ((b.drop o).take k)
  let s1 := ((s.wr (Reg.LOOM_TG_BASESECLO_V.at p) (at' 4 4)).wr (Reg.LOOM_TG_BASESECHI_V.at p) (at' 8 2)).wr
    (Reg.LOOM_TG_BASENS_V.at p) (at' 12 4)
  let s2 := (s1.wr (Reg.LOOM_TG_CYCLE_CYCLE.at p) (at' 16 4)).fieldStore (Reg.LOOM_TG_LEN_LEN.at p) (at' 20 4 % 512)
  let s3 := s2.each ((List.range 256).zip (gateWords b 24 256)) (fun s e =>
    (s.wr (Reg.LOOM_TG_ENT_GATES.at2 p e.1) (e.2 / 2 ^ 24)).wr (Reg.LOOM_TG_ENT_INTERVAL.at2 p e.1) e.2)
  if at' 0 4 = 0 then s3.wr (Reg.LOOM_TG_CTRL_EN.at p) 0
  else
    let s4 := s3.wr (Reg.LOOM_TG_CTRL_EN.at p) 1
    stateOf s4 (execTgSwap (Fin.ofNat 6 p) s4)

/-- AGATE (R687, R690). -/
def State.agateApply (s : State) (p : Nat) (b : List Byte) : State :=
  let at' (o : Nat) : Nat := leValue ((b.drop o).take 2)
  let s1 := (s.wr (Reg.LOOM_AG_CTRL_ASRC.at p) (at' 2)).wr (Reg.LOOM_AG_CTRL_ABASE.at p) (at' 4)
  let s2 := s1.fieldStore (Reg.LOOM_AG_LEN_LEN.at p) (at' 6 % 128)
  let s3 := s2.each ((List.range 64).zip (gateWords b 8 64)) (fun s e =>
    (s.wr (Reg.LOOM_AG_ENT_GATES.at2 p e.1) (e.2 / 2 ^ 24)).wr (Reg.LOOM_AG_ENT_INTERVAL.at2 p e.1) e.2)
  if at' 0 = 0 then s3.wr (Reg.LOOM_AG_CTRL_EN.at p) 0
  else
    let s4 := s3.wr (Reg.LOOM_AG_CTRL_EN.at p) 1
    stateOf s4 (execAgSwap (Fin.ofNat 6 p) s4)

/-- The weights of port `p`, 4 bits for each queue; a weight of 0 leaves its field (R18). -/
def State.weightsApply (s : State) (p n : Nat) : State :=
  s.each ((List.range 8).zip [Reg.LOOM_PORT_WEIGHT_W0, Reg.LOOM_PORT_WEIGHT_W1, Reg.LOOM_PORT_WEIGHT_W2, Reg.LOOM_PORT_WEIGHT_W3,
    Reg.LOOM_PORT_WEIGHT_W4, Reg.LOOM_PORT_WEIGHT_W5, Reg.LOOM_PORT_WEIGHT_W6, Reg.LOOM_PORT_WEIGHT_W7])
    (fun s e => s.fieldStore (e.2.at p) (fieldOf n (4 * e.1) 4))

/-- Actions of area 0x6; `old` is the bytes of the entry before the write. -/
def State.act6 (s : State) (i sub : Nat) (old : List Byte) (v : OdVal) : State :=
  let n := v.num
  let b := v.data
  if within 0x6010 0x6015 i then (if sub = 8 then s.weightsApply (i - 0x6010) n else s)
  else if i = 0x6020 then s.tableApply false old b
  else if i = 0x6021 then s.vlanApply old b
  else if i = 0x6022 then s.tableApply true old b
  else if within 0x6040 0x6045 i then s.tgateApply (i - 0x6040) b
  else if within 0x6048 0x604D i then s.agateApply (i - 0x6048) b
  else if i = 0x6050 then (if sub = 2 then s.wr Reg.BOBBIN_SIZE_SIZE (n / 64 * 256) else s)
  else if within 0x6051 0x6060 i then
    let k := i - 0x6051
    (if sub = 4 then (s.wr (Reg.BOBBIN_F_CFG_ETYPE_EN.at k) (b2n (n != 0))).wr (Reg.BOBBIN_F_MATCH_ETYPE.at k) n
     else if sub = 5 then (s.wr (Reg.BOBBIN_F_CFG_VID_EN.at k) (b2n (n != 0))).wr (Reg.BOBBIN_F_MATCH_VID.at k) n
     else s)
  else if within 0x6070 0x6075 i then
    let f := Reg.MAC_PSTK_ACC_PSTK_ACC.at (i - 0x6070)
    (if sub = 9 then s.wr f (s.rd f - (s.rd f &&& n)) else s)
  else if i = 0x6078 then (if sub = 6 ∧ n = 1 then s.diagStart else s)
  else if i = 0x6100 ∨ i = 0x6101 then
    let k := i - 0x6100
    (if sub = 9 then s.clearMask (canSticky.map (·.at k)) n
     else if sub = 14 then
       (((s.wr (Reg.CAN_WCFG_IDE.at k) n).wr (Reg.CAN_WCFG_DLC_EN.at k) (n / 2)).wr (Reg.CAN_WCFG_DLC.at k) (n / 4)).copyWake k
     else if sub = 15 then
       ((s.wr (Reg.CAN_WDMASK0_V.at k) (leValue (b.take 4))).wr (Reg.CAN_WDMASK1_V.at k) (leValue (b.drop 4))).copyWake k
     else if within 11 13 sub then s.copyWake k
     else s)
  else s

/-! ### Areas 0x8 and 0x9 -/

/-- Actions of area 0x8. -/
def State.act8 (s : State) (i sub : Nat) (v : OdVal) : State :=
  let n := v.num
  if i = 0x8001 then s.rtcSetTo n
  else if i = 0x8002 then
    (if sub = 1 then (s.offsetWrite (signed 32 n)).getD s else if sub = 3 then (s.summer (n == 1)).1 else s)
  else if i = 0x8004 then (if sub = 1 then s.alarmLo n else s.alarmHi n)
  else if i = 0x8005 then s.periodWrite n
  else if i = 0x8006 then s.clearMask backupFlags n
  else s

/-- Actions of area 0x9. -/
def State.act9 (s : State) (i sub n : Nat) : State :=
  if i = 0x9000 then (if sub = 12 ∧ n = 1 then s.enumStart else s)
  else if i = 0x9003 then (if n = 1 then s.rosterReset else s)
  else if within 0x9008 0x900F i then (if sub = 1 then s.geEnable (i - 0x9008) (n == 1) else s)
  else if i = 0x9010 then (if sub = 5 ∧ n = 1 then s.handoverCmd else s)
  else s

/-- ADDRESS and AUTOINC of the expert window of context `c` (R317). -/
def State.windowApply (s : State) (c sub n : Nat) : State :=
  let x := s.ctx c
  s.setCtx c (if sub = 1 then { x with winAddr := n } else if sub = 3 then { x with winAuto := n == 1 } else x)

/-! ### A value takes effect -/

/-- Whether the value of a member is not stored by its home: its action stores it where it stands. -/
def actsOnly (i sub : Nat) : Bool :=
  (within 0x3010 0x302F i) || i == 0x8002 || i == 0x8004 || i == 0x8005 || (within 0x9008 0x900F i && sub == 1) ||
    (within 0x6070 0x6075 i && sub == 1) || (i == 0x6050 && sub == 1) ||
    (i == 0x6000 && sub == 1)

/-- Store a value where its member stands. -/
def State.homeStore (s : State) (i sub : Nat) (m : OdSpec) (v : OdVal) : State :=
  if actsOnly i sub then
    (if within 0x6070 0x6075 i then s.macMode (i - 0x6070) v.num else if i = 0x6050 then (s.bobbinEnable (v.num == 1)).2
     else if i = 0x6000 then s.wr Reg.LOOM_CTRL_EN (b2n (v.num == 1 && !s.netsOff)) else s)
  else
    match m.home with
    | .val =>
      if m.acc = .wo then s
      else
        let s1 := s.odPut i sub v
        { s1 with od := { s1.od with poisoned := s1.od.poisoned.filter (· != odKey i sub) } }
    | .fld f | .sfld f => s.wr f v.num
    | .calc => s

/-- A value rounded down to the granularity of its member (R288). -/
def OdSpec.rounded (m : OdSpec) : OdVal → OdVal
  | .scalar t n => if m.step ≤ 1 then .scalar t n else .scalar t (n / m.step * m.step)
  | v => v

/-- The value of an entry takes effect; `c` is the writing context, which only 0x2F04 regards. -/
def State.odApply (s : State) (c key : Nat) (v0 : OdVal) : State :=
  let i := key / 256
  let sub := key % 256
  match s.odSpec i sub with
  | none => s
  | some m =>
    let v := m.rounded v0
    let old := (s.odPeek c i sub m).data
    let s1 := s.homeStore i sub m v
    if i < 0x2000 then s1
    else if i < 0x3000 then s1.act2 c i sub v
    else if within 0x3120 0x3127 i then s1.tpoChanged (i - 0x3120)
    else if i < 0x4000 then s1.act3 i sub v.num
    else if i < 0x5000 then s1.act4 i sub v
    else if i < 0x6000 then s1.act5 i sub v.num
    else if i < 0x7000 then s1.act6 i sub old v
    else if i = 0x7002 ∨ i = 0x7003 then (if sub = 4 then s1.clearMask (uartSticky.map (·.at (i - 0x7002))) v.num else s1)
    else if i < 0x8000 then s1
    else if i < 0x9000 then s1.act8 i sub v
    else if i < 0xA000 then s1.act9 i sub v.num
    else if i = 0xF000 then s1.windowApply c sub v.num
    else s1

/-- Values take effect together, in member order (R295, R342). -/
def State.odApplyAll (s : State) (c : Nat) (l : List (Nat × OdVal)) : State := s.each l (fun s e => s.odApply c e.1 e.2)

end Sys2Proof.Machine
end

