-- ==== Sys2Proof/Machine/OdCheck.lean ====
section
/-! DEFINITION. The checks of Table 05-4: existence, rights, direction, type, limits and the state conditions of the owning
chapters. -/
namespace Sys2Proof.Machine

/-- Members with their values, keyed by ODREF value. -/
abbrev Items := List (Nat × OdVal)

/-- The number of a member as it stands after a write of `l`; signed numbers are two's complement. -/
def State.numAfter (s : State) (l : Items) (i sub : Nat) : Nat :=
  match l.lookup (odKey i sub), s.odSpec i sub with
  | some v, _ => v.num
  | none, some m => (s.odPeek 0 i sub m).num
  | none, none => 0

/-- Whether a ticketed or direct write names a member. -/
def named (l : Items) (i sub : Nat) : Bool := (l.lookup (odKey i sub)).isSome

/-! ### Entries that open a ticket of their own type (R1111) -/

/-- The ticket type of such an entry, and the sub-indices that are written together. -/
def ownTicket (i : Nat) : Option (Nat × List Nat) :=
  if i = 0x2011 then some (7, [1, 2])
  else if i = 0x2201 then some (9, [1, 2, 3, 4])
  else if i = 0x2301 then some (8, [1, 2, 3, 4])
  else if i = 0x2501 then some (5, [0])
  else if i = 0x2F03 then some (6, [0])
  else if i = 0x5010 then some (0x0C, [0])
  else if i = 0x6080 then some (0x0A, [1, 2, 3, 4, 5, 6])
  else if within 0x9101 0x91FF i then some (0x0B, [1, 2, 3, 4])
  else none

/-- The own ticket type of a write: every member belongs to one such entry, and all of its members are there. -/
def ownWrite (l : Items) : Option (Nat × Nat) :=
  match l with
  | [] => none
  | (k, _) :: _ =>
    match ownTicket (k / 256) with
    | none => none
    | some (t, subs) =>
      if l.length = subs.length ∧ subs.all (fun u => named l (k / 256) u) then some (t, k / 256) else none

/-- Whether a write joins such an entry with others, or leaves members out (R1111, R573, R1047). -/
def badlyJoined (l : Items) : Bool := l.any (fun e => (ownTicket (e.1 / 256)).isSome) && (ownWrite l).isNone

/-! ### Checks 3 to 9 -/

/-- Whether CONFIG_LOCK is true. -/
def State.configLock (s : State) : Bool := s.odN 0x2F02 0 0 == 1

/-- Checks 3 to 9 of Table 05-4 for one member: 0, or the code of the first that fails (R291, R311, R1050); a read of an entry that only
accepts DOMAIN transfers fails with TYPE_MISMATCH (R283). -/
def State.checkEntry (s : State) (c i sub : Nat) (write : Bool) : Nat :=
  let a := i / 4096
  let right := s.ctxRight c a
  if [0, 12, 13, 14].contains a then 1
  else if right = 0 ∧ i ≠ 0x2F00 ∧ i ≠ 0x2F01 ∧ i ≠ 0x2F04 then 3
  else if (s.odLast i).isNone then 1
  else
    match s.odSpec i sub with
    | none => 2
    | some m =>
      if m.expert ∧ right < 3 then 3
      else if m.expert ∧ !s.ctxUnlocked c then 4
      else if write ∧ m.acc = .ro then 5
      else if !write ∧ m.type = .domainOnly then 7
      else if !write ∧ m.acc = .wo then 6
      else if write ∧ right < 2 ∧ i ≠ 0x2F00 ∧ i ≠ 0x2F04 then 3
      else if write ∧ m.acc = .rwl ∧ s.configLock then 0x0A
      else 0

/-! ### Limits beyond a member's own interval (check 11) -/

/-- The largest TARGET_INDEX of a TARGET_CODE (Table 03-3). -/
def targetMax (tcode : Nat) : Nat := [31, 3, 7, 15, 5, 1, 7, 31].getD tcode 0

/-- The reserved quotas after a write (R305, R307). -/
def State.reservedAfter (s : State) (l : Items) : Nat :=
  ((List.range 256).map (fun c =>
    if (s.ctx c).state == .opened || (s.ctx c).state == .draining then
      (match l.lookup (odKey (0x2E00 + c) 3) with | some v => v.num | none => (s.ctx c).quota)
    else 0)).sum + s.orphans.length

/-- Whether PERIOD and WIDTH of a pulse output keep R253 after a write. -/
def State.widthOk (s : State) (l : Items) (i : Nat) : Bool :=
  let w := s.numAfter l i 7
  decide (20 ≤ w) && (s.numAfter l i 1 != 2 || decide (w + 20 ≤ s.numAfter l i 6))

/-- Rights of profile `8 + k` after a write stay under the fused profile of its CEILING (R299). -/
def State.profileOk (s : State) (l : Items) (i : Nat) : Bool := s.underCeiling (s.numAfter l i 2) (s.numAfter l i 1)

/-- Limits of areas 0x2 and 0x3. -/
def State.limits23 (s : State) (l : Items) (i sub n : Nat) : Bool :=
  if i = 0x2F03 then n != 0 && n &&& 0x8FFE == n
  else if within 0x2F18 0x2F1F i then s.profileOk l i
  else if within 0x2E00 0x2EFF i then sub != 3 || decide (s.reservedAfter l ≤ 128)
  else if i = 0x2201 then imageOpOk (s.numAfter l i 1) (s.numAfter l i 2) (s.numAfter l i 3) (s.numAfter l i 4)
  else if within 0x3010 0x302F i then
    (sub != 5 && sub != 6) || decide (s.numAfter l i 6 ≤ targetMax (s.numAfter l i 5))
  else if within 0x3120 0x3127 i then (sub != 1 && sub != 6 && sub != 7) || s.widthOk l i
  else if i = 0x3110 ∨ i = 0x3111 then sub != 3 || s.numAfter l 0x3110 3 != s.numAfter l 0x3111 3
  else true

/-- Whether group masks share no phase and an enabled group keeps one (R833). -/
def State.phasesOk (s : State) (l : Items) (g : Nat) : Bool :=
  let m := s.numAfter l (0x4010 + g) 1
  (List.range 4).all (fun h => h == g || (m &&& s.numAfter l (0x4010 + h) 1) % 256 == 0) &&
    (m % 256 != 0 || s.numAfter l (0x4018 + g) 1 != 1)

/-- Limits of areas 0x4 to 0x8. -/
def State.limits48 (s : State) (l : Items) (i sub : Nat) (v : OdVal) : Bool :=
  let after (u : Nat) : Int := signed 32 (s.numAfter l i u)
  if within 0x4010 0x4013 i then
    (if sub = 1 then s.phasesOk l (i - 0x4010)
     else (sub != 0x1A && sub != 0x1B) || decide (s.numAfter l i 0x1A < s.numAfter l i 0x1B))
  else if within 0x4028 0x402B i then
    (List.range 1024).all (fun k => decide (-65536 ≤ tableEntry v.data k) && decide (tableEntry v.data k ≤ 65536))
  else if i = 0x5008 then
    ((sub != 8 && sub != 9) || decide (after 8 < after 9)) && ((sub != 5 && sub != 6) || decide (after 5 < after 6))
  else if i = 0x5012 then (sub != 3 && sub != 4) || decide (after 3 < after 4)
  else if i = 0x6080 then (sub != 3 && sub != 5) || decide (s.numAfter l i 5 + s.numAfter l i 3 ≤ 9212)
  else if i = 0x8005 then v.num == 0 || decide (32 ≤ v.num)
  else true

/-- Check 11 beyond OdSpec.inLimits. -/
def State.limitsOk (s : State) (l : Items) (i sub : Nat) (v : OdVal) : Bool :=
  if i < 0x4000 then s.limits23 l i sub v.num else s.limits48 l i sub v

/-! ### State conditions (check 12) -/

/-- The bits of a fuse word that the present lifecycle still allows (Table 02-6); bits already set are allowed. -/
def State.fuseAllows (s : State) (word mask : Nat) : Bool :=
  let set := popCount 8 (s.fuseField 128 8)
  (List.range 32).all (fun k =>
    let b := 32 * word + k
    !bitOf mask k || bitOf s.fuse b || decide (set < 3) || (set == 3 && (within 976 1423 b || b == 131)))

/-- Whether the loop rates keep R861 after a write: at most 500 kHz for group `g`, and at most 1 MHz over the enabled groups. -/
def State.loopRateOk (s : State) (l : Items) (g : Nat) : Bool :=
  let f (h : Nat) : Nat := s.numAfter l (0x4010 + h) 3
  let d (h : Nat) : Nat := max 1 (s.numAfter l (0x4010 + h) 0x10)
  let all := d 0 * d 1 * d 2 * d 3
  decide (f g ≤ 500000 * d g) &&
    decide (((List.range 4).map (fun h => if s.numAfter l (0x4018 + h) 1 = 1 then f h * (all / d h) else 0)).sum ≤ 1000000 * all)

/-- Whether PL forbids enabling a group (R446, R452, R864). -/
def State.plHeld (s : State) : Bool := s.on (Reg.MEM_BANK_STAT_DEGRADED.at 0x19) || s.on (Reg.MEM_BANK_STAT_CARDING.at 0x19)

/-- A condition as a result code. -/
def orCode (code : Nat) (ok : Bool) : Nat := if ok then 0 else code

/-- The right and the unlock that some level-B entries ask for (R320, R403). -/
def State.expertCode (s : State) (c a : Nat) : Nat := if s.ctxRight c a < 3 then 3 else if !s.ctxUnlocked c then 4 else 0

/-- Conditions of area 0x2. -/
def State.cond2 (s : State) (c : Nat) (l : Items) (i sub : Nat) (v : OdVal) : Nat :=
  let n := v.num
  let after (u : Nat) : Nat := s.numAfter l i u
  if i = 0x2011 then orCode 0x0B (s.fuseAllows (after 1) (after 2) && s.pstate == 4)
  else if i = 0x2020 then (if sub = 5 then (s.sdCommand (n == 2)).1 else 0)
  else if i = 0x2301 then
    orCode 0x0B ((List.range 26).all (fun b => !bitOf (after 1) b || s.cardAllowed b (after 4 == 1)))
  else if i = 0x2501 then (if n = 3 then s.expertCode c 2 else 0)
  else if within 0x2E01 0x2E03 i then (if sub = 2 then orCode 3 (s.coversRights c (s.profileRights n)) else 0)
  else if i = 0x2F00 then (s.unlock c v.data).1
  else if i = 0x2F02 then (if n = 1 then 0 else s.expertCode c 2)
  else if i = 0x2F12 then (if n = 0xFF then 0 else orCode 3 (s.coversRights c (s.profileRights n)))
  else if within 0x2F18 0x2F1F i then orCode 3 (s.coversRights c (after 2))
  else 0

/-- Conditions of areas 0x3 to 0x5. -/
def State.cond35 (s : State) (l : Items) (i sub n : Nat) : Nat :=
  if i = 0x3002 then orCode 0x0B (n != 1 || s.stepCommand.isSome)
  else if i = 0x3102 then orCode 0x0B (n != 1 || s.dtCommand.isSome)
  else if i = 0x4000 then orCode 0x0B (sub != 1 || n != 1 || !s.plHeld)
  else if within 0x4010 0x4013 i then
    let g := i - 0x4010
    if s.grState g ≠ 0 then 0x0B
    else if sub = 3 ∨ sub = 0x10 then orCode 0x10 (s.loopRateOk l g)
    else 0
  else if within 0x4018 0x401B i then
    (if sub ≠ 1 ∨ n ≠ 1 then 0 else if s.plHeld then 0x0B else orCode 0x10 (s.loopRateOk l (i - 0x4018)))
  else if within 0x4020 0x4023 i then orCode 0x0B (s.grState (i - 0x4020) == 0)
  else if i = 0x5010 then
    orCode 0x0B (n != 1 || (s.fanSt == 2 && (List.range 128).all (fun k =>
      let t := s.ticket k
      t.state == .free || t.type != 0x0C || t.state.isFinal)))
  else 0

/-- Conditions of areas 0x6 to 0x9. -/
def State.cond69 (s : State) (l : Items) (i sub n : Nat) : Nat :=
  if within 0x6010 0x6015 i then
    (if sub = 9 then orCode 0x10 (decide (((List.range 6).map (fun p => s.numAfter l (0x6010 + p) 9)).sum ≤ s.framePool)) else 0)
  else if i = 0x6030 then
    (if sub = 1 ∨ sub = 2 then orCode 0x0B (s.redAllowed (sub - 1) n) else 0)
  else if i = 0x6050 then
    (if sub = 1 ∧ n = 1 then (s.bobbinEnable true).1 else if sub = 2 then orCode 0x0B (!s.on Reg.BOBBIN_CTRL_EN) else 0)
  else if i = 0x6078 then orCode 0x0B (sub != 6 || n != 1 || s.diagMayRun)
  else if i = 0x8002 then
    (if sub = 1 then orCode 9 (s.offsetWrite (signed 32 n)).isSome else if sub = 3 then (s.summer (n == 1)).2 else 0)
  else if i = 0x9010 then orCode 0x0B (sub != 5 || n != 1 || s.handoverOk)
  else if within 0x9101 0x91FF i then orCode 0x14 (s.managing && (s.portOf (i - 0x9100)).isSome)
  else 0

/-- Conditions of area 0xA: a time image refuses IEEE 802.1AS on E5 (R251). -/
def State.condA (s : State) (l : Items) (key : Nat) : Nat :=
  let after (x : Nat) (r : TimeRole) : Nat :=
    match s.timeKey x r with
    | some k => (match l.lookup k with | some v => v.num | none => s.timeNum x r)
    | none => 0
  let names (x : Nat) : Bool := s.timeKey x .profile == some key || s.timeKey x .ports == some key
  orCode 0x10 ([0, 1].all (fun x => !(names x && after x .profile == 2 && bitOf (after x .ports) 5)))

/-! ### The expert window (R317, R318) -/

/-- The area whose right a register access through the expert window needs (Table 05-8), none for an address outside Table 01-7. -/
def winArea (a : Nat) : Option Nat :=
  if a < 0x50000 ∨ within 0x10000000 0x103FFFFF a then some 2
  else if within 0x20000000 0x203FFFFF a then some 6
  else if inBlock a then [2, 3, 3, 6, 6, 6, 4, 4, 7, 5, 8, 9, 2, 2, 2, 2, 2][(a - 0x40000000) / 0x10000]?
  else none

/-- NO_RIGHT where context `c` lacks read-write-expert in the area of an address; an address outside the map has no area. -/
def State.windowCode (s : State) (c a : Nat) : Nat :=
  match winArea a with
  | some r => orCode 3 (decide (3 ≤ s.ctxRight c r))
  | none => 0

/-- ADDRESS of the expert window of context `c` as it stands after the ADDRESS that a write of `l` gives. -/
def State.windowAddr (s : State) (c : Nat) (l : Items) : Nat :=
  match l.lookup (odKey 0xF000 1) with
  | some v => v.num
  | none => (s.ctx c).winAddr

/-! ### The order of check 12 -/

/-- Whether a twin stands by (R1006). -/
def State.standby (s : State) : Bool := s.role == 3 && s.rd Reg.GRILOR_TWIN_STATE == 1

/-- Check 12: the twin and the die link first (R36), then the owning chapter. -/
def State.condition (s : State) (c : Nat) (l : Items) (i sub : Nat) (m : OdSpec) (v : OdVal) : Nat :=
  if (m.acc.journals || (ownTicket i).isSome) && s.standby then 0x0B
  else if viaLink i sub m && s.dlDown then 0x17
  else if i < 0x3000 then s.cond2 c l i sub v
  else if i < 0x6000 then s.cond35 l i sub v.num
  else if i < 0xA000 then s.cond69 l i sub v.num
  else if i < 0xB000 then s.condA l (odKey i sub)
  else if i = 0xF000 ∧ sub = 2 then s.windowCode c (s.windowAddr c l)
  else 0

/-! ### A whole write -/

/-- Checks 3 to 12 for one member of a write of `l`; `bad` gives, by key, the codes with which members fail that a network reach could not
convert: READ_ONLY at check 7, LENGTH at check 10, OUT_OF_RANGE at check 11 (R322, R324, R325). -/
def State.checkMember (s : State) (c : Nat) (l : Items) (bad : List (Nat × Nat)) (e : Nat × OdVal) : Nat :=
  let i := e.1 / 256
  let sub := e.1 % 256
  let r := s.checkEntry c i sub true
  if r ≠ 0 then r
  else if bad.any (fun b => b.1 == e.1) then (bad.lookup e.1).getD 8
  else
    match s.odSpec i sub with
    | none => 2
    | some m =>
      let t := m.typeCode e.2
      if t ≠ 0 then t
      else if badlyJoined l then 8
      else if !m.inLimits e.2 || !s.limitsOk l i sub e.2 then 9
      else s.condition c l i sub m e.2

/-- The first failure among the members of a write (R290, R295): the code and the member. -/
def State.firstFailure (s : State) (c : Nat) (l : Items) (bad : List (Nat × Nat)) : Option (Nat × (Nat × OdVal)) :=
  (l.map (fun e => (s.checkMember c l bad e, e))).find? (fun x => x.1 != 0)

/-- The code of the first failure among the members of a write, 0 where all pass. -/
def State.checkWrite (s : State) (c : Nat) (l : Items) (bad : List (Nat × Nat) := []) : Nat := ((s.firstFailure c l bad).map (·.1)).getD 0

/-- Whether a value lies above (1) or below (2) the interval of its member, 0 otherwise (Table 05-5). -/
def State.rangeSide (s : State) (e : Nat × OdVal) : Nat :=
  match s.odSpec (e.1 / 256) (e.1 % 256), e.2 with
  | some m, .scalar t n => if m.lim.hi < limitNum t n then 1 else if limitNum t n < m.lim.lo then 2 else 0
  | _, _ => 0

end Sys2Proof.Machine
end

