-- ==== Sys2Proof/Machine/OdServer.lean ====
section
/-! DEFINITION. The object dictionary server: single and multi-entry accesses, admission, network requests, the expert window, client
sessions (chapter 05). -/
namespace Sys2Proof.Machine

/-! ### Answers -/

/-- TAG, LEN and value, as RDATA carries them (Table 06-7). -/
def OdVal.rdata (v : OdVal) : List Byte := leBytes 1 v.tagByte ++ leBytes 2 v.plain.length ++ v.plain

/-- Put the response of the host port, with its CRC over STATUS and RDATA (R391); RESEND returns it again (R393). -/
def State.hostAnswer (s : State) (status : Nat) (rdata : List Byte) : State :=
  { s with tk := { s.tk with
      resp := { status := status, rdata := rdata, crc := crc8 (BitVec.ofNat 8 status :: rdata) } } }

/-- Answer an access of context `c`; for the host the answer is its response. A network reach carries no ticket statuses (R353). -/
def State.odReply (s : State) (c code : Nat) (v : Option OdVal) (h : Option Nat) (side : Nat := 0) : State :=
  let s1 := s.odAnswer c (if 4 ≤ c then netCode code else code) v h side
  if c = 1 then s1.hostAnswer code ((v.map OdVal.rdata).getD [] ++ (h.map (leBytes 4)).getD []) else s1

/-- Whether the host port answers NOT_READY (R398). -/
def State.hostNotReady (s : State) (c : Nat) : Bool := c == 1 && s.pstate == 3 && decide (6 ≤ s.pow.wakeStep)

/-- Whether the dictionary serves context `c`: after W8, where the context is OPEN; under safe ROM and in LIMP over the host port only
(R95, R121). -/
def State.served (s : State) (c : Nat) : Bool :=
  decide (4 ≤ s.pstate) && !s.pow.weaverHalted && (s.ctx c).state == .opened && (decide (c ≤ 1) || !s.netsOff)

/-- An access of context `c` by `f`, where it is served; the host port answers NOT_READY during WAKE. -/
def State.serve (s : State) (c : Nat) (f : State → State) : State :=
  if s.hostNotReady c then s.hostAnswer 0x53 []
  else if !s.served c then s
  else f s

/-! ### Checks 1, 2 and 13 -/

/-- The token bucket of context `c` (R308): whether an access has a token, which it consumes. -/
def State.takeToken (s : State) (c : Nat) : Bool × State :=
  let x := s.ctx c
  if x.rate = 0 then (true, s)
  else
    let units := (s.cycle - x.stamp) * x.rate
    let have' := x.tokens + units / 3000000000
    let y : Ctx := if x.burst ≤ have' then { x with tokens := x.burst, stamp := s.cycle }
      else { x with tokens := have', stamp := s.cycle - units % 3000000000 / x.rate }
    if y.tokens = 0 then (false, s.setCtx c y) else (true, s.setCtx c { y with tokens := y.tokens - 1 })

/-- A failed check (R290): REFUSALS of the context counts it, and its code is answered. -/
def State.refuseOd (s : State) (c code : Nat) (side : Nat := 0) : State :=
  (s.setCtx c { s.ctx c with refusals := satInc 65535 (s.ctx c).refusals }).odReply c code none none side

/-- Checks 1 and 2: 0, BUSY or RATE. -/
def State.accessOpen (s : State) (c : Nat) (ticket : Bool) : Nat × State :=
  if (if ticket then s.pstate == 6 else s.inS4) then (0x0C, s)
  else
    let r := s.takeToken c
    (if r.1 then 0 else 0x0E, r.2)

/-- Check 13 and admission (R290, R305): PENDING with the handle, or QUOTA; a network session is answered when the ticket is final (R353). A
ticket that `fails` is not 0 for is FAILED with that code as soon as it is admitted. -/
def State.admitFor (s : State) (c : Nat) (t : Ticket) (fails : Nat := 0) : State :=
  let full (s : State) : State :=
    ({ s with tk := { s.tk with admitRefusals := satInc 65535 s.tk.admitRefusals } }).refuseOd c 0x0D
  if (s.ctx c).quota ≤ (s.heldBy c).length then full s
  else
    match s.admitTicket t with
    | none => full s
    | some (s1, h) =>
      if fails = 0 then (if 4 ≤ c then s1 else s1.odReply c 0x40 none (some h))
      else if 4 ≤ c then s1.failTicket (h % 128) fails
      else (s1.failTicket (h % 128) fails).odReply c 0x40 none (some h)

/-! ### Reads -/

/-- A DATA access of the expert window of context `c` at address `a`, a write of `w` or a read (R317, R318), whose right is checked: code,
value read and state; `crc` is the die link's outcome. LAST_CODE and ADDRESS follow (R317), and the unlock lasts on (R314). -/
def State.windowData (s : State) (c a : Nat) (w : Option Nat) (crc : Nat) : Nat × Nat × State :=
  let r : Nat × Nat × State := match w with
    | none => s.expertRead a 2 crc
    | some v =>
      let q := s.expertWrite a v .gateway 2 crc
      (q.1, 0, q.2)
  let y := r.2.2.ctx c
  let adv := if y.winAuto then (y.winAddr + 4) % 2 ^ 32 else y.winAddr
  (r.1, r.2.1, (r.2.2.setCtx c { y with winLast := r.1, winAddr := adv }).touchUnlock c)

/-- A DATA access that fails a check: LAST_CODE shows it (R317). -/
def State.refuseData (s : State) (c code : Nat) : State := (s.setCtx c { s.ctx c with winLast := code }).refuseOd c code

/-- The stored value of a member is found poisoned (R296): a JOURNAL entry takes its newest journaled value again, or its default where
that value does not fit; any other stays poisoned until it is written. -/
def State.poisonFound (s : State) (key : Nat) (m : OdSpec) : State :=
  if !m.jrnl then { s with od := { s.od with poisoned := key :: s.od.poisoned.filter (· != key) } }
  else
    let v := match s.od.jvals.get none key with
      | some v => if m.fits v && s.limitsOk [(key, v)] (key / 256) (key % 256) v then v else m.dfltVal
      | none => m.dfltVal
    { s.odApply 0 key v with od := { (s.odApply 0 key v).od with poisoned := s.od.poisoned.filter (· != key) } }

/-- Read one member after the checks: code, value and state. `found` says that its stored value is found poisoned (R296), `addr` is the
ADDRESS at which DATA of the expert window is read. -/
def State.odFetch (s : State) (c i sub : Nat) (found : Bool) (addr : Nat) : Nat × Option OdVal × State :=
  match s.odSpec i sub with
  | none => (2, none, s)
  | some m =>
    let key := odKey i sub
    if viaLink i sub m && !m.acc.journals && s.dlDown then (0x17, none, s)
    else if (m.home = .val ∨ m.jrnl) ∧ (found ∨ s.od.poisoned.contains key) then (0x0F, none, s.poisonFound key m)
    else if i = 0xF000 ∧ sub = 2 then
      let d := s.drawWord
      let r := d.2.windowData c addr none (d.1.toNat % 3)
      if r.1 = 0 then (0, some (.scalar .bits r.2.1), r.2.2) else (r.1, none, r.2.2)
    else
      let r := s.odTake c i sub m
      (0, some r.1, if m.expert then r.2.touchUnlock c else r.2)

/-- A single-entry read (R285, R290). -/
def State.odRead (s : State) (c i sub : Nat) (found : Bool) : State :=
  s.serve c (fun s =>
    let o := s.accessOpen c false
    if o.1 ≠ 0 then o.2.refuseOd c o.1
    else
      let e := o.2.checkEntry c i sub false
      if e ≠ 0 then o.2.refuseOd c e
      else
        let w := if i = 0xF000 ∧ sub = 2 then o.2.windowCode c (o.2.ctx c).winAddr else 0
        let r := o.2.odFetch c i sub found (o.2.ctx c).winAddr
        if w ≠ 0 then o.2.refuseData c w
        else if r.1 = 0 then r.2.2.odReply c 0 r.2.1 none else r.2.2.odReply c r.1 none none)

/-! ### Writes -/

/-- Whether an admitted OD_WRITE has not yet written a member (R294, R347). -/
def State.keyPending (s : State) (key : Nat) : Bool :=
  (List.range 128).any (fun i =>
    let t := s.ticket i
    t.type == 1 && (t.state == .queued || t.state == .running) && t.members.any (fun e => e.1 == key))

/-- A write that arrives later than an OD_READ ticket leaves the snapshot of that ticket the old values (R347): before members take effect,
the tickets admitted before `order` that still want them keep their present values. -/
def State.captureReads (s : State) (order : Nat) (keys : List Nat) : State :=
  s.each (List.range 128) (fun s i =>
    let t := s.ticket i
    if t.type != 2 || !(t.state == .queued || t.state == .running) || decide (order ≤ t.order) then s
    else
      s.setTicket i { t with members := t.members.map (fun e =>
        if e.2 == .scalar .nil 0 && keys.contains e.1 then
          (match s.odSpec (e.1 / 256) (e.1 % 256) with
           | some m => (e.1, s.odPeek t.client (e.1 / 256) (e.1 % 256) m)
           | none => e)
        else e) })

/-- An E-level member among those of an admitted access restarts the 600 s of its context (R314). -/
def State.touchExpert (s : State) (c : Nat) (keys : List Nat) : State :=
  if keys.any (fun k => ((s.odSpec (k / 256) (k % 256)).map (·.expert)).getD false) then s.touchUnlock c else s

/-- Whether a member is RWJ or RWL. -/
def State.journaled (s : State) (key : Nat) : Bool := ((s.odSpec (key / 256) (key % 256)).map (·.acc.journals)).getD false

/-- Round every value to its member's granularity (R288). -/
def State.roundItems (s : State) (l : Items) : Items :=
  l.map (fun e => (e.1, ((s.odSpec (e.1 / 256) (e.1 % 256)).map (·.rounded e.2)).getD e.2))

/-- A ticket of context `c`; under a read-only mount it runs without journal records. -/
def State.newTicket (s : State) (c type steps : Nat) (params : List Nat) : Ticket :=
  { type := type, client := c, steps := steps, params := params, ledgered := !s.jr.readOnly }

/-- The ticket that a write of its own type admits (R1111), by type; `i` is its entry. -/
def State.ownTicketOf (s : State) (c type i : Nat) (l : Items) : Ticket :=
  let a (u : Nat) : Nat := s.numAfter l i u
  match type with
  | 5 =>
    let t := s.newTicket c 5 ([0, 3, 1, 2].getD (a 0) 1) [a 0]
    if a 0 = 3 ∧ s.jr.noJournal then { t with ledgered := false } else t
  | 6 => s.newTicket c 6 (popCount 16 (a 0)) (evBytes 2 (a 0))
  | 7 => s.newTicket c 7 2 (evBytes 1 (a 1) ++ evBytes 4 (a 2))
  | 8 => s.newTicket c 8 (popCount 26 (a 1)) (cardParams (a 1) (a 2) (a 3) (a 4))
  | 9 => s.newTicket c 9 (imageSteps (a 1)) (imageParams (a 1) (a 2) (a 3) (a 4))
  | 0x0A => s.newTicket c 0x0A 3 (largeParams (a 1) (a 2) (a 3) (a 4) (a 5) (a 6))
  | 0x0B =>
    let t := s.newTicket c 0x0B 2 (evBytes 1 (i - 0x9100) ++ evBytes 4 (a 1) ++ [a 2, a 3])
    { t with data := [(l.lookup (odKey i 4)).getD (.bytes [])] }
  | _ => s.newTicket c 0x0C 8 []

/-- The code with which an admitted write of RWJ or RWL members fails under safe ROM, whose journal is mounted for reading (R95): 0 where
it does not. -/
def State.romFails (s : State) (l : Items) : Nat :=
  if (s.safeRom || s.jr.readOnly) && l.any (fun e => s.journaled e.1) then 0x11 else 0

/-- The OD_WRITE ticket of a write (R342, R343). -/
def State.writeTicket (s : State) (c : Nat) (l : Items) : Ticket :=
  let m := s.roundItems l
  let led := l.any (fun e => s.journaled e.1) && !s.jr.readOnly
  { type := 1, client := c, steps := if led then (packItems [] m).length else 1, ledgered := led, members := m, window := s.windowAddr c l }

/-- What a write does that member `e` makes fail: SUMMER_REJECT (R947), the failure count of the unlock (R316) and LAST_CODE (R317), nothing
else. -/
def State.refusedWrite (s : State) (c : Nat) (e : Nat × OdVal) (code : Nat) : State :=
  let s1 :=
    if e.1 = odKey 0x8002 3 ∧ (code = 0x0B ∨ code = 9) ∧ (e.2.num = 1 ∨ e.2.num = 2) then (s.summer (e.2.num == 1)).1
    else if e.1 = odKey 0x2F00 0 ∧ code = 0x18 then (s.unlock c e.2.data).2
    else s
  if e.1 = odKey 0xF000 2 then s1.refuseData c code else s1.refuseOd c code (s.rangeSide e)

/-- A single write that completes at once, after its checks: 0x2401 and 0x2402 answer ticket statuses (R403). -/
def State.writeNow (s : State) (c key : Nat) (v : OdVal) : State :=
  if key = odKey 0x2401 0 then
    let r := s.retireBy c v.num
    r.2.odReply c r.1 none none
  else if key = odKey 0x2402 0 then
    let r := s.abortBy c v.num
    r.2.odReply c r.1 none none
  else if key = odKey 0xF000 2 then
    let d := s.drawWord
    let r := d.2.windowData c (s.ctx c).winAddr (some v.num) (d.1.toNat % 3)
    r.2.2.odReply c r.1 none none
  else (((s.captureReads s.tk.nextOrder [key]).odApply c key v).mirrorRw [(key, v)]).odReply c 0 none none

/-- A write of `l` by context `c` (R285, R290, R294, R295); `multi` for a multi-entry request, which always runs as a ticket; `bad` as
checkMember says. -/
def State.odWrite (s : State) (c : Nat) (l : Items) (multi : Bool) (bad : List (Nat × Nat) := []) : State :=
  s.serve c (fun s =>
    let own := ownWrite l
    let idle := l == [(odKey 0x5010 0, .scalar .bool 0)]
    let ticket := (multi || own.isSome || l.any (fun e => s.journaled e.1 || s.keyPending e.1)) && !idle
    let o := s.accessOpen c ticket
    if o.1 ≠ 0 then o.2.refuseOd c o.1
    else
      match o.2.firstFailure c l bad with
      | some f => o.2.refusedWrite c f.2 f.1
      | none =>
        let s1 := o.2.touchExpert c (l.map (·.1))
        if ticket then
          (match own with
           | some (t, i) => s1.admitFor c (s1.ownTicketOf c t i l)
           | none => s1.admitFor c (s1.writeTicket c l) (s1.romFails l))
        else
          (match l with
           | (k, v) :: _ => s1.writeNow c k v
           | [] => s1))

/-- Checks 3 to 9 of a member that is read, and the right for DATA of the expert window (R318). -/
def State.checkRead (s : State) (c k : Nat) : Nat :=
  let e := s.checkEntry c (k / 256) (k % 256) false
  if e ≠ 0 then e else if k = odKey 0xF000 2 then s.windowCode c (s.ctx c).winAddr else 0

/-- A multi-entry read: one OD_READ ticket (R295); `rows` are the mapping rows of a network request. -/
def State.odReadMulti (s : State) (c : Nat) (keys : List Nat) (rows : List MapRow := []) : State :=
  s.serve c (fun s =>
    let o := s.accessOpen c true
    if o.1 ≠ 0 then o.2.refuseOd c o.1
    else
      let e := ((keys.map (o.2.checkRead c)).find? (· ≠ 0)).getD 0
      if e ≠ 0 then o.2.refuseOd c e
      else (o.2.touchExpert c keys).admitFor c { type := 2, client := c, steps := 1, rows := rows, window := (o.2.ctx c).winAddr,
                                                 members := keys.map (fun k => (k, .scalar .nil 0)) })

/-! ### Commands of the dictionary -/

/-- The ODREF value of an index and a sub-index. -/
def refOf (i : BitVec 16) (sub : Byte) : Nat := odKey i.toNat sub.toNat

/-- OD_READ (R290). -/
def execOdRead (c : Fin 256) (i : BitVec 16) (sub : Byte) (found : Bool) (s : State) : Out := .next (s.odRead c i.toNat sub.toNat found)

/-- OD_WRITE (R285). -/
def execOdWrite (c : Fin 256) (i : BitVec 16) (sub : Byte) (v : OdVal) (s : State) : Out :=
  .next (s.odWrite c [(refOf i sub, v)] false)

/-- MULTI_READ (R295, Table 06-7). -/
def execMultiRead (c : Fin 256) (l : List (BitVec 16 × Byte)) (s : State) : Out :=
  .next (s.odReadMulti c (l.map (fun e => refOf e.1 e.2)))

/-- MULTI_WRITE (R295, Table 06-7). -/
def execMultiWrite (c : Fin 256) (l : List (BitVec 16 × Byte × OdVal)) (s : State) : Out :=
  .next (s.odWrite c (l.map (fun e => (refOf e.1 e.2.1, e.2.2))) true)

/-- EXPERT_UNLOCK (R311). -/
def execExpertUnlock (c : Fin 256) (key : BitVec 64) (s : State) : Out :=
  .next (s.odWrite c [(odKey 0x2F00 0, .bytes (leBytes 8 key.toNat))] false)

/-- UNLOCK_BLOCK_END (R316): 1 s has passed since the last failed key match. -/
def execUnlockBlockEnd (s : State) : Out :=
  .next (if s.passed .unlockBlock (1000 * msCycles) then { s with od := { s.od with unlockBlocked := false } } else s)

/-- The SCLK cycles after which an unlock expires (R314): 600 s. -/
def unlockSpan : Nat := 600 * 3000000000

/-- EXPERT_UNLOCK_EXPIRY (R314): 600 s have passed without an E-level or gateway access; the expiry of C1's sets INTSTAT.EXPERT. -/
def execExpertUnlockExpiry (c : Fin 256) (s : State) : Out :=
  .next (if !(s.ctx c).unlocked || decide (s.cycle < (s.ctx c).lastUse + unlockSpan) then s
    else
      let s1 := s.relockCtx c
      if c.val = 1 then s1.intBit 5 else s1)

/-- EXPERT_RELOCK (R314). -/
def execExpertRelock (c : Fin 256) (s : State) : Out := .next (s.odWrite c [(odKey 0x2F04 0, .scalar .bool 1)] false)

/-- EXPERT_WINDOW_DATA (R318): a read, or a write of a value; `crc` is the outcome of the die link, 0 for good frames. -/
def execExpertWindowData (c : Fin 256) (v : Option Word) (crc : Fin 3) (s : State) : Out :=
  .next (s.serve c (fun s =>
    let o := s.accessOpen c false
    if o.1 ≠ 0 then o.2.refuseOd c o.1
    else
      let e := o.2.checkEntry c 0xF000 2 v.isSome
      let w := o.2.windowCode c (o.2.ctx c).winAddr
      if e ≠ 0 then o.2.refuseOd c e
      else if w ≠ 0 then o.2.refuseData c w
      else
        let r := o.2.windowData c (o.2.ctx c).winAddr (v.map BitVec.toNat) crc
        r.2.2.odReply c r.1 (if r.1 = 0 ∧ v.isNone then some (.scalar .bits r.2.1) else none) none))

/-- CONFIG_LOCK (R320). -/
def execConfigLock (c : Fin 256) (v : Bool) (s : State) : Out := .next (s.odWrite c [(odKey 0x2F02 0, .scalar .bool (b2n v))] false)

/-- RESTORE_DEFAULTS (R321). -/
def execRestoreDefaults (c : Fin 256) (mask : Word) (s : State) : Out :=
  .next (s.odWrite c [(odKey 0x2F03 0, .scalar .bits mask.toNat)] false)

/-! ### Commands that open tickets of their own (R1111) -/

/-- The four members of IMAGE_OP. -/
def imageItems (op target src value : Nat) : Items :=
  [(odKey 0x2201 1, .scalar .uint op), (odKey 0x2201 2, .scalar .uint target), (odKey 0x2201 3, .scalar .uint src),
   (odKey 0x2201 4, .scalar .bits value)]

/-- LOAD (R573, R576): a store slot 0 to 15, or 16 for the staged image, into an image slot. -/
def execLoad (c : Fin 256) (slot : Fin 4) (src : Fin 17) (s : State) : Out := .next (s.odWrite c (imageItems 1 slot src 0) true)

/-- UNLOAD (R573, R580). -/
def execUnload (c : Fin 256) (slot : Fin 4) (s : State) : Out := .next (s.odWrite c (imageItems 2 slot 0 0) true)

/-- STORE (R573, R582). -/
def execStore (c : Fin 256) (store : Fin 16) (s : State) : Out := .next (s.odWrite c (imageItems 3 store 16 0) true)

/-- TABLE (R573, R574, R582). -/
def execTable (c : Fin 256) (set : Fin 9) (value : Word) (s : State) : Out := .next (s.odWrite c (imageItems 4 set 0 value.toNat) true)

/-- FUSE_PROGRAM (R1047). -/
def execFuseProgram (c : Fin 256) (word : Fin 128) (mask : Word) (s : State) : Out :=
  .next (s.odWrite c [(odKey 0x2011 1, .scalar .uint word), (odKey 0x2011 2, .scalar .bits mask.toNat)] true)

/-- FULL_NOW (R402, R1117). -/
def execFullNow (c : Fin 256) (s : State) : Out := .next (s.odWrite c [(odKey 0x2501 0, .scalar .uint 1)] false)

/-- VERIFY (R402, R1117). -/
def execVerify (c : Fin 256) (s : State) : Out := .next (s.odWrite c [(odKey 0x2501 0, .scalar .uint 2)] false)

/-- CLEAR_FAILING (R402, R1117). -/
def execClearFailing (c : Fin 256) (s : State) : Out := .next (s.odWrite c [(odKey 0x2501 0, .scalar .uint 3)] false)

/-- CARDING_RUN (R461). -/
def execCardingRun (c : Fin 256) (mask : BitVec 26) (algo : Fin 2) (bgs : Fin 3) (destructive : Bool) (s : State) : Out :=
  .next (s.odWrite c [(odKey 0x2301 1, .scalar .bits mask.toNat), (odKey 0x2301 2, .scalar .uint algo),
    (odKey 0x2301 3, .scalar .uint bgs), (odKey 0x2301 4, .scalar .bool (b2n destructive))] true)

/-- LARGE_SEND (R744). -/
def execLargeSend (c : Fin 256) (h : Word) (kind : Fin 4) (hdr : Byte) (payload : BitVec 16) (mss : BitVec 16) (ctl : Word) (s : State) : Out :=
  .next (s.odWrite c [(odKey 0x6080 1, .scalar .uint h.toNat), (odKey 0x6080 2, .scalar .uint kind),
    (odKey 0x6080 3, .scalar .uint hdr.toNat), (odKey 0x6080 4, .scalar .uint payload.toNat), (odKey 0x6080 5, .scalar .uint mss.toNat),
    (odKey 0x6080 6, .scalar .uint ctl.toNat)] true)

/-- FAN_BASELINE_RUN (R905). -/
def execFanBaselineRun (c : Fin 256) (s : State) : Out := .next (s.odWrite c [(odKey 0x5010 0, .scalar .bool 1)] false)

/-- GATEWAY (R988): an access to an entry of worker `w`. -/
def execGateway (c : Fin 256) (w : Fin 255) (ref : Word) (op : Fin 3) (tag : Byte) (v : List Byte) (s : State) : Out :=
  let i := 0x9101 + w.val
  .next (s.odWrite c [(odKey i 1, .scalar .odref ref.toNat), (odKey i 2, .scalar .uint op), (odKey i 3, .scalar .uint tag.toNat),
    (odKey i 4, .bytes v)] true)

/-! ### Sessions (R304 to R309) -/

/-- SESSION_OPEN (R304, R306): the image in slot `k` opens a session that arrives on a reach, with its declared profile. -/
def execSessionOpen (k : Fin 4) (reach : Fin 6) (profile : Fin 16) (s : State) : Out :=
  let d := s.decl k
  let want := if d.sessionQuota = 0xFF then s.odN 0x2F05 5 8 else d.sessionQuota
  .next (if s.slotState k ≠ 2 then s
    else
      match (List.range 256).find? (fun c => 4 ≤ c && (s.ctx c).state == .free) with
      | some c =>
        if d.sessions ≤ (s.slot k).sessions then s.odInc 0x2F05 3 (2 ^ 32 - 1)
        else
          let burst := s.odN 0x2F05 7 50
          let x : Ctx := { state := .opened, profile := profile, quota := min want (128 - s.reserved), rate := s.odN 0x2F05 6 200,
                           burst := burst, tokens := burst, stamp := s.cycle, reach := reach, session := s.cycle, image := k }
          (s.setCtx c x).setSlot k { s.slot k with sessions := (s.slot k).sessions + 1 }
      | none => s.odInc 0x2F05 3 (2 ^ 32 - 1))

/-- SESSION_CLOSE (R304). -/
def execSessionClose (c : Fin 256) (s : State) : Out := .next (s.closeSession c)

/-- DRAIN_TIMEOUT (R304, R333): the tickets that remain are retired, those not final ended first, and the context becomes FREE. -/
def execDrainTimeout (c : Fin 256) (s : State) : Out :=
  .next (if (s.ctx c).state != .draining || decide (s.cycle < (s.ctx c).session + s.odN 0x2F05 4 30 * 1000 * msCycles) then s
    else (s.each (s.heldBy c) (fun s i =>
      (if (s.ticket i).state.isFinal then s else (s.finish i .aborted 0 .uint (s.ticket i).step).settle i).retireSlot i)).freeCtx c)

end Sys2Proof.Machine
end

