-- ==== Sys2Proof/Machine/Journal.lean ====
section
/-! DEFINITION. The journal: commits of staged records and the effects they carry, fulling, failing bolts (R365 to R388, R1113 to
R1117). -/
namespace Sys2Proof.Machine

/-! ### Bolts -/

/-- The generation of a bolt, from its BOLT_HEAD. -/
def Bolt.gen (b : Bolt) : Nat :=
  match b.recs with
  | ⟨_, .boltHead g⟩ :: _ => g
  | _ => 0

/-- The standby bolt. -/
def State.standbyBolt (s : State) : Nat := 1 - s.jr.active

/-- Whether the active bolt takes a record now: it is not failing, it has room, and the delta queue has room (R383). -/
def State.roomFor (s : State) (b : JBody) : Bool :=
  let a := s.bolt s.jr.active
  !a.failing && decide (a.used + b.size ≤ s.jr.boltSize) &&
    (s.jr.phase != .copying || decide (bodiesSize s.jr.delta + b.size ≤ 65536))

/-- INTSTAT.JOURNAL follows a change of 0x2500:01 (R400). -/
def State.journalNote (s before : State) : State := if s.journalState = before.journalState then s else s.intBit 2

/-! ### Live state (R380) -/

/-- The records of an unretired ledgered ticket that fulling copies. -/
def State.ticketRecords (s : State) (i : Nat) : List JBody :=
  let t := s.ticket i
  let h := s.handleOf i
  if t.state = .free ∨ !t.ledgered ∨ !t.firstCommitted then []
  else
    let packs := packItems [] t.members
    let n := if t.state = .done then t.steps else max 1 t.step
    let head := if t.type = 1 then
        (List.range (min n packs.length)).map (fun k => JBody.value h (k + 1) t.steps (decide (k + 1 = t.steps)) (packs.getD k []))
      else [.admission h t.type t.steps t.params]
    let step := if t.type = 1 ∨ t.step = 0 then []
      else [JBody.step h t.step (if t.step = t.steps then t.resTag else .nil) (if t.step = t.steps then t.resVal else 0)]
    head ++ step ++ (if t.finalCommitted then [.final h t.state t.code t.resTag t.resVal] else [])

/-- The repair map as REPAIR records (R380, R456). -/
def State.repairRecords (s : State) : List JBody :=
  (List.range 17).flatMap (fun b => (List.range 8).flatMap (fun k =>
    let x := s.spare b k
    if x.bad then [JBody.repair b x.row k 2] else if x.used && !x.fuse then [JBody.repair b x.row k 1] else [])) ++
  ((List.range 26).filter (fun b => s.on (Reg.MEM_BANK_STAT_DEGRADED.at b))).map (fun b => JBody.repair b 0 0 3)

/-- The live state behind a BOLT_HEAD of generation `g` (R380). -/
def State.liveState (s : State) (g : Nat) : List JBody :=
  let items := s.od.jvals.filterMap (fun e => e.2.map (fun v => (e.1, if rawKey e.1 then s.rawWord e.1 else v)))
  [.boltHead g, .mount s.jr.mountSeq] ++ (packItems [] items).map (fun l => JBody.value 0 0 0 true l) ++
    (List.range 128).flatMap s.ticketRecords ++ s.repairRecords ++ s.tk.ring.reverse.map JBody.event

/-! ### FULL_NOW follows fulling (R1117) -/

/-- How many steps of FULL_NOW the fulling in progress has done: copy, SWITCH, erase. -/
def JournalState.progress (j : JournalState) : Nat :=
  match j.phase with
  | .eraseStandby _ | .eraseAgain _ | .copying => 0
  | .eraseOld _ => 2
  | .off => 3

/-- The FULL_NOW ticket that waits for fulling completes the steps that are done. -/
def State.fullSync (s : State) : State :=
  match s.jr.fullTicket with
  | none => s
  | some i =>
    if !(s.ticket i).state == .running then { s with jr := { s.jr with fullTicket := none } }
    else if s.stepOpen i ∧ (s.ticket i).step < s.jr.progress then s.stepDone i .uint (s.bolt s.jr.active).gen
    else s

/-- Fulling cannot go on: the FULL_NOW ticket that waits for it fails with JOURNAL_BUSY (R1117). -/
def State.fullFails (s : State) : State :=
  match s.jr.fullTicket with
  | none => s
  | some i =>
    let s1 : State := { s with jr := { s.jr with fullTicket := none } }
    if (s.ticket i).state = .running then s1.failTicket i 0x13 else s1

/-! ### Fulling -/

/-- The copy begins: a BOLT_HEAD and the live state go to the erased standby bolt (R380). Records that are committed but wait for a
MIRROR_ACK are in the delta queue, since the live state does not show them yet. -/
def State.copyStart (s : State) : State :=
  let s1 := s.setBolt s.standbyBolt { s.bolt s.standbyBolt with recs := [], used := 0 }
  { s1 with jr := { s1.jr with phase := .copying, toCopy := s.liveState ((s.bolt s.jr.active).gen + 1), delta := s.gl.heldBack,
                               carry := 0, copyRetried := false } }

/-- The 64 KiB blocks of a bolt. -/
def State.boltBlocks (s : State) : Nat := s.jr.boltSize / 65536

/-- Fulling starts, unless it runs, the standby bolt is failing or the journal is not written (R379, R388, R1117). -/
def State.fullStart (s : State) : State :=
  let b := s.bolt s.standbyBolt
  if s.jr.phase != .off || b.failing || !s.journalOn then s
  else if b.erased then s.copyStart
  else { s with jr := { s.jr with phase := .eraseStandby s.boltBlocks } }

/-- Fulling starts at 75 % fill, and after an abandoned copy at each further 1/16 of the bolt (R379, R1116). -/
def State.fullCheck (s : State) : State :=
  let u := (s.bolt s.jr.active).used
  if (if s.jr.retryFill = 0 then 3 * s.jr.boltSize ≤ 4 * u else s.jr.retryFill ≤ u) then s.fullStart else s

/-! ### Effects of commits -/

/-- The journal's newest value of each entry. -/
def State.jvalPut (s : State) (l : Items) : State :=
  { s with od := { s.od with jvals := l.foldl (fun m e => m.set none e.1 (some e.2)) s.od.jvals } }

/-- Values take effect together, DATA of the expert window apart. -/
def State.applyItems (s : State) (c : Nat) (l : Items) : State :=
  s.each l (fun s e =>
    if rawKey e.1 then s.rawTake e.1 e.2.num
    else if e.1 = odKey 0xF000 2 then s
    else s.odApply c e.1 e.2)

/-- The DATA access of a write to the expert window, at the ADDRESS of its admission (R301, R317, R318): its code and the state. -/
def State.windowStep (s : State) (t : Ticket) : Nat × State :=
  match t.members.lookup (odKey 0xF000 2) with
  | none => (0, s)
  | some v =>
    let d := s.drawWord
    let r := d.2.windowData t.client t.window (some v.num) (d.1.toNat % 3)
    (r.1, r.2.2)

/-- All values of the OD_WRITE ticket in slot `i` take effect, and it is DONE (R342, R343). A write that no longer keeps the limits between
entries fails with OUT_OF_RANGE, and so does one whose DATA access fails, with that access's code: none of its values takes effect. -/
def State.writeDone (s : State) (i : Nat) : State :=
  let t := s.ticket i
  if !t.members.all (fun e => s.limitsOk t.members (e.1 / 256) (e.1 % 256) e.2) then s.failTicket i 9
  else
    let w := s.windowStep t
    if w.1 ≠ 0 then w.2.failTicket i w.1
    else
      let s0 := w.2.captureReads t.order (t.members.map (·.1))
      let s1 := (s0.applyItems t.client t.members).mirrorRw (if t.ledgered then [] else t.members)
      let s2 := if t.ledgered then s1.jvalPut (t.members.filter (fun e => s.journaled e.1)) else s1
      (s2.setTicket i { s2.ticket i with step := t.steps }).finish i .done 0 .uint t.members.length

/-- VALUE record `k` of the running OD_WRITE ticket in slot `i` is committed (R342, R345, R406). -/
def State.writeStep (s : State) (i k : Nat) : State :=
  let t := s.ticket i
  if t.steps ≤ k then s.writeDone i
  else
    let s1 := s.setTicket i { t with step := k }
    if t.abortPending then s1.finish i .aborted 0 .uint k
    else s1.stage (.value (s.handleOf i) (k + 1) t.steps (decide (k + 1 = t.steps)) ((packItems [] t.members).getD k []))

/-- Whether the QUEUED ticket in slot `i` may start: it heads its type's queue, and none of its type runs (R347). -/
def State.mayStart (s : State) (i : Nat) : Bool :=
  let t := s.ticket i
  t.state == .queued && s.queueHead t.type == some i && (s.runningOf t.type).isNone

/-- The ledgered OD_WRITE ticket in slot `i` starts with its first record committed. -/
def State.writeStart (s : State) (i : Nat) : State :=
  (s.setTicket i { s.ticket i with state := .running }).writeStep i 1

/-- A VALUE record of a ticket is committed (R346, R1115). -/
def State.valueCommitted (s : State) (h k : Nat) : State :=
  let i := h % 128
  let t := s.ticket i
  if t.state = .free ∨ s.handleOf i ≠ h ∨ t.type ≠ 1 then s
  else
    let s1 := if k = 1 then s.setTicket i { t with firstCommitted := true } else s
    if t.state = .running then s1.writeStep i k
    else if t.state ≠ .queued then s1
    else if t.abortPending ∧ 1 < t.steps then (s1.setTicket i { s1.ticket i with step := 1 }).finish i .aborted 0 .uint 1
    else if s1.mayStart i then s1.writeStart i
    else s1

/-- An ADMIT record is committed (R345, R1115). -/
def State.admitCommitted (s : State) (h : Nat) : State :=
  let i := h % 128
  let t := s.ticket i
  if t.state = .free ∨ s.handleOf i ≠ h then s
  else
    let s1 := s.setTicket i { t with firstCommitted := true }
    if t.state = .queued ∧ t.abortPending then (s1.finish i .aborted 0 .uint 0).settle i else s1

/-- The learned baseline replaces 0x5011 (R905). -/
def State.baselineIn (s : State) : State :=
  s.each ((List.range 8).zip s.fan.pending) (fun s e => s.odPutU 0x5011 (e.1 + 1) e.2)

/-- The FINAL record of a ticket is committed. -/
def State.finalRecord (s : State) (h : Nat) : State :=
  let t := s.ticket (h % 128)
  if t.state.isFinal ∧ s.handleOf (h % 128) = h then s.setTicket (h % 128) { t with finalCommitted := true } else s

/-- A STEP record is committed (R345); the defaults that a RESTORE_DEFAULTS step journals take effect with it (R321, R383). -/
def State.stepRecord (s : State) (h : Nat) (tag : Tag) (v : Nat) : State :=
  let i := h % 128
  let t := s.ticket i
  if t.state ≠ .running ∨ s.handleOf i ≠ h ∨ !t.stepPending then s
  else
    let s0 := if t.type = 0x0C ∧ t.steps ≤ t.step + 1 then s.baselineIn
      else if t.type = 6 then s.applyItems 0 t.members else s
    (((s0.stepCommitted i tag v).settle i).gwAdvance).fullSync

/-- Whether a record is one that a standby holds of its owner (R1005): its handle names no ticket of this device. -/
def State.foreignRecord (s : State) (b : JBody) : Bool :=
  match b with
  | .value h _ _ _ _ | .admission h _ _ _ | .step h _ _ _ =>
    s.standby && ((s.ticket (h % 128)).state == .free || s.handleOf (h % 128) != h)
  | _ => false

/-- A mirrored record is committed in the standby (R1005): the values of a complete OD_WRITE take effect. -/
def State.mirroredEffect (s : State) (b : JBody) : State :=
  match b with
  | .value h _ _ last items =>
    let all := if h = 0 then items
      else s.gl.mirrored.flatMap (fun r => match r with | .value q _ _ _ l => if q = h then l else [] | _ => [])
    if h ≠ 0 ∧ !last then s else (s.applyItems 0 all).jvalPut (all.filter (fun e => s.journaled e.1))
  | _ => s

/-- What the commit of a record acknowledges (R367). -/
def State.recordEffect (s : State) (b : JBody) : State :=
  if s.foreignRecord b then s.mirroredEffect b
  else match b with
  | .value h k _ _ items => if h = 0 then s.jvalPut items else s.valueCommitted h k
  | .admission h _ _ _ => s.admitCommitted h
  | .step h _ tag v => s.stepRecord h tag v
  | .final h _ _ _ _ => s.finalRecord h
  | _ => s

/-- The effect of a committed record; while the twin mirrors, it waits for the MIRROR_ACK (R1005). -/
def State.acknowledge (s : State) (b : JBody) : State :=
  if s.gl.mirrorOut.contains b then { s with gl := { s.gl with heldBack := s.gl.heldBack ++ [b] } } else s.recordEffect b

/-- The record at the head of the staging area is programmed into the active bolt and committed (R367); where it has no room, fulling starts
if it is due (R379). -/
def State.commitHead (s : State) : State :=
  match s.jr.staging with
  | [] => s
  | b :: rest =>
    if !s.roomFor b then s.fullCheck
    else
      let s1 := s.boltWrite s.jr.active b
      let s2 : State := { s1 with jr := { s1.jr with staging := rest, headRetried := false,
                                                     delta := if s.jr.phase = .copying then s.jr.delta ++ [b] else s.jr.delta } }
      (s2.acknowledge b).fullCheck

/-! ### SWITCH, abandonment -/

/-- SWITCH commits: the standby bolt becomes active, and the old bolt is erased (R380). -/
def State.switchOver (s : State) : State :=
  let k := s.standbyBolt
  let b := s.bolt k
  let s1 := s.boltWrite k (.switch b.gen)
  ({ s1 with jr := { s1.jr with active := k, phase := .eraseOld s.boltBlocks, toCopy := [], delta := [], carry := 0,
                                retryFill := 0, headRetried := false, fullings := s.jr.fullings + 1 } }).fullSync

/-- The bytes that the copy still needs, SWITCH included. -/
def JournalState.copyLeft (j : JournalState) : Nat := bodiesSize j.toCopy + bodiesSize j.delta + (JBody.switch 0).size

/-- The live state and the delta queue do not fit: the copy is abandoned, and the standby bolt is erased again (R1116). -/
def State.abandon (s : State) : State :=
  let k := s.standbyBolt
  let excess := (s.bolt k).used + s.jr.copyLeft - s.jr.boltSize
  let s1 : State := { s with jr := { s.jr with phase := .eraseAgain s.boltBlocks, toCopy := [], delta := [], carry := 0,
                                               retryFill := (s.bolt s.jr.active).used + s.jr.boltSize / 16 } }
  (s1.fullFails).event 0x0602 k (evBytes 4 excess)

/-- The bytes in `carry` program the records of a copy that they hold. -/
def State.copyRecords : Nat → State → State
  | 0, s => s
  | n + 1, s =>
    let put (b : JBody) (j : JournalState) : State :=
      if s.jr.carry < b.size then s
      else
        let s1 := s.boltWrite s.standbyBolt b
        State.copyRecords n { s1 with jr := { j with boltA := s1.jr.boltA, boltB := s1.jr.boltB, carry := s.jr.carry - b.size,
                                                     copyRetried := false } }
    match s.jr.toCopy, s.jr.delta with
    | b :: t, _ => put b { s.jr with toCopy := t }
    | [], b :: t => put b { s.jr with delta := t }
    | [], [] => s

/-- A copy page program of fulling (R380, R381). -/
def State.copyPage (s : State) : State :=
  if s.jr.boltSize < (s.bolt s.standbyBolt).used + s.jr.copyLeft then s.abandon
  else
    let s1 := State.copyRecords 64 { s with jr := { s.jr with carry := s.jr.carry + 256 } }
    if s1.jr.toCopy.isEmpty && s1.jr.delta.isEmpty then s1.switchOver else s1

/-- A 64 KiB erase of fulling is over (R380, R1116): once all blocks are erased the copy begins, or fulling ends, and starts again where
that is due. -/
def State.eraseDone (s : State) : State :=
  let k := s.standbyBolt
  let clean (s : State) : State := s.setBolt k { s.bolt k with recs := [], used := 0, erased := true }
  let ended (s : State) : State :=
    let s1 := ({ s with jr := { s.jr with phase := .off } }).fullSync
    if (s1.bolt s1.jr.active).failing then s1.fullStart else s1.fullCheck
  match s.jr.phase with
  | .eraseStandby n =>
    let s1 := s.blockErase k n
    if 1 < n then { s1 with jr := { s1.jr with phase := .eraseStandby (n - 1) } } else (clean s1).copyStart
  | .eraseOld n =>
    let s1 := s.blockErase k n
    if 1 < n then { s1 with jr := { s1.jr with phase := .eraseOld (n - 1) } } else ended (clean s1)
  | .eraseAgain n =>
    let s1 := s.blockErase k n
    if 1 < n then { s1 with jr := { s1.jr with phase := .eraseAgain (n - 1) } } else ended (clean s1)
  | _ => s

/-! ### Failing bolts (R384 to R386) -/

/-- The slot of the ticket whose step or admission a record carries. -/
def State.carrier (s : State) (b : JBody) : Option Nat :=
  let at' (h : Nat) : Option Nat := if (s.ticket (h % 128)).state ≠ .free ∧ s.handleOf (h % 128) = h then some (h % 128) else none
  match b with
  | .value h _ _ _ _ => if h = 0 then none else at' h
  | .admission h _ _ _ | .step h _ _ _ => at' h
  | _ => none

/-- The staged VALUE records of a RESTORE_DEFAULTS step that is given up go with it (R383). -/
def State.dropRestore (s : State) (l : Items) : State :=
  let keep (b : JBody) : Bool := match b with | .value 0 0 0 true m => !m.all (fun e => l.contains e) | _ => true
  { s with jr := { s.jr with staging := s.jr.staging.filter keep, waiting := s.jr.waiting.filter keep } }

/-- A record is given up: the ticket whose step it carried fails with a code, and that step has not taken effect (R383). -/
def State.giveUp (s : State) (code : Nat) (b : JBody) : State :=
  match s.carrier b with
  | some i =>
    let t := s.ticket i
    if t.state.isFinal || !t.ledgered then s
    else ((if t.type = 6 then s.dropRestore t.members else s).failTicket i code).settle i
  | none => s

/-- CLEAR_FAILING goes on without records of its own while both bolts are failing (R386). -/
def State.clearUnledgered (s : State) : State :=
  s.each (List.range 128) (fun s i =>
    let t := s.ticket i
    if t.type != 5 || t.params.headD 0 != 3 || t.state == .free || t.state.isFinal then s
    else
      let s1 := s.setTicket i { t with ledgered := false, stepPending := false }
      if t.stepPending then s1.stepCommitted i t.resTag t.resVal else s1)

/-- Both bolts are failing: staged records are dropped, and the tickets they carried fail with NO_JOURNAL (R386). -/
def State.noBolts (s : State) : State :=
  let l := s.jr.staging ++ s.jr.waiting
  let s0 := s.clearUnledgered
  let s1 : State := { s0 with jr := { s0.jr with noJournal := true, staging := [], waiting := [], phase := .off, toCopy := [], delta := [],
                                                 headRetried := false } }
  (s1.each l (fun s b => s.giveUp 0x12 b)).fullFails

/-- Bolt `k` becomes failing (R385); cause 1 program, 2 erase, with the SEQ of the failed record. -/
def State.boltFails (s : State) (k cause seq : Nat) : State :=
  let s1 := s.setBolt k { s.bolt k with failing := true }
  let both := (s1.bolt (1 - k)).failing
  let s2 := if both then s1.noBolts
    else if k = s.jr.active then s1.fullStart
    else ({ s1 with jr := { s1.jr with phase := .off, toCopy := [], delta := [], carry := 0 } }).fullFails
  ((s2.stage (.fail k cause seq)).event 0x0601 k ([cause] ++ evBytes 4 seq)).journalNote s

/-! ### Commands -/

/-- Whether the Weaver works on the journal (R83, R371, R377): it executes, the mount of this wake is over, and S4 has not ended. -/
def State.journalRuns (s : State) : Bool :=
  s.journalOn && s.weaverOn && (s.wakeAt == 0 || s.mountOver) && !(s.pstate == 6 && decide (5 ≤ s.sdStep))

/-- JOURNAL_RECORD_COMMIT (R367): the xSPI port programs records until S4 ends. -/
def execJournalRecordCommit (s : State) : Out := .next (if s.journalRuns then s.commitHead else s)

/-- STAGING_ROOM_FREED (R375). -/
def execStagingRoomFreed (s : State) : Out := .next (State.fillStaging s.jr.waiting.length s)

/-- The first record of a list that carries a step or an admission, taken out of it. -/
def State.takeCarrier (s : State) : List JBody → Option (JBody × List JBody)
  | [] => none
  | b :: t =>
    if (s.carrier b).isSome then some (b, t) else (s.takeCarrier t).map (fun r => (r.1, b :: r.2))

/-- JOURNAL_FULL_TIMEOUT (R383): the oldest record of a ticket without room for 1.5 ms; its ticket fails with JOURNAL_BUSY. -/
def execJournalFullTimeout (s : State) : Out :=
  .next (match s.jr.staging with
    | [] => s
    | b :: _ =>
      if s.roomFor b then s
      else
        match s.takeCarrier s.jr.staging, s.takeCarrier s.jr.waiting with
        | some (r, l), _ => ({ s with jr := { s.jr with staging := l } }).giveUp 0x13 r
        | none, some (r, l) => ({ s with jr := { s.jr with waiting := l } }).giveUp 0x13 r
        | none, none => s)

/-- What a failed program leaves of record `r` in bolt `k` (R367, R384): after a read-back difference all of it with one byte differing, after
a program failure in its page `page` a free part of the bytes up to the end of that page; it is not committed. -/
def State.failedWrite (s : State) (k : Nat) (r : JBody) (readback : Bool) (page : Nat) : State :=
  let d := s.drawWord
  let b := s.bolt k
  let len := 16 + r.len
  if readback then
    let bytes := recordBytes (b.lastSeq + 1) r
    let at' := d.1.toNat % len
    let bad := bytes.set at' ((bytes.getD at' 0) ^^^ BitVec.ofNat 8 (1 + d.1.toNat / 65536 % 255))
    (d.2.program (b.base + b.used) bad).setBolt k { b with erased := false }
  else d.2.tornWrite k r (d.1.toNat % min len (256 * (page + 1) - b.used % 256))

/-- The page boundary at which a record is written again (R384). -/
def rewriteAt (used : Nat) (r : JBody) (readback : Bool) (page : Nat) : Nat :=
  if readback then pageUp (used + r.size) else (used / 256 + page + 1) * 256

/-- A failed program of the record that fulling copies next: it is written again once, else the standby bolt is failing. -/
def State.copyFailure (s : State) (r : JBody) (readback : Bool) (page : Nat) : State :=
  let k := s.standbyBolt
  let b := s.bolt k
  let s1 := s.failedWrite k r readback page
  if s.jr.copyRetried then s1.boltFails k 1 (b.lastSeq + 1)
  else
    let s2 := s1.setBolt k { s1.bolt k with used := rewriteAt b.used r readback page }
    { s2 with jr := { s2.jr with copyRetried := true, carry := 0, programRetries := s.jr.programRetries + 1 } }

/-- A failed program of the record at the head of the staging area: it is written again once, else its bolt is failing. -/
def State.headFailure (s : State) (r : JBody) (rest : List JBody) (readback : Bool) (page : Nat) : State :=
  let a := s.jr.active
  let b := s.bolt a
  let s1 := s.failedWrite a r readback page
  if s.jr.headRetried then
    let s2 : State := { s1 with jr := { s1.jr with staging := rest, headRetried := false } }
    (s2.boltFails a 1 (b.lastSeq + 1)).giveUp (if (s.bolt (1 - a)).failing then 0x12 else 0x13) r
  else
    let s2 := s1.setBolt a { s1.bolt a with used := rewriteAt b.used r readback page }
    let s3 : State := { s2 with jr := { s2.jr with headRetried := true, programRetries := s.jr.programRetries + 1 } }
    if s3.roomFor r then s3 else s3.fullStart

/-- The record that fulling copies next. -/
def JournalState.nextCopy (j : JournalState) : Option JBody := (j.toCopy ++ j.delta).head?

/-- JOURNAL_PROGRAM_FAILURE (R384, R385) of the record at the head, or of the record of fulling's copy where `copy` holds: a read-back
difference, or a program failure in page `page` of the record. The first rewrites it, the second makes the bolt failing. -/
def execJournalProgramFailure (copy readback : Bool) (page : Fin 17) (s : State) : Out :=
  .next (if !s.journalRuns then s
    else if copy then
      (match s.jr.phase, s.jr.nextCopy with
       | .copying, some r => if s.inS4 then s else s.copyFailure r readback page
       | _, _ => s)
    else
      match s.jr.staging with
      | [] => s
      | r :: rest => if s.roomFor r then s.headFailure r rest readback page else s)

/-- Whether fulling goes on (R83, R377): S4 suspends it. -/
def State.fullingRuns (s : State) : Bool := s.journalRuns && !s.inS4

/-- JOURNAL_ERASE_FAILURE (R385): the erase in progress fails. -/
def execJournalEraseFailure (s : State) : Out :=
  .next (if !s.fullingRuns then s
    else match s.jr.phase with
    | .eraseStandby _ | .eraseOld _ | .eraseAgain _ => s.boltFails s.standbyBolt 2 0
    | _ => s)

/-- FULLING_PAGE_PROGRAM (R381): the slot of a copy page program; a staged record is a foreground request for the port. -/
def execFullingPageProgram (s : State) : Out :=
  .next (if s.jr.phase != .copying || !s.fullingRuns then s
    else
      let g := s.bgSlot 2 0 (match s.jr.staging with | b :: _ => s.roomFor b | [] => false)
      if g.1 then g.2.copyPage else g.2)

/-- FULLING_ERASE (R380): an erase of a 64 KiB block completes. -/
def execFullingErase (s : State) : Out := .next (if s.fullingRuns then s.eraseDone else s)

end Sys2Proof.Machine
end

