-- ==== Sys2Proof/Machine/Tickets.lean ====
section
/-! DEFINITION. The executors of tickets: starts and steps by type (R347, Table 06-2), the fan baseline, and the retirement of
orphans. -/
namespace Sys2Proof.Machine

/-! ### Starts -/

/-- FULL_NOW starts or joins fulling (R1117). -/
def State.fullNowStart (s : State) (i : Nat) : State :=
  let s1 : State := { s.fullStart with jr := { s.fullStart.jr with fullTicket := some i } }
  if s1.jr.phase = .off then s1.fullFails else s1

/-- SENT begins (R990): the request goes out by the port of the worker, or the ticket fails without one. -/
def State.gatewayStart (s : State) (i : Nat) : State :=
  let t := s.ticket i
  let w := paramAt t.params 0 1
  let msg : GwMsg := .request (paramAt t.params 1 4) (paramAt t.params 5 1) (paramAt t.params 6 1)
    (match t.data with | .bytes b :: _ => b | _ => [])
  match s.portOf w with
  | none => s.failTicket i 0x14
  | some p =>
    if s.glState p ≠ 2 then s.failTicket i 0x17
    else
      let s1 : State := { s with gl := { s.gl with answer := none } }
      (s1.setTicket i { t with data := [] }).glSend p ⟨w, 0, .data msg⟩

/-- A ticket that runs from now on, by its type. -/
def State.typeStart (s : State) (i : Nat) : State :=
  let t := s.ticket i
  if t.type = 5 then
    (if t.params.headD 0 = 1 then s.fullNowStart i
     else if t.params.headD 0 = 2 then s.setTicket i { t with params := 2 :: evBytes 4 (s.bolt s.jr.active).lastSeq }
     else s)
  else if t.type = 8 then s.cardStart i
  else if t.type = 0x0B then s.gatewayStart i
  else if t.type = 0x0C then { s with fan := { s.fan with pending := [], valid := [], discarded := 0 } }
  else s

/-- TICKET_EXECUTOR_START (R345, R347, R386): the ticket in slot `i` heads its type's queue, and its first record has committed. -/
def execTicketExecutorStart (i : Fin 128) (s : State) : Out :=
  let t := s.ticket i
  .next (if !s.mayStart i || !s.weaverOn then s
    else if t.ledgered && s.jr.noJournal then (s.failTicket i 0x12).settle i
    else if t.ledgered && !t.firstCommitted then s
    else if t.type = 1 ∧ t.ledgered then s.writeStart i
    else (s.setTicket i { t with state := .running }).typeStart i)

/-! ### Steps -/

/-- The snapshot of an OD_READ ticket (R295, R296): the values in member order, or the code of the first that cannot be read; a member whose
value a later write has replaced is in the ticket already (R347). -/
def State.snapshot (s : State) (c addr : Nat) : List (Nat × OdVal) → Nat × List OdVal × State
  | [] => (0, [], s)
  | (k, kept) :: rest =>
    let r := if kept = .scalar .nil 0 then s.odFetch c (k / 256) (k % 256) false addr else (0, some kept, s)
    match r.2.1 with
    | none => (r.1, [], r.2.2)
    | some v =>
      let t := State.snapshot r.2.2 c addr rest
      (t.1, v :: t.2.1, t.2.2)

/-- Whether an OD_READ ticket waits for an OD_WRITE that arrived before it and names one of its members (R347). -/
def State.readWaits (s : State) (i : Nat) : Bool :=
  let t := s.ticket i
  (List.range 128).any (fun j =>
    let w := s.ticket j
    w.type == 1 && (w.state == .queued || w.state == .running) && decide (w.order < t.order) &&
      w.members.any (fun e => t.members.any (fun m => m.1 == e.1)))

/-- The step of an OD_READ ticket: device time in it is of one instant (R266). -/
def State.stepRead (s : State) (i : Nat) : State :=
  let t := s.ticket i
  let s0 : State := { s with time := { s.time with snaps := s.time.snaps.set (0, 0) t.client (0, 0) } }
  let r := s0.snapshot t.client t.window t.members
  if s.readWaits i then s
  else if r.1 ≠ 0 then r.2.2.failTicket i r.1
  else (r.2.2.setTicket i { r.2.2.ticket i with data := r.2.1 }).stepDone i .uint t.members.length

/-- The members of area `a` that are restored to their defaults (R321): RWJ, and RWL while CONFIG_LOCK is false. -/
def State.restoreItems (s : State) (a : Nat) : Items :=
  (List.range 4096).flatMap (fun j =>
    let i := a * 4096 + j
    let subs := match s.odLast i with | none => [] | some none => [0] | some (some n) => (List.range n).map (· + 1)
    subs.filterMap (fun u =>
      match s.odSpec i u with
      | some m => if m.acc = .rwj ∨ (m.acc = .rwl ∧ !s.configLock) then some (odKey i u, m.dfltVal) else none
      | none => none))

/-- The step of a RESTORE_DEFAULTS ticket (R321): the defaults of the next area named are journaled, and take effect when the STEP record
commits (R383). Under a read-only mount nothing can be journaled (R95). -/
def State.stepRestore (s : State) (i : Nat) : State :=
  let t := s.ticket i
  let areas := (List.range 16).filter (bitOf (paramAt t.params 0 2))
  let a := areas.getD t.step 0
  let l := s.restoreItems a
  let s1 := (s.setTicket i { t with members := l }).each (packItems [] l) (fun s x => s.stage (.value 0 0 0 true x))
  let total := ((areas.take (t.step + 1)).map (fun b => (s.restoreItems b).length)).sum
  if s.jr.readOnly then s.failTicket i 0x11 else s1.stepDone i .uint total

/-- The step of a FUSE_PROGRAM ticket (R104): the program, in RUN and within Table 02-6, or the verify by double read. Of a program that
fails, a free part of the bits sets and stays set. -/
def State.stepFuse (s : State) (i : Nat) (failed : Bool) : State :=
  let t := s.ticket i
  let word := paramAt t.params 0 1
  let mask := paramAt t.params 1 4
  if s.pstate ≠ 4 ∨ (t.step = 0 ∧ !s.fuseAllows word mask) then s.failTicket i 0x0B
  else if t.step = 0 then
    let d := if failed then s.drawWord else (0xFFFFFFFF, s)
    ({ d.2 with fuse := (List.range 32).foldl (fun f k =>
        if bitOf (mask &&& d.1.toNat) k then setBit f (32 * word + k) true else f) s.fuse }).stepDone i .bool 1
  else if failed || (s.fuseField (32 * word) 32 &&& mask) != mask then s.failTicket i 0x0F
  else s.stepDone i .bool 1

/-- The result word of VERIFY (R1117): the committed records of the active bolt up to the SEQ at the start of the step. -/
def State.verifyCount (s : State) (i : Nat) : Nat :=
  (scanBolt s.flash (s.bolt s.jr.active).base s.jr.boltSize).countP (fun r => decide (r.2.seq ≤ paramAt (s.ticket i).params 1 4))

/-- Step 1 of CLEAR_FAILING: each failing bolt is erased. -/
def State.clearErase (s : State) (i : Nat) (failed : Bool) : State :=
  if failed then s.failTicket i 0x13
  else
    let s1 := s.each [0, 1] (fun s k => if (s.bolt k).failing then (s.boltErase k).setBolt k { base := (s.bolt k).base } else s)
    (s1.stepDone i .bool 0).journalNote s

/-- Step 2 of CLEAR_FAILING: the live state is copied into an erased bolt, and SWITCH commits (R1117). -/
def State.clearCopy (s : State) (i : Nat) : State :=
  let k := if s.jr.noJournal then (if s.jr.boltA.erased then 0 else 1) else s.standbyBolt
  let b := s.bolt k
  let g := (s.bolt (1 - k)).gen + 1
  let live := s.liveState g ++ s.gl.heldBack
  if s.jr.phase != .off ∧ !s.jr.noJournal then s
  else if b.failing ∨ !b.erased ∨ s.jr.boltSize < bodiesSize live + 32 then s.failTicket i 0x13
  else
    let s1 := s.each (live ++ [JBody.switch g]) (fun s r => s.boltWrite k r)
    let old := s1.bolt (1 - k)
    let s2 : State := { s1 with jr := { s1.jr with active := k, noJournal := false, fullings := s.jr.fullings + 1, retryFill := 0,
                                                   phase := if old.erased then .off else .eraseOld s.boltBlocks } }
    (s2.stepDone i .bool 1).journalNote s

/-- The next step of a JOURNAL_OP ticket (R402). A read-only mount writes nothing to the flash (R388): CLEAR_FAILING fails with SAFE_ROM
(DESIGN CHOICE, log entry 120). -/
def State.stepJournalOp (s : State) (i : Nat) (failed : Bool) : State :=
  let t := s.ticket i
  let op := t.params.headD 0
  if op = 1 then s.fullSync
  else if op = 2 then s.stepDone i .uint (s.verifyCount i)
  else if s.jr.readOnly then s.failTicket i 0x11
  else if t.step = 0 then s.clearErase i failed
  else s.clearCopy i

/-- The bytes that the segments of a download have brought. -/
def Ticket.bytes (t : Ticket) : List Byte := t.data.flatMap OdVal.data

/-- The hand-over of a DOMAIN_DOWN ticket (R341, R581): the image that its bytes spell; `im` gives what its sections of unstated layout
say. -/
def State.handOver (s : State) (i : Nat) (im : Option Image) : State :=
  let t := s.ticket i
  let bytes := paramAt t.params 0 4
  let im := im.map (fun x => { x with bytes := t.bytes })
  if t.step + 1 < t.steps then s
  else if s.pstate = 3 then
    ({ s with img := { s.img with hostImages := s.img.hostImages ++ [im] } }).stepDone i .uint bytes
  else ({ s with img := { s.img with staged := im } }).stepDone i .uint bytes

/-- The executor of the ticket in slot `i` finishes its next step. GATEWAY steps follow the links, CARDING steps the march and
FAN_BASELINE steps the windows. -/
def State.typeStep (s : State) (i : Nat) (f : StepFact) : State :=
  let t := s.ticket i
  let failed := f == .failed
  if t.type = 1 then (if t.ledgered then s else s.writeDone i)
  else if t.type = 2 then s.stepRead i
  else if t.type = 3 then s.handOver i (match f with | .image im => some im | _ => none)
  else if t.type = 5 then s.stepJournalOp i failed
  else if t.type = 6 then s.stepRestore i
  else if t.type = 7 then s.stepFuse i failed
  else if t.type = 9 then s.stepImage i failed
  else if t.type = 0x0A then s.stepLarge i
  else s

/-- TICKET_STEP_COMPLETE (R345). -/
def execTicketStepComplete (i : Fin 128) (f : StepFact) (s : State) : Out :=
  .next (if !s.stepOpen i || !s.weaverOn then s else (s.typeStep i f).settle i)

/-! ### Fan baseline (R905 to R907) -/

/-- The running FAN_BASELINE ticket whose step may go on. -/
def State.baselineTicket (s : State) : Option Nat :=
  match s.runningOf 0x0C with
  | some i => if s.stepOpen i then some i else none
  | none => none

/-- FAN_EFFORT_WINDOW (R906, R907): a window of 250 ms ends with its mean effort; `stable` says that speed stayed within ± 2 % of the
point for its last 125 ms. -/
def execFanEffortWindow (effort : Fin 65536) (stable : Bool) (s : State) : Out :=
  .next (match s.baselineTicket with
    | none => s
    | some i =>
      let rpm := s.pointRpm (s.ticket i).step
      let g := s.bgSlot 5 1 (decide (110 * rpm < 100 * s.fanDemand))
      let f := g.2.fan
      if !g.1 then g.2
      else if !stable then
        (if 31 ≤ f.discarded then ({ g.2 with fan := { f with discarded := f.discarded + 1 } }).failTicket i 0x0B
         else { g.2 with fan := { f with discarded := f.discarded + 1 } })
      else
        let l := f.valid ++ [effort.val]
        if l.length < 8 then { g.2 with fan := { f with valid := l } }
        else
          let point := rpm * 65536 + l.sum / 8 % 65536
          let pend := f.pending ++ [point]
          let s1 : State := { g.2 with fan := { f with valid := [], discarded := 0, pending := pend } }
          if pend.length < 8 then s1.stepDone i .uint 8
          else
            let items := ((List.range 8).zip pend).map (fun e => (odKey 0x5011 (e.1 + 1), OdVal.scalar .uint e.2))
            let s2 := s1.stage (.value 0 0 0 true items)
            if (s2.ticket i).ledgered then s2.stepDone i .uint 8 else s2.baselineIn.stepDone i .uint 8)

/-! ### Orphans -/

/-- ORPHAN_AUTO_RETIRE (R359): ORPHAN_HOLD_S has passed since the mount. -/
def execOrphanAutoRetire (i : Fin 128) (s : State) : Out :=
  .next (if (s.ticket i).orphan ∧ (s.ticket i).state.isFinal ∧ s.passed .mount (s.odN 0x2400 5 600 * 1000 * msCycles) then s.retireTicket i
    else s)

end Sys2Proof.Machine
end

