-- ==== Sys2Proof/Machine/Mount.lean ====
section
/-! DEFINITION. The journal mount in W8 (R368 to R373, R355 to R359, R382, R387, R388). -/
namespace Sys2Proof.Machine

/-- Whether a bolt qualifies (R368): it begins with a BOLT_HEAD and holds a SWITCH of its generation. -/
def Bolt.qualifies (b : Bolt) : Bool :=
  match b.recs with
  | ⟨_, .boltHead g⟩ :: t => t.any (fun r => r.body == .switch g)
  | _ => false

/-- The bolt that the mount selects (R368). -/
def State.mountBolt (s : State) : Option Nat :=
  let a := s.jr.boltA
  let b := s.jr.boltB
  if a.qualifies && (!b.qualifies || decide (b.gen ≤ a.gen)) then some 0 else if b.qualifies then some 1 else none

/-- The values of a scan in SEQ order, by write: a multi-record OD_WRITE counts only with its LAST record (R371), and one whose FINAL record
says that it failed does not. `part` holds the items of writes whose LAST has not been met; a write that is retired keeps its values
under handle 0. -/
def scanWrites : List JRec → List (Nat × Items) → List (Nat × Items) → List (Nat × Items)
  | [], _, acc => acc
  | r :: t, part, acc =>
    match r.body with
    | .value h k _ last items =>
      let all := (if k ≤ 1 then [] else (part.lookup h).getD []) ++ items
      let rest := part.filter (fun e => e.1 != h)
      if last then scanWrites t rest (acc ++ [(h, all)]) else scanWrites t ((h, all) :: rest) acc
    | .final h .failed _ _ _ => scanWrites t part (acc.filter (fun e => e.1 != h))
    | .retire h => scanWrites t part (acc.map (fun e => if e.1 = h then (0, e.2) else e))
    | _ => scanWrites t part acc

/-- The values of a scan in SEQ order. -/
def scanValues (l : List JRec) : Items := (scanWrites l [] []).flatMap (·.2)

/-- The newest MOUNT_SEQ of a scan, 0 where there is none. -/
def scanMount (l : List JRec) : Nat := l.foldl (fun n r => match r.body with | .mount q => q | _ => n) 0

/-- A ticket of handle `h` as its first record gives it (R356). -/
def scanBase (h : Nat) : Ticket :=
  { client := h / 2 ^ 24, gen := h / 2 ^ 8 % 2 ^ 16, ledgered := true, firstStaged := true, firstCommitted := true, state := .indoubt,
    resTag := .uint }

/-- What a record says of the tickets that a scan has met so far, by handle in the order of their first records: a ticket whose slot a
later first record claims is dropped, and so is one that is retired (R356). -/
def scanTicket (l : List (Nat × Ticket)) (r : JBody) : List (Nat × Ticket) :=
  let put (h : Nat) (t : Ticket) : List (Nat × Ticket) := l.filter (fun e => e.1 % 128 != h % 128) ++ [(h, t)]
  let change (h : Nat) (f : Ticket → Ticket) : List (Nat × Ticket) := l.map (fun e => if e.1 = h then (h, f e.2) else e)
  match r with
  | .admission h type n p => put h { scanBase h with type := type, steps := n, params := p }
  | .value h k n _ items =>
    let step (t : Ticket) : Ticket :=
      let m := t.members ++ items
      { t with type := 1, steps := n, step := k, members := m, state := if k = n then .done else .indoubt,
               resVal := if k = n then m.length else k }
    if h = 0 then l else if k = 1 then put h (step (scanBase h)) else change h step
  | .step h k tag v =>
    change h (fun t => if t.steps ≤ k then { t with step := k, state := .done, resTag := tag, resVal := v }
      else { t with step := k, resVal := k })
  | .final h st code tag v => change h (fun t => { t with state := st, code := code, resTag := tag, resVal := v, finalCommitted := true })
  | .retire h => l.filter (fun e => e.1 != h)
  | _ => l

/-- The tickets that a scan restores (R356). -/
def scanTickets (l : List JRec) : List (Nat × Ticket) := l.foldl (fun a r => scanTicket a r.body) []

/-- Restore the ledger (R356, R359): a ticket of a context other than C1 to C3, or of a DISABLED one, is an orphan. -/
def State.restoreLedger (s : State) (l : List JRec) : State :=
  let s1 := s.each (scanTickets l) (fun s e =>
    let orphan := !(within 1 3 e.2.client) || (s.ctx e.2.client).state == .disabled
    let s1 := s.setTicket (e.1 % 128) { e.2 with orphan := orphan, order := s.tk.nextOrder }
    { s1 with tk := { s1.tk with nextOrder := s.tk.nextOrder + 1 } })
  if (List.range 128).any (fun i => (s1.ticket i).state == .indoubt && (s1.ticket i).client == 1) then s1.intBit 1 else s1

/-- Entries whose action rests on other members of the same unit take effect last. -/
def lateKey (k : Nat) : Bool := [0x6050, 0x5009, 0x9008].contains (k / 256) || within 0x4018 0x401B (k / 256)

/-- The newest value of each key, in the order in which these were written. -/
def newest : Items → Items
  | [] => []
  | e :: t => if t.any (fun x => x.1 == e.1) then newest t else e :: newest t

/-- One journaled value takes effect, beside the values `l` that still stand to be taken or have been (R289, R335): a value that does not
fit, or that lies outside the limits, is counted and leaves its entry at its default. -/
def State.takeValue (p : Items × State) (e : Nat × OdVal) : Items × State :=
  if rawKey e.1 then (p.1, p.2.rawTake e.1 e.2.num)
  else
    match p.2.odSpec (e.1 / 256) (e.1 % 256) with
    | some m =>
      if m.fits e.2 && p.2.limitsOk p.1 (e.1 / 256) (e.1 % 256) e.2 then (p.1, p.2.odApply 0 e.1 e.2)
      else (p.1.filter (fun x => x.1 != e.1), p.2.reverted)
    | none => p

/-- The journaled values take effect (R15, R289, R371): one that names no JOURNAL entry is dropped, values of area 0xA are kept for
R1049. -/
def State.takeValues (s : State) (l : Items) : State :=
  let kept := l.filter (fun e => rawKey e.1 || within 0xA000 0xAFFF (e.1 / 256) ||
    ((s.odSpec (e.1 / 256) (e.1 % 256)).map (·.jrnl)).getD false)
  let now := (newest kept).filter (fun e => !within 0xA000 0xAFFF (e.1 / 256))
  ((now.filter (fun e => !lateKey e.1) ++ now.filter (fun e => lateKey e.1)).foldl State.takeValue (now, s.jvalPut kept)).2

/-- JOURNAL entries whose listed default differs from the reset value of their register field (Tables 11-8, 12-11, 14-5), or whose
field is kept and is copied again at every W8 (R123, R897): each stands at its default before the journaled values apply. -/
def State.w8Defaults (s : State) : State :=
  let s1 := s.each (List.range 4) (fun s g =>
    ((s.wr (Reg.PWM_G_CFG_EQ_EN.at g) 1).wr (Reg.PWM_G_CFG_DE_EN.at g) 1).wr (Reg.PWM_G_CFG_PSKIP.at g) 1)
  let s2 := (s1.each (List.range 6) (fun s p => s.wr (Reg.MAC_CFG_MODE.at p) (if p = 4 || s.netsOff then 0 else 1))).wr
    Reg.LOOM_CTRL_EN (b2n !s.netsOff)
  let s3 := (((({ s2 with loom := { s2.loom with t1lDown := s2.cycle } }).wr Reg.BACKUP_WAKECFG_W4_LIMP 1).wr Reg.BACKUP_WAKECFG_AFTER_SD_WAKE 1).wr Reg.BACKUP_WAKECFG_WSRC_EN 0xFF).wr
    Reg.FAN_FALLBACK_FALLBACK_DUTY 600
  s3.each (List.range 16) (fun s k =>
    ((s.wr (Reg.BOBBIN_F_CFG_PORTS.at k) 0x1FF).wr (Reg.BOBBIN_F_CFG_DIR.at k) 3).wr (Reg.BOBBIN_F_CFG_VERDICT.at k) 0x1F)

/-- EPOCH of a wake that writes no MOUNT record (R340). -/
def State.wakeEpoch (s : State) : Nat := (s.rd Reg.BACKUP_WAKEREC1_WAKE_COUNT + 1) % 64

/-- A format failure makes bolt `k` failing (R368, R385): cause 1 program of its BOLT_HEAD, 2 erase. -/
def State.formatFails (s : State) (k cause : Nat) : State :=
  let seq := if cause = 1 then 1 else 0
  let s1 := s.setBolt k { base := (s.bolt k).base, failing := true, erased := false }
  (s1.stage (.fail k cause seq)).event 0x0601 k (cause :: evBytes 4 seq)

/-- A formatted bolt: erased, with BOLT_HEAD and SWITCH of generation 1, and active. -/
def State.formatBolt (s : State) (k : Nat) : State :=
  let s1 := ((s.boltErase k).boltWrite k (.boltHead 1)).boltWrite k (.switch 1)
  { s1 with jr := { s1.jr with active := k } }

/-- The format of an empty journal (R368): into bolt A, or into B where A fails; NO_JOURNAL where both fail. `failA` and `failB` are 0, or
the cause of a failure. -/
def State.format (s : State) (failA failB : Nat) : State :=
  if failA = 0 then
    let s1 := s.formatBolt 0
    if failB = 2 then s1.formatFails 1 2 else (s1.boltErase 1).setBolt 1 { base := (s.bolt 1).base }
  else if failB = 0 then (s.formatBolt 1).formatFails 0 failA
  else
    let s1 : State := { s with jr := { s.jr with noJournal := true, staging := [], waiting := [], epoch := s.wakeEpoch } }
    (s1.formatFails 0 failA).formatFails 1 failB

/-- What the mount applies of the active bolt (R371). -/
def State.mountApply (s : State) (l : List JRec) : State :=
  let s1 := (s.takeValues (scanValues l)).restoreLedger l
  let fix (f : State → Nat → Nat → Nat → Nat → State) (s : State) (r : JRec) : State :=
    match r.body with | .repair b row k a => f s b row k a | _ => s
  let s2 := (s1.each l (fix State.applyRepair)).each l (fix State.remapRepair)
  let evs := (l.filterMap (fun r => match r.body with | .event e => some e | _ => none)).reverse
  { s2 with tk := { s2.tk with ring := (s2.tk.ring ++ evs).take 256 } }

/-- The MOUNT record waits for the bolt that fulling makes active (R383, R384). -/
def State.mountWaits (s : State) (seq : Nat) : State :=
  ({ s with jr := { s.jr with staging := .mount seq :: s.jr.staging } }).fullStart

/-- The MOUNT record is programmed where the active bolt has room for it, else it waits. -/
def State.mountCommit (s : State) (seq : Nat) : State :=
  if s.roomFor (.mount seq) then s.boltWrite s.jr.active (.mount seq) else s.mountWaits seq

/-- A failed program of the MOUNT record; the rewrite begins at the next page (R384). -/
def State.mountTorn (s : State) (seq : Nat) : State :=
  let a := s.jr.active
  let s1 := s.failedWrite a (.mount seq) false 0
  let s2 := s1.setBolt a { s1.bolt a with used := rewriteAt (s.bolt a).used (.mount seq) false 0 }
  { s2 with jr := { s2.jr with programRetries := s2.jr.programRetries + 1 } }

/-- The MOUNT record (R371): LAST_STOP, MOUNT_SEQ and EPOCH. `fails` counts the failed programs of it: after two its bolt becomes failing.
The erase of the other bolt is completed (R382). -/
def State.mountWrite (s : State) (fails : Nat) : State :=
  let a := s.jr.active
  let b := s.bolt a
  let seq := scanMount b.recs + 1
  let stop := match b.recs.getLast? with
    | some ⟨_, .shutdown _ _ _⟩ | some ⟨_, .resume _ _⟩ => 0
    | _ => 1
  let s1 : State := { s with jr := { s.jr with mountSeq := seq, epoch := seq % 64, lastStop := stop,
                                               phase := if (s.bolt (1 - a)).erased then .off else .eraseOld s.boltBlocks } }
  if !s1.roomFor (.mount seq) ∨ fails = 0 then (s1.mountCommit seq).fullCheck
  else if fails = 1 then ((s1.mountTorn seq).mountCommit seq).fullCheck
  else ((s1.mountTorn seq).failedWrite a (.mount seq) false 0).boltFails a 1 (b.lastSeq + 1)

/-- The bolts as the boot record places them and the flash holds them (R364, R368, R369, R569). -/
def State.findBolts (s : State) : State :=
  let r := s.bootRecord
  { s with jr := { s.jr with boltA := boltOf s.flash r.baseA r.size, boltB := boltOf s.flash r.baseB r.size, boltSize := r.size } }

/-- JOURNAL_MOUNT (R371, R387, R388). `failA` and `failB` say that a program (1) or an erase (2) of the format fails in bolt A or B,
`mountFails` how often the program of the MOUNT record fails. -/
def execJournalMount (failA failB mountFails : Fin 3) (s : State) : Out :=
  let s1 := s.w8Defaults.fusesOnce
  .next (if s.wakeAt ≠ 8 ∨ s.mountOver ∨ !s.weaverOn then s
    else State.mark (m := .mount) <| State.startMarchHeld <| if !s.jr.answersSfdp then
      ({ s1 with jr := { s1.jr with noJournal := true, staging := [], waiting := [], epoch := s.wakeEpoch, lastStop := 1 } }).journalNote s
    else
      let s2 := s1.findBolts
      if s.safeRom then
        let a := s2.mountBolt.getD 0
        let l := if s2.mountBolt.isSome then (s2.bolt a).recs else []
        let s3 : State := { s2 with jr := { s2.jr with readOnly := true, active := a, staging := [], waiting := [],
                                                       mountSeq := scanMount l, epoch := s.wakeEpoch, lastStop := 1 } }
        (s3.mountApply l).journalNote s
      else
        match s2.mountBolt with
        | some a =>
          let s3 : State := { s2 with jr := { s2.jr with active := a } }
          ((s3.mountApply (s3.bolt a).recs).mountWrite mountFails).journalNote s
        | none =>
          let s3 := s2.format failA failB
          (if s3.jr.noJournal then { s3 with jr := { s3.jr with lastStop := 1 } } else s3.mountWrite mountFails).journalNote s)

end Sys2Proof.Machine
end

