-- ==== Sys2Proof/Machine/Wake.lean ====
section
/-! DEFINITION. The end of wake step W8: the Weaver firmware, the images of the image set, and the entry to RUN or LIMP (chapters 02
and 09). -/
namespace Sys2Proof.Machine

/-- The detail of a Weaver firmware image (Table 09-6), 0 where it is accepted. -/
def State.firmwareDetail (s : State) (im : Option Image) : Nat :=
  match im with
  | none => 0x0E
  | some im =>
    let d := s.imageDetail im (· == 1)
    if d ≠ 0 then d else if im.sigOk then 0 else 4

/-- The verified firmware is placed and runs; WEAVER_FROM is 0 primary, 1 fallback, 2 host, 3 manager (Table 09-14). -/
def State.firmwareFrom (s : State) (im : Option Image) (src : Nat) : State :=
  match im with
  | none => s
  | some im =>
    let s1 := s.putCode 0x1A im.weaverCode
    { s1 with img := { s1.img with weaverVersion := im.build, weaverFrom := src }, pow := { s1.pow with firmwareOk := true } }

/-- WEAVER_FIRMWARE_VERIFY (R571, R570, R115). -/
def execWeaverFirmwareVerify (s : State) : Out :=
  let prim := s.img.store.get none s.imgTable.primary
  let back := s.img.store.get none s.imgTable.fallback
  .next (if s.wakeAt ≠ 8 || s.safeRom || s.pow.firmwareOk || !s.mountOver then s
    else if s.boot = 0 then
      (if s.tableInUse.isNone then s.wakeFail 8
       else
        let d := s.firmwareDetail prim
        if d = 0 then s.firmwareFrom prim 0
        else if s.firmwareDetail back = 0 then (s.firmwareFrom back 1).event 0x0903 0xFF [d]
        else s.wakeFail 8)
    else
      match s.img.hostImages with
      | [] => s
      | im :: _ => if s.firmwareDetail im = 0 then s.firmwareFrom im (s.boot + 1) else s.wakeFail 8)

/-- The image for slot `k` with the code of its STORE field, none where the set names none (R570, R571). -/
def State.setImage (s : State) (k : Nat) : Option (Nat × Option Image) :=
  if s.boot = 0 then
    let slot := s.imgSet (s.odN 0x2200 1 (s.strap 0 3)) / 256 ^ k % 256
    if slot = 0xFF then none else some (slot, s.img.store.get none slot)
  else ((s.img.hostImages.drop 1).getD k none).map (fun im => (16, some im))

/-- Whether the images of the set are at hand: the host has ended the set, or all four are there (R571). -/
def State.setReady (s : State) : Bool :=
  s.boot == 0 || decide (5 ≤ s.img.hostImages.length) || (s.boot == 1 && (s.img.hostImages.drop 1).any Option.isNone)

/-- The images of the set are loaded into their slots, without a ticket (R572). -/
def State.loadSet (s : State) : State :=
  s.each (List.range 4) (fun s k =>
    match s.setImage k with
    | none => s
    | some (src, im) =>
      let r := s.loadNow k src im
      if r.1 = 0 then r.2 else r.2.event 0x0902 k [src, r.1])

/-- The companion sequencer writes WAKEREC0 and counts the wake (R124). -/
def State.wakeRecord (s : State) : State :=
  let c := s.wakeCause (decide (1 < s.pow.attempt))
  let s1 := ((s.wr Reg.BACKUP_WAKEREC0_RCAUSE c).wr Reg.BACKUP_WAKEREC0_WFAIL_STEP 0).wr Reg.BACKUP_WAKEREC0_ATTEMPTS s.pow.attempt
  ((s1.wr Reg.BACKUP_WAKEREC0_WSRC s.pow.wsrc).inc Reg.BACKUP_WAKEREC1_WAKE_COUNT).wr Reg.SYS_RSTCAUSE_CAUSE c

/-- LIMP_ALLOWED for the next wake (R119): the accepted BOOT strap is not 0b11, and the lifecycle is OEM or FIELD. -/
def State.limpAllowed (s : State) : Bool := s.strap 6 2 != 3 && decide (2 ≤ s.lifecycle) && decide (s.lifecycle < 4)

/-- W8 completes and the device enters RUN (Table 02-10, R119, R124, R958, R982): the Treadle and the enumeration start. -/
def State.enterRun (s : State) : State :=
  let s1 := s.wakeRecord.wr Reg.BACKUP_WAKECFG_LIMP_ALLOWED (b2n s.limpAllowed)
  let s2 : State := { s1 with pow := { s1.pow with firstPower := false, lastTrigger := 0, faultN := false,
                                                   vhvFailArmed := s1.pow.vhvAbove9 } }
  ((((((s2.treadleStart.powerTo 4).mark .run).backupW8).postResumed).enumStart).copyWake 0).copyWake 1

/-- The Weaver part of W8 ends in LIMP (R120, R126). -/
def State.enterLimp (s : State) : State :=
  let s1 := (s.wr Reg.BACKUP_WAKECFG_LIMP_ALLOWED (b2n s.limpAllowed)).powerTo 5
  { s1 with pow := { s1.pow with limp := false, vhvFailArmed := s1.pow.vhvAbove9 } }

/-- IMAGE_SET_LOAD (R572, R109): the images are loaded, and W8 completes. The safe ROM (R95) and LIMP (R121) load none. -/
def execImageSetLoad (s : State) : Out :=
  .next (if s.wakeAt ≠ 8 || !s.mountOver || !(s.pow.firmwareOk || s.safeRom) then s
    else if s.pow.limp then s.enterLimp
    else if s.safeRom then s.enterRun
    else if s.setReady then s.loadSet.enterRun
    else s)

end Sys2Proof.Machine
end

