-- ==== Sys2Proof/Machine/Grilor.lean ====
section
/-! DEFINITION. Commands of the Grilor links, the hierarchy and the twins (chapter 17). -/
namespace Sys2Proof.Machine

/-! ### Receipt (R973 to R976) -/

/-- Receipt of a frame (R974): a link that is not UP takes none; a bad CRC or a frame out of order is discarded and answered by NAK; else its
ACKSEQ counts, it is acknowledged and delivered by `f`. -/
def State.glRecv (s : State) (h : GHead) (f : State → State) : State :=
  let i := h.link.val
  let l := s.glink i
  if s.glState i ≠ 2 then s
  else if !h.crcOk then (s.wrIf (decide (i < 2)) (Reg.GL_STAT_CRC_ERR.at i) 1).ctlSend i true
  else if h.seq.toNat ≠ l.rxNext then s.ctlSend i true
  else f (((s.setGlink i { l with rxNext := (l.rxNext + 1) % 256 }).ackTo i h.ack.toNat).ctlSend i false)

/-- Whether a frame with DST `d` is for this node (Table 17-3). -/
def State.forMe (s : State) (d : Nat) : Bool := d == 0xFF || (if s.role = 2 then s.myId != 0 && d == s.myId else d == 0)

/-- A worker with an upstream forwards a frame from link `i` by its other chain link (R976, R980). -/
def State.glForward (s : State) (i : Nat) (f : GFrame) : State :=
  if s.role ≠ 2 ∨ s.gl.upstream.isNone then s
  else
    match otherPort i with
    | some j => s.glSend j f
    | none => s

/-- A frame to one node is delivered there and forwarded elsewhere; a frame to every node is both. -/
def State.glDeliver (s : State) (h : GHead) (b : GBody) (f : State → State) : State :=
  let d := h.dst.toNat
  let s1 := if s.forMe d then f s else s
  if s.forMe d && d != 0xFF then s1 else s1.glForward h.link ⟨d, h.src.toNat, b⟩

/-! ### Links -/

/-- Whether the role uses link `i` (R977, Table 17-4). -/
def State.portUsed (s : State) (i : Nat) : Bool :=
  s.glRuns && (if i = 0 then s.role != 1 || s.ring
    else if i = 1 then s.role != 3 || s.owner
    else s.on (Reg.GE_STAT_EN.at (i - 2)) && (s.role == 2 || s.managing))

/-- BLOCK_LOCK (Table 17-2): of a chain link; a virtual link locks by KEEPALIVE. -/
def execBlockLock (i : Fin 2) (s : State) : Out := .next (if s.glState i = 0 && s.portUsed i then (s.mark (.glLock i)).glTo i 1 else s)

/-! ### Twins: mirror (R1005) -/

/-- Set the mirror state: 0 LOST, 1 SYNCING, 2 MIRRORING. -/
def State.mirrorTo (s : State) (m : Nat) : State := s.wr Reg.GRILOR_TWIN_MIRROR m

/-- The owner acknowledges on local commit alone from now on (R1005): effects that waited for a MIRROR_ACK are released. -/
def State.releaseHeld (s : State) : State :=
  let l := s.gl.heldBack
  ({ s with gl := { s.gl with mirrorOut := [], heldBack := [] } }).each l State.recordEffect

/-- The mirror is LOST. -/
def State.mirrorLost (s : State) : State := (s.mirrorTo 0).releaseHeld

/-- The owner enters SYNCING: it sends its live state as fulling copies it (R380, R1005). -/
def State.mirrorStart (s : State) : State :=
  let s1 := (s.mirrorTo 1).releaseHeld
  s1.each (s1.liveState (s1.bolt s1.jr.active).gen) (fun s b => s.glSend 0 ⟨0xFF, 0, .mirror (.record b)⟩)

/-- A claim of TWIN_OWN (Table 17-5): OWNER, with the mirror SYNCING or LOST. The chain start and the branches are driven from now on, and a
walk begins. -/
def State.claim (s : State) (sync : Bool) : State :=
  let s1 := ((s.wr Reg.GRILOR_TWIN_STATE 2).ownDrive true).fanHold false
  let s2 : State := { s1 with gl := { s1.gl with handover := false, loaded := false, good := 0 } }
  (if sync then s2.mirrorStart else s2.mirrorLost).enumStart

/-- STANDBY with a mirror state. -/
def State.standBy (s : State) (m : Nat) : State :=
  let s1 := (s.wr Reg.GRILOR_TWIN_STATE 1).mirrorTo m
  { s1 with gl := { s1.gl with loaded := false, good := 0 } }

/-- What INIT decides once the peer is heard (Table 17-5). -/
def State.twinInit (s : State) : State :=
  match s.gl.peerSide with
  | none => s
  | some side =>
    if s.role ≠ 3 ∨ s.rd Reg.GRILOR_TWIN_STATE ≠ 0 ∨ s.glState 0 ≠ 2 then s
    else if side = s.strap 5 1 then
      (if s.on Reg.GRILOR_TWIN_SIDE_CONFLICT then s else (s.wr Reg.GRILOR_TWIN_SIDE_CONFLICT 1).event 0x1108 0 [])
    else if s.gl.peerState = 2 then s.standBy 1
    else if s.peerHolds then s
    else if s.strap 5 1 = 0 then s.claim true
    else s.standBy (s.rd Reg.GRILOR_TWIN_MIRROR)

/-- The mirrored tickets of the old owner (R1007): each keeps its slot and becomes an orphan of C0, INDOUBT where it was not final. -/
def State.takeTickets (s : State) : Nat × State :=
  let l := s.gl.mirrored.map (fun b => (⟨0, b⟩ : JRec))
  let ts := (scanTickets l).map (fun e => (e.1 % 128, e.2))
  (ts.countP (fun t => t.2.state == .indoubt),
   s.each ts (fun s t =>
    ({ s with tk := { s.tk with nextOrder := s.tk.nextOrder + 1 } }).setTicket t.1 { t.2 with orphan := true, order := s.tk.nextOrder }))

/-- A takeover (R1007): the line is driven and the holds lift, tickets, time, event and the Weaver's threads, groups. -/
def State.takeover (s : State) : State :=
  let m := s.rd Reg.GRILOR_TWIN_MIRROR
  let s1 := (s.wr Reg.GRILOR_TWIN_STATE 2).ownDrive true
  let r := (s1.fanHold false).takeTickets
  let s2 : State := { r.2 with gl := { r.2.gl with handover := false, mirrored := [], loaded := false, good := 0 } }
  let s3 := ((s2.domStateWrite 0 3).odInc 0x9010 6 4294967295).event 0x1105 0 [m, min r.1 255]
  let s4 := s3.interruptWeaver.each (List.range 4) State.grTryStart
  (if s4.glState 0 = 2 then s4.mirrorStart else s4.mirrorLost).enumStart

/-- Whether three misses let a standby take over (Table 17-5, R1004). -/
def State.missTakes (s : State) : Bool :=
  s.standby && s.rd Reg.GRILOR_TWIN_HB_MISSES == 3 && !s.peerHolds &&
    (s.rd Reg.GRILOR_TWIN_MIRROR == 2 || s.odN 0x9010 7 1 == 1)

/-! ### Link commands -/

/-- A booting worker asks for the set of its IMG strap over its first link to reach UP (R981). -/
def State.bootAsk (s : State) (i : Nat) : State :=
  let first := (List.range 10).all (fun j => j == i || s.glState j != 2)
  if s.role = 2 ∧ s.boot = 2 ∧ s.wakeAt = 8 ∧ first ∧ s.img.hostImages.isEmpty then
    s.glSend i ⟨0, s.myId, .boot (.request (s.strap 0 3))⟩
  else s

/-- What the return of GL0 does in a twin (R1005). -/
def State.mirrorUp (s : State) (i : Nat) : State :=
  if s.role ≠ 3 ∨ i ≠ 0 then s
  else if s.owner then s.mirrorStart
  else if s.standby then s.mirrorTo 1
  else s

/-- GRILOR_LINK_UP (Table 17-2), of a chain link within 1 ms of its lock: sequence numbers 0, the replay buffer empty, event 0x1101; a chain
that changes is enumerated (R982). -/
def execGrilorLinkUp (i : Fin 10) (s : State) : Out :=
  let again := (s.glink i).wasUp && decide (i.val < 2)
  let s1 := (s.glTo i 2).setGlink i { wasUp := true }
  let s2 := (if again then s1.inc (Reg.GL_STAT_RETRAINS.at i) else s1).event 0x1101 i [2]
  .next (if s.glState i ≠ 1 ∨ !s.portUsed i ∨ (i.val < 2 ∧ s.passed (.glLock i) (msCycles + 1)) then s
    else ((s2.bootAsk i).mirrorUp i).enumStart)

/-- GRILOR_LINK_DOWN (Table 17-2): block lock is lost for 1 µs. -/
def execGrilorLinkDown (i : Fin 10) (s : State) : Out := .next (s.glDown i)

/-- ACK (R974). -/
def execGlAck (i : Fin 10) (ack : Byte) (crcOk : Bool) (s : State) : Out :=
  .next (if s.glState i ≠ 2 then s
    else if !crcOk then (s.wrIf (decide (i.val < 2)) (Reg.GL_STAT_CRC_ERR.at i) 1).ctlSend i true
    else s.ackTo i ack.toNat)

/-- NAK (R974): every frame after ACKSEQ is replayed. -/
def execGlNak (i : Fin 10) (ack : Byte) (crcOk : Bool) (s : State) : Out :=
  .next (if s.glState i ≠ 2 then s
    else if !crcOk then (s.wrIf (decide (i.val < 2)) (Reg.GL_STAT_CRC_ERR.at i) 1).ctlSend i true
    else (s.ackTo i ack.toNat).glReplay i)

/-- REPLAY_TIMEOUT (R974, R977): the oldest frame has waited 10 µs, 2 ms on a virtual link. -/
def execReplayTimeout (i : Fin 10) (s : State) : Out :=
  .next (if s.glState i = 2 ∧ (s.glink i).sent.headD 0 + (if i.val < 2 then 30000 else 2 * msCycles) ≤ s.cycle then s.glReplay i else s)

/-- KEEPALIVE (R977): it stands for block lock of an enabled virtual link. -/
def execGlKeepalive (k : Fin 8) (h : GHead) (s : State) : Out :=
  let i := k.val + 2
  .next (if !s.portUsed i then s
    else if s.glState i = 0 then (s.mark (.alive k)).glTo i 1
    else s.glRecv { h with link := Fin.ofNat 10 i } (fun s => s.mark (.alive k)))

/-- KEEPALIVE_SEND (R977). -/
def execKeepaliveSend (k : Fin 8) (s : State) : Out := .next (s.glSend (k + 2) ⟨0xFF, s.myId, .keepalive⟩)

/-- KEEPALIVE_TIMEOUT (R977): three intervals of 10 ms without one. -/
def execKeepaliveTimeout (k : Fin 8) (s : State) : Out := .next (if s.passed (.alive k) (30 * msCycles) then s.glDown (k + 2) else s)

/-! ### Delay (R992) -/

/-- The delay of link `i` in 1/32 ns: the mean of its last exchanges. -/
def State.linkDelay (s : State) (i : Nat) : Nat :=
  let l := (s.glink i).delays
  if l.isEmpty then 0 else l.sum / l.length

/-- DELAY_MEASUREMENT (R992). -/
def execDelayMeasurement (i : Fin 10) (s : State) : Out :=
  let s1 := s.glSend i ⟨0xFF, s.myId, .delayReq⟩
  .next (if s.glState i ≠ 2 then s else s1.setGlink i { s1.glink i with reqCycle := some s.cycle })

/-- DELAY_REQ (R992): the answer carries the turnaround in 1/3 ns. -/
def execDelayReq (h : GHead) (turnaround : Word) (s : State) : Out :=
  .next (s.glRecv h (fun s => s.glSend h.link ⟨0xFF, s.myId, .delayResp turnaround.toNat⟩))

/-- DELAY_RESP (R992): half of the round trip, in SCLK cycles of 1/3 ns, less the peer's turnaround is the delay, kept in 1/32 ns. -/
def execDelayResp (h : GHead) (turnaround : Word) (s : State) : Out :=
  let i := h.link.val
  .next (s.glRecv h (fun s =>
    let l := s.glink i
    match l.reqCycle with
    | none => s
    | some c =>
      let s1 := s.setGlink i { l with reqCycle := none, delays := ((s.cycle - c - turnaround.toNat) * 16 / 3 :: l.delays).take 8 }
      if i < 2 then s1.wr (Reg.GL_DELAY_DELAY.at i) (s1.linkDelay i) else s1))

/-! ### Time and angle (R993 to R997, R1006) -/

/-- SYNC_SEND (R993). -/
def execSyncSend (s : State) : Out :=
  .next (if !s.managing || !s.running || s.odN 0x9000 8 1 != 1 then s
    else s.each s.downPorts (fun s i => s.glSend i ⟨0xFF, 0, .sync (clockSec s.time.dt) (clockSub s.time.dt) 0⟩))

/-- Whether the Grilor distribution writes this device's TDA from SYNC on link `i` (R994, R1006). -/
def State.syncWrites (s : State) (i : Nat) : Bool :=
  s.running && ((s.role == 2 && s.odN 0x9000 8 1 == 1 && s.gl.upstream == some i) || (s.standby && i == 0))

/-- The servo of TDA at a SYNC that puts the manager's device time at `t` (R994). The PI law's gains are not stated: RATE is a free
value. -/
def State.syncServo (s : State) (t : Nat) : State :=
  if !s.gl.loaded then
    let s1 := (s.domMove 0 t).domStateWrite 0 1
    { s1 with gl := { s1.gl with loaded := true, good := 0 } }
  else
    let off : Int := (s.time.tda : Int) - t
    let ns (n : Nat) : Int := ((n * unitsPerNs : Nat) : Int)
    let d1 := s.drawWord
    let d2 := d1.2.drawWord
    let s1 := d2.2.domRateWrite 0 (BitVec.ofNat 40 (d1.1.toNat + 2 ^ 32 * d2.1.toNat))
    let good := if off.natAbs ≤ (ns 100).natAbs then s.gl.good + 1 else 0
    let s2 : State := { s1 with gl := { s1.gl with good := good } }
    if s.domState 0 = 0 ∨ s.domState 0 = 3 ∨ (s.domState 0 = 2 ∧ (ns 1000).natAbs < off.natAbs) then s2.domStateWrite 0 1
    else if 4 ≤ good ∧ s.domState 0 = 1 then s2.domStateWrite 0 2
    else s2

/-- SYNC (R993, R994): the worker forwards it with its upstream link delay and its residence time, in 1/32 ns, added to the correction. -/
def execGlSync (h : GHead) (sec : BitVec 48) (ns : Word) (corr : BitVec 48) (residence : Word) (s : State) : Out :=
  let i := h.link.val
  .next (s.glRecv h (fun s =>
    let c := corr.toNat + s.linkDelay i
    let s1 := if s.syncWrites i then s.syncServo (clockAdd (clockOf sec.toNat ns.toNat) ((c * (unitsPerNs / 32) : Nat) : Int)) else s
    if s.gl.upstream = some i then
      s1.glForward i ⟨h.dst.toNat, h.src.toNat, .sync sec.toNat ns.toNat (c + residence.toNat)⟩
    else s1))

/-- CROSS (R996, R997): a following Treadle takes the crossing at the instant that TDA gives it; workers forward it. -/
def execGlCross (h : GHead) (sec : BitVec 48) (ns : Word) (ang : Word) (s : State) : Out :=
  let i := h.link.val
  .next (s.glRecv h (fun s =>
    let from' := if s.role = 2 then s.gl.upstream == some i else s.standby && i == 0
    let back := (s.time.tda - clockOf sec.toNat ns.toNat) / 2 ^ 48
    let s1 := if from' && s.running && s.angleFollows && s.domState 0 == 2 then s.ms0Crossing back (some ang.toNat) else s
    if s.gl.upstream = some i then s1.glForward i ⟨h.dst.toNat, h.src.toNat, .cross sec.toNat ns.toNat ang.toNat⟩ else s1))

/-! ### Enumeration (R980 to R987) -/

/-- ENUM at a worker (R980, R982): its port becomes the upstream; a worker not yet met in this walk answers, another takes the ID of its
position from the next ENUM and forwards. -/
def State.enumWorker (s : State) (i walk pos : Nat) (assigned : Option Nat) (f : GFrame) : State :=
  let s1 : State := { s.wr Reg.GRILOR_ENUM_UPSTREAM_GL0 (b2n (i == 0)) with
    gl := { s.gl with upstream := some i, loaded := s.gl.loaded && s.gl.upstream == some i } }
  match s.gl.met with
  | some (w, p) =>
    if w = walk then
      ((if pos = p + 1 then s1.wr Reg.GRILOR_ENUM_MY_ID (assigned.getD 0) else s1)).glForward i f
    else
      ({ s1 with gl := { s1.gl with met := some (walk, pos) } }).glSend i
        ⟨0, s.myId, .enumResp s.deviceId (s.strap 5 1) (s.odN 0x9000 4 1)⟩
  | none =>
    ({ s1 with gl := { s1.gl with met := some (walk, pos) } }).glSend i
      ⟨0, s.myId, .enumResp s.deviceId (s.strap 5 1) (s.odN 0x9000 4 1)⟩

/-- ENUM (R982, R986): at a manager with RING the walk from GL1 that returns on GL0 closes the ring. -/
def execGlEnum (h : GHead) (walk : Word) (pos : BitVec 16) (assigned : Option Byte) (s : State) : Out :=
  let i := h.link.val
  let f : GFrame := ⟨h.dst.toNat, h.src.toNat, .enum walk.toNat pos.toNat (assigned.map BitVec.toNat)⟩
  .next (s.glRecv h (fun s =>
    if s.role = 2 then s.enumWorker i walk.toNat pos.toNat (assigned.map BitVec.toNat) f
    else if s.ring && i == 0 && s.gl.port == 1 && s.rd Reg.GRILOR_ENUM_ENUM_STATE == 1 then
      ({ s with gl := { s.gl with ringClosed := true } }).enumPortEnd
    else s))

/-- ENUM_RESP (R982, R983). -/
def execGlEnumResp (h : GHead) (device : BitVec 128) (side : Fin 2) (fixedId : Byte) (s : State) : Out :=
  .next (s.glRecv h (fun s =>
    if s.role = 2 then s.glForward h.link ⟨h.dst.toNat, h.src.toNat, .enumResp device.toNat side fixedId.toNat⟩
    else s.enumResp h.link device.toNat side fixedId.toNat))

/-- ENUMERATE (R982). -/
def execEnumerate (s : State) : Out := .next s.enumStart

/-- ENUM_RESP_TIMEOUT (R985): no ENUM_RESP within 100 µs. -/
def execEnumRespTimeout (s : State) : Out :=
  .next (if s.managing && s.rd Reg.GRILOR_ENUM_ENUM_STATE == 1 && s.passed .enum 300000 then s.enumPortEnd else s)

/-- ROSTER_RESET (R984). -/
def execRosterReset (s : State) : Out := .next s.rosterReset

/-! ### Gateway (R988 to R991) -/

/-- The value of a request by its tag code: TYPE_MISMATCH for a code that is none, LENGTH for a scalar of another length. -/
def gwValue (tag : Nat) (b : List Byte) : Nat × OdVal :=
  let t := Tag.ofCode tag
  if tag = 0x80 then (0, .bytes b)
  else if 15 < tag then (7, .bytes b)
  else if b.length ≠ (if t = .bool then 1 else 4) then (8, .bytes b)
  else (0, .scalar t (leValue b))

/-- A worker applies a request as client C2 (R989) and answers on link `i`, at once or when its ticket is final. -/
def State.gwServe (s : State) (i key op tag : Nat) (val : List Byte) : State :=
  let reply (s : State) (code : Nat) (v : Option OdVal) : State := s.glSend i ⟨0, s.myId, .data (.answer code v)⟩
  let v := gwValue tag val
  let s0 : State := { s with od := { s.od with answer := { ctx := 256 } } }
  if op ≠ 1 ∧ v.1 ≠ 0 then reply s v.1 none
  else
    let s1 := if op = 1 then s0.odRead 2 (key / 256) (key % 256) false else s0.odWrite 2 [(key, v.2)] false
    let a := s1.od.answer
    if a.ctx ≠ 2 then s1
    else
      match a.handle with
      | some h => { s1 with gl := { s1.gl with pendingGw := s1.gl.pendingGw ++ [h] } }
      | none => reply s1 a.code a.value

/-- DATA (R976, R989): an answer belongs to the GATEWAY ticket that runs where its worker sent it. -/
def execGlData (h : GHead) (m : GwMsg) (s : State) : Out :=
  .next (s.glRecv h (fun s => s.glDeliver h (.data m) (fun s =>
    match m with
    | .request key op tag val => if s.role = 2 then s.gwServe h.link key op tag val else s
    | .answer code v =>
      if s.managing && (s.runningOf 0x0B).any (fun i => paramAt (s.ticket i).params 0 1 == h.src.toNat) then
        ({ s with gl := { s.gl with answer := some (code, v) } }).gwAdvance
      else s)))

/-- GATEWAY_TIMEOUT (R991): no answer within GW_TIMEOUT_MS of step 1. -/
def execGatewayTimeout (s : State) : Out :=
  .next (match s.runningOf 0x0B with
    | some i =>
      if s.stepOpen i && (s.ticket i).step == 1 && s.passed .gateway (s.odN 0x9000 0x0B 100 * msCycles) then s.failTicket i 0x17 else s
    | none => s)

/-- The images that a manager sends for a set (R981): the Weaver firmware, then the images for slots 0 to 3. -/
def State.bootImages (s : State) (set : Nat) : List (Option Image) :=
  s.img.store.get none s.imgTable.primary ::
    (List.range 4).map (fun k =>
      let slot := s.imgSet set / 256 ^ k % 256
      if slot = 0xFF then none else s.img.store.get none slot)

/-- BOOT (R981): the manager serves a request; a booting worker keeps the images in their order. -/
def execGlBoot (h : GHead) (m : BootMsg) (s : State) : Out :=
  .next (s.glRecv h (fun s => s.glDeliver h (.boot m) (fun s =>
    match m with
    | .request set =>
      if !s.managing then s
      else s.each (s.bootImages set) (fun s im =>
        s.glSend h.link ⟨if h.src.toNat = 0 then 0xFF else h.src.toNat, 0, .boot (.image im)⟩)
    | .image im =>
      if s.role = 2 ∧ s.boot = 2 ∧ s.wakeAt = 8 ∧ s.img.hostImages.length < 5 then
        { s with img := { s.img with hostImages := s.img.hostImages ++ [im] } }
      else s)))

/-! ### Twins (R998 to R1007) -/

/-- HEARTBEAT_SEND (R998). -/
def execHeartbeatSend (s : State) : Out :=
  .next (if s.role ≠ 3 then s
    else s.glSend 0 ⟨0xFF, 0, .heartbeat (s.strap 5 1) (s.rd Reg.GRILOR_TWIN_STATE) (s.rd Reg.GRILOR_TWIN_MIRROR)
      (s.bolt s.jr.active).lastSeq (clockSec s.time.dt) (clockSub s.time.dt) s.ang⟩)

/-- HEARTBEAT (R998, R1003, R1004); `seq`, `sec`, `ns` and `ang` are the peer's mirrored SEQ, device time and ANG. -/
def execGlHeartbeat (h : GHead) (side : Fin 2) (st mirror : Fin 3) (seq sec ns ang : Word) (s : State) : Out :=
  .next (if s.role ≠ 3 ∨ h.link.val ≠ 0 then s
    else s.glRecv h (fun s =>
      let s1 := (s.mark .beat).wr Reg.GRILOR_TWIN_HB_MISSES 0
      let s2 : State := { s1 with gl := { s1.gl with peerSide := some side, peerState := st, peerMirror := mirror,
                                                     peerBeat := [seq.toNat, sec.toNat, ns.toNat, ang.toNat] } }
      if s2.standby && st.val == 2 && !s2.peerHolds then
        (if s2.on Reg.GRILOR_TWIN_OWN_FAULT then s2 else (s2.wr Reg.GRILOR_TWIN_OWN_FAULT 1).event 0x1107 0 [])
      else s2.twinInit))

/-- HEARTBEAT_MISS (R998, R1004, Table 17-5): 110 µs have passed since the last HEARTBEAT or the last miss. -/
def execHeartbeatMiss (s : State) : Out :=
  let s1 := (s.mark .beat).inc Reg.GRILOR_TWIN_HB_MISSES
  let n := s1.rd Reg.GRILOR_TWIN_HB_MISSES
  .next (if s.role ≠ 3 ∨ !s.passed .beat 330000 then s
    else if s1.missTakes then s1.takeover
    else if s1.standby && n == 3 && s1.peerHolds && s1.rd Reg.GRILOR_TWIN_MIRROR != 0 then (s1.mirrorTo 0).event 0x1106 0 [n]
    else s1)

/-- HANDOVER (Table 17-5): a standby takes over as soon as the line is released. -/
def execGlHandover (h : GHead) (s : State) : Out :=
  .next (if s.role ≠ 3 ∨ h.link.val ≠ 0 then s
    else s.glRecv h (fun s =>
      if !s.standby then s
      else if s.peerHolds then { s with gl := { s.gl with handover := true } }
      else s.takeover))

/-- HANDOVER_COMMAND (Table 17-5). -/
def execHandoverCommand (s : State) : Out := .next s.handoverCmd

/-- TWIN_OWN_CHANGE (R999, R1000): the line as the peer drives it. -/
def execTwinOwnChange (peer : Bool) (s : State) : Out :=
  let s1 := s.wr Reg.GRILOR_TWIN_OWN_SENSE (b2n (s.on Reg.GRILOR_TWIN_OWN_DRIVE || peer))
  let s2 := if s1.peerHolds = s.peerHolds then s1 else s1.fanHold s1.peerHolds
  .next (if s.role ≠ 3 then s
    else if !s2.peerHolds && ((s2.standby && s2.gl.handover) || s2.missTakes) then s2.takeover
    else s2.twinInit)

/-- How long a twin stays in INIT (Table 17-5): 50 ms where the peer holds the line or this is side A, 100 ms of side B with the line
released. -/
def State.twinWait (s : State) : Nat := if s.peerHolds || s.strap 5 1 == 0 then 50 * msCycles else 100 * msCycles

/-- TWIN_INIT_TIMEOUT (Table 17-5): 50 ms after RUN, or 100 ms of side B with the line released, GL0 is not UP. -/
def execTwinInitTimeout (s : State) : Out :=
  .next (if s.role ≠ 3 ∨ s.pstate ≠ 4 ∨ s.rd Reg.GRILOR_TWIN_STATE ≠ 0 ∨ s.glState 0 = 2 ∨ !s.passed .run s.twinWait then s
    else if s.peerHolds then (s.standBy 0).event 0x1106 0 [s.rd Reg.GRILOR_TWIN_HB_MISSES]
    else s.claim false)

/-- A MIRROR record reaches a standby (R1005): in MIRRORING it is staged with an own SEQ and acknowledged; else it belongs to the copy, which
begins with a BOLT_HEAD. -/
def State.mirrorIn (s : State) (b : JBody) : State :=
  if s.rd Reg.GRILOR_TWIN_MIRROR = 2 then
    let head := match b with | .boltHead _ => true | _ => false
    if head then ({ s with gl := { s.gl with copy := [b] } }).mirrorTo 1
    else ({ s with gl := { s.gl with mirrored := s.gl.mirrored ++ [b] } }.stageLocal b).glSend 0 ⟨0xFF, 0, .mirrorAck⟩
  else
    match b with
    | .boltHead _ => ({ s with gl := { s.gl with copy := [b] } }).mirrorTo 1
    | _ => { s with gl := { s.gl with copy := s.gl.copy ++ [b] } }

/-- MIRROR (R1005). -/
def execGlMirror (h : GHead) (m : MirrorMsg) (s : State) : Out :=
  .next (if s.role ≠ 3 ∨ h.link.val ≠ 0 then s
    else s.glRecv h (fun s =>
      if s.owner then s
      else
        match m with
        | .record b => s.mirrorIn b
        | .rwWrite items => if s.rd Reg.GRILOR_TWIN_MIRROR = 2 then s.applyItems 0 items else s))

/-- MIRROR_ACK (R1005): the oldest record not acknowledged; its effect follows where it is committed. -/
def execGlMirrorAck (h : GHead) (s : State) : Out :=
  .next (if s.role ≠ 3 ∨ h.link.val ≠ 0 then s
    else s.glRecv h (fun s =>
      match s.gl.mirrorOut with
      | [] => s
      | b :: rest =>
        let s1 : State := { s.mark .mirror with gl := { s.gl with mirrorOut := rest, heldBack := s.gl.heldBack.erase b } }
        if s.gl.heldBack.contains b then s1.recordEffect b else s1))

/-- MIRROR_ACK_TIMEOUT (R1005): the oldest MIRROR has waited 1 ms for its acknowledgement. -/
def execMirrorAckTimeout (s : State) : Out :=
  .next (if s.owner && s.rd Reg.GRILOR_TWIN_MIRROR == 2 && !s.gl.mirrorOut.isEmpty && s.passed .mirror msCycles then s.mirrorLost else s)

/-- The standby fulls its own journal to the copy (R1005): a bolt of one higher generation holds it, and its values take effect. -/
def State.mirrorAdopt (s : State) : State :=
  let l := s.gl.copy
  let a := s.jr.active
  let g := (s.bolt a).gen + 1
  let body := l.filter (fun b => match b with | .boltHead _ => false | _ => true)
  let s1 := if s.journalOn then
      ((s.boltErase (1 - a)).each ((JBody.boltHead g :: body) ++ [JBody.switch g]) (fun s r => s.boltWrite (1 - a) r)).boltErase a
    else s
  let s2 : State := { s1 with
    jr := { s1.jr with active := if s.journalOn then 1 - a else a, phase := .off, toCopy := [], delta := [], carry := 0 },
    gl := { s1.gl with mirrored := l, copy := [] } }
  s2.takeValues (scanValues (l.map (fun b => (⟨0, b⟩ : JRec))))

/-- MIRROR_SYNC_DONE (R1005). -/
def execMirrorSyncDone (s : State) : Out :=
  .next (if s.role ≠ 3 || s.rd Reg.GRILOR_TWIN_MIRROR != 1 then s
    else if s.owner then s.mirrorTo 2
    else if s.standby then s.mirrorAdopt.mirrorTo 2
    else s)

end Sys2Proof.Machine
end

