-- ==== Sys2Proof/Machine/HostPort.lean ====
section
/-! DEFINITION. Ticket commands of every reach and the commands of the host port (R389 to R400). -/
namespace Sys2Proof.Machine

/-- Answer a status and bytes to context `c`: as the response of the host port, or as the answer of the dictionary. -/
def State.statusReply (s : State) (c status : Nat) (rdata : List Byte) : State :=
  if c = 1 then ({ s with od := { s.od with answer := { ctx := c, code := status } } }).hostAnswer status rdata
  else { s with od := { s.od with answer := { ctx := c, code := status, value := some (.bytes rdata) } } }

/-- A ticket command of context `c` (R398): NOT_READY in WAKE, BUSY from S4 on; a context without a session has none. -/
def State.ticketCommand (s : State) (c : Nat) (f : State → Nat × List Byte × State) : State :=
  if s.hostNotReady c then s.hostAnswer 0x53 []
  else if s.pstate < 4 ∨ (s.ctx c).state = .free ∨ (s.ctx c).state = .disabled then s
  else if s.inS4 ∨ (s.pstate = 6 ∧ 5 ≤ s.sdStep) then s.statusReply c 0x0C []
  else
    let r := f s
    r.2.2.statusReply c r.1 r.2.1

/-- RDATA of a result word: TAG and value. -/
def resultBytes (t : Tag) (v : Nat) : List Byte := leBytes 1 t.toCode ++ leBytes 4 v

/-- RETIRE (R354). -/
def execRetire (c : Fin 256) (h : Word) (s : State) : Out :=
  .next (s.ticketCommand c (fun s => let r := s.retire c h.toNat; (r.1, [], r.2)))

/-- ABORT (R355). -/
def execAbort (c : Fin 256) (h : Word) (s : State) : Out :=
  .next (s.ticketCommand c (fun s => let r := s.abortBy c h.toNat; (r.1, [], r.2)))

/-- RESULT_READ (R348, R350). -/
def execResultRead (c : Fin 256) (h : Word) (s : State) : Out :=
  .next (s.ticketCommand c (fun s => let r := s.resultRead c h.toNat; (r.1.1, resultBytes r.1.2.1 r.1.2.2, r.2)))

/-- RESULT_CONSUME (R351). -/
def execResultConsume (c : Fin 256) (h : Word) (s : State) : Out :=
  .next (s.ticketCommand c (fun s => let r := s.resultConsume c h.toNat; (r.1.1, resultBytes r.1.2.1 r.1.2.2, r.2)))

/-- Whether a ticket carries data for RESULT_DATA (R397). -/
def Ticket.carries (t : Ticket) : Bool := t.state == .done && (t.type == 2 || (t.type == 0x0B && !t.data.isEmpty))

/-- RESULT_DATA (R397): the byte count of all entries is free where two bytes cannot hold it. -/
def execResultData (c : Fin 256) (h : Word) (s : State) : Out :=
  .next (s.ticketCommand c (fun s =>
    let r := s.resultRead c h.toNat
    match s.slotOf c h.toNat with
    | some i =>
      if (s.ticket i).carries then
        let b := (s.ticket i).data.flatMap OdVal.rdata
        if b.length < 65536 then (r.1.1, leBytes 2 b.length ++ b, r.2)
        else
          let d := r.2.drawWord
          (r.1.1, leBytes 2 d.1.toNat ++ b, d.2)
      else (r.1.1, leBytes 2 0, r.2)
    | none => (r.1.1, leBytes 2 0, r.2)))

/-- TICKET_STATE (R397). -/
def execTicketState (c : Fin 256) (h : Word) (s : State) : Out :=
  .next (s.ticketCommand c (fun s =>
    match s.slotOf c h.toNat with
    | some i =>
      let t := s.ticket i
      (0, leBytes 1 t.state.toCode ++ leBytes 1 t.type ++ leBytes 2 t.step ++ leBytes 2 t.steps ++ leBytes 1 t.code, s)
    | none => (0x41, List.replicate 7 0, s)))

/-! ### Commands of the host port -/

/-- Whether the port answers at all (R398): from W6 on. -/
def State.portAnswers (s : State) : Bool := decide (4 ≤ s.pstate) || (s.pstate == 3 && decide (6 ≤ s.pow.wakeStep))

/-- A host command: none before W6, NOT_READY in WAKE, BUSY from S4 on (R398). -/
def State.hostCommand (s : State) (f : State → State) : State :=
  if !s.portAnswers then s
  else if s.hostNotReady 1 then s.hostAnswer 0x53 []
  else if s.inS4 then s.hostAnswer 0x0C []
  else f s

/-- STATUS (R396). -/
def execStatus (s : State) : Out :=
  .next (if s.portAnswers then s.hostAnswer 0 [BitVec.ofNat 8 s.pstate, BitVec.ofNat 8 s.journalState] else s)

/-- INT_READ (R400). -/
def execIntRead (s : State) : Out :=
  .next (s.hostCommand (fun s =>
    (s.wr Reg.HOSTPORT_INTSTAT_INTSTAT 0).hostAnswer 0 (leBytes 2 (s.rd Reg.HOSTPORT_INTSTAT_INTSTAT))))

/-- INT_ENABLE (R400): a write of the journaled register INTEN. -/
def execIntEnable (v : BitVec 16) (s : State) : Out :=
  .next (s.hostCommand (fun s =>
    let r := s.expertWrite 0x400E0004 v.toNat .gateway 2 0
    r.2.hostAnswer r.1 []))

/-- RESEND (R393): the previous response stands. -/
def execResend (s : State) : Out := .next (s.hostCommand (fun s => s))

/-! ### DOMAIN transfers (R344, R581) -/

/-- The lengths of an image transfer that 0x2202 accepts. -/
def domainMax : Nat := 524288

/-- The download ticket of `total` bytes, ledgered in W8 as after it (R341, R571). -/
def State.domainTicket (s : State) (total first : Nat) : Ticket :=
  { s.newTicket 1 3 ((total + 4095) / 4096 + 1) (evBytes 4 total ++ evBytes 2 first) with
    ledgered := !s.jr.readOnly }

/-- A download to 0x2202 opens: the cells are lent and the ticket admitted (R581). -/
def State.domainStage (s : State) (total first : Nat) : State :=
  let s0 := s.stageReturn
  if !s0.cellsLend 2048 then s0.refuseOd 1 0x10
  else ({ s0 with img := { s0.img with stagedCells := true } }).admitFor 1 (s0.domainTicket total first)

/-- Whether the port serves the DOMAIN commands of an image load in W8 (R398, R571): from the mount on, where the boot comes from the
host. -/
def State.hostLoads (s : State) : Bool := s.hostNotReady 1 && s.boot == 1 && s.mountOver

/-- DOMAIN_OPEN (R344, R571, R581): in WAKE it serves the boot from the host, where TOTAL 0 ends the set. -/
def execDomainOpen (i : BitVec 16) (sub : Byte) (up : Bool) (total : Word) (first : BitVec 16) (s : State) : Out :=
  let n := total.toNat
  .next (if s.hostLoads && i == 0x2202#16 && sub == 0#8 && !up then
      (if n = 0 then ({ s with img := { s.img with hostImages := s.img.hostImages ++ [none] } }).odReply 1 0 none none
       else if domainMax < n then s.odReply 1 8 none none
       else s.admitFor 1 (s.domainTicket n first.toNat))
    else s.hostCommand (fun s =>
      let o := s.accessOpen 1 true
      if o.1 ≠ 0 then o.2.refuseOd 1 o.1
      else
        let e := o.2.checkEntry 1 i.toNat sub.toNat (!up)
        if e ≠ 0 then o.2.refuseOd 1 e
        else if i ≠ 0x2202#16 then o.2.refuseOd 1 7
        else if n = 0 ∨ domainMax < n then o.2.refuseOd 1 8
        else if o.2.standby then o.2.refuseOd 1 0x0B
        else o.2.domainStage n first.toNat))

/-- A command of a DOMAIN transfer: served in WAKE too where the boot comes from the host (R398). -/
def State.domainCommand (s : State) (f : State → State) : State :=
  if s.hostLoads then f s else s.hostCommand f

/-- DOMAIN_PUT (R344): segment `k` is step `k`. -/
def execDomainPut (h : Word) (k : BitVec 16) (b : List Byte) (s : State) : Out :=
  .next (s.domainCommand (fun s =>
    match s.slotOf 1 h.toNat with
    | none => s.hostAnswer 0x41 []
    | some i =>
      let t := s.ticket i
      let total := paramAt t.params 0 4
      let want := min 4096 (total - 4096 * t.step)
      if t.type ≠ 3 ∨ !s.stepOpen i ∨ k.toNat ≠ t.step + 1 ∨ t.steps ≤ k.toNat then s.hostAnswer 0x0B []
      else if b.length ≠ want then s.hostAnswer 0x52 []
      else (((s.setTicket i { t with data := t.data ++ [.bytes b] }).stepDone i .uint total).settle i).hostAnswer 0 []))

/-- DOMAIN_GET (R344): no entry of the dictionary accepts an upload, so a handle that is not foreign names no upload. -/
def execDomainGet (h : Word) (_k : BitVec 16) (s : State) : Out :=
  .next (s.domainCommand (fun s =>
    match s.slotOf 1 h.toNat with
    | none => s.hostAnswer 0x41 []
    | some _ => s.hostAnswer 0x0B []))

/-! ### Requests that carry no command -/

/-- The entries of a MULTI_WRITE (Table 06-7): `n` times an entry of 3 bytes, TAG, LEN and a value of LEN bytes, and nothing more. -/
def multiFits : Nat → List Byte → Bool
  | 0, d => d.isEmpty
  | n + 1, d => decide (6 ≤ d.length) && (let k := leValue ((d.drop 4).take 2)
      decide (6 + k ≤ d.length) && multiFits n (d.drop (6 + k)))

/-- Whether a DATA phase has the length that its command gives it (R394, R396, Table 06-7); none for an unknown code. `f` is FIELD. -/
def dataFits (code f : Nat) (d : List Byte) : Option Bool :=
  let len := fun k => leValue ((d.drop k).take 2)
  if code ∈ [0x00, 0x01, 0x18, 0x1E] then some d.isEmpty
  else if code = 0x02 then some (decide (3 ≤ d.length) && d.length == 3 + len 1)
  else if 0x03 ≤ code ∧ code ≤ 0x08 then some (d.length == 4)
  else if code = 0x09 then some (decide (1 ≤ f ∧ f ≤ 64) && d.length == 3 * f)
  else if code = 0x0A then some (decide (1 ≤ f ∧ f ≤ 64) && multiFits f d)
  else if code = 0x10 then some (d.length == 7)
  else if code = 0x11 then some (decide (8 ≤ d.length) && d.length == 8 + len 6)
  else if code = 0x12 then some (d.length == 6)
  else if code = 0x19 then some (d.length == 2)
  else none

/-- UNKNOWN_COMMAND (R391, R393, R394): a request of bytes CMD, FIELD and DATA with its CRC, which is refused. A CRC that fails is
counted; then an unknown code is BAD_COMMAND, and a DATA length that does not match, or one above 4,104, is BAD_LENGTH. A request that
none of these refuses arrives as its own command, and nothing is done for it here. -/
def execUnknownCommand (req : List Byte) (crc : Byte) (s : State) : Out :=
  .next (if !s.portAnswers then s
    else if crc8 req ≠ crc.toNat then ((s.inc Reg.HOSTPORT_ERR_CRC_ERRORS).intBit 6).hostAnswer 0x50 []
    else
      let d := req.drop 4
      match dataFits (leValue (req.take 1) % 128) (leValue ((req.drop 1).take 3)) d with
      | none => s.hostCommand (fun s => s.hostAnswer 0x51 [])
      | some fits => if fits && decide (d.length ≤ 4104) then s else s.hostCommand (fun s => s.hostAnswer 0x52 []))

/-- HOST_REQUEST_DISCARDED (R393). -/
def execHostRequestDiscarded (s : State) : Out := .next (if s.portAnswers then s.inc Reg.HOSTPORT_ERR_ABORTED else s)

/-- HOST_ACCESS_TIMEOUT (R392). -/
def execHostAccessTimeout (s : State) : Out := .next (s.hostCommand (fun s => s.hostAnswer 0x54 []))

end Sys2Proof.Machine
end

