-- ==== Sys2Proof/Machine/OdNet.lean ====
section
/-! DEFINITION. Requests on the network reaches: an image's mapping table and the conversion between the wire and the entries (R322 to
R326, R1046). -/
namespace Sys2Proof.Machine

/-- The bytes a row's value takes on the wire: WIDTH of a scalar in bits, of BYTES in bytes (R322). -/
def MapRow.size (r : MapRow) (m : OdSpec) : Nat := match m.type with | .scalar _ => r.width / 8 | _ => r.width

/-- Bytes on the wire as the value of an entry (R322, R324, R325): LENGTH for a part of it, OUT_OF_RANGE where it does not convert to an exact
value of the entry. -/
def MapRow.toEntry (r : MapRow) (m : OdSpec) (b : List Byte) : Nat × OdVal :=
  if b.length ≠ r.size m then (8, .bytes [])
  else
    match m.type with
    | .scalar t =>
      let n := r.number b
      let isSigned := t = .int ∨ t = .fix
      let x : Int := (if isSigned then signed (8 * b.length) n else n) * unitsOf t
      let p : Int := ((10 ^ r.scale.natAbs : Nat) : Int)
      let y : Int := if r.scale < 0 then x * p else x / p
      if (0 < r.scale ∧ x % p ≠ 0) ∨ y < -2 ^ 31 ∨ 2 ^ 32 ≤ y ∨ (y < 0 ∧ !isSigned) ∨ (2 ^ 31 ≤ y ∧ isSigned) then (9, .bytes [])
      else (0, .scalar t (unsigned 32 y))
    | _ => (0, .bytes b)

/-- The row of a KEY in the mapping table of slot `k`. -/
def State.rowOf (s : State) (k key : Nat) : Option MapRow := (s.od.mapping.get [] k).find? (fun r => r.key == key)

/-- The row of 32 bits whose second register a KEY names (R325). -/
def State.partRow (s : State) (k key : Nat) : Option MapRow :=
  (s.od.mapping.get [] k).find? (fun r => r.key + 1 == key && r.width == 32)

/-- What a row gives for a written item: its member, and the code with which it fails where the row does not allow or convert it. A KEY
that no row holds names no entry; a part of a row's registers has the wrong length. -/
def State.netItem (s : State) (k : Nat) (e : Nat × List Byte) : (Nat × OdVal) × Nat :=
  match s.rowOf k e.1, s.partRow k e.1 with
  | none, none => ((odKey 0 (e.1 % 256), .bytes []), 1)
  | none, some r => ((r.ref % 2 ^ 24, .bytes []), 8)
  | some r, _ =>
    match s.odSpec (r.ref / 256 % 65536) (r.ref % 256) with
    | none => ((r.ref % 2 ^ 24, .bytes []), 1)
    | some m =>
      let v := r.toEntry m e.2
      ((r.ref % 2 ^ 24, v.2), if !r.canWrite then 5 else v.1)

/-- A write of mapped items by context `c`. -/
def State.netWrite (s : State) (k c : Nat) (l : List (Nat × List Byte)) : State :=
  let q := l.map (s.netItem k)
  s.odWrite c (q.map (·.1)) (decide (1 < l.length)) ((q.filter (fun x => x.2 != 0)).map (fun x => (x.1.1, x.2)))

/-- The ODREF values that read keys name: the first failure, or the members. -/
def State.netKeys (s : State) (k : Nat) : List Nat → Nat × List Nat
  | [] => (0, [])
  | key :: rest =>
    match s.rowOf k key with
    | none => (if (s.partRow k key).isSome then 8 else 1, [])
    | some r =>
      if !r.canRead then (6, [])
      else
        let t := s.netKeys k rest
        if t.1 ≠ 0 then t else (0, r.ref % 2 ^ 24 :: t.2)

/-- Bytes of an access at a native index, as the entry's value (R293); an absent entry is left to the checks. -/
def State.nativeVal (s : State) (i sub : Nat) (b : List Byte) : Nat × OdVal :=
  match s.odSpec i sub with
  | some { type := .scalar t, .. } =>
    if b.length ≠ (if t = .bool then 1 else 4) then (8, .bytes b) else (0, .scalar t (leValue b))
  | _ => (0, .bytes b)

/-- A read of KEYs that the rows do not all allow, after checks 1 and 2. -/
def State.netRefuse (s : State) (c code : Nat) (ticket : Bool) : State :=
  s.serve c (fun s =>
    let o := s.accessOpen c ticket
    o.2.refuseOd c (if o.1 ≠ 0 then o.1 else code))

/-- One mapped value is read, and its answer converted to the wire. -/
def State.netRead (s : State) (k c key : Nat) : State :=
  let q := s.netKeys k [key]
  match s.rowOf k key, q.2 with
  | some r, [ref] =>
    let s1 := s.odRead c (ref / 256) (ref % 256) false
    (match s1.od.answer.code, s1.od.answer.value with
     | 0, some v =>
       let w := s1.toWire r v
       w.2.odReply c 0 (some (.bytes w.1)) none
     | _, _ => s1)
  | _, _ => s.netRefuse c q.1 false

/-- Several mapped values are read by one OD_READ ticket (R325). -/
def State.netReads (s : State) (k c : Nat) (keys : List Nat) : State :=
  let q := s.netKeys k keys
  if q.1 ≠ 0 then s.netRefuse c q.1 true else s.odReadMulti c q.2 (keys.filterMap (s.rowOf k))

/-- NETWORK_REQUEST (R325): context `c` is a session of the image in slot `k`. A native write carries the bytes of a value (R293). -/
def execNetworkRequest (k : Fin 4) (c : Fin 256) (r : NetRequest) (s : State) : Out :=
  let sdo (i : BitVec 16) (sub : Byte) : Nat := odKey i.toNat sub.toNat
  .next (if (s.ctx c).state != .opened || (s.ctx c).image != k.val || decide (c.val < 4) then s
    else
      match r with
      | .reads [key] => s.netRead k c key
      | .reads keys => s.netReads k c keys
      | .writes l => s.netWrite k c l
      | .sdoRead i sub => if (s.rowOf k (sdo i sub)).isSome then s.netRead k c (sdo i sub) else s.odRead c i.toNat sub.toNat false
      | .sdoWrite i sub b =>
        if (s.rowOf k (sdo i sub)).isSome then s.netWrite k c [(sdo i sub, b)]
        else
          let v := s.nativeVal i.toNat sub.toNat b
          s.odWrite c [(sdo i sub, v.2)] false (if v.1 = 0 then [] else [(sdo i sub, v.1)]))

end Sys2Proof.Machine
end

