-- ==== Sys2Proof/Machine/Wiring.lean ====
section
/-! DEFINITION. The RS-485 line checks (chapter 18). -/
namespace Sys2Proof.Machine

/-- The check of RS-485 line `n`. -/
def State.rsLine (s : State) (n : Nat) : RsLine := s.hed.lines.get {} n

/-- A line measured at `a` and `b` millivolts while it is idle (R1024): the idle measurements come every 1 ms. -/
def RsLine.idle (x : RsLine) (a b : Int) : RsLine :=
  { x with opens := if decide ((a - b).natAbs ≤ 50) && x.normal then x.opens + 1 else 0,
           reversed := if a - b ≤ -200 then x.reversed + 1 else 0 }

/-- A line measured at the start bit of an own character, which is driven well from 1.0 V on; the line is not idle. -/
def RsLine.driven (x : RsLine) (a b : Int) : RsLine :=
  let low := decide ((a - b).natAbs < 1000)
  { x with opens := 0, reversed := 0, shorts := if low then x.shorts + 1 else 0, normal := !low }

/-- Whether a line voltage lies outside [−7 V, 12 V]. -/
def rsOver (a : Int) : Bool := decide (a < -7000) || decide (12000 < a)

/-- The highest code of Table 18-3 whose condition holds at a measurement, or 0. -/
def RsLine.code (x : RsLine) (driving : Bool) (a b : Int) : Nat :=
  if driving then (if 4 ≤ x.shorts then 3 else 0)
  else if rsOver a || rsOver b then 4
  else if 10 ≤ x.reversed then 2
  else if 10 ≤ x.opens then 1
  else 0

/-- Fault code `c` is shown for line `n` (R1025, R1026, R1028): a change to a code other than 0 posts event 0x1201, and code 4 turns the
transmitter off, so that the character being sent does not reach the bus. -/
def State.rsShow (s : State) (n c : Nat) : State :=
  let seen := if n = 0 then Reg.HEDDLE_RS485_STAT_SEEN0 else Reg.HEDDLE_RS485_STAT_SEEN1
  let s1 := s.wr (rsFault n) c
  let s2 := if c = 4 then s1.setUa n { s1.ua n with onBus := false } else s1
  if c = 0 ∨ s.rd (rsFault n) = c then s2 else (s2.wr seen 1).event 0x1201 n [c]

/-- RS485_LINE_MEASUREMENT (R1024, R1025): line A at `a` and line B at `b` millivolts, at the start bit of an own character where the
transmitter drives, else on the idle line. The code returns to 0 when no condition has held for 1 s. -/
def execRs485LineMeasurement (n : Fin 2) (a b : Int) (s : State) : Out :=
  let driving := s.rsDrives n
  let x := if driving then (s.rsLine n).driven a b else (s.rsLine n).idle a b
  let c := x.code driving a b
  let y : RsLine := if c = 0 then x else { x with heldAt := s.cycle }
  let s1 : State := { s with hed := { s.hed with lines := s.hed.lines.set {} n y } }
  .next (if c ≠ 0 then s1.rsShow n c else if x.heldAt + 3000000000 ≤ s.cycle then s1.rsShow n 0 else s1)

end Sys2Proof.Machine
end

