-- ==== Sys2Proof/Machine/Dispatch.lean ====
section
/-! DEFINITION. The meaning of each command, one arm for each constructor of `Instr` in the order of the table. -/
namespace Sys2Proof.Machine

def exec (i : Instr) (s : State) : Host.Outcome State Fault Refusal :=
  match i with
  | .sampleFrame c slot x code crcOk => Sys2Proof.Machine.execSampleFrame c slot x code crcOk s
  | .companionRegisterAccess a v w crc => Sys2Proof.Machine.execCompanionRegisterAccess a v w crc s
  | .laneFailure k => Sys2Proof.Machine.execLaneFailure k s
  | .retrainAttempt k => Sys2Proof.Machine.execRetrainAttempt k s
  | .retrainAttemptEnd k trained => Sys2Proof.Machine.execRetrainAttemptEnd k trained s
  | .lockstepMismatch => Sys2Proof.Machine.execLockstepMismatch s
  | .refclkLost => Sys2Proof.Machine.execRefclkLost s
  | .refclkOutOfRange => Sys2Proof.Machine.execRefclkOutOfRange s
  | .pllUnlock => Sys2Proof.Machine.execPllUnlock s
  | .registerWrite a v w => Sys2Proof.Machine.execRegisterWrite a v w s
  | .rcRegisterRead a => Sys2Proof.Machine.execRcRegisterRead a s
  | .vbatPresent => Sys2Proof.Machine.execVbatPresent s
  | .mainFeedPresent vhv => Sys2Proof.Machine.execMainFeedPresent vhv s
  | .mainFeedLost => Sys2Proof.Machine.execMainFeedLost s
  | .wakeEvent src => Sys2Proof.Machine.execWakeEvent src s
  | .companionRegulatorsInRegulation => Sys2Proof.Machine.execCompanionRegulatorsInRegulation s
  | .pgCoreHigh vsel18 => Sys2Proof.Machine.execPgCoreHigh vsel18 s
  | .refclkInRange => Sys2Proof.Machine.execRefclkInRange s
  | .pll0Lock => Sys2Proof.Machine.execPll0Lock s
  | .fuseCheck differ => Sys2Proof.Machine.execFuseCheck differ s
  | .strapSampleRound a b c => Sys2Proof.Machine.execStrapSampleRound a b c s
  | .startupCarding reads => Sys2Proof.Machine.execStartupCarding reads s
  | .journalMount failA failB mountFails => Sys2Proof.Machine.execJournalMount failA failB mountFails s
  | .weaverFirmwareVerify => Sys2Proof.Machine.execWeaverFirmwareVerify s
  | .imageSetLoad => Sys2Proof.Machine.execImageSetLoad s
  | .wakeStepTimeout => Sys2Proof.Machine.execWakeStepTimeout s
  | .wakeAttemptRestart => Sys2Proof.Machine.execWakeAttemptRestart s
  | .refclkBack => Sys2Proof.Machine.execRefclkBack s
  | .resetNLow => Sys2Proof.Machine.execResetNLow s
  | .resetNRelease => Sys2Proof.Machine.execResetNRelease s
  | .vhvFail => Sys2Proof.Machine.execVhvFail s
  | .pgCoreWarning => Sys2Proof.Machine.execPgCoreWarning s
  | .shutdownPowerOff => Sys2Proof.Machine.execShutdownPowerOff s
  | .shutdownRestart => Sys2Proof.Machine.execShutdownRestart s
  | .shutdownStepComplete => Sys2Proof.Machine.execShutdownStepComplete s
  | .rampCapExpired => Sys2Proof.Machine.execRampCapExpired s
  | .s4BoundReached => Sys2Proof.Machine.execS4BoundReached s
  | .vhvReturned => Sys2Proof.Machine.execVhvReturned s
  | .offIntervalEnd => Sys2Proof.Machine.execOffIntervalEnd s
  | .fuseProgram c word mask => Sys2Proof.Machine.execFuseProgram c word mask s
  | .ms0Crossing edge low high => Sys2Proof.Machine.execMs0Crossing edge low high s
  | .windowMiss => Sys2Proof.Machine.execWindowMiss s
  | .acquireTimeout => Sys2Proof.Machine.execAcquireTimeout s
  | .msPhaseCrossing k => Sys2Proof.Machine.execMsPhaseCrossing k s
  | .inputPresenceUpdate => Sys2Proof.Machine.execInputPresenceUpdate s
  | .stepCmd => Sys2Proof.Machine.execStepCmd s
  | .aevArm n reg v => Sys2Proof.Machine.execAevArm n reg v s
  | .aevFire => Sys2Proof.Machine.execAevFire s
  | .xtspop => Sys2Proof.Machine.execXtspop s
  | .tdxStateWrite x v w => Sys2Proof.Machine.execTdxStateWrite x v w s
  | .tdxRateWrite x rate w => Sys2Proof.Machine.execTdxRateWrite x rate w s
  | .tdxHeartbeat x w => Sys2Proof.Machine.execTdxHeartbeat x w s
  | .tdxStep x ns w => Sys2Proof.Machine.execTdxStep x ns w s
  | .tdxSet x w => Sys2Proof.Machine.execTdxSet x w s
  | .servoTimeout x => Sys2Proof.Machine.execServoTimeout x s
  | .deviceTimeAligned => Sys2Proof.Machine.execDeviceTimeAligned s
  | .dtStepCmd => Sys2Proof.Machine.execDtStepCmd s
  | .snap => Sys2Proof.Machine.execSnap s
  | .tpoAssert n => Sys2Proof.Machine.execTpoAssert n s
  | .tpoDeassert n => Sys2Proof.Machine.execTpoDeassert n s
  | .tpiCapture n rising => Sys2Proof.Machine.execTpiCapture n rising s
  | .tpiPop n => Sys2Proof.Machine.execTpiPop n s
  | .tpiRecordRead n => Sys2Proof.Machine.execTpiRecordRead n s
  | .odRead c i0 sub found => Sys2Proof.Machine.execOdRead c i0 sub found s
  | .odWrite c i0 sub v => Sys2Proof.Machine.execOdWrite c i0 sub v s
  | .multiRead c l => Sys2Proof.Machine.execMultiRead c l s
  | .multiWrite c l => Sys2Proof.Machine.execMultiWrite c l s
  | .networkRequest k c r => Sys2Proof.Machine.execNetworkRequest k c r s
  | .expertUnlock c key => Sys2Proof.Machine.execExpertUnlock c key s
  | .unlockBlockEnd => Sys2Proof.Machine.execUnlockBlockEnd s
  | .expertUnlockExpiry c => Sys2Proof.Machine.execExpertUnlockExpiry c s
  | .expertRelock c => Sys2Proof.Machine.execExpertRelock c s
  | .expertWindowData c v crc => Sys2Proof.Machine.execExpertWindowData c v crc s
  | .configLock c v => Sys2Proof.Machine.execConfigLock c v s
  | .restoreDefaults c mask => Sys2Proof.Machine.execRestoreDefaults c mask s
  | .sessionOpen k reach profile => Sys2Proof.Machine.execSessionOpen k reach profile s
  | .sessionClose c => Sys2Proof.Machine.execSessionClose c s
  | .drainTimeout c => Sys2Proof.Machine.execDrainTimeout c s
  | .ticketExecutorStart i0 => Sys2Proof.Machine.execTicketExecutorStart i0 s
  | .ticketStepComplete i0 f => Sys2Proof.Machine.execTicketStepComplete i0 f s
  | .journalRecordCommit => Sys2Proof.Machine.execJournalRecordCommit s
  | .stagingRoomFreed => Sys2Proof.Machine.execStagingRoomFreed s
  | .journalFullTimeout => Sys2Proof.Machine.execJournalFullTimeout s
  | .journalProgramFailure copy readback page => Sys2Proof.Machine.execJournalProgramFailure copy readback page s
  | .journalEraseFailure => Sys2Proof.Machine.execJournalEraseFailure s
  | .fullingPageProgram => Sys2Proof.Machine.execFullingPageProgram s
  | .fullingErase => Sys2Proof.Machine.execFullingErase s
  | .fullNow c => Sys2Proof.Machine.execFullNow c s
  | .verify c => Sys2Proof.Machine.execVerify c s
  | .clearFailing c => Sys2Proof.Machine.execClearFailing c s
  | .orphanAutoRetire i0 => Sys2Proof.Machine.execOrphanAutoRetire i0 s
  | .ticketRetire c h => Sys2Proof.Machine.execRetire c h s
  | .ticketAbort c h => Sys2Proof.Machine.execAbort c h s
  | .resultRead c h => Sys2Proof.Machine.execResultRead c h s
  | .resultConsume c h => Sys2Proof.Machine.execResultConsume c h s
  | .resultData c h => Sys2Proof.Machine.execResultData c h s
  | .ticketState c h => Sys2Proof.Machine.execTicketState c h s
  | .status => Sys2Proof.Machine.execStatus s
  | .intRead => Sys2Proof.Machine.execIntRead s
  | .intEnable v => Sys2Proof.Machine.execIntEnable v s
  | .resend => Sys2Proof.Machine.execResend s
  | .domainOpen i0 sub up total first => Sys2Proof.Machine.execDomainOpen i0 sub up total first s
  | .domainPut h k b => Sys2Proof.Machine.execDomainPut h k b s
  | .domainGet h k => Sys2Proof.Machine.execDomainGet h k s
  | .unknownCommand req crc => Sys2Proof.Machine.execUnknownCommand req crc s
  | .hostRequestDiscarded => Sys2Proof.Machine.execHostRequestDiscarded s
  | .hostAccessTimeout => Sys2Proof.Machine.execHostAccessTimeout s
  | .memoryRead b off src => Sys2Proof.Machine.execMemoryRead b off src s
  | .wholeWordWrite b off tag v met => Sys2Proof.Machine.execWholeWordWrite b off tag v met s
  | .partialWrite b off p src met => Sys2Proof.Machine.execPartialWrite b off p src met s
  | .scrubStep b fg beaten => Sys2Proof.Machine.execScrubStep b fg beaten s
  | .cardingRun c mask algo bgs destructive => Sys2Proof.Machine.execCardingRun c mask algo bgs destructive s
  | .cardingSegmentStep fg reads => Sys2Proof.Machine.execCardingSegmentStep fg reads s
  | .cardingBankMarch reads => Sys2Proof.Machine.execCardingBankMarch reads s
  | .euNop op => Sys2Proof.Machine.execEuNop op s
  | .euHalt op => Sys2Proof.Machine.execEuHalt op s
  | .euRet op => Sys2Proof.Machine.execEuRet op s
  | .euWait op => Sys2Proof.Machine.execEuWait op s
  | .euRtt op => Sys2Proof.Machine.execEuRtt op s
  | .euPush op => Sys2Proof.Machine.execEuPush op s
  | .euPop op => Sys2Proof.Machine.execEuPop op s
  | .euNeg op => Sys2Proof.Machine.execEuNeg op s
  | .euAbs op => Sys2Proof.Machine.execEuAbs op s
  | .euNot op => Sys2Proof.Machine.execEuNot op s
  | .euBswap op => Sys2Proof.Machine.execEuBswap op s
  | .euClz op => Sys2Proof.Machine.execEuClz op s
  | .euMknil op => Sys2Proof.Machine.execEuMknil op s
  | .euMov op => Sys2Proof.Machine.execEuMov op s
  | .euLd op => Sys2Proof.Machine.execEuLd op s
  | .euSt op => Sys2Proof.Machine.execEuSt op s
  | .euLdp op => Sys2Proof.Machine.execEuLdp op s
  | .euStp op => Sys2Proof.Machine.execEuStp op s
  | .euLdph op => Sys2Proof.Machine.execEuLdph op s
  | .euStph op => Sys2Proof.Machine.execEuStph op s
  | .euAdd op => Sys2Proof.Machine.execEuAdd op s
  | .euSub op => Sys2Proof.Machine.execEuSub op s
  | .euAdds op => Sys2Proof.Machine.execEuAdds op s
  | .euSubs op => Sys2Proof.Machine.execEuSubs op s
  | .euMul op => Sys2Proof.Machine.execEuMul op s
  | .euDiv op => Sys2Proof.Machine.execEuDiv op s
  | .euRem op => Sys2Proof.Machine.execEuRem op s
  | .euCmp op => Sys2Proof.Machine.execEuCmp op s
  | .euMin op => Sys2Proof.Machine.execEuMin op s
  | .euMax op => Sys2Proof.Machine.execEuMax op s
  | .euAnd op => Sys2Proof.Machine.execEuAnd op s
  | .euOr op => Sys2Proof.Machine.execEuOr op s
  | .euXor op => Sys2Proof.Machine.execEuXor op s
  | .euTst op => Sys2Proof.Machine.execEuTst op s
  | .euShl op => Sys2Proof.Machine.execEuShl op s
  | .euShr op => Sys2Proof.Machine.execEuShr op s
  | .euSar op => Sys2Proof.Machine.execEuSar op s
  | .euRol op => Sys2Proof.Machine.execEuRol op s
  | .euTagof op => Sys2Proof.Machine.execEuTagof op s
  | .euTageq op => Sys2Proof.Machine.execEuTageq op s
  | .euRetag op => Sys2Proof.Machine.execEuRetag op s
  | .euCvtf op => Sys2Proof.Machine.execEuCvtf op s
  | .euCvti op => Sys2Proof.Machine.execEuCvti op s
  | .euSetp op => Sys2Proof.Machine.execEuSetp op s
  | .euB op => Sys2Proof.Machine.execEuB op s
  | .euCall op => Sys2Proof.Machine.execEuCall op s
  | .euLoop op => Sys2Proof.Machine.execEuLoop op s
  | .euBnil op => Sys2Proof.Machine.execEuBnil op s
  | .euXchg op => Sys2Proof.Machine.execEuXchg op s
  | .euXadd op => Sys2Proof.Machine.execEuXadd op s
  | .euCas op => Sys2Proof.Machine.execEuCas op s
  | .euCopyw op => Sys2Proof.Machine.execEuCopyw op s
  | .euFillw op => Sys2Proof.Machine.execEuFillw op s
  | .euCopyp op => Sys2Proof.Machine.execEuCopyp op s
  | .euCrc32c op => Sys2Proof.Machine.execEuCrc32c op s
  | .euMfsr op => Sys2Proof.Machine.execEuMfsr op s
  | .euMtsr op => Sys2Proof.Machine.execEuMtsr op s
  | .euIold op => Sys2Proof.Machine.execEuIold op s
  | .euIost op => Sys2Proof.Machine.execEuIost op s
  | .euSwt op => Sys2Proof.Machine.execEuSwt op s
  | .euWaituntil op => Sys2Proof.Machine.execEuWaituntil op s
  | .waituntilReached i0 => Sys2Proof.Machine.execWaituntilReached i0 s
  | .euMac op => Sys2Proof.Machine.execEuMac op s
  | .euMacr op => Sys2Proof.Machine.execEuMacr op s
  | .euClracc op => Sys2Proof.Machine.execEuClracc op s
  | .euClamp op => Sys2Proof.Machine.execEuClamp op s
  | .euLdang op => Sys2Proof.Machine.execEuLdang op s
  | .euLdtime op => Sys2Proof.Machine.execEuLdtime op s
  | .shwake t w => Sys2Proof.Machine.execShwake t w s
  | .imageLoad c slot src => Sys2Proof.Machine.execLoad c slot src s
  | .unload c slot => Sys2Proof.Machine.execUnload c slot s
  | .store c store => Sys2Proof.Machine.execStore c store s
  | .table c set value => Sys2Proof.Machine.execTable c set value s
  | .imageRestart k => Sys2Proof.Machine.execImageRestart k s
  | .heddleNop n fetchBad => Sys2Proof.Machine.execHeddleNop n fetchBad s
  | .sample n pins fetchBad => Sys2Proof.Machine.execSample n pins fetchBad s
  | .drive n fetchBad => Sys2Proof.Machine.execDrive n fetchBad s
  | .await n before now fetchBad => Sys2Proof.Machine.execAwait n before now fetchBad s
  | .count n fetchBad => Sys2Proof.Machine.execCount n fetchBad s
  | .shift n fetchBad => Sys2Proof.Machine.execShift n fetchBad s
  | .emit n fetchBad => Sys2Proof.Machine.execEmit n fetchBad s
  | .take n fetchBad => Sys2Proof.Machine.execTake n fetchBad s
  | .branch n pins fetchBad => Sys2Proof.Machine.execBranch n pins fetchBad s
  | .hdMatch n pins fetchBad => Sys2Proof.Machine.execMatch n pins fetchBad s
  | .timeout n fetchBad => Sys2Proof.Machine.execTimeout n fetchBad s
  | .signal n fetchBad => Sys2Proof.Machine.execSignal n fetchBad s
  | .awaitConditionMet n cycles before now => Sys2Proof.Machine.execAwaitConditionMet n cycles before now s
  | .heddleStallRelease n cycles => Sys2Proof.Machine.execHeddleStallRelease n cycles s
  | .heddleTExpiry n => Sys2Proof.Machine.execHeddleTExpiry n s
  | .heddleTimeCompare n => Sys2Proof.Machine.execHeddleTimeCompare n s
  | .heddleEnable n wtr => Sys2Proof.Machine.execHeddleEnable n wtr s
  | .heddleDisable n wtr => Sys2Proof.Machine.execHeddleDisable n wtr s
  | .restart n wtr => Sys2Proof.Machine.execRestart n wtr s
  | .flush n wtr => Sys2Proof.Machine.execFlush n wtr s
  | .splitWrite n wtr split => Sys2Proof.Machine.execSplitWrite n wtr split s
  | .heddleDivWrite n wtr d => Sys2Proof.Machine.execHeddleDivWrite n wtr d s
  | .regionWrite n wtr base len start wrap => Sys2Proof.Machine.execRegionWrite n wtr base len start wrap s
  | .slotmapWrite n wtr hi v => Sys2Proof.Machine.execSlotmapWrite n wtr hi v s
  | .programWordWrite b w wtr v => Sys2Proof.Machine.execProgramWordWrite b w wtr v s
  | .txqWrite n wtr v => Sys2Proof.Machine.execTxqWrite n wtr v s
  | .rxqRead n => Sys2Proof.Machine.execRxqRead n s
  | .ttargetWrite n wtr v => Sys2Proof.Machine.execTtargetWrite n wtr v s
  | .bypassWrite wtr v => Sys2Proof.Machine.execBypassWrite wtr v s
  | .daliCurrentLimit i0 => Sys2Proof.Machine.execDaliCurrentLimit i0 s
  | .uartTxWrite n wtr b => Sys2Proof.Machine.execUartTxWrite n wtr b s
  | .uartRxRead n => Sys2Proof.Machine.execUartRxRead n s
  | .txflush n wtr => Sys2Proof.Machine.execTxflush n wtr s
  | .rxflush n wtr => Sys2Proof.Machine.execRxflush n wtr s
  | .uartConfigWrite n wtr cfg receiving => Sys2Proof.Machine.execUartConfigWrite n wtr cfg receiving s
  | .uartTransmitStart n => Sys2Proof.Machine.execUartTransmitStart n s
  | .uartCharacterSent n => Sys2Proof.Machine.execUartCharacterSent n s
  | .uartDeRelease n => Sys2Proof.Machine.execUartDeRelease n s
  | .uartCharacterReceived n data framing parity brk => Sys2Proof.Machine.execUartCharacterReceived n data framing parity brk s
  | .uartIdle n => Sys2Proof.Machine.execUartIdle n s
  | .macFrameEnd p b symErr sfd => Sys2Proof.Machine.execMacFrameEnd p b symErr sfd s
  | .frameTooLong p => Sys2Proof.Machine.execFrameTooLong p s
  | .portCellExhausted p b sfd => Sys2Proof.Machine.execPortCellExhausted p b sfd s
  | .frameDecision p => Sys2Proof.Machine.execFrameDecision p s
  | .transmitOpportunity p opening => Sys2Proof.Machine.execTransmitOpportunity p opening s
  | .frameTransmitted p overrun sfd => Sys2Proof.Machine.execFrameTransmitted p overrun sfd s
  | .timeGateEntryChange p restart => Sys2Proof.Machine.execTimeGateEntryChange p restart s
  | .angleGateEntryChange p restart => Sys2Proof.Machine.execAngleGateEntryChange p restart s
  | .tgSwap p => Sys2Proof.Machine.execTgSwap p s
  | .agSwap p => Sys2Proof.Machine.execAgSwap p s
  | .fdbAgeing mac vid => Sys2Proof.Machine.execFdbAgeing mac vid s
  | .fdbLookup group => Sys2Proof.Machine.execFdbLookup group s
  | .fdbInsert group => Sys2Proof.Machine.execFdbInsert group s
  | .fdbDelete group => Sys2Proof.Machine.execFdbDelete group s
  | .flushFdb => Sys2Proof.Machine.execFlushFdb s
  | .nqRxpop q => Sys2Proof.Machine.execNqRxpop q s
  | .nqAlloc q => Sys2Proof.Machine.execNqAlloc q s
  | .nqTx q h => Sys2Proof.Machine.execNqTx q h s
  | .nqFree q h => Sys2Proof.Machine.execNqFree q h s
  | .nqCpop q => Sys2Proof.Machine.execNqCpop q s
  | .bobbinRecordWrite foreground => Sys2Proof.Machine.execBobbinRecordWrite foreground s
  | .bobbinRecord => Sys2Proof.Machine.execBobbinRecord s
  | .linkUp p master level => Sys2Proof.Machine.execLinkUp p master level s
  | .linkDown p => Sys2Proof.Machine.execLinkDown p s
  | .pauseExpiry p => Sys2Proof.Machine.execPauseExpiry p s
  | .macModeWrite p mode => Sys2Proof.Machine.execMacModeWrite p mode s
  | .phyControlWord p slow half => Sys2Proof.Machine.execPhyControlWord p slow half s
  | .pstkRead p coincident => Sys2Proof.Machine.execPstkRead p coincident s
  | .largeSend c h kind hdr payload mss ctl => Sys2Proof.Machine.execLargeSend c h kind hdr payload mss ctl s
  | .t1lDiagRun => Sys2Proof.Machine.execT1lDiagRun s
  | .autoDiag => Sys2Proof.Machine.execAutoDiag s
  | .t1lDiagComplete result distance => Sys2Proof.Machine.execT1lDiagComplete result distance s
  | .canStart n wtr => Sys2Proof.Machine.execCanStart n wtr s
  | .canStop n => Sys2Proof.Machine.execCanStop n s
  | .canRecover n => Sys2Proof.Machine.execCanRecover n s
  | .canSleep n => Sys2Proof.Machine.execCanSleep n s
  | .canBusIdle n => Sys2Proof.Machine.execCanBusIdle n s
  | .canRecoveryComplete n => Sys2Proof.Machine.execCanRecoveryComplete n s
  | .canFrameReceived n f back => Sys2Proof.Machine.execCanFrameReceived n f back s
  | .transmitAttemptStart n left => Sys2Proof.Machine.execTransmitAttemptStart n left s
  | .transmitSuccess n back => Sys2Proof.Machine.execTransmitSuccess n back s
  | .transmitFailure n why => Sys2Proof.Machine.execTransmitFailure n why s
  | .txset n k => Sys2Proof.Machine.execTxset n k s
  | .txcancel n k => Sys2Proof.Machine.execTxcancel n k s
  | .moConfigWrite n k w => Sys2Proof.Machine.execMoConfigWrite n k w s
  | .newdatClear n k => Sys2Proof.Machine.execNewdatClear n k s
  | .ttCycleStart n cyc => Sys2Proof.Machine.execTtCycleStart n cyc s
  | .ttColumnMark n => Sys2Proof.Machine.execTtColumnMark n s
  | .ttTxWindowExpiry n => Sys2Proof.Machine.execTtTxWindowExpiry n s
  | .refLost n => Sys2Proof.Machine.execRefLost n s
  | .txdTimeout n => Sys2Proof.Machine.execTxdTimeout n s
  | .busFault n code => Sys2Proof.Machine.execBusFault n code s
  | .busFaultClear n => Sys2Proof.Machine.execBusFaultClear n s
  | .canWake n c => Sys2Proof.Machine.execCanWake n c s
  | .groupStart g => Sys2Proof.Machine.execGroupStart g s
  | .groupStop g => Sys2Proof.Machine.execGroupStop g s
  | .groupPark g => Sys2Proof.Machine.execGroupPark g s
  | .groupClear g => Sys2Proof.Machine.execGroupClear g s
  | .startConditionsMet g => Sys2Proof.Machine.execStartConditionsMet g s
  | .precheckDone g vout vin isen => Sys2Proof.Machine.execPrecheckDone g vout vin isen s
  | .softstartDone g => Sys2Proof.Machine.execSoftstartDone g s
  | .rampdownDone g => Sys2Proof.Machine.execRampdownDone g s
  | .groupRetry g => Sys2Proof.Machine.execGroupRetry g s
  | .loopStep g => Sys2Proof.Machine.execLoopStep g s
  | .pwmSyncEvent g => Sys2Proof.Machine.execPwmSyncEvent g s
  | .phaseRotation g => Sys2Proof.Machine.execPhaseRotation g s
  | .dutyWrite n v => Sys2Proof.Machine.execDutyWrite n v s
  | .tripLineEdge t => Sys2Proof.Machine.execTripLineEdge t s
  | .gateDriverFault n active => Sys2Proof.Machine.execGateDriverFault n active s
  | .zcdEdge n => Sys2Proof.Machine.execZcdEdge n s
  | .seqGo k => Sys2Proof.Machine.execSeqGo k s
  | .seqPwmTrigger k => Sys2Proof.Machine.execSeqPwmTrigger k s
  | .seqTimeTrigger k => Sys2Proof.Machine.execSeqTimeTrigger k s
  | .sequenceDone k => Sys2Proof.Machine.execSequenceDone k s
  | .adcOffsetCalibration c code busy => Sys2Proof.Machine.execAdcOffsetCalibration c code busy s
  | .pcpWake => Sys2Proof.Machine.execPcpWake s
  | .fanSpeedLoop rpm current vhv => Sys2Proof.Machine.execFanSpeedLoop rpm current vhv s
  | .fanDutyWrite v => Sys2Proof.Machine.execFanDutyWrite v s
  | .fallback => Sys2Proof.Machine.execFallback s
  | .fanDemandChange => Sys2Proof.Machine.execFanDemandChange s
  | .fanLock reversed => Sys2Proof.Machine.execFanLock reversed s
  | .fanStartTimeout => Sys2Proof.Machine.execFanStartTimeout s
  | .fanStall => Sys2Proof.Machine.execFanStall s
  | .fanRestartWaitEnd => Sys2Proof.Machine.execFanRestartWaitEnd s
  | .fanShort => Sys2Proof.Machine.execFanShort s
  | .fanShortResume => Sys2Proof.Machine.execFanShortResume s
  | .fanOpenPhase => Sys2Proof.Machine.execFanOpenPhase s
  | .hallFault => Sys2Proof.Machine.execHallFault s
  | .fanAttemptReset => Sys2Proof.Machine.execFanAttemptReset s
  | .fanUnderspeed => Sys2Proof.Machine.execFanUnderspeed s
  | .fanUnderspeedClear => Sys2Proof.Machine.execFanUnderspeedClear s
  | .fanClear => Sys2Proof.Machine.execFanClear s
  | .fanBaselineRun c => Sys2Proof.Machine.execFanBaselineRun c s
  | .fanEffortWindow effort stable => Sys2Proof.Machine.execFanEffortWindow effort stable s
  | .ageingUpdate rpm effort stable => Sys2Proof.Machine.execAgeingUpdate rpm effort stable s
  | .temperatureUpdate n t => Sys2Proof.Machine.execTemperatureUpdate n t s
  | .guardAssert cause => Sys2Proof.Machine.execGuardAssert cause s
  | .guardCooling => Sys2Proof.Machine.execGuardCooling s
  | .guardAck => Sys2Proof.Machine.execGuardAck s
  | .guardReleaseTimer => Sys2Proof.Machine.execGuardReleaseTimer s
  | .railSwitchover => Sys2Proof.Machine.execRailSwitchover s
  | .railSwitchBack => Sys2Proof.Machine.execRailSwitchBack s
  | .backupDomainLost => Sys2Proof.Machine.execBackupDomainLost s
  | .vbatMeasurement mv => Sys2Proof.Machine.execVbatMeasurement mv s
  | .oscFail => Sys2Proof.Machine.execOscFail s
  | .oscResume => Sys2Proof.Machine.execOscResume s
  | .cntloRead => Sys2Proof.Machine.execCntloRead s
  | .rtcSet => Sys2Proof.Machine.execRtcSet s
  | .rtcSetEdge => Sys2Proof.Machine.execRtcSetEdge s
  | .summerOn => Sys2Proof.Machine.execSummerOn s
  | .summerOff => Sys2Proof.Machine.execSummerOff s
  | .localOffsetWrite v => Sys2Proof.Machine.execLocalOffsetWrite v s
  | .trimWrite v => Sys2Proof.Machine.execTrimWrite v s
  | .trimCorrection => Sys2Proof.Machine.execTrimCorrection s
  | .rtcSync => Sys2Proof.Machine.execRtcSync s
  | .autoTrim => Sys2Proof.Machine.execAutoTrim s
  | .alarmDisarm v => Sys2Proof.Machine.execAlarmDisarm v s
  | .alarmArm v => Sys2Proof.Machine.execAlarmArm v s
  | .alarmFire => Sys2Proof.Machine.execAlarmFire s
  | .periodWrite v => Sys2Proof.Machine.execPeriodWrite v s
  | .periodicFire => Sys2Proof.Machine.execPeriodicFire s
  | .counterWrap => Sys2Proof.Machine.execCounterWrap s
  | .blockLock i0 => Sys2Proof.Machine.execBlockLock i0 s
  | .grilorLinkUp i0 => Sys2Proof.Machine.execGrilorLinkUp i0 s
  | .grilorLinkDown i0 => Sys2Proof.Machine.execGrilorLinkDown i0 s
  | .glAck i0 ack crcOk => Sys2Proof.Machine.execGlAck i0 ack crcOk s
  | .glNak i0 ack crcOk => Sys2Proof.Machine.execGlNak i0 ack crcOk s
  | .glData h m => Sys2Proof.Machine.execGlData h m s
  | .glSync h sec ns corr residence => Sys2Proof.Machine.execGlSync h sec ns corr residence s
  | .delayReq h turnaround => Sys2Proof.Machine.execDelayReq h turnaround s
  | .delayResp h turnaround => Sys2Proof.Machine.execDelayResp h turnaround s
  | .glCross h sec ns ang => Sys2Proof.Machine.execGlCross h sec ns ang s
  | .glEnum h walk pos assigned => Sys2Proof.Machine.execGlEnum h walk pos assigned s
  | .glEnumResp h device side fixedId => Sys2Proof.Machine.execGlEnumResp h device side fixedId s
  | .glHeartbeat h side st mirror seq sec ns ang => Sys2Proof.Machine.execGlHeartbeat h side st mirror seq sec ns ang s
  | .glHandover h => Sys2Proof.Machine.execGlHandover h s
  | .glMirror h m => Sys2Proof.Machine.execGlMirror h m s
  | .glMirrorAck h => Sys2Proof.Machine.execGlMirrorAck h s
  | .glKeepalive k h => Sys2Proof.Machine.execGlKeepalive k h s
  | .glBoot h m => Sys2Proof.Machine.execGlBoot h m s
  | .replayTimeout i0 => Sys2Proof.Machine.execReplayTimeout i0 s
  | .keepaliveTimeout k => Sys2Proof.Machine.execKeepaliveTimeout k s
  | .syncSend => Sys2Proof.Machine.execSyncSend s
  | .heartbeatSend => Sys2Proof.Machine.execHeartbeatSend s
  | .delayMeasurement i0 => Sys2Proof.Machine.execDelayMeasurement i0 s
  | .keepaliveSend k => Sys2Proof.Machine.execKeepaliveSend k s
  | .heartbeatMiss => Sys2Proof.Machine.execHeartbeatMiss s
  | .enumerate => Sys2Proof.Machine.execEnumerate s
  | .enumRespTimeout => Sys2Proof.Machine.execEnumRespTimeout s
  | .rosterReset => Sys2Proof.Machine.execRosterReset s
  | .gateway c w ref op tag v => Sys2Proof.Machine.execGateway c w ref op tag v s
  | .gatewayTimeout => Sys2Proof.Machine.execGatewayTimeout s
  | .twinOwnChange peer => Sys2Proof.Machine.execTwinOwnChange peer s
  | .twinInitTimeout => Sys2Proof.Machine.execTwinInitTimeout s
  | .handoverCommand => Sys2Proof.Machine.execHandoverCommand s
  | .mirrorAckTimeout => Sys2Proof.Machine.execMirrorAckTimeout s
  | .mirrorSyncDone => Sys2Proof.Machine.execMirrorSyncDone s
  | .rs485LineMeasurement n a b => Sys2Proof.Machine.execRs485LineMeasurement n a b s
  | .canReceiveError n lec by8 => Sys2Proof.Machine.execCanReceiveError n lec by8 s
  | .guardConditionReturn => Sys2Proof.Machine.execGuardConditionReturn s

end Sys2Proof.Machine
end

