-- ==== Sys2Proof/Machine/Idle.lean ====
section
/-! DEFINITION. What an idle step does: one SCLK cycle passes. -/
namespace Sys2Proof.Machine

/-- Whether device time and the domains run (R227, R238): from W8, but not in LIMP. -/
def State.clocksRun (s : State) : Bool := s.running || (s.pstate == 3 && s.pow.wakeStep == 8 && !s.pow.limp && !s.pow.waitRetry)

/-- One SCLK cycle passes: the clocks, ANG, the PWM generation and the Heddle clocks advance while they run,
the RTC counter while its oscillator runs. -/
def State.idle (s : State) : State :=
  let s0 : State := { s with cycle := s.cycle + 1 }
  let s1 := if s.clocksRun then s0.tickTime else s0
  (if s.running then s1.tickTreadle.tickPwm.tickHeddles else s1).tickRtc

end Sys2Proof.Machine
end

