-- ==== Sys2Proof/Safety.lean ====
section
/-! DEFINITION. What a safe step is, and the words in which the statements say what a command does and what it leaves: the parts of
the state, the register fields, and the canonical form of what is stored. -/
namespace Sys2Proof.Machine

/-- The command answers a next state of which `P` holds: it neither faults nor is refused. -/
def Answers (c : Instr) (s : State) (P : State → Prop) : Prop := ∃ t, exec c s = .next t ∧ P t

/-- A safe step: the block goes on. -/
def SafeStep (s : State) : Prop := ∃ t, step s = .next t

/-- The parts of the state, one for each field of `State`. -/
inductive Part where
  | regs | cycle | free | fuse | link | linkAnswer | pow | od | tk | jr | trd | time | mem | threads | img | hed | loom
  | can | pwm | fan | bk | gl | readData | pending | flash | marks
  deriving DecidableEq, Repr

/-- A part of two states is the same. -/
def Part.same (s t : State) : Part → Prop
  | .regs => t.regs = s.regs
  | .cycle => t.cycle = s.cycle
  | .free => t.free = s.free
  | .fuse => t.fuse = s.fuse
  | .link => t.link = s.link
  | .linkAnswer => t.linkAnswer = s.linkAnswer
  | .pow => t.pow = s.pow
  | .od => t.od = s.od
  | .tk => t.tk = s.tk
  | .jr => t.jr = s.jr
  | .trd => t.trd = s.trd
  | .time => t.time = s.time
  | .mem => t.mem = s.mem
  | .threads => t.threads = s.threads
  | .img => t.img = s.img
  | .hed => t.hed = s.hed
  | .loom => t.loom = s.loom
  | .can => t.can = s.can
  | .pwm => t.pwm = s.pwm
  | .fan => t.fan = s.fan
  | .bk => t.bk = s.bk
  | .gl => t.gl = s.gl
  | .readData => t.readData = s.readData
  | .pending => t.pending = s.pending
  | .flash => t.flash = s.flash
  | .marks => t.marks = s.marks

/-- Nothing changes but the parts listed. -/
def Keeps (l : List Part) (s t : State) : Prop := ∀ p, p ∈ l ∨ p.same s t

/-- No register field changes but the fields listed. -/
def KeepsFields (l : List Field) (s t : State) : Prop := ∀ f : Field, f.key ∈ l.map Field.key ∨ t.rd f = s.rd f

/-- Nothing changes but the register fields listed and the parts listed. -/
def KeepsBut (fs : List Field) (l : List Part) (s t : State) : Prop := KeepsFields fs s t ∧ Keeps (.regs :: l) s t

/-- Whether context `c` is served and has no token to wait for (checks 1 and 2 of R290): it is OPEN after W8, the shutdown has not
begun, and its RATE is 0. -/
def State.contextOpen (s : State) (c : Nat) : Bool :=
  !s.hostNotReady c && s.served c && s.pstate != 6 && (s.ctx c).rate == 0

/-- Whether check 13 of R290 lets context `c` hold one more ticket. -/
def State.quotaFree (s : State) (c : Nat) : Bool := decide ((s.heldBy c).length < (s.ctx c).quota)

/-- What admission says of a ticket (R339, R340, R345): slot `i` is QUEUED with the type and the client, the handle of the slot is
answered with PENDING, and every other slot is as before. -/
def AdmittedAs (s t : State) (i : Fin 128) (type c : Nat) : Prop :=
  (t.ticket i).state = .queued ∧ (t.ticket i).type = type ∧ (t.ticket i).client = c ∧ (t.ticket i).step = 0 ∧
    t.od.answer.code = 0x40 ∧ t.od.answer.handle = some (t.handleOf i) ∧ (∀ j : Fin 128, j ≠ i → t.ticket j = s.ticket j) ∧
    KeepsBut [Reg.HOSTPORT_INTSTAT_INTSTAT] [.od, .tk, .jr, .gl, .marks] s t

/-- The fields that show the state of group `g` and of the phases: what parking, starting and a fault of the group may change. -/
def grFields (g : Nat) : List Field :=
  [Reg.PWM_G_STAT_STATE.at g, Reg.PWM_G_STAT_FAULT.at g, Reg.PWM_G_STAT_ACTIVE.at g, Reg.PWM_G_STAT_DE_ACTIVE.at g,
    Reg.PWM_G_STAT_SB_INHIBIT.at g, Reg.PWM_STAT_PARKED] ++ (List.range 8).map (Reg.PWM_PH_STAT_STATE.at ·)

/-- Group `g` is in FAULT, or in RETRY_WAIT where a retry is due, with `code` latched, and event 0x0E01 says so. -/
def FaultedWith (s t : State) (g code : Nat) : Prop :=
  t.grState g = (if retriable code && decide ((s.gr g).retries < s.grCfg 0x4010 g 0x1C 0) then 6 else 5) ∧ t.grFault g = code ∧
    t.rd (Reg.PWM_G_STAT_ACTIVE.at g) = 0 ∧ bitOf (t.rd Reg.PWM_STAT_PARKED) g = true ∧
    (t.tk.ring.head?).map (fun e => (e.code, e.src, e.data)) = some (0x0E01, g, code :: evBytes 4 (s.gr g).vout)

/-- Whether Heddle `n` is in RUN with an instruction of OP code `op` at its PC. -/
def State.hdRuns (s : State) (n op : Nat) : Bool := s.hdState n == 1 && fieldOf (s.hdWord n) 20 4 == op

/-- The argument of the instruction at the PC of Heddle `n`. -/
def State.hdArg (s : State) (n : Nat) : Nat := fieldOf (s.hdWord n) 0 10

/-- HOLD of the instruction at the PC of Heddle `n`. -/
def State.hdHold (s : State) (n : Nat) : Nat := fieldOf (s.hdWord n) 10 5

/-- The PC that follows where no branch is taken (R605). -/
def State.hdNext (s : State) (n : Nat) : Nat :=
  if s.rd (Reg.HEDDLE_STAT_PC.at n) + 1 = s.rd (Reg.HEDDLE_REGION_LEN.at n) then s.rd (Reg.HEDDLE_REGION_WRAP.at n)
  else s.rd (Reg.HEDDLE_STAT_PC.at n) + 1

/-- Heddle `n` after the pinset, the cycle and the HOLD of its instruction, before what the operation itself changes. -/
def State.hdBase (s : State) (n : Nat) : Heddle :=
  { s.hd n with
    t := (s.hd n).t - (1 + s.hdHold n), stalled := false,
    lev := if bitOf (s.hdWord n) 19 then (s.hd n).lev % 16 + 16 * fieldOf (s.hdWord n) 15 4 else (s.hd n).lev }

/-- FLAG after an operation that leaves it at `f`: T that reaches 0 during the HOLD sets it (R620). -/
def State.hdFlagThen (s : State) (n f : Nat) : Nat := if 1 < (s.hd n).t ∧ (s.hd n).t ≤ 1 + s.hdHold n then 1 else f

/-- FLAG as an operation finds it: T that reaches 0 in its first cycle has set it. -/
def State.hdFlagFound (s : State) (n : Nat) : Nat := if (s.hd n).t = 1 then 1 else s.rd (Reg.HEDDLE_STAT_FLAG.at n)

/-- Whether the condition of the BRANCH at the PC of Heddle `n` holds (Table 10-3). -/
def State.hdTakes (s : State) (n pins : Nat) : Bool :=
  match fieldOf (s.hdArg n) 7 3 with
  | 0 => true
  | 1 => s.hdFlagFound n != 0
  | 2 => s.hdFlagFound n == 0
  | 3 => (s.hd n).sn == (s.hd n).slen
  | 4 => decide (s.hdCatchLen n ≤ (s.hd n).cn)
  | 5 => s.slotReads n pins 0
  | _ => !s.slotReads n pins 0

/-- Heddle `n` has gone on to `next` in RUN, is `h` with `flag` in FLAG, and nothing else changes but the Weaver interrupts, the
fields `l` and the parts `p`. -/
def HdGoesOn (s t : State) (n next : Nat) (h : Heddle) (flag : Nat) (l : List Field) (p : List Part) : Prop :=
  t.hdState n = 1 ∧ t.rd (Reg.HEDDLE_STAT_PC.at n) = next % 128 ∧ t.rd (Reg.HEDDLE_STAT_FLAG.at n) = flag ∧ t.hd n = h ∧
    t.hed.prog = s.hed.prog ∧ t.hed.uart = s.hed.uart ∧ (∀ m : Fin 16, m.val ≠ n → t.hd m = s.hd m) ∧
    KeepsBut ([Reg.HEDDLE_STAT_STATE.at n, Reg.HEDDLE_STAT_PC.at n, Reg.HEDDLE_STAT_FLAG.at n] ++ l) (.hed :: p) s t

/-- Heddle `n` is FAULTED with `code` and disabled, and event 0x0A01 carries the code and the PC (R637). -/
def HdFaulted (s t : State) (n code : Nat) (l : List Field) : Prop :=
  t.hdState n = 3 ∧ t.rd (Reg.HEDDLE_STAT_FAULT.at n) = code ∧ t.rd (Reg.HEDDLE_CTRL_EN.at n) = 0 ∧ (t.hd n).stalled = false ∧
    (t.tk.ring.head?).map (fun e => (e.code, e.src, e.data)) = some (0x0A01, n, [code, s.rd (Reg.HEDDLE_STAT_PC.at n)]) ∧
    KeepsBut ([Reg.HEDDLE_STAT_STATE.at n, Reg.HEDDLE_STAT_FAULT.at n, Reg.HEDDLE_CTRL_EN.at n,
      Reg.HOSTPORT_INTSTAT_INTSTAT] ++ l) [.hed, .tk, .jr, .gl, .marks] s t

/-- The encoding of DIV and REM. -/
abbrev divDesc : EurDesc := { aluDesc with stream := false }

/-- The encoding of MAC. -/
abbrev macDesc : EurDesc := { shortDesc with esc := true, stream := false }

/-- The encoding of MOV. -/
abbrev movDesc : EurDesc := { shortDesc with wide := [.reg] }

/-- The encoding of MACR. -/
abbrev macrDesc : EurDesc := { dDesc with esc := true, stream := false }

/-- The encoding of CLRACC. -/
abbrev clraccDesc : EurDesc := { form := .n, esc := true, stream := false }

/-- The encoding of TAGEQ, RETAG, MFSR, MTSR and SWT. -/
abbrev imm8Desc : EurDesc := { form := .s, modes := [.i8] }

/-- The encoding of TAGOF. -/
abbrev regDesc : EurDesc := { form := .s, modes := [.reg] }

/-- The encoding of LD. -/
abbrev ldDesc : EurDesc := { form := .s, modes := memModes, shared := true, wide := memModes }

/-- The encoding of ST. -/
abbrev stDesc : EurDesc := { form := .s, modes := memModes ++ [.mi], shared := true, wide := memModes }

/-- The encoding of LDP and STP. -/
abbrev byteDesc : EurDesc := { packetDesc with byte := true }

/-- The encoding of COPYP and CRC32C. -/
abbrev movePacketDesc : EurDesc := { form := .s, modes := [.reg], rep := true, control := false }

/-- The encoding of CALL. -/
abbrev callDesc : EurDesc := { form := .s, modes := [.reg, .i16, .i32] }

/-- The encoding of LOOP and BNIL. -/
abbrev loopDesc : EurDesc := { form := .s, modes := [.i8, .i16] }

/-- The encoding of HALT. -/
abbrev haltDesc : EurDesc := { nDesc with full := false }

/-- The encoding of RTT. -/
abbrev rttDesc : EurDesc := { nDesc with pred := false }

/-- The encoding of LDANG and LDTIME. -/
abbrev liveDesc : EurDesc := { dDesc with esc := true }

/-- The state after the fetch of an instruction, which logs what the fetch corrects (R418). -/
def State.fetched (s : State) (d : EurDesc) (op : EurOp) : State := (s.fetchFails op.thread (eurLen d op)).2

/-- Whether the instruction is issued and executes: its thread may issue, the fetch and the encoding are good, the profile has it, and
its predicate holds (R493, R529). -/
def State.euIssues (s : State) (d : EurDesc) (op : EurOp) : Bool :=
  s.mayIssue op.thread && !op.fetchBad && !(s.fetchFails op.thread (eurLen d op)).1 && !encIllegal d op && inProfile d op.thread &&
    !(eurHas op .predT && !(s.thread op.thread).p) && !(eurHas op .predF && (s.thread op.thread).p)

/-- The address of the instruction that follows. -/
def State.euNext (s : State) (d : EurDesc) (op : EurOp) : Word := (s.thread op.thread).pc + BitVec.ofNat 32 (eurLen d op)

/-- What thread of an instruction is before it, and its register `D`. -/
def State.euThread (s : State) (op : EurOp) : Thread := s.thread op.thread

/-- Register `D` of the thread that issues. -/
def State.euD (s : State) (op : EurOp) : TWord := s.greg op.thread op.d

/-- Register `B` of the thread that issues. -/
def State.euB (s : State) (op : EurOp) : TWord := s.greg op.thread (bReg op)

/-- A thread with a word in one register; a register never holds tag 0xE (R480, R512). -/
def Thread.put (t : Thread) (n : Nat) (w : TWord) : Thread :=
  { t with g := t.g.set TWord.nilWord n (if w.tag = .reserved then { w with tag := .bits } else w) }

/-- A thread with its four result flags. -/
def Thread.withFlags (t : Thread) (f : Flags) : Thread := { t with z := f.z, n := f.n, c := f.c, v := f.v }

/-- The tagged-memory address of an operand of `n` words, with a PTR base or absolute (R497, R498, R557). -/
def State.tagAddr (s : State) (op : EurOp) (n : Nat) : Option Nat :=
  let a := if op.mode = .a16 then (op.ext.setWidth 16).toNat else ((s.euB op).val + dispOf op).toNat
  if (op.mode ≠ .a16 ∧ (s.euB op).tag ≠ .ptr ∧ unchecked op = false) ∨ s.spaceHas op n a = false then none else some a

/-- The word that a load of address `a` gives, and the state that the read leaves; none where the bank is being marched or the word
has tag 0xE outside UNCHK (R511 to R513). -/
def State.tagWord (s : State) (op : EurOp) (a : Nat) : Option (TWord × State) :=
  let r := s.memRead (placeOf op a).1 (placeOf op a).2 (srcOf op.thread)
  let w : TWord := ⟨r.2.1.tag, r.2.1.val.setWidth 32⟩
  if s.bankBusy (placeOf op a).1 then none
  else if w.tag = .reserved then (if unchecked op then some ({ w with tag := .bits }, r.2.2) else none)
  else some (w, r.2.2)

/-- The second operand and the state that reading it leaves (R489): a register, an immediate or a word of memory. -/
def State.sourceB (s : State) (op : EurOp) (dflt : Tag) : Option (TWord × State) :=
  if op.mode = .reg then some (s.euB op, s)
  else if memMode op.mode then (s.tagAddr op 1).bind (s.tagWord op)
  else some (immOf op dflt, s)

/-- The packet address of an access of `n` bytes, aligned and with a BPTR base, in a bank that is not being marched (R498). -/
def State.packetAddr (s : State) (op : EurOp) (n : Nat) : Option Nat :=
  let a := ((s.euB op).val + dispOf op).toNat
  if ((s.euB op).tag ≠ .bptr ∧ unchecked op = false) ∨ s.packetHas op a = false ∨ a % n ≠ 0 ∨ s.bankBusy (packetPlace a).1 then none
  else some a

/-- The instruction has run from `s`, the state its fetch and its memory accesses leave: its thread is `th`, and nothing else
changes. -/
def EuRan (s t : State) (op : EurOp) (th : Thread) : Prop :=
  t.thread op.thread = th ∧ (∀ j : Fin 35, j ≠ op.thread → t.thread j = s.thread j) ∧ Keeps [.threads] s t

/-- The thread of an instruction has taken a trap (R531): the code, the address, the failing word and FL are saved, TACTIVE is set, and the
handler's address follows from VBASE. -/
def EuTrapped (s t : State) (op : EurOp) (code : Nat) (tpc : Word) (w : TWord) : Prop :=
  t.thread op.thread = { s.euThread op with
    tpc := tpc, tcause := code, tval := w.val, ttag := w.tag.toCode, tfl := (s.euThread op).fl, tactive := true,
    pc := (s.euThread op).vbase + BitVec.ofNat 32 (16 * code) } ∧
  t.rd Reg.SYS_TRAPLAST_PROC = procOf op.thread ∧ t.rd Reg.SYS_TRAPLAST_THREAD = threadNo op.thread ∧
  t.rd Reg.SYS_TRAPLAST_CODE = code ∧ t.rd Reg.SYS_TRAPPC_PC = tpc.toNat ∧
  (∀ j : Fin 35, j ≠ op.thread → t.thread j = s.thread j) ∧
  KeepsBut [Reg.SYS_TRAPCNT_TOTAL, Reg.SYS_TRAPLAST_PROC, Reg.SYS_TRAPLAST_THREAD, Reg.SYS_TRAPLAST_CODE, Reg.SYS_TRAPPC_PC]
    [.threads] s t

/-- The operands of a Eurnafa instruction; none for any other command. -/
def eurnafaOp : Instr → Option EurOp
  | .euNop op | .euHalt op | .euRet op | .euWait op | .euRtt op | .euPush op | .euPop op | .euNeg op | .euAbs op | .euNot op
  | .euBswap op | .euClz op | .euMknil op | .euMov op | .euLd op | .euSt op | .euLdp op | .euStp op | .euLdph op | .euStph op
  | .euAdd op | .euSub op | .euAdds op | .euSubs op | .euMul op | .euDiv op | .euRem op | .euCmp op | .euMin op | .euMax op
  | .euAnd op | .euOr op | .euXor op | .euTst op | .euShl op | .euShr op | .euSar op | .euRol op | .euTagof op | .euTageq op
  | .euRetag op | .euCvtf op | .euCvti op | .euSetp op | .euB op | .euCall op | .euLoop op | .euBnil op | .euXchg op | .euXadd op
  | .euCas op | .euCopyw op | .euFillw op | .euCopyp op | .euCrc32c op | .euMfsr op | .euMtsr op | .euIold op | .euIost op
  | .euSwt op | .euWaituntil op | .euMac op | .euMacr op | .euClracc op | .euClamp op | .euLdang op | .euLdtime op => some op
  | _ => none

/-- The encoding of each Eurnafa instruction (Table 08-7). -/
def eurnafaDesc : Instr → EurDesc
  | .euAdd _ | .euSub _ | .euCmp _ => wideDesc
  | .euAdds _ | .euSubs _ | .euMul _ | .euMin _ | .euMax _ | .euAnd _ | .euOr _ | .euXor _ | .euTst _ => aluDesc
  | .euDiv _ | .euRem _ => divDesc
  | .euShl _ | .euShr _ | .euSar _ | .euRol _ | .euB _ => shortDesc
  | .euNeg _ | .euAbs _ | .euNot _ | .euBswap _ | .euClz _ | .euMknil _ | .euCvtf _ | .euCvti _ | .euSetp _ | .euPush _
  | .euPop _ | .euWaituntil _ => dDesc
  | .euMov _ => movDesc
  | .euTagof _ => regDesc
  | .euTageq _ | .euRetag _ | .euSwt _ | .euMfsr _ | .euMtsr _ => imm8Desc
  | .euMac _ | .euClamp _ => macDesc
  | .euMacr _ => macrDesc
  | .euClracc _ => clraccDesc
  | .euLd _ => ldDesc
  | .euSt _ => stDesc
  | .euLdp _ | .euStp _ => byteDesc
  | .euLdph _ | .euStph _ => packetDesc
  | .euXchg _ | .euXadd _ | .euCas _ => lockDesc
  | .euCopyw _ | .euFillw _ => copyDesc
  | .euCopyp _ | .euCrc32c _ => movePacketDesc
  | .euNop _ | .euRet _ | .euWait _ => nDesc
  | .euHalt _ => haltDesc
  | .euRtt _ => rttDesc
  | .euCall _ => callDesc
  | .euLoop _ | .euBnil _ => loopDesc
  | .euLdang _ | .euLdtime _ => liveDesc
  | .euIold _ | .euIost _ => ioDesc
  | _ => nDesc

/-- Whether an operand of the instruction makes its encoding illegal, beyond what its form says (R481, R491, R510, R511, R514, R535). -/
def eurnafaBadOperand : Instr → Bool
  | .euB op | .euSetp op => decide (16 < op.d.val)
  | .euCall op | .euLoop op => decide (op.d.val ≠ 0)
  | .euTageq op => decide (16 ≤ op.ext.toNat % 256)
  | .euRetag op => Tag.ofCode op.ext.toNat == .reserved
  | .euCas op => decide (op.d.val % 2 = 1)
  | .euMfsr op | .euMtsr op => !hasSpecial op.thread (immOf op .uint).val.toNat
  | _ => false

/-- Whether the instruction is an illegal opcode beyond its profile: RTT outside a handler, MTSR of a register that only reads (R532,
R535). -/
def eurnafaNoOpcode (s : State) : Instr → Bool
  | .euRtt op => !(s.thread op.thread).tactive
  | .euMtsr op => (specialTag (immOf op .uint).val.toNat).isNone
  | _ => false

/-- The register field that shows the state of Grilor link `i`. -/
def glField (i : Nat) : Field := if i < 2 then Reg.GL_STAT_STATE.at i else Reg.GE_STAT_STATE.at (i - 2)

/-- The header of a Grilor frame that every role takes by R974; none for the frames of twins and for other commands. -/
def glFrame : Instr → Option GHead
  | .glData h _ | .glSync h _ _ _ _ | .delayReq h _ | .delayResp h _ | .glCross h _ _ _ | .glEnum h _ _ _ | .glEnumResp h _ _ _
  | .glBoot h _ => some h
  | _ => none

/-- Whether a received frame is taken: its link is UP, its CRC is good, and it is the next in order (R974). -/
def State.glTaken (s : State) (h : GHead) : Bool :=
  s.glState h.link == 2 && h.crcOk && h.seq.toNat == (s.glink h.link).rxNext

/-- The state in which a frame that is taken does what its type says: it is counted, its ACKSEQ has freed what it acknowledges, and the
answer is an ACK. -/
def State.received (s : State) (h : GHead) : State :=
  ((s.setGlink h.link { s.glink h.link with rxNext := ((s.glink h.link).rxNext + 1) % 256 }).ackTo h.link h.ack.toNat).ctlSend h.link
    false

/-- Where link `i` is UP in `s` and the Weaver runs, it has taken frame `f` by `t`: among the unacknowledged frames with the next SEQ where fewer than 16
are, else among those that wait, in the place of its class (R974, R975). -/
def GotFrame (s t : State) (i : Nat) (f : GFrame) : Prop :=
  s.glState i = 2 → s.pow.weaverHalted = false →
    ((s.glink i).waiting = [] → (s.glink i).unacked.length < 16 →
      t.glink i = { s.glink i with unacked := (s.glink i).unacked ++ [f], sent := (s.glink i).sent ++ [s.cycle],
                                   txNext := ((s.glink i).txNext + 1) % 256 }) ∧
    (16 ≤ (s.glink i).unacked.length →
      t.glink i = { s.glink i with waiting := placeFrame f (s.glink i).waiting, txNext := (s.glink i).txNext % 256 })

/-- Frame `f` goes out on link `i`, and nothing else changes. -/
def SentOn (s t : State) (i : Nat) (f : GFrame) : Prop :=
  GotFrame s t i f ∧ (s.glState i ≠ 2 ∨ s.pow.weaverHalted = true → t = s) ∧ (∀ j : Fin 10, j.val ≠ i → t.glink j = s.glink j) ∧
    t.gl = { s.gl with links := t.gl.links } ∧ Keeps [.gl] s t

/-- The code, source and data of the event posted last. -/
def State.lastEvent (s : State) : Option (Nat × Nat × List Nat) := s.tk.ring.head?.map (fun e => (e.code, e.src, e.data))

/-- The canonical form of everything that is kept by address: the register file and the memory words are listed in rising
order, and no memory word is listed at what an unlisted address reads as. -/
def State.wf (s : State) : Bool := Store.rising s.regs && Store.wf {} s.mem.mem

/-- No general register of any thread holds tag 0xE (R480). -/
def State.tagsHeld (s : State) : Prop := ∀ i n : Nat, (s.greg i n).tag ≠ .reserved

end Sys2Proof.Machine
end

