-- ==== Sys2Proof/Certificates/Slice0/Obligations.lean ====
section
/-! DEFINITION. The statements for the provers: what the commands of each family do and what they leave, the rules of the whole block
and its invariants. -/
section Statements

open Sys2Proof Sys2Proof.Machine

/-! ### Die link, clocks, supplies, wake and shutdown (chapters 01 and 02) -/

/-- SAMPLE_FRAME, LANE_FAILURE, RETRAIN_ATTEMPT and RETRAIN_ATTEMPT_END (R31, R35 to R37): the sample of the channel or its invalid
mark, the lane and its grid of attempts, and the flags; nothing else changes. COMPANION_REGISTER_ACCESS (R33, R34, R36): while the die
link is up and the frame passes at the first or second attempt, a write of RTC.TRIM is stored and a read of an address that names a
plain register returns its value; two failures answer LINK_ERROR with REG_RETRY set, and a link that is down answers LINK_DOWN at once,
with no effect on a register. -/
def Obligations.DieLink : Prop :=
  (∀ (s : State) (c : Fin 4) (slot : Fin 50) (x : Fin 4) (code : Int) (ok : Bool), Answers (.sampleFrame c slot x code ok) s fun t =>
    t.pwm.samples.get [] (slotChannel c slot x) = (if ok = true ∧ s.rd Reg.SYS_DLSTAT_DOWN = 0 then some code else none) :: (s.pwm.samples.get [] (slotChannel c slot x)).take 2 ∧
    (∀ k : Fin 28, k.val ≠ slotChannel c slot x → t.pwm.samples.get [] k = s.pwm.samples.get [] k) ∧
    (ok = false ∨ s.rd Reg.SYS_DLSTAT_DOWN ≠ 0 → t.rd Reg.SYS_DLSTAT_SAMPLE_BAD = 1) ∧
    (slot ≠ 0 ∨ ok = false ∨ s.rd Reg.SYS_DLSTAT_DOWN ≠ 0 → t.trd = s.trd) ∧
    (slot = 0 → ok = true → s.rd Reg.SYS_DLSTAT_DOWN = 0 → (t.ms c).samples.head? = some (s.cycle - senseLatency, code.toNat) ∧ (∀ k : Fin 4, k ≠ c → t.ms k = s.ms k)) ∧
    KeepsBut [Reg.SYS_DLSTAT_SAMPLE_BAD] [.pwm, .trd] s t) ∧
  (∀ (s : State) (k : Fin 2), s.link.up k = true → Answers (.laneFailure k) s fun t =>
    t.link.up k = false ∧
    t.link.tries k = 0 ∧
    t.link.up (1 - k) = s.link.up (1 - k) ∧
    t.rd Reg.SYS_DLSTAT_DOWN = b2n (!s.link.up (1 - k)) ∧
    t.rd Reg.SYS_DLSTAT_DEGRADED = b2n (s.link.up (1 - k)) ∧
    t.rd Reg.SYS_DLSTAT_UP = b2n (s.link.up (1 - k)) ∧
    KeepsBut [Reg.SYS_DLSTAT_UP, Reg.SYS_DLSTAT_DEGRADED, Reg.SYS_DLSTAT_DOWN] [.link] s t) ∧
  (∀ (s : State) (k : Fin 2), s.link.up k = false → s.link.trying k = false → Answers (.retrainAttempt k) s fun t =>
    t.link.trying k = true ∧
    t.link.tries k = s.link.tries k + 1 ∧
    t.link.up (1 - k) = s.link.up (1 - k) ∧
    Keeps [.link] s t) ∧
  (∀ (s : State) (k : Fin 2) (trained : Bool), s.link.trying k = true → Answers (.retrainAttemptEnd k trained) s fun t =>
    t.link.trying k = false ∧
    t.link.up k = trained ∧
    t.link.up (1 - k) = s.link.up (1 - k) ∧
    t.rd Reg.SYS_DLSTAT_RETRAINS = (if trained then satInc 255 (s.rd Reg.SYS_DLSTAT_RETRAINS) % 256 else s.rd Reg.SYS_DLSTAT_RETRAINS) ∧
    KeepsBut [Reg.SYS_DLSTAT_UP, Reg.SYS_DLSTAT_DEGRADED, Reg.SYS_DLSTAT_DOWN, Reg.SYS_DLSTAT_RETRAINS] [.link] s t) ∧
  (∀ (s : State) (v : Word) (w : Writer) (crc : Fin 3), s.mayAccess w = true → s.rd Reg.SYS_DLSTAT_DOWN = 0 → crc ≠ 2 → Answers
    (.companionRegisterAccess 0x400A0014 (some v) w crc) s fun t =>
    t.linkAnswer = .ok ∧
    t.rd Reg.RTC_TRIM_TRIM = v.toNat % 1024 ∧
    (crc = 1 → t.rd Reg.SYS_DLSTAT_REG_RETRY = 1) ∧
    KeepsBut [Reg.RTC_TRIM_TRIM, Reg.SYS_DLSTAT_REG_RETRY] [.linkAnswer, .od] s t) ∧
  (∀ (s : State) (w : Writer) (crc : Fin 3), s.mayAccess w = true → s.rd Reg.SYS_DLSTAT_DOWN = 0 → crc ≠ 2 → Answers
    (.companionRegisterAccess 0x400A0014 none w crc) s fun t =>
    t.linkAnswer = .ok ∧
    t.readData = BitVec.ofNat 32 (s.rd Reg.RTC_TRIM_TRIM) ∧
    KeepsBut [Reg.SYS_DLSTAT_REG_RETRY] [.linkAnswer, .od, .readData] s t) ∧
  (∀ (s : State) (a : Word) (v : Option Word) (w : Writer), s.mayAccess w = true → a.toNat % 4 = 0 → companion a.toNat = true → s.rd
    Reg.SYS_DLSTAT_DOWN = 0 → Answers (.companionRegisterAccess a v w 2) s fun t =>
    t.linkAnswer = .linkError ∧
    t.od.answer.code = 0x16 ∧
    t.rd Reg.SYS_DLSTAT_REG_RETRY = 1 ∧
    KeepsBut [Reg.SYS_DLSTAT_REG_RETRY] [.linkAnswer, .od, .readData] s t) ∧
  (∀ (s : State) (a : Word) (v : Option Word) (w : Writer) (crc : Fin 3), s.mayAccess w = true → a.toNat % 4 = 0 → companion a.toNat =
    true → s.rd Reg.SYS_DLSTAT_DOWN ≠ 0 → Answers (.companionRegisterAccess a v w crc) s fun t =>
    t.linkAnswer = .linkDown ∧
    t.od.answer.code = 0x17 ∧
    KeepsBut [] [.linkAnswer, .od, .readData] s t) ∧
  (∀ (s : State) (a : Word) (v : Word) (w : Writer) (crc : Fin 3) (x : RegSpec × Nat × Nat), s.mayAccess w = true → s.dlDown = false →
    crc ≠ 2 → a.toNat % 4 = 0 → inBlock a.toNat = true → companion a.toNat = true → findReg a.toNat = some x → Answers
    (.companionRegisterAccess a (some v) w crc) s fun t =>
    t.od.answer.code = ((s.linkCarry a.toNat crc).2.regWriteJ x.1 x.2.1 x.2.2 a.toNat v.toNat w).1 ∧
    t.regs = ((s.linkCarry a.toNat crc).2.regWriteJ x.1 x.2.1 x.2.2 a.toNat v.toNat w).2.regs ∧
    (crc = 1 → t.rd Reg.SYS_DLSTAT_REG_RETRY = 1) ∧
    (t.od.answer.code = 0 → t.linkAnswer = .ok)) ∧
  (∀ (s : State) (a : Word) (w : Writer) (crc : Fin 3) (x : RegSpec × Nat × Nat), s.mayAccess w = true → s.dlDown = false → crc ≠ 2 →
    a.toNat % 4 = 0 → inBlock a.toNat = true → companion a.toNat = true → findReg a.toNat = some x → Answers (.companionRegisterAccess
    a none w crc) s fun t =>
    t.linkAnswer = .ok ∧
    t.readData = BitVec.ofNat 32 (s.expertRead a.toNat 2 crc.val).2.1 ∧
    t.regs = (s.expertRead a.toNat 2 crc.val).2.2.regs)

/-- REGISTER_WRITE and RC_REGISTER_READ (R15 to R18, R65): an RW field takes a value it lists and keeps its old value otherwise; a W1C
field loses the bits written as 1; an RO register is left; an offset that names no register has no effect; a read of an RC field
returns it and clears it. -/
def Obligations.RegisterAccess : Prop :=
  (∀ (s : State) (v : Word) (w : Writer), s.mayAccess w = true → Answers (.registerWrite 0x40000004 v w) s fun t =>
    t.rd Reg.SYS_CLKSTAT_REF_LOST = (if v.toNat % 2 = 1 then 0 else s.rd Reg.SYS_CLKSTAT_REF_LOST % 2) ∧
    t.rd Reg.SYS_CLKSTAT_LIMPCLK = s.rd Reg.SYS_CLKSTAT_LIMPCLK ∧
    KeepsBut [Reg.SYS_CLKSTAT_REF_LOST, Reg.SYS_CLKSTAT_REF_RANGE, Reg.SYS_CLKSTAT_PLL_UNLOCK] [.od] s t) ∧
  (∀ (s : State) (v : Word) (w : Writer), s.mayAccess w = true → Answers (.registerWrite 0x400C0300 v w) s fun t =>
    t.rd Reg.REPAIR_SEL_BANK = (if v.toNat % 32 ≤ 16 then v.toNat % 32 else s.rd Reg.REPAIR_SEL_BANK) ∧
    t.od.answer.code = 0 ∧
    KeepsBut [Reg.REPAIR_SEL_BANK] [.od] s t) ∧
  (∀ (s : State) (v : Word) (w : Writer), s.mayAccess w = true → Answers (.registerWrite 0x40000000 v w) s fun t =>
    t.od.answer.code = 0 ∧
    KeepsBut [] [.od] s t) ∧
  (∀ (s : State) (a : Word) (v : Word) (w : Writer), s.mayAccess w = true → a.toNat % 4 = 0 → inBlock a.toNat = true → companion
    a.toNat = false → ¬(0x40082000 ≤ a.toNat ∧ a.toNat < 0x40082400) → findReg a.toNat = none → Answers (.registerWrite a v w) s fun t
    =>
    t.od.answer.code = 0 ∧
    Keeps [.od] s t) ∧
  (∀ (s : State) (a : Word) (v : Word) (w : Writer) (x : RegSpec × Nat × Nat), s.mayAccess w = true → a.toNat % 4 = 0 → inBlock a.toNat
    = true → (companion a.toNat = false ∨ s.dlDown = false) → ¬(0x40082000 ≤ a.toNat ∧ a.toNat < 0x40082400) → findReg a.toNat = some x
    → Answers (.registerWrite a v w) s fun t =>
    t.od.answer.code = ((s.linkCarry a.toNat 0).2.regWriteJ x.1 x.2.1 x.2.2 a.toNat v.toNat w).1 ∧
    t = ((s.linkCarry a.toNat 0).2.regWriteJ x.1 x.2.1 x.2.2 a.toNat v.toNat w).2.answer t.od.answer.code) ∧
  (∀ (s : State) (a : Word) (x : RegSpec × Nat × Nat), s.weaverOn = true → a.toNat % 4 = 0 → inBlock a.toNat = true → (companion
    a.toNat = false ∨ s.dlDown = false) → findReg a.toNat = some x → (s.regTake x.1.base x.2.1).isNone = true → (s.regLive x.1.base
    x.2.1 a.toNat).isNone = true → Answers (.rcRegisterRead a) s fun t =>
    t.readData = BitVec.ofNat 32 (s.expertRead a.toNat 2 0).2.1 ∧
    (∀ f ∈ x.1.fields, f.acc = .rc → t.rd (f.at2 x.2.1 x.2.2) = 0) ∧
    t.od.answer.code = 0) ∧
  (∀ (s : State), s.weaverOn = true → Answers (.rcRegisterRead 0x400E0008) s fun t =>
    t.rd Reg.HOSTPORT_ERR_ABORTED = 0 ∧
    t.rd Reg.HOSTPORT_ERR_CRC_ERRORS = 0 ∧
    t.readData = BitVec.ofNat 32 (s.rd Reg.HOSTPORT_ERR_ABORTED * 256 + s.rd Reg.HOSTPORT_ERR_CRC_ERRORS) ∧
    KeepsBut [Reg.HOSTPORT_ERR_ABORTED, Reg.HOSTPORT_ERR_CRC_ERRORS] [.od, .readData] s t)

/-- REFCLK_LOST, REFCLK_OUT_OF_RANGE and PLL_UNLOCK in RUN (R61, R62, R126): the flag, FAULT_N and the shutdown CLOCK_LOST, whose S1
begins with the ramp cap. LOCKSTEP_MISMATCH in RUN (R47): FAULT_N, the Weaver halts, every group is parked and S5 follows at once.
REFCLK_BACK in LIMP (R122). -/
def Obligations.ClockMonitors : Prop :=
  (∀ (s : State) (c : Instr) (fs : List Field), (c, fs) ∈ [(Instr.refclkLost, [Reg.SYS_CLKSTAT_REF_LOST]), (.refclkOutOfRange,
    [Reg.SYS_CLKSTAT_REF_RANGE, Reg.SYS_CLKSTAT_REF_LOST]), (.pllUnlock, [Reg.SYS_CLKSTAT_PLL_UNLOCK])] → s.pstate = 4 → Answers (c) s
    fun t =>
    (∀ f ∈ fs, t.rd f = 1) ∧
    t.pow.faultN = true ∧
    t.pstate = 6 ∧
    t.sdStep = 1 ∧
    t.rd Reg.SYS_PSTATE_SDTRIG = 4 ∧
    t.pow.capActive = true ∧
    t.bit Reg.HOSTPORT_INTSTAT_INTSTAT 4 = true ∧
    KeepsBut (fs ++ [Reg.SYS_PSTATE_STATE, Reg.SYS_PSTATE_SDSTEP, Reg.SYS_PSTATE_SDTRIG, Reg.HOSTPORT_INTSTAT_INTSTAT]) [.pow] s t) ∧
  (∀ (s : State), s.pstate = 4 → Answers (.lockstepMismatch) s fun t =>
    t.pow.faultN = true ∧
    t.pow.weaverHalted = true ∧
    t.pstate = 6 ∧
    t.sdStep = 5 ∧
    t.rd Reg.SYS_PSTATE_SDTRIG = 6 ∧
    t.rd Reg.BACKUP_WAKEREC1_SD_TRIGGER = 6 ∧
    (∀ g : Fin 4, t.grState g = 0 ∨ t.grState g = 5) ∧
    t.fuse = s.fuse ∧
    t.mem = s.mem) ∧
  (∀ (s : State), s.pstate = 5 → Answers (.refclkBack) s fun t =>
    t.pow.refclkBack = true ∧
    Keeps [.pow] s t)

/-- The supply events and RESET_N (R107 to R111, R136): the first supply of a machine in OFF, the main feed and an enabled wake source
call W1, the loss of the main feed abandons a wake with the state BACKUP or OFF, RESET_N low forces S5 with trigger 7 and its release
wakes with source 0x0A, and the off interval ends in the wake that its rules name. -/
def Obligations.SupplyEvents : Prop :=
  (∀ (s : State), s.pstate = 0 → s.pow.mainFeed = false → Answers (.vbatPresent) s fun t =>
    t.pstate = 1 ∧
    t.pow.vbat = true ∧
    (s.bk.source ≠ .unpowered → KeepsBut [Reg.SYS_PSTATE_STATE] [.pow] s t) ∧
    (s.bk.source = .unpowered → t.bk.source = .battery ∧ t.rd Reg.BACKUP_STAT_ON_BATTERY = 1 ∧ t.bk.cnt = 0)) ∧
  (∀ (s : State) (vhv : Bool), s.pstate = 1 → s.pow.offWait = false → s.pow.resetLow = false → s.bk.source ≠ .unpowered → Answers
    (.mainFeedPresent vhv) s fun t =>
    t.pstate = 3 ∧
    t.wakeAt = 2 ∧
    t.pow.mainFeed = true ∧
    t.pow.vhvAbove9 = vhv ∧
    t.pow.attempt = 1 ∧
    t.pow.wsrc = 0 ∧
    KeepsBut [Reg.SYS_PSTATE_STATE] [.pow, .marks] s t) ∧
  (∀ (s : State), s.pstate = 3 → Answers (.mainFeedLost) s fun t =>
    t.pstate = (if s.pow.vbat = true ∧ s.bk.source ≠ .unpowered then 1 else 0) ∧
    t.pow.mainFeed = false ∧
    t.pow.enCore = false ∧
    t.tk = {} ∧
    t.mem = {} ∧
    t.fuse = s.fuse ∧
    t.bk = s.bk) ∧
  (∀ (s : State) (src : Fin 8), s.pstate = 2 → s.bit Reg.BACKUP_WAKECFG_WSRC_EN src = true → (2 ≤ src.val ∨ s.pow.vhvAbove9 = true) →
    s.pow.offWait = false → s.pow.resetLow = false → Answers (.wakeEvent src) s fun t =>
    t.wakeAt = 2 ∧
    t.pow.wsrc = src + 1 ∧
    KeepsBut [Reg.SYS_PSTATE_STATE] [.pow] s t) ∧
  (∀ (s : State), s.pow.offWait = false → s.pstate = 4 → s.role ≠ 3 → Answers (.resetNLow) s fun t =>
    t.pstate = 6 ∧
    t.sdStep = 5 ∧
    t.rd Reg.SYS_PSTATE_SDTRIG = 7 ∧
    t.rd Reg.BACKUP_WAKEREC1_SD_TRIGGER = 7 ∧
    t.pow.resetLow = true ∧
    Keeps [.regs, .pow] s t) ∧
  (∀ (s : State), s.pow.resetLow = true → s.pstate = 2 → s.pow.mainFeed = true → s.passed .dieOff (50 * msCycles) = true → Answers
    (.resetNRelease) s fun t =>
    t.wakeAt = 2 ∧
    t.pow.wsrc = 0x0A ∧
    t.pow.resetLow = false ∧
    KeepsBut [Reg.SYS_PSTATE_STATE] [.pow] s t) ∧
  (∀ (s : State) (src : Nat), s.pow.offWait = true → s.pow.resetLow = false → s.offOutcome = some src → s.pow.mainFeed = true →
    s.passed .dieOff (50 * msCycles) = true → Answers (.offIntervalEnd) s fun t =>
    t.wakeAt = 2 ∧
    t.pow.wsrc = src ∧
    t.pow.offWait = false ∧
    KeepsBut [Reg.SYS_PSTATE_STATE] [.pow] s t)

/-- The steps W2 to W7 of a wake (R90 to R94, R102, R112, R116): each event completes its step, three equal strap samples are accepted
with the CONFLICT rule, a step that exceeds its bound drops EN_CORE and rests until the next attempt, and the attempt restarts at W2. -/
def Obligations.WakeSteps : Prop :=
  (∀ (s : State) (c : Instr) (n : Nat), (c, n) ∈ [(Instr.companionRegulatorsInRegulation, 2), (.pgCoreHigh true, 3), (.pgCoreHigh
    false, 3), (.refclkInRange, 4), (.pll0Lock, 5)] → s.wakeAt = n → Answers (c) s fun t =>
    t.wakeAt = n + 1 ∧
    (n = 2 → t.pow.enCore = true) ∧
    (c = .pgCoreHigh true → t.pow.xspiVsel18 = true) ∧
    Keeps [.pow] s t) ∧
  (∀ (s : State) (n : Nat), s.wakeAt = 6 → s.lifecycleFuse = some n → s.fcrcOk = true → Answers (.fuseCheck false) s fun t =>
    t.wakeAt = 7 ∧
    t.lifecycle = min n 4 ∧
    t.rd Reg.FUSE_STATUS_CRC_OK = 1 ∧
    t.rd Reg.FUSE_STATUS_KEY0_SET = b2n (s.keyHash 0 != 0) ∧
    t.rd Reg.FUSE_STATUS_KEY1_SET = b2n (s.keyHash 1 != 0) ∧
    KeepsBut [Reg.FUSE_STATUS_LIFECYCLE, Reg.FUSE_STATUS_CRC_OK, Reg.FUSE_STATUS_DEBUG_LOCKED, Reg.FUSE_STATUS_KEY0_SET, Reg.FUSE_STATUS_KEY1_SET, Reg.FUSE_STATUS_ARB, Reg.FUSE_STATUS_REPAIR_USED] [.pow] s t) ∧
  (∀ (s : State) (a : BitVec 12), s.wakeAt = 7 → Answers (.strapSampleRound a a a) s fun t =>
    t.wakeAt = 8 ∧
    t.rd Reg.STRAP_SAMPLED_STRAP = a.toNat ∧
    t.rd Reg.STRAP_SAMPLED_CONFLICT = b2n (fieldOf a.toNat 6 2 == 2 && fieldOf a.toNat 3 2 != 2) ∧
    t.rd Reg.STRAP_SAMPLED_ROUNDS = s.pow.strapRound % 4 ∧
    t.pow.pullDowns = false ∧
    (s.dlDown = false → t.rd Reg.THERMAL_GUARD_TS_TS = fieldOf a.toNat 10 2) ∧
    KeepsBut [Reg.STRAP_SAMPLED_STRAP, Reg.STRAP_SAMPLED_CONFLICT, Reg.STRAP_SAMPLED_ROUNDS, Reg.THERMAL_GUARD_TS_TS] [.pow, .time] s t) ∧
  (∀ (s : State) (a : BitVec 12) (b : BitVec 12) (c : BitVec 12), s.wakeAt = 7 → ¬(a = b ∧ b = c) → s.pow.strapRound < 3 → Answers
    (.strapSampleRound a b c) s fun t =>
    t.wakeAt = 7 ∧
    t.pow.strapRound = s.pow.strapRound + 1 ∧
    Keeps [.pow] s t) ∧
  (∀ (s : State), s.wakeAt ≠ 0 → s.pow.limp = false → s.pow.attempt < 3 → Answers (.wakeStepTimeout) s fun t =>
    t.pstate = 3 ∧
    t.pow.waitRetry = true ∧
    t.pow.enCore = false ∧
    t.pow.attempt = s.pow.attempt ∧
    t.tk = {} ∧
    t.mem = {} ∧
    t.fuse = s.fuse ∧
    t.bk = s.bk) ∧
  (∀ (s : State), s.pstate = 3 → s.pow.waitRetry = true → s.passed .dieOff (10 * msCycles) = true → Answers (.wakeAttemptRestart) s fun
    t =>
    t.wakeAt = 2 ∧
    t.pow.attempt = s.pow.attempt + 1 ∧
    t.pow.waitRetry = false ∧
    Keeps [.pow] s t)

/-- The shutdown sequence (R126 to R139): VHV_FAIL where it is armed, PG_CORE_WARNING and the two commands begin S1 with their trigger;
the steps follow one another; the ramp cap parks every group that still ramps; the bound of S4 leads to S5 with FLUSH_INCOMPLETE; the
return of VHV up to S3 resumes RUN. -/
def Obligations.ShutdownSequence : Prop :=
  (∀ (s : State) (c : Instr) (n : Nat), (c, n) ∈ [(Instr.vhvFail, 1), (.pgCoreWarning, 2), (.shutdownPowerOff, 3), (.shutdownRestart,
    3)] → s.pstate = 4 → s.pow.vhvFailArmed = true → Answers (c) s fun t =>
    t.pstate = 6 ∧
    t.sdStep = 1 ∧
    t.rd Reg.SYS_PSTATE_SDTRIG = n ∧
    t.pow.capActive = decide (n ≠ 3) ∧
    t.pow.restartCmd = decide (c = .shutdownRestart) ∧
    KeepsBut [Reg.SYS_PSTATE_STATE, Reg.SYS_PSTATE_SDSTEP, Reg.SYS_PSTATE_SDTRIG, Reg.HOSTPORT_INTSTAT_INTSTAT] [.pow, .od] s t) ∧
  (∀ (s : State), s.pstate = 6 → s.sdStep = 1 → Answers (.shutdownStepComplete) s fun t =>
    t.sdStep = 2 ∧
    t.pstate = 6) ∧
  (∀ (s : State), s.pstate = 6 → s.sdStep = 2 → s.grAllStopped = true → s.role ≠ 3 → Answers (.shutdownStepComplete) s fun t =>
    t.sdStep = 3 ∧
    (∀ n : Fin 16, t.rd (Reg.HEDDLE_STAT_STATE.at n) = 0)) ∧
  (∀ (s : State) (inc : Bool), s.pstate = 6 → s.sdStep = 4 → s.passed .s4 (7 * msCycles) = true → s.pow.resumeInS4 = false → s.role ≠ 3
    → s.jr.staging.isEmpty = !inc → Answers (.s4BoundReached) s fun t =>
    t.sdStep = 5 ∧
    t.rd Reg.BACKUP_WAKEREC1_SD_STEP = 4 ∧
    t.rd Reg.BACKUP_WAKEREC1_FLUSH_INCOMPLETE = b2n inc ∧
    Keeps [.regs, .pow] s t) ∧
  (∀ (s : State), s.pstate = 6 → s.sdStep = 6 → Answers (.shutdownStepComplete) s fun t =>
    t.pstate = s.restState ∧
    t.pow.enCore = false ∧
    t.pow.offWait = true ∧
    t.rd Reg.BACKUP_WAKEREC1_SD_STEP = 6 ∧
    t.tk = {} ∧
    t.mem = {} ∧
    t.fuse = s.fuse) ∧
  (∀ (s : State), s.pstate = 6 → s.pow.capActive = true → s.sdStep < 5 → s.pow.capCycle + 2 * msCycles ≤ s.cycle → Answers
    (.rampCapExpired) s fun t =>
    t.pow.capActive = false ∧
    (∀ g : Fin 4, t.grState g ≠ 4) ∧
    t.pstate = 6) ∧
  (∀ (s : State), s.pstate = 6 → s.rd Reg.SYS_PSTATE_SDTRIG = 1 → s.sdStep ≤ 2 → s.pow.startedLimp = false → Answers (.vhvReturned) s
    fun t =>
    t.pstate = 4 ∧
    t.sdStep = 0 ∧
    t.pow.vhvAbove9 = true ∧
    t.pow.capActive = false ∧
    t.fuse = s.fuse)

/-! ### Memory, the mount and the images of a wake (chapters 06, 07 and 09) -/

/-- W8 (R371, R453, R571, R572, R124): start-up Carding clears every bank under the CARD strap; the mount takes the next MOUNT_SEQ and
the EPOCH of its low bits and commits the MOUNT record, formats a journal without a bolt (R368), and ends read-only in the safe ROM
(R388) and with NO_JOURNAL where the flash answers nothing (R387); the verified primary, fallback or sent firmware runs, and without an
image table the attempt fails; W8 ends in RUN with the wake counted and the restart cause recorded. -/
def Obligations.WakeLoads : Prop :=
  (∀ (s : State) (reads : List (Nat × MarchRead)), s.wakeAt = 8 → Answers (.startupCarding reads) s fun t =>
    t.mem.mem = [] ∧
    t.mem.fusesApplied = true ∧
    t.rd Reg.CARDING_STAT_ALGO = s.strap 9 1 ∧
    t.rd Reg.CARDING_STAT_BG = s.strap 9 1 ∧
    (s.mountOver = false → reads.any (fun x => x.1 == 0x10 && decide (x.2.bg.val < s.startBgs) && readDiffers 0x10 s.startAlgo x.2) = true → t.rd Reg.CARDING_STAT_FAULT = 1) ∧
    (reads.any (fun x => readDiffers x.1 s.startAlgo x.2) = false → t.mem.startupRepairs = s.mem.startupRepairs ∧ t.rd Reg.CARDING_STAT_FAULT = s.rd Reg.CARDING_STAT_FAULT) ∧
    (s.mountOver = false → t.mem.startReads = reads) ∧
    (s.mountOver = true → t.mem.startReads = []) ∧
    t.pstate = s.pstate ∧
    t.fuse = s.fuse ∧
    t.flash = s.flash ∧
    t.bk = s.bk ∧
    t.img = s.img) ∧
  (∀ (s : State) (a : Nat) (failA : Fin 3) (failB : Fin 3) (mountFails : Fin 3), s.wakeAt = 8 → s.mountOver = false → s.weaverOn = true
    → s.jr.answersSfdp = true → s.safeRom = false → s.findBolts.mountBolt = some a → Answers (.journalMount failA failB mountFails) s
    fun t =>
    t.jr.active = a ∧
    t.jr.mountSeq = scanMount (s.findBolts.bolt a).recs + 1 ∧
    t.jr.epoch = t.jr.mountSeq % 64 ∧
    t.jr.boltSize = s.bootRecord.size ∧
    (mountFails = 0 → (s.findBolts.bolt a).used + (JBody.mount 0).size ≤ s.bootRecord.size → (t.bolt a).recs = (s.findBolts.bolt a).recs ++ [⟨(s.findBolts.bolt a).lastSeq + 1, .mount t.jr.mountSeq⟩]) ∧
    t.fuse = s.fuse) ∧
  (∀ (s : State) (failB : Fin 3), s.wakeAt = 8 → s.mountOver = false → s.weaverOn = true → s.jr.answersSfdp = true → s.safeRom = false
    → s.findBolts.mountBolt = none → Answers (.journalMount 0 failB 0) s fun t =>
    t.jr.active = 0 ∧
    t.jr.mountSeq = 1 ∧
    t.jr.epoch = 1 ∧
    t.jr.lastStop = 1 ∧
    (t.bolt 0).recs = [⟨1, .boltHead 1⟩, ⟨2, .switch 1⟩, ⟨3, .mount 1⟩] ∧
    t.fuse = s.fuse) ∧
  (∀ (s : State) (failA : Fin 3), s.wakeAt = 8 → s.mountOver = false → s.weaverOn = true → s.jr.answersSfdp = true → s.safeRom = false
    → s.findBolts.mountBolt = none → failA ≠ 0 → Answers (.journalMount failA 0 0) s fun t =>
    t.jr.active = 1 ∧
    t.jr.mountSeq = 1 ∧
    (t.bolt 1).recs = [⟨1, .boltHead 1⟩, ⟨2, .switch 1⟩, ⟨3, .mount 1⟩] ∧
    (t.bolt 0).failing = true) ∧
  (∀ (s : State) (failA : Fin 3) (failB : Fin 3) (n : Fin 3), s.wakeAt = 8 → s.mountOver = false → s.weaverOn = true → s.jr.answersSfdp
    = false → Answers (.journalMount failA failB n) s fun t =>
    t.jr.noJournal = true ∧
    t.jr.epoch = s.wakeEpoch ∧
    t.jr.lastStop = 1 ∧
    t.flash = s.flash) ∧
  (∀ (s : State) (failA : Fin 3) (failB : Fin 3) (n : Fin 3), s.wakeAt = 8 → s.mountOver = false → s.weaverOn = true → s.jr.answersSfdp
    = true → s.safeRom = true → Answers (.journalMount failA failB n) s fun t =>
    t.jr.readOnly = true ∧
    t.jr.epoch = s.wakeEpoch ∧
    t.jr.lastStop = 1 ∧
    t.flash = s.flash) ∧
  (∀ (s : State) (im : Image), s.wakeAt = 8 → s.safeRom = false → s.pow.firmwareOk = false → s.mountOver = true → s.boot = 0 →
    s.tableInUse.isSome = true → s.img.store.get none s.imgTable.primary = some im → s.firmwareDetail (some im) = 0 → Answers
    (.weaverFirmwareVerify) s fun t =>
    t.pow.firmwareOk = true ∧
    t.img.weaverFrom = 0 ∧
    t.img.weaverVersion = im.build ∧
    Keeps [.pow, .img, .mem] s t) ∧
  (∀ (s : State) (im : Image), s.wakeAt = 8 → s.safeRom = false → s.pow.firmwareOk = false → s.mountOver = true → s.boot = 0 →
    s.tableInUse.isSome = true → s.firmwareDetail (s.img.store.get none s.imgTable.primary) ≠ 0 → s.img.store.get none
    s.imgTable.fallback = some im → s.firmwareDetail (some im) = 0 → Answers (.weaverFirmwareVerify) s fun t =>
    t.pow.firmwareOk = true ∧
    t.img.weaverFrom = 1 ∧
    t.img.weaverVersion = im.build ∧
    t.lastEvent = some (0x0903, 0xFF, [s.firmwareDetail (s.img.store.get none s.imgTable.primary)])) ∧
  (∀ (s : State) (im : Image) (rest : List (Option Image)), s.wakeAt = 8 → s.safeRom = false → s.pow.firmwareOk = false → s.mountOver =
    true → s.boot ≠ 0 → s.img.hostImages = some im :: rest → s.firmwareDetail (some im) = 0 → Answers (.weaverFirmwareVerify) s fun t =>
    t.pow.firmwareOk = true ∧
    t.img.weaverFrom = s.boot + 1 ∧
    t.img.weaverVersion = im.build ∧
    Keeps [.pow, .img, .mem] s t) ∧
  (∀ (s : State), s.wakeAt = 8 → s.safeRom = false → s.pow.firmwareOk = false → s.mountOver = true → s.boot = 0 → s.tableInUse = none →
    s.pow.limp = false → s.pow.attempt < 3 → Answers (.weaverFirmwareVerify) s fun t =>
    t.pstate = 3 ∧
    t.pow.waitRetry = true ∧
    t.pow.enCore = false) ∧
  (∀ (s : State), s.wakeAt = 8 → s.mountOver = true → (s.safeRom = true ∨ (s.pow.firmwareOk = true ∧ s.setReady = true)) → s.pow.limp =
    false → Answers (.imageSetLoad) s fun t =>
    t.pstate = 4 ∧
    t.pow.firstPower = false ∧
    t.pow.faultN = false) ∧
  (∀ (s : State), s.wakeAt = 8 → s.mountOver = true → s.safeRom = true → s.pow.limp = false → Answers (.imageSetLoad) s fun t =>
    t.pstate = 4 ∧
    t.rd Reg.SYS_RSTCAUSE_CAUSE = s.wakeCause ∧
    t.rd Reg.BACKUP_WAKEREC0_RCAUSE = s.wakeCause ∧
    t.rd Reg.BACKUP_WAKEREC1_WAKE_COUNT = satInc 32767 (s.rd Reg.BACKUP_WAKEREC1_WAKE_COUNT) % 32768) ∧
  (∀ (s : State), s.wakeAt = 8 → s.mountOver = true → s.pow.firmwareOk = true → s.pow.limp = true → Answers (.imageSetLoad) s fun t =>
    t.pstate = 5 ∧
    t.pow.limp = false ∧
    KeepsBut [Reg.SYS_PSTATE_STATE, Reg.BACKUP_WAKECFG_LIMP_ALLOWED, Reg.HOSTPORT_INTSTAT_INTSTAT] [.pow] s t)

/-- MEMORY_READ, WHOLE_WORD_WRITE and PARTIAL_WRITE (R429 to R434) at an offset of the bank, while no destructive Carding holds it: a
clean word is read with OK, a poisoned one answers POISONED; a write stores the word with its check bits, and every other word of every
bank keeps its value. -/
def Obligations.MemoryAccess : Prop :=
  (∀ (s : State) (b : Fin 26) (off : Fin 65536) (src : Fin 16), off < bankWords b → s.bankBusy b = false → (s.word b off).poisoned =
    false → (s.word b off).ecc = .clean → Answers (.memoryRead b off src) s fun t =>
    t.mem.answer.status = .ok ∧
    t.mem.answer.word = s.word b off ∧
    t.mem.mem = s.mem.mem ∧
    Keeps [.mem] s t) ∧
  (∀ (s : State) (b : Fin 26) (off : Fin 65536) (src : Fin 16), off < bankWords b → s.bankBusy b = false → (s.word b off).poisoned =
    true → Answers (.memoryRead b off src) s fun t =>
    t.mem.answer.status = .poisoned ∧
    t.mem.mem = s.mem.mem ∧
    Keeps [.mem] s t) ∧
  (∀ (s : State) (b : Fin 26) (off : Fin 65536) (tag : Tag) (v : BitVec 64), off < bankWords b → s.bankBusy b = false → bankTagged b =
    true → tag ≠ .reserved → s.rd Reg.MEM_INJ_ARM = 0 → Answers (.wholeWordWrite b off tag v false) s fun t =>
    t.word b off = { tag := tag, val := BitVec.ofNat 64 (v.toNat % 2 ^ 32) } ∧
    t.mem.answer.status = .ok ∧
    (∀ (c : Fin 26) (o : Fin 65536), (c, o) ≠ (b, off) → t.word c o = s.word c o) ∧
    Keeps [.mem] s t) ∧
  (∀ (s : State) (b : Fin 26) (off : Fin 65536) (tag : Tag) (v : BitVec 64) (met : Bool), off < bankWords b → s.bankBusy b = false →
    bankTagged b = false → s.rd Reg.MEM_INJ_ARM = 0 → Answers (.wholeWordWrite b off tag v met) s fun t =>
    t.word b off = { tag := .nil, val := v } ∧
    t.mem.answer.status = .ok ∧
    (∀ (c : Fin 26) (o : Fin 65536), (c, o) ≠ (b, off) → t.word c o = s.word c o) ∧
    Keeps [.mem] s t) ∧
  (∀ (s : State) (b : Fin 26) (off : Fin 65536) (p : PartWrite) (src : Fin 16), off < bankWords b → s.bankBusy b = false → writeFits p
    b = true → p ≠ .tag .reserved → (s.word b off).poisoned = false → (s.word b off).ecc = .clean → Answers (.partialWrite b off p src
    false) s fun t =>
    t.word b off = mergeWord p (s.word b off) ∧
    t.mem.answer.status = .ok ∧
    (∀ (c : Fin 26) (o : Fin 65536), (c, o) ≠ (b, off) → t.word c o = s.word c o) ∧
    Keeps [.mem] s t)

/-- The three memory commands name an offset beyond the words of their bank (Table 07-2): no such word exists, and the model stops with
the fault noSuchWord (log entry 61). At every other offset they answer. -/
def Obligations.MemoryStops : Prop :=
  (∀ (s : State) (b : Fin 26) (off : Fin 65536) (src : Fin 16) (tag : Tag) (v : BitVec 64) (p : PartWrite) (met : Bool),
    bankWords b ≤ off →
      exec (.memoryRead b off src) s = .fault (.noSuchWord b off) ∧
      exec (.wholeWordWrite b off tag v met) s = .fault (.noSuchWord b off) ∧
      exec (.partialWrite b off p src met) s = .fault (.noSuchWord b off)) ∧
  (∀ (s : State) (c : Instr) (r : Fault), exec c s = .fault r →
    ∃ (b : Fin 26) (off : Fin 65536), r = .noSuchWord b off ∧ bankWords b ≤ off)

/-- R428: a read of a word with a single-bit error answers the corrected word with OK_CORRECTED and leaves the stored word as it is;
the patrol scrubber, when it visits that word, rewrites it corrected. -/
def Obligations.CorrectedRead : Prop :=
  (∀ (s : State) (b : Fin 26) (off : Fin 65536) (src : Fin 16), off < bankWords b → s.bankBusy b = false → (s.word b off).poisoned =
    false → (s.word b off).ecc = .single → Answers (.memoryRead b off src) s fun t =>
    t.mem.answer.status = .okCorrected ∧
    t.mem.answer.word = { s.word b off with ecc := .clean } ∧
    t.mem.mem = s.mem.mem ∧
    t.rd (Reg.MEM_BANK_STAT_CE.at b) = 1 ∧
    t.rd Reg.MEM_ERRADDR_UE = 0 ∧
    t.rd Reg.MEM_ERRADDR_BANK = b ∧
    t.rd Reg.MEM_ERRADDR_OFFSET = off ∧
    t.rd Reg.MEM_ERRSRC_SOURCE = src) ∧
  (∀ (s : State) (b : Fin 26), s.scrubOn b = true → s.bankBusy b = false → (s.word b (s.mem.scrubPos.get 0 b)).poisoned = false →
    (s.word b (s.mem.scrubPos.get 0 b)).ecc = .single → Answers (.scrubStep ⟨b.val, Nat.lt_of_lt_of_le b.isLt (by decide)⟩ false false)
    s fun t =>
    t.word b (s.mem.scrubPos.get 0 b) = { s.word b (s.mem.scrubPos.get 0 b) with ecc := .clean } ∧
    t.rd (Reg.MEM_BANK_STAT_CE.at b) = 1 ∧
    t.rd Reg.MEM_ERRSRC_SOURCE = 0)

/-- SCRUB_STEP, CARDING_SEGMENT_STEP and CARDING_BANK_MARCH (R437, R447, R449, R74): the patrol visits its word and moves on, a
foreground request defers the slot up to 64 times, a segment step advances the run, and the march of a destructive run clears its bank.
-/
def Obligations.ScrubAndCarding : Prop :=
  (∀ (s : State) (b : Fin 36) (beaten : Bool), s.scrubOn b = true → s.bankBusy b = false → (s.word b (s.mem.scrubPos.get 0 b)).poisoned
    = false → (s.word b (s.mem.scrubPos.get 0 b)).ecc = .clean → Answers (.scrubStep b false beaten) s fun t =>
    t.mem.scrubPos.get 0 b = (s.mem.scrubPos.get 0 b + 1) % bankWords b ∧
    t.mem.mem = s.mem.mem) ∧
  (∀ (s : State) (b : Fin 36) (beaten : Bool), s.scrubOn b = true → s.bankBusy b = false → s.mem.defer.get 0 b < 64 → Answers
    (.scrubStep b true beaten) s fun t =>
    t.mem.defer.get 0 b = s.mem.defer.get 0 b + 1 ∧
    t.mem.mem = s.mem.mem ∧
    t.mem.scrubPos = s.mem.scrubPos ∧
    Keeps [.mem] s t) ∧
  (∀ (s : State) (r : CardRun) (n : Nat) (rest : List (Bool × Nat)) (reads : List MarchRead), s.mem.run = some r → r.destructive =
    false → r.segmentFailed reads = false → s.cardHeld = false → s.stepOpen r.slot = true → r.segs = (false, n) :: rest → rest ≠ [] →
    (∀ k : Fin 64, s.word r.bank (64 * n + k) = {}) → Answers (.cardingSegmentStep false reads) s fun t =>
    t.mem.run = some { r with segs := rest } ∧
    t.mem.mem = s.mem.mem ∧
    t.rd Reg.CARDING_STAT_BUSY = 1) ∧
  (∀ (s : State) (r : CardRun) (reads : List MarchRead), s.mem.run = some r → r.destructive = true → s.stepOpen r.slot = true →
    s.cardHeld = true → s.mem.held = [] → Answers (.cardingBankMarch reads) s fun t =>
    t.mem.run = none ∧
    (∀ o : Fin 65536, t.word r.bank o = {}) ∧
    t.rd Reg.CARDING_STAT_BUSY = 0) ∧
  (∀ (s : State) (r : CardRun) (reads : List MarchRead), s.mem.run = some r → r.destructive = true → s.stepOpen r.slot = true →
    s.cardHeld = false → s.mem.held = [] → r.bank < 26 → r.banks = [] → Answers (.cardingBankMarch reads) s fun t =>
    (∀ o : Fin 65536, t.word r.bank o = {}))

/-- The journal (R367, R375, R380 to R385, R1116): a record that commits is appended to the active bolt with the next SEQ and has its
effect, waiting records enter the staging area in order while it has room, the oldest record of a ticket without room for 1.5 ms fails
its ticket with JOURNAL_BUSY, the first program failure of a record rewrites it at the next page and the second makes its bolt failing,
an erase failure makes the standby bolt failing, fulling copies pages, switches over at the last and erases blocks, and a copy that
cannot fit is abandoned. -/
def Obligations.JournalCommands : Prop :=
  (∀ (s : State) (b : JBody) (rest : List JBody), s.journalRuns = true → s.jr.staging = b :: rest → s.roomFor b = true → b.type ∈ [1,
    2, 7, 8, 9, 0x0A, 0x0B, 0x0C, 0x0D] → Answers (.journalRecordCommit) s fun t =>
    (t.bolt s.jr.active).recs = (s.bolt s.jr.active).recs ++ [⟨(s.bolt s.jr.active).lastSeq + 1, b⟩] ∧
    (t.bolt s.jr.active).used = (s.bolt s.jr.active).used + b.size ∧
    t.jr.staging = rest ∧
    t.jr.active = s.jr.active ∧
    t.flash = flashProgram s.flash ((s.bolt s.jr.active).base + (s.bolt s.jr.active).used) (recordBytes ((s.bolt s.jr.active).lastSeq + 1) b) ∧
    Keeps [.jr, .gl, .flash, .marks] s t) ∧
  (∀ (s : State) (items : Items) (rest : List JBody), s.journalRuns = true → s.jr.staging = .value 0 0 0 true items :: rest → s.roomFor
    (.value 0 0 0 true items) = true → s.standby = false → s.gl.mirrorOut.contains (.value 0 0 0 true items) = false → Answers
    (.journalRecordCommit) s fun t =>
    t.od.jvals = (s.jvalPut items).od.jvals ∧
    t.jr.staging = rest ∧
    Keeps [.jr, .od, .flash] s t) ∧
  (∀ (s : State) (b : JBody) (rest : List JBody), s.jr.waiting = b :: rest → s.stagingRoom b = true → Answers (.stagingRoomFreed) s fun
    t =>
    t.jr.staging.take (s.jr.staging.length + 1) = s.jr.staging ++ [b] ∧
    t.jr.staging ++ t.jr.waiting = s.jr.staging ++ s.jr.waiting ∧
    (t.jr.waiting.head?.any t.stagingRoom) = false ∧
    Keeps [.jr] s t) ∧
  (∀ (s : State) (b : JBody) (rest : List JBody) (r : JBody) (l : List JBody) (i : Nat), s.jr.staging = b :: rest → s.roomFor b = false
    → s.takeCarrier s.jr.staging = some (r, l) → s.carrier r = some i → (s.ticket i).ledgered = true → (s.ticket i).state.isFinal =
    false → i < 128 → Answers (.journalFullTimeout) s fun t =>
    (t.ticket i).state = .failed ∧
    (t.ticket i).code = 0x13 ∧
    t.flash = s.flash) ∧
  (∀ (s : State) (b : JBody) (rest : List JBody) (back : Bool) (page : Fin 17), s.journalRuns = true → s.jr.staging = b :: rest →
    s.roomFor b = true → s.jr.headRetried = false → Answers (.journalProgramFailure false back page) s fun t =>
    t.jr.headRetried = true ∧
    t.jr.staging = b :: rest ∧
    t.jr.programRetries = s.jr.programRetries + 1 ∧
    (t.bolt s.jr.active).used = rewriteAt (s.bolt s.jr.active).used b back page ∧
    (t.bolt s.jr.active).recs = (s.bolt s.jr.active).recs ∧
    (t.bolt s.jr.active).failing = false) ∧
  (∀ (s : State) (b : JBody) (rest : List JBody) (back : Bool) (page : Fin 17), s.journalRuns = true → s.jr.staging = b :: rest →
    s.roomFor b = true → s.jr.headRetried = true → Answers (.journalProgramFailure false back page) s fun t =>
    (t.bolt s.jr.active).failing = true ∧
    t.jr.headRetried = false ∧
    t.jr.active = s.jr.active) ∧
  (∀ (s : State) (b : JBody) (back : Bool) (page : Fin 17), s.fullingRuns = true → s.jr.phase = .copying → s.jr.nextCopy = some b →
    s.jr.copyRetried = false → Answers (.journalProgramFailure true back page) s fun t =>
    (t.bolt s.standbyBolt).used = rewriteAt (s.bolt s.standbyBolt).used b back page ∧
    t.jr.copyRetried = true ∧
    t.jr.carry = 0 ∧
    t.jr.programRetries = s.jr.programRetries + 1 ∧
    t.bolt s.jr.active = s.bolt s.jr.active) ∧
  (∀ (s : State) (n : Nat), s.fullingRuns = true → s.jr.phase ∈ [FullPhase.eraseStandby n, .eraseOld n, .eraseAgain n] → Answers
    (.journalEraseFailure) s fun t =>
    (t.bolt s.standbyBolt).failing = true ∧
    t.jr.active = s.jr.active) ∧
  (∀ (s : State) (b : JBody) (rest : List JBody), s.fullingRuns = true → s.jr.phase = .copying → (s.jr.staging.head?.any s.roomFor) =
    false → s.jr.toCopy = b :: rest → s.jr.carry + 256 < b.size → (s.bolt s.standbyBolt).used + s.jr.copyLeft ≤ s.jr.boltSize → Answers
    (.fullingPageProgram) s fun t =>
    t.jr.carry = s.jr.carry + 256 ∧
    t.jr.toCopy = s.jr.toCopy ∧
    t.jr.phase = .copying) ∧
  (∀ (s : State) (b : JBody), s.fullingRuns = true → s.jr.phase = .copying → (s.jr.staging.head?.any s.roomFor) = false → s.jr.toCopy =
    [b] → s.jr.delta = [] → b.size ≤ s.jr.carry + 256 → (s.bolt s.standbyBolt).used + s.jr.copyLeft ≤ s.jr.boltSize → Answers
    (.fullingPageProgram) s fun t =>
    t.jr.active = s.standbyBolt ∧
    t.jr.phase = .eraseOld s.boltBlocks ∧
    t.jr.fullings = s.jr.fullings + 1 ∧
    ((t.bolt s.standbyBolt).recs.getLast?.map (·.body)) = some (.switch (s.bolt s.standbyBolt).gen)) ∧
  (∀ (s : State), s.fullingRuns = true → s.jr.phase = .copying → (s.jr.staging.head?.any s.roomFor) = false → s.jr.boltSize < (s.bolt
    s.standbyBolt).used + s.jr.copyLeft → Answers (.fullingPageProgram) s fun t =>
    t.jr.phase = .eraseAgain s.boltBlocks ∧
    t.jr.active = s.jr.active ∧
    t.jr.retryFill = (s.bolt s.jr.active).used + s.jr.boltSize / 16 ∧
    t.lastEvent = some (0x0602, s.standbyBolt, evBytes 4 ((s.bolt s.standbyBolt).used + s.jr.copyLeft - s.jr.boltSize))) ∧
  (∀ (s : State) (n : Nat), s.fullingRuns = true → 1 < n → s.jr.phase = .eraseOld n → Answers (.fullingErase) s fun t =>
    t.jr.phase = .eraseOld (n - 1) ∧
    t.flash = flashErase s.flash ((s.bolt s.standbyBolt).base + s.jr.boltSize - 65536 * n) 65536 ∧
    Keeps [.jr, .flash] s t) ∧
  (∀ (s : State) (n : Nat), s.fullingRuns = true → 1 < n → s.jr.phase = .eraseStandby n → Answers (.fullingErase) s fun t =>
    t.jr.phase = .eraseStandby (n - 1) ∧
    Keeps [.jr, .flash] s t) ∧
  (∀ (s : State), s.fullingRuns = true → s.jr.phase = .eraseStandby 1 → Answers (.fullingErase) s fun t =>
    t.jr.phase = .copying ∧
    t.jr.toCopy = s.liveState ((s.bolt s.jr.active).gen + 1) ∧
    t.jr.delta = s.gl.heldBack ∧
    t.bolt s.jr.active = s.bolt s.jr.active ∧
    Keeps [.jr, .flash] s t) ∧
  (∀ (s : State), s.fullingRuns = true → s.jr.phase ∈ [FullPhase.eraseOld 1, .eraseAgain 1] → Answers (.fullingErase) s fun t =>
    (t.bolt s.standbyBolt).erased = true ∧
    (t.bolt s.standbyBolt).recs = [] ∧
    t.bolt s.jr.active = s.bolt s.jr.active ∧
    (s.jr.fullTicket = none → (s.bolt s.jr.active).failing = false → s.jr.retryFill = 0 → 4 * (s.bolt s.jr.active).used < 3 * s.jr.boltSize → t.jr.phase = .off ∧ Keeps [.jr, .flash] s t))

/-! ### The object dictionary, tickets, images and the host port (chapters 05, 06 and 09) -/

/-- RESTORE_DEFAULTS, FUSE_PROGRAM, FULL_NOW, VERIFY, CLEAR_FAILING, LOAD, UNLOAD, STORE, TABLE, CARDING_RUN, LARGE_SEND,
FAN_BASELINE_RUN and GATEWAY (R1111, R290, R339, R345): where the context is served, every check passes, its quota is not used up and a
slot is free, the command admits a ticket of its type into the lowest free slot and answers PENDING with its handle. -/
def Obligations.OwnTicketCommands : Prop :=
  (∀ (s : State) (c : Fin 256) (i : Fin 128) (mask : Word), s.contextOpen c = true → s.checkWrite c [(odKey 0x2F03 0, .scalar .bits
    mask.toNat)] = 0 → s.quotaFree c = true → s.freeSlot = some i.val → Answers (.restoreDefaults c mask) s fun t =>
    AdmittedAs s t i 6 c) ∧
  (∀ (s : State) (c : Fin 256) (i : Fin 128) (word : Fin 128) (mask : Word), s.contextOpen c = true → s.checkWrite c [(odKey 0x2011 1,
    .scalar .uint word), (odKey 0x2011 2, .scalar .bits mask.toNat)] = 0 → s.quotaFree c = true → s.freeSlot = some i.val → Answers
    (.fuseProgram c word mask) s fun t =>
    AdmittedAs s t i 7 c) ∧
  (∀ (s : State) (c : Fin 256) (i : Fin 128), s.contextOpen c = true → s.checkWrite c [(odKey 0x2501 0, .scalar .uint 1)] = 0 →
    s.quotaFree c = true → s.freeSlot = some i.val → Answers (.fullNow c) s fun t =>
    AdmittedAs s t i 5 c) ∧
  (∀ (s : State) (c : Fin 256) (i : Fin 128), s.contextOpen c = true → s.checkWrite c [(odKey 0x2501 0, .scalar .uint 2)] = 0 →
    s.quotaFree c = true → s.freeSlot = some i.val → Answers (.verify c) s fun t =>
    AdmittedAs s t i 5 c) ∧
  (∀ (s : State) (c : Fin 256) (i : Fin 128), s.contextOpen c = true → s.checkWrite c [(odKey 0x2501 0, .scalar .uint 3)] = 0 →
    s.quotaFree c = true → s.freeSlot = some i.val → Answers (.clearFailing c) s fun t =>
    AdmittedAs s t i 5 c) ∧
  (∀ (s : State) (c : Fin 256) (i : Fin 128) (slot : Fin 4) (src : Fin 17), s.contextOpen c = true → s.checkWrite c (imageItems 1 slot
    src 0) = 0 → s.quotaFree c = true → s.freeSlot = some i.val → Answers (.imageLoad c slot src) s fun t =>
    AdmittedAs s t i 9 c) ∧
  (∀ (s : State) (c : Fin 256) (i : Fin 128) (slot : Fin 4), s.contextOpen c = true → s.checkWrite c (imageItems 2 slot 0 0) = 0 →
    s.quotaFree c = true → s.freeSlot = some i.val → Answers (.unload c slot) s fun t =>
    AdmittedAs s t i 9 c) ∧
  (∀ (s : State) (c : Fin 256) (i : Fin 128) (slot : Fin 16), s.contextOpen c = true → s.checkWrite c (imageItems 3 slot 16 0) = 0 →
    s.quotaFree c = true → s.freeSlot = some i.val → Answers (.store c slot) s fun t =>
    AdmittedAs s t i 9 c) ∧
  (∀ (s : State) (c : Fin 256) (i : Fin 128) (set : Fin 9) (value : Word), s.contextOpen c = true → s.checkWrite c (imageItems 4 set 0
    value.toNat) = 0 → s.quotaFree c = true → s.freeSlot = some i.val → Answers (.table c set value) s fun t =>
    AdmittedAs s t i 9 c) ∧
  (∀ (s : State) (c : Fin 256) (i : Fin 128) (mask : BitVec 26) (algo : Fin 2) (bgs : Fin 3) (destructive : Bool), s.contextOpen c =
    true → s.checkWrite c [(odKey 0x2301 1, .scalar .bits mask.toNat), (odKey 0x2301 2, .scalar .uint algo), (odKey 0x2301 3, .scalar
    .uint bgs), (odKey 0x2301 4, .scalar .bool (b2n destructive))] = 0 → s.quotaFree c = true → s.freeSlot = some i.val → Answers
    (.cardingRun c mask algo bgs destructive) s fun t =>
    AdmittedAs s t i 8 c) ∧
  (∀ (s : State) (c : Fin 256) (i : Fin 128) (h : Word) (kind : Fin 4) (hdr : Byte) (payload : BitVec 16) (mss : BitVec 16) (ctl :
    Word), s.contextOpen c = true → s.checkWrite c [(odKey 0x6080 1, .scalar .uint h.toNat), (odKey 0x6080 2, .scalar .uint kind),
    (odKey 0x6080 3, .scalar .uint hdr.toNat), (odKey 0x6080 4, .scalar .uint payload.toNat), (odKey 0x6080 5, .scalar .uint
    mss.toNat), (odKey 0x6080 6, .scalar .uint ctl.toNat)] = 0 → s.quotaFree c = true → s.freeSlot = some i.val → Answers (.largeSend c
    h kind hdr payload mss ctl) s fun t =>
    AdmittedAs s t i 0x0A c) ∧
  (∀ (s : State) (c : Fin 256) (i : Fin 128), s.contextOpen c = true → s.checkWrite c [(odKey 0x5010 0, .scalar .bool 1)] = 0 →
    s.quotaFree c = true → s.freeSlot = some i.val → Answers (.fanBaselineRun c) s fun t =>
    AdmittedAs s t i 0x0C c) ∧
  (∀ (s : State) (c : Fin 256) (i : Fin 128) (w : Fin 255) (ref : Word) (op : Fin 3) (tag : Byte) (v : List Byte), s.contextOpen c =
    true → s.checkWrite c [(odKey (0x9101 + w.val) 1, .scalar .odref ref.toNat), (odKey (0x9101 + w.val) 2, .scalar .uint op), (odKey
    (0x9101 + w.val) 3, .scalar .uint tag.toNat), (odKey (0x9101 + w.val) 4, .bytes v)] = 0 → s.quotaFree c = true → s.freeSlot = some
    i.val → Answers (.gateway c w ref op tag v) s fun t =>
    AdmittedAs s t i 0x0B c)

/-- MULTI_READ and MULTI_WRITE, and CONFIG_LOCK and OD_WRITE of a journaled entry (R290, R295, R342, R343): where every check passes,
an OD_READ or OD_WRITE ticket is admitted. -/
def Obligations.MultiAccess : Prop :=
  (∀ (s : State) (c : Fin 256) (l : List (BitVec 16 × Byte)) (i : Fin 128), s.contextOpen c = true → l.all (fun e => s.checkEntry c
    e.1.toNat e.2.toNat false == 0) = true → s.quotaFree c = true → s.freeSlot = some i.val → Answers (.multiRead c l) s fun t =>
    AdmittedAs s t i 2 c ∧
    (t.ticket i).members.map (·.1) = l.map (fun e => refOf e.1 e.2)) ∧
  (∀ (s : State) (c : Fin 256) (l : List (BitVec 16 × Byte × OdVal)) (i : Fin 128), s.contextOpen c = true → s.checkWrite c (l.map (fun
    e => (refOf e.1 e.2.1, e.2.2))) = 0 → l.all (fun e => (ownTicket e.1.toNat).isNone) = true → s.romFails (l.map (fun e => (refOf e.1
    e.2.1, e.2.2))) = 0 → s.quotaFree c = true → s.freeSlot = some i.val → l ≠ [] → Answers (.multiWrite c l) s fun t =>
    AdmittedAs s t i 1 c ∧
    (t.ticket i).members.map (·.1) = l.map (fun e => refOf e.1 e.2.1)) ∧
  (∀ (s : State) (c : Fin 256) (v : Bool) (i : Fin 128), s.contextOpen c = true → s.checkWrite c [(odKey 0x2F02 0, .scalar .bool (b2n
    v))] = 0 → s.safeRom = false → s.jr.readOnly = false → s.quotaFree c = true → s.freeSlot = some i.val → Answers (.configLock c v) s
    fun t =>
    AdmittedAs s t i 1 c ∧
    (t.ticket i).members = [(odKey 0x2F02 0, .scalar .bool (b2n v))] ∧
    (t.ticket i).ledgered = true)

/-- OD_READ of an entry value and OD_WRITE of an entry that is neither journaled nor opens a ticket (R285, R290): where every check
passes, the value is answered, or stored and answered; the first check that fails answers its code, counts in REFUSALS and leaves the
entry. -/
def Obligations.SingleAccess : Prop :=
  (∀ (s : State) (c : Fin 256) (i : BitVec 16) (sub : Byte) (m : OdSpec), s.contextOpen c = true → s.checkEntry c i.toNat sub.toNat
    false = 0 → s.odSpec i.toNat sub.toNat = some m → m.home = .val → m.expert = false → s.od.poisoned = [] → (i.toNat < 0x3130 ∨
    0x6061 < i.toNat) → i ≠ 0xF000 → Answers (.odRead c i sub false) s fun t =>
    t.od.answer = { ctx := c, code := 0, value := some (s.odPeek c i.toNat sub.toNat m) } ∧
    KeepsBut [] [.od, .tk] s t) ∧
  (∀ (s : State) (c : Fin 256) (sub : Byte) (n : Word), s.contextOpen c = true → s.checkWrite c [(refOf 0x2F05 sub, .scalar .uint
    n.toNat)] = 0 → (sub = 5 ∨ sub = 6 ∨ sub = 7) → s.journaled (refOf 0x2F05 sub) = true → s.quotaFree c = true → (s.freeSlot).isSome
    = true → Answers (.odWrite c 0x2F05 sub (.scalar .uint n.toNat)) s fun t =>
    t.od.answer.code = 0x40 ∧
    t.od.vals = s.od.vals) ∧
  (∀ (s : State) (c : Fin 256) (n : Word), s.contextOpen c = true → s.checkWrite c [(odKey 0x2200 1, .scalar .uint n.toNat)] = 0 →
    s.keyPending (odKey 0x2200 1) = false → Answers (.odWrite c 0x2200 1 (.scalar .uint n.toNat)) s fun t =>
    t.od.answer.code = 0 ∧
    t.odN 0x2200 1 0 = n.toNat ∧
    Keeps [.od, .tk, .gl] s t) ∧
  (∀ (s : State) (c : Fin 256) (n : Word), s.contextOpen c = true → s.checkWrite c [(odKey 0x2020 5, .scalar .uint n.toNat)] = 0 →
    s.keyPending (odKey 0x2020 5) = false → n = 1 → s.pstate = 4 → Answers (.odWrite c 0x2020 5 (.scalar .uint n.toNat)) s fun t =>
    t.od.answer.code = 0 ∧
    t.pstate = 6 ∧
    t.rd Reg.SYS_PSTATE_SDTRIG = 3) ∧
  (∀ (s : State) (c : Fin 256) (i : BitVec 16) (sub : Byte) (v : OdVal) (e : Nat), s.contextOpen c = true → s.checkWrite c [(refOf i
    sub, v)] = e → e ≠ 0 → i ≠ 0x2F00 → i ≠ 0x8002 → i ≠ 0x5010 → Answers (.odWrite c i sub v) s fun t =>
    t.od.answer.ctx = c ∧
    t.od.answer.code = (if 4 ≤ c then netCode e else e) ∧
    t.od.answer.value = none ∧
    t.od.answer.handle = none ∧
    (t.ctx c).refusals = satInc 65535 (s.ctx c).refusals ∧
    t.od.vals = s.od.vals ∧
    KeepsBut [] [.od, .tk] s t) ∧
  (∀ (s : State) (c : Fin 256) (i : BitVec 16) (sub : Byte) (m : OdSpec), s.contextOpen c = true → s.checkEntry c i.toNat sub.toNat
    false = 0 → s.odSpec i.toNat sub.toNat = some m → m.home ≠ .val → m.jrnl = false → (viaLink i.toNat sub.toNat m && !m.acc.journals
    && s.dlDown) = false → i ≠ 0xF000 → Answers (.odRead c i sub false) s fun t =>
    t.od.answer = { ctx := c, code := 0, value := some (s.odTake c i.toNat sub.toNat m).1 } ∧
    t.regs = (s.odTake c i.toNat sub.toNat m).2.regs ∧
    t.fuse = s.fuse ∧
    t.jr = s.jr ∧
    t.threads = s.threads) ∧
  (∀ (s : State) (c : Fin 256) (i : BitVec 16) (sub : Byte) (m : OdSpec), s.contextOpen c = true → s.checkEntry c i.toNat sub.toNat
    false = 0 → s.odSpec i.toNat sub.toNat = some m → (m.home = .val ∨ m.jrnl = true) → (viaLink i.toNat sub.toNat m && !m.acc.journals
    && s.dlDown) = false → i ≠ 0xF000 → Answers (.odRead c i sub true) s fun t =>
    t.od.answer.ctx = c ∧
    t.od.answer.code = (if 4 ≤ c.val then netCode 0x0F else 0x0F) ∧
    t.od.answer.value = none ∧
    (m.jrnl = false → t.od.poisoned.contains (refOf i sub) = true) ∧
    (m.jrnl = true → t.od.poisoned.contains (refOf i sub) = false)) ∧
  (∀ (s : State) (c : Fin 256) (i : BitVec 16) (sub : Byte) (v : OdVal), s.contextOpen c = true → s.checkWrite c [(refOf i sub, v)] = 0
    → ownWrite [(refOf i sub, v)] = none → s.journaled (refOf i sub) = false → s.keyPending (refOf i sub) = false → ((s.odSpec i.toNat
    sub.toNat).map (·.expert)).getD false = false → i ≠ 0x2401 → i ≠ 0x2402 → i ≠ 0xF000 → i ≠ 0x5010 → Answers (.odWrite c i sub v) s
    fun t =>
    t.od.answer = { ctx := c, code := 0 } ∧
    (let u := ((s.captureReads s.tk.nextOrder [refOf i sub]).odApply c (refOf i sub) v).mirrorRw [(refOf i sub, v)]; t.regs = u.regs ∧ t.od.vals = u.od.vals ∧ t.trd = u.trd ∧ t.time = u.time ∧ t.pwm = u.pwm ∧ t.fan = u.fan ∧ t.bk = u.bk ∧ t.loom = u.loom ∧ t.can = u.can ∧ t.gl = u.gl ∧ t.pow = u.pow))

/-- EXPERT_UNLOCK with a matching key, EXPERT_RELOCK, the end of the block after a failed key, the expiry of the unlock and a DATA
access of the expert window (R311, R314, R316, R317, R400). -/
def Obligations.ExpertCommands : Prop :=
  (∀ (s : State) (c : Fin 256) (key : BitVec 64), s.contextOpen c = true → s.checkWrite c [(odKey 0x2F00 0, .bytes (leBytes 8
    key.toNat))] = 0 → s.keyPending (odKey 0x2F00 0) = false → Answers (.expertUnlock c key) s fun t =>
    (t.ctx c).unlocked = true ∧
    t.od.failCount = 0 ∧
    t.od.answer.code = 0) ∧
  (∀ (s : State) (c : Fin 256), s.contextOpen c = true → s.checkWrite c [(odKey 0x2F04 0, .scalar .bool 1)] = 0 → s.keyPending (odKey
    0x2F04 0) = false → Answers (.expertRelock c) s fun t =>
    (t.ctx c).unlocked = false ∧
    t.od.answer.code = 0) ∧
  (∀ (s : State), s.passed .unlockBlock (1000 * msCycles) = true → Answers (.unlockBlockEnd) s fun t =>
    t.od.unlockBlocked = false ∧
    t.od.failCount = s.od.failCount ∧
    Keeps [.od] s t) ∧
  (∀ (s : State) (c : Fin 256), (s.ctx c).unlocked = true → (s.ctx c).lastUse + unlockSpan ≤ s.cycle → Answers (.expertUnlockExpiry c)
    s fun t =>
    (t.ctx c).unlocked = false ∧
    (c = 1 → t.bit Reg.HOSTPORT_INTSTAT_INTSTAT 5 = true) ∧
    KeepsBut [Reg.HOSTPORT_INTSTAT_INTSTAT] [.od] s t) ∧
  (∀ (s : State) (c : Fin 256) (v : Word), s.contextOpen c = true → s.checkEntry c 0xF000 2 true = 0 → s.ctxRight c 2 = 3 → (s.ctx
    c).winAddr = 0x400C0300 → (s.ctx c).winAuto = false → v.toNat ≤ 16 → Answers (.expertWindowData c (some v) 0) s fun t =>
    t.rd Reg.REPAIR_SEL_BANK = v.toNat ∧
    t.od.answer.code = 0 ∧
    (t.ctx c).winLast = 0) ∧
  (∀ (s : State) (c : Fin 256) (v : Option Word) (crc : Fin 3), s.contextOpen c = true → s.checkEntry c 0xF000 2 v.isSome = 0 →
    s.windowCode c (s.ctx c).winAddr = 0 → Answers (.expertWindowData c v crc) s fun t =>
    t.od.answer.code = (let r := s.windowData c (s.ctx c).winAddr (v.map BitVec.toNat) crc; if 4 ≤ c.val then netCode r.1 else r.1) ∧
    (t.ctx c).winLast = (s.windowData c (s.ctx c).winAddr (v.map BitVec.toNat) crc).1 ∧
    (t.ctx c).lastUse = s.cycle ∧
    t.regs = (s.windowData c (s.ctx c).winAddr (v.map BitVec.toNat) crc).2.2.regs ∧
    t.mem = (s.windowData c (s.ctx c).winAddr (v.map BitVec.toNat) crc).2.2.mem ∧
    (v = none → (s.windowData c (s.ctx c).winAddr none crc).1 = 0 → t.od.answer.value = some (.scalar .bits (s.windowData c (s.ctx c).winAddr none crc).2.1)))

/-- NETWORK_REQUEST, SESSION_OPEN, SESSION_CLOSE, DRAIN_TIMEOUT, SHWAKE and IMAGE_RESTART (R304, R306, R322, R324, R325, R558, R586): a
wake by the Weaver lets a waiting thread issue again, a restart that is due reloads the image of its store slot into the reservations
it kept and leaves it RUNNING, a mapped value is read and put on the wire in its WIDTH and byte order, a session takes the lowest free
context from 4 on, and its close frees the context, at once where it holds no ticket. -/
def Obligations.NetworkAndImages : Prop :=
  (∀ (s : State) (k : Fin 4) (c : Fin 256) (key : Nat) (r : MapRow) (n : Nat), 4 ≤ c.val → (s.ctx c).state = .opened → (s.ctx c).image
    = k → s.contextOpen c = true → s.rowOf k key = some r → r.canRead = true → r.ref = odKey 0x2F06 0 → r.width = 32 → r.scale = 0 →
    s.checkEntry c 0x2F06 0 false = 0 → s.od.poisoned = [] → s.odN 0x2F06 0 0 = n → n < 2 ^ 32 → s.od.vals.get none (odKey 0x2F06 0) =
    some (.scalar .uint n) → Answers (.networkRequest k c (.reads [key])) s fun t =>
    t.od.answer.code = 0 ∧
    t.od.answer.value = some (.bytes (r.order 4 n))) ∧
  (∀ (s : State) (k : Fin 4) (reach : Fin 6) (profile : Fin 16) (c : Nat), s.slotState k = 2 → (List.range 256).find? (fun c => 4 ≤ c
    && (s.ctx c).state == .free) = some c → (s.slot k).sessions < (s.decl k).sessions → Answers (.sessionOpen k reach profile) s fun t
    =>
    (t.ctx c).state = .opened ∧
    (t.ctx c).profile = profile ∧
    (t.ctx c).reach = reach ∧
    (t.ctx c).image = k ∧
    (t.slot k).sessions = (s.slot k).sessions + 1 ∧
    Keeps [.od, .img] s t) ∧
  (∀ (s : State) (c : Fin 256), 4 ≤ c.val → (s.ctx c).state = .opened → s.heldBy c = [] → Answers (.sessionClose c) s fun t =>
    (t.ctx c).state = .free ∧
    (t.ctx c).unlocked = false ∧
    Keeps [.od, .img] s t) ∧
  (∀ (s : State) (c : Fin 256), (s.ctx c).state = .draining → (s.ctx c).session + s.odN 0x2F05 4 30 * 1000 * msCycles ≤ s.cycle →
    Answers (.drainTimeout c) s fun t =>
    (t.ctx c).state = .free ∧
    t.heldBy c = [] ∧
    t.fuse = s.fuse ∧
    (s.heldBy c = [] → Keeps [.od] s t)) ∧
  (∀ (s : State) (k : Fin 32), (s.thread (2 + k.val)).run = .waiting → Answers (.shwake k .weaver) s fun t =>
    (t.thread (2 + k.val)).run = .running ∧
    (∀ j : Fin 35, j.val ≠ 2 + k.val → t.thread j = s.thread j) ∧
    Keeps [.threads] s t) ∧
  (∀ (s : State) (k : Fin 4) (im : Image), s.slotState k = 3 → (s.slot k).restartPending = true → (s.slot k).faultCycle + restartSpan ≤
    s.cycle → s.img.store.get none (s.rd (Reg.SYS_IMGSTAT_STORE.at k)) = some im → im.sigOk = true → im.mappingOk = true → im.mapRows =
    [] → im.decl = s.decl k → Answers (.imageRestart k) s fun t =>
    t.slotState k = 2 ∧
    (t.slot k).restarts = (s.slot k).restarts + 1 ∧
    (t.slot k).restartPending = false ∧
    (t.slot k).shuttles = (s.slot k).shuttles ∧
    t.fuse = s.fuse) ∧
  (∀ (s : State) (k : Fin 4), s.slotState k = 3 → (s.slot k).restartPending = true → (s.slot k).faultCycle + restartSpan ≤ s.cycle →
    s.img.store.get none (s.rd (Reg.SYS_IMGSTAT_STORE.at k)) = none → Answers (.imageRestart k) s fun t =>
    t.slotState k ≠ 2 ∧
    t.fuse = s.fuse) ∧
  (∀ (s : State) (k : Fin 4) (c : Fin 256) (keys : List Nat) (i : Fin 128), 4 ≤ c.val → (s.ctx c).image = k → s.contextOpen c = true →
    2 ≤ keys.length → (s.netKeys k keys).1 = 0 → (s.netKeys k keys).2.all (fun r => s.checkRead c r == 0 && !((s.odSpec (r / 256) (r %
    256)).map (·.expert)).getD false) = true → s.quotaFree c = true → s.freeSlot = some i.val → Answers (.networkRequest k c (.reads
    keys)) s fun t =>
    (t.ticket i).state = .queued ∧
    (t.ticket i).type = 2 ∧
    (t.ticket i).client = c ∧
    (t.ticket i).rows = keys.filterMap (s.rowOf k) ∧
    (t.ticket i).members.map (·.1) = (s.netKeys k keys).2 ∧
    (∀ j : Fin 128, j ≠ i → t.ticket j = s.ticket j) ∧
    KeepsBut [Reg.HOSTPORT_INTSTAT_INTSTAT] [.od, .tk, .jr, .gl, .marks] s t) ∧
  (∀ (s : State) (k : Fin 4) (c : Fin 256) (l : List (Nat × List Byte)) (i : Fin 128), 4 ≤ c.val → (s.ctx c).image = k → s.contextOpen
    c = true → 2 ≤ l.length → (l.map (s.netItem k)).all (fun x => x.2 == 0 && !((s.odSpec (x.1.1 / 256) (x.1.1 % 256)).map
    (·.expert)).getD false && (ownTicket (x.1.1 / 256)).isNone) = true → s.checkWrite c ((l.map (s.netItem k)).map (·.1)) = 0 →
    s.romFails ((l.map (s.netItem k)).map (·.1)) = 0 → s.quotaFree c = true → s.freeSlot = some i.val → Answers (.networkRequest k c
    (.writes l)) s fun t =>
    (t.ticket i).state = .queued ∧
    (t.ticket i).type = 1 ∧
    (t.ticket i).client = c ∧
    (t.ticket i).members.map (·.1) = (l.map (s.netItem k)).map (·.1.1) ∧
    (∀ j : Fin 128, j ≠ i → t.ticket j = s.ticket j) ∧
    KeepsBut [Reg.HOSTPORT_INTSTAT_INTSTAT] [.od, .tk, .jr, .gl, .marks] s t) ∧
  (∀ (s : State) (k : Fin 4) (c : Fin 256) (i : BitVec 16) (sub : Byte), 4 ≤ c.val → (s.ctx c).state = .opened → (s.ctx c).image = k →
    s.rowOf k (refOf i sub) = none → Answers (.networkRequest k c (.sdoRead i sub)) s fun t =>
    exec (.odRead c i sub false) s = .next t) ∧
  (∀ (s : State) (k : Fin 4) (c : Fin 256) (i : BitVec 16) (sub : Byte) (b : List Byte) (v : OdVal), 4 ≤ c.val → (s.ctx c).state =
    .opened → (s.ctx c).image = k → s.rowOf k (refOf i sub) = none → s.nativeVal i.toNat sub.toNat b = (0, v) → Answers
    (.networkRequest k c (.sdoWrite i sub b)) s fun t =>
    exec (.odWrite c i sub v) s = .next t) ∧
  (∀ (s : State) (c : Fin 256), 4 ≤ c.val → (s.ctx c).state = .opened → s.heldBy c ≠ [] → Answers (.sessionClose c) s fun t =>
    (t.ctx c).state = .draining ∧
    Keeps [.od] s t) ∧
  (∀ (s : State) (k : Fin 32) (n : Fin 4), (s.thread (2 + k.val)).run = .waiting → s.shuttleHolder (k.val / 4) = some n.val → Answers
    (.shwake k (.image n)) s fun t =>
    (t.thread (2 + k.val)).run = .running ∧
    (∀ j : Fin 35, j.val ≠ 2 + k.val → t.thread j = s.thread j) ∧
    Keeps [.threads] s t)

/-- Tickets (R345, R347, R348, R350, R351, R354, R355, R359): the head of its type's queue starts, a step is committed and the last one
ends the ticket DONE, a result read answers the status and the result word and marks the ticket read, a consuming read and a retire
free the slot, an abort of a running ticket waits for its step, and an orphan in a final state is retired. -/
def Obligations.TicketCommands : Prop :=
  (∀ (s : State) (i : Fin 128), s.mayStart i = true → s.weaverOn = true → ((s.ticket i).ledgered = false ∨ ((s.ticket i).firstCommitted
    = true ∧ s.jr.noJournal = false)) → ((s.ticket i).type ∈ [2, 3, 6, 7, 9, 0x0A] ∨ ((s.ticket i).type = 1 ∧ (s.ticket i).ledgered =
    false) ∨ ((s.ticket i).type = 5 ∧ (s.ticket i).params.head? = some 3)) → Answers (.ticketExecutorStart i) s fun t =>
    (t.ticket i) = { s.ticket i with state := .running } ∧
    (∀ j : Fin 128, j ≠ i → t.ticket j = s.ticket j) ∧
    Keeps [.tk] s t) ∧
  (∀ (s : State) (i : Fin 128) (word : Fin 128) (mask : Word), s.stepOpen i = true → s.weaverOn = true → s.pstate = 4 → s.fuseAllows
    word mask.toNat = true → (s.ticket i).type = 7 → (s.ticket i).step = 0 → (s.ticket i).steps = 2 → (s.ticket i).params = evBytes 1
    word ++ evBytes 4 mask.toNat → Answers (.ticketStepComplete i .plain) s fun t =>
    (∀ k : Fin 32, bitOf t.fuse (32 * word + k) = (bitOf s.fuse (32 * word + k) || mask.getLsbD k))) ∧
  (∀ (s : State) (i : Fin 128) (m : List (Nat × OdVal)), s.stepOpen i = true → s.weaverOn = true → s.readWaits i = false → (s.ticket
    i).type = 2 → (s.ticket i).steps = 1 → (s.ticket i).step = 0 → (s.ticket i).ledgered = false → (s.ticket i).members = [(odKey
    0x2F06 0, .scalar .nil 0)] → s.od.poisoned = [] → Answers (.ticketStepComplete i .plain) s fun t =>
    (t.ticket i).state = .done ∧
    (t.ticket i).data = [s.odPeek (s.ticket i).client 0x2F06 0 (mU .ro .val)] ∧
    (t.ticket i).resVal = 1) ∧
  (∀ (s : State) (c : Fin 256) (h : Word) (i : Fin 128), 4 ≤ s.pstate → s.inS4 = false → (s.ctx c).state ∈ [CtxState.opened, .draining]
    → s.slotOf c h.toNat = some i.val → (s.ticket i).state.isFinal = true → Answers (.resultRead c h) s fun t =>
    t.od.answer.code = (s.ticket i).status + (if (s.ticket i).readOnce then 0x80 else 0) ∧
    (t.ticket i).readOnce = true ∧
    (t.ticket i).resVal = (s.ticket i).resVal ∧
    (∀ j : Fin 128, j ≠ i → t.ticket j = s.ticket j) ∧
    Keeps [.od, .tk] s t) ∧
  (∀ (s : State) (c : Fin 256) (h : Word) (i : Fin 128), 4 ≤ s.pstate → s.inS4 = false → (s.ctx c).state ∈ [CtxState.opened, .draining]
    → s.slotOf c h.toNat = some i.val → (s.ticket i).state.isFinal = true → Answers (.resultConsume c h) s fun t =>
    t.od.answer.code = (s.ticket i).status + (if (s.ticket i).readOnce then 0x80 else 0) ∧
    (t.ticket i).state = .free ∧
    (∀ j : Fin 128, j ≠ i → t.ticket j = s.ticket j)) ∧
  (∀ (s : State) (c : Fin 256) (h : Word) (i : Fin 128), 4 ≤ s.pstate → s.inS4 = false → (s.ctx c).state ∈ [CtxState.opened, .draining]
    → s.slotOf c h.toNat = some i.val → (s.ticket i).state.isFinal = true → Answers (.ticketRetire c h) s fun t =>
    t.od.answer.code = 0 ∧
    (t.ticket i).state = .free ∧
    (∀ j : Fin 128, j ≠ i → t.ticket j = s.ticket j) ∧
    Keeps [.od, .tk, .jr, .gl, .marks] s t) ∧
  (∀ (s : State) (c : Fin 256) (h : Word) (i : Fin 128), 4 ≤ s.pstate → s.inS4 = false → (s.ctx c).state ∈ [CtxState.opened, .draining]
    → s.slotOf c h.toNat = some i.val → (s.ticket i).state = .running → Answers (.ticketAbort c h) s fun t =>
    t.od.answer.code = 0x40 ∧
    (t.ticket i).abortPending = true ∧
    (t.ticket i).state = .running ∧
    Keeps [.od, .tk] s t) ∧
  (∀ (s : State) (c : Fin 256) (h : Word) (i : Fin 128) (b : List Byte), 4 ≤ s.pstate → s.inS4 = false → (s.ctx c).state ∈
    [CtxState.opened, .draining] → s.slotOf c h.toNat = some i.val → b = leBytes 1 (s.ticket i).state.toCode ++ leBytes 1 (s.ticket
    i).type ++ leBytes 2 (s.ticket i).step ++ leBytes 2 (s.ticket i).steps ++ leBytes 1 (s.ticket i).code → Answers (.ticketState c h)
    s fun t =>
    t.od.answer.code = 0 ∧
    (c = 1 → t.tk.resp.rdata = b ∧ t.tk.resp.status = 0 ∧ t.tk.resp.crc = crc8 (0 :: b)) ∧
    (c ≠ 1 → t.od.answer.value = some (.bytes b)) ∧
    (∀ j : Fin 128, t.ticket j = s.ticket j) ∧
    Keeps [.od, .tk] s t) ∧
  (∀ (s : State) (c : Fin 256) (h : Word) (i : Fin 128) (b : List Byte), 4 ≤ s.pstate → s.inS4 = false → (s.ctx c).state ∈
    [CtxState.opened, .draining] → s.slotOf c h.toNat = some i.val → (s.ticket i).carries = true → b = (s.ticket i).data.flatMap
    OdVal.rdata → b.length < 65536 → Answers (.resultData c h) s fun t =>
    (c = 1 → t.tk.resp.rdata = leBytes 2 b.length ++ b) ∧
    (c ≠ 1 → t.od.answer.value = some (.bytes (leBytes 2 b.length ++ b))) ∧
    t.od.answer.code = (s.ticket i).status + (if (s.ticket i).readOnce then 0x80 else 0) ∧
    (t.ticket i).readOnce = true ∧
    (∀ j : Fin 128, j ≠ i → t.ticket j = s.ticket j) ∧
    Keeps [.od, .tk] s t) ∧
  (∀ (s : State) (c : Fin 256) (h : Word) (i : Fin 128), 4 ≤ s.pstate → s.inS4 = false → (s.ctx c).state ∈ [CtxState.opened, .draining]
    → s.slotOf c h.toNat = some i.val → (s.ticket i).carries = false → (s.ticket i).state.isFinal = true → Answers (.resultData c h) s
    fun t =>
    (c = 1 → t.tk.resp.rdata = [0, 0]) ∧
    (c ≠ 1 → t.od.answer.value = some (.bytes [0, 0])) ∧
    (t.ticket i).readOnce = true ∧
    Keeps [.od, .tk] s t) ∧
  (∀ (s : State) (i : Fin 128) (im : Image), s.stepOpen i = true → s.weaverOn = true → (s.ticket i).type = 3 → (s.ticket i).ledgered =
    false → (s.ticket i).step + 1 = (s.ticket i).steps → 4 ≤ s.pstate → Answers (.ticketStepComplete i (.image im)) s fun t =>
    (t.ticket i).state = .done ∧
    (t.ticket i).resVal = paramAt (s.ticket i).params 0 4 ∧
    t.img.staged = some { im with bytes := (s.ticket i).bytes } ∧
    t.img.store = s.img.store ∧
    (∀ j : Fin 128, j ≠ i → t.ticket j = s.ticket j)) ∧
  (∀ (s : State) (i : Fin 128) (f : StepFact), s.stepOpen i = true → s.weaverOn = true → s.jr.readOnly = false → s.jr.noJournal = false
    → (s.ticket i).ledgered = true → (s.ticket i).type = 6 → Answers (.ticketStepComplete i f) s fun t =>
    (t.ticket i).stepPending = true ∧
    (t.ticket i).state = .running ∧
    (t.ticket i).step = (s.ticket i).step ∧
    (t.ticket i).members = s.restoreItems (((List.range 16).filter (bitOf (paramAt (s.ticket i).params 0 2))).getD (s.ticket i).step 0) ∧
    t.od.vals = s.od.vals ∧
    KeepsBut [Reg.HOSTPORT_INTSTAT_INTSTAT] [.tk, .jr, .gl, .marks] s t) ∧
  (∀ (s : State) (i : Fin 128) (f : StepFact), s.stepOpen i = true → s.weaverOn = true → (s.ticket i).type = 5 → (s.ticket
    i).params.head? = some 2 → (s.ticket i).ledgered = false → (s.ticket i).steps = 1 → Answers (.ticketStepComplete i f) s fun t =>
    (t.ticket i).state = .done ∧
    (t.ticket i).resVal = s.verifyCount i ∧
    t.jr = s.jr ∧
    t.flash = s.flash ∧
    (∀ j : Fin 128, j ≠ i → t.ticket j = s.ticket j)) ∧
  (∀ (s : State) (i : Fin 128) (f : StepFact), s.stepOpen i = true → s.weaverOn = true → (s.ticket i).type ∈ [2, 3, 5, 6, 7, 9, 0x0A] →
    Answers (.ticketStepComplete i f) s fun t =>
    t = (s.typeStep i f).settle i) ∧
  (∀ (s : State) (i : Fin 128), (s.ticket i).orphan = true → (s.ticket i).state.isFinal = true → s.passed .mount (s.odN 0x2400 5 600 *
    1000 * msCycles) = true → Answers (.orphanAutoRetire i) s fun t =>
    (t.ticket i).state = .free ∧
    (∀ j : Fin 128, j ≠ i → t.ticket j = s.ticket j))

/-- The host port (R392 to R400, R344): STATUS answers the power state and the journal state, INT_READ answers INTSTAT and clears it,
INT_ENABLE writes INTEN, RESEND leaves the previous response, a request that names no command or whose CRC fails answers its error, an
aborted request is counted, and a download is opened, filled segment by segment and never read back. -/
def Obligations.HostPortCommands : Prop :=
  (∀ (s : State), 4 ≤ s.pstate → Answers (.status) s fun t =>
    t.tk.resp.status = 0 ∧
    t.tk.resp.rdata = [BitVec.ofNat 8 s.pstate, BitVec.ofNat 8 s.journalState] ∧
    t.tk.resp.crc = crc8 (0 :: t.tk.resp.rdata) ∧
    Keeps [.tk] s t) ∧
  (∀ (s : State), 4 ≤ s.pstate → s.inS4 = false → Answers (.intRead) s fun t =>
    t.tk.resp.status = 0 ∧
    t.tk.resp.rdata = leBytes 2 (s.rd Reg.HOSTPORT_INTSTAT_INTSTAT) ∧
    t.tk.resp.crc = crc8 (0 :: t.tk.resp.rdata) ∧
    t.rd Reg.HOSTPORT_INTSTAT_INTSTAT = 0 ∧
    KeepsBut [Reg.HOSTPORT_INTSTAT_INTSTAT] [.tk] s t) ∧
  (∀ (s : State) (v : BitVec 16), 4 ≤ s.pstate → s.inS4 = false → Answers (.intEnable v) s fun t =>
    t.rd Reg.HOSTPORT_INTEN_INTEN = v.toNat ∧
    t.tk.resp.status = 0 ∧
    t.tk.resp.rdata = [] ∧
    t.tk.resp.crc = crc8 [0] ∧
    KeepsBut [Reg.HOSTPORT_INTEN_INTEN] [.tk, .jr, .gl, .marks] s t) ∧
  (∀ (s : State), 4 ≤ s.pstate → s.inS4 = false → Answers (.resend) s fun t =>
    t.tk.resp = s.tk.resp ∧
    Keeps [] s t) ∧
  (∀ (s : State) (req : List Byte) (crc : Byte), s.portAnswers = true → crc8 req ≠ crc.toNat → Answers (.unknownCommand req crc) s fun
    t =>
    t.tk.resp.status = 0x50 ∧
    t.rd Reg.HOSTPORT_ERR_CRC_ERRORS = satInc 255 (s.rd Reg.HOSTPORT_ERR_CRC_ERRORS) % 256 ∧
    t.bit Reg.HOSTPORT_INTSTAT_INTSTAT 6 = true ∧
    KeepsBut [Reg.HOSTPORT_ERR_CRC_ERRORS, Reg.HOSTPORT_INTSTAT_INTSTAT] [.tk] s t) ∧
  (∀ (s : State) (req : List Byte) (crc : Byte), 4 ≤ s.pstate → s.inS4 = false → crc8 req = crc.toNat → dataFits (leValue (req.take 1)
    % 128) (leValue ((req.drop 1).take 3)) (req.drop 4) = none → Answers (.unknownCommand req crc) s fun t =>
    t.tk.resp.status = 0x51 ∧
    Keeps [.tk] s t) ∧
  (∀ (s : State) (req : List Byte) (crc : Byte) (fits : Bool), 4 ≤ s.pstate → s.inS4 = false → crc8 req = crc.toNat → dataFits (leValue
    (req.take 1) % 128) (leValue ((req.drop 1).take 3)) (req.drop 4) = some fits → (fits = false ∨ 4104 < (req.drop 4).length) →
    Answers (.unknownCommand req crc) s fun t =>
    t.tk.resp.status = 0x52 ∧
    Keeps [.tk] s t) ∧
  (∀ (s : State), s.portAnswers = true → Answers (.hostRequestDiscarded) s fun t =>
    t.rd Reg.HOSTPORT_ERR_ABORTED = satInc 255 (s.rd Reg.HOSTPORT_ERR_ABORTED) % 256 ∧
    t.tk.resp = s.tk.resp ∧
    KeepsBut [Reg.HOSTPORT_ERR_ABORTED] [] s t) ∧
  (∀ (s : State), 4 ≤ s.pstate → s.inS4 = false → Answers (.hostAccessTimeout) s fun t =>
    t.tk.resp.status = 0x54 ∧
    Keeps [.tk] s t) ∧
  (∀ (s : State) (total : Word) (first : BitVec 16) (i : Fin 128), s.pstate = 4 → s.contextOpen 1 = true → s.checkEntry 1 0x2202 0 true
    = 0 → 0 < total.toNat → total.toNat ≤ domainMax → s.standby = false → s.stageReturn.cellsLend 2048 = true → s.quotaFree 1 = true →
    s.freeSlot = some i.val → Answers (.domainOpen 0x2202 0 false total first) s fun t =>
    (t.ticket i).state = .queued ∧
    (t.ticket i).type = 3 ∧
    (t.ticket i).steps = (total.toNat + 4095) / 4096 + 1 ∧
    t.od.answer.code = 0x40 ∧
    t.img.stagedCells = true) ∧
  (∀ (s : State) (total : Word) (first : BitVec 16) (i : Fin 128), s.hostLoads = true → 0 < total.toNat → total.toNat ≤ domainMax →
    s.quotaFree 1 = true → s.freeSlot = some i.val → Answers (.domainOpen 0x2202 0 false total first) s fun t =>
    AdmittedAs s t i 3 1 ∧
    (t.ticket i).steps = (total.toNat + 4095) / 4096 + 1) ∧
  (∀ (s : State) (first : BitVec 16), s.hostLoads = true → Answers (.domainOpen 0x2202 0 false 0 first) s fun t =>
    t.img.hostImages = s.img.hostImages ++ [none] ∧
    t.tk.resp.status = 0 ∧
    Keeps [.img, .od, .tk] s t) ∧
  (∀ (s : State) (h : Word) (k : BitVec 16) (b : List Byte) (i : Fin 128), 4 ≤ s.pstate → s.inS4 = false → s.slotOf 1 h.toNat = some
    i.val → (s.ticket i).type = 3 → s.stepOpen i = true → (s.ticket i).ledgered = false → k.toNat = (s.ticket i).step + 1 → k.toNat <
    (s.ticket i).steps → (s.ticket i).abortPending = false → b.length = min 4096 (paramAt (s.ticket i).params 0 4 - 4096 * (s.ticket
    i).step) → Answers (.domainPut h k b) s fun t =>
    t.tk.resp.status = 0 ∧
    (t.ticket i).step = k.toNat ∧
    (t.ticket i).data = (s.ticket i).data ++ [.bytes b] ∧
    Keeps [.tk] s t) ∧
  (∀ (s : State) (h : Word) (k : BitVec 16) (i : Nat), 4 ≤ s.pstate → s.inS4 = false → s.slotOf 1 h.toNat = some i → Answers
    (.domainGet h k) s fun t =>
    t.tk.resp.status = 0x0B ∧
    Keeps [.tk] s t)

/-! ### Mains angle and network time (chapters 03 and 04) -/

/-- MS0_CROSSING, WINDOW_MISS, ACQUIRE_TIMEOUT, MS_PHASE_CROSSING, INPUT_PRESENCE_UPDATE and STEP_CMD (R162, R168, R171 to R173, R179,
R180, R185): an accepted crossing corrects INC by its error, one outside the window only counts in REJECT, misses count and the third
enters HOLDOVER, a time-out of ACQUIRE enters HOLDOVER at the nominal frequency, and a step command waits for the next accepted
crossing or is refused. -/
def Obligations.MainsAngle : Prop :=
  (∀ (s : State) (edge : Nat) (low : Nat) (high : Nat) (back : Nat), s.trdSees = true → s.angleFollows = false → s.ms0Back edge low
    high = some back → s.trdSt = 1 → s.trd.stepPending = false → s.inWindow (s.cycle - back) (s.phaseErr (s.angBack back)) (s.angBack
    back) = true → Answers (.ms0Crossing edge low high) s fun t =>
    t.trd.base = clampInc (roundDiv ((s.trd.base : Int) * (8 * ((2 ^ (6 - s.rd Reg.TREADLE_CTRL_GAIN) : Nat) : Int) * 65536 - s.phaseErr (s.angBack back))) (8 * ((2 ^ (6 - s.rd Reg.TREADLE_CTRL_GAIN) : Nat) : Int) * 65536)).toNat ∧
    t.rd Reg.TREADLE_INC_INC = clampInc ((t.trd.base : Int) + roundDiv (-s.phaseErr (s.angBack back) * (t.trd.base : Int)) (65536 * ((2 ^ (6 - s.rd Reg.TREADLE_CTRL_GAIN) : Nat) : Int))).toNat ∧
    t.trd.corrLeft = 2 ^ 48 / max 1 t.trd.base ∧
    t.trd.last = s.cycle - back ∧
    t.trd.consec = 0 ∧
    t.trdSt = 1 ∧
    t.trd.newest.map (·.ang) = some (s.angBack back) ∧
    t.time = s.time ∧
    t.mem = s.mem) ∧
  (∀ (s : State) (edge : Nat) (low : Nat) (high : Nat) (back : Nat), s.trdSees = true → s.angleFollows = false → s.ms0Back edge low
    high = some back → (s.trdSt = 1 ∨ s.trdSt = 3) → s.trd.stepPending = true → s.inWindow (s.cycle - back) (s.phaseErr (s.angBack
    back)) (s.angBack back) = true → Answers (.ms0Crossing edge low high) s fun t =>
    t.trdSt = 1 ∧
    t.rd Reg.TREADLE_STAT_RELOCKED = 1 ∧
    t.trd.stepPending = false ∧
    t.trd.last = s.cycle - back) ∧
  (∀ (s : State) (edge : Nat) (low : Nat) (high : Nat) (back : Nat), s.trdSees = true → s.angleFollows = false → s.ms0Back edge low
    high = some back → s.trdSt = 3 → s.trd.stepPending = false → s.inWindow (s.cycle - back) (s.phaseErr (s.angBack back)) (s.angBack
    back) = true → Answers (.ms0Crossing edge low high) s fun t =>
    t.trdSt = (if -16 ≤ s.phaseErr (s.angBack back) ∧ s.phaseErr (s.angBack back) ≤ 16 then 1 else 3) ∧
    t.trd.base = clampInc (incFor (s.cycle - back - s.trd.last) (s.trd.consec + 1)) ∧
    t.trd.last = s.cycle - back ∧
    t.trd.consec = 0) ∧
  (∀ (s : State) (edge : Nat) (low : Nat) (high : Nat) (back : Nat), s.trdSees = true → s.angleFollows = false → s.ms0Back edge low
    high = some back → (s.trdSt = 1 ∨ s.trdSt = 3) → s.inWindow (s.cycle - back) (s.phaseErr (s.angBack back)) (s.angBack back) = false
    → Answers (.ms0Crossing edge low high) s fun t =>
    t.rd Reg.TREADLE_CNT_REJECT = satInc (2 ^ Reg.TREADLE_CNT_REJECT.w - 1) (s.rd Reg.TREADLE_CNT_REJECT) % 2 ^ Reg.TREADLE_CNT_REJECT.w ∧
    t.trd = (s.msTake 0).trd ∧
    KeepsBut [Reg.TREADLE_CNT_REJECT] [.trd] s t) ∧
  (∀ (s : State) (edge : Nat) (low : Nat) (high : Nat) (back : Nat), s.trdSees = true → s.angleFollows = false → s.ms0Back edge low
    high = some back → (s.trdSt = 0 ∨ s.trdSt = 2) → s.trd.run = [] → Answers (.ms0Crossing edge low high) s fun t =>
    t.trd.run = [s.cycle - back] ∧
    t.trdSt = s.trdSt ∧
    t.trd.newest.map (fun r => (r.ang, r.cand)) = some (s.angBack back, true) ∧
    t.rd Reg.TREADLE_INC_INC = s.rd Reg.TREADLE_INC_INC) ∧
  (∀ (s : State), s.running = true → s.windowOver = true → (s.trdSt = 1 ∨ s.trdSt = 3) → s.trd.consec < 2 → Answers (.windowMiss) s fun
    t =>
    t.rd Reg.TREADLE_CNT_MISS = satInc (2 ^ Reg.TREADLE_CNT_MISS.w - 1) (s.rd Reg.TREADLE_CNT_MISS) % 2 ^ Reg.TREADLE_CNT_MISS.w ∧
    t.trd.consec = s.trd.consec + 1 ∧
    t.trdSt = s.trdSt ∧
    KeepsBut [Reg.TREADLE_CNT_MISS] [.trd] s t) ∧
  (∀ (s : State), s.running = true → s.windowOver = true → (s.trdSt = 1 ∨ s.trdSt = 3) → 2 ≤ s.trd.consec → Answers (.windowMiss) s fun
    t =>
    t.trdSt = 2 ∧
    t.rd Reg.TREADLE_STAT_HOLDOVER = 1 ∧
    t.rd Reg.TREADLE_STAT_ANG_VALID = 1 ∧
    t.rd Reg.TREADLE_STAT_MAINS_LOST = 1 ∧
    t.rd Reg.TREADLE_HOLD_HOLD = 0 ∧
    t.rd Reg.TREADLE_INC_INC = clampInc s.trd.incAccept ∧
    Keeps [.regs, .trd] s t) ∧
  (∀ (s : State), s.trdSt = 0 → s.running = true → s.acquireOver = true → Answers (.acquireTimeout) s fun t =>
    t.trdSt = 2 ∧
    t.rd Reg.TREADLE_STAT_ANG_VALID = 1 ∧
    t.rd Reg.TREADLE_HOLD_HOLD = 0 ∧
    t.rd Reg.TREADLE_INC_INC = s.incNominal ∧
    t.trd.run = s.trd.run ∧
    (s.rd Reg.TREADLE_STAT_SEQ = 0 → Keeps [.regs, .trd] s t)) ∧
  (∀ (s : State) (at2 : Nat), s.trdSees = true → (s.ms 3).found = some at2 → bitOf (s.rd Reg.TREADLE_STAT_PRESENT) 3 = true → Answers
    (.msPhaseCrossing 2) s fun t =>
    t.rd Reg.TREADLE_MS3_MS3_PHASE = unsigned 16 (s.phaseErr (s.angAt at2)) ∧
    t.trd = (s.msTake 3).trd ∧
    KeepsBut [Reg.TREADLE_MS3_MS3_PHASE] [.trd] s t) ∧
  (∀ (s : State) (k : Fin 2) (at2 : Nat) (r : Nat), s.trdSees = true → (s.ms (k.val + 1)).found = some at2 → s.trd.refAng = some r →
    Answers (.msPhaseCrossing ⟨k.val, Nat.lt_of_lt_of_le k.isLt (by decide)⟩) s fun t =>
    (if k = 0 then t.trd.ms1 else t.trd.ms2) = some ((s.angAt at2 + 65536 - r % 65536) % 65536) ∧
    (if k = 0 then t.trd.ms2 else t.trd.ms1) = (if k = 0 then s.trd.ms2 else s.trd.ms1) ∧
    (s.allPresent = true → t.rd (if k = 0 then Reg.TREADLE_PHASE_MS1 else Reg.TREADLE_PHASE_MS2) = (s.angAt at2 + 65536 - r % 65536) % 65536) ∧
    KeepsBut [Reg.TREADLE_PHASE_MS1, Reg.TREADLE_PHASE_MS2] [.trd] s t) ∧
  (∀ (s : State), s.trdSees = true → Answers (.inputPresenceUpdate) s fun t =>
    (∀ k : Fin 4, bitOf (t.rd Reg.TREADLE_STAT_PRESENT) k = s.msPresent k ∧ bitOf (t.rd Reg.TREADLE_STAT_OPEN) k = s.msOpen k) ∧
    (t.allPresent = false → t.rd Reg.TREADLE_STAT_SEQ = 0) ∧
    (t.allPresent = true → t.rd Reg.TREADLE_STAT_SEQ = s.rd Reg.TREADLE_STAT_SEQ) ∧
    KeepsBut [Reg.TREADLE_STAT_PRESENT, Reg.TREADLE_STAT_OPEN, Reg.TREADLE_STAT_SEQ] [.trd] s t) ∧
  (∀ (s : State), s.rd Reg.TREADLE_CTRL_STEP_EN ≠ 0 → (s.trdSt = 1 ∨ s.trdSt = 3) → Answers (.stepCmd) s fun t =>
    t.trd.stepPending = true ∧
    t.od.answer.code = 0 ∧
    Keeps [.trd, .od] s t) ∧
  (∀ (s : State), (s.rd Reg.TREADLE_CTRL_STEP_EN = 0 ∨ s.trdSt = 0 ∨ s.trdSt = 2) → Answers (.stepCmd) s fun t =>
    t.od.answer.code = 0x0B ∧
    Keeps [.od] s t)

/-- AEV_ARM, AEV_FIRE and XTSPOP (R188 to R190, R194, R196, R200): a one-shot unit armed ahead of ANG waits, one armed at or behind it
fires with LATE, a unit that is due fires and turns off, a write of TARGET or PERIOD of an idle unit is stored, and a pop moves the
oldest record into the views. -/
def Obligations.AngleEvents : Prop :=
  (∀ (s : State) (n : Fin 32), s.trdSt ≠ 0 → signed 32 (s.ang + 2 ^ 33 - s.rd (Reg.TREADLE_AEV_TARGET_TARGET.at n)) < 0 → Answers
    (.aevArm n 0 1) s fun t =>
    t.rd (Reg.TREADLE_AEV_CFG_MODE.at n) = 1 ∧
    t.rd (Reg.TREADLE_AEV_CFG_FIRED.at n) = s.rd (Reg.TREADLE_AEV_CFG_FIRED.at n) ∧
    Keeps [.regs] s t) ∧
  (∀ (s : State) (n : Fin 32), s.trdSt ≠ 0 → s.aevMode n = 0 → 0 ≤ signed 32 (s.ang + 2 ^ 33 - s.rd (Reg.TREADLE_AEV_TARGET_TARGET.at
    n)) → Answers (.aevArm n 0 1) s fun t =>
    t.rd (Reg.TREADLE_AEV_CFG_MODE.at n) = 0 ∧
    t.rd (Reg.TREADLE_AEV_CFG_FIRED.at n) = 1 ∧
    t.rd (Reg.TREADLE_AEV_CFG_LATE.at n) = 1 ∧
    t.rd (Reg.TREADLE_AEV_LASTTS_LASTTS.at n) = shortOf s.time.dt ∧
    Keeps [.regs, .trd] s t) ∧
  (∀ (s : State) (n : Fin 32) (v : Word), s.aevMode n = 0 → Answers (.aevArm n 1 v) s fun t =>
    t.rd (Reg.TREADLE_AEV_TARGET_TARGET.at n) = v.toNat ∧
    KeepsBut [Reg.TREADLE_AEV_TARGET_TARGET.at n] [] s t) ∧
  (∀ (s : State) (n : Fin 32) (v : Word), 16 ≤ v.toNat → Answers (.aevArm n 2 v) s fun t =>
    t.rd (Reg.TREADLE_AEV_PERIOD_PERIOD.at n) = v.toNat ∧
    KeepsBut [Reg.TREADLE_AEV_PERIOD_PERIOD.at n] [] s t) ∧
  (∀ (s : State) (n : Fin 32) (v : Word), s.trdSt = 0 → fieldOf v.toNat 4 4 < 8 → Answers (.aevArm n 0 v) s fun t =>
    t.rd (Reg.TREADLE_AEV_CFG_MODE.at n) = v.toNat % 4 ∧
    t.rd (Reg.TREADLE_AEV_CFG_PH.at n) = fieldOf v.toNat 2 2 ∧
    t.rd (Reg.TREADLE_AEV_CFG_TCODE.at n) = fieldOf v.toNat 4 4 ∧
    t.rd (Reg.TREADLE_AEV_CFG_TIDX.at n) = fieldOf v.toNat 8 5 ∧
    t.rd (Reg.TREADLE_AEV_CFG_IRQ.at n) = fieldOf v.toNat 13 1 ∧
    (bitOf v.toNat 16 = true → t.rd (Reg.TREADLE_AEV_CFG_FIRED.at n) = 0) ∧
    Keeps [.regs] s t) ∧
  (∀ (s : State) (n : Fin 32), s.running = true → n.val ∈ s.aevDueList → Answers (.aevFire) s fun t =>
    t.rd (Reg.TREADLE_AEV_CFG_FIRED.at n) = 1 ∧
    t.rd (Reg.TREADLE_AEV_LASTTS_LASTTS.at n) = shortOf s.time.dt ∧
    (s.aevMode n = 1 → t.rd (Reg.TREADLE_AEV_CFG_MODE.at n) = 0) ∧
    (s.aevMode n ≠ 1 → s.aevDiff n ≤ s.aevPeriod n → t.rd (Reg.TREADLE_AEV_TARGET_TARGET.at n) = (s.rd (Reg.TREADLE_AEV_TARGET_TARGET.at n) + s.aevPeriod n) % 2 ^ 32) ∧
    (s.aevMode n ≠ 1 → (s.aevPeriod n : Int) < s.aevDiff n → t.rd (Reg.TREADLE_AEV_CFG_SKIP.at n) = 1) ∧
    (s.rd (Reg.TREADLE_AEV_CFG_IRQ.at n) = 1 → n.val ∈ t.trd.irq)) ∧
  (∀ (s : State) (n : Fin 32), s.running = true → s.aevDueList = [n.val] → s.aevMode n = 1 → s.rd (Reg.TREADLE_AEV_CFG_TCODE.at n) = 0
    → s.rd (Reg.TREADLE_AEV_CFG_IRQ.at n) = 0 → Answers (.aevFire) s fun t =>
    t.rd (Reg.TREADLE_AEV_CFG_MODE.at n) = 0 ∧
    t.rd (Reg.TREADLE_AEV_CFG_FIRED.at n) = 1 ∧
    t.rd (Reg.TREADLE_AEV_LASTTS_LASTTS.at n) = shortOf s.time.dt ∧
    KeepsBut [Reg.TREADLE_AEV_CFG_MODE.at n, Reg.TREADLE_AEV_CFG_FIRED.at n, Reg.TREADLE_AEV_LASTTS_LASTTS.at n] [.trd] s t) ∧
  (∀ (s : State) (n : Fin 32), s.running = true → s.aevDueList = [n.val] → s.aevMode n = 2 → s.rd (Reg.TREADLE_AEV_CFG_TCODE.at n) = 0
    → s.aevDiff n ≤ s.aevPeriod n → Answers (.aevFire) s fun t =>
    t.rd (Reg.TREADLE_AEV_CFG_MODE.at n) = 2 ∧
    t.rd (Reg.TREADLE_AEV_CFG_FIRED.at n) = 1 ∧
    t.rd (Reg.TREADLE_AEV_TARGET_TARGET.at n) = (s.rd (Reg.TREADLE_AEV_TARGET_TARGET.at n) + s.aevPeriod n) % 2 ^ 32 ∧
    t.rd (Reg.TREADLE_AEV_CFG_SKIP.at n) = s.rd (Reg.TREADLE_AEV_CFG_SKIP.at n)) ∧
  (∀ (s : State) (r : XtsRec) (rest : List XtsRec), s.trd.xts = r :: rest → Answers (.xtspop) s fun t =>
    t.trd.xts = rest ∧
    t.rd Reg.TREADLE_XTS_ANG_V = r.ang % 2 ^ 32 ∧
    t.rd Reg.TREADLE_XTS_BSECHI_VALID = 1 ∧
    t.rd Reg.TREADLE_XTS_ANS_V = r.aNs % 2 ^ 32 ∧
    t.rd Reg.TREADLE_XTS_BSECHI_CAND = b2n r.cand ∧
    Keeps [.regs, .trd] s t) ∧
  (∀ (s : State), s.trd.xts = [] → Answers (.xtspop) s fun t =>
    t.rd Reg.TREADLE_XTS_BSECHI_VALID = 0 ∧
    KeepsBut [Reg.TREADLE_XTS_BSECHI_VALID] [] s t)

/-- The domains TDA and TDB and device time (R222 to R226, R232, R235): a writer that holds the domain takes an allowed transition,
sets its RATE in ACQUIRING and LOCKED, restarts its heartbeat timer, steps or loads it; a LOCKED domain without a write for
SERVO_TIMEOUT enters HOLDOVER; device time aligns within one cycle's slew, and a step command sets it to its domain or is refused. -/
def Obligations.TimeDomains : Prop :=
  (∀ (s : State) (x : Fin 2) (v : Fin 4) (w : Writer), s.domWriter x w = true → s.limping = false → domAllows (s.domState x) v = true →
    Answers (.tdxStateWrite x v w) s fun t =>
    t.domState x = v ∧
    t.domState (1 - x) = s.domState (1 - x) ∧
    t.time.tda = s.time.tda ∧
    t.time.tdb = s.time.tdb) ∧
  (∀ (s : State) (x : Fin 2) (rate : BitVec 40) (w : Writer), s.domWriter x w = true → s.limping = false → (s.domState x = 1 ∨
    s.domState x = 2) → Answers (.tdxRateWrite x rate w) s fun t =>
    t.time.rates.get 0 x = rate.toInt ∧
    t.time.rates.get 0 (1 - x) = s.time.rates.get 0 (1 - x) ∧
    t.time.beat.get 0 x = s.cycle ∧
    Keeps [.regs, .time] s t) ∧
  (∀ (s : State) (x : Fin 2) (rate : BitVec 40) (w : Writer), s.domWriter x w = true → s.limping = false → (s.domState x = 0 ∨
    s.domState x = 3) → Answers (.tdxRateWrite x rate w) s fun t =>
    t.time.rates = s.time.rates ∧
    t.time.beat.get 0 x = s.cycle ∧
    Keeps [.time] s t) ∧
  (∀ (s : State) (x : Fin 2) (w : Writer), s.domWriter x w = true → s.limping = false → Answers (.tdxHeartbeat x w) s fun t =>
    t.time.beat.get 0 x = s.cycle ∧
    t.time.tda = s.time.tda ∧
    t.time.dt = s.time.dt ∧
    Keeps [.time] s t) ∧
  (∀ (s : State) (x : Fin 2) (ns : Word) (w : Writer), s.domWriter x w = true → s.limping = false → Answers (.tdxStep x ns w) s fun t =>
    t.dom x = clockAdd (s.dom x) ((signed 32 (s.rd (Reg.TIME_TDX_STEPS_STEPS.at x)) * 1000000000 + ns.toInt) * (unitsPerNs : Int)) ∧
    t.dom (1 - x) = s.dom (1 - x) ∧
    t.time.dt = s.time.dt ∧
    Keeps [.regs, .time] s t) ∧
  (∀ (s : State) (x : Fin 2) (w : Writer), s.domWriter x w = true → s.limping = false → Answers (.tdxSet x w) s fun t =>
    t.dom x = clockOf (s.rd (Reg.TIME_TDX_SETSECLO_V.at x) + 2 ^ 32 * s.rd (Reg.TIME_TDX_SETSECHI_V.at x)) (s.rd (Reg.TIME_TDX_SETNS_V.at x)) ∧
    t.dom (1 - x) = s.dom (1 - x) ∧
    t.time.dt = s.time.dt ∧
    Keeps [.regs, .time] s t) ∧
  (∀ (s : State) (x : Fin 2), s.domState x = 2 → s.limping = false → s.time.beat.get 0 x + s.rd Reg.TIME_CTRL_SERVO_TO * 30000000 ≤
    s.cycle → Answers (.servoTimeout x) s fun t =>
    t.domState x = 3 ∧
    t.rd (if x = 0 then Reg.TIME_STAT_A_TIMEOUT else Reg.TIME_STAT_B_TIMEOUT) = 1 ∧
    t.time.tda = s.time.tda ∧
    t.time.tdb = s.time.tdb) ∧
  (∀ (s : State), s.dtFollows = true → s.limping = false → s.rd Reg.TIME_STAT_ALIGNED = 0 → -(s.slewUnit : Int) < s.alignError →
    s.alignError < s.slewUnit → Answers (.deviceTimeAligned) s fun t =>
    t.time.dt = s.dom s.followed ∧
    t.rd Reg.TIME_STAT_ALIGNED = 1 ∧
    KeepsBut [Reg.TIME_STAT_ALIGNED] [.time] s t) ∧
  (∀ (s : State), s.dtFollows = true → s.limping = false → Answers (.dtStepCmd) s fun t =>
    t.time.dt = s.dom s.followed ∧
    t.rd Reg.TIME_STAT_ALIGNED = 1 ∧
    t.rd Reg.TIME_STAT_DT_STEPPED = 1 ∧
    t.od.answer.code = 0 ∧
    t.time.tda = s.time.tda ∧
    t.time.tdb = s.time.tdb) ∧
  (∀ (s : State), (s.dtFollows = false ∨ s.limping = true) → Answers (.dtStepCmd) s fun t =>
    t.od.answer.code = 0x0B ∧
    Keeps [.od] s t)

/-- SNAP, TPO_ASSERT, TPO_DEASSERT, TPI_CAPTURE, TPI_POP and TPI_RECORD_READ (R254, R256, R261, R263 to R265): one snapshot of the
clocks and ANG, a pulse asserts at its instant with WIDTH latched and deasserts, an edge enters the capture FIFO while it has room, and
a pop or a consuming read takes the oldest record. -/
def Obligations.PulsesAndCaptures : Prop :=
  (∀ (s : State), Answers (.snap) s fun t =>
    t.rd (Reg.TIME_DTV_NS_V.at 0) = clockSub s.time.dt % 2 ^ 32 ∧
    t.rd (Reg.TIME_DTV_NS_V.at 1) = clockSub s.time.tda % 2 ^ 32 ∧
    t.rd (Reg.TIME_DTV_NS_V.at 2) = clockSub s.time.tdb % 2 ^ 32 ∧
    t.rd (Reg.TIME_DTV_SECLO_V.at 0) = clockSec s.time.dt % 2 ^ 32 ∧
    t.rd Reg.TIME_ANGV_ANG = s.ang % 2 ^ 32 ∧
    Keeps [.regs] s t) ∧
  (∀ (s : State) (n : Fin 8) (i : Nat), s.limping = false → s.tpoDue n = some i → (s.tpo n).asserted = false → s.rd
    (Reg.TIME_TPO_CFG_MODE.at n) ≠ 0 → Answers (.tpoAssert n) s fun t =>
    (t.tpo n).asserted = true ∧
    (t.tpo n).width = s.rd (Reg.TIME_TPO_WIDTH_V.at n) ∧
    (t.tpo n).edge = s.cycle ∧
    (s.tpoRegs n = (s.tpo n).cur → (t.tpo n).lastNs = some i) ∧
    (s.tpoRegs n ≠ (s.tpo n).cur → (t.tpo n).cur = s.tpoRegs n) ∧
    (∀ m : Fin 8, m ≠ n → t.tpo m = s.tpo m) ∧
    Keeps [.time] s t) ∧
  (∀ (s : State) (n : Fin 8), (s.tpo n).asserted = true → (s.tpo n).edge + 3 * (s.tpo n).width ≤ s.cycle → Answers (.tpoDeassert n) s
    fun t =>
    (t.tpo n).asserted = false ∧
    (∀ m : Fin 8, m ≠ n → t.tpo m = s.tpo m) ∧
    Keeps [.time] s t) ∧
  (∀ (s : State) (n : Fin 8) (rising : Bool), (s.rd (Reg.TIME_TPI_CFG_EDGE.at n) = 3 ∨ s.rd (Reg.TIME_TPI_CFG_EDGE.at n) = (if rising
    then 1 else 2)) → (s.time.tpiEdge.get 0 n = 0 ∨ s.time.tpiEdge.get 0 n + 60 ≤ s.cycle - s.rd (Reg.TIME_TPI_CFG_FILT.at n) * 30 + 1)
    → (s.tpiFifo n).length < 4 → Answers (.tpiCapture n rising) s fun t =>
    t.tpiFifo n = s.tpiFifo n ++ [s.tpiRecord rising (s.rd (Reg.TIME_TPI_CFG_FILT.at n) * 30)] ∧
    (∀ m : Fin 8, m ≠ n → t.tpiFifo m = s.tpiFifo m) ∧
    Keeps [.time] s t) ∧
  (∀ (s : State) (n : Fin 8) (r : TpiRec) (rest : List TpiRec), s.tpiFifo n = r :: rest → Answers (.tpiPop n) s fun t =>
    t.tpiFifo n = rest ∧
    t.rd (Reg.TIME_TPI_FLAGS_VALID.at n) = 1 ∧
    t.rd (Reg.TIME_TPI_FLAGS_EDGE.at n) = b2n r.rising ∧
    t.rd (Reg.TIME_TPI_ANS_V.at n) = r.aNs % 2 ^ 32 ∧
    t.rd (Reg.TIME_TPIX_ANG_V.at n) = r.ang % 2 ^ 32 ∧
    Keeps [.regs, .time] s t) ∧
  (∀ (s : State) (n : Fin 8) (r : TpiRec) (rest : List TpiRec), s.tpiFifo n = r :: rest → Answers (.tpiRecordRead n) s fun t =>
    t.tpiFifo n = rest ∧
    t.od.answer.value = some (.bytes r.bytes) ∧
    t.od.answer.code = 0 ∧
    Keeps [.time, .od] s t)

/-! ### Fan drive, thermal guard, backup domain and clock (chapters 15 and 16) -/

/-- The fan (R896 to R901): a demand starts it and its end turns it off, the lock in STARTING leads to RUN with the swap of the leads
recorded, a start time-out, a stall and an open phase count an attempt and wait, the end of the wait starts it again or latches LOCKED
after the third, a clear leaves FAULT, and the run of 10 s resets the count. -/
def Obligations.FanStates : Prop :=
  (∀ (s : State), s.limping = false → s.fanSt = 0 → s.fanWanted = true → Answers (.fanDemandChange) s fun t =>
    t.fanSt = 1 ∧
    KeepsBut [Reg.FAN_STAT_STATE] [.marks] s t) ∧
  (∀ (s : State), s.limping = false → (s.fanSt = 1 ∨ s.fanSt = 2) → s.fanWanted = false → Answers (.fanDemandChange) s fun t =>
    t.fanSt = 0 ∧
    t.fan.locked = false ∧
    KeepsBut [Reg.FAN_STAT_STATE] [.fan, .marks] s t) ∧
  (∀ (s : State) (r : Bool), s.fanSt = 1 → Answers (.fanLock r) s fun t =>
    t.fanSt = 2 ∧
    t.fan.locked = true ∧
    t.rd Reg.FAN_STAT_LEADS_SWAPPED = b2n r ∧
    (r = true → t.fan.swapPosted = true)) ∧
  (∀ (s : State) (r : Bool), s.fanSt = 5 → Answers (.fanLock r) s fun t =>
    t.fanSt = 5 ∧
    t.fan.locked = true ∧
    t.rd Reg.FAN_STAT_LEADS_SWAPPED = b2n r ∧
    (r = true → t.fan.swapPosted = true)) ∧
  (∀ (s : State) (c : Instr), ((c = .fanStartTimeout ∧ s.fanSt = 1 ∧ s.passed .fan (2000 * msCycles) = true) ∨ (c = .fanStall ∧ s.fanSt
    = 2) ∨ (c = .fanOpenPhase ∧ (s.fanSt = 1 ∨ s.fanSt = 2))) → Answers (c) s fun t =>
    t.fanSt = 3 ∧
    t.rd Reg.FAN_STAT_ATTEMPTS = min 3 (s.rd Reg.FAN_STAT_ATTEMPTS + 1) ∧
    t.fan.locked = false ∧
    KeepsBut [Reg.FAN_STAT_STATE, Reg.FAN_STAT_ATTEMPTS] [.fan, .marks] s t) ∧
  (∀ (s : State) (c : Instr), s.fanSt = 5 → ((c = .fanStartTimeout ∧ s.fan.locked = false ∧ s.passed .fan (2000 * msCycles) = true) ∨
    (c = .fanStall ∧ s.fan.locked = true) ∨ c = .fanOpenPhase) → s.rd Reg.FAN_STAT_ATTEMPTS < 2 → Answers (c) s fun t =>
    t.fanSt = 5 ∧
    t.rd Reg.FAN_STAT_ATTEMPTS = s.rd Reg.FAN_STAT_ATTEMPTS + 1 ∧
    t.fan.locked = false ∧
    KeepsBut [Reg.FAN_STAT_ATTEMPTS] [.fan] s t) ∧
  (∀ (s : State), s.fanSt = 3 → s.passed .fan (2000 * msCycles) = true → s.rd Reg.FAN_STAT_ATTEMPTS < 3 → Answers (.fanRestartWaitEnd)
    s fun t =>
    t.fanSt = 1 ∧
    KeepsBut [Reg.FAN_STAT_STATE] [.marks] s t) ∧
  (∀ (s : State), s.fanSt = 3 → s.passed .fan (2000 * msCycles) = true → 3 ≤ s.rd Reg.FAN_STAT_ATTEMPTS → Answers (.fanRestartWaitEnd)
    s fun t =>
    t.fanSt = 4 ∧
    t.rd Reg.FAN_STAT_FAULT = 1 ∧
    (t.tk.ring.head?).map (·.code) = some 0x0F01) ∧
  (∀ (s : State), s.fanSt = 2 → s.passed .fan (60000 * msCycles) = true → Answers (.fanAttemptReset) s fun t =>
    t.rd Reg.FAN_STAT_ATTEMPTS = 0 ∧
    KeepsBut [Reg.FAN_STAT_ATTEMPTS] [] s t) ∧
  (∀ (s : State), s.dlDown = false → s.fanSt = 4 → Answers (.fanClear) s fun t =>
    t.fanSt = 0 ∧
    t.rd Reg.FAN_STAT_FAULT = 0 ∧
    t.rd Reg.FAN_STAT_ATTEMPTS = 0 ∧
    KeepsBut [Reg.FAN_STAT_STATE, Reg.FAN_STAT_FAULT, Reg.FAN_STAT_ATTEMPTS] [.fan, .marks] s t) ∧
  (∀ (s : State), s.dlDown = false → s.fanSt ≠ 4 → Answers (.fanClear) s fun t =>
    t.rd Reg.FAN_STAT_ATTEMPTS = 0 ∧
    KeepsBut [Reg.FAN_STAT_ATTEMPTS] [] s t)

/-- The fan's drive and protection (R893, R895, R897, R900, R902, R907, R908): a DUTY write is stored and leaves FALLBACK, FALLBACK is
entered without one, the speed loop writes the clamped output of its law whatever that law is, a short turns the bridge off and the
eighth latches SHORT, an invalid Hall code is flagged, an underspeed is posted and cleared, a stable window is collected, and the
ageing index follows the effort. -/
def Obligations.FanProtection : Prop :=
  (∀ (s : State) (v : Word), s.dlDown = false → (s.fanSt ≠ 5 ∨ s.limping = true) → Answers (.fanDutyWrite v) s fun t =>
    t.rd Reg.FAN_DUTY_DUTY = fieldOf v.toNat 0 10 ∧
    t.rd Reg.FAN_DUTY_IREF = fieldOf v.toNat 16 12 ∧
    KeepsBut [Reg.FAN_DUTY_DUTY, Reg.FAN_DUTY_IREF] [.marks] s t) ∧
  (∀ (s : State) (v : Word), s.dlDown = false → s.limping = false → s.fanSt = 5 → Answers (.fanDutyWrite v) s fun t =>
    t.fanSt = (if s.fan.locked then 2 else 1) ∧
    t.rd Reg.FAN_DUTY_DUTY = fieldOf v.toNat 0 10) ∧
  (∀ (s : State), ((s.limping = false ∧ s.rd Reg.FAN_CFG_EN = 1 ∧ s.passed .fanDuty (100 * msCycles) = true) ∨ (s.limping = true ∧ s.rd
    Reg.FAN_FALLBACK_FALLBACK_DUTY ≠ 0)) → s.fanSt ≤ 2 → Answers (.fallback) s fun t =>
    t.fanSt = 5 ∧
    KeepsBut [Reg.FAN_STAT_STATE] [.marks] s t) ∧
  (∀ (s : State) (rpm : Fin 65536) (cur : Fin 65536) (vhv : Fin 65536), s.rd Reg.PCP_CTRL_RUNNING = 1 → s.rd Reg.SYS_DLSTAT_DOWN = 0 →
    s.rd Reg.FAN_CFG_DRIVE_MODE = 0 → s.fanSt ≠ 5 → Answers (.fanSpeedLoop rpm cur vhv) s fun t =>
    t.rd Reg.FAN_SPEED_RPM = rpm ∧
    t.rd Reg.FAN_SPEED_CURRENT_MA = cur % 2 ^ Reg.FAN_SPEED_CURRENT_MA.w ∧
    t.rd Reg.FAN_VHV_VHV_MV = vhv ∧
    t.rd Reg.FAN_DUTY_DUTY ≤ 1000 ∧
    t.rd Reg.FAN_DUTY_IREF = s.rd Reg.FAN_DUTY_IREF % 4096 ∧
    t.fanSt = s.fanSt) ∧
  (∀ (s : State), (s.fanSt = 1 ∨ s.fanSt = 2 ∨ s.fanSt = 5) → (s.fan.shorts.filter (fun c => decide (s.cycle < c +
    30000000000))).length < 7 → Answers (.fanShort) s fun t =>
    t.rd Reg.FAN_STAT_SHORT_SEEN = 1 ∧
    t.fan.shortWait = true ∧
    t.fan.shorts = s.cycle :: s.fan.shorts.filter (fun c => decide (s.cycle < c + 30000000000)) ∧
    t.fanSt = s.fanSt ∧
    KeepsBut [Reg.FAN_STAT_SHORT_SEEN] [.fan] s t) ∧
  (∀ (s : State), (s.fanSt = 1 ∨ s.fanSt = 2 ∨ s.fanSt = 5) → 7 ≤ (s.fan.shorts.filter (fun c => decide (s.cycle < c +
    30000000000))).length → Answers (.fanShort) s fun t =>
    t.fanSt = 4 ∧
    t.rd Reg.FAN_STAT_FAULT = 2 ∧
    t.rd Reg.FAN_STAT_SHORT_SEEN = 1) ∧
  (∀ (s : State), s.fan.shortWait = true → s.fan.shorts.headD 0 + 100 * msCycles ≤ s.cycle → Answers (.fanShortResume) s fun t =>
    t.fanSt = (if s.fanSt = 2 then 1 else s.fanSt) ∧
    t.fan.shortWait = false ∧
    KeepsBut [Reg.FAN_STAT_STATE] [.fan, .marks] s t) ∧
  (∀ (s : State), s.rd Reg.FAN_CFG_SENSOR_MODE = 1 → s.fanSt = 2 → Answers (.hallFault) s fun t =>
    t.rd Reg.FAN_STAT_HALL_FAULT = 1 ∧
    t.fanSt = 3 ∧
    t.rd Reg.FAN_STAT_ATTEMPTS = min 3 (s.rd Reg.FAN_STAT_ATTEMPTS + 1) ∧
    KeepsBut [Reg.FAN_STAT_HALL_FAULT, Reg.FAN_STAT_STATE, Reg.FAN_STAT_ATTEMPTS] [.fan, .marks] s t) ∧
  (∀ (s : State), s.rd Reg.FAN_CFG_SENSOR_MODE = 2 → Answers (.hallFault) s fun t =>
    t.rd Reg.FAN_STAT_HALL_FAULT = 1 ∧
    t.fanSt = s.fanSt ∧
    KeepsBut [Reg.FAN_STAT_HALL_FAULT] [] s t) ∧
  (∀ (s : State), s.fanSt = 2 → s.fanCfg 0x0A 300 * 11 < s.fanDemand * 10 → s.rd Reg.FAN_STAT_UNDERSPEED = 0 → s.rd Reg.FAN_SPEED_RPM <
    s.fanCfg 0x0A 300 → s.passed .fan (s.fanCfg 0x0B 3000 * msCycles) = true → s.passed .fanFast (s.fanCfg 0x0B 3000 * msCycles) = true
    → Answers (.fanUnderspeed) s fun t =>
    t.rd Reg.FAN_STAT_UNDERSPEED = 1 ∧
    (t.tk.ring.head?).map (·.code) = some 0x0F03 ∧
    KeepsBut [Reg.FAN_STAT_UNDERSPEED, Reg.HOSTPORT_INTSTAT_INTSTAT] [.tk, .jr, .gl, .marks] s t) ∧
  (∀ (s : State), s.passed .fanSlow (1000 * msCycles) = true → Answers (.fanUnderspeedClear) s fun t =>
    t.rd Reg.FAN_STAT_UNDERSPEED = 0 ∧
    KeepsBut [Reg.FAN_STAT_UNDERSPEED] [] s t) ∧
  (∀ (s : State) (e : Fin 65536) (i : Nat), s.baselineTicket = some i → s.fan.valid.length < 7 → s.mem.defer.get 0 321 < 64 →
    s.fanDemand * 100 ≤ 110 * s.pointRpm (s.ticket i).step → Answers (.fanEffortWindow e true) s fun t =>
    t.fan.valid = s.fan.valid ++ [e.val] ∧
    t.fan.pending = s.fan.pending ∧
    Keeps [.fan, .mem] s t) ∧
  (∀ (s : State) (rpm : Fin 65536) (e : Fin 65536), s.rd Reg.PCP_CTRL_RUNNING = 1 → s.baseEmpty = false → s.fanSt = 2 → (s.basePoint
    0).1 ≤ rpm → s.odN 0x5012 2 0 = ageState (s.odN 0x5012 2 0) (s.ageIndex rpm e) (s.odN 0x5012 3 1150) (s.odN 0x5012 4 1300) →
    Answers (.ageingUpdate rpm e true) s fun t =>
    t.odN 0x5012 1 0 = s.ageIndex rpm e % 2 ^ 32 ∧
    t.odN 0x5012 2 0 = s.odN 0x5012 2 0 % 2 ^ 32 ∧
    Keeps [.od] s t) ∧
  (∀ (s : State) (rpm : Fin 65536) (e : Fin 65536), s.rd Reg.PCP_CTRL_RUNNING = 1 → s.baseEmpty = false → s.fanSt = 2 → (s.basePoint
    0).1 ≤ rpm → Answers (.ageingUpdate rpm e true) s fun t =>
    t.odN 0x5012 1 0 = s.ageIndex rpm e % 2 ^ 32 ∧
    t.odN 0x5012 2 0 = ageState (s.odN 0x5012 2 0) (s.ageIndex rpm e) (s.odN 0x5012 3 1150) (s.odN 0x5012 4 1300) ∧
    t.fan = s.fan)

/-- Temperatures and the guard (R911 to R917): a sensor's average and fault are shown, a condition asserts SHDN_N with its cause,
counted and posted, its return ends cooling, cooling starts the 60 s, the acknowledge is held until cooling or releases at once, and
the timer releases. -/
def Obligations.ThermalGuard : Prop :=
  (∀ (s : State) (n : Fin 8) (v : BitVec 16) (f : Nat), s.rd Reg.PCP_CTRL_RUNNING = 1 → s.dlDown = false → f = (if n.val < 4 then
    s.ntcFault n else 0) → Answers (.temperatureUpdate n v) s fun t =>
    t.rd (Reg.THERMAL_T_TEMP.at n) = v.toNat ∧
    t.rd (Reg.THERMAL_T_VALID.at n) = b2n (f == 0) ∧
    t.rd (Reg.THERMAL_T_FAULT.at n) = f ∧
    (f = 0 ∨ f = s.rd (Reg.THERMAL_T_FAULT.at n) → KeepsBut [Reg.THERMAL_T_TEMP.at n, Reg.THERMAL_T_VALID.at n, Reg.THERMAL_T_FAULT.at n] [] s t) ∧
    (f ≠ 0 → f ≠ s.rd (Reg.THERMAL_T_FAULT.at n) → t.lastEvent = some (0x0F06, 0, [n.val, f]))) ∧
  (∀ (s : State) (c : Fin 3), s.pow.mainFeed = true → s.rd Reg.THERMAL_GUARD_ASSERTED = 0 → Answers (.guardAssert c) s fun t =>
    t.rd Reg.THERMAL_GUARD_ASSERTED = 1 ∧
    t.rd Reg.THERMAL_GUARD_CAUSE = c + 1 ∧
    t.rd Reg.THERMAL_GUARD_COOLING = 0 ∧
    t.fan.ackHeld = false ∧
    t.fan.assertCycle = s.cycle ∧
    (t.tk.ring.head?).map (fun e => (e.code, e.data)) = some (0x0F07, [c.val + 1])) ∧
  (∀ (s : State), s.pow.mainFeed = true → s.rd Reg.THERMAL_GUARD_ASSERTED = 1 → Answers (.guardConditionReturn) s fun t =>
    t.rd Reg.THERMAL_GUARD_COOLING = 0 ∧
    t.rd Reg.THERMAL_GUARD_ASSERTED = 1 ∧
    KeepsBut [Reg.THERMAL_GUARD_COOLING] [] s t) ∧
  (∀ (s : State), s.pow.mainFeed = true → s.rd Reg.THERMAL_GUARD_ASSERTED = 1 → s.rd Reg.THERMAL_GUARD_COOLING = 0 → s.fan.ackHeld =
    false → Answers (.guardCooling) s fun t =>
    t.rd Reg.THERMAL_GUARD_COOLING = 1 ∧
    KeepsBut [Reg.THERMAL_GUARD_COOLING] [.marks] s t) ∧
  (∀ (s : State), s.dlDown = false → s.rd Reg.THERMAL_GUARD_ASSERTED = 1 → s.rd Reg.THERMAL_GUARD_COOLING = 0 → Answers (.guardAck) s
    fun t =>
    t.fan.ackHeld = true ∧
    t.rd Reg.THERMAL_GUARD_ASSERTED = 1 ∧
    Keeps [.fan] s t) ∧
  (∀ (s : State) (c : Instr), ((c = .guardAck ∧ s.dlDown = false) ∨ (c = .guardReleaseTimer ∧ s.pow.mainFeed = true ∧ s.passed .cooling
    (60000 * msCycles) = true)) → s.rd Reg.THERMAL_GUARD_ASSERTED = 1 → s.rd Reg.THERMAL_GUARD_COOLING = 1 → Answers (c) s fun t =>
    t.rd Reg.THERMAL_GUARD_ASSERTED = 0 ∧
    t.rd Reg.THERMAL_GUARD_COOLING = 0 ∧
    (t.tk.ring.head?).map (·.code) = some 0x0F08 ∧
    KeepsBut [Reg.THERMAL_GUARD_ASSERTED, Reg.THERMAL_GUARD_COOLING, Reg.HOSTPORT_INTSTAT_INTSTAT] [.fan, .tk, .jr, .gl, .marks] s t)

/-- The backup domain (R932, R937, R940, R941): the rail moves to the battery and back, its loss leaves it unpowered, the battery
voltage sets BAT_LOW with its hysteresis and BAT_ABSENT, the oscillator fails and resumes from its held value, and a read of CNTLO
latches CNTHI. -/
def Obligations.BackupRail : Prop :=
  (∀ (s : State), s.bk.source = .main → Answers (.railSwitchover) s fun t =>
    t.bk.source = .battery ∧
    t.rd Reg.BACKUP_STAT_ON_BATTERY = 1 ∧
    t.bk.cnt = s.bk.cnt ∧
    KeepsBut [Reg.BACKUP_STAT_ON_BATTERY, Reg.BACKUP_STAT_SWITCHOVERS] [.bk] s t) ∧
  (∀ (s : State), s.bk.source = .battery → Answers (.railSwitchBack) s fun t =>
    t.bk.source = .main ∧
    t.rd Reg.BACKUP_STAT_ON_BATTERY = 0 ∧
    t.bk.cnt = s.bk.cnt ∧
    KeepsBut [Reg.BACKUP_STAT_ON_BATTERY] [.bk] s t) ∧
  (∀ (s : State), s.pstate = 1 → Answers (.backupDomainLost) s fun t =>
    t.bk.source = .unpowered ∧
    t.pow.vbat = false ∧
    t.pstate = 0 ∧
    KeepsBut [Reg.SYS_PSTATE_STATE] [.bk, .pow] s t) ∧
  (∀ (s : State) (mv : Fin 8192), s.bk.source = .main → Answers (.vbatMeasurement mv) s fun t =>
    t.rd Reg.BACKUP_VBAT_VBAT_MV = mv ∧
    t.rd Reg.BACKUP_STAT_BAT_ABSENT = b2n (decide (mv.val < 1600)) ∧
    (mv.val < 2200 → t.rd Reg.BACKUP_STAT_BAT_LOW = 1) ∧
    (2300 ≤ mv.val → t.rd Reg.BACKUP_STAT_BAT_LOW = 0) ∧
    (2200 ≤ mv.val → mv.val < 2300 → s.rd Reg.BACKUP_STAT_BAT_LOW ≤ 1 → t.rd Reg.BACKUP_STAT_BAT_LOW = s.rd Reg.BACKUP_STAT_BAT_LOW) ∧
    t.bk = s.bk) ∧
  (∀ (s : State), Answers (.oscFail) s fun t =>
    t.bk.stopped = true ∧
    t.rd Reg.BACKUP_STAT_OSC_FAIL = 1 ∧
    t.rd Reg.BACKUP_STAT_RTC_VALID = 0 ∧
    t.bk.cnt = s.bk.cnt ∧
    KeepsBut [Reg.BACKUP_STAT_OSC_FAIL, Reg.BACKUP_STAT_RTC_VALID] [.bk] s t) ∧
  (∀ (s : State), s.bk.stopped = true → Answers (.oscResume) s fun t =>
    t.bk.stopped = false ∧
    t.bk.cnt = s.bk.cnt) ∧
  (∀ (s : State), s.dlDown = false → Answers (.cntloRead) s fun t =>
    t.readData = BitVec.ofNat 32 s.bk.cnt ∧
    t.rd Reg.RTC_CNTHI_V = s.bk.cnt / 2 ^ 32 % 2 ^ 16 ∧
    KeepsBut [Reg.RTC_CNTHI_V] [.readData] s t)

/-- The clock (R938, R942, R945 to R954): a set waits for the next edge and loads there, the edge that wraps, that TRIM changes, that
reaches the alarm or the periodic target has its effect, an alarm is disarmed and armed, PERIOD is stored and places its target, the
local offset and summer time keep their interval, and the clock follows device time. -/
def Obligations.RealTimeClock : Prop :=
  (∀ (s : State), s.dlDown = false → Answers (.rtcSet) s fun t =>
    t.bk.setPending = true ∧
    t.bk.cnt = s.bk.cnt ∧
    Keeps [.bk] s t) ∧
  (∀ (s : State), s.bk.setPending = true → s.bk.stopped = false → s.bk.source ≠ .unpowered → s.rd Reg.RTC_ALARMHI_ARMED = 0 → s.setVal
    < 2 ^ 48 → Answers (.rtcSetEdge) s fun t =>
    t.bk.cnt = s.setVal ∧
    t.bk.setPending = false ∧
    t.rd Reg.BACKUP_STAT_RTC_VALID = 1 ∧
    t.rd Reg.BACKUP_STAT_OSC_FAIL = 0 ∧
    t.rd Reg.BACKUP_STAT_BK_LOST = 0 ∧
    t.rd Reg.BACKUP_STAT_WRAP = 0) ∧
  (∀ (s : State), s.bk.setPending = false → s.bk.stopped = false → s.bk.source ≠ .unpowered → 2 ^ 48 ≤ s.bk.cnt + s.rtcDelta → Answers
    (.counterWrap) s fun t =>
    t.bk.cnt = (s.bk.cnt + s.rtcDelta) % 2 ^ 48 ∧
    t.rd Reg.BACKUP_STAT_WRAP = 1) ∧
  (∀ (s : State), s.bk.setPending = false → s.bk.stopped = false → s.bk.source ≠ .unpowered → s.rtcDelta ≠ 1 → Answers
    (.trimCorrection) s fun t =>
    t.bk.cnt = (s.bk.cnt + (if 0 < s.bk.trim then 2 else 0)) % 2 ^ 48) ∧
  (∀ (s : State), s.rd Reg.RTC_ALARMHI_ARMED = 1 → s.bk.setPending = false → s.bk.stopped = false → s.bk.source ≠ .unpowered →
    s.alarmVal ≤ s.rtcNext → s.pstate = 4 → Answers (.alarmFire) s fun t =>
    t.rd Reg.RTC_ALARMHI_ARMED = 0 ∧
    t.rd Reg.BACKUP_STAT_ALARM_FIRED = 1 ∧
    bitOf t.bk.irq 0 = true) ∧
  (∀ (s : State) (p : Nat), s.bk.setPending = false → s.bk.stopped = false → s.bk.source ≠ .unpowered → s.rd Reg.RTC_ALARMHI_ARMED = 0
    → s.bk.target = some p → reached48 s.rtcNext p = true → Answers (.periodicFire) s fun t =>
    t.rd Reg.BACKUP_STAT_PER_FIRED = 1 ∧
    t.bk.target = some ((p + s.rd Reg.RTC_PERIOD_PERIOD) % 2 ^ 48) ∧
    t.bk.cnt = s.rtcNext) ∧
  (∀ (s : State) (v : Word), s.dlDown = false → Answers (.alarmDisarm v) s fun t =>
    t.rd Reg.RTC_ALARMLO_V = v.toNat ∧
    t.rd Reg.RTC_ALARMHI_ARMED = 0 ∧
    KeepsBut [Reg.RTC_ALARMLO_V, Reg.RTC_ALARMHI_ARMED] [] s t) ∧
  (∀ (s : State) (v : BitVec 16), s.dlDown = false → Answers (.alarmArm v) s fun t =>
    t.rd Reg.RTC_ALARMHI_V = v.toNat ∧
    t.rd Reg.RTC_ALARMHI_ARMED = 1 ∧
    KeepsBut [Reg.RTC_ALARMHI_V, Reg.RTC_ALARMHI_ARMED] [] s t) ∧
  (∀ (s : State) (v : Word), s.dlDown = false → 32 ≤ v.toNat → Answers (.periodWrite v) s fun t =>
    t.rd Reg.RTC_PERIOD_PERIOD = v.toNat ∧
    t.bk.target = some ((s.bk.cnt + v.toNat) % 2 ^ 48) ∧
    KeepsBut [Reg.RTC_PERIOD_PERIOD] [.bk] s t) ∧
  (∀ (s : State) (v : Word), s.dlDown = false → 1 ≤ v.toNat → v.toNat < 32 → Answers (.periodWrite v) s fun t =>
    t = s) ∧
  (∀ (s : State) (v : BitVec 31), s.dlDown = false → -64800 ≤ v.toInt → v.toInt ≤ 64800 → Answers (.localOffsetWrite v) s fun t =>
    t.rd Reg.RTC_LOCAL_OFFSET = unsigned 31 v.toInt ∧
    t.od.answer.code = 0 ∧
    KeepsBut [Reg.RTC_LOCAL_OFFSET] [.od] s t) ∧
  (∀ (s : State) (on : Bool), s.dlDown = false → s.rd Reg.RTC_LOCAL_DST = b2n (!on) → -64800 ≤ signed 31 (s.rd Reg.RTC_LOCAL_OFFSET) +
    (if on then 3600 else -3600) → signed 31 (s.rd Reg.RTC_LOCAL_OFFSET) + (if on then 3600 else -3600) ≤ 64800 → Answers (if on then
    .summerOn else .summerOff) s fun t =>
    t.rd Reg.RTC_LOCAL_DST = b2n on ∧
    t.rd Reg.RTC_LOCAL_OFFSET = unsigned 31 (signed 31 (s.rd Reg.RTC_LOCAL_OFFSET) + (if on then 3600 else -3600)) ∧
    t.od.answer.code = 0 ∧
    KeepsBut [Reg.RTC_LOCAL_DST, Reg.RTC_LOCAL_OFFSET] [.od] s t) ∧
  (∀ (s : State) (v : BitVec 10), s.dlDown = false → Answers (.trimWrite v) s fun t =>
    t.rd Reg.RTC_TRIM_TRIM = v.toNat ∧
    KeepsBut [Reg.RTC_TRIM_TRIM] [] s t) ∧
  (∀ (s : State) (v : Word), s.dlDown = false → v.toNat = 0 → Answers (.periodWrite v) s fun t =>
    t.rd Reg.RTC_PERIOD_PERIOD = 0 ∧
    t.bk.target = none ∧
    KeepsBut [Reg.RTC_PERIOD_PERIOD] [.bk] s t) ∧
  (∀ (s : State) (v : BitVec 31), s.dlDown = false → (v.toInt < -64800 ∨ 64800 < v.toInt) → Answers (.localOffsetWrite v) s fun t =>
    t.od.answer.code = 0x09 ∧
    Keeps [.od] s t) ∧
  (∀ (s : State) (on : Bool), s.dlDown = false → s.rd Reg.RTC_LOCAL_DST = b2n on → Answers (if on then .summerOn else .summerOff) s fun
    t =>
    t.rd Reg.BACKUP_STAT_SUMMER_REJECT = 1 ∧
    t.od.answer.code = 0x0B ∧
    KeepsBut [Reg.BACKUP_STAT_SUMMER_REJECT] [.od] s t) ∧
  (∀ (s : State), s.weaverRuns = true → s.pow.weaverHalted = false → s.dlDown = false → s.syncReady = true → s.odN 0x8003 3 1 = 1 →
    s.odN 0x8003 4 33 < ((s.bk.cnt : Int) - s.dtTicks).natAbs → Answers (.rtcSync) s fun t =>
    t.bk.setPending = true ∧
    t.setVal = (s.dtTicks + 1) % 2 ^ 48 ∧
    Keeps [.regs, .bk] s t) ∧
  (∀ (s : State), s.weaverRuns = true → s.pow.weaverHalted = false → (s.syncReady = false ∨ s.odN 0x8003 3 1 ≠ 1 ∨ ((s.bk.cnt : Int) -
    s.dtTicks).natAbs ≤ s.odN 0x8003 4 33) → Answers (.rtcSync) s fun t =>
    t.bk = s.measureOn.bk ∧
    t.bk.setPending = s.bk.setPending ∧
    Keeps [.bk] s t) ∧
  (∀ (s : State) (c : Nat) (d : Nat), s.weaverRuns = true → s.pow.weaverHalted = false → s.dlDown = false → s.trims = true →
    s.bk.measure = some (c, d) → 134217728 ≤ s.dtTicks - d → Answers (.autoTrim) s fun t =>
    t.rd Reg.RTC_TRIM_TRIM = unsigned 10 (clampInt (-512) 511 (signed 10 (s.rd Reg.RTC_TRIM_TRIM) - roundDiv (((((s.bk.cnt + 2 ^ 48 - c) % 2 ^ 48 : Nat) : Int) - ((s.dtTicks - d : Nat) : Int)) * 10000000000) (((s.dtTicks - d : Nat) : Int) * 4768))) ∧
    t.odN 0x8003 5 0 = unsigned 32 (roundDiv (((((s.bk.cnt + 2 ^ 48 - c) % 2 ^ 48 : Nat) : Int) - ((s.dtTicks - d : Nat) : Int)) * 1000000000) ((s.dtTicks - d : Nat) : Int)) ∧
    t.bk.measure = some (s.bk.cnt, s.dtTicks) ∧
    KeepsBut [Reg.RTC_TRIM_TRIM] [.od, .bk] s t) ∧
  (∀ (s : State), s.weaverRuns = true → s.pow.weaverHalted = false → s.trims = true → s.bk.measure = none → Answers (.autoTrim) s fun t
    =>
    t.bk.measure = some (s.bk.cnt, s.dtTicks) ∧
    Keeps [.bk] s t)

/-! ### Converter groups, phases, the ADC and the PCP (chapter 14) -/

/-- The group commands and the ends of the states of Table 14-2 (R864, R865, R866, R867, R874): a group starts where every condition
holds and not before, a stop ramps it down, a park turns its outputs off at once, a clear releases its fault, the precheck drops phases
with open sense and faults without one, the soft start ends in RUN, the ramp ends in DISABLED or in the fault that began it, and a
retry passes through PRECHECK. -/
def Obligations.GroupStates : Prop :=
  (∀ (s : State) (g : Fin 4) (c : Instr), (c = .groupStart g ∨ c = .startConditionsMet g) → s.grState g = 0 → s.waitReason g = 0 →
    Answers (c) s fun t =>
    t.grState g = 1 ∧
    t.rd (Reg.PWM_G_STAT_ACTIVE.at g) = s.rd (Reg.PWM_G_CFG_PHASES.at g) % 256 ∧
    bitOf (t.rd Reg.PWM_STAT_PARKED) g = false ∧
    (t.gr g).order = (List.range 8).filter (fun n => bitOf (s.rd (Reg.PWM_G_CFG_PHASES.at g)) n) ∧
    KeepsBut (grFields g) [.pwm] s t) ∧
  (∀ (s : State) (g : Fin 4) (c : Instr), (c = .groupStart g ∨ c = .startConditionsMet g) → (s.grState g ≠ 0 ∨ s.waitReason g ≠ 0) →
    Answers (c) s fun t =>
    t = s) ∧
  (∀ (s : State) (g : Fin 4), (s.grState g = 2 ∨ s.grState g = 3) → Answers (.groupStop g) s fun t =>
    t.grState g = 4 ∧
    (t.gr g).refStart = (s.gr g).ref ∧
    (t.gr g).rampCycle = s.cycle ∧
    KeepsBut [Reg.PWM_G_STAT_STATE.at g] [.pwm] s t) ∧
  (∀ (s : State) (g : Fin 4), s.grState g ≠ 2 → s.grState g ≠ 3 → Answers (.groupStop g) s fun t =>
    t = s) ∧
  (∀ (s : State) (g : Fin 4), s.grState g ≠ 0 → Answers (.groupPark g) s fun t =>
    t.grState g = 0 ∧
    t.grFault g = s.grFault g ∧
    t.rd (Reg.PWM_G_STAT_ACTIVE.at g) = 0 ∧
    bitOf (t.rd Reg.PWM_STAT_PARKED) g = true ∧
    (∀ n : Fin 8, n.val ∈ s.activePhases g → t.rd (Reg.PWM_PH_STAT_STATE.at n) = 0) ∧
    KeepsBut (grFields g) [.pwm] s t) ∧
  (∀ (s : State) (g : Fin 4), (s.grFault g ≠ 9 ∨ s.pcpRuns = true) → Answers (.groupClear g) s fun t =>
    t.grFault g = 0 ∧
    t.grState g = (if 5 ≤ s.grState g then 0 else s.grState g) ∧
    KeepsBut [Reg.PWM_G_STAT_FAULT.at g, Reg.PWM_G_STAT_STATE.at g] [] s t) ∧
  (∀ (s : State) (g : Fin 4), s.grFault g = 9 → s.pcpRuns = false → Answers (.groupClear g) s fun t =>
    t = s) ∧
  (∀ (s : State) (g : Fin 4) (vout : Fin 16384) (vin : Fin 16384) (isen : List Int), s.grState g = 1 → 192000 ≤ s.grAge g → s.gateFault
    g = false → (s.activePhases g).any (fun n => !openSense (s.isenDiff n) (isen.getD n 0)) = true → Answers (.precheckDone g vout vin
    isen) s fun t =>
    t.grState g = 2 ∧
    (t.gr g).order = (s.activePhases g).filter (fun n => !openSense (s.isenDiff n) (isen.getD n 0)) ∧
    (∀ n : Fin 8, n.val ∈ s.activePhases g → openSense (s.isenDiff n) (isen.getD n 0) = true → t.rd (Reg.PWM_PH_STAT_STATE.at n) = 2) ∧
    (t.gr g).vout = voltMv vout (s.grCfg 0x4010 g 0x15 65536) ∧
    (t.gr g).vin = voltMv vin (s.grCfg 0x4010 g 0x16 65536) ∧
    (t.gr g).rampCycle = s.cycle ∧
    t.rd (Reg.PWM_G_STAT_SB_INHIBIT.at g) = b2n (decide (s.grKind g ≠ 2) && !s.grAngle g) ∧
    KeepsBut (Reg.HOSTPORT_INTSTAT_INTSTAT :: grFields g) [.pwm, .tk, .jr, .gl, .marks] s t) ∧
  (∀ (s : State) (g : Fin 4) (vout : Fin 16384) (vin : Fin 16384) (isen : List Int), s.grState g = 1 → 192000 ≤ s.grAge g → s.gateFault
    g = false → (∀ n : Fin 8, n.val ∈ s.activePhases g → openSense (s.isenDiff n) (isen.getD n 0) = true) → Answers (.precheckDone g
    vout vin isen) s fun t =>
    t.grState g = 5 ∧
    t.grFault g = 11 ∧
    (∀ n : Fin 8, n.val ∈ s.activePhases g → t.rd (Reg.PWM_PH_STAT_STATE.at n) = 2) ∧
    (t.tk.ring.head?).map (·.code) = some 0x0E01 ∧
    KeepsBut (Reg.HOSTPORT_INTSTAT_INTSTAT :: grFields g) [.pwm, .tk, .jr, .gl, .threads, .marks] s t) ∧
  (∀ (s : State) (g : Fin 4) (vout : Fin 16384) (vin : Fin 16384) (isen : List Int), s.grState g = 1 → 192000 ≤ s.grAge g → s.gateFault
    g = true → Answers (.precheckDone g vout vin isen) s fun t =>
    FaultedWith (s.setGr g { s.gr g with vout := voltMv vout (s.grCfg 0x4010 g 0x15 65536) }) t g 6) ∧
  (∀ (s : State) (g : Fin 4), s.grState g = 2 → s.grCfg 0x4010 g 0x0B 20 * 3000000 ≤ s.grAge g → Answers (.softstartDone g) s fun t =>
    t.grState g = 3 ∧
    KeepsBut [Reg.PWM_G_STAT_STATE.at g] [] s t) ∧
  (∀ (s : State) (g : Fin 4), s.grState g = 4 → 4294967296 ≤ s.rampShare g → (s.gr g).seqFault = false → Answers (.rampdownDone g) s
    fun t =>
    t.grState g = 0 ∧
    t.rd (Reg.PWM_G_STAT_ACTIVE.at g) = 0 ∧
    KeepsBut (grFields g) [.pwm] s t) ∧
  (∀ (s : State) (g : Fin 4), s.grState g = 4 → 4294967296 ≤ s.rampShare g → (s.gr g).seqFault = true → Answers (.rampdownDone g) s fun
    t =>
    FaultedWith s t g 8) ∧
  (∀ (s : State) (g : Fin 4), s.grState g = 6 → s.grCfg 0x4010 g 0x1D 1000 * 3000000 ≤ s.grAge g → Answers (.groupRetry g) s fun t =>
    t.grState g = 1 ∧
    t.rd (Reg.PWM_G_STAT_ACTIVE.at g) = s.rd (Reg.PWM_G_CFG_PHASES.at g) % 256 ∧
    (t.tk.ring.head?).map (fun e => (e.code, e.src, e.data)) = some (0x0E03, g.val, [(s.gr g).retries]) ∧
    KeepsBut (Reg.HOSTPORT_INTSTAT_INTSTAT :: grFields g) [.pwm, .tk, .jr, .gl, .marks] s t)

/-- LOOP_STEP (R854, R861, R863, R867, R872): a group that does not switch is left as it is; without the PCP no DUTY is written and the
16th such step faults with PCP_HALT; an invalid result holds every DUTY until SENSE; with valid results the group's measures are taken
and every active phase gets the duty that the PI law of the model's configuration gives, whatever that law is (the law's scale is the
model's choice, log entry 50), and 0 while the pre-bias inhibits it. -/
def Obligations.ControlLoop : Prop :=
  (∀ (s : State) (g : Fin 4), s.grSwitching g = false → Answers (.loopStep g) s fun t =>
    t = s) ∧
  (∀ (s : State) (g : Fin 4), s.grSwitching g = true → s.pcpRuns = false → (s.gr g).noDuty < 15 → Answers (.loopStep g) s fun t =>
    (t.gr g).noDuty = (s.gr g).noDuty + 1 ∧
    t.thread 34 = s.wakePcp.thread 34 ∧
    Keeps [.pwm, .threads] s t) ∧
  (∀ (s : State) (g : Fin 4), s.grSwitching g = true → s.pcpRuns = false → 15 ≤ (s.gr g).noDuty → Answers (.loopStep g) s fun t =>
    FaultedWith s t g 9) ∧
  (∀ (s : State) (g : Fin 4), s.grSwitching g = true → s.pcpRuns = true → (s.seqResult g (8 + s.grCfg 0x4010 g 0x13 0) = none ∨
    s.seqResult g (8 + s.grCfg 0x4010 g 0x14 1) = none ∨ (s.activePhases g).any (fun n => (s.seqResult g n).isNone) = true) → (s.gr
    g).invalid + 1 < s.grCfg 0x4020 g 9 4 → Answers (.loopStep g) s fun t =>
    (t.gr g).invalid = (s.gr g).invalid + 1 ∧
    (t.gr g).noDuty = 0 ∧
    Keeps [.pwm, .threads] s t) ∧
  (∀ (s : State) (g : Fin 4), s.grSwitching g = true → s.pcpRuns = true → (s.seqResult g (8 + s.grCfg 0x4010 g 0x13 0) = none ∨
    s.seqResult g (8 + s.grCfg 0x4010 g 0x14 1) = none ∨ (s.activePhases g).any (fun n => (s.seqResult g n).isNone) = true) → s.grCfg
    0x4020 g 9 4 ≤ (s.gr g).invalid + 1 → Answers (.loopStep g) s fun t =>
    FaultedWith s t g 7) ∧
  (∀ (s : State) (g : Fin 4) (co : Int) (ci : Int), s.grSwitching g = true → s.pcpRuns = true → s.seqResult g (8 + s.grCfg 0x4010 g
    0x13 0) = some co → s.seqResult g (8 + s.grCfg 0x4010 g 0x14 1) = some ci → (s.activePhases g).any (fun n => (s.seqResult g
    n).isNone) = false → Answers (.loopStep g) s fun t =>
    (t.gr g).noDuty = 0 ∧
    (t.gr g).invalid = 0 ∧
    (t.gr g).vout = voltMv co.toNat (s.grCfg 0x4010 g 0x15 65536) ∧
    (t.gr g).vin = voltMv ci.toNat (s.grCfg 0x4010 g 0x16 65536) ∧
    (s.grKind g ≠ 2 → s.grAngle g = false → s.grState g = 3 → (t.gr g).ref = s.grCfg 0x4018 g 2 0) ∧
    (t.gr g).integ = (Config.loopLaw (s.grCfg 0x4010 g 0x11 3277) (s.grCfg 0x4010 g 0x12 131) ((t.gr g).ref - (t.gr g).vout) (s.gr g).integ (s.rd (Reg.PWM_G_PERIOD_PERIOD.at g))).1 ∧
    (∀ n : Fin 8, n.val ∈ s.activePhases g → t.rd (Reg.PWM_PH_DUTY_DUTY.at n) = if s.on (Reg.PWM_G_STAT_SB_INHIBIT.at g) && decide ((t.gr g).ref < (t.gr g).vout) then 0 else min (Config.loopLaw (s.grCfg 0x4010 g 0x11 3277) (s.grCfg 0x4010 g 0x12 131) ((t.gr g).ref - (t.gr g).vout) (s.gr g).integ (s.rd (Reg.PWM_G_PERIOD_PERIOD.at g))).2.toNat (2 ^ 24 - 1)) ∧
    KeepsBut (grFields g ++ (List.range 8).flatMap (fun n => [Reg.PWM_PH_DUTY_DUTY.at n, Reg.PWM_PH_TRIM_TRIM.at n]) ++ [Reg.HOSTPORT_INTSTAT_INTSTAT]) [.pwm, .threads, .tk, .jr, .gl, .marks] s t)

/-- The phases (R840 to R844, R847, R857 to R859): a sync event takes effect for its source and advances its target, a rotation moves
the last phase to the front, a DUTY write loads the clamped duty of the shadow that counts, a trip shows in TRIP_SEEN and truncates the
period or faults its group or every group, a gate driver fault faults its group and its end clears the level, and a zero crossing turns
the synchronous switch off. -/
def Obligations.PhasesAndTrips : Prop :=
  (∀ (s : State) (g : Fin 4), s.rd (Reg.PWM_G_CFG_SYNC_SRC.at g) = 1 → (s.gr g).syncDue = true → Answers (.pwmSyncEvent g) s fun t =>
    t.rd (Reg.PWM_G_STAT_SYNCED.at g) = b2n (decide ((s.syncError g).natAbs ≤ 16)) ∧
    (t.gr g).syncErr = s.syncError g ∧
    (t.gr g).syncDue = false ∧
    KeepsBut [Reg.PWM_G_STAT_SYNCED.at g] [.pwm] s t) ∧
  (∀ (s : State) (g : Fin 4), s.rd (Reg.PWM_G_CFG_SYNC_SRC.at g) = 2 → 0 ≤ signed 32 (shortOf s.time.dt + 2 ^ 32 - s.rd
    (Reg.PWM_G_SYNC_V.at g)) → Answers (.pwmSyncEvent g) s fun t =>
    t.rd (Reg.PWM_G_SYNC_V.at g) = (s.rd (Reg.PWM_G_SYNC_V.at g) + s.rd (Reg.PWM_G_SYNCPER_V.at g)) % 2 ^ 32 ∧
    (t.gr g).syncErr = s.syncError g ∧
    t.rd (Reg.PWM_G_STAT_SYNCED.at g) = b2n (decide ((s.syncError g).natAbs ≤ 16)) ∧
    KeepsBut [Reg.PWM_G_STAT_SYNCED.at g, Reg.PWM_G_SYNC_V.at g] [.pwm] s t) ∧
  (∀ (s : State) (g : Fin 4), s.rd (Reg.PWM_G_CFG_ROT_EN.at g) ≠ 0 → s.grSwitching g = true → s.rd (Reg.PWM_G_CFG_ROT_N.at g) + 1 ≤
    (s.gr g).periods → Answers (.phaseRotation g) s fun t =>
    (t.gr g).rotate = true ∧
    (t.gr g).periods = 0 ∧
    (t.gr g).order = (s.gr g).order ∧
    (∀ h : Fin 4, h ≠ g → t.gr h = s.gr h) ∧
    Keeps [.pwm] s t) ∧
  (∀ (s : State) (g : Fin 4), (s.rd (Reg.PWM_G_CFG_ROT_EN.at g) = 0 ∨ s.grSwitching g = false) → Answers (.phaseRotation g) s fun t =>
    t = s) ∧
  (∀ (s : State) (n : Fin 8) (g : Fin 4) (v : BitVec 24), s.groupOf n = some g → Answers (.dutyWrite n v) s fun t =>
    t.rd (Reg.PWM_PH_DUTY_DUTY.at n) = v.toNat ∧
    (t.ph n) = (s.ph n).written s.cycle v.toNat ∧
    (t.ph n).loaded = (s.ph n).loaded ∧
    (t.gr g).noDuty = 0 ∧
    KeepsBut [Reg.PWM_PH_DUTY_DUTY.at n] [.pwm] s t) ∧
  (∀ (s : State) (n : Fin 8) (v : BitVec 24), s.groupOf n = none → Answers (.dutyWrite n v) s fun t =>
    t.rd (Reg.PWM_PH_DUTY_DUTY.at n) = v.toNat ∧
    (t.ph n) = (s.ph n).written s.cycle v.toNat ∧
    KeepsBut [Reg.PWM_PH_DUTY_DUTY.at n] [.pwm] s t) ∧
  (∀ (s : State) (n : Fin 8) (v : BitVec 24) (later : Nat), s.cycle + 60 ≤ later → Answers (.dutyWrite n v) s fun t =>
    (t.ph n).shadow later = v.toNat) ∧
  (∀ (s : State) (k : Fin 8), Answers (.tripLineEdge k) s fun t =>
    bitOf (t.rd Reg.PWM_STAT_TRIP_SEEN) k = true ∧
    t.od = s.od ∧
    t.mem = s.mem) ∧
  (∀ (s : State) (k : Fin 8) (n : Fin 8) (g : Fin 4), fieldOf (s.rd Reg.PWM_TRIPACT_ACT) (2 * k.val) 2 = 0 → fieldOf (s.rd
    Reg.PWM_TRIPSEL_SEL) (4 * k.val) 4 % 8 = n → s.groupOf n = some g → s.mainOn n = true → (if (s.ph n).truncated then (s.ph n).cbcRun
    else (s.ph n).cbcRun + 1) < s.grCfg 0x4020 g 5 8 → Answers (.tripLineEdge k) s fun t =>
    t.rd (Reg.PWM_PH_STAT_CBC.at n) = 1 ∧
    (t.ph n).truncated = true ∧
    t.mainOn n = false ∧
    (t.ph n).cbcRun = (if (s.ph n).truncated then (s.ph n).cbcRun else (s.ph n).cbcRun + 1) ∧
    KeepsBut [Reg.PWM_STAT_TRIP_SEEN, Reg.PWM_PH_STAT_CBC.at n] [.pwm, .threads] s t) ∧
  (∀ (s : State) (k : Fin 8) (n : Fin 8) (g : Fin 4), fieldOf (s.rd Reg.PWM_TRIPACT_ACT) (2 * k.val) 2 = 0 → fieldOf (s.rd
    Reg.PWM_TRIPSEL_SEL) (4 * k.val) 4 % 8 = n → s.groupOf n = some g → s.mainOn n = true → s.grCfg 0x4020 g 5 8 ≤ (if (s.ph
    n).truncated then (s.ph n).cbcRun else (s.ph n).cbcRun + 1) → Answers (.tripLineEdge k) s fun t =>
    FaultedWith s t g 3) ∧
  (∀ (s : State) (k : Fin 8) (n : Fin 8), fieldOf (s.rd Reg.PWM_TRIPACT_ACT) (2 * k.val) 2 = 0 → fieldOf (s.rd Reg.PWM_TRIPSEL_SEL) (4
    * k.val) 4 % 8 = n → s.mainOn n = false → Answers (.tripLineEdge k) s fun t =>
    bitOf (t.rd Reg.PWM_STAT_TRIP_SEEN) k = true ∧
    KeepsBut [Reg.PWM_STAT_TRIP_SEEN] [] s t) ∧
  (∀ (s : State) (k : Fin 8) (n : Fin 8) (g : Fin 4), fieldOf (s.rd Reg.PWM_TRIPACT_ACT) (2 * k.val) 2 = 1 → fieldOf (s.rd
    Reg.PWM_TRIPSEL_SEL) (4 * k.val) 4 % 8 = n → s.groupOf n = some g → s.grState g ≠ 0 → s.grState g ≠ 5 → Answers (.tripLineEdge k) s
    fun t =>
    FaultedWith s t g 10) ∧
  (∀ (s : State) (k : Fin 8), fieldOf (s.rd Reg.PWM_TRIPACT_ACT) (2 * k.val) 2 = 2 → Answers (.tripLineEdge k) s fun t =>
    (∀ g : Fin 4, s.grState g ≠ 0 → s.grState g ≠ 5 → t.grState g = 5 ∧ t.grFault g = 10)) ∧
  (∀ (s : State) (n : Fin 8) (g : Fin 4), s.groupOf n = some g → s.grState g ≠ 0 → s.grState g ≠ 5 → Answers (.gateDriverFault n true)
    s fun t =>
    bitOf (t.rd Reg.PWM_STAT_GDFLT) n = true ∧
    bitOf (t.rd Reg.PWM_STAT_GDFLT_SEEN) n = true ∧
    FaultedWith s t g 6) ∧
  (∀ (s : State) (n : Fin 8), s.groupOf n = none → Answers (.gateDriverFault n true) s fun t =>
    bitOf (t.rd Reg.PWM_STAT_GDFLT) n = true ∧
    bitOf (t.rd Reg.PWM_STAT_GDFLT_SEEN) n = true ∧
    KeepsBut [Reg.PWM_STAT_GDFLT, Reg.PWM_STAT_GDFLT_SEEN] [] s t) ∧
  (∀ (s : State) (n : Fin 8), Answers (.gateDriverFault n false) s fun t =>
    bitOf (t.rd Reg.PWM_STAT_GDFLT) n = false ∧
    KeepsBut [Reg.PWM_STAT_GDFLT] [] s t) ∧
  (∀ (s : State) (n : Fin 8) (g : Fin 4), s.groupOf n = some g → s.rd (Reg.PWM_G_STAT_DE_ACTIVE.at g) ≠ 0 → bitOf (s.rd
    (Reg.PWM_G_STAT_ACTIVE.at g)) n = true → Answers (.zcdEdge n) s fun t =>
    (t.ph n).syncOff = true ∧
    (∀ m : Fin 8, m ≠ n → t.ph m = s.ph m) ∧
    (∀ h : Fin 4, t.gr h = s.gr h) ∧
    Keeps [.pwm] s t) ∧
  (∀ (s : State) (n : Fin 8), s.groupOf n = none → Answers (.zcdEdge n) s fun t =>
    t = s)

/-- The ADC and the wake of the PCP (R850 to R855, R862): a trigger of the source that TRIG names starts a sequence and one during a
conversion is dropped with OVR, a time trigger advances its target, the end of a sequence gives each listed channel its result or shows
it invalid, the calibration offset is the mean of the conversions of its core, and PCP.WAKE wakes the PCP. -/
def Obligations.SequencesAndCalibration : Prop :=
  (∀ (s : State) (k : Fin 8) (c : Instr), ((c = .seqGo k ∧ s.rd (Reg.ADC_SEQ_CFG_TRIG.at k) = 1) ∨ (c = .seqPwmTrigger k ∧ s.rd
    (Reg.ADC_SEQ_CFG_TRIG.at k) = 2)) → bitOf s.pwm.converting k = false → Answers (c) s fun t =>
    bitOf t.pwm.converting k = true ∧
    t.pwm.samples = s.pwm.samples ∧
    t.pwm.groups = s.pwm.groups ∧
    Keeps [.pwm] s t) ∧
  (∀ (s : State) (k : Fin 8) (c : Instr), ((c = .seqGo k ∧ s.rd (Reg.ADC_SEQ_CFG_TRIG.at k) = 1) ∨ (c = .seqPwmTrigger k ∧ s.rd
    (Reg.ADC_SEQ_CFG_TRIG.at k) = 2)) → bitOf s.pwm.converting k = true → Answers (c) s fun t =>
    t.rd (Reg.ADC_SEQ_STAT_OVR.at k) = 1 ∧
    KeepsBut [Reg.ADC_SEQ_STAT_OVR.at k] [] s t) ∧
  (∀ (s : State) (k : Fin 8) (c : Instr), ((c = .seqGo k ∧ s.rd (Reg.ADC_SEQ_CFG_TRIG.at k) ≠ 1) ∨ (c = .seqPwmTrigger k ∧ s.rd
    (Reg.ADC_SEQ_CFG_TRIG.at k) ≠ 2)) → Answers (c) s fun t =>
    t = s) ∧
  (∀ (s : State) (k : Fin 8), s.rd (Reg.ADC_SEQ_CFG_TRIG.at k) = 4 → 0 ≤ signed 32 (shortOf s.time.dt + 2 ^ 32 - s.rd
    (Reg.ADC_SEQ_TT_V.at k)) → Answers (.seqTimeTrigger k) s fun t =>
    t.rd (Reg.ADC_SEQ_TT_V.at k) = (s.rd (Reg.ADC_SEQ_TT_V.at k) + s.rd (Reg.ADC_SEQ_TP_V.at k)) % 2 ^ 32 ∧
    bitOf t.pwm.converting k = true ∧
    t.rd (Reg.ADC_SEQ_STAT_OVR.at k) = (if bitOf s.pwm.converting k then 1 else s.rd (Reg.ADC_SEQ_STAT_OVR.at k)) ∧
    KeepsBut [Reg.ADC_SEQ_TT_V.at k, Reg.ADC_SEQ_STAT_OVR.at k] [.pwm] s t) ∧
  (∀ (s : State) (k : Fin 8), bitOf s.pwm.converting k = true → Answers (.sequenceDone k) s fun t =>
    t.rd (Reg.ADC_SEQ_STAT_DONE.at k) = 1 ∧
    bitOf t.pwm.converting k = false ∧
    (∀ i : Fin 8, i.val ≤ s.rd (Reg.ADC_SEQ_CFG_COUNT.at k) → t.rd (Reg.ADC_SEQ_RES_VALID.at2 k i) = b2n (s.sampleOf (fieldOf (s.rd (Reg.ADC_SEQ_CH_CH.at k)) (4 * i) 4)).isSome) ∧
    (∀ i : Fin 8, i.val ≤ s.rd (Reg.ADC_SEQ_CFG_COUNT.at k) → (s.sampleOf (fieldOf (s.rd (Reg.ADC_SEQ_CH_CH.at k)) (4 * i) 4)).all (fun raw => decide (t.rd (Reg.ADC_SEQ_RES_CODE.at2 k i) = unsigned 16 (if s.isenDiff (fieldOf (s.rd (Reg.ADC_SEQ_CH_CH.at k)) (4 * i) 4) then clampInt (-8192) 8191 (raw - s.calOffset (fieldOf (s.rd (Reg.ADC_SEQ_CH_CH.at k)) (4 * i) 4 % 8 / 2)) else clampInt 0 16383 (raw - s.calOffset (fieldOf (s.rd (Reg.ADC_SEQ_CH_CH.at k)) (4 * i) 4 % 8 / 2))))) = true) ∧
    KeepsBut ((List.range (s.rd (Reg.ADC_SEQ_CFG_COUNT.at k) + 1)).flatMap (fun i => [Reg.ADC_SEQ_RES_VALID.at2 k i, Reg.ADC_SEQ_RES_CODE.at2 k i]) ++ [Reg.ADC_SEQ_STAT_INVALID.at k, Reg.ADC_SEQ_STAT_DONE.at k]) [.pwm, .free, .threads] s t) ∧
  (∀ (s : State) (k : Fin 8), bitOf s.pwm.converting k = false → Answers (.sequenceDone k) s fun t =>
    t = s) ∧
  (∀ (s : State) (c : Fin 4) (code : Int) (busy : Bool), (busy = false ∨ 64 ≤ s.mem.defer.get 0 (192 + c.val)) → Answers
    (.adcOffsetCalibration c code busy) s fun t =>
    t.calOffset c = signed 8 (unsigned 8 (((code :: s.pwm.cal.get [] c).take 64).sum / (((code :: s.pwm.cal.get [] c).take 64).length : Nat))) ∧
    t.pwm.cal.get [] c = (code :: s.pwm.cal.get [] c).take 64 ∧
    t.mem.defer.get 0 (192 + c.val) = 0 ∧
    t.mem.mem = s.mem.mem) ∧
  (∀ (s : State) (c : Fin 4) (code : Int), s.mem.defer.get 0 (192 + c.val) < 64 → Answers (.adcOffsetCalibration c code true) s fun t =>
    t.mem.defer.get 0 (192 + c.val) = s.mem.defer.get 0 (192 + c.val) + 1 ∧
    t.mem.mem = s.mem.mem ∧
    Keeps [.mem] s t) ∧
  (∀ (s : State), (s.thread 34).run = .waiting → Answers (.pcpWake) s fun t =>
    (t.thread 34).run = .running ∧
    Keeps [.threads] s t) ∧
  (∀ (s : State), (s.thread 34).run = .running → Answers (.pcpWake) s fun t =>
    (t.thread 34).wakeLatch = true ∧
    (t.thread 34).run = .running ∧
    Keeps [.threads] s t)

/-! ### Heddles and RS-485 (chapter 10) -/

/-- The operations on lanes, pins and counters (R613 to R616, R620): each one moves on after its HOLD with the effect of Table 10-3 and
nothing else; SAMPLE fills the catch lane, drops with RX_OVF past 32 and delivers a complete catch, DRIVE sets a level latch and its
output enable, COUNT loads and counts, BRANCH goes to its target where its condition holds, MATCH sets FLAG, TIMEOUT loads T, SIGNAL
raises its event; an argument bit that an operation does not name and an OP code above 11 fault with ILLEGAL, and an uncorrectable
fetch faults every active Heddle of the block. -/
def Obligations.HeddleOperations : Prop :=
  (∀ (s : State) (n : Fin 16), s.hdRuns n 0 = true → s.hdNext n < s.rd (Reg.HEDDLE_REGION_LEN.at n) → s.hdArg n = 0 → Answers
    (.heddleNop n false) s fun t =>
    HdGoesOn s t n (s.hdNext n) (s.hdBase n) (s.hdFlagThen n (s.hdFlagFound n)) [] [] ∧
    t.hed.irq = s.hed.irq) ∧
  (∀ (s : State) (n : Fin 16) (pins : BitVec 64), s.hdRuns n 1 = true → s.hdNext n < s.rd (Reg.HEDDLE_REGION_LEN.at n) → fieldOf
    (s.hdArg n) 5 5 = 0 → bitOf (s.hdArg n) 3 = false → (s.hd n).cn = 32 → Answers (.sample n pins false) s fun t =>
    HdGoesOn s t n (s.hdNext n) (s.hdBase n) (s.hdFlagThen n (s.hdFlagFound n)) [Reg.HEDDLE_STAT_RX_OVF.at n] [] ∧
    t.rd (Reg.HEDDLE_STAT_RX_OVF.at n) = 1 ∧
    t.hed.irq = s.hed.irq) ∧
  (∀ (s : State) (n : Fin 16) (pins : BitVec 64), s.hdRuns n 1 = true → s.hdNext n < s.rd (Reg.HEDDLE_REGION_LEN.at n) → fieldOf
    (s.hdArg n) 5 5 = 0 → bitOf (s.hdArg n) 3 = false → (s.hd n).cn ≠ 32 → (s.rd (Reg.HEDDLE_CTRL_AUTOCATCH.at n) = 0 ∨ (s.hd n).cn + 1
    ≠ s.hdCatchLen n) → Answers (.sample n pins false) s fun t =>
    HdGoesOn s t n (s.hdNext n) { s.hdBase n with cl := setBit (s.hd n).cl (lanePos (bitOf (s.hdArg n) 4) (s.hd n).cn) (s.slotReads n pins.toNat (s.hdArg n % 8)), cn := (s.hd n).cn + 1 } (s.hdFlagThen n (s.hdFlagFound n)) [] [] ∧
    t.hed.irq = s.hed.irq) ∧
  (∀ (s : State) (n : Fin 16) (pins : BitVec 64), s.hdRuns n 1 = true → s.hdNext n < s.rd (Reg.HEDDLE_REGION_LEN.at n) → fieldOf
    (s.hdArg n) 5 5 = 0 → bitOf (s.hdArg n) 3 = false → (s.hd n).cn ≠ 32 → s.rd (Reg.HEDDLE_CTRL_AUTOCATCH.at n) ≠ 0 → (s.hd n).cn + 1
    = s.hdCatchLen n → (s.hd n).rxq.length < s.hdRxSize n → Answers (.sample n pins false) s fun t =>
    HdGoesOn s t n (s.hdNext n) { s.hdBase n with cl := 0, cn := 0, rxq := (s.hd n).rxq ++ [setBit (s.hd n).cl (lanePos (bitOf (s.hdArg n) 4) (s.hd n).cn) (s.slotReads n pins.toNat (s.hdArg n % 8))] } (s.hdFlagThen n (s.hdFlagFound n)) [Reg.HEDDLE_STAT_RXFILL.at n] [.threads] ∧
    t.rd (Reg.HEDDLE_STAT_RXFILL.at n) = ((s.hd n).rxq.length + 1) % 16 ∧
    t.hed.irq = s.hed.irq) ∧
  (∀ (s : State) (n : Fin 16), s.hdRuns n 2 = true → s.hdNext n < s.rd (Reg.HEDDLE_REGION_LEN.at n) → fieldOf (s.hdArg n) 4 4 = 0 →
    Answers (.drive n false) s fun t =>
    HdGoesOn s t n (s.hdNext n) { s.hdBase n with lev := setBit (s.hdBase n).lev (s.hdArg n % 8) (bitOf (s.hdArg n) 3), oe := if bitOf (s.hdArg n) 9 then setBit (s.hd n).oe (s.hdArg n % 8) (bitOf (s.hdArg n) 8) else (s.hd n).oe } (s.hdFlagThen n (s.hdFlagFound n)) [] [] ∧
    t.hed.irq = s.hed.irq) ∧
  (∀ (s : State) (n : Fin 16), s.hdRuns n 4 = true → s.hdNext n < s.rd (Reg.HEDDLE_REGION_LEN.at n) → fieldOf (s.hdArg n) 8 2 = 0 →
    Answers (.count n false) s fun t =>
    HdGoesOn s t n (s.hdNext n) (s.hdBase n) (s.hdFlagThen n (s.hdFlagFound n)) [Reg.HEDDLE_CNT_CNT.at n] [] ∧
    t.rd (Reg.HEDDLE_CNT_CNT.at n) = fieldOf (s.hdArg n) 0 8 ∧
    t.hed.irq = s.hed.irq) ∧
  (∀ (s : State) (n : Fin 16), s.hdRuns n 4 = true → s.hdNext n < s.rd (Reg.HEDDLE_REGION_LEN.at n) → s.hdArg n = 256 → Answers (.count
    n false) s fun t =>
    HdGoesOn s t n (s.hdNext n) (s.hdBase n) (s.hdFlagThen n (s.hdFlagFound n)) [Reg.HEDDLE_CNT_CNT.at n] [] ∧
    t.rd (Reg.HEDDLE_CNT_CNT.at n) = s.rd (Reg.HEDDLE_CNT_CRELOAD.at n) % 65536 ∧
    t.hed.irq = s.hed.irq) ∧
  (∀ (s : State) (n : Fin 16), s.hdRuns n 4 = true → s.hdNext n < s.rd (Reg.HEDDLE_REGION_LEN.at n) → s.hdArg n = 512 → Answers (.count
    n false) s fun t =>
    HdGoesOn s t n (s.hdNext n) (s.hdBase n) (s.hdFlagThen n (b2n (decide (s.rd (Reg.HEDDLE_CNT_CNT.at n) ≤ 1)))) [Reg.HEDDLE_CNT_CNT.at n] [] ∧
    t.rd (Reg.HEDDLE_CNT_CNT.at n) = (s.rd (Reg.HEDDLE_CNT_CNT.at n) - 1) % 65536 ∧
    t.hed.irq = s.hed.irq) ∧
  (∀ (s : State) (n : Fin 16) (pins : BitVec 64) (go : Bool), s.hdRuns n 8 = true → go = s.hdTakes n pins.toNat → fieldOf (s.hdArg n) 7
    3 ≠ 7 → (if go then fieldOf (s.hdArg n) 0 7 else s.hdNext n) < s.rd (Reg.HEDDLE_REGION_LEN.at n) → Answers (.branch n pins false) s
    fun t =>
    HdGoesOn s t n (if go then fieldOf (s.hdArg n) 0 7 else s.hdNext n) (s.hdBase n) (s.hdFlagThen n (s.hdFlagFound n)) [] [] ∧
    t.hed.irq = s.hed.irq) ∧
  (∀ (s : State) (n : Fin 16) (pins : BitVec 64), s.hdRuns n 8 = true → fieldOf (s.hdArg n) 7 3 = 0 → s.rd (Reg.HEDDLE_REGION_LEN.at n)
    ≤ fieldOf (s.hdArg n) 0 7 → Answers (.branch n pins false) s fun t =>
    HdFaulted s t n 2 [Reg.HEDDLE_STAT_FLAG.at n]) ∧
  (∀ (s : State) (n : Fin 16) (pins : BitVec 64), s.hdRuns n 9 = true → s.hdNext n < s.rd (Reg.HEDDLE_REGION_LEN.at n) → fieldOf
    (s.hdArg n) 1 7 = 0 → fieldOf (s.hdArg n) 8 2 = 0 → Answers (.hdMatch n pins false) s fun t =>
    HdGoesOn s t n (s.hdNext n) (s.hdBase n) (s.hdFlagThen n (b2n (decide ((s.hd n).cl &&& (if bitOf (s.hdArg n) 0 then s.rd (Reg.HEDDLE_MASK1_V.at n) else s.rd (Reg.HEDDLE_MASK0_V.at n)) = (if bitOf (s.hdArg n) 0 then s.rd (Reg.HEDDLE_PAT1_V.at n) else s.rd (Reg.HEDDLE_PAT0_V.at n)))))) [] [] ∧
    t.hed.irq = s.hed.irq) ∧
  (∀ (s : State) (n : Fin 16) (pins : BitVec 64), s.hdRuns n 9 = true → s.hdNext n < s.rd (Reg.HEDDLE_REGION_LEN.at n) → fieldOf
    (s.hdArg n) 3 5 = 0 → fieldOf (s.hdArg n) 8 2 = 1 → Answers (.hdMatch n pins false) s fun t =>
    HdGoesOn s t n (s.hdNext n) (s.hdBase n) (s.hdFlagThen n (b2n (s.slotReads n pins.toNat (s.hdArg n % 8) != (s.hd n).lastOut))) [] [] ∧
    t.hed.irq = s.hed.irq) ∧
  (∀ (s : State) (n : Fin 16), s.hdRuns n 10 = true → s.hdNext n < s.rd (Reg.HEDDLE_REGION_LEN.at n) → (bitOf (s.hdArg n) 9 = false ∨
    s.hdArg n = 512) → Answers (.timeout n false) s fun t =>
    t.hd n = { s.hdBase n with t := (if s.hdArg n = 512 then s.rd (Reg.HEDDLE_TLOAD_TLOAD.at n) else fieldOf (s.hdArg n) 0 9) - s.hdHold n } ∧
    t.hdState n = 1 ∧
    t.hed.irq = s.hed.irq ∧
    KeepsBut [Reg.HEDDLE_STAT_STATE.at n, Reg.HEDDLE_STAT_PC.at n, Reg.HEDDLE_STAT_FLAG.at n] [.hed] s t) ∧
  (∀ (s : State) (n : Fin 16), s.hdRuns n 11 = true → s.hdNext n < s.rd (Reg.HEDDLE_REGION_LEN.at n) → fieldOf (s.hdArg n) 4 4 = 0 →
    bitOf (s.hdArg n) 9 = false → Answers (.signal n false) s fun t =>
    HdGoesOn s t n (s.hdNext n) (s.hdBase n) (s.hdFlagThen n (s.hdFlagFound n)) [Reg.HEDDLE_EVT_EVENTS.at n] [.threads] ∧
    bitOf (t.rd (Reg.HEDDLE_EVT_EVENTS.at n)) (s.hdArg n % 16) = true ∧
    t.hed.irq = (if bitOf (s.hdArg n) 8 then setBit s.hed.irq n true else s.hed.irq)) ∧
  (∀ (s : State) (n : Fin 16) (pins : BitVec 64) (c : Instr), ((c = .heddleNop n false ∧ s.hdRuns n 0 = true ∧ s.hdArg n ≠ 0) ∨ (c =
    .sample n pins false ∧ s.hdRuns n 1 = true ∧ (fieldOf (s.hdArg n) 5 5 ≠ 0 ∨ bitOf (s.hdArg n) 3 = true)) ∨ (c = .drive n false ∧
    s.hdRuns n 2 = true ∧ fieldOf (s.hdArg n) 4 4 ≠ 0) ∨ (c = .await n pins pins false ∧ s.hdRuns n 3 = true ∧ awaitLegal (s.hdArg n) =
    false) ∨ (c = .count n false ∧ s.hdRuns n 4 = true ∧ 256 < s.hdArg n ∧ s.hdArg n ≠ 512) ∨ (c = .shift n false ∧ s.hdRuns n 5 = true
    ∧ fieldOf (s.hdArg n) 5 5 ≠ 0) ∨ (c = .emit n false ∧ s.hdRuns n 6 = true ∧ fieldOf (s.hdArg n) 2 8 ≠ 0) ∨ (c = .take n false ∧
    s.hdRuns n 7 = true ∧ fieldOf (s.hdArg n) 7 3 ≠ 0) ∨ (c = .branch n pins false ∧ s.hdRuns n 8 = true ∧ fieldOf (s.hdArg n) 7 3 = 7)
    ∨ (c = .hdMatch n pins false ∧ s.hdRuns n 9 = true ∧ 512 ≤ s.hdArg n) ∨ (c = .timeout n false ∧ s.hdRuns n 10 = true ∧ 512 <
    s.hdArg n) ∨ (c = .signal n false ∧ s.hdRuns n 11 = true ∧ (fieldOf (s.hdArg n) 4 4 ≠ 0 ∨ bitOf (s.hdArg n) 9 = true)) ∨ (c =
    .drive n false ∧ s.hdState n = 1 ∧ 12 ≤ fieldOf (s.hdWord n) 20 4)) → Answers (c) s fun t =>
    HdFaulted s t n 1 [Reg.HEDDLE_STAT_FLAG.at n]) ∧
  (∀ (s : State) (n : Fin 16) (pins : BitVec 64) (c : Instr), c ∈ [Instr.heddleNop n true, .sample n pins true, .drive n true, .await n
    pins pins true, .count n true, .shift n true, .emit n true, .take n true, .branch n pins true, .hdMatch n pins true, .timeout n
    true, .signal n true] → s.hdState n = 1 → Answers (c) s fun t =>
    bitOf (t.rd Reg.HEDDLE_BLOCKSTAT_ECC) (n / 8) = true ∧
    (∀ m : Fin 16, m.val / 8 = n.val / 8 → s.hdState m = 1 ∨ s.hdState m = 2 → t.hdState m = 3 ∧ t.rd (Reg.HEDDLE_STAT_FAULT.at m) = 3 ∧ t.rd (Reg.HEDDLE_CTRL_EN.at m) = 0) ∧
    (∀ m : Fin 16, m.val / 8 ≠ n.val / 8 → t.hdState m = s.hdState m ∧ t.hd m = s.hd m))

/-- The operations that wait or use the queues (R613, R615, R617, R619, R620, R629): AWAIT ends in its first cycle or later where its
condition holds, clears its latch and FLAG, or waits; SHIFT places the next bit and loads a word where its lane is used up, EMIT
delivers the catch lane, TAKE loads a word (the shift length of a beat length the spec does not state is free between 1 and 32);
without a word or room they stall until the release; T that reaches 0 ends the wait with FLAG 1; a compare that is met sets its latch
and arms again by its period. -/
def Obligations.HeddleWaits : Prop :=
  (∀ (s : State) (n : Fin 16) (before : BitVec 64) (now : BitVec 64), s.hdRuns n 3 = true → s.hdNext n < s.rd (Reg.HEDDLE_REGION_LEN.at
    n) → awaitLegal (s.hdArg n) = true → s.awaitNoQueue n (s.hdArg n) = false → (s.awaitCount n (s.hdArg n) 1).awaitMet n before.toNat
    now.toNat (s.hdArg n) = true → Answers (.await n before now false) s fun t =>
    HdGoesOn s t n (s.hdNext n) { s.hdBase n with angLatch := (s.hd n).angLatch && fieldOf (s.hdArg n) 7 3 != 3, timeLatch := (s.hd n).timeLatch && fieldOf (s.hdArg n) 7 3 != 4 } (s.hdFlagThen n 0) [Reg.HEDDLE_CNT_CNT.at n] [] ∧
    t.hed.irq = s.hed.irq) ∧
  (∀ (s : State) (n : Fin 16) (before : BitVec 64) (now : BitVec 64), s.hdRuns n 3 = true → awaitLegal (s.hdArg n) = true →
    s.awaitNoQueue n (s.hdArg n) = false → (s.awaitCount n (s.hdArg n) 1).awaitMet n before.toNat now.toNat (s.hdArg n) = false → (s.hd
    n).t ≠ 1 → Answers (.await n before now false) s fun t =>
    t.hdState n = 2 ∧
    t.rd (Reg.HEDDLE_STAT_FLAG.at n) = s.hdFlagFound n ∧
    (t.hd n).t = (s.hd n).t - 1 ∧
    t.rd (Reg.HEDDLE_STAT_PC.at n) = s.rd (Reg.HEDDLE_STAT_PC.at n) ∧
    t.hed.irq = s.hed.irq ∧
    KeepsBut [Reg.HEDDLE_STAT_STATE.at n, Reg.HEDDLE_STAT_FLAG.at n, Reg.HEDDLE_CNT_CNT.at n] [.hed] s t) ∧
  (∀ (s : State) (n : Fin 16) (k : Nat) (before : BitVec 64) (now : BitVec 64), s.hdState n = 2 → (s.hd n).stalled = false → ((s.hd
    n).t = 0 ∨ k ≤ (s.hd n).t) → (s.awaitCount n (s.hdArg n) k).awaitMet n before.toNat now.toNat (s.hdArg n) = true → s.hdNext n <
    s.rd (Reg.HEDDLE_REGION_LEN.at n) → Answers (.awaitConditionMet n k before now) s fun t =>
    HdGoesOn s t n (s.hdNext n) { s.hd n with t := (s.hd n).t - (k + s.hdHold n), angLatch := (s.hd n).angLatch && fieldOf (s.hdArg n) 7 3 != 3, timeLatch := (s.hd n).timeLatch && fieldOf (s.hdArg n) 7 3 != 4 } (if k < (s.hd n).t ∧ (s.hd n).t ≤ k + s.hdHold n then 1 else 0) [Reg.HEDDLE_CNT_CNT.at n] [] ∧
    t.hed.irq = s.hed.irq) ∧
  (∀ (s : State) (n : Fin 16) (k : Nat) (pins : BitVec 64) (c : Instr), s.hdState n = 2 → 0 < (s.hd n).t → ((c = .awaitConditionMet n k
    pins pins ∧ (s.hd n).stalled = false ∧ (s.hd n).t < k) ∨ (c = .heddleStallRelease n k ∧ (s.hd n).stalled = true ∧ (s.hd n).t < k) ∨
    c = .heddleTExpiry n) → s.hdNext n < s.rd (Reg.HEDDLE_REGION_LEN.at n) → Answers (c) s fun t =>
    HdGoesOn s t n (s.hdNext n) { s.hd n with t := 0, stalled := false } (1) [Reg.HEDDLE_CNT_CNT.at n] [] ∧
    t.hed.irq = s.hed.irq) ∧
  (∀ (s : State) (n : Fin 16), s.hdState n = 1 → 0 < (s.hd n).t → Answers (.heddleTExpiry n) s fun t =>
    t.hd n = { s.hd n with t := 0 } ∧
    t.rd (Reg.HEDDLE_STAT_FLAG.at n) = 1 ∧
    t.hdState n = 1 ∧
    KeepsBut [Reg.HEDDLE_STAT_FLAG.at n] [.hed] s t) ∧
  (∀ (s : State) (n : Fin 16), (s.hd n).armed = true → 0 ≤ signed 32 (shortOf s.time.dt + 2 ^ 32 - s.rd (Reg.HEDDLE_TTARGET_V.at n)) →
    Answers (.heddleTimeCompare n) s fun t =>
    (t.hd n).timeLatch = true ∧
    (t.hd n).armed = decide (s.rd (Reg.HEDDLE_TPERIOD_V.at n) ≠ 0) ∧
    t.rd (Reg.HEDDLE_TTARGET_V.at n) = (s.rd (Reg.HEDDLE_TTARGET_V.at n) + s.rd (Reg.HEDDLE_TPERIOD_V.at n)) % 2 ^ 32 ∧
    KeepsBut [Reg.HEDDLE_TTARGET_V.at n] [.hed] s t) ∧
  (∀ (s : State) (n : Fin 16), s.hdRuns n 5 = true → s.hdNext n < s.rd (Reg.HEDDLE_REGION_LEN.at n) → fieldOf (s.hdArg n) 5 5 = 0 →
    (s.hd n).sn ≠ (s.hd n).slen → Answers (.shift n false) s fun t =>
    HdGoesOn s t n (s.hdNext n) { s.hdBase n with lastOut := bitOf (s.hd n).sl (lanePos (bitOf (s.hdArg n) 4) (s.hd n).sn) != bitOf (s.hdArg n) 3, sn := (s.hd n).sn + 1, lev := setBit (s.hdBase n).lev (s.hdArg n % 8) (bitOf (s.hd n).sl (lanePos (bitOf (s.hdArg n) 4) (s.hd n).sn) != bitOf (s.hdArg n) 3) } (s.hdFlagThen n (s.hdFlagFound n)) [] [] ∧
    t.hed.irq = s.hed.irq) ∧
  (∀ (s : State) (n : Fin 16) (w : Nat) (q : List Nat), s.hdRuns n 5 = true → s.hdNext n < s.rd (Reg.HEDDLE_REGION_LEN.at n) → fieldOf
    (s.hdArg n) 5 5 = 0 → (s.hd n).sn = (s.hd n).slen → s.hdTxSize n ≠ 0 → (s.hd n).txq = w :: q → Answers (.shift n false) s fun t =>
    HdGoesOn s t n (s.hdNext n) { s.hdBase n with txq := q, sl := w, sn := 1, lastOut := bitOf w (lanePos (bitOf (s.hdArg n) 4) 0) != bitOf (s.hdArg n) 3, lev := setBit (s.hdBase n).lev (s.hdArg n % 8) (bitOf w (lanePos (bitOf (s.hdArg n) 4) 0) != bitOf (s.hdArg n) 3) } (s.hdFlagThen n (s.hdFlagFound n)) [Reg.HEDDLE_STAT_TXFILL.at n] [.threads] ∧
    t.rd (Reg.HEDDLE_STAT_TXFILL.at n) = q.length % 16 ∧
    t.hed.irq = s.hed.irq) ∧
  (∀ (s : State) (n : Fin 16), s.hdRuns n 5 = true → fieldOf (s.hdArg n) 5 5 = 0 → (s.hd n).sn = (s.hd n).slen → s.hdTxSize n ≠ 0 →
    (s.hd n).txq = [] → (s.hd n).t ≠ 1 → Answers (.shift n false) s fun t =>
    t.hdState n = 2 ∧
    (t.hd n).stalled = true ∧
    t.rd (Reg.HEDDLE_STAT_UNDERRUN.at n) = 1 ∧
    t.rd (Reg.HEDDLE_STAT_PC.at n) = s.rd (Reg.HEDDLE_STAT_PC.at n) ∧
    KeepsBut [Reg.HEDDLE_STAT_STATE.at n, Reg.HEDDLE_STAT_FLAG.at n, Reg.HEDDLE_STAT_UNDERRUN.at n] [.hed] s t) ∧
  (∀ (s : State) (n : Fin 16), s.hdRuns n 6 = true → s.hdNext n < s.rd (Reg.HEDDLE_REGION_LEN.at n) → fieldOf (s.hdArg n) 2 8 = 0 →
    (s.hd n).rxq.length < s.hdRxSize n → Answers (.emit n false) s fun t =>
    HdGoesOn s t n (s.hdNext n) { s.hdBase n with rxq := (s.hd n).rxq ++ [(s.hd n).cl], cl := if bitOf (s.hdArg n) 0 then 0 else (s.hd n).cl, cn := if bitOf (s.hdArg n) 0 then 0 else (s.hd n).cn } (s.hdFlagThen n (s.hdFlagFound n)) [Reg.HEDDLE_STAT_RXFILL.at n] [.threads] ∧
    t.rd (Reg.HEDDLE_STAT_RXFILL.at n) = ((s.hd n).rxq.length + 1) % 16 ∧
    t.hed.irq = s.hed.irq) ∧
  (∀ (s : State) (n : Fin 16), s.hdRuns n 6 = true → s.hdNext n < s.rd (Reg.HEDDLE_REGION_LEN.at n) → fieldOf (s.hdArg n) 2 8 = 0 →
    s.hdRxSize n ≠ 0 → s.hdRxSize n ≤ (s.hd n).rxq.length → bitOf (s.hdArg n) 1 = true → Answers (.emit n false) s fun t =>
    HdGoesOn s t n (s.hdNext n) { s.hdBase n with cl := if bitOf (s.hdArg n) 0 then 0 else (s.hd n).cl, cn := if bitOf (s.hdArg n) 0 then 0 else (s.hd n).cn } (s.hdFlagThen n (s.hdFlagFound n)) [Reg.HEDDLE_STAT_RX_OVF.at n] [] ∧
    t.rd (Reg.HEDDLE_STAT_RX_OVF.at n) = 1 ∧
    t.hed.irq = s.hed.irq) ∧
  (∀ (s : State) (n : Fin 16), s.hdRuns n 7 = true → s.hdNext n < s.rd (Reg.HEDDLE_REGION_LEN.at n) → fieldOf (s.hdArg n) 6 4 = 0 →
    fieldOf (s.hdArg n) 0 6 ≤ 32 → s.hdTxSize n ≠ 0 → (s.hd n).txq ≠ [] → Answers (.take n false) s fun t =>
    HdGoesOn s t n (s.hdNext n) { s.hdBase n with txq := (s.hd n).txq.tail, sl := (s.hd n).txq.headD 0, sn := 0, slen := if fieldOf (s.hdArg n) 0 6 = 0 then 32 else fieldOf (s.hdArg n) 0 6 } (s.hdFlagThen n (s.hdFlagFound n)) [Reg.HEDDLE_STAT_TXFILL.at n] [.threads] ∧
    t.rd (Reg.HEDDLE_STAT_TXFILL.at n) = (s.hd n).txq.tail.length % 16 ∧
    t.hed.irq = s.hed.irq) ∧
  (∀ (s : State) (n : Fin 16), s.hdRuns n 7 = true → s.hdNext n < s.rd (Reg.HEDDLE_REGION_LEN.at n) → fieldOf (s.hdArg n) 6 4 = 1 →
    fieldOf (s.hdArg n) 0 6 ≤ 32 → s.hdTxSize n ≠ 0 → Answers (.take n false) s fun t =>
    HdGoesOn s t n (s.hdNext n) (if (s.hd n).txq = [] then s.hdBase n else { s.hdBase n with txq := (s.hd n).txq.tail, sl := (s.hd n).txq.headD 0, sn := 0, slen := if fieldOf (s.hdArg n) 0 6 = 0 then 32 else fieldOf (s.hdArg n) 0 6 }) (s.hdFlagThen n (b2n (s.hd n).txq.isEmpty)) [Reg.HEDDLE_STAT_TXFILL.at n] [.threads] ∧
    t.hed.irq = s.hed.irq) ∧
  (∀ (s : State) (n : Fin 16), s.hdRuns n 7 = true → s.hdNext n < s.rd (Reg.HEDDLE_REGION_LEN.at n) → fieldOf (s.hdArg n) 6 4 = 0 → 32
    < fieldOf (s.hdArg n) 0 6 → s.hdTxSize n ≠ 0 → (s.hd n).txq ≠ [] → Answers (.take n false) s fun t =>
    (t.hd n).txq = (s.hd n).txq.tail ∧
    (t.hd n).sl = (s.hd n).txq.headD 0 ∧
    (t.hd n).sn = 0 ∧
    1 ≤ (t.hd n).slen ∧
    (t.hd n).slen ≤ 32 ∧
    t.hdState n = 1 ∧
    KeepsBut [Reg.HEDDLE_STAT_STATE.at n, Reg.HEDDLE_STAT_PC.at n, Reg.HEDDLE_STAT_FLAG.at n, Reg.HEDDLE_STAT_TXFILL.at n] [.hed, .free, .threads] s t) ∧
  (∀ (s : State) (n : Fin 16) (c : Instr), ((c = .emit n false ∧ s.hdRuns n 6 = true ∧ s.hdArg n ≤ 1 ∧ s.hdRxSize n ≠ 0 ∧ s.hdRxSize n
    ≤ (s.hd n).rxq.length) ∨ (c = .take n false ∧ s.hdRuns n 7 = true ∧ fieldOf (s.hdArg n) 6 4 = 0 ∧ s.hdTxSize n ≠ 0 ∧ (s.hd n).txq =
    [])) → (s.hd n).t ≠ 1 → Answers (c) s fun t =>
    t.hdState n = 2 ∧
    (t.hd n).stalled = true ∧
    t.rd (Reg.HEDDLE_STAT_PC.at n) = s.rd (Reg.HEDDLE_STAT_PC.at n) ∧
    KeepsBut [Reg.HEDDLE_STAT_STATE.at n, Reg.HEDDLE_STAT_FLAG.at n] [.hed] s t) ∧
  (∀ (s : State) (n : Fin 16) (before : BitVec 64) (now : BitVec 64) (c : Instr), (s.hd n).t = 1 → s.hdNext n < s.rd
    (Reg.HEDDLE_REGION_LEN.at n) → ((c = .await n before now false ∧ s.hdRuns n 3 = true ∧ awaitLegal (s.hdArg n) = true ∧
    s.awaitNoQueue n (s.hdArg n) = false ∧ (s.awaitCount n (s.hdArg n) 1).awaitMet n before.toNat now.toNat (s.hdArg n) = false) ∨ (c =
    .emit n false ∧ s.hdRuns n 6 = true ∧ s.hdArg n ≤ 1 ∧ s.hdRxSize n ≠ 0 ∧ s.hdRxSize n ≤ (s.hd n).rxq.length) ∨ (c = .take n false ∧
    s.hdRuns n 7 = true ∧ fieldOf (s.hdArg n) 6 4 = 0 ∧ s.hdTxSize n ≠ 0 ∧ (s.hd n).txq = [])) → Answers (c) s fun t =>
    HdGoesOn s t n (s.hdNext n) (s.hdBase n) (1) [Reg.HEDDLE_CNT_CNT.at n] [] ∧
    t.hed.irq = s.hed.irq) ∧
  (∀ (s : State) (n : Fin 16) (pins : BitVec 64) (c : Instr), ((c = .sample n pins false ∧ s.hdRuns n 1 = true ∧ fieldOf (s.hdArg n) 5
    5 = 0 ∧ bitOf (s.hdArg n) 3 = false ∧ (s.hd n).cn ≠ 32 ∧ s.rd (Reg.HEDDLE_CTRL_AUTOCATCH.at n) ≠ 0 ∧ (s.hd n).cn + 1 = s.hdCatchLen
    n ∧ s.hdRxSize n = 0) ∨ (c = .await n pins pins false ∧ s.hdRuns n 3 = true ∧ awaitLegal (s.hdArg n) = true ∧ s.awaitNoQueue n
    (s.hdArg n) = true) ∨ (c = .shift n false ∧ s.hdRuns n 5 = true ∧ fieldOf (s.hdArg n) 5 5 = 0 ∧ (s.hd n).sn = (s.hd n).slen ∧
    s.hdTxSize n = 0) ∨ (c = .emit n false ∧ s.hdRuns n 6 = true ∧ fieldOf (s.hdArg n) 2 8 = 0 ∧ s.hdRxSize n = 0) ∨ (c = .take n false
    ∧ s.hdRuns n 7 = true ∧ fieldOf (s.hdArg n) 7 3 = 0 ∧ s.hdTxSize n = 0)) → Answers (c) s fun t =>
    HdFaulted s t n 4 [Reg.HEDDLE_STAT_FLAG.at n]) ∧
  (∀ (s : State) (n : Fin 16) (k : Nat), s.hdState n = 2 → (s.hd n).stalled = true → fieldOf (s.hdWord n) 20 4 = 6 → fieldOf (s.hdArg
    n) 2 8 = 0 → ((s.hd n).t = 0 ∨ k ≤ (s.hd n).t) → (s.hd n).rxq.length < s.hdRxSize n → s.hdNext n < s.rd (Reg.HEDDLE_REGION_LEN.at
    n) → Answers (.heddleStallRelease n k) s fun t =>
    t.hdState n = 1 ∧
    (t.hd n).rxq = (s.hd n).rxq ++ [(s.hd n).cl] ∧
    (t.hd n).t = (s.hd n).t - (k + s.hdHold n) ∧
    (t.hd n).stalled = false ∧
    t.rd (Reg.HEDDLE_STAT_PC.at n) = s.hdNext n % 128 ∧
    KeepsBut [Reg.HEDDLE_STAT_STATE.at n, Reg.HEDDLE_STAT_PC.at n, Reg.HEDDLE_STAT_FLAG.at n, Reg.HEDDLE_STAT_RXFILL.at n] [.hed, .threads] s t) ∧
  (∀ (s : State) (n : Fin 16) (k : Nat) (w : Nat) (q : List Nat), s.hdState n = 2 → (s.hd n).stalled = true → ((fieldOf (s.hdWord n) 20
    4 = 5 ∧ (s.hd n).sn = (s.hd n).slen ∧ fieldOf (s.hdArg n) 5 5 = 0) ∨ (fieldOf (s.hdWord n) 20 4 = 7 ∧ fieldOf (s.hdArg n) 6 4 = 0))
    → ((s.hd n).t = 0 ∨ k ≤ (s.hd n).t) → s.hdTxSize n ≠ 0 → (s.hd n).txq = w :: q → s.hdNext n < s.rd (Reg.HEDDLE_REGION_LEN.at n) →
    Answers (.heddleStallRelease n k) s fun t =>
    t.hdState n = 1 ∧
    (t.hd n).txq = q ∧
    (t.hd n).sl = w ∧
    (t.hd n).t = (s.hd n).t - (k + s.hdHold n) ∧
    (t.hd n).stalled = false ∧
    t.rd (Reg.HEDDLE_STAT_PC.at n) = s.hdNext n % 128)

/-- The registers of a Heddle (R604 to R607, R609, R614, R621, R622, R627 to R634): an enable of a usable region runs it with its pins
at SAFE and one of an unusable region faults with BAD_PC, a disable stops it, a restart clears its lanes and takes it to START, a flush
and a split empty its queues, DIV and REGION keep their limits, a slot map byte that claims a pin it may not have is refused, a program
word of an active region is refused, the queues take and give words, TTARGET arms the compare, a bypass stops the UART, and a DALI
current limit is shown; where another image holds the Heddle, nothing changes. -/
def Obligations.HeddleControl : Prop :=
  (∀ (s : State) (n : Fin 16) (wtr : Writer), holderAllows (s.heddleHolder n) wtr = true → s.hdState n = 0 → s.limping = false →
    regionUsable (s.rd (Reg.HEDDLE_REGION_LEN.at n)) (s.rd (Reg.HEDDLE_REGION_START.at n)) (s.rd (Reg.HEDDLE_REGION_WRAP.at n)) (s.rd
    (Reg.HEDDLE_STAT_PC.at n)) = true → Answers (.heddleEnable n wtr) s fun t =>
    t.hdState n = 1 ∧
    t.rd (Reg.HEDDLE_CTRL_EN.at n) = 1 ∧
    t.hd n = { s.hd n with lev := s.rd (Reg.HEDDLE_SAFE_SAFE.at n), oe := s.rd (Reg.HEDDLE_SAFE_SAFE_OE.at n) } ∧
    KeepsBut [Reg.HEDDLE_STAT_STATE.at n, Reg.HEDDLE_CTRL_EN.at n] [.hed] s t) ∧
  (∀ (s : State) (n : Fin 16) (wtr : Writer), holderAllows (s.heddleHolder n) wtr = true → s.hdState n = 0 → s.limping = false →
    regionUsable (s.rd (Reg.HEDDLE_REGION_LEN.at n)) (s.rd (Reg.HEDDLE_REGION_START.at n)) (s.rd (Reg.HEDDLE_REGION_WRAP.at n)) (s.rd
    (Reg.HEDDLE_STAT_PC.at n)) = false → Answers (.heddleEnable n wtr) s fun t =>
    HdFaulted s t n 2 []) ∧
  (∀ (s : State) (n : Fin 16) (wtr : Writer), holderAllows (s.heddleHolder n) wtr = true → (s.hdState n = 1 ∨ s.hdState n = 2) →
    Answers (.heddleDisable n wtr) s fun t =>
    t.hdState n = 0 ∧
    t.rd (Reg.HEDDLE_CTRL_EN.at n) = 0 ∧
    t.hd n = { s.hd n with stalled := false } ∧
    t.rd (Reg.HEDDLE_STAT_PC.at n) = s.rd (Reg.HEDDLE_STAT_PC.at n) ∧
    KeepsBut [Reg.HEDDLE_STAT_STATE.at n, Reg.HEDDLE_CTRL_EN.at n] [.hed] s t) ∧
  (∀ (s : State) (n : Fin 16) (wtr : Writer), holderAllows (s.heddleHolder n) wtr = true → (s.hdState n = 0 ∨ s.hdState n = 3) →
    Answers (.restart n wtr) s fun t =>
    t.hdState n = 0 ∧
    t.rd (Reg.HEDDLE_STAT_PC.at n) = s.rd (Reg.HEDDLE_REGION_START.at n) % 128 ∧
    t.rd (Reg.HEDDLE_CNT_CNT.at n) = 0 ∧
    t.rd (Reg.HEDDLE_STAT_FLAG.at n) = 0 ∧
    t.rd (Reg.HEDDLE_STAT_FAULT.at n) = 0 ∧
    t.hd n = { s.hd n with sl := 0, cl := 0, cn := 0, slen := 32, sn := 32, t := 0, angLatch := false, timeLatch := false } ∧
    KeepsBut [Reg.HEDDLE_STAT_STATE.at n, Reg.HEDDLE_STAT_PC.at n, Reg.HEDDLE_CNT_CNT.at n, Reg.HEDDLE_STAT_FLAG.at n, Reg.HEDDLE_STAT_FAULT.at n] [.hed] s t) ∧
  (∀ (s : State) (n : Fin 16) (wtr : Writer), holderAllows (s.heddleHolder n) wtr = true → Answers (.flush n wtr) s fun t =>
    (t.hd n).txq = [] ∧
    (t.hd n).rxq = [] ∧
    t.rd (Reg.HEDDLE_STAT_TXFILL.at n) = 0 ∧
    t.rd (Reg.HEDDLE_STAT_RXFILL.at n) = 0 ∧
    KeepsBut [Reg.HEDDLE_STAT_TXFILL.at n, Reg.HEDDLE_STAT_RXFILL.at n] [.hed, .threads] s t) ∧
  (∀ (s : State) (n : Fin 16) (wtr : Writer) (v : Fin 16), holderAllows (s.heddleHolder n) wtr = true → v.val ≤ 4 → s.hdState n = 0 →
    Answers (.splitWrite n wtr v) s fun t =>
    t.hdTxSize n = 2 * v ∧
    t.hdRxSize n = 8 - 2 * v ∧
    (t.hd n).txq = [] ∧
    (t.hd n).rxq = [] ∧
    KeepsBut [Reg.HEDDLE_CTRL_SPLIT.at n, Reg.HEDDLE_STAT_TXFILL.at n, Reg.HEDDLE_STAT_RXFILL.at n] [.hed, .threads] s t) ∧
  (∀ (s : State) (n : Fin 16) (wtr : Writer) (v : Fin 16), (4 < v.val ∨ s.hdState n ≠ 0) → Answers (.splitWrite n wtr v) s fun t =>
    t = s) ∧
  (∀ (s : State) (n : Fin 16) (wtr : Writer) (d : BitVec 24), holderAllows (s.heddleHolder n) wtr = true → Answers (.heddleDivWrite n
    wtr d) s fun t =>
    t.rd (Reg.HEDDLE_DIV_D.at n) = (if 256 ≤ d.toNat then d.toNat else s.rd (Reg.HEDDLE_DIV_D.at n)) ∧
    KeepsBut [Reg.HEDDLE_DIV_D.at n] [] s t) ∧
  (∀ (s : State) (n : Fin 16) (wtr : Writer) (base : Nat) (len : Nat) (start : Nat) (wrap : Nat), holderAllows (s.heddleHolder n) wtr =
    true → (s.hdState n = 0 ∨ s.hdState n = 3) → base < 128 → len ≤ 128 → (s.hdRun n).1 ≤ base → base + len ≤ (s.hdRun n).1 + (s.hdRun
    n).2 → Answers (.regionWrite n wtr base len start wrap) s fun t =>
    t.rd (Reg.HEDDLE_REGION_BASE.at n) = base ∧
    t.rd (Reg.HEDDLE_REGION_LEN.at n) = len ∧
    t.rd (Reg.HEDDLE_REGION_START.at n) = start % 128 ∧
    t.rd (Reg.HEDDLE_REGION_WRAP.at n) = wrap % 128 ∧
    KeepsBut [Reg.HEDDLE_REGION_BASE.at n, Reg.HEDDLE_REGION_LEN.at n, Reg.HEDDLE_REGION_START.at n, Reg.HEDDLE_REGION_WRAP.at n] [] s t) ∧
  (∀ (s : State) (n : Fin 16) (wtr : Writer) (base : Nat) (len : Nat) (start : Nat) (wrap : Nat), (s.hdState n = 1 ∨ s.hdState n = 2) →
    (len = 0 ∨ len ≤ start % 128 ∨ len ≤ wrap % 128 ∨ len ≤ s.rd (Reg.HEDDLE_STAT_PC.at n)) → wtr = .weaver → base < 128 → len ≤ 128 →
    Answers (.regionWrite n wtr base len start wrap) s fun t =>
    t = s) ∧
  (∀ (s : State) (n : Fin 16) (wtr : Writer) (hi : Bool) (v : Word), holderAllows (s.heddleHolder n) wtr = true → (∀ j : Fin 4, bitOf
    v.toNat (8 * j + 6) = false) → Answers (.slotmapWrite n wtr hi v) s fun t =>
    t.rd (if hi then Reg.HEDDLE_SLOTMAP1_V.at n else Reg.HEDDLE_SLOTMAP0_V.at n) = v.toNat ∧
    KeepsBut [if hi then Reg.HEDDLE_SLOTMAP1_V.at n else Reg.HEDDLE_SLOTMAP0_V.at n] [] s t) ∧
  (∀ (s : State) (n : Fin 16) (wtr : Writer) (hi : Bool) (v : Word) (j : Fin 4), holderAllows (s.heddleHolder n) wtr = true → bitOf
    v.toNat (8 * j + 6) = true → 42 ≤ fieldOf v.toNat (8 * j) 6 → Answers (.slotmapWrite n wtr hi v) s fun t =>
    t.rd (Reg.HEDDLE_STAT_CLAIM_REFUSED.at n) = 1 ∧
    t.slotByte n (if hi then 4 + j else j) = s.slotByte n (if hi then 4 + j else j) ∧
    t.hed = s.hed) ∧
  (∀ (s : State) (b : Fin 2) (w : Fin 128) (wtr : Writer) (v : BitVec 24), (wtr = .weaver ∨ wtr = .gateway) → (∀ k : Fin 8, s.hdState
    (8 * b + k) = 0 ∨ s.hdState (8 * b + k) = 3) → Answers (.programWordWrite b w wtr v) s fun t =>
    t.hed.prog.get 0 (b * 128 + w) = v.toNat ∧
    t.hed.units = s.hed.units ∧
    (∀ c : Fin 2, ∀ x : Fin 128, (c ≠ b ∨ x ≠ w) → t.hed.prog.get 0 (c * 128 + x) = s.hed.prog.get 0 (c * 128 + x)) ∧
    Keeps [.hed] s t) ∧
  (∀ (s : State) (b : Fin 2) (w : Fin 128) (wtr : Writer) (v : BitVec 24) (k : Fin 8), (wtr = .weaver ∨ wtr = .gateway) → s.hdState (8
    * b + k) = 1 → s.rd (Reg.HEDDLE_REGION_BASE.at (8 * b + k)) ≤ w → w < s.rd (Reg.HEDDLE_REGION_BASE.at (8 * b + k)) + s.rd
    (Reg.HEDDLE_REGION_LEN.at (8 * b + k)) → Answers (.programWordWrite b w wtr v) s fun t =>
    t.rd (Reg.HEDDLE_STAT_PROG_REFUSED.at (8 * b + k)) = 1 ∧
    t.hed = s.hed) ∧
  (∀ (s : State) (n : Fin 16) (wtr : Writer) (v : Word), holderAllows (s.heddleHolder n) wtr = true → (s.hd n).txq.length < s.hdTxSize
    n → Answers (.txqWrite n wtr v) s fun t =>
    t.hd n = { s.hd n with txq := (s.hd n).txq ++ [v.toNat] } ∧
    t.rd (Reg.HEDDLE_STAT_TXFILL.at n) = ((s.hd n).txq.length + 1) % 16 ∧
    KeepsBut [Reg.HEDDLE_STAT_TXFILL.at n] [.hed] s t) ∧
  (∀ (s : State) (n : Fin 16) (wtr : Writer) (v : Word), holderAllows (s.heddleHolder n) wtr = true → s.hdTxSize n ≤ (s.hd
    n).txq.length → Answers (.txqWrite n wtr v) s fun t =>
    t.rd (Reg.HEDDLE_STAT_TX_OVF.at n) = 1 ∧
    KeepsBut [Reg.HEDDLE_STAT_TX_OVF.at n] [] s t) ∧
  (∀ (s : State) (n : Fin 16), Answers (.rxqRead n) s fun t =>
    t.readData = BitVec.ofNat 32 ((s.hd n).rxq.headD 0) ∧
    (t.hd n).rxq = (s.hd n).rxq.tail ∧
    KeepsBut [Reg.HEDDLE_STAT_RXFILL.at n] [.hed, .readData] s t) ∧
  (∀ (s : State) (n : Fin 16) (wtr : Writer) (v : Word), holderAllows (s.heddleHolder n) wtr = true → Answers (.ttargetWrite n wtr v) s
    fun t =>
    t.rd (Reg.HEDDLE_TTARGET_V.at n) = v.toNat ∧
    (t.hd n).armed = true ∧
    KeepsBut [Reg.HEDDLE_TTARGET_V.at n] [.hed] s t) ∧
  (∀ (s : State) (k : Fin 2) (j : Fin 4) (v : BitVec 2), s.fieldHolder (2 + k) = some j → Answers (.bypassWrite (.image j) v) s fun t =>
    bitOf (t.rd Reg.HEDDLE_BYPASS_RS485) k = v.getLsbD k ∧
    (v.getLsbD k = true → (t.ua k).sending = none ∧ (t.ua k).de = false ∧ t.rd (Reg.UART_STAT_TX_BUSY.at k) = 0) ∧
    t.hed.units = s.hed.units ∧
    KeepsBut [Reg.HEDDLE_BYPASS_RS485, Reg.UART_STAT_TX_BUSY.at 0, Reg.UART_STAT_TX_BUSY.at 1] [.hed] s t) ∧
  (∀ (s : State) (v : BitVec 2) (wtr : Writer), (wtr = .weaver ∨ wtr = .gateway) → Answers (.bypassWrite wtr v) s fun t =>
    t = s) ∧
  (∀ (s : State) (i : Fin 2), Answers (.daliCurrentLimit i) s fun t =>
    t.rd (if i = 0 then Reg.HEDDLE_DALI_STAT_SHORT0 else Reg.HEDDLE_DALI_STAT_SHORT1) = 1 ∧
    (t.tk.ring.head?).map (fun e => (e.code, e.src)) = some (0x0A02, i.val) ∧
    KeepsBut [if i = 0 then Reg.HEDDLE_DALI_STAT_SHORT0 else Reg.HEDDLE_DALI_STAT_SHORT1, Reg.HOSTPORT_INTSTAT_INTSTAT] [.tk, .jr, .gl, .marks] s t) ∧
  (∀ (s : State) (n : Fin 16) (wtr : Writer) (v : Word) (d : BitVec 24) (hi : Bool) (f : Fin 16) (c : Instr), holderAllows
    (s.heddleHolder n) wtr = false → c ∈ [Instr.heddleEnable n wtr, .heddleDisable n wtr, .restart n wtr, .flush n wtr, .splitWrite n
    wtr f, .heddleDivWrite n wtr d, .slotmapWrite n wtr hi v, .txqWrite n wtr v, .ttargetWrite n wtr v] → Answers (c) s fun t =>
    t = s)

/-- The RS-485 UARTs (R639 to R647): the FIFOs take and give characters and show overflow and overrun, the flushes empty them, a
configuration takes effect at once or at the end of the character, a transmission raises DE and sends character after character, DE
falls after the last one, a received character is stored with its flags, an idle line is shown, and a line measurement shows its fault.
-/
def Obligations.Uarts : Prop :=
  (∀ (s : State) (n : Fin 2) (wtr : Writer) (b : Byte), s.uaAllows n wtr = true → (s.ua n).tx.length < 32 → Answers (.uartTxWrite n wtr
    b) s fun t =>
    t.ua n = { s.ua n with tx := (s.ua n).tx ++ [b.toNat] } ∧
    t.rd (Reg.UART_STAT_TXFILL.at n) = (s.ua n).tx.length + 1 ∧
    KeepsBut [Reg.UART_STAT_TXFILL.at n] [.hed] s t) ∧
  (∀ (s : State) (n : Fin 2) (wtr : Writer) (b : Byte), s.uaAllows n wtr = true → 32 ≤ (s.ua n).tx.length → Answers (.uartTxWrite n wtr
    b) s fun t =>
    t.rd (Reg.UART_STAT_TX_OVF.at n) = 1 ∧
    KeepsBut [Reg.UART_STAT_TX_OVF.at n] [] s t) ∧
  (∀ (s : State) (n : Fin 2) (ch : Nat) (q : List Nat), (s.ua n).rx = ch :: q → Answers (.uartRxRead n) s fun t =>
    t.readData = BitVec.ofNat 32 (ch + 2048) ∧
    t.ua n = { s.ua n with rx := q } ∧
    t.rd (Reg.UART_STAT_RXFILL.at n) = q.length % 64 ∧
    KeepsBut [Reg.UART_STAT_RXFILL.at n] [.hed, .readData] s t) ∧
  (∀ (s : State) (n : Fin 2), (s.ua n).rx = [] → Answers (.uartRxRead n) s fun t =>
    t.readData = 0 ∧
    Keeps [.readData] s t) ∧
  (∀ (s : State) (n : Fin 2) (wtr : Writer), s.uaAllows n wtr = true → Answers (.txflush n wtr) s fun t =>
    t.ua n = { s.ua n with tx := [] } ∧
    t.rd (Reg.UART_STAT_TXFILL.at n) = 0 ∧
    KeepsBut [Reg.UART_STAT_TXFILL.at n] [.hed, .threads] s t) ∧
  (∀ (s : State) (n : Fin 2) (wtr : Writer), s.uaAllows n wtr = true → Answers (.rxflush n wtr) s fun t =>
    t.ua n = { s.ua n with rx := [] } ∧
    t.rd (Reg.UART_STAT_RXFILL.at n) = 0 ∧
    KeepsBut [Reg.UART_STAT_RXFILL.at n] [.hed] s t) ∧
  (∀ (s : State) (n : Fin 2) (wtr : Writer) (v : BitVec 24), s.uaAllows n wtr = true → 8000 ≤ v.toNat → (s.ua n).sending = none → (s.ua
    n).pend = none → Answers (.uartConfigWrite n wtr (.baud v) false) s fun t =>
    t.rd (Reg.UART_BAUD_BAUDDIV.at n) = v.toNat ∧
    t.ua n = { s.ua n with pendBaud := none } ∧
    KeepsBut [Reg.UART_BAUD_BAUDDIV.at n] [.hed] s t) ∧
  (∀ (s : State) (n : Fin 2) (wtr : Writer) (v : BitVec 24), s.uaAllows n wtr = true → 8000 ≤ v.toNat → Answers (.uartConfigWrite n wtr
    (.baud v) true) s fun t =>
    t.ua n = { s.ua n with pendBaud := some v.toNat } ∧
    Keeps [.hed] s t) ∧
  (∀ (s : State) (n : Fin 2) (wtr : Writer) (v : BitVec 24) (r : Bool), v.toNat < 8000 → Answers (.uartConfigWrite n wtr (.baud v) r) s
    fun t =>
    t = s) ∧
  (∀ (s : State) (n : Fin 2) (wtr : Writer) (v : Word), s.uaAllows n wtr = true → (s.ua n).sending = none → (s.ua n).pendBaud = none →
    s.netsOff = false → Answers (.uartConfigWrite n wtr (.ctrl v) false) s fun t =>
    t.rd (Reg.UART_CTRL_EN.at n) = fieldOf v.toNat 0 1 ∧
    t.rd (Reg.UART_CTRL_DATA8.at n) = fieldOf v.toNat 3 1 ∧
    t.rd (Reg.UART_CTRL_PARITY.at n) = (if fieldOf v.toNat 4 2 = 3 then s.rd (Reg.UART_CTRL_PARITY.at n) % 4 else fieldOf v.toNat 4 2) ∧
    t.rd (Reg.UART_CTRL_STOP2.at n) = fieldOf v.toNat 6 1 ∧
    t.rd (Reg.UART_CTRL_ECHO.at n) = fieldOf v.toNat 7 1 ∧
    t.rd (Reg.UART_CTRL_WAKE_EN.at n) = fieldOf v.toNat 8 1 ∧
    t.rd (Reg.UART_CTRL_THREAD.at n) = fieldOf v.toNat 9 5 ∧
    t.ua n = { s.ua n with pend := none }) ∧
  (∀ (s : State) (n : Fin 2), s.uaMayStart n = true → (s.ua n).sending = none → (s.ua n).tx ≠ [] → Answers (.uartTransmitStart n) s fun
    t =>
    t.ua n = { s.ua n with tx := (s.ua n).tx.tail, sending := (s.ua n).tx.head?, onBus := s.rsMayDrive n, de := true } ∧
    t.rd (Reg.UART_STAT_TX_BUSY.at n) = 1 ∧
    t.rd (Reg.UART_STAT_IDLE.at n) = 0 ∧
    KeepsBut [Reg.UART_STAT_TXFILL.at n, Reg.UART_STAT_TX_BUSY.at n, Reg.UART_STAT_IDLE.at n] [.hed, .threads] s t) ∧
  (∀ (s : State) (n : Fin 2), (s.uaMayStart n = false ∨ (s.ua n).sending ≠ none ∨ (s.ua n).tx = []) → Answers (.uartTransmitStart n) s
    fun t =>
    t = s) ∧
  (∀ (s : State) (n : Fin 2), (s.ua n).sending ≠ none → (s.ua n).pend = none → (s.ua n).pendBaud = none → s.uaMayStart n = true → (s.ua
    n).tx ≠ [] → Answers (.uartCharacterSent n) s fun t =>
    t.ua n = { s.ua n with tx := (s.ua n).tx.tail, sending := (s.ua n).tx.head?, onBus := s.rsMayDrive n, de := true } ∧
    t.rd (Reg.UART_STAT_TX_BUSY.at n) = 1) ∧
  (∀ (s : State) (n : Fin 2), (s.ua n).sending ≠ none → (s.ua n).pend = none → (s.ua n).pendBaud = none → (s.ua n).tx = [] → Answers
    (.uartCharacterSent n) s fun t =>
    t.ua n = { s.ua n with sending := none, onBus := false } ∧
    Keeps [.hed] s t) ∧
  (∀ (s : State) (n : Fin 2), (s.ua n).de = true → (s.ua n).sending = none → (s.ua n).tx = [] → Answers (.uartDeRelease n) s fun t =>
    t.ua n = { s.ua n with de := false } ∧
    t.rd (Reg.UART_STAT_TX_BUSY.at n) = 0 ∧
    KeepsBut [Reg.UART_STAT_TX_BUSY.at n] [.hed] s t) ∧
  (∀ (s : State) (n : Fin 2) (d : Byte) (fr : Bool) (par : Bool) (brk : Bool), s.rd (Reg.UART_CTRL_EN.at n) ≠ 0 → ((s.ua n).de = false
    ∨ s.rd (Reg.UART_CTRL_ECHO.at n) ≠ 0) → (s.ua n).rx.length < 32 → Answers (.uartCharacterReceived n d fr par brk) s fun t =>
    (t.ua n).rx = (s.ua n).rx ++ [(if s.rd (Reg.UART_CTRL_DATA8.at n) ≠ 0 then d.toNat else d.toNat % 128) + 256 * b2n fr + 512 * b2n (par && decide (s.rd (Reg.UART_CTRL_PARITY.at n) ≠ 0)) + 1024 * b2n brk] ∧
    (fr = true → t.rd (Reg.UART_STAT_FRAMING_SEEN.at n) = 1) ∧
    (brk = true → t.rd (Reg.UART_STAT_BREAK_SEEN.at n) = 1) ∧
    t.rd (Reg.UART_STAT_IDLE.at n) = 0 ∧
    (t.ua n).tx = (s.ua n).tx) ∧
  (∀ (s : State) (n : Fin 2) (d : Byte) (fr : Bool) (par : Bool) (brk : Bool), s.rd (Reg.UART_CTRL_EN.at n) ≠ 0 → ((s.ua n).de = false
    ∨ s.rd (Reg.UART_CTRL_ECHO.at n) ≠ 0) → 32 ≤ (s.ua n).rx.length → Answers (.uartCharacterReceived n d fr par brk) s fun t =>
    t.rd (Reg.UART_STAT_OVERRUN.at n) = 1 ∧
    (t.ua n).rx = (s.ua n).rx) ∧
  (∀ (s : State) (n : Fin 2) (d : Byte) (fr : Bool) (par : Bool) (brk : Bool), (s.rd (Reg.UART_CTRL_EN.at n) = 0 ∨ ((s.ua n).de = true
    ∧ s.rd (Reg.UART_CTRL_ECHO.at n) = 0)) → Answers (.uartCharacterReceived n d fr par brk) s fun t =>
    t = s) ∧
  (∀ (s : State) (n : Fin 2), (s.ua n).de = false → s.rd (Reg.UART_STAT_IDLE.at n) = 0 → Answers (.uartIdle n) s fun t =>
    t.rd (Reg.UART_STAT_IDLE.at n) = 1 ∧
    t.rd (Reg.UART_STAT_IDLE_EVENT.at n) = 1 ∧
    KeepsBut [Reg.UART_STAT_IDLE.at n, Reg.UART_STAT_IDLE_EVENT.at n] [.threads] s t)

/-! ### Network (chapters 11 and 12) -/

/-- MAC_FRAME_END, FRAME_TOO_LONG, PORT_CELL_EXHAUSTED and PAUSE_EXPIRY (R663, R727, R730, R742): without a link a frame does nothing,
a short and a long one are counted in PSTK and dropped, a PAUSE frame is taken by the MAC, a frame for which the port has cells waits
for its decision in cells that were free (which of them is free in the model, log entry 31), one for which it has none is dropped with
NOBUF. -/
def Obligations.FrameReception : Prop :=
  (∀ (s : State) (p : Fin 6) (b : List Byte) (e : Bool) (d : Nat), s.rd (Reg.MAC_LINK_UP.at p) = 0 → Answers (.macFrameEnd p b e d) s
    fun t =>
    t = s) ∧
  (∀ (s : State) (p : Fin 6) (b : List Byte) (e : Bool) (d : Nat), s.rd (Reg.MAC_LINK_UP.at p) ≠ 0 → b.length < s.rd
    (Reg.MAC_CFG_MIN_FRAME.at p) → Answers (.macFrameEnd p b e d) s fun t =>
    bitOf (t.rd (Reg.MAC_PSTK_PSTK.at p)) 1 = true ∧
    bitOf (t.rd (Reg.MAC_PSTK_ACC_PSTK_ACC.at p)) 1 = true ∧
    KeepsBut [Reg.MAC_PSTK_PSTK.at p, Reg.MAC_PSTK_ACC_PSTK_ACC.at p] [] s t) ∧
  (∀ (s : State) (p : Fin 6) (b : List Byte) (e : Bool) (d : Nat), s.rd (Reg.MAC_LINK_UP.at p) ≠ 0 → s.rd (Reg.MAC_CFG_MIN_FRAME.at p)
    ≤ b.length → (beAt b 12 2 ≠ 0x8808 ∨ fcsOk b = false ∨ e = true) → s.rd (Reg.MAC_CFG_MAX_FRAME.at p) < b.length → Answers
    (.macFrameEnd p b e d) s fun t =>
    bitOf (t.rd (Reg.MAC_PSTK_PSTK.at p)) 2 = true ∧
    bitOf (t.rd (Reg.MAC_PSTK_ACC_PSTK_ACC.at p)) 2 = true ∧
    KeepsBut [Reg.MAC_PSTK_PSTK.at p, Reg.MAC_PSTK_ACC_PSTK_ACC.at p] [] s t) ∧
  (∀ (s : State) (p : Fin 6) (b : List Byte) (d : Nat), s.rd (Reg.MAC_LINK_UP.at p) ≠ 0 → s.rd (Reg.MAC_CFG_MIN_FRAME.at p) ≤ b.length
    → beAt b 12 2 = 0x8808 → fcsOk b = true → beAt b 14 2 = 1 → Answers (.macFrameEnd p b false d) s fun t =>
    bitOf (t.rd (Reg.MAC_PSTK_PSTK.at p)) 6 = true ∧
    (s.rd (Reg.MAC_CFG_PAUSE_HONOUR.at p) ≠ 0 → (t.eg p).paused = decide (beAt b 16 2 ≠ 0) ∧ (t.eg p).quanta = beAt b 16 2) ∧
    t.loom.frames = s.loom.frames ∧
    (s.rd (Reg.MAC_CFG_PAUSE_HONOUR.at p) = 0 → t.loom = s.loom) ∧
    KeepsBut [Reg.MAC_PSTK_PSTK.at p, Reg.MAC_PSTK_ACC_PSTK_ACC.at p] [.loom, .marks] s t) ∧
  (∀ (s : State) (p : Fin 6) (b : List Byte) (e : Bool) (d : Nat), s.rd (Reg.MAC_LINK_UP.at p) ≠ 0 → s.rd (Reg.MAC_CFG_MIN_FRAME.at p)
    ≤ b.length → b.length ≤ s.rd (Reg.MAC_CFG_MAX_FRAME.at p) → (beAt b 12 2 ≠ 0x8808 ∨ fcsOk b = false ∨ e = true) → s.ingressStopped
    = false → s.rd Reg.LOOM_CTRL_EN ≠ 0 → s.portMayTake p (cellsFor b.length) = true → 1 ≤ b.length → cellsFor b.length ≤
    s.freeCells.length → Answers (.macFrameEnd p b e d) s fun t =>
    t.loom.arrived.get [] p = s.loom.arrived.get [] p ++ [(t.loom.arrived.get [] p).getLastD 0] ∧
    (t.frame ((t.loom.arrived.get [] p).getLastD 0)).any (fun f => f.port == p.val && f.len == b.length && f.bad == e && f.copies == 0 && f.holders.isEmpty && f.cells.length == cellsFor b.length && f.dt == s.dtBack d && f.tda == s.domBack 0 d && f.tdb == s.domBack 1 d && f.ang == s.angBack d) = true ∧
    (((t.frame ((t.loom.arrived.get [] p).getLastD 0)).map (·.cells)).getD []).all (fun x => s.freeCells.contains x) = true ∧
    (e = true ∨ fcsOk b = false → bitOf (t.rd (Reg.MAC_PSTK_PSTK.at p)) 0 = true) ∧
    t.loom.egress = s.loom.egress ∧
    KeepsBut [Reg.MAC_PSTK_PSTK.at p, Reg.MAC_PSTK_ACC_PSTK_ACC.at p] [.loom, .mem, .free] s t) ∧
  (∀ (s : State) (p : Fin 6) (b : List Byte) (e : Bool) (d : Nat), s.rd (Reg.MAC_LINK_UP.at p) ≠ 0 → s.rd (Reg.MAC_CFG_MIN_FRAME.at p)
    ≤ b.length → b.length ≤ s.rd (Reg.MAC_CFG_MAX_FRAME.at p) → (beAt b 12 2 ≠ 0x8808 ∨ fcsOk b = false ∨ e = true) → s.ingressStopped
    = false → s.rd Reg.LOOM_CTRL_EN ≠ 0 → s.portMayTake p (cellsFor b.length) = false → Answers (.macFrameEnd p b e d) s fun t =>
    bitOf (t.rd (Reg.MAC_PSTK_PSTK.at p)) 3 = true ∧
    bitOf (t.rd (Reg.MAC_PSTK_ACC_PSTK_ACC.at p)) 3 = true ∧
    t.loom.frames = s.loom.frames ∧
    t.loom.arrived = s.loom.arrived ∧
    t.mem = s.mem) ∧
  (∀ (s : State) (p : Fin 6), s.rd (Reg.MAC_LINK_UP.at p) ≠ 0 → Answers (.frameTooLong p) s fun t =>
    bitOf (t.rd (Reg.MAC_PSTK_PSTK.at p)) 2 = true ∧
    bitOf (t.rd (Reg.MAC_PSTK_ACC_PSTK_ACC.at p)) 2 = true ∧
    KeepsBut [Reg.MAC_PSTK_PSTK.at p, Reg.MAC_PSTK_ACC_PSTK_ACC.at p] [] s t) ∧
  (∀ (s : State) (p : Fin 6) (b : List Byte) (d : Nat), Answers (.portCellExhausted p b d) s fun t =>
    bitOf (t.rd (Reg.MAC_PSTK_PSTK.at p)) 3 = true ∧
    bitOf (t.rd (Reg.MAC_PSTK_ACC_PSTK_ACC.at p)) 3 = true ∧
    t.loom.frames = s.loom.frames ∧
    (s.portHeld p + cellsFor b.length ≤ s.rd (Reg.LOOM_PORT_CELLS_MAX.at p) → t.rd Reg.LOOM_STAT_POOL_EMPTY = 1) ∧
    t.mem = s.mem) ∧
  (∀ (s : State) (p : Fin 6), s.passed (.pause p) ((s.eg p).quanta * 512 * 3000 / s.rateMbps p) = true → Answers (.pauseExpiry p) s fun
    t =>
    (t.eg p).paused = false ∧
    (t.eg p).quanta = 0 ∧
    (t.eg p).queues = (s.eg p).queues ∧
    (∀ x : Fin 6, x ≠ p → t.eg x = s.eg x) ∧
    Keeps [.loom] s t)

/-- FRAME_DECISION (R663, R666, R671, R672, R676, R680, R682): the oldest waiting frame of the port is decided and leaves the waiting
list; a frame with a bad FCS is dropped and its cells are freed; an untagged unicast frame for a station learned on one forwarding
member port is queued there once, in the class of the port's default priority, and nowhere else. -/
def Obligations.FrameDecision : Prop :=
  (∀ (s : State) (p : Fin 6) (x : Nat) (rest : List Nat) (f : LFrame), s.loom.arrived.get [] p = x :: rest → s.frame x = some f →
    Answers (.frameDecision p) s fun t =>
    t.loom.arrived.get [] p = rest ∧
    (∀ r : Fin 6, r ≠ p → t.loom.arrived.get [] r = s.loom.arrived.get [] r) ∧
    t.cycle = s.cycle ∧
    t.time = s.time) ∧
  (∀ (s : State) (p : Fin 6), s.loom.arrived.get [] p = [] → Answers (.frameDecision p) s fun t =>
    t = s) ∧
  (∀ (s : State) (p : Fin 6) (x : Nat) (rest : List Nat) (f : LFrame), s.loom.arrived.get [] p = x :: rest → s.frame x = some f →
    (f.bad = true ∨ fcsOk (s.frameBytes f) = false) → f.port = p → f.copies = 0 → f.holders = [] → x ∉ rest → Answers (.frameDecision
    p) s fun t =>
    t.frame x = none ∧
    t.loom.arrived.get [] p = rest ∧
    t.loom.egress = s.loom.egress ∧
    t.loom.fdb = s.loom.fdb ∧
    t.mem = s.mem) ∧
  (∀ (s : State) (p : Fin 6) (x : Nat) (rest : List Nat) (f : LFrame) (e : Fin 6), s.loom.arrived.get [] p = x :: rest → s.frame x =
    some f → f.bad = false → fcsOk (s.frameBytes f) = true → s.pairMode p = 0 → s.pairMode e = 0 → e ≠ p → (parseHdr (s.frameBytes
    f)).tci = none → bitOf ((parseHdr (s.frameBytes f)).dst / 2 ^ 40) 0 = false → (parseHdr (s.frameBytes f)).dst ≠ s.stationMac →
    (s.rd (Reg.LOOM_PORT_CFG_PVID.at p)) ≠ 0xFFF → s.rd (Reg.LOOM_PORT_CFG_ACCEPT.at p) ≠ 1 → bitOf (s.vlanMember (s.rd
    (Reg.LOOM_PORT_CFG_PVID.at p))) p = true → bitOf (s.vlanMember (s.rd (Reg.LOOM_PORT_CFG_PVID.at p))) e = true → s.rd
    (Reg.LOOM_PORT_CFG_STATE.at p) = 2 → s.rd (Reg.LOOM_PORT_CFG_STATE.at e) = 2 → s.rd (Reg.LOOM_PORT_CFG_LEARN.at p) = 0 → findEntry
    s.loom.groups (parseHdr (s.frameBytes f)).dst (s.rd (Reg.LOOM_PORT_CFG_PVID.at p)) = none → (findEntry s.loom.fdb (parseHdr
    (s.frameBytes f)).dst (s.rd (Reg.LOOM_PORT_CFG_PVID.at p))).map (·.ports) = some (2 ^ e.val) → s.portQueued e + f.cells.length ≤
    s.rd (Reg.LOOM_PORT_EGMAX_EGRESS_MAX.at e) → Answers (.frameDecision p) s fun t =>
    (t.frame x).map (·.copies) = some (f.copies + 1) ∧
    (t.eg e).queues.get [] (s.tcOf e (s.rd (Reg.LOOM_PORT_CFG_DEF_PRIO.at p))) = (s.eg e).queues.get [] (s.tcOf e (s.rd (Reg.LOOM_PORT_CFG_DEF_PRIO.at p))) ++ [{ first := x, untag := bitOf (s.vlanUntag (s.rd (Reg.LOOM_PORT_CFG_PVID.at p))) e, tc := s.tcOf e (s.rd (Reg.LOOM_PORT_CFG_DEF_PRIO.at p)) }] ∧
    (∀ r : Fin 6, r ≠ e → t.eg r = s.eg r) ∧
    t.loom.sets = s.loom.sets ∧
    t.loom.arrived.get [] p = rest)

/-- TRANSMIT_OPPORTUNITY and FRAME_TRANSMITTED (R683 to R685, R688, R689, R734 to R736, R740): with open gates and strict priority the
head of the highest queue that has a frame goes to the port's buffer from which it leaves with the clocks of its start-of-frame
delimiter; no frame goes while the link is down, the port is paused or both buffers are full; a head that does not fit its opening
window is dropped with GATE_HELD; a frame that has left is counted off, and its cells are freed where nothing else holds them. -/
def Obligations.FrameTransmission : Prop :=
  (∀ (s : State) (p : Fin 6) (o : BitVec 8) (q : Fin 8) (f : LFrame) (c : Copy) (r : List Copy), s.rd (Reg.LOOM_TG_CTRL_EN.at p) = 0 →
    s.rd (Reg.LOOM_AG_CTRL_EN.at p) = 0 → s.rd (Reg.MAC_LINK_UP.at p) ≠ 0 → (s.eg p).paused = false → (s.eg p).now.length < 2 → s.rd
    (Reg.LOOM_PORT_CFG_STRICT.at p) = 8 → (∀ u : Fin 8, q < u → (s.eg p).queues.get [] u = []) → (s.eg p).queues.get [] q = c :: r →
    s.frame c.first = some f → s.stateAllows p f = true → s.framePoisoned f = false → Answers (.transmitOpportunity p o) s fun t =>
    (t.eg p).now = (s.eg p).now ++ [{ copy := c }] ∧
    (t.eg p).queues.get [] q = r ∧
    (∀ u : Fin 8, u ≠ q → (t.eg p).queues.get [] u = (s.eg p).queues.get [] u) ∧
    (∀ x : Fin 6, x ≠ p → t.eg x = s.eg x) ∧
    t.loom.frames = s.loom.frames ∧
    Keeps [.loom] s t) ∧
  (∀ (s : State) (p : Fin 6) (o : BitVec 8), s.rd (Reg.LOOM_TG_CTRL_EN.at p) = 0 → s.rd (Reg.LOOM_AG_CTRL_EN.at p) = 0 → (s.rd
    (Reg.MAC_LINK_UP.at p) = 0 ∨ (s.eg p).paused = true ∨ 2 ≤ (s.eg p).now.length) → Answers (.transmitOpportunity p o) s fun t =>
    t = s) ∧
  (∀ (s : State) (p : Fin 6) (o : BitVec 8) (q : Fin 8) (f : LFrame) (c : Copy) (r : List Copy), (s.eg p).now = [] → (s.eg p).paused =
    true → o.getLsbD q = true → (∀ u : Fin 8, u ≠ q → (s.eg p).queues.get [] u = []) → (s.eg p).queues.get [] q = c :: r → s.frame
    c.first = some f → s.gateOpen p q = true → s.gateFits p q (txLen f c) = false → Answers (.transmitOpportunity p o) s fun t =>
    bitOf (t.rd (Reg.MAC_PSTK_PSTK.at p)) 7 = true ∧
    bitOf (t.rd (Reg.MAC_PSTK_ACC_PSTK_ACC.at p)) 7 = true ∧
    (t.eg p).queues.get [] q = r ∧
    (t.eg p).now = []) ∧
  (∀ (s : State) (p : Fin 6) (ov : Bool) (d : Nat) (n : TxNow) (r : List TxNow) (f : LFrame), (s.eg p).now = n :: r → s.frame
    n.copy.first = some f → Answers (.frameTransmitted p ov d) s fun t =>
    (t.eg p).now = r ∧
    (t.eg p).sent = s.txBytes p f (s.txStamp n d) ∧
    (t.eg p).queues = (s.eg p).queues ∧
    (ov = true → bitOf (t.rd (Reg.MAC_PSTK_PSTK.at p)) 7 = true) ∧
    (∀ x : Fin 6, x ≠ p → t.eg x = s.eg x)) ∧
  (∀ (s : State) (p : Fin 6) (ov : Bool) (d : Nat) (n : TxNow) (r : List TxNow) (f : LFrame), (s.eg p).now = n :: r → s.frame
    n.copy.first = some f → f.port < 6 → f.large = none → 2 ≤ f.copies → Answers (.frameTransmitted p ov d) s fun t =>
    (t.frame n.copy.first).map (·.copies) = some (f.copies - 1) ∧
    t.loom.sets = s.loom.sets) ∧
  (∀ (s : State) (p : Fin 6) (ov : Bool) (d : Nat) (n : TxNow) (r : List TxNow) (f : LFrame), (s.eg p).now = n :: r → s.frame
    n.copy.first = some f → f.port < 6 → f.large = none → f.copies = 1 → f.holders = [] → n.copy.first ∉ s.loom.arrived.get [] f.port →
    Answers (.frameTransmitted p ov d) s fun t =>
    t.frame n.copy.first = none ∧
    t.loom.sets = s.loom.sets) ∧
  (∀ (s : State) (p : Fin 6) (ov : Bool) (d : Nat), (s.eg p).now = [] → Answers (.frameTransmitted p ov d) s fun t =>
    t = s)

/-- Gate lists and bridging tables (R673, R675, R676, R686, R687, R690, R705): a list moves to its next entry or restarts with the
pending list, SWAP takes the administrative list to the next restart, ageing removes a learned entry that AGEING seconds have not
refreshed and no other, a look-up shows the entry, an insert and a delete change one entry, and a flush removes every learned one. -/
def Obligations.BridgingTables : Prop :=
  (∀ (s : State) (p : Fin 6), Answers (.timeGateEntryChange p false) s fun t =>
    t.rd (Reg.LOOM_TG_STAT_ENTRY.at p) = min (s.rd (Reg.LOOM_TG_STAT_ENTRY.at p) + 1) ((s.eg p).tg.ents.length - 1) % 512 ∧
    KeepsBut [Reg.LOOM_TG_STAT_ENTRY.at p] [] s t) ∧
  (∀ (s : State) (p : Fin 6) (g : GateList), (s.eg p).tgNext = some g → Answers (.timeGateEntryChange p true) s fun t =>
    (t.eg p).tg = g ∧
    (t.eg p).tgNext = none ∧
    t.rd (Reg.LOOM_TG_STAT_SWAP_PENDING.at p) = 0 ∧
    t.rd (Reg.LOOM_TG_STAT_ENTRY.at p) = 0 ∧
    KeepsBut [Reg.LOOM_TG_STAT_ENTRY.at p, Reg.LOOM_TG_STAT_SWAP_PENDING.at p] [.loom] s t) ∧
  (∀ (s : State) (p : Fin 6), Answers (.angleGateEntryChange p false) s fun t =>
    t.rd (Reg.LOOM_AG_STAT_ENTRY.at p) = min (s.rd (Reg.LOOM_AG_STAT_ENTRY.at p) + 1) ((s.eg p).ag.ents.length - 1) % 64 ∧
    KeepsBut [Reg.LOOM_AG_STAT_ENTRY.at p] [] s t) ∧
  (∀ (s : State) (p : Fin 6) (g : GateList), (s.eg p).ag.asrc = false → (s.eg p).agNext = some g → Answers (.angleGateEntryChange p
    true) s fun t =>
    (t.eg p).ag = g ∧
    (t.eg p).agNext = none ∧
    (t.eg p).agStart = s.ang ∧
    t.rd (Reg.LOOM_AG_STAT_SWAP_PENDING.at p) = 0 ∧
    t.rd (Reg.LOOM_AG_STAT_ENTRY.at p) = 0 ∧
    KeepsBut [Reg.LOOM_AG_STAT_ENTRY.at p, Reg.LOOM_AG_STAT_SWAP_PENDING.at p] [.loom] s t) ∧
  (∀ (s : State) (p : Fin 6), (s.eg p).ag.asrc = true → Answers (.angleGateEntryChange p true) s fun t =>
    t = s) ∧
  (∀ (s : State) (p : Fin 6), Answers (.tgSwap p) s fun t =>
    (t.eg p).tgNext = some (s.tgAdmin p) ∧
    (t.eg p).tg = (s.eg p).tg ∧
    t.rd (Reg.LOOM_TG_STAT_SWAP_PENDING.at p) = 1 ∧
    KeepsBut [Reg.LOOM_TG_STAT_SWAP_PENDING.at p] [.loom] s t) ∧
  (∀ (s : State) (p : Fin 6), Answers (.agSwap p) s fun t =>
    (t.eg p).agNext = some (s.agAdmin p) ∧
    (t.eg p).ag = (s.eg p).ag ∧
    t.rd (Reg.LOOM_AG_STAT_SWAP_PENDING.at p) = 1 ∧
    KeepsBut [Reg.LOOM_AG_STAT_SWAP_PENDING.at p] [.loom] s t) ∧
  (∀ (s : State) (mac : BitVec 48) (vid : BitVec 12) (e : FdbEntry), e ∈ s.loom.fdb → (s.aged e = false ∨ e.mac ≠ mac.toNat ∨ e.vid ≠
    vid.toNat) → Answers (.fdbAgeing mac vid) s fun t =>
    e ∈ t.loom.fdb ∧
    (∀ x ∈ t.loom.fdb, x ∈ s.loom.fdb ∧ (s.aged x = false ∨ x.mac ≠ mac.toNat ∨ x.vid ≠ vid.toNat)) ∧
    Keeps [.loom] s t) ∧
  (∀ (s : State) (g : Bool) (e : FdbEntry), findEntry (if g then s.loom.groups else s.loom.fdb) s.fdbMac s.fdbVid = some e → Answers
    (.fdbLookup g) s fun t =>
    t.rd Reg.LOOM_FDB_DATA_VALID = 1 ∧
    t.rd Reg.LOOM_FDB_DATA_PORTS = e.ports % 512 ∧
    t.rd Reg.LOOM_FDB_DATA_STATIC = b2n e.isStatic ∧
    KeepsBut [Reg.LOOM_FDB_DATA_VALID, Reg.LOOM_FDB_DATA_PORTS, Reg.LOOM_FDB_DATA_STATIC] [] s t) ∧
  (∀ (s : State) (g : Bool), findEntry (if g then s.loom.groups else s.loom.fdb) s.fdbMac s.fdbVid = none → Answers (.fdbLookup g) s
    fun t =>
    t.rd Reg.LOOM_FDB_DATA_VALID = 0 ∧
    KeepsBut [Reg.LOOM_FDB_DATA_VALID, Reg.LOOM_FDB_DATA_PORTS, Reg.LOOM_FDB_DATA_STATIC] [] s t) ∧
  (∀ (s : State) (g : Bool), (if g then (s.loom.groups.filter (fun x => !(x.mac == s.fdbMac && x.vid == s.fdbVid))).length < 1024 else
    (s.loom.fdb.filter (fun x => !(x.mac == s.fdbMac && x.vid == s.fdbVid) && Config.fdbBucket x.mac x.vid == Config.fdbBucket s.fdbMac
    s.fdbVid)).length < 4) → Answers (.fdbInsert g) s fun t =>
    findEntry (if g then t.loom.groups else t.loom.fdb) s.fdbMac s.fdbVid = some { mac := s.fdbMac, vid := s.fdbVid, ports := s.rd Reg.LOOM_FDB_DATA_PORTS, isStatic := g || decide (s.rd Reg.LOOM_FDB_DATA_STATIC ≠ 0), stamp := s.cycle } ∧
    (∀ e ∈ (if g then s.loom.groups else s.loom.fdb), e.mac ≠ s.fdbMac ∨ e.vid ≠ s.fdbVid → e ∈ (if g then t.loom.groups else t.loom.fdb)) ∧
    Keeps [.loom] s t) ∧
  (∀ (s : State) (g : Bool), Answers (.fdbDelete g) s fun t =>
    findEntry (if g then t.loom.groups else t.loom.fdb) s.fdbMac s.fdbVid = none ∧
    (∀ e ∈ (if g then s.loom.groups else s.loom.fdb), e.mac ≠ s.fdbMac ∨ e.vid ≠ s.fdbVid → e ∈ (if g then t.loom.groups else t.loom.fdb)) ∧
    Keeps [.loom] s t) ∧
  (∀ (s : State), Answers (.flushFdb) s fun t =>
    t.loom.fdb = s.loom.fdb.filter (·.isStatic) ∧
    t.loom.groups = s.loom.groups ∧
    t.loom.frames = s.loom.frames ∧
    Keeps [.loom] s t)

/-- The internal queues and the Bobbin (R659, R692, R693, R698, R702 to R704, R740): the pops give the oldest handle and completion
word and 0 of an empty queue, an allocation holds cells that were free or answers 0, a handle that the set does not hold sets
BAD_HANDLE, a free releases it, a transmission to one port queues it there; a record takes its slot and carries the losses, a full ring
stops or advances RD, a foreground request defers it, and the consuming read gives the record at RD. -/
def Obligations.QueuesAndBobbin : Prop :=
  (∀ (s : State) (q : Fin 6), Answers (.nqRxpop q) s fun t =>
    t.readData = BitVec.ofNat 32 ((s.qset q).rx.headD 0) ∧
    (t.qset q).rx = (s.qset q).rx.tail ∧
    (t.qset q).cq = (s.qset q).cq ∧
    (∀ r : Fin 6, r ≠ q → t.qset r = s.qset r) ∧
    Keeps [.loom, .readData] s t) ∧
  (∀ (s : State) (q : Fin 6), Answers (.nqCpop q) s fun t =>
    t.readData = BitVec.ofNat 32 ((s.qset q).cq.headD 0) ∧
    (t.qset q).cq = (s.qset q).cq.tail ∧
    (t.qset q).rx = (s.qset q).rx ∧
    Keeps [.loom, .readData] s t) ∧
  (∀ (s : State) (q : Fin 6), s.setMayTake q (s.rd (Reg.LOOM_NQ_ALLOCN_CELLS.at q)) = true → 1 ≤ s.rd (Reg.LOOM_NQ_ALLOCN_CELLS.at q) →
    s.rd (Reg.LOOM_NQ_ALLOCN_CELLS.at q) ≤ 36 → s.rd (Reg.LOOM_NQ_ALLOCN_CELLS.at q) ≤ s.freeCells.length → Answers (.nqAlloc q) s fun
    t =>
    t.readData.getLsbD 31 = true ∧
    (t.frame (fieldOf t.readData.toNat 17 14)).any (fun f => f.holders == [q.val] && f.cells.length == s.rd (Reg.LOOM_NQ_ALLOCN_CELLS.at q) && f.cells.all (fun x => s.freeCells.contains x)) = true ∧
    t.loom.sets = s.loom.sets ∧
    Keeps [.loom, .free, .readData] s t) ∧
  (∀ (s : State) (q : Fin 6), s.setMayTake q (s.rd (Reg.LOOM_NQ_ALLOCN_CELLS.at q)) = false → Answers (.nqAlloc q) s fun t =>
    t.readData = 0 ∧
    t.rd Reg.LOOM_STAT_POOL_EMPTY = (if q.val < 4 then s.rd Reg.LOOM_STAT_POOL_EMPTY else 1) ∧
    KeepsBut [Reg.LOOM_STAT_POOL_EMPTY] [.readData] s t) ∧
  (∀ (s : State) (q : Fin 6) (h : Word) (c : Instr), (c = .nqTx q h ∨ c = .nqFree q h) → s.heldFrame q h = none → Answers (c) s fun t =>
    t.rd Reg.LOOM_STAT_BAD_HANDLE = 1 ∧
    KeepsBut [Reg.LOOM_STAT_BAD_HANDLE] [] s t) ∧
  (∀ (s : State) (q : Fin 6) (h : Word) (f : LFrame), s.heldFrame q h = some f → s.frame f.first = some f → f.holders = [q.val] →
    f.copies = 0 → f.first ∉ s.loom.arrived.get [] f.port → Answers (.nqFree q h) s fun t =>
    t.frame f.first = none ∧
    t.loom.egress = s.loom.egress ∧
    Keeps [.loom] s t) ∧
  (∀ (s : State) (q : Fin 6) (h : Word) (f : LFrame) (e : Fin 6) (tc : Nat), s.heldFrame q h = some f → f.holders = [q.val] → s.rd
    (Reg.LOOM_NQ_TXCTL_PORTS.at q) = 2 ^ e.val → s.rd (Reg.LOOM_NQ_TXCTL_TC.at q) = tc → s.pairMode e = 0 → s.portQueued e +
    f.cells.length ≤ s.rd (Reg.LOOM_PORT_EGMAX_EGRESS_MAX.at e) → (∀ k : Fin 8, ∀ c ∈ (s.eg e).queues.get [] k, c.first ≠ f.first) →
    Answers (.nqTx q h) s fun t =>
    (t.frame f.first).map (fun g => (g.copies, g.holders, g.len)) = some (1, [], h.toNat % 2 ^ 14) ∧
    ((t.eg e).queues.get [] tc).map (·.first) = ((s.eg e).queues.get [] tc).map (·.first) ++ [f.first] ∧
    (∀ x : Fin 6, x ≠ e → t.eg x = s.eg x)) ∧
  (∀ (s : State) (fg : Bool), s.loom.bobFifo = [] → Answers (.bobbinRecordWrite fg) s fun t =>
    t = s) ∧
  (∀ (s : State) (r : BobRec) (rest : List BobRec), s.loom.bobFifo = r :: rest → s.mem.defer.get 0 256 < 64 → Answers
    (.bobbinRecordWrite true) s fun t =>
    t.loom = s.loom ∧
    t.mem.defer.get 0 256 = s.mem.defer.get 0 256 + 1 ∧
    t.mem.mem = s.mem.mem ∧
    Keeps [.mem] s t) ∧
  (∀ (s : State) (r : BobRec) (rest : List BobRec) (fg : Bool), s.loom.bobFifo = r :: rest → (fg = false ∨ 64 ≤ s.mem.defer.get 0 256)
    → s.loom.bobUsed < s.bobRecords → Answers (.bobbinRecordWrite fg) s fun t =>
    t.loom.bobFifo = rest ∧
    t.rd Reg.BOBBIN_WR_WR = (s.rd Reg.BOBBIN_WR_WR + 1) % s.bobRecords % 2 ^ Reg.BOBBIN_WR_WR.w ∧
    t.rd Reg.BOBBIN_RD_RD = s.rd Reg.BOBBIN_RD_RD ∧
    t.loom.bobUsed = s.loom.bobUsed + 1 ∧
    t.loom.bobLost = 0 ∧
    t.loom.bobSeq = (s.loom.bobSeq + 1) % 65536 ∧
    t.loom.frames = s.loom.frames) ∧
  (∀ (s : State) (r : BobRec) (rest : List BobRec) (fg : Bool), s.loom.bobFifo = r :: rest → (fg = false ∨ 64 ≤ s.mem.defer.get 0 256)
    → s.bobRecords ≤ s.loom.bobUsed → s.rd Reg.BOBBIN_CTRL_OVERWRITE = 0 → Answers (.bobbinRecordWrite fg) s fun t =>
    t.loom.bobFifo = rest ∧
    t.loom.bobUsed = s.loom.bobUsed ∧
    t.loom.bobLost = satInc 255 s.loom.bobLost ∧
    (s.rd Reg.BOBBIN_STAT_STOPPED = 0 → t.rd Reg.BOBBIN_STAT_STOPPED = 1 ∧ (t.tk.ring.head?).map (·.code) = some 0x0B03) ∧
    t.mem.mem = s.mem.mem) ∧
  (∀ (s : State) (r : BobRec) (rest : List BobRec) (fg : Bool), s.loom.bobFifo = r :: rest → (fg = false ∨ 64 ≤ s.mem.defer.get 0 256)
    → s.bobRecords ≤ s.loom.bobUsed → s.rd Reg.BOBBIN_CTRL_OVERWRITE ≠ 0 → Answers (.bobbinRecordWrite fg) s fun t =>
    t.loom.bobFifo = rest ∧
    t.loom.bobUsed = s.loom.bobUsed ∧
    t.rd Reg.BOBBIN_RD_RD = (s.rd Reg.BOBBIN_RD_RD + 1) % s.bobRecords % 2 ^ Reg.BOBBIN_RD_RD.w ∧
    t.rd Reg.BOBBIN_WR_WR = (s.rd Reg.BOBBIN_WR_WR + 1) % s.bobRecords % 2 ^ Reg.BOBBIN_WR_WR.w) ∧
  (∀ (s : State), s.loom.bobUsed = 0 → Answers (.bobbinRecord) s fun t =>
    t.od.answer.value = some (.bytes (List.replicate 128 0)) ∧
    t.od.answer.code = 0 ∧
    Keeps [.od] s t) ∧
  (∀ (s : State), s.loom.bobUsed ≠ 0 → Answers (.bobbinRecord) s fun t =>
    t.od.answer.value = some (.bytes ((List.range 128).map (fun i => s.pktByte (s.bobAddr (s.rd Reg.BOBBIN_RD_RD) + i)))) ∧
    t.rd Reg.BOBBIN_RD_RD = (s.rd Reg.BOBBIN_RD_RD + 1) % s.bobRecords % 2 ^ Reg.BOBBIN_RD_RD.w ∧
    t.loom.bobUsed = s.loom.bobUsed - 1 ∧
    t.rd Reg.BOBBIN_STAT_STOPPED = 0 ∧
    KeepsBut [Reg.BOBBIN_RD_RD, Reg.BOBBIN_STAT_STOPPED] [.od, .loom] s t)

/-- Links and 10BASE-T1L (R678, R722, R723, R725, R742, R751, R752): a link comes up with its speed and event 0x0C01, its loss empties
its queues, flushes what was learned on it and posts event 0x0B02, a mode is stored and takes the link down, a control word of SGMII
sets the refusals, a PSTK read returns and clears the events but those that meet it, and a cable diagnostic starts while the link is
down and shows its result. -/
def Obligations.LinksAndDiagnostics : Prop :=
  (∀ (s : State) (p : Fin 6) (m : Bool) (l : Bool), s.rd (Reg.MAC_CFG_MODE.at p) ≠ 0 → s.rd (Reg.MAC_LINK_UP.at p) = 0 → s.rd
    (Reg.MAC_LINK_SPEED_REFUSED.at p) = 0 → s.rd (Reg.MAC_LINK_HALF_REFUSED.at p) = 0 → (p.val ≠ 5 ∨ s.rd Reg.T1L_DIAG_BUSY = 0) →
    Answers (.linkUp p m l) s fun t =>
    t.rd (Reg.MAC_LINK_UP.at p) = 1 ∧
    t.rd (Reg.MAC_LINK_SPEED.at p) = speedCode p (s.rd (Reg.MAC_CFG_MODE.at p)) ∧
    (t.tk.ring.head?).map (fun e => (e.code, e.src, e.data)) = some (0x0C01, p.val, [speedCode p (s.rd (Reg.MAC_CFG_MODE.at p))]) ∧
    (p.val = 5 → t.rd Reg.T1L_STAT_MASTER = b2n m ∧ t.rd Reg.T1L_STAT_LEVEL_2V4 = b2n l) ∧
    KeepsBut [Reg.MAC_LINK_UP.at p, Reg.MAC_LINK_SPEED.at p, Reg.MAC_LINK_AN_DONE.at p, Reg.MAC_LINK_LOOP.at p, Reg.T1L_STAT_MASTER, Reg.T1L_STAT_LEVEL_2V4, Reg.HOSTPORT_INTSTAT_INTSTAT] [.tk, .jr, .gl, .marks] s t) ∧
  (∀ (s : State) (p : Fin 6), s.rd (Reg.MAC_LINK_UP.at p) ≠ 0 → Answers (.linkDown p) s fun t =>
    t.rd (Reg.MAC_LINK_UP.at p) = 0 ∧
    (t.eg p).queues = [] ∧
    (t.eg p).now = [] ∧
    t.loom.fdb = s.loom.fdb.filter (fun x => x.isStatic || !bitOf x.ports p) ∧
    bitOf t.loom.linkIrq p = true ∧
    bitOf (t.rd (Reg.MAC_PSTK_PSTK.at p)) 4 = true ∧
    (t.tk.ring.head?).map (fun e => (e.code, e.src)) = some (0x0B02, p.val) ∧
    (∀ x : Fin 6, x ≠ p → t.eg x = s.eg x)) ∧
  (∀ (s : State) (p : Fin 6), s.rd (Reg.MAC_LINK_UP.at p) = 0 → Answers (.linkDown p) s fun t =>
    t = s) ∧
  (∀ (s : State) (p : Fin 6) (m : Fin 4), modeListed p m = true → (s.netsOff = false ∨ m = 0) → Answers (.macModeWrite p m) s fun t =>
    t.rd (Reg.MAC_CFG_MODE.at p) = m ∧
    t.rd (Reg.MAC_LINK_HALF_REFUSED.at p) = 0 ∧
    t.rd (Reg.MAC_LINK_SPEED_REFUSED.at p) = 0 ∧
    t.rd (Reg.MAC_LINK_UP.at p) = 0 ∧
    (s.rd (Reg.MAC_LINK_UP.at p) = 0 → KeepsBut [Reg.MAC_CFG_MODE.at p, Reg.MAC_LINK_HALF_REFUSED.at p, Reg.MAC_LINK_SPEED_REFUSED.at p] [] s t)) ∧
  (∀ (s : State) (p : Fin 6) (m : Fin 4), modeListed p m = false → Answers (.macModeWrite p m) s fun t =>
    t = s) ∧
  (∀ (s : State) (p : Fin 4) (sl : Bool) (ha : Bool), s.rd (Reg.MAC_CFG_MODE.at p) = 1 → Answers (.phyControlWord p sl ha) s fun t =>
    t.rd (Reg.MAC_LINK_SPEED_REFUSED.at p) = b2n sl ∧
    t.rd (Reg.MAC_LINK_HALF_REFUSED.at p) = b2n ha ∧
    t.rd (Reg.MAC_LINK_AN_DONE.at p) = b2n (!(sl || ha)) ∧
    (sl = true ∨ ha = true → t.rd (Reg.MAC_LINK_UP.at p) = 0) ∧
    (sl = false → ha = false → KeepsBut [Reg.MAC_LINK_SPEED_REFUSED.at p, Reg.MAC_LINK_HALF_REFUSED.at p, Reg.MAC_LINK_AN_DONE.at p] [] s t)) ∧
  (∀ (s : State) (p : Fin 6) (k : Byte), Answers (.pstkRead p k) s fun t =>
    t.readData = BitVec.ofNat 32 (s.rd (Reg.MAC_PSTK_PSTK.at p)) ∧
    t.rd (Reg.MAC_PSTK_PSTK.at p) = k.toNat ∧
    t.rd (Reg.MAC_PSTK_ACC_PSTK_ACC.at p) = (s.rd (Reg.MAC_PSTK_ACC_PSTK_ACC.at p) ||| k.toNat) % 256 ∧
    KeepsBut [Reg.MAC_PSTK_PSTK.at p, Reg.MAC_PSTK_ACC_PSTK_ACC.at p] [.readData] s t) ∧
  (∀ (s : State) (c : Instr), (c = .t1lDiagRun ∨ (c = .autoDiag ∧ s.rd Reg.T1L_CFG_AUTO_DIAG ≠ 0 ∧ s.diagDue = true)) → s.rd
    (Reg.MAC_LINK_UP.at 5) = 0 → Answers (c) s fun t =>
    (t.rd Reg.T1L_DIAG_BUSY = 1 ∨ t.rd Reg.T1L_DIAG_BUSY = s.rd Reg.T1L_DIAG_BUSY) ∧
    (s.rd Reg.T1L_DIAG_BUSY = 0 → t.rd Reg.T1L_DIAG_BUSY = 1 ∧ t.loom.t1lDiag = some s.cycle) ∧
    (s.rd Reg.T1L_DIAG_BUSY ≠ 0 → t = s) ∧
    KeepsBut [Reg.T1L_DIAG_BUSY] [.loom] s t) ∧
  (∀ (s : State), s.rd (Reg.MAC_LINK_UP.at 5) ≠ 0 → Answers (.t1lDiagRun) s fun t =>
    t = s) ∧
  (∀ (s : State) (r : Fin 5) (d : Fin 2048), s.rd Reg.T1L_DIAG_BUSY ≠ 0 → Answers (.t1lDiagComplete r d) s fun t =>
    t.rd Reg.T1L_DIAG_BUSY = 0 ∧
    t.rd Reg.T1L_DIAG_RESULT = r ∧
    t.rd Reg.T1L_DIAG_DISTANCE = (if r = 1 ∨ r = 2 ∨ r = 3 then d.val else 0) ∧
    (r = 1 ∨ r = 2 ∨ r = 3 → (t.tk.ring.head?).map (fun e => (e.code, e.data)) = some (0x0C02, r.val :: evBytes 2 d)) ∧
    KeepsBut [Reg.T1L_DIAG_BUSY, Reg.T1L_DIAG_RESULT, Reg.T1L_DIAG_DISTANCE, Reg.HOSTPORT_INTSTAT_INTSTAT] [.tk, .jr, .gl, .marks] s t)

/-! ### CAN FD (chapter 13) and the RS-485 line measurement -/

/-- The states of a CAN channel (R770, R787, R790, R793, R808, R809, R811 to R813, R816): a start with rates in their intervals takes a
stopped or sleeping channel to SYNC with its counters at 0 and one without is refused, a stop waits for the frame in progress, bus idle
makes it ACTIVE, RECOVER and the end of the recovery return it from bus-off, sleep and its wakes, a receive error counts in REC, and a
bus fault and a dominant time-out are shown and posted. -/
def Obligations.CanStates : Prop :=
  (∀ (s : State) (n : Fin 2) (w : Writer), s.cnMayStart n w = true → (s.cnState n = 0 ∨ s.cnState n = 6) → s.netsOff = false → (s.role
    ≠ 3 ∨ s.owner = true) → (s.cnTiming n).ratesOk n = true → ((s.cnTiming n).rd (Reg.CAN_CTRL_TT.at n) = 0 ∨ (s.cnTiming n).ttStartOk
    n = true) → Answers (.canStart n w) s fun t =>
    t.cnState n = 1 ∧
    t.rd (Reg.CAN_ERR_TEC.at n) = 0 ∧
    t.rd (Reg.CAN_ERR_REC.at n) = 0 ∧
    t.rd (Reg.CAN_STAT_WARNING.at n) = 0 ∧
    t.cn n = { rate := 40000000 / (s.cnTiming n).nomBit n } ∧
    t.rd (Reg.CAN_TTSTAT_RUNNING.at n) = 0 ∧
    t.cn (1 - n) = s.cn (1 - n) ∧
    ((t.pow.canWake.get {} n).rate = 40000000 / (s.cnTiming n).nomBit n) ∧
    Keeps [.regs, .can, .pow] s t) ∧
  (∀ (s : State) (n : Fin 2) (w : Writer), s.cnMayStart n w = true → (s.cnState n = 0 ∨ s.cnState n = 6) → s.netsOff = false → (s.role
    ≠ 3 ∨ s.owner = true) → ((s.cnTiming n).ratesOk n = false ∨ ((s.cnTiming n).rd (Reg.CAN_CTRL_TT.at n) ≠ 0 ∧ (s.cnTiming
    n).ttStartOk n = false)) → Answers (.canStart n w) s fun t =>
    t.cnState n = s.cnState n ∧
    t.rd (Reg.CAN_STAT_CFG_REFUSED.at n) = 1 ∧
    t.can = s.can) ∧
  (∀ (s : State) (n : Fin 2) (w : Writer), (s.cnMayStart n w = false ∨ (s.cnState n ≠ 0 ∧ s.cnState n ≠ 6) ∨ s.netsOff = true ∨ (s.role
    = 3 ∧ s.owner = false)) → Answers (.canStart n w) s fun t =>
    t = s) ∧
  (∀ (s : State) (n : Fin 2), s.cnState n ≠ 0 → s.cnState n ≠ 6 → (s.cn n).attempt = none → Answers (.canStop n) s fun t =>
    t.cnState n = 0 ∧
    (t.cn n).openCell = none ∧
    (t.cn n).window = none ∧
    t.rd (Reg.CAN_TTSTAT_RUNNING.at n) = 0 ∧
    KeepsBut [Reg.CAN_STAT_STATE.at n, Reg.CAN_TTSTAT_RUNNING.at n] [.can] s t) ∧
  (∀ (s : State) (n : Fin 2) (a : CanAttempt), s.cnState n ≠ 0 → s.cnState n ≠ 6 → (s.cn n).attempt = some a → Answers (.canStop n) s
    fun t =>
    t.cn n = { s.cn n with stopReq := true } ∧
    Keeps [.can] s t) ∧
  (∀ (s : State) (n : Fin 2), s.cnState n = 1 → Answers (.canBusIdle n) s fun t =>
    t.cnState n = 2 ∧
    KeepsBut [Reg.CAN_STAT_STATE.at n] [] s t) ∧
  (∀ (s : State) (n : Fin 2), s.cnState n = 4 → Answers (.canRecover n) s fun t =>
    t.cnState n = 5 ∧
    KeepsBut [Reg.CAN_STAT_STATE.at n] [] s t) ∧
  (∀ (s : State) (n : Fin 2), s.cnState n = 5 → Answers (.canRecoveryComplete n) s fun t =>
    t.cnState n = 2 ∧
    t.rd (Reg.CAN_ERR_TEC.at n) = 0 ∧
    t.rd (Reg.CAN_ERR_REC.at n) = 0 ∧
    (t.tk.ring.head?).map (fun e => (e.code, e.src, e.data)) = some (0x0D02, n.val, evBytes 4 ((s.cycle - (s.cn n).busoffCycle) / 3000000)) ∧
    t.can = s.can ∧
    KeepsBut [Reg.CAN_STAT_STATE.at n, Reg.CAN_STAT_WARNING.at n, Reg.CAN_ERR_TEC.at n, Reg.CAN_ERR_REC.at n, Reg.HOSTPORT_INTSTAT_INTSTAT] [.tk, .jr, .gl, .marks] s t) ∧
  (∀ (s : State) (n : Fin 2), s.cnState n = 0 → Answers (.canSleep n) s fun t =>
    t.cnState n = 6 ∧
    (t.cn n).wakeErr = 0 ∧
    KeepsBut [Reg.CAN_STAT_STATE.at n] [.can] s t) ∧
  (∀ (s : State) (n : Fin 2) (c : CanWakeCause), s.cnState n = 6 → s.pstate ≠ 2 → s.detectorFed n = true → (s.canWakeOf n).wakes c =
    true → Answers (.canWake n c) s fun t =>
    t.cnState n = 0 ∧
    t.rd (Reg.CAN_STAT_WAKE_SEEN.at n) = 1 ∧
    (t.cn n).wakeErr = (s.canWakeOf n).errAfter c ∧
    KeepsBut [Reg.CAN_STAT_STATE.at n, Reg.CAN_STAT_WAKE_SEEN.at n] [.threads, .can] s t) ∧
  (∀ (s : State) (n : Fin 2) (c : CanWakeCause), s.cnState n = 6 → s.pstate ≠ 2 → s.detectorFed n = true → (s.canWakeOf n).wakes c =
    false → Answers (.canWake n c) s fun t =>
    t.cnState n = 6 ∧
    t.cn n = { s.cn n with wakeErr := (s.canWakeOf n).errAfter c } ∧
    t.cn (1 - n) = s.cn (1 - n) ∧
    Keeps [.can] s t) ∧
  (∀ (s : State) (n : Fin 2) (c : CanWakeCause), s.pstate = 2 → s.detectorFed n = true → (s.pow.canWake.get {} n).wakes c = false →
    Answers (.canWake n c) s fun t =>
    (t.pow.canWake.get {} n).err = (s.pow.canWake.get {} n).errAfter c ∧
    t.pstate = 2 ∧
    Keeps [.pow] s t) ∧
  (∀ (s : State) (n : Fin 2) (c : CanWakeCause), s.pstate = 2 → s.detectorFed n = true → (s.pow.canWake.get {} n).wakes c = true →
    s.bit Reg.BACKUP_WAKECFG_WSRC_EN n = true → s.pow.offWait = false → Answers (.canWake n c) s fun t =>
    t.pstate = 3) ∧
  (∀ (s : State) (n : Fin 2) (c : CanWakeCause), (s.detectorFed n = false ∨ (s.pstate ≠ 2 ∧ s.cnState n ≠ 6)) → Answers (.canWake n c)
    s fun t =>
    t = s) ∧
  (∀ (s : State) (n : Fin 2) (lec : Fin 7) (by8 : Bool), s.cnOnBus n = true → Answers (.canReceiveError n lec by8) s fun t =>
    t.rd (Reg.CAN_STAT_LEC.at n) = lec ∧
    t.rd (Reg.CAN_ERR_REC.at n) = min 255 (s.rd (Reg.CAN_ERR_REC.at n) + (if by8 then 8 else 1)) ∧
    t.rd (Reg.CAN_ERR_TEC.at n) = s.rd (Reg.CAN_ERR_TEC.at n) % 512 ∧
    t.can = s.can ∧
    KeepsBut [Reg.CAN_STAT_STATE.at n, Reg.CAN_STAT_WARNING.at n, Reg.CAN_STAT_LEC.at n, Reg.CAN_ERR_TEC.at n, Reg.CAN_ERR_REC.at n, Reg.HOSTPORT_INTSTAT_INTSTAT] [.tk, .jr, .gl, .marks] s t) ∧
  (∀ (s : State) (n : Fin 2), Answers (.txdTimeout n) s fun t =>
    t.rd (Reg.CAN_STAT_TXD_TIMEOUT.at n) = 1 ∧
    (t.tk.ring.head?).map (fun e => (e.code, e.src)) = some (0x0D05, n.val) ∧
    KeepsBut [Reg.CAN_STAT_TXD_TIMEOUT.at n, Reg.HOSTPORT_INTSTAT_INTSTAT] [.tk, .jr, .gl, .marks] s t) ∧
  (∀ (s : State) (n : Fin 2) (c : Fin 7), c ≠ 0 → s.rd (Reg.CAN_STAT_BUS_FAULT.at n) ≠ c.val → Answers (.busFault n c) s fun t =>
    t.rd (Reg.CAN_STAT_BUS_FAULT.at n) = c ∧
    (t.tk.ring.head?).map (fun e => (e.code, e.src, e.data)) = some (0x0D04, n.val, [c.val]) ∧
    KeepsBut [Reg.CAN_STAT_BUS_FAULT.at n, Reg.HOSTPORT_INTSTAT_INTSTAT] [.tk, .jr, .gl, .marks] s t) ∧
  (∀ (s : State) (n : Fin 2), s.passed (.busFault n) (1000 * msCycles) = true → Answers (.busFaultClear n) s fun t =>
    t.rd (Reg.CAN_STAT_BUS_FAULT.at n) = 0 ∧
    KeepsBut [Reg.CAN_STAT_BUS_FAULT.at n] [] s t) ∧
  (∀ (s : State) (n : Fin 2) (a : Int) (b : Int) (c : Nat), ((c = 4 ∧ s.rsDrives n = false ∧ (rsOver a || rsOver b) = true) ∨ (c = 3 ∧
    s.rsDrives n = true ∧ (a - b).natAbs < 1000 ∧ 3 ≤ (s.rsLine n).shorts) ∨ (c = 2 ∧ s.rsDrives n = false ∧ (rsOver a || rsOver b) =
    false ∧ a - b ≤ -200 ∧ 9 ≤ (s.rsLine n).reversed) ∨ (c = 1 ∧ s.rsDrives n = false ∧ (rsOver a || rsOver b) = false ∧ (a - b).natAbs
    ≤ 50 ∧ (s.rsLine n).normal = true ∧ 9 ≤ (s.rsLine n).opens)) → s.rd (rsFault n) ≠ c → Answers (.rs485LineMeasurement n a b) s fun t
    =>
    t.rd (rsFault n) = c ∧
    t.rd (if n = 0 then Reg.HEDDLE_RS485_STAT_SEEN0 else Reg.HEDDLE_RS485_STAT_SEEN1) = 1 ∧
    (t.tk.ring.head?).map (fun e => (e.code, e.src, e.data)) = some (0x1201, n.val, [c]) ∧
    (t.rsLine n).heldAt = s.cycle ∧
    (c = 4 → (t.ua n).onBus = false)) ∧
  (∀ (s : State) (n : Fin 2) (a : Int) (b : Int), ((s.rsDrives n = true ∧ 1000 ≤ (a - b).natAbs) ∨ (s.rsDrives n = false ∧ (rsOver a ||
    rsOver b) = false ∧ -200 < a - b ∧ 50 < (a - b).natAbs)) → Answers (.rs485LineMeasurement n a b) s fun t =>
    t.rd (rsFault n) = (if (s.rsLine n).heldAt + 3000000000 ≤ s.cycle then 0 else s.rd (rsFault n)) ∧
    (t.rsLine n).opens = 0 ∧
    (t.rsLine n).reversed = 0 ∧
    KeepsBut [rsFault n] [.hed] s t)

/-- Frames of a CAN channel (R775 to R777, R780, R782 to R789, R791, R792): a valid frame is stored in the lowest object that takes it
with its time stamp, counted in SEQ, and one that no object takes or a remote frame is only shown; TXSET and TXCANCEL set and clear the
request; an attempt starts with the pending object of the smallest key; its success clears the request and lowers TEC, its failure
raises TEC by 8 unless ISO 11898-1 exempts it, ends a one-shot request, and above 255 takes the channel off the bus; a configured
object refuses another configuration than DIR 0. -/
def Obligations.CanFrames : Prop :=
  (∀ (s : State) (n : Fin 2) (k : Fin 128) (f : CanFrame) (back : Nat), s.cnOnBus n = true → f.rtr = false → s.moMatch n f = some k →
    s.rd (Reg.CAN_CTRL_TT.at n) = 0 → (s.cn n).window = none → Answers (.canFrameReceived n f back) s fun t =>
    t.rd (Reg.CAN_MO_CTL_NEWDAT.at2 n k) = 1 ∧
    t.rd (Reg.CAN_MO_CTL_SEQ.at2 n k) = (s.rd (Reg.CAN_MO_CTL_SEQ.at2 n k) + 1) % 256 ∧
    t.rd (Reg.CAN_MO_CTL_RXDLC.at2 n k) = f.dlc ∧
    t.rd (Reg.CAN_MO_CTL_RXFDF.at2 n k) = b2n f.fdf ∧
    t.rd (Reg.CAN_MO_TS_TS.at2 n k) = s.cnTs back ∧
    t.rd (Reg.CAN_MO_ANG_ANG.at2 n k) = s.angBack back ∧
    (s.rd (Reg.CAN_MO_CTL_NEWDAT.at2 n k) ≠ 0 → t.rd (Reg.CAN_MO_CTL_LOST.at2 n k) = 1) ∧
    (∀ w : Fin 16, t.rd (moDataField n k w) = leValue (((f.data.take (dlcBytes f.fdf f.dlc) ++ List.replicate (64 - dlcBytes f.fdf f.dlc) 0).drop (4 * w)).take 4)) ∧
    t.can = s.can) ∧
  (∀ (s : State) (n : Fin 2) (f : CanFrame) (back : Nat), s.cnOnBus n = true → f.rtr = false → s.moMatch n f = none → s.rd
    (Reg.CAN_CTRL_TT.at n) = 0 → Answers (.canFrameReceived n f back) s fun t =>
    t.rd (Reg.CAN_STAT_UNMATCHED.at n) = 1 ∧
    t.can = s.can ∧
    (s.rd (Reg.CAN_ERR_REC.at n) ≤ 127 → t.rd (Reg.CAN_ERR_REC.at n) = s.rd (Reg.CAN_ERR_REC.at n) - 1) ∧
    (127 < s.rd (Reg.CAN_ERR_REC.at n) → 119 ≤ t.rd (Reg.CAN_ERR_REC.at n) ∧ t.rd (Reg.CAN_ERR_REC.at n) ≤ 127)) ∧
  (∀ (s : State) (n : Fin 2) (f : CanFrame) (back : Nat), s.cnOnBus n = true → f.rtr = true → Answers (.canFrameReceived n f back) s
    fun t =>
    t.rd (Reg.CAN_STAT_RTR_DROPPED.at n) = 1 ∧
    t.can = s.can ∧
    (∀ k : Fin 128, t.rd (Reg.CAN_MO_CTL_NEWDAT.at2 n k) = s.rd (Reg.CAN_MO_CTL_NEWDAT.at2 n k))) ∧
  (∀ (s : State) (n : Fin 2) (f : CanFrame) (back : Nat) (lec : Fin 7) (c : Instr), (c = .canFrameReceived n f back ∨ c =
    .canReceiveError n lec true) → s.cnOnBus n = false → Answers (c) s fun t =>
    t = s) ∧
  (∀ (s : State) (n : Fin 2) (k : Fin 128), s.rd (Reg.CAN_MO_CFG_DIR.at2 n k) = 2 → Answers (.txset n k) s fun t =>
    t.rd (Reg.CAN_MO_CTL_TXRQ.at2 n k) = 1 ∧
    KeepsBut [Reg.CAN_MO_CTL_TXRQ.at2 n k] [] s t) ∧
  (∀ (s : State) (n : Fin 2) (k : Fin 128), s.rd (Reg.CAN_MO_CFG_DIR.at2 n k) ≠ 2 → Answers (.txset n k) s fun t =>
    t.rd (Reg.CAN_STAT_CFG_REFUSED.at n) = 1 ∧
    KeepsBut [Reg.CAN_STAT_CFG_REFUSED.at n] [] s t) ∧
  (∀ (s : State) (n : Fin 2) (k : Fin 128), Answers (.txcancel n k) s fun t =>
    t.rd (Reg.CAN_MO_CTL_TXRQ.at2 n k) = 0 ∧
    t.rd (Reg.CAN_MO_CTL_HELD.at2 n k) = 0 ∧
    (t.cn n).attempt = (s.cn n).attempt.map (fun a => if a.mo = k.val then { a with cancelled := true } else a) ∧
    KeepsBut [Reg.CAN_MO_CTL_TXRQ.at2 n k, Reg.CAN_MO_CTL_HELD.at2 n k] [.can] s t) ∧
  (∀ (s : State) (n : Fin 2) (left : Nat) (j : Fin 128), s.cnOnBus n = true → (s.cn n).attempt = none → (s.cn n).stopReq = false → s.rd
    (Reg.CAN_CTRL_MON.at n) = 0 → s.pstate ≠ 6 → s.rd (Reg.CAN_CTRL_TT.at n) = 0 → s.moPending n j = true → Answers
    (.transmitAttemptStart n left) s fun t =>
    ((t.cn n).attempt.map (fun a => s.moPending n a.mo && decide (s.moKey n a.mo ≤ s.moKey n j) && a.frame == s.moFrame n a.mo && a.cell == none && !a.cancelled)) = some true ∧
    (t.cn n).stopReq = false ∧
    Keeps [.can] s t) ∧
  (∀ (s : State) (n : Fin 2) (left : Nat), (s.cnOnBus n = false ∨ (s.cn n).attempt ≠ none ∨ (s.cn n).stopReq = true ∨ s.rd
    (Reg.CAN_CTRL_MON.at n) ≠ 0 ∨ (s.pstate = 6 ∧ 3 ≤ s.sdStep)) → Answers (.transmitAttemptStart n left) s fun t =>
    t = s) ∧
  (∀ (s : State) (n : Fin 2) (back : Nat) (a : CanAttempt), (s.cn n).attempt = some a → a.mo < 128 → (s.cn n).stopReq = false → s.rd
    (Reg.CAN_CTRL_LOOPBACK.at n) = 0 → (s.role ≠ 3 ∨ s.peerHolds = false) → Answers (.transmitSuccess n back) s fun t =>
    t.rd (Reg.CAN_MO_CTL_TXRQ.at2 n a.mo) = 0 ∧
    t.rd (Reg.CAN_MO_CTL_HELD.at2 n a.mo) = 0 ∧
    t.rd (Reg.CAN_MO_CTL_TX_OK.at2 n a.mo) = 1 ∧
    t.rd (Reg.CAN_MO_TS_TS.at2 n a.mo) = s.cnTs back ∧
    t.rd (Reg.CAN_ERR_TEC.at n) = (s.rd (Reg.CAN_ERR_TEC.at n) - 1) % 512 ∧
    t.cn n = { s.cn n with attempt := none }) ∧
  (∀ (s : State) (n : Fin 2) (w : CanFail) (a : CanAttempt), (s.cn n).attempt = some a → a.mo < 128 → a.cell = none → (s.cn n).stopReq
    = false → w = .arbitration → a.cancelled = false → Answers (.transmitFailure n w) s fun t =>
    t.rd (Reg.CAN_ERR_TEC.at n) = s.rd (Reg.CAN_ERR_TEC.at n) % 512 ∧
    (t.cn n).attempt = none ∧
    (s.rd (Reg.CAN_MO_CFG_ONESHOT.at2 n a.mo) = 0 → t.rd (Reg.CAN_MO_CTL_TXRQ.at2 n a.mo) = s.rd (Reg.CAN_MO_CTL_TXRQ.at2 n a.mo)) ∧
    (s.rd (Reg.CAN_MO_CFG_ONESHOT.at2 n a.mo) ≠ 0 → t.rd (Reg.CAN_MO_CTL_TXRQ.at2 n a.mo) = 0 ∧ t.rd (Reg.CAN_MO_CTL_TX_FAIL.at2 n a.mo) = 1)) ∧
  (∀ (s : State) (n : Fin 2) (lec : Fin 7) (a : CanAttempt), (s.cn n).attempt = some a → a.mo < 128 → a.cell = none → (s.cn n).stopReq
    = false → s.rd (Reg.CAN_ERR_TEC.at n) + 8 ≤ 255 → a.cancelled = false → Answers (.transmitFailure n (.error lec false)) s fun t =>
    t.rd (Reg.CAN_ERR_TEC.at n) = s.rd (Reg.CAN_ERR_TEC.at n) + 8 ∧
    t.rd (Reg.CAN_STAT_LEC.at n) = lec ∧
    t.cn n = { s.cn n with attempt := none } ∧
    (s.cnState n = 2 → 128 ≤ s.rd (Reg.CAN_ERR_TEC.at n) + 8 → t.cnState n = 3)) ∧
  (∀ (s : State) (n : Fin 2) (lec : Fin 7) (a : CanAttempt), (s.cn n).attempt = some a → a.mo < 128 → a.cell = none → (s.cn n).stopReq
    = false → 247 < s.rd (Reg.CAN_ERR_TEC.at n) → s.rd (Reg.CAN_ERR_TEC.at n) < 256 → s.cnOnBus n = true → Answers (.transmitFailure n
    (.error lec false)) s fun t =>
    t.cnState n = (if s.rd (Reg.CAN_CTRL_AUTO_RECOVER.at n) ≠ 0 then 5 else 4) ∧
    t.rd (Reg.CAN_STAT_BUSOFF_SEEN.at n) = 1 ∧
    (t.cn n).busoffCycle = s.cycle ∧
    (t.cn n).attempt = none ∧
    (t.tk.ring.head?).map (fun e => (e.code, e.src)) = some (0x0D01, n.val)) ∧
  (∀ (s : State) (n : Fin 2) (lec : Fin 7) (a : CanAttempt), (s.cn n).attempt = some a → a.mo < 128 → a.cell = none → (s.cn n).stopReq
    = false → s.rd (Reg.CAN_ERR_TEC.at n) ≤ 255 → Answers (.transmitFailure n (.error lec true)) s fun t =>
    t.rd (Reg.CAN_ERR_TEC.at n) = s.rd (Reg.CAN_ERR_TEC.at n) ∧
    t.rd (Reg.CAN_STAT_LEC.at n) = lec ∧
    (t.cn n).attempt = none) ∧
  (∀ (s : State) (n : Fin 2) (k : Fin 128) (v : Word), s.rd (Reg.CAN_MO_CFG_DIR.at2 n k) = 0 → v.toNat % 4 ≠ 0 → v.toNat % 4 ≠ 3 →
    Answers (.moConfigWrite n k (.cfg v)) s fun t =>
    t.rd (Reg.CAN_MO_CFG_DIR.at2 n k) = v.toNat % 4 ∧
    t.rd (Reg.CAN_MO_CFG_IDE.at2 n k) = fieldOf v.toNat 2 1 ∧
    t.rd (Reg.CAN_MO_CFG_FDF.at2 n k) = fieldOf v.toNat 3 1 ∧
    t.rd (Reg.CAN_MO_CFG_DLC.at2 n k) = fieldOf v.toNat 5 4 ∧
    t.rd (Reg.CAN_MO_CFG_WAKE.at2 n k) = fieldOf v.toNat 11 1 ∧
    t.rd (Reg.CAN_MO_CFG_ONESHOT.at2 n k) = fieldOf v.toNat 9 1 ∧
    t.can = s.can) ∧
  (∀ (s : State) (n : Fin 2) (k : Fin 128) (v : Word), v.toNat % 4 = 0 → Answers (.moConfigWrite n k (.cfg v)) s fun t =>
    t.rd (Reg.CAN_MO_CFG_DIR.at2 n k) = 0 ∧
    t.rd (Reg.CAN_MO_CTL_TXRQ.at2 n k) = 0 ∧
    t.rd (Reg.CAN_MO_CTL_HELD.at2 n k) = 0) ∧
  (∀ (s : State) (n : Fin 2) (k : Fin 128) (v : Word) (w : MoWrite), s.rd (Reg.CAN_MO_CFG_DIR.at2 n k) ≠ 0 → (w = .id v ∨ (w = .cfg v ∧
    v.toNat % 4 ≠ 0)) → Answers (.moConfigWrite n k w) s fun t =>
    t.rd (Reg.CAN_STAT_CFG_REFUSED.at n) = 1 ∧
    KeepsBut [Reg.CAN_STAT_CFG_REFUSED.at n] [] s t) ∧
  (∀ (s : State) (n : Fin 2) (k : Fin 128) (v : Word), s.rd (Reg.CAN_MO_CFG_DIR.at2 n k) = 0 → Answers (.moConfigWrite n k (.id v)) s
    fun t =>
    t.rd (Reg.CAN_MO_ID_ID.at2 n k) = v.toNat % 2 ^ 29 ∧
    KeepsBut [Reg.CAN_MO_ID_ID.at2 n k] [] s t) ∧
  (∀ (s : State) (n : Fin 2) (k : Fin 128), Answers (.newdatClear n k) s fun t =>
    t.rd (Reg.CAN_MO_CTL_NEWDAT.at2 n k) = 0 ∧
    KeepsBut [Reg.CAN_MO_CTL_NEWDAT.at2 n k] [] s t)

/-- The time-triggered schedule (R794, R796, R798 to R800, R807): a cycle start takes column 0 of the next cycle, or of the cycle a
reference message names, with its exclusive or receive cell open, a column mark takes the next column and marks an unserved receive
window as missed, the end of a transmit window marks its cell and fails its object unless it is sent again, and a lost reference closes
the windows. -/
def Obligations.CanSchedule : Prop :=
  (∀ (s : State) (n : Fin 2) (cy : Option (Fin 64)), s.rd (Reg.CAN_CTRL_TT.at n) ≠ 0 → s.cnOnBus n = true → Answers (.ttCycleStart n
    cy) s fun t =>
    t.rd (Reg.CAN_TTSTAT_RUNNING.at n) = 1 ∧
    t.rd (Reg.CAN_TTSTAT_COLUMN.at n) = 0 ∧
    t.rd (Reg.CAN_TTSTAT_CYCLE.at n) = (match cy with | some c => c.val % s.ttCycles n | none => if s.rd (Reg.CAN_TTSTAT_RUNNING.at n) ≠ 0 then (s.rd (Reg.CAN_TTSTAT_CYCLE.at n) + 1) % s.ttCycles n else 0) % 64 ∧
    t.rd (Reg.CAN_STAT_REF_LOST.at n) = 0 ∧
    t.cnState n = s.cnState n) ∧
  (∀ (s : State) (n : Fin 2) (cy : Option (Fin 64)), (s.rd (Reg.CAN_CTRL_TT.at n) = 0 ∨ s.cnOnBus n = false) → Answers (.ttCycleStart n
    cy) s fun t =>
    t = s) ∧
  (∀ (s : State) (n : Fin 2) (k : Fin 128) (j : Nat), s.rd (Reg.CAN_TTSTAT_RUNNING.at n) ≠ 0 → s.rd (Reg.CAN_STAT_REF_LOST.at n) = 0 →
    s.cnOnBus n = true → (s.cn n).resuming = false → s.rd (Reg.CAN_TTSTAT_COLUMN.at n) + 1 = j → j < s.ttCols n → j < 32 → s.rd
    (Reg.CAN_TTSTAT_CYCLE.at n) < 64 → (s.cn n).openCell = none → (s.cn n).window = none → s.rd (Reg.CAN_CELL_TYPE.at2 n (32 * s.rd
    (Reg.CAN_TTSTAT_CYCLE.at n) + j)) = 1 → s.rd (Reg.CAN_CELL_MO.at2 n (32 * s.rd (Reg.CAN_TTSTAT_CYCLE.at n) + j)) = k → s.moPending
    n k = true → Answers (.ttColumnMark n) s fun t =>
    t.rd (Reg.CAN_TTSTAT_COLUMN.at n) = j ∧
    (t.cn n).openCell = some (32 * s.rd (Reg.CAN_TTSTAT_CYCLE.at n) + j, k.val) ∧
    KeepsBut [Reg.CAN_TTSTAT_COLUMN.at n] [.can, .marks] s t) ∧
  (∀ (s : State) (n : Fin 2) (c : Nat), s.rd (Reg.CAN_TTSTAT_RUNNING.at n) ≠ 0 → s.rd (Reg.CAN_STAT_REF_LOST.at n) = 0 → s.cnOnBus n =
    true → (s.cn n).resuming = false → s.rd (Reg.CAN_TTSTAT_COLUMN.at n) + 1 < s.ttCols n → (s.cn n).openCell = none → (s.cn n).window
    = some (c, false) → c < 2048 → Answers (.ttColumnMark n) s fun t =>
    t.rd (Reg.CAN_CELL_MISSED.at2 n c) = 1 ∧
    t.rd (Reg.CAN_STAT_MISSED_ANY.at n) = 1) ∧
  (∀ (s : State) (n : Fin 2), (s.rd (Reg.CAN_TTSTAT_RUNNING.at n) = 0 ∨ (s.cn n).resuming = true ∨ s.ttCols n ≤ s.rd
    (Reg.CAN_TTSTAT_COLUMN.at n) + 1) → Answers (.ttColumnMark n) s fun t =>
    t = s) ∧
  (∀ (s : State) (n : Fin 2) (c : Nat) (k : Fin 128), (s.cn n).openCell = some (c, k.val) → c < 2048 → s.passed (.ttMark n)
    (s.bitCycles n (s.rd (Reg.CAN_TTCFG_TX_WINDOW.at n) + 1)) = true → Answers (.ttTxWindowExpiry n) s fun t =>
    t.rd (Reg.CAN_CELL_MISSED.at2 n c) = 1 ∧
    t.rd (Reg.CAN_STAT_MISSED_ANY.at n) = 1 ∧
    (t.cn n).openCell = none ∧
    ((s.cn n).cell.resend = false → t.rd (Reg.CAN_MO_CTL_TXRQ.at2 n k) = 0 ∧ t.rd (Reg.CAN_MO_CTL_TX_FAIL.at2 n k) = 1) ∧
    ((s.cn n).cell.resend = true → t.rd (Reg.CAN_MO_CTL_TXRQ.at2 n k) = s.rd (Reg.CAN_MO_CTL_TXRQ.at2 n k))) ∧
  (∀ (s : State) (n : Fin 2), ((s.cn n).openCell = none ∨ s.passed (.ttMark n) (s.bitCycles n (s.rd (Reg.CAN_TTCFG_TX_WINDOW.at n) +
    1)) = false) → Answers (.ttTxWindowExpiry n) s fun t =>
    t = s) ∧
  (∀ (s : State) (n : Fin 2), s.rd (Reg.CAN_CTRL_TT.at n) ≠ 0 → s.cnOnBus n = true → s.rd (Reg.CAN_TTCFG_SRC.at n) = 0 → s.passed
    (.ttCycle n) (s.bitCycles n (s.rd (Reg.CAN_TTCYCBT_V.at n) + 16)) = true → Answers (.refLost n) s fun t =>
    t.rd (Reg.CAN_STAT_REF_LOST.at n) = 1 ∧
    t.cn n = { s.cn n with openCell := none, window := none } ∧
    KeepsBut [Reg.CAN_STAT_REF_LOST.at n] [.can] s t)

/-! ### Eurnafa (chapter 08) -/

/-- The instructions of two operands (R499, R501 to R507, R509, R518): with operands whose tags make a valid pair, or under UNCHK, ADD,
SUB, ADDS, SUBS, MUL, DIV, REM, CMP, MIN, MAX, AND, OR, XOR, TST, MAC and CLAMP give register D the result and the result's tag, write
exactly the flags of their rule, and go on at the next instruction; a register, an immediate and a word of memory serve as B; under
WIDE, ADD, SUB and CMP take register pairs; a FIX quotient that does not fit is a free value. -/
def Obligations.EurnafaArithmetic : Prop :=
  (∀ (s : State) (op : EurOp) (b : TWord × State) (tg : Tag), s.euIssues (wideDesc) op = true → eurHas op .wide = false → (s.fetched
    (wideDesc) op).sourceB op (immTag (s.euD op).tag) = some b → srcTrap op false (s.euD op) = 0 → srcTrap op false b.1 = 0 → resultTag
    op (addPair (s.euD op).tag b.1.tag) = some tg → Answers (.euAdd op) s fun t =>
    EuRan (b.2) t op { (((s.euThread op).put op.d ⟨tg, (addFlags (s.euD op).val b.1.val).1⟩).withFlags (addFlags (s.euD op).val b.1.val).2) with pc := s.euNext (wideDesc) op }) ∧
  (∀ (s : State) (op : EurOp) (b : TWord × State) (tg : Tag), s.euIssues (wideDesc) op = true → eurHas op .wide = false → (s.fetched
    (wideDesc) op).sourceB op (immTag (s.euD op).tag) = some b → srcTrap op false (s.euD op) = 0 → srcTrap op false b.1 = 0 → resultTag
    op (subPair (s.euD op).tag b.1.tag) = some tg → Answers (.euSub op) s fun t =>
    EuRan (b.2) t op { (((s.euThread op).put op.d ⟨tg, (subFlags (s.euD op).val b.1.val).1⟩).withFlags (subFlags (s.euD op).val b.1.val).2) with pc := s.euNext (wideDesc) op }) ∧
  (∀ (s : State) (op : EurOp), s.euIssues (wideDesc) op = true → eurHas op .wide = true → (unchecked op = true ∨ (wideTag (s.euD
    op).tag = true ∧ (s.greg op.thread (op.d + 1)).tag = (s.euD op).tag ∧ (s.euB op).tag = (s.euD op).tag ∧ (s.greg op.thread (bReg op
    + 1)).tag = (s.euD op).tag)) → Answers (.euAdd op) s fun t =>
    EuRan ((s.fetched (wideDesc) op)) t op { ((((s.euThread op).put op.d ⟨(if wideTag (s.euD op).tag then (s.euD op).tag else .bits), (addFlags (s.wideVal op.thread op.d) (s.wideVal op.thread (bReg op))).1.setWidth 32⟩).put (op.d + 1) ⟨(if wideTag (s.euD op).tag then (s.euD op).tag else .bits), ((addFlags (s.wideVal op.thread op.d) (s.wideVal op.thread (bReg op))).1 >>> 32).setWidth 32⟩).withFlags (addFlags (s.wideVal op.thread op.d) (s.wideVal op.thread (bReg op))).2) with pc := s.euNext (wideDesc) op }) ∧
  (∀ (s : State) (op : EurOp), s.euIssues (wideDesc) op = true → eurHas op .wide = true → (unchecked op = true ∨ (wideTag (s.euD
    op).tag = true ∧ (s.greg op.thread (op.d + 1)).tag = (s.euD op).tag ∧ (s.euB op).tag = (s.euD op).tag ∧ (s.greg op.thread (bReg op
    + 1)).tag = (s.euD op).tag)) → Answers (.euSub op) s fun t =>
    EuRan ((s.fetched (wideDesc) op)) t op { ((((s.euThread op).put op.d ⟨(if wideTag (s.euD op).tag then (s.euD op).tag else .bits), (subFlags (s.wideVal op.thread op.d) (s.wideVal op.thread (bReg op))).1.setWidth 32⟩).put (op.d + 1) ⟨(if wideTag (s.euD op).tag then (s.euD op).tag else .bits), ((subFlags (s.wideVal op.thread op.d) (s.wideVal op.thread (bReg op))).1 >>> 32).setWidth 32⟩).withFlags (subFlags (s.wideVal op.thread op.d) (s.wideVal op.thread (bReg op))).2) with pc := s.euNext (wideDesc) op }) ∧
  (∀ (s : State) (op : EurOp), s.euIssues (wideDesc) op = true → eurHas op .wide = true → (unchecked op = true ∨ (wideTag (s.euD
    op).tag = true ∧ (s.greg op.thread (op.d + 1)).tag = (s.euD op).tag ∧ (s.euB op).tag = (s.euD op).tag ∧ (s.greg op.thread (bReg op
    + 1)).tag = (s.euD op).tag)) → Answers (.euCmp op) s fun t =>
    EuRan ((s.fetched (wideDesc) op)) t op { ((s.euThread op).withFlags (if (if wideTag (s.euD op).tag then (s.euD op).tag else .bits) = Tag.bits then (⟨s.wideVal op.thread op.d == s.wideVal op.thread (bReg op), false, false, false⟩ : Flags) else (subFlags (s.wideVal op.thread op.d) (s.wideVal op.thread (bReg op))).2)) with pc := s.euNext (wideDesc) op }) ∧
  (∀ (s : State) (op : EurOp) (b : TWord × State) (tg : Tag), s.euIssues (aluDesc) op = true → (s.fetched (aluDesc) op).sourceB op
    (immTag (s.euD op).tag) = some b → srcTrap op false (s.euD op) = 0 → srcTrap op false b.1 = 0 → resultTag op (mulPair (s.euD
    op).tag b.1.tag) = some tg → Answers (.euAdds op) s fun t =>
    EuRan (b.2) t op { (((s.euThread op).put op.d ⟨tg, (satResult (s.euD op).tag (numOf (s.euD op).tag (s.euD op).val + numOf (s.euD op).tag b.1.val)).1⟩).withFlags { z := (satResult (s.euD op).tag (numOf (s.euD op).tag (s.euD op).val + numOf (s.euD op).tag b.1.val)).1 == 0, n := (satResult (s.euD op).tag (numOf (s.euD op).tag (s.euD op).val + numOf (s.euD op).tag b.1.val)).1.msb, c := (addFlags (s.euD op).val b.1.val).2.c, v := (satResult (s.euD op).tag (numOf (s.euD op).tag (s.euD op).val + numOf (s.euD op).tag b.1.val)).2 }) with pc := s.euNext (aluDesc) op }) ∧
  (∀ (s : State) (op : EurOp) (b : TWord × State) (tg : Tag), s.euIssues (aluDesc) op = true → (s.fetched (aluDesc) op).sourceB op
    (immTag (s.euD op).tag) = some b → srcTrap op false (s.euD op) = 0 → srcTrap op false b.1 = 0 → resultTag op (mulPair (s.euD
    op).tag b.1.tag) = some tg → Answers (.euSubs op) s fun t =>
    EuRan (b.2) t op { (((s.euThread op).put op.d ⟨tg, (satResult (s.euD op).tag (numOf (s.euD op).tag (s.euD op).val - numOf (s.euD op).tag b.1.val)).1⟩).withFlags { z := (satResult (s.euD op).tag (numOf (s.euD op).tag (s.euD op).val - numOf (s.euD op).tag b.1.val)).1 == 0, n := (satResult (s.euD op).tag (numOf (s.euD op).tag (s.euD op).val - numOf (s.euD op).tag b.1.val)).1.msb, c := (subFlags (s.euD op).val b.1.val).2.c, v := (satResult (s.euD op).tag (numOf (s.euD op).tag (s.euD op).val - numOf (s.euD op).tag b.1.val)).2 }) with pc := s.euNext (aluDesc) op }) ∧
  (∀ (s : State) (op : EurOp) (b : TWord × State) (tg : Tag), s.euIssues (aluDesc) op = true → (s.fetched (aluDesc) op).sourceB op
    (immTag (s.euD op).tag) = some b → srcTrap op false (s.euD op) = 0 → srcTrap op false b.1 = 0 → resultTag op (mulPair (s.euD
    op).tag b.1.tag) = some tg → Answers (.euMul op) s fun t =>
    EuRan (b.2) t op { (((s.euThread op).put op.d ⟨tg, BitVec.ofInt 32 (mulFull (s.euD op).tag b.1.tag (s.euD op).val b.1.val)⟩).withFlags { z := BitVec.ofInt 32 (mulFull (s.euD op).tag b.1.tag (s.euD op).val b.1.val) == 0, n := (BitVec.ofInt 32 (mulFull (s.euD op).tag b.1.tag (s.euD op).val b.1.val)).msb, c := (s.euThread op).c, v := !fitsTag (s.euD op).tag (mulFull (s.euD op).tag b.1.tag (s.euD op).val b.1.val) }) with pc := s.euNext (aluDesc) op }) ∧
  (∀ (s : State) (op : EurOp) (b : TWord × State) (tg : Tag), s.euIssues (divDesc) op = true → (s.fetched (divDesc) op).sourceB op
    (immTag (s.euD op).tag) = some b → srcTrap op false (s.euD op) = 0 → srcTrap op false b.1 = 0 → resultTag op (mulPair (s.euD
    op).tag b.1.tag) = some tg → b.1.val ≠ 0 → ((s.euD op).tag ≠ .fix ∨ fitsTag .fix (divFull (s.euD op).tag b.1.tag (s.euD op).val
    b.1.val) = true) → Answers (.euDiv op) s fun t =>
    EuRan (b.2) t op { ({ (s.euThread op).put op.d ⟨tg, BitVec.ofInt 32 (divFull (s.euD op).tag b.1.tag (s.euD op).val b.1.val)⟩ with v := (s.euThread op).v || !fitsTag (s.euD op).tag (divFull (s.euD op).tag b.1.tag (s.euD op).val b.1.val) } : Thread) with pc := s.euNext (divDesc) op }) ∧
  (∀ (s : State) (op : EurOp) (b : TWord × State) (tg : Tag), s.euIssues (divDesc) op = true → (s.fetched (divDesc) op).sourceB op
    (immTag (s.euD op).tag) = some b → srcTrap op false (s.euD op) = 0 → srcTrap op false b.1 = 0 → resultTag op (mulPair (s.euD
    op).tag b.1.tag) = some tg → b.1.val ≠ 0 → (s.euD op).tag = .fix → fitsTag .fix (divFull (s.euD op).tag b.1.tag (s.euD op).val
    b.1.val) = false → Answers (.euDiv op) s fun t =>
    t.thread op.thread = { (s.euThread op).put op.d ⟨tg, Config.freeWord b.2.free⟩ with pc := s.euNext divDesc op } ∧
    (∀ j : Fin 35, j ≠ op.thread → t.thread j = s.thread j) ∧
    Keeps [.threads, .free] b.2 t) ∧
  (∀ (s : State) (op : EurOp) (b : TWord × State) (tg : Tag), s.euIssues (divDesc) op = true → (s.fetched (divDesc) op).sourceB op
    (immTag (s.euD op).tag) = some b → srcTrap op false (s.euD op) = 0 → srcTrap op false b.1 = 0 → resultTag op (mulPair (s.euD
    op).tag b.1.tag) = some tg → b.1.val ≠ 0 → Answers (.euRem op) s fun t =>
    EuRan (b.2) t op { ((s.euThread op).put op.d ⟨tg, BitVec.ofInt 32 (remFull (s.euD op).tag b.1.tag (s.euD op).val b.1.val)⟩) with pc := s.euNext (divDesc) op }) ∧
  (∀ (s : State) (op : EurOp) (b : TWord × State) (tg : Tag), s.euIssues (wideDesc) op = true → eurHas op .wide = false → (s.fetched
    (wideDesc) op).sourceB op (immTag (s.euD op).tag) = some b → srcTrap op false (s.euD op) = 0 → srcTrap op false b.1 = 0 → resultTag
    op (cmpPair (s.euD op).tag b.1.tag) = some tg → Answers (.euCmp op) s fun t =>
    EuRan (b.2) t op { ((s.euThread op).withFlags (cmpFlags ((cmpKind (s.euD op).tag b.1.tag).getD .signed) (s.euD op) b.1)) with pc := s.euNext (wideDesc) op }) ∧
  (∀ (s : State) (op : EurOp) (b : TWord × State) (tg : Tag), s.euIssues (aluDesc) op = true → (s.fetched (aluDesc) op).sourceB op
    (immTag (s.euD op).tag) = some b → srcTrap op false (s.euD op) = 0 → srcTrap op false b.1 = 0 → resultTag op (minPair (s.euD
    op).tag b.1.tag) = some tg → Answers (.euMin op) s fun t =>
    EuRan (b.2) t op { ((s.euThread op).put op.d ⟨tg, if numOf (s.euD op).tag b.1.val < numOf (s.euD op).tag (s.euD op).val then b.1.val else (s.euD op).val⟩) with pc := s.euNext (aluDesc) op }) ∧
  (∀ (s : State) (op : EurOp) (b : TWord × State) (tg : Tag), s.euIssues (aluDesc) op = true → (s.fetched (aluDesc) op).sourceB op
    (immTag (s.euD op).tag) = some b → srcTrap op false (s.euD op) = 0 → srcTrap op false b.1 = 0 → resultTag op (minPair (s.euD
    op).tag b.1.tag) = some tg → Answers (.euMax op) s fun t =>
    EuRan (b.2) t op { ((s.euThread op).put op.d ⟨tg, if numOf (s.euD op).tag (s.euD op).val < numOf (s.euD op).tag b.1.val then b.1.val else (s.euD op).val⟩) with pc := s.euNext (aluDesc) op }) ∧
  (∀ (s : State) (op : EurOp) (b : TWord × State) (tg : Tag), s.euIssues (aluDesc) op = true → (s.fetched (aluDesc) op).sourceB op
    (immTag (s.euD op).tag) = some b → srcTrap op false (s.euD op) = 0 → srcTrap op false b.1 = 0 → resultTag op (logicPair (s.euD
    op).tag b.1.tag) = some tg → Answers (.euAnd op) s fun t =>
    EuRan (b.2) t op { (((s.euThread op).put op.d ⟨tg, (s.euD op).val &&& b.1.val⟩).withFlags (logicFlags ((s.euD op).val &&& b.1.val))) with pc := s.euNext (aluDesc) op }) ∧
  (∀ (s : State) (op : EurOp) (b : TWord × State) (tg : Tag), s.euIssues (aluDesc) op = true → (s.fetched (aluDesc) op).sourceB op
    (immTag (s.euD op).tag) = some b → srcTrap op false (s.euD op) = 0 → srcTrap op false b.1 = 0 → resultTag op (logicPair (s.euD
    op).tag b.1.tag) = some tg → Answers (.euOr op) s fun t =>
    EuRan (b.2) t op { (((s.euThread op).put op.d ⟨tg, (s.euD op).val ||| b.1.val⟩).withFlags (logicFlags ((s.euD op).val ||| b.1.val))) with pc := s.euNext (aluDesc) op }) ∧
  (∀ (s : State) (op : EurOp) (b : TWord × State) (tg : Tag), s.euIssues (aluDesc) op = true → (s.fetched (aluDesc) op).sourceB op
    (immTag (s.euD op).tag) = some b → srcTrap op false (s.euD op) = 0 → srcTrap op false b.1 = 0 → resultTag op (logicPair (s.euD
    op).tag b.1.tag) = some tg → Answers (.euXor op) s fun t =>
    EuRan (b.2) t op { (((s.euThread op).put op.d ⟨tg, (s.euD op).val ^^^ b.1.val⟩).withFlags (logicFlags ((s.euD op).val ^^^ b.1.val))) with pc := s.euNext (aluDesc) op }) ∧
  (∀ (s : State) (op : EurOp) (b : TWord × State) (tg : Tag), s.euIssues (aluDesc) op = true → (s.fetched (aluDesc) op).sourceB op
    (immTag (s.euD op).tag) = some b → srcTrap op false (s.euD op) = 0 → srcTrap op false b.1 = 0 → resultTag op (logicPair (s.euD
    op).tag b.1.tag) = some tg → Answers (.euTst op) s fun t =>
    EuRan (b.2) t op { ((s.euThread op).withFlags (logicFlags ((s.euD op).val &&& b.1.val))) with pc := s.euNext (aluDesc) op }) ∧
  (∀ (s : State) (op : EurOp) (b : TWord × State) (tg : Tag), s.euIssues (macDesc) op = true → (s.fetched (macDesc) op).sourceB op
    (immTag (s.euD op).tag) = some b → srcTrap op false (s.euD op) = 0 → srcTrap op false b.1 = 0 → resultTag op (macPair (s.euD
    op).tag b.1.tag) = some tg → Answers (.euMac op) s fun t =>
    EuRan (b.2) t op { ({ (s.euThread op) with acc := BitVec.ofInt 64 (clampInt (-(2 ^ 63 : Nat)) ((2 ^ 63 : Nat) - 1) ((s.euThread op).acc.toInt + (s.euD op).val.toInt * b.1.val.toInt * (if b.1.tag = .int then 65536 else 1))), v := (s.euThread op).v || decide (((s.euThread op).acc.toInt + (s.euD op).val.toInt * b.1.val.toInt * (if b.1.tag = .int then 65536 else 1)) ≠ clampInt (-(2 ^ 63 : Nat)) ((2 ^ 63 : Nat) - 1) ((s.euThread op).acc.toInt + (s.euD op).val.toInt * b.1.val.toInt * (if b.1.tag = .int then 65536 else 1))) } : Thread) with pc := s.euNext (macDesc) op }) ∧
  (∀ (s : State) (op : EurOp) (b : TWord × State) (tg : Tag), s.euIssues (macDesc) op = true → (s.fetched (macDesc) op).sourceB op
    (immTag (s.euD op).tag) = some b → srcTrap op false (s.euD op) = 0 → srcTrap op false b.1 = 0 → resultTag op (clampPair (s.euD
    op).tag b.1.tag) = some tg → Answers (.euClamp op) s fun t =>
    EuRan (b.2) t op { ((s.euThread op).put op.d ⟨tg, BitVec.ofInt 32 (clampInt (-((b.1.val.toInt.natAbs : Nat) : Int)) ((b.1.val.toInt.natAbs : Nat) : Int) (s.euD op).val.toInt)⟩) with pc := s.euNext (macDesc) op })

/-- The instructions on one register (R507 to R511, R514, R518): the shifts write the result and C alone, NEG, ABS, NOT, BSWAP, CLZ,
CVTF and CVTI give their results (the spec states none for the negative of −2^31: it is a free value), MOV copies any word but TRAP,
MKNIL, TAGOF, TAGEQ, RETAG and SETP handle tags and P, MACR gives the rounded accumulator and clears it (which way a tie goes is a free
choice), and CLRACC clears it. -/
def Obligations.EurnafaRegisters : Prop :=
  (∀ (s : State) (op : EurOp) (b : TWord × State) (tg : Tag), s.euIssues (shortDesc) op = true → (s.fetched (shortDesc) op).sourceB op
    .uint = some b → srcTrap op false (s.euD op) = 0 → srcTrap op false b.1 = 0 → resultTag op (if ((fun t : Tag => t == .bits || t ==
    .uint || t == .int) (s.euD op).tag) = true then some (s.euD op).tag else none) = some tg → Answers (.euShl op) s fun t =>
    EuRan (b.2) t op { ({ (s.euThread op).put op.d ⟨tg, (shiftOp 0 (s.euD op).val b.1.val.toNat).1⟩ with c := (shiftOp 0 (s.euD op).val b.1.val.toNat).2 } : Thread) with pc := s.euNext (shortDesc) op }) ∧
  (∀ (s : State) (op : EurOp) (b : TWord × State) (tg : Tag), s.euIssues (shortDesc) op = true → (s.fetched (shortDesc) op).sourceB op
    .uint = some b → srcTrap op false (s.euD op) = 0 → srcTrap op false b.1 = 0 → resultTag op (if ((fun t : Tag => t == .bits || t ==
    .uint || t == .int) (s.euD op).tag) = true then some (s.euD op).tag else none) = some tg → Answers (.euShr op) s fun t =>
    EuRan (b.2) t op { ({ (s.euThread op).put op.d ⟨tg, (shiftOp 1 (s.euD op).val b.1.val.toNat).1⟩ with c := (shiftOp 1 (s.euD op).val b.1.val.toNat).2 } : Thread) with pc := s.euNext (shortDesc) op }) ∧
  (∀ (s : State) (op : EurOp) (b : TWord × State) (tg : Tag), s.euIssues (shortDesc) op = true → (s.fetched (shortDesc) op).sourceB op
    .uint = some b → srcTrap op false (s.euD op) = 0 → srcTrap op false b.1 = 0 → resultTag op (if ((fun t : Tag => t == .int) (s.euD
    op).tag) = true then some (s.euD op).tag else none) = some tg → Answers (.euSar op) s fun t =>
    EuRan (b.2) t op { ({ (s.euThread op).put op.d ⟨tg, (shiftOp 2 (s.euD op).val b.1.val.toNat).1⟩ with c := (shiftOp 2 (s.euD op).val b.1.val.toNat).2 } : Thread) with pc := s.euNext (shortDesc) op }) ∧
  (∀ (s : State) (op : EurOp) (b : TWord × State) (tg : Tag), s.euIssues (shortDesc) op = true → (s.fetched (shortDesc) op).sourceB op
    .uint = some b → srcTrap op false (s.euD op) = 0 → srcTrap op false b.1 = 0 → resultTag op (if ((fun t : Tag => t == .bits || t ==
    .uint) (s.euD op).tag) = true then some (s.euD op).tag else none) = some tg → Answers (.euRol op) s fun t =>
    EuRan (b.2) t op { ({ (s.euThread op).put op.d ⟨tg, (shiftOp 3 (s.euD op).val b.1.val.toNat).1⟩ with c := (shiftOp 3 (s.euD op).val b.1.val.toNat).2 } : Thread) with pc := s.euNext (shortDesc) op }) ∧
  (∀ (s : State) (op : EurOp), s.euIssues (dDesc) op = true → srcTrap op false (s.euD op) = 0 → (((fun t : Tag => t == .int || t ==
    .fix) (s.euD op).tag) = true ∨ unchecked op = true) → (s.euD op).val ≠ 0x80000000 → Answers (.euNeg op) s fun t =>
    EuRan ((s.fetched (dDesc) op)) t op { ((s.euThread op).put op.d ⟨(if (fun t : Tag => t == .int || t == .fix) (s.euD op).tag then (s.euD op).tag else .bits), -(s.euD op).val⟩) with pc := s.euNext (dDesc) op }) ∧
  (∀ (s : State) (op : EurOp), s.euIssues (dDesc) op = true → srcTrap op false (s.euD op) = 0 → ((s.euD op).tag = .int ∨ (s.euD op).tag
    = .fix ∨ unchecked op = true) → (s.euD op).val = 0x80000000 → Answers (.euNeg op) s fun t =>
    (∀ j : Fin 35, j ≠ op.thread → t.thread j = s.thread j) ∧
    t.thread op.thread = { (s.euThread op).put op.d ⟨if (s.euD op).tag = .int ∨ (s.euD op).tag = .fix then (s.euD op).tag else .bits, Config.freeWord (s.fetched (dDesc) op).free⟩ with pc := s.euNext dDesc op } ∧
    Keeps [.threads, .free] (s.fetched (dDesc) op) t) ∧
  (∀ (s : State) (op : EurOp), s.euIssues (dDesc) op = true → srcTrap op false (s.euD op) = 0 → (((fun t : Tag => t == .int || t ==
    .fix) (s.euD op).tag) = true ∨ unchecked op = true) → Answers (.euAbs op) s fun t =>
    EuRan ((s.fetched (dDesc) op)) t op { ({ ((s.euThread op).put op.d ⟨(if (fun t : Tag => t == .int || t == .fix) (s.euD op).tag then (s.euD op).tag else .bits), if (s.euD op).val.msb then -(s.euD op).val else (s.euD op).val⟩) with v := (s.euThread op).v || ((s.euD op).val == 0x80000000) } : Thread) with pc := s.euNext (dDesc) op }) ∧
  (∀ (s : State) (op : EurOp), s.euIssues (dDesc) op = true → srcTrap op false (s.euD op) = 0 → (((fun t : Tag => t == .bits || t ==
    .uint || t == .bool) (s.euD op).tag) = true ∨ unchecked op = true) → Answers (.euNot op) s fun t =>
    EuRan ((s.fetched (dDesc) op)) t op { (((s.euThread op).put op.d ⟨(if (fun t : Tag => t == .bits || t == .uint || t == .bool) (s.euD op).tag then (s.euD op).tag else .bits), if (if (fun t : Tag => t == .bits || t == .uint || t == .bool) (s.euD op).tag then (s.euD op).tag else .bits) = .bool then 1 - (s.euD op).val else ~~~(s.euD op).val⟩).withFlags (logicFlags (if (if (fun t : Tag => t == .bits || t == .uint || t == .bool) (s.euD op).tag then (s.euD op).tag else .bits) = .bool then 1 - (s.euD op).val else ~~~(s.euD op).val))) with pc := s.euNext (dDesc) op }) ∧
  (∀ (s : State) (op : EurOp), s.euIssues (dDesc) op = true → srcTrap op false (s.euD op) = 0 → (((fun t : Tag => t == .bits || t ==
    .uint) (s.euD op).tag) = true ∨ unchecked op = true) → Answers (.euBswap op) s fun t =>
    EuRan ((s.fetched (dDesc) op)) t op { ((s.euThread op).put op.d ⟨(if (fun t : Tag => t == .bits || t == .uint) (s.euD op).tag then (s.euD op).tag else .bits), BitVec.ofNat 32 (leValue (leBytes 4 (s.euD op).val.toNat).reverse)⟩) with pc := s.euNext (dDesc) op }) ∧
  (∀ (s : State) (op : EurOp), s.euIssues (dDesc) op = true → srcTrap op false (s.euD op) = 0 → (((fun t : Tag => t == .bits || t ==
    .uint) (s.euD op).tag) = true ∨ unchecked op = true) → Answers (.euClz op) s fun t =>
    EuRan ((s.fetched (dDesc) op)) t op { ((s.euThread op).put op.d ⟨.uint, BitVec.ofNat 32 (leadingZeros (s.euD op).val)⟩) with pc := s.euNext (dDesc) op }) ∧
  (∀ (s : State) (op : EurOp), s.euIssues (dDesc) op = true → srcTrap op false (s.euD op) = 0 → (((fun t : Tag => t == .int) (s.euD
    op).tag) = true ∨ unchecked op = true) → Answers (.euCvtf op) s fun t =>
    EuRan ((s.fetched (dDesc) op)) t op { ({ ((s.euThread op).put op.d ⟨.fix, (satResult .fix ((s.euD op).val.toInt * 65536)).1⟩) with v := (s.euThread op).v || (satResult .fix ((s.euD op).val.toInt * 65536)).2 } : Thread) with pc := s.euNext (dDesc) op }) ∧
  (∀ (s : State) (op : EurOp), s.euIssues (dDesc) op = true → srcTrap op false (s.euD op) = 0 → (((fun t : Tag => t == .fix) (s.euD
    op).tag) = true ∨ unchecked op = true) → Answers (.euCvti op) s fun t =>
    EuRan ((s.fetched (dDesc) op)) t op { ((s.euThread op).put op.d ⟨.int, BitVec.ofInt 32 ((s.euD op).val.toInt.tdiv 65536)⟩) with pc := s.euNext (dDesc) op }) ∧
  (∀ (s : State) (op : EurOp), s.euIssues (dDesc) op = true → Answers (.euMknil op) s fun t =>
    EuRan ((s.fetched (dDesc) op)) t op { ((s.euThread op).put op.d TWord.nilWord) with pc := s.euNext (dDesc) op }) ∧
  (∀ (s : State) (op : EurOp) (b : TWord × State), s.euIssues (movDesc) op = true → eurHas op .wide = false → (s.fetched (movDesc)
    op).sourceB op .int = some b → (b.1.tag ≠ .trap ∨ unchecked op = true) → Answers (.euMov op) s fun t =>
    EuRan (b.2) t op { ((s.euThread op).put op.d b.1) with pc := s.euNext (movDesc) op }) ∧
  (∀ (s : State) (op : EurOp), s.euIssues (movDesc) op = true → eurHas op .wide = true → (unchecked op = true ∨ ((s.euB op).tag ≠ .trap
    ∧ (s.greg op.thread (bReg op + 1)).tag = (s.euB op).tag)) → Answers (.euMov op) s fun t =>
    EuRan ((s.fetched (movDesc) op)) t op { (((s.euThread op).put op.d (s.euB op)).put (op.d + 1) ⟨(s.euB op).tag, (s.greg op.thread (bReg op + 1)).val⟩) with pc := s.euNext (movDesc) op }) ∧
  (∀ (s : State) (op : EurOp), s.euIssues (regDesc) op = true → Answers (.euTagof op) s fun t =>
    EuRan ((s.fetched (regDesc) op)) t op { ((s.euThread op).put op.d ⟨.uint, BitVec.ofNat 32 (s.euB op).tag.toCode⟩) with pc := s.euNext (regDesc) op }) ∧
  (∀ (s : State) (op : EurOp), s.euIssues (imm8Desc) op = true → op.ext.toNat % 256 < 16 → Answers (.euTageq op) s fun t =>
    EuRan ((s.fetched (imm8Desc) op)) t op { ({ (s.euThread op) with p := (s.euD op).tag.toCode == op.ext.toNat % 16 } : Thread) with pc := s.euNext (imm8Desc) op }) ∧
  (∀ (s : State) (op : EurOp), s.euIssues (imm8Desc) op = true → Tag.ofCode op.ext.toNat ≠ .reserved → srcTrap op true (s.euD op) = 0 →
    (retagPath (s.euD op).tag (Tag.ofCode op.ext.toNat) = true ∨ unchecked op = true) → Answers (.euRetag op) s fun t =>
    EuRan ((s.fetched (imm8Desc) op)) t op { ((s.euThread op).put op.d ⟨Tag.ofCode op.ext.toNat, (s.euD op).val⟩) with pc := s.euNext (imm8Desc) op }) ∧
  (∀ (s : State) (op : EurOp), s.euIssues (dDesc) op = true → op.d.val ≤ 16 → Answers (.euSetp op) s fun t =>
    EuRan ((s.fetched (dDesc) op)) t op { ({ (s.euThread op) with p := (condHolds op.d (s.euThread op).flags (s.euThread op).p).getD false } : Thread) with pc := s.euNext (dDesc) op }) ∧
  (∀ (s : State) (op : EurOp), s.euIssues (macrDesc) op = true → (s.euThread op).acc.toInt % 65536 ≠ 32768 → Answers (.euMacr op) s fun
    t =>
    EuRan ((s.fetched (macrDesc) op)) t op { ({ (s.euThread op).put op.d ⟨.fix, (satResult .fix (((s.euThread op).acc.toInt + 32768) / 65536)).1⟩ with acc := 0 } : Thread) with pc := s.euNext (macrDesc) op }) ∧
  (∀ (s : State) (op : EurOp), s.euIssues (macrDesc) op = true → (s.euThread op).acc.toInt % 65536 = 32768 → Answers (.euMacr op) s fun
    t =>
    (t.thread op.thread = { (s.euThread op).put op.d ⟨.fix, (satResult .fix ((s.euThread op).acc.toInt / 65536)).1⟩ with acc := 0, pc := s.euNext macrDesc op } ∨ t.thread op.thread = { (s.euThread op).put op.d ⟨.fix, (satResult .fix ((s.euThread op).acc.toInt / 65536 + 1)).1⟩ with acc := 0, pc := s.euNext macrDesc op }) ∧
    (∀ j : Fin 35, j ≠ op.thread → t.thread j = s.thread j) ∧
    Keeps [.threads, .free] (s.fetched (macrDesc) op) t) ∧
  (∀ (s : State) (op : EurOp), s.euIssues (clraccDesc) op = true → Answers (.euClracc op) s fun t =>
    EuRan ((s.fetched (clraccDesc) op)) t op { ({ (s.euThread op) with acc := 0 } : Thread) with pc := s.euNext (clraccDesc) op })

/-- The instructions on memory (R481, R489, R497, R498, R500, R511 to R513, R519, R520, R523): LD and POP give a register the word with
its tag, ST and PUSH store it, LDP, LDPH, STP and STPH move bytes of packet memory, XCHG, XADD and CAS read and write one word at once
and set P, and COPYW, FILLW, COPYP and CRC32C do one step and move their pointers, under REP once for each count of G29. The stored
word holds the value and every other word keeps its own. -/
def Obligations.EurnafaMemory : Prop :=
  (∀ (s : State) (op : EurOp) (a : Nat) (w : TWord × State), s.euIssues (ldDesc) op = true → eurHas op .wide = false → (s.fetched
    (ldDesc) op).tagAddr op 1 = some a → (s.fetched (ldDesc) op).tagWord op a = some w → Answers (.euLd op) s fun t =>
    EuRan (w.2) t op { ((s.euThread op).put op.d w.1) with pc := s.euNext (ldDesc) op }) ∧
  (∀ (s : State) (op : EurOp) (a : Nat) (w : TWord × State) (x : TWord × State), s.euIssues (ldDesc) op = true → eurHas op .wide = true
    → (s.fetched (ldDesc) op).tagAddr op 2 = some a → (s.fetched (ldDesc) op).tagWord op a = some w → w.2.tagWord op (a + 1) = some x →
    Answers (.euLd op) s fun t =>
    EuRan (x.2) t op { (((s.euThread op).put op.d w.1).put (op.d + 1) x.1) with pc := s.euNext (ldDesc) op }) ∧
  (∀ (s : State) (op : EurOp) (a : Nat) (w : TWord), s.euIssues (stDesc) op = true → eurHas op .wide = false → w = (if op.mode = .mi
    then immOf op .int else s.euD op) → (w.tag ≠ .trap ∨ unchecked op = true) → (s.fetched (stDesc) op).tagAddr op 1 = some a →
    s.bankBusy (placeOf op a).1 = false → collides op = false → (s.fetched (stDesc) op).rd Reg.MEM_INJ_ARM = 0 → Answers (.euSt op) s
    fun t =>
    (∀ j : Fin 35, j ≠ op.thread → t.thread j = s.thread j) ∧
    t.mem = { (s.fetched (stDesc) op).mem with mem := t.mem.mem } ∧
    Keeps [.threads, .mem] (s.fetched (stDesc) op) t ∧
    t.word (placeOf op a).1 (placeOf op a).2 = { tag := if (w).tag = .reserved then .bits else (w).tag, val := (w).val.setWidth 64 } ∧
    (∀ (c : Fin 26) (o : Fin 65536), (c.val, o.val) ≠ placeOf op a → t.word c o = (s.fetched (stDesc) op).word c o) ∧
    t.thread op.thread = { (s.euThread op) with pc := s.euNext (stDesc) op }) ∧
  (∀ (s : State) (op : EurOp) (a : Nat) (w : TWord) (x : TWord), s.euIssues (stDesc) op = true → eurHas op .wide = true → w = s.euD op
    → x = s.greg op.thread (op.d + 1) → ((w.tag ≠ .trap ∧ x.tag = w.tag) ∨ unchecked op = true) → (s.fetched (stDesc) op).tagAddr op 2
    = some a → s.bankBusy (placeOf op a).1 = false → s.bankBusy (placeOf op (a + 1)).1 = false → collides op = false → (s.fetched
    (stDesc) op).rd Reg.MEM_INJ_ARM = 0 → Answers (.euSt op) s fun t =>
    t.word (placeOf op a).1 (placeOf op a).2 = { tag := if w.tag = .reserved then .bits else w.tag, val := w.val.setWidth 64 } ∧
    t.word (placeOf op (a + 1)).1 (placeOf op (a + 1)).2 = { tag := if x.tag = .reserved then .bits else x.tag, val := x.val.setWidth 64 } ∧
    (∀ (c : Fin 26) (o : Fin 65536), (c.val, o.val) ≠ placeOf op a → (c.val, o.val) ≠ placeOf op (a + 1) → t.word c o = (s.fetched (stDesc) op).word c o) ∧
    t.thread op.thread = { (s.euThread op) with pc := s.euNext stDesc op } ∧
    (∀ j : Fin 35, j ≠ op.thread → t.thread j = s.thread j) ∧
    Keeps [.threads, .mem] (s.fetched (stDesc) op) t) ∧
  (∀ (s : State) (op : EurOp) (a : Nat) (w : TWord), s.euIssues (stDesc) op = true → eurHas op .wide = false → w = (if op.mode = .mi
    then immOf op .int else s.euD op) → (w.tag ≠ .trap ∨ unchecked op = true) → (s.fetched (stDesc) op).tagAddr op 1 = some a →
    s.bankBusy (placeOf op a).1 = false → collides op = true → Answers (.euSt op) s fun t =>
    t.thread op.thread = { (s.euThread op) with pc := s.euNext stDesc op } ∧
    (∀ j : Fin 35, j ≠ op.thread → t.thread j = s.thread j) ∧
    t.mem.mem = s.mem.mem ∧
    t.rd (Reg.MEM_BANK_STAT_COLL.at (placeOf op a).1) = 1) ∧
  (∀ (s : State) (op : EurOp), s.euIssues (dDesc) op = true → (s.euD op).tag ≠ .trap → (s.greg op.thread 31).tag = .ptr → ((s.greg
    op.thread 31).val - 1).toNat < localWords op.thread → s.bankBusy (localBank op.thread) = false → (s.fetched (dDesc) op).rd
    Reg.MEM_INJ_ARM = 0 → Answers (.euPush op) s fun t =>
    (∀ j : Fin 35, j ≠ op.thread → t.thread j = s.thread j) ∧
    t.mem = { (s.fetched (dDesc) op).mem with mem := t.mem.mem } ∧
    Keeps [.threads, .mem] (s.fetched (dDesc) op) t ∧
    t.word (placeOf op ((s.greg op.thread 31).val - 1).toNat).1 (placeOf op ((s.greg op.thread 31).val - 1).toNat).2 = { tag := if ((s.euD op)).tag = .reserved then .bits else ((s.euD op)).tag, val := ((s.euD op)).val.setWidth 64 } ∧
    (∀ (c : Fin 26) (o : Fin 65536), (c.val, o.val) ≠ placeOf op ((s.greg op.thread 31).val - 1).toNat → t.word c o = (s.fetched (dDesc) op).word c o) ∧
    t.thread op.thread = { (s.euThread op).put 31 ⟨.ptr, (s.greg op.thread 31).val - 1⟩ with pc := s.euNext dDesc op }) ∧
  (∀ (s : State) (op : EurOp) (w : TWord × State), s.euIssues (dDesc) op = true → (s.greg op.thread 31).tag = .ptr → (s.greg op.thread
    31).val.toNat < localWords op.thread → (s.fetched (dDesc) op).tagWord op (s.greg op.thread 31).val.toNat = some w → Answers (.euPop
    op) s fun t =>
    EuRan (w.2) t op { (((s.euThread op).put 31 ⟨.ptr, (s.greg op.thread 31).val + 1⟩).put op.d w.1) with pc := s.euNext (dDesc) op }) ∧
  (∀ (s : State) (op : EurOp) (a : Nat), s.euIssues (byteDesc) op = true → (s.fetched (byteDesc) op).packetAddr op (if eurHas op .byte
    then 1 else 4) = some a → Answers (.euLdp op) s fun t =>
    EuRan (((s.fetched (byteDesc) op).packetRead op a (if eurHas op .byte then 1 else 4)).2.2) t op { ((s.euThread op).put op.d ⟨if ((s.fetched (byteDesc) op).packetRead op a (if eurHas op .byte then 1 else 4)).1 then .trap else .bits, BitVec.ofNat 32 (s.packetRead op a (if eurHas op .byte then 1 else 4)).2.1⟩) with pc := s.euNext (byteDesc) op }) ∧
  (∀ (s : State) (op : EurOp) (a : Nat), s.euIssues (packetDesc) op = true → (s.fetched (packetDesc) op).packetAddr op (2) = some a →
    Answers (.euLdph op) s fun t =>
    EuRan (((s.fetched (packetDesc) op).packetRead op a (2)).2.2) t op { ((s.euThread op).put op.d ⟨if ((s.fetched (packetDesc) op).packetRead op a (2)).1 then .trap else .bits, BitVec.ofNat 32 (s.packetRead op a (2)).2.1⟩) with pc := s.euNext (packetDesc) op }) ∧
  (∀ (s : State) (op : EurOp) (a : Nat) (w : MemWord), s.euIssues (byteDesc) op = true → srcTrap op false (s.euD op) = 0 → ((s.euD
    op).tag = .bits ∨ (s.euD op).tag = .uint ∨ (s.euD op).tag = .int ∨ unchecked op = true) → (s.fetched (byteDesc) op).packetAddr op
    (if eurHas op .byte then 1 else 4) = some a → w = (s.fetched (byteDesc) op).word (packetPlace a).1 (packetPlace a).2 → w.poisoned =
    false → w.ecc = .clean → Answers (.euStp op) s fun t =>
    t.word (packetPlace a).1 (packetPlace a).2 = mergeWord (.bytes (BitVec.ofNat 8 ((2 ^ (if eurHas op .byte then 1 else 4) - 1) * 2 ^ (a % 8))) (BitVec.ofNat 64 ((s.euD op).val.toNat % 2 ^ (8 * (if eurHas op .byte then 1 else 4)) * 2 ^ (8 * (a % 8))))) w ∧
    (∀ (c : Fin 26) (o : Fin 65536), (c.val, o.val) ≠ packetPlace a → t.word c o = (s.fetched (byteDesc) op).word c o) ∧
    t.thread op.thread = { (s.euThread op) with pc := s.euNext (byteDesc) op } ∧
    (∀ j : Fin 35, j ≠ op.thread → t.thread j = s.thread j) ∧
    t.mem = { (s.fetched (byteDesc) op).mem with mem := t.mem.mem } ∧
    Keeps [.threads, .mem] (s.fetched (byteDesc) op) t) ∧
  (∀ (s : State) (op : EurOp) (a : Nat) (w : MemWord), s.euIssues (packetDesc) op = true → srcTrap op false (s.euD op) = 0 → ((s.euD
    op).tag = .bits ∨ (s.euD op).tag = .uint ∨ (s.euD op).tag = .int ∨ unchecked op = true) → (s.fetched (packetDesc) op).packetAddr op
    (2) = some a → w = (s.fetched (packetDesc) op).word (packetPlace a).1 (packetPlace a).2 → w.poisoned = false → w.ecc = .clean →
    Answers (.euStph op) s fun t =>
    t.word (packetPlace a).1 (packetPlace a).2 = mergeWord (.bytes (BitVec.ofNat 8 ((2 ^ (2) - 1) * 2 ^ (a % 8))) (BitVec.ofNat 64 ((s.euD op).val.toNat % 2 ^ (8 * (2)) * 2 ^ (8 * (a % 8))))) w ∧
    (∀ (c : Fin 26) (o : Fin 65536), (c.val, o.val) ≠ packetPlace a → t.word c o = (s.fetched (packetDesc) op).word c o) ∧
    t.thread op.thread = { (s.euThread op) with pc := s.euNext (packetDesc) op } ∧
    (∀ j : Fin 35, j ≠ op.thread → t.thread j = s.thread j) ∧
    t.mem = { (s.fetched (packetDesc) op).mem with mem := t.mem.mem } ∧
    Keeps [.threads, .mem] (s.fetched (packetDesc) op) t) ∧
  (∀ (s : State) (op : EurOp) (a : Nat) (w : TWord × State), s.euIssues (lockDesc) op = true → (s.fetched (lockDesc) op).tagAddr op 1 =
    some a → (s.fetched (lockDesc) op).tagWord op a = some w → (w.1.tag ≠ .trap ∨ unchecked op = true) → collides op = false → w.2.rd
    Reg.MEM_INJ_ARM = 0 → ((s.euD op).tag ≠ .trap ∨ unchecked op = true) → Answers (.euXchg op) s fun t =>
    (∀ j : Fin 35, j ≠ op.thread → t.thread j = s.thread j) ∧
    t.mem = { w.2.mem with mem := t.mem.mem } ∧
    Keeps [.threads, .mem] w.2 t ∧
    t.word (placeOf op a).1 (placeOf op a).2 = { tag := if ((s.euD op)).tag = .reserved then .bits else ((s.euD op)).tag, val := ((s.euD op)).val.setWidth 64 } ∧
    (∀ (c : Fin 26) (o : Fin 65536), (c.val, o.val) ≠ placeOf op a → t.word c o = w.2.word c o) ∧
    t.thread op.thread = { (s.euThread op).put op.d w.1 with p := true, pc := s.euNext lockDesc op }) ∧
  (∀ (s : State) (op : EurOp) (a : Nat) (w : TWord × State) (tg : Tag), s.euIssues (lockDesc) op = true → (s.fetched (lockDesc)
    op).tagAddr op 1 = some a → (s.fetched (lockDesc) op).tagWord op a = some w → (w.1.tag ≠ .trap ∨ unchecked op = true) → collides op
    = false → w.2.rd Reg.MEM_INJ_ARM = 0 → srcTrap op false (s.euD op) = 0 → srcTrap op false w.1 = 0 → resultTag op (addPair w.1.tag
    (s.euD op).tag) = some tg → Answers (.euXadd op) s fun t =>
    (∀ j : Fin 35, j ≠ op.thread → t.thread j = s.thread j) ∧
    t.mem = { w.2.mem with mem := t.mem.mem } ∧
    Keeps [.threads, .mem] w.2 t ∧
    t.word (placeOf op a).1 (placeOf op a).2 = { tag := if ((⟨tg, w.1.val + (s.euD op).val⟩ : TWord)).tag = .reserved then .bits else ((⟨tg, w.1.val + (s.euD op).val⟩ : TWord)).tag, val := ((⟨tg, w.1.val + (s.euD op).val⟩ : TWord)).val.setWidth 64 } ∧
    (∀ (c : Fin 26) (o : Fin 65536), (c.val, o.val) ≠ placeOf op a → t.word c o = w.2.word c o) ∧
    t.thread op.thread = { (s.euThread op).put op.d w.1 with p := true, pc := s.euNext lockDesc op }) ∧
  (∀ (s : State) (op : EurOp) (a : Nat) (w : TWord × State), s.euIssues (lockDesc) op = true → (s.fetched (lockDesc) op).tagAddr op 1 =
    some a → (s.fetched (lockDesc) op).tagWord op a = some w → (w.1.tag ≠ .trap ∨ unchecked op = true) → collides op = false → w.2.rd
    Reg.MEM_INJ_ARM = 0 → op.d.val % 2 = 0 → ((s.euD op).tag ≠ .trap ∨ unchecked op = true) → ((s.greg op.thread (op.d + 1)).tag ≠
    .trap ∨ unchecked op = true) → Answers (.euCas op) s fun t =>
    (w.1 = s.greg op.thread (op.d + 1) → t.word (placeOf op a).1 (placeOf op a).2 = { tag := if (s.euD op).tag = .reserved then .bits else (s.euD op).tag, val := (s.euD op).val.setWidth 64 }) ∧
    (w.1 ≠ s.greg op.thread (op.d + 1) → t.mem.mem = w.2.mem.mem) ∧
    (∀ (c : Fin 26) (o : Fin 65536), (c.val, o.val) ≠ placeOf op a → t.word c o = w.2.word c o) ∧
    (∀ j : Fin 35, j ≠ op.thread → t.thread j = s.thread j) ∧
    t.mem = { w.2.mem with mem := t.mem.mem } ∧
    Keeps [.threads, .mem] w.2 t ∧
    t.thread op.thread = { (s.euThread op).put (op.d + 1) w.1 with p := w.1 == s.greg op.thread (op.d + 1), pc := s.euNext lockDesc op }) ∧
  (∀ (s : State) (op : EurOp) (a : Nat) (w : TWord × State) (c : Instr), s.euIssues (lockDesc) op = true → (c = .euXchg op ∨ (c =
    .euCas op ∧ op.d.val % 2 = 0) ∨ (c = .euXadd op ∧ srcTrap op false (s.euD op) = 0 ∧ srcTrap op false w.1 = 0 ∧ (addPair w.1.tag
    (s.euD op).tag).isSome = true)) → (s.fetched (lockDesc) op).tagAddr op 1 = some a → (s.fetched (lockDesc) op).tagWord op a = some w
    → w.1.tag ≠ .trap → collides op = true → unchecked op = false → (s.euD op).tag ≠ .trap → (s.greg op.thread (op.d + 1)).tag ≠ .trap
    → Answers (c) s fun t =>
    t.thread op.thread = { (s.euThread op) with p := false, pc := s.euNext lockDesc op } ∧
    t.mem.mem = w.2.mem.mem ∧
    t.rd (Reg.MEM_BANK_STAT_COLL.at (placeOf op a).1) = 1) ∧
  (∀ (s : State) (op : EurOp) (w : TWord × State), s.euIssues (copyDesc) op = true → eurHas op .rep = false → unchecked op = false →
    (s.euD op).tag = .ptr → (s.euB op).tag = .ptr → (s.fetched (copyDesc) op).spaceHas op 1 (s.euD op).val.toNat = true → (s.fetched
    (copyDesc) op).spaceHas op 1 (s.euB op).val.toNat = true → (s.fetched (copyDesc) op).tagWord op (s.euB op).val.toNat = some w →
    w.1.tag ≠ .trap → w.2.bankBusy (placeOf op (s.euD op).val.toNat).1 = false → collides op = false → w.2.rd Reg.MEM_INJ_ARM = 0 →
    Answers (.euCopyw op) s fun t =>
    (∀ j : Fin 35, j ≠ op.thread → t.thread j = s.thread j) ∧
    t.mem = { w.2.mem with mem := t.mem.mem } ∧
    Keeps [.threads, .mem] w.2 t ∧
    t.word (placeOf op (s.euD op).val.toNat).1 (placeOf op (s.euD op).val.toNat).2 = { tag := if (w.1).tag = .reserved then .bits else (w.1).tag, val := (w.1).val.setWidth 64 } ∧
    (∀ (c : Fin 26) (o : Fin 65536), (c.val, o.val) ≠ placeOf op (s.euD op).val.toNat → t.word c o = w.2.word c o) ∧
    t.thread op.thread = { ((s.euThread op).put op.d ⟨.ptr, BitVec.ofNat 32 ((s.euD op).val.toNat + 1)⟩).put (bReg op) ⟨.ptr, BitVec.ofNat 32 ((s.euB op).val.toNat + 1)⟩ with pc := s.euNext copyDesc op }) ∧
  (∀ (s : State) (op : EurOp), s.euIssues (copyDesc) op = true → eurHas op .rep = false → ((s.euD op).tag = .ptr ∨ unchecked op = true)
    → ((s.euB op).tag ≠ .trap ∨ unchecked op = true) → (s.fetched (copyDesc) op).spaceHas op 1 (s.euD op).val.toNat = true → (s.fetched
    (copyDesc) op).bankBusy (placeOf op (s.euD op).val.toNat).1 = false → collides op = false → (s.fetched (copyDesc) op).rd
    Reg.MEM_INJ_ARM = 0 → Answers (.euFillw op) s fun t =>
    (∀ j : Fin 35, j ≠ op.thread → t.thread j = s.thread j) ∧
    t.mem = { (s.fetched (copyDesc) op).mem with mem := t.mem.mem } ∧
    Keeps [.threads, .mem] (s.fetched (copyDesc) op) t ∧
    t.word (placeOf op (s.euD op).val.toNat).1 (placeOf op (s.euD op).val.toNat).2 = { tag := if (s.euB op).tag = .reserved then .bits else (s.euB op).tag, val := (s.euB op).val.setWidth 64 } ∧
    (∀ (c : Fin 26) (o : Fin 65536), (c.val, o.val) ≠ placeOf op (s.euD op).val.toNat → t.word c o = (s.fetched (copyDesc) op).word c o) ∧
    t.thread op.thread = { (s.euThread op).put op.d ⟨.ptr, BitVec.ofNat 32 ((s.euD op).val.toNat + 1)⟩ with pc := s.euNext copyDesc op }) ∧
  (∀ (s : State) (op : EurOp) (c : Instr), ((c = .euCopyw op ∧ s.euIssues copyDesc op = true) ∨ (c = .euFillw op ∧ s.euIssues copyDesc
    op = true) ∨ (c = .euCopyp op ∧ s.euIssues movePacketDesc op = true) ∨ (c = .euCrc32c op ∧ s.euIssues movePacketDesc op = true)) →
    eurHas op .rep = true → (s.greg op.thread 29).tag = .uint → (s.greg op.thread 29).val = 0 → Answers (c) s fun t =>
    (∀ j : Fin 35, j ≠ op.thread → t.thread j = s.thread j) ∧
    t.thread op.thread = { (s.euThread op) with pc := s.euNext copyDesc op } ∧
    t.mem.mem = s.mem.mem) ∧
  (∀ (s : State) (op : EurOp) (n : Fin 8), s.euIssues (copyDesc) op = true → eurHas op .rep = true → unchecked op = false → (s.euD
    op).tag = .ptr → (s.euB op).tag ≠ .trap → (s.greg op.thread 29) = ⟨.uint, BitVec.ofNat 32 n⟩ → (s.fetched (copyDesc) op).spaceHas
    op n (s.euD op).val.toNat = true → op.d ≠ 29 → bReg op ≠ 29 → bReg op ≠ op.d → s.mem.run = none → collides op = false → (s.fetched
    (copyDesc) op).rd Reg.MEM_INJ_ARM = 0 → Answers (.euFillw op) s fun t =>
    (∀ k : Fin 8, k < n → t.word (placeOf op ((s.euD op).val.toNat + k)).1 (placeOf op ((s.euD op).val.toNat + k)).2 = { tag := if (s.euB op).tag = .reserved then .bits else (s.euB op).tag, val := (s.euB op).val.setWidth 64 }) ∧
    (∀ (c : Fin 26) (o : Fin 65536), (∀ k : Fin 8, k < n → (c.val, o.val) ≠ placeOf op ((s.euD op).val.toNat + k)) → t.word c o = (s.fetched (copyDesc) op).word c o) ∧
    (∀ j : Fin 35, j ≠ op.thread → t.thread j = s.thread j) ∧
    Keeps [.threads, .mem] (s.fetched (copyDesc) op) t ∧
    t.greg op.thread 29 = ⟨.uint, 0⟩ ∧
    t.greg op.thread op.d = ⟨.ptr, BitVec.ofNat 32 ((s.euD op).val.toNat + n)⟩ ∧
    (t.thread op.thread).pc = s.euNext copyDesc op) ∧
  (∀ (s : State) (op : EurOp) (w : MemWord), s.euIssues (movePacketDesc) op = true → eurHas op .rep = false → unchecked op = false →
    (s.euD op).tag = .bptr → (s.euB op).tag = .bptr → (s.fetched (movePacketDesc) op).packetHas op (s.euD op).val.toNat = true →
    (s.fetched (movePacketDesc) op).packetHas op (s.euB op).val.toNat = true → s.mem.run = none → ((s.fetched (movePacketDesc)
    op).packetRead op (s.euB op).val.toNat 1).1 = false → w = ((s.fetched (movePacketDesc) op).packetRead op (s.euB op).val.toNat
    1).2.2.word (packetPlace (s.euD op).val.toNat).1 (packetPlace (s.euD op).val.toNat).2 → w.poisoned = false → w.ecc = .clean →
    Answers (.euCopyp op) s fun t =>
    t.word (packetPlace (s.euD op).val.toNat).1 (packetPlace (s.euD op).val.toNat).2 = mergeWord (.bytes (BitVec.ofNat 8 (2 ^ ((s.euD op).val.toNat % 8))) (BitVec.ofNat 64 ((s.packetRead op (s.euB op).val.toNat 1).2.1 % 256 * 2 ^ (8 * ((s.euD op).val.toNat % 8))))) w ∧
    t.thread op.thread = { ((s.euThread op).put op.d ⟨.bptr, BitVec.ofNat 32 ((s.euD op).val.toNat + 1)⟩).put (bReg op) ⟨.bptr, BitVec.ofNat 32 ((s.euB op).val.toNat + 1)⟩ with pc := s.euNext movePacketDesc op }) ∧
  (∀ (s : State) (op : EurOp), s.euIssues (movePacketDesc) op = true → eurHas op .rep = false → (s.euD op).tag = .uint → (s.euB op).tag
    = .bptr → (s.fetched (movePacketDesc) op).packetHas op (s.euB op).val.toNat = true → s.mem.run = none → ((s.fetched
    (movePacketDesc) op).packetRead op (s.euB op).val.toNat 1).1 = false → Answers (.euCrc32c op) s fun t =>
    EuRan (((s.fetched (movePacketDesc) op).packetRead op (s.euB op).val.toNat 1).2.2) t op { (((s.euThread op).put op.d ⟨.uint, BitVec.ofNat 32 (crc32cByte (s.euD op).val.toNat (s.packetRead op (s.euB op).val.toNat 1).2.1)⟩).put (bReg op) ⟨.bptr, BitVec.ofNat 32 ((s.euB op).val.toNat + 1)⟩) with pc := s.euNext (movePacketDesc) op })

/-- Control flow, waiting, live values, special and Expert registers (R481, R514, R515, R525 to R528, R532, R535): NOP goes on, HALT
stops the thread, RET, B, CALL, LOOP and BNIL go where their rule says, RTT restores FL and returns to TPC, WAIT takes a latched wake
or waits, WAITUNTIL waits until its target is reached and is released then, LDANG and LDTIME read the live values, MFSR and MTSR read
and write the special registers, IOLD and IOST reach an Expert register, a false predicate skips any instruction, and a thread that may
not issue changes nothing. -/
def Obligations.EurnafaControl : Prop :=
  (∀ (s : State) (op : EurOp), s.euIssues (nDesc) op = true → Answers (.euNop op) s fun t =>
    EuRan ((s.fetched (nDesc) op)) t op { (s.euThread op) with pc := s.euNext (nDesc) op }) ∧
  (∀ (s : State) (op : EurOp), s.euIssues (haltDesc) op = true → Answers (.euHalt op) s fun t =>
    EuRan ((s.fetched (haltDesc) op)) t op { ({ (s.euThread op) with run := .stopped } : Thread) with pc := s.euNext (haltDesc) op }) ∧
  (∀ (s : State) (op : EurOp), s.euIssues (nDesc) op = true → (s.greg op.thread 30).tag = .code → Answers (.euRet op) s fun t =>
    EuRan (s.fetched (nDesc) op) t op { s.euThread op with pc := (s.greg op.thread 30).val }) ∧
  (∀ (s : State) (op : EurOp), s.euIssues (nDesc) op = true → Answers (.euWait op) s fun t =>
    EuRan ((s.fetched (nDesc) op)) t op { ({ (s.euThread op) with wakeLatch := false, run := if (s.euThread op).wakeLatch then (s.euThread op).run else .waiting } : Thread) with pc := s.euNext (nDesc) op }) ∧
  (∀ (s : State) (op : EurOp), s.euIssues (rttDesc) op = true → (s.euThread op).tactive = true → Answers (.euRtt op) s fun t =>
    EuRan (s.fetched (rttDesc) op) t op { { (s.euThread op).setFl (s.euThread op).tfl with tactive := false } with pc := (s.euThread op).tpc }) ∧
  (∀ (s : State) (op : EurOp), s.euIssues (shortDesc) op = true → op.d.val ≤ 16 → condHolds op.d (s.euThread op).flags (s.euThread
    op).p = some true → (op.mode ≠ .reg ∨ (s.euB op).tag = .code) → Answers (.euB op) s fun t =>
    EuRan (s.fetched (shortDesc) op) t op { s.euThread op with pc := (if op.mode = .reg then (s.euB op).val else s.euNext (shortDesc) op + (immOf op .int).val) }) ∧
  (∀ (s : State) (op : EurOp), s.euIssues (shortDesc) op = true → condHolds op.d (s.euThread op).flags (s.euThread op).p = some false →
    Answers (.euB op) s fun t =>
    EuRan ((s.fetched (shortDesc) op)) t op { (s.euThread op) with pc := s.euNext (shortDesc) op }) ∧
  (∀ (s : State) (op : EurOp), s.euIssues (callDesc) op = true → op.d.val = 0 → (op.mode ≠ .reg ∨ (s.euB op).tag = .code) → Answers
    (.euCall op) s fun t =>
    EuRan (s.fetched (callDesc) op) t op { (s.euThread op).put 30 ⟨.code, s.euNext callDesc op⟩ with pc := (if op.mode = .reg then (s.euB op).val else s.euNext (callDesc) op + (immOf op .int).val) }) ∧
  (∀ (s : State) (op : EurOp), s.euIssues (loopDesc) op = true → op.d.val = 0 → (s.greg op.thread 29).tag = .uint → Answers (.euLoop
    op) s fun t =>
    EuRan (s.fetched (loopDesc) op) t op { (s.euThread op).put 29 ⟨.uint, (s.greg op.thread 29).val - 1⟩ with pc := (if (s.greg op.thread 29).val = 1 then s.euNext loopDesc op else s.euNext loopDesc op + (immOf op .int).val) }) ∧
  (∀ (s : State) (op : EurOp), s.euIssues (loopDesc) op = true → Answers (.euBnil op) s fun t =>
    EuRan (s.fetched (loopDesc) op) t op { s.euThread op with pc := (if (s.euD op).tag = .nil then s.euNext loopDesc op + (immOf op .int).val else s.euNext loopDesc op) }) ∧
  (∀ (s : State) (op : EurOp), s.euIssues (liveDesc) op = true → Answers (.euLdang op) s fun t =>
    EuRan ((s.fetched (liveDesc) op)) t op { ((s.euThread op).put op.d ⟨.angle, BitVec.ofNat 32 s.ang⟩) with pc := s.euNext (liveDesc) op }) ∧
  (∀ (s : State) (op : EurOp), s.euIssues (liveDesc) op = true → Answers (.euLdtime op) s fun t =>
    EuRan ((s.fetched (liveDesc) op)) t op { ((s.euThread op).put op.d ⟨.time, BitVec.ofNat 32 (shortOf s.time.dt)⟩) with pc := s.euNext (liveDesc) op }) ∧
  (∀ (s : State) (op : EurOp), s.euIssues (dDesc) op = true → ((s.euD op).tag = .angle ∨ (s.euD op).tag = .time) → Answers
    (.euWaituntil op) s fun t =>
    EuRan ((s.fetched (dDesc) op)) t op { ({ (s.euThread op) with run := if s.targetReached (s.euD op) then (s.euThread op).run else .waitUntil (s.euD op) } : Thread) with pc := s.euNext (dDesc) op }) ∧
  (∀ (s : State) (i : Fin 35) (w : TWord), (s.thread i).run = .waitUntil w → Answers (.waituntilReached i) s fun t =>
    t.thread i = { s.thread i with run := if s.targetReached w then .running else .waitUntil w } ∧
    (∀ j : Fin 35, j ≠ i → t.thread j = s.thread j) ∧
    Keeps [.threads] s t) ∧
  (∀ (s : State) (i : Fin 35), ((s.thread i).run = .waiting ∨ (s.thread i).run = .stopped) → Answers (.waituntilReached i) s fun t =>
    t = s) ∧
  (∀ (s : State) (op : EurOp), s.euIssues (imm8Desc) op = true → hasSpecial op.thread (immOf op .uint).val.toNat = true → Answers
    (.euMfsr op) s fun t =>
    EuRan ((s.fetched (imm8Desc) op)) t op { ((s.euThread op).put op.d (s.special op.thread (immOf op .uint).val.toNat)) with pc := s.euNext (imm8Desc) op }) ∧
  (∀ (s : State) (op : EurOp) (n : Nat), s.euIssues (imm8Desc) op = true → n = (immOf op .uint).val.toNat → hasSpecial op.thread n =
    true → specialTag n = some (s.euD op).tag → (n ≠ 6 ∨ (s.euD op).val.toNat % 256 = 0) → Answers (.euMtsr op) s fun t =>
    EuRan ((s.fetched (imm8Desc) op)) t op { ((s.euThread op).setSpecial n (s.euD op).val) with pc := s.euNext (imm8Desc) op }) ∧
  (∀ (s : State) (op : EurOp) (a : Nat) (x : Writer), s.euIssues (ioDesc) op = true → a = (if op.mode = .reg then s.euB op else immOf
    op .uint).val.toNat → (if op.mode = .reg then s.euB op else immOf op .uint).tag = .uint → (s.fetched (ioDesc) op).writerOf
    op.thread = some x → (s.fetched (ioDesc) op).inReach op.thread a = true → busFails ((s.fetched (ioDesc) op).expertRead a (srcOf
    op.thread) op.crc).1 = false → Answers (.euIold op) s fun t =>
    t.greg op.thread op.d = ⟨.bits, BitVec.ofNat 32 ((s.fetched (ioDesc) op).expertRead a (srcOf op.thread) op.crc).2.1⟩ ∧
    (t.thread op.thread).pc = s.euNext ioDesc op ∧
    (∀ j : Fin 35, j ≠ op.thread → t.thread j = ((s.fetched (ioDesc) op).expertRead a (srcOf op.thread) op.crc).2.2.thread j) ∧
    Keeps [.threads] ((s.fetched (ioDesc) op).expertRead a (srcOf op.thread) op.crc).2.2 t) ∧
  (∀ (s : State) (op : EurOp) (a : Nat) (x : Writer), s.euIssues (ioDesc) op = true → a = (if op.mode = .reg then s.euB op else immOf
    op .uint).val.toNat → (if op.mode = .reg then s.euB op else immOf op .uint).tag = .uint → ((s.euD op).tag = .bits ∨ (s.euD op).tag
    = .uint ∨ (s.euD op).tag = .int) → (s.fetched (ioDesc) op).writerOf op.thread = some x → (s.fetched (ioDesc) op).inReach op.thread
    a = true → busFails ((s.fetched (ioDesc) op).expertWrite a (s.euD op).val.toNat x (srcOf op.thread) op.crc).1 = false → Answers
    (.euIost op) s fun t =>
    t.thread op.thread = { ((s.fetched (ioDesc) op).expertWrite a (s.euD op).val.toNat x (srcOf op.thread) op.crc).2.thread op.thread with pc := s.euNext ioDesc op } ∧
    (∀ j : Fin 35, j ≠ op.thread → t.thread j = ((s.fetched (ioDesc) op).expertWrite a (s.euD op).val.toNat x (srcOf op.thread) op.crc).2.thread j) ∧
    Keeps [.threads] ((s.fetched (ioDesc) op).expertWrite a (s.euD op).val.toNat x (srcOf op.thread) op.crc).2 t) ∧
  (∀ (s : State) (op : EurOp) (c : Instr), eurnafaOp c = some op → s.mayIssue op.thread = true → op.fetchBad = false → (s.fetchFails
    op.thread (eurLen (eurnafaDesc c) op)).1 = false → encIllegal (eurnafaDesc c) op = false → eurnafaBadOperand c = false → inProfile
    (eurnafaDesc c) op.thread = true → eurnafaNoOpcode s c = false → ((eurHas op .predT = true ∧ (s.euThread op).p = false) ∨ (eurHas
    op .predF = true ∧ (s.euThread op).p = true)) → Answers (c) s fun t =>
    EuRan (s.fetched (eurnafaDesc c) op) t op { s.euThread op with pc := s.euNext (eurnafaDesc c) op }) ∧
  (∀ (s : State) (op : EurOp) (c : Instr), eurnafaOp c = some op → s.mayIssue op.thread = false → Answers (c) s fun t =>
    t = s)

/-- The traps (R493, R511, R529, R530, R531, R533): a failed fetch, an illegal encoding, an instruction outside the profile, an invalid
pair of tags, a NIL or poisoned operand, a zero divisor, a bad address and SWT each take the trap of their code, with the address, the
word that failed and FL saved and TACTIVE set, and nothing else of the instruction done; a trap in a handler is a double trap, which
halts the PCP. -/
def Obligations.EurnafaTraps : Prop :=
  (∀ (s : State) (op : EurOp) (c : Instr), eurnafaOp c = some op → s.mayIssue op.thread = true → (op.fetchBad = true ∨ (s.fetchFails
    op.thread (eurLen (eurnafaDesc c) op)).1 = true) → (s.euThread op).tactive = false → Answers (c) s fun t =>
    EuTrapped (s.fetched (eurnafaDesc c) op) t op 0xA (s.euThread op).pc ⟨.uint, (s.euThread op).pc⟩) ∧
  (∀ (s : State) (op : EurOp) (c : Instr), eurnafaOp c = some op → s.mayIssue op.thread = true → op.fetchBad = false → (s.fetchFails
    op.thread (eurLen (eurnafaDesc c) op)).1 = false → (encIllegal (eurnafaDesc c) op = true ∨ eurnafaBadOperand c = true) →
    (s.euThread op).tactive = false → Answers (c) s fun t =>
    (t.thread op.thread).tcause = 1 ∧
    (t.thread op.thread).tpc = (s.euThread op).pc ∧
    (t.thread op.thread).tfl = (s.euThread op).fl ∧
    (t.thread op.thread).tactive = true ∧
    (t.thread op.thread).pc = (s.euThread op).vbase + 0x10 ∧
    (t.thread op.thread).g = (s.euThread op).g ∧
    t.rd Reg.SYS_TRAPLAST_CODE = 1 ∧
    t.rd Reg.SYS_TRAPPC_PC = (s.euThread op).pc.toNat ∧
    t.mem.mem = s.mem.mem ∧
    (∀ j : Fin 35, j ≠ op.thread → t.thread j = s.thread j)) ∧
  (∀ (s : State) (op : EurOp) (c : Instr), eurnafaOp c = some op → s.mayIssue op.thread = true → op.fetchBad = false → (s.fetchFails
    op.thread (eurLen (eurnafaDesc c) op)).1 = false → encIllegal (eurnafaDesc c) op = false → eurnafaBadOperand c = false → (inProfile
    (eurnafaDesc c) op.thread = false ∨ eurnafaNoOpcode s c = true) → (s.euThread op).tactive = false → Answers (c) s fun t =>
    (t.thread op.thread).tcause = 2 ∧
    (t.thread op.thread).tpc = (s.euThread op).pc ∧
    (t.thread op.thread).tfl = (s.euThread op).fl ∧
    (t.thread op.thread).tactive = true ∧
    (t.thread op.thread).pc = (s.euThread op).vbase + 0x20 ∧
    (t.thread op.thread).g = (s.euThread op).g ∧
    t.rd Reg.SYS_TRAPLAST_CODE = 2 ∧
    t.rd Reg.SYS_TRAPPC_PC = (s.euThread op).pc.toNat ∧
    t.mem.mem = s.mem.mem ∧
    (∀ j : Fin 35, j ≠ op.thread → t.thread j = s.thread j)) ∧
  (∀ (s : State) (op : EurOp) (b : TWord × State), s.euIssues (aluDesc) op = true → (s.fetched (aluDesc) op).sourceB op (immTag (s.euD
    op).tag) = some b → srcTrap op false (s.euD op) = 0 → srcTrap op false b.1 = 0 → unchecked op = false → allTags.any (fun x =>
    (logicPair (s.euD op).tag x).isSome) = true → logicPair (s.euD op).tag b.1.tag = none → (s.euThread op).tactive = false → Answers
    (.euAnd op) s fun t =>
    EuTrapped b.2 t op 3 (s.euThread op).pc b.1) ∧
  (∀ (s : State) (op : EurOp) (x : Nat), s.euIssues (aluDesc) op = true → (s.euD op).tag = (if x = 4 then .nil else .trap) → (x = 4 ∨ x
    = 5) → unchecked op = false → (s.euThread op).tactive = false → Answers (.euAnd op) s fun t =>
    EuTrapped (s.fetched (aluDesc) op) t op x (s.euThread op).pc (s.euD op)) ∧
  (∀ (s : State) (op : EurOp) (b : TWord × State), s.euIssues (divDesc) op = true → (s.fetched (divDesc) op).sourceB op (immTag (s.euD
    op).tag) = some b → srcTrap op false (s.euD op) = 0 → srcTrap op false b.1 = 0 → (mulPair (s.euD op).tag b.1.tag).isSome = true →
    b.1.val = 0 → (s.euThread op).tactive = false → Answers (.euDiv op) s fun t =>
    EuTrapped b.2 t op 7 (s.euThread op).pc b.1) ∧
  (∀ (s : State) (op : EurOp), s.euIssues (ldDesc) op = true → eurHas op .wide = false → (op.mode = .a16 ∨ (s.euB op).tag = .ptr) →
    unchecked op = false → (s.fetched (ldDesc) op).spaceHas op 1 (if op.mode = .a16 then (op.ext.setWidth 16).toNat else ((s.euB
    op).val + dispOf op).toNat) = false → (s.euThread op).tactive = false → Answers (.euLd op) s fun t =>
    EuTrapped (s.fetched (ldDesc) op) t op 8 (s.euThread op).pc ⟨.uint, BitVec.ofNat 32 (if op.mode = .a16 then (op.ext.setWidth 16).toNat else ((s.euB op).val + dispOf op).toNat)⟩) ∧
  (∀ (s : State) (op : EurOp), s.euIssues (imm8Desc) op = true → (s.euThread op).tactive = false → Answers (.euSwt op) s fun t =>
    t.thread op.thread = { s.euThread op with tpc := s.euNext imm8Desc op, tcause := 0xC, tval := (immOf op .uint).val, ttag := (immOf op .uint).tag.toCode, tfl := (s.euThread op).fl, tactive := true, pc := (s.euThread op).vbase + 0xC0 } ∧
    t.rd Reg.SYS_TRAPLAST_CODE = 0xC) ∧
  (∀ (s : State) (op : EurOp), op.thread = 34 → s.mayIssue 34 = true → op.fetchBad = true → (s.thread 34).tactive = true → Answers
    (.euNop op) s fun t =>
    (t.thread 34).run = .halted ∧
    t.rd Reg.PCP_CTRL_HALTED = 1 ∧
    t.rd Reg.PCP_CTRL_RUNNING = 0 ∧
    (∀ g : Fin 4, 2 ≤ s.grState g → s.grState g ≤ 4 → t.grState g = 5 ∧ t.grFault g = 9))

/-! ### Grilor links, hierarchy and twins (chapter 17) -/

/-- The Grilor links (R972 to R977, R980, R992 to R994, R996, R997): block lock and 64 idle blocks bring a link UP with a new sequence
and event 0x1101, its loss takes it DOWN and discards what it holds; a frame with a bad CRC or out of order is answered by NAK and does
nothing else, a link that is not UP takes none, one in order is acknowledged; ACKSEQ frees the oldest frames, a NAK and a timeout
replay the rest, and the eighth replay in a row takes the link DOWN; DELAY, SYNC, CROSS and KEEPALIVE do what their rules say. -/
def Obligations.GrilorLinks : Prop :=
  (∀ (s : State) (i : Fin 2), s.glState i = 0 → s.portUsed i = true → Answers (.blockLock i) s fun t =>
    t.glState i = 1 ∧
    KeepsBut [glField i] [.marks] s t) ∧
  (∀ (s : State) (i : Fin 2), (s.glState i ≠ 0 ∨ s.portUsed i = false) → Answers (.blockLock i) s fun t =>
    t = s) ∧
  (∀ (s : State) (i : Fin 10), s.glState i = 1 → s.portUsed i = true → (2 ≤ i.val ∨ s.passed (.glLock i) (msCycles + 1) = false) →
    s.role = 2 → s.boot ≠ 2 → Answers (.grilorLinkUp i) s fun t =>
    t.glState i = 2 ∧
    t.glink i = { wasUp := true } ∧
    (∀ j : Fin 10, j ≠ i → t.glink j = s.glink j) ∧
    t.lastEvent = some (0x1101, i.val, [2]) ∧
    (i.val < 2 → t.rd (Reg.GL_STAT_RETRAINS.at i) = (if (s.glink i).wasUp then min (s.rd (Reg.GL_STAT_RETRAINS.at i) + 1) (2 ^ Reg.GL_STAT_RETRAINS.w - 1) else s.rd (Reg.GL_STAT_RETRAINS.at i))) ∧
    KeepsBut [glField i, Reg.GL_STAT_RETRAINS.at i, Reg.HOSTPORT_INTSTAT_INTSTAT] [.gl, .tk, .jr] s t) ∧
  (∀ (s : State) (i : Fin 10), s.glState i = 1 → s.portUsed i = true → (2 ≤ i.val ∨ s.passed (.glLock i) (msCycles + 1) = false) →
    Answers (.grilorLinkUp i) s fun t =>
    t.glState i = 2 ∧
    (t.glink i).rxNext = 0 ∧
    (t.glink i).wasUp = true ∧
    (t.glink i).replays = 0 ∧
    (∀ j : Fin 10, j ≠ i → t.glState j = s.glState j)) ∧
  (∀ (s : State) (i : Fin 10), (s.glState i ≠ 1 ∨ s.portUsed i = false ∨ (i.val < 2 ∧ s.passed (.glLock i) (msCycles + 1) = true)) →
    Answers (.grilorLinkUp i) s fun t =>
    t = s) ∧
  (∀ (s : State) (i : Fin 10) (c : Instr), (c = .grilorLinkDown i ∨ (∃ k : Fin 8, c = .keepaliveTimeout k ∧ i.val = k + 2 ∧ s.passed
    (.alive k) (30 * msCycles) = true)) → s.glState i ≠ 0 → Answers (c) s fun t =>
    t.glState i = 0 ∧
    t.glink i = { wasUp := (s.glink i).wasUp } ∧
    (s.gl.upstream = some i.val → t.gl.upstream = none)) ∧
  (∀ (s : State) (i : Fin 10), s.glState i = 0 → Answers (.grilorLinkDown i) s fun t =>
    t = s) ∧
  (∀ (s : State) (i : Fin 10) (ack : Byte) (n : Nat), s.glState i = 2 → (s.glink i).waiting = [] → (s.glink i).unacked.length ≤ 16 → 1
    ≤ n → n ≤ (s.glink i).unacked.length → ack.toNat = ((s.glink i).txNext + 255 + n - (s.glink i).unacked.length) % 256 → (s.glink
    i).unacked.any s.ownRequest = false → Answers (.glAck i ack true) s fun t =>
    t.glink i = { (s.glink i) with unacked := (s.glink i).unacked.drop n, sent := (s.glink i).sent.drop n, replays := 0, txNext := (s.glink i).txNext % 256 } ∧
    (∀ j : Fin 10, j ≠ i → t.glink j = s.glink j) ∧
    Keeps [.gl] s t) ∧
  (∀ (s : State) (i : Fin 10) (ack : Byte) (c : Instr), ((c = .replayTimeout i ∧ (s.glink i).sent.headD 0 + (if i.val < 2 then 30000
    else 2 * msCycles) ≤ s.cycle) ∨ (c = .glNak i ack true ∧ ack.toNat = ((s.glink i).txNext + 255 - (s.glink i).unacked.length) % 256
    ∧ (s.glink i).unacked.length ≤ 16)) → s.glState i = 2 → (s.glink i).unacked ≠ [] → (s.glink i).replays < 7 → Answers (c) s fun t =>
    t.glink i = { (s.glink i) with replays := (s.glink i).replays + 1, sent := (s.glink i).unacked.map (fun _ => s.cycle) } ∧
    (i.val < 2 → t.rd (Reg.GL_STAT_REPLAYED.at i) = 1) ∧
    KeepsBut [Reg.GL_STAT_REPLAYED.at i] [.gl] s t) ∧
  (∀ (s : State) (i : Fin 10), s.glState i = 2 → (s.glink i).unacked ≠ [] → 7 ≤ (s.glink i).replays → (s.glink i).sent.headD 0 + (if
    i.val < 2 then 30000 else 2 * msCycles) ≤ s.cycle → Answers (.replayTimeout i) s fun t =>
    t.glState i = 0 ∧
    t.glink i = { wasUp := (s.glink i).wasUp }) ∧
  (∀ (s : State) (h : GHead) (c : Instr), (glFrame c = some h ∨ c = .glAck h.link h.ack h.crcOk ∨ c = .glNak h.link h.ack h.crcOk) →
    s.glState h.link = 2 → (h.crcOk = false ∨ (glFrame c = some h ∧ h.seq.toNat ≠ (s.glink h.link).rxNext)) → Answers (c) s fun t =>
    t.glink h.link = { s.glink h.link with lastCtl := some (true, ((s.glink h.link).rxNext + 255) % 256) } ∧
    (h.link.val < 2 → h.crcOk = false → t.rd (Reg.GL_STAT_CRC_ERR.at h.link) = 1) ∧
    (∀ j : Fin 10, j ≠ h.link → t.glink j = s.glink j) ∧
    t.gl = { s.gl with links := t.gl.links } ∧
    KeepsBut [Reg.GL_STAT_CRC_ERR.at h.link] [.gl] s t) ∧
  (∀ (s : State) (h : GHead) (c : Instr), (glFrame c = some h ∨ c = .glAck h.link h.ack h.crcOk ∨ c = .glNak h.link h.ack h.crcOk ∨ c =
    .replayTimeout h.link ∨ c = .delayMeasurement h.link) → s.glState h.link ≠ 2 → Answers (c) s fun t =>
    t = s) ∧
  (∀ (s : State) (h : GHead) (k : Fin 8), h.link.val = k + 2 → s.portUsed h.link = true → s.glTaken h = true → (s.glink
    h.link).unacked.any s.ownRequest = false → Answers (.glKeepalive k h) s fun t =>
    t = (s.received h).mark (.alive k) ∧
    (t.glink h.link).rxNext = ((s.glink h.link).rxNext + 1) % 256 ∧
    (t.glink h.link).lastCtl = some (false, h.seq.toNat) ∧
    t.gl = { s.gl with links := t.gl.links } ∧
    (∀ j : Fin 10, j ≠ h.link → t.glink j = s.glink j) ∧
    Keeps [.gl, .marks] s t) ∧
  (∀ (s : State) (h : GHead) (k : Fin 8), s.portUsed (k + 2) = true → s.glState (k + 2) = 0 → Answers (.glKeepalive k h) s fun t =>
    t.glState (k + 2) = 1 ∧
    KeepsBut [glField (k + 2)] [.marks] s t) ∧
  (∀ (s : State) (k : Fin 8), Answers (.keepaliveSend k) s fun t =>
    SentOn s t (k + 2) ⟨0xFF, s.myId, .keepalive⟩) ∧
  (∀ (s : State) (i : Fin 10), s.glState i = 2 → Answers (.delayMeasurement i) s fun t =>
    (t.glink i).reqCycle = some s.cycle ∧
    SentOn s (t.setGlink i { t.glink i with reqCycle := (s.glink i).reqCycle }) i ⟨0xFF, s.myId, .delayReq⟩) ∧
  (∀ (s : State) (h : GHead) (turn : Word), s.glTaken h = true → Answers (.delayReq h turn) s fun t =>
    SentOn (s.received h) t h.link ⟨0xFF, (s.received h).myId, .delayResp turn.toNat⟩) ∧
  (∀ (s : State) (h : GHead) (turn : Word) (c0 : Nat), s.glTaken h = true → ((s.received h).glink h.link).reqCycle = some c0 → Answers
    (.delayResp h turn) s fun t =>
    t.glink h.link = { (s.received h).glink h.link with reqCycle := none, delays := ((s.cycle - c0 - turn.toNat) * 16 / 3 :: ((s.received h).glink h.link).delays).take 8 } ∧
    (h.link.val < 2 → t.rd (Reg.GL_DELAY_DELAY.at h.link) = t.linkDelay h.link % 2 ^ Reg.GL_DELAY_DELAY.w) ∧
    (∀ j : Fin 10, j ≠ h.link → t.glink j = (s.received h).glink j) ∧
    KeepsBut [Reg.GL_DELAY_DELAY.at h.link] [.gl] (s.received h) t) ∧
  (∀ (s : State) (h : GHead) (turn : Word), s.glTaken h = true → ((s.received h).glink h.link).reqCycle = none → Answers (.delayResp h
    turn) s fun t =>
    t = (s.received h)) ∧
  (∀ (s : State), s.managing = true → s.running = true → s.odN 0x9000 8 1 = 1 → Answers (.syncSend) s fun t =>
    (∀ i : Fin 10, i.val ∈ s.downPorts → GotFrame s t i ⟨0xFF, 0, .sync (clockSec s.time.dt) (clockSub s.time.dt) 0⟩) ∧
    (∀ i : Fin 10, i.val ∉ s.downPorts → t.glink i = s.glink i) ∧
    t.gl = { s.gl with links := t.gl.links } ∧
    Keeps [.gl] s t) ∧
  (∀ (s : State), (s.managing = false ∨ s.running = false ∨ s.odN 0x9000 8 1 ≠ 1) → Answers (.syncSend) s fun t =>
    t = s) ∧
  (∀ (s : State) (h : GHead) (sec : BitVec 48) (ns : Word) (corr : BitVec 48) (res : Word) (j : Fin 10), s.glTaken h = true →
    (s.received h).gl.upstream = some h.link.val → (s.received h).role = 2 → otherPort h.link = some j.val → Answers (.glSync h sec ns
    corr res) s fun t =>
    GotFrame (s.received h) t j ⟨h.dst.toNat, h.src.toNat, .sync sec.toNat ns.toNat (corr.toNat + (s.received h).linkDelay h.link + res.toNat)⟩ ∧
    ((s.received h).syncWrites h.link = true → (s.received h).gl.loaded = false → t.time.tda = clockAdd (clockOf sec.toNat ns.toNat) (((corr.toNat + (s.received h).linkDelay h.link) * (unitsPerNs / 32) : Nat) : Int) ∧ t.gl.loaded = true ∧ (domAllows ((s.received h).domState 0) 1 = true → t.domState 0 = 1)) ∧
    ((s.received h).syncWrites h.link = false → t.time = (s.received h).time)) ∧
  (∀ (s : State) (h : GHead) (sec : BitVec 48) (ns : Word) (ang : Word), s.glTaken h = true → (s.received h).standby = true →
    h.link.val = 0 → (s.received h).running = true → (s.received h).domState 0 = 2 → Answers (.glCross h sec ns ang) s fun t =>
    t = (s.received h).ms0Crossing (((s.received h).time.tda - clockOf sec.toNat ns.toNat) / 2 ^ 48) (some ang.toNat)) ∧
  (∀ (s : State) (h : GHead) (sec : BitVec 48) (ns : Word) (ang : Word) (j : Fin 10), s.glTaken h = true → (s.received h).role = 2 →
    ((s.received h).domState 0 ≠ 2 ∨ (s.received h).odN 0x9000 9 1 ≠ 1) → (s.received h).gl.upstream = some h.link.val → otherPort
    h.link = some j.val → Answers (.glCross h sec ns ang) s fun t =>
    SentOn (s.received h) t j ⟨h.dst.toNat, h.src.toNat, .cross sec.toNat ns.toNat ang.toNat⟩)

/-- Enumeration, gateway and boot (R976, R980 to R991): a manager's walk starts at position 1 of its first port and sends ENUM there; a
worker that is met answers with DEVICE_ID, SIDE and fixed ID, takes the ID of its position from the next ENUM and forwards it; the
manager assigns each ID by R983; a walk that ends sets ENUM_STATE and WORKERS and posts event 0x1102; a roster reset removes every
entry; DATA reaches its node and the answer ends the GATEWAY ticket; BOOT brings the images of a set. -/
def Obligations.GrilorHierarchy : Prop :=
  (∀ (s : State) (c : Instr), (c = .enumerate ∨ c = .rosterReset) → s.managing = false → Answers (c) s fun t =>
    t = s) ∧
  (∀ (s : State) (p : Fin 10) (l : List Nat), s.managing = true → s.pstate = 4 → ({ s with gl := { s.gl with ringClosed := false } } :
    State).enumPorts = p.val :: l → Answers (.enumerate) s fun t =>
    t.rd Reg.GRILOR_ENUM_ENUM_STATE = 1 ∧
    t.gl.walk = s.gl.walk + 1 ∧
    t.gl.port = p ∧
    t.gl.pos = 1 ∧
    t.gl.assigned = [] ∧
    t.gl.metDevices = [] ∧
    t.gl.ringClosed = false ∧
    GotFrame s t p ⟨0xFF, 0, .enum (s.gl.walk + 1) 1 none⟩ ∧
    (∀ j : Fin 10, j ≠ p → t.glink j = s.glink j) ∧
    KeepsBut [Reg.GRILOR_ENUM_ENUM_STATE] [.gl, .marks] s t) ∧
  (∀ (s : State), s.managing = true → s.pstate = 4 → ({ s with gl := { s.gl with ringClosed := false } } : State).enumPorts = [] →
    s.ring = false → Answers (.enumerate) s fun t =>
    t.rd Reg.GRILOR_ENUM_ENUM_STATE = (if s.rosterUsed.isEmpty then 2 else 3) ∧
    t.rd Reg.GRILOR_ENUM_WORKERS = 0 ∧
    t.lastEvent = some (0x1102, 0, [if s.rosterUsed.isEmpty then 2 else 3, 0])) ∧
  (∀ (s : State), s.managing = true → Answers (.rosterReset) s fun t =>
    (∀ w : Fin 256, w.val ≠ 0 → t.rosterAt w = 0)) ∧
  (∀ (s : State) (h : GHead) (walk : Word) (pos : BitVec 16) (a : Option Byte), s.glTaken h = true → (s.received h).role = 2 →
    (s.received h).gl.met.map (fun m => m.1) ≠ some walk.toNat → Answers (.glEnum h walk pos a) s fun t =>
    GotFrame (s.received h) t h.link ⟨0, (s.received h).myId, .enumResp s.deviceId (s.strap 5 1) ((s.received h).odN 0x9000 4 1)⟩ ∧
    t.gl.met = some (walk.toNat, pos.toNat) ∧
    t.gl.upstream = some h.link.val ∧
    t.rd Reg.GRILOR_ENUM_UPSTREAM_GL0 = b2n (h.link.val == 0) ∧
    KeepsBut [Reg.GRILOR_ENUM_UPSTREAM_GL0] [.gl] (s.received h) t) ∧
  (∀ (s : State) (h : GHead) (walk : Word) (pos : BitVec 16) (a : Option Byte) (p : Nat) (j : Fin 10), s.glTaken h = true → (s.received
    h).role = 2 → (s.received h).gl.met = some (walk.toNat, p) → otherPort h.link = some j.val → Answers (.glEnum h walk pos a) s fun t
    =>
    t.rd Reg.GRILOR_ENUM_MY_ID = (if pos.toNat = p + 1 then (a.map BitVec.toNat).getD 0 else s.rd Reg.GRILOR_ENUM_MY_ID) ∧
    t.gl.upstream = some h.link.val ∧
    GotFrame (s.received h) t j ⟨h.dst.toNat, h.src.toNat, .enum walk.toNat pos.toNat (a.map BitVec.toNat)⟩ ∧
    KeepsBut [Reg.GRILOR_ENUM_UPSTREAM_GL0, Reg.GRILOR_ENUM_MY_ID] [.gl] (s.received h) t) ∧
  (∀ (s : State) (h : GHead) (walk : Word) (pos : BitVec 16) (a : Option Byte), s.glTaken h = true → (s.received h).ring = true →
    h.link.val = 0 → (s.received h).gl.port = 1 → (s.received h).rd Reg.GRILOR_ENUM_ENUM_STATE = 1 → Answers (.glEnum h walk pos a) s
    fun t =>
    t.gl.ringClosed = true ∧
    t = ({ (s.received h) with gl := { (s.received h).gl with ringClosed := true } } : State).enumPortEnd) ∧
  (∀ (s : State) (h : GHead) (dev : BitVec 128) (side : Fin 2) (fid : Byte) (j : Fin 10), s.glTaken h = true → (s.received h).role = 2
    → (s.received h).gl.upstream ≠ none → otherPort h.link = some j.val → Answers (.glEnumResp h dev side fid) s fun t =>
    SentOn (s.received h) t j ⟨h.dst.toNat, h.src.toNat, .enumResp dev.toNat side fid.toNat⟩) ∧
  (∀ (s : State) (h : GHead) (dev : BitVec 128) (side : Fin 2) (fid : Byte) (w : Option Nat), s.glTaken h = true → (s.received h).role
    ≠ 2 → (s.received h).managing = true → (s.received h).rd Reg.GRILOR_ENUM_ENUM_STATE = 1 → (s.received h).gl.port = h.link →
    (s.received h).gl.pos < 255 → (s.received h).assignId dev.toNat side fid.toNat = (w, false) → Answers (.glEnumResp h dev side fid)
    s fun t =>
    t.gl.assigned = (s.received h).gl.assigned ++ (w.map (fun x => (x, h.link.val))).toList ∧
    t.gl.metDevices = (s.received h).gl.metDevices ++ [dev.toNat] ∧
    t.gl.pos = (s.received h).gl.pos + 1 ∧
    GotFrame (s.received h) t h.link ⟨0xFF, 0, .enum (s.received h).gl.walk ((s.received h).gl.pos + 1) w⟩ ∧
    t.rd Reg.GRILOR_ENUM_ID_CONFLICT = (if side = 0 ∧ w = none then 1 else (s.received h).rd Reg.GRILOR_ENUM_ID_CONFLICT) ∧
    KeepsBut [Reg.GRILOR_ENUM_ID_CONFLICT] [.gl, .marks] (s.received h) t) ∧
  (∀ (s : State) (h : GHead) (dev : BitVec 128) (fid : Byte) (w : Nat), s.glTaken h = true → (s.received h).role = 1 → (s.received
    h).rd Reg.GRILOR_ENUM_ENUM_STATE = 1 → (s.received h).gl.port = h.link → (s.received h).gl.pos < 255 → (s.received h).assignId
    dev.toNat 1 fid.toNat = (some w, true) → Answers (.glEnumResp h dev 1 fid) s fun t =>
    t.rosterAt w = dev.toNat ∧
    t.gl.assigned = (s.received h).gl.assigned ++ [(w, h.link.val)] ∧
    t.lastEvent = some (0x1103, w, [(s.received h).gl.pos]) ∧
    GotFrame (s.received h) t h.link ⟨0xFF, 0, .enum (s.received h).gl.walk ((s.received h).gl.pos + 1) (some w)⟩) ∧
  (∀ (s : State) (p : Nat), s.managing = true → s.rd Reg.GRILOR_ENUM_ENUM_STATE = 1 → s.passed .enum 300000 = true → s.enumPorts.find?
    (fun q => (if s.gl.port = 1 then 0 else if s.gl.port = 0 then 1 else s.gl.port) < (if q = 1 then 0 else if q = 0 then 1 else q)) =
    some p → Answers (.enumRespTimeout) s fun t =>
    t.gl.port = p ∧
    t.gl.pos = 1 ∧
    GotFrame s t p ⟨0xFF, 0, .enum s.gl.walk 1 none⟩ ∧
    t.gl.assigned = s.gl.assigned ∧
    Keeps [.gl, .marks] s t) ∧
  (∀ (s : State) (n : Nat), s.managing = true → s.rd Reg.GRILOR_ENUM_ENUM_STATE = 1 → s.passed .enum 300000 = true → s.enumPorts.find?
    (fun q => (if s.gl.port = 1 then 0 else if s.gl.port = 0 then 1 else s.gl.port) < (if q = 1 then 0 else if q = 0 then 1 else q)) =
    none → n = (if s.ring then (if s.gl.ringClosed then 4 else 5) else if s.rosterUsed.all (fun w => s.gl.metDevices.contains
    (s.rosterAt w)) then 2 else 3) → Answers (.enumRespTimeout) s fun t =>
    t.rd Reg.GRILOR_ENUM_ENUM_STATE = n ∧
    t.rd Reg.GRILOR_ENUM_WORKERS = s.gl.assigned.length % 2 ^ Reg.GRILOR_ENUM_WORKERS.w ∧
    t.lastEvent = some (0x1102, 0, [n, s.gl.assigned.length]) ∧
    t.gl.assigned = s.gl.assigned) ∧
  (∀ (s : State), (s.managing = false ∨ s.rd Reg.GRILOR_ENUM_ENUM_STATE ≠ 1 ∨ s.passed .enum 300000 = false) → Answers
    (.enumRespTimeout) s fun t =>
    t = s) ∧
  (∀ (s : State) (h : GHead) (m : GwMsg) (j : Fin 10), s.glTaken h = true → (s.received h).forMe h.dst.toNat = false → (s.received
    h).role = 2 → (s.received h).gl.upstream ≠ none → otherPort h.link = some j.val → Answers (.glData h m) s fun t =>
    SentOn (s.received h) t j ⟨h.dst.toNat, h.src.toNat, .data m⟩) ∧
  (∀ (s : State) (h : GHead) (key : Nat) (tag : Nat) (v : List Byte) (r : State), s.glTaken h = true → (s.received h).role = 2 →
    (s.received h).myId ≠ 0 → h.dst.toNat = (s.received h).myId → h.dst ≠ 0xFF → r = ({ (s.received h) with od := { (s.received h).od
    with answer := { ctx := 256 } } } : State).odRead 2 (key / 256) (key % 256) false → r.od.answer.ctx = 2 → r.od.answer.handle = none
    → Answers (.glData h (.request key 1 tag v)) s fun t =>
    SentOn r t h.link ⟨0, r.myId, .data (.answer r.od.answer.code r.od.answer.value)⟩) ∧
  (∀ (s : State) (h : GHead) (code : Nat) (v : Option OdVal), s.glTaken h = true → (s.received h).managing = true → h.dst = 0 →
    ((s.received h).runningOf 0x0B).any (fun i => paramAt ((s.received h).ticket i).params 0 1 == h.src.toNat) = false → Answers
    (.glData h (.answer code v)) s fun t =>
    t = (s.received h)) ∧
  (∀ (s : State) (h : GHead) (code : Nat) (v : Option OdVal) (k : Fin 128), s.glTaken h = true → (s.received h).managing = true → h.dst
    = 0 → (s.received h).runningOf 0x0B = some k.val → (s.received h).stepOpen k = true → ((s.received h).ticket k).step = 1 → paramAt
    ((s.received h).ticket k).params 0 1 = h.src.toNat → code ≠ 0 → Answers (.glData h (.answer code v)) s fun t =>
    t = ({ (s.received h) with gl := { (s.received h).gl with answer := none } } : State).failTicket k code) ∧
  (∀ (s : State) (k : Fin 128), s.runningOf 0x0B = some k.val → s.stepOpen k = true → (s.ticket k).step = 1 → s.passed .gateway (s.odN
    0x9000 0x0B 100 * msCycles) = true → Answers (.gatewayTimeout) s fun t =>
    t = s.failTicket k 0x17) ∧
  (∀ (s : State), (s.runningOf 0x0B = none ∨ s.passed .gateway (s.odN 0x9000 0x0B 100 * msCycles) = false) → Answers (.gatewayTimeout)
    s fun t =>
    t = s) ∧
  (∀ (s : State) (h : GHead) (im : Option Image), s.glTaken h = true → (s.received h).role = 2 → (s.received h).boot = 2 → (s.received
    h).wakeAt = 8 → (s.received h).forMe h.dst.toNat = true → (h.dst ≠ 0xFF ∨ (s.received h).gl.upstream = none) → (s.received
    h).img.hostImages.length < 5 → Answers (.glBoot h (.image im)) s fun t =>
    t.img.hostImages = (s.received h).img.hostImages ++ [im] ∧
    Keeps [.img] (s.received h) t) ∧
  (∀ (s : State) (h : GHead) (q : Nat), s.glTaken h = true → (s.received h).managing = true → h.dst = 0 → s.pow.weaverHalted = false →
    ((s.received h).glink h.link).waiting = [] → ((s.received h).glink h.link).unacked.length ≤ 11 → Answers (.glBoot h (.request q)) s
    fun t =>
    (t.glink h.link).unacked = ((s.received h).glink h.link).unacked ++ ((s.received h).bootImages q).map (fun im => ⟨if h.src.toNat = 0 then 0xFF else h.src.toNat, 0, .boot (.image im)⟩) ∧
    Keeps [.gl] (s.received h) t)

/-- The twins (R998 to R1007): HEARTBEAT clears the misses and tells the peer's state; INIT becomes OWNER or STANDBY as Table 17-5
says; a standby takes over, driving TWIN_OWN, at three misses or at a HANDOVER with the line released, and never while the peer holds
it; the handover command releases the line; mirrored records are staged and acknowledged; a missing MIRROR_ACK makes the mirror LOST. -/
def Obligations.Twins : Prop :=
  (∀ (s : State), s.role = 3 → Answers (.heartbeatSend) s fun t =>
    SentOn s t 0 ⟨0xFF, 0, .heartbeat (s.strap 5 1) (s.rd Reg.GRILOR_TWIN_STATE) (s.rd Reg.GRILOR_TWIN_MIRROR) (s.bolt s.jr.active).lastSeq (clockSec s.time.dt) (clockSub s.time.dt) s.ang⟩) ∧
  (∀ (s : State) (c : Instr), s.role ≠ 3 → (c = .heartbeatSend ∨ c = .heartbeatMiss ∨ (∃ b, c = .twinOwnChange b) ∨ c =
    .twinInitTimeout ∨ c = .mirrorSyncDone ∨ c = .handoverCommand ∨ c = .mirrorAckTimeout) → Answers (c) s fun t =>
    t = s) ∧
  (∀ (s : State) (h : GHead) (c : Instr), (s.role ≠ 3 ∨ h.link ≠ 0) → (c = .glHandover h ∨ c = .glMirrorAck h ∨ (∃ m, c = .glMirror h
    m) ∨ (∃ a b d e f g k, c = .glHeartbeat h a b d e f g k)) → Answers (c) s fun t =>
    t = s) ∧
  (∀ (s : State) (h : GHead) (side : Fin 2) (st : Fin 3) (m : Fin 3) (q : Word) (a : Word) (b : Word) (g : Word), s.role = 3 → h.link =
    0 → s.glTaken h = true → Answers (.glHeartbeat h side st m q a b g) s fun t =>
    t.rd Reg.GRILOR_TWIN_HB_MISSES = 0 ∧
    t.gl.peerSide = some side.val ∧
    t.gl.peerState = st ∧
    t.gl.peerMirror = m ∧
    t.gl.peerBeat = [q.toNat, a.toNat, b.toNat, g.toNat] ∧
    ((s.received h).standby = true → st = 2 → (s.received h).peerHolds = false → t.rd Reg.GRILOR_TWIN_OWN_FAULT = 1) ∧
    ((s.received h).rd Reg.GRILOR_TWIN_STATE = 0 → side.val = s.strap 5 1 → t.rd Reg.GRILOR_TWIN_SIDE_CONFLICT = 1 ∧ t.rd Reg.GRILOR_TWIN_STATE = 0) ∧
    ((s.received h).rd Reg.GRILOR_TWIN_STATE = 0 → side.val ≠ s.strap 5 1 → st = 2 → t.rd Reg.GRILOR_TWIN_STATE = 1 ∧ t.rd Reg.GRILOR_TWIN_MIRROR = 1) ∧
    ((s.received h).rd Reg.GRILOR_TWIN_STATE = 0 → side.val ≠ s.strap 5 1 → st ≠ 2 → (s.received h).peerHolds = false → s.strap 5 1 = 0 → t.rd Reg.GRILOR_TWIN_STATE = 2 ∧ t.rd Reg.GRILOR_TWIN_OWN_DRIVE = 1 ∧ t.rd Reg.GRILOR_TWIN_MIRROR = 1) ∧
    ((s.received h).rd Reg.GRILOR_TWIN_STATE = 0 → side.val ≠ s.strap 5 1 → st ≠ 2 → (s.received h).peerHolds = false → s.strap 5 1 = 1 → t.rd Reg.GRILOR_TWIN_STATE = 1 ∧ t.rd Reg.GRILOR_TWIN_MIRROR = (s.received h).rd Reg.GRILOR_TWIN_MIRROR)) ∧
  (∀ (s : State), s.role = 3 → s.passed .beat 330000 = true → (s.inc Reg.GRILOR_TWIN_HB_MISSES).missTakes = true → Answers
    (.heartbeatMiss) s fun t =>
    t.rd Reg.GRILOR_TWIN_STATE = 2 ∧
    t.rd Reg.GRILOR_TWIN_OWN_DRIVE = 1 ∧
    t.rd Reg.GRILOR_TWIN_HB_MISSES = 3) ∧
  (∀ (s : State), s.role = 3 → s.passed .beat 330000 = true → (s.inc Reg.GRILOR_TWIN_HB_MISSES).missTakes = false → s.standby = true →
    s.peerHolds = true → s.rd Reg.GRILOR_TWIN_HB_MISSES = 2 → s.rd Reg.GRILOR_TWIN_MIRROR ≠ 0 → Answers (.heartbeatMiss) s fun t =>
    t.rd Reg.GRILOR_TWIN_MIRROR = 0 ∧
    t.rd Reg.GRILOR_TWIN_HB_MISSES = 3 ∧
    t.lastEvent = some (0x1106, 0, [3]) ∧
    t.rd Reg.GRILOR_TWIN_STATE = 1) ∧
  (∀ (s : State), s.role = 3 → s.passed .beat 330000 = false → Answers (.heartbeatMiss) s fun t =>
    t = s) ∧
  (∀ (s : State), s.role = 3 → s.passed .beat 330000 = true → s.rd Reg.GRILOR_TWIN_HB_MISSES < 2 → Answers (.heartbeatMiss) s fun t =>
    t.rd Reg.GRILOR_TWIN_HB_MISSES = s.rd Reg.GRILOR_TWIN_HB_MISSES + 1 ∧
    KeepsBut [Reg.GRILOR_TWIN_HB_MISSES] [.marks] s t) ∧
  (∀ (s : State) (h : GHead), s.role = 3 → h.link = 0 → s.glTaken h = true → (s.received h).standby = true → Answers (.glHandover h) s
    fun t =>
    ((s.received h).peerHolds = true → t.gl.handover = true ∧ Keeps [.gl] (s.received h) t) ∧
    ((s.received h).peerHolds = false → t.rd Reg.GRILOR_TWIN_STATE = 2 ∧ t.rd Reg.GRILOR_TWIN_OWN_DRIVE = 1 ∧ t.gl.handover = false ∧ t.gl.mirrored = [])) ∧
  (∀ (s : State), s.handoverOk = true → Answers (.handoverCommand) s fun t =>
    t.rd Reg.GRILOR_TWIN_STATE = 1 ∧
    t.rd Reg.GRILOR_TWIN_OWN_DRIVE = 0 ∧
    GotFrame s.parkAll t 0 ⟨0xFF, 0, .handover⟩) ∧
  (∀ (s : State), s.handoverOk = false → Answers (.handoverCommand) s fun t =>
    t = s) ∧
  (∀ (s : State) (p : Bool), s.role = 3 → s.standby = true → Answers (.twinOwnChange p) s fun t =>
    (p = false → s.rd Reg.GRILOR_TWIN_OWN_DRIVE = 0 → s.gl.handover = true → t.rd Reg.GRILOR_TWIN_STATE = 2 ∧ t.rd Reg.GRILOR_TWIN_OWN_DRIVE = 1) ∧
    ((p = true ∧ s.rd Reg.GRILOR_TWIN_OWN_DRIVE = 0) ∨ (s.gl.handover = false ∧ s.rd Reg.GRILOR_TWIN_HB_MISSES ≠ 3) → t.rd Reg.GRILOR_TWIN_STATE = 1 ∧ t.rd Reg.GRILOR_TWIN_OWN_SENSE = (if s.rd Reg.GRILOR_TWIN_OWN_DRIVE ≠ 0 ∨ p = true then 1 else 0))) ∧
  (∀ (s : State), s.role = 3 → s.pstate = 4 → s.rd Reg.GRILOR_TWIN_STATE = 0 → s.glState 0 ≠ 2 → s.passed .run s.twinWait = true →
    Answers (.twinInitTimeout) s fun t =>
    (s.peerHolds = true → t.rd Reg.GRILOR_TWIN_STATE = 1 ∧ t.rd Reg.GRILOR_TWIN_MIRROR = 0 ∧ t.lastEvent = some (0x1106, 0, [s.rd Reg.GRILOR_TWIN_HB_MISSES])) ∧
    (s.peerHolds = false → t.rd Reg.GRILOR_TWIN_STATE = 2 ∧ t.rd Reg.GRILOR_TWIN_OWN_DRIVE = 1 ∧ t.rd Reg.GRILOR_TWIN_MIRROR = 0)) ∧
  (∀ (s : State), (s.pstate ≠ 4 ∨ s.rd Reg.GRILOR_TWIN_STATE ≠ 0 ∨ s.glState 0 = 2 ∨ s.passed .run s.twinWait = false) → Answers
    (.twinInitTimeout) s fun t =>
    t = s) ∧
  (∀ (s : State) (h : GHead) (b : JBody), s.role = 3 → h.link = 0 → s.glTaken h = true → (s.received h).standby = true → (s.received
    h).rd Reg.GRILOR_TWIN_MIRROR = 2 → (∀ g, b ≠ .boltHead g) → Answers (.glMirror h (.record b)) s fun t =>
    t.gl.mirrored = (s.received h).gl.mirrored ++ [b] ∧
    GotFrame (({ (s.received h) with gl := { (s.received h).gl with mirrored := (s.received h).gl.mirrored ++ [b] } } : State).stageLocal b) t 0 ⟨0xFF, 0, .mirrorAck⟩) ∧
  (∀ (s : State) (h : GHead) (b : JBody), s.role = 3 → h.link = 0 → s.glTaken h = true → (s.received h).standby = true → (s.received
    h).rd Reg.GRILOR_TWIN_MIRROR ≠ 2 → (∀ g, b ≠ .boltHead g) → Answers (.glMirror h (.record b)) s fun t =>
    t.gl = { (s.received h).gl with copy := (s.received h).gl.copy ++ [b] } ∧
    Keeps [.gl] (s.received h) t) ∧
  (∀ (s : State) (h : GHead) (g : Nat), s.role = 3 → h.link = 0 → s.glTaken h = true → (s.received h).standby = true → Answers
    (.glMirror h (.record (.boltHead g))) s fun t =>
    t.gl = { (s.received h).gl with copy := [.boltHead g] } ∧
    t.rd Reg.GRILOR_TWIN_MIRROR = 1 ∧
    KeepsBut [Reg.GRILOR_TWIN_MIRROR] [.gl] (s.received h) t) ∧
  (∀ (s : State) (h : GHead) (l : List (Nat × OdVal)), s.role = 3 → h.link = 0 → s.glTaken h = true → (s.received h).standby = true →
    Answers (.glMirror h (.rwWrite l)) s fun t =>
    (t = if (s.received h).rd Reg.GRILOR_TWIN_MIRROR = 2 then (s.received h).applyItems 0 l else (s.received h))) ∧
  (∀ (s : State) (h : GHead) (b : JBody) (l : List JBody), s.role = 3 → h.link = 0 → s.glTaken h = true → (s.received h).gl.mirrorOut =
    b :: l → b ∉ (s.received h).gl.heldBack → Answers (.glMirrorAck h) s fun t =>
    t.gl = { (s.received h).gl with mirrorOut := l } ∧
    Keeps [.gl, .marks] (s.received h) t) ∧
  (∀ (s : State) (h : GHead) (b : JBody) (l : List JBody), s.role = 3 → h.link = 0 → s.glTaken h = true → (s.received h).gl.mirrorOut =
    b :: l → b ∈ (s.received h).gl.heldBack → Answers (.glMirrorAck h) s fun t =>
    t = ({ (s.received h).mark .mirror with gl := { (s.received h).gl with mirrorOut := l, heldBack := (s.received h).gl.heldBack.erase b } } : State).recordEffect b) ∧
  (∀ (s : State), s.owner = true → s.rd Reg.GRILOR_TWIN_MIRROR = 2 → s.gl.mirrorOut ≠ [] → s.passed .mirror msCycles = true → Answers
    (.mirrorAckTimeout) s fun t =>
    t.rd Reg.GRILOR_TWIN_MIRROR = 0 ∧
    t.gl.mirrorOut = [] ∧
    t.gl.heldBack = []) ∧
  (∀ (s : State), s.owner = true → s.rd Reg.GRILOR_TWIN_MIRROR = 1 → Answers (.mirrorSyncDone) s fun t =>
    t.rd Reg.GRILOR_TWIN_MIRROR = 2 ∧
    KeepsBut [Reg.GRILOR_TWIN_MIRROR] [] s t) ∧
  (∀ (s : State), s.standby = true → s.rd Reg.GRILOR_TWIN_MIRROR = 1 → Answers (.mirrorSyncDone) s fun t =>
    t.rd Reg.GRILOR_TWIN_MIRROR = 2 ∧
    t.gl.mirrored = s.gl.copy ∧
    t.gl.copy = [])

/-! ### The whole block -/

/-- R262 and R199: a capture that finds the FIFO of its input full is discarded, with OVF set and the records kept; a mains crossing
that finds the cross-timestamp FIFO full puts its record in place of the oldest, with XTS_OVF set. -/
def Obligations.FullFifos : Prop :=
  (∀ (s : State) (n : Fin 8) (rising : Bool), (s.rd (Reg.TIME_TPI_CFG_EDGE.at n) = 3 ∨ s.rd (Reg.TIME_TPI_CFG_EDGE.at n) = (if rising
    then 1 else 2)) → (s.time.tpiEdge.get 0 n = 0 ∨ s.time.tpiEdge.get 0 n + 60 ≤ s.cycle - s.rd (Reg.TIME_TPI_CFG_FILT.at n) * 30 + 1)
    → 4 ≤ (s.tpiFifo n).length → Answers (.tpiCapture n rising) s fun t =>
    t.rd (Reg.TIME_TPI_CFG_OVF.at n) = 1 ∧
    t.tpiFifo n = s.tpiFifo n ∧
    KeepsBut [Reg.TIME_TPI_CFG_OVF.at n] [.time] s t) ∧
  (∀ (s : State) (edge : Nat) (low : Nat) (high : Nat) (back : Nat), s.trdSees = true → s.angleFollows = false → s.ms0Back edge low
    high = some back → (s.trdSt = 0 ∨ s.trdSt = 2 ∨ s.inWindow (s.cycle - back) (s.phaseErr (s.angBack back)) (s.angBack back) = true)
    → 16 ≤ s.trd.xts.length → Answers (.ms0Crossing edge low high) s fun t =>
    t.rd Reg.TREADLE_STAT_XTS_OVF = 1 ∧
    t.trd.xts.length = s.trd.xts.length ∧
    t.trd.xts.dropLast = s.trd.xts.drop 1)

/-- A step takes the command at the front of the queue and has its effect with the rest of the queue; with an empty queue one SCLK
cycle passes (the model's choice, log entry 1). -/
def Obligations.StepTakesFront : Prop :=
  (∀ (c : Instr) (l : List Instr) (s : State), s.pending = c :: l → step s = exec c { s with pending := l }) ∧
  (∀ s : State, s.pending = [] → step s = .next s.idle)

/-- The state right after reset (R16, R55, R481, R340): every field of every register at the value of its Reset column, every memory
word a NIL zero, every general register NIL but G31 of each thread, which points past the end of the local memory, no ticket, no
command waiting (the values where the Reset column says strap or fuse, the empty memories and registers that no rule gives, are the
choice of the model, log entry 2); and it meets both invariants. -/
def Obligations.ResetState : Prop :=
  (∀ r ∈ Reg.table, ∀ f ∈ r.fields, State.reset.rd f = f.reset) ∧
  (∀ (b : Fin 36) (o : Fin 65536), State.reset.word b o = {}) ∧
  (∀ (i : Fin 35) (n : Fin 31), State.reset.greg i n = TWord.nilWord) ∧
  (∀ i : Fin 35, State.reset.greg i 31 = ⟨.ptr, BitVec.ofNat 32 (localWords i)⟩) ∧
  (∀ i : Fin 128, (State.reset.ticket i).state = .free) ∧
  State.reset.pending = [] ∧ State.reset.wf = true ∧ State.reset.tagsHeld

/-- A command has its effect on everything but the queue of waiting commands. -/
def Obligations.QueueUntouched : Prop :=
  ∀ (c : Instr) (s t : State), exec c s = .next t → t.pending = s.pending

/-- R104: no command clears a fuse bit, and only the program step of a FUSE_PROGRAM ticket sets one. -/
def Obligations.FusesOnlySet : Prop :=
  ∀ (c : Instr) (s t : State), exec c s = .next t →
    s.fuse &&& t.fuse = s.fuse ∧
    (t.fuse ≠ s.fuse →
      ∃ (i : Fin 128) (f : StepFact), c = .ticketStepComplete i f ∧ (s.ticket i).type = 7 ∧ (s.ticket i).step = 0)

/-- Every step keeps the canonical form: the register file lists its fields in rising order, and the memory lists its words in rising
order and none at what an unlisted word reads as. -/
def Obligations.StepKeepsCanonicalForm : Prop :=
  ∀ s t : State, s.wf = true → step s = .next t → t.wf = true

/-- R480, R512: whatever the block does, no general register of any thread ever holds tag 0xE. -/
def Obligations.NoRegisterHoldsReservedTag : Prop :=
  ∀ s t : State, s.tagsHeld → step s = .next t → t.tagsHeld

end Statements
end

