-- ==== Sys2Proof/Laws/Loom.lean ====
section
/-! SUPPORT. Laws of the frame pool: which cells are free, and what picking cells gives. -/
namespace Sys2Proof.Machine

/-- Where no frame holds a cell and the Bobbin has none, every cell is free. -/
theorem freeCells_of_no_frames (s : State) (h : s.loom.frames = []) (hb : s.on Reg.BOBBIN_CTRL_EN = false) :
    s.freeCells = List.range 16384 := by
  have hl : s.frameList = [] := by simp [State.frameList, h]
  have hc : s.bobCells = 0 := by simp [State.bobCells, hb]
  unfold State.freeCells
  rw [hl, hc]
  rw [List.filter_eq_self]
  intro a _
  simp
  omega

/-- Picking `k` cells gives `k` cells. -/
theorem pickCells_length (k : Nat) (s : State) (l : List Nat) : (State.pickCells k s l).1.length = k := by
  induction k generalizing s l with
  | zero => rfl
  | succ k ih => simp [State.pickCells, ih]

/-- The cells picked are among those given, where there are enough of them. -/
theorem pickCells_subset (k : Nat) (s : State) (l : List Nat) (h : k ≤ l.length) :
    ∀ c ∈ (State.pickCells k s l).1, c ∈ l := by
  induction k generalizing s l with
  | zero => simp [State.pickCells]
  | succ k ih =>
    have hlt : s.drawWord.1.toNat % l.length < l.length := Nat.mod_lt _ (by omega)
    intro c hc
    simp only [State.pickCells, List.mem_cons] at hc
    rcases hc with rfl | hc
    · rw [List.getD_eq_getElem _ _ hlt]
      exact List.getElem_mem hlt
    · refine List.mem_of_mem_eraseIdx (ih _ _ ?_ c hc)
      rw [List.length_eraseIdx_of_lt hlt]
      omega

/-- Picking changes nothing but the count of free values. -/
theorem pickCells_state (k : Nat) (s : State) (l : List Nat) :
    (State.pickCells k s l).2 = { s with free := s.free + k } := by
  induction k generalizing s l with
  | zero => rfl
  | succ k ih => simp [State.pickCells, ih, State.drawWord, Nat.add_comm, Nat.add_left_comm]

end Sys2Proof.Machine
end

