-- ==== Sys2Proof/Laws/Store.lean ====
section
/-! SUPPORT. The laws of the sparse store: reading after writing, and the canonical form that every write keeps. -/
namespace Sys2Proof.Machine

variable {α : Type}

@[simp] theorem Store.get_nil (d : α) (k : Nat) : Store.get d [] k = d := rfl

theorem Store.get_del_same (d : α) (m : Store α) (k : Nat) : (m.del k).get d k = d := by
  induction m with
  | nil => rfl
  | cons e t ih =>
    obtain ⟨a, v⟩ := e
    by_cases h : k = a
    · simpa [Store.del, h] using h ▸ ih
    · simpa [Store.del, Store.get, h] using ih

theorem Store.get_del_ne (d : α) (m : Store α) {k j : Nat} (h : j ≠ k) : (m.del k).get d j = m.get d j := by
  induction m with
  | nil => rfl
  | cons e t ih =>
    obtain ⟨a, v⟩ := e
    by_cases hk : k = a
    · subst hk; simp [Store.del, Store.get, h, ih]
    · simp [Store.del, Store.get, hk, ih]

theorem Store.get_put_same (d : α) (m : Store α) (k : Nat) (v : α) : (m.put k v).get d k = v := by
  induction m with
  | nil => simp [Store.put, Store.get]
  | cons e t ih =>
    obtain ⟨a, w⟩ := e
    unfold Store.put
    split
    · simp [Store.get]
    · split
      · simp [Store.get]
      · simp_all [Store.get]

theorem Store.get_put_ne (d : α) (m : Store α) (v : α) {k j : Nat} (h : j ≠ k) : (m.put k v).get d j = m.get d j := by
  induction m with
  | nil => simp [Store.put, Store.get, h]
  | cons e t ih =>
    obtain ⟨a, w⟩ := e
    unfold Store.put
    split
    · simp [Store.get, h]
    · split
      · rename_i hk; subst hk; simp [Store.get, h]
      · simp [Store.get, ih]

variable [DecidableEq α]

/-- A read after a write of the same key gives the value written. -/
@[simp] theorem Store.get_set_same (d : α) (m : Store α) (k : Nat) (v : α) : (m.set d k v).get d k = v := by
  unfold Store.set
  split
  · rename_i h; rw [Store.get_del_same, h]
  · exact Store.get_put_same d m k v

/-- A write leaves every other key alone, whatever the unlisted keys read as. -/
theorem Store.get_set_ne (d e : α) (m : Store α) (v : α) {k j : Nat} (h : j ≠ k) : (m.set d k v).get e j = m.get e j := by
  unfold Store.set
  split
  · exact Store.get_del_ne e m h
  · exact Store.get_put_ne e m v h

/-- A read after a write. -/
theorem Store.get_set (d : α) (m : Store α) (k j : Nat) (v : α) :
    (m.set d k v).get d j = if j = k then v else m.get d j := by
  by_cases h : j = k
  · subst h; simp
  · simp [Store.get_set_ne d d m v h, h]

/-! ### The canonical form -/

omit [DecidableEq α] in
theorem Store.risingFrom_mono {lo hi : Nat} (h : lo ≤ hi) (m : Store α) (w : Store.risingFrom hi m) :
    Store.risingFrom lo m := by
  cases m with
  | nil => rfl
  | cons e t =>
    simp only [Store.risingFrom, Bool.and_eq_true, decide_eq_true_eq] at w ⊢
    exact ⟨by omega, w.2⟩

omit [DecidableEq α] in
theorem Store.risingFrom_del (lo k : Nat) (m : Store α) (w : Store.risingFrom lo m) : Store.risingFrom lo (m.del k) := by
  induction m generalizing lo with
  | nil => rfl
  | cons e t ih =>
    obtain ⟨a, v⟩ := e
    simp only [Store.risingFrom, Bool.and_eq_true, decide_eq_true_eq] at w
    unfold Store.del
    split
    · exact ih lo (Store.risingFrom_mono (by omega) t w.2)
    · simpa [Store.risingFrom, w.1] using ih a w.2

omit [DecidableEq α] in
theorem Store.risingFrom_put (lo k : Nat) (v : α) (m : Store α) (h : lo < k) (w : Store.risingFrom lo m) :
    Store.risingFrom lo (m.put k v) := by
  induction m generalizing lo with
  | nil => simp [Store.put, Store.risingFrom, h]
  | cons e t ih =>
    obtain ⟨a, x⟩ := e
    simp only [Store.risingFrom, Bool.and_eq_true, decide_eq_true_eq] at w
    unfold Store.put
    split
    · rename_i hk; simp [Store.risingFrom, h, hk, w.2]
    · split
      · rename_i _ hk; subst hk; simp [Store.risingFrom, h, w.2]
      · simpa [Store.risingFrom, w.1] using ih a (by omega) w.2

omit [DecidableEq α] in
theorem Store.rising_of_risingFrom (lo : Nat) (m : Store α) (w : Store.risingFrom lo m) : m.rising := by
  cases m with
  | nil => rfl
  | cons e t => simp only [Store.risingFrom, Bool.and_eq_true] at w; exact w.2

omit [DecidableEq α] in
theorem Store.rising_del (k : Nat) (m : Store α) (w : m.rising) : (m.del k).rising := by
  cases m with
  | nil => rfl
  | cons e t =>
    obtain ⟨a, v⟩ := e
    have w' : Store.risingFrom a t := w
    unfold Store.del
    split
    · exact Store.rising_of_risingFrom a _ (Store.risingFrom_del a k t w')
    · exact Store.risingFrom_del a k t w'

omit [DecidableEq α] in
theorem Store.rising_put (k : Nat) (v : α) (m : Store α) (w : m.rising) : (m.put k v).rising := by
  cases m with
  | nil => rfl
  | cons e t =>
    obtain ⟨a, x⟩ := e
    have w' : Store.risingFrom a t := w
    unfold Store.put
    split
    · rename_i h; simp [Store.rising, Store.risingFrom, h, w']
    · split
      · rename_i _ h; subst h; exact w'
      · exact Store.risingFrom_put a k v t (by omega) w'

/-- A write keeps the keys rising. -/
theorem Store.rising_set (d : α) (k : Nat) (v : α) (m : Store α) (w : m.rising) : (m.set d k v).rising := by
  unfold Store.set
  split
  · exact Store.rising_del k m w
  · exact Store.rising_put k v m w

omit [DecidableEq α] in
theorem Store.all_del (p : Nat × α → Bool) (k : Nat) (m : Store α) (w : m.all p) : (m.del k).all p := by
  induction m with
  | nil => rfl
  | cons e t ih =>
    obtain ⟨a, v⟩ := e
    simp only [List.all_cons, Bool.and_eq_true] at w
    unfold Store.del
    split
    · exact ih w.2
    · simpa [w.1] using ih w.2

omit [DecidableEq α] in
theorem Store.all_put (p : Nat × α → Bool) (k : Nat) (v : α) (m : Store α) (hv : p (k, v)) (w : m.all p) :
    (m.put k v).all p := by
  induction m with
  | nil => simpa [Store.put] using hv
  | cons e t ih =>
    obtain ⟨a, x⟩ := e
    simp only [List.all_cons, Bool.and_eq_true] at w
    unfold Store.put
    split
    · simp_all
    · split
      · simp_all
      · have := ih w.2; simp_all

/-- A write keeps the canonical form. -/
theorem Store.wf_set (d : α) (k : Nat) (v : α) (m : Store α) (w : Store.wf d m) : Store.wf d (m.set d k v) := by
  simp only [Store.wf, Bool.and_eq_true] at w ⊢
  refine ⟨Store.rising_set d k v m w.1, ?_⟩
  unfold Store.set
  split
  · exact Store.all_del _ k m w.2
  · rename_i h; exact Store.all_put _ k v m (by simpa using h) w.2

theorem Store.wf_upd (d : α) (k : Nat) (f : α → α) (m : Store α) (w : Store.wf d m) : Store.wf d (m.upd d k f) :=
  Store.wf_set d k _ m w

/-- Keeping some entries keeps the keys rising. -/
theorem Store.rising_filter (p : Nat × α → Bool) (m : Store α) (w : m.rising) : Store.rising (m.filter p) := by
  have go : ∀ (lo : Nat) (t : Store α), Store.risingFrom lo t → Store.risingFrom lo (t.filter p) := by
    intro lo t
    induction t generalizing lo with
    | nil => intro _; rfl
    | cons e t ih =>
      intro h
      simp only [Store.risingFrom, Bool.and_eq_true, decide_eq_true_eq] at h
      by_cases hp : p e
      · simpa [hp, Store.risingFrom, h.1] using ih e.1 h.2
      · simpa [hp] using ih lo (Store.risingFrom_mono (by omega) t h.2)
  cases m with
  | nil => rfl
  | cons e t =>
    have h : Store.risingFrom e.1 t := w
    by_cases hp : p e
    · simpa [hp, Store.rising] using go e.1 t h
    · simpa [hp] using Store.rising_of_risingFrom e.1 _ (go e.1 t h)

end Sys2Proof.Machine
end

