-- ==== Sys2Proof/Laws/State.lean ====
section
/-! SUPPORT. What each named update of the state writes and what it leaves, one lemma per field, so that no later proof unfolds
a record update. -/
namespace Sys2Proof.Machine

/-! ### Register fields -/

/-- A field reads back what was written to it, in its width. -/
@[simp] theorem State.rd_wr_same (s : State) (f : Field) (v : Nat) : (s.wr f v).rd f = v % 2 ^ f.w := by
  simp [State.rd, State.wr]

/-- A write of a field leaves every field of another key. -/
theorem State.rd_wr_ne (s : State) (f g : Field) (v : Nat) (h : g.key ≠ f.key) : (s.wr f v).rd g = s.rd g := by
  simp [State.rd, State.wr, Store.get_set_ne _ _ _ _ h]

/-- A read of any field after a write of another key, decided on the keys. -/
@[simp] theorem State.rd_wr (s : State) (f g : Field) (v : Nat) (h : g.key ≠ f.key) : (s.wr f v).rd g = s.rd g :=
  s.rd_wr_ne f g v h

@[simp] theorem State.wr_regs (s : State) (f : Field) (v : Nat) :
    (s.wr f v).regs = s.regs.set f.reset f.key (v % 2 ^ f.w) := rfl

@[simp] theorem State.wrIf_true (s : State) (f : Field) (v : Nat) : s.wrIf true f v = s.wr f v := rfl
@[simp] theorem State.wrIf_false (s : State) (f : Field) (v : Nat) : s.wrIf false f v = s := rfl

/-! ### What a register write leaves -/

@[simp] theorem State.wr_cycle (s : State) (f : Field) (v : Nat) : (s.wr f v).cycle = s.cycle := rfl
@[simp] theorem State.wr_free (s : State) (f : Field) (v : Nat) : (s.wr f v).free = s.free := rfl
@[simp] theorem State.wr_fuse (s : State) (f : Field) (v : Nat) : (s.wr f v).fuse = s.fuse := rfl
@[simp] theorem State.wr_link (s : State) (f : Field) (v : Nat) : (s.wr f v).link = s.link := rfl
@[simp] theorem State.wr_linkAnswer (s : State) (f : Field) (v : Nat) : (s.wr f v).linkAnswer = s.linkAnswer := rfl
@[simp] theorem State.wr_pow (s : State) (f : Field) (v : Nat) : (s.wr f v).pow = s.pow := rfl
@[simp] theorem State.wr_od (s : State) (f : Field) (v : Nat) : (s.wr f v).od = s.od := rfl
@[simp] theorem State.wr_tk (s : State) (f : Field) (v : Nat) : (s.wr f v).tk = s.tk := rfl
@[simp] theorem State.wr_jr (s : State) (f : Field) (v : Nat) : (s.wr f v).jr = s.jr := rfl
@[simp] theorem State.wr_trd (s : State) (f : Field) (v : Nat) : (s.wr f v).trd = s.trd := rfl
@[simp] theorem State.wr_time (s : State) (f : Field) (v : Nat) : (s.wr f v).time = s.time := rfl
@[simp] theorem State.wr_mem (s : State) (f : Field) (v : Nat) : (s.wr f v).mem = s.mem := rfl
@[simp] theorem State.wr_threads (s : State) (f : Field) (v : Nat) : (s.wr f v).threads = s.threads := rfl
@[simp] theorem State.wr_img (s : State) (f : Field) (v : Nat) : (s.wr f v).img = s.img := rfl
@[simp] theorem State.wr_hed (s : State) (f : Field) (v : Nat) : (s.wr f v).hed = s.hed := rfl
@[simp] theorem State.wr_loom (s : State) (f : Field) (v : Nat) : (s.wr f v).loom = s.loom := rfl
@[simp] theorem State.wr_can (s : State) (f : Field) (v : Nat) : (s.wr f v).can = s.can := rfl
@[simp] theorem State.wr_pwm (s : State) (f : Field) (v : Nat) : (s.wr f v).pwm = s.pwm := rfl
@[simp] theorem State.wr_fan (s : State) (f : Field) (v : Nat) : (s.wr f v).fan = s.fan := rfl
@[simp] theorem State.wr_bk (s : State) (f : Field) (v : Nat) : (s.wr f v).bk = s.bk := rfl
@[simp] theorem State.wr_gl (s : State) (f : Field) (v : Nat) : (s.wr f v).gl = s.gl := rfl
@[simp] theorem State.wr_readData (s : State) (f : Field) (v : Nat) : (s.wr f v).readData = s.readData := rfl
@[simp] theorem State.wr_pending (s : State) (f : Field) (v : Nat) : (s.wr f v).pending = s.pending := rfl
@[simp] theorem State.wr_flash (s : State) (f : Field) (v : Nat) : (s.wr f v).flash = s.flash := rfl
@[simp] theorem State.wr_marks (s : State) (f : Field) (v : Nat) : (s.wr f v).marks = s.marks := rfl

/-! ### What the beginning of an interval leaves -/

@[simp] theorem State.mark_regs (s : State) (m : Mark) : (s.mark m).regs = s.regs := rfl
@[simp] theorem State.mark_cycle (s : State) (m : Mark) : (s.mark m).cycle = s.cycle := rfl
@[simp] theorem State.mark_free (s : State) (m : Mark) : (s.mark m).free = s.free := rfl
@[simp] theorem State.mark_fuse (s : State) (m : Mark) : (s.mark m).fuse = s.fuse := rfl
@[simp] theorem State.mark_link (s : State) (m : Mark) : (s.mark m).link = s.link := rfl
@[simp] theorem State.mark_linkAnswer (s : State) (m : Mark) : (s.mark m).linkAnswer = s.linkAnswer := rfl
@[simp] theorem State.mark_pow (s : State) (m : Mark) : (s.mark m).pow = s.pow := rfl
@[simp] theorem State.mark_od (s : State) (m : Mark) : (s.mark m).od = s.od := rfl
@[simp] theorem State.mark_tk (s : State) (m : Mark) : (s.mark m).tk = s.tk := rfl
@[simp] theorem State.mark_jr (s : State) (m : Mark) : (s.mark m).jr = s.jr := rfl
@[simp] theorem State.mark_flash (s : State) (m : Mark) : (s.mark m).flash = s.flash := rfl
@[simp] theorem State.mark_trd (s : State) (m : Mark) : (s.mark m).trd = s.trd := rfl
@[simp] theorem State.mark_time (s : State) (m : Mark) : (s.mark m).time = s.time := rfl
@[simp] theorem State.mark_mem (s : State) (m : Mark) : (s.mark m).mem = s.mem := rfl
@[simp] theorem State.mark_threads (s : State) (m : Mark) : (s.mark m).threads = s.threads := rfl
@[simp] theorem State.mark_img (s : State) (m : Mark) : (s.mark m).img = s.img := rfl
@[simp] theorem State.mark_hed (s : State) (m : Mark) : (s.mark m).hed = s.hed := rfl
@[simp] theorem State.mark_loom (s : State) (m : Mark) : (s.mark m).loom = s.loom := rfl
@[simp] theorem State.mark_can (s : State) (m : Mark) : (s.mark m).can = s.can := rfl
@[simp] theorem State.mark_pwm (s : State) (m : Mark) : (s.mark m).pwm = s.pwm := rfl
@[simp] theorem State.mark_fan (s : State) (m : Mark) : (s.mark m).fan = s.fan := rfl
@[simp] theorem State.mark_bk (s : State) (m : Mark) : (s.mark m).bk = s.bk := rfl
@[simp] theorem State.mark_gl (s : State) (m : Mark) : (s.mark m).gl = s.gl := rfl
@[simp] theorem State.mark_readData (s : State) (m : Mark) : (s.mark m).readData = s.readData := rfl
@[simp] theorem State.mark_pending (s : State) (m : Mark) : (s.mark m).pending = s.pending := rfl

/-- The interval begins now: none of its cycles has passed. -/
@[simp] theorem State.mark_get (s : State) (m : Mark) : (s.mark m).marks.get 0 m.key = s.cycle := by simp [State.mark]

@[simp] theorem State.mark_rd (s : State) (m : Mark) (f : Field) : (s.mark m).rd f = s.rd f := rfl

/-! ### What drawing a free word leaves -/

@[simp] theorem State.drawWord_regs (s : State)  : (s.drawWord.2).regs = s.regs := rfl
@[simp] theorem State.drawWord_cycle (s : State)  : (s.drawWord.2).cycle = s.cycle := rfl
@[simp] theorem State.drawWord_fuse (s : State)  : (s.drawWord.2).fuse = s.fuse := rfl
@[simp] theorem State.drawWord_link (s : State)  : (s.drawWord.2).link = s.link := rfl
@[simp] theorem State.drawWord_linkAnswer (s : State)  : (s.drawWord.2).linkAnswer = s.linkAnswer := rfl
@[simp] theorem State.drawWord_pow (s : State)  : (s.drawWord.2).pow = s.pow := rfl
@[simp] theorem State.drawWord_od (s : State)  : (s.drawWord.2).od = s.od := rfl
@[simp] theorem State.drawWord_tk (s : State)  : (s.drawWord.2).tk = s.tk := rfl
@[simp] theorem State.drawWord_jr (s : State)  : (s.drawWord.2).jr = s.jr := rfl
@[simp] theorem State.drawWord_trd (s : State)  : (s.drawWord.2).trd = s.trd := rfl
@[simp] theorem State.drawWord_time (s : State)  : (s.drawWord.2).time = s.time := rfl
@[simp] theorem State.drawWord_mem (s : State)  : (s.drawWord.2).mem = s.mem := rfl
@[simp] theorem State.drawWord_threads (s : State)  : (s.drawWord.2).threads = s.threads := rfl
@[simp] theorem State.drawWord_img (s : State)  : (s.drawWord.2).img = s.img := rfl
@[simp] theorem State.drawWord_hed (s : State)  : (s.drawWord.2).hed = s.hed := rfl
@[simp] theorem State.drawWord_loom (s : State)  : (s.drawWord.2).loom = s.loom := rfl
@[simp] theorem State.drawWord_can (s : State)  : (s.drawWord.2).can = s.can := rfl
@[simp] theorem State.drawWord_pwm (s : State)  : (s.drawWord.2).pwm = s.pwm := rfl
@[simp] theorem State.drawWord_fan (s : State)  : (s.drawWord.2).fan = s.fan := rfl
@[simp] theorem State.drawWord_bk (s : State)  : (s.drawWord.2).bk = s.bk := rfl
@[simp] theorem State.drawWord_gl (s : State)  : (s.drawWord.2).gl = s.gl := rfl
@[simp] theorem State.drawWord_readData (s : State)  : (s.drawWord.2).readData = s.readData := rfl
@[simp] theorem State.drawWord_pending (s : State)  : (s.drawWord.2).pending = s.pending := rfl
@[simp] theorem State.drawWord_flash (s : State)  : (s.drawWord.2).flash = s.flash := rfl
@[simp] theorem State.drawWord_marks (s : State)  : (s.drawWord.2).marks = s.marks := rfl

/-! ### What drawing a free choice leaves -/

@[simp] theorem State.drawBool_regs (s : State)  : (s.drawBool.2).regs = s.regs := rfl
@[simp] theorem State.drawBool_cycle (s : State)  : (s.drawBool.2).cycle = s.cycle := rfl
@[simp] theorem State.drawBool_fuse (s : State)  : (s.drawBool.2).fuse = s.fuse := rfl
@[simp] theorem State.drawBool_link (s : State)  : (s.drawBool.2).link = s.link := rfl
@[simp] theorem State.drawBool_linkAnswer (s : State)  : (s.drawBool.2).linkAnswer = s.linkAnswer := rfl
@[simp] theorem State.drawBool_pow (s : State)  : (s.drawBool.2).pow = s.pow := rfl
@[simp] theorem State.drawBool_od (s : State)  : (s.drawBool.2).od = s.od := rfl
@[simp] theorem State.drawBool_tk (s : State)  : (s.drawBool.2).tk = s.tk := rfl
@[simp] theorem State.drawBool_jr (s : State)  : (s.drawBool.2).jr = s.jr := rfl
@[simp] theorem State.drawBool_trd (s : State)  : (s.drawBool.2).trd = s.trd := rfl
@[simp] theorem State.drawBool_time (s : State)  : (s.drawBool.2).time = s.time := rfl
@[simp] theorem State.drawBool_mem (s : State)  : (s.drawBool.2).mem = s.mem := rfl
@[simp] theorem State.drawBool_threads (s : State)  : (s.drawBool.2).threads = s.threads := rfl
@[simp] theorem State.drawBool_img (s : State)  : (s.drawBool.2).img = s.img := rfl
@[simp] theorem State.drawBool_hed (s : State)  : (s.drawBool.2).hed = s.hed := rfl
@[simp] theorem State.drawBool_loom (s : State)  : (s.drawBool.2).loom = s.loom := rfl
@[simp] theorem State.drawBool_can (s : State)  : (s.drawBool.2).can = s.can := rfl
@[simp] theorem State.drawBool_pwm (s : State)  : (s.drawBool.2).pwm = s.pwm := rfl
@[simp] theorem State.drawBool_fan (s : State)  : (s.drawBool.2).fan = s.fan := rfl
@[simp] theorem State.drawBool_bk (s : State)  : (s.drawBool.2).bk = s.bk := rfl
@[simp] theorem State.drawBool_gl (s : State)  : (s.drawBool.2).gl = s.gl := rfl
@[simp] theorem State.drawBool_readData (s : State)  : (s.drawBool.2).readData = s.readData := rfl
@[simp] theorem State.drawBool_pending (s : State)  : (s.drawBool.2).pending = s.pending := rfl
@[simp] theorem State.drawBool_flash (s : State)  : (s.drawBool.2).flash = s.flash := rfl
@[simp] theorem State.drawBool_marks (s : State)  : (s.drawBool.2).marks = s.marks := rfl

/-! ### What setting an entry leaves -/

@[simp] theorem State.odPut_regs (s : State) (i j : Nat) (v : OdVal) : (s.odPut i j v).regs = s.regs := rfl
@[simp] theorem State.odPut_cycle (s : State) (i j : Nat) (v : OdVal) : (s.odPut i j v).cycle = s.cycle := rfl
@[simp] theorem State.odPut_free (s : State) (i j : Nat) (v : OdVal) : (s.odPut i j v).free = s.free := rfl
@[simp] theorem State.odPut_fuse (s : State) (i j : Nat) (v : OdVal) : (s.odPut i j v).fuse = s.fuse := rfl
@[simp] theorem State.odPut_link (s : State) (i j : Nat) (v : OdVal) : (s.odPut i j v).link = s.link := rfl
@[simp] theorem State.odPut_linkAnswer (s : State) (i j : Nat) (v : OdVal) : (s.odPut i j v).linkAnswer = s.linkAnswer := rfl
@[simp] theorem State.odPut_pow (s : State) (i j : Nat) (v : OdVal) : (s.odPut i j v).pow = s.pow := rfl
@[simp] theorem State.odPut_tk (s : State) (i j : Nat) (v : OdVal) : (s.odPut i j v).tk = s.tk := rfl
@[simp] theorem State.odPut_jr (s : State) (i j : Nat) (v : OdVal) : (s.odPut i j v).jr = s.jr := rfl
@[simp] theorem State.odPut_trd (s : State) (i j : Nat) (v : OdVal) : (s.odPut i j v).trd = s.trd := rfl
@[simp] theorem State.odPut_time (s : State) (i j : Nat) (v : OdVal) : (s.odPut i j v).time = s.time := rfl
@[simp] theorem State.odPut_mem (s : State) (i j : Nat) (v : OdVal) : (s.odPut i j v).mem = s.mem := rfl
@[simp] theorem State.odPut_threads (s : State) (i j : Nat) (v : OdVal) : (s.odPut i j v).threads = s.threads := rfl
@[simp] theorem State.odPut_img (s : State) (i j : Nat) (v : OdVal) : (s.odPut i j v).img = s.img := rfl
@[simp] theorem State.odPut_hed (s : State) (i j : Nat) (v : OdVal) : (s.odPut i j v).hed = s.hed := rfl
@[simp] theorem State.odPut_loom (s : State) (i j : Nat) (v : OdVal) : (s.odPut i j v).loom = s.loom := rfl
@[simp] theorem State.odPut_can (s : State) (i j : Nat) (v : OdVal) : (s.odPut i j v).can = s.can := rfl
@[simp] theorem State.odPut_pwm (s : State) (i j : Nat) (v : OdVal) : (s.odPut i j v).pwm = s.pwm := rfl
@[simp] theorem State.odPut_fan (s : State) (i j : Nat) (v : OdVal) : (s.odPut i j v).fan = s.fan := rfl
@[simp] theorem State.odPut_bk (s : State) (i j : Nat) (v : OdVal) : (s.odPut i j v).bk = s.bk := rfl
@[simp] theorem State.odPut_gl (s : State) (i j : Nat) (v : OdVal) : (s.odPut i j v).gl = s.gl := rfl
@[simp] theorem State.odPut_readData (s : State) (i j : Nat) (v : OdVal) : (s.odPut i j v).readData = s.readData := rfl
@[simp] theorem State.odPut_pending (s : State) (i j : Nat) (v : OdVal) : (s.odPut i j v).pending = s.pending := rfl
@[simp] theorem State.odPut_flash (s : State) (i j : Nat) (v : OdVal) : (s.odPut i j v).flash = s.flash := rfl
@[simp] theorem State.odPut_marks (s : State) (i j : Nat) (v : OdVal) : (s.odPut i j v).marks = s.marks := rfl

/-! ### What putting a link leaves -/

@[simp] theorem State.setGlink_regs (s : State) (i : Nat) (l : GLink) : (s.setGlink i l).regs = s.regs := rfl
@[simp] theorem State.setGlink_cycle (s : State) (i : Nat) (l : GLink) : (s.setGlink i l).cycle = s.cycle := rfl
@[simp] theorem State.setGlink_free (s : State) (i : Nat) (l : GLink) : (s.setGlink i l).free = s.free := rfl
@[simp] theorem State.setGlink_fuse (s : State) (i : Nat) (l : GLink) : (s.setGlink i l).fuse = s.fuse := rfl
@[simp] theorem State.setGlink_link (s : State) (i : Nat) (l : GLink) : (s.setGlink i l).link = s.link := rfl
@[simp] theorem State.setGlink_linkAnswer (s : State) (i : Nat) (l : GLink) : (s.setGlink i l).linkAnswer = s.linkAnswer := rfl
@[simp] theorem State.setGlink_pow (s : State) (i : Nat) (l : GLink) : (s.setGlink i l).pow = s.pow := rfl
@[simp] theorem State.setGlink_od (s : State) (i : Nat) (l : GLink) : (s.setGlink i l).od = s.od := rfl
@[simp] theorem State.setGlink_tk (s : State) (i : Nat) (l : GLink) : (s.setGlink i l).tk = s.tk := rfl
@[simp] theorem State.setGlink_jr (s : State) (i : Nat) (l : GLink) : (s.setGlink i l).jr = s.jr := rfl
@[simp] theorem State.setGlink_trd (s : State) (i : Nat) (l : GLink) : (s.setGlink i l).trd = s.trd := rfl
@[simp] theorem State.setGlink_time (s : State) (i : Nat) (l : GLink) : (s.setGlink i l).time = s.time := rfl
@[simp] theorem State.setGlink_mem (s : State) (i : Nat) (l : GLink) : (s.setGlink i l).mem = s.mem := rfl
@[simp] theorem State.setGlink_threads (s : State) (i : Nat) (l : GLink) : (s.setGlink i l).threads = s.threads := rfl
@[simp] theorem State.setGlink_img (s : State) (i : Nat) (l : GLink) : (s.setGlink i l).img = s.img := rfl
@[simp] theorem State.setGlink_hed (s : State) (i : Nat) (l : GLink) : (s.setGlink i l).hed = s.hed := rfl
@[simp] theorem State.setGlink_loom (s : State) (i : Nat) (l : GLink) : (s.setGlink i l).loom = s.loom := rfl
@[simp] theorem State.setGlink_can (s : State) (i : Nat) (l : GLink) : (s.setGlink i l).can = s.can := rfl
@[simp] theorem State.setGlink_pwm (s : State) (i : Nat) (l : GLink) : (s.setGlink i l).pwm = s.pwm := rfl
@[simp] theorem State.setGlink_fan (s : State) (i : Nat) (l : GLink) : (s.setGlink i l).fan = s.fan := rfl
@[simp] theorem State.setGlink_bk (s : State) (i : Nat) (l : GLink) : (s.setGlink i l).bk = s.bk := rfl
@[simp] theorem State.setGlink_readData (s : State) (i : Nat) (l : GLink) : (s.setGlink i l).readData = s.readData := rfl
@[simp] theorem State.setGlink_pending (s : State) (i : Nat) (l : GLink) : (s.setGlink i l).pending = s.pending := rfl
@[simp] theorem State.setGlink_flash (s : State) (i : Nat) (l : GLink) : (s.setGlink i l).flash = s.flash := rfl
@[simp] theorem State.setGlink_marks (s : State) (i : Nat) (l : GLink) : (s.setGlink i l).marks = s.marks := rfl

/-! ### What putting a ticket leaves -/

@[simp] theorem State.setTicket_regs (s : State) (i : Nat) (t : Ticket) : (s.setTicket i t).regs = s.regs := rfl
@[simp] theorem State.setTicket_cycle (s : State) (i : Nat) (t : Ticket) : (s.setTicket i t).cycle = s.cycle := rfl
@[simp] theorem State.setTicket_free (s : State) (i : Nat) (t : Ticket) : (s.setTicket i t).free = s.free := rfl
@[simp] theorem State.setTicket_fuse (s : State) (i : Nat) (t : Ticket) : (s.setTicket i t).fuse = s.fuse := rfl
@[simp] theorem State.setTicket_link (s : State) (i : Nat) (t : Ticket) : (s.setTicket i t).link = s.link := rfl
@[simp] theorem State.setTicket_linkAnswer (s : State) (i : Nat) (t : Ticket) : (s.setTicket i t).linkAnswer = s.linkAnswer := rfl
@[simp] theorem State.setTicket_pow (s : State) (i : Nat) (t : Ticket) : (s.setTicket i t).pow = s.pow := rfl
@[simp] theorem State.setTicket_od (s : State) (i : Nat) (t : Ticket) : (s.setTicket i t).od = s.od := rfl
@[simp] theorem State.setTicket_jr (s : State) (i : Nat) (t : Ticket) : (s.setTicket i t).jr = s.jr := rfl
@[simp] theorem State.setTicket_trd (s : State) (i : Nat) (t : Ticket) : (s.setTicket i t).trd = s.trd := rfl
@[simp] theorem State.setTicket_time (s : State) (i : Nat) (t : Ticket) : (s.setTicket i t).time = s.time := rfl
@[simp] theorem State.setTicket_mem (s : State) (i : Nat) (t : Ticket) : (s.setTicket i t).mem = s.mem := rfl
@[simp] theorem State.setTicket_threads (s : State) (i : Nat) (t : Ticket) : (s.setTicket i t).threads = s.threads := rfl
@[simp] theorem State.setTicket_img (s : State) (i : Nat) (t : Ticket) : (s.setTicket i t).img = s.img := rfl
@[simp] theorem State.setTicket_hed (s : State) (i : Nat) (t : Ticket) : (s.setTicket i t).hed = s.hed := rfl
@[simp] theorem State.setTicket_loom (s : State) (i : Nat) (t : Ticket) : (s.setTicket i t).loom = s.loom := rfl
@[simp] theorem State.setTicket_can (s : State) (i : Nat) (t : Ticket) : (s.setTicket i t).can = s.can := rfl
@[simp] theorem State.setTicket_pwm (s : State) (i : Nat) (t : Ticket) : (s.setTicket i t).pwm = s.pwm := rfl
@[simp] theorem State.setTicket_fan (s : State) (i : Nat) (t : Ticket) : (s.setTicket i t).fan = s.fan := rfl
@[simp] theorem State.setTicket_bk (s : State) (i : Nat) (t : Ticket) : (s.setTicket i t).bk = s.bk := rfl
@[simp] theorem State.setTicket_gl (s : State) (i : Nat) (t : Ticket) : (s.setTicket i t).gl = s.gl := rfl
@[simp] theorem State.setTicket_readData (s : State) (i : Nat) (t : Ticket) : (s.setTicket i t).readData = s.readData := rfl
@[simp] theorem State.setTicket_pending (s : State) (i : Nat) (t : Ticket) : (s.setTicket i t).pending = s.pending := rfl
@[simp] theorem State.setTicket_flash (s : State) (i : Nat) (t : Ticket) : (s.setTicket i t).flash = s.flash := rfl
@[simp] theorem State.setTicket_marks (s : State) (i : Nat) (t : Ticket) : (s.setTicket i t).marks = s.marks := rfl

/-! ### What putting a thread leaves -/

@[simp] theorem State.setThread_regs (s : State) (i : Nat) (t : Thread) : (s.setThread i t).regs = s.regs := rfl
@[simp] theorem State.setThread_cycle (s : State) (i : Nat) (t : Thread) : (s.setThread i t).cycle = s.cycle := rfl
@[simp] theorem State.setThread_free (s : State) (i : Nat) (t : Thread) : (s.setThread i t).free = s.free := rfl
@[simp] theorem State.setThread_fuse (s : State) (i : Nat) (t : Thread) : (s.setThread i t).fuse = s.fuse := rfl
@[simp] theorem State.setThread_link (s : State) (i : Nat) (t : Thread) : (s.setThread i t).link = s.link := rfl
@[simp] theorem State.setThread_linkAnswer (s : State) (i : Nat) (t : Thread) : (s.setThread i t).linkAnswer = s.linkAnswer := rfl
@[simp] theorem State.setThread_pow (s : State) (i : Nat) (t : Thread) : (s.setThread i t).pow = s.pow := rfl
@[simp] theorem State.setThread_od (s : State) (i : Nat) (t : Thread) : (s.setThread i t).od = s.od := rfl
@[simp] theorem State.setThread_tk (s : State) (i : Nat) (t : Thread) : (s.setThread i t).tk = s.tk := rfl
@[simp] theorem State.setThread_jr (s : State) (i : Nat) (t : Thread) : (s.setThread i t).jr = s.jr := rfl
@[simp] theorem State.setThread_trd (s : State) (i : Nat) (t : Thread) : (s.setThread i t).trd = s.trd := rfl
@[simp] theorem State.setThread_time (s : State) (i : Nat) (t : Thread) : (s.setThread i t).time = s.time := rfl
@[simp] theorem State.setThread_mem (s : State) (i : Nat) (t : Thread) : (s.setThread i t).mem = s.mem := rfl
@[simp] theorem State.setThread_img (s : State) (i : Nat) (t : Thread) : (s.setThread i t).img = s.img := rfl
@[simp] theorem State.setThread_hed (s : State) (i : Nat) (t : Thread) : (s.setThread i t).hed = s.hed := rfl
@[simp] theorem State.setThread_loom (s : State) (i : Nat) (t : Thread) : (s.setThread i t).loom = s.loom := rfl
@[simp] theorem State.setThread_can (s : State) (i : Nat) (t : Thread) : (s.setThread i t).can = s.can := rfl
@[simp] theorem State.setThread_pwm (s : State) (i : Nat) (t : Thread) : (s.setThread i t).pwm = s.pwm := rfl
@[simp] theorem State.setThread_fan (s : State) (i : Nat) (t : Thread) : (s.setThread i t).fan = s.fan := rfl
@[simp] theorem State.setThread_bk (s : State) (i : Nat) (t : Thread) : (s.setThread i t).bk = s.bk := rfl
@[simp] theorem State.setThread_gl (s : State) (i : Nat) (t : Thread) : (s.setThread i t).gl = s.gl := rfl
@[simp] theorem State.setThread_readData (s : State) (i : Nat) (t : Thread) : (s.setThread i t).readData = s.readData := rfl
@[simp] theorem State.setThread_pending (s : State) (i : Nat) (t : Thread) : (s.setThread i t).pending = s.pending := rfl
@[simp] theorem State.setThread_flash (s : State) (i : Nat) (t : Thread) : (s.setThread i t).flash = s.flash := rfl
@[simp] theorem State.setThread_marks (s : State) (i : Nat) (t : Thread) : (s.setThread i t).marks = s.marks := rfl

/-! ### What putting an image slot leaves -/

@[simp] theorem State.setSlot_regs (s : State) (k : Nat) (v : ImgSlot) : (s.setSlot k v).regs = s.regs := rfl
@[simp] theorem State.setSlot_cycle (s : State) (k : Nat) (v : ImgSlot) : (s.setSlot k v).cycle = s.cycle := rfl
@[simp] theorem State.setSlot_free (s : State) (k : Nat) (v : ImgSlot) : (s.setSlot k v).free = s.free := rfl
@[simp] theorem State.setSlot_fuse (s : State) (k : Nat) (v : ImgSlot) : (s.setSlot k v).fuse = s.fuse := rfl
@[simp] theorem State.setSlot_link (s : State) (k : Nat) (v : ImgSlot) : (s.setSlot k v).link = s.link := rfl
@[simp] theorem State.setSlot_linkAnswer (s : State) (k : Nat) (v : ImgSlot) : (s.setSlot k v).linkAnswer = s.linkAnswer := rfl
@[simp] theorem State.setSlot_pow (s : State) (k : Nat) (v : ImgSlot) : (s.setSlot k v).pow = s.pow := rfl
@[simp] theorem State.setSlot_od (s : State) (k : Nat) (v : ImgSlot) : (s.setSlot k v).od = s.od := rfl
@[simp] theorem State.setSlot_tk (s : State) (k : Nat) (v : ImgSlot) : (s.setSlot k v).tk = s.tk := rfl
@[simp] theorem State.setSlot_jr (s : State) (k : Nat) (v : ImgSlot) : (s.setSlot k v).jr = s.jr := rfl
@[simp] theorem State.setSlot_trd (s : State) (k : Nat) (v : ImgSlot) : (s.setSlot k v).trd = s.trd := rfl
@[simp] theorem State.setSlot_time (s : State) (k : Nat) (v : ImgSlot) : (s.setSlot k v).time = s.time := rfl
@[simp] theorem State.setSlot_mem (s : State) (k : Nat) (v : ImgSlot) : (s.setSlot k v).mem = s.mem := rfl
@[simp] theorem State.setSlot_threads (s : State) (k : Nat) (v : ImgSlot) : (s.setSlot k v).threads = s.threads := rfl
@[simp] theorem State.setSlot_hed (s : State) (k : Nat) (v : ImgSlot) : (s.setSlot k v).hed = s.hed := rfl
@[simp] theorem State.setSlot_loom (s : State) (k : Nat) (v : ImgSlot) : (s.setSlot k v).loom = s.loom := rfl
@[simp] theorem State.setSlot_can (s : State) (k : Nat) (v : ImgSlot) : (s.setSlot k v).can = s.can := rfl
@[simp] theorem State.setSlot_pwm (s : State) (k : Nat) (v : ImgSlot) : (s.setSlot k v).pwm = s.pwm := rfl
@[simp] theorem State.setSlot_fan (s : State) (k : Nat) (v : ImgSlot) : (s.setSlot k v).fan = s.fan := rfl
@[simp] theorem State.setSlot_bk (s : State) (k : Nat) (v : ImgSlot) : (s.setSlot k v).bk = s.bk := rfl
@[simp] theorem State.setSlot_gl (s : State) (k : Nat) (v : ImgSlot) : (s.setSlot k v).gl = s.gl := rfl
@[simp] theorem State.setSlot_readData (s : State) (k : Nat) (v : ImgSlot) : (s.setSlot k v).readData = s.readData := rfl
@[simp] theorem State.setSlot_pending (s : State) (k : Nat) (v : ImgSlot) : (s.setSlot k v).pending = s.pending := rfl
@[simp] theorem State.setSlot_flash (s : State) (k : Nat) (v : ImgSlot) : (s.setSlot k v).flash = s.flash := rfl
@[simp] theorem State.setSlot_marks (s : State) (k : Nat) (v : ImgSlot) : (s.setSlot k v).marks = s.marks := rfl

/-! ### What writing a packet-memory word leaves -/

@[simp] theorem State.pktPut_regs (s : State) (a : Nat) (b : List Byte) : (s.pktPut a b).regs = s.regs := rfl
@[simp] theorem State.pktPut_cycle (s : State) (a : Nat) (b : List Byte) : (s.pktPut a b).cycle = s.cycle := rfl
@[simp] theorem State.pktPut_free (s : State) (a : Nat) (b : List Byte) : (s.pktPut a b).free = s.free := rfl
@[simp] theorem State.pktPut_fuse (s : State) (a : Nat) (b : List Byte) : (s.pktPut a b).fuse = s.fuse := rfl
@[simp] theorem State.pktPut_link (s : State) (a : Nat) (b : List Byte) : (s.pktPut a b).link = s.link := rfl
@[simp] theorem State.pktPut_linkAnswer (s : State) (a : Nat) (b : List Byte) : (s.pktPut a b).linkAnswer = s.linkAnswer := rfl
@[simp] theorem State.pktPut_pow (s : State) (a : Nat) (b : List Byte) : (s.pktPut a b).pow = s.pow := rfl
@[simp] theorem State.pktPut_od (s : State) (a : Nat) (b : List Byte) : (s.pktPut a b).od = s.od := rfl
@[simp] theorem State.pktPut_tk (s : State) (a : Nat) (b : List Byte) : (s.pktPut a b).tk = s.tk := rfl
@[simp] theorem State.pktPut_jr (s : State) (a : Nat) (b : List Byte) : (s.pktPut a b).jr = s.jr := rfl
@[simp] theorem State.pktPut_trd (s : State) (a : Nat) (b : List Byte) : (s.pktPut a b).trd = s.trd := rfl
@[simp] theorem State.pktPut_time (s : State) (a : Nat) (b : List Byte) : (s.pktPut a b).time = s.time := rfl
@[simp] theorem State.pktPut_threads (s : State) (a : Nat) (b : List Byte) : (s.pktPut a b).threads = s.threads := rfl
@[simp] theorem State.pktPut_img (s : State) (a : Nat) (b : List Byte) : (s.pktPut a b).img = s.img := rfl
@[simp] theorem State.pktPut_hed (s : State) (a : Nat) (b : List Byte) : (s.pktPut a b).hed = s.hed := rfl
@[simp] theorem State.pktPut_loom (s : State) (a : Nat) (b : List Byte) : (s.pktPut a b).loom = s.loom := rfl
@[simp] theorem State.pktPut_can (s : State) (a : Nat) (b : List Byte) : (s.pktPut a b).can = s.can := rfl
@[simp] theorem State.pktPut_pwm (s : State) (a : Nat) (b : List Byte) : (s.pktPut a b).pwm = s.pwm := rfl
@[simp] theorem State.pktPut_fan (s : State) (a : Nat) (b : List Byte) : (s.pktPut a b).fan = s.fan := rfl
@[simp] theorem State.pktPut_bk (s : State) (a : Nat) (b : List Byte) : (s.pktPut a b).bk = s.bk := rfl
@[simp] theorem State.pktPut_gl (s : State) (a : Nat) (b : List Byte) : (s.pktPut a b).gl = s.gl := rfl
@[simp] theorem State.pktPut_readData (s : State) (a : Nat) (b : List Byte) : (s.pktPut a b).readData = s.readData := rfl
@[simp] theorem State.pktPut_pending (s : State) (a : Nat) (b : List Byte) : (s.pktPut a b).pending = s.pending := rfl
@[simp] theorem State.pktPut_flash (s : State) (a : Nat) (b : List Byte) : (s.pktPut a b).flash = s.flash := rfl
@[simp] theorem State.pktPut_marks (s : State) (a : Nat) (b : List Byte) : (s.pktPut a b).marks = s.marks := rfl

/-! ### Reading back -/

/-- A ticket slot reads back what was put there. -/
@[simp] theorem State.ticket_setTicket (s : State) (i : Nat) (t : Ticket) : (s.setTicket i t).ticket i = t := by
  simp [State.ticket, State.setTicket]

/-- A thread reads back what was put there. -/
@[simp] theorem State.thread_setThread (s : State) (i : Nat) (t : Thread) : (s.setThread i t).thread i = t := by
  simp [State.thread, State.setThread]

/-- An image slot reads back what was put there. -/
@[simp] theorem State.slot_setSlot (s : State) (k : Nat) (v : ImgSlot) : (s.setSlot k v).slot k = v := by
  simp [State.slot, State.setSlot]

/-- A link reads back what was put there. -/
@[simp] theorem State.glink_setGlink (s : State) (i : Nat) (l : GLink) : (s.setGlink i l).glink i = l := by
  simp [State.glink, State.setGlink]

/-- Another ticket slot is left. -/
theorem State.ticket_setTicket_ne (s : State) (i j : Nat) (t : Ticket) (h : j ≠ i) :
    (s.setTicket i t).ticket j = s.ticket j := by
  simp [State.ticket, State.setTicket, Store.get_set_ne _ _ _ _ h]

/-- Another thread is left. -/
theorem State.thread_setThread_ne (s : State) (i j : Nat) (t : Thread) (h : j ≠ i) :
    (s.setThread i t).thread j = s.thread j := by
  simp [State.thread, State.setThread, Store.get_set_ne _ _ _ _ h]

/-! ### Frames -/

theorem Keeps.refl (l : List Part) (s : State) : Keeps l s s := fun p => .inr (by cases p <;> rfl)

theorem Keeps.mono {l m : List Part} {s t : State} (h : Keeps l s t) (hs : ∀ p, p ∈ l → p ∈ m) : Keeps m s t :=
  fun p => (h p).imp_left (hs p)

theorem Keeps.trans {l : List Part} {s t u : State} (h : Keeps l s t) (k : Keeps l t u) : Keeps l s u := by
  intro p
  rcases h p with hp | hp
  · exact .inl hp
  rcases k p with kp | kp
  · exact .inl kp
  · exact .inr (by cases p <;> exact kp.trans hp)

theorem KeepsFields.refl (l : List Field) (s : State) : KeepsFields l s s := fun _ => .inr rfl

theorem KeepsFields.trans {l : List Field} {s t u : State} (h : KeepsFields l s t) (k : KeepsFields l t u) :
    KeepsFields l s u := by
  intro f
  rcases h f with hp | hp
  · exact .inl hp
  rcases k f with kp | kp
  · exact .inl kp
  · exact .inr (kp.trans hp)

/-- A register write changes no field but its own. -/
theorem State.wr_keepsFields (s : State) (f : Field) (v : Nat) : KeepsFields [f] s (s.wr f v) := by
  intro g
  by_cases h : g.key = f.key
  · exact .inl (by simp [h])
  · exact .inr (s.rd_wr_ne f g v h)

/-- A register write changes nothing but the register file. -/
theorem State.wr_keeps (s : State) (f : Field) (v : Nat) : Keeps [.regs] s (s.wr f v) := by
  intro p; cases p <;> simp [Part.same]

theorem KeepsBut.refl (fs : List Field) (l : List Part) (s : State) : KeepsBut fs l s s :=
  ⟨KeepsFields.refl fs s, Keeps.refl _ s⟩

theorem KeepsBut.trans {fs : List Field} {l : List Part} {s t u : State} (h : KeepsBut fs l s t) (k : KeepsBut fs l t u) :
    KeepsBut fs l s u := ⟨h.1.trans k.1, h.2.trans k.2⟩

theorem KeepsFields.mono {fs gs : List Field} {s t : State} (h : KeepsFields fs s t) (hs : ∀ f, f ∈ fs → f ∈ gs) :
    KeepsFields gs s t := by
  intro f
  rcases h f with k | k
  · simp only [List.mem_map] at k
    obtain ⟨g, hg, e⟩ := k
    exact .inl (List.mem_map.mpr ⟨g, hs g hg, e⟩)
  · exact .inr k

theorem KeepsBut.mono {fs gs : List Field} {l m : List Part} {s t : State} (h : KeepsBut fs l s t) (hf : ∀ f, f ∈ fs → f ∈ gs)
    (hl : ∀ p, p ∈ l → p ∈ m) : KeepsBut gs m s t :=
  ⟨h.1.mono hf, h.2.mono (fun p hp => by
    rcases List.mem_cons.mp hp with e | e
    · exact e ▸ List.mem_cons_self
    · exact List.mem_cons_of_mem _ (hl p e))⟩

/-- A register write stays within a frame that lists its field. -/
theorem KeepsBut.wr {fs : List Field} {l : List Part} {s t : State} (h : KeepsBut fs l s t) (f : Field) (v : Nat) (hf : f ∈ fs) :
    KeepsBut fs l s (t.wr f v) :=
  h.trans ⟨(t.wr_keepsFields f v).mono (by simpa using hf), (t.wr_keeps f v).mono (by simp)⟩

/-- A change of parts outside the register file stays within a frame that lists them. -/
theorem KeepsBut.part {fs : List Field} {l : List Part} {s t u : State} (h : KeepsBut fs l s t) (k : Keeps l t u) (hr : Part.regs ∉ l) :
    KeepsBut fs l s u := by
  refine h.trans ⟨fun f => .inr ?_, k.mono (fun p hp => List.mem_cons_of_mem _ hp)⟩
  have : u.regs = t.regs := (k .regs).resolve_left hr
  simp [State.rd, this]

end Sys2Proof.Machine
end

