-- ==== Sys2Proof/Laws/Mem.lean ====
section
/-! SUPPORT. Laws of the memories: a read after a write, and the canonical form that every memory operation keeps (R53, R55). -/
namespace Sys2Proof.Machine

/-- The memory of a state is in canonical form. -/
def State.memWf (s : State) : Bool := Store.wf {} s.mem.mem

/-- The memory after reset, where no word is listed, is in canonical form. -/
theorem reset_memWf : State.reset.memWf = true := rfl

/-! ### The place of a word -/

/-- Two words of memory share a place only where bank and offset agree. -/
theorem memKey_inj {b c o p : Nat} (ho : o < 65536) (hp : p < 65536) : memKey b o = memKey c p ↔ b = c ∧ o = p := by
  simp only [memKey]
  omega

/-! ### A read after a write -/

/-- A word reads back as it was stored. -/
@[simp] theorem State.word_setWord_same (s : State) (b o : Nat) (w : MemWord) : (s.setWord b o w).word b o = w := by
  simp [State.word, State.setWord]

/-- Storing a word leaves every other word. -/
theorem State.word_setWord_ne (s : State) (b c o p : Nat) (w : MemWord) (ho : o < 65536) (hp : p < 65536)
    (h : ¬(c = b ∧ p = o)) : (s.setWord b o w).word c p = s.word c p := by
  have hk : memKey c p ≠ memKey b o := fun e => h ((memKey_inj hp ho).1 e)
  simp [State.word, State.setWord, Store.get_set_ne _ _ _ _ hk]

/-- A unit of packet memory reads back the bytes put into it, as a clean word. -/
@[simp] theorem State.pktWord_pktPut_same (s : State) (a : Nat) (b : List Byte) :
    (s.pktPut a b).pktWord a =
      { val := BitVec.ofNat 64 (leValue b + (s.pktWord a).val.toNat / 2 ^ (8 * b.length) * 2 ^ (8 * b.length)) } := by
  simp [State.pktWord, State.pktPut]

/-- A write of packet memory leaves every other unit of 8 bytes. -/
theorem State.pktWord_pktPut_ne (s : State) (a c : Nat) (b : List Byte) (h : c / 8 ≠ a / 8) :
    (s.pktPut a b).pktWord c = s.pktWord c := by
  have hk : pktKey c ≠ pktKey a := by simp only [pktKey]; omega
  simp [State.pktWord, State.pktPut, Store.get_set_ne _ _ _ _ hk]

/-! ### The canonical form -/

/-- Storing a word keeps the canonical form. -/
theorem State.memWf_setWord (s : State) (b o : Nat) (w : MemWord) (h : s.memWf) : (s.setWord b o w).memWf :=
  Store.wf_set _ _ _ _ h

/-- A write of one unit of packet memory keeps the canonical form. -/
theorem State.memWf_pktPut (s : State) (a : Nat) (b : List Byte) (h : s.memWf) : (s.pktPut a b).memWf :=
  Store.wf_set _ _ _ _ h

/-- A write of bytes of packet memory keeps the canonical form. -/
theorem State.memWf_pktPutBytes (k : Nat) (s : State) (a : Nat) (b : List Byte) (h : s.memWf) :
    (State.pktPutBytes k s a b).memWf := by
  induction k generalizing s a b with
  | zero => exact h
  | succ k ih =>
    unfold State.pktPutBytes
    split
    · exact h
    · exact ih _ _ _ (s.memWf_pktPut a (b.take 8) h)

/-- A frame put into its cells keeps the canonical form. -/
theorem State.memWf_putCells (l : List Nat) (s : State) (b : List Byte) (h : s.memWf) : (State.putCells s l b).memWf := by
  induction l generalizing s b with
  | nil => exact h
  | cons c cs ih => exact ih _ _ (State.memWf_pktPutBytes 32 s (256 * c) (b.take 256) h)

/-- Keeping some words keeps the canonical form. -/
theorem Store.wf_filter {α : Type} [DecidableEq α] (d : α) (p : Nat × α → Bool) (m : Store α) (w : Store.wf d m) :
    Store.wf d (m.filter p) := by
  simp only [Store.wf, Bool.and_eq_true] at w ⊢
  refine ⟨Store.rising_filter p m w.1, ?_⟩
  simp only [List.all_eq_true] at w ⊢
  intro e he
  exact w.2 e (List.mem_filter.1 he).1

/-- Clearing a bank keeps the canonical form. -/
theorem State.memWf_clearBank (s : State) (b : Nat) (h : s.memWf) : (s.clearBank b).memWf := Store.wf_filter _ _ _ h

/-- Clearing a run of words keeps the canonical form. -/
theorem State.memWf_clearWords (s : State) (b o n : Nat) (h : s.memWf) : (s.clearWords b o n).memWf := Store.wf_filter _ _ _ h

/-- What does not touch the memory words keeps the canonical form. -/
theorem State.memWf_of_eq {s t : State} (e : t.mem.mem = s.mem.mem) (h : s.memWf) : t.memWf := by
  simpa [State.memWf, e] using h

/-- A whole-word write keeps the canonical form. -/
theorem State.memWf_memWrite (s : State) (b o : Nat) (tag : Tag) (v : BitVec 64) (h : s.memWf) : (s.memWrite b o tag v).memWf := by
  unfold State.memWrite
  split
  · exact State.memWf_setWord _ _ _ _ h
  · exact State.memWf_setWord _ _ _ _ h

end Sys2Proof.Machine
end

