-- ==== Sys2Proof/Tests/Base.lean ====
section
/-! SUPPORT. States for the tests and the witnesses: the reset state with some fields set. -/
namespace Sys2Proof.Machine

/-- The reset state in RUN. -/
def atRun : State := State.reset.wr Reg.SYS_PSTATE_STATE 4

/-- The reset state in LIMP. -/
def atLimp : State := State.reset.wr Reg.SYS_PSTATE_STATE 5

/-- The reset state in LISTEN. -/
def atListen : State := State.reset.wr Reg.SYS_PSTATE_STATE 2

/-- The reset state in a wake at step `n`. -/
def atWake (n : Nat) : State := { State.reset with pow := { wakeStep := n } }

/-- The reset state in a shutdown at step `n` with trigger `tr`. -/
def atShutdown (n tr : Nat) : State :=
  ((State.reset.wr Reg.SYS_PSTATE_STATE 6).wr Reg.SYS_PSTATE_SDSTEP n).wr Reg.SYS_PSTATE_SDTRIG tr

/-- The CRC-32C of the fixed fields of the fuse block (R100). -/
def State.fcrcFuse (s : State) : Nat := crc32c 185 s.fixedFields

/-- A fuse block in which only FCRC is programmed, to the CRC-32C of its fixed fields. -/
def blankFuse : Nat := State.reset.fcrcFuse * 2 ^ 1936

/-- The reset state in lifecycle 2 with a strap word that gives boot from flash and role `r`. -/
def asRole (r : Nat) (s : State) : State := (s.wr Reg.FUSE_STATUS_LIFECYCLE 2).wr Reg.STRAP_SAMPLED_STRAP (8 * r)

/-- A resource declaration as bytes (Table 09-5). -/
def declBytes (d : ImageDecl) : List Byte :=
  leBytes 1 d.shuttles ++ [0] ++ leBytes 2 d.heddles ++ leBytes 1 d.words0 ++ leBytes 1 d.words1 ++ leBytes 1 d.eth ++ leBytes 1 d.field ++
    leBytes 4 d.commonWords ++ leBytes 2 d.packetCells ++ leBytes 1 d.sessions ++ leBytes 1 d.sessionQuota ++ leBytes 2 d.odEntries ++
    leBytes 1 d.tpo ++ leBytes 1 d.tpi ++ leBytes 4 d.aev ++ leBytes 4 d.ioReach ++ leBytes 1 d.domains ++ List.replicate 35 0

/-- An image of one empty section with security version 1 and a signature (Tables 09-3 and 09-4). -/
def mkImage (kind : Byte) (build : Nat) (d : ImageDecl) (r s : Nat) : Image :=
  { bytes := leBytes 4 0x5A4B4746 ++ leBytes 2 1 ++ [kind, 0] ++ List.replicate 8 0 ++ leBytes 4 build ++ [1, 1, 0, 0] ++ leBytes 4 0x110 ++
      List.replicate 4 0 ++
      (leBytes 32 0x9fad84aeae08bbef7f010014d82cef6a09de2b0cf871b5ce0c4f1d13a59a5934).reverse ++
      (leBytes 32 0x7cb45769f1070e2c2470fe5b1bfe63133c0b0cdc64ea4bf3791a8ec2a07fd4f).reverse ++
      (leBytes 32 r).reverse ++ (leBytes 32 s).reverse ++ declBytes d ++ List.replicate 32 0 ++
      [if kind = 1 then 9 else 5, 0, 0, 0] ++ leBytes 4 0x110 ++ List.replicate 8 0 }

/-- A protocol image whose signature is not of interest. -/
def anImage (d : ImageDecl) : Image := mkImage 2 5 d 0 0

/-- A firmware image that passes its checks in `worker`. -/
def goodFirmware : Image :=
  mkImage 1 7 {} 0xd54615d2600f56ad283b0e4c7c06349b99ac78fa3775eaaaf8e9122890f03d96
    0xda03b88429d0e79cc1ed63cc74a2dea7c13e1d959e3b4f0c140c39c0ae4201fc

/-- A protocol image whose signature verifies. -/
def goodImage : Image :=
  mkImage 2 5 {} 0xd54615d2600f56ad283b0e4c7c06349b99ac78fa3775eaaaf8e9122890f03d96
    0x47bfb2ce1f7b7fb4685e97d74c1859f11a1cf0a104e1436ad4bce41a33da6b39

/-- A machine in W8 that boots from flash: lifecycle 2, KEY_HASH0 programmed to the hash of the key of `goodFirmware`. -/
def worker : State := { asRole 0 State.reset with fuse := goodFirmware.publicKeyHash * 2 ^ 136 }

/-- A machine in W8 whose flash holds bolt B of generation 3, mounted 70 times. -/
def mounting : State := (((worker.setBolt 1 { base := 0x940000 }).boltWrite 1 (.boltHead 3)).boltWrite 1 (.mount 70)).boltWrite 1 (.switch 3)

/-- A machine in W8 after the mount, whose image table names store slots 2 and 5 as Weaver firmware, with `goodFirmware` in slot 2. -/
def verifying : State :=
  { worker.program 0x20000 (ImgTable.bytes { primary := 2, fallback := 5 }) with
    jr := { mountSeq := 1 }, img := { store := [(2, some goodFirmware)] } }

/-- A preserving Carding run of bank 3 by the ticket in slot 5, with two segments to go. -/
def aRun : CardRun :=
  { slot := 5, banks := [], bank := 3, segs := [(false, 0), (false, 1)], algo := 0, bgs := 1, destructive := false, pass := 0,
    mapped := 0 }

/-- A fuse block whose KEY_CHECK is that of key 0 and DEVICE_ID 0, with unlocks allowed on every reach (R311, R312). -/
def keyFuse : Nat := sha256 (List.replicate 24 0) / 2 ^ 224 * 2 ^ 904 + 0xFF * 2 ^ 936

/-- Image `im` runs in slot `k`. -/
def State.runImage (s : State) (k : Nat) (im : Image) : State := (s.setSlot k { image := some im }).slotTo k 2

/-- A mapping row that reads 0x2F06 most significant byte first. -/
def aRow : MapRow := { key := 9, ref := odKey 0x2F06 0, width := 32, wordHigh := true, byteHigh := true, scale := 0, canRead := true, canWrite := false }

/-- Context 4 is a session of slot 1, whose mapping table holds `aRow`, with read rights in area 0x2. -/
def State.netSession (s : State) : State :=
  { s.setCtx 4 { state := .opened, profile := 0, quota := 4, image := 1 } with
    fuse := 4 ^ 2 * 2 ^ 648 * 3, od := { (s.setCtx 4 { state := .opened, profile := 0, quota := 4, image := 1 }).od with mapping := [(1, [aRow])] } }

/-- Slot 1 is FAULTED for 10 ms, and its image stands in store slot 2. -/
def State.dueRestart (s : State) (im : Image) : State :=
  { (s.slotTo 1 3).wr (Reg.SYS_IMGSTAT_STORE.at 1) 2 with img := { s.img with store := [(2, some im)] }, cycle := restartSpan }

/-- A cross-timestamp record. -/
def aXts : XtsRec := { ang := 70000, aSec := 5, aNs := 6, bSec := 7, bNs := 8, cand := true, aOk := false, bOk := true }

/-- A capture record. -/
def aTpi : TpiRec := { aSec := 1, aNs := 2, bSec := 3, bNs := 4, dtSec := 5, dtNs := 6, ang := 7, rising := true }

/-- Heddle `n` in RUN at PC 0 of a region of ten words, with `w` as its instruction and `h` beside its registers. -/
def heddle (n w : Nat) (h : Heddle) : State :=
  { (atRun.wr (Reg.HEDDLE_STAT_STATE.at n) 1).wr (Reg.HEDDLE_REGION_LEN.at n) 10 with
    hed := { units := [(n, h)], prog := [(n / 8 * 128, w)] } }

/-- A Heddle instruction word: OP code, HOLD and argument. -/
def hdIns (op hold arg : Nat) : Nat := op * 2 ^ 20 + hold * 2 ^ 10 + arg

/-- A broadcast-free frame of 64 bytes: destination 02-00-00-00-00-01, source 02-00-00-00-00-02, EtherType 0x0800, FCS good. -/
def aFrame : List Byte := withFcs ([2, 0, 0, 0, 0, 1, 2, 0, 0, 0, 0, 2, 0x12, 0x34] ++ List.replicate 46 0)

/-- A state in RUN whose port `p` has a link and whose Loom is enabled. -/
def loomRun (p : Nat) : State := (atRun.wr (Reg.MAC_LINK_UP.at p) 1).wr Reg.LOOM_CTRL_EN 1

/-- `aFrame` stands in cell 5, received on port `p` and not yet decided. -/
def State.arrivedFrame (s : State) (p : Nat) (bad : Bool) : State :=
  let s1 := (s.putCells [5] aFrame).setFrame 5 (some { cells := [5], len := 64, port := p, bad := bad })
  { s1 with loom := { s1.loom with arrived := [(p, [5])] } }

/-- `aFrame` stands in cell 5 with one copy at the head of queue `q` of port `p`. -/
def State.queuedFrame (s : State) (p q : Nat) : State :=
  let s1 := (s.putCells [5] aFrame).setFrame 5 (some { cells := [5], len := 64, port := 2, copies := 1, fan := 1 })
  s1.setEg p { queues := [(q, [{ first := 5 }])] }

/-- A Bobbin record of 128 bytes. -/
def aRecord : BobRec := List.replicate 128 7

/-- Thread `i` running in RUN with `g` in its registers. -/
def euRun (i : Nat) (g : Store TWord) : State := atRun.setThread i { threadReset i with run := .running, g := g }

/-- The same with image slot 0 holding Shuttle S0, a common region at CB1 offset 4,096 and a buffer of the cells 0 and 4. -/
def euHeld (i : Nat) (g : Store TWord) : State :=
  ((euRun i g).setSlot 0 { image := some (anImage { commonWords := 8192 }), shuttles := 1, regionBank := 1, regionOff := 4096 }).setFrame 0
    (some { cells := [0, 4], len := 512, port := 9, holders := [0] })

/-- A device of role `r` in RUN with link `i` UP. -/
def linked (r i : Nat) : State := (asRole r atRun).glTo i 2

/-- The header of the first frame on link `i`, from node `src` to node `dst`, that acknowledges nothing. -/
def aHead (i : Fin 10) (dst src : Byte) : GHead := { link := i, seq := 0, ack := 0xFF, dst := dst, src := src, crcOk := true }

/-- A FUSE_PROGRAM ticket in slot 3 is about to set bit 0 of fuse word 1. -/
def fusing : State := atRun.setTicket 3 { state := .running, type := 7, params := [1, 1, 0, 0, 0], steps := 2 }

/-- A record of more than one page. -/
def bigBody : JBody := .admission 5 3 2 (List.replicate 300 0)

/-- Whether a command answers a next state with a property. -/
def nextOf (o : Out) (p : State → Bool) : Bool :=
  match o with
  | .next t => p t
  | _ => false

end Sys2Proof.Machine
end

