-- ==== Sys2Proof/WellFormed.lean ====
section
/-! DEFINITION. The commands that are well formed: each operand that its Lean type does not bound lies in the range that the spec gives
it. `exec` has a meaning for every command; a command that is not well formed stands for no event of the hardware. -/
namespace Sys2Proof
open Machine

/-- A value of the object dictionary: a 32-bit scalar, or at most 4,096 bytes (R48, R283). -/
def Machine.OdVal.wellFormed : OdVal → Bool
  | .scalar _ v => decide (v < 2 ^ 32)
  | .bytes b => decide (b.length ≤ 4096)

/-- Items of a write: an entry key (index × 256 + sub-index, R282) with its value. -/
def itemsWellFormed (l : List (Nat × OdVal)) : Bool := l.all (fun e => decide (e.1 < 2 ^ 24) && e.2.wellFormed)

/-- A sample code of 14 bits, signed or unsigned (R31). -/
def codeWellFormed (c : Int) : Bool := decide (-8192 ≤ c) && decide (c < 16384)

/-- A read of a march: a row of 1,024 at most, an operation of 22 at most, a raw word of 72 bits at most (R416, R441). -/
def MarchRead.wellFormed (x : MarchRead) : Bool :=
  decide (x.line < if x.spare then 8 else 1024) && decide (x.op < 22) && decide (x.word < 2 ^ 72)

/-- A request on a network reach: keys of 32 bits, values of at most 4,096 bytes (R283, R322). -/
def NetRequest.wellFormed : NetRequest → Bool
  | .reads keys => keys.all (fun k => decide (k < 2 ^ 32))
  | .writes items => items.all (fun e => decide (e.1 < 2 ^ 32) && decide (e.2.length ≤ 4096))
  | .sdoRead _ _ => true
  | .sdoWrite _ _ data => decide (data.length ≤ 4096)

/-- A CAN frame: an 11-bit identifier where it is not extended, no remote frame in FD format, and no more data than its DLC says
(R768, R774). -/
def CanFrame.wellFormed (f : CanFrame) : Bool :=
  (f.ide || decide (f.id.toNat < 2 ^ 11)) && !(f.rtr && f.fdf) && decide (f.data.length ≤ if f.fdf then 64 else 8)

/-- An image no longer than the greatest image (R561); what its header, declaration and sections say is judged by the checks of
Table 09-6. -/
def Machine.Image.wellFormed (im : Image) : Bool := decide (im.bytes.length ≤ 524288)

/-- What a DATA frame carries: an operation 1 or 2 on an entry key with a tag code, or a result code (R988, R989). -/
def Machine.GwMsg.wellFormed : GwMsg → Bool
  | .request key op tag val =>
    decide (key < 2 ^ 24) && (op == 1 || op == 2) && decide (tag < 256) && decide (val.length ≤ 4096)
  | .answer code val => decide (code < 256) && val.all (·.wellFormed)

/-- What a MIRROR frame carries: records and writes of well-formed values (R1005). -/
def Machine.MirrorMsg.wellFormed : MirrorMsg → Bool
  | .record (.value _ _ _ _ items) => itemsWellFormed items
  | .record _ => true
  | .rwWrite items => itemsWellFormed items

/-- What a BOOT frame carries: one of the eight sets of the IMG strap, or an image (R981). -/
def Machine.BootMsg.wellFormed : BootMsg → Bool
  | .request set => decide (set < 8)
  | .image img => img.all (·.wellFormed)

/-- The extension of an instruction fits the extension bytes of its mode (Table 08-3, R489). -/
def EurOp.wellFormed (op : EurOp) : Bool :=
  match op.mode with
  | .reg => decide (op.ext = 0)
  | .i8 | .m8 => decide (op.ext.toNat < 2 ^ 8)
  | .i16 | .m16 | .a16 => decide (op.ext.toNat < 2 ^ 16)
  | .i32 | .mi => true

/-- The operand record of an instruction of a thread. -/
def Instr.eurOp? : Instr → Option EurOp
  | .euNop op | .euHalt op | .euRet op | .euWait op | .euRtt op | .euPush op | .euPop op | .euNeg op | .euAbs op |
  .euNot op | .euBswap op | .euClz op | .euMknil op | .euMov op | .euLd op | .euSt op | .euLdp op | .euStp op |
  .euLdph op | .euStph op | .euAdd op | .euSub op | .euAdds op | .euSubs op | .euMul op | .euDiv op | .euRem op |
  .euCmp op | .euMin op | .euMax op | .euAnd op | .euOr op | .euXor op | .euTst op | .euShl op | .euShr op |
  .euSar op | .euRol op | .euTagof op | .euTageq op | .euRetag op | .euCvtf op | .euCvti op | .euSetp op | .euB op |
  .euCall op | .euLoop op | .euBnil op | .euXchg op | .euXadd op | .euCas op | .euCopyw op | .euFillw op |
  .euCopyp op | .euCrc32c op | .euMfsr op | .euMtsr op | .euIold op | .euIost op | .euSwt op | .euWaituntil op |
  .euMac op | .euMacr op | .euClracc op | .euClamp op | .euLdang op | .euLdtime op => some op
  | _ => none

/-- Whether the operands that no Lean type bounds are well formed; every other command has bounded operands or none. -/
def Instr.operandsOk : Instr → Bool
  | .sampleFrame _ _ _ code _ => codeWellFormed code
  | .unknownCommand req _ => decide (4 ≤ req.length)
  | .startupCarding reads => reads.all (fun f => decide (f.1 < 26) && f.2.wellFormed)
  | .odWrite _ _ _ v => v.wellFormed
  | .multiWrite _ l => l.all (fun e => e.2.2.wellFormed)
  | .networkRequest _ _ r => r.wellFormed
  | .ticketStepComplete _ f => match f with
    | .image im => im.wellFormed
    | _ => true
  | .domainPut _ _ b => decide (b.length ≤ 4096)
  | .cardingSegmentStep _ reads => reads.all (·.wellFormed)
  | .cardingBankMarch reads => reads.all (·.wellFormed)
  | .awaitConditionMet _ cycles _ _ => decide (0 < cycles)
  | .heddleStallRelease _ cycles => decide (0 < cycles)
  | .regionWrite _ _ base len start wrap =>
    decide (base < 128) && decide (len < 256) && decide (start < 128) && decide (wrap < 128)
  | .macFrameEnd _ b _ _ => decide (b.length < 2 ^ 14)
  | .portCellExhausted _ b _ => decide (b.length < 2 ^ 14)
  | .canFrameReceived _ f _ => f.wellFormed
  | .canWake _ c => match c with
    | .frame f => f.wellFormed
    | _ => true
  | .precheckDone _ _ _ isen => decide (isen.length = 8) && isen.all codeWellFormed
  | .adcOffsetCalibration _ code _ => codeWellFormed code
  | .rs485LineMeasurement _ a b => decide (a.natAbs ≤ 60000) && decide (b.natAbs ≤ 60000)
  | .gateway _ _ _ _ _ v => decide (v.length ≤ 4096)
  | .glData _ m => m.wellFormed
  | .glMirror _ m => m.wellFormed
  | .glBoot _ m => m.wellFormed
  | _ => true

/-- A command is well formed. -/
def Instr.wellFormed (i : Instr) : Bool := i.operandsOk && i.eurOp?.all (·.wellFormed)

end Sys2Proof
end

