-- ==== Sys2Proof/Tests/Slice0.lean ====
section
/-! SUPPORT. Tests of single commands, an ill-formed command for each check, and for each statement states and operands that meet
its hypotheses. -/
open Sys2Proof Sys2Proof.Machine
set_option Elab.async false

/-! ### Ill-formed commands, one for each check of WellFormed -/

/-- An ADD of a register thread whose extension does not fit an 8-bit immediate. -/
def badExt : EurOp := { thread := 2, mode := .i8, ext := 0x100 }

theorem test_illFormed_sample : (Instr.sampleFrame 0 0 0 16384 true).wellFormed = false := by decide +kernel
theorem test_illFormed_march : (Instr.cardingBankMarch [{ spare := true, line := 8, bg := 0, off := 0, op := 0, word := 0 }]).wellFormed = false := by decide +kernel
theorem test_illFormed_rows : (Instr.cardingSegmentStep false [{ spare := false, line := 0, bg := 0, off := 0, op := 22, word := 0 }]).wellFormed = false := by decide +kernel
theorem test_illFormed_startup : (Instr.startupCarding [(26, { spare := false, line := 0, bg := 0, off := 0, op := 0, word := 0 })]).wellFormed = false := by decide +kernel
theorem test_illFormed_scalar : (Instr.odWrite 1 0x3000 2 (.scalar .uint (2 ^ 32))).wellFormed = false := by decide +kernel
theorem test_illFormed_bytes : (Instr.odWrite 1 0x2F00 0 (.bytes (List.replicate 4097 0))).wellFormed = false := by decide +kernel
theorem test_illFormed_multi : (Instr.multiWrite 1 [(0x3000, 2, .scalar .uint (2 ^ 32))]).wellFormed = false := by decide +kernel
theorem test_illFormed_reads : (Instr.networkRequest 0 4 (.reads [2 ^ 32])).wellFormed = false := by decide +kernel
theorem test_illFormed_writes : (Instr.networkRequest 0 4 (.writes [(2 ^ 32, [])])).wellFormed = false := by decide +kernel
theorem test_illFormed_sdo : (Instr.networkRequest 0 4 (.sdoWrite 0x1000 0 (List.replicate 4097 0))).wellFormed = false := by
  decide +kernel
theorem test_illFormed_image (b : List Byte) (h : b.length = 524289) :
    (Instr.ticketStepComplete 0 (.image { bytes := b })).wellFormed = false := by
  simp [Instr.wellFormed, Instr.operandsOk, Machine.Image.wellFormed, h]
theorem test_illFormed_segment : (Instr.domainPut 0 0 (List.replicate 4097 0)).wellFormed = false := by decide +kernel
theorem test_illFormed_await : (Instr.awaitConditionMet 0 0 0 0).wellFormed = false := by decide +kernel
theorem test_illFormed_release : (Instr.heddleStallRelease 0 0).wellFormed = false := by decide +kernel
theorem test_illFormed_region : (Instr.regionWrite 0 .weaver 128 0 0 0).wellFormed = false := by decide +kernel
theorem test_illFormed_frame : (Instr.macFrameEnd 0 (List.replicate 16384 0) false 0).wellFormed = false := by decide +kernel
theorem test_illFormed_exhausted : (Instr.portCellExhausted 0 (List.replicate 16384 0) 0).wellFormed = false := by decide +kernel
theorem test_illFormed_canId : (Instr.canFrameReceived 0 { id := 0x800 } 0).wellFormed = false := by decide +kernel
theorem test_illFormed_canData : (Instr.canWake 0 (.frame { id := 1, data := List.replicate 9 0 })).wellFormed = false := by
  decide +kernel
theorem test_illFormed_canRemote : (Instr.canFrameReceived 0 { id := 1, fdf := true, rtr := true } 0).wellFormed = false := by
  decide +kernel
theorem test_illFormed_precheck : (Instr.precheckDone 0 0 0 []).wellFormed = false := by decide +kernel
theorem test_illFormed_request : (Instr.unknownCommand [1, 2, 3] 0).wellFormed = false := by decide +kernel
theorem test_illFormed_line : (Instr.rs485LineMeasurement 0 60001 0).wellFormed = false := by decide +kernel
theorem test_illFormed_calibration : (Instr.adcOffsetCalibration 0 (-8193) false).wellFormed = false := by decide +kernel
theorem test_illFormed_gateway : (Instr.gateway 1 0 0 2 0 (List.replicate 4097 0)).wellFormed = false := by decide +kernel
theorem test_illFormed_data : (Instr.glData (aHead 0 0 1) (.request 0 3 0 [])).wellFormed = false := by decide +kernel
theorem test_illFormed_answer : (Instr.glData (aHead 0 0 1) (.answer 256 none)).wellFormed = false := by decide +kernel
theorem test_illFormed_mirror : (Instr.glMirror (aHead 0 0 1) (.rwWrite [(2 ^ 24, .bytes [])])).wellFormed = false := by decide +kernel
theorem test_illFormed_record :
    (Instr.glMirror (aHead 0 0 1) (.record (.value 0 0 0 true [(2 ^ 24, .bytes [])]))).wellFormed = false := by decide +kernel
theorem test_illFormed_boot : (Instr.glBoot (aHead 0 0 1) (.request 8)).wellFormed = false := by decide +kernel
theorem test_illFormed_extension : (Instr.euAdd badExt).wellFormed = false := by decide +kernel

/-! ### Figures of the spec's worked examples and tables -/

/-- Example 02-1: the strap value 0xB3B. -/
theorem test_straps :
    let s := State.reset.wr Reg.STRAP_SAMPLED_STRAP 0xB3B
    (s.strap 0 3, s.strap 3 2, s.strap 5 1, s.strap 6 2, s.strap 8 1, s.strap 9 1, s.strap 10 2) = (3, 3, 1, 0, 1, 1, 2) := by
  decide +kernel

/-- Table 13-4 and Example 13-1: NBT reads 0x0132_7140 after reset. -/
theorem test_canNbtReset :
    nextOf (exec (.rcRegisterRead 0x40050004) atRun) (fun t => t.readData == 0x01327140) = true := by decide +kernel

/-- Example 13-1: a classical base frame of 1 byte lasts 62 bits with its stuff bits, and one of 8 bytes 132 bits, of 160 periods
of 25 ns each. -/
theorem test_canFrameTimes :
    (State.reset.frameMax 0 { id := 0x80, dlc := 1 }, State.reset.frameMax 0 { id := 0x80, dlc := 8 }) = (62 * 160, 132 * 160) := by
  decide +kernel

/-- Example 08-1: ADD of 5,461 ac to cycle 42 at 61,440 ac gives cycle 43 at 1,365 ac. -/
theorem test_addAngle :
    nextOf (exec (.euAdd { thread := 2, mode := .i16, d := 4, ext := 0x1555 }) (euRun 2 [(4, ⟨.angle, 0x002AF000⟩)]))
      (fun t => decide (t.greg 2 4 = ⟨.angle, 0x002B0555⟩)) = true := by decide +kernel

/-- Example 08-1: CMP across a wrap: N is 1 and V is 0. -/
theorem test_cmpAngle :
    nextOf (exec (.euCmp { thread := 2, d := 4, bByte := 5 }) (euRun 2 [(4, ⟨.angle, 0xFFFFF000⟩), (5, ⟨.angle, 0x1000⟩)]))
      (fun t => (t.thread 2).n && !(t.thread 2).v) = true := by decide +kernel

/-- Example 08-1: INT 7 plus UINT 7 raises TAG_MISMATCH with TCAUSE 3, TTAG 2 and TVAL 7, and G1 keeps 7. -/
theorem test_addMismatch :
    nextOf (exec (.euAdd { thread := 2, d := 1, bByte := 2 }) (euRun 2 [(1, ⟨.int, 7⟩), (2, ⟨.uint, 7⟩)]))
      (fun t => decide ((t.thread 2).tcause = 3 ∧ (t.thread 2).ttag = 2 ∧ (t.thread 2).tval = 7 ∧ t.greg 2 1 = ⟨.int, 7⟩)) = true := by
  decide +kernel

/-- Example 08-1: SHARED ST G7, [G2+3] writes BOOL 1 to common word 0x3_69C3, which is CB3 offset 0x69C3, in the image's common
region. -/
theorem test_sharedStore :
    nextOf (exec (.euSt { thread := 2, prefixes := [.shared], mode := .m8, d := 7, bByte := 2, ext := 3 })
      ((euRun 2 [(2, ⟨.ptr, 0x369C0⟩), (7, ⟨.bool, 1⟩)]).setSlot 0
        { image := some (anImage { commonWords := 4096 }), shuttles := 1, regionBank := 3, regionOff := 0x6000 }))
      (fun t => (t.word 3 0x69C3).tag == .bool && (t.word 3 0x69C3).val == 1) = true := by decide +kernel

/-- A SHARED access outside the image's common region raises BAD_ADDRESS (R557). -/
theorem test_sharedOutside :
    nextOf (exec (.euLd { thread := 2, prefixes := [.shared], mode := .m8, d := 7, bByte := 2, ext := 2 })
      (euHeld 2 [(2, ⟨.ptr, 77822⟩), (7, ⟨.bool, 1⟩)]))
      (fun t => (t.thread 2).tcause == 8 && (t.thread 2).tval == 77824 && (t.greg 2 7).val == 1) = true := by decide +kernel

/-- Example 08-1: a repeated SHARED raises ILLEGAL_ENCODING. -/
theorem test_repeatedPrefix :
    nextOf (exec (.euSt { thread := 2, prefixes := [.shared, .shared], mode := .m8, d := 7, bByte := 2, ext := 3 })
      ((euRun 2 [(2, ⟨.ptr, 0x369C0⟩), (7, ⟨.bool, 1⟩)]).setSlot 0
        { image := some (anImage { commonWords := 4096 }), shuttles := 1, regionBank := 3, regionOff := 0x6000 })) (fun t => decide ((t.thread 2).tcause = 1)) = true := by decide +kernel

/-- Example 10-1: offset 0 is TAKE 32 with a stall; it loads the first word of the frame with SLEN 32. -/
theorem test_heddleTake :
    nextOf (exec (.take 8 false) (heddle 8 0x700000 { txq := [0x55556AA6], sn := 32 }))
      (fun t => (t.hd 8).sl == 0x55556AA6 && (t.hd 8).slen == 32 && (t.hd 8).txq.isEmpty) = true := by decide +kernel

/-- Example 10-2: EMIT with word 0x60_0001 delivers the collected byte and clears the lane. -/
theorem test_heddleEmit :
    nextOf (exec (.emit 2 false) ((heddle 2 0x600001 { cl := 0x55, cn := 8 }).wr (Reg.HEDDLE_CTRL_SPLIT.at 2) 2))
      (fun t => decide ((t.hd 2).rxq = [0x55] ∧ (t.hd 2).cl = 0)) = true := by decide +kernel

/-- Example 07-1: CB3 without repairs has 1,032 segments, and row 423 is segment 431. -/
theorem test_cardingSegments :
    ((State.reset.cardSegs 3).length, (State.reset.cardSegs 3)[431]?) = (1032, some (false, 423)) := by decide +kernel

/-- Example 06-1: client 0x01, generation 0x0C05 and slot 0x11 make the handle 0x010C_0511. -/
theorem test_handle : handleWord 1 0x0C05 0x11 = 0x010C0511 := by decide +kernel

/-- Example 04-1: the short time of 1,000.5 s. -/
theorem test_shortTime : shortOf (1000500000000 * unitsPerNs) = 4067587328 := by decide +kernel

/-- Example 03-1: INC of 49.90 Hz and of 50.20 Hz. -/
theorem test_increments : (incFor 30000000000 499, incFor 30000000000 502) = (4681867, 4710015) := by decide +kernel

/-- R171: in LOCKED a crossing 2,000 ac from the expected angle lies outside the window of 1,456 ac, is rejected and counted. -/
theorem test_rejectedCrossing :
    nextOf (exec (.ms0Crossing 0 30 40) (({ atRun with trd := { acc := 2000 * 2 ^ 32 } }.wr Reg.TREADLE_STAT_STATE 1).wr Reg.TREADLE_CTRL_SRC 1))
      (fun t => t.rd Reg.TREADLE_CNT_REJECT == 1 && t.ang == 2000) = true := by decide +kernel

/-- Example 15-1: at 3,000 rpm the index is 1,076 ‰ for an effort of 25,844 mV and 1,180 ‰ for 28,340 mV. -/
theorem test_ageing :
    let s := ((State.reset.odPutU 0x5011 6 0x0AF05460).odPutU 0x5011 7 (3200 * 65536 + 26400)).odPutU 0x5011 8 (3600 * 65536 + 30000)
    (s.ageIndex 3000 25844, s.ageIndex 3000 28340) = (1076, 1180) := by decide +kernel

/-- Example 15-1: 1,180 ‰ is WARNING, which ends only below 1,130 ‰. -/
theorem test_ageingState : (ageState 1 1180 1150 1300, ageState 2 1130 1150 1300, ageState 2 1129 1150 1300) = (2, 2, 1) := by
  decide +kernel

/-- Example 16-1: a gain of 1,614 ticks writes −25 to RTC.TRIM. -/
theorem test_autoTrim :
    nextOf (exec .autoTrim
      (let s := ((atRun.wr Reg.TIME_STAT_ALIGNED 1).wr Reg.TIME_STAT_SOURCE 1).odPutU 0x8003 2 1
       { s with time := { s.time with dt := clockOf 4096 0 }, bk := { s.bk with cnt := 134219342, measure := some (0, 0) } }))
      (fun t => t.rd Reg.RTC_TRIM_TRIM == 0x3E7) = true := by decide +kernel

/-- Example 14-1: code 7,509 at a scale of 400 is 219.99 V, and code 12,971 is 380.01 V. -/
theorem test_voltages : (voltMv 7509 (400 * 65536), voltMv 12971 (400 * 65536)) = (219990, 380009) := by decide +kernel

/-- Example 14-1: the eighth truncated period in a row faults the group with OC_CBC, and its first does not. -/
theorem test_truncate :
    ((((atRun.wr (Reg.PWM_G_STAT_STATE.at 0) 3).setPh 2 { cbcRun := 7 }).truncate 0 2).grFault 0,
      (((atRun.wr (Reg.PWM_G_STAT_STATE.at 0) 3).setPh 2 { cbcRun := 6 }).truncate 0 2).grFault 0) = (3, 0) := by
  decide +kernel

/-- Example 12-1: frames of 1,518 and of 1,298 bytes take 6 cells each. -/
theorem test_frameCells : (cellsFor 1518, cellsFor 1298) = (6, 6) := by decide +kernel

/-! ### States and operands that meet the hypotheses of the statements -/

/-- No register holds tag 0xE after reset: register 31 of a thread holds PTR, every other one NIL. -/
theorem reset_tagsHeld : State.reset.tagsHeld := by
  intro i n
  simp only [State.greg, State.thread, State.reset, Store.get, Option.getD, threadReset]
  split <;> simp

/-- States and operands that meet the hypotheses of DieLink, clause by clause. -/
theorem witness_DieLink :
    (∃ (s : State) (k : Fin 2), s.link.up k = true) ∧
    (∃ (s : State) (k : Fin 2), s.link.up k = false ∧ s.link.trying k = false) ∧
    (∃ (s : State) (k : Fin 2), s.link.trying k = true) ∧
    (∃ (s : State) (w : Writer) (crc : Fin 3), s.mayAccess w = true ∧ s.rd Reg.SYS_DLSTAT_DOWN = 0 ∧ crc ≠ 2) ∧
    (∃ (s : State) (w : Writer) (crc : Fin 3), s.mayAccess w = true ∧ s.rd Reg.SYS_DLSTAT_DOWN = 0 ∧ crc ≠ 2) ∧
    (∃ (s : State) (a : Word) (w : Writer), s.mayAccess w = true ∧ a.toNat % 4 = 0 ∧ companion a.toNat = true ∧ s.rd Reg.SYS_DLSTAT_DOWN = 0) ∧
    (∃ (s : State) (a : Word) (w : Writer), s.mayAccess w = true ∧ a.toNat % 4 = 0 ∧ companion a.toNat = true ∧ s.rd Reg.SYS_DLSTAT_DOWN ≠ 0) ∧
    (∃ (s : State) (a : Word) (w : Writer) (crc : Fin 3) (x : RegSpec × Nat × Nat), s.mayAccess w = true ∧ s.dlDown = false ∧ crc ≠ 2 ∧ a.toNat % 4 = 0 ∧ inBlock a.toNat = true ∧ companion a.toNat = true ∧ findReg a.toNat = some x) ∧
    (∃ (s : State) (a : Word) (w : Writer) (crc : Fin 3) (x : RegSpec × Nat × Nat), s.mayAccess w = true ∧ s.dlDown = false ∧ crc ≠ 2 ∧ a.toNat % 4 = 0 ∧ inBlock a.toNat = true ∧ companion a.toNat = true ∧ findReg a.toNat = some x) :=
  ⟨⟨State.reset, 1, by decide +kernel⟩,
   ⟨{ State.reset with link := { up0 := false } }, 0, by decide +kernel⟩,
   ⟨{ State.reset with link := { up1 := false, trying1 := true } }, 1, by decide +kernel⟩,
   ⟨State.reset, .gateway, 1, by decide +kernel⟩,
   ⟨State.reset.wr Reg.RTC_TRIM_TRIM 77, .gateway, 0, by decide +kernel⟩,
   ⟨State.reset, 0x40090000, .gateway, by decide +kernel⟩,
   ⟨State.reset.wr Reg.SYS_DLSTAT_DOWN 1, 0x400AFFFC, .gateway, by decide +kernel⟩,
   ⟨State.reset, 0x400A0014, .gateway, 1, (findReg 0x400A0014).getD ({ base := 0, fields := [] }, 0, 0), by decide +kernel⟩,
   ⟨State.reset, 0x400A0014, .gateway, 1, (findReg 0x400A0014).getD ({ base := 0, fields := [] }, 0, 0), by decide +kernel⟩⟩

/-- States and operands that meet the hypotheses of RegisterAccess, clause by clause. -/
theorem witness_RegisterAccess :
    (∃ (s : State) (w : Writer), s.mayAccess w = true) ∧
    (∃ (s : State) (w : Writer), s.mayAccess w = true) ∧
    (∃ (s : State) (w : Writer), s.mayAccess w = true) ∧
    (∃ (s : State) (a : Word) (w : Writer), s.mayAccess w = true ∧ a.toNat % 4 = 0 ∧ inBlock a.toNat = true ∧ companion a.toNat = false ∧ ¬(0x40082000 ≤ a.toNat ∧ a.toNat < 0x40082400) ∧ findReg a.toNat = none) ∧
    (∃ (s : State) (a : Word) (w : Writer) (x : RegSpec × Nat × Nat), s.mayAccess w = true ∧ a.toNat % 4 = 0 ∧ inBlock a.toNat = true ∧ (companion a.toNat = false ∨ s.dlDown = false) ∧ ¬(0x40082000 ≤ a.toNat ∧ a.toNat < 0x40082400) ∧ findReg a.toNat = some x) ∧
    (∃ (s : State) (a : Word) (x : RegSpec × Nat × Nat), s.weaverOn = true ∧ a.toNat % 4 = 0 ∧ inBlock a.toNat = true ∧ (companion a.toNat = false ∨ s.dlDown = false) ∧ findReg a.toNat = some x ∧ (s.regTake x.1.base x.2.1).isNone = true ∧ (s.regLive x.1.base x.2.1 a.toNat).isNone = true) ∧
    (∃ (s : State), s.weaverOn = true) :=
  ⟨⟨(State.reset.wr Reg.SYS_CLKSTAT_REF_LOST 1).wr Reg.SYS_CLKSTAT_LIMPCLK 1, .gateway, by decide +kernel⟩,
   ⟨State.reset, .gateway, by decide +kernel⟩,
   ⟨State.reset, .gateway, by decide +kernel⟩,
   ⟨State.reset, 0x40000FF0, .gateway, by decide +kernel⟩,
   ⟨State.reset, 0x400C0300, .gateway, (findReg 0x400C0300).getD ({ base := 0, fields := [] }, 0, 0), by decide +kernel⟩,
   ⟨State.reset, 0x400E0008, (findReg 0x400E0008).getD ({ base := 0, fields := [] }, 0, 0), by decide +kernel⟩,
   ⟨(State.reset.wr Reg.HOSTPORT_ERR_ABORTED 7).wr Reg.HOSTPORT_ERR_CRC_ERRORS 200, by decide +kernel⟩⟩

/-- States and operands that meet the hypotheses of ClockMonitors, clause by clause. -/
theorem witness_ClockMonitors :
    (∃ (s : State) (c : Instr) (fs : List Field), (c, fs) ∈ [(Instr.refclkLost, [Reg.SYS_CLKSTAT_REF_LOST]), (.refclkOutOfRange, [Reg.SYS_CLKSTAT_REF_RANGE, Reg.SYS_CLKSTAT_REF_LOST]), (.pllUnlock, [Reg.SYS_CLKSTAT_PLL_UNLOCK])] ∧ s.pstate = 4) ∧
    (∃ (s : State), s.pstate = 4) ∧
    (∃ (s : State), s.pstate = 5) :=
  ⟨⟨atRun, .refclkOutOfRange, [Reg.SYS_CLKSTAT_REF_RANGE, Reg.SYS_CLKSTAT_REF_LOST], by decide +kernel⟩,
   ⟨atRun, by decide +kernel⟩,
   ⟨atLimp, by decide +kernel⟩⟩

/-- States and operands that meet the hypotheses of SupplyEvents, clause by clause. -/
theorem witness_SupplyEvents :
    (∃ (s : State), s.pstate = 0 ∧ s.pow.mainFeed = false) ∧
    (∃ (s : State), s.pstate = 1 ∧ s.pow.offWait = false ∧ s.pow.resetLow = false ∧ s.bk.source ≠ .unpowered) ∧
    (∃ (s : State), s.pstate = 3) ∧
    (∃ (s : State) (src : Fin 8), s.pstate = 2 ∧ s.bit Reg.BACKUP_WAKECFG_WSRC_EN src = true ∧ (2 ≤ src.val ∨ s.pow.vhvAbove9 = true) ∧ s.pow.offWait = false ∧ s.pow.resetLow = false) ∧
    (∃ (s : State), s.pow.offWait = false ∧ s.pstate = 4 ∧ s.role ≠ 3) ∧
    (∃ (s : State), s.pow.resetLow = true ∧ s.pstate = 2 ∧ s.pow.mainFeed = true ∧ s.passed .dieOff (50 * msCycles) = true) ∧
    (∃ (s : State) (src : Nat), s.pow.offWait = true ∧ s.pow.resetLow = false ∧ s.offOutcome = some src ∧ s.pow.mainFeed = true ∧ s.passed .dieOff (50 * msCycles) = true) :=
  ⟨⟨{ State.reset.wr Reg.SYS_PSTATE_STATE 0 with pow := { mainFeed := false } }, by decide +kernel⟩,
   ⟨{ State.reset.wr Reg.SYS_PSTATE_STATE 1 with pow := { mainFeed := false } }, by decide +kernel⟩,
   ⟨State.reset, by decide +kernel⟩,
   ⟨atListen, 6, by decide +kernel⟩,
   ⟨atRun, by decide +kernel⟩,
   ⟨{ atListen with pow := { resetLow := true }, cycle := 150000000 }, by decide +kernel⟩,
   ⟨{ atListen with pow := { offWait := true, lastTrigger := 6 }, cycle := 150000000 }, 0x0B, by decide +kernel⟩⟩

/-- States and operands that meet the hypotheses of WakeSteps, clause by clause. -/
theorem witness_WakeSteps :
    (∃ (s : State) (c : Instr) (n : Nat), (c, n) ∈ [(Instr.companionRegulatorsInRegulation, 2), (.pgCoreHigh true, 3), (.pgCoreHigh false, 3), (.refclkInRange, 4), (.pll0Lock, 5)] ∧ s.wakeAt = n) ∧
    (∃ (s : State) (n : Nat), s.wakeAt = 6 ∧ s.lifecycleFuse = some n ∧ s.fcrcOk = true) ∧
    (∃ (s : State), s.wakeAt = 7) ∧
    (∃ (s : State) (a : BitVec 12) (b : BitVec 12) (c : BitVec 12), s.wakeAt = 7 ∧ ¬(a = b ∧ b = c) ∧ s.pow.strapRound < 3) ∧
    (∃ (s : State), s.wakeAt ≠ 0 ∧ s.pow.limp = false ∧ s.pow.attempt < 3) ∧
    (∃ (s : State), s.pstate = 3 ∧ s.pow.waitRetry = true ∧ s.passed .dieOff (10 * msCycles) = true) :=
  ⟨⟨atWake 3, .pgCoreHigh true, 3, by decide +kernel⟩,
   ⟨{ atWake 6 with fuse := blankFuse }, 0, by decide +kernel⟩,
   ⟨atWake 7, by decide +kernel⟩,
   ⟨atWake 7, 1, 1, 0, by decide +kernel⟩,
   ⟨atWake 4, by decide +kernel⟩,
   ⟨{ State.reset with pow := { waitRetry := true }, cycle := 30000000 }, by decide +kernel⟩⟩

/-- States and operands that meet the hypotheses of ShutdownSequence, clause by clause. -/
theorem witness_ShutdownSequence :
    (∃ (s : State) (c : Instr) (n : Nat), (c, n) ∈ [(Instr.vhvFail, 1), (.pgCoreWarning, 2), (.shutdownPowerOff, 3), (.shutdownRestart, 3)] ∧ s.pstate = 4 ∧ s.pow.vhvFailArmed = true) ∧
    (∃ (s : State), s.pstate = 6 ∧ s.sdStep = 1) ∧
    (∃ (s : State), s.pstate = 6 ∧ s.sdStep = 2 ∧ s.grAllStopped = true ∧ s.role ≠ 3) ∧
    (∃ (s : State) (inc : Bool), s.pstate = 6 ∧ s.sdStep = 4 ∧ s.passed .s4 (7 * msCycles) = true ∧ s.pow.resumeInS4 = false ∧ s.role ≠ 3 ∧ s.jr.staging.isEmpty = !inc) ∧
    (∃ (s : State), s.pstate = 6 ∧ s.sdStep = 6) ∧
    (∃ (s : State), s.pstate = 6 ∧ s.pow.capActive = true ∧ s.sdStep < 5 ∧ s.pow.capCycle + 2 * msCycles ≤ s.cycle) ∧
    (∃ (s : State), s.pstate = 6 ∧ s.rd Reg.SYS_PSTATE_SDTRIG = 1 ∧ s.sdStep ≤ 2 ∧ s.pow.startedLimp = false) :=
  ⟨⟨{ atRun with pow := { vhvFailArmed := true } }, .shutdownRestart, 3, by decide +kernel⟩,
   ⟨atShutdown 1 3, by decide +kernel⟩,
   ⟨atShutdown 2 3, by decide +kernel⟩,
   ⟨{ atShutdown 4 3 with jr := { staging := [.mount 1] }, cycle := 21000000 }, true, by decide +kernel⟩,
   ⟨atShutdown 6 3, by decide +kernel⟩,
   ⟨{ atShutdown 2 1 with pow := { capActive := true }, cycle := 6000000 }, by decide +kernel⟩,
   ⟨atShutdown 2 1, by decide +kernel⟩⟩

/-- States and operands that meet the hypotheses of WakeLoads, clause by clause. -/
theorem witness_WakeLoads :
    (∃ (s : State), s.wakeAt = 8) ∧
    (∃ (s : State) (a : Nat), s.wakeAt = 8 ∧ s.mountOver = false ∧ s.weaverOn = true ∧ s.jr.answersSfdp = true ∧ s.safeRom = false ∧ s.findBolts.mountBolt = some a) ∧
    (∃ (s : State), s.wakeAt = 8 ∧ s.mountOver = false ∧ s.weaverOn = true ∧ s.jr.answersSfdp = true ∧ s.safeRom = false ∧ s.findBolts.mountBolt = none) ∧
    (∃ (s : State) (failA : Fin 3), s.wakeAt = 8 ∧ s.mountOver = false ∧ s.weaverOn = true ∧ s.jr.answersSfdp = true ∧ s.safeRom = false ∧ s.findBolts.mountBolt = none ∧ failA ≠ 0) ∧
    (∃ (s : State), s.wakeAt = 8 ∧ s.mountOver = false ∧ s.weaverOn = true ∧ s.jr.answersSfdp = false) ∧
    (∃ (s : State), s.wakeAt = 8 ∧ s.mountOver = false ∧ s.weaverOn = true ∧ s.jr.answersSfdp = true ∧ s.safeRom = true) ∧
    (∃ (s : State) (im : Image), s.wakeAt = 8 ∧ s.safeRom = false ∧ s.pow.firmwareOk = false ∧ s.mountOver = true ∧ s.boot = 0 ∧ s.tableInUse.isSome = true ∧ s.img.store.get none s.imgTable.primary = some im ∧ s.firmwareDetail (some im) = 0) ∧
    (∃ (s : State) (im : Image), s.wakeAt = 8 ∧ s.safeRom = false ∧ s.pow.firmwareOk = false ∧ s.mountOver = true ∧ s.boot = 0 ∧ s.tableInUse.isSome = true ∧ s.firmwareDetail (s.img.store.get none s.imgTable.primary) ≠ 0 ∧ s.img.store.get none s.imgTable.fallback = some im ∧ s.firmwareDetail (some im) = 0) ∧
    (∃ (s : State) (im : Image) (rest : List (Option Image)), s.wakeAt = 8 ∧ s.safeRom = false ∧ s.pow.firmwareOk = false ∧ s.mountOver = true ∧ s.boot ≠ 0 ∧ s.img.hostImages = some im :: rest ∧ s.firmwareDetail (some im) = 0) ∧
    (∃ (s : State), s.wakeAt = 8 ∧ s.safeRom = false ∧ s.pow.firmwareOk = false ∧ s.mountOver = true ∧ s.boot = 0 ∧ s.tableInUse = none ∧ s.pow.limp = false ∧ s.pow.attempt < 3) ∧
    (∃ (s : State), s.wakeAt = 8 ∧ s.mountOver = true ∧ (s.safeRom = true ∨ (s.pow.firmwareOk = true ∧ s.setReady = true)) ∧ s.pow.limp = false) ∧
    (∃ (s : State), s.wakeAt = 8 ∧ s.mountOver = true ∧ s.safeRom = true ∧ s.pow.limp = false) ∧
    (∃ (s : State), s.wakeAt = 8 ∧ s.mountOver = true ∧ s.pow.firmwareOk = true ∧ s.pow.limp = true) :=
  ⟨⟨State.reset, by decide +kernel⟩,
   ⟨mounting, 1, by decide +kernel⟩,
   ⟨worker, by decide +kernel⟩,
   ⟨worker, 1, by decide +kernel⟩,
   ⟨{ worker with jr := { answersSfdp := false } }, by decide +kernel⟩,
   ⟨State.reset, by decide +kernel⟩,
   ⟨verifying, goodFirmware, by decide +kernel⟩,
   ⟨{ verifying with img := { store := [(5, some goodFirmware)] } }, goodFirmware, by decide +kernel⟩,
   ⟨{ (verifying.wr Reg.STRAP_SAMPLED_STRAP 0x40) with img := { hostImages := [some goodFirmware] } }, goodFirmware, [], by decide +kernel⟩,
   ⟨{ worker with jr := { mountSeq := 1 } }, by decide +kernel⟩,
   ⟨{ State.reset with jr := { mountSeq := 1 } }, by decide +kernel⟩,
   ⟨{ State.reset with jr := { mountSeq := 1 } }, by decide +kernel⟩,
   ⟨{ worker with jr := { mountSeq := 1 }, pow := { firmwareOk := true, limp := true } }, by decide +kernel⟩⟩

/-- States and operands that meet the hypotheses of MemoryAccess, clause by clause. -/
theorem witness_MemoryAccess :
    (∃ (s : State) (b : Fin 26) (off : Fin 65536), off < bankWords b ∧ s.bankBusy b = false ∧ (s.word b off).poisoned = false ∧ (s.word b off).ecc = .clean) ∧
    (∃ (s : State) (b : Fin 26) (off : Fin 65536), off < bankWords b ∧ s.bankBusy b = false ∧ (s.word b off).poisoned = true) ∧
    (∃ (s : State) (b : Fin 26) (off : Fin 65536) (tag : Tag), off < bankWords b ∧ s.bankBusy b = false ∧ bankTagged b = true ∧ tag ≠ .reserved ∧ s.rd Reg.MEM_INJ_ARM = 0) ∧
    (∃ (s : State) (b : Fin 26) (off : Fin 65536), off < bankWords b ∧ s.bankBusy b = false ∧ bankTagged b = false ∧ s.rd Reg.MEM_INJ_ARM = 0) ∧
    (∃ (s : State) (b : Fin 26) (off : Fin 65536) (p : PartWrite), off < bankWords b ∧ s.bankBusy b = false ∧ writeFits p b = true ∧ p ≠ .tag .reserved ∧ (s.word b off).poisoned = false ∧ (s.word b off).ecc = .clean) :=
  ⟨⟨State.reset, 25, 8191, by decide +kernel⟩,
   ⟨State.reset.setWord 3 9 { tag := .trap, val := 5 }, 3, 9, by decide +kernel⟩,
   ⟨State.reset, 0, 65535, .angle, by decide +kernel⟩,
   ⟨State.reset, 8, 1, by decide +kernel⟩,
   ⟨State.reset.setWord 9 4 { val := 0x1122334455667788 }, 9, 4, .bytes 0x0F 0xAABBCCDD, by decide +kernel⟩⟩

theorem witness_MemoryStops : ∃ (b : Fin 26) (off : Fin 65536), bankWords b ≤ off :=
  ⟨17, 16384, by decide⟩

/-- States and operands that meet the hypotheses of CorrectedRead, clause by clause. -/
theorem witness_CorrectedRead :
    (∃ (s : State) (b : Fin 26) (off : Fin 65536), off < bankWords b ∧ s.bankBusy b = false ∧ (s.word b off).poisoned = false ∧ (s.word b off).ecc = .single) ∧
    (∃ (s : State) (b : Fin 26), s.scrubOn b = true ∧ s.bankBusy b = false ∧ (s.word b (s.mem.scrubPos.get 0 b)).poisoned = false ∧ (s.word b (s.mem.scrubPos.get 0 b)).ecc = .single) :=
  ⟨⟨State.reset.setWord 3 9 { tag := .int, val := 5, ecc := .single }, 3, 9, by decide +kernel⟩,
   ⟨(State.reset.wr Reg.SCRUB_CTRL_EN 0x3FFFFFF).setWord 2 0 { val := 9, ecc := .single }, 2, by decide +kernel⟩⟩

/-- States and operands that meet the hypotheses of ScrubAndCarding, clause by clause. -/
theorem witness_ScrubAndCarding :
    (∃ (s : State) (b : Fin 36), s.scrubOn b = true ∧ s.bankBusy b = false ∧ (s.word b (s.mem.scrubPos.get 0 b)).poisoned = false ∧ (s.word b (s.mem.scrubPos.get 0 b)).ecc = .clean) ∧
    (∃ (s : State) (b : Fin 36), s.scrubOn b = true ∧ s.bankBusy b = false ∧ s.mem.defer.get 0 b < 64) ∧
    (∃ (s : State) (r : CardRun) (n : Nat) (rest : List (Bool × Nat)) (reads : List MarchRead), s.mem.run = some r ∧ r.destructive = false ∧ r.segmentFailed reads = false ∧ s.cardHeld = false ∧ s.stepOpen r.slot = true ∧ r.segs = (false, n) :: rest ∧ rest ≠ [] ∧ (∀ k : Fin 64, s.word r.bank (64 * n + k) = {})) ∧
    (∃ (s : State) (r : CardRun), s.mem.run = some r ∧ r.destructive = true ∧ s.stepOpen r.slot = true ∧ s.cardHeld = true ∧ s.mem.held = []) ∧
    (∃ (s : State) (r : CardRun), s.mem.run = some r ∧ r.destructive = true ∧ s.stepOpen r.slot = true ∧ s.cardHeld = false ∧ s.mem.held = [] ∧ r.bank < 26 ∧ r.banks = []) :=
  ⟨⟨State.reset.wr Reg.SCRUB_CTRL_EN 0x3FFFFFF, 25, by decide +kernel⟩,
   ⟨State.reset.wr Reg.SCRUB_CTRL_EN 0x3FFFFFF, 25, by decide +kernel⟩,
   ⟨{ (State.reset.setTicket 5 { state := .running, type := 8, steps := 1 }) with mem := { run := some aRun } }, aRun, 0, [(false, 1)], [], by decide +kernel⟩,
   ⟨{ ((atShutdown 3 3).setTicket 5 { state := .running, type := 8, steps := 1 }) with mem := { run := some { aRun with destructive := true } } }, { aRun with destructive := true }, by decide +kernel⟩,
   ⟨{ ((atRun).setTicket 5 { state := .running, type := 8, steps := 1 }) with mem := { run := some { aRun with destructive := true } } }, { aRun with destructive := true }, by decide +kernel⟩⟩

/-- States and operands that meet the hypotheses of JournalCommands, clause by clause. -/
theorem witness_JournalCommands :
    (∃ (s : State) (b : JBody) (rest : List JBody), s.journalRuns = true ∧ s.jr.staging = b :: rest ∧ s.roomFor b = true ∧ b.type ∈ [1, 2, 7, 8, 9, 0x0A, 0x0B, 0x0C, 0x0D]) ∧
    (∃ (s : State) (items : Items) (rest : List JBody), s.journalRuns = true ∧ s.jr.staging = .value 0 0 0 true items :: rest ∧ s.roomFor (.value 0 0 0 true items) = true ∧ s.standby = false ∧ s.gl.mirrorOut.contains (.value 0 0 0 true items) = false) ∧
    (∃ (s : State) (b : JBody) (rest : List JBody), s.jr.waiting = b :: rest ∧ s.stagingRoom b = true) ∧
    (∃ (s : State) (b : JBody) (rest : List JBody) (r : JBody) (l : List JBody) (i : Nat), s.jr.staging = b :: rest ∧ s.roomFor b = false ∧ s.takeCarrier s.jr.staging = some (r, l) ∧ s.carrier r = some i ∧ (s.ticket i).ledgered = true ∧ (s.ticket i).state.isFinal = false ∧ i < 128) ∧
    (∃ (s : State) (b : JBody) (rest : List JBody), s.journalRuns = true ∧ s.jr.staging = b :: rest ∧ s.roomFor b = true ∧ s.jr.headRetried = false) ∧
    (∃ (s : State) (b : JBody) (rest : List JBody), s.journalRuns = true ∧ s.jr.staging = b :: rest ∧ s.roomFor b = true ∧ s.jr.headRetried = true) ∧
    (∃ (s : State) (b : JBody), s.fullingRuns = true ∧ s.jr.phase = .copying ∧ s.jr.nextCopy = some b ∧ s.jr.copyRetried = false) ∧
    (∃ (s : State) (n : Nat), s.fullingRuns = true ∧ s.jr.phase ∈ [FullPhase.eraseStandby n, .eraseOld n, .eraseAgain n]) ∧
    (∃ (s : State) (b : JBody) (rest : List JBody), s.fullingRuns = true ∧ s.jr.phase = .copying ∧ (s.jr.staging.head?.any s.roomFor) = false ∧ s.jr.toCopy = b :: rest ∧ s.jr.carry + 256 < b.size ∧ (s.bolt s.standbyBolt).used + s.jr.copyLeft ≤ s.jr.boltSize) ∧
    (∃ (s : State) (b : JBody), s.fullingRuns = true ∧ s.jr.phase = .copying ∧ (s.jr.staging.head?.any s.roomFor) = false ∧ s.jr.toCopy = [b] ∧ s.jr.delta = [] ∧ b.size ≤ s.jr.carry + 256 ∧ (s.bolt s.standbyBolt).used + s.jr.copyLeft ≤ s.jr.boltSize) ∧
    (∃ (s : State), s.fullingRuns = true ∧ s.jr.phase = .copying ∧ (s.jr.staging.head?.any s.roomFor) = false ∧ s.jr.boltSize < (s.bolt s.standbyBolt).used + s.jr.copyLeft) ∧
    (∃ (s : State) (n : Nat), s.fullingRuns = true ∧ 1 < n ∧ s.jr.phase = .eraseOld n) ∧
    (∃ (s : State) (n : Nat), s.fullingRuns = true ∧ 1 < n ∧ s.jr.phase = .eraseStandby n) ∧
    (∃ (s : State), s.fullingRuns = true ∧ s.jr.phase = .eraseStandby 1) ∧
    (∃ (s : State), s.fullingRuns = true ∧ s.jr.phase ∈ [FullPhase.eraseOld 1, .eraseAgain 1]) :=
  ⟨⟨{ atRun with jr := { boltA := { recs := [⟨1, .boltHead 1⟩], used := 32, erased := false }, staging := [.retire 4, .retire 9] } }, .retire 4, [.retire 9], by decide +kernel⟩,
   ⟨{ atRun with jr := { boltA := { recs := [⟨1, .boltHead 1⟩], used := 32, erased := false }, staging := [.value 0 0 0 true [(7, .scalar .int 5)], .retire 9] } }, [(7, .scalar .int 5)], [.retire 9], by decide +kernel⟩,
   ⟨{ atRun with jr := { waiting := [.mount 4, .retire 8] } }, .mount 4, [.retire 8], by decide +kernel⟩,
   ⟨{ (atRun.setTicket 3 { state := .queued, type := 5, client := 1, steps := 1, ledgered := true }) with jr := { boltA := { failing := true }, staging := [.admission 0x01000003 5 1 []] } }, .admission 0x01000003 5 1 [], [], .admission 0x01000003 5 1 [], [], 3, by decide +kernel⟩,
   ⟨{ atRun with jr := { boltA := { recs := [⟨1, .boltHead 1⟩], used := 32, erased := false }, staging := [.mount 4, .retire 9] } }, .mount 4, [.retire 9], by decide +kernel⟩,
   ⟨{ atRun with jr := { boltA := { recs := [⟨1, .boltHead 1⟩], used := 32, erased := false }, headRetried := true, staging := [.mount 4, .retire 9] } }, .mount 4, [.retire 9], by decide +kernel⟩,
   ⟨{ atRun with jr := { phase := .copying, toCopy := [.mount 3] } }, .mount 3, by decide +kernel⟩,
   ⟨{ atRun with jr := { phase := .eraseOld 3 } }, 3, by decide +kernel⟩,
   ⟨{ atRun with jr := { phase := .copying, toCopy := [bigBody, .mount 3] } }, bigBody, [.mount 3], by decide +kernel⟩,
   ⟨{ atRun with jr := { boltB := { recs := [⟨1, .boltHead 2⟩], used := 32 }, phase := .copying, toCopy := [.mount 3] } }, .mount 3, by decide +kernel⟩,
   ⟨{ atRun with jr := { phase := .copying, boltB := { used := 0x100000 }, toCopy := [.mount 3] } }, by decide +kernel⟩,
   ⟨{ atRun with jr := { phase := .eraseOld 3 } }, 3, by decide +kernel⟩,
   ⟨{ atRun with jr := { phase := .eraseStandby 3 } }, 3, by decide +kernel⟩,
   ⟨{ atRun with jr := { phase := .eraseStandby 1 } }, by decide +kernel⟩,
   ⟨{ atRun with jr := { phase := .eraseOld 1 } }, by decide +kernel⟩⟩

/-- States and operands that meet the hypotheses of OwnTicketCommands, clause by clause. -/
theorem witness_OwnTicketCommands :
    (∃ (s : State) (c : Fin 256) (i : Fin 128) (mask : Word), s.contextOpen c = true ∧ s.checkWrite c [(odKey 0x2F03 0, .scalar .bits mask.toNat)] = 0 ∧ s.quotaFree c = true ∧ s.freeSlot = some i.val) ∧
    (∃ (s : State) (c : Fin 256) (i : Fin 128) (word : Fin 128) (mask : Word), s.contextOpen c = true ∧ s.checkWrite c [(odKey 0x2011 1, .scalar .uint word), (odKey 0x2011 2, .scalar .bits mask.toNat)] = 0 ∧ s.quotaFree c = true ∧ s.freeSlot = some i.val) ∧
    (∃ (s : State) (c : Fin 256) (i : Fin 128), s.contextOpen c = true ∧ s.checkWrite c [(odKey 0x2501 0, .scalar .uint 1)] = 0 ∧ s.quotaFree c = true ∧ s.freeSlot = some i.val) ∧
    (∃ (s : State) (c : Fin 256) (i : Fin 128), s.contextOpen c = true ∧ s.checkWrite c [(odKey 0x2501 0, .scalar .uint 2)] = 0 ∧ s.quotaFree c = true ∧ s.freeSlot = some i.val) ∧
    (∃ (s : State) (c : Fin 256) (i : Fin 128), s.contextOpen c = true ∧ s.checkWrite c [(odKey 0x2501 0, .scalar .uint 3)] = 0 ∧ s.quotaFree c = true ∧ s.freeSlot = some i.val) ∧
    (∃ (s : State) (c : Fin 256) (i : Fin 128) (slot : Fin 4) (src : Fin 17), s.contextOpen c = true ∧ s.checkWrite c (imageItems 1 slot src 0) = 0 ∧ s.quotaFree c = true ∧ s.freeSlot = some i.val) ∧
    (∃ (s : State) (c : Fin 256) (i : Fin 128) (slot : Fin 4), s.contextOpen c = true ∧ s.checkWrite c (imageItems 2 slot 0 0) = 0 ∧ s.quotaFree c = true ∧ s.freeSlot = some i.val) ∧
    (∃ (s : State) (c : Fin 256) (i : Fin 128) (slot : Fin 16), s.contextOpen c = true ∧ s.checkWrite c (imageItems 3 slot 16 0) = 0 ∧ s.quotaFree c = true ∧ s.freeSlot = some i.val) ∧
    (∃ (s : State) (c : Fin 256) (i : Fin 128) (set : Fin 9) (value : Word), s.contextOpen c = true ∧ s.checkWrite c (imageItems 4 set 0 value.toNat) = 0 ∧ s.quotaFree c = true ∧ s.freeSlot = some i.val) ∧
    (∃ (s : State) (c : Fin 256) (i : Fin 128) (mask : BitVec 26) (algo : Fin 2) (bgs : Fin 3) (destructive : Bool), s.contextOpen c = true ∧ s.checkWrite c [(odKey 0x2301 1, .scalar .bits mask.toNat), (odKey 0x2301 2, .scalar .uint algo), (odKey 0x2301 3, .scalar .uint bgs), (odKey 0x2301 4, .scalar .bool (b2n destructive))] = 0 ∧ s.quotaFree c = true ∧ s.freeSlot = some i.val) ∧
    (∃ (s : State) (c : Fin 256) (i : Fin 128) (h : Word) (kind : Fin 4) (hdr : Byte) (payload : BitVec 16) (mss : BitVec 16) (ctl : Word), s.contextOpen c = true ∧ s.checkWrite c [(odKey 0x6080 1, .scalar .uint h.toNat), (odKey 0x6080 2, .scalar .uint kind), (odKey 0x6080 3, .scalar .uint hdr.toNat), (odKey 0x6080 4, .scalar .uint payload.toNat), (odKey 0x6080 5, .scalar .uint mss.toNat), (odKey 0x6080 6, .scalar .uint ctl.toNat)] = 0 ∧ s.quotaFree c = true ∧ s.freeSlot = some i.val) ∧
    (∃ (s : State) (c : Fin 256) (i : Fin 128), s.contextOpen c = true ∧ s.checkWrite c [(odKey 0x5010 0, .scalar .bool 1)] = 0 ∧ s.quotaFree c = true ∧ s.freeSlot = some i.val) ∧
    (∃ (s : State) (c : Fin 256) (i : Fin 128) (w : Fin 255) (ref : Word) (op : Fin 3) (tag : Byte) (v : List Byte), s.contextOpen c = true ∧ s.checkWrite c [(odKey (0x9101 + w.val) 1, .scalar .odref ref.toNat), (odKey (0x9101 + w.val) 2, .scalar .uint op), (odKey (0x9101 + w.val) 3, .scalar .uint tag.toNat), (odKey (0x9101 + w.val) 4, .bytes v)] = 0 ∧ s.quotaFree c = true ∧ s.freeSlot = some i.val) :=
  ⟨⟨atRun, 1, 0, 8, by decide +kernel⟩,
   ⟨atRun, 1, 0, 20, 5, by decide +kernel⟩,
   ⟨atRun, 1, 0, by decide +kernel⟩,
   ⟨atRun, 0, 0, by decide +kernel⟩,
   ⟨atRun, 1, 0, by decide +kernel⟩,
   ⟨atRun, 1, 0, 2, 3, by decide +kernel⟩,
   ⟨atRun, 1, 0, 2, by decide +kernel⟩,
   ⟨atRun, 1, 0, 2, by decide +kernel⟩,
   ⟨atRun, 1, 0, 2, 77, by decide +kernel⟩,
   ⟨atRun, 1, 0, 1, 0, 1, false, by decide +kernel⟩,
   ⟨atRun, 1, 0, 5, 1, 54, 3000, 1000, 1, by decide +kernel⟩,
   ⟨atRun.wr Reg.FAN_STAT_STATE 2, 1, 0, by decide +kernel⟩,
   ⟨{ atRun.wr Reg.STRAP_SAMPLED_STRAP 8 with gl := { assigned := [(5, 1)] } }, 1, 0, 4, 0x200000, 1, 0, [], by decide +kernel⟩⟩

/-- States and operands that meet the hypotheses of MultiAccess, clause by clause. -/
theorem witness_MultiAccess :
    (∃ (s : State) (c : Fin 256) (l : List (BitVec 16 × Byte)) (i : Fin 128), s.contextOpen c = true ∧ l.all (fun e => s.checkEntry c e.1.toNat e.2.toNat false == 0) = true ∧ s.quotaFree c = true ∧ s.freeSlot = some i.val) ∧
    (∃ (s : State) (c : Fin 256) (l : List (BitVec 16 × Byte × OdVal)) (i : Fin 128), s.contextOpen c = true ∧ s.checkWrite c (l.map (fun e => (refOf e.1 e.2.1, e.2.2))) = 0 ∧ l.all (fun e => (ownTicket e.1.toNat).isNone) = true ∧ s.romFails (l.map (fun e => (refOf e.1 e.2.1, e.2.2))) = 0 ∧ s.quotaFree c = true ∧ s.freeSlot = some i.val ∧ l ≠ []) ∧
    (∃ (s : State) (c : Fin 256) (v : Bool) (i : Fin 128), s.contextOpen c = true ∧ s.checkWrite c [(odKey 0x2F02 0, .scalar .bool (b2n v))] = 0 ∧ s.safeRom = false ∧ s.jr.readOnly = false ∧ s.quotaFree c = true ∧ s.freeSlot = some i.val) :=
  ⟨⟨atRun, 1, [(0x2000, 1), (0x2500, 1)], 0, by decide +kernel⟩,
   ⟨atRun, 1, [(0x2200, 1, .scalar .uint 4), (0x4000, 1, .scalar .uint 0)], 0, by decide +kernel⟩,
   ⟨asRole 0 atRun, 0, true, 0, by decide +kernel⟩⟩

/-- States and operands that meet the hypotheses of SingleAccess, clause by clause. -/
theorem witness_SingleAccess :
    (∃ (s : State) (c : Fin 256) (i : BitVec 16) (sub : Byte) (m : OdSpec), s.contextOpen c = true ∧ s.checkEntry c i.toNat sub.toNat false = 0 ∧ s.odSpec i.toNat sub.toNat = some m ∧ m.home = .val ∧ m.expert = false ∧ s.od.poisoned = [] ∧ (i.toNat < 0x3130 ∨ 0x6061 < i.toNat) ∧ i ≠ 0xF000) ∧
    (∃ (s : State) (c : Fin 256) (sub : Byte) (n : Word), s.contextOpen c = true ∧ s.checkWrite c [(refOf 0x2F05 sub, .scalar .uint n.toNat)] = 0 ∧ (sub = 5 ∨ sub = 6 ∨ sub = 7) ∧ s.journaled (refOf 0x2F05 sub) = true ∧ s.quotaFree c = true ∧ (s.freeSlot).isSome = true) ∧
    (∃ (s : State) (c : Fin 256) (n : Word), s.contextOpen c = true ∧ s.checkWrite c [(odKey 0x2200 1, .scalar .uint n.toNat)] = 0 ∧ s.keyPending (odKey 0x2200 1) = false) ∧
    (∃ (s : State) (c : Fin 256) (n : Word), s.contextOpen c = true ∧ s.checkWrite c [(odKey 0x2020 5, .scalar .uint n.toNat)] = 0 ∧ s.keyPending (odKey 0x2020 5) = false ∧ n = 1 ∧ s.pstate = 4) ∧
    (∃ (s : State) (c : Fin 256) (i : BitVec 16) (sub : Byte) (v : OdVal) (e : Nat), s.contextOpen c = true ∧ s.checkWrite c [(refOf i sub, v)] = e ∧ e ≠ 0 ∧ i ≠ 0x2F00 ∧ i ≠ 0x8002 ∧ i ≠ 0x5010) ∧
    (∃ (s : State) (c : Fin 256) (i : BitVec 16) (sub : Byte) (m : OdSpec), s.contextOpen c = true ∧ s.checkEntry c i.toNat sub.toNat false = 0 ∧ s.odSpec i.toNat sub.toNat = some m ∧ m.home ≠ .val ∧ m.jrnl = false ∧ (viaLink i.toNat sub.toNat m && !m.acc.journals && s.dlDown) = false ∧ i ≠ 0xF000) ∧
    (∃ (s : State) (c : Fin 256) (i : BitVec 16) (sub : Byte) (m : OdSpec), s.contextOpen c = true ∧ s.checkEntry c i.toNat sub.toNat false = 0 ∧ s.odSpec i.toNat sub.toNat = some m ∧ (m.home = .val ∨ m.jrnl = true) ∧ (viaLink i.toNat sub.toNat m && !m.acc.journals && s.dlDown) = false ∧ i ≠ 0xF000) ∧
    (∃ (s : State) (c : Fin 256) (i : BitVec 16) (sub : Byte) (v : OdVal), s.contextOpen c = true ∧ s.checkWrite c [(refOf i sub, v)] = 0 ∧ ownWrite [(refOf i sub, v)] = none ∧ s.journaled (refOf i sub) = false ∧ s.keyPending (refOf i sub) = false ∧ ((s.odSpec i.toNat sub.toNat).map (·.expert)).getD false = false ∧ i ≠ 0x2401 ∧ i ≠ 0x2402 ∧ i ≠ 0xF000 ∧ i ≠ 0x5010) :=
  ⟨⟨atRun, 1, 0x2F06, 0, (State.odSpec atRun 0x2F06 0).getD (mU .ro .val), by decide +kernel⟩,
   ⟨asRole 0 atRun, 0, 5, 4, by decide +kernel⟩,
   ⟨atRun, 1, 6, by decide +kernel⟩,
   ⟨atRun, 1, 1, by decide +kernel⟩,
   ⟨atRun, 1, 0x2000, 1, .scalar .uint 1, 5, by decide +kernel⟩,
   ⟨atRun, 1, 0x2000, 1, (State.odSpec atRun 0x2000 1).getD (mU .ro .val), by decide +kernel⟩,
   ⟨atRun, 1, 0x2F06, 0, (State.odSpec atRun 0x2F06 0).getD (mU .ro .val), by decide +kernel⟩,
   ⟨atRun, 1, 0x4000, 7, .scalar .bits 5, by decide +kernel⟩⟩

/-- States and operands that meet the hypotheses of ExpertCommands, clause by clause. -/
theorem witness_ExpertCommands :
    (∃ (s : State) (c : Fin 256) (key : BitVec 64), s.contextOpen c = true ∧ s.checkWrite c [(odKey 0x2F00 0, .bytes (leBytes 8 key.toNat))] = 0 ∧ s.keyPending (odKey 0x2F00 0) = false) ∧
    (∃ (s : State) (c : Fin 256), s.contextOpen c = true ∧ s.checkWrite c [(odKey 0x2F04 0, .scalar .bool 1)] = 0 ∧ s.keyPending (odKey 0x2F04 0) = false) ∧
    (∃ (s : State), s.passed .unlockBlock (1000 * msCycles) = true) ∧
    (∃ (s : State) (c : Fin 256), (s.ctx c).unlocked = true ∧ (s.ctx c).lastUse + unlockSpan ≤ s.cycle) ∧
    (∃ (s : State) (c : Fin 256) (v : Word), s.contextOpen c = true ∧ s.checkEntry c 0xF000 2 true = 0 ∧ s.ctxRight c 2 = 3 ∧ (s.ctx c).winAddr = 0x400C0300 ∧ (s.ctx c).winAuto = false ∧ v.toNat ≤ 16) ∧
    (∃ (s : State) (c : Fin 256) (v : Option Word), s.contextOpen c = true ∧ s.checkEntry c 0xF000 2 v.isSome = 0 ∧ s.windowCode c (s.ctx c).winAddr = 0) :=
  ⟨⟨{ atRun with fuse := keyFuse }, 1, 0, by decide +kernel⟩,
   ⟨atRun.setCtx 1 { state := .opened, quota := 8, unlocked := true, profile := 1 }, 1, by decide +kernel⟩,
   ⟨{ atRun with od := { unlockBlocked := true }, cycle := 3000000000 }, by decide +kernel⟩,
   ⟨{ atRun.setCtx 1 { state := .opened, unlocked := true } with cycle := unlockSpan }, 1, by decide +kernel⟩,
   ⟨atRun.setCtx 1 { state := .opened, unlocked := true, winAddr := 0x400C0300 }, 1, 7, by decide +kernel⟩,
   ⟨atRun.setCtx 1 { state := .opened, unlocked := true, winAddr := 0x400C0300, profile := 1 }, 1, some 7, by decide +kernel⟩⟩

/-- States and operands that meet the hypotheses of NetworkAndImages, clause by clause. -/
theorem witness_NetworkAndImages :
    (∃ (s : State) (k : Fin 4) (c : Fin 256) (key : Nat) (r : MapRow) (n : Nat), 4 ≤ c.val ∧ (s.ctx c).state = .opened ∧ (s.ctx c).image = k ∧ s.contextOpen c = true ∧ s.rowOf k key = some r ∧ r.canRead = true ∧ r.ref = odKey 0x2F06 0 ∧ r.width = 32 ∧ r.scale = 0 ∧ s.checkEntry c 0x2F06 0 false = 0 ∧ s.od.poisoned = [] ∧ s.odN 0x2F06 0 0 = n ∧ n < 2 ^ 32 ∧ s.od.vals.get none (odKey 0x2F06 0) = some (.scalar .uint n)) ∧
    (∃ (s : State) (k : Fin 4) (c : Nat), s.slotState k = 2 ∧ (List.range 256).find? (fun c => 4 ≤ c && (s.ctx c).state == .free) = some c ∧ (s.slot k).sessions < (s.decl k).sessions) ∧
    (∃ (s : State) (c : Fin 256), 4 ≤ c.val ∧ (s.ctx c).state = .opened ∧ s.heldBy c = []) ∧
    (∃ (s : State) (c : Fin 256), (s.ctx c).state = .draining ∧ (s.ctx c).session + s.odN 0x2F05 4 30 * 1000 * msCycles ≤ s.cycle) ∧
    (∃ (s : State) (k : Fin 32), (s.thread (2 + k.val)).run = .waiting) ∧
    (∃ (s : State) (k : Fin 4) (im : Image), s.slotState k = 3 ∧ (s.slot k).restartPending = true ∧ (s.slot k).faultCycle + restartSpan ≤ s.cycle ∧ s.img.store.get none (s.rd (Reg.SYS_IMGSTAT_STORE.at k)) = some im ∧ im.sigOk = true ∧ im.mappingOk = true ∧ im.mapRows = [] ∧ im.decl = s.decl k) ∧
    (∃ (s : State) (k : Fin 4), s.slotState k = 3 ∧ (s.slot k).restartPending = true ∧ (s.slot k).faultCycle + restartSpan ≤ s.cycle ∧ s.img.store.get none (s.rd (Reg.SYS_IMGSTAT_STORE.at k)) = none) ∧
    (∃ (s : State) (k : Fin 4) (c : Fin 256) (keys : List Nat) (i : Fin 128), 4 ≤ c.val ∧ (s.ctx c).image = k ∧ s.contextOpen c = true ∧ 2 ≤ keys.length ∧ (s.netKeys k keys).1 = 0 ∧ (s.netKeys k keys).2.all (fun r => s.checkRead c r == 0 && !((s.odSpec (r / 256) (r % 256)).map (·.expert)).getD false) = true ∧ s.quotaFree c = true ∧ s.freeSlot = some i.val) ∧
    (∃ (s : State) (k : Fin 4) (c : Fin 256) (l : List (Nat × List Byte)) (i : Fin 128), 4 ≤ c.val ∧ (s.ctx c).image = k ∧ s.contextOpen c = true ∧ 2 ≤ l.length ∧ (l.map (s.netItem k)).all (fun x => x.2 == 0 && !((s.odSpec (x.1.1 / 256) (x.1.1 % 256)).map (·.expert)).getD false && (ownTicket (x.1.1 / 256)).isNone) = true ∧ s.checkWrite c ((l.map (s.netItem k)).map (·.1)) = 0 ∧ s.romFails ((l.map (s.netItem k)).map (·.1)) = 0 ∧ s.quotaFree c = true ∧ s.freeSlot = some i.val) ∧
    (∃ (s : State) (k : Fin 4) (c : Fin 256) (i : BitVec 16) (sub : Byte), 4 ≤ c.val ∧ (s.ctx c).state = .opened ∧ (s.ctx c).image = k ∧ s.rowOf k (refOf i sub) = none) ∧
    (∃ (s : State) (k : Fin 4) (c : Fin 256) (i : BitVec 16) (sub : Byte) (b : List Byte) (v : OdVal), 4 ≤ c.val ∧ (s.ctx c).state = .opened ∧ (s.ctx c).image = k ∧ s.rowOf k (refOf i sub) = none ∧ s.nativeVal i.toNat sub.toNat b = (0, v)) ∧
    (∃ (s : State) (c : Fin 256), 4 ≤ c.val ∧ (s.ctx c).state = .opened ∧ s.heldBy c ≠ []) ∧
    (∃ (s : State) (k : Fin 32) (n : Fin 4), (s.thread (2 + k.val)).run = .waiting ∧ s.shuttleHolder (k.val / 4) = some n.val) :=
  ⟨⟨((worker.wr Reg.SYS_PSTATE_STATE 4).odPutU 0x2F06 0 0x01020304).netSession, 1, 4, 9, aRow, 0x01020304, by decide +kernel⟩,
   ⟨atRun.runImage 1 (anImage { sessions := 2 }), 1, 4, by decide +kernel⟩,
   ⟨atRun.setCtx 9 { state := .opened, image := 1, unlocked := true }, 9, by decide +kernel⟩,
   ⟨{ atRun.setCtx 9 { state := .draining, image := 1 } with cycle := 90000000000 }, 9, by decide +kernel⟩,
   ⟨atRun.setThread 9 { threadReset 9 with run := .waiting }, 7, by decide +kernel⟩,
   ⟨((atRun.runImage 1 goodImage).setSlot 1 { image := some goodImage, restartPending := true }).dueRestart goodImage, 1, goodImage, by decide +kernel⟩,
   ⟨{ ((atRun.slotTo 1 3).wr (Reg.SYS_IMGSTAT_STORE.at 1) 2).setSlot 1 { image := some goodImage, restartPending := true } with cycle := restartSpan }, 1, by decide +kernel⟩,
   ⟨((worker.wr Reg.SYS_PSTATE_STATE 4).odPutU 0x2F06 0 0x01020304).netSession, 1, 4, [9, 9], 0, by decide +kernel⟩,
   ⟨({ (worker.wr Reg.SYS_PSTATE_STATE 4).netSession with fuse := 2 ^ 2048 - 1, od := { (worker.wr Reg.SYS_PSTATE_STATE 4).netSession.od with mapping := [(1, [{ aRow with ref := odKey 0x2200 1, canWrite := true, wordHigh := false, byteHigh := false }])] } }), 1, 4, [(9, [4, 0, 0, 0]), (9, [5, 0, 0, 0])], 0, by decide +kernel⟩,
   ⟨((worker.wr Reg.SYS_PSTATE_STATE 4).odPutU 0x2F06 0 0x01020304).netSession, 1, 4, 0x2F06, 0, by decide +kernel⟩,
   ⟨((worker.wr Reg.SYS_PSTATE_STATE 4)).netSession, 1, 4, 0x2200, 1, [6, 0, 0, 0], .scalar .uint 6, by decide +kernel⟩,
   ⟨(atRun.setCtx 9 { state := .opened, image := 1 }).setTicket 7 { state := .queued, type := 1, client := 9, steps := 1 }, 9, by decide +kernel⟩,
   ⟨((atRun.runImage 1 goodImage).setSlot 1 { image := some goodImage, shuttles := 2 }).setThread 9 { threadReset 9 with run := .waiting }, 7, 1, by decide +kernel⟩⟩

/-- States and operands that meet the hypotheses of TicketCommands, clause by clause. -/
theorem witness_TicketCommands :
    (∃ (s : State) (i : Fin 128), s.mayStart i = true ∧ s.weaverOn = true ∧ ((s.ticket i).ledgered = false ∨ ((s.ticket i).firstCommitted = true ∧ s.jr.noJournal = false)) ∧ ((s.ticket i).type ∈ [2, 3, 6, 7, 9, 0x0A] ∨ ((s.ticket i).type = 1 ∧ (s.ticket i).ledgered = false) ∨ ((s.ticket i).type = 5 ∧ (s.ticket i).params.head? = some 3))) ∧
    (∃ (s : State) (i : Fin 128) (word : Fin 128) (mask : Word), s.stepOpen i = true ∧ s.weaverOn = true ∧ s.pstate = 4 ∧ s.fuseAllows word mask.toNat = true ∧ (s.ticket i).type = 7 ∧ (s.ticket i).step = 0 ∧ (s.ticket i).steps = 2 ∧ (s.ticket i).params = evBytes 1 word ++ evBytes 4 mask.toNat) ∧
    (∃ (s : State) (i : Fin 128), s.stepOpen i = true ∧ s.weaverOn = true ∧ s.readWaits i = false ∧ (s.ticket i).type = 2 ∧ (s.ticket i).steps = 1 ∧ (s.ticket i).step = 0 ∧ (s.ticket i).ledgered = false ∧ (s.ticket i).members = [(odKey 0x2F06 0, .scalar .nil 0)] ∧ s.od.poisoned = []) ∧
    (∃ (s : State) (c : Fin 256) (h : Word) (i : Fin 128), 4 ≤ s.pstate ∧ s.inS4 = false ∧ (s.ctx c).state ∈ [CtxState.opened, .draining] ∧ s.slotOf c h.toNat = some i.val ∧ (s.ticket i).state.isFinal = true) ∧
    (∃ (s : State) (c : Fin 256) (h : Word) (i : Fin 128), 4 ≤ s.pstate ∧ s.inS4 = false ∧ (s.ctx c).state ∈ [CtxState.opened, .draining] ∧ s.slotOf c h.toNat = some i.val ∧ (s.ticket i).state.isFinal = true) ∧
    (∃ (s : State) (c : Fin 256) (h : Word) (i : Fin 128), 4 ≤ s.pstate ∧ s.inS4 = false ∧ (s.ctx c).state ∈ [CtxState.opened, .draining] ∧ s.slotOf c h.toNat = some i.val ∧ (s.ticket i).state.isFinal = true) ∧
    (∃ (s : State) (c : Fin 256) (h : Word) (i : Fin 128), 4 ≤ s.pstate ∧ s.inS4 = false ∧ (s.ctx c).state ∈ [CtxState.opened, .draining] ∧ s.slotOf c h.toNat = some i.val ∧ (s.ticket i).state = .running) ∧
    (∃ (s : State) (c : Fin 256) (h : Word) (i : Fin 128) (b : List Byte), 4 ≤ s.pstate ∧ s.inS4 = false ∧ (s.ctx c).state ∈ [CtxState.opened, .draining] ∧ s.slotOf c h.toNat = some i.val ∧ b = leBytes 1 (s.ticket i).state.toCode ++ leBytes 1 (s.ticket i).type ++ leBytes 2 (s.ticket i).step ++ leBytes 2 (s.ticket i).steps ++ leBytes 1 (s.ticket i).code) ∧
    (∃ (s : State) (c : Fin 256) (h : Word) (i : Fin 128) (b : List Byte), 4 ≤ s.pstate ∧ s.inS4 = false ∧ (s.ctx c).state ∈ [CtxState.opened, .draining] ∧ s.slotOf c h.toNat = some i.val ∧ (s.ticket i).carries = true ∧ b = (s.ticket i).data.flatMap OdVal.rdata ∧ b.length < 65536) ∧
    (∃ (s : State) (c : Fin 256) (h : Word) (i : Fin 128), 4 ≤ s.pstate ∧ s.inS4 = false ∧ (s.ctx c).state ∈ [CtxState.opened, .draining] ∧ s.slotOf c h.toNat = some i.val ∧ (s.ticket i).carries = false ∧ (s.ticket i).state.isFinal = true) ∧
    (∃ (s : State) (i : Fin 128), s.stepOpen i = true ∧ s.weaverOn = true ∧ (s.ticket i).type = 3 ∧ (s.ticket i).ledgered = false ∧ (s.ticket i).step + 1 = (s.ticket i).steps ∧ 4 ≤ s.pstate) ∧
    (∃ (s : State) (i : Fin 128), s.stepOpen i = true ∧ s.weaverOn = true ∧ s.jr.readOnly = false ∧ s.jr.noJournal = false ∧ (s.ticket i).ledgered = true ∧ (s.ticket i).type = 6) ∧
    (∃ (s : State) (i : Fin 128), s.stepOpen i = true ∧ s.weaverOn = true ∧ (s.ticket i).type = 5 ∧ (s.ticket i).params.head? = some 2 ∧ (s.ticket i).ledgered = false ∧ (s.ticket i).steps = 1) ∧
    (∃ (s : State) (i : Fin 128), s.stepOpen i = true ∧ s.weaverOn = true ∧ (s.ticket i).type ∈ [2, 3, 5, 6, 7, 9, 0x0A]) ∧
    (∃ (s : State) (i : Fin 128), (s.ticket i).orphan = true ∧ (s.ticket i).state.isFinal = true ∧ s.passed .mount (s.odN 0x2400 5 600 * 1000 * msCycles) = true) :=
  ⟨⟨atRun.setTicket 7 { state := .queued, type := 2, client := 1, steps := 1 }, 7, by decide +kernel⟩,
   ⟨{ atRun.setTicket 7 { state := .running, type := 7, client := 1, steps := 2, params := [5] ++ evBytes 4 0x80000001 } with fuse := 2 ^ 161 }, 7, 5, 0x80000001, by decide +kernel⟩,
   ⟨atRun.setTicket 7 { state := .running, type := 2, client := 1, steps := 1, members := [(odKey 0x2F06 0, .scalar .nil 0)] }, 7, by decide +kernel⟩,
   ⟨atRun.setTicket 7 { state := .done, type := 2, client := 1, steps := 1, resVal := 3 }, 1, 0x01000007, 7, by decide +kernel⟩,
   ⟨atRun.setTicket 7 { state := .done, type := 2, client := 1, steps := 1, resVal := 3 }, 1, 0x01000007, 7, by decide +kernel⟩,
   ⟨atRun.setTicket 7 { state := .done, type := 2, client := 1, steps := 1, resVal := 3, ledgered := true }, 1, 0x01000007, 7, by decide +kernel⟩,
   ⟨atRun.setTicket 7 { state := .running, type := 2, client := 1, steps := 1 }, 1, 0x01000007, 7, by decide +kernel⟩,
   ⟨atRun.setTicket 7 { state := .running, type := 2, client := 1, steps := 1 }, 1, 0x01000007, 7, leBytes 1 TkState.running.toCode ++ [2, 0, 0, 1, 0, 0], by decide +kernel⟩,
   ⟨atRun.setTicket 7 { state := .done, type := 2, client := 1, steps := 1, data := [.scalar .int 6] }, 1, 0x01000007, 7, OdVal.rdata (.scalar .int 6), by decide +kernel⟩,
   ⟨atRun.setTicket 7 { state := .done, type := 1, client := 1, steps := 1 }, 1, 0x01000007, 7, by decide +kernel⟩,
   ⟨atRun.setTicket 7 { state := .running, type := 3, client := 1, steps := 2, step := 1, params := evBytes 4 3 ++ [1, 0], data := [.bytes [1, 2, 3]] }, 7, by decide +kernel⟩,
   ⟨atRun.setTicket 7 { state := .running, type := 6, client := 1, steps := 1, ledgered := true, firstCommitted := true, params := [0x80, 0] }, 7, by decide +kernel⟩,
   ⟨atRun.setTicket 7 { state := .running, type := 5, client := 1, steps := 1, params := [2, 9, 0, 0, 0] }, 7, by decide +kernel⟩,
   ⟨atRun.setTicket 7 { state := .running, type := 9, client := 1, steps := 6, params := [2, 1, 0, 0, 0, 0, 0] }, 7, by decide +kernel⟩,
   ⟨{ atRun.setTicket 7 { state := .indoubt, type := 1, client := 9, steps := 1, orphan := true, ledgered := true } with cycle := 600 * 1000 * msCycles }, 7, by decide +kernel⟩⟩

/-- States and operands that meet the hypotheses of HostPortCommands, clause by clause. -/
theorem witness_HostPortCommands :
    (∃ (s : State), 4 ≤ s.pstate) ∧
    (∃ (s : State), 4 ≤ s.pstate ∧ s.inS4 = false) ∧
    (∃ (s : State), 4 ≤ s.pstate ∧ s.inS4 = false) ∧
    (∃ (s : State), 4 ≤ s.pstate ∧ s.inS4 = false) ∧
    (∃ (s : State) (req : List Byte) (crc : Byte), s.portAnswers = true ∧ crc8 req ≠ crc.toNat) ∧
    (∃ (s : State) (req : List Byte) (crc : Byte), 4 ≤ s.pstate ∧ s.inS4 = false ∧ crc8 req = crc.toNat ∧ dataFits (leValue (req.take 1) % 128) (leValue ((req.drop 1).take 3)) (req.drop 4) = none) ∧
    (∃ (s : State) (req : List Byte) (crc : Byte) (fits : Bool), 4 ≤ s.pstate ∧ s.inS4 = false ∧ crc8 req = crc.toNat ∧ dataFits (leValue (req.take 1) % 128) (leValue ((req.drop 1).take 3)) (req.drop 4) = some fits ∧ (fits = false ∨ 4104 < (req.drop 4).length)) ∧
    (∃ (s : State), s.portAnswers = true) ∧
    (∃ (s : State), 4 ≤ s.pstate ∧ s.inS4 = false) ∧
    (∃ (s : State) (total : Word) (i : Fin 128), s.pstate = 4 ∧ s.contextOpen 1 = true ∧ s.checkEntry 1 0x2202 0 true = 0 ∧ 0 < total.toNat ∧ total.toNat ≤ domainMax ∧ s.standby = false ∧ s.stageReturn.cellsLend 2048 = true ∧ s.quotaFree 1 = true ∧ s.freeSlot = some i.val) ∧
    (∃ (s : State) (total : Word) (i : Fin 128), s.hostLoads = true ∧ 0 < total.toNat ∧ total.toNat ≤ domainMax ∧ s.quotaFree 1 = true ∧ s.freeSlot = some i.val) ∧
    (∃ (s : State), s.hostLoads = true) ∧
    (∃ (s : State) (h : Word) (k : BitVec 16) (b : List Byte) (i : Fin 128), 4 ≤ s.pstate ∧ s.inS4 = false ∧ s.slotOf 1 h.toNat = some i.val ∧ (s.ticket i).type = 3 ∧ s.stepOpen i = true ∧ (s.ticket i).ledgered = false ∧ k.toNat = (s.ticket i).step + 1 ∧ k.toNat < (s.ticket i).steps ∧ (s.ticket i).abortPending = false ∧ b.length = min 4096 (paramAt (s.ticket i).params 0 4 - 4096 * (s.ticket i).step)) ∧
    (∃ (s : State) (h : Word) (i : Nat), 4 ≤ s.pstate ∧ s.inS4 = false ∧ s.slotOf 1 h.toNat = some i) :=
  ⟨⟨atRun, by decide +kernel⟩,
   ⟨atRun.intBit 3, by decide +kernel⟩,
   ⟨atRun, by decide +kernel⟩,
   ⟨atRun, by decide +kernel⟩,
   ⟨atRun, [1, 0, 0, 0], 0, by decide +kernel⟩,
   ⟨atRun, [0x7F, 0, 0, 0], BitVec.ofNat 8 (crc8 [0x7F, 0, 0, 0]), by decide +kernel⟩,
   ⟨atRun, [0x03, 0, 0, 0, 9], BitVec.ofNat 8 (crc8 [0x03, 0, 0, 0, 9]), false, by decide +kernel⟩,
   ⟨atRun, by decide +kernel⟩,
   ⟨atRun, by decide +kernel⟩,
   ⟨atRun, 5000, 0, by decide +kernel⟩,
   ⟨{ worker.wr Reg.STRAP_SAMPLED_STRAP 0x40 with jr := { mountSeq := 1 }, pow := { wakeStep := 8 } }, 5000, 0, by decide +kernel⟩,
   ⟨{ worker.wr Reg.STRAP_SAMPLED_STRAP 0x40 with jr := { mountSeq := 1 }, pow := { wakeStep := 8 } }, by decide +kernel⟩,
   ⟨atRun.setTicket 7 { state := .running, type := 3, client := 1, steps := 2, params := evBytes 4 3 ++ [1, 0] }, 0x01000007, 1, [1, 2, 3], 7, by decide +kernel⟩,
   ⟨atRun.setTicket 7 { state := .running, type := 3, client := 1, steps := 2 }, 0x01000007, 7, by decide +kernel⟩⟩

/-- States and operands that meet the hypotheses of MainsAngle, clause by clause. -/
theorem witness_MainsAngle :
    (∃ (s : State) (edge : Nat) (low : Nat) (high : Nat) (back : Nat), s.trdSees = true ∧ s.angleFollows = false ∧ s.ms0Back edge low high = some back ∧ s.trdSt = 1 ∧ s.trd.stepPending = false ∧ s.inWindow (s.cycle - back) (s.phaseErr (s.angBack back)) (s.angBack back) = true) ∧
    (∃ (s : State) (edge : Nat) (low : Nat) (high : Nat) (back : Nat), s.trdSees = true ∧ s.angleFollows = false ∧ s.ms0Back edge low high = some back ∧ (s.trdSt = 1 ∨ s.trdSt = 3) ∧ s.trd.stepPending = true ∧ s.inWindow (s.cycle - back) (s.phaseErr (s.angBack back)) (s.angBack back) = true) ∧
    (∃ (s : State) (edge : Nat) (low : Nat) (high : Nat) (back : Nat), s.trdSees = true ∧ s.angleFollows = false ∧ s.ms0Back edge low high = some back ∧ s.trdSt = 3 ∧ s.trd.stepPending = false ∧ s.inWindow (s.cycle - back) (s.phaseErr (s.angBack back)) (s.angBack back) = true) ∧
    (∃ (s : State) (edge : Nat) (low : Nat) (high : Nat) (back : Nat), s.trdSees = true ∧ s.angleFollows = false ∧ s.ms0Back edge low high = some back ∧ (s.trdSt = 1 ∨ s.trdSt = 3) ∧ s.inWindow (s.cycle - back) (s.phaseErr (s.angBack back)) (s.angBack back) = false) ∧
    (∃ (s : State) (edge : Nat) (low : Nat) (high : Nat) (back : Nat), s.trdSees = true ∧ s.angleFollows = false ∧ s.ms0Back edge low high = some back ∧ (s.trdSt = 0 ∨ s.trdSt = 2) ∧ s.trd.run = []) ∧
    (∃ (s : State), s.running = true ∧ s.windowOver = true ∧ (s.trdSt = 1 ∨ s.trdSt = 3) ∧ s.trd.consec < 2) ∧
    (∃ (s : State), s.running = true ∧ s.windowOver = true ∧ (s.trdSt = 1 ∨ s.trdSt = 3) ∧ 2 ≤ s.trd.consec) ∧
    (∃ (s : State), s.trdSt = 0 ∧ s.running = true ∧ s.acquireOver = true) ∧
    (∃ (s : State) (at2 : Nat), s.trdSees = true ∧ (s.ms 3).found = some at2 ∧ bitOf (s.rd Reg.TREADLE_STAT_PRESENT) 3 = true) ∧
    (∃ (s : State) (k : Fin 2) (at2 : Nat) (r : Nat), s.trdSees = true ∧ (s.ms (k.val + 1)).found = some at2 ∧ s.trd.refAng = some r) ∧
    (∃ (s : State), s.trdSees = true) ∧
    (∃ (s : State), s.rd Reg.TREADLE_CTRL_STEP_EN ≠ 0 ∧ (s.trdSt = 1 ∨ s.trdSt = 3)) ∧
    (∃ (s : State), (s.rd Reg.TREADLE_CTRL_STEP_EN = 0 ∨ s.trdSt = 0 ∨ s.trdSt = 2)) :=
  ⟨⟨{ ((atRun.trdTo 1).wr Reg.TREADLE_CTRL_SRC 1) with trd := { acc := 100 * 2 ^ 32, base := 4691250 }, cycle := 5000 }, 0, 30, 40, 0, by decide +kernel⟩,
   ⟨{ ((atRun.trdTo 1).wr Reg.TREADLE_CTRL_SRC 1) with trd := { acc := 100 * 2 ^ 32, base := 4691250, stepPending := true }, cycle := 5000 }, 0, 30, 40, 0, by decide +kernel⟩,
   ⟨{ ((atRun.trdTo 3).wr Reg.TREADLE_CTRL_SRC 1) with trd := { acc := 100 * 2 ^ 32, base := 4691250, track := 60000000 }, cycle := 60000000 }, 0, 30, 40, 0, by decide +kernel⟩,
   ⟨{ ((atRun.trdTo 1).wr Reg.TREADLE_CTRL_SRC 1) with trd := { acc := 30000 * 2 ^ 32 }, cycle := 5000 }, 0, 30, 40, 0, by decide +kernel⟩,
   ⟨{ (atRun.wr Reg.TREADLE_CTRL_SRC 1) with cycle := 5000 }, 4, 30, 40, 30, by decide +kernel⟩,
   ⟨{ atRun.trdTo 3 with cycle := 100000000000 }, by decide +kernel⟩,
   ⟨{ (atRun.trdTo 1) with trd := { acc := (3 * 65536 + 30000) * 2 ^ 32, winIndex := some 0, consec := 2, incAccept := 4700000 } }, by decide +kernel⟩,
   ⟨{ atRun with cycle := 100000000000 }, by decide +kernel⟩,
   ⟨{ (atRun.wr Reg.TREADLE_STAT_PRESENT 15) with trd := { acc := 30000 * 2 ^ 32, ms := [(3, { found := some 4000 })] }, cycle := 4500 }, 4000, by decide +kernel⟩,
   ⟨{ atRun with trd := { acc := 30000 * 2 ^ 32, refAng := some 7, ms := [(2, { found := some 4000 })] }, cycle := 4500 }, 1, 4000, 7, by decide +kernel⟩,
   ⟨{ atRun.wr Reg.TREADLE_STAT_SEQ 1 with trd := { ms := [(1, { samples := [(1000, 9000), (900, 2000)] })] }, cycle := 2000 }, by decide +kernel⟩,
   ⟨(atRun.trdTo 1).wr Reg.TREADLE_CTRL_STEP_EN 1, by decide +kernel⟩,
   ⟨atRun, by decide +kernel⟩⟩

/-- States and operands that meet the hypotheses of AngleEvents, clause by clause. -/
theorem witness_AngleEvents :
    (∃ (s : State) (n : Fin 32), s.trdSt ≠ 0 ∧ signed 32 (s.ang + 2 ^ 33 - s.rd (Reg.TREADLE_AEV_TARGET_TARGET.at n)) < 0) ∧
    (∃ (s : State) (n : Fin 32), s.trdSt ≠ 0 ∧ s.aevMode n = 0 ∧ 0 ≤ signed 32 (s.ang + 2 ^ 33 - s.rd (Reg.TREADLE_AEV_TARGET_TARGET.at n))) ∧
    (∃ (s : State) (n : Fin 32), s.aevMode n = 0) ∧
    (∃ (v : Word), 16 ≤ v.toNat) ∧
    (∃ (s : State) (v : Word), s.trdSt = 0 ∧ fieldOf v.toNat 4 4 < 8) ∧
    (∃ (s : State) (n : Fin 32), s.running = true ∧ n.val ∈ s.aevDueList) ∧
    (∃ (s : State) (n : Fin 32), s.running = true ∧ s.aevDueList = [n.val] ∧ s.aevMode n = 1 ∧ s.rd (Reg.TREADLE_AEV_CFG_TCODE.at n) = 0 ∧ s.rd (Reg.TREADLE_AEV_CFG_IRQ.at n) = 0) ∧
    (∃ (s : State) (n : Fin 32), s.running = true ∧ s.aevDueList = [n.val] ∧ s.aevMode n = 2 ∧ s.rd (Reg.TREADLE_AEV_CFG_TCODE.at n) = 0 ∧ s.aevDiff n ≤ s.aevPeriod n) ∧
    (∃ (s : State) (r : XtsRec) (rest : List XtsRec), s.trd.xts = r :: rest) ∧
    (∃ (s : State), s.trd.xts = []) :=
  ⟨⟨(atRun.trdTo 1).wr (Reg.TREADLE_AEV_TARGET_TARGET.at 9) 70000, 9, by decide +kernel⟩,
   ⟨(atRun.trdTo 1).wr (Reg.TREADLE_AEV_TARGET_TARGET.at 9) 4294967000, 9, by decide +kernel⟩,
   ⟨atRun, 31, by decide +kernel⟩,
   ⟨16, by decide +kernel⟩,
   ⟨atRun, 0x12372, by decide +kernel⟩,
   ⟨((atRun.trdTo 1).wr (Reg.TREADLE_AEV_CFG_MODE.at 4) 1).wr (Reg.TREADLE_AEV_CFG_IRQ.at 4) 1, 4, by decide +kernel⟩,
   ⟨(atRun.trdTo 1).wr (Reg.TREADLE_AEV_CFG_MODE.at 4) 1, 4, by decide +kernel⟩,
   ⟨(atRun.trdTo 1).wr (Reg.TREADLE_AEV_CFG_MODE.at 4) 2, 4, by decide +kernel⟩,
   ⟨{ atRun with trd := { xts := [aXts] } }, aXts, [], by decide +kernel⟩,
   ⟨atRun, by decide +kernel⟩⟩

/-- States and operands that meet the hypotheses of TimeDomains, clause by clause. -/
theorem witness_TimeDomains :
    (∃ (s : State) (x : Fin 2) (v : Fin 4) (w : Writer), s.domWriter x w = true ∧ s.limping = false ∧ domAllows (s.domState x) v = true) ∧
    (∃ (s : State) (x : Fin 2) (w : Writer), s.domWriter x w = true ∧ s.limping = false ∧ (s.domState x = 1 ∨ s.domState x = 2)) ∧
    (∃ (s : State) (x : Fin 2) (w : Writer), s.domWriter x w = true ∧ s.limping = false ∧ (s.domState x = 0 ∨ s.domState x = 3)) ∧
    (∃ (s : State) (x : Fin 2) (w : Writer), s.domWriter x w = true ∧ s.limping = false) ∧
    (∃ (s : State) (x : Fin 2) (w : Writer), s.domWriter x w = true ∧ s.limping = false) ∧
    (∃ (s : State) (x : Fin 2) (w : Writer), s.domWriter x w = true ∧ s.limping = false) ∧
    (∃ (s : State) (x : Fin 2), s.domState x = 2 ∧ s.limping = false ∧ s.time.beat.get 0 x + s.rd Reg.TIME_CTRL_SERVO_TO * 30000000 ≤ s.cycle) ∧
    (∃ (s : State), s.dtFollows = true ∧ s.limping = false ∧ s.rd Reg.TIME_STAT_ALIGNED = 0 ∧ -(s.slewUnit : Int) < s.alignError ∧ s.alignError < s.slewUnit) ∧
    (∃ (s : State), s.dtFollows = true ∧ s.limping = false) ∧
    (∃ (s : State), (s.dtFollows = false ∨ s.limping = true)) :=
  ⟨⟨atRun, 1, 1, .weaver, by decide +kernel⟩,
   ⟨atRun.domTo 1 1, 1, .weaver, by decide +kernel⟩,
   ⟨atRun, 1, .gateway, by decide +kernel⟩,
   ⟨{ atRun with cycle := 77 }, 0, .weaver, by decide +kernel⟩,
   ⟨atRun, 1, .weaver, by decide +kernel⟩,
   ⟨atRun.wr (Reg.TIME_TDX_SETSECLO_V.at 1) 9, 1, .weaver, by decide +kernel⟩,
   ⟨{ (atRun.domTo 1 1).domTo 1 2 with cycle := 30000000000 }, 1, by decide +kernel⟩,
   ⟨atRun.wr Reg.TIME_STAT_SOURCE 1, by decide +kernel⟩,
   ⟨{ (atRun.wr Reg.TIME_STAT_SOURCE 2) with time := { tdb := 12345678901234567890 } }, by decide +kernel⟩,
   ⟨atRun, by decide +kernel⟩⟩

/-- States and operands that meet the hypotheses of PulsesAndCaptures, clause by clause. -/
theorem witness_PulsesAndCaptures :
    (∃ (s : State) (n : Fin 8) (i : Nat), s.limping = false ∧ s.tpoDue n = some i ∧ (s.tpo n).asserted = false ∧ s.rd (Reg.TIME_TPO_CFG_MODE.at n) ≠ 0) ∧
    (∃ (s : State) (n : Fin 8), (s.tpo n).asserted = true ∧ (s.tpo n).edge + 3 * (s.tpo n).width ≤ s.cycle) ∧
    (∃ (s : State) (n : Fin 8) (rising : Bool), (s.rd (Reg.TIME_TPI_CFG_EDGE.at n) = 3 ∨ s.rd (Reg.TIME_TPI_CFG_EDGE.at n) = (if rising then 1 else 2)) ∧ (s.time.tpiEdge.get 0 n = 0 ∨ s.time.tpiEdge.get 0 n + 60 ≤ s.cycle - s.rd (Reg.TIME_TPI_CFG_FILT.at n) * 30 + 1) ∧ (s.tpiFifo n).length < 4) ∧
    (∃ (s : State) (n : Fin 8) (r : TpiRec) (rest : List TpiRec), s.tpiFifo n = r :: rest) ∧
    (∃ (s : State) (n : Fin 8) (r : TpiRec) (rest : List TpiRec), s.tpiFifo n = r :: rest) :=
  ⟨⟨(atRun.wr (Reg.TIME_TPO_CFG_MODE.at 3) 1).tpoArm 3, 3, 0, by decide +kernel⟩,
   ⟨{ atRun.setTpo 3 { asserted := true, width := 20 } with cycle := 60 }, 3, by decide +kernel⟩,
   ⟨atRun.wr (Reg.TIME_TPI_CFG_EDGE.at 2) 2, 2, false, by decide +kernel⟩,
   ⟨atRun.setTpi 2 [aTpi], 2, aTpi, [], by decide +kernel⟩,
   ⟨atRun.setTpi 2 [aTpi], 2, aTpi, [], by decide +kernel⟩⟩

/-- States and operands that meet the hypotheses of FanStates, clause by clause. -/
theorem witness_FanStates :
    (∃ (s : State), s.limping = false ∧ s.fanSt = 0 ∧ s.fanWanted = true) ∧
    (∃ (s : State), s.limping = false ∧ (s.fanSt = 1 ∨ s.fanSt = 2) ∧ s.fanWanted = false) ∧
    (∃ (s : State), s.fanSt = 1) ∧
    (∃ (s : State), s.fanSt = 5) ∧
    (∃ (s : State) (c : Instr), ((c = .fanStartTimeout ∧ s.fanSt = 1 ∧ s.passed .fan (2000 * msCycles) = true) ∨ (c = .fanStall ∧ s.fanSt = 2) ∨ (c = .fanOpenPhase ∧ (s.fanSt = 1 ∨ s.fanSt = 2)))) ∧
    (∃ (s : State) (c : Instr), s.fanSt = 5 ∧ ((c = .fanStartTimeout ∧ s.fan.locked = false ∧ s.passed .fan (2000 * msCycles) = true) ∨ (c = .fanStall ∧ s.fan.locked = true) ∨ c = .fanOpenPhase) ∧ s.rd Reg.FAN_STAT_ATTEMPTS < 2) ∧
    (∃ (s : State), s.fanSt = 3 ∧ s.passed .fan (2000 * msCycles) = true ∧ s.rd Reg.FAN_STAT_ATTEMPTS < 3) ∧
    (∃ (s : State), s.fanSt = 3 ∧ s.passed .fan (2000 * msCycles) = true ∧ 3 ≤ s.rd Reg.FAN_STAT_ATTEMPTS) ∧
    (∃ (s : State), s.fanSt = 2 ∧ s.passed .fan (60000 * msCycles) = true) ∧
    (∃ (s : State), s.dlDown = false ∧ s.fanSt = 4) ∧
    (∃ (s : State), s.dlDown = false ∧ s.fanSt ≠ 4) :=
  ⟨⟨(atRun.wr Reg.FAN_CFG_EN 1).odPutU 0x5009 2 900, by decide +kernel⟩,
   ⟨atRun.fanTo 2, by decide +kernel⟩,
   ⟨atRun.fanTo 1, by decide +kernel⟩,
   ⟨atRun.fanTo 5, by decide +kernel⟩,
   ⟨atRun.fanTo 2, .fanStall, by decide +kernel⟩,
   ⟨atRun.fanTo 5, .fanOpenPhase, by decide +kernel⟩,
   ⟨{ atRun.fanTo 3 with cycle := 600000000000 }, by decide +kernel⟩,
   ⟨{ (atRun.fanTo 3).wr Reg.FAN_STAT_ATTEMPTS 3 with cycle := 600000000000 }, by decide +kernel⟩,
   ⟨{ (atRun.fanTo 2).wr Reg.FAN_STAT_ATTEMPTS 2 with cycle := 600000000000 }, by decide +kernel⟩,
   ⟨atRun.fanTo 4, by decide +kernel⟩,
   ⟨(atRun.fanTo 2).wr Reg.FAN_STAT_ATTEMPTS 2, by decide +kernel⟩⟩

/-- States and operands that meet the hypotheses of FanProtection, clause by clause. -/
theorem witness_FanProtection :
    (∃ (s : State), s.dlDown = false ∧ (s.fanSt ≠ 5 ∨ s.limping = true)) ∧
    (∃ (s : State), s.dlDown = false ∧ s.limping = false ∧ s.fanSt = 5) ∧
    (∃ (s : State), ((s.limping = false ∧ s.rd Reg.FAN_CFG_EN = 1 ∧ s.passed .fanDuty (100 * msCycles) = true) ∨ (s.limping = true ∧ s.rd Reg.FAN_FALLBACK_FALLBACK_DUTY ≠ 0)) ∧ s.fanSt ≤ 2) ∧
    (∃ (s : State), s.rd Reg.PCP_CTRL_RUNNING = 1 ∧ s.rd Reg.SYS_DLSTAT_DOWN = 0 ∧ s.rd Reg.FAN_CFG_DRIVE_MODE = 0 ∧ s.fanSt ≠ 5) ∧
    (∃ (s : State), (s.fanSt = 1 ∨ s.fanSt = 2 ∨ s.fanSt = 5) ∧ (s.fan.shorts.filter (fun c => decide (s.cycle < c + 30000000000))).length < 7) ∧
    (∃ (s : State), (s.fanSt = 1 ∨ s.fanSt = 2 ∨ s.fanSt = 5) ∧ 7 ≤ (s.fan.shorts.filter (fun c => decide (s.cycle < c + 30000000000))).length) ∧
    (∃ (s : State), s.fan.shortWait = true ∧ s.fan.shorts.headD 0 + 100 * msCycles ≤ s.cycle) ∧
    (∃ (s : State), s.rd Reg.FAN_CFG_SENSOR_MODE = 1 ∧ s.fanSt = 2) ∧
    (∃ (s : State), s.rd Reg.FAN_CFG_SENSOR_MODE = 2) ∧
    (∃ (s : State), s.fanSt = 2 ∧ s.fanCfg 0x0A 300 * 11 < s.fanDemand * 10 ∧ s.rd Reg.FAN_STAT_UNDERSPEED = 0 ∧ s.rd Reg.FAN_SPEED_RPM < s.fanCfg 0x0A 300 ∧ s.passed .fan (s.fanCfg 0x0B 3000 * msCycles) = true ∧ s.passed .fanFast (s.fanCfg 0x0B 3000 * msCycles) = true) ∧
    (∃ (s : State), s.passed .fanSlow (1000 * msCycles) = true) ∧
    (∃ (s : State) (i : Nat), s.baselineTicket = some i ∧ s.fan.valid.length < 7 ∧ s.mem.defer.get 0 321 < 64 ∧ s.fanDemand * 100 ≤ 110 * s.pointRpm (s.ticket i).step) ∧
    (∃ (s : State) (rpm : Fin 65536) (e : Fin 65536), s.rd Reg.PCP_CTRL_RUNNING = 1 ∧ s.baseEmpty = false ∧ s.fanSt = 2 ∧ (s.basePoint 0).1 ≤ rpm ∧ s.odN 0x5012 2 0 = ageState (s.odN 0x5012 2 0) (s.ageIndex rpm e) (s.odN 0x5012 3 1150) (s.odN 0x5012 4 1300)) ∧
    (∃ (s : State) (rpm : Fin 65536), s.rd Reg.PCP_CTRL_RUNNING = 1 ∧ s.baseEmpty = false ∧ s.fanSt = 2 ∧ (s.basePoint 0).1 ≤ rpm) :=
  ⟨⟨atRun, by decide +kernel⟩,
   ⟨atRun.fanTo 5, by decide +kernel⟩,
   ⟨{ (atRun.fanTo 2).wr Reg.FAN_CFG_EN 1 with cycle := 600000000000 }, by decide +kernel⟩,
   ⟨(atRun.wr Reg.PCP_CTRL_RUNNING 1), by decide +kernel⟩,
   ⟨atRun.fanTo 2, by decide +kernel⟩,
   ⟨{ (atRun.fanTo 2) with fan := { shorts := [1, 2, 3, 4, 5, 6, 7] } }, by decide +kernel⟩,
   ⟨{ (atRun.fanTo 2) with fan := { shortWait := true }, cycle := 600000000000 }, by decide +kernel⟩,
   ⟨(atRun.wr Reg.FAN_CFG_SENSOR_MODE 1).fanTo 2, by decide +kernel⟩,
   ⟨atRun.wr Reg.FAN_CFG_SENSOR_MODE 2, by decide +kernel⟩,
   ⟨{ (atRun.fanTo 2).odPutU 0x5009 2 900 with cycle := 600000000000 }, by decide +kernel⟩,
   ⟨{ atRun.wr Reg.FAN_STAT_UNDERSPEED 1 with cycle := 600000000000 }, by decide +kernel⟩,
   ⟨atRun.setTicket 3 { state := .running, type := 0x0C, client := 1, steps := 8 }, 3, by decide +kernel⟩,
   ⟨(((atRun.wr Reg.PCP_CTRL_RUNNING 1).fanTo 2).odPutU 0x5011 1 (600 * 65536 + 100)).odPutU 0x5012 2 3, 600, 100, by decide +kernel⟩,
   ⟨(((atRun.wr Reg.PCP_CTRL_RUNNING 1).fanTo 2).odPutU 0x5011 1 (600 * 65536 + 100)).odPutU 0x5012 2 1, 600, by decide +kernel⟩⟩

/-- States and operands that meet the hypotheses of ThermalGuard, clause by clause. -/
theorem witness_ThermalGuard :
    (∃ (s : State) (n : Fin 8) (f : Nat), s.rd Reg.PCP_CTRL_RUNNING = 1 ∧ s.dlDown = false ∧ f = (if n.val < 4 then s.ntcFault n else 0)) ∧
    (∃ (s : State), s.pow.mainFeed = true ∧ s.rd Reg.THERMAL_GUARD_ASSERTED = 0) ∧
    (∃ (s : State), s.pow.mainFeed = true ∧ s.rd Reg.THERMAL_GUARD_ASSERTED = 1) ∧
    (∃ (s : State), s.pow.mainFeed = true ∧ s.rd Reg.THERMAL_GUARD_ASSERTED = 1 ∧ s.rd Reg.THERMAL_GUARD_COOLING = 0 ∧ s.fan.ackHeld = false) ∧
    (∃ (s : State), s.dlDown = false ∧ s.rd Reg.THERMAL_GUARD_ASSERTED = 1 ∧ s.rd Reg.THERMAL_GUARD_COOLING = 0) ∧
    (∃ (s : State) (c : Instr), ((c = .guardAck ∧ s.dlDown = false) ∨ (c = .guardReleaseTimer ∧ s.pow.mainFeed = true ∧ s.passed .cooling (60000 * msCycles) = true)) ∧ s.rd Reg.THERMAL_GUARD_ASSERTED = 1 ∧ s.rd Reg.THERMAL_GUARD_COOLING = 1) :=
  ⟨⟨{ (atRun.wr Reg.PCP_CTRL_RUNNING 1) with pwm := { samples := [(24, [some 16300])] } }, 2, 1, by decide +kernel⟩,
   ⟨atRun, by decide +kernel⟩,
   ⟨(atRun.wr Reg.THERMAL_GUARD_ASSERTED 1).wr Reg.THERMAL_GUARD_COOLING 1, by decide +kernel⟩,
   ⟨atRun.wr Reg.THERMAL_GUARD_ASSERTED 1, by decide +kernel⟩,
   ⟨atRun.wr Reg.THERMAL_GUARD_ASSERTED 1, by decide +kernel⟩,
   ⟨{ (atRun.wr Reg.THERMAL_GUARD_ASSERTED 1).wr Reg.THERMAL_GUARD_COOLING 1 with cycle := 600000000000 }, .guardReleaseTimer, by decide +kernel⟩⟩

/-- States and operands that meet the hypotheses of BackupRail, clause by clause. -/
theorem witness_BackupRail :
    (∃ (s : State), s.bk.source = .main) ∧
    (∃ (s : State), s.bk.source = .battery) ∧
    (∃ (s : State), s.pstate = 1) ∧
    (∃ (s : State), s.bk.source = .main) ∧
    (∃ (s : State), s.bk.stopped = true) ∧
    (∃ (s : State), s.dlDown = false) :=
  ⟨⟨atRun, by decide +kernel⟩,
   ⟨{ atRun with bk := { source := .battery } }, by decide +kernel⟩,
   ⟨State.reset.wr Reg.SYS_PSTATE_STATE 1, by decide +kernel⟩,
   ⟨atRun, by decide +kernel⟩,
   ⟨{ atRun with bk := { stopped := true, cnt := 99 } }, by decide +kernel⟩,
   ⟨{ atRun with bk := { cnt := 0x123456789A } }, by decide +kernel⟩⟩

/-- States and operands that meet the hypotheses of RealTimeClock, clause by clause. -/
theorem witness_RealTimeClock :
    (∃ (s : State), s.dlDown = false) ∧
    (∃ (s : State), s.bk.setPending = true ∧ s.bk.stopped = false ∧ s.bk.source ≠ .unpowered ∧ s.rd Reg.RTC_ALARMHI_ARMED = 0 ∧ s.setVal < 2 ^ 48) ∧
    (∃ (s : State), s.bk.setPending = false ∧ s.bk.stopped = false ∧ s.bk.source ≠ .unpowered ∧ 2 ^ 48 ≤ s.bk.cnt + s.rtcDelta) ∧
    (∃ (s : State), s.bk.setPending = false ∧ s.bk.stopped = false ∧ s.bk.source ≠ .unpowered ∧ s.rtcDelta ≠ 1) ∧
    (∃ (s : State), s.rd Reg.RTC_ALARMHI_ARMED = 1 ∧ s.bk.setPending = false ∧ s.bk.stopped = false ∧ s.bk.source ≠ .unpowered ∧ s.alarmVal ≤ s.rtcNext ∧ s.pstate = 4) ∧
    (∃ (s : State) (p : Nat), s.bk.setPending = false ∧ s.bk.stopped = false ∧ s.bk.source ≠ .unpowered ∧ s.rd Reg.RTC_ALARMHI_ARMED = 0 ∧ s.bk.target = some p ∧ reached48 s.rtcNext p = true) ∧
    (∃ (s : State), s.dlDown = false) ∧
    (∃ (s : State), s.dlDown = false) ∧
    (∃ (s : State) (v : Word), s.dlDown = false ∧ 32 ≤ v.toNat) ∧
    (∃ (s : State) (v : Word), s.dlDown = false ∧ 1 ≤ v.toNat ∧ v.toNat < 32) ∧
    (∃ (s : State) (v : BitVec 31), s.dlDown = false ∧ -64800 ≤ v.toInt ∧ v.toInt ≤ 64800) ∧
    (∃ (s : State) (on : Bool), s.dlDown = false ∧ s.rd Reg.RTC_LOCAL_DST = b2n (!on) ∧ -64800 ≤ signed 31 (s.rd Reg.RTC_LOCAL_OFFSET) + (if on then 3600 else -3600) ∧ signed 31 (s.rd Reg.RTC_LOCAL_OFFSET) + (if on then 3600 else -3600) ≤ 64800) ∧
    (∃ (s : State), s.dlDown = false) ∧
    (∃ (s : State) (v : Word), s.dlDown = false ∧ v.toNat = 0) ∧
    (∃ (s : State) (v : BitVec 31), s.dlDown = false ∧ (v.toInt < -64800 ∨ 64800 < v.toInt)) ∧
    (∃ (s : State) (on : Bool), s.dlDown = false ∧ s.rd Reg.RTC_LOCAL_DST = b2n on) ∧
    (∃ (s : State), s.weaverRuns = true ∧ s.pow.weaverHalted = false ∧ s.dlDown = false ∧ s.syncReady = true ∧ s.odN 0x8003 3 1 = 1 ∧ s.odN 0x8003 4 33 < ((s.bk.cnt : Int) - s.dtTicks).natAbs) ∧
    (∃ (s : State), s.weaverRuns = true ∧ s.pow.weaverHalted = false ∧ (s.syncReady = false ∨ s.odN 0x8003 3 1 ≠ 1 ∨ ((s.bk.cnt : Int) - s.dtTicks).natAbs ≤ s.odN 0x8003 4 33)) ∧
    (∃ (s : State) (c : Nat) (d : Nat), s.weaverRuns = true ∧ s.pow.weaverHalted = false ∧ s.dlDown = false ∧ s.trims = true ∧ s.bk.measure = some (c, d) ∧ 134217728 ≤ s.dtTicks - d) ∧
    (∃ (s : State), s.weaverRuns = true ∧ s.pow.weaverHalted = false ∧ s.trims = true ∧ s.bk.measure = none) :=
  ⟨⟨State.reset, by decide +kernel⟩,
   ⟨{ (atRun.wr Reg.RTC_SETLO_V 500) with bk := { setPending := true, cnt := 7 } }, by decide +kernel⟩,
   ⟨{ atRun with bk := { cnt := 2 ^ 48 - 1 } }, by decide +kernel⟩,
   ⟨{ atRun with bk := { cnt := 10, trim := 3, winPos := 2047 } }, by decide +kernel⟩,
   ⟨{ ((atRun.wr Reg.RTC_ALARMHI_ARMED 1).wr Reg.RTC_ALARMLO_V 8) with bk := { cnt := 7 } }, by decide +kernel⟩,
   ⟨{ (atRun.wr Reg.RTC_PERIOD_PERIOD 64) with bk := { cnt := 7, target := some 8 } }, 8, by decide +kernel⟩,
   ⟨State.reset, by decide +kernel⟩,
   ⟨State.reset, by decide +kernel⟩,
   ⟨atRun, 32, by decide +kernel⟩,
   ⟨atRun, 31, by decide +kernel⟩,
   ⟨atRun, 0x7FFFFFFF, by decide +kernel⟩,
   ⟨atRun, true, by decide +kernel⟩,
   ⟨State.reset, by decide +kernel⟩,
   ⟨atRun, 0, by decide +kernel⟩,
   ⟨atRun, 70000, by decide +kernel⟩,
   ⟨atRun, false, by decide +kernel⟩,
   ⟨{ ((atRun.wr Reg.TIME_STAT_SOURCE 1).wr Reg.TIME_STAT_ALIGNED 1) with time := { dt := clockOf 100 0 } }, by decide +kernel⟩,
   ⟨((atRun.wr Reg.TIME_STAT_SOURCE 1).wr Reg.TIME_STAT_ALIGNED 1).odPutU 0x8003 2 1, by decide +kernel⟩,
   ⟨{ ((atRun.wr Reg.TIME_STAT_SOURCE 1).wr Reg.TIME_STAT_ALIGNED 1).odPutU 0x8003 2 1 with bk := { cnt := 134217828, measure := some (0, 0) }, time := { dt := clockOf 4096 0 } }, 0, 0, by decide +kernel⟩,
   ⟨((atRun.wr Reg.TIME_STAT_SOURCE 1).wr Reg.TIME_STAT_ALIGNED 1).odPutU 0x8003 2 1, by decide +kernel⟩⟩

/-- States and operands that meet the hypotheses of GroupStates, clause by clause. -/
theorem witness_GroupStates :
    (∃ (s : State) (g : Fin 4) (c : Instr), (c = .groupStart g ∨ c = .startConditionsMet g) ∧ s.grState g = 0 ∧ s.waitReason g = 0) ∧
    (∃ (s : State) (g : Fin 4) (c : Instr), (c = .groupStart g ∨ c = .startConditionsMet g) ∧ (s.grState g ≠ 0 ∨ s.waitReason g ≠ 0)) ∧
    (∃ (s : State) (g : Fin 4), (s.grState g = 2 ∨ s.grState g = 3)) ∧
    (∃ (s : State) (g : Fin 4), s.grState g ≠ 2 ∧ s.grState g ≠ 3) ∧
    (∃ (s : State) (g : Fin 4), s.grState g ≠ 0) ∧
    (∃ (s : State) (g : Fin 4), (s.grFault g ≠ 9 ∨ s.pcpRuns = true)) ∧
    (∃ (s : State) (g : Fin 4), s.grFault g = 9 ∧ s.pcpRuns = false) ∧
    (∃ (s : State) (g : Fin 4) (isen : List Int), s.grState g = 1 ∧ 192000 ≤ s.grAge g ∧ s.gateFault g = false ∧ (s.activePhases g).any (fun n => !openSense (s.isenDiff n) (isen.getD n 0)) = true) ∧
    (∃ (s : State) (g : Fin 4) (isen : List Int), s.grState g = 1 ∧ 192000 ≤ s.grAge g ∧ s.gateFault g = false ∧ (∀ n : Fin 8, n.val ∈ s.activePhases g → openSense (s.isenDiff n) (isen.getD n 0) = true)) ∧
    (∃ (s : State) (g : Fin 4), s.grState g = 1 ∧ 192000 ≤ s.grAge g ∧ s.gateFault g = true) ∧
    (∃ (s : State) (g : Fin 4), s.grState g = 2 ∧ s.grCfg 0x4010 g 0x0B 20 * 3000000 ≤ s.grAge g) ∧
    (∃ (s : State) (g : Fin 4), s.grState g = 4 ∧ 4294967296 ≤ s.rampShare g ∧ (s.gr g).seqFault = false) ∧
    (∃ (s : State) (g : Fin 4), s.grState g = 4 ∧ 4294967296 ≤ s.rampShare g ∧ (s.gr g).seqFault = true) ∧
    (∃ (s : State) (g : Fin 4), s.grState g = 6 ∧ s.grCfg 0x4010 g 0x1D 1000 * 3000000 ≤ s.grAge g) :=
  ⟨⟨((((asRole 0 atRun).wr Reg.PCP_CTRL_RUNNING 1).odPutU 0x4000 1 1).odPutU 0x4019 1 1).wr (Reg.PWM_G_CFG_PHASES.at 1) 12, 1, .groupStart 1, by decide +kernel⟩,
   ⟨atRun, 1, .groupStart 1, by decide +kernel⟩,
   ⟨atRun.grTo 1 3, 1, by decide +kernel⟩,
   ⟨atRun, 1, by decide +kernel⟩,
   ⟨(((atRun.wr (Reg.PWM_G_CFG_PHASES.at 1) 12).wr (Reg.PWM_G_STAT_ACTIVE.at 1) 12).grTo 1 3), 1, by decide +kernel⟩,
   ⟨(atRun.grTo 1 5).wr (Reg.PWM_G_STAT_FAULT.at 1) 6, 1, by decide +kernel⟩,
   ⟨((atRun.wr Reg.PCP_CTRL_RUNNING 0).grTo 1 5).wr (Reg.PWM_G_STAT_FAULT.at 1) 9, 1, by decide +kernel⟩,
   ⟨{ (((atRun.wr (Reg.PWM_G_CFG_PHASES.at 1) 12).wr (Reg.PWM_G_STAT_ACTIVE.at 1) 12).grTo 1 3).grTo 1 1 with cycle := 200000 }, 1, [3, 4, 5, 16000], by decide +kernel⟩,
   ⟨{ (((atRun.wr (Reg.PWM_G_CFG_PHASES.at 1) 12).wr (Reg.PWM_G_STAT_ACTIVE.at 1) 12).grTo 1 3).grTo 1 1 with cycle := 200000 }, 1, [0, 0, 16000, 16000], by decide +kernel⟩,
   ⟨{ ((((atRun.wr (Reg.PWM_G_CFG_PHASES.at 1) 12).wr (Reg.PWM_G_STAT_ACTIVE.at 1) 12).grTo 1 3).grTo 1 1).wr Reg.PWM_STAT_GDFLT 4 with cycle := 200000 }, 1, by decide +kernel⟩,
   ⟨{ atRun.grTo 1 2 with cycle := 60000000 }, 1, by decide +kernel⟩,
   ⟨{ (((atRun.wr (Reg.PWM_G_CFG_PHASES.at 1) 12).wr (Reg.PWM_G_STAT_ACTIVE.at 1) 12).grTo 1 3).grTo 1 4 with cycle := 30000000 }, 1, by decide +kernel⟩,
   ⟨{ ((((atRun.wr (Reg.PWM_G_CFG_PHASES.at 1) 12).wr (Reg.PWM_G_STAT_ACTIVE.at 1) 12).grTo 1 3).grTo 1 4).setGr 1 { seqFault := true } with cycle := 30000000 }, 1, by decide +kernel⟩,
   ⟨{ ((((atRun.wr (Reg.PWM_G_CFG_PHASES.at 1) 12).wr (Reg.PWM_G_STAT_ACTIVE.at 1) 12).grTo 1 3).grTo 1 6).setGr 1 { retries := 2 } with cycle := 3000000000 }, 1, by decide +kernel⟩⟩

/-- States and operands that meet the hypotheses of ControlLoop, clause by clause. -/
theorem witness_ControlLoop :
    (∃ (s : State) (g : Fin 4), s.grSwitching g = false) ∧
    (∃ (s : State) (g : Fin 4), s.grSwitching g = true ∧ s.pcpRuns = false ∧ (s.gr g).noDuty < 15) ∧
    (∃ (s : State) (g : Fin 4), s.grSwitching g = true ∧ s.pcpRuns = false ∧ 15 ≤ (s.gr g).noDuty) ∧
    (∃ (s : State) (g : Fin 4), s.grSwitching g = true ∧ s.pcpRuns = true ∧ (s.seqResult g (8 + s.grCfg 0x4010 g 0x13 0) = none ∨ s.seqResult g (8 + s.grCfg 0x4010 g 0x14 1) = none ∨ (s.activePhases g).any (fun n => (s.seqResult g n).isNone) = true) ∧ (s.gr g).invalid + 1 < s.grCfg 0x4020 g 9 4) ∧
    (∃ (s : State) (g : Fin 4), s.grSwitching g = true ∧ s.pcpRuns = true ∧ (s.seqResult g (8 + s.grCfg 0x4010 g 0x13 0) = none ∨ s.seqResult g (8 + s.grCfg 0x4010 g 0x14 1) = none ∨ (s.activePhases g).any (fun n => (s.seqResult g n).isNone) = true) ∧ s.grCfg 0x4020 g 9 4 ≤ (s.gr g).invalid + 1) ∧
    (∃ (s : State) (g : Fin 4) (co : Int) (ci : Int), s.grSwitching g = true ∧ s.pcpRuns = true ∧ s.seqResult g (8 + s.grCfg 0x4010 g 0x13 0) = some co ∧ s.seqResult g (8 + s.grCfg 0x4010 g 0x14 1) = some ci ∧ (s.activePhases g).any (fun n => (s.seqResult g n).isNone) = false) :=
  ⟨⟨atRun, 1, by decide +kernel⟩,
   ⟨(((atRun.wr (Reg.PWM_G_CFG_PHASES.at 1) 12).wr (Reg.PWM_G_STAT_ACTIVE.at 1) 12).grTo 1 3).wr Reg.PCP_CTRL_RUNNING 0, 1, by decide +kernel⟩,
   ⟨((((atRun.wr (Reg.PWM_G_CFG_PHASES.at 1) 12).wr (Reg.PWM_G_STAT_ACTIVE.at 1) 12).grTo 1 3).wr Reg.PCP_CTRL_RUNNING 0).setGr 1 { noDuty := 15 }, 1, by decide +kernel⟩,
   ⟨(((((asRole 0 atRun).wr Reg.PCP_CTRL_RUNNING 1).wr (Reg.PWM_G_CFG_PHASES.at 1) 12).wr (Reg.PWM_G_STAT_ACTIVE.at 1) 12).grTo 1 3), 1, by decide +kernel⟩,
   ⟨(((((asRole 0 atRun).wr Reg.PCP_CTRL_RUNNING 1).wr (Reg.PWM_G_CFG_PHASES.at 1) 12).wr (Reg.PWM_G_STAT_ACTIVE.at 1) 12).grTo 1 3).setGr 1 { invalid := 3 }, 1, by decide +kernel⟩,
   ⟨(((((((((((asRole 0 atRun).wr Reg.PCP_CTRL_RUNNING 1).wr (Reg.PWM_G_CFG_PHASES.at 1) 12).wr (Reg.PWM_G_STAT_ACTIVE.at 1) 12).grTo 1 3).wr (Reg.ADC_SEQ_CFG_COUNT.at 1) 3).wr (Reg.ADC_SEQ_CH_CH.at 1) 0x3298).wr (Reg.ADC_SEQ_RES_VALID.at2 1 0) 1).wr (Reg.ADC_SEQ_RES_VALID.at2 1 1) 1).wr (Reg.ADC_SEQ_RES_VALID.at2 1 2) 1).wr (Reg.ADC_SEQ_RES_VALID.at2 1 3) 1).wr (Reg.ADC_SEQ_RES_CODE.at2 1 0) 5000, 1, 5000, 0, by decide +kernel⟩⟩

/-- States and operands that meet the hypotheses of PhasesAndTrips, clause by clause. -/
theorem witness_PhasesAndTrips :
    (∃ (s : State) (g : Fin 4), s.rd (Reg.PWM_G_CFG_SYNC_SRC.at g) = 1 ∧ (s.gr g).syncDue = true) ∧
    (∃ (s : State) (g : Fin 4), s.rd (Reg.PWM_G_CFG_SYNC_SRC.at g) = 2 ∧ 0 ≤ signed 32 (shortOf s.time.dt + 2 ^ 32 - s.rd (Reg.PWM_G_SYNC_V.at g))) ∧
    (∃ (s : State) (g : Fin 4), s.rd (Reg.PWM_G_CFG_ROT_EN.at g) ≠ 0 ∧ s.grSwitching g = true ∧ s.rd (Reg.PWM_G_CFG_ROT_N.at g) + 1 ≤ (s.gr g).periods) ∧
    (∃ (s : State) (g : Fin 4), (s.rd (Reg.PWM_G_CFG_ROT_EN.at g) = 0 ∨ s.grSwitching g = false)) ∧
    (∃ (s : State) (n : Fin 8) (g : Fin 4), s.groupOf n = some g) ∧
    (∃ (s : State) (n : Fin 8), s.groupOf n = none) ∧
    (∃ (s : State) (later : Nat), s.cycle + 60 ≤ later) ∧
    (∃ (s : State) (k : Fin 8) (n : Fin 8) (g : Fin 4), fieldOf (s.rd Reg.PWM_TRIPACT_ACT) (2 * k.val) 2 = 0 ∧ fieldOf (s.rd Reg.PWM_TRIPSEL_SEL) (4 * k.val) 4 % 8 = n ∧ s.groupOf n = some g ∧ s.mainOn n = true ∧ (if (s.ph n).truncated then (s.ph n).cbcRun else (s.ph n).cbcRun + 1) < s.grCfg 0x4020 g 5 8) ∧
    (∃ (s : State) (k : Fin 8) (n : Fin 8) (g : Fin 4), fieldOf (s.rd Reg.PWM_TRIPACT_ACT) (2 * k.val) 2 = 0 ∧ fieldOf (s.rd Reg.PWM_TRIPSEL_SEL) (4 * k.val) 4 % 8 = n ∧ s.groupOf n = some g ∧ s.mainOn n = true ∧ s.grCfg 0x4020 g 5 8 ≤ (if (s.ph n).truncated then (s.ph n).cbcRun else (s.ph n).cbcRun + 1)) ∧
    (∃ (s : State) (k : Fin 8) (n : Fin 8), fieldOf (s.rd Reg.PWM_TRIPACT_ACT) (2 * k.val) 2 = 0 ∧ fieldOf (s.rd Reg.PWM_TRIPSEL_SEL) (4 * k.val) 4 % 8 = n ∧ s.mainOn n = false) ∧
    (∃ (s : State) (k : Fin 8) (n : Fin 8) (g : Fin 4), fieldOf (s.rd Reg.PWM_TRIPACT_ACT) (2 * k.val) 2 = 1 ∧ fieldOf (s.rd Reg.PWM_TRIPSEL_SEL) (4 * k.val) 4 % 8 = n ∧ s.groupOf n = some g ∧ s.grState g ≠ 0 ∧ s.grState g ≠ 5) ∧
    (∃ (s : State) (k : Fin 8), fieldOf (s.rd Reg.PWM_TRIPACT_ACT) (2 * k.val) 2 = 2) ∧
    (∃ (s : State) (n : Fin 8) (g : Fin 4), s.groupOf n = some g ∧ s.grState g ≠ 0 ∧ s.grState g ≠ 5) ∧
    (∃ (s : State) (n : Fin 8), s.groupOf n = none) ∧
    (∃ (s : State) (n : Fin 8) (g : Fin 4), s.groupOf n = some g ∧ s.rd (Reg.PWM_G_STAT_DE_ACTIVE.at g) ≠ 0 ∧ bitOf (s.rd (Reg.PWM_G_STAT_ACTIVE.at g)) n = true) ∧
    (∃ (s : State) (n : Fin 8), s.groupOf n = none) :=
  ⟨⟨(atRun.wr (Reg.PWM_G_CFG_SYNC_SRC.at 2) 1).setGr 2 { syncDue := true, pos := 17, len := 1000 }, 2, by decide +kernel⟩,
   ⟨(atRun.wr (Reg.PWM_G_CFG_SYNC_SRC.at 2) 2).wr (Reg.PWM_G_SYNCPER_V.at 2) 1000, 2, by decide +kernel⟩,
   ⟨((atRun.wr (Reg.PWM_G_CFG_ROT_EN.at 2) 1).grTo 2 3).setGr 2 { order := [1, 2, 3], periods := 70000 }, 2, by decide +kernel⟩,
   ⟨State.reset, 3, by decide +kernel⟩,
   ⟨(((atRun.wr (Reg.PWM_G_CFG_PHASES.at 1) 12).wr (Reg.PWM_G_STAT_ACTIVE.at 1) 12).grTo 1 3), 3, 1, by decide +kernel⟩,
   ⟨State.reset, 7, by decide +kernel⟩,
   ⟨State.reset, 60, by decide +kernel⟩,
   ⟨(((atRun.wr (Reg.PWM_G_CFG_PHASES.at 1) 12).wr (Reg.PWM_G_STAT_ACTIVE.at 1) 12).grTo 1 3).setPh 3 { since := some 100, loaded := 500, cbcRun := 6 }, 3, 3, 1, by decide +kernel⟩,
   ⟨(((atRun.wr (Reg.PWM_G_CFG_PHASES.at 1) 12).wr (Reg.PWM_G_STAT_ACTIVE.at 1) 12).grTo 1 3).setPh 3 { since := some 100, loaded := 500, cbcRun := 7 }, 3, 3, 1, by decide +kernel⟩,
   ⟨State.reset, 3, 3, by decide +kernel⟩,
   ⟨(((atRun.wr (Reg.PWM_G_CFG_PHASES.at 1) 12).wr (Reg.PWM_G_STAT_ACTIVE.at 1) 12).grTo 1 3).wr Reg.PWM_TRIPACT_ACT 0x40, 3, 3, 1, by decide +kernel⟩,
   ⟨((((atRun.wr (Reg.PWM_G_CFG_PHASES.at 1) 12).wr (Reg.PWM_G_STAT_ACTIVE.at 1) 12).grTo 1 3).wr Reg.PWM_TRIPACT_ACT 0x80).grTo 2 3, 3, by decide +kernel⟩,
   ⟨(((atRun.wr (Reg.PWM_G_CFG_PHASES.at 1) 12).wr (Reg.PWM_G_STAT_ACTIVE.at 1) 12).grTo 1 3), 2, 1, by decide +kernel⟩,
   ⟨State.reset, 2, by decide +kernel⟩,
   ⟨(((atRun.wr (Reg.PWM_G_CFG_PHASES.at 1) 12).wr (Reg.PWM_G_STAT_ACTIVE.at 1) 12).grTo 1 3).wr (Reg.PWM_G_STAT_DE_ACTIVE.at 1) 1, 2, 1, by decide +kernel⟩,
   ⟨State.reset, 2, by decide +kernel⟩⟩

/-- States and operands that meet the hypotheses of SequencesAndCalibration, clause by clause. -/
theorem witness_SequencesAndCalibration :
    (∃ (s : State) (k : Fin 8) (c : Instr), ((c = .seqGo k ∧ s.rd (Reg.ADC_SEQ_CFG_TRIG.at k) = 1) ∨ (c = .seqPwmTrigger k ∧ s.rd (Reg.ADC_SEQ_CFG_TRIG.at k) = 2)) ∧ bitOf s.pwm.converting k = false) ∧
    (∃ (s : State) (k : Fin 8) (c : Instr), ((c = .seqGo k ∧ s.rd (Reg.ADC_SEQ_CFG_TRIG.at k) = 1) ∨ (c = .seqPwmTrigger k ∧ s.rd (Reg.ADC_SEQ_CFG_TRIG.at k) = 2)) ∧ bitOf s.pwm.converting k = true) ∧
    (∃ (s : State) (k : Fin 8) (c : Instr), ((c = .seqGo k ∧ s.rd (Reg.ADC_SEQ_CFG_TRIG.at k) ≠ 1) ∨ (c = .seqPwmTrigger k ∧ s.rd (Reg.ADC_SEQ_CFG_TRIG.at k) ≠ 2))) ∧
    (∃ (s : State) (k : Fin 8), s.rd (Reg.ADC_SEQ_CFG_TRIG.at k) = 4 ∧ 0 ≤ signed 32 (shortOf s.time.dt + 2 ^ 32 - s.rd (Reg.ADC_SEQ_TT_V.at k))) ∧
    (∃ (s : State) (k : Fin 8), bitOf s.pwm.converting k = true) ∧
    (∃ (s : State) (k : Fin 8), bitOf s.pwm.converting k = false) ∧
    (∃ (s : State) (c : Fin 4) (busy : Bool), (busy = false ∨ 64 ≤ s.mem.defer.get 0 (192 + c.val))) ∧
    (∃ (s : State) (c : Fin 4), s.mem.defer.get 0 (192 + c.val) < 64) ∧
    (∃ (s : State), (s.thread 34).run = .waiting) ∧
    (∃ (s : State), (s.thread 34).run = .running) :=
  ⟨⟨atRun.wr (Reg.ADC_SEQ_CFG_TRIG.at 5) 1, 5, .seqGo 5, by decide +kernel⟩,
   ⟨{ atRun.wr (Reg.ADC_SEQ_CFG_TRIG.at 5) 1 with pwm := { converting := 32 } }, 5, .seqGo 5, by decide +kernel⟩,
   ⟨State.reset, 5, .seqGo 5, by decide +kernel⟩,
   ⟨(atRun.wr (Reg.ADC_SEQ_CFG_TRIG.at 5) 4).wr (Reg.ADC_SEQ_TP_V.at 5) 100, 5, by decide +kernel⟩,
   ⟨{ ((atRun.wr (Reg.ADC_SEQ_CFG_COUNT.at 5) 1).wr (Reg.ADC_SEQ_CH_CH.at 5) 0x92).wr Reg.ADC_CAL_OFF1 0xFE with pwm := { converting := 32, samples := [(2, [some 700])] } }, 5, by decide +kernel⟩,
   ⟨State.reset, 5, by decide +kernel⟩,
   ⟨atRun, 2, false, by decide +kernel⟩,
   ⟨atRun, 2, by decide +kernel⟩,
   ⟨atRun.setThread 34 { threadReset 34 with run := .waiting }, by decide +kernel⟩,
   ⟨State.reset, by decide +kernel⟩⟩

/-- States and operands that meet the hypotheses of HeddleOperations, clause by clause. -/
theorem witness_HeddleOperations :
    (∃ (s : State) (n : Fin 16), s.hdRuns n 0 = true ∧ s.hdNext n < s.rd (Reg.HEDDLE_REGION_LEN.at n) ∧ s.hdArg n = 0) ∧
    (∃ (s : State) (n : Fin 16), s.hdRuns n 1 = true ∧ s.hdNext n < s.rd (Reg.HEDDLE_REGION_LEN.at n) ∧ fieldOf (s.hdArg n) 5 5 = 0 ∧ bitOf (s.hdArg n) 3 = false ∧ (s.hd n).cn = 32) ∧
    (∃ (s : State) (n : Fin 16), s.hdRuns n 1 = true ∧ s.hdNext n < s.rd (Reg.HEDDLE_REGION_LEN.at n) ∧ fieldOf (s.hdArg n) 5 5 = 0 ∧ bitOf (s.hdArg n) 3 = false ∧ (s.hd n).cn ≠ 32 ∧ (s.rd (Reg.HEDDLE_CTRL_AUTOCATCH.at n) = 0 ∨ (s.hd n).cn + 1 ≠ s.hdCatchLen n)) ∧
    (∃ (s : State) (n : Fin 16), s.hdRuns n 1 = true ∧ s.hdNext n < s.rd (Reg.HEDDLE_REGION_LEN.at n) ∧ fieldOf (s.hdArg n) 5 5 = 0 ∧ bitOf (s.hdArg n) 3 = false ∧ (s.hd n).cn ≠ 32 ∧ s.rd (Reg.HEDDLE_CTRL_AUTOCATCH.at n) ≠ 0 ∧ (s.hd n).cn + 1 = s.hdCatchLen n ∧ (s.hd n).rxq.length < s.hdRxSize n) ∧
    (∃ (s : State) (n : Fin 16), s.hdRuns n 2 = true ∧ s.hdNext n < s.rd (Reg.HEDDLE_REGION_LEN.at n) ∧ fieldOf (s.hdArg n) 4 4 = 0) ∧
    (∃ (s : State) (n : Fin 16), s.hdRuns n 4 = true ∧ s.hdNext n < s.rd (Reg.HEDDLE_REGION_LEN.at n) ∧ fieldOf (s.hdArg n) 8 2 = 0) ∧
    (∃ (s : State) (n : Fin 16), s.hdRuns n 4 = true ∧ s.hdNext n < s.rd (Reg.HEDDLE_REGION_LEN.at n) ∧ s.hdArg n = 256) ∧
    (∃ (s : State) (n : Fin 16), s.hdRuns n 4 = true ∧ s.hdNext n < s.rd (Reg.HEDDLE_REGION_LEN.at n) ∧ s.hdArg n = 512) ∧
    (∃ (s : State) (n : Fin 16) (pins : BitVec 64) (go : Bool), s.hdRuns n 8 = true ∧ go = s.hdTakes n pins.toNat ∧ fieldOf (s.hdArg n) 7 3 ≠ 7 ∧ (if go then fieldOf (s.hdArg n) 0 7 else s.hdNext n) < s.rd (Reg.HEDDLE_REGION_LEN.at n)) ∧
    (∃ (s : State) (n : Fin 16), s.hdRuns n 8 = true ∧ fieldOf (s.hdArg n) 7 3 = 0 ∧ s.rd (Reg.HEDDLE_REGION_LEN.at n) ≤ fieldOf (s.hdArg n) 0 7) ∧
    (∃ (s : State) (n : Fin 16), s.hdRuns n 9 = true ∧ s.hdNext n < s.rd (Reg.HEDDLE_REGION_LEN.at n) ∧ fieldOf (s.hdArg n) 1 7 = 0 ∧ fieldOf (s.hdArg n) 8 2 = 0) ∧
    (∃ (s : State) (n : Fin 16), s.hdRuns n 9 = true ∧ s.hdNext n < s.rd (Reg.HEDDLE_REGION_LEN.at n) ∧ fieldOf (s.hdArg n) 3 5 = 0 ∧ fieldOf (s.hdArg n) 8 2 = 1) ∧
    (∃ (s : State) (n : Fin 16), s.hdRuns n 10 = true ∧ s.hdNext n < s.rd (Reg.HEDDLE_REGION_LEN.at n) ∧ (bitOf (s.hdArg n) 9 = false ∨ s.hdArg n = 512)) ∧
    (∃ (s : State) (n : Fin 16), s.hdRuns n 11 = true ∧ s.hdNext n < s.rd (Reg.HEDDLE_REGION_LEN.at n) ∧ fieldOf (s.hdArg n) 4 4 = 0 ∧ bitOf (s.hdArg n) 9 = false) ∧
    (∃ (s : State) (n : Fin 16) (pins : BitVec 64) (c : Instr), ((c = .heddleNop n false ∧ s.hdRuns n 0 = true ∧ s.hdArg n ≠ 0) ∨ (c = .sample n pins false ∧ s.hdRuns n 1 = true ∧ (fieldOf (s.hdArg n) 5 5 ≠ 0 ∨ bitOf (s.hdArg n) 3 = true)) ∨ (c = .drive n false ∧ s.hdRuns n 2 = true ∧ fieldOf (s.hdArg n) 4 4 ≠ 0) ∨ (c = .await n pins pins false ∧ s.hdRuns n 3 = true ∧ awaitLegal (s.hdArg n) = false) ∨ (c = .count n false ∧ s.hdRuns n 4 = true ∧ 256 < s.hdArg n ∧ s.hdArg n ≠ 512) ∨ (c = .shift n false ∧ s.hdRuns n 5 = true ∧ fieldOf (s.hdArg n) 5 5 ≠ 0) ∨ (c = .emit n false ∧ s.hdRuns n 6 = true ∧ fieldOf (s.hdArg n) 2 8 ≠ 0) ∨ (c = .take n false ∧ s.hdRuns n 7 = true ∧ fieldOf (s.hdArg n) 7 3 ≠ 0) ∨ (c = .branch n pins false ∧ s.hdRuns n 8 = true ∧ fieldOf (s.hdArg n) 7 3 = 7) ∨ (c = .hdMatch n pins false ∧ s.hdRuns n 9 = true ∧ 512 ≤ s.hdArg n) ∨ (c = .timeout n false ∧ s.hdRuns n 10 = true ∧ 512 < s.hdArg n) ∨ (c = .signal n false ∧ s.hdRuns n 11 = true ∧ (fieldOf (s.hdArg n) 4 4 ≠ 0 ∨ bitOf (s.hdArg n) 9 = true)) ∨ (c = .drive n false ∧ s.hdState n = 1 ∧ 12 ≤ fieldOf (s.hdWord n) 20 4))) ∧
    (∃ (s : State) (n : Fin 16) (pins : BitVec 64) (c : Instr), c ∈ [Instr.heddleNop n true, .sample n pins true, .drive n true, .await n pins pins true, .count n true, .shift n true, .emit n true, .take n true, .branch n pins true, .hdMatch n pins true, .timeout n true, .signal n true] ∧ s.hdState n = 1) :=
  ⟨⟨(heddle 3 (hdIns 0 3 0) { t := 2 }), 3, by decide +kernel⟩,
   ⟨(heddle 3 (hdIns 1 0 2) { cn := 32 }), 3, by decide +kernel⟩,
   ⟨(heddle 3 (hdIns 1 0 18) { cn := 4 }), 3, by decide +kernel⟩,
   ⟨((heddle 3 (hdIns 1 0 2) { cn := 7 }).wr (Reg.HEDDLE_CTRL_AUTOCATCH.at 3) 1).wr (Reg.HEDDLE_CTRL_CATCH_LEN.at 3) 8, 3, by decide +kernel⟩,
   ⟨(heddle 3 (hdIns 2 0 781) {}), 3, by decide +kernel⟩,
   ⟨(heddle 3 (hdIns 4 0 85) {}), 3, by decide +kernel⟩,
   ⟨(heddle 3 (hdIns 4 0 256) {}), 3, by decide +kernel⟩,
   ⟨(heddle 3 (hdIns 4 0 512) {}), 3, by decide +kernel⟩,
   ⟨(heddle 3 (hdIns 8 0 (5 * 128 + 7)) {}), 3, 1, false, by decide +kernel⟩,
   ⟨(heddle 3 (hdIns 8 0 11) {}), 3, by decide +kernel⟩,
   ⟨(heddle 3 (hdIns 9 0 1) { cl := 9 }), 3, by decide +kernel⟩,
   ⟨(heddle 3 (hdIns 9 0 258) {}), 3, by decide +kernel⟩,
   ⟨(heddle 3 (hdIns 10 4 200) {}), 3, by decide +kernel⟩,
   ⟨(heddle 3 (hdIns 11 0 261) {}), 3, by decide +kernel⟩,
   ⟨(heddle 3 (hdIns 0 0 5) {}), 3, 0, .heddleNop 3 false, by decide +kernel⟩,
   ⟨(heddle 3 (hdIns 0 0 0) {}), 3, 0, .emit 3 true, by decide +kernel⟩⟩

/-- States and operands that meet the hypotheses of HeddleWaits, clause by clause. -/
theorem witness_HeddleWaits :
    (∃ (s : State) (n : Fin 16) (before : BitVec 64) (now : BitVec 64), s.hdRuns n 3 = true ∧ s.hdNext n < s.rd (Reg.HEDDLE_REGION_LEN.at n) ∧ awaitLegal (s.hdArg n) = true ∧ s.awaitNoQueue n (s.hdArg n) = false ∧ (s.awaitCount n (s.hdArg n) 1).awaitMet n before.toNat now.toNat (s.hdArg n) = true) ∧
    (∃ (s : State) (n : Fin 16) (before : BitVec 64) (now : BitVec 64), s.hdRuns n 3 = true ∧ awaitLegal (s.hdArg n) = true ∧ s.awaitNoQueue n (s.hdArg n) = false ∧ (s.awaitCount n (s.hdArg n) 1).awaitMet n before.toNat now.toNat (s.hdArg n) = false ∧ (s.hd n).t ≠ 1) ∧
    (∃ (s : State) (n : Fin 16) (k : Nat) (before : BitVec 64) (now : BitVec 64), s.hdState n = 2 ∧ (s.hd n).stalled = false ∧ ((s.hd n).t = 0 ∨ k ≤ (s.hd n).t) ∧ (s.awaitCount n (s.hdArg n) k).awaitMet n before.toNat now.toNat (s.hdArg n) = true ∧ s.hdNext n < s.rd (Reg.HEDDLE_REGION_LEN.at n)) ∧
    (∃ (s : State) (n : Fin 16) (k : Nat) (pins : BitVec 64) (c : Instr), s.hdState n = 2 ∧ 0 < (s.hd n).t ∧ ((c = .awaitConditionMet n k pins pins ∧ (s.hd n).stalled = false ∧ (s.hd n).t < k) ∨ (c = .heddleStallRelease n k ∧ (s.hd n).stalled = true ∧ (s.hd n).t < k) ∨ c = .heddleTExpiry n) ∧ s.hdNext n < s.rd (Reg.HEDDLE_REGION_LEN.at n)) ∧
    (∃ (s : State) (n : Fin 16), s.hdState n = 1 ∧ 0 < (s.hd n).t) ∧
    (∃ (s : State) (n : Fin 16), (s.hd n).armed = true ∧ 0 ≤ signed 32 (shortOf s.time.dt + 2 ^ 32 - s.rd (Reg.HEDDLE_TTARGET_V.at n))) ∧
    (∃ (s : State) (n : Fin 16), s.hdRuns n 5 = true ∧ s.hdNext n < s.rd (Reg.HEDDLE_REGION_LEN.at n) ∧ fieldOf (s.hdArg n) 5 5 = 0 ∧ (s.hd n).sn ≠ (s.hd n).slen) ∧
    (∃ (s : State) (n : Fin 16) (w : Nat) (q : List Nat), s.hdRuns n 5 = true ∧ s.hdNext n < s.rd (Reg.HEDDLE_REGION_LEN.at n) ∧ fieldOf (s.hdArg n) 5 5 = 0 ∧ (s.hd n).sn = (s.hd n).slen ∧ s.hdTxSize n ≠ 0 ∧ (s.hd n).txq = w :: q) ∧
    (∃ (s : State) (n : Fin 16), s.hdRuns n 5 = true ∧ fieldOf (s.hdArg n) 5 5 = 0 ∧ (s.hd n).sn = (s.hd n).slen ∧ s.hdTxSize n ≠ 0 ∧ (s.hd n).txq = [] ∧ (s.hd n).t ≠ 1) ∧
    (∃ (s : State) (n : Fin 16), s.hdRuns n 6 = true ∧ s.hdNext n < s.rd (Reg.HEDDLE_REGION_LEN.at n) ∧ fieldOf (s.hdArg n) 2 8 = 0 ∧ (s.hd n).rxq.length < s.hdRxSize n) ∧
    (∃ (s : State) (n : Fin 16), s.hdRuns n 6 = true ∧ s.hdNext n < s.rd (Reg.HEDDLE_REGION_LEN.at n) ∧ fieldOf (s.hdArg n) 2 8 = 0 ∧ s.hdRxSize n ≠ 0 ∧ s.hdRxSize n ≤ (s.hd n).rxq.length ∧ bitOf (s.hdArg n) 1 = true) ∧
    (∃ (s : State) (n : Fin 16), s.hdRuns n 7 = true ∧ s.hdNext n < s.rd (Reg.HEDDLE_REGION_LEN.at n) ∧ fieldOf (s.hdArg n) 6 4 = 0 ∧ fieldOf (s.hdArg n) 0 6 ≤ 32 ∧ s.hdTxSize n ≠ 0 ∧ (s.hd n).txq ≠ []) ∧
    (∃ (s : State) (n : Fin 16), s.hdRuns n 7 = true ∧ s.hdNext n < s.rd (Reg.HEDDLE_REGION_LEN.at n) ∧ fieldOf (s.hdArg n) 6 4 = 1 ∧ fieldOf (s.hdArg n) 0 6 ≤ 32 ∧ s.hdTxSize n ≠ 0) ∧
    (∃ (s : State) (n : Fin 16), s.hdRuns n 7 = true ∧ s.hdNext n < s.rd (Reg.HEDDLE_REGION_LEN.at n) ∧ fieldOf (s.hdArg n) 6 4 = 0 ∧ 32 < fieldOf (s.hdArg n) 0 6 ∧ s.hdTxSize n ≠ 0 ∧ (s.hd n).txq ≠ []) ∧
    (∃ (s : State) (n : Fin 16) (c : Instr), ((c = .emit n false ∧ s.hdRuns n 6 = true ∧ s.hdArg n ≤ 1 ∧ s.hdRxSize n ≠ 0 ∧ s.hdRxSize n ≤ (s.hd n).rxq.length) ∨ (c = .take n false ∧ s.hdRuns n 7 = true ∧ fieldOf (s.hdArg n) 6 4 = 0 ∧ s.hdTxSize n ≠ 0 ∧ (s.hd n).txq = [])) ∧ (s.hd n).t ≠ 1) ∧
    (∃ (s : State) (n : Fin 16) (before : BitVec 64) (now : BitVec 64) (c : Instr), (s.hd n).t = 1 ∧ s.hdNext n < s.rd (Reg.HEDDLE_REGION_LEN.at n) ∧ ((c = .await n before now false ∧ s.hdRuns n 3 = true ∧ awaitLegal (s.hdArg n) = true ∧ s.awaitNoQueue n (s.hdArg n) = false ∧ (s.awaitCount n (s.hdArg n) 1).awaitMet n before.toNat now.toNat (s.hdArg n) = false) ∨ (c = .emit n false ∧ s.hdRuns n 6 = true ∧ s.hdArg n ≤ 1 ∧ s.hdRxSize n ≠ 0 ∧ s.hdRxSize n ≤ (s.hd n).rxq.length) ∨ (c = .take n false ∧ s.hdRuns n 7 = true ∧ fieldOf (s.hdArg n) 6 4 = 0 ∧ s.hdTxSize n ≠ 0 ∧ (s.hd n).txq = []))) ∧
    (∃ (s : State) (n : Fin 16) (pins : BitVec 64) (c : Instr), ((c = .sample n pins false ∧ s.hdRuns n 1 = true ∧ fieldOf (s.hdArg n) 5 5 = 0 ∧ bitOf (s.hdArg n) 3 = false ∧ (s.hd n).cn ≠ 32 ∧ s.rd (Reg.HEDDLE_CTRL_AUTOCATCH.at n) ≠ 0 ∧ (s.hd n).cn + 1 = s.hdCatchLen n ∧ s.hdRxSize n = 0) ∨ (c = .await n pins pins false ∧ s.hdRuns n 3 = true ∧ awaitLegal (s.hdArg n) = true ∧ s.awaitNoQueue n (s.hdArg n) = true) ∨ (c = .shift n false ∧ s.hdRuns n 5 = true ∧ fieldOf (s.hdArg n) 5 5 = 0 ∧ (s.hd n).sn = (s.hd n).slen ∧ s.hdTxSize n = 0) ∨ (c = .emit n false ∧ s.hdRuns n 6 = true ∧ fieldOf (s.hdArg n) 2 8 = 0 ∧ s.hdRxSize n = 0) ∨ (c = .take n false ∧ s.hdRuns n 7 = true ∧ fieldOf (s.hdArg n) 7 3 = 0 ∧ s.hdTxSize n = 0))) ∧
    (∃ (s : State) (n : Fin 16) (k : Nat), s.hdState n = 2 ∧ (s.hd n).stalled = true ∧ fieldOf (s.hdWord n) 20 4 = 6 ∧ fieldOf (s.hdArg n) 2 8 = 0 ∧ ((s.hd n).t = 0 ∨ k ≤ (s.hd n).t) ∧ (s.hd n).rxq.length < s.hdRxSize n ∧ s.hdNext n < s.rd (Reg.HEDDLE_REGION_LEN.at n)) ∧
    (∃ (s : State) (n : Fin 16) (k : Nat) (w : Nat) (q : List Nat), s.hdState n = 2 ∧ (s.hd n).stalled = true ∧ ((fieldOf (s.hdWord n) 20 4 = 5 ∧ (s.hd n).sn = (s.hd n).slen ∧ fieldOf (s.hdArg n) 5 5 = 0) ∨ (fieldOf (s.hdWord n) 20 4 = 7 ∧ fieldOf (s.hdArg n) 6 4 = 0)) ∧ ((s.hd n).t = 0 ∨ k ≤ (s.hd n).t) ∧ s.hdTxSize n ≠ 0 ∧ (s.hd n).txq = w :: q ∧ s.hdNext n < s.rd (Reg.HEDDLE_REGION_LEN.at n)) :=
  ⟨⟨(heddle 3 (hdIns 3 2 (3 * 128)) { angLatch := true, t := 3 }), 3, 0, 0, by decide +kernel⟩,
   ⟨(heddle 3 (hdIns 3 2 (4 * 128)) { t := 3 }), 3, 0, 0, by decide +kernel⟩,
   ⟨(heddle 3 (hdIns 3 2 (4 * 128)) { timeLatch := true, t := 9 }).wr (Reg.HEDDLE_STAT_STATE.at 3) 2, 3, 8, 0, 0, by decide +kernel⟩,
   ⟨(heddle 3 (hdIns 3 2 (4 * 128)) { t := 9 }).wr (Reg.HEDDLE_STAT_STATE.at 3) 2, 3, 10, 0, .awaitConditionMet 3 10 0 0, by decide +kernel⟩,
   ⟨(heddle 3 (hdIns 3 2 0) { t := 9 }), 3, by decide +kernel⟩,
   ⟨(heddle 3 (hdIns 0 0 0) { armed := true }), 3, by decide +kernel⟩,
   ⟨(heddle 3 (hdIns 5 0 18) { sn := 3, sl := 5 }), 3, by decide +kernel⟩,
   ⟨(heddle 3 (hdIns 5 0 1) { txq := [6, 7] }), 3, 6, [7], by decide +kernel⟩,
   ⟨(heddle 3 (hdIns 5 0 1) {}), 3, by decide +kernel⟩,
   ⟨(heddle 3 (hdIns 6 0 1) { cl := 77, cn := 8 }), 3, by decide +kernel⟩,
   ⟨(heddle 3 (hdIns 6 0 2) { rxq := [1, 2, 3, 4] }), 3, by decide +kernel⟩,
   ⟨(heddle 3 (hdIns 7 0 9) { txq := [6, 7] }), 3, by decide +kernel⟩,
   ⟨(heddle 3 (hdIns 7 0 64) { txq := [6, 7] }), 3, by decide +kernel⟩,
   ⟨(heddle 3 (hdIns 7 0 40) { txq := [6, 7] }), 3, by decide +kernel⟩,
   ⟨(heddle 3 (hdIns 7 0 3) {}), 3, .take 3 false, by decide +kernel⟩,
   ⟨(heddle 3 (hdIns 3 2 (4 * 128)) { t := 1 }), 3, 0, 0, .await 3 0 0 false, by decide +kernel⟩,
   ⟨(heddle 3 (hdIns 6 0 0) {}).wr (Reg.HEDDLE_CTRL_SPLIT.at 3) 4, 3, 0, .emit 3 false, by decide +kernel⟩,
   ⟨(heddle 3 (hdIns 6 2 0) { cl := 7, stalled := true }).wr (Reg.HEDDLE_STAT_STATE.at 3) 2, 3, 4, by decide +kernel⟩,
   ⟨(heddle 3 (hdIns 5 2 1) { txq := [8, 9], stalled := true }).wr (Reg.HEDDLE_STAT_STATE.at 3) 2, 3, 4, 8, [9], by decide +kernel⟩⟩

/-- States and operands that meet the hypotheses of HeddleControl, clause by clause. -/
theorem witness_HeddleControl :
    (∃ (s : State) (n : Fin 16) (wtr : Writer), holderAllows (s.heddleHolder n) wtr = true ∧ s.hdState n = 0 ∧ s.limping = false ∧ regionUsable (s.rd (Reg.HEDDLE_REGION_LEN.at n)) (s.rd (Reg.HEDDLE_REGION_START.at n)) (s.rd (Reg.HEDDLE_REGION_WRAP.at n)) (s.rd (Reg.HEDDLE_STAT_PC.at n)) = true) ∧
    (∃ (s : State) (n : Fin 16) (wtr : Writer), holderAllows (s.heddleHolder n) wtr = true ∧ s.hdState n = 0 ∧ s.limping = false ∧ regionUsable (s.rd (Reg.HEDDLE_REGION_LEN.at n)) (s.rd (Reg.HEDDLE_REGION_START.at n)) (s.rd (Reg.HEDDLE_REGION_WRAP.at n)) (s.rd (Reg.HEDDLE_STAT_PC.at n)) = false) ∧
    (∃ (s : State) (n : Fin 16) (wtr : Writer), holderAllows (s.heddleHolder n) wtr = true ∧ (s.hdState n = 1 ∨ s.hdState n = 2)) ∧
    (∃ (s : State) (n : Fin 16) (wtr : Writer), holderAllows (s.heddleHolder n) wtr = true ∧ (s.hdState n = 0 ∨ s.hdState n = 3)) ∧
    (∃ (s : State) (n : Fin 16) (wtr : Writer), holderAllows (s.heddleHolder n) wtr = true) ∧
    (∃ (s : State) (n : Fin 16) (wtr : Writer) (v : Fin 16), holderAllows (s.heddleHolder n) wtr = true ∧ v.val ≤ 4 ∧ s.hdState n = 0) ∧
    (∃ (s : State) (n : Fin 16) (v : Fin 16), (4 < v.val ∨ s.hdState n ≠ 0)) ∧
    (∃ (s : State) (n : Fin 16) (wtr : Writer), holderAllows (s.heddleHolder n) wtr = true) ∧
    (∃ (s : State) (n : Fin 16) (wtr : Writer) (base : Nat) (len : Nat), holderAllows (s.heddleHolder n) wtr = true ∧ (s.hdState n = 0 ∨ s.hdState n = 3) ∧ base < 128 ∧ len ≤ 128 ∧ (s.hdRun n).1 ≤ base ∧ base + len ≤ (s.hdRun n).1 + (s.hdRun n).2) ∧
    (∃ (s : State) (n : Fin 16) (wtr : Writer) (base : Nat) (len : Nat) (start : Nat) (wrap : Nat), (s.hdState n = 1 ∨ s.hdState n = 2) ∧ (len = 0 ∨ len ≤ start % 128 ∨ len ≤ wrap % 128 ∨ len ≤ s.rd (Reg.HEDDLE_STAT_PC.at n)) ∧ wtr = .weaver ∧ base < 128 ∧ len ≤ 128) ∧
    (∃ (s : State) (n : Fin 16) (wtr : Writer) (v : Word), holderAllows (s.heddleHolder n) wtr = true ∧ (∀ j : Fin 4, bitOf v.toNat (8 * j + 6) = false)) ∧
    (∃ (s : State) (n : Fin 16) (wtr : Writer) (v : Word) (j : Fin 4), holderAllows (s.heddleHolder n) wtr = true ∧ bitOf v.toNat (8 * j + 6) = true ∧ 42 ≤ fieldOf v.toNat (8 * j) 6) ∧
    (∃ (s : State) (b : Fin 2) (wtr : Writer), (wtr = .weaver ∨ wtr = .gateway) ∧ (∀ k : Fin 8, s.hdState (8 * b + k) = 0 ∨ s.hdState (8 * b + k) = 3)) ∧
    (∃ (s : State) (b : Fin 2) (w : Fin 128) (wtr : Writer) (k : Fin 8), (wtr = .weaver ∨ wtr = .gateway) ∧ s.hdState (8 * b + k) = 1 ∧ s.rd (Reg.HEDDLE_REGION_BASE.at (8 * b + k)) ≤ w ∧ w < s.rd (Reg.HEDDLE_REGION_BASE.at (8 * b + k)) + s.rd (Reg.HEDDLE_REGION_LEN.at (8 * b + k))) ∧
    (∃ (s : State) (n : Fin 16) (wtr : Writer), holderAllows (s.heddleHolder n) wtr = true ∧ (s.hd n).txq.length < s.hdTxSize n) ∧
    (∃ (s : State) (n : Fin 16) (wtr : Writer), holderAllows (s.heddleHolder n) wtr = true ∧ s.hdTxSize n ≤ (s.hd n).txq.length) ∧
    (∃ (s : State) (n : Fin 16) (wtr : Writer), holderAllows (s.heddleHolder n) wtr = true) ∧
    (∃ (s : State) (k : Fin 2) (j : Fin 4), s.fieldHolder (2 + k) = some j) ∧
    (∃ (wtr : Writer), (wtr = .weaver ∨ wtr = .gateway)) ∧
    (∃ (s : State) (n : Fin 16) (wtr : Writer) (v : Word) (d : BitVec 24) (hi : Bool) (f : Fin 16) (c : Instr), holderAllows (s.heddleHolder n) wtr = false ∧ c ∈ [Instr.heddleEnable n wtr, .heddleDisable n wtr, .restart n wtr, .flush n wtr, .splitWrite n wtr f, .heddleDivWrite n wtr d, .slotmapWrite n wtr hi v, .txqWrite n wtr v, .ttargetWrite n wtr v]) :=
  ⟨⟨atRun.wr (Reg.HEDDLE_REGION_LEN.at 9) 4, 9, .gateway, by decide +kernel⟩,
   ⟨atRun, 9, .gateway, by decide +kernel⟩,
   ⟨heddle 9 0 {}, 9, .image 2, by decide +kernel⟩,
   ⟨(heddle 9 0 { cn := 5 }).wr (Reg.HEDDLE_STAT_STATE.at 9) 3, 9, .weaver, by decide +kernel⟩,
   ⟨State.reset, 9, .weaver, by decide +kernel⟩,
   ⟨State.reset, 9, .weaver, 4, by decide +kernel⟩,
   ⟨State.reset, 9, 5, by decide +kernel⟩,
   ⟨State.reset, 9, .weaver, by decide +kernel⟩,
   ⟨State.reset, 9, .image 1, 100, 28, by decide +kernel⟩,
   ⟨heddle 9 0 {}, 9, .weaver, 100, 0, 2, 3, by decide +kernel⟩,
   ⟨State.reset, 9, .weaver, 0x0102BF04, by decide +kernel⟩,
   ⟨State.reset, 9, .weaver, 0x01026A04, 1, by decide +kernel⟩,
   ⟨State.reset, 1, .gateway, by decide +kernel⟩,
   ⟨heddle 9 0 {}, 1, 9, .gateway, 1, by decide +kernel⟩,
   ⟨State.reset, 9, .weaver, by decide +kernel⟩,
   ⟨heddle 9 0 { txq := [1, 2, 3, 4] }, 9, .weaver, by decide +kernel⟩,
   ⟨State.reset, 9, .weaver, by decide +kernel⟩,
   ⟨atRun.setSlot 2 { image := some (anImage { field := 8 }) }, 1, 2, by decide +kernel⟩,
   ⟨.gateway, by decide +kernel⟩,
   ⟨atRun.setSlot 2 { image := some (anImage {}), heddles := 8 }, 3, .image 1, 0, 0, true, 0, .restart 3 (.image 1), by decide +kernel⟩⟩

/-- States and operands that meet the hypotheses of Uarts, clause by clause. -/
theorem witness_Uarts :
    (∃ (s : State) (n : Fin 2) (wtr : Writer), s.uaAllows n wtr = true ∧ (s.ua n).tx.length < 32) ∧
    (∃ (s : State) (n : Fin 2) (wtr : Writer), s.uaAllows n wtr = true ∧ 32 ≤ (s.ua n).tx.length) ∧
    (∃ (s : State) (n : Fin 2) (ch : Nat) (q : List Nat), (s.ua n).rx = ch :: q) ∧
    (∃ (s : State) (n : Fin 2), (s.ua n).rx = []) ∧
    (∃ (s : State) (n : Fin 2) (wtr : Writer), s.uaAllows n wtr = true) ∧
    (∃ (s : State) (n : Fin 2) (wtr : Writer), s.uaAllows n wtr = true) ∧
    (∃ (s : State) (n : Fin 2) (wtr : Writer) (v : BitVec 24), s.uaAllows n wtr = true ∧ 8000 ≤ v.toNat ∧ (s.ua n).sending = none ∧ (s.ua n).pend = none) ∧
    (∃ (s : State) (n : Fin 2) (wtr : Writer) (v : BitVec 24), s.uaAllows n wtr = true ∧ 8000 ≤ v.toNat) ∧
    (∃ (v : BitVec 24), v.toNat < 8000) ∧
    (∃ (s : State) (n : Fin 2) (wtr : Writer), s.uaAllows n wtr = true ∧ (s.ua n).sending = none ∧ (s.ua n).pendBaud = none ∧ s.netsOff = false) ∧
    (∃ (s : State) (n : Fin 2), s.uaMayStart n = true ∧ (s.ua n).sending = none ∧ (s.ua n).tx ≠ []) ∧
    (∃ (s : State) (n : Fin 2), (s.uaMayStart n = false ∨ (s.ua n).sending ≠ none ∨ (s.ua n).tx = [])) ∧
    (∃ (s : State) (n : Fin 2), (s.ua n).sending ≠ none ∧ (s.ua n).pend = none ∧ (s.ua n).pendBaud = none ∧ s.uaMayStart n = true ∧ (s.ua n).tx ≠ []) ∧
    (∃ (s : State) (n : Fin 2), (s.ua n).sending ≠ none ∧ (s.ua n).pend = none ∧ (s.ua n).pendBaud = none ∧ (s.ua n).tx = []) ∧
    (∃ (s : State) (n : Fin 2), (s.ua n).de = true ∧ (s.ua n).sending = none ∧ (s.ua n).tx = []) ∧
    (∃ (s : State) (n : Fin 2), s.rd (Reg.UART_CTRL_EN.at n) ≠ 0 ∧ ((s.ua n).de = false ∨ s.rd (Reg.UART_CTRL_ECHO.at n) ≠ 0) ∧ (s.ua n).rx.length < 32) ∧
    (∃ (s : State) (n : Fin 2), s.rd (Reg.UART_CTRL_EN.at n) ≠ 0 ∧ ((s.ua n).de = false ∨ s.rd (Reg.UART_CTRL_ECHO.at n) ≠ 0) ∧ 32 ≤ (s.ua n).rx.length) ∧
    (∃ (s : State) (n : Fin 2), (s.rd (Reg.UART_CTRL_EN.at n) = 0 ∨ ((s.ua n).de = true ∧ s.rd (Reg.UART_CTRL_ECHO.at n) = 0))) ∧
    (∃ (s : State) (n : Fin 2), (s.ua n).de = false ∧ s.rd (Reg.UART_STAT_IDLE.at n) = 0) :=
  ⟨⟨State.reset, 1, .gateway, by decide +kernel⟩,
   ⟨atRun.setUa 1 { tx := List.replicate 32 1 }, 1, .gateway, by decide +kernel⟩,
   ⟨atRun.setUa 1 { rx := [300, 4] }, 1, 300, [4], by decide +kernel⟩,
   ⟨State.reset, 1, by decide +kernel⟩,
   ⟨atRun.setUa 1 { tx := [300, 4] }, 1, .gateway, by decide +kernel⟩,
   ⟨atRun.setUa 1 { rx := [300, 4] }, 1, .gateway, by decide +kernel⟩,
   ⟨State.reset, 1, .gateway, 8000, by decide +kernel⟩,
   ⟨State.reset, 1, .gateway, 8000, by decide +kernel⟩,
   ⟨7999, by decide +kernel⟩,
   ⟨asRole 0 atRun, 1, .gateway, by decide +kernel⟩,
   ⟨(atRun.setUa 1 { tx := [300, 4] }).wr (Reg.UART_CTRL_EN.at 1) 1, 1, by decide +kernel⟩,
   ⟨State.reset, 1, by decide +kernel⟩,
   ⟨(atRun.setUa 1 { tx := [300, 4], sending := some 5 }).wr (Reg.UART_CTRL_EN.at 1) 1, 1, by decide +kernel⟩,
   ⟨(atRun.setUa 1 { sending := some 5 }).wr (Reg.UART_CTRL_EN.at 1) 1, 1, by decide +kernel⟩,
   ⟨atRun.setUa 1 { de := true }, 1, by decide +kernel⟩,
   ⟨atRun.wr (Reg.UART_CTRL_EN.at 1) 1, 1, by decide +kernel⟩,
   ⟨(atRun.wr (Reg.UART_CTRL_EN.at 1) 1).setUa 1 { rx := List.replicate 32 1 }, 1, by decide +kernel⟩,
   ⟨State.reset, 1, by decide +kernel⟩,
   ⟨State.reset, 1, by decide +kernel⟩⟩

/-- States and operands that meet the hypotheses of FrameReception, clause by clause. -/
theorem witness_FrameReception :
    (∃ (s : State) (p : Fin 6), s.rd (Reg.MAC_LINK_UP.at p) = 0) ∧
    (∃ (s : State) (p : Fin 6) (b : List Byte), s.rd (Reg.MAC_LINK_UP.at p) ≠ 0 ∧ b.length < s.rd (Reg.MAC_CFG_MIN_FRAME.at p)) ∧
    (∃ (s : State) (p : Fin 6) (b : List Byte) (e : Bool), s.rd (Reg.MAC_LINK_UP.at p) ≠ 0 ∧ s.rd (Reg.MAC_CFG_MIN_FRAME.at p) ≤ b.length ∧ (beAt b 12 2 ≠ 0x8808 ∨ fcsOk b = false ∨ e = true) ∧ s.rd (Reg.MAC_CFG_MAX_FRAME.at p) < b.length) ∧
    (∃ (s : State) (p : Fin 6) (b : List Byte), s.rd (Reg.MAC_LINK_UP.at p) ≠ 0 ∧ s.rd (Reg.MAC_CFG_MIN_FRAME.at p) ≤ b.length ∧ beAt b 12 2 = 0x8808 ∧ fcsOk b = true ∧ beAt b 14 2 = 1) ∧
    (∃ (s : State) (p : Fin 6) (b : List Byte) (e : Bool), s.rd (Reg.MAC_LINK_UP.at p) ≠ 0 ∧ s.rd (Reg.MAC_CFG_MIN_FRAME.at p) ≤ b.length ∧ b.length ≤ s.rd (Reg.MAC_CFG_MAX_FRAME.at p) ∧ (beAt b 12 2 ≠ 0x8808 ∨ fcsOk b = false ∨ e = true) ∧ s.ingressStopped = false ∧ s.rd Reg.LOOM_CTRL_EN ≠ 0 ∧ s.portMayTake p (cellsFor b.length) = true ∧ 1 ≤ b.length ∧ cellsFor b.length ≤ s.freeCells.length) ∧
    (∃ (s : State) (p : Fin 6) (b : List Byte) (e : Bool), s.rd (Reg.MAC_LINK_UP.at p) ≠ 0 ∧ s.rd (Reg.MAC_CFG_MIN_FRAME.at p) ≤ b.length ∧ b.length ≤ s.rd (Reg.MAC_CFG_MAX_FRAME.at p) ∧ (beAt b 12 2 ≠ 0x8808 ∨ fcsOk b = false ∨ e = true) ∧ s.ingressStopped = false ∧ s.rd Reg.LOOM_CTRL_EN ≠ 0 ∧ s.portMayTake p (cellsFor b.length) = false) ∧
    (∃ (s : State) (p : Fin 6), s.rd (Reg.MAC_LINK_UP.at p) ≠ 0) ∧
    (∃ (s : State) (p : Fin 6), s.passed (.pause p) ((s.eg p).quanta * 512 * 3000 / s.rateMbps p) = true) :=
  ⟨⟨State.reset, 3, by decide +kernel⟩,
   ⟨loomRun 3, 3, List.replicate 63 0, by decide +kernel⟩,
   ⟨(loomRun 3).wr (Reg.MAC_CFG_MAX_FRAME.at 3) 69, 3, (List.replicate 70 7), false, by decide +kernel⟩,
   ⟨(loomRun 3).wr (Reg.MAC_CFG_PAUSE_HONOUR.at 3) 1, 3, withFcs ([1, 0x80, 0xC2, 0, 0, 1, 2, 0, 0, 0, 0, 2, 0x88, 8, 0, 1, 0, 9] ++ List.replicate 42 0), by decide +kernel⟩,
   ⟨loomRun 3, 3, aFrame, false, by decide +kernel, by decide +kernel, by decide +kernel, by decide +kernel, by decide +kernel, by decide +kernel, by decide +kernel, by decide +kernel, by rw [freeCells_of_no_frames _ (by decide) (by decide), List.length_range]; decide⟩,
   ⟨(loomRun 3).wr (Reg.LOOM_PORT_CELLS_MAX.at 3) 0, 3, aFrame, false, by decide +kernel⟩,
   ⟨loomRun 3, 3, by decide +kernel⟩,
   ⟨{ atRun.setEg 3 { paused := true, quanta := 9 } with cycle := 3000000 }, 3, by decide +kernel⟩⟩

/-- States and operands that meet the hypotheses of FrameDecision, clause by clause. -/
theorem witness_FrameDecision :
    (∃ (s : State) (p : Fin 6) (x : Nat) (rest : List Nat) (f : LFrame), s.loom.arrived.get [] p = x :: rest ∧ s.frame x = some f) ∧
    (∃ (s : State) (p : Fin 6), s.loom.arrived.get [] p = []) ∧
    (∃ (s : State) (p : Fin 6) (x : Nat) (rest : List Nat) (f : LFrame), s.loom.arrived.get [] p = x :: rest ∧ s.frame x = some f ∧ (f.bad = true ∨ fcsOk (s.frameBytes f) = false) ∧ f.port = p ∧ f.copies = 0 ∧ f.holders = [] ∧ x ∉ rest) ∧
    (∃ (s : State) (p : Fin 6) (x : Nat) (rest : List Nat) (f : LFrame) (e : Fin 6), s.loom.arrived.get [] p = x :: rest ∧ s.frame x = some f ∧ f.bad = false ∧ fcsOk (s.frameBytes f) = true ∧ s.pairMode p = 0 ∧ s.pairMode e = 0 ∧ e ≠ p ∧ (parseHdr (s.frameBytes f)).tci = none ∧ bitOf ((parseHdr (s.frameBytes f)).dst / 2 ^ 40) 0 = false ∧ (parseHdr (s.frameBytes f)).dst ≠ s.stationMac ∧ (s.rd (Reg.LOOM_PORT_CFG_PVID.at p)) ≠ 0xFFF ∧ s.rd (Reg.LOOM_PORT_CFG_ACCEPT.at p) ≠ 1 ∧ bitOf (s.vlanMember (s.rd (Reg.LOOM_PORT_CFG_PVID.at p))) p = true ∧ bitOf (s.vlanMember (s.rd (Reg.LOOM_PORT_CFG_PVID.at p))) e = true ∧ s.rd (Reg.LOOM_PORT_CFG_STATE.at p) = 2 ∧ s.rd (Reg.LOOM_PORT_CFG_STATE.at e) = 2 ∧ s.rd (Reg.LOOM_PORT_CFG_LEARN.at p) = 0 ∧ findEntry s.loom.groups (parseHdr (s.frameBytes f)).dst (s.rd (Reg.LOOM_PORT_CFG_PVID.at p)) = none ∧ (findEntry s.loom.fdb (parseHdr (s.frameBytes f)).dst (s.rd (Reg.LOOM_PORT_CFG_PVID.at p))).map (·.ports) = some (2 ^ e.val) ∧ s.portQueued e + f.cells.length ≤ s.rd (Reg.LOOM_PORT_EGMAX_EGRESS_MAX.at e)) :=
  ⟨⟨(loomRun 3).arrivedFrame 3 false, 3, 5, [], { cells := [5], len := 64, port := 3 }, by decide +kernel⟩,
   ⟨State.reset, 3, by decide +kernel⟩,
   ⟨(loomRun 3).arrivedFrame 3 true, 3, 5, [], { cells := [5], len := 64, port := 3, bad := true }, by decide +kernel⟩,
   ⟨{ (((loomRun 3).arrivedFrame 3 false).wr (Reg.LOOM_PORT_CFG_LEARN.at 3) 0) with loom := { ((loomRun 3).arrivedFrame 3 false).loom with fdb := [{ mac := 0x020000000001, vid := 1, ports := 2 }] }, fuse := 5 }, 3, 5, [], { cells := [5], len := 64, port := 3 }, 1, by decide +kernel⟩⟩

/-- States and operands that meet the hypotheses of FrameTransmission, clause by clause. -/
theorem witness_FrameTransmission :
    (∃ (s : State) (p : Fin 6) (q : Fin 8) (f : LFrame) (c : Copy) (r : List Copy), s.rd (Reg.LOOM_TG_CTRL_EN.at p) = 0 ∧ s.rd (Reg.LOOM_AG_CTRL_EN.at p) = 0 ∧ s.rd (Reg.MAC_LINK_UP.at p) ≠ 0 ∧ (s.eg p).paused = false ∧ (s.eg p).now.length < 2 ∧ s.rd (Reg.LOOM_PORT_CFG_STRICT.at p) = 8 ∧ (∀ u : Fin 8, q < u → (s.eg p).queues.get [] u = []) ∧ (s.eg p).queues.get [] q = c :: r ∧ s.frame c.first = some f ∧ s.stateAllows p f = true ∧ s.framePoisoned f = false) ∧
    (∃ (s : State) (p : Fin 6), s.rd (Reg.LOOM_TG_CTRL_EN.at p) = 0 ∧ s.rd (Reg.LOOM_AG_CTRL_EN.at p) = 0 ∧ (s.rd (Reg.MAC_LINK_UP.at p) = 0 ∨ (s.eg p).paused = true ∨ 2 ≤ (s.eg p).now.length)) ∧
    (∃ (s : State) (p : Fin 6) (o : BitVec 8) (q : Fin 8) (f : LFrame) (c : Copy) (r : List Copy), (s.eg p).now = [] ∧ (s.eg p).paused = true ∧ o.getLsbD q = true ∧ (∀ u : Fin 8, u ≠ q → (s.eg p).queues.get [] u = []) ∧ (s.eg p).queues.get [] q = c :: r ∧ s.frame c.first = some f ∧ s.gateOpen p q = true ∧ s.gateFits p q (txLen f c) = false) ∧
    (∃ (s : State) (p : Fin 6) (n : TxNow) (r : List TxNow) (f : LFrame), (s.eg p).now = n :: r ∧ s.frame n.copy.first = some f) ∧
    (∃ (s : State) (p : Fin 6) (n : TxNow) (r : List TxNow) (f : LFrame), (s.eg p).now = n :: r ∧ s.frame n.copy.first = some f ∧ f.port < 6 ∧ f.large = none ∧ 2 ≤ f.copies) ∧
    (∃ (s : State) (p : Fin 6) (n : TxNow) (r : List TxNow) (f : LFrame), (s.eg p).now = n :: r ∧ s.frame n.copy.first = some f ∧ f.port < 6 ∧ f.large = none ∧ f.copies = 1 ∧ f.holders = [] ∧ n.copy.first ∉ s.loom.arrived.get [] f.port) ∧
    (∃ (s : State) (p : Fin 6), (s.eg p).now = []) :=
  ⟨⟨(loomRun 3).queuedFrame 3 6, 3, 6, { cells := [5], len := 64, port := 2, copies := 1, fan := 1 }, { first := 5 }, [], by decide +kernel⟩,
   ⟨atRun.queuedFrame 3 6, 3, by decide +kernel⟩,
   ⟨((loomRun 3).queuedFrame 3 6).wr (Reg.LOOM_TG_CTRL_EN.at 3) 1 |>.setEg 3 { queues := [(6, [{ first := 5 }])], paused := true, tg := { base := 0, cycle := 1000, ents := [(0xFF, 5), (0, 100)] } }, 3, 64, 6, { cells := [5], len := 64, port := 2, copies := 1, fan := 1 }, { first := 5 }, [], by decide +kernel⟩,
   ⟨(loomRun 3).queuedFrame 3 6 |>.setEg 3 { now := [⟨{ first := 5 }, 0, 0, 0, 0⟩] }, 3, ⟨{ first := 5 }, 0, 0, 0, 0⟩, [], { cells := [5], len := 64, port := 2, copies := 1, fan := 1 }, by decide +kernel⟩,
   ⟨((loomRun 3).queuedFrame 3 6 |>.setEg 3 { now := [⟨{ first := 5 }, 0, 0, 0, 0⟩] }).setFrame 5 (some { cells := [5], len := 64, port := 2, copies := 2, fan := 2 }), 3, ⟨{ first := 5 }, 0, 0, 0, 0⟩, [], { cells := [5], len := 64, port := 2, copies := 2, fan := 2 }, by decide +kernel⟩,
   ⟨(loomRun 3).queuedFrame 3 6 |>.setEg 3 { now := [⟨{ first := 5 }, 0, 0, 0, 0⟩] }, 3, ⟨{ first := 5 }, 0, 0, 0, 0⟩, [], { cells := [5], len := 64, port := 2, copies := 1, fan := 1 }, by decide +kernel⟩,
   ⟨State.reset, 3, by decide +kernel⟩⟩

/-- States and operands that meet the hypotheses of BridgingTables, clause by clause. -/
theorem witness_BridgingTables :
    (∃ (s : State) (p : Fin 6) (g : GateList), (s.eg p).tgNext = some g) ∧
    (∃ (s : State) (p : Fin 6) (g : GateList), (s.eg p).ag.asrc = false ∧ (s.eg p).agNext = some g) ∧
    (∃ (s : State) (p : Fin 6), (s.eg p).ag.asrc = true) ∧
    (∃ (s : State) (mac : BitVec 48) (vid : BitVec 12) (e : FdbEntry), e ∈ s.loom.fdb ∧ (s.aged e = false ∨ e.mac ≠ mac.toNat ∨ e.vid ≠ vid.toNat)) ∧
    (∃ (s : State) (g : Bool) (e : FdbEntry), findEntry (if g then s.loom.groups else s.loom.fdb) s.fdbMac s.fdbVid = some e) ∧
    (∃ (s : State) (g : Bool), findEntry (if g then s.loom.groups else s.loom.fdb) s.fdbMac s.fdbVid = none) ∧
    (∃ (s : State) (g : Bool), (if g then (s.loom.groups.filter (fun x => !(x.mac == s.fdbMac && x.vid == s.fdbVid))).length < 1024 else (s.loom.fdb.filter (fun x => !(x.mac == s.fdbMac && x.vid == s.fdbVid) && Config.fdbBucket x.mac x.vid == Config.fdbBucket s.fdbMac s.fdbVid)).length < 4)) :=
  ⟨⟨atRun.setEg 3 { tgNext := some { cycle := 77 } }, 3, { cycle := 77 }, by decide +kernel⟩,
   ⟨atRun.setEg 3 { agNext := some { base := 77 } }, 3, { base := 77 }, by decide +kernel⟩,
   ⟨atRun.setEg 3 { ag := { asrc := true } }, 3, by decide +kernel⟩,
   ⟨{ atRun with loom := { fdb := [{ mac := 5, vid := 1, ports := 4, isStatic := true }, { mac := 6, vid := 1, ports := 4 }] } }, 5, 1, { mac := 5, vid := 1, ports := 4, isStatic := true }, by decide +kernel⟩,
   ⟨{ atRun with loom := { fdb := [{ mac := 0, vid := 0, ports := 4, isStatic := true }] } }, false, { mac := 0, vid := 0, ports := 4, isStatic := true }, by decide +kernel⟩,
   ⟨State.reset, false, by decide +kernel⟩,
   ⟨{ atRun.wr Reg.LOOM_FDB_DATA_PORTS 9 with loom := { fdb := [{ mac := 0, vid := 0, ports := 4 }] } }, false, by decide +kernel⟩⟩

/-- States and operands that meet the hypotheses of QueuesAndBobbin, clause by clause. -/
theorem witness_QueuesAndBobbin :
    (∃ (s : State) (q : Fin 6), s.setMayTake q (s.rd (Reg.LOOM_NQ_ALLOCN_CELLS.at q)) = true ∧ 1 ≤ s.rd (Reg.LOOM_NQ_ALLOCN_CELLS.at q) ∧ s.rd (Reg.LOOM_NQ_ALLOCN_CELLS.at q) ≤ 36 ∧ s.rd (Reg.LOOM_NQ_ALLOCN_CELLS.at q) ≤ s.freeCells.length) ∧
    (∃ (s : State) (q : Fin 6), s.setMayTake q (s.rd (Reg.LOOM_NQ_ALLOCN_CELLS.at q)) = false) ∧
    (∃ (s : State) (q : Fin 6) (h : Word) (c : Instr), (c = .nqTx q h ∨ c = .nqFree q h) ∧ s.heldFrame q h = none) ∧
    (∃ (s : State) (q : Fin 6) (h : Word) (f : LFrame), s.heldFrame q h = some f ∧ s.frame f.first = some f ∧ f.holders = [q.val] ∧ f.copies = 0 ∧ f.first ∉ s.loom.arrived.get [] f.port) ∧
    (∃ (s : State) (q : Fin 6) (h : Word) (f : LFrame) (e : Fin 6) (tc : Nat), s.heldFrame q h = some f ∧ f.holders = [q.val] ∧ s.rd (Reg.LOOM_NQ_TXCTL_PORTS.at q) = 2 ^ e.val ∧ s.rd (Reg.LOOM_NQ_TXCTL_TC.at q) = tc ∧ s.pairMode e = 0 ∧ s.portQueued e + f.cells.length ≤ s.rd (Reg.LOOM_PORT_EGMAX_EGRESS_MAX.at e) ∧ (∀ k : Fin 8, ∀ c ∈ (s.eg e).queues.get [] k, c.first ≠ f.first)) ∧
    (∃ (s : State), s.loom.bobFifo = []) ∧
    (∃ (s : State) (r : BobRec) (rest : List BobRec), s.loom.bobFifo = r :: rest ∧ s.mem.defer.get 0 256 < 64) ∧
    (∃ (s : State) (r : BobRec) (rest : List BobRec) (fg : Bool), s.loom.bobFifo = r :: rest ∧ (fg = false ∨ 64 ≤ s.mem.defer.get 0 256) ∧ s.loom.bobUsed < s.bobRecords) ∧
    (∃ (s : State) (r : BobRec) (rest : List BobRec) (fg : Bool), s.loom.bobFifo = r :: rest ∧ (fg = false ∨ 64 ≤ s.mem.defer.get 0 256) ∧ s.bobRecords ≤ s.loom.bobUsed ∧ s.rd Reg.BOBBIN_CTRL_OVERWRITE = 0) ∧
    (∃ (s : State) (r : BobRec) (rest : List BobRec) (fg : Bool), s.loom.bobFifo = r :: rest ∧ (fg = false ∨ 64 ≤ s.mem.defer.get 0 256) ∧ s.bobRecords ≤ s.loom.bobUsed ∧ s.rd Reg.BOBBIN_CTRL_OVERWRITE ≠ 0) ∧
    (∃ (s : State), s.loom.bobUsed = 0) ∧
    (∃ (s : State), s.loom.bobUsed ≠ 0) :=
  ⟨⟨atRun.wr (Reg.LOOM_NQ_ALLOCN_CELLS.at 4) 36, 4, by decide +kernel, by decide +kernel, by decide +kernel, by rw [freeCells_of_no_frames _ (by decide) (by decide), List.length_range]; decide⟩,
   ⟨atRun.wr (Reg.LOOM_NQ_ALLOCN_CELLS.at 2) 36, 2, by decide +kernel⟩,
   ⟨State.reset, 2, 5, .nqTx 2 5, by decide +kernel⟩,
   ⟨atRun.setFrame 5 (some { cells := [5], len := 256, port := 6, holders := [4] }), 4, 0xA0040, { cells := [5], len := 256, port := 6, holders := [4] }, by decide +kernel⟩,
   ⟨(atRun.setFrame 5 (some { cells := [5], len := 256, port := 6, holders := [4] })).wr (Reg.LOOM_NQ_TXCTL_PORTS.at 4) 4, 4, 0xA0040, { cells := [5], len := 256, port := 6, holders := [4] }, 2, 0, by decide +kernel⟩,
   ⟨State.reset, by decide +kernel⟩,
   ⟨{ atRun with loom := { bobFifo := [aRecord] } }, aRecord, [], by decide +kernel⟩,
   ⟨{ (atRun.wr Reg.BOBBIN_CTRL_EN 1) with loom := { bobFifo := [aRecord] } }, aRecord, [], false, by decide +kernel⟩,
   ⟨{ (atRun.wr Reg.BOBBIN_CTRL_EN 1) with loom := { bobFifo := [aRecord], bobUsed := 2048 } }, aRecord, [], false, by decide +kernel⟩,
   ⟨{ (atRun.wr Reg.BOBBIN_CTRL_EN 1).wr Reg.BOBBIN_CTRL_OVERWRITE 1 with loom := { bobFifo := [aRecord], bobUsed := 2048 } }, aRecord, [], false, by decide +kernel⟩,
   ⟨State.reset, by decide +kernel⟩,
   ⟨{ (atRun.wr Reg.BOBBIN_CTRL_EN 1) with loom := { bobUsed := 2 } }, by decide +kernel⟩⟩

/-- States and operands that meet the hypotheses of LinksAndDiagnostics, clause by clause. -/
theorem witness_LinksAndDiagnostics :
    (∃ (s : State) (p : Fin 6), s.rd (Reg.MAC_CFG_MODE.at p) ≠ 0 ∧ s.rd (Reg.MAC_LINK_UP.at p) = 0 ∧ s.rd (Reg.MAC_LINK_SPEED_REFUSED.at p) = 0 ∧ s.rd (Reg.MAC_LINK_HALF_REFUSED.at p) = 0 ∧ (p.val ≠ 5 ∨ s.rd Reg.T1L_DIAG_BUSY = 0)) ∧
    (∃ (s : State) (p : Fin 6), s.rd (Reg.MAC_LINK_UP.at p) ≠ 0) ∧
    (∃ (s : State) (p : Fin 6), s.rd (Reg.MAC_LINK_UP.at p) = 0) ∧
    (∃ (s : State) (p : Fin 6) (m : Fin 4), modeListed p m = true ∧ (s.netsOff = false ∨ m = 0)) ∧
    (∃ (p : Fin 6) (m : Fin 4), modeListed p m = false) ∧
    (∃ (s : State) (p : Fin 4), s.rd (Reg.MAC_CFG_MODE.at p) = 1) ∧
    (∃ (s : State) (c : Instr), (c = .t1lDiagRun ∨ (c = .autoDiag ∧ s.rd Reg.T1L_CFG_AUTO_DIAG ≠ 0 ∧ s.diagDue = true)) ∧ s.rd (Reg.MAC_LINK_UP.at 5) = 0) ∧
    (∃ (s : State), s.rd (Reg.MAC_LINK_UP.at 5) ≠ 0) ∧
    (∃ (s : State), s.rd Reg.T1L_DIAG_BUSY ≠ 0) :=
  ⟨⟨atRun.wr (Reg.MAC_CFG_MODE.at 5) 1, 5, by decide +kernel⟩,
   ⟨(loomRun 3).queuedFrame 3 6, 3, by decide +kernel⟩,
   ⟨State.reset, 3, by decide +kernel⟩,
   ⟨asRole 0 ((loomRun 3).queuedFrame 3 6), 3, 3, by decide +kernel⟩,
   ⟨4, 2, by decide +kernel⟩,
   ⟨(loomRun 3).wr (Reg.MAC_CFG_MODE.at 3) 1, 3, by decide +kernel⟩,
   ⟨{ State.reset with cycle := 3000000000 }, .autoDiag, by decide +kernel⟩,
   ⟨loomRun 5, by decide +kernel⟩,
   ⟨atRun.wr Reg.T1L_DIAG_BUSY 1, by decide +kernel⟩⟩

/-- States and operands that meet the hypotheses of CanStates, clause by clause. -/
theorem witness_CanStates :
    (∃ (s : State) (n : Fin 2) (w : Writer), s.cnMayStart n w = true ∧ (s.cnState n = 0 ∨ s.cnState n = 6) ∧ s.netsOff = false ∧ (s.role ≠ 3 ∨ s.owner = true) ∧ (s.cnTiming n).ratesOk n = true ∧ ((s.cnTiming n).rd (Reg.CAN_CTRL_TT.at n) = 0 ∨ (s.cnTiming n).ttStartOk n = true)) ∧
    (∃ (s : State) (n : Fin 2) (w : Writer), s.cnMayStart n w = true ∧ (s.cnState n = 0 ∨ s.cnState n = 6) ∧ s.netsOff = false ∧ (s.role ≠ 3 ∨ s.owner = true) ∧ ((s.cnTiming n).ratesOk n = false ∨ ((s.cnTiming n).rd (Reg.CAN_CTRL_TT.at n) ≠ 0 ∧ (s.cnTiming n).ttStartOk n = false))) ∧
    (∃ (s : State) (n : Fin 2) (w : Writer), (s.cnMayStart n w = false ∨ (s.cnState n ≠ 0 ∧ s.cnState n ≠ 6) ∨ s.netsOff = true ∨ (s.role = 3 ∧ s.owner = false))) ∧
    (∃ (s : State) (n : Fin 2), s.cnState n ≠ 0 ∧ s.cnState n ≠ 6 ∧ (s.cn n).attempt = none) ∧
    (∃ (s : State) (n : Fin 2) (a : CanAttempt), s.cnState n ≠ 0 ∧ s.cnState n ≠ 6 ∧ (s.cn n).attempt = some a) ∧
    (∃ (s : State) (n : Fin 2), s.cnState n = 1) ∧
    (∃ (s : State) (n : Fin 2), s.cnState n = 4) ∧
    (∃ (s : State) (n : Fin 2), s.cnState n = 5) ∧
    (∃ (s : State) (n : Fin 2), s.cnState n = 0) ∧
    (∃ (s : State) (n : Fin 2) (c : CanWakeCause), s.cnState n = 6 ∧ s.pstate ≠ 2 ∧ s.detectorFed n = true ∧ (s.canWakeOf n).wakes c = true) ∧
    (∃ (s : State) (n : Fin 2) (c : CanWakeCause), s.cnState n = 6 ∧ s.pstate ≠ 2 ∧ s.detectorFed n = true ∧ (s.canWakeOf n).wakes c = false) ∧
    (∃ (s : State) (n : Fin 2) (c : CanWakeCause), s.pstate = 2 ∧ s.detectorFed n = true ∧ (s.pow.canWake.get {} n).wakes c = false) ∧
    (∃ (s : State) (n : Fin 2) (c : CanWakeCause), s.pstate = 2 ∧ s.detectorFed n = true ∧ (s.pow.canWake.get {} n).wakes c = true ∧ s.bit Reg.BACKUP_WAKECFG_WSRC_EN n = true ∧ s.pow.offWait = false) ∧
    (∃ (s : State) (n : Fin 2), (s.detectorFed n = false ∨ (s.pstate ≠ 2 ∧ s.cnState n ≠ 6))) ∧
    (∃ (s : State) (n : Fin 2), s.cnOnBus n = true) ∧
    (∃ (s : State) (n : Fin 2) (c : Fin 7), c ≠ 0 ∧ s.rd (Reg.CAN_STAT_BUS_FAULT.at n) ≠ c.val) ∧
    (∃ (s : State) (n : Fin 2), s.passed (.busFault n) (1000 * msCycles) = true) ∧
    (∃ (s : State) (n : Fin 2) (a : Int) (b : Int) (c : Nat), ((c = 4 ∧ s.rsDrives n = false ∧ (rsOver a || rsOver b) = true) ∨ (c = 3 ∧ s.rsDrives n = true ∧ (a - b).natAbs < 1000 ∧ 3 ≤ (s.rsLine n).shorts) ∨ (c = 2 ∧ s.rsDrives n = false ∧ (rsOver a || rsOver b) = false ∧ a - b ≤ -200 ∧ 9 ≤ (s.rsLine n).reversed) ∨ (c = 1 ∧ s.rsDrives n = false ∧ (rsOver a || rsOver b) = false ∧ (a - b).natAbs ≤ 50 ∧ (s.rsLine n).normal = true ∧ 9 ≤ (s.rsLine n).opens)) ∧ s.rd (rsFault n) ≠ c) ∧
    (∃ (s : State) (n : Fin 2) (a : Int) (b : Int), ((s.rsDrives n = true ∧ 1000 ≤ (a - b).natAbs) ∨ (s.rsDrives n = false ∧ (rsOver a || rsOver b) = false ∧ -200 < a - b ∧ 50 < (a - b).natAbs))) :=
  ⟨⟨asRole 0 atRun, 1, .gateway, by decide +kernel⟩,
   ⟨(asRole 0 atRun).odPutU 0x6101 1 7, 1, .gateway, by decide +kernel⟩,
   ⟨atLimp, 1, .gateway, by decide +kernel⟩,
   ⟨atRun.cnTo 1 2, 1, by decide +kernel⟩,
   ⟨(atRun.cnTo 1 2).setCn 1 { attempt := some { mo := 3, frame := { id := 5 } } }, 1, { mo := 3, frame := { id := 5 } }, by decide +kernel⟩,
   ⟨atRun.cnTo 1 1, 1, by decide +kernel⟩,
   ⟨atRun.cnTo 1 4, 1, by decide +kernel⟩,
   ⟨(atRun.cnTo 1 5).wr (Reg.CAN_ERR_TEC.at 1) 256, 1, by decide +kernel⟩,
   ⟨State.reset, 1, by decide +kernel⟩,
   ⟨{ atRun.cnTo 1 6 with pow := { vhvAbove9 := true } }, 1, .dominant, by decide +kernel⟩,
   ⟨{ (((atRun.cnTo 1 6).wr (Reg.CAN_WCFG_MODE.at 1) 1).wr (Reg.CAN_WDMASK0_V.at 1) 4).wr (Reg.CAN_WID_WAKE_ID.at 1) 0 with pow := { vhvAbove9 := true, canWake := [(1, { rate := 250000 })] } }, 1, .frame { id := 0, dlc := 1, data := [3] }, by decide +kernel⟩,
   ⟨{ (atListen.wr Reg.BACKUP_WAKECFG_WSRC_EN 3) with pow := { mainFeed := true, vhvAbove9 := true, canWake := [(1, { rate := 250000 })] } }, 1, .error, by decide +kernel⟩,
   ⟨{ (atListen.wr Reg.BACKUP_WAKECFG_WSRC_EN 3) with pow := { mainFeed := true, vhvAbove9 := true, canWake := [(1, { rate := 250000 })] } }, 1, .dominant, by decide +kernel⟩,
   ⟨State.reset, 1, by decide +kernel⟩,
   ⟨(atRun.cnTo 1 2).wr (Reg.CAN_ERR_REC.at 1) 250, 1, by decide +kernel⟩,
   ⟨State.reset, 1, 6, by decide +kernel⟩,
   ⟨{ State.reset with cycle := 3000000000 }, 1, by decide +kernel⟩,
   ⟨State.reset, 1, 13000, 0, 4, by decide +kernel⟩,
   ⟨State.reset, 1, 300, 0, by decide +kernel⟩⟩

/-- States and operands that meet the hypotheses of CanFrames, clause by clause. -/
theorem witness_CanFrames :
    (∃ (s : State) (n : Fin 2) (k : Fin 128) (f : CanFrame), s.cnOnBus n = true ∧ f.rtr = false ∧ s.moMatch n f = some k ∧ s.rd (Reg.CAN_CTRL_TT.at n) = 0 ∧ (s.cn n).window = none) ∧
    (∃ (s : State) (n : Fin 2) (f : CanFrame), s.cnOnBus n = true ∧ f.rtr = false ∧ s.moMatch n f = none ∧ s.rd (Reg.CAN_CTRL_TT.at n) = 0) ∧
    (∃ (s : State) (n : Fin 2) (f : CanFrame), s.cnOnBus n = true ∧ f.rtr = true) ∧
    (∃ (s : State) (n : Fin 2) (f : CanFrame) (back : Nat) (lec : Fin 7) (c : Instr), (c = .canFrameReceived n f back ∨ c = .canReceiveError n lec true) ∧ s.cnOnBus n = false) ∧
    (∃ (s : State) (n : Fin 2) (k : Fin 128), s.rd (Reg.CAN_MO_CFG_DIR.at2 n k) = 2) ∧
    (∃ (s : State) (n : Fin 2) (k : Fin 128), s.rd (Reg.CAN_MO_CFG_DIR.at2 n k) ≠ 2) ∧
    (∃ (s : State) (n : Fin 2) (j : Fin 128), s.cnOnBus n = true ∧ (s.cn n).attempt = none ∧ (s.cn n).stopReq = false ∧ s.rd (Reg.CAN_CTRL_MON.at n) = 0 ∧ s.pstate ≠ 6 ∧ s.rd (Reg.CAN_CTRL_TT.at n) = 0 ∧ s.moPending n j = true) ∧
    (∃ (s : State) (n : Fin 2), (s.cnOnBus n = false ∨ (s.cn n).attempt ≠ none ∨ (s.cn n).stopReq = true ∨ s.rd (Reg.CAN_CTRL_MON.at n) ≠ 0 ∨ (s.pstate = 6 ∧ 3 ≤ s.sdStep))) ∧
    (∃ (s : State) (n : Fin 2) (a : CanAttempt), (s.cn n).attempt = some a ∧ a.mo < 128 ∧ (s.cn n).stopReq = false ∧ s.rd (Reg.CAN_CTRL_LOOPBACK.at n) = 0 ∧ (s.role ≠ 3 ∨ s.peerHolds = false)) ∧
    (∃ (s : State) (n : Fin 2) (w : CanFail) (a : CanAttempt), (s.cn n).attempt = some a ∧ a.mo < 128 ∧ a.cell = none ∧ (s.cn n).stopReq = false ∧ w = .arbitration ∧ a.cancelled = false) ∧
    (∃ (s : State) (n : Fin 2) (a : CanAttempt), (s.cn n).attempt = some a ∧ a.mo < 128 ∧ a.cell = none ∧ (s.cn n).stopReq = false ∧ s.rd (Reg.CAN_ERR_TEC.at n) + 8 ≤ 255 ∧ a.cancelled = false) ∧
    (∃ (s : State) (n : Fin 2) (a : CanAttempt), (s.cn n).attempt = some a ∧ a.mo < 128 ∧ a.cell = none ∧ (s.cn n).stopReq = false ∧ 247 < s.rd (Reg.CAN_ERR_TEC.at n) ∧ s.rd (Reg.CAN_ERR_TEC.at n) < 256 ∧ s.cnOnBus n = true) ∧
    (∃ (s : State) (n : Fin 2) (a : CanAttempt), (s.cn n).attempt = some a ∧ a.mo < 128 ∧ a.cell = none ∧ (s.cn n).stopReq = false ∧ s.rd (Reg.CAN_ERR_TEC.at n) ≤ 255) ∧
    (∃ (s : State) (n : Fin 2) (k : Fin 128) (v : Word), s.rd (Reg.CAN_MO_CFG_DIR.at2 n k) = 0 ∧ v.toNat % 4 ≠ 0 ∧ v.toNat % 4 ≠ 3) ∧
    (∃ (v : Word), v.toNat % 4 = 0) ∧
    (∃ (s : State) (n : Fin 2) (k : Fin 128) (v : Word) (w : MoWrite), s.rd (Reg.CAN_MO_CFG_DIR.at2 n k) ≠ 0 ∧ (w = .id v ∨ (w = .cfg v ∧ v.toNat % 4 ≠ 0))) ∧
    (∃ (s : State) (n : Fin 2) (k : Fin 128), s.rd (Reg.CAN_MO_CFG_DIR.at2 n k) = 0) :=
  ⟨⟨(((atRun.cnTo 1 2).wr (Reg.CAN_MO_CFG_DIR.at2 1 7) 1).wr (Reg.CAN_MO_ID_ID.at2 1 7) 0x123).wr (Reg.CAN_MO_CTL_NEWDAT.at2 1 7) 1, 1, 7, { id := 0x123, dlc := 3, data := [1, 2, 3] }, by decide +kernel⟩,
   ⟨((((atRun.cnTo 1 2).wr (Reg.CAN_MO_CFG_DIR.at2 1 7) 1).wr (Reg.CAN_MO_ID_ID.at2 1 7) 0x123)).wr (Reg.CAN_ERR_REC.at 1) 200, 1, { id := 0x124, dlc := 3, data := [1, 2, 3] }, by decide +kernel⟩,
   ⟨(((atRun.cnTo 1 2).wr (Reg.CAN_MO_CFG_DIR.at2 1 7) 1).wr (Reg.CAN_MO_ID_ID.at2 1 7) 0x123), 1, { id := 0x123, rtr := true }, by decide +kernel⟩,
   ⟨State.reset, 1, { id := 0x123 }, 40, 0, .canReceiveError 1 0 true, by decide +kernel⟩,
   ⟨(((atRun.cnTo 1 2).wr (Reg.CAN_MO_CFG_DIR.at2 1 7) 2).wr (Reg.CAN_MO_CTL_TXRQ.at2 1 7) 1), 1, 7, by decide +kernel⟩,
   ⟨State.reset, 1, 7, by decide +kernel⟩,
   ⟨(((atRun.cnTo 1 2).wr (Reg.CAN_MO_CFG_DIR.at2 1 7) 2).wr (Reg.CAN_MO_CTL_TXRQ.at2 1 7) 1), 1, 7, by decide +kernel⟩,
   ⟨State.reset, 1, by decide +kernel⟩,
   ⟨(((atRun.cnTo 1 2).wr (Reg.CAN_MO_CFG_DIR.at2 1 7) 2).wr (Reg.CAN_MO_CTL_TXRQ.at2 1 7) 1).setCn 1 { attempt := some { mo := 7, frame := { id := 5 } } }, 1, { mo := 7, frame := { id := 5 } }, by decide +kernel⟩,
   ⟨(((atRun.cnTo 1 2).wr (Reg.CAN_MO_CFG_DIR.at2 1 7) 2).wr (Reg.CAN_MO_CTL_TXRQ.at2 1 7) 1).setCn 1 { attempt := some { mo := 7, frame := { id := 5 } } }, 1, .arbitration, { mo := 7, frame := { id := 5 } }, by decide +kernel⟩,
   ⟨((((atRun.cnTo 1 2).wr (Reg.CAN_MO_CFG_DIR.at2 1 7) 2).wr (Reg.CAN_MO_CTL_TXRQ.at2 1 7) 1).setCn 1 { attempt := some { mo := 7, frame := { id := 5 } } }).wr (Reg.CAN_ERR_TEC.at 1) 127, 1, { mo := 7, frame := { id := 5 } }, by decide +kernel⟩,
   ⟨(((((atRun.cnTo 1 2).wr (Reg.CAN_MO_CFG_DIR.at2 1 7) 2).wr (Reg.CAN_MO_CTL_TXRQ.at2 1 7) 1).setCn 1 { attempt := some { mo := 7, frame := { id := 5 } } }).wr (Reg.CAN_ERR_TEC.at 1) 248).wr (Reg.CAN_CTRL_AUTO_RECOVER.at 1) 0, 1, { mo := 7, frame := { id := 5 } }, by decide +kernel⟩,
   ⟨((((atRun.cnTo 1 2).wr (Reg.CAN_MO_CFG_DIR.at2 1 7) 2).wr (Reg.CAN_MO_CTL_TXRQ.at2 1 7) 1).setCn 1 { attempt := some { mo := 7, frame := { id := 5 } } }).wr (Reg.CAN_ERR_TEC.at 1) 127, 1, { mo := 7, frame := { id := 5 } }, by decide +kernel⟩,
   ⟨State.reset, 1, 127, 0xFFE, by decide +kernel⟩,
   ⟨0xFF0, by decide +kernel⟩,
   ⟨(((atRun.cnTo 1 2).wr (Reg.CAN_MO_CFG_DIR.at2 1 7) 2).wr (Reg.CAN_MO_CTL_TXRQ.at2 1 7) 1), 1, 7, 0xFF1, .id 0xFF1, by decide +kernel⟩,
   ⟨State.reset, 1, 7, by decide +kernel⟩⟩

/-- States and operands that meet the hypotheses of CanSchedule, clause by clause. -/
theorem witness_CanSchedule :
    (∃ (s : State) (n : Fin 2), s.rd (Reg.CAN_CTRL_TT.at n) ≠ 0 ∧ s.cnOnBus n = true) ∧
    (∃ (s : State) (n : Fin 2), (s.rd (Reg.CAN_CTRL_TT.at n) = 0 ∨ s.cnOnBus n = false)) ∧
    (∃ (s : State) (n : Fin 2) (k : Fin 128) (j : Nat), s.rd (Reg.CAN_TTSTAT_RUNNING.at n) ≠ 0 ∧ s.rd (Reg.CAN_STAT_REF_LOST.at n) = 0 ∧ s.cnOnBus n = true ∧ (s.cn n).resuming = false ∧ s.rd (Reg.CAN_TTSTAT_COLUMN.at n) + 1 = j ∧ j < s.ttCols n ∧ j < 32 ∧ s.rd (Reg.CAN_TTSTAT_CYCLE.at n) < 64 ∧ (s.cn n).openCell = none ∧ (s.cn n).window = none ∧ s.rd (Reg.CAN_CELL_TYPE.at2 n (32 * s.rd (Reg.CAN_TTSTAT_CYCLE.at n) + j)) = 1 ∧ s.rd (Reg.CAN_CELL_MO.at2 n (32 * s.rd (Reg.CAN_TTSTAT_CYCLE.at n) + j)) = k ∧ s.moPending n k = true) ∧
    (∃ (s : State) (n : Fin 2) (c : Nat), s.rd (Reg.CAN_TTSTAT_RUNNING.at n) ≠ 0 ∧ s.rd (Reg.CAN_STAT_REF_LOST.at n) = 0 ∧ s.cnOnBus n = true ∧ (s.cn n).resuming = false ∧ s.rd (Reg.CAN_TTSTAT_COLUMN.at n) + 1 < s.ttCols n ∧ (s.cn n).openCell = none ∧ (s.cn n).window = some (c, false) ∧ c < 2048) ∧
    (∃ (s : State) (n : Fin 2), (s.rd (Reg.CAN_TTSTAT_RUNNING.at n) = 0 ∨ (s.cn n).resuming = true ∨ s.ttCols n ≤ s.rd (Reg.CAN_TTSTAT_COLUMN.at n) + 1)) ∧
    (∃ (s : State) (n : Fin 2) (c : Nat) (k : Fin 128), (s.cn n).openCell = some (c, k.val) ∧ c < 2048 ∧ s.passed (.ttMark n) (s.bitCycles n (s.rd (Reg.CAN_TTCFG_TX_WINDOW.at n) + 1)) = true) ∧
    (∃ (s : State) (n : Fin 2), ((s.cn n).openCell = none ∨ s.passed (.ttMark n) (s.bitCycles n (s.rd (Reg.CAN_TTCFG_TX_WINDOW.at n) + 1)) = false)) ∧
    (∃ (s : State) (n : Fin 2), s.rd (Reg.CAN_CTRL_TT.at n) ≠ 0 ∧ s.cnOnBus n = true ∧ s.rd (Reg.CAN_TTCFG_SRC.at n) = 0 ∧ s.passed (.ttCycle n) (s.bitCycles n (s.rd (Reg.CAN_TTCYCBT_V.at n) + 16)) = true) :=
  ⟨⟨((atRun.cnTo 1 2).wr (Reg.CAN_CTRL_TT.at 1) 1), 1, by decide +kernel⟩,
   ⟨State.reset, 1, by decide +kernel⟩,
   ⟨((((((atRun.cnTo 1 2).wr (Reg.CAN_MO_CFG_DIR.at2 1 7) 2).wr (Reg.CAN_MO_CTL_TXRQ.at2 1 7) 1).wr (Reg.CAN_TTSTAT_RUNNING.at 1) 1).wr (Reg.CAN_TTCFG_COLS.at 1) 3).wr (Reg.CAN_CELL_TYPE.at2 1 1) 1).wr (Reg.CAN_CELL_MO.at2 1 1) 7, 1, 7, 1, by decide +kernel⟩,
   ⟨((((atRun.cnTo 1 2).wr (Reg.CAN_CTRL_TT.at 1) 1).wr (Reg.CAN_TTSTAT_RUNNING.at 1) 1).wr (Reg.CAN_TTCFG_COLS.at 1) 3).setCn 1 { window := some (64, false) }, 1, 64, by decide +kernel⟩,
   ⟨State.reset, 1, by decide +kernel⟩,
   ⟨{ (((atRun.cnTo 1 2).wr (Reg.CAN_MO_CFG_DIR.at2 1 7) 2).wr (Reg.CAN_MO_CTL_TXRQ.at2 1 7) 1).setCn 1 { openCell := some (33, 7) } with cycle := 3000000000 }, 1, 33, 7, by decide +kernel⟩,
   ⟨State.reset, 1, by decide +kernel⟩,
   ⟨{ ((atRun.cnTo 1 2).wr (Reg.CAN_CTRL_TT.at 1) 1) with cycle := 30000000000 }, 1, by decide +kernel⟩⟩

/-- States and operands that meet the hypotheses of EurnafaArithmetic, clause by clause. -/
theorem witness_EurnafaArithmetic :
    (∃ (s : State) (op : EurOp) (b : TWord × State) (tg : Tag), s.euIssues (wideDesc) op = true ∧ eurHas op .wide = false ∧ (s.fetched (wideDesc) op).sourceB op (immTag (s.euD op).tag) = some b ∧ srcTrap op false (s.euD op) = 0 ∧ srcTrap op false b.1 = 0 ∧ resultTag op (addPair (s.euD op).tag b.1.tag) = some tg) ∧
    (∃ (s : State) (op : EurOp) (b : TWord × State) (tg : Tag), s.euIssues (wideDesc) op = true ∧ eurHas op .wide = false ∧ (s.fetched (wideDesc) op).sourceB op (immTag (s.euD op).tag) = some b ∧ srcTrap op false (s.euD op) = 0 ∧ srcTrap op false b.1 = 0 ∧ resultTag op (subPair (s.euD op).tag b.1.tag) = some tg) ∧
    (∃ (s : State) (op : EurOp), s.euIssues (wideDesc) op = true ∧ eurHas op .wide = true ∧ (unchecked op = true ∨ (wideTag (s.euD op).tag = true ∧ (s.greg op.thread (op.d + 1)).tag = (s.euD op).tag ∧ (s.euB op).tag = (s.euD op).tag ∧ (s.greg op.thread (bReg op + 1)).tag = (s.euD op).tag))) ∧
    (∃ (s : State) (op : EurOp), s.euIssues (wideDesc) op = true ∧ eurHas op .wide = true ∧ (unchecked op = true ∨ (wideTag (s.euD op).tag = true ∧ (s.greg op.thread (op.d + 1)).tag = (s.euD op).tag ∧ (s.euB op).tag = (s.euD op).tag ∧ (s.greg op.thread (bReg op + 1)).tag = (s.euD op).tag))) ∧
    (∃ (s : State) (op : EurOp), s.euIssues (wideDesc) op = true ∧ eurHas op .wide = true ∧ (unchecked op = true ∨ (wideTag (s.euD op).tag = true ∧ (s.greg op.thread (op.d + 1)).tag = (s.euD op).tag ∧ (s.euB op).tag = (s.euD op).tag ∧ (s.greg op.thread (bReg op + 1)).tag = (s.euD op).tag))) ∧
    (∃ (s : State) (op : EurOp) (b : TWord × State) (tg : Tag), s.euIssues (aluDesc) op = true ∧ (s.fetched (aluDesc) op).sourceB op (immTag (s.euD op).tag) = some b ∧ srcTrap op false (s.euD op) = 0 ∧ srcTrap op false b.1 = 0 ∧ resultTag op (mulPair (s.euD op).tag b.1.tag) = some tg) ∧
    (∃ (s : State) (op : EurOp) (b : TWord × State) (tg : Tag), s.euIssues (aluDesc) op = true ∧ (s.fetched (aluDesc) op).sourceB op (immTag (s.euD op).tag) = some b ∧ srcTrap op false (s.euD op) = 0 ∧ srcTrap op false b.1 = 0 ∧ resultTag op (mulPair (s.euD op).tag b.1.tag) = some tg) ∧
    (∃ (s : State) (op : EurOp) (b : TWord × State) (tg : Tag), s.euIssues (aluDesc) op = true ∧ (s.fetched (aluDesc) op).sourceB op (immTag (s.euD op).tag) = some b ∧ srcTrap op false (s.euD op) = 0 ∧ srcTrap op false b.1 = 0 ∧ resultTag op (mulPair (s.euD op).tag b.1.tag) = some tg) ∧
    (∃ (s : State) (op : EurOp) (b : TWord × State) (tg : Tag), s.euIssues (divDesc) op = true ∧ (s.fetched (divDesc) op).sourceB op (immTag (s.euD op).tag) = some b ∧ srcTrap op false (s.euD op) = 0 ∧ srcTrap op false b.1 = 0 ∧ resultTag op (mulPair (s.euD op).tag b.1.tag) = some tg ∧ b.1.val ≠ 0 ∧ ((s.euD op).tag ≠ .fix ∨ fitsTag .fix (divFull (s.euD op).tag b.1.tag (s.euD op).val b.1.val) = true)) ∧
    (∃ (s : State) (op : EurOp) (b : TWord × State) (tg : Tag), s.euIssues (divDesc) op = true ∧ (s.fetched (divDesc) op).sourceB op (immTag (s.euD op).tag) = some b ∧ srcTrap op false (s.euD op) = 0 ∧ srcTrap op false b.1 = 0 ∧ resultTag op (mulPair (s.euD op).tag b.1.tag) = some tg ∧ b.1.val ≠ 0 ∧ (s.euD op).tag = .fix ∧ fitsTag .fix (divFull (s.euD op).tag b.1.tag (s.euD op).val b.1.val) = false) ∧
    (∃ (s : State) (op : EurOp) (b : TWord × State) (tg : Tag), s.euIssues (divDesc) op = true ∧ (s.fetched (divDesc) op).sourceB op (immTag (s.euD op).tag) = some b ∧ srcTrap op false (s.euD op) = 0 ∧ srcTrap op false b.1 = 0 ∧ resultTag op (mulPair (s.euD op).tag b.1.tag) = some tg ∧ b.1.val ≠ 0) ∧
    (∃ (s : State) (op : EurOp) (b : TWord × State) (tg : Tag), s.euIssues (wideDesc) op = true ∧ eurHas op .wide = false ∧ (s.fetched (wideDesc) op).sourceB op (immTag (s.euD op).tag) = some b ∧ srcTrap op false (s.euD op) = 0 ∧ srcTrap op false b.1 = 0 ∧ resultTag op (cmpPair (s.euD op).tag b.1.tag) = some tg) ∧
    (∃ (s : State) (op : EurOp) (b : TWord × State) (tg : Tag), s.euIssues (aluDesc) op = true ∧ (s.fetched (aluDesc) op).sourceB op (immTag (s.euD op).tag) = some b ∧ srcTrap op false (s.euD op) = 0 ∧ srcTrap op false b.1 = 0 ∧ resultTag op (minPair (s.euD op).tag b.1.tag) = some tg) ∧
    (∃ (s : State) (op : EurOp) (b : TWord × State) (tg : Tag), s.euIssues (aluDesc) op = true ∧ (s.fetched (aluDesc) op).sourceB op (immTag (s.euD op).tag) = some b ∧ srcTrap op false (s.euD op) = 0 ∧ srcTrap op false b.1 = 0 ∧ resultTag op (minPair (s.euD op).tag b.1.tag) = some tg) ∧
    (∃ (s : State) (op : EurOp) (b : TWord × State) (tg : Tag), s.euIssues (aluDesc) op = true ∧ (s.fetched (aluDesc) op).sourceB op (immTag (s.euD op).tag) = some b ∧ srcTrap op false (s.euD op) = 0 ∧ srcTrap op false b.1 = 0 ∧ resultTag op (logicPair (s.euD op).tag b.1.tag) = some tg) ∧
    (∃ (s : State) (op : EurOp) (b : TWord × State) (tg : Tag), s.euIssues (aluDesc) op = true ∧ (s.fetched (aluDesc) op).sourceB op (immTag (s.euD op).tag) = some b ∧ srcTrap op false (s.euD op) = 0 ∧ srcTrap op false b.1 = 0 ∧ resultTag op (logicPair (s.euD op).tag b.1.tag) = some tg) ∧
    (∃ (s : State) (op : EurOp) (b : TWord × State) (tg : Tag), s.euIssues (aluDesc) op = true ∧ (s.fetched (aluDesc) op).sourceB op (immTag (s.euD op).tag) = some b ∧ srcTrap op false (s.euD op) = 0 ∧ srcTrap op false b.1 = 0 ∧ resultTag op (logicPair (s.euD op).tag b.1.tag) = some tg) ∧
    (∃ (s : State) (op : EurOp) (b : TWord × State) (tg : Tag), s.euIssues (aluDesc) op = true ∧ (s.fetched (aluDesc) op).sourceB op (immTag (s.euD op).tag) = some b ∧ srcTrap op false (s.euD op) = 0 ∧ srcTrap op false b.1 = 0 ∧ resultTag op (logicPair (s.euD op).tag b.1.tag) = some tg) ∧
    (∃ (s : State) (op : EurOp) (b : TWord × State) (tg : Tag), s.euIssues (macDesc) op = true ∧ (s.fetched (macDesc) op).sourceB op (immTag (s.euD op).tag) = some b ∧ srcTrap op false (s.euD op) = 0 ∧ srcTrap op false b.1 = 0 ∧ resultTag op (macPair (s.euD op).tag b.1.tag) = some tg) ∧
    (∃ (s : State) (op : EurOp) (b : TWord × State) (tg : Tag), s.euIssues (macDesc) op = true ∧ (s.fetched (macDesc) op).sourceB op (immTag (s.euD op).tag) = some b ∧ srcTrap op false (s.euD op) = 0 ∧ srcTrap op false b.1 = 0 ∧ resultTag op (clampPair (s.euD op).tag b.1.tag) = some tg) :=
  ⟨⟨euRun 2 [(3, ⟨.int, 0x7FFFFFFF⟩), (4, ⟨.int, 1⟩)], { thread := 2, d := 3, bByte := 4 }, (⟨.int, 1⟩, euRun 2 [(3, ⟨.int, 0x7FFFFFFF⟩), (4, ⟨.int, 1⟩)]), .int, by decide +kernel⟩,
   ⟨euRun 2 [(3, ⟨.time, 1⟩), (4, ⟨.time, 2⟩)], { thread := 2, d := 3, bByte := 4 }, (⟨.time, 2⟩, euRun 2 [(3, ⟨.time, 1⟩), (4, ⟨.time, 2⟩)]), .int, by decide +kernel⟩,
   ⟨euRun 2 [(2, ⟨.int, 0xFFFFFFFF⟩), (3, ⟨.int, 0⟩), (4, ⟨.int, 1⟩), (5, ⟨.int, 0⟩)], { thread := 2, d := 2, bByte := 4, prefixes := [.wide] }, by decide +kernel⟩,
   ⟨euRun 2 [(2, ⟨.int, 0xFFFFFFFF⟩), (3, ⟨.int, 0⟩), (4, ⟨.int, 1⟩), (5, ⟨.int, 0⟩)], { thread := 2, d := 2, bByte := 4, prefixes := [.wide] }, by decide +kernel⟩,
   ⟨euRun 2 [(2, ⟨.int, 0xFFFFFFFF⟩), (3, ⟨.int, 0⟩), (4, ⟨.int, 1⟩), (5, ⟨.int, 0⟩)], { thread := 2, d := 2, bByte := 4, prefixes := [.wide] }, by decide +kernel⟩,
   ⟨euRun 2 [(3, ⟨.int, 0x7FFFFFFF⟩), (4, ⟨.int, 1⟩)], { thread := 2, d := 3, bByte := 4 }, (⟨.int, 1⟩, euRun 2 [(3, ⟨.int, 0x7FFFFFFF⟩), (4, ⟨.int, 1⟩)]), .int, by decide +kernel⟩,
   ⟨euRun 2 [(3, ⟨.uint, 1⟩), (4, ⟨.uint, 2⟩)], { thread := 2, d := 3, bByte := 4 }, (⟨.uint, 2⟩, euRun 2 [(3, ⟨.uint, 1⟩), (4, ⟨.uint, 2⟩)]), .uint, by decide +kernel⟩,
   ⟨euRun 2 [(3, ⟨.fix, 0x8000⟩), (4, ⟨.fix, 0xFFFFFFFF⟩)], { thread := 2, d := 3, bByte := 4 }, (⟨.fix, 0xFFFFFFFF⟩, euRun 2 [(3, ⟨.fix, 0x8000⟩), (4, ⟨.fix, 0xFFFFFFFF⟩)]), .fix, by decide +kernel⟩,
   ⟨euRun 34 [(3, ⟨.int, 0x80000000⟩), (4, ⟨.int, 0xFFFFFFFF⟩)], { thread := 34, d := 3, bByte := 4 }, (⟨.int, 0xFFFFFFFF⟩, euRun 34 [(3, ⟨.int, 0x80000000⟩), (4, ⟨.int, 0xFFFFFFFF⟩)]), .int, by decide +kernel⟩,
   ⟨euRun 34 [(3, ⟨.fix, 0x7FFFFFFF⟩), (4, ⟨.fix, 1⟩)], { thread := 34, d := 3, bByte := 4 }, (⟨.fix, 1⟩, euRun 34 [(3, ⟨.fix, 0x7FFFFFFF⟩), (4, ⟨.fix, 1⟩)]), .fix, by decide +kernel⟩,
   ⟨euRun 34 [(3, ⟨.int, 0xFFFFFFF9⟩), (4, ⟨.int, 4⟩)], { thread := 34, d := 3, bByte := 4 }, (⟨.int, 4⟩, euRun 34 [(3, ⟨.int, 0xFFFFFFF9⟩), (4, ⟨.int, 4⟩)]), .int, by decide +kernel⟩,
   ⟨euRun 2 [(3, ⟨.bits, 5⟩), (4, ⟨.bits, 5⟩)], { thread := 2, d := 3, bByte := 4 }, (⟨.bits, 5⟩, euRun 2 [(3, ⟨.bits, 5⟩), (4, ⟨.bits, 5⟩)]), .bits, by decide +kernel⟩,
   ⟨euRun 2 [(3, ⟨.int, 5⟩), (4, ⟨.int, 0xFFFFFFFF⟩)], { thread := 2, d := 3, bByte := 4 }, (⟨.int, 0xFFFFFFFF⟩, euRun 2 [(3, ⟨.int, 5⟩), (4, ⟨.int, 0xFFFFFFFF⟩)]), .int, by decide +kernel⟩,
   ⟨euRun 2 [(3, ⟨.uint, 5⟩), (4, ⟨.uint, 0xFFFFFFFF⟩)], { thread := 2, d := 3, bByte := 4 }, (⟨.uint, 0xFFFFFFFF⟩, euRun 2 [(3, ⟨.uint, 5⟩), (4, ⟨.uint, 0xFFFFFFFF⟩)]), .uint, by decide +kernel⟩,
   ⟨euRun 2 [(3, ⟨.bits, 5⟩), (4, ⟨.bits, 0xFFFFFFFC⟩)], { thread := 2, d := 3, bByte := 4 }, (⟨.bits, 0xFFFFFFFC⟩, euRun 2 [(3, ⟨.bits, 5⟩), (4, ⟨.bits, 0xFFFFFFFC⟩)]), .bits, by decide +kernel⟩,
   ⟨euRun 2 [(3, ⟨.bits, 5⟩), (4, ⟨.bits, 0xFFFFFFFC⟩)], { thread := 2, d := 3, bByte := 4 }, (⟨.bits, 0xFFFFFFFC⟩, euRun 2 [(3, ⟨.bits, 5⟩), (4, ⟨.bits, 0xFFFFFFFC⟩)]), .bits, by decide +kernel⟩,
   ⟨euRun 2 [(3, ⟨.bool, 1⟩), (4, ⟨.bool, 1⟩)], { thread := 2, d := 3, bByte := 4 }, (⟨.bool, 1⟩, euRun 2 [(3, ⟨.bool, 1⟩), (4, ⟨.bool, 1⟩)]), .bool, by decide +kernel⟩,
   ⟨euRun 2 [(3, ⟨.bits, 5⟩), (4, ⟨.bits, 0xFFFFFFFC⟩)], { thread := 2, d := 3, bByte := 4 }, (⟨.bits, 0xFFFFFFFC⟩, euRun 2 [(3, ⟨.bits, 5⟩), (4, ⟨.bits, 0xFFFFFFFC⟩)]), .bits, by decide +kernel⟩,
   ⟨euRun 34 [(3, ⟨.fix, 0x10000⟩), (4, ⟨.fix, 0x20000⟩)], { thread := 34, d := 3, bByte := 4 }, (⟨.fix, 0x20000⟩, euRun 34 [(3, ⟨.fix, 0x10000⟩), (4, ⟨.fix, 0x20000⟩)]), .fix, by decide +kernel⟩,
   ⟨euRun 34 [(3, ⟨.int, 0xFFFFFF00⟩), (4, ⟨.int, 16⟩)], { thread := 34, d := 3, bByte := 4 }, (⟨.int, 16⟩, euRun 34 [(3, ⟨.int, 0xFFFFFF00⟩), (4, ⟨.int, 16⟩)]), .int, by decide +kernel⟩⟩

/-- States and operands that meet the hypotheses of EurnafaRegisters, clause by clause. -/
theorem witness_EurnafaRegisters :
    (∃ (s : State) (op : EurOp) (b : TWord × State) (tg : Tag), s.euIssues (shortDesc) op = true ∧ (s.fetched (shortDesc) op).sourceB op .uint = some b ∧ srcTrap op false (s.euD op) = 0 ∧ srcTrap op false b.1 = 0 ∧ resultTag op (if ((fun t : Tag => t == .bits || t == .uint || t == .int) (s.euD op).tag) = true then some (s.euD op).tag else none) = some tg) ∧
    (∃ (s : State) (op : EurOp) (b : TWord × State) (tg : Tag), s.euIssues (shortDesc) op = true ∧ (s.fetched (shortDesc) op).sourceB op .uint = some b ∧ srcTrap op false (s.euD op) = 0 ∧ srcTrap op false b.1 = 0 ∧ resultTag op (if ((fun t : Tag => t == .bits || t == .uint || t == .int) (s.euD op).tag) = true then some (s.euD op).tag else none) = some tg) ∧
    (∃ (s : State) (op : EurOp) (b : TWord × State) (tg : Tag), s.euIssues (shortDesc) op = true ∧ (s.fetched (shortDesc) op).sourceB op .uint = some b ∧ srcTrap op false (s.euD op) = 0 ∧ srcTrap op false b.1 = 0 ∧ resultTag op (if ((fun t : Tag => t == .int) (s.euD op).tag) = true then some (s.euD op).tag else none) = some tg) ∧
    (∃ (s : State) (op : EurOp) (b : TWord × State) (tg : Tag), s.euIssues (shortDesc) op = true ∧ (s.fetched (shortDesc) op).sourceB op .uint = some b ∧ srcTrap op false (s.euD op) = 0 ∧ srcTrap op false b.1 = 0 ∧ resultTag op (if ((fun t : Tag => t == .bits || t == .uint) (s.euD op).tag) = true then some (s.euD op).tag else none) = some tg) ∧
    (∃ (s : State) (op : EurOp), s.euIssues (dDesc) op = true ∧ srcTrap op false (s.euD op) = 0 ∧ (((fun t : Tag => t == .int || t == .fix) (s.euD op).tag) = true ∨ unchecked op = true) ∧ (s.euD op).val ≠ 0x80000000) ∧
    (∃ (s : State) (op : EurOp), s.euIssues (dDesc) op = true ∧ srcTrap op false (s.euD op) = 0 ∧ ((s.euD op).tag = .int ∨ (s.euD op).tag = .fix ∨ unchecked op = true) ∧ (s.euD op).val = 0x80000000) ∧
    (∃ (s : State) (op : EurOp), s.euIssues (dDesc) op = true ∧ srcTrap op false (s.euD op) = 0 ∧ (((fun t : Tag => t == .int || t == .fix) (s.euD op).tag) = true ∨ unchecked op = true)) ∧
    (∃ (s : State) (op : EurOp), s.euIssues (dDesc) op = true ∧ srcTrap op false (s.euD op) = 0 ∧ (((fun t : Tag => t == .bits || t == .uint || t == .bool) (s.euD op).tag) = true ∨ unchecked op = true)) ∧
    (∃ (s : State) (op : EurOp), s.euIssues (dDesc) op = true ∧ srcTrap op false (s.euD op) = 0 ∧ (((fun t : Tag => t == .bits || t == .uint) (s.euD op).tag) = true ∨ unchecked op = true)) ∧
    (∃ (s : State) (op : EurOp), s.euIssues (dDesc) op = true ∧ srcTrap op false (s.euD op) = 0 ∧ (((fun t : Tag => t == .bits || t == .uint) (s.euD op).tag) = true ∨ unchecked op = true)) ∧
    (∃ (s : State) (op : EurOp), s.euIssues (dDesc) op = true ∧ srcTrap op false (s.euD op) = 0 ∧ (((fun t : Tag => t == .int) (s.euD op).tag) = true ∨ unchecked op = true)) ∧
    (∃ (s : State) (op : EurOp), s.euIssues (dDesc) op = true ∧ srcTrap op false (s.euD op) = 0 ∧ (((fun t : Tag => t == .fix) (s.euD op).tag) = true ∨ unchecked op = true)) ∧
    (∃ (s : State) (op : EurOp), s.euIssues (dDesc) op = true) ∧
    (∃ (s : State) (op : EurOp) (b : TWord × State), s.euIssues (movDesc) op = true ∧ eurHas op .wide = false ∧ (s.fetched (movDesc) op).sourceB op .int = some b ∧ (b.1.tag ≠ .trap ∨ unchecked op = true)) ∧
    (∃ (s : State) (op : EurOp), s.euIssues (movDesc) op = true ∧ eurHas op .wide = true ∧ (unchecked op = true ∨ ((s.euB op).tag ≠ .trap ∧ (s.greg op.thread (bReg op + 1)).tag = (s.euB op).tag))) ∧
    (∃ (s : State) (op : EurOp), s.euIssues (regDesc) op = true) ∧
    (∃ (s : State) (op : EurOp), s.euIssues (imm8Desc) op = true ∧ op.ext.toNat % 256 < 16) ∧
    (∃ (s : State) (op : EurOp), s.euIssues (imm8Desc) op = true ∧ Tag.ofCode op.ext.toNat ≠ .reserved ∧ srcTrap op true (s.euD op) = 0 ∧ (retagPath (s.euD op).tag (Tag.ofCode op.ext.toNat) = true ∨ unchecked op = true)) ∧
    (∃ (s : State) (op : EurOp), s.euIssues (dDesc) op = true ∧ op.d.val ≤ 16) ∧
    (∃ (s : State) (op : EurOp), s.euIssues (macrDesc) op = true ∧ (s.euThread op).acc.toInt % 65536 ≠ 32768) ∧
    (∃ (s : State) (op : EurOp), s.euIssues (macrDesc) op = true ∧ (s.euThread op).acc.toInt % 65536 = 32768) ∧
    (∃ (s : State) (op : EurOp), s.euIssues (clraccDesc) op = true) :=
  ⟨⟨euRun 2 [(3, ⟨.bits, 0x80000003⟩)], { thread := 2, d := 3, mode := .i8, ext := 33 }, (⟨.uint, 33⟩, euRun 2 [(3, ⟨.bits, 0x80000003⟩)]), .bits, by decide +kernel⟩,
   ⟨euRun 2 [(3, ⟨.uint, 0x80000003⟩)], { thread := 2, d := 3, mode := .i8, ext := 33 }, (⟨.uint, 33⟩, euRun 2 [(3, ⟨.uint, 0x80000003⟩)]), .uint, by decide +kernel⟩,
   ⟨euRun 2 [(3, ⟨.int, 0x80000003⟩)], { thread := 2, d := 3, mode := .i8, ext := 33 }, (⟨.uint, 33⟩, euRun 2 [(3, ⟨.int, 0x80000003⟩)]), .int, by decide +kernel⟩,
   ⟨euRun 2 [(3, ⟨.bits, 0x80000003⟩)], { thread := 2, d := 3, mode := .i8, ext := 33 }, (⟨.uint, 33⟩, euRun 2 [(3, ⟨.bits, 0x80000003⟩)]), .bits, by decide +kernel⟩,
   ⟨euRun 2 [(3, ⟨.int, 5⟩)], { thread := 2, d := 3 }, by decide +kernel⟩,
   ⟨euRun 2 [(3, ⟨.int, 0x80000000⟩)], { thread := 2, d := 3 }, by decide +kernel⟩,
   ⟨euRun 2 [(3, ⟨.int, 0x80000000⟩)], { thread := 2, d := 3 }, by decide +kernel⟩,
   ⟨euRun 2 [(3, ⟨.bool, 1⟩)], { thread := 2, d := 3 }, by decide +kernel⟩,
   ⟨euRun 2 [(3, ⟨.bits, 0x11223344⟩)], { thread := 2, d := 3 }, by decide +kernel⟩,
   ⟨euRun 2 [(3, ⟨.bits, 0x00223344⟩)], { thread := 2, d := 3 }, by decide +kernel⟩,
   ⟨euRun 2 [(3, ⟨.int, 0x223344⟩)], { thread := 2, d := 3 }, by decide +kernel⟩,
   ⟨euRun 2 [(3, ⟨.fix, 0xFFFF8000⟩)], { thread := 2, d := 3 }, by decide +kernel⟩,
   ⟨euRun 2 [(3, ⟨.int, 5⟩)], { thread := 2, d := 3 }, by decide +kernel⟩,
   ⟨euRun 2 [(4, ⟨.nil, 7⟩)], { thread := 2, d := 3, bByte := 4 }, (⟨.nil, 7⟩, euRun 2 [(4, ⟨.nil, 7⟩)]), by decide +kernel⟩,
   ⟨euRun 2 [(4, ⟨.int, 7⟩), (5, ⟨.int, 8⟩)], { thread := 2, d := 2, bByte := 4, prefixes := [.wide] }, by decide +kernel⟩,
   ⟨euRun 2 [(4, ⟨.trap, 7⟩)], { thread := 2, d := 3, bByte := 4 }, by decide +kernel⟩,
   ⟨euRun 2 [(3, ⟨.time, 5⟩)], { thread := 2, d := 3, mode := .i8, ext := 6 }, by decide +kernel⟩,
   ⟨euRun 2 [(3, ⟨.bits, 5⟩)], { thread := 2, d := 3, mode := .i8, ext := 6 }, by decide +kernel⟩,
   ⟨euRun 2 [], { thread := 2, d := 1 }, by decide +kernel⟩,
   ⟨atRun.setThread 34 { threadReset 34 with run := .running, acc := 0x3C000 }, { thread := 34, d := 5 }, by decide +kernel⟩,
   ⟨atRun.setThread 34 { threadReset 34 with run := .running, acc := 0x38000 }, { thread := 34, d := 5 }, by decide +kernel⟩,
   ⟨atRun.setThread 34 { threadReset 34 with run := .running, acc := 0x38000 }, { thread := 34 }, by decide +kernel⟩⟩

/-- States and operands that meet the hypotheses of EurnafaMemory, clause by clause. -/
theorem witness_EurnafaMemory :
    (∃ (s : State) (op : EurOp) (a : Nat) (w : TWord × State), s.euIssues (ldDesc) op = true ∧ eurHas op .wide = false ∧ (s.fetched (ldDesc) op).tagAddr op 1 = some a ∧ (s.fetched (ldDesc) op).tagWord op a = some w) ∧
    (∃ (s : State) (op : EurOp) (a : Nat) (w : TWord × State) (x : TWord × State), s.euIssues (ldDesc) op = true ∧ eurHas op .wide = true ∧ (s.fetched (ldDesc) op).tagAddr op 2 = some a ∧ (s.fetched (ldDesc) op).tagWord op a = some w ∧ w.2.tagWord op (a + 1) = some x) ∧
    (∃ (s : State) (op : EurOp) (a : Nat) (w : TWord), s.euIssues (stDesc) op = true ∧ eurHas op .wide = false ∧ w = (if op.mode = .mi then immOf op .int else s.euD op) ∧ (w.tag ≠ .trap ∨ unchecked op = true) ∧ (s.fetched (stDesc) op).tagAddr op 1 = some a ∧ s.bankBusy (placeOf op a).1 = false ∧ collides op = false ∧ (s.fetched (stDesc) op).rd Reg.MEM_INJ_ARM = 0) ∧
    (∃ (s : State) (op : EurOp) (a : Nat) (w : TWord) (x : TWord), s.euIssues (stDesc) op = true ∧ eurHas op .wide = true ∧ w = s.euD op ∧ x = s.greg op.thread (op.d + 1) ∧ ((w.tag ≠ .trap ∧ x.tag = w.tag) ∨ unchecked op = true) ∧ (s.fetched (stDesc) op).tagAddr op 2 = some a ∧ s.bankBusy (placeOf op a).1 = false ∧ s.bankBusy (placeOf op (a + 1)).1 = false ∧ collides op = false ∧ (s.fetched (stDesc) op).rd Reg.MEM_INJ_ARM = 0) ∧
    (∃ (s : State) (op : EurOp) (a : Nat) (w : TWord), s.euIssues (stDesc) op = true ∧ eurHas op .wide = false ∧ w = (if op.mode = .mi then immOf op .int else s.euD op) ∧ (w.tag ≠ .trap ∨ unchecked op = true) ∧ (s.fetched (stDesc) op).tagAddr op 1 = some a ∧ s.bankBusy (placeOf op a).1 = false ∧ collides op = true) ∧
    (∃ (s : State) (op : EurOp), s.euIssues (dDesc) op = true ∧ (s.euD op).tag ≠ .trap ∧ (s.greg op.thread 31).tag = .ptr ∧ ((s.greg op.thread 31).val - 1).toNat < localWords op.thread ∧ s.bankBusy (localBank op.thread) = false ∧ (s.fetched (dDesc) op).rd Reg.MEM_INJ_ARM = 0) ∧
    (∃ (s : State) (op : EurOp) (w : TWord × State), s.euIssues (dDesc) op = true ∧ (s.greg op.thread 31).tag = .ptr ∧ (s.greg op.thread 31).val.toNat < localWords op.thread ∧ (s.fetched (dDesc) op).tagWord op (s.greg op.thread 31).val.toNat = some w) ∧
    (∃ (s : State) (op : EurOp) (a : Nat), s.euIssues (byteDesc) op = true ∧ (s.fetched (byteDesc) op).packetAddr op (if eurHas op .byte then 1 else 4) = some a) ∧
    (∃ (s : State) (op : EurOp) (a : Nat), s.euIssues (packetDesc) op = true ∧ (s.fetched (packetDesc) op).packetAddr op (2) = some a) ∧
    (∃ (s : State) (op : EurOp) (a : Nat) (w : MemWord), s.euIssues (byteDesc) op = true ∧ srcTrap op false (s.euD op) = 0 ∧ ((s.euD op).tag = .bits ∨ (s.euD op).tag = .uint ∨ (s.euD op).tag = .int ∨ unchecked op = true) ∧ (s.fetched (byteDesc) op).packetAddr op (if eurHas op .byte then 1 else 4) = some a ∧ w = (s.fetched (byteDesc) op).word (packetPlace a).1 (packetPlace a).2 ∧ w.poisoned = false ∧ w.ecc = .clean) ∧
    (∃ (s : State) (op : EurOp) (a : Nat) (w : MemWord), s.euIssues (packetDesc) op = true ∧ srcTrap op false (s.euD op) = 0 ∧ ((s.euD op).tag = .bits ∨ (s.euD op).tag = .uint ∨ (s.euD op).tag = .int ∨ unchecked op = true) ∧ (s.fetched (packetDesc) op).packetAddr op (2) = some a ∧ w = (s.fetched (packetDesc) op).word (packetPlace a).1 (packetPlace a).2 ∧ w.poisoned = false ∧ w.ecc = .clean) ∧
    (∃ (s : State) (op : EurOp) (a : Nat) (w : TWord × State), s.euIssues (lockDesc) op = true ∧ (s.fetched (lockDesc) op).tagAddr op 1 = some a ∧ (s.fetched (lockDesc) op).tagWord op a = some w ∧ (w.1.tag ≠ .trap ∨ unchecked op = true) ∧ collides op = false ∧ w.2.rd Reg.MEM_INJ_ARM = 0 ∧ ((s.euD op).tag ≠ .trap ∨ unchecked op = true)) ∧
    (∃ (s : State) (op : EurOp) (a : Nat) (w : TWord × State) (tg : Tag), s.euIssues (lockDesc) op = true ∧ (s.fetched (lockDesc) op).tagAddr op 1 = some a ∧ (s.fetched (lockDesc) op).tagWord op a = some w ∧ (w.1.tag ≠ .trap ∨ unchecked op = true) ∧ collides op = false ∧ w.2.rd Reg.MEM_INJ_ARM = 0 ∧ srcTrap op false (s.euD op) = 0 ∧ srcTrap op false w.1 = 0 ∧ resultTag op (addPair w.1.tag (s.euD op).tag) = some tg) ∧
    (∃ (s : State) (op : EurOp) (a : Nat) (w : TWord × State), s.euIssues (lockDesc) op = true ∧ (s.fetched (lockDesc) op).tagAddr op 1 = some a ∧ (s.fetched (lockDesc) op).tagWord op a = some w ∧ (w.1.tag ≠ .trap ∨ unchecked op = true) ∧ collides op = false ∧ w.2.rd Reg.MEM_INJ_ARM = 0 ∧ op.d.val % 2 = 0 ∧ ((s.euD op).tag ≠ .trap ∨ unchecked op = true) ∧ ((s.greg op.thread (op.d + 1)).tag ≠ .trap ∨ unchecked op = true)) ∧
    (∃ (s : State) (op : EurOp) (a : Nat) (w : TWord × State) (c : Instr), s.euIssues (lockDesc) op = true ∧ (c = .euXchg op ∨ (c = .euCas op ∧ op.d.val % 2 = 0) ∨ (c = .euXadd op ∧ srcTrap op false (s.euD op) = 0 ∧ srcTrap op false w.1 = 0 ∧ (addPair w.1.tag (s.euD op).tag).isSome = true)) ∧ (s.fetched (lockDesc) op).tagAddr op 1 = some a ∧ (s.fetched (lockDesc) op).tagWord op a = some w ∧ w.1.tag ≠ .trap ∧ collides op = true ∧ unchecked op = false ∧ (s.euD op).tag ≠ .trap ∧ (s.greg op.thread (op.d + 1)).tag ≠ .trap) ∧
    (∃ (s : State) (op : EurOp) (w : TWord × State), s.euIssues (copyDesc) op = true ∧ eurHas op .rep = false ∧ unchecked op = false ∧ (s.euD op).tag = .ptr ∧ (s.euB op).tag = .ptr ∧ (s.fetched (copyDesc) op).spaceHas op 1 (s.euD op).val.toNat = true ∧ (s.fetched (copyDesc) op).spaceHas op 1 (s.euB op).val.toNat = true ∧ (s.fetched (copyDesc) op).tagWord op (s.euB op).val.toNat = some w ∧ w.1.tag ≠ .trap ∧ w.2.bankBusy (placeOf op (s.euD op).val.toNat).1 = false ∧ collides op = false ∧ w.2.rd Reg.MEM_INJ_ARM = 0) ∧
    (∃ (s : State) (op : EurOp), s.euIssues (copyDesc) op = true ∧ eurHas op .rep = false ∧ ((s.euD op).tag = .ptr ∨ unchecked op = true) ∧ ((s.euB op).tag ≠ .trap ∨ unchecked op = true) ∧ (s.fetched (copyDesc) op).spaceHas op 1 (s.euD op).val.toNat = true ∧ (s.fetched (copyDesc) op).bankBusy (placeOf op (s.euD op).val.toNat).1 = false ∧ collides op = false ∧ (s.fetched (copyDesc) op).rd Reg.MEM_INJ_ARM = 0) ∧
    (∃ (s : State) (op : EurOp) (c : Instr), ((c = .euCopyw op ∧ s.euIssues copyDesc op = true) ∨ (c = .euFillw op ∧ s.euIssues copyDesc op = true) ∨ (c = .euCopyp op ∧ s.euIssues movePacketDesc op = true) ∨ (c = .euCrc32c op ∧ s.euIssues movePacketDesc op = true)) ∧ eurHas op .rep = true ∧ (s.greg op.thread 29).tag = .uint ∧ (s.greg op.thread 29).val = 0) ∧
    (∃ (s : State) (op : EurOp) (n : Fin 8), s.euIssues (copyDesc) op = true ∧ eurHas op .rep = true ∧ unchecked op = false ∧ (s.euD op).tag = .ptr ∧ (s.euB op).tag ≠ .trap ∧ (s.greg op.thread 29) = ⟨.uint, BitVec.ofNat 32 n⟩ ∧ (s.fetched (copyDesc) op).spaceHas op n (s.euD op).val.toNat = true ∧ op.d ≠ 29 ∧ bReg op ≠ 29 ∧ bReg op ≠ op.d ∧ s.mem.run = none ∧ collides op = false ∧ (s.fetched (copyDesc) op).rd Reg.MEM_INJ_ARM = 0) ∧
    (∃ (s : State) (op : EurOp) (w : MemWord), s.euIssues (movePacketDesc) op = true ∧ eurHas op .rep = false ∧ unchecked op = false ∧ (s.euD op).tag = .bptr ∧ (s.euB op).tag = .bptr ∧ (s.fetched (movePacketDesc) op).packetHas op (s.euD op).val.toNat = true ∧ (s.fetched (movePacketDesc) op).packetHas op (s.euB op).val.toNat = true ∧ s.mem.run = none ∧ ((s.fetched (movePacketDesc) op).packetRead op (s.euB op).val.toNat 1).1 = false ∧ w = ((s.fetched (movePacketDesc) op).packetRead op (s.euB op).val.toNat 1).2.2.word (packetPlace (s.euD op).val.toNat).1 (packetPlace (s.euD op).val.toNat).2 ∧ w.poisoned = false ∧ w.ecc = .clean) ∧
    (∃ (s : State) (op : EurOp), s.euIssues (movePacketDesc) op = true ∧ eurHas op .rep = false ∧ (s.euD op).tag = .uint ∧ (s.euB op).tag = .bptr ∧ (s.fetched (movePacketDesc) op).packetHas op (s.euB op).val.toNat = true ∧ s.mem.run = none ∧ ((s.fetched (movePacketDesc) op).packetRead op (s.euB op).val.toNat 1).1 = false) :=
  ⟨⟨(euRun 2 [(3, ⟨.int, 3⟩), (4, ⟨.ptr, 9⟩)]).setWord 0x11 10 { tag := .int, val := 8 }, { thread := 2, d := 3, mode := .m8, bByte := 4, ext := 1 }, 10, (⟨.int, 8⟩, (euRun 2 [(3, ⟨.int, 3⟩), (4, ⟨.ptr, 9⟩)]).setWord 0x11 10 { tag := .int, val := 8 }), by decide +kernel⟩,
   ⟨(euRun 2 [(4, ⟨.ptr, 9⟩)]).setWord 0x11 10 { tag := .int, val := 8 }, { thread := 2, d := 2, mode := .m8, bByte := 4, ext := 1, prefixes := [.wide] }, 10, (⟨.int, 8⟩, (euRun 2 [(4, ⟨.ptr, 9⟩)]).setWord 0x11 10 { tag := .int, val := 8 }), (⟨.nil, 0⟩, (euRun 2 [(4, ⟨.ptr, 9⟩)]).setWord 0x11 10 { tag := .int, val := 8 }), by decide +kernel⟩,
   ⟨euRun 2 [(2, ⟨.time, 5⟩), (4, ⟨.ptr, 9⟩)], { thread := 2, d := 2, mode := .m8, bByte := 4, ext := 1 }, 10, ⟨.time, 5⟩, by decide +kernel⟩,
   ⟨euRun 2 [(2, ⟨.time, 5⟩), (3, ⟨.time, 6⟩), (4, ⟨.ptr, 9⟩)], { thread := 2, d := 2, mode := .m8, bByte := 4, ext := 1, prefixes := [.wide] }, 10, ⟨.time, 5⟩, ⟨.time, 6⟩, by decide +kernel⟩,
   ⟨euHeld 2 [(2, ⟨.time, 5⟩), (4, ⟨.ptr, 69641⟩)], { thread := 2, d := 2, mode := .m8, bByte := 4, ext := 1, prefixes := [.shared], collided := true }, 69642, ⟨.time, 5⟩, by decide +kernel⟩,
   ⟨euRun 2 [(2, ⟨.nil, 5⟩), (31, ⟨.ptr, 16384⟩)], { thread := 2, d := 2 }, by decide +kernel⟩,
   ⟨euRun 2 [(31, ⟨.ptr, 16383⟩)], { thread := 2, d := 2 }, (⟨.nil, 0⟩, euRun 2 [(31, ⟨.ptr, 16383⟩)]), by decide +kernel⟩,
   ⟨euHeld 2 [(4, ⟨.bptr, 1024⟩)], { thread := 2, d := 2, mode := .m8, bByte := 4, ext := 4 }, 1028, by decide +kernel⟩,
   ⟨euHeld 2 [(4, ⟨.bptr, 1024⟩)], { thread := 2, d := 2, mode := .m8, bByte := 4, ext := 6 }, 1030, by decide +kernel⟩,
   ⟨euHeld 2 [(2, ⟨.bits, 0x11223344⟩), (4, ⟨.bptr, 1024⟩)], { thread := 2, d := 2, mode := .m8, bByte := 4, ext := 4 }, 1028, {}, by decide +kernel⟩,
   ⟨euHeld 2 [(2, ⟨.bits, 0x11223344⟩), (4, ⟨.bptr, 1024⟩)], { thread := 2, d := 2, mode := .m8, bByte := 4, ext := 6 }, 1030, {}, by decide +kernel⟩,
   ⟨(euRun 2 [(2, ⟨.int, 5⟩), (3, ⟨.int, 8⟩), (4, ⟨.ptr, 9⟩)]).setWord 0x11 10 { tag := .int, val := 8 }, { thread := 2, d := 2, mode := .m8, bByte := 4, ext := 1, prefixes := [.lock] }, 10, (⟨.int, 8⟩, (euRun 2 [(2, ⟨.int, 5⟩), (3, ⟨.int, 8⟩), (4, ⟨.ptr, 9⟩)]).setWord 0x11 10 { tag := .int, val := 8 }), by decide +kernel⟩,
   ⟨(euRun 2 [(2, ⟨.int, 5⟩), (3, ⟨.int, 8⟩), (4, ⟨.ptr, 9⟩)]).setWord 0x11 10 { tag := .int, val := 8 }, { thread := 2, d := 2, mode := .m8, bByte := 4, ext := 1, prefixes := [.lock] }, 10, (⟨.int, 8⟩, (euRun 2 [(2, ⟨.int, 5⟩), (3, ⟨.int, 8⟩), (4, ⟨.ptr, 9⟩)]).setWord 0x11 10 { tag := .int, val := 8 }), .int, by decide +kernel⟩,
   ⟨(euRun 2 [(2, ⟨.int, 5⟩), (3, ⟨.int, 8⟩), (4, ⟨.ptr, 9⟩)]).setWord 0x11 10 { tag := .int, val := 8 }, { thread := 2, d := 2, mode := .m8, bByte := 4, ext := 1, prefixes := [.lock] }, 10, (⟨.int, 8⟩, (euRun 2 [(2, ⟨.int, 5⟩), (3, ⟨.int, 8⟩), (4, ⟨.ptr, 9⟩)]).setWord 0x11 10 { tag := .int, val := 8 }), by decide +kernel⟩,
   ⟨euHeld 2 [(2, ⟨.int, 5⟩), (3, ⟨.int, 8⟩), (4, ⟨.ptr, 69641⟩)], { thread := 2, d := 2, mode := .m8, bByte := 4, ext := 1, prefixes := [.shared, .lock], collided := true }, 69642, (⟨.nil, 0⟩, euHeld 2 [(2, ⟨.int, 5⟩), (3, ⟨.int, 8⟩), (4, ⟨.ptr, 69641⟩)]), .euXchg { thread := 2, d := 2, mode := .m8, bByte := 4, ext := 1, prefixes := [.shared, .lock], collided := true }, by decide +kernel⟩,
   ⟨(euRun 2 [(2, ⟨.ptr, 20⟩), (4, ⟨.ptr, 9⟩)]).setWord 0x11 9 { tag := .time, val := 8 }, { thread := 2, d := 2, bByte := 4 }, (⟨.time, 8⟩, (euRun 2 [(2, ⟨.ptr, 20⟩), (4, ⟨.ptr, 9⟩)]).setWord 0x11 9 { tag := .time, val := 8 }), by decide +kernel⟩,
   ⟨euRun 2 [(2, ⟨.ptr, 20⟩), (4, ⟨.fix, 9⟩)], { thread := 2, d := 2, bByte := 4 }, by decide +kernel⟩,
   ⟨euRun 2 [(29, ⟨.uint, 0⟩)], { thread := 2, d := 2, bByte := 4, prefixes := [.rep] }, .euFillw { thread := 2, d := 2, bByte := 4, prefixes := [.rep] }, by decide +kernel⟩,
   ⟨euRun 2 [(2, ⟨.ptr, 16380⟩), (4, ⟨.fix, 9⟩), (29, ⟨.uint, 4⟩)], { thread := 2, d := 2, bByte := 4, prefixes := [.rep] }, 4, by decide +kernel⟩,
   ⟨(euHeld 2 [(2, ⟨.bptr, 20⟩), (4, ⟨.bptr, 9⟩)]).setWord 8 1 { val := 0x77EE00 }, { thread := 2, d := 2, bByte := 4 }, {}, by decide +kernel⟩,
   ⟨(euHeld 2 [(2, ⟨.uint, 20⟩), (4, ⟨.bptr, 9⟩)]).setWord 8 1 { val := 0x77EE00 }, { thread := 2, d := 2, bByte := 4 }, by decide +kernel⟩⟩

/-- States and operands that meet the hypotheses of EurnafaControl, clause by clause. -/
theorem witness_EurnafaControl :
    (∃ (s : State) (op : EurOp), s.euIssues (nDesc) op = true) ∧
    (∃ (s : State) (op : EurOp), s.euIssues (haltDesc) op = true) ∧
    (∃ (s : State) (op : EurOp), s.euIssues (nDesc) op = true ∧ (s.greg op.thread 30).tag = .code) ∧
    (∃ (s : State) (op : EurOp), s.euIssues (nDesc) op = true) ∧
    (∃ (s : State) (op : EurOp), s.euIssues (rttDesc) op = true ∧ (s.euThread op).tactive = true) ∧
    (∃ (s : State) (op : EurOp), s.euIssues (shortDesc) op = true ∧ op.d.val ≤ 16 ∧ condHolds op.d (s.euThread op).flags (s.euThread op).p = some true ∧ (op.mode ≠ .reg ∨ (s.euB op).tag = .code)) ∧
    (∃ (s : State) (op : EurOp), s.euIssues (shortDesc) op = true ∧ condHolds op.d (s.euThread op).flags (s.euThread op).p = some false) ∧
    (∃ (s : State) (op : EurOp), s.euIssues (callDesc) op = true ∧ op.d.val = 0 ∧ (op.mode ≠ .reg ∨ (s.euB op).tag = .code)) ∧
    (∃ (s : State) (op : EurOp), s.euIssues (loopDesc) op = true ∧ op.d.val = 0 ∧ (s.greg op.thread 29).tag = .uint) ∧
    (∃ (s : State) (op : EurOp), s.euIssues (loopDesc) op = true) ∧
    (∃ (s : State) (op : EurOp), s.euIssues (liveDesc) op = true) ∧
    (∃ (s : State) (op : EurOp), s.euIssues (liveDesc) op = true) ∧
    (∃ (s : State) (op : EurOp), s.euIssues (dDesc) op = true ∧ ((s.euD op).tag = .angle ∨ (s.euD op).tag = .time)) ∧
    (∃ (s : State) (i : Fin 35) (w : TWord), (s.thread i).run = .waitUntil w) ∧
    (∃ (s : State) (i : Fin 35), ((s.thread i).run = .waiting ∨ (s.thread i).run = .stopped)) ∧
    (∃ (s : State) (op : EurOp), s.euIssues (imm8Desc) op = true ∧ hasSpecial op.thread (immOf op .uint).val.toNat = true) ∧
    (∃ (s : State) (op : EurOp) (n : Nat), s.euIssues (imm8Desc) op = true ∧ n = (immOf op .uint).val.toNat ∧ hasSpecial op.thread n = true ∧ specialTag n = some (s.euD op).tag ∧ (n ≠ 6 ∨ (s.euD op).val.toNat % 256 = 0)) ∧
    (∃ (s : State) (op : EurOp) (a : Nat) (x : Writer), s.euIssues (ioDesc) op = true ∧ a = (if op.mode = .reg then s.euB op else immOf op .uint).val.toNat ∧ (if op.mode = .reg then s.euB op else immOf op .uint).tag = .uint ∧ (s.fetched (ioDesc) op).writerOf op.thread = some x ∧ (s.fetched (ioDesc) op).inReach op.thread a = true ∧ busFails ((s.fetched (ioDesc) op).expertRead a (srcOf op.thread) op.crc).1 = false) ∧
    (∃ (s : State) (op : EurOp) (a : Nat) (x : Writer), s.euIssues (ioDesc) op = true ∧ a = (if op.mode = .reg then s.euB op else immOf op .uint).val.toNat ∧ (if op.mode = .reg then s.euB op else immOf op .uint).tag = .uint ∧ ((s.euD op).tag = .bits ∨ (s.euD op).tag = .uint ∨ (s.euD op).tag = .int) ∧ (s.fetched (ioDesc) op).writerOf op.thread = some x ∧ (s.fetched (ioDesc) op).inReach op.thread a = true ∧ busFails ((s.fetched (ioDesc) op).expertWrite a (s.euD op).val.toNat x (srcOf op.thread) op.crc).1 = false) ∧
    (∃ (s : State) (op : EurOp) (c : Instr), eurnafaOp c = some op ∧ s.mayIssue op.thread = true ∧ op.fetchBad = false ∧ (s.fetchFails op.thread (eurLen (eurnafaDesc c) op)).1 = false ∧ encIllegal (eurnafaDesc c) op = false ∧ eurnafaBadOperand c = false ∧ inProfile (eurnafaDesc c) op.thread = true ∧ eurnafaNoOpcode s c = false ∧ ((eurHas op .predT = true ∧ (s.euThread op).p = false) ∨ (eurHas op .predF = true ∧ (s.euThread op).p = true))) ∧
    (∃ (s : State) (op : EurOp) (c : Instr), eurnafaOp c = some op ∧ s.mayIssue op.thread = false) :=
  ⟨⟨euRun 2 [], { thread := 2 }, by decide +kernel⟩,
   ⟨euRun 2 [], { thread := 2 }, by decide +kernel⟩,
   ⟨euRun 2 [(30, ⟨.code, 0x40⟩)], { thread := 2 }, by decide +kernel⟩,
   ⟨euRun 2 [], { thread := 2 }, by decide +kernel⟩,
   ⟨atRun.setThread 2 { threadReset 2 with run := .running, tactive := true, tpc := 0x44, tfl := 0x15 }, { thread := 2 }, by decide +kernel⟩,
   ⟨euRun 2 [], { thread := 2, mode := .i8, ext := 0xF0 }, by decide +kernel⟩,
   ⟨euRun 2 [], { thread := 2, d := 1, mode := .i8, ext := 0xF0 }, by decide +kernel⟩,
   ⟨euRun 2 [], { thread := 2, mode := .i16, ext := 0x100 }, by decide +kernel⟩,
   ⟨euRun 2 [(29, ⟨.uint, 1⟩)], { thread := 2, mode := .i8, ext := 0xF0 }, by decide +kernel⟩,
   ⟨euRun 2 [(3, ⟨.nil, 1⟩)], { thread := 2, d := 3, mode := .i8, ext := 0xF0 }, by decide +kernel⟩,
   ⟨euRun 2 [], { thread := 2, d := 3 }, by decide +kernel⟩,
   ⟨euRun 2 [], { thread := 2, d := 3 }, by decide +kernel⟩,
   ⟨euRun 2 [(3, ⟨.time, 5⟩)], { thread := 2, d := 3 }, by decide +kernel⟩,
   ⟨atRun.setThread 5 { threadReset 5 with run := .waitUntil ⟨.time, 0⟩ }, 5, ⟨.time, 0⟩, by decide +kernel⟩,
   ⟨State.reset, 5, by decide +kernel⟩,
   ⟨euRun 2 [], { thread := 2, d := 3, mode := .i8, ext := 7 }, by decide +kernel⟩,
   ⟨euRun 2 [(3, ⟨.code, 0x1200⟩)], { thread := 2, d := 3, mode := .i8, ext := 6 }, 6, by decide +kernel⟩,
   ⟨euRun 0 [(4, ⟨.uint, 0x40000004⟩)], { thread := 0, d := 3, bByte := 4 }, 0x40000004, .weaver, by decide +kernel⟩,
   ⟨euRun 0 [(4, ⟨.uint, 0x40070104⟩), (3, ⟨.bits, 5⟩)], { thread := 0, d := 3, bByte := 4 }, 0x40070104, .weaver, by decide +kernel⟩,
   ⟨euRun 2 [], { thread := 2, d := 3, mode := .i8, prefixes := [.predT] }, .euAnd { thread := 2, d := 3, mode := .i8, prefixes := [.predT] }, by decide +kernel⟩,
   ⟨atRun, { thread := 5 }, .euAdd { thread := 5 }, by decide +kernel⟩⟩

/-- States and operands that meet the hypotheses of EurnafaTraps, clause by clause. -/
theorem witness_EurnafaTraps :
    (∃ (s : State) (op : EurOp) (c : Instr), eurnafaOp c = some op ∧ s.mayIssue op.thread = true ∧ (op.fetchBad = true ∨ (s.fetchFails op.thread (eurLen (eurnafaDesc c) op)).1 = true) ∧ (s.euThread op).tactive = false) ∧
    (∃ (s : State) (op : EurOp) (c : Instr), eurnafaOp c = some op ∧ s.mayIssue op.thread = true ∧ op.fetchBad = false ∧ (s.fetchFails op.thread (eurLen (eurnafaDesc c) op)).1 = false ∧ (encIllegal (eurnafaDesc c) op = true ∨ eurnafaBadOperand c = true) ∧ (s.euThread op).tactive = false) ∧
    (∃ (s : State) (op : EurOp) (c : Instr), eurnafaOp c = some op ∧ s.mayIssue op.thread = true ∧ op.fetchBad = false ∧ (s.fetchFails op.thread (eurLen (eurnafaDesc c) op)).1 = false ∧ encIllegal (eurnafaDesc c) op = false ∧ eurnafaBadOperand c = false ∧ (inProfile (eurnafaDesc c) op.thread = false ∨ eurnafaNoOpcode s c = true) ∧ (s.euThread op).tactive = false) ∧
    (∃ (s : State) (op : EurOp) (b : TWord × State), s.euIssues (aluDesc) op = true ∧ (s.fetched (aluDesc) op).sourceB op (immTag (s.euD op).tag) = some b ∧ srcTrap op false (s.euD op) = 0 ∧ srcTrap op false b.1 = 0 ∧ unchecked op = false ∧ allTags.any (fun x => (logicPair (s.euD op).tag x).isSome) = true ∧ logicPair (s.euD op).tag b.1.tag = none ∧ (s.euThread op).tactive = false) ∧
    (∃ (s : State) (op : EurOp) (x : Nat), s.euIssues (aluDesc) op = true ∧ (s.euD op).tag = (if x = 4 then .nil else .trap) ∧ (x = 4 ∨ x = 5) ∧ unchecked op = false ∧ (s.euThread op).tactive = false) ∧
    (∃ (s : State) (op : EurOp) (b : TWord × State), s.euIssues (divDesc) op = true ∧ (s.fetched (divDesc) op).sourceB op (immTag (s.euD op).tag) = some b ∧ srcTrap op false (s.euD op) = 0 ∧ srcTrap op false b.1 = 0 ∧ (mulPair (s.euD op).tag b.1.tag).isSome = true ∧ b.1.val = 0 ∧ (s.euThread op).tactive = false) ∧
    (∃ (s : State) (op : EurOp), s.euIssues (ldDesc) op = true ∧ eurHas op .wide = false ∧ (op.mode = .a16 ∨ (s.euB op).tag = .ptr) ∧ unchecked op = false ∧ (s.fetched (ldDesc) op).spaceHas op 1 (if op.mode = .a16 then (op.ext.setWidth 16).toNat else ((s.euB op).val + dispOf op).toNat) = false ∧ (s.euThread op).tactive = false) ∧
    (∃ (s : State) (op : EurOp), s.euIssues (imm8Desc) op = true ∧ (s.euThread op).tactive = false) ∧
    (∃ (s : State) (op : EurOp), op.thread = 34 ∧ s.mayIssue 34 = true ∧ op.fetchBad = true ∧ (s.thread 34).tactive = true) :=
  ⟨⟨euRun 2 [], { thread := 2, fetchBad := true }, .euAdd { thread := 2, fetchBad := true }, by decide +kernel⟩,
   ⟨euRun 2 [], { thread := 2, mode := .mi }, .euAnd { thread := 2, mode := .mi }, by decide +kernel⟩,
   ⟨euRun 2 [], { thread := 2, d := 3 }, .euDiv { thread := 2, d := 3 }, by decide +kernel⟩,
   ⟨euRun 2 [(3, ⟨.bits, 5⟩), (4, ⟨.int, 6⟩)], { thread := 2, d := 3, bByte := 4 }, (⟨.int, 6⟩, euRun 2 [(3, ⟨.bits, 5⟩), (4, ⟨.int, 6⟩)]), by decide +kernel⟩,
   ⟨euRun 2 [(3, ⟨.trap, 5⟩)], { thread := 2, d := 3 }, 5, by decide +kernel⟩,
   ⟨euRun 34 [(3, ⟨.int, 5⟩), (4, ⟨.int, 0⟩)], { thread := 34, d := 3, bByte := 4 }, (⟨.int, 0⟩, euRun 34 [(3, ⟨.int, 5⟩), (4, ⟨.int, 0⟩)]), by decide +kernel⟩,
   ⟨euRun 2 [(4, ⟨.ptr, 16384⟩)], { thread := 2, d := 2, mode := .m8, bByte := 4 }, by decide +kernel⟩,
   ⟨euRun 2 [], { thread := 2, mode := .i8, ext := 0x55 }, by decide +kernel⟩,
   ⟨(atRun.setThread 34 { threadReset 34 with tactive := true }).grTo 2 3, { thread := 34, fetchBad := true }, by decide +kernel⟩⟩

/-- States and operands that meet the hypotheses of GrilorLinks, clause by clause. -/
theorem witness_GrilorLinks :
    (∃ (s : State) (i : Fin 2), s.glState i = 0 ∧ s.portUsed i = true) ∧
    (∃ (s : State) (i : Fin 2), (s.glState i ≠ 0 ∨ s.portUsed i = false)) ∧
    (∃ (s : State) (i : Fin 10), s.glState i = 1 ∧ s.portUsed i = true ∧ (2 ≤ i.val ∨ s.passed (.glLock i) (msCycles + 1) = false) ∧ s.role = 2 ∧ s.boot ≠ 2) ∧
    (∃ (s : State) (i : Fin 10), s.glState i = 1 ∧ s.portUsed i = true ∧ (2 ≤ i.val ∨ s.passed (.glLock i) (msCycles + 1) = false)) ∧
    (∃ (s : State) (i : Fin 10), (s.glState i ≠ 1 ∨ s.portUsed i = false ∨ (i.val < 2 ∧ s.passed (.glLock i) (msCycles + 1) = true))) ∧
    (∃ (s : State) (i : Fin 10) (c : Instr), (c = .grilorLinkDown i ∨ (∃ k : Fin 8, c = .keepaliveTimeout k ∧ i.val = k + 2 ∧ s.passed (.alive k) (30 * msCycles) = true)) ∧ s.glState i ≠ 0) ∧
    (∃ (s : State) (i : Fin 10), s.glState i = 0) ∧
    (∃ (s : State) (i : Fin 10) (ack : Byte) (n : Nat), s.glState i = 2 ∧ (s.glink i).waiting = [] ∧ (s.glink i).unacked.length ≤ 16 ∧ 1 ≤ n ∧ n ≤ (s.glink i).unacked.length ∧ ack.toNat = ((s.glink i).txNext + 255 + n - (s.glink i).unacked.length) % 256 ∧ (s.glink i).unacked.any s.ownRequest = false) ∧
    (∃ (s : State) (i : Fin 10) (ack : Byte) (c : Instr), ((c = .replayTimeout i ∧ (s.glink i).sent.headD 0 + (if i.val < 2 then 30000 else 2 * msCycles) ≤ s.cycle) ∨ (c = .glNak i ack true ∧ ack.toNat = ((s.glink i).txNext + 255 - (s.glink i).unacked.length) % 256 ∧ (s.glink i).unacked.length ≤ 16)) ∧ s.glState i = 2 ∧ (s.glink i).unacked ≠ [] ∧ (s.glink i).replays < 7) ∧
    (∃ (s : State) (i : Fin 10), s.glState i = 2 ∧ (s.glink i).unacked ≠ [] ∧ 7 ≤ (s.glink i).replays ∧ (s.glink i).sent.headD 0 + (if i.val < 2 then 30000 else 2 * msCycles) ≤ s.cycle) ∧
    (∃ (s : State) (h : GHead) (c : Instr), (glFrame c = some h ∨ c = .glAck h.link h.ack h.crcOk ∨ c = .glNak h.link h.ack h.crcOk) ∧ s.glState h.link = 2 ∧ (h.crcOk = false ∨ (glFrame c = some h ∧ h.seq.toNat ≠ (s.glink h.link).rxNext))) ∧
    (∃ (s : State) (h : GHead) (c : Instr), (glFrame c = some h ∨ c = .glAck h.link h.ack h.crcOk ∨ c = .glNak h.link h.ack h.crcOk ∨ c = .replayTimeout h.link ∨ c = .delayMeasurement h.link) ∧ s.glState h.link ≠ 2) ∧
    (∃ (s : State) (h : GHead) (k : Fin 8), h.link.val = k + 2 ∧ s.portUsed h.link = true ∧ s.glTaken h = true ∧ (s.glink h.link).unacked.any s.ownRequest = false) ∧
    (∃ (s : State) (k : Fin 8), s.portUsed (k + 2) = true ∧ s.glState (k + 2) = 0) ∧
    (∃ (s : State) (i : Fin 10), s.glState i = 2) ∧
    (∃ (s : State) (h : GHead), s.glTaken h = true) ∧
    (∃ (s : State) (h : GHead) (c0 : Nat), s.glTaken h = true ∧ ((s.received h).glink h.link).reqCycle = some c0) ∧
    (∃ (s : State) (h : GHead), s.glTaken h = true ∧ ((s.received h).glink h.link).reqCycle = none) ∧
    (∃ (s : State), s.managing = true ∧ s.running = true ∧ s.odN 0x9000 8 1 = 1) ∧
    (∃ (s : State), (s.managing = false ∨ s.running = false ∨ s.odN 0x9000 8 1 ≠ 1)) ∧
    (∃ (s : State) (h : GHead) (j : Fin 10), s.glTaken h = true ∧ (s.received h).gl.upstream = some h.link.val ∧ (s.received h).role = 2 ∧ otherPort h.link = some j.val) ∧
    (∃ (s : State) (h : GHead), s.glTaken h = true ∧ (s.received h).standby = true ∧ h.link.val = 0 ∧ (s.received h).running = true ∧ (s.received h).domState 0 = 2) ∧
    (∃ (s : State) (h : GHead) (j : Fin 10), s.glTaken h = true ∧ (s.received h).role = 2 ∧ ((s.received h).domState 0 ≠ 2 ∨ (s.received h).odN 0x9000 9 1 ≠ 1) ∧ (s.received h).gl.upstream = some h.link.val ∧ otherPort h.link = some j.val) :=
  ⟨⟨asRole 2 atRun, 0, by decide +kernel⟩,
   ⟨State.reset, 0, by decide +kernel⟩,
   ⟨((asRole 2 atRun).glTo 1 1).setGlink 1 { wasUp := true }, 1, by decide +kernel⟩,
   ⟨((asRole 1 atRun).glTo 1 1).setGlink 1 { wasUp := true, rxNext := 7 }, 1, by decide +kernel⟩,
   ⟨State.reset, 0, by decide +kernel⟩,
   ⟨{ linked 2 3 with cycle := 90000000 }, 3, .keepaliveTimeout 1, .inr ⟨1, rfl, rfl, by decide⟩, by decide⟩,
   ⟨State.reset, 0, by decide +kernel⟩,
   ⟨(linked 2 1).setGlink 1 { txNext := 3, unacked := [⟨0, 0, .keepalive⟩, ⟨0, 0, .mirrorAck⟩], replays := 2 }, 1, 1, 1, by decide +kernel⟩,
   ⟨(linked 2 1).setGlink 1 { txNext := 3, unacked := [⟨0, 0, .keepalive⟩, ⟨0, 0, .mirrorAck⟩], replays := 2 }, 1, 0, .glNak 1 0 true, by decide +kernel⟩,
   ⟨{ (linked 2 1).setGlink 1 { txNext := 3, unacked := [⟨0, 0, .keepalive⟩], replays := 7 } with cycle := 30000 }, 1, by decide +kernel⟩,
   ⟨linked 2 1, { aHead 1 0 0 with crcOk := false }, .delayReq { aHead 1 0 0 with crcOk := false } 5, by decide +kernel⟩,
   ⟨State.reset, aHead 1 0 0, .glCross (aHead 1 0 0) 0 0 0, by decide +kernel⟩,
   ⟨(linked 1 2).wr (Reg.GE_STAT_EN.at 0) 1, aHead 2 0 0, 0, by decide +kernel⟩,
   ⟨(asRole 1 atRun).wr (Reg.GE_STAT_EN.at 0) 1, 0, by decide +kernel⟩,
   ⟨linked 1 1, 1, by decide +kernel⟩,
   ⟨linked 1 1, aHead 1 0 0, by decide +kernel⟩,
   ⟨{ (linked 1 1).setGlink 1 { reqCycle := some 2, delays := [64, 32] } with cycle := 311 }, aHead 1 0 0, 2, by decide +kernel⟩,
   ⟨linked 1 1, aHead 1 0 0, by decide +kernel⟩,
   ⟨linked 1 1, by decide +kernel⟩,
   ⟨State.reset, by decide +kernel⟩,
   ⟨(let s := (linked 2 1).glTo 0 2; { s with gl := { s.gl with upstream := some 1 } }), aHead 1 0 0, 0, by decide +kernel⟩,
   ⟨((linked 3 0).wr Reg.GRILOR_TWIN_STATE 1).domTo 0 2, aHead 0 0 0, by decide +kernel⟩,
   ⟨(let s := (linked 2 1).glTo 0 2; { s with gl := { s.gl with upstream := some 1 } }), aHead 1 0 0, 0, by decide +kernel⟩⟩

/-- States and operands that meet the hypotheses of GrilorHierarchy, clause by clause. -/
theorem witness_GrilorHierarchy :
    (∃ (s : State) (c : Instr), (c = .enumerate ∨ c = .rosterReset) ∧ s.managing = false) ∧
    (∃ (s : State) (p : Fin 10) (l : List Nat), s.managing = true ∧ s.pstate = 4 ∧ ({ s with gl := { s.gl with ringClosed := false } } : State).enumPorts = p.val :: l) ∧
    (∃ (s : State), s.managing = true ∧ s.pstate = 4 ∧ ({ s with gl := { s.gl with ringClosed := false } } : State).enumPorts = [] ∧ s.ring = false) ∧
    (∃ (s : State), s.managing = true) ∧
    (∃ (s : State) (h : GHead) (walk : Word), s.glTaken h = true ∧ (s.received h).role = 2 ∧ (s.received h).gl.met.map (fun m => m.1) ≠ some walk.toNat) ∧
    (∃ (s : State) (h : GHead) (walk : Word) (p : Nat) (j : Fin 10), s.glTaken h = true ∧ (s.received h).role = 2 ∧ (s.received h).gl.met = some (walk.toNat, p) ∧ otherPort h.link = some j.val) ∧
    (∃ (s : State) (h : GHead), s.glTaken h = true ∧ (s.received h).ring = true ∧ h.link.val = 0 ∧ (s.received h).gl.port = 1 ∧ (s.received h).rd Reg.GRILOR_ENUM_ENUM_STATE = 1) ∧
    (∃ (s : State) (h : GHead) (j : Fin 10), s.glTaken h = true ∧ (s.received h).role = 2 ∧ (s.received h).gl.upstream ≠ none ∧ otherPort h.link = some j.val) ∧
    (∃ (s : State) (h : GHead) (dev : BitVec 128) (side : Fin 2) (fid : Byte) (w : Option Nat), s.glTaken h = true ∧ (s.received h).role ≠ 2 ∧ (s.received h).managing = true ∧ (s.received h).rd Reg.GRILOR_ENUM_ENUM_STATE = 1 ∧ (s.received h).gl.port = h.link ∧ (s.received h).gl.pos < 255 ∧ (s.received h).assignId dev.toNat side fid.toNat = (w, false)) ∧
    (∃ (s : State) (h : GHead) (dev : BitVec 128) (fid : Byte) (w : Nat), s.glTaken h = true ∧ (s.received h).role = 1 ∧ (s.received h).rd Reg.GRILOR_ENUM_ENUM_STATE = 1 ∧ (s.received h).gl.port = h.link ∧ (s.received h).gl.pos < 255 ∧ (s.received h).assignId dev.toNat 1 fid.toNat = (some w, true)) ∧
    (∃ (s : State) (p : Nat), s.managing = true ∧ s.rd Reg.GRILOR_ENUM_ENUM_STATE = 1 ∧ s.passed .enum 300000 = true ∧ s.enumPorts.find? (fun q => (if s.gl.port = 1 then 0 else if s.gl.port = 0 then 1 else s.gl.port) < (if q = 1 then 0 else if q = 0 then 1 else q)) = some p) ∧
    (∃ (s : State) (n : Nat), s.managing = true ∧ s.rd Reg.GRILOR_ENUM_ENUM_STATE = 1 ∧ s.passed .enum 300000 = true ∧ s.enumPorts.find? (fun q => (if s.gl.port = 1 then 0 else if s.gl.port = 0 then 1 else s.gl.port) < (if q = 1 then 0 else if q = 0 then 1 else q)) = none ∧ n = (if s.ring then (if s.gl.ringClosed then 4 else 5) else if s.rosterUsed.all (fun w => s.gl.metDevices.contains (s.rosterAt w)) then 2 else 3)) ∧
    (∃ (s : State), (s.managing = false ∨ s.rd Reg.GRILOR_ENUM_ENUM_STATE ≠ 1 ∨ s.passed .enum 300000 = false)) ∧
    (∃ (s : State) (h : GHead) (j : Fin 10), s.glTaken h = true ∧ (s.received h).forMe h.dst.toNat = false ∧ (s.received h).role = 2 ∧ (s.received h).gl.upstream ≠ none ∧ otherPort h.link = some j.val) ∧
    (∃ (s : State) (h : GHead) (key : Nat) (r : State), s.glTaken h = true ∧ (s.received h).role = 2 ∧ (s.received h).myId ≠ 0 ∧ h.dst.toNat = (s.received h).myId ∧ h.dst ≠ 0xFF ∧ r = ({ (s.received h) with od := { (s.received h).od with answer := { ctx := 256 } } } : State).odRead 2 (key / 256) (key % 256) false ∧ r.od.answer.ctx = 2 ∧ r.od.answer.handle = none) ∧
    (∃ (s : State) (h : GHead), s.glTaken h = true ∧ (s.received h).managing = true ∧ h.dst = 0 ∧ ((s.received h).runningOf 0x0B).any (fun i => paramAt ((s.received h).ticket i).params 0 1 == h.src.toNat) = false) ∧
    (∃ (s : State) (h : GHead) (code : Nat) (k : Fin 128), s.glTaken h = true ∧ (s.received h).managing = true ∧ h.dst = 0 ∧ (s.received h).runningOf 0x0B = some k.val ∧ (s.received h).stepOpen k = true ∧ ((s.received h).ticket k).step = 1 ∧ paramAt ((s.received h).ticket k).params 0 1 = h.src.toNat ∧ code ≠ 0) ∧
    (∃ (s : State) (k : Fin 128), s.runningOf 0x0B = some k.val ∧ s.stepOpen k = true ∧ (s.ticket k).step = 1 ∧ s.passed .gateway (s.odN 0x9000 0x0B 100 * msCycles) = true) ∧
    (∃ (s : State), (s.runningOf 0x0B = none ∨ s.passed .gateway (s.odN 0x9000 0x0B 100 * msCycles) = false)) ∧
    (∃ (s : State) (h : GHead), s.glTaken h = true ∧ (s.received h).role = 2 ∧ (s.received h).boot = 2 ∧ (s.received h).wakeAt = 8 ∧ (s.received h).forMe h.dst.toNat = true ∧ (h.dst ≠ 0xFF ∨ (s.received h).gl.upstream = none) ∧ (s.received h).img.hostImages.length < 5) ∧
    (∃ (s : State) (h : GHead), s.glTaken h = true ∧ (s.received h).managing = true ∧ h.dst = 0 ∧ s.pow.weaverHalted = false ∧ ((s.received h).glink h.link).waiting = [] ∧ ((s.received h).glink h.link).unacked.length ≤ 11) :=
  ⟨⟨State.reset, .enumerate, by decide +kernel⟩,
   ⟨linked 1 1, 1, [], by decide +kernel⟩,
   ⟨asRole 1 atRun, by decide +kernel⟩,
   ⟨(linked 1 1).odPut 0x9002 5 (.bytes (leBytes 16 77)), by decide +kernel⟩,
   ⟨linked 2 1, aHead 1 0 0, 3, by decide +kernel⟩,
   ⟨(let s := (linked 2 1).glTo 0 2; { s with gl := { s.gl with met := some (3, 2) } }), aHead 1 0 0, 3, 2, 0, by decide +kernel⟩,
   ⟨(let s := ((linked 1 0).odPutU 0x9000 7 1).wr Reg.GRILOR_ENUM_ENUM_STATE 1; { s with gl := { s.gl with port := 1 } }), aHead 0 0 0, by decide +kernel⟩,
   ⟨(let s := (linked 2 1).glTo 0 2; { s with gl := { s.gl with upstream := some 0 } }), aHead 1 0 0, 0, by decide +kernel⟩,
   ⟨(let s := (linked 1 1).wr Reg.GRILOR_ENUM_ENUM_STATE 1; { s with gl := { s.gl with port := 1, pos := 4, assigned := [(7, 1)] } }), aHead 1 0 0, 0, 0, 7, none, by decide +kernel⟩,
   ⟨(let s := (linked 1 1).wr Reg.GRILOR_ENUM_ENUM_STATE 1; { s with gl := { s.gl with port := 1, pos := 4 } }), aHead 1 0 0, 77, 0, 4, by decide +kernel⟩,
   ⟨{ (let s := ((linked 1 1).glTo 4 2).wr Reg.GRILOR_ENUM_ENUM_STATE 1; { s with gl := { s.gl with port := 1, pos := 4 } }) with cycle := 300000000 }, 4, by decide +kernel⟩,
   ⟨{ (let s := (linked 1 1).wr Reg.GRILOR_ENUM_ENUM_STATE 1; { s with gl := { s.gl with port := 1, pos := 4, assigned := [(7, 1), (8, 1)] } }) with cycle := 300000000 }, 2, by decide +kernel⟩,
   ⟨State.reset, by decide +kernel⟩,
   ⟨(let s := (linked 2 1).glTo 0 2; { s with gl := { s.gl with upstream := some 1 } }), aHead 1 5 0, 0, by decide +kernel⟩,
   ⟨(linked 2 1).wr Reg.GRILOR_ENUM_MY_ID 5, aHead 1 5 0, odKey 0x2F06 0, ({ ((linked 2 1).wr Reg.GRILOR_ENUM_MY_ID 5).received (aHead 1 5 0) with od := { (((linked 2 1).wr Reg.GRILOR_ENUM_MY_ID 5).received (aHead 1 5 0)).od with answer := { ctx := 256 } } } : State).odRead 2 0x2F06 0 false, by decide +kernel⟩,
   ⟨linked 1 1, aHead 1 0 0, by decide +kernel⟩,
   ⟨(linked 1 1).setTicket 6 { state := .running, type := 0x0B, step := 1, order := 1 }, aHead 1 0 0, 3, 6, by decide +kernel⟩,
   ⟨{ (linked 1 1).setTicket 6 { state := .running, type := 0x0B, step := 1, order := 1 } with cycle := 300000000 }, 6, by decide +kernel⟩,
   ⟨State.reset, by decide +kernel⟩,
   ⟨({ (asRole 2 State.reset) with pow := { wakeStep := 8 } }.wr Reg.STRAP_SAMPLED_STRAP 0x90).glTo 1 2, aHead 1 0xFF 0, by decide +kernel⟩,
   ⟨linked 1 1, aHead 1 0 5, by decide +kernel⟩⟩

/-- States and operands that meet the hypotheses of Twins, clause by clause. -/
theorem witness_Twins :
    (∃ (s : State), s.role = 3) ∧
    (∃ (s : State) (c : Instr), s.role ≠ 3 ∧ (c = .heartbeatSend ∨ c = .heartbeatMiss ∨ (∃ b, c = .twinOwnChange b) ∨ c = .twinInitTimeout ∨ c = .mirrorSyncDone ∨ c = .handoverCommand ∨ c = .mirrorAckTimeout)) ∧
    (∃ (s : State) (h : GHead) (c : Instr), (s.role ≠ 3 ∨ h.link ≠ 0) ∧ (c = .glHandover h ∨ c = .glMirrorAck h ∨ (∃ m, c = .glMirror h m) ∨ (∃ a b d e f g k, c = .glHeartbeat h a b d e f g k))) ∧
    (∃ (s : State) (h : GHead), s.role = 3 ∧ h.link = 0 ∧ s.glTaken h = true) ∧
    (∃ (s : State), s.role = 3 ∧ s.passed .beat 330000 = true ∧ (s.inc Reg.GRILOR_TWIN_HB_MISSES).missTakes = true) ∧
    (∃ (s : State), s.role = 3 ∧ s.passed .beat 330000 = true ∧ (s.inc Reg.GRILOR_TWIN_HB_MISSES).missTakes = false ∧ s.standby = true ∧ s.peerHolds = true ∧ s.rd Reg.GRILOR_TWIN_HB_MISSES = 2 ∧ s.rd Reg.GRILOR_TWIN_MIRROR ≠ 0) ∧
    (∃ (s : State), s.role = 3 ∧ s.passed .beat 330000 = false) ∧
    (∃ (s : State), s.role = 3 ∧ s.passed .beat 330000 = true ∧ s.rd Reg.GRILOR_TWIN_HB_MISSES < 2) ∧
    (∃ (s : State) (h : GHead), s.role = 3 ∧ h.link = 0 ∧ s.glTaken h = true ∧ (s.received h).standby = true) ∧
    (∃ (s : State), s.handoverOk = true) ∧
    (∃ (s : State), s.handoverOk = false) ∧
    (∃ (s : State), s.role = 3 ∧ s.standby = true) ∧
    (∃ (s : State), s.role = 3 ∧ s.pstate = 4 ∧ s.rd Reg.GRILOR_TWIN_STATE = 0 ∧ s.glState 0 ≠ 2 ∧ s.passed .run s.twinWait = true) ∧
    (∃ (s : State), (s.pstate ≠ 4 ∨ s.rd Reg.GRILOR_TWIN_STATE ≠ 0 ∨ s.glState 0 = 2 ∨ s.passed .run s.twinWait = false)) ∧
    (∃ (s : State) (h : GHead) (b : JBody), s.role = 3 ∧ h.link = 0 ∧ s.glTaken h = true ∧ (s.received h).standby = true ∧ (s.received h).rd Reg.GRILOR_TWIN_MIRROR = 2 ∧ (∀ g, b ≠ .boltHead g)) ∧
    (∃ (s : State) (h : GHead) (b : JBody), s.role = 3 ∧ h.link = 0 ∧ s.glTaken h = true ∧ (s.received h).standby = true ∧ (s.received h).rd Reg.GRILOR_TWIN_MIRROR ≠ 2 ∧ (∀ g, b ≠ .boltHead g)) ∧
    (∃ (s : State) (h : GHead), s.role = 3 ∧ h.link = 0 ∧ s.glTaken h = true ∧ (s.received h).standby = true) ∧
    (∃ (s : State) (h : GHead), s.role = 3 ∧ h.link = 0 ∧ s.glTaken h = true ∧ (s.received h).standby = true) ∧
    (∃ (s : State) (h : GHead) (b : JBody) (l : List JBody), s.role = 3 ∧ h.link = 0 ∧ s.glTaken h = true ∧ (s.received h).gl.mirrorOut = b :: l ∧ b ∉ (s.received h).gl.heldBack) ∧
    (∃ (s : State) (h : GHead) (b : JBody) (l : List JBody), s.role = 3 ∧ h.link = 0 ∧ s.glTaken h = true ∧ (s.received h).gl.mirrorOut = b :: l ∧ b ∈ (s.received h).gl.heldBack) ∧
    (∃ (s : State), s.owner = true ∧ s.rd Reg.GRILOR_TWIN_MIRROR = 2 ∧ s.gl.mirrorOut ≠ [] ∧ s.passed .mirror msCycles = true) ∧
    (∃ (s : State), s.owner = true ∧ s.rd Reg.GRILOR_TWIN_MIRROR = 1) ∧
    (∃ (s : State), s.standby = true ∧ s.rd Reg.GRILOR_TWIN_MIRROR = 1) :=
  ⟨⟨linked 3 0, by decide +kernel⟩,
   ⟨State.reset, .heartbeatMiss, by decide +kernel, .inr (.inl rfl)⟩,
   ⟨State.reset, aHead 0 0 0, .glHandover (aHead 0 0 0), by decide +kernel, .inl rfl⟩,
   ⟨linked 3 0, aHead 0 0 0, by decide +kernel⟩,
   ⟨{ ((linked 3 0).wr Reg.GRILOR_TWIN_STATE 1).wr Reg.GRILOR_TWIN_HB_MISSES 2 |>.wr Reg.GRILOR_TWIN_MIRROR 2 with cycle := 300000000 }, by decide +kernel⟩,
   ⟨{ ((linked 3 0).wr Reg.GRILOR_TWIN_STATE 1).wr Reg.GRILOR_TWIN_HB_MISSES 2 |>.wr Reg.GRILOR_TWIN_MIRROR 2 |>.wr Reg.GRILOR_TWIN_OWN_SENSE 1 with cycle := 300000000 }, by decide +kernel⟩,
   ⟨linked 3 0, by decide +kernel⟩,
   ⟨{ ((linked 3 0).wr Reg.GRILOR_TWIN_STATE 1).wr Reg.GRILOR_TWIN_HB_MISSES 1 with cycle := 300000000 }, by decide +kernel⟩,
   ⟨((linked 3 0).wr Reg.GRILOR_TWIN_STATE 1), aHead 0 0 0, by decide +kernel⟩,
   ⟨(let s := ((linked 3 0).wr Reg.GRILOR_TWIN_STATE 2).wr Reg.GRILOR_TWIN_MIRROR 2; { s with gl := { s.gl with peerState := 1 } }), by decide +kernel⟩,
   ⟨State.reset, by decide +kernel⟩,
   ⟨(let s := ((linked 3 0).wr Reg.GRILOR_TWIN_STATE 1).wr Reg.GRILOR_TWIN_OWN_SENSE 1; { s with gl := { s.gl with handover := true } }), by decide +kernel⟩,
   ⟨{ asRole 3 atRun with cycle := 300000000 }, by decide +kernel⟩,
   ⟨State.reset, by decide +kernel⟩,
   ⟨((linked 3 0).wr Reg.GRILOR_TWIN_STATE 1).wr Reg.GRILOR_TWIN_MIRROR 2, aHead 0 0 0, .switch 3, by decide +kernel, by decide +kernel, by decide +kernel, by decide +kernel, by decide +kernel, fun g => by simp⟩,
   ⟨((linked 3 0).wr Reg.GRILOR_TWIN_STATE 1), aHead 0 0 0, .switch 3, by decide +kernel, by decide +kernel, by decide +kernel, by decide +kernel, by decide +kernel, fun g => by simp⟩,
   ⟨((linked 3 0).wr Reg.GRILOR_TWIN_STATE 1).wr Reg.GRILOR_TWIN_MIRROR 2, aHead 0 0 0, by decide +kernel⟩,
   ⟨((linked 3 0).wr Reg.GRILOR_TWIN_STATE 1).wr Reg.GRILOR_TWIN_MIRROR 2, aHead 0 0 0, by decide +kernel⟩,
   ⟨(let s := ((linked 3 0).wr Reg.GRILOR_TWIN_STATE 2); { s with gl := { s.gl with mirrorOut := [.switch 3] } }), aHead 0 0 0, .switch 3, [], by decide +kernel⟩,
   ⟨(let s := ((linked 3 0).wr Reg.GRILOR_TWIN_STATE 2); { s with gl := { s.gl with mirrorOut := [.switch 3], heldBack := [.switch 3] } }), aHead 0 0 0, .switch 3, [], by decide +kernel⟩,
   ⟨{ (let s := ((linked 3 0).wr Reg.GRILOR_TWIN_STATE 2).wr Reg.GRILOR_TWIN_MIRROR 2; { s with gl := { s.gl with mirrorOut := [.switch 3] } }) with cycle := 300000000 }, by decide +kernel⟩,
   ⟨((linked 3 0).wr Reg.GRILOR_TWIN_STATE 2).wr Reg.GRILOR_TWIN_MIRROR 1, by decide +kernel⟩,
   ⟨((linked 3 0).wr Reg.GRILOR_TWIN_STATE 1).wr Reg.GRILOR_TWIN_MIRROR 1, by decide +kernel⟩⟩

/-- States and operands that meet the hypotheses of FullFifos, clause by clause. -/
theorem witness_FullFifos :
    (∃ (s : State) (n : Fin 8) (rising : Bool), (s.rd (Reg.TIME_TPI_CFG_EDGE.at n) = 3 ∨ s.rd (Reg.TIME_TPI_CFG_EDGE.at n) = (if rising then 1 else 2)) ∧ (s.time.tpiEdge.get 0 n = 0 ∨ s.time.tpiEdge.get 0 n + 60 ≤ s.cycle - s.rd (Reg.TIME_TPI_CFG_FILT.at n) * 30 + 1) ∧ 4 ≤ (s.tpiFifo n).length) ∧
    (∃ (s : State) (edge : Nat) (low : Nat) (high : Nat) (back : Nat), s.trdSees = true ∧ s.angleFollows = false ∧ s.ms0Back edge low high = some back ∧ (s.trdSt = 0 ∨ s.trdSt = 2 ∨ s.inWindow (s.cycle - back) (s.phaseErr (s.angBack back)) (s.angBack back) = true) ∧ 16 ≤ s.trd.xts.length) :=
  ⟨⟨(atRun.wr (Reg.TIME_TPI_CFG_EDGE.at 2) 3).setTpi 2 (List.replicate 4 aTpi), 2, false, by decide +kernel⟩,
   ⟨{ atRun with trd := { xts := List.replicate 16 aXts, ms := [(0, { found := some 0 })] } }, 0, 0, 0, 0, by decide +kernel⟩⟩

theorem witness_StepTakesFront : (∃ (c : Instr) (l : List Instr) (s : State), s.pending = c :: l) ∧ (∃ s : State, s.pending = []) :=
  ⟨⟨.enumerate, [], { State.reset with pending := [.enumerate] }, rfl⟩, ⟨State.reset, rfl⟩⟩

theorem witness_QueueUntouched : ∃ (c : Instr) (s t : State), exec c s = .next t :=
  ⟨.enumerate, State.reset, _, rfl⟩

theorem witness_FusesOnlySet : ∃ (c : Instr) (s t : State), exec c s = .next t ∧ t.fuse ≠ s.fuse :=
  ⟨.ticketStepComplete 3 .plain, fusing, _, rfl, by decide⟩

theorem witness_StepKeepsCanonicalForm : ∃ s t : State, s.wf = true ∧ step s = .next t :=
  ⟨State.reset, State.reset.idle, by decide, rfl⟩

theorem witness_NoRegisterHoldsReservedTag : ∃ s t : State, s.tagsHeld ∧ step s = .next t :=
  ⟨State.reset, State.reset.idle, reset_tagsHeld, rfl⟩
end

/-! ## Scope: what a register access does, and the state right after reset -/

namespace Sys2Proof.Machine

/-! ### The two commands of a register access -/

/-- REGISTER_WRITE by a requester that may access leaves what the access map's write leaves, with its code answered. -/
theorem exec_registerWrite (s : State) (a v : Word) (w : Writer) (h : s.mayAccess w = true) :
    exec (.registerWrite a v w) s =
      .next ((s.expertWrite a.toNat v.toNat w 2 0).2.answer (s.expertWrite a.toNat v.toNat w 2 0).1) := by
  change execRegisterWrite a v w s = _
  simp [execRegisterWrite, h]

/-- RC_REGISTER_READ while the Weaver runs returns what the access map's read returns, with its code answered. -/
theorem exec_rcRegisterRead (s : State) (a : Word) (h : s.weaverOn = true) :
    exec (.rcRegisterRead a) s =
      .next { (s.expertRead a.toNat 2 0).2.2.answer (s.expertRead a.toNat 2 0).1 with
        readData := BitVec.ofNat 32 (s.expertRead a.toNat 2 0).2.1 } := by
  change execRcRegisterRead a s = _
  simp [execRcRegisterRead, h]

/-! ### An answer -/

@[simp] theorem State.answer_code (s : State) (c : Nat) : (s.answer c).od.answer.code = c := rfl

@[simp] theorem State.answer_rd (s : State) (c : Nat) (f : Field) : (s.answer c).rd f = s.rd f := rfl

theorem State.answer_keeps (s : State) (c : Nat) : Keeps [.od] s (s.answer c) := by
  intro p
  cases p <;> simp [Part.same, State.answer]

/-- A change within a frame, then an answer: the frame of the object dictionary's state besides. -/
theorem KeepsBut.answer {fs : List Field} {s t : State} (h : KeepsBut fs [] s t) (c : Nat) : KeepsBut fs [.od] s (t.answer c) :=
  (h.mono (fun _ hf => hf) (by simp)).part (t.answer_keeps c) (by simp)

/-! ### The die link carries an access whose frame does not fail -/

/-- An access on the digital die passes no link. -/
theorem linkCarry_digital (s : State) (a crc : Nat) (h : companion a = false) : s.linkCarry a crc = (0, s) := by
  simp [State.linkCarry, h]

/-- A frame that does not fail is carried. -/
theorem linkCarry_code (s : State) (a : Nat) (h : companion a = false ∨ s.dlDown = false) : (s.linkCarry a 0).1 = 0 := by
  unfold State.linkCarry
  split
  · rfl
  · rename_i hc
    simp only [h.resolve_left (by simpa using hc)]
    rfl

/-- A frame that does not fail changes no register. -/
theorem linkCarry_rd (s : State) (a : Nat) (f : Field) : (s.linkCarry a 0).2.rd f = s.rd f := by
  unfold State.linkCarry
  split
  · rfl
  · split <;> rfl

/-! ### The access map at an aligned address of a register block (Table 01-7) -/

/-- An address of a register block lies in none of the memory regions of the map. -/
theorem inBlock_not_memory {a : Nat} (h : inBlock a = true) :
    ¬ a < 0x10000 ∧ ¬(a < 0x50000 ∨ (0x20000000 ≤ a ∧ a < 0x20400000)) ∧ ¬(0x10000000 ≤ a ∧ a < 0x10400000) := by
  simp only [inBlock, Bool.and_eq_true, decide_eq_true_eq] at h
  omega

/-- A write at an offset that names no register has no effect beyond the link's (R65). -/
theorem expertWrite_noRegister (s : State) (a v src : Nat) (w : Writer) (ha : a % 4 = 0) (hb : inBlock a = true)
    (hc : companion a = false ∨ s.dlDown = false) (hp : ¬(0x40082000 ≤ a ∧ a < 0x40082400)) (hf : findReg a = none) :
    s.expertWrite a v w src 0 = (0, (s.linkCarry a 0).2) := by
  obtain ⟨h1, h2, h3⟩ := inBlock_not_memory hb
  simp [State.expertWrite, ha, h1, h2, h3, hp, hb, hf, linkCarry_code s a hc]

/-- A write at the address of a register is the register's write. -/
theorem expertWrite_register (s : State) (a v src : Nat) (w : Writer) (x : RegSpec × Nat × Nat) (ha : a % 4 = 0)
    (hb : inBlock a = true) (hc : companion a = false ∨ s.dlDown = false) (hp : ¬(0x40082000 ≤ a ∧ a < 0x40082400))
    (hf : findReg a = some x) :
    s.expertWrite a v w src 0 = (s.linkCarry a 0).2.regWriteJ x.1 x.2.1 x.2.2 a (v % 2 ^ 32) w := by
  obtain ⟨h1, h2, h3⟩ := inBlock_not_memory hb
  simp [State.expertWrite, ha, h1, h2, h3, hp, hb, hf, linkCarry_code s a hc]

/-- The addresses of a register block at which a read returns a word that no register group holds: the receive states of the Loom
and the program words of the Heddles. -/
def wordWindow (a : Nat) : Bool :=
  decide (0x4003A000 ≤ a ∧ a < 0x40040000) || decide (0x40082000 ≤ a ∧ a < 0x40082400)

/-- A read that is carried to a register block answers 0. -/
theorem expertRead_code (s : State) (a src : Nat) (ha : a % 4 = 0) (hb : inBlock a = true)
    (hc : companion a = false ∨ s.dlDown = false) : (s.expertRead a src 0).1 = 0 := by
  obtain ⟨h1, h2, h3⟩ := inBlock_not_memory hb
  unfold State.expertRead
  simp only [ha, h1, h2, h3, hb, linkCarry_code s a hc, ne_eq, not_true_eq_false, if_false, Bool.not_true, Bool.false_eq_true]
  split
  · rfl
  split
  · rfl
  split <;> rfl

/-- A read at the address of a register is the register's read. -/
theorem expertRead_register (s : State) (a src : Nat) (x : RegSpec × Nat × Nat) (ha : a % 4 = 0) (hb : inBlock a = true)
    (hc : companion a = false ∨ s.dlDown = false) (hw : wordWindow a = false) (hf : findReg a = some x) :
    s.expertRead a src 0 =
      (0, ((s.linkCarry a 0).2.regRead x.1 x.2.1 x.2.2 a).1, ((s.linkCarry a 0).2.regRead x.1 x.2.1 x.2.2 a).2) := by
  obtain ⟨h1, h2, h3⟩ := inBlock_not_memory hb
  obtain ⟨hw1, hw2⟩ : ¬(0x4003A000 ≤ a ∧ a < 0x40040000) ∧ ¬(0x40082000 ≤ a ∧ a < 0x40082400) := by
    simpa [wordWindow] using hw
  unfold State.expertRead
  simp only [ha, h1, h2, h3, hw1, hw2, hb, hf, linkCarry_code s a hc, ne_eq, not_true_eq_false, if_false, Bool.not_true,
    Bool.false_eq_true]

/-! ### Where a register group lies -/

/-- A register group holds an address at its base plus so many strides as the indices say. -/
theorem RegSpec.at?_eq_some {r : RegSpec} {a i j : Nat} (h : r.at? a = some (i, j)) :
    a = r.base + i * r.s1 + j * r.s2 ∧ i < r.n1 ∧ j < r.n2 := by
  unfold RegSpec.at? at h
  split at h
  · cases h
  rename_i hbase
  have hle : (if r.s1 = 0 then 0 else if r.s2 ≠ 0 ∧ r.n1 ≤ 1 then 0 else (a - r.base) / r.s1) * r.s1 ≤ a - r.base := by
    split
    · simp
    split
    · simp
    exact Nat.div_mul_le_self _ _
  simp only [Option.ite_none_right_eq_some, Option.some.injEq, Prod.mk.injEq] at h
  obtain ⟨⟨ho, hi, hj⟩, rfl, rfl⟩ := h
  exact ⟨by omega, hi, hj⟩

/-- The register found at an address is one of the map, and the group holds that address at the indices found. -/
theorem findReg_eq_some {a : Nat} {x : RegSpec × Nat × Nat} (h : findReg a = some x) :
    x.1 ∈ Reg.table ∧ x.1.at? a = some (x.2.1, x.2.2) := by
  obtain ⟨r, hr, hx⟩ := List.exists_of_findSome?_eq_some h
  obtain ⟨y, hy, rfl⟩ := Option.map_eq_some_iff.1 hx
  exact ⟨hr, hy⟩

/-- What the map keeps of its RC fields: each has the reset value 0, and its register group lies outside the word windows. -/
theorem table_rc : ∀ r ∈ Reg.table, ∀ f ∈ r.fields, f.acc = .rc →
    f.reset = 0 ∧ (r.base + r.n1 * r.s1 + r.n2 * r.s2 < 0x4003A000 ∨
      0x40040000 ≤ r.base ∧ (r.base + r.n1 * r.s1 + r.n2 * r.s2 < 0x40082000 ∨ 0x40082400 ≤ r.base)) := by
  decide +kernel

/-- No register with an RC field lies in a word window. -/
theorem wordWindow_eq_false_of_rc {a : Nat} {x : RegSpec × Nat × Nat} (h : findReg a = some x) {f : Field} (hf : f ∈ x.1.fields)
    (hrc : f.acc = .rc) : wordWindow a = false := by
  obtain ⟨hr, hat⟩ := findReg_eq_some h
  obtain ⟨ha, hi, hj⟩ := RegSpec.at?_eq_some hat
  have hb := (table_rc _ hr f hf hrc).2
  have hi' := Nat.mul_le_mul_right x.1.s1 hi.le
  have hj' := Nat.mul_le_mul_right x.1.s2 hj.le
  simp only [wordWindow, Bool.or_eq_false_iff, decide_eq_false_iff_not]
  omega

/-! ### Writes that are only stored -/

/-- The field of the first register of a group is the group's field. -/
@[simp] theorem Field.at2_zero (f : Field) : f.at2 0 0 = f := by simp [Field.at2]

/-- Storing a field stays within a frame that lists the fields that are not RO. -/
theorem KeepsBut.fieldStore {fs : List Field} {l : List Part} {s t : State} (h : KeepsBut fs l s t) (f : Field) (v : Nat)
    (hf : f.acc ≠ .ro → f ∈ fs) : KeepsBut fs l s (t.fieldStore f v) := by
  by_cases hro : f.acc = .ro
  · simpa [State.fieldStore, hro] using h
  unfold State.fieldStore
  split
  · exact h
  · exact h
  · exact h
  · exact h.wr f _ (hf hro)
  · split
    · exact h.wr f v (hf hro)
    · exact h

/-- What each step of a fold keeps, the fold keeps. -/
theorem KeepsBut.each {α : Type} {fs : List Field} {l : List Part} (f : State → α → State) (xs : List α)
    (hstep : ∀ x ∈ xs, ∀ s t, KeepsBut fs l s t → KeepsBut fs l s (f t x)) {s t : State} (h : KeepsBut fs l s t) :
    KeepsBut fs l s (t.each xs f) := by
  induction xs generalizing t with
  | nil => exact h
  | cons x xs ih =>
    exact ih (fun y hy => hstep y (List.mem_cons_of_mem _ hy)) (hstep x List.mem_cons_self s t h)

/-- A stored write changes no field but those of its register that are not RO. -/
theorem regStore_keepsBut (s : State) (r : RegSpec) (i j v : Nat) (fs : List Field)
    (hf : ∀ f ∈ r.fields, f.acc ≠ .ro → f.at2 i j ∈ fs) : KeepsBut fs [] s (s.regStore r i j v) :=
  KeepsBut.each _ _ (fun f hm _ _ h => h.fieldStore _ _ (hf f hm)) (KeepsBut.refl fs [] s)

/-- A field of another key is left by a stored field. -/
theorem rd_fieldStore_ne (s : State) (f g : Field) (v : Nat) (h : g.key ≠ f.key) : (s.fieldStore f v).rd g = s.rd g := by
  unfold State.fieldStore
  split
  · rfl
  · rfl
  · rfl
  · exact s.rd_wr_ne f g _ h
  · split
    · exact s.rd_wr_ne f g v h
    · rfl

/-- A W1C field of one bit loses the bit where a 1 is written (Table 00-3). -/
theorem rd_fieldStore_w1c_bit (s : State) (f : Field) (n : Nat) (hw : f.w = 1) (ha : f.acc = .w1c) :
    (s.fieldStore f (n % 2)).rd f = if n % 2 = 1 then 0 else s.rd f % 2 := by
  rcases Nat.mod_two_eq_zero_or_one n with h | h
  · simp [State.fieldStore, ha, hw, h]
  · simp only [State.fieldStore, ha, h, State.rd_wr_same, hw, Nat.and_one_is_mod, if_true]
    omega

/-- A bit field fits its width. -/
theorem fieldOf_lt (n lo w : Nat) : fieldOf n lo w < 2 ^ w := Nat.mod_lt _ (Nat.two_pow_pos w)

/-- A write of an RW field takes a value that the field lists and keeps the old value otherwise (R18). -/
theorem rd_fieldStore_rw (s : State) (f : Field) (v : Nat) (ha : f.acc = .rw) (hv : v < 2 ^ f.w) :
    (s.fieldStore f v).rd f = if f.legal.ok f.w v = true then v else s.rd f := by
  simp only [State.fieldStore, ha]
  split
  · rw [State.rd_wr_same, Nat.mod_eq_of_lt hv]
  · rfl

/-- The groups SYS.DIEID, SYS.CLKSTAT and REPAIR.SEL have no effect beyond their fields: their write is stored. -/
theorem regWriteJ_stored (s : State) (r : RegSpec) (i j a v : Nat) (w : Writer)
    (hb : r.base = 0x40000000 ∨ r.base = 0x40000004 ∨ r.base = 0x400C0300) (hj : r.fields.any (fun f => f.acc == .j) = false) :
    s.regWriteJ r i j a v w = (0, s.regStore r i j v) := by
  have hstored : s.regWrite r i j v w = (0, s.regStore r i j v) := by
    rcases hb with hb | hb | hb <;> simp [State.regWrite, State.regRefused, State.writeSysTime, within, hb]
  simp [State.regWriteJ, hj, hstored]

/-- REGISTER_WRITE of such a register stores its fields and answers 0. -/
theorem exec_registerWrite_stored (s : State) (a v : Word) (w : Writer) (x : RegSpec × Nat × Nat) (h : s.mayAccess w = true)
    (ha : a.toNat % 4 = 0) (hb : inBlock a.toNat = true) (hc : companion a.toNat = false)
    (hp : ¬(0x40082000 ≤ a.toNat ∧ a.toNat < 0x40082400)) (hf : findReg a.toNat = some x)
    (hs : x.1.base = 0x40000000 ∨ x.1.base = 0x40000004 ∨ x.1.base = 0x400C0300) (hj : x.1.fields.any (fun f => f.acc == .j) = false) :
    exec (.registerWrite a v w) s = .next ((s.regStore x.1 x.2.1 x.2.2 v.toNat).answer 0) := by
  rw [exec_registerWrite s a v w h, expertWrite_register s a.toNat v.toNat 2 w x ha hb (.inl hc) hp hf,
    linkCarry_digital s _ 0 hc, regWriteJ_stored _ _ _ _ _ _ _ hs hj, Nat.mod_eq_of_lt v.isLt]

/-! ### Reads of stored registers -/

/-- Sensing leaves the source of device time. -/
theorem regSense_dtSource (s : State) (base : Nat) : (s.regSense base).dtSource = s.dtSource := by
  unfold State.regSense
  split
  · split
    · exact State.rd_wr_ne _ _ _ _ (by decide)
    · rfl
  · split
    · exact (State.rd_wr_ne _ _ _ _ (by decide)).trans (State.rd_wr_ne _ _ _ _ (by decide))
    · rfl

/-- Whether a register takes what it returns is a matter of its group and of the source of device time. -/
theorem regTake_isNone (s t : State) (base i : Nat) (h : t.dtSource = s.dtSource) :
    (t.regTake base i).isNone = (s.regTake base i).isNone := by
  simp only [State.regTake, apply_ite Option.isNone, Option.isNone_some, Option.isNone_none, h]

/-- Whether a register is computed is a matter of its group. -/
theorem regLive_isNone (s t : State) (base i a : Nat) : (t.regLive base i a).isNone = (s.regLive base i a).isNone := by
  simp only [State.regLive, apply_ite Option.isNone, Option.isNone_some, Option.isNone_none]

/-- A register that no effect of its own reads and no other state holds is read from its fields, and its RC fields are cleared. -/
theorem regRead_stored (s : State) (r : RegSpec) (i j a : Nat) (ht : (s.regTake r.base i).isNone = true)
    (hl : (s.regLive r.base i a).isNone = true) :
    s.regRead r i j a = ((s.regSense r.base).regStored r i j, (s.regSense r.base).rcClear r i j) := by
  have htake := Option.isNone_iff_eq_none.1 ((regTake_isNone s _ r.base i (regSense_dtSource s r.base)).trans ht)
  have hlive := Option.isNone_iff_eq_none.1 ((regLive_isNone s (s.regSense r.base) r.base i a).trans hl)
  simp [State.regRead, htake, hlive]

/-- Clearing a field of reset value 0 leaves every field of reset value 0 that is clear or of the same key clear. -/
theorem rd_wr_zero (s : State) (f g : Field) (hf : f.reset = 0) (hg : g.reset = 0) (h : g.key = f.key ∨ s.rd g = 0) :
    (s.wr f 0).rd g = 0 := by
  by_cases hk : g.key = f.key
  · simp [State.rd, State.wr, hf, hg, hk]
  · rw [s.rd_wr_ne f g 0 hk]
    exact h.resolve_left hk

/-- Clearing fields of reset value 0 clears each of them, and leaves a field clear that was. -/
theorem rd_each_wr_zero (i j : Nat) (g : Field) (hg : g.reset = 0) (l : List Field) (hl : ∀ f ∈ l, f.reset = 0) (s : State)
    (h : g ∈ l ∨ s.rd (g.at2 i j) = 0) : (s.each l (fun s f => s.wr (f.at2 i j) 0)).rd (g.at2 i j) = 0 := by
  induction l generalizing s with
  | nil => exact h.resolve_left List.not_mem_nil
  | cons f l ih =>
    have hf : f.reset = 0 := hl f List.mem_cons_self
    refine ih (fun x hx => hl x (List.mem_cons_of_mem _ hx)) (s.wr (f.at2 i j) 0) ?_
    rcases h with h | h
    · rcases List.mem_cons.1 h with rfl | h
      · exact .inr (rd_wr_zero s _ _ hf hg (.inl rfl))
      · exact .inl h
    · exact .inr (rd_wr_zero s _ _ hf hg (.inr h))

/-- After a read every RC field of the register reads 0 (Table 00-3). -/
theorem rd_rcClear (s : State) (r : RegSpec) (i j : Nat) (hr : ∀ f ∈ r.fields, f.acc = .rc → f.reset = 0) (g : Field)
    (hg : g ∈ r.fields) (hrc : g.acc = .rc) : (s.rcClear r i j).rd (g.at2 i j) = 0 := by
  refine rd_each_wr_zero i j g (hr g hg hrc) _ (fun f hf => ?_) s (.inl (List.mem_filter.2 ⟨hg, by simp [hrc]⟩))
  obtain ⟨hm, ha⟩ := List.mem_filter.1 hf
  exact hr f hm (by simpa using ha)

/-- A read at the address of a stored register returns its fields and clears its RC fields. -/
theorem expertRead_stored (s : State) (a src : Nat) (x : RegSpec × Nat × Nat) (ha : a % 4 = 0) (hb : inBlock a = true)
    (hc : companion a = false ∨ s.dlDown = false) (hw : wordWindow a = false) (hf : findReg a = some x)
    (ht : (s.regTake x.1.base x.2.1).isNone = true) (hl : (s.regLive x.1.base x.2.1 a).isNone = true) :
    s.expertRead a src 0 =
      (0, ((s.linkCarry a 0).2.regSense x.1.base).regStored x.1 x.2.1 x.2.2,
        ((s.linkCarry a 0).2.regSense x.1.base).rcClear x.1 x.2.1 x.2.2) := by
  rw [expertRead_register s a src x ha hb hc hw hf,
    regRead_stored _ _ _ _ _ ((regTake_isNone s _ _ _ (linkCarry_rd s a _)).trans ht) ((regLive_isNone s _ _ _ _).trans hl)]

/-- A read that is carried leaves every RC field of its register 0 (Table 00-3). -/
theorem rd_expertRead_rc (s : State) (a src : Nat) (x : RegSpec × Nat × Nat) (ha : a % 4 = 0) (hb : inBlock a = true)
    (hc : companion a = false ∨ s.dlDown = false) (hf : findReg a = some x) (ht : (s.regTake x.1.base x.2.1).isNone = true)
    (hl : (s.regLive x.1.base x.2.1 a).isNone = true) (f : Field) (hm : f ∈ x.1.fields) (hrc : f.acc = .rc) :
    (s.expertRead a src 0).2.2.rd (f.at2 x.2.1 x.2.2) = 0 := by
  rw [expertRead_stored s a src x ha hb hc (wordWindow_eq_false_of_rc hf hm hrc) hf ht hl]
  exact rd_rcClear _ _ _ _ (fun g hg hgrc => (table_rc _ (findReg_eq_some hf).1 g hg hgrc).1) f hm hrc

/-- A read clears no field but the RC fields of its register. -/
theorem rcClear_keepsBut (s : State) (r : RegSpec) (i j : Nat) (fs : List Field)
    (hf : ∀ f ∈ r.fields, f.acc = .rc → f.at2 i j ∈ fs) : KeepsBut fs [] s (s.rcClear r i j) := by
  refine KeepsBut.each _ _ (fun f hm _ t h => ?_) (KeepsBut.refl fs [] s)
  obtain ⟨hr, ha⟩ := List.mem_filter.1 hm
  exact h.wr _ 0 (hf f hr (by simpa using ha))

/-! ### Register access (O2) -/

/-- SYS.DIEID, the RO register at the base of the SYS block. -/
def dieIdReg : RegSpec := { base := 0x40000000, fields := [Reg.SYS_DIEID_PART, Reg.SYS_DIEID_DSTEP, Reg.SYS_DIEID_CSTEP] }

/-- SYS.CLKSTAT, with an RO field and three W1C fields. -/
def clkStatReg : RegSpec :=
  { base := 0x40000004,
    fields := [Reg.SYS_CLKSTAT_LIMPCLK, Reg.SYS_CLKSTAT_PLL_UNLOCK, Reg.SYS_CLKSTAT_REF_RANGE, Reg.SYS_CLKSTAT_REF_LOST] }

/-- REPAIR.SEL, whose RW field lists the codes 0 to 16. -/
def repairSelReg : RegSpec := { base := 0x400C0300, fields := [Reg.REPAIR_SEL_BANK] }

/-- HOSTPORT.ERR, two RC counters. -/
def hostPortErrReg : RegSpec := { base := 0x400E0008, fields := [Reg.HOSTPORT_ERR_ABORTED, Reg.HOSTPORT_ERR_CRC_ERRORS] }

theorem findReg_dieId : findReg 0x40000000 = some (dieIdReg, 0, 0) := by decide +kernel
theorem findReg_clkStat : findReg 0x40000004 = some (clkStatReg, 0, 0) := by decide +kernel
theorem findReg_repairSel : findReg 0x400C0300 = some (repairSelReg, 0, 0) := by decide +kernel
theorem findReg_hostPortErr : findReg 0x400E0008 = some (hostPortErrReg, 0, 0) := by decide +kernel

/-- A write of SYS.CLKSTAT clears the W1C bits written as 1 and leaves the RO bit. -/
theorem registerWrite_clkStat (s : State) (v : Word) (w : Writer) (h : s.mayAccess w = true) :
    Answers (.registerWrite 0x40000004 v w) s fun t =>
      t.rd Reg.SYS_CLKSTAT_REF_LOST = (if v.toNat % 2 = 1 then 0 else s.rd Reg.SYS_CLKSTAT_REF_LOST % 2) ∧
      t.rd Reg.SYS_CLKSTAT_LIMPCLK = s.rd Reg.SYS_CLKSTAT_LIMPCLK ∧
      KeepsBut [Reg.SYS_CLKSTAT_REF_LOST, Reg.SYS_CLKSTAT_REF_RANGE, Reg.SYS_CLKSTAT_PLL_UNLOCK] [.od] s t := by
  have hkeeps : KeepsBut [Reg.SYS_CLKSTAT_REF_LOST, Reg.SYS_CLKSTAT_REF_RANGE, Reg.SYS_CLKSTAT_PLL_UNLOCK] [] s
      (s.regStore clkStatReg 0 0 v.toNat) := regStore_keepsBut _ _ _ _ _ _ (by decide)
  refine ⟨_, exec_registerWrite_stored s _ v w (clkStatReg, 0, 0) h (by decide) (by decide) (by decide) (by decide)
    findReg_clkStat (.inr (.inl rfl)) (by decide), ?_, ?_, hkeeps.answer 0⟩
  · simp only [State.answer_rd, State.regStore, clkStatReg, State.each, List.foldl, Field.at2_zero]
    rw [show fieldOf v.toNat Reg.SYS_CLKSTAT_REF_LOST.lo Reg.SYS_CLKSTAT_REF_LOST.w = v.toNat % 2 by
        simp [fieldOf, Reg.SYS_CLKSTAT_REF_LOST],
      rd_fieldStore_w1c_bit _ _ _ rfl rfl, rd_fieldStore_ne _ _ _ _ (by decide), rd_fieldStore_ne _ _ _ _ (by decide),
      rd_fieldStore_ne _ _ _ _ (by decide)]
  · exact (hkeeps.1 Reg.SYS_CLKSTAT_LIMPCLK).resolve_left (by decide)

/-- A write of REPAIR.SEL takes a code that BANK lists and keeps the old one otherwise. -/
theorem registerWrite_repairSel (s : State) (v : Word) (w : Writer) (h : s.mayAccess w = true) :
    Answers (.registerWrite 0x400C0300 v w) s fun t =>
      t.rd Reg.REPAIR_SEL_BANK = (if v.toNat % 32 ≤ 16 then v.toNat % 32 else s.rd Reg.REPAIR_SEL_BANK) ∧
      t.od.answer.code = 0 ∧
      KeepsBut [Reg.REPAIR_SEL_BANK] [.od] s t := by
  refine ⟨_, exec_registerWrite_stored s _ v w (repairSelReg, 0, 0) h (by decide) (by decide) (by decide) (by decide)
    findReg_repairSel (.inr (.inr rfl)) (by decide), ?_, State.answer_code _ 0,
    (regStore_keepsBut _ _ _ _ _ _ (by decide)).answer 0⟩
  simp only [State.answer_rd, State.regStore, repairSelReg, State.each, List.foldl, Field.at2_zero]
  rw [rd_fieldStore_rw _ _ _ rfl (fieldOf_lt _ _ _)]
  simp [fieldOf, Reg.REPAIR_SEL_BANK, Legal.ok]

/-- A write of the RO register SYS.DIEID changes no field. -/
theorem registerWrite_dieId (s : State) (v : Word) (w : Writer) (h : s.mayAccess w = true) :
    Answers (.registerWrite 0x40000000 v w) s fun t => t.od.answer.code = 0 ∧ KeepsBut [] [.od] s t :=
  ⟨_, exec_registerWrite_stored s _ v w (dieIdReg, 0, 0) h (by decide) (by decide) (by decide) (by decide)
    findReg_dieId (.inl rfl) (by decide), State.answer_code _ 0, (regStore_keepsBut _ _ _ _ _ _ (by decide)).answer 0⟩

/-- A read of HOSTPORT.ERR returns both counters and clears them. -/
theorem rcRegisterRead_hostPortErr (s : State) (h : s.weaverOn = true) :
    Answers (.rcRegisterRead 0x400E0008) s fun t =>
      t.rd Reg.HOSTPORT_ERR_ABORTED = 0 ∧
      t.rd Reg.HOSTPORT_ERR_CRC_ERRORS = 0 ∧
      t.readData = BitVec.ofNat 32 (s.rd Reg.HOSTPORT_ERR_ABORTED * 256 + s.rd Reg.HOSTPORT_ERR_CRC_ERRORS) ∧
      KeepsBut [Reg.HOSTPORT_ERR_ABORTED, Reg.HOSTPORT_ERR_CRC_ERRORS] [.od, .readData] s t := by
  have hread : s.expertRead (0x400E0008 : Word).toNat 2 0 =
      (0, s.regStored hostPortErrReg 0 0, s.rcClear hostPortErrReg 0 0) := by
    rw [expertRead_stored s (0x400E0008 : Word).toNat 2 (hostPortErrReg, 0, 0) (by decide) (by decide) (.inl (by decide)) (by decide)
      findReg_hostPortErr rfl rfl, linkCarry_digital s _ 0 (by decide)]
    rfl
  have hclear : ∀ f ∈ hostPortErrReg.fields, f.acc = .rc → (s.rcClear hostPortErrReg 0 0).rd (f.at2 0 0) = 0 :=
    rd_rcClear s hostPortErrReg 0 0 (by decide)
  refine ⟨_, exec_rcRegisterRead s _ h, ?_⟩
  rw [hread]
  refine ⟨hclear _ List.mem_cons_self rfl, hclear _ (List.mem_cons_of_mem _ List.mem_cons_self) rfl, ?_, ?_⟩
  · simp [State.regStored, joinFields, hostPortErrReg, Reg.HOSTPORT_ERR_ABORTED, Reg.HOSTPORT_ERR_CRC_ERRORS, Field.at2]
  · refine (((rcClear_keepsBut s hostPortErrReg 0 0 _ (by decide)).answer 0).mono (fun _ hf => hf) (by simp)).part
      (fun p => ?_) (by simp)
    cases p <;> simp [Part.same]

/-- Settles O2: a register access is what the access map does at its address, which is the write or the read of the register
found there. -/
theorem registerAccess : Obligations.RegisterAccess := by
  refine ⟨registerWrite_clkStat, registerWrite_repairSel, registerWrite_dieId, ?_, ?_, ?_, rcRegisterRead_hostPortErr⟩
  · intro s a v w hm ha hb hc hp hf
    refine ⟨_, exec_registerWrite s a v w hm, ?_⟩
    rw [expertWrite_noRegister s _ _ 2 w ha hb (.inl hc) hp hf, linkCarry_digital s _ 0 hc]
    exact ⟨rfl, s.answer_keeps 0⟩
  · intro s a v w x hm ha hb hc hp hf
    refine ⟨_, exec_registerWrite s a v w hm, ?_⟩
    rw [expertWrite_register s _ _ 2 w x ha hb hc hp hf, Nat.mod_eq_of_lt v.isLt]
    exact ⟨rfl, rfl⟩
  · intro s a x hm ha hb hc hf ht hl
    exact ⟨_, exec_rcRegisterRead s a hm, rfl, fun f hfx hrc => rd_expertRead_rc s _ 2 x ha hb hc hf ht hl f hfx hrc,
      expertRead_code s _ 2 ha hb hc⟩

/-! ### The state right after reset (O56) -/

/-- After reset every field reads as its reset value: the register file lists none. -/
@[simp] theorem rd_reset (f : Field) : State.reset.rd f = f.reset := rfl

/-- After reset every word of memory is a NIL zero (R55). -/
@[simp] theorem word_reset (b o : Nat) : State.reset.word b o = {} := rfl

/-- After reset every ticket slot is free. -/
@[simp] theorem ticket_state_reset (i : Nat) : (State.reset.ticket i).state = .free := rfl

/-- After reset G31 of a thread points past the end of its local memory (R481), and every other general register is NIL. -/
theorem greg_reset (i n : Nat) :
    State.reset.greg i n = if n = 31 then ⟨.ptr, BitVec.ofNat 32 (localWords i)⟩ else TWord.nilWord := rfl

/-- After reset the register file and the memory list nothing, which is their canonical form. -/
theorem wf_reset : State.reset.wf = true := rfl

/-- Settles O56: after reset every store is empty, so each read gives the value of an unlisted key. -/
theorem resetState : Obligations.ResetState :=
  ⟨fun _ _ f _ => rd_reset f, fun b o => word_reset b o, fun i n => (greg_reset i n).trans (if_neg (Nat.ne_of_lt n.isLt)),
    fun i => (greg_reset i 31).trans (if_pos rfl), fun i => ticket_state_reset i, rfl, wf_reset, reset_tagsHeld⟩

end Sys2Proof.Machine

/-! ## Scope: what every step keeps

No function of the model that a command runs disturbs the canonical form of the register file and of the memory, or takes
from the queue. `Evolves s t` says so of a state `t` that has come from `s`. Its lemmas stand in the order of the model's
files, one for each function from states to states: given that the state it is applied to has come from `s₀`, its result
has. A proof follows the body of its function: `.ite` at an `if`, `.foldl` and `.each` at a loop, `.part` at a change of
other parts of the state, and the lemma of each function called. Only `State.wr` and
the loss of power write the register file, and only the functions that go through `Evolves.words` and
`Evolves.clearWhole` write the memory. -/

namespace Sys2Proof.Machine

/-- `t` has come from `s` by what commands do: where the register file and the memory of `s` are in canonical
form, so are those of `t`, and the queue of waiting commands is as it was. -/
structure Evolves (s t : State) : Prop where
  regs : Store.rising s.regs → Store.rising t.regs
  mem : s.memWf → t.memWf
  queue : t.pending = s.pending

/-- A command that answers a next state has come to it from `s`. -/
inductive OutEvolves (s : State) : Out → Prop
  | next {t : State} (h : Evolves s t) : OutEvolves s (.next t)
  | fault {r : Fault} : OutEvolves s (.fault r)
  | refused {r : Refusal} : OutEvolves s (.refused r)

/-- The operation of an instruction has come from `s` to the state that it leaves. -/
inductive EurEvolves (s : State) : EurRes → Prop
  | done {t : State} (h : Evolves s t) : EurEvolves s (.done t)
  | jump {t : State} {pc : Word} (h : Evolves s t) : EurEvolves s (.jump t pc)
  | again {t : State} (h : Evolves s t) : EurEvolves s (.again t)
  | trap {code : Nat} {w : TWord} {t : State} (h : Evolves s t) : EurEvolves s (.trap code w t)
  | after {code : Nat} {w : TWord} {t : State} (h : Evolves s t) : EurEvolves s (.after code w t)

/-- The operation of a Heddle has come from `s` to the state that it leaves. -/
inductive HdEvolves (s : State) : HdRes → Prop
  | done {t : State} {o : Option Nat} (h : Evolves s t) : HdEvolves s (.done t o)
  | waits {t : State} (h : Evolves s t) : HdEvolves s (.waits t)
  | stalls {t : State} (h : Evolves s t) : HdEvolves s (.stalls t)
  | faults {t : State} {code : Nat} (h : Evolves s t) : HdEvolves s (.faults t code)

/-- The state that an optional result holds, where it holds one, has come from `s`; `f` takes the state from the result. -/
inductive OptEvolves (s : State) {α : Type} (f : α → State) : Option α → Prop
  | none : OptEvolves s f none
  | some {a : α} (h : Evolves s (f a)) : OptEvolves s f (some a)

section StepEvolves
/- The lemmas are checked one after another: as parallel tasks they would all wait for their predecessors at once. -/
set_option Elab.async false
variable {s₀ s : State}

theorem Evolves.refl (s : State) : Evolves s s := ⟨id, id, rfl⟩

/-- A change of other parts than the register file, the memory words and the queue. -/
theorem Evolves.part (hs : Evolves s₀ s) {cycle free marks fuse link linkAnswer pow od tk jr flash trd time} {mem : MemState}
    {threads img hed loom can pwm fan bk gl readData} (hm : mem.mem = s.mem.mem := by rfl) :
    Evolves s₀ { s with cycle, free, marks, fuse, link, linkAnswer, pow, od, tk, jr, flash, trd, time, mem, threads, img, hed, loom,
                        can, pwm, fan, bk, gl, readData } :=
  ⟨hs.regs, fun h => State.memWf_of_eq hm (hs.mem h), hs.queue⟩

section
variable {c : Prop} {dec : Decidable c} {α β : Type}

theorem Evolves.ite {a b : State} (ha : Evolves s₀ a) (hb : Evolves s₀ b) : Evolves s₀ (if c then a else b) := by
  split
  · exact ha
  · exact hb
theorem Evolves.ite_fst {a b : State × α} (ha : Evolves s₀ a.1) (hb : Evolves s₀ b.1) : Evolves s₀ (if c then a else b).1 := by
  split
  · exact ha
  · exact hb
theorem Evolves.ite_snd {a b : α × State} (ha : Evolves s₀ a.2) (hb : Evolves s₀ b.2) : Evolves s₀ (if c then a else b).2 := by
  split
  · exact ha
  · exact hb
theorem Evolves.ite_snd_snd {a b : α × β × State} (ha : Evolves s₀ a.2.2) (hb : Evolves s₀ b.2.2) :
    Evolves s₀ (if c then a else b).2.2 := by
  split
  · exact ha
  · exact hb
theorem OutEvolves.ite {a b : Out} (ha : OutEvolves s₀ a) (hb : OutEvolves s₀ b) : OutEvolves s₀ (if c then a else b) := by
  split
  · exact ha
  · exact hb
theorem EurEvolves.ite {a b : EurRes} (ha : EurEvolves s₀ a) (hb : EurEvolves s₀ b) : EurEvolves s₀ (if c then a else b) := by
  split
  · exact ha
  · exact hb
theorem HdEvolves.ite {a b : HdRes} (ha : HdEvolves s₀ a) (hb : HdEvolves s₀ b) : HdEvolves s₀ (if c then a else b) := by
  split
  · exact ha
  · exact hb

theorem OptEvolves.ite {f : α → State} {a b : Option α} (ha : OptEvolves s₀ f a) (hb : OptEvolves s₀ f b) :
    OptEvolves s₀ f (if c then a else b) := by
  split
  · exact ha
  · exact hb
theorem OptEvolves.state {t : State} (h : Evolves s₀ t) : OptEvolves s₀ id (Option.some t) := .some h
theorem OptEvolves.getD {o : Option State} (ho : OptEvolves s₀ id o) {t : State} (ht : Evolves s₀ t) : Evolves s₀ (o.getD t) := by
  cases ho with
  | none => exact ht
  | some h => exact h
theorem OptEvolves.getD_snd {o : Option (α × State)} (ho : OptEvolves s₀ Prod.snd o) {p : α × State} (hp : Evolves s₀ p.2) :
    Evolves s₀ (o.getD p).2 := by
  cases ho with
  | none => exact hp
  | some h => exact h
theorem OptEvolves.get {f : α → State} {o : Option α} (ho : OptEvolves s₀ f o) {a : α} (e : o = Option.some a) : Evolves s₀ (f a) := by
  subst e
  cases ho with
  | some h => exact h
theorem Evolves.pair {a : α} (h : Evolves s₀ s) : Evolves s₀ (a, s).2 := h
theorem Evolves.triple {a : α} {b : β} (h : Evolves s₀ s) : Evolves s₀ (a, b, s).2.2 := h
theorem OptEvolves.map {o : Option State} (ho : OptEvolves s₀ id o) {a : α} :
    OptEvolves s₀ Prod.snd (o.map (fun t => (a, t))) := by
  cases ho with
  | none => exact .none
  | some h => exact .some h

theorem Evolves.foldl {l : List α} {f : State → α → State} {x : State} (h0 : Evolves s₀ x)
    (hf : ∀ u a, Evolves s₀ u → Evolves s₀ (f u a)) : Evolves s₀ (l.foldl f x) := by
  induction l generalizing x with
  | nil => exact h0
  | cons a l ih => exact ih (hf _ _ h0)

theorem Evolves.foldl_snd {l : List α} {f : β × State → α → β × State} {x : β × State} (h0 : Evolves s₀ x.2)
    (hf : ∀ u a, Evolves s₀ u.2 → Evolves s₀ (f u a).2) : Evolves s₀ (l.foldl f x).2 := by
  induction l generalizing x with
  | nil => exact h0
  | cons a l ih => exact ih (hf _ _ h0)
end

theorem Evolves.wr (hs : Evolves s₀ s) {f : Field} {v : Nat} : Evolves s₀ (s.wr f v) :=
  ⟨fun h => Store.rising_set _ _ _ _ (hs.regs h), hs.mem, hs.queue⟩

theorem Evolves.keepRegs (hs : Evolves s₀ s) {p : Nat × Nat → Bool} : Evolves s₀ { s with regs := s.regs.filter p } :=
  ⟨fun h => Store.rising_filter _ _ (hs.regs h), hs.mem, hs.queue⟩

/-- A change of the memory words that keeps their canonical form. -/
theorem Evolves.words {u : State} (hs : Evolves s₀ s) (hm : s.memWf → u.memWf) (hr : u.regs = s.regs := by rfl)
    (hq : u.pending = s.pending := by rfl) : Evolves s₀ u :=
  ⟨fun h => hr ▸ hs.regs h, fun h => hm (hs.mem h), hq.trans hs.queue⟩

/-- A memory without listed words is in canonical form. -/
theorem Evolves.clearWhole (hs : Evolves s₀ s) {spares} :
    Evolves s₀ { s with mem := { s.mem with mem := [], spares := spares } } :=
  ⟨hs.regs, fun _ => rfl, hs.queue⟩

/-! ### Ops -/

theorem Evolves.inc (hs : Evolves s₀ s) {f} : Evolves s₀ (s.inc f) :=
  hs.wr

theorem Evolves.wrIf (hs : Evolves s₀ s) {c f v} : Evolves s₀ (s.wrIf c f v) :=
  .ite hs.wr hs

theorem Evolves.wrBit (hs : Evolves s₀ s) {f k b} : Evolves s₀ (s.wrBit f k b) :=
  hs.wr

theorem Evolves.drawWord (hs : Evolves s₀ s) : Evolves s₀ s.drawWord.2 :=
  .pair hs.part

theorem Evolves.mark (hs : Evolves s₀ s) {m} : Evolves s₀ (s.mark m) :=
  hs.part

theorem Evolves.drawBool (hs : Evolves s₀ s) : Evolves s₀ s.drawBool.2 :=
  .pair hs.part

theorem Evolves.answer (hs : Evolves s₀ s) {code} : Evolves s₀ (s.answer code) :=
  hs.part

theorem Evolves.linkFails (hs : Evolves s₀ s) : Evolves s₀ s.linkFails :=
  hs.part.answer

theorem Evolves.overLink (hs : Evolves s₀ s) {f} (hf : ∀ u, Evolves s₀ u → Evolves s₀ (f u)) :
    Evolves s₀ (s.overLink f) :=
  .ite hs.linkFails (hf _ hs)

theorem Evolves.odPut (hs : Evolves s₀ s) {index sub v} : Evolves s₀ (s.odPut index sub v) :=
  hs.part

theorem Evolves.odPutU (hs : Evolves s₀ s) {index sub v} : Evolves s₀ (s.odPutU index sub v) :=
  hs.odPut

theorem Evolves.odInc (hs : Evolves s₀ s) {index sub hi} : Evolves s₀ (s.odInc index sub hi) :=
  hs.odPutU

theorem Evolves.setGlink (hs : Evolves s₀ s) {i l} : Evolves s₀ (s.setGlink i l) :=
  hs.part

theorem Evolves.glSend (hs : Evolves s₀ s) {i f} : Evolves s₀ (s.glSend i f) :=
  .ite hs hs.setGlink

theorem Evolves.mirrorRecord (hs : Evolves s₀ s) {b} : Evolves s₀ (s.mirrorRecord b) :=
  .ite hs (.ite (Evolves.part (.ite hs.glSend.mark hs.glSend)) hs.glSend)

theorem Evolves.mirrorRw (hs : Evolves s₀ s) {items} : Evolves s₀ (s.mirrorRw items) :=
  .ite hs.glSend hs

theorem Evolves.stageLocal (hs : Evolves s₀ s) {b} : Evolves s₀ (s.stageLocal b) :=
  .ite hs (.ite hs.part hs.part)

theorem Evolves.stage (hs : Evolves s₀ s) {b} : Evolves s₀ (s.stage b) :=
  .ite hs.stageLocal.mirrorRecord hs

theorem Evolves.intBit (hs : Evolves s₀ s) {k} : Evolves s₀ (s.intBit k) :=
  hs.wrBit

theorem Evolves.event (hs : Evolves s₀ s) {code src data} : Evolves s₀ (s.event code src data) :=
  hs.part.stage.intBit

theorem Evolves.setTicket (hs : Evolves s₀ s) {i t} : Evolves s₀ (s.setTicket i t) :=
  hs.part

theorem Evolves.admitTicket (hs : Evolves s₀ s) {t} : OptEvolves s₀ Prod.fst (s.admitTicket t) := by
  unfold State.admitTicket
  dsimp only
  split
  · exact .none
  · exact .some (.ite hs.part.stage hs.part)

theorem Evolves.cardEnd (hs : Evolves s₀ s) {i} : Evolves s₀ (s.cardEnd i) := by
  unfold State.cardEnd
  dsimp only
  split
  · exact .ite hs.part.wr.wr hs
  · exact hs

theorem Evolves.gwAnswer (hs : Evolves s₀ s) {h code} : Evolves s₀ (s.gwAnswer h code) := by
  unfold State.gwAnswer
  dsimp only
  refine .ite hs ?_
  split
  · exact hs.part.glSend
  · exact hs.part

theorem Evolves.odAnswer (hs : Evolves s₀ s) {c code v h side} : Evolves s₀ (s.odAnswer c code v h side) :=
  hs.part

theorem Evolves.toWire (hs : Evolves s₀ s) {r v} : Evolves s₀ (s.toWire r v).2 := by
  unfold State.toWire
  dsimp only
  split
  · exact hs
  · exact .ite_snd hs (.pair hs.drawWord)

theorem Evolves.toWireAll (hs : Evolves s₀ s) {rs vs} : Evolves s₀ (s.toWireAll rs vs).2 := by
  induction rs generalizing s vs with
  | nil => exact hs
  | cons r rs ih =>
    cases vs with
    | nil => exact hs
    | cons v vs => exact ih hs.toWire

theorem Evolves.netFinal (hs : Evolves s₀ s) {i} : Evolves s₀ (s.netFinal i) :=
  .ite hs (.ite hs.odAnswer (.ite hs.odAnswer hs.toWireAll.odAnswer))

theorem Evolves.finish (hs : Evolves s₀ s) {i st code tag v} : Evolves s₀ (s.finish i st code tag v) :=
  (Evolves.gwAnswer (.ite (Evolves.intBit (.ite hs.cardEnd.setTicket.stage hs.cardEnd.setTicket))
      (.ite hs.cardEnd.setTicket.stage hs.cardEnd.setTicket))).netFinal

theorem Evolves.failTicket (hs : Evolves s₀ s) {i code} : Evolves s₀ (s.failTicket i code) :=
  hs.finish

theorem Evolves.retireSlot (hs : Evolves s₀ s) {i} : Evolves s₀ (s.retireSlot i) :=
  .ite hs.setTicket.stage hs.setTicket

theorem Evolves.setThread (hs : Evolves s₀ s) {i t} : Evolves s₀ (s.setThread i t) :=
  hs.part

theorem Evolves.wake (hs : Evolves s₀ s) {i} : Evolves s₀ (s.wake i) := by
  unfold State.wake
  dsimp only
  split
  · exact hs.setThread
  · exact hs
  · exact hs
  · exact hs.setThread

theorem Evolves.interruptWeaver (hs : Evolves s₀ s) : Evolves s₀ s.interruptWeaver :=
  hs.wake.wake

theorem Evolves.wakeShuttle (hs : Evolves s₀ s) {n} : Evolves s₀ (s.wakeShuttle n) :=
  hs.wake

theorem Evolves.setSlot (hs : Evolves s₀ s) {k v} : Evolves s₀ (s.setSlot k v) :=
  hs.part

theorem Evolves.bgSlot (hs : Evolves s₀ s) {bit unit fg} : Evolves s₀ (s.bgSlot bit unit fg).2 :=
  .ite_snd (.pair hs.part.wrIf) (.ite_snd (.pair hs.part) (.pair hs.part))

theorem Evolves.pktPut (hs : Evolves s₀ s) {a b} : Evolves s₀ (s.pktPut a b) :=
  hs.words (s.memWf_pktPut a b)

theorem Evolves.pktPutBytes (hs : Evolves s₀ s) {k a b} : Evolves s₀ (State.pktPutBytes k s a b) := by
  induction k generalizing s a b with
  | zero => exact hs
  | succ k ih => exact .ite hs (ih hs.pktPut)

theorem Evolves.each (hs : Evolves s₀ s) {α : Type} {l : List α} {f : State → α → State}
    (hf : ∀ u a, Evolves s₀ u → Evolves s₀ (f u a)) : Evolves s₀ (s.each l f) :=
  hs.foldl hf

/-! ### Can -/

theorem Evolves.setCn (hs : Evolves s₀ s) {n u} : Evolves s₀ (s.setCn n u) :=
  hs.part

theorem Evolves.cnTo (hs : Evolves s₀ s) {n st} : Evolves s₀ (s.cnTo n st) :=
  hs.wr

theorem Evolves.moWake (hs : Evolves s₀ s) {n k} : Evolves s₀ (s.moWake n k) :=
  .ite hs.wakeShuttle hs

theorem Evolves.cnRefuse (hs : Evolves s₀ s) {n} : Evolves s₀ (s.cnRefuse n) :=
  hs.wr

theorem Evolves.moClear (hs : Evolves s₀ s) {n k} : Evolves s₀ (s.moClear n k) :=
  hs.wr.wr

theorem Evolves.moFail (hs : Evolves s₀ s) {n k} : Evolves s₀ (s.moFail n k) :=
  hs.moClear.wr.moWake

theorem Evolves.moStore (hs : Evolves s₀ s) {n k f back} : Evolves s₀ (s.moStore n k f back) :=
  (hs.each fun _ _ h1 => h1.wr).wr.wr.wr.wr.wr.wr.wr.wrIf.wr.moWake

theorem Evolves.cnCount (hs : Evolves s₀ s) {n tec rec'} : Evolves s₀ (s.cnCount n tec rec') :=
  .ite hs.wr.wr.wr.cnTo.event (.ite hs.wr.wr.wr.cnTo hs.wr.wr.wr)

theorem Evolves.cnStop (hs : Evolves s₀ s) {n} : Evolves s₀ (s.cnStop n) :=
  hs.setCn.cnTo.wr

theorem Evolves.cnEnd (hs : Evolves s₀ s) {n} : Evolves s₀ (s.cnEnd n) :=
  .ite hs.setCn.cnStop hs.setCn

theorem Evolves.cnTiming (hs : Evolves s₀ s) {n} : Evolves s₀ (s.cnTiming n) :=
  hs.wr.wr.wr.wr.wr.wr.wr.wr.wr.wr.wrIf

theorem Evolves.cellMissed (hs : Evolves s₀ s) {n cell} : Evolves s₀ (s.cellMissed n cell) :=
  hs.wr.wr

theorem Evolves.exclMiss (hs : Evolves s₀ s) {n cell k resend} : Evolves s₀ (s.exclMiss n cell k resend) :=
  .ite hs.cellMissed hs.cellMissed.moFail

theorem Evolves.columnEnd (hs : Evolves s₀ s) {n} : Evolves s₀ (s.columnEnd n) := by
  unfold State.columnEnd
  dsimp only
  refine Evolves.setCn ?_
  split
  · refine Evolves.exclMiss ?_
    split
    · exact hs.cellMissed
    · exact hs
  · split
    · exact hs.cellMissed
    · exact hs

theorem Evolves.evalCell (hs : Evolves s₀ s) {n j} : Evolves s₀ (s.evalCell n j) :=
  .ite hs.mark.wr.wr.setCn hs.mark.setCn

theorem Evolves.ttStart (hs : Evolves s₀ s) {n cyc} : Evolves s₀ (s.ttStart n cyc) :=
  .ite hs (Evolves.wrIf (.ite hs.columnEnd hs)).wr.wr.wr.wr.mark.setCn.evalCell

theorem Evolves.ttReference (hs : Evolves s₀ s) {n f} : Evolves s₀ (s.ttReference n f) :=
  .ite hs.ttStart hs

theorem Evolves.cnAngle (hs : Evolves s₀ s) {n} : Evolves s₀ (s.cnAngle n) :=
  .ite hs.ttStart hs

theorem Evolves.ttStep (hs : Evolves s₀ s) {before} : Evolves s₀ (s.ttStep before) :=
  hs.each fun _ _ h1 => .ite h1.ttStart.wr h1

theorem Evolves.copyWake (hs : Evolves s₀ s) {n} : Evolves s₀ (s.copyWake n) :=
  hs.part

theorem Evolves.wakeRate (hs : Evolves s₀ s) {n} : Evolves s₀ (s.wakeRate n) :=
  hs.part

theorem Evolves.execCanStart (hs : Evolves s₀ s) {n wtr} : OutEvolves s₀ (execCanStart n wtr s) :=
  .next (.ite hs (.ite hs.cnTiming.cnRefuse hs.cnTiming.setCn.cnTo.cnCount.wr.wakeRate))

theorem Evolves.execCanStop (hs : Evolves s₀ s) {n} : OutEvolves s₀ (execCanStop n s) :=
  .next (.ite hs (.ite hs.setCn hs.cnStop))

theorem Evolves.execCanRecover (hs : Evolves s₀ s) {n} : OutEvolves s₀ (execCanRecover n s) :=
  .next (.ite hs.cnTo hs)

theorem Evolves.execCanSleep (hs : Evolves s₀ s) {n} : OutEvolves s₀ (execCanSleep n s) :=
  .next (.ite hs.setCn.cnTo hs)

theorem Evolves.execCanBusIdle (hs : Evolves s₀ s) {n} : OutEvolves s₀ (execCanBusIdle n s) :=
  .next (.ite hs.cnTo hs)

theorem Evolves.execCanRecoveryComplete (hs : Evolves s₀ s) {n} : OutEvolves s₀ (execCanRecoveryComplete n s) :=
  .next (.ite hs hs.cnCount.cnTo.event)

theorem Evolves.recAfter (hs : Evolves s₀ s) {n} : Evolves s₀ (s.recAfter n).2 :=
  .ite_snd (.pair hs.drawWord) hs

theorem Evolves.cnOffer (hs : Evolves s₀ s) {n f back} : Evolves s₀ (s.cnOffer n f back) := by
  unfold State.cnOffer
  dsimp only
  split
  · exact hs.wr
  · split
    · exact .ite hs.moStore.setCn hs.moStore
    · exact hs.moStore

theorem Evolves.execCanFrameReceived (hs : Evolves s₀ s) {n f back} :
    OutEvolves s₀ (execCanFrameReceived n f back s) :=
  .next (.ite hs (.ite hs.recAfter.cnCount.wr hs.recAfter.cnCount.cnOffer.ttReference))

theorem Evolves.execTransmitAttemptStart (hs : Evolves s₀ s) {n left} :
    OutEvolves s₀ (execTransmitAttemptStart n left s) := by
  unfold Machine.execTransmitAttemptStart
  dsimp only
  refine .next (.ite hs ?_)
  split
  · exact hs
  · exact hs.setCn

theorem Evolves.execTransmitSuccess (hs : Evolves s₀ s) {n back} : OutEvolves s₀ (execTransmitSuccess n back s) := by
  unfold Machine.execTransmitSuccess
  dsimp only
  refine .next ?_
  split
  · exact hs
  · exact .ite hs (Evolves.cnEnd (.ite hs.moClear.wr.wr.wr.moWake.cnCount.cnOffer hs.moClear.wr.wr.wr.moWake.cnCount))

theorem Evolves.cnBusOff (hs : Evolves s₀ s) {n} : Evolves s₀ (s.cnBusOff n) := by
  unfold State.cnBusOff
  dsimp only
  refine (Evolves.inc ?_).wr.odInc.setCn.cnTo.event
  split
  · exact hs.wr
  · exact hs

theorem Evolves.execTransmitFailure (hs : Evolves s₀ s) {n why} : OutEvolves s₀ (execTransmitFailure n why s) := by
  unfold Machine.execTransmitFailure
  refine .next ?_
  split
  · exact hs
  · extract_lets +onlyGivenNames tec tec' s1 s2 s3 _ s4
    have h1 : Evolves s₀ s1 := by
      unfold s1
      split
      · exact hs
      · exact hs.wr
    have h2 : Evolves s₀ s2 := by
      unfold s2
      split
      · exact .ite h1.cellMissed.moFail h1.exclMiss
      · exact .ite h1.moFail h1
    have h4 : Evolves s₀ s4 := h2.cnCount.setCn
    exact .ite (.ite h4.cnBusOff.cnStop h4.cnBusOff) (.ite h4.cnStop h4)

theorem Evolves.execCanReceiveError (hs : Evolves s₀ s) {n lec by8} :
    OutEvolves s₀ (execCanReceiveError n lec by8 s) :=
  .next (.ite hs hs.wr.cnCount)

theorem Evolves.execTxset (hs : Evolves s₀ s) {n k} : OutEvolves s₀ (execTxset n k s) :=
  .next (.ite hs.wr hs.cnRefuse)

theorem Evolves.execTxcancel (hs : Evolves s₀ s) {n k} : OutEvolves s₀ (execTxcancel n k s) := by
  unfold Machine.execTxcancel
  dsimp only
  refine .next ?_
  split
  · exact .ite hs.moClear.setCn hs.moClear
  · exact hs.moClear

theorem Evolves.execMoConfigWrite (hs : Evolves s₀ s) {n k w} : OutEvolves s₀ (execMoConfigWrite n k w s) := by
  unfold Machine.execMoConfigWrite
  dsimp only
  refine .next ?_
  split
  · exact .ite hs.cnRefuse hs.wr
  · exact .ite hs.cnRefuse (Evolves.wr (.ite hs.moClear hs)).wr.wr.wr.wr.wr.wr.wr

theorem Evolves.execNewdatClear (hs : Evolves s₀ s) {n k} : OutEvolves s₀ (execNewdatClear n k s) :=
  .next hs.wr

theorem Evolves.execTtCycleStart (hs : Evolves s₀ s) {n cyc} : OutEvolves s₀ (execTtCycleStart n cyc s) :=
  .next hs.ttStart

theorem Evolves.execTtColumnMark (hs : Evolves s₀ s) {n} : OutEvolves s₀ (execTtColumnMark n s) :=
  .next (.ite hs hs.columnEnd.wr.evalCell)

theorem Evolves.execTtTxWindowExpiry (hs : Evolves s₀ s) {n} : OutEvolves s₀ (execTtTxWindowExpiry n s) := by
  unfold Machine.execTtTxWindowExpiry
  dsimp only
  refine .next ?_
  split
  · exact hs
  · exact .ite hs hs.exclMiss.setCn

theorem Evolves.execRefLost (hs : Evolves s₀ s) {n} : OutEvolves s₀ (execRefLost n s) :=
  .next (.ite hs.setCn.wr hs)

theorem Evolves.execTxdTimeout (hs : Evolves s₀ s) {n} : OutEvolves s₀ (execTxdTimeout n s) :=
  .next hs.wr.event

theorem Evolves.execBusFault (hs : Evolves s₀ s) {n code} : OutEvolves s₀ (execBusFault n code s) :=
  .next (.ite hs (.ite hs.mark hs.mark.wr.event))

theorem Evolves.execBusFaultClear (hs : Evolves s₀ s) {n} : OutEvolves s₀ (execBusFaultClear n s) :=
  .next (.ite hs.wr hs)

/-! ### LoomOps -/

theorem Evolves.pstk (hs : Evolves s₀ s) {p k} : Evolves s₀ (s.pstk p k) :=
  .ite hs.wrBit.wrBit hs

theorem Evolves.setEg (hs : Evolves s₀ s) {p e} : Evolves s₀ (s.setEg p e) :=
  hs.part

theorem Evolves.setQset (hs : Evolves s₀ s) {q v} : Evolves s₀ (s.setQset q v) :=
  hs.part

theorem Evolves.setFrame (hs : Evolves s₀ s) {f v} : Evolves s₀ (s.setFrame f v) :=
  hs.part

theorem Evolves.pickCells (hs : Evolves s₀ s) {k l} : Evolves s₀ (State.pickCells k s l).2 := by
  induction k generalizing s l with
  | zero => exact hs
  | succ k ih => exact ih hs.drawWord

theorem Evolves.putCells (hs : Evolves s₀ s) {l b} : Evolves s₀ (State.putCells s l b) := by
  induction l generalizing s b with
  | nil => exact hs
  | cons c cs ih => exact ih hs.pktPutBytes

theorem Evolves.release (hs : Evolves s₀ s) {first} : Evolves s₀ (s.release first) := by
  unfold State.release
  split
  · exact hs
  · exact .ite hs.setFrame hs

theorem Evolves.bobLose (hs : Evolves s₀ s) : Evolves s₀ s.bobLose :=
  hs.inc.part

theorem Evolves.bobbin (hs : Evolves s₀ s) {bytes port dir verdict tc vid clock ang} :
    Evolves s₀ (s.bobbin bytes port dir verdict tc vid clock ang) :=
  .ite hs <|
  .ite (hs.each fun _ _ h1 => h1.part) <|
  .ite (hs.each fun _ _ h1 => h1.part).bobLose (hs.each fun _ _ h1 => h1.part).part

theorem Evolves.complete (hs : Evolves s₀ s) {q w} : OptEvolves s₀ id (s.complete q w) :=
  .ite (.state hs.setQset) .none

theorem Evolves.endCopy (hs : Evolves s₀ s) {first} : Evolves s₀ (s.endCopy first) := by
  unfold State.endCopy
  split
  · exact hs
  · exact hs.setFrame.release

theorem Evolves.dropCopy (hs : Evolves s₀ s) {port verdict c} : Evolves s₀ (s.dropCopy port verdict c) := by
  unfold State.dropCopy
  dsimp only
  split
  · exact hs
  · refine Evolves.endCopy ?_
    split
    · exact hs.bobbin.part
    · exact .ite hs.bobbin (hs.bobbin.complete.getD hs.bobbin.wr)

theorem Evolves.eventCount (hs : Evolves s₀ s) {x} : Evolves s₀ (s.eventCount x).2 := by
  unfold State.eventCount
  extract_lets e e1
  split
  · exact hs.part
  · refine .pair ?_
    split
    · exact hs
    · exact hs.odPut

theorem Evolves.counted (hs : Evolves s₀ s) {o : Option Nat} :
    Evolves s₀ (match o with
      | some x => s.eventCount x
      | none => (true, s)).2 := by
  cases o with
  | none => exact hs
  | some x => exact hs.eventCount

theorem Evolves.deliver (hs : Evolves s₀ s) {q first} : Evolves s₀ (s.deliver q first).2 := by
  unfold State.deliver
  split
  · exact hs
  · extract_lets +onlyGivenNames v c
    have hc : Evolves s₀ c.2 := hs.counted
    clear_value c
    extract_lets +onlyGivenNames t e base _ s1 s2
    have h1 : Evolves s₀ s1 := hc.part
    have h2 : Evolves s₀ s2 := h1.setFrame.setQset
    clear_value s2
    exact .ite_snd hs (.ite_snd hs (.ite_snd (.pair hc) (.pair (.ite h2.wakeShuttle h2))))

theorem Evolves.tgRestart (hs : Evolves s₀ s) {p} : Evolves s₀ (s.tgRestart p) := by
  unfold State.tgRestart
  dsimp only
  refine Evolves.wr ?_
  split
  · exact hs
  · exact hs.setEg.wr

theorem Evolves.agRestart (hs : Evolves s₀ s) {p} : Evolves s₀ (s.agRestart p) := by
  unfold State.agRestart
  dsimp only
  refine (Evolves.setEg ?_).wr
  split
  · exact hs
  · exact hs.setEg.wr

theorem Evolves.rePlaceTime (hs : Evolves s₀ s) : Evolves s₀ s.rePlaceTime :=
  hs.each fun _ _ h1 => h1.wr

theorem Evolves.rePlaceAngle (hs : Evolves s₀ s) : Evolves s₀ s.rePlaceAngle :=
  hs.each fun _ _ h1 => .ite h1 h1.wr

theorem Evolves.learn (hs : Evolves s₀ s) {mac vid port} : Evolves s₀ (s.learn mac vid port) := by
  unfold State.learn
  dsimp only
  split
  · exact .ite hs hs.part
  · exact .ite hs.part (.ite hs.wr hs.wr.event.part)

theorem Evolves.enqueue (hs : Evolves s₀ s) {p tc c} : Evolves s₀ (s.enqueue p tc c).2 := by
  unfold State.enqueue
  dsimp only
  split
  · exact hs
  · exact .ite_snd (.pair hs.setFrame.setEg) (.pair hs.setFrame.dropCopy)

theorem Evolves.forward (hs : Evolves s₀ s) {first b port vid prio tcs localOnly} :
    Evolves s₀ (s.forward first b port vid prio tcs localOnly).2 := by
  unfold State.forward
  extract_lets h sets own d s1 mask red seqd r _ _ s2
  have h1 : Evolves s₀ s1 := .foldl_snd hs fun _ _ h => .pair h.deliver
  have hr : Evolves s₀ r.2 := .foldl_snd h1 fun _ _ h => .pair h.enqueue
  have h2 : Evolves s₀ s2 := .ite hr.part hr
  exact .ite_snd h1 (.ite_snd h1 (.ite_snd h2 (.ite_snd h2 (.ite_snd h2 h2))))

/-! ### Time -/

theorem Evolves.setTpo (hs : Evolves s₀ s) {n u} : Evolves s₀ (s.setTpo n u) :=
  hs.part

theorem Evolves.tpoPulse (hs : Evolves s₀ s) {n} : Evolves s₀ (s.tpoPulse n) :=
  .ite hs hs.setTpo

theorem Evolves.tpoArm (hs : Evolves s₀ s) {n} : Evolves s₀ (s.tpoArm n) :=
  hs.setTpo

theorem Evolves.tpoChanged (hs : Evolves s₀ s) {n} : Evolves s₀ (s.tpoChanged n) :=
  .ite hs (.ite (.ite hs hs.tpoArm) (.ite hs hs.tpoArm))

theorem Evolves.tpoServe (hs : Evolves s₀ s) {n i} : Evolves s₀ (s.tpoServe n i) :=
  .ite (Evolves.setTpo (.ite hs hs.tpoPulse)) (Evolves.tpoArm (.ite hs hs.tpoPulse))

theorem Evolves.tpoStep (hs : Evolves s₀ s) {src forward} : Evolves s₀ (s.tpoStep src forward) := by
  unfold State.tpoStep
  dsimp only
  refine hs.each fun _ _ h1 => .ite h1 (.ite ?_ (.ite h1 h1.setTpo))
  split
  · exact h1
  · exact h1.tpoServe.wr

theorem Evolves.dtSet (hs : Evolves s₀ s) {c} : Evolves s₀ (s.dtSet c) :=
  hs.part.tpoStep.rePlaceTime.ttStep

theorem Evolves.dtStep (hs : Evolves s₀ s) : Evolves s₀ s.dtStep :=
  hs.dtSet.wr.wr

theorem Evolves.reSource (hs : Evolves s₀ s) : Evolves s₀ s.reSource :=
  .ite hs (.ite hs.wr.wr.wr.part (.ite hs.wr.wr.wrIf.dtStep hs.wr.wr.wrIf))

theorem Evolves.dtCommand (hs : Evolves s₀ s) : OptEvolves s₀ id s.dtCommand :=
  .ite (.state hs.dtStep) .none

theorem Evolves.domMove (hs : Evolves s₀ s) {x c} : Evolves s₀ (s.domMove x c) :=
  (Evolves.tpoStep (.ite hs.part hs.part)).wrIf

theorem Evolves.beatNow (hs : Evolves s₀ s) {x} : Evolves s₀ (s.beatNow x) :=
  hs.part

theorem Evolves.domTo (hs : Evolves s₀ s) {x st} : Evolves s₀ (s.domTo x st) :=
  hs.wr.wr.reSource

theorem Evolves.domStateWrite (hs : Evolves s₀ s) {x v} : Evolves s₀ (s.domStateWrite x v) :=
  .ite hs (.ite hs.beatNow.domTo hs.domTo)

theorem Evolves.domRateWrite (hs : Evolves s₀ s) {x rate} : Evolves s₀ (s.domRateWrite x rate) :=
  .ite hs.beatNow hs.beatNow.wr.wr.part

theorem Evolves.domRateLo (hs : Evolves s₀ s) {x v} : Evolves s₀ (s.domRateLo x v) :=
  hs.beatNow.wrIf

theorem Evolves.domStep (hs : Evolves s₀ s) {x ns} : Evolves s₀ (s.domStep x ns) :=
  hs.domMove

theorem Evolves.domSet (hs : Evolves s₀ s) {x} : Evolves s₀ (s.domSet x) :=
  hs.domMove

theorem Evolves.tickTime (hs : Evolves s₀ s) : Evolves s₀ s.tickTime :=
  hs.part.wr

theorem Evolves.timeStart (hs : Evolves s₀ s) {cnt} : Evolves s₀ (s.timeStart cnt) :=
  hs.part

theorem Evolves.setTpi (hs : Evolves s₀ s) {n l} : Evolves s₀ (s.setTpi n l) :=
  hs.part

theorem Evolves.tpiPop (hs : Evolves s₀ s) {n} : Evolves s₀ (s.tpiPop n) := by
  unfold State.tpiPop
  dsimp only
  split
  · exact hs.wr.wr
  · exact hs.setTpi.wr.wr.wr.wr.wr.wr.wr.wr.wr.wr.wr.wr

theorem Evolves.tpiTake (hs : Evolves s₀ s) {n} : Evolves s₀ (s.tpiTake n).2 := by
  unfold State.tpiTake
  split
  · exact hs
  · exact .pair hs.setTpi

theorem Evolves.execTdxStateWrite (hs : Evolves s₀ s) {x v w} : OutEvolves s₀ (execTdxStateWrite x v w s) :=
  .next (.ite hs.domStateWrite hs)

theorem Evolves.execTdxRateWrite (hs : Evolves s₀ s) {x rate w} : OutEvolves s₀ (execTdxRateWrite x rate w s) :=
  .next (.ite hs.domRateWrite hs)

theorem Evolves.execTdxHeartbeat (hs : Evolves s₀ s) {x w} : OutEvolves s₀ (execTdxHeartbeat x w s) :=
  .next (.ite hs.beatNow hs)

theorem Evolves.execTdxStep (hs : Evolves s₀ s) {x ns w} : OutEvolves s₀ (execTdxStep x ns w s) :=
  .next (.ite hs.domStep hs)

theorem Evolves.execTdxSet (hs : Evolves s₀ s) {x w} : OutEvolves s₀ (execTdxSet x w s) :=
  .next (.ite hs.domSet hs)

theorem Evolves.execServoTimeout (hs : Evolves s₀ s) {x} : OutEvolves s₀ (execServoTimeout x s) :=
  .next (.ite hs.wr.odInc.domTo hs)

theorem Evolves.execDeviceTimeAligned (hs : Evolves s₀ s) : OutEvolves s₀ (execDeviceTimeAligned s) :=
  .next (.ite hs.part.wr hs)

theorem Evolves.execDtStepCmd (hs : Evolves s₀ s) : OutEvolves s₀ (execDtStepCmd s) := by
  unfold Machine.execDtStepCmd
  refine .next ?_
  split
  next e => exact (hs.dtCommand.get e).answer
  next => exact hs.answer

theorem Evolves.snap (hs : Evolves s₀ s) : Evolves s₀ s.snap :=
  hs.wr.wr.wr.wr.wr.wr.wr.wr.wr.wr

theorem Evolves.execSnap (hs : Evolves s₀ s) : OutEvolves s₀ (execSnap s) :=
  .next hs.snap

theorem Evolves.execTpoAssert (hs : Evolves s₀ s) {n} : OutEvolves s₀ (execTpoAssert n s) := by
  unfold Machine.execTpoAssert
  refine .next (.ite hs ?_)
  split
  · exact hs
  · exact hs.tpoServe

theorem Evolves.tpoAngle (hs : Evolves s₀ s) {n} : Evolves s₀ (s.tpoAngle n) :=
  .ite hs.tpoPulse hs

theorem Evolves.execTpoDeassert (hs : Evolves s₀ s) {n} : OutEvolves s₀ (execTpoDeassert n s) :=
  .next (.ite hs (.ite hs.setTpo.tpoArm hs.setTpo))

theorem Evolves.execTpiCapture (hs : Evolves s₀ s) {n rising} : OutEvolves s₀ (execTpiCapture n rising s) :=
  .next (.ite hs (.ite hs (.ite hs.part.wr hs.part.setTpi)))

theorem Evolves.execTpiPop (hs : Evolves s₀ s) {n} : OutEvolves s₀ (execTpiPop n s) :=
  .next hs.tpiPop

theorem Evolves.execTpiRecordRead (hs : Evolves s₀ s) {n} : OutEvolves s₀ (execTpiRecordRead n s) :=
  .next hs.tpiTake.part

/-! ### Backup -/

theorem Evolves.firstPower (hs : Evolves s₀ s) {src} : Evolves s₀ (s.firstPower src) :=
  (hs.keepRegs (p := fun e => !keptKey e.1)).part.wr

theorem Evolves.placeTarget (hs : Evolves s₀ s) : Evolves s₀ s.placeTarget :=
  hs.part

theorem Evolves.alarmFire (hs : Evolves s₀ s) {late} : Evolves s₀ (s.alarmFire late) :=
  .ite hs.wr.wr.wrIf.interruptWeaver.event.part hs.wr.wr.wrIf

theorem Evolves.periodFire (hs : Evolves s₀ s) {t} : Evolves s₀ (s.periodFire t) :=
  Evolves.part (.ite hs.wr.interruptWeaver hs.wr)

theorem Evolves.periodCheck (hs : Evolves s₀ s) : Evolves s₀ s.periodCheck := by
  unfold State.periodCheck
  split
  · exact hs
  · exact .ite hs.periodFire hs

theorem Evolves.rtcLoad (hs : Evolves s₀ s) : Evolves s₀ s.rtcLoad :=
  Evolves.placeTarget (.ite hs.part.wr.wr.wr.wr.event hs.part.wr.wr.wr.wr)

theorem Evolves.winTick (hs : Evolves s₀ s) : Evolves s₀ s.winTick :=
  hs.part

theorem Evolves.rtcEdge (hs : Evolves s₀ s) : Evolves s₀ s.rtcEdge :=
  .ite hs <|
  Evolves.winTick <|
  .ite (.ite (Evolves.alarmFire (.ite hs.rtcLoad hs.part.wrIf)) (.ite hs.rtcLoad hs.part.wrIf)) <|
  Evolves.periodCheck <|
  .ite (Evolves.alarmFire (.ite hs.rtcLoad hs.part.wrIf)) <|
  .ite hs.rtcLoad hs.part.wrIf

theorem Evolves.rtcEdgeIf (hs : Evolves s₀ s) {c} : Evolves s₀ (s.rtcEdgeIf c) :=
  .ite hs.part.rtcEdge hs

theorem Evolves.offsetWrite (hs : Evolves s₀ s) {v} : OptEvolves s₀ id (s.offsetWrite v) :=
  .ite (.state hs.wr) .none

theorem Evolves.summer (hs : Evolves s₀ s) {on} : Evolves s₀ (s.summer on).1 := by
  unfold State.summer
  refine .ite_fst hs.wr ?_
  split
  next => exact hs.wr
  next e => exact Evolves.wr (hs.offsetWrite.get e)

theorem Evolves.rtcSet (hs : Evolves s₀ s) : Evolves s₀ s.rtcSet :=
  hs.part

theorem Evolves.rtcSetTo (hs : Evolves s₀ s) {v} : Evolves s₀ (s.rtcSetTo v) :=
  hs.wr.wr.rtcSet

theorem Evolves.alarmLo (hs : Evolves s₀ s) {v} : Evolves s₀ (s.alarmLo v) :=
  hs.wr.wr

theorem Evolves.alarmHi (hs : Evolves s₀ s) {v} : Evolves s₀ (s.alarmHi v) :=
  hs.wr.wr

theorem Evolves.periodWrite (hs : Evolves s₀ s) {v} : Evolves s₀ (s.periodWrite v) :=
  .ite hs.wr.placeTarget hs

theorem Evolves.postResumed (hs : Evolves s₀ s) : Evolves s₀ s.postResumed := by
  unfold State.postResumed
  dsimp only
  split
  · exact .ite hs.event.part hs
  · exact hs

theorem Evolves.backupW8 (hs : Evolves s₀ s) : Evolves s₀ s.backupW8 :=
  .ite hs.event hs

theorem Evolves.measureOn (hs : Evolves s₀ s) : Evolves s₀ s.measureOn :=
  hs.part

theorem Evolves.measureKeep (hs : Evolves s₀ s) : Evolves s₀ s.measureKeep :=
  .ite hs.measureOn hs

theorem Evolves.tickRtc (hs : Evolves s₀ s) : Evolves s₀ s.tickRtc := by
  unfold State.tickRtc
  exact .ite hs.measureKeep.part hs.measureKeep.part.rtcEdge

theorem Evolves.execRailSwitchover (hs : Evolves s₀ s) : OutEvolves s₀ (execRailSwitchover s) :=
  .next (.ite hs hs.part.inc.wr)

theorem Evolves.execRailSwitchBack (hs : Evolves s₀ s) : OutEvolves s₀ (execRailSwitchBack s) :=
  .next (.ite hs hs.part.wr)

theorem Evolves.execBackupDomainLost (hs : Evolves s₀ s) : OutEvolves s₀ (execBackupDomainLost s) :=
  .next hs.part.wrIf

theorem Evolves.execVbatMeasurement (hs : Evolves s₀ s) {mv} : OutEvolves s₀ (execVbatMeasurement mv s) :=
  .next (.ite hs (.ite hs.wr.wr.wr.event hs.wr.wr.wr))

theorem Evolves.execOscFail (hs : Evolves s₀ s) : OutEvolves s₀ (execOscFail s) :=
  .next hs.part.wr.wr

theorem Evolves.execOscResume (hs : Evolves s₀ s) : OutEvolves s₀ (execOscResume s) :=
  .next (.ite hs hs.part.postResumed)

theorem Evolves.cntloRead (hs : Evolves s₀ s) : Evolves s₀ s.cntloRead :=
  hs.wr.part

theorem Evolves.execCntloRead (hs : Evolves s₀ s) : OutEvolves s₀ (execCntloRead s) :=
  .next (hs.overLink fun _ h1 => h1.cntloRead)

theorem Evolves.execRtcSet (hs : Evolves s₀ s) : OutEvolves s₀ (execRtcSet s) :=
  .next (hs.overLink fun _ h1 => h1.rtcSet)

theorem Evolves.execRtcSetEdge (hs : Evolves s₀ s) : OutEvolves s₀ (execRtcSetEdge s) :=
  .next hs.rtcEdgeIf

theorem Evolves.execSummerOn (hs : Evolves s₀ s) : OutEvolves s₀ (execSummerOn s) :=
  .next (hs.overLink fun _ h1 => h1.summer.answer)

theorem Evolves.execSummerOff (hs : Evolves s₀ s) : OutEvolves s₀ (execSummerOff s) :=
  .next (hs.overLink fun _ h1 => h1.summer.answer)

theorem Evolves.execLocalOffsetWrite (hs : Evolves s₀ s) {v} : OutEvolves s₀ (execLocalOffsetWrite v s) := by
  unfold Machine.execLocalOffsetWrite
  refine .next (hs.overLink fun u h1 => ?_)
  split
  next e => exact Evolves.answer (h1.offsetWrite.get e)
  next => exact h1.answer

theorem Evolves.execTrimWrite (hs : Evolves s₀ s) {v} : OutEvolves s₀ (execTrimWrite v s) :=
  .next (hs.overLink fun _ h1 => h1.wr)

theorem Evolves.execTrimCorrection (hs : Evolves s₀ s) : OutEvolves s₀ (execTrimCorrection s) :=
  .next hs.rtcEdgeIf

theorem Evolves.execRtcSync (hs : Evolves s₀ s) : OutEvolves s₀ (execRtcSync s) :=
  .next (.ite hs (.ite (hs.measureOn.overLink fun _ h1 => h1.rtcSetTo) hs.measureOn))

theorem Evolves.trimBy (hs : Evolves s₀ s) {gain span} : Evolves s₀ (s.trimBy gain span) :=
  (hs.overLink fun _ h1 => h1.wr).odPut

theorem Evolves.execAutoTrim (hs : Evolves s₀ s) : OutEvolves s₀ (execAutoTrim s) := by
  unfold Machine.execAutoTrim
  dsimp only
  refine .next (.ite hs (.ite hs.measureOn ?_))
  split
  · exact hs.measureOn
  · exact .ite hs hs.part.trimBy.measureOn

theorem Evolves.execAlarmDisarm (hs : Evolves s₀ s) {v} : OutEvolves s₀ (execAlarmDisarm v s) :=
  .next (hs.overLink fun _ h1 => h1.alarmLo)

theorem Evolves.execAlarmArm (hs : Evolves s₀ s) {v} : OutEvolves s₀ (execAlarmArm v s) :=
  .next (hs.overLink fun _ h1 => h1.alarmHi)

theorem Evolves.execAlarmFire (hs : Evolves s₀ s) : OutEvolves s₀ (execAlarmFire s) :=
  .next hs.rtcEdgeIf

theorem Evolves.execPeriodWrite (hs : Evolves s₀ s) {v} : OutEvolves s₀ (execPeriodWrite v s) :=
  .next (hs.overLink fun _ h1 => h1.periodWrite)

theorem Evolves.execPeriodicFire (hs : Evolves s₀ s) : OutEvolves s₀ (execPeriodicFire s) :=
  .next hs.rtcEdgeIf

theorem Evolves.execCounterWrap (hs : Evolves s₀ s) : OutEvolves s₀ (execCounterWrap s) :=
  .next hs.rtcEdgeIf

/-! ### Sense -/

theorem Evolves.setMs (hs : Evolves s₀ s) {k m} : Evolves s₀ (s.setMs k m) :=
  hs.part

theorem Evolves.msSample (hs : Evolves s₀ s) {k x} : Evolves s₀ (s.msSample k x) :=
  hs.setMs

theorem Evolves.msTake (hs : Evolves s₀ s) {k} : Evolves s₀ (s.msTake k) :=
  hs.setMs

/-! ### DieLink -/

theorem Evolves.linkView (hs : Evolves s₀ s) : Evolves s₀ s.linkView :=
  hs.wr.wr.wr

theorem Evolves.execSampleFrame (hs : Evolves s₀ s) {c slot x code crcOk} :
    OutEvolves s₀ (execSampleFrame c slot x code crcOk s) :=
  .next (.ite hs.part.wr (.ite hs.part.msSample hs.part))

theorem Evolves.execLaneFailure (hs : Evolves s₀ s) {k} : OutEvolves s₀ (execLaneFailure k s) :=
  .next (.ite hs hs.part.linkView)

theorem Evolves.execRetrainAttempt (hs : Evolves s₀ s) {k} : OutEvolves s₀ (execRetrainAttempt k s) :=
  .next (.ite hs hs.part)

theorem Evolves.execRetrainAttemptEnd (hs : Evolves s₀ s) {k trained} :
    OutEvolves s₀ (execRetrainAttemptEnd k trained s) :=
  .next (.ite hs (.ite hs.part.linkView.inc hs.part))

/-! ### Groups -/

theorem Evolves.setGr (hs : Evolves s₀ s) {g v} : Evolves s₀ (s.setGr g v) :=
  hs.part

theorem Evolves.setPh (hs : Evolves s₀ s) {n v} : Evolves s₀ (s.setPh n v) :=
  hs.part

theorem Evolves.wakePcp (hs : Evolves s₀ s) : Evolves s₀ s.wakePcp :=
  hs.wake

theorem Evolves.grTo (hs : Evolves s₀ s) {g st} : Evolves s₀ (s.grTo g st) :=
  hs.wr

theorem Evolves.grOutputsLow (hs : Evolves s₀ s) {g} : Evolves s₀ (s.grOutputsLow g) :=
  (hs.each fun _ _ h1 => h1.setPh.wr).wr.wr.wr.wrBit

theorem Evolves.grDisable (hs : Evolves s₀ s) {g} : Evolves s₀ (s.grDisable g) :=
  hs.grOutputsLow.grTo

theorem Evolves.grPark (hs : Evolves s₀ s) {g} : Evolves s₀ (s.grPark g) :=
  .ite hs hs.grDisable

theorem Evolves.grFaults (hs : Evolves s₀ s) {g code} : Evolves s₀ (s.grFaults g code) :=
  .ite hs hs.grOutputsLow.grTo.wr.setGr.event.wakePcp

theorem Evolves.grRamp (hs : Evolves s₀ s) {g} : Evolves s₀ (s.grRamp g) :=
  .ite hs.setGr.grTo hs

theorem Evolves.grSequence (hs : Evolves s₀ s) : Evolves s₀ s.grSequence :=
  .ite hs (hs.each fun _ _ h1 => .ite h1.grRamp.setGr h1)

theorem Evolves.grPrecheck (hs : Evolves s₀ s) {g} : Evolves s₀ (s.grPrecheck g) :=
  (hs.each fun _ _ h1 => h1.setPh.wr).wr.setGr.wrBit.grTo

theorem Evolves.pcpHalt (hs : Evolves s₀ s) {code} : Evolves s₀ (s.pcpHalt code) :=
  (hs.wr.wr.wr.each fun _ _ h1 => .ite h1.grFaults h1).event

theorem Evolves.parkAll (hs : Evolves s₀ s) : Evolves s₀ s.parkAll :=
  hs.each fun _ _ h1 => .ite h1 h1.grDisable

theorem Evolves.parkRequest (hs : Evolves s₀ s) : Evolves s₀ s.parkRequest :=
  hs.each fun _ _ h1 => h1.grFaults

theorem Evolves.grStopAll (hs : Evolves s₀ s) : Evolves s₀ s.grStopAll :=
  hs.each fun _ _ h1 => .ite h1 (.ite h1.setGr.grDisable h1.setGr.grRamp)

theorem Evolves.grResume (hs : Evolves s₀ s) : Evolves s₀ s.grResume :=
  hs.each fun _ _ h1 => .ite h1.setGr.grDisable.grPrecheck h1.setGr

theorem Evolves.dutyPut (hs : Evolves s₀ s) {n v} : Evolves s₀ (s.dutyPut n v) :=
  hs.setPh.wr

theorem Evolves.phaseStart (hs : Evolves s₀ s) {g n back} : Evolves s₀ (s.phaseStart g n back) :=
  hs.setPh

theorem Evolves.periodStart (hs : Evolves s₀ s) {g pos} : Evolves s₀ (s.periodStart g pos) :=
  hs.setGr

theorem Evolves.tickGroup (hs : Evolves s₀ s) {g} : Evolves s₀ (s.tickGroup g) :=
  Evolves.each (.ite hs.periodStart hs.setGr) fun _ _ h1 => .ite h1.phaseStart h1.setPh

theorem Evolves.tickPwm (hs : Evolves s₀ s) : Evolves s₀ s.tickPwm :=
  hs.each fun _ _ h1 => .ite h1.tickGroup h1

/-! ### Contexts -/

theorem Evolves.setCtx (hs : Evolves s₀ s) {c v} : Evolves s₀ (s.setCtx c v) :=
  hs.part

theorem Evolves.unlock (hs : Evolves s₀ s) {c key} : Evolves s₀ (s.unlock c key).2 :=
  .ite_snd hs (.ite_snd (.pair hs.part.setCtx) (.pair hs.mark.part))

theorem Evolves.relockCtx (hs : Evolves s₀ s) {c} : Evolves s₀ (s.relockCtx c) :=
  hs.setCtx

theorem Evolves.touchUnlock (hs : Evolves s₀ s) {c} : Evolves s₀ (s.touchUnlock c) :=
  .ite hs.setCtx hs

theorem Evolves.freeCtx (hs : Evolves s₀ s) {c} : Evolves s₀ (s.freeCtx c) :=
  hs.setCtx

theorem Evolves.closeSession (hs : Evolves s₀ s) {c} : Evolves s₀ (s.closeSession c) :=
  .ite hs (.ite (Evolves.freeCtx (.ite hs.setSlot hs)) (Evolves.setCtx (.ite hs.setSlot hs)))

theorem Evolves.drained (hs : Evolves s₀ s) {c} : Evolves s₀ (s.drained c) :=
  .ite hs.freeCtx hs

theorem Evolves.retireTicket (hs : Evolves s₀ s) {i} : Evolves s₀ (s.retireTicket i) :=
  hs.retireSlot.drained

/-! ### Fan -/

theorem Evolves.fanTo (hs : Evolves s₀ s) {n} : Evolves s₀ (s.fanTo n) :=
  hs.mark.wr

theorem Evolves.fanOff (hs : Evolves s₀ s) : Evolves s₀ s.fanOff :=
  hs.fanTo.part

theorem Evolves.fanFaults (hs : Evolves s₀ s) {code} : Evolves s₀ (s.fanFaults code) :=
  hs.fanTo.wr.part.event

theorem Evolves.fanAttempt (hs : Evolves s₀ s) : Evolves s₀ s.fanAttempt :=
  .ite (.ite hs.wr.part.fanFaults hs.wr.part) hs.wr.part.fanTo

theorem Evolves.fanDuty (hs : Evolves s₀ s) {duty iref} : Evolves s₀ (s.fanDuty duty iref) :=
  .ite hs.mark.wr.wr.fanTo hs.mark.wr.wr

theorem Evolves.execFanSpeedLoop (hs : Evolves s₀ s) {rpm current vhv} :
    OutEvolves s₀ (execFanSpeedLoop rpm current vhv s) :=
  .next (.ite hs (.ite hs.mark.wr.wr.wr.part.fanDuty hs.mark.wr.wr.wr.part.fanDuty))

theorem Evolves.execFanDutyWrite (hs : Evolves s₀ s) {v} : OutEvolves s₀ (execFanDutyWrite v s) :=
  .next (hs.overLink fun _ h1 => h1.fanDuty)

theorem Evolves.execFallback (hs : Evolves s₀ s) : OutEvolves s₀ (execFallback s) :=
  .next (.ite hs.fanTo hs)

theorem Evolves.fanDemandChange (hs : Evolves s₀ s) : Evolves s₀ s.fanDemandChange :=
  .ite hs (.ite hs.fanTo (.ite hs.fanOff hs))

theorem Evolves.execFanDemandChange (hs : Evolves s₀ s) : OutEvolves s₀ (execFanDemandChange s) :=
  .next hs.fanDemandChange

theorem Evolves.execFanLock (hs : Evolves s₀ s) {reversed} : OutEvolves s₀ (execFanLock reversed s) :=
  .next (.ite hs (.ite (Evolves.event (.ite hs.wr.part.fanTo hs.wr.part)).part (.ite hs.wr.part.fanTo hs.wr.part)))

theorem Evolves.execFanStartTimeout (hs : Evolves s₀ s) : OutEvolves s₀ (execFanStartTimeout s) :=
  .next (.ite hs.fanAttempt hs)

theorem Evolves.execFanStall (hs : Evolves s₀ s) : OutEvolves s₀ (execFanStall s) :=
  .next (.ite hs.fanAttempt hs)

theorem Evolves.execFanRestartWaitEnd (hs : Evolves s₀ s) : OutEvolves s₀ (execFanRestartWaitEnd s) :=
  .next (.ite hs (.ite hs.fanTo hs.fanFaults))

theorem Evolves.execFanShort (hs : Evolves s₀ s) : OutEvolves s₀ (execFanShort s) :=
  .next (.ite hs (.ite hs.wr.part.fanFaults hs.wr.part))

theorem Evolves.execFanShortResume (hs : Evolves s₀ s) : OutEvolves s₀ (execFanShortResume s) :=
  .next (.ite hs (.ite hs.part.fanTo hs.part))

theorem Evolves.execFanOpenPhase (hs : Evolves s₀ s) : OutEvolves s₀ (execFanOpenPhase s) :=
  .next (.ite hs.fanAttempt hs)

theorem Evolves.execHallFault (hs : Evolves s₀ s) : OutEvolves s₀ (execHallFault s) := by
  unfold Machine.execHallFault
  dsimp only
  refine .next ?_
  split
  · exact hs
  · exact .ite hs.wr.fanAttempt hs.wr
  · exact hs.wr

theorem Evolves.execFanAttemptReset (hs : Evolves s₀ s) : OutEvolves s₀ (execFanAttemptReset s) :=
  .next (.ite hs.wr hs)

theorem Evolves.execFanUnderspeed (hs : Evolves s₀ s) : OutEvolves s₀ (execFanUnderspeed s) :=
  .next (.ite hs.wr.event hs)

theorem Evolves.execFanUnderspeedClear (hs : Evolves s₀ s) : OutEvolves s₀ (execFanUnderspeedClear s) :=
  .next (.ite hs.wr hs)

theorem Evolves.fanClear (hs : Evolves s₀ s) : Evolves s₀ s.fanClear :=
  .ite hs.wr.wr.fanOff hs.wr

theorem Evolves.execFanClear (hs : Evolves s₀ s) : OutEvolves s₀ (execFanClear s) :=
  .next (hs.overLink fun _ h1 => h1.fanClear)

theorem Evolves.fanHold (hs : Evolves s₀ s) {held} : Evolves s₀ (s.fanHold held) :=
  .ite hs.wr.fanTo.part (.ite hs.wr.fanTo.fanDemandChange hs.wr)

theorem Evolves.execAgeingUpdate (hs : Evolves s₀ s) {rpm effort stable} :
    OutEvolves s₀ (execAgeingUpdate rpm effort stable s) :=
  .next <|
  .ite hs <|
  .ite hs.odPutU <|
  .ite hs <|
  .ite hs.odPutU.odPutU.event <|
  .ite hs.odPutU.odPutU.event hs.odPutU.odPutU

theorem Evolves.execTemperatureUpdate (hs : Evolves s₀ s) {n t} : OutEvolves s₀ (execTemperatureUpdate n t s) :=
  .next (.ite hs (.ite hs.wr.wr.wr.event hs.wr.wr.wr))

theorem Evolves.execGuardAssert (hs : Evolves s₀ s) {cause} : OutEvolves s₀ (execGuardAssert cause s) :=
  .next (.ite hs (.ite hs.wr hs.wr.wr.wr.inc.odInc.part.event))

theorem Evolves.execGuardConditionReturn (hs : Evolves s₀ s) : OutEvolves s₀ (execGuardConditionReturn s) :=
  .next (.ite hs.wr hs)

theorem Evolves.guardRelease (hs : Evolves s₀ s) : Evolves s₀ s.guardRelease :=
  hs.wr.wr.part.event

theorem Evolves.execGuardCooling (hs : Evolves s₀ s) : OutEvolves s₀ (execGuardCooling s) :=
  .next (.ite hs (.ite hs.guardRelease (.ite hs hs.mark.wr)))

theorem Evolves.guardAck (hs : Evolves s₀ s) : Evolves s₀ s.guardAck :=
  .ite hs (.ite hs.guardRelease hs.part)

theorem Evolves.execGuardAck (hs : Evolves s₀ s) : OutEvolves s₀ (execGuardAck s) :=
  .next (hs.overLink fun _ h1 => h1.guardAck)

theorem Evolves.execGuardReleaseTimer (hs : Evolves s₀ s) : OutEvolves s₀ (execGuardReleaseTimer s) :=
  .next (.ite hs.guardRelease hs)

/-! ### Flash -/

theorem Evolves.program (hs : Evolves s₀ s) {a b} : Evolves s₀ (s.program a b) :=
  hs.part

theorem Evolves.erase (hs : Evolves s₀ s) {a n} : Evolves s₀ (s.erase a n) :=
  hs.part

theorem Evolves.putTable (hs : Evolves s₀ s) {k t} : Evolves s₀ (s.putTable k t) :=
  hs.erase.program

theorem Evolves.setBolt (hs : Evolves s₀ s) {k b} : Evolves s₀ (s.setBolt k b) :=
  .ite hs.part hs.part

theorem Evolves.boltWrite (hs : Evolves s₀ s) {k r} : Evolves s₀ (s.boltWrite k r) :=
  hs.program.setBolt

theorem Evolves.tornWrite (hs : Evolves s₀ s) {k r n} : Evolves s₀ (s.tornWrite k r n) :=
  hs.program.setBolt

theorem Evolves.boltErase (hs : Evolves s₀ s) {k} : Evolves s₀ (s.boltErase k) :=
  hs.erase.setBolt

theorem Evolves.blockErase (hs : Evolves s₀ s) {k n} : Evolves s₀ (s.blockErase k n) :=
  hs.erase

/-! ### Loom -/

theorem Evolves.dupCheck (hs : Evolves s₀ s) {src seq} : Evolves s₀ (s.dupCheck src seq).2 :=
  .ite_snd hs (.pair hs.part.wr.wrIf.wrIf)

theorem Evolves.loomDecide (hs : Evolves s₀ s) {port first f} : Evolves s₀ (s.loomDecide port first f).2 := by
  unfold State.loomDecide
  refine .ite_snd hs ?_
  extract_lets r b h d s1 c vid accept tagged state unicast s2 f2 s3
  have hd : Evolves s₀ d.2 := by
    unfold d
    split
    · exact hs.dupCheck
    · exact hs
  have h1 : Evolves s₀ s1 := .ite hd.putCells.setFrame hd
  have h2 : Evolves s₀ s2 := .ite h1.learn h1
  exact .ite_snd hs (.ite_snd h1 (.ite_snd h1 h2.setFrame.forward))

theorem Evolves.pdelayNote (hs : Evolves s₀ s) {p f} : Evolves s₀ (s.pdelayNote p f) := by
  unfold State.pdelayNote
  dsimp only
  split
  · exact hs
  · exact .ite hs.part hs

theorem Evolves.noBuf (hs : Evolves s₀ s) {p b sfd} : Evolves s₀ (s.noBuf p b sfd) :=
  hs.pstk.wrIf.bobbin

theorem Evolves.execPortCellExhausted (hs : Evolves s₀ s) {p b sfd} :
    OutEvolves s₀ (execPortCellExhausted p b sfd s) :=
  .next hs.noBuf

theorem Evolves.popHead (hs : Evolves s₀ s) {p t} : Evolves s₀ (s.popHead p t) :=
  hs.setEg

theorem Evolves.markHeld (hs : Evolves s₀ s) {p t} : Evolves s₀ (s.markHeld p t) :=
  .ite hs hs.setEg

theorem Evolves.dwrr (hs : Evolves s₀ s) {p n fuel} : Evolves s₀ (State.dwrr p n fuel s).2 := by
  induction fuel generalizing s with
  | zero => exact hs
  | succ fuel ih => exact .ite_snd hs.setEg (ih hs.setEg)

theorem Evolves.select (hs : Evolves s₀ s) {p} : Evolves s₀ (s.select p).2 := by
  unfold State.select
  dsimp only
  split
  · exact hs
  · exact .ite_snd hs hs.dwrr

theorem Evolves.execTransmitOpportunity (hs : Evolves s₀ s) {p opening} :
    OutEvolves s₀ (execTransmitOpportunity p opening s) := by
  unfold Machine.execTransmitOpportunity
  extract_lets +onlyGivenNames idle s1
  have h1 : Evolves s₀ s1 := hs.each fun u t h => by
    split
    · exact h
    · exact .ite h.popHead.dropCopy.pstk h.markHeld
  refine .next (.ite h1 ?_)
  extract_lets r
  split
  · exact h1.select
  · split
    · exact h1.select
    · extract_lets s2 e
      exact .ite h1.select.popHead.dropCopy h1.select.popHead.setEg

theorem Evolves.txDone (hs : Evolves s₀ s) {p f n} : Evolves s₀ (s.txDone p f n) := by
  unfold State.txDone
  dsimp only
  split
  · exact hs.part
  · exact hs
  · refine .ite hs (.ite hs.pstk ?_)
    split
    next => exact hs.pstk
    next e => exact (Evolves.putCells (hs.complete.get e)).setFrame

theorem Evolves.execFrameTransmitted (hs : Evolves s₀ s) {p overrun sfd} :
    OutEvolves s₀ (execFrameTransmitted p overrun sfd s) := by
  unfold Machine.execFrameTransmitted
  dsimp only
  refine .next ?_
  split
  · exact hs
  · split
    · exact Evolves.setEg (.ite hs.pstk hs)
    · exact (Evolves.setEg (.ite hs.pstk hs)).part.bobbin.txDone.endCopy

theorem Evolves.execTimeGateEntryChange (hs : Evolves s₀ s) {p restart} :
    OutEvolves s₀ (execTimeGateEntryChange p restart s) :=
  .next (.ite hs.tgRestart hs.wr)

theorem Evolves.execAngleGateEntryChange (hs : Evolves s₀ s) {p restart} :
    OutEvolves s₀ (execAngleGateEntryChange p restart s) :=
  .next (.ite (.ite hs hs.agRestart) hs.wr)

theorem Evolves.execTgSwap (hs : Evolves s₀ s) {p} : OutEvolves s₀ (execTgSwap p s) :=
  .next hs.setEg.wr

theorem Evolves.execAgSwap (hs : Evolves s₀ s) {p} : OutEvolves s₀ (execAgSwap p s) :=
  .next hs.setEg.wr

theorem Evolves.execFdbAgeing (hs : Evolves s₀ s) {mac vid} : OutEvolves s₀ (execFdbAgeing mac vid s) :=
  .next hs.part

theorem Evolves.execFdbLookup (hs : Evolves s₀ s) {group} : OutEvolves s₀ (execFdbLookup group s) := by
  unfold Machine.execFdbLookup
  refine .next ?_
  split
  · exact hs.wr.wr.wr
  · exact hs.wr.wr.wr

theorem Evolves.fdbPut (hs : Evolves s₀ s) {group e} : Evolves s₀ (s.fdbPut group e) :=
  .ite (.ite hs.part hs) (.ite hs.part hs.wr)

theorem Evolves.fdbDrop (hs : Evolves s₀ s) {group mac vid} : Evolves s₀ (s.fdbDrop group mac vid) :=
  .ite hs.part hs.part

theorem Evolves.execFdbInsert (hs : Evolves s₀ s) {group} : OutEvolves s₀ (execFdbInsert group s) :=
  .next hs.fdbPut

theorem Evolves.execFdbDelete (hs : Evolves s₀ s) {group} : OutEvolves s₀ (execFdbDelete group s) :=
  .next hs.fdbDrop

theorem Evolves.execFlushFdb (hs : Evolves s₀ s) : OutEvolves s₀ (execFlushFdb s) :=
  .next hs.part

theorem Evolves.execNqRxpop (hs : Evolves s₀ s) {q} : OutEvolves s₀ (execNqRxpop q s) := by
  unfold Machine.execNqRxpop
  dsimp only
  refine .next ?_
  split
  · exact hs.part
  · exact hs.setQset.part

theorem Evolves.execNqAlloc (hs : Evolves s₀ s) {q} : OutEvolves s₀ (execNqAlloc q s) :=
  .next (.ite hs.wrIf.part hs.pickCells.setFrame.part)

theorem Evolves.sendFrame (hs : Evolves s₀ s) {q first f ports tc} : Evolves s₀ (s.sendFrame q first f ports tc) :=
  (Evolves.setFrame (.ite hs.setFrame.setFrame.forward
      (Evolves.each (.ite (hs.setFrame.setFrame.each fun _ _ h1 =>
      h1.enqueue).part (hs.setFrame.setFrame.each fun _ _ h1 => h1.enqueue)) fun _ _ h1 => h1.deliver))).release

theorem Evolves.weaverSend (hs : Evolves s₀ s) {p b} : Evolves s₀ (s.weaverSend p b) :=
  .ite hs hs.drawWord.pickCells.putCells.sendFrame

theorem Evolves.weaverAnswer (hs : Evolves s₀ s) {p b} : Evolves s₀ (s.weaverAnswer p b) := by
  unfold State.weaverAnswer
  split
  · exact .ite hs hs.weaverSend
  · exact hs

theorem Evolves.execFrameDecision (hs : Evolves s₀ s) {p} : OutEvolves s₀ (execFrameDecision p s) := by
  unfold Machine.execFrameDecision
  dsimp only
  refine .next ?_
  split
  · exact hs
  · split
    · exact hs.part
    · exact Evolves.release <|
        .ite (Evolves.bobbin (.ite hs.loomDecide hs.loomDecide.pdelayNote)).part
            (Evolves.bobbin (.ite hs.loomDecide hs.loomDecide.pdelayNote)).part.weaverAnswer

theorem Evolves.execNqTx (hs : Evolves s₀ s) {q h} : OutEvolves s₀ (execNqTx q h s) := by
  unfold Machine.execNqTx
  refine .next ?_
  split
  · exact hs.wr
  · exact hs.sendFrame

theorem Evolves.execNqFree (hs : Evolves s₀ s) {q h} : OutEvolves s₀ (execNqFree q h s) := by
  unfold Machine.execNqFree
  refine .next ?_
  split
  · exact hs.wr
  · exact hs.setFrame.release

theorem Evolves.execNqCpop (hs : Evolves s₀ s) {q} : OutEvolves s₀ (execNqCpop q s) := by
  unfold Machine.execNqCpop
  dsimp only
  refine .next ?_
  split
  · exact hs.part
  · exact hs.setQset.part

theorem Evolves.execBobbinRecordWrite (hs : Evolves s₀ s) {foreground} :
    OutEvolves s₀ (execBobbinRecordWrite foreground s) := by
  unfold Machine.execBobbinRecordWrite
  dsimp only
  refine .next ?_
  split
  · exact hs
  · exact .ite hs.bgSlot <|
      .ite (.ite hs.bgSlot.part.bobLose hs.bgSlot.part.bobLose.wr.event) <|
      Evolves.part <|
      .ite hs.bgSlot.part.pktPutBytes.wr.wr hs.bgSlot.part.pktPutBytes.wr

theorem Evolves.bobRead (hs : Evolves s₀ s) : Evolves s₀ s.bobRead.2 :=
  .ite_snd hs (.pair hs.wr.wr.part)

theorem Evolves.execBobbinRecord (hs : Evolves s₀ s) : OutEvolves s₀ (execBobbinRecord s) :=
  .next hs.bobRead.part

/-! ### TicketOps -/

theorem Evolves.stepCommitted (hs : Evolves s₀ s) {i tag v} : Evolves s₀ (s.stepCommitted i tag v) :=
  .ite hs.setTicket.finish (.ite hs.setTicket.finish hs.setTicket)

theorem Evolves.stepDone (hs : Evolves s₀ s) {i tag v} : Evolves s₀ (s.stepDone i tag v) :=
  .ite hs.failTicket (.ite hs.setTicket.stage hs.stepCommitted)

/-! ### Mem -/

theorem Evolves.setWord (hs : Evolves s₀ s) {b off w} : Evolves s₀ (s.setWord b off w) :=
  hs.words (s.memWf_setWord b off w)

theorem Evolves.memAnswer (hs : Evolves s₀ s) {st w} : Evolves s₀ (s.memAnswer st w) :=
  hs.part

theorem Evolves.errLog (hs : Evolves s₀ s) {b off src ue} : Evolves s₀ (s.errLog b off src ue).2 :=
  .pair hs.drawWord.wr.wr.wr.wr.wr

theorem Evolves.logCe (hs : Evolves s₀ s) {b off src} : Evolves s₀ (s.logCe b off src) :=
  .ite hs.errLog.inc.wr.event (.ite hs.errLog.inc.wr.odPutU.event hs.errLog.inc.wr.odPutU)

theorem Evolves.logUe (hs : Evolves s₀ s) {b off src} : Evolves s₀ (s.logUe b off src) :=
  Evolves.event (.ite hs.errLog.inc.wr hs.errLog.inc.wr.odPutU)

theorem Evolves.memRead (hs : Evolves s₀ s) {b off src} : Evolves s₀ (s.memRead b off src).2.2 := by
  unfold State.memRead
  dsimp only
  refine .ite_snd_snd hs ?_
  split
  · exact .triple hs.logCe
  · exact hs
  · exact .triple hs.logUe

theorem Evolves.memWrite (hs : Evolves s₀ s) {b off tag v} : Evolves s₀ (s.memWrite b off tag v) :=
  .ite hs.wr.setWord hs.setWord

theorem Evolves.logMerged (hs : Evolves s₀ s) {b} : Evolves s₀ (s.logMerged b) :=
  hs.wrIf

theorem Evolves.memPartial (hs : Evolves s₀ s) {b off src p} : Evolves s₀ (s.memPartial b off src p).2 := by
  unfold State.memPartial
  dsimp only
  refine .ite_snd (.pair hs.setWord.logMerged) ?_
  split
  · exact .pair hs.setWord
  · exact .pair hs.setWord.logCe
  · exact .pair hs.setWord.logUe.logMerged.event

theorem Evolves.portBMet (hs : Evolves s₀ s) {b met} : Evolves s₀ (s.portBMet b met) :=
  .ite hs.part.wr.odPut hs

theorem Evolves.clearBank (hs : Evolves s₀ s) {b} : Evolves s₀ (s.clearBank b) :=
  hs.words (s.memWf_clearBank b)

theorem Evolves.readServed (hs : Evolves s₀ s) {b off src} : Evolves s₀ (s.readServed b off src) :=
  hs.memRead.memAnswer

theorem Evolves.writeServed (hs : Evolves s₀ s) {b off tag v met} : Evolves s₀ (s.writeServed b off tag v met) :=
  .ite hs.memAnswer hs.memWrite.memAnswer.portBMet

theorem Evolves.partServed (hs : Evolves s₀ s) {b off src p met} : Evolves s₀ (s.partServed b off src p met) :=
  .ite hs.memAnswer hs.memPartial.memAnswer.portBMet

theorem Evolves.serveHeld (hs : Evolves s₀ s) {x1} : Evolves s₀ (s.serveHeld x1) := by
  unfold State.serveHeld
  split
  · exact hs.readServed
  · exact hs.writeServed
  · exact hs.partServed

theorem Evolves.hold (hs : Evolves s₀ s) {h} : Evolves s₀ (s.hold h) :=
  hs.memAnswer.part

theorem Evolves.serveAll (hs : Evolves s₀ s) : Evolves s₀ s.serveAll :=
  hs.part.each fun _ _ h1 => h1.serveHeld

theorem Evolves.execMemoryRead (hs : Evolves s₀ s) {b off src} : OutEvolves s₀ (execMemoryRead b off src s) :=
  .ite .fault (.next (.ite hs.hold hs.readServed))

theorem Evolves.execWholeWordWrite (hs : Evolves s₀ s) {b off tag v met} :
    OutEvolves s₀ (execWholeWordWrite b off tag v met s) :=
  .ite .fault (.next (.ite hs.hold hs.writeServed))

theorem Evolves.execPartialWrite (hs : Evolves s₀ s) {b off p src met} :
    OutEvolves s₀ (execPartialWrite b off p src met s) :=
  .ite .fault (.next (.ite hs (.ite hs.hold hs.partServed)))

theorem Evolves.runOver (hs : Evolves s₀ s) {b} : Evolves s₀ (s.runOver b) :=
  hs.clearBank.part.serveAll

theorem Evolves.bridgeRead (hs : Evolves s₀ s) {b off src} : Evolves s₀ (s.bridgeRead b off src).2.2 :=
  .ite_snd_snd hs hs.memRead

theorem Evolves.bridgeWrite (hs : Evolves s₀ s) {b off src p} : Evolves s₀ (s.bridgeWrite b off src p) :=
  .ite hs.hold hs.memPartial

theorem Evolves.scrubWord (hs : Evolves s₀ s) {b beaten} : Evolves s₀ (s.scrubWord b beaten) := by
  unfold State.scrubWord
  dsimp only
  refine Evolves.part (.ite hs ?_)
  split
  · exact hs
  · exact Evolves.logCe (.ite hs hs.setWord)
  · exact Evolves.logUe (.ite hs hs.setWord)

theorem Evolves.execScrubStep (hs : Evolves s₀ s) {b fg beaten} : OutEvolves s₀ (execScrubStep b fg beaten s) :=
  .next (.ite hs (.ite hs.bgSlot.scrubWord hs.bgSlot))

theorem Evolves.setSpare (hs : Evolves s₀ s) {b k x} : Evolves s₀ (s.setSpare b k x) :=
  hs.part

theorem Evolves.spareFails (hs : Evolves s₀ s) {b k} : Evolves s₀ (s.spareFails b k) :=
  hs.setSpare.stage

theorem Evolves.degrade (hs : Evolves s₀ s) {b row} : Evolves s₀ (s.degrade b row) :=
  hs.wr.stage.event

theorem Evolves.rowFails (hs : Evolves s₀ s) {b row} : Evolves s₀ (s.rowFails b row).2 := by
  unfold State.rowFails
  dsimp only
  split
  · refine .pair (Evolves.setSpare ?_).stage.event
    split
    · exact hs.spareFails
    · exact hs
  · refine .pair (Evolves.degrade ?_)
    split
    · exact hs.spareFails
    · exact hs

theorem Evolves.cardView (hs : Evolves s₀ s) : Evolves s₀ s.cardView := by
  unfold State.cardView
  dsimp only
  split
  · exact hs.wr
  · exact hs.wr.wr.wr.wr.wr.wr.wr

theorem Evolves.cardBank (hs : Evolves s₀ s) {r} : Evolves s₀ (s.cardBank r) := by
  unfold State.cardBank
  dsimp only
  split
  · exact hs.part.cardView
  · exact .ite hs.part.cardView.failTicket hs.part.wr.cardView

theorem Evolves.cardStart (hs : Evolves s₀ s) {i} : Evolves s₀ (s.cardStart i) :=
  hs.part.wr.cardBank

theorem Evolves.cardBankDone (hs : Evolves s₀ s) {r} : Evolves s₀ (s.cardBankDone r) :=
  .ite hs.wr.stepDone.cardBank hs.wr.stepDone.part.cardView

theorem Evolves.cardRow (hs : Evolves s₀ s) {b row} : Evolves s₀ (s.cardRow b row) := by
  unfold State.cardRow
  dsimp only
  refine hs.each fun _ _ h1 => .ite h1 ?_
  split
  · exact h1
  · exact h1.setWord.logCe
  · exact h1.setWord.logUe

theorem Evolves.cardSegment (hs : Evolves s₀ s) {r failed} : Evolves s₀ (s.cardSegment r failed) := by
  unfold State.cardSegment
  split
  · exact hs.cardBankDone
  · extract_lets s0 s1 f r1
    have h1 : Evolves s₀ s1 := .ite (.ite hs.wrIf.spareFails hs.wrIf) hs.wrIf.cardRow
    have hf : Evolves s₀ f.2 := .ite_snd h1.rowFails h1
    exact .ite hf.part.cardView (.ite hf.part.cardView hf.cardBankDone)

theorem Evolves.execCardingSegmentStep (hs : Evolves s₀ s) {fg reads} :
    OutEvolves s₀ (execCardingSegmentStep fg reads s) := by
  unfold Machine.execCardingSegmentStep
  dsimp only
  refine .next ?_
  split
  · exact hs
  · exact .ite hs (.ite hs.bgSlot.cardSegment hs.bgSlot)

theorem Evolves.marchPass (hs : Evolves s₀ s) {b algo bg reads} : Evolves s₀ (s.marchPass b algo bg reads).2 :=
  .foldl_snd (.pair (hs.each fun _ _ h1 => h1.spareFails)) fun _ _ h1 => .pair h1.rowFails

theorem Evolves.marchBank (hs : Evolves s₀ s) {b algo bgs reads} : Evolves s₀ (s.marchBank b algo bgs reads).2 :=
  .foldl_snd hs fun _ _ h1 => .pair h1.marchPass

theorem Evolves.execCardingBankMarch (hs : Evolves s₀ s) {reads} : OutEvolves s₀ (execCardingBankMarch reads s) := by
  unfold Machine.execCardingBankMarch
  dsimp only
  refine .next ?_
  split
  · exact hs
  · exact .ite hs (.ite hs.marchBank.wrIf.runOver.wr.part.cardView hs.marchBank.wrIf.runOver.cardBankDone)

theorem Evolves.applyFuses (hs : Evolves s₀ s) : Evolves s₀ s.applyFuses :=
  hs.each fun _ _ h1 => .ite h1 (.ite h1.setSpare h1.event)

theorem Evolves.fusesOnce (hs : Evolves s₀ s) : Evolves s₀ s.fusesOnce :=
  .ite hs hs.applyFuses.part

theorem Evolves.applyRepair (hs : Evolves s₀ s) {b row k action} : Evolves s₀ (s.applyRepair b row k action) :=
  .ite (.ite hs.wr hs) (.ite (.ite hs hs.setSpare) (.ite hs.wr (.ite hs hs.setSpare)))

theorem Evolves.remapRepair (hs : Evolves s₀ s) {b row k action} : Evolves s₀ (s.remapRepair b row k action) := by
  unfold State.remapRepair
  refine .ite hs ?_
  split
  · exact hs.setSpare.stage.event
  · exact hs

theorem Evolves.startMarch (hs : Evolves s₀ s) {banks reads} : Evolves s₀ (s.startMarch banks reads) :=
  hs.each fun _ _ h1 => h1.marchBank.part.wrIf

theorem Evolves.startMarchHeld (hs : Evolves s₀ s) : Evolves s₀ s.startMarchHeld :=
  hs.startMarch.part

theorem Evolves.startView (hs : Evolves s₀ s) : Evolves s₀ s.startView :=
  hs.wr.wr.wr

theorem Evolves.execStartupCarding (hs : Evolves s₀ s) {reads} : OutEvolves s₀ (execStartupCarding reads s) :=
  .next (.ite hs (.ite hs.clearWhole.fusesOnce.startView.startMarch.part.startMarchHeld
    hs.clearWhole.fusesOnce.startView.startMarch.part))

/-! ### GrilorOps -/

theorem Evolves.crossSend (hs : Evolves s₀ s) {ang back} : Evolves s₀ (s.crossSend ang back) :=
  hs.each fun _ _ h1 => h1.glSend

theorem Evolves.ownDrive (hs : Evolves s₀ s) {d} : Evolves s₀ (s.ownDrive d) :=
  hs.wr.wr

theorem Evolves.twinS2 (hs : Evolves s₀ s) : Evolves s₀ s.twinS2 :=
  .ite hs.glSend.ownDrive hs

/-! ### Heddle -/

theorem Evolves.setHd (hs : Evolves s₀ s) {n h} : Evolves s₀ (s.setHd n h) :=
  hs.part

theorem Evolves.hdWake (hs : Evolves s₀ s) {n} : Evolves s₀ (s.hdWake n) :=
  .ite hs.wakeShuttle hs

theorem Evolves.hdSetTx (hs : Evolves s₀ s) {n q} : Evolves s₀ (s.hdSetTx n q) :=
  .ite hs.setHd.wr.hdWake hs.setHd.wr

theorem Evolves.hdSetRx (hs : Evolves s₀ s) {n q} : Evolves s₀ (s.hdSetRx n q) :=
  .ite hs.setHd.wr.hdWake hs.setHd.wr

theorem Evolves.hdLevel (hs : Evolves s₀ s) {n k b} : Evolves s₀ (s.hdLevel n k b) :=
  hs.setHd

theorem Evolves.hdCount (hs : Evolves s₀ s) {n k} : Evolves s₀ (s.hdCount n k) :=
  .ite hs (.ite hs.setHd.wr hs.setHd)

theorem Evolves.hdFault (hs : Evolves s₀ s) {n code} : Evolves s₀ (s.hdFault n code) :=
  hs.wr.wr.wr.setHd.event

theorem Evolves.hdStop (hs : Evolves s₀ s) {n} : Evolves s₀ (s.hdStop n) :=
  hs.wr.wr.setHd

theorem Evolves.hdEcc (hs : Evolves s₀ s) {b} : Evolves s₀ (s.hdEcc b) :=
  (hs.each fun _ _ h1 => .ite h1.hdFault h1).wrBit

theorem Evolves.hdDeliver (hs : Evolves s₀ s) {n w} : Evolves s₀ (s.hdDeliver n w) :=
  .ite hs.hdSetRx hs.wr

theorem HdEvolves.expired {r} (hr : HdEvolves s₀ r) : HdEvolves s₀ r.expired := by
  cases hr with
  | done h => exact .done h
  | waits h => exact .done h
  | stalls h => exact .done h
  | faults h => exact .faults h

theorem Evolves.hdAdvance (hs : Evolves s₀ s) {n hold target} : Evolves s₀ (s.hdAdvance n hold target) :=
  .ite hs.hdFault hs.hdCount.wr.wr.setHd

theorem Evolves.hdPinset (hs : Evolves s₀ s) {n w} : Evolves s₀ (s.hdPinset n w) :=
  .ite hs.setHd hs

theorem HdEvolves.hdEnd {r} (hr : HdEvolves s₀ r) {n w} : Evolves s₀ (State.hdEnd n w r) := by
  cases hr with
  | done h => exact h.hdAdvance
  | waits h => exact h.wr
  | stalls h => exact h.setHd.wr
  | faults h => exact h.hdFault

theorem Evolves.hdIssue (hs : Evolves s₀ s) {n op fetchBad body}
    (hbody : ∀ a u, Evolves s₀ u → HdEvolves s₀ (body a u)) :
    Evolves s₀ (s.hdIssue n op fetchBad body) :=
  have hr := hbody (fieldOf (s.hdWord n) 0 10) _ hs.hdPinset.hdCount
  .ite hs (.ite hs.hdEcc (.ite hs.hdFault (.ite hs (HdEvolves.hdEnd (.ite hr.expired hr)))))

theorem Evolves.hdFlag (hs : Evolves s₀ s) {n b} : Evolves s₀ (s.hdFlag n b) :=
  hs.wr

theorem Evolves.hdNopBody (hs : Evolves s₀ s) {arg} : HdEvolves s₀ (hdNopBody arg s) :=
  .ite (.faults hs) (.done hs)

theorem Evolves.hdSampleBody (hs : Evolves s₀ s) {n pins arg} : HdEvolves s₀ (hdSampleBody n pins arg s) :=
  .ite (.faults hs) <|
  .ite (.done hs.wr) <|
  .ite (.ite (.faults hs.setHd) (.done hs.setHd.hdDeliver.setHd)) (.done hs.setHd)

theorem Evolves.hdDriveBody (hs : Evolves s₀ s) {n arg} : HdEvolves s₀ (hdDriveBody n arg s) :=
  .ite (.faults hs) (.done (.ite hs.hdLevel.setHd hs.hdLevel))

theorem Evolves.awaitCount (hs : Evolves s₀ s) {n arg k} : Evolves s₀ (s.awaitCount n arg k) :=
  .ite hs.wr hs

theorem Evolves.awaitEnd (hs : Evolves s₀ s) {n arg} : Evolves s₀ (s.awaitEnd n arg) :=
  hs.setHd.hdFlag

theorem Evolves.hdAwaitBody (hs : Evolves s₀ s) {n before now arg} : HdEvolves s₀ (hdAwaitBody n before now arg s) :=
  .ite (.faults hs) (.ite (.faults hs) (.ite (.done hs.awaitCount.awaitEnd) (.waits hs.awaitCount)))

theorem Evolves.hdCountBody (hs : Evolves s₀ s) {n arg} : HdEvolves s₀ (hdCountBody n arg s) := by
  unfold Machine.hdCountBody
  dsimp only
  split
  · exact .done hs.wr
  · exact .ite (.faults hs) (.done hs.wr)
  · exact .ite (.faults hs) (.done hs.wr.hdFlag)
  · exact .faults hs

theorem Evolves.hdShiftBody (hs : Evolves s₀ s) {n arg} : HdEvolves s₀ (hdShiftBody n arg s) := by
  unfold Machine.hdShiftBody
  dsimp only
  refine .ite (.faults hs) (.ite (.done hs.setHd.hdLevel) (.ite (.faults hs) ?_))
  split
  · exact .stalls hs.wr
  · exact .done hs.hdSetTx.setHd.setHd.hdLevel

theorem Evolves.hdEmitBody (hs : Evolves s₀ s) {n arg} : HdEvolves s₀ (hdEmitBody n arg s) :=
  .ite (.faults hs) (.ite (.faults hs) (.ite (.stalls hs) (.done (.ite hs.hdDeliver.setHd hs.hdDeliver))))

theorem Evolves.hdTakeBody (hs : Evolves s₀ s) {n arg} : HdEvolves s₀ (hdTakeBody n arg s) := by
  unfold Machine.hdTakeBody
  dsimp only
  refine .ite (.faults hs) (.ite (.faults hs) ?_)
  split
  · exact .ite (.done hs.hdFlag) (.stalls hs)
  · exact .done <|
      .ite (Evolves.hdSetTx (.ite hs.drawWord hs)).setHd.hdFlag (Evolves.hdSetTx (.ite hs.drawWord hs)).setHd

theorem Evolves.hdBranchBody (hs : Evolves s₀ s) {n pins arg} : HdEvolves s₀ (hdBranchBody n pins arg s) := by
  unfold Machine.hdBranchBody
  dsimp only
  split
  · exact .done hs
  · exact .done hs
  · exact .done hs
  · exact .done hs
  · exact .done hs
  · exact .done hs
  · exact .done hs
  · exact .faults hs

theorem Evolves.hdMatchBody (hs : Evolves s₀ s) {n pins arg} : HdEvolves s₀ (hdMatchBody n pins arg s) := by
  unfold Machine.hdMatchBody
  dsimp only
  split
  · exact .ite (.faults hs) (.done hs.hdFlag)
  · exact .ite (.faults hs) (.done hs.hdFlag)
  · exact .faults hs

theorem Evolves.hdTimeoutBody (hs : Evolves s₀ s) {n arg} : HdEvolves s₀ (hdTimeoutBody n arg s) :=
  .ite (.ite (.faults hs) (.done hs.setHd)) (.done hs.setHd)

theorem Evolves.hdSignalBody (hs : Evolves s₀ s) {n arg} : HdEvolves s₀ (hdSignalBody n arg s) :=
  .ite (.faults hs) (.done (.ite hs.wrBit.hdWake.part.interruptWeaver hs.wrBit.hdWake))

theorem Evolves.execHeddleNop (hs : Evolves s₀ s) {n fetchBad} : OutEvolves s₀ (execHeddleNop n fetchBad s) :=
  .next (hs.hdIssue fun _ _ h1 => h1.hdNopBody)

theorem Evolves.execSample (hs : Evolves s₀ s) {n pins fetchBad} : OutEvolves s₀ (execSample n pins fetchBad s) :=
  .next (hs.hdIssue fun _ _ h1 => h1.hdSampleBody)

theorem Evolves.execDrive (hs : Evolves s₀ s) {n fetchBad} : OutEvolves s₀ (execDrive n fetchBad s) :=
  .next (hs.hdIssue fun _ _ h1 => h1.hdDriveBody)

theorem Evolves.execAwait (hs : Evolves s₀ s) {n before now fetchBad} :
    OutEvolves s₀ (execAwait n before now fetchBad s) :=
  .next (hs.hdIssue fun _ _ h1 => h1.hdAwaitBody)

theorem Evolves.execCount (hs : Evolves s₀ s) {n fetchBad} : OutEvolves s₀ (execCount n fetchBad s) :=
  .next (hs.hdIssue fun _ _ h1 => h1.hdCountBody)

theorem Evolves.execShift (hs : Evolves s₀ s) {n fetchBad} : OutEvolves s₀ (execShift n fetchBad s) :=
  .next (hs.hdIssue fun _ _ h1 => h1.hdShiftBody)

theorem Evolves.execEmit (hs : Evolves s₀ s) {n fetchBad} : OutEvolves s₀ (execEmit n fetchBad s) :=
  .next (hs.hdIssue fun _ _ h1 => h1.hdEmitBody)

theorem Evolves.execTake (hs : Evolves s₀ s) {n fetchBad} : OutEvolves s₀ (execTake n fetchBad s) :=
  .next (hs.hdIssue fun _ _ h1 => h1.hdTakeBody)

theorem Evolves.execBranch (hs : Evolves s₀ s) {n pins fetchBad} : OutEvolves s₀ (execBranch n pins fetchBad s) :=
  .next (hs.hdIssue fun _ _ h1 => h1.hdBranchBody)

theorem Evolves.execMatch (hs : Evolves s₀ s) {n pins fetchBad} : OutEvolves s₀ (execMatch n pins fetchBad s) :=
  .next (hs.hdIssue fun _ _ h1 => h1.hdMatchBody)

theorem Evolves.execTimeout (hs : Evolves s₀ s) {n fetchBad} : OutEvolves s₀ (execTimeout n fetchBad s) :=
  .next (hs.hdIssue fun _ _ h1 => h1.hdTimeoutBody)

theorem Evolves.execSignal (hs : Evolves s₀ s) {n fetchBad} : OutEvolves s₀ (execSignal n fetchBad s) :=
  .next (hs.hdIssue fun _ _ h1 => h1.hdSignalBody)

theorem Evolves.hdExpire (hs : Evolves s₀ s) {n} : Evolves s₀ (s.hdExpire n) :=
  hs.awaitCount.setHd.hdFlag.hdAdvance

theorem Evolves.execAwaitConditionMet (hs : Evolves s₀ s) {n cycles before now} :
    OutEvolves s₀ (execAwaitConditionMet n cycles before now s) :=
  .next (.ite hs (.ite hs.hdExpire (.ite hs hs.awaitCount.hdCount.awaitEnd.hdAdvance)))

theorem Evolves.execHeddleStallRelease (hs : Evolves s₀ s) {n cycles} :
    OutEvolves s₀ (execHeddleStallRelease n cycles s) := by
  unfold Machine.execHeddleStallRelease
  dsimp only
  refine .next (.ite hs (.ite hs.hdExpire (.ite hs (HdEvolves.hdEnd ?_))))
  split
  · exact hs.hdCount.hdShiftBody
  · exact hs.hdCount.hdEmitBody
  · exact hs.hdCount.hdTakeBody

theorem Evolves.execHeddleTExpiry (hs : Evolves s₀ s) {n} : OutEvolves s₀ (execHeddleTExpiry n s) :=
  .next (.ite hs (.ite hs.hdExpire (.ite hs.setHd.hdFlag hs)))

theorem Evolves.execHeddleTimeCompare (hs : Evolves s₀ s) {n} : OutEvolves s₀ (execHeddleTimeCompare n s) :=
  .next (.ite hs.setHd.wr hs)

theorem Evolves.hdAngle (hs : Evolves s₀ s) {n} : Evolves s₀ (s.hdAngle n) :=
  .ite hs.wr hs.setHd

theorem Evolves.execHeddleEnable (hs : Evolves s₀ s) {n wtr} : OutEvolves s₀ (execHeddleEnable n wtr s) :=
  .next (.ite hs (.ite hs.hdFault hs.setHd.wr.wr))

theorem Evolves.execHeddleDisable (hs : Evolves s₀ s) {n wtr} : OutEvolves s₀ (execHeddleDisable n wtr s) :=
  .next (.ite hs.hdStop hs)

theorem Evolves.execRestart (hs : Evolves s₀ s) {n wtr} : OutEvolves s₀ (execRestart n wtr s) :=
  .next (.ite hs.setHd.wr.wr.wr.wr.wr hs)

theorem Evolves.execFlush (hs : Evolves s₀ s) {n wtr} : OutEvolves s₀ (execFlush n wtr s) :=
  .next (.ite hs.hdSetTx.hdSetRx hs)

theorem Evolves.execSplitWrite (hs : Evolves s₀ s) {n wtr split} : OutEvolves s₀ (execSplitWrite n wtr split s) :=
  .next (.ite hs.hdSetTx.hdSetRx.wr hs)

theorem Evolves.tickHeddle (hs : Evolves s₀ s) {n} : Evolves s₀ (s.tickHeddle n) :=
  hs.setHd

theorem Evolves.tickHeddles (hs : Evolves s₀ s) : Evolves s₀ s.tickHeddles :=
  .ite (hs.each fun _ _ h1 => h1.tickHeddle) hs

theorem Evolves.execHeddleDivWrite (hs : Evolves s₀ s) {n wtr d} : OutEvolves s₀ (execHeddleDivWrite n wtr d s) :=
  .next (.ite hs.wr hs)

theorem Evolves.execRegionWrite (hs : Evolves s₀ s) {n wtr base len start wrap} :
    OutEvolves s₀ (execRegionWrite n wtr base len start wrap s) :=
  .next (.ite hs (.ite hs hs.wr.wr.wr.wr))

theorem Evolves.putSlotByte (hs : Evolves s₀ s) {n k b} : Evolves s₀ (s.putSlotByte n k b) :=
  hs.wr

theorem Evolves.execSlotmapWrite (hs : Evolves s₀ s) {n wtr hi v} : OutEvolves s₀ (execSlotmapWrite n wtr hi v s) :=
  .next (.ite hs (hs.each fun _ _ h1 => .ite h1.putSlotByte h1.wr))

theorem Evolves.execProgramWordWrite (hs : Evolves s₀ s) {b w wtr v} :
    OutEvolves s₀ (execProgramWordWrite b w wtr v s) :=
  .next (.ite hs (.ite (hs.each fun _ _ h1 => h1.wr) hs.part))

theorem Evolves.execTxqWrite (hs : Evolves s₀ s) {n wtr v} : OutEvolves s₀ (execTxqWrite n wtr v s) :=
  .next (.ite hs (.ite hs.hdSetTx hs.wr))

theorem Evolves.execRxqRead (hs : Evolves s₀ s) {n} : OutEvolves s₀ (execRxqRead n s) := by
  unfold Machine.execRxqRead
  dsimp only
  refine .next ?_
  split
  · exact hs.part
  · exact hs.hdSetRx.part

theorem Evolves.execTtargetWrite (hs : Evolves s₀ s) {n wtr v} : OutEvolves s₀ (execTtargetWrite n wtr v s) :=
  .next (.ite hs.setHd.wr hs)

theorem Evolves.execBypassWrite (hs : Evolves s₀ s) {wtr v} : OutEvolves s₀ (execBypassWrite wtr v s) := by
  unfold Machine.execBypassWrite
  dsimp only
  refine .next (hs.each fun _ _ h1 => ?_)
  split
  · exact .ite (.ite h1.wrBit.part.wr h1.wrBit) h1
  · exact h1

theorem Evolves.execDaliCurrentLimit (hs : Evolves s₀ s) {i} : OutEvolves s₀ (execDaliCurrentLimit i s) :=
  .next (Evolves.event (.ite hs.wr hs.wr))

/-! ### PowerStage -/

theorem Evolves.grTryStart (hs : Evolves s₀ s) {g} : Evolves s₀ (s.grTryStart g) :=
  .ite hs.grPrecheck hs

theorem Evolves.execGroupStart (hs : Evolves s₀ s) {g} : OutEvolves s₀ (execGroupStart g s) :=
  .next hs.grTryStart

theorem Evolves.execGroupStop (hs : Evolves s₀ s) {g} : OutEvolves s₀ (execGroupStop g s) :=
  .next hs.grRamp

theorem Evolves.execGroupPark (hs : Evolves s₀ s) {g} : OutEvolves s₀ (execGroupPark g s) :=
  .next hs.grPark

theorem Evolves.grClear (hs : Evolves s₀ s) {g} : Evolves s₀ (s.grClear g) :=
  .ite hs (.ite hs.wr.grTo hs.wr)

theorem Evolves.execGroupClear (hs : Evolves s₀ s) {g} : OutEvolves s₀ (execGroupClear g s) :=
  .next hs.grClear

theorem Evolves.execStartConditionsMet (hs : Evolves s₀ s) {g} : OutEvolves s₀ (execStartConditionsMet g s) :=
  .next hs.grTryStart

theorem Evolves.execPrecheckDone (hs : Evolves s₀ s) {g vout vin isen} :
    OutEvolves s₀ (execPrecheckDone g vout vin isen s) :=
  .next <|
  .ite hs <|
  .ite (hs.each fun _ _ h1 => h1.setPh.wr.event).wr.setGr.grFaults <|
  .ite (hs.each fun _ _ h1 => h1.setPh.wr.event).wr.setGr.grFaults (hs.each fun _ _ h1 =>
      h1.setPh.wr.event).wr.setGr.wr.grTo

theorem Evolves.execSoftstartDone (hs : Evolves s₀ s) {g} : OutEvolves s₀ (execSoftstartDone g s) :=
  .next (.ite hs.grTo hs)

theorem Evolves.execGroupRetry (hs : Evolves s₀ s) {g} : OutEvolves s₀ (execGroupRetry g s) :=
  .next (.ite hs hs.event.grPrecheck)

theorem Evolves.execRampdownDone (hs : Evolves s₀ s) {g} : OutEvolves s₀ (execRampdownDone g s) :=
  .next (.ite hs (.ite hs.grFaults hs.grDisable))

theorem Evolves.dropPhase (hs : Evolves s₀ s) {g n} : Evolves s₀ (s.dropPhase g n) :=
  hs.setPh.wr.wrBit.setGr.event

theorem Evolves.execLoopStep (hs : Evolves s₀ s) {g} : OutEvolves s₀ (execLoopStep g s) := by
  unfold Machine.execLoopStep
  extract_lets +onlyGivenNames s0 v phases vo vi cur
  have h0 : Evolves s₀ s0 := hs.wakePcp
  clear_value s0 v phases vo vi cur
  apply OutEvolves.next
  apply Evolves.ite hs
  apply Evolves.ite (.ite h0.setGr.grFaults h0.setGr)
  split
  · apply Evolves.ite (.ite h0.setGr.grFaults h0.setGr)
    extract_lets +onlyGivenNames cs mv miv off a swap v0 s1 ref per law hold duty keep win v1 s2 trims s3 s4 release
        s5 mean de de' s6
    have h3 : Evolves s₀ s3 := .ite (h0.setGr.setGr.each fun _ _ h => h.wr) h0.setGr.setGr
    have h6 : Evolves s₀ s6 := (h3.each fun _ _ h => h.setPh.dutyPut).wrIf.wr
    split
    · exact h6
    · refine .ite h6.grFaults ?_
      split
      · exact h6.dropPhase
      · exact h6
    · exact h6.grFaults
  · exact .ite h0.setGr.grFaults h0.setGr

theorem Evolves.execPwmSyncEvent (hs : Evolves s₀ s) {g} : OutEvolves s₀ (execPwmSyncEvent g s) :=
  .next (.ite hs (Evolves.setGr (.ite hs.wr hs)).wr)

theorem Evolves.execPhaseRotation (hs : Evolves s₀ s) {g} : OutEvolves s₀ (execPhaseRotation g s) :=
  .next (.ite hs.setGr hs)

theorem Evolves.execDutyWrite (hs : Evolves s₀ s) {n v} : OutEvolves s₀ (execDutyWrite n v s) := by
  unfold Machine.execDutyWrite
  dsimp only
  refine .next ?_
  split
  · exact hs.dutyPut
  · exact hs.dutyPut.setGr

theorem Evolves.truncate (hs : Evolves s₀ s) {g n} : Evolves s₀ (s.truncate g n) :=
  .ite hs.setPh.wr.grFaults hs.setPh.wr

theorem Evolves.execTripLineEdge (hs : Evolves s₀ s) {t} : OutEvolves s₀ (execTripLineEdge t s) := by
  unfold Machine.execTripLineEdge
  dsimp only
  refine .next ?_
  split
  · exact .ite hs.wrBit.truncate.wakePcp hs.wrBit
  · exact hs.wrBit.grFaults
  · exact hs.wrBit.each fun _ _ h1 => h1.grFaults
  · exact hs.wrBit

theorem Evolves.execGateDriverFault (hs : Evolves s₀ s) {n active} :
    OutEvolves s₀ (execGateDriverFault n active s) := by
  unfold Machine.execGateDriverFault
  dsimp only
  refine .next (.ite hs.wrBit ?_)
  split
  · exact hs.wrBit.wrBit
  · exact hs.wrBit.wrBit.grFaults

theorem Evolves.execZcdEdge (hs : Evolves s₀ s) {n} : OutEvolves s₀ (execZcdEdge n s) := by
  unfold Machine.execZcdEdge
  dsimp only
  refine .next ?_
  split
  · exact hs
  · exact .ite hs.setPh hs

theorem Evolves.seqTrigger (hs : Evolves s₀ s) {k} : Evolves s₀ (s.seqTrigger k) :=
  .ite hs.wr hs.part

theorem Evolves.execSeqGo (hs : Evolves s₀ s) {k} : OutEvolves s₀ (execSeqGo k s) :=
  .next (.ite hs.seqTrigger hs)

theorem Evolves.execSeqPwmTrigger (hs : Evolves s₀ s) {k} : OutEvolves s₀ (execSeqPwmTrigger k s) :=
  .next (.ite hs.seqTrigger hs)

theorem Evolves.execSeqTimeTrigger (hs : Evolves s₀ s) {k} : OutEvolves s₀ (execSeqTimeTrigger k s) :=
  .next (.ite hs.seqTrigger.wr hs)

theorem Evolves.execSequenceDone (hs : Evolves s₀ s) {k} : OutEvolves s₀ (execSequenceDone k s) := by
  unfold Machine.execSequenceDone
  dsimp only
  refine .next (.ite hs (hs.each fun _ _ h1 => ?_).part.wr.wakePcp)
  split
  · exact h1.wr.wr
  · exact h1.drawWord.wr.wr.wr

theorem Evolves.execAdcOffsetCalibration (hs : Evolves s₀ s) {c code busy} :
    OutEvolves s₀ (execAdcOffsetCalibration c code busy s) :=
  .next (.ite hs.bgSlot hs.bgSlot.part.wr)

theorem Evolves.execPcpWake (hs : Evolves s₀ s) : OutEvolves s₀ (execPcpWake s) :=
  .next hs.wakePcp

theorem Evolves.grSync (hs : Evolves s₀ s) {g} : Evolves s₀ (s.grSync g) :=
  .ite hs.setGr hs

theorem Evolves.seqAngle (hs : Evolves s₀ s) {k} : Evolves s₀ (s.seqAngle k) :=
  .ite hs.seqTrigger hs

/-! ### Treadle -/

theorem Evolves.trdTo (hs : Evolves s₀ s) {st} : Evolves s₀ (s.trdTo st) :=
  hs.wr.wr.wr

theorem Evolves.angSeg (hs : Evolves s₀ s) : Evolves s₀ s.angSeg :=
  hs.part

theorem Evolves.putInc (hs : Evolves s₀ s) {n} : Evolves s₀ (s.putInc n) :=
  hs.wr.angSeg

theorem Evolves.setInc (hs : Evolves s₀ s) {n} : Evolves s₀ (s.setInc n) :=
  hs.part.putInc

theorem Evolves.spread (hs : Evolves s₀ s) {num den} : Evolves s₀ (s.spread num den) :=
  hs.part.putInc

theorem Evolves.angMove (hs : Evolves s₀ s) {d} : Evolves s₀ (s.angMove d) :=
  hs.part.angSeg

theorem Evolves.tickTreadle (hs : Evolves s₀ s) : Evolves s₀ s.tickTreadle :=
  .ite (.ite hs.part.putInc hs.part) <|
  .ite (Evolves.part (.ite hs.part.putInc hs.part)) (Evolves.inc (.ite hs.part.putInc hs.part)).part

theorem Evolves.aevAdvance (hs : Evolves s₀ s) {n k} : Evolves s₀ (s.aevAdvance n k) :=
  hs.wr

theorem Evolves.aevFires (hs : Evolves s₀ s) {n late} : Evolves s₀ (s.aevFires n late) :=
  .ite (Evolves.wr (.ite hs.wr.wr.wrIf.part.interruptWeaver hs.wr.wr.wrIf)) <|
  .ite (Evolves.aevAdvance (.ite hs.wr.wr.wrIf.part.interruptWeaver hs.wr.wr.wrIf)).wr <|
  Evolves.aevAdvance <|
  .ite hs.wr.wr.wrIf.part.interruptWeaver hs.wr.wr.wrIf

theorem Evolves.aevDeliver (hs : Evolves s₀ s) {tcode tidx} : Evolves s₀ (s.aevDeliver tcode tidx) := by
  unfold State.aevDeliver
  split
  · exact .ite hs.grSync hs
  · exact .ite hs.seqAngle hs
  · exact .ite hs.hdAngle hs
  · exact .ite hs.agRestart hs
  · exact .ite hs.cnAngle hs
  · exact .ite hs.tpoAngle hs
  · exact hs.wakeShuttle
  · exact hs

theorem Evolves.aevFireAll (hs : Evolves s₀ s) {l late} : Evolves s₀ (s.aevFireAll l late) :=
  (hs.part.each fun _ _ h1 => h1.aevFires).each fun _ _ h1 => h1.aevDeliver

theorem Evolves.aevResume (hs : Evolves s₀ s) : Evolves s₀ s.aevResume :=
  hs.each fun _ _ h1 => .ite h1 (.ite h1.wr.wr h1.aevAdvance)

theorem Evolves.angStep (hs : Evolves s₀ s) {d} : Evolves s₀ (s.angStep d) :=
  .ite hs.angMove.rePlaceAngle.aevFireAll hs.angMove.rePlaceAngle

theorem Evolves.aevWrite (hs : Evolves s₀ s) {n reg v} : Evolves s₀ (s.aevWrite n reg v) := by
  unfold State.aevWrite
  dsimp only
  refine .ite (Evolves.aevFireAll ?_) ?_
  · split
    · exact hs.wr.wr.wrIf.wr.wr.wrIf.wrIf.wrIf
    · exact hs.wr
    · exact hs.wrIf
  · split
    · exact hs.wr.wr.wrIf.wr.wr.wrIf.wrIf.wrIf
    · exact hs.wr
    · exact hs.wrIf

theorem Evolves.seqCheck (hs : Evolves s₀ s) : Evolves s₀ s.seqCheck :=
  .ite hs.wr.grSequence hs

theorem Evolves.seqCycle (hs : Evolves s₀ s) {ang} : Evolves s₀ (s.seqCycle ang) :=
  (Evolves.part (.ite hs.wr.part (.ite hs hs.wrIf.part))).seqCheck

theorem Evolves.xtsPut (hs : Evolves s₀ s) {ang back cand} : Evolves s₀ (s.xtsPut ang back cand) :=
  hs.part.wrIf

theorem Evolves.lockAt (hs : Evolves s₀ s) {w} : Evolves s₀ (s.lockAt w) :=
  hs.trdTo.part

theorem Evolves.relock (hs : Evolves s₀ s) : Evolves s₀ s.relock :=
  hs.lockAt.wr

theorem Evolves.slewOn (hs : Evolves s₀ s) {e} : Evolves s₀ (s.slewOn e) :=
  .ite hs.relock hs.spread

theorem Evolves.runDone (hs : Evolves s₀ s) {t sum e mgr} : Evolves s₀ (s.runDone t sum e mgr) :=
  .ite (Evolves.wr (.ite hs.setInc.part.angMove.wr hs.setInc.part.angMove)).rePlaceAngle.lockAt.aevResume.seqCheck <|
  .ite hs.setInc.part.angStep.relock hs.setInc.part.trdTo.slewOn

theorem Evolves.runAdd (hs : Evolves s₀ s) {t e mgr} : Evolves s₀ (s.runAdd t e mgr) :=
  .ite hs.runDone hs.part

theorem Evolves.acceptLocked (hs : Evolves s₀ s) {t e ang} : Evolves s₀ (s.acceptLocked t e ang) :=
  .ite hs.part.angStep.relock hs.part.setInc.part.spread

theorem Evolves.acceptSlew (hs : Evolves s₀ s) {t e} : Evolves s₀ (s.acceptSlew t e) :=
  .ite hs.setInc.part.angStep.relock hs.setInc.part.slewOn

theorem Evolves.ms0Crossing (hs : Evolves s₀ s) {back mgr} : Evolves s₀ (s.ms0Crossing back mgr) :=
  .ite hs.xtsPut.seqCycle.runAdd <|
  .ite hs.inc <|
  .ite hs.xtsPut.seqCycle.crossSend.acceptLocked hs.xtsPut.seqCycle.crossSend.acceptSlew

theorem Evolves.execMs0Crossing (hs : Evolves s₀ s) {edge low high} :
    OutEvolves s₀ (execMs0Crossing edge low high s) := by
  unfold Machine.execMs0Crossing
  refine .next (.ite hs ?_)
  split
  · exact hs
  · exact hs.msTake.ms0Crossing

theorem Evolves.toHoldover (hs : Evolves s₀ s) : Evolves s₀ s.toHoldover :=
  hs.trdTo.wr.part

theorem Evolves.execWindowMiss (hs : Evolves s₀ s) : OutEvolves s₀ (execWindowMiss s) :=
  .next (.ite hs (.ite hs.inc.part hs.inc.part.setInc.wr.toHoldover))

theorem Evolves.execAcquireTimeout (hs : Evolves s₀ s) : OutEvolves s₀ (execAcquireTimeout s) :=
  .next (.ite hs hs.setInc.toHoldover.aevResume.seqCheck)

theorem Evolves.execMsPhaseCrossing (hs : Evolves s₀ s) {k} : OutEvolves s₀ (execMsPhaseCrossing k s) := by
  unfold Machine.execMsPhaseCrossing
  dsimp only
  refine .next (.ite hs ?_)
  split
  · exact hs
  · exact .ite hs.msTake.wrIf (.ite hs.msTake.wrIf.part hs.msTake.wrIf.part)

theorem Evolves.execInputPresenceUpdate (hs : Evolves s₀ s) : OutEvolves s₀ (execInputPresenceUpdate s) :=
  .next (.ite hs (.ite hs.wr.wr hs.wr.wr.wr.part))

theorem Evolves.stepCommand (hs : Evolves s₀ s) : OptEvolves s₀ id s.stepCommand :=
  .ite (.state hs.part) .none

theorem Evolves.execStepCmd (hs : Evolves s₀ s) : OutEvolves s₀ (execStepCmd s) := by
  unfold Machine.execStepCmd
  refine .next ?_
  split
  next e => exact Evolves.answer (hs.stepCommand.get e)
  next => exact hs.answer

theorem Evolves.execAevArm (hs : Evolves s₀ s) {n reg v} : OutEvolves s₀ (execAevArm n reg v s) :=
  .next hs.aevWrite

theorem Evolves.execAevFire (hs : Evolves s₀ s) : OutEvolves s₀ (execAevFire s) :=
  .next (.ite hs.aevFireAll hs)

theorem Evolves.xtsPop (hs : Evolves s₀ s) : Evolves s₀ s.xtsPop := by
  unfold State.xtsPop
  dsimp only
  split
  · exact hs.wr
  · exact hs.part.wr.wr.wr.wr.wr.wr.wr.wr.wr.wr.wr.wr

theorem Evolves.execXtspop (hs : Evolves s₀ s) : OutEvolves s₀ (execXtspop s) :=
  .next hs.xtsPop

theorem Evolves.treadleStart (hs : Evolves s₀ s) : Evolves s₀ s.treadleStart :=
  hs.part.trdTo.setInc

/-! ### Uart -/

theorem Evolves.setUa (hs : Evolves s₀ s) {n u} : Evolves s₀ (s.setUa n u) :=
  hs.part

theorem Evolves.uaWake (hs : Evolves s₀ s) {n} : Evolves s₀ (s.uaWake n) :=
  .ite hs.wakeShuttle hs

theorem Evolves.uaSetTx (hs : Evolves s₀ s) {n q} : Evolves s₀ (s.uaSetTx n q) :=
  .ite hs.setUa.wr.uaWake hs.setUa.wr

theorem Evolves.uaSetRx (hs : Evolves s₀ s) {n q} : Evolves s₀ (s.uaSetRx n q) :=
  .ite hs.setUa.wr.uaWake hs.setUa.wr

theorem Evolves.uaApply (hs : Evolves s₀ s) {n} : Evolves s₀ (s.uaApply n) := by
  unfold State.uaApply
  dsimp only
  refine Evolves.setUa ?_
  split
  · split
    · exact hs
    · exact hs.wr.wr.wr.wr
  · refine Evolves.wr ?_
    split
    · exact hs
    · exact hs.wr.wr.wr.wr

theorem Evolves.uaDisable (hs : Evolves s₀ s) {n} : Evolves s₀ (s.uaDisable n) :=
  hs.setUa.wr.wr.wr.wr

theorem Evolves.execUartTxWrite (hs : Evolves s₀ s) {n wtr b} : OutEvolves s₀ (execUartTxWrite n wtr b s) :=
  .next (.ite hs (.ite hs.uaSetTx hs.wr))

theorem Evolves.execUartRxRead (hs : Evolves s₀ s) {n} : OutEvolves s₀ (execUartRxRead n s) := by
  unfold Machine.execUartRxRead
  dsimp only
  refine .next ?_
  split
  · exact hs.part
  · exact hs.uaSetRx.part

theorem Evolves.execTxflush (hs : Evolves s₀ s) {n wtr} : OutEvolves s₀ (execTxflush n wtr s) :=
  .next (.ite hs.uaSetTx hs)

theorem Evolves.execRxflush (hs : Evolves s₀ s) {n wtr} : OutEvolves s₀ (execRxflush n wtr s) :=
  .next (.ite hs.uaSetRx hs)

theorem Evolves.execUartConfigWrite (hs : Evolves s₀ s) {n wtr cfg receiving} :
    OutEvolves s₀ (execUartConfigWrite n wtr cfg receiving s) := by
  unfold Machine.execUartConfigWrite
  dsimp only
  refine .next (.ite hs ?_)
  split
  · exact .ite hs (.ite hs.setUa hs.setUa.uaApply)
  · exact .ite hs.wr.wr.wr.setUa hs.wr.wr.wr.setUa.uaApply

theorem Evolves.uaStart (hs : Evolves s₀ s) {n} : Evolves s₀ (s.uaStart n) := by
  unfold State.uaStart
  dsimp only
  split
  · exact hs
  · exact hs.uaSetTx.setUa.wr.wr

theorem Evolves.execUartTransmitStart (hs : Evolves s₀ s) {n} : OutEvolves s₀ (execUartTransmitStart n s) :=
  .next (.ite hs.uaStart hs)

theorem Evolves.execUartCharacterSent (hs : Evolves s₀ s) {n} : OutEvolves s₀ (execUartCharacterSent n s) :=
  .next (.ite hs (.ite hs.setUa.uaApply.uaStart hs.setUa.uaApply))

theorem Evolves.execUartDeRelease (hs : Evolves s₀ s) {n} : OutEvolves s₀ (execUartDeRelease n s) :=
  .next (.ite hs.setUa.wr hs)

theorem Evolves.execUartCharacterReceived (hs : Evolves s₀ s) {n data framing parity brk} :
    OutEvolves s₀ (execUartCharacterReceived n data framing parity brk s) :=
  .next <|
  .ite hs <|
  .ite (Evolves.uaApply (.ite (.ite hs.wr.uaSetRx.wrIf.wrIf.wrIf.uaWake hs.wr.uaSetRx.wrIf.wrIf.wrIf) hs.wr.wr)) <|
  .ite (.ite hs.wr.uaSetRx.wrIf.wrIf.wrIf.uaWake hs.wr.uaSetRx.wrIf.wrIf.wrIf) hs.wr.wr

theorem Evolves.execUartIdle (hs : Evolves s₀ s) {n} : OutEvolves s₀ (execUartIdle n s) :=
  .next (.ite hs hs.wr.wr.uaWake)

/-! ### OdRead -/

theorem Evolves.regSense (hs : Evolves s₀ s) {base} : Evolves s₀ (s.regSense base) :=
  .ite (.ite hs.drawWord.wr hs) (.ite hs.drawWord.wr.wr hs)

theorem Evolves.snapRead (hs : Evolves s₀ s) {c sub} : Evolves s₀ (s.snapRead c sub).2 :=
  .pair hs.part

theorem Evolves.odTake (hs : Evolves s₀ s) {c i sub m} : Evolves s₀ (s.odTake c i sub m).2 :=
  .ite_snd (.pair hs.tpiTake) <|
  .ite_snd (.pair hs.bobRead) <|
  .ite_snd (.pair hs.drawWord) <|
  .ite_snd (.pair hs.snapRead) (.pair hs.regSense)

/-! ### Images -/

theorem Evolves.reverted (hs : Evolves s₀ s) : Evolves s₀ s.reverted :=
  hs.odPutU

theorem Evolves.slotTo (hs : Evolves s₀ s) {k st} : Evolves s₀ (s.slotTo k st) :=
  hs.wr

theorem Evolves.slotErr (hs : Evolves s₀ s) {k d} : Evolves s₀ (s.slotErr k d) :=
  hs.wr

theorem Evolves.clearShuttle (hs : Evolves s₀ s) {n} : Evolves s₀ (s.clearShuttle n) :=
  (hs.each fun _ _ h1 => h1.setThread).clearBank.clearBank

theorem Evolves.clearWords (hs : Evolves s₀ s) {b off n} : Evolves s₀ (s.clearWords b off n) :=
  hs.words (s.memWf_clearWords b off n)

theorem Evolves.slotFree (hs : Evolves s₀ s) {k} : Evolves s₀ (s.slotFree k) :=
  ((Evolves.part (.ite (hs.each fun _ _ h1 => h1.clearShuttle) (hs.each fun _ _ h1 =>
      h1.clearShuttle).clearWords)).setQset.each fun _ _ h1 => .ite h1.setFrame.release h1).setSlot.wr.wr.slotTo

theorem Evolves.loadCheck (hs : Evolves s₀ s) {k src im} : Evolves s₀ (s.loadCheck k src im).2 := by
  unfold State.loadCheck
  dsimp only
  split
  · exact .pair hs.slotErr
  · exact .ite_snd (.pair hs.slotErr) (.ite_snd (.pair hs.slotErr) (.pair hs.setSlot.wr.wr.slotErr.slotTo))

theorem Evolves.loadVerify (hs : Evolves s₀ s) {k} : Evolves s₀ (s.loadVerify k).2 := by
  unfold State.loadVerify
  dsimp only
  split
  · exact hs
  · exact .ite_snd hs (.pair hs.slotFree.slotErr)

theorem Evolves.putTagged (hs : Evolves s₀ s) {b off w} : Evolves s₀ (s.putTagged b off w) :=
  hs.setWord

theorem Evolves.putCode (hs : Evolves s₀ s) {b code} : Evolves s₀ (s.putCode b code) :=
  hs.each fun _ _ h1 => h1.setWord

theorem Evolves.putProg (hs : Evolves s₀ s) {b base n ws} : Evolves s₀ (s.putProg b base n ws) :=
  hs.each fun _ _ h1 => h1.part

theorem Evolves.putWords (hs : Evolves s₀ s) {b off ws} : Evolves s₀ (s.putWords b off ws) :=
  hs.each fun _ _ h1 => h1.putTagged

theorem Evolves.takeJournaled (hs : Evolves s₀ s) {k im} : Evolves s₀ (s.takeJournaled k im) := by
  unfold State.takeJournaled
  dsimp only
  refine hs.each fun _ _ h1 => ?_
  split
  · exact .ite h1.odPut h1.reverted
  · exact h1

theorem Evolves.loadPlace (hs : Evolves s₀ s) {k} : Evolves s₀ (s.loadPlace k) := by
  unfold State.loadPlace
  dsimp only
  split
  · exact hs
  · exact ((Evolves.each (.ite (hs.each fun _ _ h1 =>
          (h1.clearShuttle.putWords.each fun _ _ h2 => h2.putTagged).each fun _ _ h2 =>
          h2.putCode) (hs.each fun _ _ h1 => (h1.clearShuttle.putWords.each fun _ _ h2 =>
          h2.putTagged).each fun _ _ h2 => h2.putCode).putWords) fun _ _ h1 =>
          .ite h1.putProg h1.putProg).each fun _ _ h1 => h1.wr.wr).setSlot.part.takeJournaled

theorem Evolves.loadStart (hs : Evolves s₀ s) {k} : Evolves s₀ (s.loadStart k) := by
  unfold State.loadStart
  dsimp only
  split
  · exact hs
  · exact (hs.each fun _ _ h1 => h1.each fun _ _ h2 => .ite h2 h2.setThread).setSlot.slotTo

theorem Evolves.loadRest (hs : Evolves s₀ s) {k} : Evolves s₀ (s.loadRest k).2 :=
  .ite_snd hs.loadVerify (.pair hs.loadVerify.loadPlace.loadStart)

theorem Evolves.loadNow (hs : Evolves s₀ s) {k src im} : Evolves s₀ (s.loadNow k src im).2 :=
  .ite_snd hs.loadCheck hs.loadCheck.loadRest

theorem Evolves.haltThreads (hs : Evolves s₀ s) {k} : Evolves s₀ (s.haltThreads k) :=
  hs.each fun _ _ h1 => h1.each fun _ _ h2 => h2.setThread

theorem Evolves.closeSessions (hs : Evolves s₀ s) {k} : Evolves s₀ (s.closeSessions k) :=
  hs.each fun _ _ h1 => .ite h1.closeSession h1

theorem Evolves.channelsSafe (hs : Evolves s₀ s) {k} : Evolves s₀ (s.channelsSafe k) :=
  ((hs.each fun _ _ h1 => h1.hdStop).each fun _ _ h1 => .ite h1.uaDisable h1).each fun _ _ h1 =>
      .ite h1 (.ite h1.setCn h1.cnStop)

theorem Evolves.slotQuiet (hs : Evolves s₀ s) {k} : Evolves s₀ (s.slotQuiet k) :=
  hs.haltThreads.closeSessions.channelsSafe.setSlot

theorem Evolves.slotQuiesce (hs : Evolves s₀ s) {k} : Evolves s₀ (s.slotQuiesce k) :=
  hs.slotQuiet.setSlot.slotTo

theorem Evolves.imageFault (hs : Evolves s₀ s) {n j code} : Evolves s₀ (s.imageFault n j code) := by
  unfold State.imageFault
  dsimp only
  split
  · exact hs.setThread
  · exact .ite hs.setThread hs.setThread.slotQuiet.setThread.setSlot.slotTo.event

theorem Evolves.stageReturn (hs : Evolves s₀ s) : Evolves s₀ s.stageReturn :=
  hs.part

theorem Evolves.imageSettle (hs : Evolves s₀ s) {i} : Evolves s₀ (s.imageSettle i) :=
  .ite hs (.ite (Evolves.stageReturn (.ite hs.slotFree hs)) (.ite hs.slotFree hs))

theorem Evolves.storeFail (hs : Evolves s₀ s) {i k d} : Evolves s₀ (s.storeFail i k d) :=
  hs.part.failTicket

theorem Evolves.stepLoad (hs : Evolves s₀ s) {i k src} : Evolves s₀ (s.stepLoad i k src) :=
  .ite (Evolves.failTicket (.ite_snd hs.loadCheck
      (.ite_snd hs.loadVerify (.ite_snd (.pair hs.loadPlace) (.pair hs.loadStart))))) <|
  Evolves.stepDone <|
  .ite_snd hs.loadCheck <|
  .ite_snd hs.loadVerify <|
  .ite_snd (.pair hs.loadPlace) (.pair hs.loadStart)

theorem Evolves.stepUnload (hs : Evolves s₀ s) {i k} : Evolves s₀ (s.stepUnload i k) :=
  .ite (.ite hs.slotQuiesce.stepDone hs.slotErr.failTicket) hs.slotFree.stepDone

theorem Evolves.stepStore (hs : Evolves s₀ s) {i k failed} : Evolves s₀ (s.stepStore i k failed) := by
  unfold State.stepStore
  dsimp only
  split
  · exact hs.storeFail
  · exact .ite (.ite hs.storeFail hs.stepDone) <|
      .ite hs.storeFail <|
      Evolves.stepDone <|
      .ite hs.part <|
      .ite hs.part hs.part

theorem Evolves.stepTable (hs : Evolves s₀ s) {i k value failed} : Evolves s₀ (s.stepTable i k value failed) :=
  .ite hs.erase.failTicket (.ite hs.putTable.stepDone hs.putTable.stepDone)

theorem Evolves.stepImage (hs : Evolves s₀ s) {i failed} : Evolves s₀ (s.stepImage i failed) :=
  Evolves.imageSettle (.ite hs.stepLoad (.ite hs.stepUnload (.ite hs.stepStore hs.stepTable)))

theorem Evolves.execShwake (hs : Evolves s₀ s) {t w} : OutEvolves s₀ (execShwake t w s) :=
  .next (.ite hs.wakeShuttle hs)

theorem Evolves.execImageRestart (hs : Evolves s₀ s) {k} : OutEvolves s₀ (execImageRestart k s) :=
  .next <|
  .ite hs <|
  .ite hs.setSlot.slotTo.slotFree.slotErr <|
  .ite hs.setSlot.slotTo.loadRest.slotErr hs.setSlot.slotTo.loadRest

/-! ### Power -/

theorem Evolves.powerTo (hs : Evolves s₀ s) {st} : Evolves s₀ (s.powerTo st) :=
  hs.wr.intBit

theorem Evolves.tearHead (hs : Evolves s₀ s) : Evolves s₀ s.tearHead := by
  unfold State.tearHead
  dsimp only
  split
  · exact hs
  · exact .ite hs hs.drawWord.tornWrite

theorem Evolves.dieOff (hs : Evolves s₀ s) : Evolves s₀ s.dieOff :=
  (hs.tearHead.keepRegs (p := fun e => keptKey e.1)).words fun _ => rfl

theorem Evolves.rest (hs : Evolves s₀ s) : Evolves s₀ s.rest :=
  hs.wr

theorem Evolves.wakeStart (hs : Evolves s₀ s) {src} : Evolves s₀ (s.wakeStart src) :=
  hs.wr.part

theorem Evolves.wakeCall (hs : Evolves s₀ s) {src} : Evolves s₀ (s.wakeCall src) :=
  .ite hs.rest.part hs.wakeStart

theorem Evolves.wakeTo (hs : Evolves s₀ s) {n} : Evolves s₀ (s.wakeTo n) :=
  hs.part

theorem Evolves.failRecord (hs : Evolves s₀ s) {step} : Evolves s₀ (s.failRecord step) :=
  hs.wr.wr.wr.wr.wr.part

theorem Evolves.wakeFail (hs : Evolves s₀ s) {step} : Evolves s₀ (s.wakeFail step) :=
  .ite hs.dieOff.part.rest.part <|
  .ite hs.dieOff.part.wr.part <|
  .ite hs.dieOff.part.failRecord.wr.wr.wr.part hs.dieOff.part.failRecord.rest.part

theorem Evolves.fillStaging (hs : Evolves s₀ s) {k} : Evolves s₀ (State.fillStaging k s) := by
  induction k generalizing s with
  | zero => exact hs
  | succ k ih =>
    unfold State.fillStaging
    split
    · exact hs
    · exact .ite (ih hs.part) hs

theorem Evolves.sdStart (hs : Evolves s₀ s) {t} : Evolves s₀ (s.sdStart t) :=
  .ite (.ite hs.part hs) (.ite hs.wr.wr.powerTo.part hs)

theorem Evolves.enterS5 (hs : Evolves s₀ s) {last} : Evolves s₀ (s.enterS5 last) :=
  (Evolves.wr (.ite hs.wr.wr.wr.wr.wr.ownDrive hs.wr.wr.wr.wr.wr)).part

theorem Evolves.jumpS5 (hs : Evolves s₀ s) {t} : Evolves s₀ (s.jumpS5 t) :=
  .ite hs hs.wr.powerTo.part.enterS5

theorem Evolves.loomDrain (hs : Evolves s₀ s) : Evolves s₀ s.loomDrain :=
  hs.each fun _ _ h1 => h1.setEg.each fun _ _ h2 => h2.dropCopy

theorem Evolves.resume (hs : Evolves s₀ s) : Evolves s₀ s.resume :=
  (Evolves.wr (.ite hs.loomDrain hs)).wr.powerTo.part.fillStaging.grResume

theorem Evolves.enterS4 (hs : Evolves s₀ s) : Evolves s₀ s.enterS4 :=
  .ite hs.wr.mark hs.wr.mark.part

theorem Evolves.resumeRecord (hs : Evolves s₀ s) : Evolves s₀ s.resumeRecord :=
  hs.part

theorem Evolves.endS4 (hs : Evolves s₀ s) {incomplete} : Evolves s₀ (s.endS4 incomplete) :=
  .ite hs.resume hs.part.enterS5

theorem Evolves.endS6 (hs : Evolves s₀ s) : Evolves s₀ s.endS6 :=
  hs.wr.dieOff.rest.part

theorem Evolves.sdCommand (hs : Evolves s₀ s) {restart} : Evolves s₀ (s.sdCommand restart).2 :=
  .ite_snd hs (.ite_snd (.pair hs.sdStart.part) hs)

theorem Evolves.sdcmdWrite (hs : Evolves s₀ s) {code} : Evolves s₀ (s.sdcmdWrite code).2 :=
  .ite_snd hs.sdCommand (.ite_snd hs.sdCommand hs)

theorem Evolves.execLockstepMismatch (hs : Evolves s₀ s) : OutEvolves s₀ (execLockstepMismatch s) :=
  .next (.ite hs (hs.each fun _ _ h1 => h1.setThread).parkRequest.part.jumpS5)

theorem Evolves.clockLost (hs : Evolves s₀ s) {own run} : Evolves s₀ (s.clockLost own run) :=
  .ite hs <|
  .ite (hs.each fun _ _ h1 => h1.wr).part.sdStart <|
  .ite (hs.each fun _ _ h1 => h1.wr).sdStart (hs.each fun _ _ h1 => h1.wr)

theorem Evolves.execRefclkLost (hs : Evolves s₀ s) : OutEvolves s₀ (execRefclkLost s) :=
  .next hs.part.clockLost

theorem Evolves.execRefclkOutOfRange (hs : Evolves s₀ s) : OutEvolves s₀ (execRefclkOutOfRange s) :=
  .next hs.part.clockLost

theorem Evolves.execPllUnlock (hs : Evolves s₀ s) : OutEvolves s₀ (execPllUnlock s) :=
  .next (.ite hs hs.clockLost)

theorem Evolves.execVbatPresent (hs : Evolves s₀ s) : OutEvolves s₀ (execVbatPresent s) :=
  .next (.ite (Evolves.wr (.ite hs.part.firstPower hs.part)) hs.part)

theorem Evolves.coolingOn (hs : Evolves s₀ s) : Evolves s₀ s.coolingOn :=
  .ite hs hs.part

theorem Evolves.execMainFeedPresent (hs : Evolves s₀ s) {vhv} : OutEvolves s₀ (execMainFeedPresent vhv s) :=
  .next <|
  .ite (.ite (Evolves.wr (.ite hs.coolingOn.part.firstPower hs.coolingOn.part)).part
      (Evolves.wakeCall (.ite hs.coolingOn.part.firstPower hs.coolingOn.part))) <|
  .ite hs.coolingOn.part.firstPower hs.coolingOn.part

theorem Evolves.execMainFeedLost (hs : Evolves s₀ s) : OutEvolves s₀ (execMainFeedLost s) :=
  .next (.ite hs.mark.part.dieOff.rest (.ite hs.mark.part.rest hs.mark.part))

theorem Evolves.execWakeEvent (hs : Evolves s₀ s) {src} : OutEvolves s₀ (execWakeEvent src s) :=
  .next (.ite hs (.ite (.ite hs.part hs.wakeCall) (.ite hs.part hs)))

theorem Evolves.execCanWake (hs : Evolves s₀ s) {n c} : OutEvolves s₀ (execCanWake n c s) :=
  .ite (.next hs) <|
  .ite (.ite hs.part.execWakeEvent (.next hs.part)) <|
  .next <|
  .ite hs <|
  .ite (.ite hs.setCn.cnTo.wr.wakeShuttle hs.setCn.cnTo.wr) hs.setCn

theorem Evolves.execCompanionRegulatorsInRegulation (hs : Evolves s₀ s) :
    OutEvolves s₀ (execCompanionRegulatorsInRegulation s) :=
  .next (.ite hs.wakeTo.part hs)

theorem Evolves.execPgCoreHigh (hs : Evolves s₀ s) {vsel18} : OutEvolves s₀ (execPgCoreHigh vsel18 s) :=
  .next (.ite hs.wakeTo.part hs)

theorem Evolves.execRefclkInRange (hs : Evolves s₀ s) : OutEvolves s₀ (execRefclkInRange s) :=
  .next (.ite hs.wakeTo hs)

theorem Evolves.execPll0Lock (hs : Evolves s₀ s) : OutEvolves s₀ (execPll0Lock s) :=
  .next (.ite hs.wakeTo hs)

theorem Evolves.execFuseCheck (hs : Evolves s₀ s) {differ} : OutEvolves s₀ (execFuseCheck differ s) := by
  unfold Machine.execFuseCheck
  dsimp only
  refine .next (.ite hs ?_)
  split
  · exact hs.wakeFail
  · exact .ite hs.wakeFail hs.wr.wr.wr.wr.wr.wr.wr.wakeTo

theorem Evolves.execStrapSampleRound (hs : Evolves s₀ s) {a b c} : OutEvolves s₀ (execStrapSampleRound a b c s) :=
  .next <|
  .ite hs <|
  .ite (Evolves.wakeTo (.ite hs.wr.wr.wr.wrIf hs.wr.wr.wr.wrIf.timeStart)).part <|
  .ite hs.part hs.wakeFail

theorem Evolves.execWakeStepTimeout (hs : Evolves s₀ s) : OutEvolves s₀ (execWakeStepTimeout s) :=
  .next (.ite hs hs.wakeFail)

theorem Evolves.execWakeAttemptRestart (hs : Evolves s₀ s) : OutEvolves s₀ (execWakeAttemptRestart s) :=
  .next (.ite hs.part hs)

theorem Evolves.execRefclkBack (hs : Evolves s₀ s) : OutEvolves s₀ (execRefclkBack s) :=
  .next (.ite hs.part hs)

theorem Evolves.execResetNLow (hs : Evolves s₀ s) : OutEvolves s₀ (execResetNLow s) :=
  .next (.ite (.ite hs.part.ownDrive hs.part) (.ite (Evolves.jumpS5 (.ite hs.part.ownDrive hs.part)) hs.part.part))

theorem Evolves.execResetNRelease (hs : Evolves s₀ s) : OutEvolves s₀ (execResetNRelease s) :=
  .next (.ite hs (.ite hs.part.wakeStart hs.part))

theorem Evolves.execVhvFail (hs : Evolves s₀ s) : OutEvolves s₀ (execVhvFail s) :=
  .next (.ite hs.part.sdStart hs.part)

theorem Evolves.execPgCoreWarning (hs : Evolves s₀ s) : OutEvolves s₀ (execPgCoreWarning s) :=
  .next (.ite hs.part.enterS5 hs.sdStart)

theorem Evolves.execShutdownPowerOff (hs : Evolves s₀ s) : OutEvolves s₀ (execShutdownPowerOff s) :=
  .next hs.sdCommand.answer

theorem Evolves.execShutdownRestart (hs : Evolves s₀ s) : OutEvolves s₀ (execShutdownRestart s) :=
  .next hs.sdCommand.answer

theorem Evolves.execShutdownStepComplete (hs : Evolves s₀ s) : OutEvolves s₀ (execShutdownStepComplete s) :=
  .next <|
  .ite hs <|
  .ite hs.wr.grStopAll <|
  .ite (.ite (hs.twinS2.wr.each fun _ _ h1 => h1.hdStop) hs) <|
  .ite hs.loomDrain.enterS4 <|
  .ite (.ite hs.endS4 hs) <|
  .ite hs.wr.wr hs.endS6

theorem Evolves.execRampCapExpired (hs : Evolves s₀ s) : OutEvolves s₀ (execRampCapExpired s) :=
  .next (.ite (hs.each fun _ _ h1 => .ite h1.grFaults h1).part hs)

theorem Evolves.execS4BoundReached (hs : Evolves s₀ s) : OutEvolves s₀ (execS4BoundReached s) :=
  .next (.ite hs.endS4 hs)

theorem Evolves.execVhvReturned (hs : Evolves s₀ s) : OutEvolves s₀ (execVhvReturned s) :=
  .next (.ite hs.part (.ite hs.part.resume (.ite hs.part.resumeRecord hs.part)))

theorem Evolves.execOffIntervalEnd (hs : Evolves s₀ s) : OutEvolves s₀ (execOffIntervalEnd s) := by
  unfold Machine.execOffIntervalEnd
  dsimp only
  refine .next (.ite hs (.ite hs.part ?_))
  split
  · exact .ite hs.part.wakeStart hs.part.part
  · exact hs.part

/-! ### Operands -/

theorem Evolves.setG (hs : Evolves s₀ s) {i n w} : Evolves s₀ (s.setG i n w) :=
  hs.setThread

theorem Evolves.setFlags (hs : Evolves s₀ s) {i f} : Evolves s₀ (s.setFlags i f) :=
  hs.setThread

theorem Evolves.setV (hs : Evolves s₀ s) {i b} : Evolves s₀ (s.setV i b) :=
  .ite hs.setThread hs

theorem Evolves.setP (hs : Evolves s₀ s) {i b} : Evolves s₀ (s.setP i b) :=
  hs.setThread

theorem Evolves.freeTagged (hs : Evolves s₀ s) : Evolves s₀ s.freeTagged.2 :=
  .pair hs.drawWord.drawWord

theorem Evolves.trapEnter (hs : Evolves s₀ s) {i code tpc w} : Evolves s₀ (s.trapEnter i code tpc w) :=
  hs.setThread.inc.wr.wr.wr.wr

theorem Evolves.doubleTrap (hs : Evolves s₀ s) {i code tpc} : Evolves s₀ (s.doubleTrap i code tpc) :=
  .ite hs.inc.event.setThread.sdCommand (.ite hs.inc.event.imageFault hs.inc.event.setThread.pcpHalt)

theorem Evolves.takeTrap (hs : Evolves s₀ s) {i code tpc w} : Evolves s₀ (s.takeTrap i code tpc w) :=
  .ite hs.doubleTrap hs.trapEnter

theorem Evolves.fetchFails (hs : Evolves s₀ s) {i len} : Evolves s₀ (s.fetchFails i len).2 :=
  .ite_snd hs (.ite_snd hs (.foldl_snd hs fun _ _ h1 => .pair h1.memRead))

theorem Evolves.issue (hs : Evolves s₀ s) {d op enc opc body} (hbody : ∀ u, Evolves s₀ u → EurEvolves s₀ (body u)) :
    Evolves s₀ (s.issue d op enc opc body) := by
  have hf : Evolves s₀ (s.fetchFails op.thread (eurLen d op)).2 := hs.fetchFails
  have hr := hbody _ hf
  unfold State.issue
  refine .ite hs (.ite hf.takeTrap (.ite hf.freeTagged.takeTrap (.ite hf.freeTagged.takeTrap (.ite hf.setThread ?_))))
  generalize body _ = r at hr
  cases hr with
  | done h => exact h.setThread
  | jump h => exact h.setThread
  | again h => exact h
  | trap h => exact h.takeTrap
  | after h => exact h.setThread.takeTrap

theorem Evolves.withAddr (hs : Evolves s₀ s) {op baseTag has k} (hk : ∀ x0, EurEvolves s₀ (k x0)) :
    EurEvolves s₀ (s.withAddr op baseTag has k) :=
  .ite (.ite (hk _) (.trap hs)) (.ite (.trap hs) (.ite (hk _) (.trap hs)))

theorem Evolves.withWord (hs : Evolves s₀ s) {op a k} (hk : ∀ x0 u, Evolves s₀ u → EurEvolves s₀ (k x0 u)) :
    EurEvolves s₀ (s.withWord op a k) :=
  .ite (.again hs) (.ite (.ite (hk _ _ hs.memRead) (.trap hs.memRead)) (hk _ _ hs.memRead))

theorem Evolves.storeWord' (hs : Evolves s₀ s) {op a w hit} : Evolves s₀ (s.storeWord' op a w hit) :=
  .ite hs.portBMet hs.memWrite

theorem Evolves.withB (hs : Evolves s₀ s) {op dflt k} (hk : ∀ x0 u, Evolves s₀ u → EurEvolves s₀ (k x0 u)) :
    EurEvolves s₀ (s.withB op dflt k) :=
  .ite (hk _ _ hs) (.ite (hs.withAddr fun _ => hs.withWord fun _ _ h1 => hk _ _ h1) (hk _ _ hs))

theorem Evolves.withPair (hs : Evolves s₀ s) {op a dflt pair k}
    (hk : ∀ x0 x1 u, Evolves s₀ u → EurEvolves s₀ (k x0 x1 u)) :
    EurEvolves s₀ (s.withPair op a dflt pair k) := by
  unfold State.withPair
  dsimp only
  refine .ite (.trap hs) (.ite (.trap hs) (hs.withB fun _ _ h1 => .ite (.trap h1) ?_))
  split
  · exact hk _ _ _ h1
  · exact .trap h1

theorem Evolves.withSrc (hs : Evolves s₀ s) {op w nilOk ok k} (hk : EurEvolves s₀ k) :
    EurEvolves s₀ (s.withSrc op w nilOk ok k) :=
  .ite (.trap hs) (.ite (.trap hs) hk)

/-! ### EurArith -/

theorem Evolves.setWide (hs : Evolves s₀ s) {i n t v} : Evolves s₀ (s.setWide i n t v) :=
  hs.setG.setG

theorem Evolves.withWide (hs : Evolves s₀ s) {op ok k} (hk : ∀ x0 x1 x2, EurEvolves s₀ (k x0 x1 x2)) :
    EurEvolves s₀ (s.withWide op ok k) := by
  unfold State.withWide
  dsimp only
  split
  · exact .trap hs
  · split
    · exact .ite (hk _ _ _) (.trap hs)
    · exact hk _ _ _

theorem Evolves.alu (hs : Evolves s₀ s) {op pair f} : EurEvolves s₀ (s.alu op pair f) :=
  hs.withPair fun _ _ _ h1 => .done h1.setG.setFlags

theorem Evolves.aluPlain (hs : Evolves s₀ s) {op pair f} : EurEvolves s₀ (s.aluPlain op pair f) :=
  hs.withPair fun _ _ _ h1 => .done h1.setG

theorem Evolves.execEuAdd (hs : Evolves s₀ s) {op} : OutEvolves s₀ (execEuAdd op s) :=
  .next (hs.issue fun _ h1 => .ite (h1.withWide fun _ _ _ => .done h1.setWide.setFlags) h1.alu)

theorem Evolves.execEuSub (hs : Evolves s₀ s) {op} : OutEvolves s₀ (execEuSub op s) :=
  .next (hs.issue fun _ h1 => .ite (h1.withWide fun _ _ _ => .done h1.setWide.setFlags) h1.alu)

theorem Evolves.execEuAdds (hs : Evolves s₀ s) {op} : OutEvolves s₀ (execEuAdds op s) :=
  .next (hs.issue fun _ h1 => h1.alu)

theorem Evolves.execEuSubs (hs : Evolves s₀ s) {op} : OutEvolves s₀ (execEuSubs op s) :=
  .next (hs.issue fun _ h1 => h1.alu)

theorem Evolves.execEuMul (hs : Evolves s₀ s) {op} : OutEvolves s₀ (execEuMul op s) :=
  .next (hs.issue fun _ h1 => h1.alu)

theorem Evolves.execEuDiv (hs : Evolves s₀ s) {op} : OutEvolves s₀ (execEuDiv op s) :=
  .next <|
  hs.issue fun _ h1 =>
    h1.withPair fun _ _ _ h2 => .ite (.trap h2) (.ite (.done h2.drawWord.setG) (.done h2.setG.setV))

theorem Evolves.execEuRem (hs : Evolves s₀ s) {op} : OutEvolves s₀ (execEuRem op s) :=
  .next (hs.issue fun _ h1 => h1.withPair fun _ _ _ h2 => .ite (.trap h2) (.done h2.setG))

theorem Evolves.execEuCmp (hs : Evolves s₀ s) {op} : OutEvolves s₀ (execEuCmp op s) :=
  .next <|
  hs.issue fun _ h1 =>
    .ite (h1.withWide fun _ _ _ => .done h1.setFlags) (h1.withPair fun _ _ _ h2 => .done h2.setFlags)

theorem Evolves.execEuMin (hs : Evolves s₀ s) {op} : OutEvolves s₀ (execEuMin op s) :=
  .next (hs.issue fun _ h1 => h1.aluPlain)

theorem Evolves.execEuMax (hs : Evolves s₀ s) {op} : OutEvolves s₀ (execEuMax op s) :=
  .next (hs.issue fun _ h1 => h1.aluPlain)

theorem Evolves.execEuAnd (hs : Evolves s₀ s) {op} : OutEvolves s₀ (execEuAnd op s) :=
  .next (hs.issue fun _ h1 => h1.alu)

theorem Evolves.execEuOr (hs : Evolves s₀ s) {op} : OutEvolves s₀ (execEuOr op s) :=
  .next (hs.issue fun _ h1 => h1.alu)

theorem Evolves.execEuXor (hs : Evolves s₀ s) {op} : OutEvolves s₀ (execEuXor op s) :=
  .next (hs.issue fun _ h1 => h1.alu)

theorem Evolves.execEuTst (hs : Evolves s₀ s) {op} : OutEvolves s₀ (execEuTst op s) :=
  .next (hs.issue fun _ h1 => h1.withPair fun _ _ _ h2 => .done h2.setFlags)

theorem Evolves.shift (hs : Evolves s₀ s) {op k ok} : EurEvolves s₀ (s.shift op k ok) := by
  unfold State.shift
  exact hs.withPair fun _ _ _ h1 => .done h1.setG.setThread

theorem Evolves.execEuShl (hs : Evolves s₀ s) {op} : OutEvolves s₀ (execEuShl op s) :=
  .next (hs.issue fun _ h1 => h1.shift)

theorem Evolves.execEuShr (hs : Evolves s₀ s) {op} : OutEvolves s₀ (execEuShr op s) :=
  .next (hs.issue fun _ h1 => h1.shift)

theorem Evolves.execEuSar (hs : Evolves s₀ s) {op} : OutEvolves s₀ (execEuSar op s) :=
  .next (hs.issue fun _ h1 => h1.shift)

theorem Evolves.execEuRol (hs : Evolves s₀ s) {op} : OutEvolves s₀ (execEuRol op s) :=
  .next (hs.issue fun _ h1 => h1.shift)

theorem Evolves.unary (hs : Evolves s₀ s) {op ok f} (hf : ∀ x0 x1 u, Evolves s₀ u → Evolves s₀ (f x0 x1 u).2) :
    EurEvolves s₀ (s.unary op ok f) :=
  hs.withSrc (.done (hf _ _ _ hs).setG)

theorem Evolves.execEuNeg (hs : Evolves s₀ s) {op} : OutEvolves s₀ (execEuNeg op s) :=
  .next (hs.issue fun _ h1 => h1.unary fun _ _ _ h2 => .ite_snd (.pair h2.drawWord) h2)

theorem Evolves.execEuAbs (hs : Evolves s₀ s) {op} : OutEvolves s₀ (execEuAbs op s) :=
  .next (hs.issue fun _ h1 => h1.unary fun _ _ _ h2 => .pair h2.setV)

theorem Evolves.execEuNot (hs : Evolves s₀ s) {op} : OutEvolves s₀ (execEuNot op s) :=
  .next (hs.issue fun _ h1 => h1.unary fun _ _ _ h2 => .pair h2.setFlags)

theorem Evolves.execEuBswap (hs : Evolves s₀ s) {op} : OutEvolves s₀ (execEuBswap op s) :=
  .next (hs.issue fun _ h1 => h1.unary fun _ _ _ h2 => h2)

theorem Evolves.execEuClz (hs : Evolves s₀ s) {op} : OutEvolves s₀ (execEuClz op s) :=
  .next (hs.issue fun _ h1 => h1.unary fun _ _ _ h2 => h2)

theorem Evolves.execEuMknil (hs : Evolves s₀ s) {op} : OutEvolves s₀ (execEuMknil op s) :=
  .next (hs.issue fun _ h1 => .done h1.setG)

theorem Evolves.execEuCvtf (hs : Evolves s₀ s) {op} : OutEvolves s₀ (execEuCvtf op s) :=
  .next (hs.issue fun _ h1 => h1.unary fun _ _ _ h2 => .pair h2.setV)

theorem Evolves.execEuCvti (hs : Evolves s₀ s) {op} : OutEvolves s₀ (execEuCvti op s) :=
  .next (hs.issue fun _ h1 => h1.unary fun _ _ _ h2 => h2)

theorem Evolves.execEuMov (hs : Evolves s₀ s) {op} : OutEvolves s₀ (execEuMov op s) :=
  .next <|
  hs.issue fun _ h1 =>
    .ite (h1.withSrc (h1.withSrc (.done h1.setG.setG))) (h1.withB fun _ _ h2 => h2.withSrc (.done h2.setG))

theorem Evolves.execEuTagof (hs : Evolves s₀ s) {op} : OutEvolves s₀ (execEuTagof op s) :=
  .next (hs.issue fun _ h1 => .done h1.setG)

theorem Evolves.execEuTageq (hs : Evolves s₀ s) {op} : OutEvolves s₀ (execEuTageq op s) :=
  .next (hs.issue fun _ h1 => .done h1.setP)

theorem Evolves.execEuRetag (hs : Evolves s₀ s) {op} : OutEvolves s₀ (execEuRetag op s) :=
  .next (hs.issue fun _ h1 => h1.withSrc (.done h1.setG))

theorem Evolves.execEuSetp (hs : Evolves s₀ s) {op} : OutEvolves s₀ (execEuSetp op s) :=
  .next (hs.issue fun _ h1 => .done h1.setP)

theorem Evolves.execEuMac (hs : Evolves s₀ s) {op} : OutEvolves s₀ (execEuMac op s) :=
  .next (hs.issue fun _ h1 => h1.withPair fun _ _ _ h2 => .done h2.setThread.setV)

theorem Evolves.execEuMacr (hs : Evolves s₀ s) {op} : OutEvolves s₀ (execEuMacr op s) :=
  .next (hs.issue fun _ h1 => .done (Evolves.setG (.ite h1.drawBool h1)).setThread)

theorem Evolves.execEuClracc (hs : Evolves s₀ s) {op} : OutEvolves s₀ (execEuClracc op s) :=
  .next (hs.issue fun _ h1 => .done h1.setThread)

theorem Evolves.execEuClamp (hs : Evolves s₀ s) {op} : OutEvolves s₀ (execEuClamp op s) :=
  .next (hs.issue fun _ h1 => h1.aluPlain)

/-! ### EurMemory -/

theorem Evolves.execEuLd (hs : Evolves s₀ s) {op} : OutEvolves s₀ (execEuLd op s) :=
  .next <|
  hs.issue fun _ h1 =>
    h1.withAddr fun _ =>
      h1.withWord fun _ _ h2 => .ite (h2.withWord fun _ _ h3 => .done h3.setG.setG) (.done h2.setG)

theorem Evolves.storeAt (hs : Evolves s₀ s) {op a w hit k} (hk : ∀ u, Evolves s₀ u → EurEvolves s₀ (k u)) :
    EurEvolves s₀ (s.storeAt op a w hit k) :=
  .ite (.again hs) (hk _ hs.storeWord')

theorem Evolves.execEuSt (hs : Evolves s₀ s) {op} : OutEvolves s₀ (execEuSt op s) :=
  .next <|
  hs.issue fun _ h1 =>
    .ite (h1.withSrc (h1.withSrc (h1.withAddr fun _ => h1.storeAt fun _ h2 => h2.storeAt fun _ h3 => .done h3))) <|
    h1.withSrc (h1.withAddr fun _ => h1.storeAt fun _ h2 => .done h2)

theorem Evolves.withStack (hs : Evolves s₀ s) {op a k} (hk : ∀ x0, EurEvolves s₀ (k x0)) :
    EurEvolves s₀ (s.withStack op a k) :=
  .ite (.trap hs) (.ite (.trap hs) (hk _))

theorem Evolves.execEuPush (hs : Evolves s₀ s) {op} : OutEvolves s₀ (execEuPush op s) :=
  .next (hs.issue fun _ h1 => h1.withSrc (h1.withStack fun _ => h1.storeAt fun _ h2 => .done h2.setG))

theorem Evolves.execEuPop (hs : Evolves s₀ s) {op} : OutEvolves s₀ (execEuPop op s) :=
  .next (hs.issue fun _ h1 => h1.withStack fun _ => h1.withWord fun _ _ h2 => .done h2.setG.setG)

theorem Evolves.withPacket (hs : Evolves s₀ s) {op n k} (hk : ∀ x0, EurEvolves s₀ (k x0)) :
    EurEvolves s₀ (s.withPacket op n k) :=
  hs.withAddr fun _ => .ite (.trap hs) (.ite (.again hs) (hk _))

theorem Evolves.packetRead (hs : Evolves s₀ s) {op a n} : Evolves s₀ (s.packetRead op a n).2.2 :=
  .triple hs.memRead

theorem Evolves.packetWrite (hs : Evolves s₀ s) {op a n v} : Evolves s₀ (s.packetWrite op a n v).2 :=
  .pair hs.memPartial

theorem Evolves.packetLoad (hs : Evolves s₀ s) {op n} : EurEvolves s₀ (s.packetLoad op n) :=
  hs.withPacket fun _ => .done hs.packetRead.setG

theorem Evolves.packetStore (hs : Evolves s₀ s) {op n} : EurEvolves s₀ (s.packetStore op n) := by
  unfold State.packetStore
  exact hs.withSrc (hs.withPacket fun _ => .ite (.after hs.packetWrite.freeTagged) (.done hs.packetWrite))

theorem Evolves.execEuLdp (hs : Evolves s₀ s) {op} : OutEvolves s₀ (execEuLdp op s) :=
  .next (hs.issue fun _ h1 => h1.packetLoad)

theorem Evolves.execEuStp (hs : Evolves s₀ s) {op} : OutEvolves s₀ (execEuStp op s) :=
  .next (hs.issue fun _ h1 => h1.packetStore)

theorem Evolves.execEuLdph (hs : Evolves s₀ s) {op} : OutEvolves s₀ (execEuLdph op s) :=
  .next (hs.issue fun _ h1 => h1.packetLoad)

theorem Evolves.execEuStph (hs : Evolves s₀ s) {op} : OutEvolves s₀ (execEuStph op s) :=
  .next (hs.issue fun _ h1 => h1.packetStore)

theorem Evolves.withLocked (hs : Evolves s₀ s) {op k} (hk : ∀ x0 x1 u, Evolves s₀ u → EurEvolves s₀ (k x0 x1 u)) :
    EurEvolves s₀ (s.withLocked op k) :=
  hs.withAddr fun _ => hs.withWord fun _ _ h1 => .ite (.trap h1) (hk _ _ _ h1)

theorem Evolves.collided (hs : Evolves s₀ s) {op a} : Evolves s₀ (s.collided op a) :=
  hs.portBMet.setP

theorem Evolves.execEuXchg (hs : Evolves s₀ s) {op} : OutEvolves s₀ (execEuXchg op s) :=
  .next <|
  hs.issue fun _ h1 =>
    h1.withSrc (h1.withLocked fun _ _ _ h2 => .ite (.done h2.collided) (.done h2.storeWord'.setG.setP))

theorem Evolves.execEuXadd (hs : Evolves s₀ s) {op} : OutEvolves s₀ (execEuXadd op s) := by
  unfold Machine.execEuXadd
  dsimp only
  refine .next (hs.issue fun _ h1 => h1.withSrc (h1.withLocked fun _ _ _ h2 => .ite (.trap h2) ?_))
  split
  · exact .trap h2
  · exact .ite (.done h2.collided) (.done h2.storeWord'.setG.setP)

theorem Evolves.execEuCas (hs : Evolves s₀ s) {op} : OutEvolves s₀ (execEuCas op s) :=
  .next <|
  hs.issue fun _ h1 =>
    h1.withSrc <|
    h1.withSrc <|
    h1.withLocked fun _ _ _ h2 => .ite (.done h2.collided) (.done (Evolves.setG (.ite h2.storeWord' h2)).setP)

theorem Evolves.repeatIt (hs : Evolves s₀ s) {one i n first} (hone : ∀ b u, Evolves s₀ u → EurEvolves s₀ (one b u)) :
    EurEvolves s₀ (repeatIt one i n first s) := by
  induction n generalizing s first with
  | zero => exact .done hs
  | succ n ih =>
    have h := hone first s hs
    unfold Machine.repeatIt
    split
    next e =>
      rw [e] at h
      cases h with
      | done h => exact ih h.setG
    next => exact h

theorem Evolves.repeated (hs : Evolves s₀ s) {op one} (hone : ∀ x0 u, Evolves s₀ u → EurEvolves s₀ (one x0 u)) :
    EurEvolves s₀ (s.repeated op one) :=
  .ite (hone _ _ hs) (.ite (.trap hs) (hs.repeatIt fun _ _ h1 => hone _ _ h1))

theorem Evolves.withPointer (hs : Evolves s₀ s) {op n tag has k} (hk : ∀ x0, EurEvolves s₀ (k x0)) :
    EurEvolves s₀ (s.withPointer op n tag has k) :=
  .ite (.trap hs) (.ite (hk _) (.trap hs))

theorem Evolves.movePointer (hs : Evolves s₀ s) {op n tag a} : Evolves s₀ (s.movePointer op n tag a) :=
  hs.setG

theorem Evolves.execEuCopyw (hs : Evolves s₀ s) {op} : OutEvolves s₀ (execEuCopyw op s) :=
  .next <|
  hs.issue fun _ h1 =>
    h1.repeated fun _ _ h2 =>
      h2.withPointer fun _ =>
        h2.withPointer fun _ =>
          h2.withWord fun _ _ h3 => .ite (.trap h3) (h3.storeAt fun _ h4 => .done h4.movePointer.movePointer)

theorem Evolves.execEuFillw (hs : Evolves s₀ s) {op} : OutEvolves s₀ (execEuFillw op s) :=
  .next <|
  hs.issue fun _ h1 =>
    h1.repeated fun _ _ h2 => h2.withPointer fun _ => h2.withSrc (h2.storeAt fun _ h3 => .done h3.movePointer)

theorem Evolves.execEuCopyp (hs : Evolves s₀ s) {op} : OutEvolves s₀ (execEuCopyp op s) :=
  .next <|
  hs.issue fun _ h1 =>
    h1.repeated fun _ _ h2 =>
      h2.withPointer fun _ =>
        h2.withPointer fun _ =>
          .ite (.again h2) <|
          .ite (.trap h2.packetRead) (.done h2.packetRead.packetWrite.movePointer.movePointer)

theorem Evolves.execEuCrc32c (hs : Evolves s₀ s) {op} : OutEvolves s₀ (execEuCrc32c op s) :=
  .next <|
  hs.issue fun _ h1 =>
    h1.repeated fun _ _ h2 =>
      h2.withSrc <|
      h2.withPointer fun _ => .ite (.again h2) (.ite (.trap h2.packetRead) (.done h2.packetRead.setG.movePointer))

/-! ### GrilorLink -/

theorem Evolves.glTo (hs : Evolves s₀ s) {i st} : Evolves s₀ (s.glTo i st) :=
  .ite hs.wr hs.wr

theorem Evolves.gwAdvance (hs : Evolves s₀ s) : Evolves s₀ s.gwAdvance := by
  unfold State.gwAdvance
  dsimp only
  split
  · refine .ite hs (.ite hs.part.failTicket ?_)
    split
    · exact hs.part.stepDone
    · exact hs.part.setTicket.stepDone
    · exact hs.part.stepDone
  · exact hs

theorem Evolves.gwSent (hs : Evolves s₀ s) : Evolves s₀ s.gwSent := by
  unfold State.gwSent
  split
  · exact .ite hs.mark.stepDone.gwAdvance hs
  · exact hs

theorem Evolves.ackTo (hs : Evolves s₀ s) {i a} : Evolves s₀ (s.ackTo i a) :=
  .ite hs (.ite hs.setGlink.gwSent hs.setGlink)

theorem Evolves.ctlSend (hs : Evolves s₀ s) {i nak} : Evolves s₀ (s.ctlSend i nak) :=
  hs.setGlink

theorem Evolves.rosterPut (hs : Evolves s₀ s) {l} : Evolves s₀ (s.rosterPut l) :=
  (hs.each fun _ _ h1 => .ite h1.part h1.odPut).each fun _ _ h1 => h1.stage

theorem Evolves.enumDone (hs : Evolves s₀ s) : Evolves s₀ s.enumDone :=
  (hs.wr.wr.each fun _ _ h1 => h1.event).event

theorem Evolves.enumSend (hs : Evolves s₀ s) {assigned} : Evolves s₀ (s.enumSend assigned) :=
  hs.mark.glSend

theorem Evolves.enumFrom (hs : Evolves s₀ s) {p} : Evolves s₀ (s.enumFrom p) :=
  hs.part.enumSend

theorem Evolves.enumPortEnd (hs : Evolves s₀ s) : Evolves s₀ s.enumPortEnd := by
  unfold State.enumPortEnd
  dsimp only
  split
  · exact hs.enumFrom
  · exact hs.enumDone

theorem Evolves.enumStart (hs : Evolves s₀ s) : Evolves s₀ s.enumStart := by
  unfold State.enumStart
  dsimp only
  refine .ite hs ?_
  split
  · exact hs.part.wr.enumFrom
  · exact hs.part.wr.enumDone

theorem Evolves.enumResp (hs : Evolves s₀ s) {port dev side fixedId} :
    Evolves s₀ (s.enumResp port dev side fixedId) := by
  unfold State.enumResp
  dsimp only
  refine .ite hs (.ite (Evolves.enumPortEnd ?_) (Evolves.part ?_).enumSend)
  · split
    · exact hs.wrIf.part.rosterPut.event
    · exact hs.wrIf.part
  · split
    · exact hs.wrIf.part.rosterPut.event
    · exact hs.wrIf.part

theorem Evolves.rosterReset (hs : Evolves s₀ s) : Evolves s₀ s.rosterReset :=
  .ite hs hs.rosterPut.enumStart

theorem Evolves.glDown (hs : Evolves s₀ s) {i} : Evolves s₀ (s.glDown i) := by
  unfold State.glDown
  refine .ite hs ?_
  extract_lets l s1 s2 _ s3
  have h1 : Evolves s₀ s1 := hs.glTo.setGlink
  have h2 : Evolves s₀ s2 := by
    refine .ite ?_ h1
    split
    · exact .ite h1.failTicket h1
    · exact h1
  have h3 : Evolves s₀ s3 := .ite h2.part (.ite h2.part h2)
  exact .ite h3.enumStart h3

theorem Evolves.glReplay (hs : Evolves s₀ s) {i} : Evolves s₀ (s.glReplay i) :=
  .ite hs (.ite hs.wrIf.glDown hs.wrIf.setGlink)

theorem Evolves.geEnable (hs : Evolves s₀ s) {k en} : Evolves s₀ (s.geEnable k en) :=
  .ite hs.wr hs.wr.glDown

theorem Evolves.handoverCmd (hs : Evolves s₀ s) : Evolves s₀ s.handoverCmd :=
  .ite hs hs.parkAll.glSend.ownDrive.wr

/-! ### Mac -/

theorem Evolves.pauseFrame (hs : Evolves s₀ s) {p b} : Evolves s₀ (s.pauseFrame p b) :=
  .ite hs (.ite hs.pstk.mark.setEg hs.pstk)

theorem Evolves.toLoom (hs : Evolves s₀ s) {p b symErr sfd} : Evolves s₀ (s.toLoom p b symErr sfd) :=
  .ite (Evolves.pstk (.ite hs.pstk hs)) <|
  .ite (.ite hs.pstk hs) <|
  .ite (Evolves.noBuf (.ite hs.pstk hs)) (Evolves.pickCells (.ite hs.pstk hs)).putCells.setFrame.part

theorem Evolves.execMacFrameEnd (hs : Evolves s₀ s) {p b symErr sfd} :
    OutEvolves s₀ (execMacFrameEnd p b symErr sfd s) :=
  .next (.ite hs (.ite hs.pstk (.ite hs.pauseFrame (.ite hs.pstk hs.toLoom))))

theorem Evolves.execFrameTooLong (hs : Evolves s₀ s) {p} : OutEvolves s₀ (execFrameTooLong p s) :=
  .next (.ite hs.pstk hs)

theorem Evolves.execPauseExpiry (hs : Evolves s₀ s) {p} : OutEvolves s₀ (execPauseExpiry p s) :=
  .next (.ite hs.setEg hs)

theorem Evolves.execLinkUp (hs : Evolves s₀ s) {p master level} : OutEvolves s₀ (execLinkUp p master level s) :=
  .next (.ite hs (Evolves.event (.ite hs.wr.wr.wr.wr.wr hs.wr.wr.wr)))

theorem Evolves.linkDown (hs : Evolves s₀ s) {p} : Evolves s₀ (s.linkDown p) :=
  .ite hs (Evolves.interruptWeaver (.ite (hs.wr.wr.pstk.inc.odInc.setEg.each fun _ _ h1 =>
      h1.dropCopy).part.part (hs.wr.wr.pstk.inc.odInc.setEg.each fun _ _ h1 => h1.dropCopy).part)).wrIf.event

theorem Evolves.execLinkDown (hs : Evolves s₀ s) {p} : OutEvolves s₀ (execLinkDown p s) :=
  .next hs.linkDown

theorem Evolves.macMode (hs : Evolves s₀ s) {p mode} : Evolves s₀ (s.macMode p mode) :=
  .ite hs hs.linkDown.wr.wr.wr

theorem Evolves.execMacModeWrite (hs : Evolves s₀ s) {p mode} : OutEvolves s₀ (execMacModeWrite p mode s) :=
  .next hs.macMode

theorem Evolves.execPhyControlWord (hs : Evolves s₀ s) {p slow half} :
    OutEvolves s₀ (execPhyControlWord p slow half s) :=
  .next (.ite hs (Evolves.wr (.ite hs.linkDown hs)).wr.wr)

theorem Evolves.execPstkRead (hs : Evolves s₀ s) {p coincident} : OutEvolves s₀ (execPstkRead p coincident s) :=
  .next hs.wr.wr.part

theorem Evolves.diagStart (hs : Evolves s₀ s) : Evolves s₀ s.diagStart :=
  hs.part.wr

theorem Evolves.execT1lDiagRun (hs : Evolves s₀ s) : OutEvolves s₀ (execT1lDiagRun s) :=
  .next (.ite hs.diagStart hs)

theorem Evolves.execAutoDiag (hs : Evolves s₀ s) : OutEvolves s₀ (execAutoDiag s) :=
  .next (.ite hs.diagStart hs)

theorem Evolves.execT1lDiagComplete (hs : Evolves s₀ s) {result distance} :
    OutEvolves s₀ (execT1lDiagComplete result distance s) :=
  .next (.ite hs (.ite hs.wr.wr.wr.event hs.wr.wr.wr))

/-! ### RegRead -/

theorem Evolves.stateOf (hs : Evolves s₀ s) {o} (ho : OutEvolves s₀ o) : Evolves s₀ (stateOf s o) := by
  cases ho with
  | next h => exact h
  | fault => exact hs
  | refused => exact hs

theorem Evolves.rcClear (hs : Evolves s₀ s) {r i j} : Evolves s₀ (s.rcClear r i j) :=
  hs.each fun _ _ h1 => h1.wr

theorem Evolves.regTake (hs : Evolves s₀ s) {base i} : OptEvolves s₀ id (s.regTake base i) :=
  .ite (.state hs.cntloRead) <|
  .ite (.ite (.state hs.drawWord.part) .none) <|
  .ite (.state (hs.stateOf hs.execRxqRead)) <|
  .ite (.state (hs.stateOf hs.execUartRxRead)) <|
  .ite (.state (hs.stateOf hs.execNqRxpop)) <|
  .ite (.state (hs.stateOf hs.execNqCpop)) <|
  .ite (.state (hs.stateOf hs.execNqAlloc)) <|
  .ite (.state (hs.stateOf hs.execPstkRead)) .none

theorem Evolves.regRead (hs : Evolves s₀ s) {r i j a} : Evolves s₀ (s.regRead r i j a).2 := by
  unfold State.regRead
  dsimp only
  split
  next e => exact hs.regSense.regTake.get e
  next =>
    split
    · exact hs.regSense
    · exact hs.regSense.rcClear

theorem Evolves.linkCarry (hs : Evolves s₀ s) {a crc} : Evolves s₀ (s.linkCarry a crc).2 :=
  .ite_snd hs (.ite_snd (.pair hs.part) (.ite_snd (.pair hs.wrIf.part) (.pair hs.wrIf.part)))

theorem Evolves.expertRead (hs : Evolves s₀ s) {a src crc} : Evolves s₀ (s.expertRead a src crc).2.2 := by
  unfold State.expertRead
  dsimp only
  refine .ite_snd_snd hs <|
    .ite_snd_snd (.triple hs.drawWord) <|
    .ite_snd_snd (.ite_snd_snd (.triple hs.bridgeRead) (.triple hs.bridgeRead)) <|
    .ite_snd_snd (.triple hs.bridgeRead) <|
    .ite_snd_snd hs <|
    .ite_snd_snd (.triple hs.linkCarry) <|
    .ite_snd_snd (.triple hs.linkCarry) <|
    .ite_snd_snd (.triple hs.linkCarry) ?_
  split
  · exact .triple hs.linkCarry
  · exact .triple hs.linkCarry.regRead

/-! ### RegWrite -/

theorem Evolves.fieldStore (hs : Evolves s₀ s) {f v} : Evolves s₀ (s.fieldStore f v) := by
  unfold State.fieldStore
  split
  · exact hs
  · exact hs
  · exact hs
  · exact hs.wr
  · exact .ite hs.wr hs

theorem Evolves.regStore (hs : Evolves s₀ s) {r i j v} : Evolves s₀ (s.regStore r i j v) :=
  hs.each fun _ _ h1 => h1.fieldStore

theorem Evolves.onBit (hs : Evolves s₀ s) {v k f} (hf : ∀ u, Evolves s₀ u → Evolves s₀ (f u)) :
    Evolves s₀ (s.onBit v k f) :=
  .ite (hf _ hs) hs

theorem Evolves.writeSysTime (hs : Evolves s₀ s) {r i v w} : OptEvolves s₀ id (s.writeSysTime r i v w) :=
  .ite (.state (hs.stateOf hs.execShwake)) <|
  .ite (.state (hs.regStore.onBit fun _ h1 => h1.stepCommand.getD h1)) <|
  .ite (.state (hs.onBit fun _ h1 => h1.xtsPop)) <|
  .ite (.state hs.aevWrite) <|
  .ite (.state hs.regStore.reSource) <|
  .ite (.state (hs.onBit fun _ h1 => h1.snap)) <|
  .ite (.state (hs.onBit fun _ h1 => h1.dtCommand.getD h1)) <|
  .ite (.state (.ite hs (.ite hs.domStateWrite
      (.ite hs.domRateLo (.ite hs.domRateWrite
      (.ite hs.domStep (.ite (hs.onBit fun _ h1 => h1.domSet) (.ite hs.beatNow hs.regStore)))))))) <|
  .ite (.state (.ite hs hs.regStore)) <|
  .ite (.state (.ite hs hs.regStore)) <|
  .ite (.state (Evolves.tpoChanged (.ite hs.regStore hs.regStore.wr))) <|
  .ite (.state hs.regStore.tpoChanged) <|
  .ite (.state (.ite hs.regStore.tpoChanged hs)) <|
  .ite (.state (hs.onBit fun _ h1 => h1.tpiPop)) <|
  .ite (.state (.ite hs.regStore hs)) .none

theorem Evolves.writeHeddle (hs : Evolves s₀ s) {r i v w} : OptEvolves s₀ id (s.writeHeddle r i v w) := by
  unfold State.writeHeddle
  extract_lets +onlyGivenNames n u st
  refine .ite (.state (.ite hs ?_)) <|
    .ite (.state (hs.stateOf hs.execHeddleDivWrite)) <|
    .ite (.state (hs.stateOf hs.execRegionWrite)) <|
    .ite (.state (hs.stateOf hs.execSlotmapWrite)) <|
    .ite (.state (hs.stateOf hs.execSlotmapWrite)) <|
    .ite (.state (hs.stateOf hs.execTtargetWrite)) <|
    .ite (.state (hs.stateOf hs.execTxqWrite)) <|
    .ite (.state (hs.stateOf hs.execBypassWrite)) <|
    .ite (.state (((hs.onBit fun _ h1 => h1.stateOf h1.execTxflush).onBit fun _ h1 =>
        h1.stateOf h1.execRxflush).drawBool.stateOf
        ((hs.onBit fun _ h1 => h1.stateOf h1.execTxflush).onBit fun _ h1 =>
        h1.stateOf h1.execRxflush).drawBool.execUartConfigWrite)) <|
    .ite (.state (hs.drawBool.stateOf hs.drawBool.execUartConfigWrite)) <|
    .ite (.state (hs.stateOf hs.execUartTxWrite)) <|
    .ite (.state (.ite hs.regStore hs)) <|
    .ite (.state (.ite hs.regStore hs)) .none
  extract_lets s1 s2 s3 s4
  have h1 : Evolves s₀ s1 := hs.wr.wr
  have h2 : Evolves s₀ s2 := .ite h1 (h1.stateOf h1.execSplitWrite)
  have h3 : Evolves s₀ s3 := h2.onBit fun _ h => h.stateOf h.execFlush
  have h4 : Evolves s₀ s4 := h3.onBit fun _ h => h.stateOf h.execRestart
  exact .ite (h4.stateOf h4.execHeddleEnable) (h4.stateOf h4.execHeddleDisable)

theorem Evolves.bobbinEnable (hs : Evolves s₀ s) {en} : Evolves s₀ (s.bobbinEnable en).2 :=
  .ite_snd (.pair hs.wr) (.ite_snd hs (.ite_snd (.pair hs.wr) hs))

theorem Evolves.writeLoom (hs : Evolves s₀ s) {r i v} : OptEvolves s₀ Prod.snd (s.writeLoom r i v) :=
  .ite (.some (.pair (Evolves.onBit (.ite hs.regStore.wr hs.regStore) fun _ h1 => h1.stateOf h1.execFlushFdb))) <|
  .ite (.some (.ite_snd (.pair hs.regStore) (.pair hs.wr))) <|
  .ite (.some (.ite (hs.stateOf hs.execFdbLookup)
      (.ite (hs.stateOf hs.execFdbInsert) (.ite (hs.stateOf hs.execFdbDelete) hs)))) <|
  .ite (.some (.pair hs.part)) <|
  .ite (.some (.pair (hs.stateOf hs.execNqFree))) <|
  .ite (.some (.pair (hs.stateOf hs.execNqTx))) <|
  .ite (.some (.pair (hs.regStore.onBit fun _ h1 => h1.stateOf h1.execTgSwap))) <|
  .ite (.some (.pair (hs.regStore.onBit fun _ h1 => h1.stateOf h1.execAgSwap))) <|
  .ite (.some hs.wr.bobbinEnable) <|
  .ite (.some (.ite_snd hs (.pair hs.regStore))) <|
  .ite (.some (.ite_snd hs (.ite_snd (.pair hs.regStore) hs))) <|
  .ite (.some (.pair hs.regStore.wr.part)) <|
  .ite (.some (.pair (hs.each fun _ _ h1 => h1.fieldStore).macMode)) <|
  .ite (.some (.pair hs.regStore.wr)) <|
  .ite (.some (.pair (hs.onBit fun _ h1 => h1.stateOf h1.execT1lDiagRun))) .none

theorem Evolves.writeCanCtrl (hs : Evolves s₀ s) {r n v w} : Evolves s₀ (s.writeCanCtrl r n v w) :=
  (((Evolves.onBit (.ite ((hs.each fun _ _ h1 => h1.fieldStore).each fun _ _ h1 =>
      h1.wr) (.ite (hs.each fun _ _ h1 => h1.fieldStore).cnRefuse (hs.each fun _ _ h1 => h1.fieldStore))) fun _ h1 =>
      h1.stateOf h1.execCanStart).onBit fun _ h1 => h1.stateOf h1.execCanStop).onBit fun _ h1 =>
      h1.stateOf h1.execCanRecover).onBit fun _ h1 => h1.stateOf h1.execCanSleep

theorem Evolves.writeMoCtl (hs : Evolves s₀ s) {r n k v} : Evolves s₀ (s.writeMoCtl r n k v) :=
  (hs.regStore.onBit fun _ h1 => h1.stateOf h1.execTxcancel).onBit fun _ h1 => h1.stateOf h1.execTxset

theorem Evolves.writeCan (hs : Evolves s₀ s) {r i j v w} : OptEvolves s₀ id (s.writeCan r i j v w) :=
  .ite (.state hs.writeCanCtrl) <|
  .ite (.state (.ite hs.regStore hs.cnRefuse)) <|
  .ite (.state (hs.stateOf hs.execMoConfigWrite)) <|
  .ite (.state (hs.stateOf hs.execMoConfigWrite)) <|
  .ite (.state hs.writeMoCtl) <|
  .ite (.state (.ite hs.regStore hs)) .none

theorem Evolves.writeStage (hs : Evolves s₀ s) {r i v} : OptEvolves s₀ id (s.writeStage r i v) :=
  .ite (.state ((((hs.onBit fun _ h1 => h1.grPark).onBit fun _ h1 => h1.grRamp).onBit fun _ h1 =>
      h1.grClear).onBit fun _ h1 => h1.grTryStart)) <|
  .ite (.state (hs.stateOf hs.execDutyWrite)) <|
  .ite (.state (hs.onBit fun _ h1 => h1.wakePcp)) <|
  .ite (.state (hs.onBit fun _ h1 => h1.stateOf h1.execSeqGo)) <|
  .ite (.state hs.regStore.fanDemandChange) <|
  .ite (.state (hs.onBit fun _ h1 => h1.fanClear)) <|
  .ite (.state (hs.stateOf hs.execFanDutyWrite)) <|
  .ite (.state (hs.onBit fun _ h1 => h1.guardAck)) <|
  .ite (.state (((hs.onBit fun _ h1 => h1.rtcSet).onBit fun _ h1 => h1.summer).onBit fun _ h1 => h1.summer)) <|
  .ite (.state (hs.offsetWrite.getD hs)) <|
  .ite (.state hs.alarmLo) <|
  .ite (.state hs.alarmHi) <|
  .ite (.state hs.periodWrite) <|
  .ite (.state hs.geEnable) <|
  .ite (.state (hs.onBit fun _ h1 => .ite h1.handoverCmd h1)) .none

theorem Evolves.regWrite (hs : Evolves s₀ s) {r i j v w} : Evolves s₀ (s.regWrite r i j v w).2 :=
  .ite_snd hs <|
  .ite_snd hs.sdcmdWrite <|
  .ite_snd (hs.writeSysTime.map.getD_snd (.pair hs.regStore)) <|
  .ite_snd (hs.writeLoom.getD_snd (.pair hs.regStore)) <|
  .ite_snd (hs.writeCan.map.getD_snd (.pair hs.regStore)) <|
  .ite_snd (hs.writeHeddle.map.getD_snd (.pair hs.regStore)) (hs.writeStage.map.getD_snd (.pair hs.regStore))

theorem Evolves.rawTake (hs : Evolves s₀ s) {k v} : Evolves s₀ (s.rawTake k v) := by
  unfold State.rawTake
  split
  · exact hs
  · exact hs.each fun _ _ h1 => h1.fieldStore

theorem Evolves.jStage (hs : Evolves s₀ s) {before r i a} : Evolves s₀ (s.jStage before r i a) :=
  hs.each fun _ _ h1 => h1.stage

theorem Evolves.regWriteJ (hs : Evolves s₀ s) {r i j a v w} : Evolves s₀ (s.regWriteJ r i j a v w).2 :=
  .ite_snd (.pair hs.regWrite.jStage) hs.regWrite

theorem Evolves.expertWrite (hs : Evolves s₀ s) {a v w src crc} : Evolves s₀ (s.expertWrite a v w src crc).2 := by
  have hl : Evolves s₀ (s.linkCarry a crc).2 := hs.linkCarry
  unfold State.expertWrite
  dsimp only
  refine .ite_snd hs (.ite_snd hs (.ite_snd hs.bridgeWrite
        (.ite_snd (.ite_snd hs.bridgeWrite (.ite_snd hs hs.bridgeWrite))
    (.ite_snd hs (.ite_snd hl (.ite_snd (hl.stateOf hl.execProgramWordWrite) ?_))))))
  split
  · exact hl
  · exact hl.regWriteJ

theorem Evolves.execRegisterWrite (hs : Evolves s₀ s) {a v w} : OutEvolves s₀ (execRegisterWrite a v w s) :=
  .next (.ite hs.expertWrite.answer hs)

theorem Evolves.execRcRegisterRead (hs : Evolves s₀ s) {a} : OutEvolves s₀ (execRcRegisterRead a s) :=
  .next (.ite hs.expertRead.answer.part hs)

theorem Evolves.execCompanionRegisterAccess (hs : Evolves s₀ s) {a v w crc} :
    OutEvolves s₀ (execCompanionRegisterAccess a v w crc s) := by
  unfold Machine.execCompanionRegisterAccess
  dsimp only
  split
  · exact .next (.ite hs.expertRead.answer.part hs)
  · exact .next (.ite hs.expertWrite.answer hs)

/-! ### EurSystem -/

theorem Evolves.execEuNop (hs : Evolves s₀ s) {op} : OutEvolves s₀ (execEuNop op s) :=
  .next (hs.issue fun _ h1 => .done h1)

theorem Evolves.execEuHalt (hs : Evolves s₀ s) {op} : OutEvolves s₀ (execEuHalt op s) :=
  .next (hs.issue fun _ h1 => .done h1.setThread)

theorem Evolves.execEuRet (hs : Evolves s₀ s) {op} : OutEvolves s₀ (execEuRet op s) :=
  .next (hs.issue fun _ h1 => h1.withSrc (.jump h1))

theorem Evolves.execEuWait (hs : Evolves s₀ s) {op} : OutEvolves s₀ (execEuWait op s) :=
  .next (hs.issue fun _ h1 => .done (.ite h1.setThread h1.setThread))

theorem Evolves.execEuRtt (hs : Evolves s₀ s) {op} : OutEvolves s₀ (execEuRtt op s) :=
  .next (hs.issue fun _ h1 => .jump h1.setThread)

theorem Evolves.branch (hs : Evolves s₀ s) {d op} : EurEvolves s₀ (s.branch d op) :=
  .ite (hs.withSrc (.jump hs)) (.jump hs)

theorem Evolves.execEuB (hs : Evolves s₀ s) {op} : OutEvolves s₀ (execEuB op s) :=
  .next (hs.issue fun _ h1 => .ite h1.branch (.done h1))

theorem Evolves.execEuCall (hs : Evolves s₀ s) {op} : OutEvolves s₀ (execEuCall op s) := by
  unfold Machine.execEuCall
  refine .next (hs.issue fun u h1 => ?_)
  have h := h1.branch (d := { form := .s, modes := [.reg, .i16, .i32] }) (op := op)
  split
  next e =>
    rw [e] at h
    cases h with
    | jump h => exact .jump h.setG
  next => exact h

theorem Evolves.execEuLoop (hs : Evolves s₀ s) {op} : OutEvolves s₀ (execEuLoop op s) :=
  .next (hs.issue fun _ h1 => h1.withSrc (.ite (.done h1.setG) h1.setG.branch))

theorem Evolves.execEuBnil (hs : Evolves s₀ s) {op} : OutEvolves s₀ (execEuBnil op s) :=
  .next (hs.issue fun _ h1 => .ite h1.branch (.done h1))

theorem Evolves.execEuSwt (hs : Evolves s₀ s) {op} : OutEvolves s₀ (execEuSwt op s) :=
  .next (hs.issue fun _ h1 => .after h1)

theorem Evolves.execEuLdang (hs : Evolves s₀ s) {op} : OutEvolves s₀ (execEuLdang op s) :=
  .next (hs.issue fun _ h1 => .done h1.setG)

theorem Evolves.execEuLdtime (hs : Evolves s₀ s) {op} : OutEvolves s₀ (execEuLdtime op s) :=
  .next (hs.issue fun _ h1 => .done h1.setG)

theorem Evolves.execEuWaituntil (hs : Evolves s₀ s) {op} : OutEvolves s₀ (execEuWaituntil op s) :=
  .next (hs.issue fun _ h1 => h1.withSrc (.done (.ite h1 h1.setThread)))

theorem Evolves.execWaituntilReached (hs : Evolves s₀ s) {i} : OutEvolves s₀ (execWaituntilReached i s) := by
  unfold Machine.execWaituntilReached
  dsimp only
  refine .next ?_
  split
  · exact .ite hs.setThread hs
  · exact hs

theorem Evolves.execEuMfsr (hs : Evolves s₀ s) {op} : OutEvolves s₀ (execEuMfsr op s) :=
  .next (hs.issue fun _ h1 => .done h1.setG)

theorem Evolves.execEuMtsr (hs : Evolves s₀ s) {op} : OutEvolves s₀ (execEuMtsr op s) :=
  .next (hs.issue fun _ h1 => h1.withSrc (.ite (.trap h1) (.done h1.setThread)))

theorem Evolves.withIo (hs : Evolves s₀ s) {op k} (hk : ∀ x0 x1, EurEvolves s₀ (k x0 x1)) :
    EurEvolves s₀ (s.withIo op k) := by
  unfold State.withIo
  dsimp only
  refine hs.withSrc ?_
  split
  · exact .ite (hk _ _) (.trap hs)
  · exact .trap hs

theorem Evolves.execEuIold (hs : Evolves s₀ s) {op} : OutEvolves s₀ (execEuIold op s) :=
  .next (hs.issue fun _ h1 => h1.withIo fun _ _ => .ite (.trap h1.expertRead) (.done h1.expertRead.setG))

theorem Evolves.execEuIost (hs : Evolves s₀ s) {op} : OutEvolves s₀ (execEuIost op s) :=
  .next <|
  hs.issue fun _ h1 =>
    h1.withSrc (h1.withSrc (h1.withSrc (h1.withIo fun _ _ => .ite (.trap h1.expertWrite) (.done h1.expertWrite))))

/-! ### LargeSend -/

theorem Evolves.buildSegments (hs : Evolves s₀ s) {slot q kind mss n t d k i} :
    Evolves s₀ (s.buildSegments slot q kind mss n t d k i).2 := by
  induction k generalizing s i with
  | zero => exact hs
  | succ k ih => exact ih hs.pickCells.setFrame.putCells

theorem Evolves.largeBuild (hs : Evolves s₀ s) {i} : Evolves s₀ (s.largeBuild i) := by
  unfold State.largeBuild
  dsimp only
  split
  · exact hs.failTicket
  · exact .ite hs.failTicket (.ite hs.failTicket (.ite hs.failTicket hs.buildSegments.part.setTicket.stepDone))

theorem Evolves.largeQueue (hs : Evolves s₀ s) {i} : Evolves s₀ (s.largeQueue i) := by
  unfold State.largeQueue
  dsimp only
  refine (hs.each fun _ _ h1 => ?_).stepDone
  split
  · exact h1.sendFrame
  · exact h1

theorem Evolves.largeSent (hs : Evolves s₀ s) {i} : Evolves s₀ (s.largeSent i) :=
  .ite hs hs.stepDone

theorem Evolves.stepLarge (hs : Evolves s₀ s) {i} : Evolves s₀ (s.stepLarge i) :=
  .ite hs.largeBuild (.ite hs.largeQueue hs.largeSent)

theorem Evolves.largeSettle (hs : Evolves s₀ s) {i} : Evolves s₀ (s.largeSettle i) :=
  .ite hs (hs.each fun _ _ h1 => h1.setFrame.release)

/-! ### TicketAccess -/

theorem Evolves.resultRead (hs : Evolves s₀ s) {c h} : Evolves s₀ (s.resultRead c h).2 := by
  unfold State.resultRead
  dsimp only
  split
  · exact hs
  · exact .ite_snd hs (.pair hs.setTicket)

theorem Evolves.resultConsume (hs : Evolves s₀ s) {c h} : Evolves s₀ (s.resultConsume c h).2 := by
  unfold State.resultConsume
  dsimp only
  split
  · exact .ite_snd (.pair hs.resultRead.retireTicket) hs.resultRead
  · exact hs.resultRead

theorem Evolves.retireAt (hs : Evolves s₀ s) {i} : Evolves s₀ (s.retireAt i).2 :=
  .ite_snd (.pair hs.retireTicket) hs

theorem Evolves.retire (hs : Evolves s₀ s) {c h} : Evolves s₀ (s.retire c h).2 := by
  unfold State.retire
  split
  · exact hs
  · exact hs.retireAt

theorem Evolves.retireBy (hs : Evolves s₀ s) {c h} : Evolves s₀ (s.retireBy c h).2 :=
  .ite_snd hs.retireAt hs.retire

theorem Evolves.settle (hs : Evolves s₀ s) {i} : Evolves s₀ (s.settle i) :=
  hs.imageSettle.largeSettle

theorem Evolves.abortQueued (hs : Evolves s₀ s) {i} : Evolves s₀ (s.abortQueued i).2 :=
  .ite_snd (.pair hs.part.setTicket.finish.settle) <|
  .ite_snd (.pair hs.setTicket) <|
  .ite_snd (.ite_snd hs (.pair hs.setTicket.finish)) (.pair hs.finish.settle)

theorem Evolves.abortBy (hs : Evolves s₀ s) {c h} : Evolves s₀ (s.abortBy c h).2 := by
  unfold State.abortBy
  dsimp only
  split
  · exact hs
  · exact .ite_snd hs.abortQueued (.ite_snd (.pair hs.setTicket) hs)

/-! ### OdApply -/

theorem Evolves.clearMask (hs : Evolves s₀ s) {l mask} : Evolves s₀ (s.clearMask l mask) :=
  hs.each fun _ _ h1 => h1.wrIf

theorem Evolves.eachBit (hs : Evolves s₀ s) {n mask f} (hf : ∀ u x1, Evolves s₀ u → Evolves s₀ (f u x1)) :
    Evolves s₀ (s.eachBit n mask f) :=
  hs.each fun _ _ h1 => hf _ _ h1

theorem Evolves.ctxApply (hs : Evolves s₀ s) {k sub v} : Evolves s₀ (s.ctxApply k sub v) :=
  hs.setCtx

theorem Evolves.act2 (hs : Evolves s₀ s) {c i sub v} : Evolves s₀ (s.act2 c i sub v) :=
  .ite (.ite hs.sdCommand hs) <|
  .ite (.ite hs.clearMask hs) <|
  .ite hs.ctxApply <|
  .ite hs.retireBy <|
  .ite hs.abortBy <|
  .ite hs.unlock <|
  .ite (.ite hs.relockCtx hs) hs

theorem Evolves.act3 (hs : Evolves s₀ s) {i sub n} : Evolves s₀ (s.act3 i sub n) :=
  .ite (.ite hs.wr hs) <|
  .ite (.ite (hs.stepCommand.getD hs) hs) <|
  .ite (.ite hs.aevWrite (.ite hs.aevWrite hs.aevWrite)) <|
  .ite (.ite (Evolves.reSource (.ite hs.wr hs)) (.ite hs.wr hs)) <|
  .ite (.ite (hs.dtCommand.getD hs) hs) hs

theorem Evolves.thresholds (hs : Evolves s₀ s) {n} : Evolves s₀ (s.thresholds n) :=
  hs.wr.wr

theorem Evolves.groupApply (hs : Evolves s₀ s) {g sub n} : Evolves s₀ (s.groupApply g sub n) :=
  .ite hs.wr (.ite hs.wr (.ite hs.wr (.ite hs.wr (.ite (.ite hs.wr hs.wr.wr) hs))))

theorem Evolves.unitBit (hs : Evolves s₀ s) {f k n} : Evolves s₀ (s.unitBit f k n) :=
  hs.wrBit

theorem Evolves.act4 (hs : Evolves s₀ s) {i sub v} : Evolves s₀ (s.act4 i sub v) :=
  .ite (.ite (.ite (hs.each fun _ _ h1 => h1.grTryStart) hs) (.ite (hs.eachBit fun _ _ h1 =>
      h1.grClear) (.ite (hs.eachBit fun _ _ h1 => h1.grPark) (.ite (hs.eachBit fun _ _ h1 => h1.grRamp) hs)))) <|
  .ite hs.groupApply <|
  .ite (.ite (.ite hs.grTryStart hs.grRamp) hs) <|
  .ite hs.setGr <|
  .ite (.ite (Evolves.thresholds (.ite hs.unitBit (.ite hs.unitBit hs))) (.ite hs.unitBit (.ite hs.unitBit hs))) <|
  .ite hs.wr.wr <|
  .ite hs.wr <|
  .ite (.ite hs.wr.wr hs) <|
  .ite (.ite hs.wr.wr (.ite hs.wr hs)) hs

theorem Evolves.act5 (hs : Evolves s₀ s) {i sub n} : Evolves s₀ (s.act5 i sub n) :=
  .ite (.ite hs.guardAck hs) <|
  .ite (Evolves.fanDemandChange (.ite hs.wr hs)) <|
  .ite hs.fanDemandChange <|
  .ite (.ite hs.fanClear hs) hs

theorem Evolves.tableApply (hs : Evolves s₀ s) {group old new} : Evolves s₀ (s.tableApply group old new) := by
  unfold State.tableApply
  dsimp only
  split
  · refine Evolves.fdbPut ?_
    split
    · exact hs.fdbDrop
    · exact hs
  · split
    · exact hs.fdbDrop
    · exact hs

theorem Evolves.vlanApply (hs : Evolves s₀ s) {old new} : Evolves s₀ (s.vlanApply old new) :=
  .ite (.ite hs hs.part) (Evolves.part (.ite hs hs.part))

theorem Evolves.tgateApply (hs : Evolves s₀ s) {p b} : Evolves s₀ (s.tgateApply p b) :=
  .ite (hs.wr.wr.wr.wr.fieldStore.each fun _ _ h1 => h1.wr.wr).wr <|
  (hs.wr.wr.wr.wr.fieldStore.each fun _ _ h1 => h1.wr.wr).wr.stateOf (hs.wr.wr.wr.wr.fieldStore.each fun _ _ h1 =>
      h1.wr.wr).wr.execTgSwap

theorem Evolves.agateApply (hs : Evolves s₀ s) {p b} : Evolves s₀ (s.agateApply p b) :=
  .ite (hs.wr.wr.fieldStore.each fun _ _ h1 => h1.wr.wr).wr <|
  (hs.wr.wr.fieldStore.each fun _ _ h1 => h1.wr.wr).wr.stateOf (hs.wr.wr.fieldStore.each fun _ _ h1 =>
      h1.wr.wr).wr.execAgSwap

theorem Evolves.weightsApply (hs : Evolves s₀ s) {p n} : Evolves s₀ (s.weightsApply p n) :=
  hs.each fun _ _ h1 => h1.fieldStore

theorem Evolves.act6 (hs : Evolves s₀ s) {i sub old v} : Evolves s₀ (s.act6 i sub old v) :=
  .ite (.ite hs.weightsApply hs) <|
  .ite hs.tableApply <|
  .ite hs.vlanApply <|
  .ite hs.tableApply <|
  .ite hs.tgateApply <|
  .ite hs.agateApply <|
  .ite (.ite hs.wr hs) <|
  .ite (.ite hs.wr.wr (.ite hs.wr.wr hs)) <|
  .ite (.ite hs.wr hs) <|
  .ite (.ite hs.diagStart hs) <|
  .ite (.ite hs.clearMask (.ite hs.wr.wr.wr.copyWake (.ite hs.wr.wr.copyWake (.ite hs.copyWake hs)))) hs

theorem Evolves.act8 (hs : Evolves s₀ s) {i sub v} : Evolves s₀ (s.act8 i sub v) :=
  .ite hs.rtcSetTo <|
  .ite (.ite (hs.offsetWrite.getD hs) (.ite hs.summer hs)) <|
  .ite (.ite hs.alarmLo hs.alarmHi) <|
  .ite hs.periodWrite <|
  .ite hs.clearMask hs

theorem Evolves.act9 (hs : Evolves s₀ s) {i sub n} : Evolves s₀ (s.act9 i sub n) :=
  .ite (.ite hs.enumStart hs) <|
  .ite (.ite hs.rosterReset hs) <|
  .ite (.ite hs.geEnable hs) <|
  .ite (.ite hs.handoverCmd hs) hs

theorem Evolves.windowApply (hs : Evolves s₀ s) {c sub n} : Evolves s₀ (s.windowApply c sub n) :=
  hs.setCtx

theorem Evolves.homeStore (hs : Evolves s₀ s) {i sub m v} : Evolves s₀ (s.homeStore i sub m v) := by
  unfold State.homeStore
  dsimp only
  refine .ite (.ite hs.macMode (.ite hs.bobbinEnable (.ite hs.wr hs))) ?_
  split
  · exact .ite hs hs.odPut.part
  · exact hs.wr
  · exact hs.wr
  · exact hs

theorem Evolves.odApply (hs : Evolves s₀ s) {c key v0} : Evolves s₀ (s.odApply c key v0) := by
  unfold State.odApply
  dsimp only
  split
  · exact hs
  · exact .ite hs.homeStore <|
      .ite hs.homeStore.act2 <|
      .ite hs.homeStore.tpoChanged <|
      .ite hs.homeStore.act3 <|
      .ite hs.homeStore.act4 <|
      .ite hs.homeStore.act5 <|
      .ite hs.homeStore.act6 <|
      .ite (.ite hs.homeStore.clearMask hs.homeStore) <|
      .ite hs.homeStore <|
      .ite hs.homeStore.act8 <|
      .ite hs.homeStore.act9 <|
      .ite hs.homeStore.windowApply hs.homeStore

/-! ### OdServer -/

theorem Evolves.hostAnswer (hs : Evolves s₀ s) {status rdata} : Evolves s₀ (s.hostAnswer status rdata) :=
  hs.part

theorem Evolves.odReply (hs : Evolves s₀ s) {c code v h side} : Evolves s₀ (s.odReply c code v h side) :=
  .ite hs.odAnswer.hostAnswer hs.odAnswer

theorem Evolves.serve (hs : Evolves s₀ s) {c f} (hf : ∀ u, Evolves s₀ u → Evolves s₀ (f u)) :
    Evolves s₀ (s.serve c f) :=
  .ite hs.hostAnswer (.ite hs (hf _ hs))

theorem Evolves.takeToken (hs : Evolves s₀ s) {c} : Evolves s₀ (s.takeToken c).2 :=
  .ite_snd hs (.ite_snd (.pair hs.setCtx) (.pair hs.setCtx))

theorem Evolves.refuseOd (hs : Evolves s₀ s) {c code side} : Evolves s₀ (s.refuseOd c code side) :=
  hs.setCtx.odReply

theorem Evolves.accessOpen (hs : Evolves s₀ s) {c ticket} : Evolves s₀ (s.accessOpen c ticket).2 :=
  .ite_snd hs (.pair hs.takeToken)

theorem Evolves.admitFor (hs : Evolves s₀ s) {c t fails} : Evolves s₀ (s.admitFor c t fails) := by
  unfold State.admitFor
  refine .ite hs.part.refuseOd ?_
  split
  next => exact hs.part.refuseOd
  next e =>
    have h : Evolves s₀ _ := hs.admitTicket.get e
    exact .ite (.ite h h.odReply) (.ite h.failTicket h.failTicket.odReply)

theorem Evolves.windowData (hs : Evolves s₀ s) {c a w crc} : Evolves s₀ (s.windowData c a w crc).2.2 := by
  unfold State.windowData
  dsimp only
  refine (Evolves.setCtx ?_).touchUnlock
  split
  · exact hs.expertRead
  · exact .triple hs.expertWrite

theorem Evolves.refuseData (hs : Evolves s₀ s) {c code} : Evolves s₀ (s.refuseData c code) :=
  hs.setCtx.refuseOd

theorem Evolves.poisonFound (hs : Evolves s₀ s) {key m} : Evolves s₀ (s.poisonFound key m) :=
  .ite hs.part hs.odApply.part

theorem Evolves.odFetch (hs : Evolves s₀ s) {c i sub found addr} : Evolves s₀ (s.odFetch c i sub found addr).2.2 := by
  unfold State.odFetch
  dsimp only
  split
  · exact hs
  · exact .ite_snd_snd hs <|
      .ite_snd_snd (.triple hs.poisonFound) <|
      .ite_snd_snd (.ite_snd_snd (.triple hs.drawWord.windowData) (.triple hs.drawWord.windowData)) <|
      .ite hs.odTake.touchUnlock hs.odTake

theorem Evolves.odRead (hs : Evolves s₀ s) {c i sub found} : Evolves s₀ (s.odRead c i sub found) :=
  hs.serve fun _ h1 =>
    .ite h1.accessOpen.refuseOd <|
    .ite h1.accessOpen.refuseOd <|
    .ite h1.accessOpen.refuseData <|
    .ite h1.accessOpen.odFetch.odReply h1.accessOpen.odFetch.odReply

theorem Evolves.captureReads (hs : Evolves s₀ s) {order keys} : Evolves s₀ (s.captureReads order keys) :=
  hs.each fun _ _ h1 => .ite h1 h1.setTicket

theorem Evolves.touchExpert (hs : Evolves s₀ s) {c keys} : Evolves s₀ (s.touchExpert c keys) :=
  .ite hs.touchUnlock hs

theorem Evolves.refusedWrite (hs : Evolves s₀ s) {c e code} : Evolves s₀ (s.refusedWrite c e code) :=
  .ite (Evolves.refuseData (.ite hs.summer (.ite hs.unlock hs))) <|
  Evolves.refuseOd <|
  .ite hs.summer <|
  .ite hs.unlock hs

theorem Evolves.writeNow (hs : Evolves s₀ s) {c key v} : Evolves s₀ (s.writeNow c key v) :=
  .ite hs.retireBy.odReply <|
  .ite hs.abortBy.odReply <|
  .ite hs.drawWord.windowData.odReply hs.captureReads.odApply.mirrorRw.odReply

theorem Evolves.odWrite (hs : Evolves s₀ s) {c l multi bad} : Evolves s₀ (s.odWrite c l multi bad) := by
  unfold State.odWrite
  dsimp only
  refine hs.serve fun _ h1 => .ite h1.accessOpen.refuseOd ?_
  split
  · exact h1.accessOpen.refusedWrite
  · refine .ite ?_ ?_
    · split
      · exact h1.accessOpen.touchExpert.admitFor
      · exact h1.accessOpen.touchExpert.admitFor
    · split
      · exact h1.accessOpen.touchExpert.writeNow
      · exact h1.accessOpen.touchExpert

theorem Evolves.odReadMulti (hs : Evolves s₀ s) {c keys rows} : Evolves s₀ (s.odReadMulti c keys rows) :=
  hs.serve fun _ h1 => .ite h1.accessOpen.refuseOd (.ite h1.accessOpen.refuseOd h1.accessOpen.touchExpert.admitFor)

theorem Evolves.execOdRead (hs : Evolves s₀ s) {c i sub found} : OutEvolves s₀ (execOdRead c i sub found s) :=
  .next hs.odRead

theorem Evolves.execOdWrite (hs : Evolves s₀ s) {c i sub v} : OutEvolves s₀ (execOdWrite c i sub v s) :=
  .next hs.odWrite

theorem Evolves.execMultiRead (hs : Evolves s₀ s) {c l} : OutEvolves s₀ (execMultiRead c l s) :=
  .next hs.odReadMulti

theorem Evolves.execMultiWrite (hs : Evolves s₀ s) {c l} : OutEvolves s₀ (execMultiWrite c l s) :=
  .next hs.odWrite

theorem Evolves.execExpertUnlock (hs : Evolves s₀ s) {c key} : OutEvolves s₀ (execExpertUnlock c key s) :=
  .next hs.odWrite

theorem Evolves.execUnlockBlockEnd (hs : Evolves s₀ s) : OutEvolves s₀ (execUnlockBlockEnd s) :=
  .next (.ite hs.part hs)

theorem Evolves.execExpertUnlockExpiry (hs : Evolves s₀ s) {c} : OutEvolves s₀ (execExpertUnlockExpiry c s) :=
  .next (.ite hs (.ite hs.relockCtx.intBit hs.relockCtx))

theorem Evolves.execExpertRelock (hs : Evolves s₀ s) {c} : OutEvolves s₀ (execExpertRelock c s) :=
  .next hs.odWrite

theorem Evolves.execExpertWindowData (hs : Evolves s₀ s) {c v crc} : OutEvolves s₀ (execExpertWindowData c v crc s) :=
  .next <|
  hs.serve fun _ h1 =>
    .ite h1.accessOpen.refuseOd <|
    .ite h1.accessOpen.refuseOd <|
    .ite h1.accessOpen.refuseData h1.accessOpen.windowData.odReply

theorem Evolves.execConfigLock (hs : Evolves s₀ s) {c v} : OutEvolves s₀ (execConfigLock c v s) :=
  .next hs.odWrite

theorem Evolves.execRestoreDefaults (hs : Evolves s₀ s) {c mask} : OutEvolves s₀ (execRestoreDefaults c mask s) :=
  .next hs.odWrite

theorem Evolves.execLoad (hs : Evolves s₀ s) {c slot src} : OutEvolves s₀ (execLoad c slot src s) :=
  .next hs.odWrite

theorem Evolves.execUnload (hs : Evolves s₀ s) {c slot} : OutEvolves s₀ (execUnload c slot s) :=
  .next hs.odWrite

theorem Evolves.execStore (hs : Evolves s₀ s) {c store} : OutEvolves s₀ (execStore c store s) :=
  .next hs.odWrite

theorem Evolves.execTable (hs : Evolves s₀ s) {c set value} : OutEvolves s₀ (execTable c set value s) :=
  .next hs.odWrite

theorem Evolves.execFuseProgram (hs : Evolves s₀ s) {c word mask} : OutEvolves s₀ (execFuseProgram c word mask s) :=
  .next hs.odWrite

theorem Evolves.execFullNow (hs : Evolves s₀ s) {c} : OutEvolves s₀ (execFullNow c s) :=
  .next hs.odWrite

theorem Evolves.execVerify (hs : Evolves s₀ s) {c} : OutEvolves s₀ (execVerify c s) :=
  .next hs.odWrite

theorem Evolves.execClearFailing (hs : Evolves s₀ s) {c} : OutEvolves s₀ (execClearFailing c s) :=
  .next hs.odWrite

theorem Evolves.execCardingRun (hs : Evolves s₀ s) {c mask algo bgs destructive} :
    OutEvolves s₀ (execCardingRun c mask algo bgs destructive s) :=
  .next hs.odWrite

theorem Evolves.execLargeSend (hs : Evolves s₀ s) {c h kind hdr payload mss ctl} :
    OutEvolves s₀ (execLargeSend c h kind hdr payload mss ctl s) :=
  .next hs.odWrite

theorem Evolves.execFanBaselineRun (hs : Evolves s₀ s) {c} : OutEvolves s₀ (execFanBaselineRun c s) :=
  .next hs.odWrite

theorem Evolves.execGateway (hs : Evolves s₀ s) {c w ref op tag v} : OutEvolves s₀ (execGateway c w ref op tag v s) :=
  .next hs.odWrite

theorem Evolves.execSessionOpen (hs : Evolves s₀ s) {k reach profile} :
    OutEvolves s₀ (execSessionOpen k reach profile s) := by
  unfold Machine.execSessionOpen
  dsimp only
  refine .next (.ite hs ?_)
  split
  · exact .ite hs.odInc hs.setCtx.setSlot
  · exact hs.odInc

theorem Evolves.execSessionClose (hs : Evolves s₀ s) {c} : OutEvolves s₀ (execSessionClose c s) :=
  .next hs.closeSession

theorem Evolves.execDrainTimeout (hs : Evolves s₀ s) {c} : OutEvolves s₀ (execDrainTimeout c s) :=
  .next (.ite hs (hs.each fun _ _ h1 => Evolves.retireSlot (.ite h1 h1.finish.settle)).freeCtx)

/-! ### Journal -/

theorem Evolves.journalNote (hs : Evolves s₀ s) {before} : Evolves s₀ (s.journalNote before) :=
  .ite hs hs.intBit

theorem Evolves.fullSync (hs : Evolves s₀ s) : Evolves s₀ s.fullSync := by
  unfold State.fullSync
  dsimp only
  split
  · exact hs
  · exact .ite hs.part (.ite hs.stepDone hs)

theorem Evolves.fullFails (hs : Evolves s₀ s) : Evolves s₀ s.fullFails := by
  unfold State.fullFails
  dsimp only
  split
  · exact hs
  · exact .ite hs.part.failTicket hs.part

theorem Evolves.copyStart (hs : Evolves s₀ s) : Evolves s₀ s.copyStart :=
  hs.setBolt.part

theorem Evolves.fullStart (hs : Evolves s₀ s) : Evolves s₀ s.fullStart :=
  .ite hs (.ite hs.copyStart hs.part)

theorem Evolves.fullCheck (hs : Evolves s₀ s) : Evolves s₀ s.fullCheck :=
  .ite hs.fullStart hs

theorem Evolves.jvalPut (hs : Evolves s₀ s) {l} : Evolves s₀ (s.jvalPut l) :=
  hs.part

theorem Evolves.applyItems (hs : Evolves s₀ s) {c l} : Evolves s₀ (s.applyItems c l) :=
  hs.each fun _ _ h1 => .ite h1.rawTake (.ite h1 h1.odApply)

theorem Evolves.windowStep (hs : Evolves s₀ s) {t} : Evolves s₀ (s.windowStep t).2 := by
  unfold State.windowStep
  dsimp only
  split
  · exact hs
  · exact .pair hs.drawWord.windowData

theorem Evolves.writeDone (hs : Evolves s₀ s) {i} : Evolves s₀ (s.writeDone i) :=
  .ite hs.failTicket <|
  .ite hs.windowStep.failTicket (Evolves.setTicket
      (.ite hs.windowStep.captureReads.applyItems.mirrorRw.jvalPut
      hs.windowStep.captureReads.applyItems.mirrorRw)).finish

theorem Evolves.writeStep (hs : Evolves s₀ s) {i k} : Evolves s₀ (s.writeStep i k) :=
  .ite hs.writeDone (.ite hs.setTicket.finish hs.setTicket.stage)

theorem Evolves.writeStart (hs : Evolves s₀ s) {i} : Evolves s₀ (s.writeStart i) :=
  hs.setTicket.writeStep

theorem Evolves.valueCommitted (hs : Evolves s₀ s) {h k} : Evolves s₀ (s.valueCommitted h k) :=
  .ite hs <|
  .ite (Evolves.writeStep (.ite hs.setTicket hs)) <|
  .ite (.ite hs.setTicket hs) <|
  .ite (Evolves.setTicket (.ite hs.setTicket hs)).finish <|
  .ite (Evolves.writeStart (.ite hs.setTicket hs)) <|
  .ite hs.setTicket hs

theorem Evolves.admitCommitted (hs : Evolves s₀ s) {h} : Evolves s₀ (s.admitCommitted h) :=
  .ite hs (.ite hs.setTicket.finish.settle hs.setTicket)

theorem Evolves.baselineIn (hs : Evolves s₀ s) : Evolves s₀ s.baselineIn :=
  hs.each fun _ _ h1 => h1.odPutU

theorem Evolves.finalRecord (hs : Evolves s₀ s) {h} : Evolves s₀ (s.finalRecord h) :=
  .ite hs.setTicket hs

theorem Evolves.stepRecord (hs : Evolves s₀ s) {h tag v} : Evolves s₀ (s.stepRecord h tag v) :=
  .ite hs (Evolves.stepCommitted (.ite hs.baselineIn (.ite hs.applyItems hs))).settle.gwAdvance.fullSync

theorem Evolves.mirroredEffect (hs : Evolves s₀ s) {b} : Evolves s₀ (s.mirroredEffect b) := by
  unfold State.mirroredEffect
  dsimp only
  split
  · exact .ite hs hs.applyItems.jvalPut
  · exact hs

theorem Evolves.recordEffect (hs : Evolves s₀ s) {b} : Evolves s₀ (s.recordEffect b) := by
  unfold State.recordEffect
  refine .ite hs.mirroredEffect ?_
  split
  · exact .ite hs.jvalPut hs.valueCommitted
  · exact hs.admitCommitted
  · exact hs.stepRecord
  · exact hs.finalRecord
  · exact hs

theorem Evolves.acknowledge (hs : Evolves s₀ s) {b} : Evolves s₀ (s.acknowledge b) :=
  .ite hs.part hs.recordEffect

theorem Evolves.commitHead (hs : Evolves s₀ s) : Evolves s₀ s.commitHead := by
  unfold State.commitHead
  dsimp only
  split
  · exact hs
  · exact .ite hs.fullCheck hs.boltWrite.part.acknowledge.fullCheck

theorem Evolves.switchOver (hs : Evolves s₀ s) : Evolves s₀ s.switchOver :=
  hs.boltWrite.part.fullSync

theorem Evolves.abandon (hs : Evolves s₀ s) : Evolves s₀ s.abandon :=
  hs.part.fullFails.event

theorem Evolves.copyRecords (hs : Evolves s₀ s) {n} : Evolves s₀ (State.copyRecords n s) := by
  induction n generalizing s with
  | zero => exact hs
  | succ n ih =>
    unfold State.copyRecords
    dsimp only
    split
    · exact .ite hs (ih hs.boltWrite.part)
    · exact .ite hs (ih hs.boltWrite.part)
    · exact hs

theorem Evolves.copyPage (hs : Evolves s₀ s) : Evolves s₀ s.copyPage :=
  .ite hs.abandon (.ite hs.part.copyRecords.switchOver hs.part.copyRecords)

theorem Evolves.eraseDone (hs : Evolves s₀ s) : Evolves s₀ s.eraseDone := by
  unfold State.eraseDone
  dsimp only
  split
  · exact .ite hs.blockErase.part hs.blockErase.setBolt.copyStart
  · exact .ite hs.blockErase.part <|
      .ite hs.blockErase.setBolt.part.fullSync.fullStart hs.blockErase.setBolt.part.fullSync.fullCheck
  · exact .ite hs.blockErase.part <|
      .ite hs.blockErase.setBolt.part.fullSync.fullStart hs.blockErase.setBolt.part.fullSync.fullCheck
  · exact hs

theorem Evolves.dropRestore (hs : Evolves s₀ s) {l} : Evolves s₀ (s.dropRestore l) :=
  hs.part

theorem Evolves.giveUp (hs : Evolves s₀ s) {code b} : Evolves s₀ (s.giveUp code b) := by
  unfold State.giveUp
  dsimp only
  split
  · exact .ite hs (Evolves.failTicket (.ite hs.dropRestore hs)).settle
  · exact hs

theorem Evolves.clearUnledgered (hs : Evolves s₀ s) : Evolves s₀ s.clearUnledgered :=
  hs.each fun _ _ h1 => .ite h1 (.ite h1.setTicket.stepCommitted h1.setTicket)

theorem Evolves.noBolts (hs : Evolves s₀ s) : Evolves s₀ s.noBolts :=
  (hs.clearUnledgered.part.each fun _ _ h1 => h1.giveUp).fullFails

theorem Evolves.boltFails (hs : Evolves s₀ s) {k cause seq} : Evolves s₀ (s.boltFails k cause seq) :=
  (Evolves.stage (.ite hs.setBolt.noBolts (.ite hs.setBolt.fullStart hs.setBolt.part.fullFails))).event.journalNote

theorem Evolves.execJournalRecordCommit (hs : Evolves s₀ s) : OutEvolves s₀ (execJournalRecordCommit s) :=
  .next (.ite hs.commitHead hs)

theorem Evolves.execStagingRoomFreed (hs : Evolves s₀ s) : OutEvolves s₀ (execStagingRoomFreed s) :=
  .next hs.fillStaging

theorem Evolves.execJournalFullTimeout (hs : Evolves s₀ s) : OutEvolves s₀ (execJournalFullTimeout s) := by
  unfold Machine.execJournalFullTimeout
  dsimp only
  refine .next ?_
  split
  · exact hs
  · refine .ite hs ?_
    split
    · exact hs.part.giveUp
    · exact hs.part.giveUp
    · exact hs

theorem Evolves.failedWrite (hs : Evolves s₀ s) {k r readback page} : Evolves s₀ (s.failedWrite k r readback page) :=
  .ite hs.drawWord.program.setBolt hs.drawWord.tornWrite

theorem Evolves.copyFailure (hs : Evolves s₀ s) {r readback page} : Evolves s₀ (s.copyFailure r readback page) :=
  .ite hs.failedWrite.boltFails hs.failedWrite.setBolt.part

theorem Evolves.headFailure (hs : Evolves s₀ s) {r rest readback page} :
    Evolves s₀ (s.headFailure r rest readback page) :=
  .ite hs.failedWrite.part.boltFails.giveUp (.ite hs.failedWrite.setBolt.part hs.failedWrite.setBolt.part.fullStart)

theorem Evolves.execJournalProgramFailure (hs : Evolves s₀ s) {copy readback page} :
    OutEvolves s₀ (execJournalProgramFailure copy readback page s) := by
  unfold Machine.execJournalProgramFailure
  refine .next (.ite hs (.ite ?_ ?_))
  · split
    · exact .ite hs hs.copyFailure
    · exact hs
  · split
    · exact hs
    · exact .ite hs.headFailure hs

theorem Evolves.execJournalEraseFailure (hs : Evolves s₀ s) : OutEvolves s₀ (execJournalEraseFailure s) := by
  unfold Machine.execJournalEraseFailure
  refine .next (.ite hs ?_)
  split
  · exact hs.boltFails
  · exact hs.boltFails
  · exact hs.boltFails
  · exact hs

theorem Evolves.execFullingPageProgram (hs : Evolves s₀ s) : OutEvolves s₀ (execFullingPageProgram s) :=
  .next (.ite hs (.ite hs.bgSlot.copyPage hs.bgSlot))

theorem Evolves.execFullingErase (hs : Evolves s₀ s) : OutEvolves s₀ (execFullingErase s) :=
  .next (.ite hs.eraseDone hs)

/-! ### Tickets -/

theorem Evolves.fullNowStart (hs : Evolves s₀ s) {i} : Evolves s₀ (s.fullNowStart i) :=
  .ite hs.fullStart.part.fullFails hs.fullStart.part

theorem Evolves.gatewayStart (hs : Evolves s₀ s) {i} : Evolves s₀ (s.gatewayStart i) := by
  unfold State.gatewayStart
  dsimp only
  split
  · exact hs.failTicket
  · exact .ite hs.failTicket hs.part.setTicket.glSend

theorem Evolves.typeStart (hs : Evolves s₀ s) {i} : Evolves s₀ (s.typeStart i) :=
  .ite (.ite hs.fullNowStart (.ite hs.setTicket hs)) (.ite hs.cardStart (.ite hs.gatewayStart (.ite hs.part hs)))

theorem Evolves.execTicketExecutorStart (hs : Evolves s₀ s) {i} : OutEvolves s₀ (execTicketExecutorStart i s) :=
  .next (.ite hs (.ite hs.failTicket.settle (.ite hs (.ite hs.writeStart hs.setTicket.typeStart))))

theorem Evolves.snapshot (hs : Evolves s₀ s) {c addr l} : Evolves s₀ (s.snapshot c addr l).2.2 := by
  induction l generalizing s with
  | nil => exact hs
  | cons e l ih =>
    have hr : Evolves s₀ (if e.2 = .scalar .nil 0 then s.odFetch c (e.1 / 256) (e.1 % 256) false addr else
        (0, some e.2, s)).2.2 :=
      .ite_snd_snd hs.odFetch hs
    unfold State.snapshot
    dsimp only
    split
    · exact hr
    · exact ih hr

theorem Evolves.stepRead (hs : Evolves s₀ s) {i} : Evolves s₀ (s.stepRead i) :=
  .ite hs (.ite hs.part.snapshot.failTicket hs.part.snapshot.setTicket.stepDone)

theorem Evolves.stepRestore (hs : Evolves s₀ s) {i} : Evolves s₀ (s.stepRestore i) :=
  .ite hs.failTicket (hs.setTicket.each fun _ _ h1 => h1.stage).stepDone

theorem Evolves.stepFuse (hs : Evolves s₀ s) {i failed} : Evolves s₀ (s.stepFuse i failed) :=
  .ite hs.failTicket (.ite (Evolves.part (.ite_snd hs.drawWord hs)).stepDone (.ite hs.failTicket hs.stepDone))

theorem Evolves.clearErase (hs : Evolves s₀ s) {i failed} : Evolves s₀ (s.clearErase i failed) :=
  .ite hs.failTicket (hs.each fun _ _ h1 => .ite h1.boltErase.setBolt h1).stepDone.journalNote

theorem Evolves.clearCopy (hs : Evolves s₀ s) {i} : Evolves s₀ (s.clearCopy i) :=
  .ite hs (.ite hs.failTicket (hs.each fun _ _ h1 => h1.boltWrite).part.stepDone.journalNote)

theorem Evolves.stepJournalOp (hs : Evolves s₀ s) {i failed} : Evolves s₀ (s.stepJournalOp i failed) :=
  .ite hs.fullSync (.ite hs.stepDone (.ite hs.failTicket (.ite hs.clearErase hs.clearCopy)))

theorem Evolves.handOver (hs : Evolves s₀ s) {i im} : Evolves s₀ (s.handOver i im) :=
  .ite hs (.ite hs.part.stepDone hs.part.stepDone)

theorem Evolves.typeStep (hs : Evolves s₀ s) {i f} : Evolves s₀ (s.typeStep i f) :=
  .ite (.ite hs hs.writeDone) <|
  .ite hs.stepRead <|
  .ite hs.handOver <|
  .ite hs.stepJournalOp <|
  .ite hs.stepRestore <|
  .ite hs.stepFuse <|
  .ite hs.stepImage <|
  .ite hs.stepLarge hs

theorem Evolves.execTicketStepComplete (hs : Evolves s₀ s) {i f} : OutEvolves s₀ (execTicketStepComplete i f s) :=
  .next (.ite hs hs.typeStep.settle)

theorem Evolves.execFanEffortWindow (hs : Evolves s₀ s) {effort stable} :
    OutEvolves s₀ (execFanEffortWindow effort stable s) := by
  unfold Machine.execFanEffortWindow
  dsimp only
  refine .next ?_
  split
  · exact hs
  · exact .ite hs.bgSlot <|
      .ite (.ite hs.bgSlot.part.failTicket hs.bgSlot.part) <|
      .ite hs.bgSlot.part <|
      .ite hs.bgSlot.part.stepDone <|
      .ite hs.bgSlot.part.stage.stepDone hs.bgSlot.part.stage.baselineIn.stepDone

theorem Evolves.execOrphanAutoRetire (hs : Evolves s₀ s) {i} : OutEvolves s₀ (execOrphanAutoRetire i s) :=
  .next (.ite hs.retireTicket hs)

/-! ### Mount -/

theorem Evolves.restoreLedger (hs : Evolves s₀ s) {l} : Evolves s₀ (s.restoreLedger l) :=
  .ite (hs.each fun _ _ h1 => h1.setTicket.part).intBit (hs.each fun _ _ h1 => h1.setTicket.part)

theorem Evolves.takeValue {p : Items × State} (hp : Evolves s₀ p.2) {e} : Evolves s₀ (State.takeValue p e).2 := by
  unfold State.takeValue
  refine .ite_snd (.pair hp.rawTake) ?_
  split
  · exact .ite_snd (.pair hp.odApply) (.pair hp.reverted)
  · exact hp

theorem Evolves.takeValues (hs : Evolves s₀ s) {l} : Evolves s₀ (s.takeValues l) :=
  .foldl_snd (.pair hs.jvalPut) fun _ _ h1 => h1.takeValue

theorem Evolves.w8Defaults (hs : Evolves s₀ s) : Evolves s₀ s.w8Defaults :=
  ((hs.each fun _ _ h1 => h1.wr.wr.wr).each fun _ _ h1 => h1.wr).wr.part.wr.wr.wr.wr.each fun _ _ h1 => h1.wr.wr.wr

theorem Evolves.formatFails (hs : Evolves s₀ s) {k cause} : Evolves s₀ (s.formatFails k cause) :=
  hs.setBolt.stage.event

theorem Evolves.formatBolt (hs : Evolves s₀ s) {k} : Evolves s₀ (s.formatBolt k) :=
  hs.boltErase.boltWrite.boltWrite.part

theorem Evolves.format (hs : Evolves s₀ s) {failA failB} : Evolves s₀ (s.format failA failB) :=
  .ite (.ite hs.formatBolt.formatFails hs.formatBolt.boltErase.setBolt) <|
  .ite hs.formatBolt.formatFails hs.part.formatFails.formatFails

theorem Evolves.mountApply (hs : Evolves s₀ s) {l} : Evolves s₀ (s.mountApply l) := by
  unfold State.mountApply
  dsimp only
  refine ((hs.takeValues.restoreLedger.each fun _ _ h1 => ?_).each fun _ _ h1 => ?_).part
  · split
    · exact h1.applyRepair
    · exact h1
  · split
    · exact h1.remapRepair
    · exact h1

theorem Evolves.mountWaits (hs : Evolves s₀ s) {seq} : Evolves s₀ (s.mountWaits seq) :=
  hs.part.fullStart

theorem Evolves.mountCommit (hs : Evolves s₀ s) {seq} : Evolves s₀ (s.mountCommit seq) :=
  .ite hs.boltWrite hs.mountWaits

theorem Evolves.mountTorn (hs : Evolves s₀ s) {seq} : Evolves s₀ (s.mountTorn seq) :=
  hs.failedWrite.setBolt.part

theorem Evolves.mountWrite (hs : Evolves s₀ s) {fails} : Evolves s₀ (s.mountWrite fails) :=
  .ite hs.part.mountCommit.fullCheck <|
  .ite hs.part.mountTorn.mountCommit.fullCheck hs.part.mountTorn.failedWrite.boltFails

theorem Evolves.findBolts (hs : Evolves s₀ s) : Evolves s₀ s.findBolts :=
  hs.part

theorem Evolves.execJournalMount (hs : Evolves s₀ s) {failA failB mountFails} :
    OutEvolves s₀ (execJournalMount failA failB mountFails s) := by
  unfold Machine.execJournalMount
  dsimp only
  refine .next <|
    .ite hs (Evolves.startMarchHeld (.ite hs.w8Defaults.fusesOnce.part.journalNote
        (.ite hs.w8Defaults.fusesOnce.findBolts.part.mountApply.journalNote ?_))).mark
  split
  · exact hs.w8Defaults.fusesOnce.findBolts.part.mountApply.mountWrite.journalNote
  · exact Evolves.journalNote <|
      .ite hs.w8Defaults.fusesOnce.findBolts.format.part hs.w8Defaults.fusesOnce.findBolts.format.mountWrite

/-! ### Wake -/

theorem Evolves.firmwareFrom (hs : Evolves s₀ s) {im src} : Evolves s₀ (s.firmwareFrom im src) := by
  unfold State.firmwareFrom
  dsimp only
  split
  · exact hs
  · exact hs.putCode.part

theorem Evolves.execWeaverFirmwareVerify (hs : Evolves s₀ s) : OutEvolves s₀ (execWeaverFirmwareVerify s) := by
  unfold Machine.execWeaverFirmwareVerify
  dsimp only
  refine .next (.ite hs (.ite (.ite hs.wakeFail (.ite hs.firmwareFrom (.ite hs.firmwareFrom.event hs.wakeFail))) ?_))
  split
  · exact hs
  · exact .ite hs.firmwareFrom hs.wakeFail

theorem Evolves.loadSet (hs : Evolves s₀ s) : Evolves s₀ s.loadSet := by
  unfold State.loadSet
  dsimp only
  refine hs.each fun _ _ h1 => ?_
  split
  · exact h1
  · exact .ite h1.loadNow h1.loadNow.event

theorem Evolves.wakeRecord (hs : Evolves s₀ s) : Evolves s₀ s.wakeRecord :=
  hs.wr.wr.wr.wr.inc.wr

theorem Evolves.enterRun (hs : Evolves s₀ s) : Evolves s₀ s.enterRun :=
  hs.wakeRecord.wr.part.treadleStart.powerTo.mark.backupW8.postResumed.enumStart.copyWake.copyWake

theorem Evolves.enterLimp (hs : Evolves s₀ s) : Evolves s₀ s.enterLimp :=
  hs.wr.powerTo.part

theorem Evolves.execImageSetLoad (hs : Evolves s₀ s) : OutEvolves s₀ (execImageSetLoad s) :=
  .next (.ite hs (.ite hs.enterLimp (.ite hs.enterRun (.ite hs.loadSet.enterRun hs))))

/-! ### Grilor -/

theorem Evolves.glRecv (hs : Evolves s₀ s) {h f} (hf : ∀ u, Evolves s₀ u → Evolves s₀ (f u)) :
    Evolves s₀ (s.glRecv h f) :=
  .ite hs (.ite hs.wrIf.ctlSend (.ite hs.ctlSend (hf _ hs.setGlink.ackTo.ctlSend)))

theorem Evolves.glForward (hs : Evolves s₀ s) {i f} : Evolves s₀ (s.glForward i f) := by
  unfold State.glForward
  refine .ite hs ?_
  split
  · exact hs.glSend
  · exact hs

theorem Evolves.glDeliver (hs : Evolves s₀ s) {h b f} (hf : ∀ u, Evolves s₀ u → Evolves s₀ (f u)) :
    Evolves s₀ (s.glDeliver h b f) :=
  .ite (.ite (hf _ hs) hs) (Evolves.glForward (.ite (hf _ hs) hs))

theorem Evolves.execBlockLock (hs : Evolves s₀ s) {i} : OutEvolves s₀ (execBlockLock i s) :=
  .next (.ite hs.mark.glTo hs)

theorem Evolves.mirrorTo (hs : Evolves s₀ s) {m} : Evolves s₀ (s.mirrorTo m) :=
  hs.wr

theorem Evolves.releaseHeld (hs : Evolves s₀ s) : Evolves s₀ s.releaseHeld :=
  hs.part.each fun _ _ h1 => h1.recordEffect

theorem Evolves.mirrorLost (hs : Evolves s₀ s) : Evolves s₀ s.mirrorLost :=
  hs.mirrorTo.releaseHeld

theorem Evolves.mirrorStart (hs : Evolves s₀ s) : Evolves s₀ s.mirrorStart :=
  hs.mirrorTo.releaseHeld.each fun _ _ h1 => h1.glSend

theorem Evolves.claim (hs : Evolves s₀ s) {sync} : Evolves s₀ (s.claim sync) :=
  Evolves.enumStart (.ite hs.wr.ownDrive.fanHold.part.mirrorStart hs.wr.ownDrive.fanHold.part.mirrorLost)

theorem Evolves.standBy (hs : Evolves s₀ s) {m} : Evolves s₀ (s.standBy m) :=
  hs.wr.mirrorTo.part

theorem Evolves.twinInit (hs : Evolves s₀ s) : Evolves s₀ s.twinInit := by
  unfold State.twinInit
  split
  · exact hs
  · exact .ite hs (.ite (.ite hs hs.wr.event) (.ite hs.standBy (.ite hs (.ite hs.claim hs.standBy))))

theorem Evolves.takeTickets (hs : Evolves s₀ s) : Evolves s₀ s.takeTickets.2 :=
  .pair (hs.each fun _ _ h1 => h1.part.setTicket)

theorem Evolves.takeover (hs : Evolves s₀ s) : Evolves s₀ s.takeover := by
  unfold State.takeover
  dsimp only
  refine Evolves.enumStart (.ite (Evolves.mirrorStart (Evolves.each ?_ fun _ _ h1 => h1.grTryStart))
    (Evolves.mirrorLost (Evolves.each ?_ fun _ _ h1 => h1.grTryStart))) <;>
  exact hs.wr.ownDrive.fanHold.takeTickets.part.domStateWrite.odInc.event.interruptWeaver

theorem Evolves.bootAsk (hs : Evolves s₀ s) {i} : Evolves s₀ (s.bootAsk i) :=
  .ite hs.glSend hs

theorem Evolves.mirrorUp (hs : Evolves s₀ s) {i} : Evolves s₀ (s.mirrorUp i) :=
  .ite hs (.ite hs.mirrorStart (.ite hs.mirrorTo hs))

theorem Evolves.execGrilorLinkUp (hs : Evolves s₀ s) {i} : OutEvolves s₀ (execGrilorLinkUp i s) :=
  .next (.ite hs (Evolves.event (.ite hs.glTo.setGlink.inc hs.glTo.setGlink)).bootAsk.mirrorUp.enumStart)

theorem Evolves.execGrilorLinkDown (hs : Evolves s₀ s) {i} : OutEvolves s₀ (execGrilorLinkDown i s) :=
  .next hs.glDown

theorem Evolves.execGlAck (hs : Evolves s₀ s) {i ack crcOk} : OutEvolves s₀ (execGlAck i ack crcOk s) :=
  .next (.ite hs (.ite hs.wrIf.ctlSend hs.ackTo))

theorem Evolves.execGlNak (hs : Evolves s₀ s) {i ack crcOk} : OutEvolves s₀ (execGlNak i ack crcOk s) :=
  .next (.ite hs (.ite hs.wrIf.ctlSend hs.ackTo.glReplay))

theorem Evolves.execReplayTimeout (hs : Evolves s₀ s) {i} : OutEvolves s₀ (execReplayTimeout i s) :=
  .next (.ite hs.glReplay hs)

theorem Evolves.execGlKeepalive (hs : Evolves s₀ s) {k h} : OutEvolves s₀ (execGlKeepalive k h s) :=
  .next (.ite hs (.ite hs.mark.glTo (hs.glRecv fun _ h1 => h1.mark)))

theorem Evolves.execKeepaliveSend (hs : Evolves s₀ s) {k} : OutEvolves s₀ (execKeepaliveSend k s) :=
  .next hs.glSend

theorem Evolves.execKeepaliveTimeout (hs : Evolves s₀ s) {k} : OutEvolves s₀ (execKeepaliveTimeout k s) :=
  .next (.ite hs.glDown hs)

theorem Evolves.execDelayMeasurement (hs : Evolves s₀ s) {i} : OutEvolves s₀ (execDelayMeasurement i s) :=
  .next (.ite hs hs.glSend.setGlink)

theorem Evolves.execDelayReq (hs : Evolves s₀ s) {h turnaround} : OutEvolves s₀ (execDelayReq h turnaround s) :=
  .next (hs.glRecv fun _ h1 => h1.glSend)

theorem Evolves.execDelayResp (hs : Evolves s₀ s) {h turnaround} : OutEvolves s₀ (execDelayResp h turnaround s) := by
  unfold Machine.execDelayResp
  dsimp only
  refine .next (hs.glRecv fun _ h1 => ?_)
  split
  · exact h1
  · exact .ite h1.setGlink.wr h1.setGlink

theorem Evolves.execSyncSend (hs : Evolves s₀ s) : OutEvolves s₀ (execSyncSend s) :=
  .next (.ite hs (hs.each fun _ _ h1 => h1.glSend))

theorem Evolves.syncServo (hs : Evolves s₀ s) {t} : Evolves s₀ (s.syncServo t) :=
  .ite hs.domMove.domStateWrite.part <|
  .ite hs.drawWord.drawWord.domRateWrite.part.domStateWrite <|
  .ite hs.drawWord.drawWord.domRateWrite.part.domStateWrite hs.drawWord.drawWord.domRateWrite.part

theorem Evolves.execGlSync (hs : Evolves s₀ s) {h sec ns corr residence} :
    OutEvolves s₀ (execGlSync h sec ns corr residence s) :=
  .next (hs.glRecv fun _ h1 => .ite (Evolves.glForward (.ite h1.syncServo h1)) (.ite h1.syncServo h1))

theorem Evolves.execGlCross (hs : Evolves s₀ s) {h sec ns ang} : OutEvolves s₀ (execGlCross h sec ns ang s) :=
  .next (hs.glRecv fun _ h1 => .ite (Evolves.glForward (.ite h1.ms0Crossing h1)) (.ite h1.ms0Crossing h1))

theorem Evolves.enumWorker (hs : Evolves s₀ s) {i walk pos assigned f} :
    Evolves s₀ (s.enumWorker i walk pos assigned f) := by
  unfold State.enumWorker
  dsimp only
  split
  · exact .ite (Evolves.glForward (.ite hs.wr.part.wr hs.wr.part)) hs.wr.part.part.glSend
  · exact hs.wr.part.part.glSend

theorem Evolves.execGlEnum (hs : Evolves s₀ s) {h walk pos assigned} :
    OutEvolves s₀ (execGlEnum h walk pos assigned s) :=
  .next (hs.glRecv fun _ h1 => .ite h1.enumWorker (.ite h1.part.enumPortEnd h1))

theorem Evolves.execGlEnumResp (hs : Evolves s₀ s) {h device side fixedId} :
    OutEvolves s₀ (execGlEnumResp h device side fixedId s) :=
  .next (hs.glRecv fun _ h1 => .ite h1.glForward h1.enumResp)

theorem Evolves.execEnumerate (hs : Evolves s₀ s) : OutEvolves s₀ (execEnumerate s) :=
  .next hs.enumStart

theorem Evolves.execEnumRespTimeout (hs : Evolves s₀ s) : OutEvolves s₀ (execEnumRespTimeout s) :=
  .next (.ite hs.enumPortEnd hs)

theorem Evolves.execRosterReset (hs : Evolves s₀ s) : OutEvolves s₀ (execRosterReset s) :=
  .next hs.rosterReset

theorem Evolves.gwServe (hs : Evolves s₀ s) {i key op tag val} : Evolves s₀ (s.gwServe i key op tag val) := by
  unfold State.gwServe
  dsimp only
  refine .ite hs.glSend (.ite (.ite hs.part.odRead hs.part.odWrite) ?_)
  split
  · exact Evolves.part (.ite hs.part.odRead hs.part.odWrite)
  · exact Evolves.glSend (.ite hs.part.odRead hs.part.odWrite)

theorem Evolves.execGlData (hs : Evolves s₀ s) {h m} : OutEvolves s₀ (execGlData h m s) := by
  unfold Machine.execGlData
  dsimp only
  refine .next (hs.glRecv fun _ h1 => h1.glDeliver fun _ h2 => ?_)
  split
  · exact .ite h2.gwServe h2
  · exact .ite h2.part.gwAdvance h2

theorem Evolves.execGatewayTimeout (hs : Evolves s₀ s) : OutEvolves s₀ (execGatewayTimeout s) := by
  unfold Machine.execGatewayTimeout
  refine .next ?_
  split
  · exact .ite hs.failTicket hs
  · exact hs

theorem Evolves.execGlBoot (hs : Evolves s₀ s) {h m} : OutEvolves s₀ (execGlBoot h m s) := by
  unfold Machine.execGlBoot
  dsimp only
  refine .next (hs.glRecv fun _ h1 => h1.glDeliver fun _ h2 => ?_)
  split
  · exact .ite h2 (h2.each fun _ _ h3 => h3.glSend)
  · exact .ite h2.part h2

theorem Evolves.execHeartbeatSend (hs : Evolves s₀ s) : OutEvolves s₀ (execHeartbeatSend s) :=
  .next (.ite hs hs.glSend)

theorem Evolves.execGlHeartbeat (hs : Evolves s₀ s) {h side st mirror seq sec ns ang} :
    OutEvolves s₀ (execGlHeartbeat h side st mirror seq sec ns ang s) :=
  .next <|
  .ite hs (hs.glRecv fun _ h1 => .ite (.ite h1.mark.wr.part h1.mark.wr.part.wr.event) h1.mark.wr.part.twinInit)

theorem Evolves.execHeartbeatMiss (hs : Evolves s₀ s) : OutEvolves s₀ (execHeartbeatMiss s) :=
  .next (.ite hs (.ite hs.mark.inc.takeover (.ite hs.mark.inc.mirrorTo.event hs.mark.inc)))

theorem Evolves.execGlHandover (hs : Evolves s₀ s) {h} : OutEvolves s₀ (execGlHandover h s) :=
  .next (.ite hs (hs.glRecv fun _ h1 => .ite h1 (.ite h1.part h1.takeover)))

theorem Evolves.execHandoverCommand (hs : Evolves s₀ s) : OutEvolves s₀ (execHandoverCommand s) :=
  .next hs.handoverCmd

theorem Evolves.execTwinOwnChange (hs : Evolves s₀ s) {peer} : OutEvolves s₀ (execTwinOwnChange peer s) :=
  .next (.ite hs (.ite (Evolves.takeover (.ite hs.wr hs.wr.fanHold)) (Evolves.twinInit (.ite hs.wr hs.wr.fanHold))))

theorem Evolves.execTwinInitTimeout (hs : Evolves s₀ s) : OutEvolves s₀ (execTwinInitTimeout s) :=
  .next (.ite hs (.ite hs.standBy.event hs.claim))

theorem Evolves.mirrorIn (hs : Evolves s₀ s) {b} : Evolves s₀ (s.mirrorIn b) := by
  unfold State.mirrorIn
  dsimp only
  refine .ite (.ite hs.part.mirrorTo hs.part.stageLocal.glSend) ?_
  split
  · exact hs.part.mirrorTo
  · exact hs.part

theorem Evolves.execGlMirror (hs : Evolves s₀ s) {h m} : OutEvolves s₀ (execGlMirror h m s) := by
  unfold Machine.execGlMirror
  refine .next (.ite hs (hs.glRecv fun _ h1 => .ite h1 ?_))
  split
  · exact h1.mirrorIn
  · exact .ite h1.applyItems h1

theorem Evolves.execGlMirrorAck (hs : Evolves s₀ s) {h} : OutEvolves s₀ (execGlMirrorAck h s) := by
  unfold Machine.execGlMirrorAck
  dsimp only
  refine .next (.ite hs (hs.glRecv fun _ h1 => ?_))
  split
  · exact h1
  · exact .ite h1.mark.part.recordEffect h1.mark.part

theorem Evolves.execMirrorAckTimeout (hs : Evolves s₀ s) : OutEvolves s₀ (execMirrorAckTimeout s) :=
  .next (.ite hs.mirrorLost hs)

theorem Evolves.mirrorAdopt (hs : Evolves s₀ s) : Evolves s₀ s.mirrorAdopt :=
  (Evolves.part (.ite (hs.boltErase.each fun _ _ h1 => h1.boltWrite).boltErase hs)).takeValues

theorem Evolves.execMirrorSyncDone (hs : Evolves s₀ s) : OutEvolves s₀ (execMirrorSyncDone s) :=
  .next (.ite hs (.ite hs.mirrorTo (.ite hs.mirrorAdopt.mirrorTo hs)))

/-! ### HostPort -/

theorem Evolves.statusReply (hs : Evolves s₀ s) {c status rdata} : Evolves s₀ (s.statusReply c status rdata) :=
  .ite hs.part.hostAnswer hs.part

theorem Evolves.ticketCommand (hs : Evolves s₀ s) {c f} (hf : ∀ u, Evolves s₀ u → Evolves s₀ (f u).2.2) :
    Evolves s₀ (s.ticketCommand c f) :=
  .ite hs.hostAnswer (.ite hs (.ite hs.statusReply (hf _ hs).statusReply))

theorem Evolves.execRetire (hs : Evolves s₀ s) {c h} : OutEvolves s₀ (execRetire c h s) :=
  .next (hs.ticketCommand fun _ h1 => .triple h1.retire)

theorem Evolves.execAbort (hs : Evolves s₀ s) {c h} : OutEvolves s₀ (execAbort c h s) :=
  .next (hs.ticketCommand fun _ h1 => .triple h1.abortBy)

theorem Evolves.execResultRead (hs : Evolves s₀ s) {c h} : OutEvolves s₀ (execResultRead c h s) :=
  .next (hs.ticketCommand fun _ h1 => .triple h1.resultRead)

theorem Evolves.execResultConsume (hs : Evolves s₀ s) {c h} : OutEvolves s₀ (execResultConsume c h s) :=
  .next (hs.ticketCommand fun _ h1 => .triple h1.resultConsume)

theorem Evolves.execResultData (hs : Evolves s₀ s) {c h} : OutEvolves s₀ (execResultData c h s) := by
  unfold Machine.execResultData
  dsimp only
  refine .next (hs.ticketCommand fun _ h1 => ?_)
  split
  · exact .ite_snd_snd (.ite_snd_snd (.triple h1.resultRead) (.triple h1.resultRead.drawWord)) (.triple h1.resultRead)
  · exact .triple h1.resultRead

theorem Evolves.execTicketState (hs : Evolves s₀ s) {c h} : OutEvolves s₀ (execTicketState c h s) := by
  unfold Machine.execTicketState
  dsimp only
  refine .next (hs.ticketCommand fun _ h1 => ?_)
  split
  · exact h1
  · exact h1

theorem Evolves.hostCommand (hs : Evolves s₀ s) {f} (hf : ∀ u, Evolves s₀ u → Evolves s₀ (f u)) :
    Evolves s₀ (s.hostCommand f) :=
  .ite hs (.ite hs.hostAnswer (.ite hs.hostAnswer (hf _ hs)))

theorem Evolves.execStatus (hs : Evolves s₀ s) : OutEvolves s₀ (execStatus s) :=
  .next (.ite hs.hostAnswer hs)

theorem Evolves.execIntRead (hs : Evolves s₀ s) : OutEvolves s₀ (execIntRead s) :=
  .next (hs.hostCommand fun _ h1 => h1.wr.hostAnswer)

theorem Evolves.execIntEnable (hs : Evolves s₀ s) {v} : OutEvolves s₀ (execIntEnable v s) :=
  .next (hs.hostCommand fun _ h1 => h1.expertWrite.hostAnswer)

theorem Evolves.execResend (hs : Evolves s₀ s) : OutEvolves s₀ (execResend s) :=
  .next (hs.hostCommand fun _ h1 => h1)

theorem Evolves.domainStage (hs : Evolves s₀ s) {total first} : Evolves s₀ (s.domainStage total first) :=
  .ite hs.stageReturn.refuseOd hs.stageReturn.part.admitFor

theorem Evolves.execDomainOpen (hs : Evolves s₀ s) {i sub up total first} :
    OutEvolves s₀ (execDomainOpen i sub up total first s) :=
  .next <|
  .ite (.ite hs.part.odReply (.ite hs.odReply hs.admitFor)) <|
  hs.hostCommand fun _ h1 =>
    .ite h1.accessOpen.refuseOd <|
    .ite h1.accessOpen.refuseOd <|
    .ite h1.accessOpen.refuseOd <|
    .ite h1.accessOpen.refuseOd <|
    .ite h1.accessOpen.refuseOd h1.accessOpen.domainStage

theorem Evolves.domainCommand (hs : Evolves s₀ s) {f} (hf : ∀ u, Evolves s₀ u → Evolves s₀ (f u)) :
    Evolves s₀ (s.domainCommand f) :=
  .ite (hf _ hs) (hs.hostCommand fun _ h1 => hf _ h1)

theorem Evolves.execDomainPut (hs : Evolves s₀ s) {h k b} : OutEvolves s₀ (execDomainPut h k b s) := by
  unfold Machine.execDomainPut
  dsimp only
  refine .next (hs.domainCommand fun _ h1 => ?_)
  split
  · exact h1.hostAnswer
  · exact .ite h1.hostAnswer (.ite h1.hostAnswer h1.setTicket.stepDone.settle.hostAnswer)

theorem Evolves.execDomainGet (hs : Evolves s₀ s) {h _k} : OutEvolves s₀ (execDomainGet h _k s) := by
  unfold Machine.execDomainGet
  refine .next (hs.domainCommand fun _ h1 => ?_)
  split
  · exact h1.hostAnswer
  · exact h1.hostAnswer

theorem Evolves.execUnknownCommand (hs : Evolves s₀ s) {req crc} : OutEvolves s₀ (execUnknownCommand req crc s) := by
  unfold Machine.execUnknownCommand
  dsimp only
  refine .next (.ite hs (.ite hs.inc.intBit.hostAnswer ?_))
  split
  · exact hs.hostCommand fun _ h1 => h1.hostAnswer
  · exact .ite hs (hs.hostCommand fun _ h1 => h1.hostAnswer)

theorem Evolves.execHostRequestDiscarded (hs : Evolves s₀ s) : OutEvolves s₀ (execHostRequestDiscarded s) :=
  .next (.ite hs.inc hs)

theorem Evolves.execHostAccessTimeout (hs : Evolves s₀ s) : OutEvolves s₀ (execHostAccessTimeout s) :=
  .next (hs.hostCommand fun _ h1 => h1.hostAnswer)

/-! ### OdNet -/

theorem Evolves.netWrite (hs : Evolves s₀ s) {k c l} : Evolves s₀ (s.netWrite k c l) :=
  hs.odWrite

theorem Evolves.netRefuse (hs : Evolves s₀ s) {c code ticket} : Evolves s₀ (s.netRefuse c code ticket) :=
  hs.serve fun _ h1 => h1.accessOpen.refuseOd

theorem Evolves.netRead (hs : Evolves s₀ s) {k c key} : Evolves s₀ (s.netRead k c key) := by
  unfold State.netRead
  dsimp only
  split
  · split
    · exact hs.odRead.toWire.odReply
    · exact hs.odRead
  · exact hs.netRefuse

theorem Evolves.netReads (hs : Evolves s₀ s) {k c keys} : Evolves s₀ (s.netReads k c keys) :=
  .ite hs.netRefuse hs.odReadMulti

theorem Evolves.execNetworkRequest (hs : Evolves s₀ s) {k c r} : OutEvolves s₀ (execNetworkRequest k c r s) := by
  unfold Machine.execNetworkRequest
  dsimp only
  refine .next (.ite hs ?_)
  split
  · exact hs.netRead
  · exact hs.netReads
  · exact hs.netWrite
  · exact .ite hs.netRead hs.odRead
  · exact .ite hs.netWrite hs.odWrite

/-! ### Wiring -/

theorem Evolves.rsShow (hs : Evolves s₀ s) {n c} : Evolves s₀ (s.rsShow n c) :=
  .ite (.ite hs.wr.setUa hs.wr) (Evolves.wr (.ite hs.wr.setUa hs.wr)).event

theorem Evolves.execRs485LineMeasurement (hs : Evolves s₀ s) {n a b} :
    OutEvolves s₀ (execRs485LineMeasurement n a b s) :=
  .next (.ite hs.part.rsShow (.ite hs.part.rsShow hs.part))

/-! ### Dispatch -/

theorem Evolves.exec (hs : Evolves s₀ s) {i} : OutEvolves s₀ (exec i s) := by
  unfold Machine.exec
  split
  · exact hs.execSampleFrame
  · exact hs.execCompanionRegisterAccess
  · exact hs.execLaneFailure
  · exact hs.execRetrainAttempt
  · exact hs.execRetrainAttemptEnd
  · exact hs.execLockstepMismatch
  · exact hs.execRefclkLost
  · exact hs.execRefclkOutOfRange
  · exact hs.execPllUnlock
  · exact hs.execRegisterWrite
  · exact hs.execRcRegisterRead
  · exact hs.execVbatPresent
  · exact hs.execMainFeedPresent
  · exact hs.execMainFeedLost
  · exact hs.execWakeEvent
  · exact hs.execCompanionRegulatorsInRegulation
  · exact hs.execPgCoreHigh
  · exact hs.execRefclkInRange
  · exact hs.execPll0Lock
  · exact hs.execFuseCheck
  · exact hs.execStrapSampleRound
  · exact hs.execStartupCarding
  · exact hs.execJournalMount
  · exact hs.execWeaverFirmwareVerify
  · exact hs.execImageSetLoad
  · exact hs.execWakeStepTimeout
  · exact hs.execWakeAttemptRestart
  · exact hs.execRefclkBack
  · exact hs.execResetNLow
  · exact hs.execResetNRelease
  · exact hs.execVhvFail
  · exact hs.execPgCoreWarning
  · exact hs.execShutdownPowerOff
  · exact hs.execShutdownRestart
  · exact hs.execShutdownStepComplete
  · exact hs.execRampCapExpired
  · exact hs.execS4BoundReached
  · exact hs.execVhvReturned
  · exact hs.execOffIntervalEnd
  · exact hs.execFuseProgram
  · exact hs.execMs0Crossing
  · exact hs.execWindowMiss
  · exact hs.execAcquireTimeout
  · exact hs.execMsPhaseCrossing
  · exact hs.execInputPresenceUpdate
  · exact hs.execStepCmd
  · exact hs.execAevArm
  · exact hs.execAevFire
  · exact hs.execXtspop
  · exact hs.execTdxStateWrite
  · exact hs.execTdxRateWrite
  · exact hs.execTdxHeartbeat
  · exact hs.execTdxStep
  · exact hs.execTdxSet
  · exact hs.execServoTimeout
  · exact hs.execDeviceTimeAligned
  · exact hs.execDtStepCmd
  · exact hs.execSnap
  · exact hs.execTpoAssert
  · exact hs.execTpoDeassert
  · exact hs.execTpiCapture
  · exact hs.execTpiPop
  · exact hs.execTpiRecordRead
  · exact hs.execOdRead
  · exact hs.execOdWrite
  · exact hs.execMultiRead
  · exact hs.execMultiWrite
  · exact hs.execNetworkRequest
  · exact hs.execExpertUnlock
  · exact hs.execUnlockBlockEnd
  · exact hs.execExpertUnlockExpiry
  · exact hs.execExpertRelock
  · exact hs.execExpertWindowData
  · exact hs.execConfigLock
  · exact hs.execRestoreDefaults
  · exact hs.execSessionOpen
  · exact hs.execSessionClose
  · exact hs.execDrainTimeout
  · exact hs.execTicketExecutorStart
  · exact hs.execTicketStepComplete
  · exact hs.execJournalRecordCommit
  · exact hs.execStagingRoomFreed
  · exact hs.execJournalFullTimeout
  · exact hs.execJournalProgramFailure
  · exact hs.execJournalEraseFailure
  · exact hs.execFullingPageProgram
  · exact hs.execFullingErase
  · exact hs.execFullNow
  · exact hs.execVerify
  · exact hs.execClearFailing
  · exact hs.execOrphanAutoRetire
  · exact hs.execRetire
  · exact hs.execAbort
  · exact hs.execResultRead
  · exact hs.execResultConsume
  · exact hs.execResultData
  · exact hs.execTicketState
  · exact hs.execStatus
  · exact hs.execIntRead
  · exact hs.execIntEnable
  · exact hs.execResend
  · exact hs.execDomainOpen
  · exact hs.execDomainPut
  · exact hs.execDomainGet
  · exact hs.execUnknownCommand
  · exact hs.execHostRequestDiscarded
  · exact hs.execHostAccessTimeout
  · exact hs.execMemoryRead
  · exact hs.execWholeWordWrite
  · exact hs.execPartialWrite
  · exact hs.execScrubStep
  · exact hs.execCardingRun
  · exact hs.execCardingSegmentStep
  · exact hs.execCardingBankMarch
  · exact hs.execEuNop
  · exact hs.execEuHalt
  · exact hs.execEuRet
  · exact hs.execEuWait
  · exact hs.execEuRtt
  · exact hs.execEuPush
  · exact hs.execEuPop
  · exact hs.execEuNeg
  · exact hs.execEuAbs
  · exact hs.execEuNot
  · exact hs.execEuBswap
  · exact hs.execEuClz
  · exact hs.execEuMknil
  · exact hs.execEuMov
  · exact hs.execEuLd
  · exact hs.execEuSt
  · exact hs.execEuLdp
  · exact hs.execEuStp
  · exact hs.execEuLdph
  · exact hs.execEuStph
  · exact hs.execEuAdd
  · exact hs.execEuSub
  · exact hs.execEuAdds
  · exact hs.execEuSubs
  · exact hs.execEuMul
  · exact hs.execEuDiv
  · exact hs.execEuRem
  · exact hs.execEuCmp
  · exact hs.execEuMin
  · exact hs.execEuMax
  · exact hs.execEuAnd
  · exact hs.execEuOr
  · exact hs.execEuXor
  · exact hs.execEuTst
  · exact hs.execEuShl
  · exact hs.execEuShr
  · exact hs.execEuSar
  · exact hs.execEuRol
  · exact hs.execEuTagof
  · exact hs.execEuTageq
  · exact hs.execEuRetag
  · exact hs.execEuCvtf
  · exact hs.execEuCvti
  · exact hs.execEuSetp
  · exact hs.execEuB
  · exact hs.execEuCall
  · exact hs.execEuLoop
  · exact hs.execEuBnil
  · exact hs.execEuXchg
  · exact hs.execEuXadd
  · exact hs.execEuCas
  · exact hs.execEuCopyw
  · exact hs.execEuFillw
  · exact hs.execEuCopyp
  · exact hs.execEuCrc32c
  · exact hs.execEuMfsr
  · exact hs.execEuMtsr
  · exact hs.execEuIold
  · exact hs.execEuIost
  · exact hs.execEuSwt
  · exact hs.execEuWaituntil
  · exact hs.execWaituntilReached
  · exact hs.execEuMac
  · exact hs.execEuMacr
  · exact hs.execEuClracc
  · exact hs.execEuClamp
  · exact hs.execEuLdang
  · exact hs.execEuLdtime
  · exact hs.execShwake
  · exact hs.execLoad
  · exact hs.execUnload
  · exact hs.execStore
  · exact hs.execTable
  · exact hs.execImageRestart
  · exact hs.execHeddleNop
  · exact hs.execSample
  · exact hs.execDrive
  · exact hs.execAwait
  · exact hs.execCount
  · exact hs.execShift
  · exact hs.execEmit
  · exact hs.execTake
  · exact hs.execBranch
  · exact hs.execMatch
  · exact hs.execTimeout
  · exact hs.execSignal
  · exact hs.execAwaitConditionMet
  · exact hs.execHeddleStallRelease
  · exact hs.execHeddleTExpiry
  · exact hs.execHeddleTimeCompare
  · exact hs.execHeddleEnable
  · exact hs.execHeddleDisable
  · exact hs.execRestart
  · exact hs.execFlush
  · exact hs.execSplitWrite
  · exact hs.execHeddleDivWrite
  · exact hs.execRegionWrite
  · exact hs.execSlotmapWrite
  · exact hs.execProgramWordWrite
  · exact hs.execTxqWrite
  · exact hs.execRxqRead
  · exact hs.execTtargetWrite
  · exact hs.execBypassWrite
  · exact hs.execDaliCurrentLimit
  · exact hs.execUartTxWrite
  · exact hs.execUartRxRead
  · exact hs.execTxflush
  · exact hs.execRxflush
  · exact hs.execUartConfigWrite
  · exact hs.execUartTransmitStart
  · exact hs.execUartCharacterSent
  · exact hs.execUartDeRelease
  · exact hs.execUartCharacterReceived
  · exact hs.execUartIdle
  · exact hs.execMacFrameEnd
  · exact hs.execFrameTooLong
  · exact hs.execPortCellExhausted
  · exact hs.execFrameDecision
  · exact hs.execTransmitOpportunity
  · exact hs.execFrameTransmitted
  · exact hs.execTimeGateEntryChange
  · exact hs.execAngleGateEntryChange
  · exact hs.execTgSwap
  · exact hs.execAgSwap
  · exact hs.execFdbAgeing
  · exact hs.execFdbLookup
  · exact hs.execFdbInsert
  · exact hs.execFdbDelete
  · exact hs.execFlushFdb
  · exact hs.execNqRxpop
  · exact hs.execNqAlloc
  · exact hs.execNqTx
  · exact hs.execNqFree
  · exact hs.execNqCpop
  · exact hs.execBobbinRecordWrite
  · exact hs.execBobbinRecord
  · exact hs.execLinkUp
  · exact hs.execLinkDown
  · exact hs.execPauseExpiry
  · exact hs.execMacModeWrite
  · exact hs.execPhyControlWord
  · exact hs.execPstkRead
  · exact hs.execLargeSend
  · exact hs.execT1lDiagRun
  · exact hs.execAutoDiag
  · exact hs.execT1lDiagComplete
  · exact hs.execCanStart
  · exact hs.execCanStop
  · exact hs.execCanRecover
  · exact hs.execCanSleep
  · exact hs.execCanBusIdle
  · exact hs.execCanRecoveryComplete
  · exact hs.execCanFrameReceived
  · exact hs.execTransmitAttemptStart
  · exact hs.execTransmitSuccess
  · exact hs.execTransmitFailure
  · exact hs.execTxset
  · exact hs.execTxcancel
  · exact hs.execMoConfigWrite
  · exact hs.execNewdatClear
  · exact hs.execTtCycleStart
  · exact hs.execTtColumnMark
  · exact hs.execTtTxWindowExpiry
  · exact hs.execRefLost
  · exact hs.execTxdTimeout
  · exact hs.execBusFault
  · exact hs.execBusFaultClear
  · exact hs.execCanWake
  · exact hs.execGroupStart
  · exact hs.execGroupStop
  · exact hs.execGroupPark
  · exact hs.execGroupClear
  · exact hs.execStartConditionsMet
  · exact hs.execPrecheckDone
  · exact hs.execSoftstartDone
  · exact hs.execRampdownDone
  · exact hs.execGroupRetry
  · exact hs.execLoopStep
  · exact hs.execPwmSyncEvent
  · exact hs.execPhaseRotation
  · exact hs.execDutyWrite
  · exact hs.execTripLineEdge
  · exact hs.execGateDriverFault
  · exact hs.execZcdEdge
  · exact hs.execSeqGo
  · exact hs.execSeqPwmTrigger
  · exact hs.execSeqTimeTrigger
  · exact hs.execSequenceDone
  · exact hs.execAdcOffsetCalibration
  · exact hs.execPcpWake
  · exact hs.execFanSpeedLoop
  · exact hs.execFanDutyWrite
  · exact hs.execFallback
  · exact hs.execFanDemandChange
  · exact hs.execFanLock
  · exact hs.execFanStartTimeout
  · exact hs.execFanStall
  · exact hs.execFanRestartWaitEnd
  · exact hs.execFanShort
  · exact hs.execFanShortResume
  · exact hs.execFanOpenPhase
  · exact hs.execHallFault
  · exact hs.execFanAttemptReset
  · exact hs.execFanUnderspeed
  · exact hs.execFanUnderspeedClear
  · exact hs.execFanClear
  · exact hs.execFanBaselineRun
  · exact hs.execFanEffortWindow
  · exact hs.execAgeingUpdate
  · exact hs.execTemperatureUpdate
  · exact hs.execGuardAssert
  · exact hs.execGuardCooling
  · exact hs.execGuardAck
  · exact hs.execGuardReleaseTimer
  · exact hs.execRailSwitchover
  · exact hs.execRailSwitchBack
  · exact hs.execBackupDomainLost
  · exact hs.execVbatMeasurement
  · exact hs.execOscFail
  · exact hs.execOscResume
  · exact hs.execCntloRead
  · exact hs.execRtcSet
  · exact hs.execRtcSetEdge
  · exact hs.execSummerOn
  · exact hs.execSummerOff
  · exact hs.execLocalOffsetWrite
  · exact hs.execTrimWrite
  · exact hs.execTrimCorrection
  · exact hs.execRtcSync
  · exact hs.execAutoTrim
  · exact hs.execAlarmDisarm
  · exact hs.execAlarmArm
  · exact hs.execAlarmFire
  · exact hs.execPeriodWrite
  · exact hs.execPeriodicFire
  · exact hs.execCounterWrap
  · exact hs.execBlockLock
  · exact hs.execGrilorLinkUp
  · exact hs.execGrilorLinkDown
  · exact hs.execGlAck
  · exact hs.execGlNak
  · exact hs.execGlData
  · exact hs.execGlSync
  · exact hs.execDelayReq
  · exact hs.execDelayResp
  · exact hs.execGlCross
  · exact hs.execGlEnum
  · exact hs.execGlEnumResp
  · exact hs.execGlHeartbeat
  · exact hs.execGlHandover
  · exact hs.execGlMirror
  · exact hs.execGlMirrorAck
  · exact hs.execGlKeepalive
  · exact hs.execGlBoot
  · exact hs.execReplayTimeout
  · exact hs.execKeepaliveTimeout
  · exact hs.execSyncSend
  · exact hs.execHeartbeatSend
  · exact hs.execDelayMeasurement
  · exact hs.execKeepaliveSend
  · exact hs.execHeartbeatMiss
  · exact hs.execEnumerate
  · exact hs.execEnumRespTimeout
  · exact hs.execRosterReset
  · exact hs.execGateway
  · exact hs.execGatewayTimeout
  · exact hs.execTwinOwnChange
  · exact hs.execTwinInitTimeout
  · exact hs.execHandoverCommand
  · exact hs.execMirrorAckTimeout
  · exact hs.execMirrorSyncDone
  · exact hs.execRs485LineMeasurement
  · exact hs.execCanReceiveError
  · exact hs.execGuardConditionReturn

/-! ### Idle -/

theorem Evolves.idle (hs : Evolves s₀ s) : Evolves s₀ s.idle := by
  have h : Evolves s₀ { s with cycle := s.cycle + 1 } := hs.part
  unfold State.idle
  exact Evolves.tickRtc (.ite (Evolves.tickTreadle (.ite h.tickTime h)).tickPwm.tickHeddles (.ite h.tickTime h))

end StepEvolves

/-- A command that steps on has come to its next state from the one before. -/
theorem OutEvolves.evolves {s t : State} (h : OutEvolves s (.next t)) : Evolves s t := by
  cases h with
  | next h => exact h

theorem Evolves.wf {s t : State} (h : Evolves s t) (hs : s.wf = true) : t.wf = true := by
  obtain ⟨hregs, hmem⟩ := (Bool.and_eq_true _ _).mp hs
  exact (Bool.and_eq_true _ _).mpr ⟨h.regs hregs, h.mem hmem⟩

/-- Settles O59: an idle cycle and every command bring a state in canonical form to one in canonical form, for nothing that they
run writes the register file but through `State.wr`, or the memory but through the setters of its words. -/
theorem stepKeepsCanonicalForm : Obligations.StepKeepsCanonicalForm := by
  intro s t hs hstep
  unfold step at hstep
  split at hstep
  next =>
    obtain rfl := Host.Outcome.next.inj hstep
    exact (Evolves.refl s).idle.wf hs
  next c rest _ =>
    have h := (Evolves.refl { s with pending := rest }).exec (i := c)
    rw [hstep] at h
    exact h.evolves.wf hs

end Sys2Proof.Machine

/-! ## Scope: the clock monitors, a lockstep mismatch, and the shutdown that they begin -/

namespace Sys2Proof.Machine

/-! ### What events, staged records and interrupts leave -/

theorem bitOf_setBit_true (n k : Nat) : bitOf (setBit n k true) k = true := by
  unfold setBit
  split
  · assumption
  · rename_i h
    have hn : n / 2 ^ k % 2 ≠ 1 := by simpa [bitOf] using h
    simp only [bitOf, if_true, decide_eq_true_eq, Nat.add_div_right _ (Nat.two_pow_pos k)]
    omega

theorem bitOf_eq_testBit (n k : Nat) : bitOf n k = n.testBit k := Nat.testBit_eq_decide_div_mod_eq.symm

/-- The low bits of a number keep its bits below them. -/
theorem bitOf_mod_two_pow {n k w : Nat} (h : k < w) : bitOf (n % 2 ^ w) k = bitOf n k := by
  simp [bitOf_eq_testBit, Nat.testBit_mod_two_pow, h]

/-- A bit that is set within the width of its field reads back set. -/
theorem State.bit_wrBit_true (s : State) (f : Field) (k : Nat) (h : k < f.w) : (s.wrBit f k true).bit f k = true := by
  simp only [State.bit, State.wrBit, State.rd_wr_same, bitOf_mod_two_pow h, bitOf_setBit_true]

theorem KeepsBut.intBit {fs : List Field} {l : List Part} {s t : State} (h : KeepsBut fs l s t) (k : Nat)
    (hf : Reg.HOSTPORT_INTSTAT_INTSTAT ∈ fs) : KeepsBut fs l s (t.intBit k) := h.wr _ _ hf

theorem State.glSend_keeps (s : State) (i : Nat) (f : GFrame) : Keeps [.gl] s (s.glSend i f) := by
  unfold State.glSend
  split
  · exact Keeps.refl _ s
  · intro p
    cases p <;> simp [Part.same, State.setGlink]

theorem State.mirrorRecord_keeps (s : State) (b : JBody) : Keeps [.gl, .marks] s (s.mirrorRecord b) := by
  have hsend : Keeps [.gl, .marks] s (s.glSend 0 ⟨0xFF, 0, .mirror (.record b)⟩) :=
    (s.glSend_keeps 0 _).mono (by simp)
  unfold State.mirrorRecord
  extract_lets m s1 s2
  split
  · exact Keeps.refl _ s
  split
  · refine hsend.trans fun p => ?_
    unfold s2
    split <;> cases p <;> simp [Part.same, s1]
  · exact hsend

/-- Staging a record changes the journal, and on the owner of a twin its link. -/
theorem State.stage_keeps (s : State) (b : JBody) : Keeps [.jr, .gl, .marks] s (s.stage b) := by
  have hlocal : Keeps [.jr] s (s.stageLocal b) := by
    unfold State.stageLocal
    split
    · exact Keeps.refl _ s
    split <;> · intro p; cases p <;> simp [Part.same]
  unfold State.stage
  split
  · exact (hlocal.mono (by simp)).trans (((s.stageLocal b).mirrorRecord_keeps b).mono (by simp))
  · exact Keeps.refl _ s

/-- An event is staged, enters the ring and sets its bit of INTSTAT. -/
theorem KeepsBut.event {fs : List Field} {l : List Part} {s t : State} (h : KeepsBut fs l s t) (code src : Nat)
    (data : List Nat) (hf : Reg.HOSTPORT_INTSTAT_INTSTAT ∈ fs) (hl : [.tk, .jr, .gl, .marks] ⊆ l) (hr : Part.regs ∉ l) :
    KeepsBut fs l s (t.event code src data) := by
  unfold State.event
  extract_lets e
  have hring : KeepsBut fs l s { t with tk := { t.tk with ring := (e :: t.tk.ring).take 256 } } :=
    h.part (fun p => by cases p <;> simp [Part.same, hl (show Part.tk ∈ _ by simp)]) hr
  exact (hring.part ((State.stage_keeps _ (.event e)).mono fun p hp => hl (by simp_all)) hr).intBit 3 hf

/-- Waking a thread changes that thread alone. -/
theorem State.wake_keeps (s : State) (i : Nat) : Keeps [.threads] s (s.wake i) := by
  have hput (t : Thread) : Keeps [.threads] s (s.setThread i t) := fun p => by cases p <;> simp [Part.same]
  unfold State.wake
  dsimp only
  split
  · exact hput _
  · exact Keeps.refl _ s
  · exact Keeps.refl _ s
  · exact hput _

/-! ### What a shutdown writes (R124, R127, R128) -/

/-- A change of power that no register shows. -/
theorem State.pow_keeps (s : State) (p : Power) : Keeps [.pow] s { s with pow := p } :=
  fun q => by cases q <;> simp [Part.same]

/-- The registers as CLOCK_LOST in RUN leaves them at the begin of S1. -/
def State.clockLostRegs (s : State) : State := ((s.wr Reg.SYS_PSTATE_SDTRIG 4).wr Reg.SYS_PSTATE_SDSTEP 1).powerTo 6

/-- CLOCK_LOST in RUN begins S1 with the ramp cap. -/
theorem sdStart_clockLost_run (s : State) (h : s.pstate = 4) :
    ∃ p, s.sdStart .clockLost = { s.clockLostRegs with pow := p } ∧ p.capActive = true ∧ p.faultN = s.pow.faultN :=
  ⟨_, (if_neg (by simp [h])).trans (if_pos (.inl h)), rfl, rfl⟩

theorem clockLostRegs_withPow (s : State) (p q : Power) :
    ({ State.clockLostRegs { s with pow := q } with pow := p } : State) = { s.clockLostRegs with pow := p } := rfl

theorem clockLostRegs_pstate (s : State) : s.clockLostRegs.pstate = 6 := by
  refine (State.rd_wr_ne _ _ _ _ (by decide)).trans ?_
  rw [State.rd_wr_same]
  rfl

theorem clockLostRegs_sdStep (s : State) : s.clockLostRegs.sdStep = 1 := by
  refine (State.rd_wr_ne _ _ _ _ (by decide)).trans ((State.rd_wr_ne _ _ _ _ (by decide)).trans ?_)
  rw [State.rd_wr_same]
  rfl

theorem clockLostRegs_sdTrig (s : State) : s.clockLostRegs.rd Reg.SYS_PSTATE_SDTRIG = 4 := by
  refine (State.rd_wr_ne _ _ _ _ (by decide)).trans ((State.rd_wr_ne _ _ _ _ (by decide)).trans
    ((State.rd_wr_ne _ _ _ _ (by decide)).trans ?_))
  rw [State.rd_wr_same]
  rfl

/-- The change of power sets bit 4 of INTSTAT. -/
theorem powerTo_intStat (s : State) (st : Nat) : (s.powerTo st).bit Reg.HOSTPORT_INTSTAT_INTSTAT 4 = true :=
  State.bit_wrBit_true _ _ 4 (by decide)

theorem KeepsBut.powerTo {fs : List Field} {l : List Part} {s t : State} (h : KeepsBut fs l s t) (st : Nat)
    (hf : Reg.SYS_PSTATE_STATE ∈ fs) (hi : Reg.HOSTPORT_INTSTAT_INTSTAT ∈ fs) : KeepsBut fs l s (t.powerTo st) :=
  (h.wr _ st hf).intBit 4 hi

/-- The fields in which the begin of a shutdown shows itself. -/
def sdFields : List Field :=
  [Reg.SYS_PSTATE_STATE, Reg.SYS_PSTATE_SDSTEP, Reg.SYS_PSTATE_SDTRIG, Reg.HOSTPORT_INTSTAT_INTSTAT]

theorem clockLostRegs_keepsBut (s : State) : KeepsBut sdFields [] s s.clockLostRegs :=
  (((KeepsBut.refl _ _ s).wr _ 4 (by simp [sdFields])).wr _ 1 (by simp [sdFields])).powerTo 6 (by simp [sdFields])
    (by simp [sdFields])

/-! ### The clock monitors (R60 to R62) -/

/-- The flags of a clock monitor are set. -/
def State.clockFlags (s : State) (fs : List Field) : State := s.each fs (fun s f => s.wr f 1)

theorem clockFlags_keepsBut (s : State) (fs : List Field) : KeepsBut fs [] s (s.clockFlags fs) :=
  KeepsBut.each _ _ (fun f hf _ _ h => h.wr f 1 hf) (KeepsBut.refl fs [] s)

/-- A clock monitor in RUN sets its flags and FAULT_N, and the shutdown CLOCK_LOST begins. -/
theorem clockLost_run (s : State) (own run : List Field) (h : s.pstate = 4)
    (hfs : ∀ f ∈ own ++ run, f.key ∉ sdFields.map Field.key) :
    ∃ p, s.clockLost own run = { (s.clockFlags (own ++ run)).clockLostRegs with pow := p } ∧ p.capActive = true ∧
      p.faultN = true := by
  have hflags : (s.clockFlags (own ++ run)).pstate = 4 := by
    refine (((clockFlags_keepsBut s (own ++ run)).1 Reg.SYS_PSTATE_STATE).resolve_left fun hm => ?_).trans h
    obtain ⟨f, hf, hk⟩ := List.mem_map.1 hm
    exact hfs f hf (hk ▸ by simp [sdFields])
  obtain ⟨p, hp, hcap, hfault⟩ := sdStart_clockLost_run
    { s.clockFlags (own ++ run) with pow := { (s.clockFlags (own ++ run)).pow with faultN := true } } hflags
  refine ⟨p, ?_, hcap, hfault⟩
  unfold State.clockLost
  rw [if_neg (by simp [State.dieOn, h]), if_pos h]
  exact hp.trans (clockLostRegs_withPow _ _ _)

/-- What R61, R62 and R126 say of a clock monitor in RUN, for the flags `fs` that it sets. -/
theorem clockMonitor_run (s u : State) (c : Instr) (own run : List Field) (h : s.pstate = 4)
    (hu : Keeps [.pow] s u) (hc : exec c s = .next (u.clockLost own run))
    (hfs : ∀ f ∈ own ++ run, f.key ∉ sdFields.map Field.key)
    (hone : ∀ f ∈ own ++ run, (u.clockFlags (own ++ run)).rd f = 1) :
    Answers c s fun t =>
      (∀ f ∈ own ++ run, t.rd f = 1) ∧ t.pow.faultN = true ∧ t.pstate = 6 ∧ t.sdStep = 1 ∧
        t.rd Reg.SYS_PSTATE_SDTRIG = 4 ∧ t.pow.capActive = true ∧ t.bit Reg.HOSTPORT_INTSTAT_INTSTAT 4 = true ∧
        KeepsBut (own ++ run ++ sdFields) [.pow] s t := by
  have hstate : u.pstate = 4 := by
    rw [← h]
    exact congrArg (Store.get _ · _) ((hu .regs).resolve_left (by simp))
  obtain ⟨p, hp, hcap, hfault⟩ := clockLost_run u own run hstate hfs
  refine ⟨_, hc, ?_⟩
  rw [hp]
  refine ⟨fun f hf => ?_, hfault, clockLostRegs_pstate _, clockLostRegs_sdStep _, clockLostRegs_sdTrig _, hcap,
    powerTo_intStat _ 6, ?_⟩
  · exact (((clockLostRegs_keepsBut _).1 f).resolve_left (hfs f hf)).trans (hone f hf)
  · have hbegin : KeepsBut (own ++ run ++ sdFields) [.pow] s u := (KeepsBut.refl _ _ s).part hu (by simp)
    exact ((hbegin.trans ((clockFlags_keepsBut u _).mono (fun _ hf => List.mem_append_left _ hf) (by simp))).trans
      ((clockLostRegs_keepsBut _).mono (fun _ hf => List.mem_append_right _ hf) (by simp))).part
      (State.pow_keeps _ p) (by simp)

/-! ### A lockstep mismatch parks every group (R47, R836, R872) -/

theorem KeepsBut.grOutputsLow {fs : List Field} {l : List Part} {s t : State} (h : KeepsBut fs l s t) (g : Nat)
    (hf : grFields g ⊆ fs) (hl : Part.pwm ∈ l) (hr : Part.regs ∉ l) : KeepsBut fs l s (t.grOutputsLow g) := by
  have hg (f : Field) (hm : f ∈ grFields g) : f ∈ fs := hf hm
  unfold State.grOutputsLow
  refine ((((KeepsBut.each _ _ (fun n hn _ u hu => ?_) h).wr _ 0 (hg _ (by simp [grFields]))).wr _ 0
    (hg _ (by simp [grFields]))).wr _ 0 (hg _ (by simp [grFields]))).wr _ _ (hg _ (by simp [grFields]))
  have hn8 : n < 8 := by simpa [State.activePhases] using (List.mem_filter.1 hn).1
  refine (hu.part (fun p => ?_) hr).wr _ 0 (hg _ ?_)
  · cases p <;> simp [Part.same, State.setPh, hl]
  · simp only [grFields, List.mem_append, List.mem_map, List.mem_range]
    exact .inr ⟨n, hn8, rfl⟩

/-- What a fault of group `g` may change. -/
theorem grFaults_keepsBut (s : State) (g code : Nat) :
    KeepsBut (Reg.HOSTPORT_INTSTAT_INTSTAT :: grFields g) [.pwm, .tk, .jr, .gl, .marks, .threads] s (s.grFaults g code) := by
  unfold State.grFaults
  split
  · exact KeepsBut.refl _ _ s
  extract_lets retry s1 _ s2
  have h1 : KeepsBut (Reg.HOSTPORT_INTSTAT_INTSTAT :: grFields g) [.pwm, .tk, .jr, .gl, .marks, .threads] s s1 :=
    (((KeepsBut.refl _ _ s).grOutputsLow g (by simp) (by simp) (by simp)).wr _ _ (by simp [grFields])).wr _ _
      (by simp [grFields])
  have h2 : KeepsBut (Reg.HOSTPORT_INTSTAT_INTSTAT :: grFields g) [.pwm, .tk, .jr, .gl, .marks, .threads] s s2 :=
    h1.part (fun p => by cases p <;> simp [Part.same, s2, State.setGr]) (by simp)
  exact (h2.event _ _ _ (by simp) (by simp) (by simp)).part ((State.wake_keeps _ 34).mono (by simp)) (by simp)

/-- Group `g` is in DISABLED or FAULT. -/
def State.grAtRest (s : State) (g : Nat) : Prop := s.grState g = 0 ∨ s.grState g = 5

/-- A fault that is not retried leaves its group in DISABLED or FAULT. -/
theorem grFaults_stopped (s : State) (g : Fin 4) (code : Nat) (hc : retriable code = false) :
    (s.grFaults g code).grAtRest g := by
  unfold State.grFaults
  split
  · assumption
  right
  extract_lets retry s1 _ s2
  have hafter : KeepsBut [Reg.HOSTPORT_INTSTAT_INTSTAT] [.tk, .jr, .gl, .marks, .threads] s2
      (s2.event 0x0E01 g (code :: evBytes 4 (s.gr g).vout)).wakePcp :=
    ((KeepsBut.refl _ _ s2).event _ _ _ (by simp) (by simp) (by simp)).part ((State.wake_keeps _ 34).mono (by simp)) (by simp)
  have hother : ∀ g : Fin 4, (Reg.PWM_G_STAT_STATE.at g).key ∉ [Reg.HOSTPORT_INTSTAT_INTSTAT].map Field.key ∧
      (Reg.PWM_G_STAT_STATE.at g).key ≠ (Reg.PWM_G_STAT_FAULT.at g).key := by decide
  calc (s2.event 0x0E01 g (code :: evBytes 4 (s.gr g).vout)).wakePcp.grState g
      = s2.grState g := (hafter.1 _).resolve_left (hother g).1
    _ = ((s.grOutputsLow g).grTo g (if retry then 6 else 5)).grState g := State.rd_wr_ne _ _ _ _ (hother g).2
    _ = 5 := by
      rw [State.grState, State.grTo, State.rd_wr_same, show retry = false by simp [retry, hc]]
      rfl

/-- A fault of a group leaves the fields that no fault of that group may change. -/
theorem rd_grFaults (s : State) (g code : Nat) (f : Field)
    (h : f.key ∉ (Reg.HOSTPORT_INTSTAT_INTSTAT :: grFields g).map Field.key) : (s.grFaults g code).rd f = s.rd f :=
  ((grFaults_keepsBut s g code).1 f).resolve_left h

/-- PARK_REQ to one group parks it, and leaves every other group where it is. -/
theorem grFaults_atRest (s : State) (g k : Fin 4) (h : g = k ∨ s.grAtRest g) : (s.grFaults k 10).grAtRest g := by
  have hother : ∀ g k : Fin 4, g ≠ k → (Reg.PWM_G_STAT_STATE.at g).key ∉
      (Reg.HOSTPORT_INTSTAT_INTSTAT :: grFields k).map Field.key := by decide +kernel
  by_cases hg : g = k
  · exact hg ▸ grFaults_stopped s g 10 rfl
  · have hs := h.resolve_left hg
    rwa [State.grAtRest, State.grState, rd_grFaults s k 10 _ (hother g k hg)]

theorem each_grFaults_atRest (g : Fin 4) (l : List (Fin 4)) (s : State) (h : g ∈ l ∨ s.grAtRest g) :
    (s.each (l.map Fin.val) (fun s k => s.grFaults k 10)).grAtRest g := by
  induction l generalizing s with
  | nil => exact h.resolve_left List.not_mem_nil
  | cons k l ih =>
    refine ih (s.grFaults k 10) ?_
    rcases h with h | h
    · rcases List.mem_cons.1 h with rfl | h
      · exact .inr (grFaults_atRest s g g (.inl rfl))
      · exact .inl h
    · exact .inr (grFaults_atRest s g k (.inr h))

/-- PARK_REQ leaves every group in DISABLED or FAULT. -/
theorem parkRequest_atRest (s : State) (g : Fin 4) : s.parkRequest.grAtRest g :=
  each_grFaults_atRest g (List.finRange 4) s (.inl (List.mem_finRange g))

/-- The fields that PARK_REQ may change. -/
def parkFields : List Field := Reg.HOSTPORT_INTSTAT_INTSTAT :: (List.range 4).flatMap grFields

theorem parkRequest_keepsBut (s : State) : KeepsBut parkFields [.pwm, .tk, .jr, .gl, .marks, .threads] s s.parkRequest := by
  refine KeepsBut.each _ _ (fun g hg _ u hu => hu.trans ((grFaults_keepsBut u g 10).mono (fun f hf => ?_) (by simp)))
    (KeepsBut.refl _ _ s)
  rcases List.mem_cons.1 hf with rfl | hf
  · exact List.mem_cons_self
  · exact List.mem_cons_of_mem _ (List.mem_flatMap.2 ⟨g, hg, hf⟩)

/-! ### S5 at once (R124, R129) -/

/-- The fields that the entry to S5 may write. -/
def commitFields : List Field :=
  [Reg.BACKUP_WAKEREC1_SD_TRIGGER, Reg.BACKUP_WAKEREC1_SD_STEP, Reg.BACKUP_WAKEREC1_FLUSH_INCOMPLETE,
    Reg.BACKUP_WAKEREC2_SD_TICK_LO, Reg.BACKUP_WAKEREC3_SD_TICK_HI, Reg.GRILOR_TWIN_OWN_DRIVE, Reg.GRILOR_TWIN_OWN_SENSE,
    Reg.SYS_PSTATE_SDSTEP]

theorem ownDrive_rd (s : State) (d : Bool) (f : Field)
    (h : f.key ∉ [Reg.GRILOR_TWIN_OWN_DRIVE, Reg.GRILOR_TWIN_OWN_SENSE].map Field.key) : (s.ownDrive d).rd f = s.rd f := by
  simp only [List.map_cons, List.map_nil, List.mem_cons, List.not_mem_nil, or_false, not_or] at h
  exact (State.rd_wr_ne _ _ _ _ h.2).trans (State.rd_wr_ne _ _ _ _ h.1)

/-- The wake record takes the trigger of the shutdown. -/
theorem enterS5_sdTrigger (s : State) (last : Nat) :
    (s.enterS5 last).rd Reg.BACKUP_WAKEREC1_SD_TRIGGER = s.rd Reg.SYS_PSTATE_SDTRIG % 2 ^ 8 := by
  unfold State.enterS5
  extract_lets s1 s2
  have h1 : s1.rd Reg.BACKUP_WAKEREC1_SD_TRIGGER = s.rd Reg.SYS_PSTATE_SDTRIG % 2 ^ 8 := by
    refine (State.rd_wr_ne _ _ _ _ (by decide)).trans ((State.rd_wr_ne _ _ _ _ (by decide)).trans
      ((State.rd_wr_ne _ _ _ _ (by decide)).trans ((State.rd_wr_ne _ _ _ _ (by decide)).trans ?_)))
    exact State.rd_wr_same _ _ _
  have h2 : s2.rd Reg.BACKUP_WAKEREC1_SD_TRIGGER = s1.rd Reg.BACKUP_WAKEREC1_SD_TRIGGER := by
    unfold s2
    split
    · exact ownDrive_rd s1 false _ (by decide)
    · rfl
  exact (State.rd_wr_ne s2 Reg.SYS_PSTATE_SDSTEP _ 5 (by decide)).trans (h2.trans h1)

theorem enterS5_sdStep (s : State) (last : Nat) : (s.enterS5 last).sdStep = 5 := State.rd_wr_same _ _ 5

theorem enterS5_pow (s : State) (last : Nat) :
    (s.enterS5 last).pow.faultN = s.pow.faultN ∧ (s.enterS5 last).pow.weaverHalted = s.pow.weaverHalted := by
  unfold State.enterS5
  extract_lets s1 s2
  have h2 : s2.pow = s.pow := by
    unfold s2
    split <;> rfl
  have hfault := congrArg Power.faultN h2
  have hhalt := congrArg Power.weaverHalted h2
  exact ⟨hfault, hhalt⟩

theorem enterS5_keepsBut (s : State) (last : Nat) : KeepsBut commitFields [.pow] s (s.enterS5 last) := by
  unfold State.enterS5
  extract_lets s1 s2
  have h1 : KeepsBut commitFields [.pow] s s1 :=
    (((((KeepsBut.refl _ _ s).wr _ _ (by simp [commitFields])).wr _ _ (by simp [commitFields])).wr _ _
      (by simp [commitFields])).wr _ _ (by simp [commitFields])).wr _ _ (by simp [commitFields])
  have h2 : KeepsBut commitFields [.pow] s s2 := by
    unfold s2
    split
    · exact (h1.wr _ _ (by simp [commitFields])).wr _ _ (by simp [commitFields])
    · exact h1
  exact (h2.wr _ 5 (by simp [commitFields])).part (State.pow_keeps _ _) (by simp)

/-- A trigger that takes the record over, in RUN: S5 follows at once with the trigger in the wake record. -/
theorem jumpS5_run (s : State) (t : SdTrigger) (h : s.pstate = 4) :
    let u := s.jumpS5 t
    u.pstate = 6 ∧ u.sdStep = 5 ∧ u.rd Reg.SYS_PSTATE_SDTRIG = t.toCode % 2 ^ 8 ∧
      u.rd Reg.BACKUP_WAKEREC1_SD_TRIGGER = t.toCode % 2 ^ 8 ∧ u.pow.faultN = s.pow.faultN ∧
      u.pow.weaverHalted = s.pow.weaverHalted ∧ KeepsBut (sdFields ++ commitFields) [.pow] s u := by
  unfold State.jumpS5
  rw [if_neg (by simp [h])]
  extract_lets +onlyGivenNames last cut s1 _ u
  have hstart : KeepsBut sdFields [] s s1 :=
    ((KeepsBut.refl _ _ s).wr _ _ (by simp [sdFields])).powerTo 6 (by simp [sdFields]) (by simp [sdFields])
  have htrig : s1.rd Reg.SYS_PSTATE_SDTRIG = t.toCode % 2 ^ 8 :=
    (State.rd_wr_ne _ _ _ _ (by decide)).trans <| (State.rd_wr_ne _ _ _ _ (by decide)).trans (State.rd_wr_same _ _ _)
  have hstate : s1.pstate = 6 := (State.rd_wr_ne _ _ _ _ (by decide)).trans (State.rd_wr_same _ _ _)
  have hleft (f : Field) (hf : f.key ∉ commitFields.map Field.key) : u.rd f = s1.rd f :=
    ((enterS5_keepsBut _ last).1 f).resolve_left hf
  refine ⟨(hleft _ (by decide)).trans hstate, enterS5_sdStep _ _, (hleft _ (by decide)).trans htrig, ?_,
    (enterS5_pow _ last).1, (enterS5_pow _ last).2, ?_⟩
  · refine (enterS5_sdTrigger _ last).trans ?_
    rw [← Nat.mod_mod t.toCode, ← htrig]
    rfl
  · exact ((hstart.mono (fun _ hf => List.mem_append_left _ hf) (by simp)).part (State.pow_keeps _ _) (by simp)).trans
      ((enterS5_keepsBut _ last).mono (fun _ hf => List.mem_append_right _ hf) (by simp))

/-! ### The clock monitors (O3) -/

/-- The machine with both cores halted and every group parked. -/
def State.lockstepPark (s : State) : State :=
  (s.each [0, 1] (fun s i => s.setThread i { s.thread i with run := .halted })).parkRequest

/-- The same with FAULT_N asserted and the Weaver halted. -/
def State.lockstepHalt (s : State) : State :=
  { s.lockstepPark with pow := { s.lockstepPark.pow with faultN := true, weaverHalted := true } }

theorem lockstepHalt_keepsBut (s : State) :
    KeepsBut parkFields [.pwm, .tk, .jr, .gl, .marks, .threads, .pow] s s.lockstepHalt := by
  have hhalt : Keeps [.threads] s (s.each [0, 1] (fun s i => s.setThread i { s.thread i with run := .halted })) :=
    fun p => by cases p <;> simp [Part.same, State.each]
  exact (((KeepsBut.refl _ _ s).part (hhalt.mono (by simp)) (by simp)).trans
    ((parkRequest_keepsBut _).mono (fun _ hf => hf) (by simp))).part ((State.pow_keeps _ _).mono (by simp)) (by simp)

theorem State.grAtRest.withPow {s : State} {g : Nat} (h : s.grAtRest g) (p : Power) :
    State.grAtRest { s with pow := p } g := h

theorem lockstepHalt_atRest (s : State) (g : Fin 4) : s.lockstepHalt.grAtRest g :=
  State.grAtRest.withPow (s := s.lockstepPark) (parkRequest_atRest _ g) _

/-- A lockstep mismatch in RUN halts the cores and parks the groups, and S5 follows at once. -/
theorem exec_lockstepMismatch_run (s : State) (h : s.pstate = 4) :
    exec .lockstepMismatch s = .next (s.lockstepHalt.jumpS5 .lockstep) := by
  change execLockstepMismatch s = _
  have hweaver : (s.dieOn && !(s.pstate == 6 && decide (5 ≤ s.sdStep))) = true := by simp [State.dieOn, h]
  simp only [execLockstepMismatch, hweaver, Bool.not_true, Bool.false_eq_true, if_false, State.lockstepHalt,
    State.lockstepPark]

theorem lockstepMismatch_run (s : State) (h : s.pstate = 4) : Answers .lockstepMismatch s fun t =>
    t.pow.faultN = true ∧ t.pow.weaverHalted = true ∧ t.pstate = 6 ∧ t.sdStep = 5 ∧ t.rd Reg.SYS_PSTATE_SDTRIG = 6 ∧
      t.rd Reg.BACKUP_WAKEREC1_SD_TRIGGER = 6 ∧ (∀ g : Fin 4, t.grState g = 0 ∨ t.grState g = 5) ∧ t.fuse = s.fuse ∧
      t.mem = s.mem := by
  refine ⟨_, exec_lockstepMismatch_run s h, ?_⟩
  obtain ⟨hfields, hparts⟩ := lockstepHalt_keepsBut s
  have hrun : s.lockstepHalt.pstate = 4 := ((hfields Reg.SYS_PSTATE_STATE).resolve_left (by decide +kernel)).trans h
  obtain ⟨hstate, hstep, htrig, hrec, hfault, hhalt, hrd, hleft⟩ := jumpS5_run s.lockstepHalt .lockstep hrun
  have hcode : SdTrigger.lockstep.toCode % 2 ^ 8 = 6 := by decide
  refine ⟨hfault, hhalt, hstate, hstep, htrig.trans hcode, hrec.trans hcode, fun g => ?_, ?_, ?_⟩
  · have hother : ∀ g : Fin 4, (Reg.PWM_G_STAT_STATE.at g).key ∉ (sdFields ++ commitFields).map Field.key := by decide
    have hg := (hrd (Reg.PWM_G_STAT_STATE.at g)).resolve_left (hother g)
    exact (lockstepHalt_atRest s g).imp hg.trans hg.trans
  · exact ((hleft .fuse).resolve_left (by simp)).trans ((hparts .fuse).resolve_left (by simp))
  · exact ((hleft .mem).resolve_left (by simp)).trans ((hparts .mem).resolve_left (by simp))

/-- PLL_UNLOCK in RUN is a clock monitor's finding. -/
theorem exec_pllUnlock_run (s : State) (h : s.pstate = 4) :
    exec .pllUnlock s = .next (s.clockLost [Reg.SYS_CLKSTAT_PLL_UNLOCK] []) :=
  congrArg Host.Outcome.next (if_neg (by simp [State.limping, h]))

/-- Settles O3: in RUN a clock monitor begins S1 and a lockstep mismatch enters S5, whatever the state's other parts hold. -/
theorem clockMonitors : Obligations.ClockMonitors := by
  refine ⟨fun s c fs hc h => ?_, lockstepMismatch_run, fun s h => ?_⟩
  · have hback : Keeps [.pow] s { s with pow := { s.pow with refclkBack := false } } := State.pow_keeps _ _
    simp only [List.mem_cons, List.not_mem_nil, or_false, Prod.mk.injEq] at hc
    rcases hc with ⟨rfl, rfl⟩ | ⟨rfl, rfl⟩ | ⟨rfl, rfl⟩
    · exact clockMonitor_run s _ .refclkLost _ [] h hback rfl (by decide)
        (by simp [State.clockFlags, State.each, Reg.SYS_CLKSTAT_REF_LOST])
    · exact clockMonitor_run s _ .refclkOutOfRange [_] [_] h hback rfl (by decide) (by
        simp (disch := decide) [State.clockFlags, State.each, Reg.SYS_CLKSTAT_REF_LOST, Reg.SYS_CLKSTAT_REF_RANGE])
    · exact clockMonitor_run s s .pllUnlock [_] [] h (Keeps.refl _ s) (exec_pllUnlock_run s h) (by decide)
        (by simp [State.clockFlags, State.each, Reg.SYS_CLKSTAT_PLL_UNLOCK])
  · exact ⟨_, congrArg Host.Outcome.next (if_pos h), rfl, State.pow_keeps _ _⟩

end Sys2Proof.Machine

/-! ## Scope: the background slots of the scrubber and of Carding, and the march of a destructive run -/

namespace Sys2Proof.Machine

/-! ### A slot of a background activity (R74) -/

/-- The state with `n` deferrals counted for the slot of key `key`. -/
def State.withDefer (s : State) (key n : Nat) : State :=
  { s with mem := { s.mem with defer := s.mem.defer.set 0 key n } }

/-- Without a foreground request the activity takes its slot, and its count of deferrals starts again. -/
theorem bgSlot_quiet (s : State) (bit unit : Nat) :
    s.bgSlot bit unit false = (true, s.withDefer (bit * 64 + unit) 0) := by
  unfold State.bgSlot
  dsimp only
  split <;> rfl

/-- A foreground request defers the slot, up to 64 times. -/
theorem bgSlot_deferred (s : State) (bit unit : Nat) (h : s.mem.defer.get 0 (bit * 64 + unit) < 64) :
    s.bgSlot bit unit true =
      (false, s.withDefer (bit * 64 + unit) (s.mem.defer.get 0 (bit * 64 + unit) + 1)) :=
  (if_neg (by omega)).trans (if_pos rfl)

theorem withDefer_get (s : State) (key n : Nat) : (s.withDefer key n).mem.defer.get 0 key = n := Store.get_set_same _ _ _ _

theorem withDefer_keeps (s : State) (key n : Nat) : Keeps [.mem] s (s.withDefer key n) := by
  intro p
  cases p <;> simp [Part.same, State.withDefer]

/-! ### The patrol scrubber (R436, R437) -/

/-- The scrubber only moves on from a clean word. -/
theorem scrubWord_clean (s : State) (b : Nat) (beaten : Bool) (hp : (s.word b (s.mem.scrubPos.get 0 b)).poisoned = false)
    (hc : (s.word b (s.mem.scrubPos.get 0 b)).ecc = .clean) :
    (s.scrubWord b beaten).mem.scrubPos.get 0 b = (s.mem.scrubPos.get 0 b + 1) % bankWords b ∧
      (s.scrubWord b beaten).mem.mem = s.mem.mem := by
  unfold State.scrubWord
  extract_lets off w s1
  have h1 : s1 = s := by
    unfold s1
    rw [if_neg (by simp [w, off, hp]), hc]
  exact ⟨Store.get_set_same _ _ _ _, congrArg (fun u => u.mem.mem) h1⟩

theorem scrubStep_clean (s : State) (b : Fin 36) (beaten : Bool) (hon : s.scrubOn b = true) (hfree : s.bankBusy b = false)
    (hp : (s.word b (s.mem.scrubPos.get 0 b)).poisoned = false) (hc : (s.word b (s.mem.scrubPos.get 0 b)).ecc = .clean) :
    Answers (.scrubStep b false beaten) s fun t =>
      t.mem.scrubPos.get 0 b = (s.mem.scrubPos.get 0 b + 1) % bankWords b ∧ t.mem.mem = s.mem.mem := by
  have hout : exec (.scrubStep b false beaten) s = .next ((s.withDefer (0 * 64 + b) 0).scrubWord b beaten) := by
    change execScrubStep b false beaten s = _
    simp [execScrubStep, hon, hfree, bgSlot_quiet]
  exact ⟨_, hout, scrubWord_clean (s.withDefer (0 * 64 + b) 0) b beaten hp hc⟩

theorem scrubStep_deferred (s : State) (b : Fin 36) (beaten : Bool) (hon : s.scrubOn b = true) (hfree : s.bankBusy b = false)
    (hd : s.mem.defer.get 0 b < 64) : Answers (.scrubStep b true beaten) s fun t =>
      t.mem.defer.get 0 b = s.mem.defer.get 0 b + 1 ∧ t.mem.mem = s.mem.mem ∧ t.mem.scrubPos = s.mem.scrubPos ∧
        Keeps [.mem] s t := by
  have hkey : 0 * 64 + b.val = b.val := by omega
  have hslot := bgSlot_deferred s 0 b (by rwa [hkey])
  rw [hkey] at hslot
  have hout : exec (.scrubStep b true beaten) s = .next (s.withDefer b (s.mem.defer.get 0 b + 1)) := by
    change execScrubStep b true beaten s = _
    simp [execScrubStep, hon, hfree, hslot]
  exact ⟨_, hout, withDefer_get _ _ _, rfl, rfl, withDefer_keeps _ _ _⟩

/-! ### A segment of a preserving run (R444, R449) -/

theorem each_eq_self {α : Type} (s : State) (l : List α) (f : State → α → State) (h : ∀ x ∈ l, f s x = s) : s.each l f = s := by
  induction l with
  | nil => rfl
  | cons x l ih =>
    have hx : f s x = s := h x List.mem_cons_self
    change (f s x).each l f = s
    rw [hx]
    exact ih fun y hy => h y (List.mem_cons_of_mem _ hy)

/-- Saving and restoring a row without data changes nothing. -/
theorem cardRow_empty (s : State) (b row : Nat) (h : ∀ k : Fin 64, s.word b (64 * row + k) = {}) : s.cardRow b row = s := by
  refine each_eq_self s _ _ fun k hk => ?_
  have hword : s.word b (64 * row + k) = {} := h ⟨k, List.mem_range.1 hk⟩
  simp only [hword]
  rfl

/-- The state with `o` as the run in progress. -/
def State.withRun (s : State) (o : Option CardRun) : State := { s with mem := { s.mem with run := o } }

/-- CARDING.STAT follows the run, and nothing of the memory does. -/
theorem cardView_mem (s : State) : s.cardView.mem = s.mem := by
  unfold State.cardView
  split <;> rfl

theorem cardView_busy_withRun (s : State) (r : CardRun) : (s.withRun (some r)).cardView.rd Reg.CARDING_STAT_BUSY = 1 := by
  simp (disch := decide) [State.cardView, State.withRun, Reg.CARDING_STAT_BUSY]

theorem cardView_busy_none (s : State) : (s.withRun none).cardView.rd Reg.CARDING_STAT_BUSY = 0 := by
  simp [State.cardView, State.withRun]

/-- A segment that is neither the last of its pass nor faulty, over a row without data, takes the run to the next segment. -/
theorem cardSegment_empty (s : State) (r : CardRun) (n : Nat) (rest : List (Bool × Nat)) (hsegs : r.segs = (false, n) :: rest)
    (hrest : rest ≠ []) (hempty : ∀ k : Fin 64, s.word r.bank (64 * n + k) = {}) :
    s.cardSegment r false = (s.withRun (some { r with segs := rest })).cardView := by
  have hmore : rest.isEmpty = false := by cases rest <;> trivial
  unfold State.cardSegment
  rw [hsegs]
  simp [cardRow_empty s r.bank n hempty, hmore, b2n, State.withRun]

theorem cardingSegmentStep_preserving (s : State) (r : CardRun) (n : Nat) (rest : List (Bool × Nat)) (reads : List MarchRead)
    (hrun : s.mem.run = some r) (hd : r.destructive = false) (hf : r.segmentFailed reads = false) (hh : s.cardHeld = false)
    (ho : s.stepOpen r.slot = true) (hsegs : r.segs = (false, n) :: rest) (hrest : rest ≠ [])
    (hempty : ∀ k : Fin 64, s.word r.bank (64 * n + k) = {}) : Answers (.cardingSegmentStep false reads) s fun t =>
      t.mem.run = some { r with segs := rest } ∧ t.mem.mem = s.mem.mem ∧ t.rd Reg.CARDING_STAT_BUSY = 1 := by
  have hout : exec (.cardingSegmentStep false reads) s = .next ((s.withDefer (1 * 64 + r.bank) 0).cardSegment r false) := by
    change execCardingSegmentStep false reads s = _
    simp [execCardingSegmentStep, hrun, hd, hh, ho, hf, bgSlot_quiet]
  rw [cardSegment_empty (s.withDefer (1 * 64 + r.bank) 0) r n rest hsegs hrest hempty] at hout
  refine ⟨_, hout, ?_, ?_, cardView_busy_withRun _ _⟩
  · rw [cardView_mem]
    rfl
  · rw [cardView_mem]
    rfl

/-! ### What leaves the words of memory and the accesses that wait -/

/-- The words of memory and the accesses that wait for a destructive run are in `t` as in `s`. -/
structure WordsStay (s t : State) : Prop where
  words : t.mem.mem = s.mem.mem
  held : t.mem.held = s.mem.held

section
variable {s₀ s t : State}

theorem WordsStay.refl (s : State) : WordsStay s s := ⟨rfl, rfl⟩

theorem WordsStay.trans (h : WordsStay s₀ s) (k : WordsStay s t) : WordsStay s₀ t :=
  ⟨k.words.trans h.words, k.held.trans h.held⟩

theorem WordsStay.keeps {l : List Part} (h : WordsStay s₀ s) (k : Keeps l s t) (hl : Part.mem ∉ l) : WordsStay s₀ t :=
  have hm : t.mem = s.mem := (k .mem).resolve_left hl
  h.trans ⟨congrArg MemState.mem hm, congrArg MemState.held hm⟩

theorem WordsStay.ite {c : Prop} [Decidable c] (hs : WordsStay s₀ s) (ht : WordsStay s₀ t) : WordsStay s₀ (if c then s else t) := by
  split
  · exact hs
  · exact ht

theorem WordsStay.wr (h : WordsStay s₀ s) (f : Field) (v : Nat) : WordsStay s₀ (s.wr f v) := ⟨h.words, h.held⟩

theorem WordsStay.setTicket (h : WordsStay s₀ s) (i : Nat) (t : Ticket) : WordsStay s₀ (s.setTicket i t) := ⟨h.words, h.held⟩

theorem WordsStay.setSpare (h : WordsStay s₀ s) (b k : Nat) (x : Spare) : WordsStay s₀ (s.setSpare b k x) := ⟨h.words, h.held⟩

theorem WordsStay.withRun (h : WordsStay s₀ s) (o : Option CardRun) : WordsStay s₀ (s.withRun o) := ⟨h.words, h.held⟩

theorem WordsStay.cardView (h : WordsStay s₀ s) : WordsStay s₀ s.cardView := by
  have hm := cardView_mem s
  exact ⟨(congrArg MemState.mem hm).trans h.words, (congrArg MemState.held hm).trans h.held⟩

theorem WordsStay.stage (h : WordsStay s₀ s) (b : JBody) : WordsStay s₀ (s.stage b) := h.keeps (s.stage_keeps b) (by simp)

theorem WordsStay.event (h : WordsStay s₀ s) (code src : Nat) (data : List Nat) : WordsStay s₀ (s.event code src data) := by
  have hk : KeepsBut [Reg.HOSTPORT_INTSTAT_INTSTAT] [.tk, .jr, .gl, .marks] s (s.event code src data) :=
    (KeepsBut.refl _ _ s).event code src data (by simp) (by simp) (by simp)
  exact h.keeps hk.2 (by simp)

theorem WordsStay.foldl_snd {α β : Type} {l : List α} {f : β × State → α → β × State} {x : β × State} (h : WordsStay s₀ x.2)
    (hf : ∀ u a, WordsStay s₀ u.2 → WordsStay s₀ (f u a).2) : WordsStay s₀ (l.foldl f x).2 := by
  induction l generalizing x with
  | nil => exact h
  | cons a l ih => exact ih (hf _ _ h)

theorem WordsStay.each {α : Type} {l : List α} {f : State → α → State} (h : WordsStay s₀ s)
    (hf : ∀ u a, WordsStay s₀ u → WordsStay s₀ (f u a)) : WordsStay s₀ (s.each l f) := by
  induction l generalizing s with
  | nil => exact h
  | cons a l ih => exact ih (hf _ _ h)

/-! ### Repairs (R444, R445) -/

theorem WordsStay.spareFails (h : WordsStay s₀ s) (b k : Nat) : WordsStay s₀ (s.spareFails b k) := (h.setSpare b k _).stage _

theorem WordsStay.degrade (h : WordsStay s₀ s) (b row : Nat) : WordsStay s₀ (s.degrade b row) :=
  ((h.wr _ 1).stage _).event _ _ _

theorem WordsStay.rowFails (h : WordsStay s₀ s) (b row : Nat) : WordsStay s₀ (s.rowFails b row).2 := by
  unfold State.rowFails
  extract_lets s1
  have h1 : WordsStay s₀ s1 := by
    unfold s1
    split
    · exact h.spareFails b _
    · exact h
  split
  · exact ((h1.setSpare b _ _).stage _).event _ _ _
  · exact h1.degrade b row

theorem WordsStay.marchPass (h : WordsStay s₀ s) (b algo bg : Nat) (reads : List MarchRead) :
    WordsStay s₀ (s.marchPass b algo bg reads).2 :=
  WordsStay.foldl_snd (h.each fun _ k hu => hu.spareFails b k) fun _ r hu => hu.rowFails b r

theorem WordsStay.marchBank (h : WordsStay s₀ s) (b algo bgs : Nat) (reads : List MarchRead) :
    WordsStay s₀ (s.marchBank b algo bgs reads).2 :=
  WordsStay.foldl_snd h fun _ bg hu => hu.marchPass b algo bg reads

/-! ### Steps and ends of tickets (R345, R353) -/

theorem WordsStay.cardEnd (h : WordsStay s₀ s) (i : Nat) : WordsStay s₀ (s.cardEnd i) := by
  unfold State.cardEnd
  split
  · exact ((h.withRun none).wr _ 0 |>.wr _ 0).ite h
  · exact h

theorem WordsStay.gwAnswer (h : WordsStay s₀ s) (k code : Nat) : WordsStay s₀ (s.gwAnswer k code) := by
  unfold State.gwAnswer
  extract_lets _ s1
  have h1 : WordsStay s₀ s1 := ⟨h.words, h.held⟩
  refine h.ite ?_
  split
  · exact h1.keeps (s1.glSend_keeps _ _) (by simp)
  · exact h1

theorem WordsStay.toWire (h : WordsStay s₀ s) (r : MapRow) (v : OdVal) : WordsStay s₀ (s.toWire r v).2 := by
  unfold State.toWire
  split
  · exact h
  · extract_lets
    split
    · exact h
    · exact ⟨h.words, h.held⟩

theorem WordsStay.toWireAll (h : WordsStay s₀ s) (rs : List MapRow) (vs : List OdVal) : WordsStay s₀ (s.toWireAll rs vs).2 := by
  induction rs generalizing s vs with
  | nil => exact h
  | cons r rs ih =>
    cases vs with
    | nil => exact h
    | cons v vs => exact ih (h.toWire r v) vs

theorem WordsStay.netFinal (h : WordsStay s₀ s) (i : Nat) : WordsStay s₀ (s.netFinal i) := by
  have hanswer {u : State} (hu : WordsStay s₀ u) (c code : Nat) (v : Option OdVal) : WordsStay s₀ (u.odAnswer c code v none) :=
    ⟨hu.words, hu.held⟩
  exact h.ite ((hanswer h _ _ _).ite ((hanswer h _ _ _).ite (hanswer (h.toWireAll _ _) _ _ _)))

theorem WordsStay.finish (h : WordsStay s₀ s) (i : Nat) (st : TkState) (code : Nat) (tag : Tag) (v : Nat) :
    WordsStay s₀ (s.finish i st code tag v) := by
  have hend := (h.cardEnd i).setTicket i { s.ticket i with
    state := st, code := code, resTag := tag, resVal := v, stepPending := false, readOnce := false, finalCommitted := false }
  have hstage := (hend.stage (.final (s.handleOf i) st code tag v)).ite (c := (s.ticket i).ledgered = true) hend
  exact (((hstage.wr _ _).ite hstage).gwAnswer _ _).netFinal i

theorem WordsStay.stepDone (h : WordsStay s₀ s) (i : Nat) (tag : Tag) (v : Nat) : WordsStay s₀ (s.stepDone i tag v) := by
  have hcommit : WordsStay s₀ (s.stepCommitted i tag v) :=
    ((h.setTicket i _).finish _ _ _ _ _).ite (((h.setTicket i _).finish _ _ _ _ _).ite (h.setTicket i _))
  exact (h.finish _ _ _ _ _).ite (((h.setTicket i _).stage _).ite hcommit)

end

/-! ### The march of a destructive run (R447) -/

/-- A key whose entries a filter drops reads as unlisted. -/
theorem Store.get_filter_dropped {α : Type} (d : α) (p : Nat × α → Bool) (m : Store α) (k : Nat) (h : ∀ v, p (k, v) = false) :
    Store.get d (m.filter p) k = d := by
  induction m with
  | nil => rfl
  | cons e m ih =>
    by_cases hp : p e = true
    · have hk : e.1 ≠ k := by
        rintro rfl
        exact absurd (hp.symm.trans (h e.2)) (by decide)
      rw [List.filter_cons_of_pos hp]
      exact (if_neg (fun hk' => hk hk'.symm)).trans ih
    · rw [List.filter_cons_of_neg hp]
      exact ih

/-- A cleared bank holds empty words. -/
theorem word_clearBank (s : State) (b o : Nat) (ho : o < 65536) : (s.clearBank b).word b o = {} := by
  have hbank : memKey b o / 65536 = b := by
    unfold memKey
    omega
  exact Store.get_filter_dropped _ _ _ _ fun v => by simp [hbank]

theorem word_congr {s t : State} (h : t.mem.mem = s.mem.mem) (b o : Nat) : t.word b o = s.word b o := by
  rw [State.word, h, State.word]

/-- The end of a destructive run for which no access waits clears its bank. -/
theorem word_runOver (s : State) (b o : Nat) (ho : o < 65536) (h : s.mem.held = []) : (s.runOver b).word b o = {} := by
  have hserve : (s.runOver b).mem.mem = (s.clearBank b).mem.mem := by
    unfold State.runOver State.serveAll
    rw [show (s.clearBank b).mem.held = [] from h]
    rfl
  exact (word_congr hserve b o).trans (word_clearBank s b o ho)

/-- The state in which the march of a destructive run ends, before its step is finished. -/
def State.marchOver (s : State) (r : CardRun) (reads : List MarchRead) : State :=
  ((s.marchBank r.bank r.algo r.bgs reads).2.wrIf (marchFailed r.bank r.algo r.bgs reads) Reg.CARDING_STAT_FAULT 1).runOver r.bank

theorem word_marchOver (s : State) (r : CardRun) (reads : List MarchRead) (h : s.mem.held = []) (o : Fin 65536) :
    (s.marchOver r reads).word r.bank o = {} := by
  have hmarch := (WordsStay.refl s).marchBank r.bank r.algo r.bgs reads
  exact word_runOver _ _ _ o.isLt (((hmarch.wr _ 1).ite hmarch).held.trans h)

theorem cardingBankMarch_held (s : State) (r : CardRun) (reads : List MarchRead) (hrun : s.mem.run = some r)
    (hd : r.destructive = true) (ho : s.stepOpen r.slot = true) (hh : s.cardHeld = true) (hw : s.mem.held = []) :
    Answers (.cardingBankMarch reads) s fun t =>
      t.mem.run = none ∧ (∀ o : Fin 65536, t.word r.bank o = {}) ∧ t.rd Reg.CARDING_STAT_BUSY = 0 := by
  have hout : exec (.cardingBankMarch reads) s =
      .next (((s.marchOver r reads).wr (Reg.MEM_BANK_STAT_CARDING.at r.bank) 0).withRun none).cardView := by
    change execCardingBankMarch reads s = _
    simp [execCardingBankMarch, hrun, hd, ho, hh, State.marchOver, State.withRun]
  refine ⟨_, hout, ?_, fun o => ?_, cardView_busy_none _⟩
  · rw [cardView_mem]
    rfl
  · rw [State.word, cardView_mem]
    exact word_marchOver s r reads hw o

/-- The end of the last bank of a run leaves the words of memory. -/
theorem WordsStay.cardBankDone {s₀ s : State} (h : WordsStay s₀ s) (r : CardRun) (hb : r.banks = []) :
    WordsStay s₀ (s.cardBankDone r) := by
  have hstep := (h.wr (Reg.MEM_BANK_STAT_CARDING.at r.bank) 0).stepDone r.slot .uint r.mapped
  have hover := (hstep.withRun none).cardView
  refine WordsStay.ite ?_ hover
  unfold State.cardBank
  rw [hb]
  exact hover

theorem cardingBankMarch_lastBank (s : State) (r : CardRun) (reads : List MarchRead) (hrun : s.mem.run = some r)
    (hd : r.destructive = true) (ho : s.stepOpen r.slot = true) (hh : s.cardHeld = false) (hw : s.mem.held = [])
    (hb : r.banks = []) : Answers (.cardingBankMarch reads) s fun t => ∀ o : Fin 65536, t.word r.bank o = {} := by
  have hout : exec (.cardingBankMarch reads) s = .next ((s.marchOver r reads).cardBankDone
      { r with mapped := r.mapped + (s.marchBank r.bank r.algo r.bgs reads).1 }) := by
    change execCardingBankMarch reads s = _
    simp [execCardingBankMarch, hrun, hd, ho, hh, State.marchOver]
  refine ⟨_, hout, fun o => ?_⟩
  have hdone := (WordsStay.refl (s.marchOver r reads)).cardBankDone
    { r with mapped := r.mapped + (s.marchBank r.bank r.algo r.bgs reads).1 } hb
  exact (word_congr hdone.words r.bank o).trans (word_marchOver s r reads hw o)

/-- Settles O11: a slot that is taken moves the scrubber or the run on, a deferred one only counts, and the end of a destructive march
filters its bank out of the store. -/
theorem scrubAndCarding : Obligations.ScrubAndCarding :=
  ⟨fun s b beaten hon hfree hp hc => scrubStep_clean s b beaten hon hfree hp hc,
    fun s b beaten hon hfree hd => scrubStep_deferred s b beaten hon hfree hd,
    fun s r n rest reads hrun hd hf hh ho hsegs hrest hempty =>
      cardingSegmentStep_preserving s r n rest reads hrun hd hf hh ho hsegs hrest hempty,
    fun s r reads hrun hd ho hh hw => cardingBankMarch_held s r reads hrun hd ho hh hw,
    fun s r reads hrun hd ho hh hw _ hb => cardingBankMarch_lastBank s r reads hrun hd ho hh hw hb⟩

end Sys2Proof.Machine

/-! ## Scope: the die link -/

namespace Sys2Proof.Machine

/-! ### Sample frames (R31, R36, R156) -/

/-- A mains sense sample is the newest of its input. -/
theorem msSample_head (s : State) (k x : Nat) :
    ((s.msSample k x).ms k).samples.head? = some (s.cycle - senseLatency, x) := by
  unfold State.msSample
  extract_lets m q keep l h rise m1
  have hput : (s.setMs k m1).ms k = m1 := Store.get_set_same _ _ _ _
  rw [hput]
  unfold m1
  split
  · rfl
  split <;> rfl

/-- A mains sense sample changes its input alone. -/
theorem msSample_ms_ne (s : State) (k j x : Nat) (h : j ≠ k) : (s.msSample k x).ms j = s.ms j :=
  Store.get_set_ne _ _ _ _ h

theorem msSample_keeps (s : State) (k x : Nat) : Keeps [.trd] s (s.msSample k x) := by
  intro p
  cases p <;> simp [Part.same, State.msSample, State.setMs]

/-- The state in which channel `ch` has taken the sample `v`. -/
def State.takeSample (s : State) (ch : Nat) (v : Option Int) : State :=
  { s with pwm := { s.pwm with samples := s.pwm.samples.upd [] ch (fun l => v :: l.take 2) } }

theorem takeSample_get (s : State) (ch : Nat) (v : Option Int) :
    (s.takeSample ch v).pwm.samples.get [] ch = v :: (s.pwm.samples.get [] ch).take 2 := by
  simp [State.takeSample, Store.upd]

theorem takeSample_get_ne (s : State) (ch k : Nat) (v : Option Int) (h : k ≠ ch) :
    (s.takeSample ch v).pwm.samples.get [] k = s.pwm.samples.get [] k := by
  simp [State.takeSample, Store.upd, Store.get_set_ne _ _ _ _ h]

theorem takeSample_keeps (s : State) (ch : Nat) (v : Option Int) : Keeps [.pwm] s (s.takeSample ch v) := by
  intro p
  cases p <;> simp [Part.same, State.takeSample]

/-- A sample frame puts the sample, or its invalid mark, in front of its channel; only a valid one of slot 0 reaches mains sense. -/
theorem exec_sampleFrame (s : State) (c : Fin 4) (slot : Fin 50) (x : Fin 4) (code : Int) (ok : Bool) :
    exec (.sampleFrame c slot x code ok) s = .next
      (if ok = true ∧ s.rd Reg.SYS_DLSTAT_DOWN = 0 then
        if slot = 0 then (s.takeSample (slotChannel c slot x) (some code)).msSample c code.toNat
        else s.takeSample (slotChannel c slot x) (some code)
      else (s.takeSample (slotChannel c slot x) none).wr Reg.SYS_DLSTAT_SAMPLE_BAD 1) := by
  change execSampleFrame c slot x code ok s = _
  have hslot : slot.val = 0 ↔ slot = 0 := Fin.val_eq_zero_iff
  by_cases hgood : ok = true ∧ s.rd Reg.SYS_DLSTAT_DOWN = 0
  · have hbad : (!ok || s.on Reg.SYS_DLSTAT_DOWN) = false := by simp [State.on, hgood]
    simp only [execSampleFrame, hbad, Bool.false_eq_true, if_false, if_pos hgood, hslot, State.takeSample]
  · have hbad : (!ok || s.on Reg.SYS_DLSTAT_DOWN) = true := by
      cases ok <;> simp_all [State.on]
    simp only [execSampleFrame, hbad, if_true, if_neg hgood, State.takeSample]

theorem sampleFrame_taken (s : State) (c : Fin 4) (slot : Fin 50) (x : Fin 4) (code : Int) (ok : Bool) :
    Answers (.sampleFrame c slot x code ok) s fun t =>
      t.pwm.samples.get [] (slotChannel c slot x) =
        (if ok = true ∧ s.rd Reg.SYS_DLSTAT_DOWN = 0 then some code else none) ::
          (s.pwm.samples.get [] (slotChannel c slot x)).take 2 ∧
      (∀ k : Fin 28, k.val ≠ slotChannel c slot x → t.pwm.samples.get [] k = s.pwm.samples.get [] k) ∧
      (ok = false ∨ s.rd Reg.SYS_DLSTAT_DOWN ≠ 0 → t.rd Reg.SYS_DLSTAT_SAMPLE_BAD = 1) ∧
      (slot ≠ 0 ∨ ok = false ∨ s.rd Reg.SYS_DLSTAT_DOWN ≠ 0 → t.trd = s.trd) ∧
      (slot = 0 → ok = true → s.rd Reg.SYS_DLSTAT_DOWN = 0 →
        (t.ms c).samples.head? = some (s.cycle - senseLatency, code.toNat) ∧ (∀ k : Fin 4, k ≠ c → t.ms k = s.ms k)) ∧
      KeepsBut [Reg.SYS_DLSTAT_SAMPLE_BAD] [.pwm, .trd] s t := by
  refine ⟨_, exec_sampleFrame s c slot x code ok, ?_⟩
  have htake (v : Option Int) : KeepsBut [Reg.SYS_DLSTAT_SAMPLE_BAD] [.pwm, .trd] s (s.takeSample (slotChannel c slot x) v) :=
    (KeepsBut.refl _ _ s).part ((takeSample_keeps s _ v).mono (by simp)) (by simp)
  by_cases hgood : ok = true ∧ s.rd Reg.SYS_DLSTAT_DOWN = 0
  · have hbad : ¬(ok = false ∨ s.rd Reg.SYS_DLSTAT_DOWN ≠ 0) := by simp [hgood]
    by_cases hslot : slot = 0
    · simp only [if_pos hgood, if_pos hslot]
      exact ⟨takeSample_get _ _ _, fun k hk => takeSample_get_ne _ _ _ _ hk, fun h => absurd h hbad,
        fun h => (h.elim (absurd hslot) fun h => absurd h hbad),
        fun _ _ _ => ⟨msSample_head _ _ _, fun k hk => msSample_ms_ne _ _ _ _ fun h => hk (Fin.ext h)⟩,
        (htake _).part ((msSample_keeps _ _ _).mono (by simp)) (by simp)⟩
    · simp only [if_pos hgood, if_neg hslot]
      exact ⟨takeSample_get _ _ _, fun k hk => takeSample_get_ne _ _ _ _ hk, fun h => absurd h hbad, fun _ => rfl,
        fun h => absurd h hslot, htake _⟩
  · simp only [if_neg hgood]
    have hbad : ok = true → s.rd Reg.SYS_DLSTAT_DOWN ≠ 0 := fun h h' => hgood ⟨h, h'⟩
    exact ⟨takeSample_get _ _ _, fun k hk => takeSample_get_ne _ _ _ _ hk, fun _ => State.rd_wr_same _ _ _, fun _ => rfl,
      fun _ h h' => absurd h' (hbad h), (htake none).wr _ 1 (by simp)⟩

/-! ### Lanes (R35 to R37) -/

section
variable (l : DieLink) (k : Fin 2) (up : Bool) (tries : Nat) (trying : Bool)

@[simp] theorem DieLink.put_up : (l.put k up tries trying).up k = up := by fin_cases k <;> rfl
@[simp] theorem DieLink.put_tries : (l.put k up tries trying).tries k = tries := by fin_cases k <;> rfl
@[simp] theorem DieLink.put_trying : (l.put k up tries trying).trying k = trying := by fin_cases k <;> rfl
@[simp] theorem DieLink.put_up_other : (l.put k up tries trying).up (1 - k) = l.up (1 - k) := by fin_cases k <;> rfl
end

/-- The state with lane `k` put. -/
def State.withLane (s : State) (k : Fin 2) (up : Bool) (tries : Nat) (trying : Bool) : State :=
  { s with link := s.link.put k up tries trying }

@[simp] theorem withLane_link (s : State) (k : Fin 2) (up : Bool) (tries : Nat) (trying : Bool) :
    (s.withLane k up tries trying).link = s.link.put k up tries trying := rfl

theorem withLane_keeps (s : State) (k : Fin 2) (up : Bool) (tries : Nat) (trying : Bool) :
    Keeps [.link] s (s.withLane k up tries trying) := by
  intro p
  cases p <;> simp [Part.same, State.withLane]

/-- UP, DEGRADED and DOWN follow either lane and the other. -/
theorem linkView_flags (s : State) (k : Fin 2) :
    s.linkView.rd Reg.SYS_DLSTAT_UP = b2n (s.link.up k || s.link.up (1 - k)) ∧
      s.linkView.rd Reg.SYS_DLSTAT_DEGRADED = b2n (s.link.up k != s.link.up (1 - k)) ∧
      s.linkView.rd Reg.SYS_DLSTAT_DOWN = b2n (!s.link.up k && !s.link.up (1 - k)) := by
  have hflag (b : Bool) : b2n b % 2 = b2n b := by cases b <;> rfl
  have heither : (s.link.up0 || s.link.up1) = (s.link.up k || s.link.up (1 - k)) ∧
      (s.link.up0 != s.link.up1) = (s.link.up k != s.link.up (1 - k)) ∧
      (!s.link.up0 && !s.link.up1) = (!s.link.up k && !s.link.up (1 - k)) := by
    fin_cases k
    · exact ⟨rfl, rfl, rfl⟩
    · exact ⟨Bool.or_comm _ _, bne_comm, Bool.and_comm _ _⟩
  obtain ⟨hup, hdeg, hdown⟩ := heither
  refine ⟨?_, ?_, ?_⟩
  · refine (State.rd_wr_ne _ _ _ _ (by decide)).trans ((State.rd_wr_ne _ _ _ _ (by decide)).trans ?_)
    rw [State.rd_wr_same, hup]
    exact hflag _
  · refine (State.rd_wr_ne _ _ _ _ (by decide)).trans ?_
    rw [State.rd_wr_same, hdeg]
    exact hflag _
  · refine (State.rd_wr_same _ _ _).trans ?_
    rw [hdown]
    exact hflag _

/-- The fields that show the lanes. -/
def laneFields : List Field := [Reg.SYS_DLSTAT_UP, Reg.SYS_DLSTAT_DEGRADED, Reg.SYS_DLSTAT_DOWN]

theorem linkView_keepsBut (s : State) : KeepsBut laneFields [] s s.linkView :=
  (((KeepsBut.refl _ _ s).wr _ _ (by simp [laneFields])).wr _ _ (by simp [laneFields])).wr _ _ (by simp [laneFields])

theorem laneFailure_up (s : State) (k : Fin 2) (h : s.link.up k = true) : Answers (.laneFailure k) s fun t =>
    t.link.up k = false ∧ t.link.tries k = 0 ∧ t.link.up (1 - k) = s.link.up (1 - k) ∧
      t.rd Reg.SYS_DLSTAT_DOWN = b2n (!s.link.up (1 - k)) ∧ t.rd Reg.SYS_DLSTAT_DEGRADED = b2n (s.link.up (1 - k)) ∧
      t.rd Reg.SYS_DLSTAT_UP = b2n (s.link.up (1 - k)) ∧ KeepsBut laneFields [.link] s t := by
  have hout : exec (.laneFailure k) s = .next (s.withLane k false 0 false).linkView := by
    change execLaneFailure k s = _
    simp [execLaneFailure, h, State.withLane]
  obtain ⟨hup, hdeg, hdown⟩ := linkView_flags (s.withLane k false 0 false) k
  refine ⟨_, hout, DieLink.put_up _ _ _ _ _, DieLink.put_tries _ _ _ _ _, DieLink.put_up_other _ _ _ _ _, ?_, ?_, ?_, ?_⟩
  · simp [hdown]
  · simp [hdeg]
  · simp [hup]
  · exact ((KeepsBut.refl _ _ s).part (withLane_keeps s k false 0 false) (by simp)).trans
      ((linkView_keepsBut _).mono (fun _ hf => hf) (by simp))

theorem retrainAttempt_starts (s : State) (k : Fin 2) (hu : s.link.up k = false) (ht : s.link.trying k = false) :
    Answers (.retrainAttempt k) s fun t =>
      t.link.trying k = true ∧ t.link.tries k = s.link.tries k + 1 ∧ t.link.up (1 - k) = s.link.up (1 - k) ∧ Keeps [.link] s t := by
  have hout : exec (.retrainAttempt k) s = .next (s.withLane k false (s.link.tries k + 1) true) := by
    change execRetrainAttempt k s = _
    simp [execRetrainAttempt, hu, ht, State.withLane]
  exact ⟨_, hout, DieLink.put_trying _ _ _ _ _, DieLink.put_tries _ _ _ _ _, DieLink.put_up_other _ _ _ _ _,
    withLane_keeps _ _ _ _ _⟩

theorem retrainAttemptEnd_trying (s : State) (k : Fin 2) (trained : Bool) (h : s.link.trying k = true) :
    Answers (.retrainAttemptEnd k trained) s fun t =>
      t.link.trying k = false ∧ t.link.up k = trained ∧ t.link.up (1 - k) = s.link.up (1 - k) ∧
        t.rd Reg.SYS_DLSTAT_RETRAINS =
          (if trained then satInc 255 (s.rd Reg.SYS_DLSTAT_RETRAINS) % 256 else s.rd Reg.SYS_DLSTAT_RETRAINS) ∧
        KeepsBut (laneFields ++ [Reg.SYS_DLSTAT_RETRAINS]) [.link] s t := by
  cases trained with
  | false =>
    have hout : exec (.retrainAttemptEnd k false) s = .next (s.withLane k false (s.link.tries k) false) := by
      change execRetrainAttemptEnd k false s = _
      simp [execRetrainAttemptEnd, h, State.withLane]
    exact ⟨_, hout, DieLink.put_trying _ _ _ _ _, DieLink.put_up _ _ _ _ _, DieLink.put_up_other _ _ _ _ _, rfl,
      (KeepsBut.refl _ _ s).part (withLane_keeps _ _ _ _ _) (by simp)⟩
  | true =>
    have hout : exec (.retrainAttemptEnd k true) s =
        .next ((s.withLane k true 0 false).linkView.inc Reg.SYS_DLSTAT_RETRAINS) := by
      change execRetrainAttemptEnd k true s = _
      simp [execRetrainAttemptEnd, h, State.withLane]
    have hview := linkView_keepsBut (s.withLane k true 0 false)
    have hrd : (s.withLane k true 0 false).linkView.rd Reg.SYS_DLSTAT_RETRAINS = s.rd Reg.SYS_DLSTAT_RETRAINS :=
      (hview.1 Reg.SYS_DLSTAT_RETRAINS).resolve_left (by decide)
    refine ⟨_, hout, DieLink.put_trying _ _ _ _ _, DieLink.put_up _ _ _ _ _, DieLink.put_up_other _ _ _ _ _, ?_, ?_⟩
    · rw [State.inc, State.rd_wr_same, hrd]
      rfl
    · exact (((KeepsBut.refl _ _ s).part (withLane_keeps s k true 0 false) (by simp)).trans
        (hview.mono (fun _ hf => List.mem_append_left _ hf) (by simp))).wr _ _ (by simp)

/-! ### The die link carries an access (R33, R34, R36) -/

/-- An address of the companion die lies in a register block, past the memory regions and the program words of the Heddles. -/
theorem companion_region {a : Nat} (h : companion a = true) : 0x40090000 ≤ a ∧ a < 0x400B0000 := by
  simpa [companion] using h

theorem companion_inBlock {a : Nat} (h : companion a = true) : inBlock a = true := by
  have hreg := companion_region h
  simp only [inBlock, Bool.and_eq_true, decide_eq_true_eq, Bool.not_eq_true', Bool.and_eq_false_iff, decide_eq_false_iff_not]
  omega

/-- The state in which a frame has been carried after `crc` failures. -/
def State.carried (s : State) (crc : Nat) : State :=
  { s.wrIf (decide (0 < crc)) Reg.SYS_DLSTAT_REG_RETRY 1 with linkAnswer := .ok }

theorem linkCarry_up (s : State) {a crc : Nat} (h : companion a = true) (hl : s.dlDown = false) (hc : crc < 2) :
    s.linkCarry a crc = (0, s.carried crc) := by
  simp [State.linkCarry, State.carried, h, hl, Nat.not_le.2 hc]

theorem linkCarry_fails (s : State) {a : Nat} (h : companion a = true) (hl : s.dlDown = false) :
    s.linkCarry a 2 = (0x16, { s.wr Reg.SYS_DLSTAT_REG_RETRY 1 with linkAnswer := .linkError }) := by
  simp [State.linkCarry, h, hl]

theorem linkCarry_down (s : State) {a : Nat} (crc : Nat) (h : companion a = true) (hl : s.dlDown = true) :
    s.linkCarry a crc = (0x17, { s with linkAnswer := .linkDown }) := by
  simp [State.linkCarry, h, hl]

theorem carried_keepsBut (s : State) (crc : Nat) : KeepsBut [Reg.SYS_DLSTAT_REG_RETRY] [.linkAnswer] s (s.carried crc) := by
  have hretry : KeepsBut [Reg.SYS_DLSTAT_REG_RETRY] [.linkAnswer] s (s.wrIf (decide (0 < crc)) Reg.SYS_DLSTAT_REG_RETRY 1) := by
    unfold State.wrIf
    split
    · exact (KeepsBut.refl _ _ s).wr _ 1 (by simp)
    · exact KeepsBut.refl _ _ s
  exact hretry.part (fun p => by cases p <;> simp [Part.same, State.carried]) (by simp)

/-- The second attempt of a frame sets REG_RETRY. -/
theorem carried_retry (s : State) : (s.carried 1).rd Reg.SYS_DLSTAT_REG_RETRY = 1 := State.rd_wr_same _ _ 1

theorem expertWrite_uncarried (s : State) {a : Nat} (v src crc : Nat) (w : Writer) (ha : a % 4 = 0) (h : companion a = true)
    (hl : (s.linkCarry a crc).1 ≠ 0) : s.expertWrite a v w src crc = s.linkCarry a crc := by
  obtain ⟨h1, h2, h3⟩ := inBlock_not_memory (companion_inBlock h)
  simp [State.expertWrite, ha, h1, h2, h3, companion_inBlock h, hl]

theorem expertRead_uncarried (s : State) {a : Nat} (src crc : Nat) (ha : a % 4 = 0) (h : companion a = true)
    (hl : (s.linkCarry a crc).1 ≠ 0) :
    s.expertRead a src crc = ((s.linkCarry a crc).1, 0, (s.linkCarry a crc).2) := by
  obtain ⟨h1, h2, h3⟩ := inBlock_not_memory (companion_inBlock h)
  simp [State.expertRead, ha, h1, h2, h3, companion_inBlock h, hl]

/-- A write that is carried to a companion register is the register's write. -/
theorem expertWrite_carried (s : State) {a : Nat} (v src crc : Nat) (w : Writer) (x : RegSpec × Nat × Nat) (ha : a % 4 = 0)
    (h : companion a = true) (hl : s.dlDown = false) (hc : crc < 2) (hf : findReg a = some x) :
    s.expertWrite a v w src crc = (s.carried crc).regWriteJ x.1 x.2.1 x.2.2 a (v % 2 ^ 32) w := by
  obtain ⟨h1, h2, h3⟩ := inBlock_not_memory (companion_inBlock h)
  have hwindow : ¬(0x40082000 ≤ a ∧ a < 0x40082400) := by
    have := companion_region h
    omega
  simp [State.expertWrite, ha, h1, h2, h3, companion_inBlock h, linkCarry_up s h hl hc, hwindow, hf]

/-- A read that is carried to a companion register is the register's read. -/
theorem expertRead_carried (s : State) {a : Nat} (src crc : Nat) (x : RegSpec × Nat × Nat) (ha : a % 4 = 0)
    (h : companion a = true) (hl : s.dlDown = false) (hc : crc < 2) (hf : findReg a = some x) :
    s.expertRead a src crc =
      (0, ((s.carried crc).regRead x.1 x.2.1 x.2.2 a).1, ((s.carried crc).regRead x.1 x.2.1 x.2.2 a).2) := by
  obtain ⟨h1, h2, h3⟩ := inBlock_not_memory (companion_inBlock h)
  have hwindow : ¬(0x40082000 ≤ a ∧ a < 0x40082400) ∧ ¬(0x4003A000 ≤ a ∧ a < 0x40040000) := by
    have := companion_region h
    omega
  simp [State.expertRead, ha, h1, h2, h3, companion_inBlock h, linkCarry_up s h hl hc, hwindow, hf]

/-! ### The two forms of the command -/

theorem exec_companionWrite (s : State) (a v : Word) (w : Writer) (crc : Fin 3) (h : s.mayAccess w = true) :
    exec (.companionRegisterAccess a (some v) w crc) s =
      .next ((s.expertWrite a.toNat v.toNat w 2 crc).2.answer (s.expertWrite a.toNat v.toNat w 2 crc).1) := by
  change execCompanionRegisterAccess a (some v) w crc s = _
  simp [execCompanionRegisterAccess, h]

/-- The state in which an access has answered `code` and a value read. -/
def State.answerRead (s : State) (code v : Nat) : State := { s.answer code with readData := BitVec.ofNat 32 v }

theorem exec_companionRead (s : State) (a : Word) (w : Writer) (crc : Fin 3) (h : s.mayAccess w = true) :
    exec (.companionRegisterAccess a none w crc) s = .next ((s.expertRead a.toNat 2 crc).2.2.answerRead
      (s.expertRead a.toNat 2 crc).1 (s.expertRead a.toNat 2 crc).2.1) := by
  change execCompanionRegisterAccess a none w crc s = _
  simp [execCompanionRegisterAccess, h, State.answerRead]

theorem answerRead_keeps (s : State) (code v : Nat) : Keeps [.od, .readData] s (s.answerRead code v) := by
  intro p
  cases p <;> simp [Part.same, State.answerRead, State.answer]

/-- An access that the link does not carry changes what the link leaves, and answers its code. -/
theorem companionAccess_uncarried (s u : State) (a : Word) (v : Option Word) (w : Writer) (crc : Fin 3) (code : Nat)
    (h : s.mayAccess w = true) (ha : a.toNat % 4 = 0) (hc : companion a.toNat = true)
    (hl : s.linkCarry a.toNat crc = (code, u)) (h0 : code ≠ 0) :
    Answers (.companionRegisterAccess a v w crc) s fun t =>
      t.od.answer.code = code ∧ t.linkAnswer = u.linkAnswer ∧ (∀ f, t.rd f = u.rd f) ∧ Keeps [.od, .readData] u t := by
  have hne : (s.linkCarry a.toNat crc).1 ≠ 0 := by rwa [hl]
  cases v with
  | none =>
    refine ⟨_, exec_companionRead s a w crc h, ?_⟩
    rw [expertRead_uncarried s 2 crc ha hc hne, hl]
    exact ⟨rfl, rfl, fun _ => rfl, answerRead_keeps _ _ _⟩
  | some v =>
    refine ⟨_, exec_companionWrite s a v w crc h, ?_⟩
    rw [expertWrite_uncarried s v.toNat 2 crc w ha hc hne, hl]
    exact ⟨rfl, rfl, fun _ => rfl, (u.answer_keeps code).mono (by simp)⟩

/-! ### No register of the companion die touches what the link answers -/

/-- What the link answered of a frame stays: the answer and the flag of a second attempt. -/
structure LinkKept (s t : State) : Prop where
  answer : t.linkAnswer = s.linkAnswer
  retry : t.rd Reg.SYS_DLSTAT_REG_RETRY = s.rd Reg.SYS_DLSTAT_REG_RETRY

section
variable {s t u : State}

theorem LinkKept.refl (s : State) : LinkKept s s := ⟨rfl, rfl⟩

theorem LinkKept.trans (h : LinkKept s t) (k : LinkKept t u) : LinkKept s u :=
  ⟨k.answer.trans h.answer, k.retry.trans h.retry⟩

/-- A frame that lists neither the answer nor the flag. -/
theorem LinkKept.of_keepsBut {fs : List Field} {l : List Part} (h : KeepsBut fs l s t)
    (hf : ∀ f ∈ fs, f.key ≠ Reg.SYS_DLSTAT_REG_RETRY.key) (hl : Part.linkAnswer ∉ Part.regs :: l) : LinkKept s t := by
  refine ⟨(h.2 .linkAnswer).resolve_left hl, (h.1 Reg.SYS_DLSTAT_REG_RETRY).resolve_left fun hm => ?_⟩
  obtain ⟨f, hm, hk⟩ := List.mem_map.1 hm
  exact hf f hm hk

theorem LinkKept.wr (h : LinkKept s t) (f : Field) (v : Nat) (hf : Reg.SYS_DLSTAT_REG_RETRY.key ≠ f.key) : LinkKept s (t.wr f v) :=
  h.trans ⟨rfl, t.rd_wr_ne f _ v hf⟩

/-- A change outside the register file and the answer. -/
theorem LinkKept.other (h : LinkKept s t) (ha : u.linkAnswer = t.linkAnswer) (hr : u.regs = t.regs) : LinkKept s u :=
  h.trans ⟨ha, by rw [State.rd, State.rd, hr]⟩

theorem LinkKept.stage (h : LinkKept s t) (b : JBody) : LinkKept s (t.stage b) :=
  h.other ((t.stage_keeps b .linkAnswer).resolve_left (by simp)) ((t.stage_keeps b .regs).resolve_left (by simp))

theorem LinkKept.event (h : LinkKept s t) (code src : Nat) (data : List Nat) : LinkKept s (t.event code src data) :=
  h.trans (.of_keepsBut (fs := [Reg.HOSTPORT_INTSTAT_INTSTAT]) (l := [.tk, .jr, .gl, .marks])
    ((KeepsBut.refl _ _ t).event code src data (by simp) (by simp) (by simp)) (by decide) (by simp))

theorem LinkKept.each {α : Type} (h : LinkKept s t) (l : List α) (f : State → α → State) (hf : ∀ v x, LinkKept v (f v x)) :
    LinkKept s (t.each l f) := by
  induction l generalizing t with
  | nil => exact h
  | cons x l ih => exact ih (h.trans (hf t x))

theorem LinkKept.jStage (h : LinkKept s t) (before : State) (r : RegSpec) (i a : Nat) : LinkKept s (t.jStage before r i a) :=
  h.each _ _ fun v _ => (LinkKept.refl v).stage _

theorem LinkKept.onBit (h : LinkKept s t) (v k : Nat) (f : State → State) (hf : ∀ u, LinkKept u (f u)) :
    LinkKept s (t.onBit v k f) := by
  unfold State.onBit
  split
  · exact h.trans (hf t)
  · exact h

end

section
variable (s : State)

/-! #### The fan -/

theorem fanTo_linkKept (n : Nat) : LinkKept s (s.fanTo n) :=
  ((LinkKept.refl s).other (u := s.mark .fan) rfl rfl).wr _ _ (by decide)

theorem fanOff_linkKept : LinkKept s s.fanOff := (fanTo_linkKept s 0).other rfl rfl

theorem fanDemandChange_linkKept : LinkKept s s.fanDemandChange := by
  unfold State.fanDemandChange
  split
  · exact .refl s
  split
  · exact fanTo_linkKept s 1
  split
  · exact fanOff_linkKept s
  · exact .refl s

theorem fanClear_linkKept : LinkKept s s.fanClear := by
  have hcount : LinkKept s (s.wr Reg.FAN_STAT_ATTEMPTS 0) := (LinkKept.refl s).wr _ _ (by decide)
  unfold State.fanClear
  split
  · exact (hcount.wr _ 0 (by decide)).trans (fanOff_linkKept _)
  · exact hcount

theorem fanDuty_linkKept (duty iref : Nat) : LinkKept s (s.fanDuty duty iref) := by
  have hduty : LinkKept s (((s.mark .fanDuty).wr Reg.FAN_DUTY_DUTY duty).wr Reg.FAN_DUTY_IREF iref) :=
    (((LinkKept.refl s).other (u := s.mark .fanDuty) rfl rfl).wr _ _ (by decide)).wr _ _ (by decide)
  unfold State.fanDuty
  split
  · exact hduty.trans (fanTo_linkKept _ _)
  · exact hduty

/-- A write of FAN.DUTY while the link is up is not refused. -/
theorem execFanDutyWrite_linkKept (v : Word) (h : s.dlDown = false) : LinkKept s (stateOf s (execFanDutyWrite v s)) := by
  simp only [execFanDutyWrite, State.overLink, h, stateOf]
  exact fanDuty_linkKept s _ _

theorem guardRelease_linkKept : LinkKept s s.guardRelease := by
  have hclear : LinkKept s ((s.wr Reg.THERMAL_GUARD_ASSERTED 0).wr Reg.THERMAL_GUARD_COOLING 0) :=
    ((LinkKept.refl s).wr _ 0 (by decide)).wr _ 0 (by decide)
  unfold State.guardRelease
  refine LinkKept.event ?_ _ _ _
  exact hclear.other rfl rfl

theorem guardAck_linkKept : LinkKept s s.guardAck := by
  unfold State.guardAck
  split
  · exact .refl s
  split
  · exact guardRelease_linkKept s
  · exact (LinkKept.refl s).other rfl rfl

/-! #### The clock -/

theorem rtcSet_linkKept : LinkKept s s.rtcSet := (LinkKept.refl s).other rfl rfl

/-- A write of LOCAL.OFFSET, or its refusal (R946). -/
theorem offsetWrite_linkKept (v : Int) : ∀ t ∈ s.offsetWrite v, LinkKept s t := by
  intro t ht
  obtain ⟨-, rfl⟩ := Option.ite_some_none_eq_some.1 ht
  exact (LinkKept.refl s).wr _ _ (by decide)

theorem summer_linkKept (on : Bool) : LinkKept s (s.summer on).1 := by
  unfold State.summer
  dsimp only
  split
  · exact (LinkKept.refl s).wr _ _ (by decide)
  split
  · exact (LinkKept.refl s).wr _ _ (by decide)
  case h_2 t ht => exact (offsetWrite_linkKept s _ t ht).wr _ _ (by decide)

theorem alarmLo_linkKept (v : Nat) : LinkKept s (s.alarmLo v) :=
  ((LinkKept.refl s).wr _ _ (by decide)).wr _ _ (by decide)

theorem alarmHi_linkKept (v : Nat) : LinkKept s (s.alarmHi v) :=
  ((LinkKept.refl s).wr _ _ (by decide)).wr _ _ (by decide)

theorem periodWrite_linkKept (v : Nat) : LinkKept s (s.periodWrite v) := by
  unfold State.periodWrite
  split
  · exact ((LinkKept.refl s).wr _ _ (by decide)).other rfl rfl
  · exact .refl s

theorem cntloRead_linkKept : LinkKept s s.cntloRead :=
  ((LinkKept.refl s).wr _ _ (by decide)).other rfl rfl

end

/-! #### The registers of the companion die -/

/-- A register group of the map that lies in a block of the companion die. -/
structure RegSpec.OnCompanion (r : RegSpec) : Prop where
  mem : r ∈ Reg.table
  lower : 0x40090000 ≤ r.base
  upper : r.base < 0x400B0000

/-- No register group reaches into the blocks of the companion die from below, and no field lies below its group. -/
theorem table_companion : ∀ r ∈ Reg.table,
    if r.base < 0x40090000 then r.base + r.n1 * r.s1 + r.n2 * r.s2 < 0x40090000 else ∀ f ∈ r.fields, 0x40090000 ≤ f.addr := by
  decide +kernel

/-- The register found at an address of the companion die lies there. -/
theorem findReg_onCompanion {a : Nat} {x : RegSpec × Nat × Nat} (hf : findReg a = some x) (h : companion a = true) :
    x.1.OnCompanion := by
  obtain ⟨hr, hat⟩ := findReg_eq_some hf
  obtain ⟨ha, hi, hj⟩ := RegSpec.at?_eq_some hat
  obtain ⟨hlo, hhi⟩ := companion_region h
  have hi' := Nat.mul_le_mul_right x.1.s1 hi.le
  have hj' := Nat.mul_le_mul_right x.1.s2 hj.le
  refine ⟨hr, Nat.le_of_not_lt fun hlt => ?_, by omega⟩
  have := table_companion _ hr
  rw [if_pos hlt] at this
  omega

section
variable (s : State) {r : RegSpec} (i j v a : Nat) (hr : r.OnCompanion)
include hr

/-- The flag of a second attempt is no field of a companion register. -/
theorem companion_key_ne (f : Field) (hf : f ∈ r.fields) : (f.at2 i j).key ≠ Reg.SYS_DLSTAT_REG_RETRY.key := by
  have := table_companion r hr.mem
  rw [if_neg (Nat.not_lt.2 hr.lower)] at this
  have haddr := this f hf
  simp only [Field.key, Field.at2, Reg.SYS_DLSTAT_REG_RETRY]
  omega

theorem fields_linkKept {t : State} (h : KeepsBut (r.fields.map (·.at2 i j)) [] s t) : LinkKept s t := by
  refine .of_keepsBut h (fun g hg => ?_) (by simp)
  obtain ⟨f, hf, rfl⟩ := List.mem_map.1 hg
  exact companion_key_ne i j hr f hf

theorem regStore_linkKept : LinkKept s (s.regStore r i j v) :=
  fields_linkKept s i j hr (regStore_keepsBut s r i j v _ fun _ hf _ => List.mem_map_of_mem hf)

theorem rcClear_linkKept : LinkKept s (s.rcClear r i j) :=
  fields_linkKept s i j hr (rcClear_keepsBut s r i j _ fun _ hf _ => List.mem_map_of_mem hf)

theorem writeStage_companion_linkKept (h : s.dlDown = false) : ∀ t ∈ s.writeStage r i v, LinkKept s t := by
  have ⟨_, hlo, hhi⟩ := hr
  simp only [State.writeStage, if_neg (show ¬r.base = 0x40060118 by omega), if_neg (show ¬r.base = 0x40060400 by omega),
    if_neg (show ¬r.base = 0x40060804 by omega), if_neg (show ¬r.base = 0x40070110 by omega),
    if_neg (show ¬r.base = 0x400B0100 by omega), if_neg (show ¬r.base = 0x400B0304 by omega), Option.mem_def]
  intro t ht
  split at ht
  · obtain rfl := Option.some.inj ht
    exact (regStore_linkKept s i 0 v hr).trans (fanDemandChange_linkKept _)
  split at ht
  · obtain rfl := Option.some.inj ht
    exact (LinkKept.refl s).onBit _ _ _ fanClear_linkKept
  split at ht
  · obtain rfl := Option.some.inj ht
    exact execFanDutyWrite_linkKept s _ h
  split at ht
  · obtain rfl := Option.some.inj ht
    exact (LinkKept.refl s).onBit _ _ _ guardAck_linkKept
  split at ht
  · obtain rfl := Option.some.inj ht
    exact (((LinkKept.refl s).onBit _ _ _ rtcSet_linkKept).onBit _ _ _ (summer_linkKept · true)).onBit _ _ _ (summer_linkKept · false)
  split at ht
  · obtain rfl := Option.some.inj ht
    cases hoffset : s.offsetWrite (signed 31 (v / 2)) with
    | none => exact .refl s
    | some t => exact offsetWrite_linkKept s _ t hoffset
  split at ht
  · obtain rfl := Option.some.inj ht
    exact alarmLo_linkKept s v
  split at ht
  · obtain rfl := Option.some.inj ht
    exact alarmHi_linkKept s v
  split at ht
  · obtain rfl := Option.some.inj ht
    exact periodWrite_linkKept s v
  · cases ht

theorem regWrite_companion (w : Writer) :
    s.regWrite r i j v w = (0, (s.writeStage r i v).getD (s.regStore r i j v)) := by
  obtain ⟨-, hlo, hhi⟩ := hr
  have hcode : s.regRefused r.base i v = 0 := by
    have hgroup : within 0x40060100 0x40060114 r.base = false := by
      simp only [within, Bool.and_eq_false_iff, decide_eq_false_iff_not]
      omega
    rw [State.regRefused, hgroup, if_neg (by simp), if_neg (by omega)]
  unfold State.regWrite
  dsimp only
  rw [hcode, if_neg (by simp), if_neg (by omega), if_neg (by omega), if_neg (by omega), if_neg (by omega), if_neg (by omega)]
  cases s.writeStage r i v <;> rfl

/-- A write of a companion register leaves what the link answered. -/
theorem regWriteJ_companion_linkKept (w : Writer) (h : s.dlDown = false) : LinkKept s (s.regWriteJ r i j a v w).2 := by
  have hwrite : LinkKept s ((s.writeStage r i v).getD (s.regStore r i j v)) := by
    cases hstage : s.writeStage r i v with
    | none => exact regStore_linkKept s i j v hr
    | some t => exact writeStage_companion_linkKept s i v hr h t hstage
  simp only [State.regWriteJ, regWrite_companion s i j v hr w]
  split
  · exact hwrite.jStage _ _ _ _
  · exact hwrite

/-- Of the companion registers only CNTLO takes what it returns. -/
theorem regTake_companion : s.regTake r.base i = if r.base = 0x400A0000 then some s.cntloRead else none := by
  obtain ⟨-, hlo, hhi⟩ := hr
  simp only [State.regTake, if_neg (show ¬r.base = 0x40020038 by omega), if_neg (show ¬r.base = 0x40080040 by omega),
    if_neg (show ¬r.base = 0x40080910 by omega), if_neg (show ¬r.base = 0x40030604 by omega),
    if_neg (show ¬r.base = 0x40030614 by omega), if_neg (show ¬r.base = 0x40030618 by omega),
    if_neg (show ¬r.base = 0x4004000C by omega)]

theorem regSense_companion : s.regSense r.base = s := by
  obtain ⟨-, hlo, hhi⟩ := hr
  rw [State.regSense, if_neg (by omega), if_neg (by omega)]

/-- A read of a companion register leaves what the link answered. -/
theorem regRead_companion_linkKept : LinkKept s (s.regRead r i j a).2 := by
  simp only [State.regRead, regSense_companion s hr, regTake_companion s i hr]
  by_cases hcnt : r.base = 0x400A0000
  · simp only [if_pos hcnt]
    exact cntloRead_linkKept s
  · simp only [if_neg hcnt]
    split
    · exact .refl s
    · exact rcClear_linkKept s i j hr

end

/-! ### A companion access that is carried (R33, R34) -/

/-- RTC.TRIM, an RW field that lists every code. -/
def rtcTrimReg : RegSpec := { base := 0x400A0014, fields := [Reg.RTC_TRIM_TRIM] }

theorem findReg_rtcTrim : findReg 0x400A0014 = some (rtcTrimReg, 0, 0) := by decide +kernel

theorem rtcTrim_onCompanion : rtcTrimReg.OnCompanion := findReg_onCompanion (a := 0x400A0014) findReg_rtcTrim (by decide)

theorem dlDown_eq_false_iff (s : State) : s.dlDown = false ↔ s.rd Reg.SYS_DLSTAT_DOWN = 0 := by
  simp [State.dlDown, State.on]

theorem carried_dlDown (s : State) (crc : Nat) : (s.carried crc).dlDown = s.dlDown := by
  have hrd : (s.carried crc).rd Reg.SYS_DLSTAT_DOWN = s.rd Reg.SYS_DLSTAT_DOWN :=
    ((carried_keepsBut s crc).1 Reg.SYS_DLSTAT_DOWN).resolve_left (by decide)
  simp only [State.dlDown, State.on, hrd]

/-- A frame that fails less often than twice is carried. -/
theorem crc_lt_two {crc : Fin 3} (h : crc ≠ 2) : crc.val < 2 := by omega

theorem word_toNat_mod (v : Word) : v.toNat % 2 ^ 32 = v.toNat := Nat.mod_eq_of_lt v.isLt

/-- A write of RTC.TRIM is stored. -/
theorem regWriteJ_rtcTrim (s : State) (a v : Nat) (w : Writer) :
    s.regWriteJ rtcTrimReg 0 0 a v w = (0, s.wr Reg.RTC_TRIM_TRIM (v % 1024)) := by
  have hfields : rtcTrimReg.fields.any (fun f => f.acc == .j) = false := rfl
  have hstage : s.writeStage rtcTrimReg 0 v = none := rfl
  have hstore : s.regStore rtcTrimReg 0 0 v = s.wr Reg.RTC_TRIM_TRIM (v % 1024) := by
    change s.wr Reg.RTC_TRIM_TRIM (v / 2 ^ 0 % 1024) = _
    rw [pow_zero, Nat.div_one]
  simp [State.regWriteJ, hfields, regWrite_companion s 0 0 v rtcTrim_onCompanion w, hstage, hstore]

section
variable (s : State) (w : Writer) (crc : Fin 3) (hw : s.mayAccess w = true)
include hw

theorem companionWrite_rtcTrim (v : Word) (hd : s.rd Reg.SYS_DLSTAT_DOWN = 0) (hc : crc ≠ 2) :
    Answers (.companionRegisterAccess 0x400A0014 (some v) w crc) s fun t =>
      t.linkAnswer = .ok ∧ t.rd Reg.RTC_TRIM_TRIM = v.toNat % 1024 ∧ (crc = 1 → t.rd Reg.SYS_DLSTAT_REG_RETRY = 1) ∧
        KeepsBut [Reg.RTC_TRIM_TRIM, Reg.SYS_DLSTAT_REG_RETRY] [.linkAnswer, .od] s t := by
  have hout := expertWrite_carried s (a := 0x400A0014) v.toNat 2 crc w (rtcTrimReg, 0, 0) (by decide) (by decide)
    ((dlDown_eq_false_iff s).2 hd) (crc_lt_two hc) findReg_rtcTrim
  rw [regWriteJ_rtcTrim, word_toNat_mod] at hout
  refine ⟨_, exec_companionWrite s _ v w crc hw, ?_⟩
  rw [show (0x400A0014 : Word).toNat = 0x400A0014 from rfl, hout]
  refine ⟨rfl, ?_, fun h1 => ?_, ?_⟩
  · refine (State.rd_wr_same _ _ _).trans ?_
    exact Nat.mod_mod _ _
  · subst h1
    exact ((s.carried 1).rd_wr_ne _ _ _ (by decide)).trans (carried_retry s)
  · have hcarried := (carried_keepsBut s crc).mono (gs := [Reg.RTC_TRIM_TRIM, Reg.SYS_DLSTAT_REG_RETRY])
      (m := [.linkAnswer, .od]) (by simp) (by simp)
    exact (hcarried.wr _ _ (by simp)).part ((State.answer_keeps _ 0).mono (by simp)) (by simp)

theorem companionRead_rtcTrim (hd : s.rd Reg.SYS_DLSTAT_DOWN = 0) (hc : crc ≠ 2) :
    Answers (.companionRegisterAccess 0x400A0014 none w crc) s fun t =>
      t.linkAnswer = .ok ∧ t.readData = BitVec.ofNat 32 (s.rd Reg.RTC_TRIM_TRIM) ∧
        KeepsBut [Reg.SYS_DLSTAT_REG_RETRY] [.linkAnswer, .od, .readData] s t := by
  have hout := expertRead_carried s (a := 0x400A0014) 2 crc (rtcTrimReg, 0, 0) (by decide) (by decide)
    ((dlDown_eq_false_iff s).2 hd) (crc_lt_two hc) findReg_rtcTrim
  have hread := regRead_stored (s.carried crc) rtcTrimReg 0 0 0x400A0014 rfl rfl
  rw [regSense_companion _ rtcTrim_onCompanion] at hread
  have htrim : (s.carried crc).regStored rtcTrimReg 0 0 = s.rd Reg.RTC_TRIM_TRIM := by
    have hkept : (s.carried crc).rd Reg.RTC_TRIM_TRIM = s.rd Reg.RTC_TRIM_TRIM :=
      ((carried_keepsBut s crc).1 Reg.RTC_TRIM_TRIM).resolve_left (by decide)
    refine Eq.trans ?_ hkept
    simp [State.regStored, rtcTrimReg, joinFields, Reg.RTC_TRIM_TRIM]
  rw [hread, htrim] at hout
  refine ⟨_, exec_companionRead s _ w crc hw, ?_⟩
  rw [show (0x400A0014 : Word).toNat = 0x400A0014 from rfl, hout]
  refine ⟨rfl, rfl, ?_⟩
  have hcarried := (carried_keepsBut s crc).mono (gs := [Reg.SYS_DLSTAT_REG_RETRY])
    (m := [.linkAnswer, .od, .readData]) (by simp) (by simp)
  exact hcarried.part ((answerRead_keeps _ 0 _).mono (by simp)) (by simp)

theorem companionAccess_fails (a : Word) (v : Option Word) (ha : a.toNat % 4 = 0) (hc : companion a.toNat = true)
    (hd : s.rd Reg.SYS_DLSTAT_DOWN = 0) : Answers (.companionRegisterAccess a v w 2) s fun t =>
      t.linkAnswer = .linkError ∧ t.od.answer.code = 0x16 ∧ t.rd Reg.SYS_DLSTAT_REG_RETRY = 1 ∧
        KeepsBut [Reg.SYS_DLSTAT_REG_RETRY] [.linkAnswer, .od, .readData] s t := by
  obtain ⟨t, hout, hcode, hlink, hrd, hkeep⟩ := companionAccess_uncarried s _ a v w 2 0x16 hw ha hc
    (linkCarry_fails s hc ((dlDown_eq_false_iff s).2 hd)) (by decide)
  refine ⟨t, hout, hlink, hcode, (hrd _).trans (State.rd_wr_same _ _ 1), ?_⟩
  have hretry : KeepsBut [Reg.SYS_DLSTAT_REG_RETRY] [.linkAnswer, .od, .readData] s (s.wr Reg.SYS_DLSTAT_REG_RETRY 1) :=
    (KeepsBut.refl _ _ s).wr _ 1 (by simp)
  have hanswer : Keeps [.linkAnswer, .od, .readData] (s.wr Reg.SYS_DLSTAT_REG_RETRY 1)
      { s.wr Reg.SYS_DLSTAT_REG_RETRY 1 with linkAnswer := .linkError } := by
    intro p
    cases p <;> simp [Part.same]
  exact (hretry.part hanswer (by simp)).part (hkeep.mono (by simp)) (by simp)

theorem companionAccess_down (a : Word) (v : Option Word) (ha : a.toNat % 4 = 0) (hc : companion a.toNat = true)
    (hd : s.rd Reg.SYS_DLSTAT_DOWN ≠ 0) : Answers (.companionRegisterAccess a v w crc) s fun t =>
      t.linkAnswer = .linkDown ∧ t.od.answer.code = 0x17 ∧ KeepsBut [] [.linkAnswer, .od, .readData] s t := by
  have hdown : s.dlDown = true := by simp [State.dlDown, State.on, hd]
  obtain ⟨t, hout, hcode, hlink, -, hkeep⟩ := companionAccess_uncarried s _ a v w crc 0x17 hw ha hc
    (linkCarry_down s crc hc hdown) (by decide)
  have hanswer : Keeps [.linkAnswer, .od, .readData] s { s with linkAnswer := .linkDown } := by
    intro p
    cases p <;> simp [Part.same]
  exact ⟨t, hout, hlink, hcode, ((KeepsBut.refl _ _ s).part hanswer (by simp)).part (hkeep.mono (by simp)) (by simp)⟩

/-- A write that is carried answers the register's code and leaves its registers; the link's flag and answer stand. -/
theorem companionWrite_register (a v : Word) (x : RegSpec × Nat × Nat) (hl : s.dlDown = false) (hc : crc ≠ 2)
    (ha : a.toNat % 4 = 0) (hcomp : companion a.toNat = true) (hf : findReg a.toNat = some x) :
    Answers (.companionRegisterAccess a (some v) w crc) s fun t =>
      t.od.answer.code = ((s.linkCarry a.toNat crc).2.regWriteJ x.1 x.2.1 x.2.2 a.toNat v.toNat w).1 ∧
        t.regs = ((s.linkCarry a.toNat crc).2.regWriteJ x.1 x.2.1 x.2.2 a.toNat v.toNat w).2.regs ∧
        (crc = 1 → t.rd Reg.SYS_DLSTAT_REG_RETRY = 1) ∧ (t.od.answer.code = 0 → t.linkAnswer = .ok) := by
  have hcrc := crc_lt_two hc
  have hkept := regWriteJ_companion_linkKept (s.carried crc) x.2.1 x.2.2 v.toNat a.toNat (findReg_onCompanion hf hcomp) w
    ((carried_dlDown s crc).trans hl)
  refine ⟨_, exec_companionWrite s a v w crc hw, ?_⟩
  rw [expertWrite_carried s v.toNat 2 crc w x ha hcomp hl hcrc hf, linkCarry_up s hcomp hl hcrc, word_toNat_mod]
  refine ⟨rfl, rfl, fun h1 => ?_, fun _ => hkept.answer⟩
  subst h1
  exact hkept.retry.trans (carried_retry s)

/-- A read that is carried returns the register's value. -/
theorem companionRead_register (a : Word) (x : RegSpec × Nat × Nat) (hl : s.dlDown = false) (hc : crc ≠ 2)
    (ha : a.toNat % 4 = 0) (hcomp : companion a.toNat = true) (hf : findReg a.toNat = some x) :
    Answers (.companionRegisterAccess a none w crc) s fun t =>
      t.linkAnswer = .ok ∧ t.readData = BitVec.ofNat 32 (s.expertRead a.toNat 2 crc.val).2.1 ∧
        t.regs = (s.expertRead a.toNat 2 crc.val).2.2.regs := by
  have hkept := regRead_companion_linkKept (s.carried crc) x.2.1 x.2.2 a.toNat (findReg_onCompanion hf hcomp)
  refine ⟨_, exec_companionRead s a w crc hw, ?_, rfl, rfl⟩
  rw [expertRead_carried s 2 crc x ha hcomp hl (crc_lt_two hc) hf]
  exact hkept.answer

end

/-- Settles O1: the sample frames and the lanes by the state each command leaves; an access by what the link makes of its frame, since
no register of the companion die touches the link's answer or its retry flag. -/
theorem dieLink : Obligations.DieLink := by
  unfold Obligations.DieLink
  exact ⟨sampleFrame_taken, laneFailure_up, retrainAttempt_starts, retrainAttemptEnd_trying,
    fun s v w crc hw hd hc => companionWrite_rtcTrim s w crc hw v hd hc,
    fun s w crc hw hd hc => companionRead_rtcTrim s w crc hw hd hc,
    fun s a v w hw ha hc hd => companionAccess_fails s w hw a v ha hc hd,
    fun s a v w crc hw ha hc hd => companionAccess_down s w crc hw a v ha hc hd,
    fun s a v w crc x hw hl hc ha _ hcomp hf => companionWrite_register s w crc hw a v x hl hc ha hcomp hf,
    fun s a w crc x hw hl hc ha _ hcomp hf => companionRead_register s w crc hw a x hl hc ha hcomp hf⟩

end Sys2Proof.Machine

/-! ## Scope: the supplies, RESET_N and the wake up to W7 -/

namespace Sys2Proof.Machine

/-! ### The begin of a wake (R112) -/

/-- W1 changes the power state, and what no register shows. -/
theorem wakeStart_keepsBut (s : State) (src : Nat) : KeepsBut [Reg.SYS_PSTATE_STATE] [.pow] s (s.wakeStart src) :=
  ((KeepsBut.refl _ _ s).wr _ 3 (by simp)).part (State.pow_keeps _ _) (by simp)

@[simp] theorem wakeStart_pstate (s : State) (src : Nat) : (s.wakeStart src).pstate = 3 := State.rd_wr_same _ _ 3

/-- In state WAKE and outside the rest between two attempts, the step in progress is the one that the wake has reached. -/
theorem wakeAt_eq {s : State} (hs : s.pstate = 3) (hw : s.pow.waitRetry = false) : s.wakeAt = s.pow.wakeStep := by
  simp [State.wakeAt, hs, hw]

@[simp] theorem wakeStart_wakeAt (s : State) (src : Nat) : (s.wakeStart src).wakeAt = 2 :=
  wakeAt_eq (wakeStart_pstate s src) rfl

/-- W1 calls where RESET_N is high. -/
theorem wakeCall_eq_wakeStart {s : State} (h : s.pow.resetLow = false) (src : Nat) : s.wakeCall src = s.wakeStart src :=
  if_neg (by simp [h])

/-! ### The digital die loses its power (R106) -/

theorem setBolt_keeps (s : State) (k : Nat) (b : Bolt) : Keeps [.jr] s (s.setBolt k b) := by
  unfold State.setBolt
  split <;> · intro p; cases p <;> simp [Part.same]

/-- A record that is torn leaves bytes in flash, and what the Weaver holds of its bolt. -/
theorem tearHead_keeps (s : State) : Keeps [.free, .flash, .jr] s s.tearHead := by
  unfold State.tearHead
  split
  · exact Keeps.refl _ s
  extract_lets b d
  split
  · exact Keeps.refl _ s
  have hdraw : Keeps [.free, .flash, .jr] s d.2 := fun p => by cases p <;> simp [Part.same, d]
  unfold State.tornWrite
  extract_lets x
  have hprogram (a : Nat) (l : List Byte) : Keeps [.free, .flash, .jr] d.2 (d.2.program a l) :=
    fun p => by cases p <;> simp [Part.same, State.program]
  exact (hdraw.trans (hprogram _ _)).trans ((setBolt_keeps _ _ _).mono (by simp))

theorem tearHead_pow (s : State) : s.tearHead.pow = s.pow := (tearHead_keeps s .pow).resolve_left (by simp)

/-- What stays when EN_CORE drops: the fuses, the backup domain, and the supplies and the attempt of the wake. -/
structure SuppliesStay (s t : State) : Prop where
  fuse : t.fuse = s.fuse
  bk : t.bk = s.bk
  vbat : t.pow.vbat = s.pow.vbat
  mainFeed : t.pow.mainFeed = s.pow.mainFeed
  attempt : t.pow.attempt = s.pow.attempt

theorem dieOff_suppliesStay (s : State) : SuppliesStay s s.dieOff where
  fuse := (tearHead_keeps s .fuse).resolve_left (by simp)
  bk := (tearHead_keeps s .bk).resolve_left (by simp)
  vbat := (congrArg Power.vbat (tearHead_pow s) :)
  mainFeed := (congrArg Power.mainFeed (tearHead_pow s) :)
  attempt := (congrArg Power.attempt (tearHead_pow s) :)

theorem restState_lt (s : State) : s.restState < 2 ^ 3 := by
  unfold State.restState
  split
  · decide
  · split <;> decide

/-- The device rests in the state that its supplies give. -/
theorem rest_pstate (s : State) : s.rest.pstate = s.restState :=
  (State.rd_wr_same _ _ _).trans (Nat.mod_eq_of_lt (restState_lt s))

theorem restState_of_feedLost {s : State} (h : s.pow.mainFeed = false) :
    s.restState = if s.pow.vbat = true ∧ s.bk.source ≠ .unpowered then 1 else 0 := by
  simp [State.restState, h]

/-! ### The supplies (R107 to R109) -/

theorem vbatPresent_off (s : State) (hp : s.pstate = 0) (hm : s.pow.mainFeed = false) :
    Answers .vbatPresent s fun t =>
      t.pstate = 1 ∧ t.pow.vbat = true ∧ (s.bk.source ≠ .unpowered → KeepsBut [Reg.SYS_PSTATE_STATE] [.pow] s t) ∧
        (s.bk.source = .unpowered → t.bk.source = .battery ∧ t.rd Reg.BACKUP_STAT_ON_BATTERY = 1 ∧ t.bk.cnt = 0) := by
  refine ⟨_, congrArg Host.Outcome.next (if_pos ⟨hp, by simp [hm]⟩), State.rd_wr_same _ _ 1, ?_⟩
  by_cases hsrc : s.bk.source = .unpowered
  · rw [if_pos (by simp [hsrc])]
    refine ⟨rfl, fun h => absurd hsrc h, fun _ => ⟨rfl, ?_, rfl⟩⟩
    exact (State.rd_wr_ne _ _ _ _ (by decide)).trans (State.rd_wr_same _ _ _)
  · rw [if_neg (by simpa using hsrc)]
    refine ⟨rfl, fun _ => ?_, fun h => absurd h hsrc⟩
    exact ((KeepsBut.refl _ _ s).part (State.pow_keeps _ _) (by simp)).wr _ 1 (by simp)

theorem coolingOn_keeps (s : State) : Keeps [.marks] s s.coolingOn := by
  unfold State.coolingOn
  split
  · exact Keeps.refl _ s
  · intro p; cases p <;> simp [Part.same]

theorem mainFeedPresent_backup (s : State) (vhv : Bool) (hp : s.pstate = 1) (ho : s.pow.offWait = false)
    (hr : s.pow.resetLow = false) (hsrc : s.bk.source ≠ .unpowered) :
    Answers (.mainFeedPresent vhv) s fun t =>
      t.pstate = 3 ∧ t.wakeAt = 2 ∧ t.pow.mainFeed = true ∧ t.pow.vhvAbove9 = vhv ∧ t.pow.attempt = 1 ∧ t.pow.wsrc = 0 ∧
        KeepsBut [Reg.SYS_PSTATE_STATE] [.pow, .marks] s t := by
  have hexec : exec (.mainFeedPresent vhv) s =
      .next (State.wakeStart { s.coolingOn with pow := { s.pow with mainFeed := true, vhvAbove9 := vhv } } 0) := by
    change execMainFeedPresent vhv s = _
    simp [execMainFeedPresent, hp, ho, hr, hsrc, wakeCall_eq_wakeStart]
  refine ⟨_, hexec, wakeStart_pstate _ _, wakeStart_wakeAt _ _, rfl, rfl, rfl, rfl, ?_⟩
  have hfeed : KeepsBut [Reg.SYS_PSTATE_STATE] [.pow, .marks] s
      { s.coolingOn with pow := { s.pow with mainFeed := true, vhvAbove9 := vhv } } :=
    ((KeepsBut.refl _ _ s).part ((coolingOn_keeps s).mono (by simp)) (by simp)).part
      ((State.pow_keeps _ _).mono (by simp)) (by simp)
  exact hfeed.trans ((wakeStart_keepsBut _ 0).mono (by simp) (by simp))

/-- The machine as the loss of the main feed finds it, before the digital die follows. -/
def State.feedLost (s : State) : State :=
  { s.mark .feedLost with pow := { s.pow with mainFeed := false, vhvAbove9 := false, waitRetry := false } }

theorem mainFeedLost_wake (s : State) (hp : s.pstate = 3) : Answers .mainFeedLost s fun t =>
    t.pstate = (if s.pow.vbat = true ∧ s.bk.source ≠ .unpowered then 1 else 0) ∧ t.pow.mainFeed = false ∧
      t.pow.enCore = false ∧ t.tk = {} ∧ t.mem = {} ∧ t.fuse = s.fuse ∧ t.bk = s.bk := by
  have hexec : exec .mainFeedLost s = .next s.feedLost.dieOff.rest := congrArg Host.Outcome.next (if_pos hp)
  obtain ⟨hfuse, hbk, hvbat, hfeed, -⟩ := dieOff_suppliesStay s.feedLost
  refine ⟨_, hexec, ?_, hfeed, rfl, rfl, rfl, hfuse, hbk⟩
  rw [rest_pstate, restState_of_feedLost hfeed, hvbat, hbk]
  rfl

theorem wakeEvent_listen (s : State) (src : Fin 8) (hp : s.pstate = 2) (hen : s.bit Reg.BACKUP_WAKECFG_WSRC_EN src = true)
    (hfed : 2 ≤ src.val ∨ s.pow.vhvAbove9 = true) (ho : s.pow.offWait = false) (hr : s.pow.resetLow = false) :
    Answers (.wakeEvent src) s fun t =>
      t.wakeAt = 2 ∧ t.pow.wsrc = src + 1 ∧ KeepsBut [Reg.SYS_PSTATE_STATE] [.pow] s t := by
  have hexec : exec (.wakeEvent src) s = .next (s.wakeStart (src + 1)) := by
    change execWakeEvent src s = _
    have hdet : s.detectorFed src = true := by simpa [State.detectorFed] using hfed
    simp [execWakeEvent, hen, hdet, hp, ho, wakeCall_eq_wakeStart hr]
  exact ⟨_, hexec, wakeStart_wakeAt _ _, rfl, wakeStart_keepsBut _ _⟩

/-! ### RESET_N (R109, R111) -/

theorem enterS5_resetLow (s : State) (last : Nat) : (s.enterS5 last).pow.resetLow = s.pow.resetLow := by
  unfold State.enterS5
  dsimp only
  split <;> rfl

theorem jumpS5_resetLow (s : State) (t : SdTrigger) : (s.jumpS5 t).pow.resetLow = s.pow.resetLow := by
  unfold State.jumpS5
  split
  · rfl
  · exact enterS5_resetLow _ _

theorem resetNLow_run (s : State) (ho : s.pow.offWait = false) (hp : s.pstate = 4) (hrole : s.role ≠ 3) :
    Answers .resetNLow s fun t =>
      t.pstate = 6 ∧ t.sdStep = 5 ∧ t.rd Reg.SYS_PSTATE_SDTRIG = 7 ∧ t.rd Reg.BACKUP_WAKEREC1_SD_TRIGGER = 7 ∧
        t.pow.resetLow = true ∧ Keeps [.regs, .pow] s t := by
  have hexec : exec .resetNLow s =
      .next (State.jumpS5 { s with pow := { s.pow with resetLow := true, resetAfterCommit := false } } .resetN) := by
    change execResetNLow s = _
    simp [execResetNLow, ho, hp, hrole]
  obtain ⟨hstate, hstep, htrig, hrec, -, -, -, hleft⟩ :=
    jumpS5_run { s with pow := { s.pow with resetLow := true, resetAfterCommit := false } } .resetN hp
  have hcode : SdTrigger.resetN.toCode % 2 ^ 8 = 7 := by decide
  exact ⟨_, hexec, hstate, hstep, htrig.trans hcode, hrec.trans hcode, jumpS5_resetLow _ _,
    ((State.pow_keeps s _).mono (by simp)).trans hleft⟩

/-- A wake that a change of the supplies begins, from source `src`. -/
theorem wakeStart_withPow_keepsBut (s : State) (p : Power) (src : Nat) :
    KeepsBut [Reg.SYS_PSTATE_STATE] [.pow] s (State.wakeStart { s with pow := p } src) :=
  ((KeepsBut.refl _ _ s).part (State.pow_keeps s p) (by simp)).trans (wakeStart_keepsBut _ src)

theorem resetNRelease_listen (s : State) (hr : s.pow.resetLow = true) (hp : s.pstate = 2) (hm : s.pow.mainFeed = true)
    (hoff : s.passed .dieOff (50 * msCycles) = true) : Answers .resetNRelease s fun t =>
      t.wakeAt = 2 ∧ t.pow.wsrc = 0x0A ∧ t.pow.resetLow = false ∧ KeepsBut [Reg.SYS_PSTATE_STATE] [.pow] s t := by
  have hexec : exec .resetNRelease s = .next (State.wakeStart
      { s with pow := { s.pow with resetLow := false, resetAfterCommit := false, offWait := false } } 0x0A) := by
    change execResetNRelease s = _
    simp [execResetNRelease, hr, hp, hm, hoff]
  exact ⟨_, hexec, wakeStart_wakeAt _ _, rfl, rfl, wakeStart_withPow_keepsBut s _ _⟩

theorem offIntervalEnd_wakes (s : State) (src : Nat) (ho : s.pow.offWait = true) (hr : s.pow.resetLow = false)
    (hsrc : s.offOutcome = some src) (hm : s.pow.mainFeed = true) (hoff : s.passed .dieOff (50 * msCycles) = true) :
    Answers .offIntervalEnd s fun t =>
      t.wakeAt = 2 ∧ t.pow.wsrc = src ∧ t.pow.offWait = false ∧ KeepsBut [Reg.SYS_PSTATE_STATE] [.pow] s t := by
  have hexec : exec .offIntervalEnd s = .next (State.wakeStart { s with pow := { s.pow with offWait := false } } src) := by
    change execOffIntervalEnd s = _
    simp [execOffIntervalEnd, ho, hr, hsrc, hm, hoff]
  exact ⟨_, hexec, wakeStart_wakeAt _ _, rfl, rfl, wakeStart_withPow_keepsBut s _ _⟩

/-- Settles O4: each event of the supplies and of RESET_N by the state that it leaves, a wake at W2 of its first attempt, the rest of a
die that has lost its power, or S5. -/
theorem supplyEvents : Obligations.SupplyEvents :=
  ⟨vbatPresent_off, mainFeedPresent_backup, mainFeedLost_wake, wakeEvent_listen, resetNLow_run, resetNRelease_listen,
    offIntervalEnd_wakes⟩

/-! ### The steps of a wake (R90 to R94, R102, R112) -/

/-- A step is in progress only in state WAKE, outside the rest between two attempts. -/
theorem wakeAt_pos {s : State} (h : s.wakeAt ≠ 0) : s.pstate = 3 ∧ s.pow.waitRetry = false := by
  unfold State.wakeAt at h
  split at h
  next hw => simpa using hw
  next => exact absurd rfl h

/-- A wake in progress whose power state stays is at the step that it is taken to. -/
theorem wakeAt_of_step {s t : State} (h : s.wakeAt ≠ 0) (hp : t.pstate = s.pstate) (hw : t.pow.waitRetry = s.pow.waitRetry) :
    t.wakeAt = t.pow.wakeStep := by
  obtain ⟨hstate, hwait⟩ := wakeAt_pos h
  exact wakeAt_eq (hp.trans hstate) (hw.trans hwait)

@[simp] theorem wakeTo_rd (s : State) (n : Nat) (f : Field) : (s.wakeTo n).rd f = s.rd f := rfl

/-- The events that complete W2 to W5 take the wake one step on. -/
theorem wakeStep_completes (s : State) (c : Instr) (n : Nat)
    (hc : (c, n) ∈ [(Instr.companionRegulatorsInRegulation, 2), (.pgCoreHigh true, 3), (.pgCoreHigh false, 3),
      (.refclkInRange, 4), (.pll0Lock, 5)]) (h : s.wakeAt = n) :
    Answers c s fun t =>
      t.wakeAt = n + 1 ∧ (n = 2 → t.pow.enCore = true) ∧ (c = .pgCoreHigh true → t.pow.xspiVsel18 = true) ∧
        Keeps [.pow] s t := by
  simp only [List.mem_cons, List.not_mem_nil, or_false, Prod.mk.injEq] at hc
  rcases hc with ⟨rfl, rfl⟩ | ⟨rfl, rfl⟩ | ⟨rfl, rfl⟩ | ⟨rfl, rfl⟩ | ⟨rfl, rfl⟩ <;>
    exact ⟨_, congrArg Host.Outcome.next (if_pos h), wakeAt_of_step (h.trans_ne (by decide)) rfl rfl, by simp, by simp,
      State.pow_keeps _ _⟩

/-- The fields of FUSE.STATUS. -/
def fuseStatusFields : List Field :=
  [Reg.FUSE_STATUS_LIFECYCLE, Reg.FUSE_STATUS_CRC_OK, Reg.FUSE_STATUS_DEBUG_LOCKED, Reg.FUSE_STATUS_KEY0_SET,
    Reg.FUSE_STATUS_KEY1_SET, Reg.FUSE_STATUS_ARB, Reg.FUSE_STATUS_REPAIR_USED]

/-- FUSE.STATUS as the fuse check shows the fuse block in it (R101, Table 02-7), with `n` LIFECYCLE bits set. -/
def State.fuseStatus (s : State) (n : Nat) : State :=
  let s1 := ((s.wr Reg.FUSE_STATUS_LIFECYCLE (min n 4)).wr Reg.FUSE_STATUS_CRC_OK (b2n s.fcrcOk)).wr
    Reg.FUSE_STATUS_DEBUG_LOCKED (b2n (decide (2 ≤ popCount 8 (s.fuseField 968 8))))
  let s2 := (s1.wr Reg.FUSE_STATUS_KEY0_SET (b2n (s.keyHash 0 != 0))).wr Reg.FUSE_STATUS_KEY1_SET (b2n (s.keyHash 1 != 0))
  (s2.wr Reg.FUSE_STATUS_ARB (popCount 64 (s.fuseField 976 64))).wr Reg.FUSE_STATUS_REPAIR_USED
    ((List.range 16).countP (fun e => s.fuseEntry e != 0))

theorem fuseStatus_keepsBut (s : State) (n : Nat) : KeepsBut fuseStatusFields [] s (s.fuseStatus n) :=
  (((((((KeepsBut.refl _ _ s).wr _ _ (by simp [fuseStatusFields])).wr _ _ (by simp [fuseStatusFields])).wr _ _
    (by simp [fuseStatusFields])).wr _ _ (by simp [fuseStatusFields])).wr _ _ (by simp [fuseStatusFields])).wr _ _
    (by simp [fuseStatusFields])).wr _ _ (by simp [fuseStatusFields])

theorem b2n_mod_two (b : Bool) : b2n b % 2 = b2n b := by cases b <;> rfl

theorem fuseStatus_lifecycle (s : State) (n : Nat) : (s.fuseStatus n).lifecycle = min n 4 := by
  have hlt : min n 4 < 2 ^ Reg.FUSE_STATUS_LIFECYCLE.w := Nat.lt_of_le_of_lt (Nat.min_le_right n 4) (by decide)
  simp (disch := decide) only [State.lifecycle, State.fuseStatus, State.rd_wr, State.rd_wr_same, Nat.mod_eq_of_lt hlt]

theorem fuseStatus_crcOk (s : State) (n : Nat) : (s.fuseStatus n).rd Reg.FUSE_STATUS_CRC_OK = b2n s.fcrcOk := by
  simp (disch := decide) only [State.fuseStatus, State.rd_wr, State.rd_wr_same]
  exact b2n_mod_two _

theorem fuseStatus_key0Set (s : State) (n : Nat) :
    (s.fuseStatus n).rd Reg.FUSE_STATUS_KEY0_SET = b2n (s.keyHash 0 != 0) := by
  simp (disch := decide) only [State.fuseStatus, State.rd_wr, State.rd_wr_same]
  exact b2n_mod_two _

theorem fuseStatus_key1Set (s : State) (n : Nat) :
    (s.fuseStatus n).rd Reg.FUSE_STATUS_KEY1_SET = b2n (s.keyHash 1 != 0) := by
  simp (disch := decide) only [State.fuseStatus, State.rd_wr, State.rd_wr_same]
  exact b2n_mod_two _

theorem exec_fuseCheck_passes (s : State) (n : Nat) (h : s.wakeAt = 6) (hn : s.lifecycleFuse = some n) (hc : s.fcrcOk = true) :
    exec (.fuseCheck false) s = .next ((s.fuseStatus n).wakeTo 7) := by
  change execFuseCheck false s = _
  simp only [execFuseCheck, h, hn, hc, ne_eq, not_true_eq_false, if_false, Bool.not_true, Bool.and_false, Bool.or_false,
    Bool.false_eq_true, State.fuseStatus]

theorem fuseCheck_passes (s : State) (n : Nat) (h : s.wakeAt = 6) (hn : s.lifecycleFuse = some n) (hc : s.fcrcOk = true) :
    Answers (.fuseCheck false) s fun t =>
      t.wakeAt = 7 ∧ t.lifecycle = min n 4 ∧ t.rd Reg.FUSE_STATUS_CRC_OK = 1 ∧
        t.rd Reg.FUSE_STATUS_KEY0_SET = b2n (s.keyHash 0 != 0) ∧ t.rd Reg.FUSE_STATUS_KEY1_SET = b2n (s.keyHash 1 != 0) ∧
        KeepsBut fuseStatusFields [.pow] s t := by
  have hkeep := fuseStatus_keepsBut s n
  refine ⟨_, exec_fuseCheck_passes s n h hn hc, ?_, (wakeTo_rd _ _ _).trans (fuseStatus_lifecycle s n), ?_, ?_, ?_,
    (hkeep.mono (fun _ hf => hf) (by simp)).part (State.pow_keeps _ _) (by simp)⟩
  · have hstate : ((s.fuseStatus n).wakeTo 7).pstate = s.pstate :=
      (wakeTo_rd _ _ _).trans ((hkeep.1 _).resolve_left (by decide))
    exact wakeAt_of_step (h.trans_ne (by decide)) hstate rfl
  · rw [wakeTo_rd, fuseStatus_crcOk, hc]
    rfl
  · rw [wakeTo_rd, fuseStatus_key0Set]
  · rw [wakeTo_rd, fuseStatus_key1Set]

/-! ### The straps (R90 to R94) -/

/-- The fields that the accepted strap value sets. -/
def strapFields : List Field :=
  [Reg.STRAP_SAMPLED_STRAP, Reg.STRAP_SAMPLED_CONFLICT, Reg.STRAP_SAMPLED_ROUNDS, Reg.THERMAL_GUARD_TS_TS]

/-- Whether an accepted strap value gives a boot source that its role does not allow (R94). -/
def strapConflict (a : Nat) : Bool := fieldOf a 6 2 == 2 && fieldOf a 3 2 != 2

/-- The registers that take an accepted strap value `a`. -/
def State.strapTaken (s : State) (a : Nat) : State :=
  (((s.wr Reg.STRAP_SAMPLED_STRAP a).wr Reg.STRAP_SAMPLED_CONFLICT (b2n (strapConflict a))).wr Reg.STRAP_SAMPLED_ROUNDS
    s.pow.strapRound).wrIf (!s.dlDown) Reg.THERMAL_GUARD_TS_TS (fieldOf a 10 2)

/-- Device time as W8 finds it: loaded with the count `cnt`, but in LIMP (R227, R238). -/
def State.strapTime (s : State) (limp : Bool) (cnt : Nat) : State := if limp then s else s.timeStart cnt

theorem wrIf_keepsBut (s : State) (c : Bool) (f : Field) (v : Nat) : KeepsBut [f] [] s (s.wrIf c f v) := by
  cases c
  · exact KeepsBut.refl _ _ s
  · exact (KeepsBut.refl _ _ s).wr f v (by simp)

theorem strapTaken_keepsBut (s : State) (a : Nat) : KeepsBut strapFields [] s (s.strapTaken a) :=
  ((((KeepsBut.refl _ _ s).wr _ _ (by simp [strapFields])).wr _ _ (by simp [strapFields])).wr _ _
    (by simp [strapFields])).trans ((wrIf_keepsBut _ _ _ _).mono (by simp [strapFields]) (by simp))

theorem State.time_keeps (s : State) (x : TimeState) : Keeps [.time] s { s with time := x } :=
  fun p => by cases p <;> simp [Part.same]

theorem strapTime_keeps (s : State) (limp : Bool) (cnt : Nat) : Keeps [.time] s (s.strapTime limp cnt) := by
  unfold State.strapTime
  split
  · exact Keeps.refl _ s
  · exact State.time_keeps s _

/-- The state in which the wake enters W8. -/
def State.strapAccepted (s : State) (a : Nat) : State :=
  let s2 := (s.strapTaken a).strapTime s.pow.limp (if s.on Reg.BACKUP_STAT_BK_LOST then 0 else s.bk.cnt)
  { s2.wakeTo 8 with pow := { (s2.wakeTo 8).pow with strapRound := 0, pullDowns := false, w8Cycle := s.cycle } }

theorem exec_strapSampleRound_equal (s : State) (a : BitVec 12) (h : s.wakeAt = 7) :
    exec (.strapSampleRound a a a) s = .next (s.strapAccepted a.toNat) :=
  congrArg Host.Outcome.next ((if_neg (not_not_intro h)).trans (if_pos (c := a = a ∧ a = a) ⟨rfl, rfl⟩))

theorem strapAccepted_keepsBut (s : State) (a : Nat) : KeepsBut strapFields [.pow, .time] s (s.strapAccepted a) :=
  (((strapTaken_keepsBut s a).mono (fun _ hf => hf) (by simp)).part ((strapTime_keeps _ _ _).mono (by simp)) (by simp)).part
    ((State.pow_keeps _ _).mono (by simp)) (by simp)

/-- Device time loaded at W8 leaves every register. -/
theorem rd_strapAccepted (s : State) (a : Nat) (f : Field) : (s.strapAccepted a).rd f = (s.strapTaken a).rd f :=
  congrArg (Store.get f.reset · f.key) ((strapTime_keeps (s.strapTaken a) _ _ .regs).resolve_left (by simp))

/-- Every other field than TS of the guard is as the fields of the straps leave it. -/
theorem rd_strapTaken (s : State) (a : Nat) (f : Field) (hf : f.key ≠ Reg.THERMAL_GUARD_TS_TS.key) :
    (s.strapTaken a).rd f = (((s.wr Reg.STRAP_SAMPLED_STRAP a).wr Reg.STRAP_SAMPLED_CONFLICT (b2n (strapConflict a))).wr
      Reg.STRAP_SAMPLED_ROUNDS s.pow.strapRound).rd f :=
  ((wrIf_keepsBut _ _ _ _).1 f).resolve_left (by simpa using hf)

theorem strapAccepted_waitRetry (s : State) (a : Nat) : (s.strapAccepted a).pow.waitRetry = s.pow.waitRetry := by
  have hstrap : (s.strapTaken a).pow = s.pow := ((strapTaken_keepsBut s a).2 .pow).resolve_left (by simp)
  have htime := (strapTime_keeps (s.strapTaken a) s.pow.limp (if s.on Reg.BACKUP_STAT_BK_LOST then 0 else s.bk.cnt)
    .pow).resolve_left (by simp)
  exact (congrArg Power.waitRetry (htime.trans hstrap) :)

theorem strapSampleRound_equal (s : State) (a : BitVec 12) (h : s.wakeAt = 7) : Answers (.strapSampleRound a a a) s fun t =>
    t.wakeAt = 8 ∧ t.rd Reg.STRAP_SAMPLED_STRAP = a.toNat ∧
      t.rd Reg.STRAP_SAMPLED_CONFLICT = b2n (strapConflict a.toNat) ∧
      t.rd Reg.STRAP_SAMPLED_ROUNDS = s.pow.strapRound % 4 ∧ t.pow.pullDowns = false ∧
      (s.dlDown = false → t.rd Reg.THERMAL_GUARD_TS_TS = fieldOf a.toNat 10 2) ∧
      KeepsBut strapFields [.pow, .time] s t := by
  have hkeep := strapAccepted_keepsBut s a.toNat
  refine ⟨_, exec_strapSampleRound_equal s a h, ?_, ?_, ?_, ?_, rfl, fun hlink => ?_, hkeep⟩
  · have hwait := strapAccepted_waitRetry s a.toNat
    exact wakeAt_of_step (h.trans_ne (by decide)) ((hkeep.1 _).resolve_left (by decide)) hwait
  · rw [rd_strapAccepted, rd_strapTaken _ _ _ (by decide)]
    simp (disch := decide) only [State.rd_wr, State.rd_wr_same]
    exact Nat.mod_eq_of_lt a.isLt
  · rw [rd_strapAccepted, rd_strapTaken _ _ _ (by decide)]
    simp (disch := decide) only [State.rd_wr, State.rd_wr_same]
    exact b2n_mod_two _
  · rw [rd_strapAccepted, rd_strapTaken _ _ _ (by decide)]
    exact State.rd_wr_same _ _ _
  · rw [rd_strapAccepted, State.strapTaken, hlink, Bool.not_false, State.wrIf_true, State.rd_wr_same]
    exact Nat.mod_eq_of_lt (fieldOf_lt _ 10 2)

theorem strapSampleRound_differ (s : State) (a b c : BitVec 12) (h : s.wakeAt = 7) (hd : ¬(a = b ∧ b = c))
    (hr : s.pow.strapRound < 3) : Answers (.strapSampleRound a b c) s fun t =>
      t.wakeAt = 7 ∧ t.pow.strapRound = s.pow.strapRound + 1 ∧ Keeps [.pow] s t :=
  ⟨_, congrArg Host.Outcome.next ((if_neg (by simp [h])).trans ((if_neg hd).trans (if_pos hr))), h, rfl, State.pow_keeps _ _⟩

/-! ### A step that fails (R116) -/

/-- Before the third attempt has failed, the device rests in WAKE for the next one. -/
theorem wakeFail_again (s : State) (step : Nat) (hl : s.pow.limp = false) (ha : s.pow.attempt < 3) :
    s.wakeFail step =
      { s.dieOff.wr Reg.SYS_PSTATE_STATE 3 with
        pow := { s.dieOff.pow with allW4 := s.pow.allW4 && step == 4, waitRetry := true } } :=
  (if_neg (by simp [hl])).trans (if_pos ha)

theorem wakeStepTimeout_again (s : State) (h : s.wakeAt ≠ 0) (hl : s.pow.limp = false) (ha : s.pow.attempt < 3) :
    Answers .wakeStepTimeout s fun t =>
      t.pstate = 3 ∧ t.pow.waitRetry = true ∧ t.pow.enCore = false ∧ t.pow.attempt = s.pow.attempt ∧ t.tk = {} ∧
        t.mem = {} ∧ t.fuse = s.fuse ∧ t.bk = s.bk := by
  have hexec : exec .wakeStepTimeout s = .next (s.wakeFail s.wakeAt) := congrArg Host.Outcome.next (if_neg h)
  rw [wakeFail_again s _ hl ha] at hexec
  obtain ⟨hfuse, hbk, -, -, hattempt⟩ := dieOff_suppliesStay s
  exact ⟨_, hexec, State.rd_wr_same _ _ 3, rfl, rfl, hattempt, rfl, rfl, hfuse, hbk⟩

theorem wakeAttemptRestart_starts (s : State) (hp : s.pstate = 3) (hw : s.pow.waitRetry = true)
    (hoff : s.passed .dieOff (10 * msCycles) = true) : Answers .wakeAttemptRestart s fun t =>
      t.wakeAt = 2 ∧ t.pow.attempt = s.pow.attempt + 1 ∧ t.pow.waitRetry = false ∧ Keeps [.pow] s t :=
  ⟨_, congrArg Host.Outcome.next (if_pos (by simp [hp, hw, hoff])), wakeAt_eq hp rfl, rfl, rfl, State.pow_keeps _ _⟩

/-- Settles O5: each event of W2 to W7 by the state that it leaves, the same wake one step on, or without power until its next
attempt. -/
theorem wakeSteps : Obligations.WakeSteps :=
  ⟨wakeStep_completes, fuseCheck_passes, strapSampleRound_equal, strapSampleRound_differ, wakeStepTimeout_again,
    wakeAttemptRestart_starts⟩

end Sys2Proof.Machine

/-! ## Scope: the fuses (R103, R104)

One lemma per function of the model, in the model's order: it leaves the fuse bits as they are. Only `State.stepFuse` writes them, and
its fold sets bits without clearing one. -/

namespace Sys2Proof.Machine

section

set_option Elab.async false

variable {s : State}

/-! ### The shapes of the model's functions -/

/-- The hypotheses below are written with `Part.same`, so that `simp` can open it and prove them while it discharges them. -/
@[simp] theorem same_fuse_iff {s t : State} : Part.fuse.same s t ↔ t.fuse = s.fuse := ⟨id, id⟩

theorem forall_mem_ite {α : Type} {c : Prop} {d : Decidable c} {p : α → Prop} {o o' : Option α} (h : ∀ u ∈ o, p u) (h' : ∀ u ∈ o', p u) :
    ∀ u ∈ (if c then o else o'), p u := by
  split
  · exact h
  · exact h'

section

variable {c : Prop} {d : Decidable c} {α β : Type} {n : Nat}

@[simp] theorem ite_fuse {a b : State} : (if c then a else b).fuse = if c then a.fuse else b.fuse := by
  split <;> rfl

@[simp] theorem ite_fst_fuse {a b : State × α} : (if c then a else b).1.fuse = if c then a.1.fuse else b.1.fuse := by
  split <;> rfl

@[simp] theorem ite_snd_fuse {a b : α × State} : (if c then a else b).2.fuse = if c then a.2.fuse else b.2.fuse := by
  split <;> rfl

@[simp] theorem ite_snd_snd_fuse {a b : α × β × State} :
    (if c then a else b).2.2.fuse = if c then a.2.2.fuse else b.2.2.fuse := by
  split <;> rfl

@[simp] theorem foldl_fuse {l : List α} {f : State → α → State} {s} (h : ∀ u a, Part.fuse.same u (f u a)) :
    (l.foldl f s).fuse = s.fuse := by
  induction l generalizing s with
  | nil => rfl
  | cons a l ih => exact ih.trans (h _ _)

@[simp] theorem foldl_snd_fuse {l : List α} {f : β × State → α → β × State} {s} (h : ∀ u a, Part.fuse.same u.2 (f u a).2) :
    (l.foldl f s).2.fuse = s.2.fuse := by
  induction l generalizing s with
  | nil => rfl
  | cons a l ih => exact ih.trans (h _ _)

@[simp] theorem each_fuse {l : List α} {f : State → α → State} (h : ∀ u a, Part.fuse.same u (f u a)) : (s.each l f).fuse = s.fuse :=
  foldl_fuse h

theorem getD_fuse {o : Option State} {t : State} (h : ∀ u ∈ o, u.fuse = n) (ht : t.fuse = n) : (o.getD t).fuse = n := by
  cases o with
  | none => exact ht
  | some u => exact h u rfl

theorem getD_snd_fuse {o : Option (Nat × State)} {p : Nat × State} (h : ∀ u ∈ o, u.2.fuse = n) (hp : p.2.fuse = n) :
    (o.getD p).2.fuse = n := by
  cases o with
  | none => exact hp
  | some u => exact h u rfl

end

@[simp] theorem stateOf_next {t : State} : stateOf s (.next t) = t := rfl

@[simp] theorem stateOf_ite_fuse {c : Prop} {d : Decidable c} {a b : Out} :
    (stateOf s (if c then a else b)).fuse = if c then (stateOf s a).fuse else (stateOf s b).fuse := by
  split <;> rfl

theorem stateOf_fuse {u : State} {o : Out} (h : (stateOf u o).fuse = u.fuse) (hu : u.fuse = s.fuse) : (stateOf s o).fuse = s.fuse := by
  cases o with
  | next t => exact h.trans hu
  | fault _ => rfl
  | refused _ => rfl

/-- The state that a Heddle instruction's body leaves. -/
def HdRes.state : HdRes → State
  | .done t _ | .waits t | .stalls t | .faults t _ => t

/-- The state that an Eurnafa instruction's body leaves. -/
def EurRes.state : EurRes → State
  | .done t | .jump t _ | .again t | .trap _ _ t | .after _ _ t => t

section

/-! These are proved by `simp only` and not by `rfl`: a step by definition under `Part.same` is one that `simp` cannot take back when it
discharges a hypothesis. -/

variable {t : State} {code : Nat} {w : TWord}

@[simp] theorem HdRes.state_done {o} : (HdRes.done t o).state = t := by simp only [HdRes.state]

@[simp] theorem HdRes.state_waits : (HdRes.waits t).state = t := by simp only [HdRes.state]

@[simp] theorem HdRes.state_stalls : (HdRes.stalls t).state = t := by simp only [HdRes.state]

@[simp] theorem HdRes.state_faults : (HdRes.faults t code).state = t := by simp only [HdRes.state]

@[simp] theorem HdRes.state_ite_fuse {c : Prop} {d : Decidable c} {a b : HdRes} :
    (if c then a else b).state.fuse = if c then a.state.fuse else b.state.fuse := by
  split <;> rfl

@[simp] theorem EurRes.state_done : (EurRes.done t).state = t := by simp only [EurRes.state]

@[simp] theorem EurRes.state_jump {pc} : (EurRes.jump t pc).state = t := by simp only [EurRes.state]

@[simp] theorem EurRes.state_again : (EurRes.again t).state = t := by simp only [EurRes.state]

@[simp] theorem EurRes.state_trap : (EurRes.trap code w t).state = t := by simp only [EurRes.state]

@[simp] theorem EurRes.state_after : (EurRes.after code w t).state = t := by simp only [EurRes.state]

@[simp] theorem EurRes.state_ite_fuse {c : Prop} {d : Decidable c} {a b : EurRes} :
    (if c then a else b).state.fuse = if c then a.state.fuse else b.state.fuse := by
  split <;> rfl

end

theorem withLoom_fuse {x : LoomState} : ({ s with loom := x } : State).fuse = s.fuse := rfl

theorem withTrd_fuse {x : TreadleState} : ({ s with trd := x } : State).fuse = s.fuse := rfl

/-! ### Ops -/

@[simp] theorem State.inc_fuse {f} : (s.inc f).fuse = s.fuse := rfl
@[simp] theorem State.wrIf_fuse {c f v} : (s.wrIf c f v).fuse = s.fuse := by simp [State.wrIf]
@[simp] theorem State.wrBit_fuse {f k b} : (s.wrBit f k b).fuse = s.fuse := rfl
@[simp] theorem State.answer_fuse {code} : (s.answer code).fuse = s.fuse := rfl
@[simp] theorem State.linkFails_fuse : s.linkFails.fuse = s.fuse := rfl

@[simp] theorem State.overLink_fuse {f} (h : ∀ u, Part.fuse.same u (f u)) : (s.overLink f).fuse = s.fuse := by
  simp only [same_fuse_iff] at h
  simp [State.overLink, h]

@[simp] theorem State.odPutU_fuse {index sub v} : (s.odPutU index sub v).fuse = s.fuse := rfl
@[simp] theorem State.odInc_fuse {index sub hi} : (s.odInc index sub hi).fuse = s.fuse := rfl
@[simp] theorem State.glSend_fuse {i f} : (s.glSend i f).fuse = s.fuse := by simp [State.glSend]
@[simp] theorem State.mirrorRecord_fuse {b} : (s.mirrorRecord b).fuse = s.fuse := by simp [State.mirrorRecord]
@[simp] theorem State.mirrorRw_fuse {items} : (s.mirrorRw items).fuse = s.fuse := by simp [State.mirrorRw]
@[simp] theorem State.stageLocal_fuse {b} : (s.stageLocal b).fuse = s.fuse := by simp [State.stageLocal]
@[simp] theorem State.stage_fuse {b} : (s.stage b).fuse = s.fuse := by simp [State.stage]
@[simp] theorem State.intBit_fuse {k} : (s.intBit k).fuse = s.fuse := rfl
@[simp] theorem State.event_fuse {code src data} : (s.event code src data).fuse = s.fuse := by simp [State.event]

theorem State.admitTicket_fuse {t} : ∀ u ∈ s.admitTicket t, u.1.fuse = s.fuse := by
  unfold State.admitTicket
  split <;> simp

@[simp] theorem State.cardEnd_fuse {i} : (s.cardEnd i).fuse = s.fuse := by
  unfold State.cardEnd
  split <;> simp

@[simp] theorem State.gwAnswer_fuse {h code} : (s.gwAnswer h code).fuse = s.fuse := by
  unfold State.gwAnswer
  (repeat' split) <;> simp

@[simp] theorem State.odAnswer_fuse {c code v h side} : (s.odAnswer c code v h side).fuse = s.fuse := rfl

@[simp] theorem State.toWire_fuse {r v} : (s.toWire r v).2.fuse = s.fuse := by
  unfold State.toWire
  split <;> simp

@[simp] theorem State.toWireAll_fuse {rs vs} : (s.toWireAll rs vs).2.fuse = s.fuse := by
  induction rs generalizing s vs with
  | nil => rfl
  | cons r rs ih =>
    cases vs with
    | nil => rfl
    | cons v vs => simp [State.toWireAll, ih]

@[simp] theorem State.netFinal_fuse {i} : (s.netFinal i).fuse = s.fuse := by simp [State.netFinal]
@[simp] theorem State.finish_fuse {i st code tag v} : (s.finish i st code tag v).fuse = s.fuse := by simp [State.finish]
@[simp] theorem State.failTicket_fuse {i code} : (s.failTicket i code).fuse = s.fuse := by simp [State.failTicket]
@[simp] theorem State.retireSlot_fuse {i} : (s.retireSlot i).fuse = s.fuse := by simp [State.retireSlot]

@[simp] theorem State.wake_fuse {i} : (s.wake i).fuse = s.fuse := by
  unfold State.wake
  dsimp only
  split <;> simp

@[simp] theorem State.interruptWeaver_fuse : s.interruptWeaver.fuse = s.fuse := by simp [State.interruptWeaver]
@[simp] theorem State.wakeShuttle_fuse {n} : (s.wakeShuttle n).fuse = s.fuse := by simp [State.wakeShuttle]
@[simp] theorem State.bgSlot_fuse {bit unit fg} : (s.bgSlot bit unit fg).2.fuse = s.fuse := by simp [State.bgSlot]

@[simp] theorem State.pktPutBytes_fuse {k a b} : (State.pktPutBytes k s a b).fuse = s.fuse := by
  induction k generalizing s a b with
  | zero => rfl
  | succ k ih => simp [State.pktPutBytes, ih]

/-! ### Can -/

@[simp] theorem State.setCn_fuse {n u} : (s.setCn n u).fuse = s.fuse := rfl
@[simp] theorem State.cnTo_fuse {n st} : (s.cnTo n st).fuse = s.fuse := rfl
@[simp] theorem State.moWake_fuse {n k} : (s.moWake n k).fuse = s.fuse := by simp [State.moWake]
@[simp] theorem State.cnRefuse_fuse {n} : (s.cnRefuse n).fuse = s.fuse := rfl
@[simp] theorem State.moClear_fuse {n k} : (s.moClear n k).fuse = s.fuse := rfl
@[simp] theorem State.moFail_fuse {n k} : (s.moFail n k).fuse = s.fuse := by simp [State.moFail]
@[simp] theorem State.moStore_fuse {n k f back} : (s.moStore n k f back).fuse = s.fuse := by simp [State.moStore]
@[simp] theorem State.cnCount_fuse {n tec rec'} : (s.cnCount n tec rec').fuse = s.fuse := by simp [State.cnCount]
@[simp] theorem State.cnStop_fuse {n} : (s.cnStop n).fuse = s.fuse := rfl
@[simp] theorem State.cnEnd_fuse {n} : (s.cnEnd n).fuse = s.fuse := by simp [State.cnEnd]
@[simp] theorem State.cnTiming_fuse {n} : (s.cnTiming n).fuse = s.fuse := by simp [State.cnTiming]
@[simp] theorem State.cellMissed_fuse {n cell} : (s.cellMissed n cell).fuse = s.fuse := rfl
@[simp] theorem State.exclMiss_fuse {n cell k resend} : (s.exclMiss n cell k resend).fuse = s.fuse := by simp [State.exclMiss]

@[simp] theorem State.columnEnd_fuse {n} : (s.columnEnd n).fuse = s.fuse := by
  unfold State.columnEnd
  dsimp only
  (repeat' split) <;> simp

@[simp] theorem State.evalCell_fuse {n j} : (s.evalCell n j).fuse = s.fuse := by
  unfold State.evalCell
  dsimp only
  split <;> simp

@[simp] theorem State.ttStart_fuse {n cyc} : (s.ttStart n cyc).fuse = s.fuse := by simp [State.ttStart]
@[simp] theorem State.ttReference_fuse {n f} : (s.ttReference n f).fuse = s.fuse := by simp [State.ttReference]
@[simp] theorem State.cnAngle_fuse {n} : (s.cnAngle n).fuse = s.fuse := by simp [State.cnAngle]
@[simp] theorem State.ttStep_fuse {before} : (s.ttStep before).fuse = s.fuse := by simp [State.ttStep]
@[simp] theorem State.copyWake_fuse {n} : (s.copyWake n).fuse = s.fuse := rfl
@[simp] theorem State.wakeRate_fuse {n} : (s.wakeRate n).fuse = s.fuse := rfl
@[simp] theorem execCanStart_fuse {n wtr} : (stateOf s (execCanStart n wtr s)).fuse = s.fuse := by simp [execCanStart]
@[simp] theorem execCanStop_fuse {n} : (stateOf s (execCanStop n s)).fuse = s.fuse := by simp [execCanStop]
@[simp] theorem execCanRecover_fuse {n} : (stateOf s (execCanRecover n s)).fuse = s.fuse := by simp [execCanRecover]
@[simp] theorem execCanSleep_fuse {n} : (stateOf s (execCanSleep n s)).fuse = s.fuse := by simp [execCanSleep]
@[simp] theorem execCanBusIdle_fuse {n} : (stateOf s (execCanBusIdle n s)).fuse = s.fuse := by simp [execCanBusIdle]

@[simp] theorem execCanRecoveryComplete_fuse {n} : (stateOf s (execCanRecoveryComplete n s)).fuse = s.fuse := by
  simp [execCanRecoveryComplete]

@[simp] theorem State.recAfter_fuse {n} : (s.recAfter n).2.fuse = s.fuse := by simp [State.recAfter]

@[simp] theorem State.cnOffer_fuse {n f back} : (s.cnOffer n f back).fuse = s.fuse := by
  unfold State.cnOffer
  dsimp only
  (repeat' split) <;> simp

@[simp] theorem execCanFrameReceived_fuse {n f back} : (stateOf s (execCanFrameReceived n f back s)).fuse = s.fuse := by
  simp [execCanFrameReceived]

@[simp] theorem execTransmitAttemptStart_fuse {n left} : (stateOf s (execTransmitAttemptStart n left s)).fuse = s.fuse := by
  unfold execTransmitAttemptStart
  (repeat' split) <;> simp

@[simp] theorem execTransmitSuccess_fuse {n back} : (stateOf s (execTransmitSuccess n back s)).fuse = s.fuse := by
  unfold execTransmitSuccess
  split <;> simp

@[simp] theorem State.cnBusOff_fuse {n} : (s.cnBusOff n).fuse = s.fuse := by
  unfold State.cnBusOff
  dsimp only
  split <;> simp

@[simp] theorem execTransmitFailure_fuse {n why} : (stateOf s (execTransmitFailure n why s)).fuse = s.fuse := by
  unfold execTransmitFailure
  dsimp only
  (repeat' split) <;> simp

@[simp] theorem execCanReceiveError_fuse {n lec by8} : (stateOf s (execCanReceiveError n lec by8 s)).fuse = s.fuse := by
  simp [execCanReceiveError]

@[simp] theorem execTxset_fuse {n k} : (stateOf s (execTxset n k s)).fuse = s.fuse := by simp [execTxset]

@[simp] theorem execTxcancel_fuse {n k} : (stateOf s (execTxcancel n k s)).fuse = s.fuse := by
  unfold execTxcancel
  split <;> simp

@[simp] theorem execMoConfigWrite_fuse {n k w} : (stateOf s (execMoConfigWrite n k w s)).fuse = s.fuse := by
  unfold execMoConfigWrite
  split <;> simp

@[simp] theorem execNewdatClear_fuse {n k} : (stateOf s (execNewdatClear n k s)).fuse = s.fuse := by simp [execNewdatClear]
@[simp] theorem execTtCycleStart_fuse {n cyc} : (stateOf s (execTtCycleStart n cyc s)).fuse = s.fuse := by simp [execTtCycleStart]
@[simp] theorem execTtColumnMark_fuse {n} : (stateOf s (execTtColumnMark n s)).fuse = s.fuse := by simp [execTtColumnMark]

@[simp] theorem execTtTxWindowExpiry_fuse {n} : (stateOf s (execTtTxWindowExpiry n s)).fuse = s.fuse := by
  unfold execTtTxWindowExpiry
  split <;> simp

@[simp] theorem execRefLost_fuse {n} : (stateOf s (execRefLost n s)).fuse = s.fuse := by simp [execRefLost]
@[simp] theorem execTxdTimeout_fuse {n} : (stateOf s (execTxdTimeout n s)).fuse = s.fuse := by simp [execTxdTimeout]
@[simp] theorem execBusFault_fuse {n code} : (stateOf s (execBusFault n code s)).fuse = s.fuse := by simp [execBusFault]

@[simp] theorem execBusFaultClear_fuse {n} : (stateOf s (execBusFaultClear n s)).fuse = s.fuse := by
  unfold execBusFaultClear
  split <;> simp

/-! ### LoomOps -/

@[simp] theorem State.pstk_fuse {p k} : (s.pstk p k).fuse = s.fuse := by simp [State.pstk]
@[simp] theorem State.setEg_fuse {p e} : (s.setEg p e).fuse = s.fuse := rfl
@[simp] theorem State.setQset_fuse {q v} : (s.setQset q v).fuse = s.fuse := rfl
@[simp] theorem State.setFrame_fuse {f v} : (s.setFrame f v).fuse = s.fuse := rfl

@[simp] theorem State.pickCells_fuse {k l} : (State.pickCells k s l).2.fuse = s.fuse := by
  simp [pickCells_state]

@[simp] theorem State.putCells_fuse {l b} : (State.putCells s l b).fuse = s.fuse := by
  induction l generalizing s b with
  | nil => rfl
  | cons c l ih => simp [State.putCells, ih]

@[simp] theorem State.release_fuse {first} : (s.release first).fuse = s.fuse := by
  unfold State.release
  split <;> simp

@[simp] theorem State.bobLose_fuse : s.bobLose.fuse = s.fuse := rfl

@[simp] theorem State.bobbin_fuse {bytes port dir verdict tc vid clock ang} :
    (s.bobbin bytes port dir verdict tc vid clock ang).fuse = s.fuse := by
  simp [State.bobbin]

theorem State.complete_fuse {q w} : ∀ t ∈ s.complete q w, t.fuse = s.fuse := by
  unfold State.complete
  dsimp only
  split <;> simp

@[simp] theorem State.endCopy_fuse {first} : (s.endCopy first).fuse = s.fuse := by
  unfold State.endCopy
  split <;> simp

@[simp] theorem State.dropCopy_fuse {port verdict c} : (s.dropCopy port verdict c).fuse = s.fuse := by
  unfold State.dropCopy
  split
  · rfl
  extract_lets +onlyGivenNames s1 _ s2
  have h1 : s1.fuse = s.fuse := State.bobbin_fuse
  have h2 : s2.fuse = s.fuse := by
    unfold s2
    split
    · exact h1
    · split
      · exact h1
      · exact getD_fuse (fun u hu => (complete_fuse u hu).trans h1) h1
  exact State.endCopy_fuse.trans h2

@[simp] theorem State.eventCount_fuse {x} : (s.eventCount x).2.fuse = s.fuse := by
  unfold State.eventCount
  extract_lets e e1
  split
  · exact withLoom_fuse
  · dsimp only
    split
    · rfl
    · exact State.odPut_fuse ..

theorem counted_fuse {o : Option Nat} :
    (match o with
      | some x => s.eventCount x
      | none => (true, s)).2.fuse = s.fuse := by
  cases o with
  | none => rfl
  | some x => exact State.eventCount_fuse

@[simp] theorem State.deliver_fuse {q first} : (s.deliver q first).2.fuse = s.fuse := by
  unfold State.deliver
  split
  · rfl
  extract_lets +onlyGivenNames v c
  have hc : c.2.fuse = s.fuse := counted_fuse
  clear_value c
  extract_lets +onlyGivenNames u e base _ s1 s2
  have h2 : s2.fuse = s.fuse := by simp [s2, s1, u, hc]
  clear_value s2
  simp [hc, h2]

@[simp] theorem State.tgRestart_fuse {p} : (s.tgRestart p).fuse = s.fuse := by
  unfold State.tgRestart
  dsimp only
  split <;> simp

@[simp] theorem State.agRestart_fuse {p} : (s.agRestart p).fuse = s.fuse := by
  unfold State.agRestart
  dsimp only
  split <;> simp

@[simp] theorem State.rePlaceTime_fuse : s.rePlaceTime.fuse = s.fuse := rfl
@[simp] theorem State.rePlaceAngle_fuse : s.rePlaceAngle.fuse = s.fuse := by simp [State.rePlaceAngle]

@[simp] theorem State.learn_fuse {mac vid port} : (s.learn mac vid port).fuse = s.fuse := by
  unfold State.learn
  split <;> simp

@[simp] theorem State.enqueue_fuse {p tc c} : (s.enqueue p tc c).2.fuse = s.fuse := by
  unfold State.enqueue
  split <;> simp

@[simp] theorem State.forward_fuse {first b port vid prio tcs localOnly} :
    (s.forward first b port vid prio tcs localOnly).2.fuse = s.fuse := by
  simp [State.forward]

/-! ### Time -/

@[simp] theorem State.setTpo_fuse {n u} : (s.setTpo n u).fuse = s.fuse := rfl
@[simp] theorem State.tpoPulse_fuse {n} : (s.tpoPulse n).fuse = s.fuse := by simp [State.tpoPulse]
@[simp] theorem State.tpoArm_fuse {n} : (s.tpoArm n).fuse = s.fuse := rfl
@[simp] theorem State.tpoChanged_fuse {n} : (s.tpoChanged n).fuse = s.fuse := by simp [State.tpoChanged]
@[simp] theorem State.tpoServe_fuse {n i} : (s.tpoServe n i).fuse = s.fuse := by simp [State.tpoServe]

@[simp] theorem State.tpoStep_fuse {src forward} : (s.tpoStep src forward).fuse = s.fuse := by
  refine each_fuse fun u n => ?_
  rw [same_fuse_iff]
  dsimp only
  split
  · rfl
  split
  · split <;> simp
  · simp

@[simp] theorem State.dtSet_fuse {c} : (s.dtSet c).fuse = s.fuse := by simp [State.dtSet]
@[simp] theorem State.dtStep_fuse : s.dtStep.fuse = s.fuse := by simp [State.dtStep]
@[simp] theorem State.reSource_fuse : s.reSource.fuse = s.fuse := by simp [State.reSource]
theorem State.dtCommand_fuse : ∀ u ∈ s.dtCommand, u.fuse = s.fuse := by simp [State.dtCommand]
@[simp] theorem State.domMove_fuse {x c} : (s.domMove x c).fuse = s.fuse := by simp [State.domMove]
@[simp] theorem State.beatNow_fuse {x} : (s.beatNow x).fuse = s.fuse := rfl
@[simp] theorem State.domTo_fuse {x st} : (s.domTo x st).fuse = s.fuse := by simp [State.domTo]
@[simp] theorem State.domStateWrite_fuse {x v} : (s.domStateWrite x v).fuse = s.fuse := by simp [State.domStateWrite]
@[simp] theorem State.domRateWrite_fuse {x rate} : (s.domRateWrite x rate).fuse = s.fuse := by simp [State.domRateWrite]
@[simp] theorem State.domRateLo_fuse {x v} : (s.domRateLo x v).fuse = s.fuse := by simp [State.domRateLo]
@[simp] theorem State.domStep_fuse {x ns} : (s.domStep x ns).fuse = s.fuse := by simp [State.domStep]
@[simp] theorem State.domSet_fuse {x} : (s.domSet x).fuse = s.fuse := by simp [State.domSet]
@[simp] theorem State.tickTime_fuse : s.tickTime.fuse = s.fuse := rfl

@[simp] theorem State.timeStart_fuse {cnt} : (s.timeStart cnt).fuse = s.fuse := by
  unfold State.timeStart
  generalize clockOf _ _ = c
  rfl

@[simp] theorem State.setTpi_fuse {n l} : (s.setTpi n l).fuse = s.fuse := rfl

@[simp] theorem State.tpiPop_fuse {n} : (s.tpiPop n).fuse = s.fuse := by
  unfold State.tpiPop
  split <;> simp

@[simp] theorem State.tpiTake_fuse {n} : (s.tpiTake n).2.fuse = s.fuse := by
  unfold State.tpiTake
  split <;> simp

@[simp] theorem execTdxStateWrite_fuse {x v w} : (stateOf s (execTdxStateWrite x v w s)).fuse = s.fuse := by
  simp [execTdxStateWrite]

@[simp] theorem execTdxRateWrite_fuse {x rate w} : (stateOf s (execTdxRateWrite x rate w s)).fuse = s.fuse := by
  simp [execTdxRateWrite]

@[simp] theorem execTdxHeartbeat_fuse {x w} : (stateOf s (execTdxHeartbeat x w s)).fuse = s.fuse := by simp [execTdxHeartbeat]
@[simp] theorem execTdxStep_fuse {x ns w} : (stateOf s (execTdxStep x ns w s)).fuse = s.fuse := by simp [execTdxStep]
@[simp] theorem execTdxSet_fuse {x w} : (stateOf s (execTdxSet x w s)).fuse = s.fuse := by simp [execTdxSet]
@[simp] theorem execServoTimeout_fuse {x} : (stateOf s (execServoTimeout x s)).fuse = s.fuse := by simp [execServoTimeout]

@[simp] theorem execDeviceTimeAligned_fuse : (stateOf s (execDeviceTimeAligned s)).fuse = s.fuse := by
  simp [execDeviceTimeAligned]

@[simp] theorem execDtStepCmd_fuse : (stateOf s (execDtStepCmd s)).fuse = s.fuse := by
  unfold execDtStepCmd
  split
  next e => simpa using State.dtCommand_fuse _ e
  next => simp

@[simp] theorem State.snap_fuse : s.snap.fuse = s.fuse := rfl
@[simp] theorem execSnap_fuse : (stateOf s (execSnap s)).fuse = s.fuse := by simp [execSnap]

@[simp] theorem execTpoAssert_fuse {n} : (stateOf s (execTpoAssert n s)).fuse = s.fuse := by
  unfold execTpoAssert
  (repeat' split) <;> simp

@[simp] theorem State.tpoAngle_fuse {n} : (s.tpoAngle n).fuse = s.fuse := by simp [State.tpoAngle]
@[simp] theorem execTpoDeassert_fuse {n} : (stateOf s (execTpoDeassert n s)).fuse = s.fuse := by simp [execTpoDeassert]
@[simp] theorem execTpiCapture_fuse {n rising} : (stateOf s (execTpiCapture n rising s)).fuse = s.fuse := by simp [execTpiCapture]
@[simp] theorem execTpiPop_fuse {n} : (stateOf s (execTpiPop n s)).fuse = s.fuse := by simp [execTpiPop]
@[simp] theorem execTpiRecordRead_fuse {n} : (stateOf s (execTpiRecordRead n s)).fuse = s.fuse := by simp [execTpiRecordRead]

/-! ### Backup -/

@[simp] theorem State.firstPower_fuse {src} : (s.firstPower src).fuse = s.fuse := rfl
@[simp] theorem State.placeTarget_fuse : s.placeTarget.fuse = s.fuse := rfl
@[simp] theorem State.alarmFire_fuse {late} : (s.alarmFire late).fuse = s.fuse := by simp [State.alarmFire]
@[simp] theorem State.periodFire_fuse {t} : (s.periodFire t).fuse = s.fuse := by simp [State.periodFire]

@[simp] theorem State.periodCheck_fuse : s.periodCheck.fuse = s.fuse := by
  unfold State.periodCheck
  split <;> simp

@[simp] theorem State.rtcLoad_fuse : s.rtcLoad.fuse = s.fuse := by simp [State.rtcLoad]
@[simp] theorem State.winTick_fuse : s.winTick.fuse = s.fuse := rfl
@[simp] theorem State.rtcEdge_fuse : s.rtcEdge.fuse = s.fuse := by simp [State.rtcEdge]
@[simp] theorem State.rtcEdgeIf_fuse {c} : (s.rtcEdgeIf c).fuse = s.fuse := by simp [State.rtcEdgeIf]

theorem State.offsetWrite_fuse {v} : ∀ t ∈ s.offsetWrite v, t.fuse = s.fuse := by
  unfold State.offsetWrite
  split <;> simp

@[simp] theorem State.summer_fuse {on} : (s.summer on).1.fuse = s.fuse := by
  unfold State.summer
  dsimp only
  split
  · rfl
  split
  next => rfl
  next e => simpa using offsetWrite_fuse _ e

@[simp] theorem State.rtcSet_fuse : s.rtcSet.fuse = s.fuse := rfl
@[simp] theorem State.rtcSetTo_fuse {v} : (s.rtcSetTo v).fuse = s.fuse := rfl
@[simp] theorem State.alarmLo_fuse {v} : (s.alarmLo v).fuse = s.fuse := rfl
@[simp] theorem State.alarmHi_fuse {v} : (s.alarmHi v).fuse = s.fuse := rfl
@[simp] theorem State.periodWrite_fuse {v} : (s.periodWrite v).fuse = s.fuse := by simp [State.periodWrite]

@[simp] theorem State.postResumed_fuse : s.postResumed.fuse = s.fuse := by
  unfold State.postResumed
  split <;> simp

@[simp] theorem State.backupW8_fuse : s.backupW8.fuse = s.fuse := by simp [State.backupW8]
@[simp] theorem State.measureOn_fuse : s.measureOn.fuse = s.fuse := rfl
@[simp] theorem State.measureKeep_fuse : s.measureKeep.fuse = s.fuse := by simp [State.measureKeep]
@[simp] theorem State.tickRtc_fuse : s.tickRtc.fuse = s.fuse := by simp [State.tickRtc]
@[simp] theorem execRailSwitchover_fuse : (stateOf s (execRailSwitchover s)).fuse = s.fuse := by simp [execRailSwitchover]
@[simp] theorem execRailSwitchBack_fuse : (stateOf s (execRailSwitchBack s)).fuse = s.fuse := by simp [execRailSwitchBack]
@[simp] theorem execBackupDomainLost_fuse : (stateOf s (execBackupDomainLost s)).fuse = s.fuse := by simp [execBackupDomainLost]

@[simp] theorem execVbatMeasurement_fuse {mv} : (stateOf s (execVbatMeasurement mv s)).fuse = s.fuse := by
  simp [execVbatMeasurement]

@[simp] theorem execOscFail_fuse : (stateOf s (execOscFail s)).fuse = s.fuse := by simp [execOscFail]
@[simp] theorem execOscResume_fuse : (stateOf s (execOscResume s)).fuse = s.fuse := by simp [execOscResume]
@[simp] theorem State.cntloRead_fuse : s.cntloRead.fuse = s.fuse := rfl
@[simp] theorem execCntloRead_fuse : (stateOf s (execCntloRead s)).fuse = s.fuse := by simp [execCntloRead]
@[simp] theorem execRtcSet_fuse : (stateOf s (execRtcSet s)).fuse = s.fuse := by simp [execRtcSet]
@[simp] theorem execRtcSetEdge_fuse : (stateOf s (execRtcSetEdge s)).fuse = s.fuse := by simp [execRtcSetEdge]
@[simp] theorem execSummerOn_fuse : (stateOf s (execSummerOn s)).fuse = s.fuse := by simp [execSummerOn]
@[simp] theorem execSummerOff_fuse : (stateOf s (execSummerOff s)).fuse = s.fuse := by simp [execSummerOff]

@[simp] theorem execLocalOffsetWrite_fuse {v} : (stateOf s (execLocalOffsetWrite v s)).fuse = s.fuse := by
  unfold execLocalOffsetWrite
  rw [stateOf_next]
  refine State.overLink_fuse fun u => ?_
  rw [same_fuse_iff]
  split
  next e => simpa using State.offsetWrite_fuse _ e
  next => simp

@[simp] theorem execTrimWrite_fuse {v} : (stateOf s (execTrimWrite v s)).fuse = s.fuse := by simp [execTrimWrite]
@[simp] theorem execTrimCorrection_fuse : (stateOf s (execTrimCorrection s)).fuse = s.fuse := by simp [execTrimCorrection]
@[simp] theorem execRtcSync_fuse : (stateOf s (execRtcSync s)).fuse = s.fuse := by simp [execRtcSync]
@[simp] theorem State.trimBy_fuse {gain span} : (s.trimBy gain span).fuse = s.fuse := by simp [State.trimBy]

@[simp] theorem execAutoTrim_fuse : (stateOf s (execAutoTrim s)).fuse = s.fuse := by
  unfold execAutoTrim
  (repeat' split) <;> simp

@[simp] theorem execAlarmDisarm_fuse {v} : (stateOf s (execAlarmDisarm v s)).fuse = s.fuse := by simp [execAlarmDisarm]
@[simp] theorem execAlarmArm_fuse {v} : (stateOf s (execAlarmArm v s)).fuse = s.fuse := by simp [execAlarmArm]
@[simp] theorem execAlarmFire_fuse : (stateOf s (execAlarmFire s)).fuse = s.fuse := by simp [execAlarmFire]
@[simp] theorem execPeriodWrite_fuse {v} : (stateOf s (execPeriodWrite v s)).fuse = s.fuse := by simp [execPeriodWrite]
@[simp] theorem execPeriodicFire_fuse : (stateOf s (execPeriodicFire s)).fuse = s.fuse := by simp [execPeriodicFire]
@[simp] theorem execCounterWrap_fuse : (stateOf s (execCounterWrap s)).fuse = s.fuse := by simp [execCounterWrap]

/-! ### Sense -/

@[simp] theorem State.setMs_fuse {k m} : (s.setMs k m).fuse = s.fuse := rfl
@[simp] theorem State.msSample_fuse {k x} : (s.msSample k x).fuse = s.fuse := rfl
@[simp] theorem State.msTake_fuse {k} : (s.msTake k).fuse = s.fuse := rfl

/-! ### DieLink -/

@[simp] theorem State.linkView_fuse : s.linkView.fuse = s.fuse := rfl

@[simp] theorem execSampleFrame_fuse {c slot x code crcOk} :
    (stateOf s (execSampleFrame c slot x code crcOk s)).fuse = s.fuse := by
  simp [execSampleFrame]

@[simp] theorem execLaneFailure_fuse {k} : (stateOf s (execLaneFailure k s)).fuse = s.fuse := by simp [execLaneFailure]
@[simp] theorem execRetrainAttempt_fuse {k} : (stateOf s (execRetrainAttempt k s)).fuse = s.fuse := by simp [execRetrainAttempt]

@[simp] theorem execRetrainAttemptEnd_fuse {k trained} : (stateOf s (execRetrainAttemptEnd k trained s)).fuse = s.fuse := by
  simp [execRetrainAttemptEnd]

/-! ### Groups -/

@[simp] theorem State.setGr_fuse {g v} : (s.setGr g v).fuse = s.fuse := rfl
@[simp] theorem State.setPh_fuse {n v} : (s.setPh n v).fuse = s.fuse := rfl
@[simp] theorem State.wakePcp_fuse : s.wakePcp.fuse = s.fuse := by simp [State.wakePcp]
@[simp] theorem State.grTo_fuse {g st} : (s.grTo g st).fuse = s.fuse := rfl
@[simp] theorem State.grOutputsLow_fuse {g} : (s.grOutputsLow g).fuse = s.fuse := by simp [State.grOutputsLow]
@[simp] theorem State.grDisable_fuse {g} : (s.grDisable g).fuse = s.fuse := by simp [State.grDisable]
@[simp] theorem State.grPark_fuse {g} : (s.grPark g).fuse = s.fuse := by simp [State.grPark]
@[simp] theorem State.grFaults_fuse {g code} : (s.grFaults g code).fuse = s.fuse := by simp [State.grFaults]
@[simp] theorem State.grRamp_fuse {g} : (s.grRamp g).fuse = s.fuse := by simp [State.grRamp]
@[simp] theorem State.grSequence_fuse : s.grSequence.fuse = s.fuse := by simp [State.grSequence]
@[simp] theorem State.grPrecheck_fuse {g} : (s.grPrecheck g).fuse = s.fuse := by simp [State.grPrecheck]
@[simp] theorem State.pcpHalt_fuse {code} : (s.pcpHalt code).fuse = s.fuse := by simp [State.pcpHalt]
@[simp] theorem State.parkAll_fuse : s.parkAll.fuse = s.fuse := by simp [State.parkAll]
@[simp] theorem State.parkRequest_fuse : s.parkRequest.fuse = s.fuse := by simp [State.parkRequest]
@[simp] theorem State.grStopAll_fuse : s.grStopAll.fuse = s.fuse := by simp [State.grStopAll]
@[simp] theorem State.grResume_fuse : s.grResume.fuse = s.fuse := by simp [State.grResume]
@[simp] theorem State.dutyPut_fuse {n v} : (s.dutyPut n v).fuse = s.fuse := rfl
@[simp] theorem State.phaseStart_fuse {g n back} : (s.phaseStart g n back).fuse = s.fuse := rfl
@[simp] theorem State.periodStart_fuse {g pos} : (s.periodStart g pos).fuse = s.fuse := rfl
@[simp] theorem State.tickGroup_fuse {g} : (s.tickGroup g).fuse = s.fuse := by simp [State.tickGroup]
@[simp] theorem State.tickPwm_fuse : s.tickPwm.fuse = s.fuse := by simp [State.tickPwm]

/-! ### Contexts -/

@[simp] theorem State.setCtx_fuse {c v} : (s.setCtx c v).fuse = s.fuse := rfl
@[simp] theorem State.unlock_fuse {c key} : (s.unlock c key).2.fuse = s.fuse := by simp [State.unlock]
@[simp] theorem State.relockCtx_fuse {c} : (s.relockCtx c).fuse = s.fuse := rfl
@[simp] theorem State.touchUnlock_fuse {c} : (s.touchUnlock c).fuse = s.fuse := by simp [State.touchUnlock]
@[simp] theorem State.freeCtx_fuse {c} : (s.freeCtx c).fuse = s.fuse := rfl
@[simp] theorem State.closeSession_fuse {c} : (s.closeSession c).fuse = s.fuse := by simp [State.closeSession]
@[simp] theorem State.drained_fuse {c} : (s.drained c).fuse = s.fuse := by simp [State.drained]
@[simp] theorem State.retireTicket_fuse {i} : (s.retireTicket i).fuse = s.fuse := by simp [State.retireTicket]

/-! ### Fan -/

@[simp] theorem State.fanTo_fuse {n} : (s.fanTo n).fuse = s.fuse := rfl
@[simp] theorem State.fanOff_fuse : s.fanOff.fuse = s.fuse := rfl
@[simp] theorem State.fanFaults_fuse {code} : (s.fanFaults code).fuse = s.fuse := by simp [State.fanFaults]
@[simp] theorem State.fanAttempt_fuse : s.fanAttempt.fuse = s.fuse := by simp [State.fanAttempt]
@[simp] theorem State.fanDuty_fuse {duty iref} : (s.fanDuty duty iref).fuse = s.fuse := by simp [State.fanDuty]

@[simp] theorem execFanSpeedLoop_fuse {rpm current vhv} : (stateOf s (execFanSpeedLoop rpm current vhv s)).fuse = s.fuse := by
  simp [execFanSpeedLoop]

@[simp] theorem execFanDutyWrite_fuse {v} : (stateOf s (execFanDutyWrite v s)).fuse = s.fuse := by simp [execFanDutyWrite]
@[simp] theorem execFallback_fuse : (stateOf s (execFallback s)).fuse = s.fuse := by simp [execFallback]
@[simp] theorem State.fanDemandChange_fuse : s.fanDemandChange.fuse = s.fuse := by simp [State.fanDemandChange]
@[simp] theorem execFanDemandChange_fuse : (stateOf s (execFanDemandChange s)).fuse = s.fuse := by simp [execFanDemandChange]
@[simp] theorem execFanLock_fuse {reversed} : (stateOf s (execFanLock reversed s)).fuse = s.fuse := by simp [execFanLock]
@[simp] theorem execFanStartTimeout_fuse : (stateOf s (execFanStartTimeout s)).fuse = s.fuse := by simp [execFanStartTimeout]
@[simp] theorem execFanStall_fuse : (stateOf s (execFanStall s)).fuse = s.fuse := by simp [execFanStall]

@[simp] theorem execFanRestartWaitEnd_fuse : (stateOf s (execFanRestartWaitEnd s)).fuse = s.fuse := by
  simp [execFanRestartWaitEnd]

@[simp] theorem execFanShort_fuse : (stateOf s (execFanShort s)).fuse = s.fuse := by simp [execFanShort]
@[simp] theorem execFanShortResume_fuse : (stateOf s (execFanShortResume s)).fuse = s.fuse := by simp [execFanShortResume]
@[simp] theorem execFanOpenPhase_fuse : (stateOf s (execFanOpenPhase s)).fuse = s.fuse := by simp [execFanOpenPhase]

@[simp] theorem execHallFault_fuse : (stateOf s (execHallFault s)).fuse = s.fuse := by
  unfold execHallFault
  split <;> simp

@[simp] theorem execFanAttemptReset_fuse : (stateOf s (execFanAttemptReset s)).fuse = s.fuse := by simp [execFanAttemptReset]
@[simp] theorem execFanUnderspeed_fuse : (stateOf s (execFanUnderspeed s)).fuse = s.fuse := by simp [execFanUnderspeed]

@[simp] theorem execFanUnderspeedClear_fuse : (stateOf s (execFanUnderspeedClear s)).fuse = s.fuse := by
  unfold execFanUnderspeedClear
  split <;> simp

@[simp] theorem State.fanClear_fuse : s.fanClear.fuse = s.fuse := by simp [State.fanClear]
@[simp] theorem execFanClear_fuse : (stateOf s (execFanClear s)).fuse = s.fuse := by simp [execFanClear]
@[simp] theorem State.fanHold_fuse {held} : (s.fanHold held).fuse = s.fuse := by simp [State.fanHold]

@[simp] theorem execAgeingUpdate_fuse {rpm effort stable} : (stateOf s (execAgeingUpdate rpm effort stable s)).fuse = s.fuse := by
  simp [execAgeingUpdate]

@[simp] theorem execTemperatureUpdate_fuse {n t} : (stateOf s (execTemperatureUpdate n t s)).fuse = s.fuse := by
  simp [execTemperatureUpdate]

@[simp] theorem execGuardAssert_fuse {cause} : (stateOf s (execGuardAssert cause s)).fuse = s.fuse := by simp [execGuardAssert]

@[simp] theorem execGuardConditionReturn_fuse : (stateOf s (execGuardConditionReturn s)).fuse = s.fuse := by
  simp [execGuardConditionReturn]

@[simp] theorem State.guardRelease_fuse : s.guardRelease.fuse = s.fuse := by simp [State.guardRelease]
@[simp] theorem execGuardCooling_fuse : (stateOf s (execGuardCooling s)).fuse = s.fuse := by simp [execGuardCooling]
@[simp] theorem State.guardAck_fuse : s.guardAck.fuse = s.fuse := by simp [State.guardAck]
@[simp] theorem execGuardAck_fuse : (stateOf s (execGuardAck s)).fuse = s.fuse := by simp [execGuardAck]

@[simp] theorem execGuardReleaseTimer_fuse : (stateOf s (execGuardReleaseTimer s)).fuse = s.fuse := by
  simp [execGuardReleaseTimer]

/-! ### Flash -/

@[simp] theorem State.program_fuse {a b} : (s.program a b).fuse = s.fuse := rfl
@[simp] theorem State.erase_fuse {a n} : (s.erase a n).fuse = s.fuse := rfl
@[simp] theorem State.putTable_fuse {k t} : (s.putTable k t).fuse = s.fuse := rfl
@[simp] theorem State.setBolt_fuse {k b} : (s.setBolt k b).fuse = s.fuse := by simp [State.setBolt]
@[simp] theorem State.boltWrite_fuse {k r} : (s.boltWrite k r).fuse = s.fuse := by simp [State.boltWrite]
@[simp] theorem State.tornWrite_fuse {k r n} : (s.tornWrite k r n).fuse = s.fuse := by simp [State.tornWrite]
@[simp] theorem State.boltErase_fuse {k} : (s.boltErase k).fuse = s.fuse := by simp [State.boltErase]
@[simp] theorem State.blockErase_fuse {k n} : (s.blockErase k n).fuse = s.fuse := rfl

/-! ### Loom -/

@[simp] theorem State.dupCheck_fuse {src seq} : (s.dupCheck src seq).2.fuse = s.fuse := by simp [State.dupCheck]

@[simp] theorem State.loomDecide_fuse {port first f} : (s.loomDecide port first f).2.fuse = s.fuse := by
  unfold State.loomDecide
  dsimp only
  (repeat' split) <;> simp

@[simp] theorem State.pdelayNote_fuse {p f} : (s.pdelayNote p f).fuse = s.fuse := by
  unfold State.pdelayNote
  dsimp only
  split <;> simp

@[simp] theorem State.noBuf_fuse {p b sfd} : (s.noBuf p b sfd).fuse = s.fuse := by simp [State.noBuf]

@[simp] theorem execPortCellExhausted_fuse {p b sfd} : (stateOf s (execPortCellExhausted p b sfd s)).fuse = s.fuse := by
  simp [execPortCellExhausted]

@[simp] theorem State.popHead_fuse {p t} : (s.popHead p t).fuse = s.fuse := rfl
@[simp] theorem State.markHeld_fuse {p t} : (s.markHeld p t).fuse = s.fuse := by simp [State.markHeld]

@[simp] theorem State.dwrr_fuse {p n fuel} : (State.dwrr p n fuel s).2.fuse = s.fuse := by
  induction fuel generalizing s with
  | zero => rfl
  | succ k ih => simp [State.dwrr, ih]

@[simp] theorem State.select_fuse {p} : (s.select p).2.fuse = s.fuse := by
  unfold State.select
  dsimp only
  split <;> simp

@[simp] theorem execTransmitOpportunity_fuse {p opening} : (stateOf s (execTransmitOpportunity p opening s)).fuse = s.fuse := by
  unfold execTransmitOpportunity
  extract_lets +onlyGivenNames idle s1
  have h1 : s1.fuse = s.fuse := each_fuse fun u t => by
    rw [same_fuse_iff]
    split <;> simp
  clear_value s1
  rw [stateOf_next]
  dsimp only
  split
  · exact h1
  split
  · simp [h1]
  split
  · simp [h1]
  · simp [h1]

@[simp] theorem State.txDone_fuse {p f n} : (s.txDone p f n).fuse = s.fuse := by
  unfold State.txDone
  dsimp only
  split
  · rfl
  · rfl
  split
  · rfl
  split
  · simp
  split
  next => simp
  next e => simpa using complete_fuse _ e

@[simp] theorem execFrameTransmitted_fuse {p overrun sfd} : (stateOf s (execFrameTransmitted p overrun sfd s)).fuse = s.fuse := by
  unfold execFrameTransmitted
  dsimp only
  (repeat' split) <;> simp

@[simp] theorem execTimeGateEntryChange_fuse {p restart} : (stateOf s (execTimeGateEntryChange p restart s)).fuse = s.fuse := by
  simp [execTimeGateEntryChange]

@[simp] theorem execAngleGateEntryChange_fuse {p restart} : (stateOf s (execAngleGateEntryChange p restart s)).fuse = s.fuse := by
  simp [execAngleGateEntryChange]

@[simp] theorem execTgSwap_fuse {p} : (stateOf s (execTgSwap p s)).fuse = s.fuse := by simp [execTgSwap]
@[simp] theorem execAgSwap_fuse {p} : (stateOf s (execAgSwap p s)).fuse = s.fuse := by simp [execAgSwap]
@[simp] theorem execFdbAgeing_fuse {mac vid} : (stateOf s (execFdbAgeing mac vid s)).fuse = s.fuse := by simp [execFdbAgeing]

@[simp] theorem execFdbLookup_fuse {group} : (stateOf s (execFdbLookup group s)).fuse = s.fuse := by
  unfold execFdbLookup
  split <;> simp

@[simp] theorem State.fdbPut_fuse {group e} : (s.fdbPut group e).fuse = s.fuse := by simp [State.fdbPut]
@[simp] theorem State.fdbDrop_fuse {group mac vid} : (s.fdbDrop group mac vid).fuse = s.fuse := by simp [State.fdbDrop]
@[simp] theorem execFdbInsert_fuse {group} : (stateOf s (execFdbInsert group s)).fuse = s.fuse := by simp [execFdbInsert]
@[simp] theorem execFdbDelete_fuse {group} : (stateOf s (execFdbDelete group s)).fuse = s.fuse := by simp [execFdbDelete]
@[simp] theorem execFlushFdb_fuse : (stateOf s (execFlushFdb s)).fuse = s.fuse := by simp [execFlushFdb]

@[simp] theorem execNqRxpop_fuse {q} : (stateOf s (execNqRxpop q s)).fuse = s.fuse := by
  unfold execNqRxpop
  split <;> simp

@[simp] theorem execNqAlloc_fuse {q} : (stateOf s (execNqAlloc q s)).fuse = s.fuse := by simp [execNqAlloc]

@[simp] theorem State.sendFrame_fuse {q first f ports tc} : (s.sendFrame q first f ports tc).fuse = s.fuse := by
  simp [State.sendFrame]

@[simp] theorem State.weaverSend_fuse {p b} : (s.weaverSend p b).fuse = s.fuse := by simp [State.weaverSend]

@[simp] theorem State.weaverAnswer_fuse {p b} : (s.weaverAnswer p b).fuse = s.fuse := by
  unfold State.weaverAnswer
  split <;> simp

@[simp] theorem execFrameDecision_fuse {p} : (stateOf s (execFrameDecision p s)).fuse = s.fuse := by
  unfold execFrameDecision
  dsimp only
  (repeat' split) <;> simp

@[simp] theorem execNqTx_fuse {q h} : (stateOf s (execNqTx q h s)).fuse = s.fuse := by
  unfold execNqTx
  split <;> simp

@[simp] theorem execNqFree_fuse {q h} : (stateOf s (execNqFree q h s)).fuse = s.fuse := by
  unfold execNqFree
  split <;> simp

@[simp] theorem execNqCpop_fuse {q} : (stateOf s (execNqCpop q s)).fuse = s.fuse := by
  unfold execNqCpop
  split <;> simp

@[simp] theorem execBobbinRecordWrite_fuse {foreground} : (stateOf s (execBobbinRecordWrite foreground s)).fuse = s.fuse := by
  unfold execBobbinRecordWrite
  split <;> simp

@[simp] theorem State.bobRead_fuse : s.bobRead.2.fuse = s.fuse := by simp [State.bobRead]
@[simp] theorem execBobbinRecord_fuse : (stateOf s (execBobbinRecord s)).fuse = s.fuse := by simp [execBobbinRecord]

/-! ### TicketOps -/

@[simp] theorem State.stepCommitted_fuse {i tag v} : (s.stepCommitted i tag v).fuse = s.fuse := by simp [State.stepCommitted]
@[simp] theorem State.stepDone_fuse {i tag v} : (s.stepDone i tag v).fuse = s.fuse := by simp [State.stepDone]

/-! ### Mem -/

@[simp] theorem State.setWord_fuse {b off w} : (s.setWord b off w).fuse = s.fuse := rfl
@[simp] theorem State.memAnswer_fuse {st w} : (s.memAnswer st w).fuse = s.fuse := rfl
@[simp] theorem State.errLog_fuse {b off src ue} : (s.errLog b off src ue).2.fuse = s.fuse := rfl
@[simp] theorem State.logCe_fuse {b off src} : (s.logCe b off src).fuse = s.fuse := by simp [State.logCe]
@[simp] theorem State.logUe_fuse {b off src} : (s.logUe b off src).fuse = s.fuse := by simp [State.logUe]

@[simp] theorem State.memRead_fuse {b off src} : (s.memRead b off src).2.2.fuse = s.fuse := by
  unfold State.memRead
  dsimp only
  (repeat' split) <;> simp

@[simp] theorem State.memWrite_fuse {b off tag v} : (s.memWrite b off tag v).fuse = s.fuse := by simp [State.memWrite]
@[simp] theorem State.logMerged_fuse {b} : (s.logMerged b).fuse = s.fuse := by simp [State.logMerged]

@[simp] theorem State.memPartial_fuse {b off src p} : (s.memPartial b off src p).2.fuse = s.fuse := by
  unfold State.memPartial
  dsimp only
  (repeat' split) <;> simp

@[simp] theorem State.portBMet_fuse {b met} : (s.portBMet b met).fuse = s.fuse := by simp [State.portBMet]
@[simp] theorem State.clearBank_fuse {b} : (s.clearBank b).fuse = s.fuse := rfl
@[simp] theorem State.readServed_fuse {b off src} : (s.readServed b off src).fuse = s.fuse := by simp [State.readServed]

@[simp] theorem State.writeServed_fuse {b off tag v met} : (s.writeServed b off tag v met).fuse = s.fuse := by
  simp [State.writeServed]

@[simp] theorem State.partServed_fuse {b off src p met} : (s.partServed b off src p met).fuse = s.fuse := by
  simp [State.partServed]

@[simp] theorem State.serveHeld_fuse {x1} : (s.serveHeld x1).fuse = s.fuse := by
  unfold State.serveHeld
  split <;> simp

@[simp] theorem State.hold_fuse {h} : (s.hold h).fuse = s.fuse := rfl
@[simp] theorem State.serveAll_fuse : s.serveAll.fuse = s.fuse := by simp [State.serveAll]

@[simp] theorem execMemoryRead_fuse {b off src} : (stateOf s (execMemoryRead b off src s)).fuse = s.fuse := by
  unfold execMemoryRead
  split
  · rfl
  · simp

@[simp] theorem execWholeWordWrite_fuse {b off tag v met} : (stateOf s (execWholeWordWrite b off tag v met s)).fuse = s.fuse := by
  unfold execWholeWordWrite
  split
  · rfl
  · simp

@[simp] theorem execPartialWrite_fuse {b off p src met} : (stateOf s (execPartialWrite b off p src met s)).fuse = s.fuse := by
  unfold execPartialWrite
  split
  · rfl
  · simp

@[simp] theorem State.runOver_fuse {b} : (s.runOver b).fuse = s.fuse := by simp [State.runOver]
@[simp] theorem State.bridgeRead_fuse {b off src} : (s.bridgeRead b off src).2.2.fuse = s.fuse := by simp [State.bridgeRead]
@[simp] theorem State.bridgeWrite_fuse {b off src p} : (s.bridgeWrite b off src p).fuse = s.fuse := by simp [State.bridgeWrite]

@[simp] theorem State.scrubWord_fuse {b beaten} : (s.scrubWord b beaten).fuse = s.fuse := by
  unfold State.scrubWord
  dsimp only
  (repeat' split) <;> simp

@[simp] theorem execScrubStep_fuse {b fg beaten} : (stateOf s (execScrubStep b fg beaten s)).fuse = s.fuse := by
  simp [execScrubStep]

@[simp] theorem State.setSpare_fuse {b k x} : (s.setSpare b k x).fuse = s.fuse := rfl
@[simp] theorem State.spareFails_fuse {b k} : (s.spareFails b k).fuse = s.fuse := by simp [State.spareFails]
@[simp] theorem State.degrade_fuse {b row} : (s.degrade b row).fuse = s.fuse := by simp [State.degrade]

@[simp] theorem State.rowFails_fuse {b row} : (s.rowFails b row).2.fuse = s.fuse := by
  unfold State.rowFails
  dsimp only
  (repeat' split) <;> simp

@[simp] theorem State.cardView_fuse : s.cardView.fuse = s.fuse := by
  unfold State.cardView
  split <;> simp

@[simp] theorem State.cardBank_fuse {r} : (s.cardBank r).fuse = s.fuse := by
  unfold State.cardBank
  split <;> simp

@[simp] theorem State.cardStart_fuse {i} : (s.cardStart i).fuse = s.fuse := by simp [State.cardStart]
@[simp] theorem State.cardBankDone_fuse {r} : (s.cardBankDone r).fuse = s.fuse := by simp [State.cardBankDone]

@[simp] theorem State.cardRow_fuse {b row} : (s.cardRow b row).fuse = s.fuse := by
  refine each_fuse fun u k => ?_
  rw [same_fuse_iff]
  dsimp only
  split
  · rfl
  split <;> simp

@[simp] theorem State.cardSegment_fuse {r failed} : (s.cardSegment r failed).fuse = s.fuse := by
  unfold State.cardSegment
  split <;> simp

@[simp] theorem execCardingSegmentStep_fuse {fg reads} : (stateOf s (execCardingSegmentStep fg reads s)).fuse = s.fuse := by
  unfold execCardingSegmentStep
  split <;> simp

@[simp] theorem State.marchPass_fuse {b algo bg reads} : (s.marchPass b algo bg reads).2.fuse = s.fuse := by
  simp [State.marchPass]

@[simp] theorem State.marchBank_fuse {b algo bgs reads} : (s.marchBank b algo bgs reads).2.fuse = s.fuse := by
  simp [State.marchBank]

@[simp] theorem execCardingBankMarch_fuse {reads} : (stateOf s (execCardingBankMarch reads s)).fuse = s.fuse := by
  unfold execCardingBankMarch
  split <;> simp

@[simp] theorem State.applyFuses_fuse : s.applyFuses.fuse = s.fuse := by simp [State.applyFuses]
@[simp] theorem State.fusesOnce_fuse : s.fusesOnce.fuse = s.fuse := by simp [State.fusesOnce]

@[simp] theorem State.applyRepair_fuse {b row k action} : (s.applyRepair b row k action).fuse = s.fuse := by
  simp [State.applyRepair]

@[simp] theorem State.remapRepair_fuse {b row k action} : (s.remapRepair b row k action).fuse = s.fuse := by
  unfold State.remapRepair
  (repeat' split) <;> simp

@[simp] theorem State.startMarch_fuse {banks reads} : (s.startMarch banks reads).fuse = s.fuse := by simp [State.startMarch]
@[simp] theorem State.startMarchHeld_fuse : s.startMarchHeld.fuse = s.fuse := by simp [State.startMarchHeld]
@[simp] theorem State.startView_fuse : s.startView.fuse = s.fuse := rfl

@[simp] theorem execStartupCarding_fuse {reads} : (stateOf s (execStartupCarding reads s)).fuse = s.fuse := by
  simp [execStartupCarding]

/-! ### GrilorOps -/

@[simp] theorem State.crossSend_fuse {ang back} : (s.crossSend ang back).fuse = s.fuse := by simp [State.crossSend]
@[simp] theorem State.ownDrive_fuse {d} : (s.ownDrive d).fuse = s.fuse := rfl
@[simp] theorem State.twinS2_fuse : s.twinS2.fuse = s.fuse := by simp [State.twinS2]

/-! ### Heddle -/

@[simp] theorem State.setHd_fuse {n h} : (s.setHd n h).fuse = s.fuse := rfl
@[simp] theorem State.hdWake_fuse {n} : (s.hdWake n).fuse = s.fuse := by simp [State.hdWake]
@[simp] theorem State.hdSetTx_fuse {n q} : (s.hdSetTx n q).fuse = s.fuse := by simp [State.hdSetTx]
@[simp] theorem State.hdSetRx_fuse {n q} : (s.hdSetRx n q).fuse = s.fuse := by simp [State.hdSetRx]
@[simp] theorem State.hdLevel_fuse {n k b} : (s.hdLevel n k b).fuse = s.fuse := rfl
@[simp] theorem State.hdCount_fuse {n k} : (s.hdCount n k).fuse = s.fuse := by simp [State.hdCount]
@[simp] theorem State.hdFault_fuse {n code} : (s.hdFault n code).fuse = s.fuse := by simp [State.hdFault]
@[simp] theorem State.hdStop_fuse {n} : (s.hdStop n).fuse = s.fuse := rfl
@[simp] theorem State.hdEcc_fuse {b} : (s.hdEcc b).fuse = s.fuse := by simp [State.hdEcc]
@[simp] theorem State.hdDeliver_fuse {n w} : (s.hdDeliver n w).fuse = s.fuse := by simp [State.hdDeliver]

@[simp] theorem HdRes.expired_fuse {r : HdRes} : r.expired.state.fuse = r.state.fuse := by
  unfold HdRes.expired
  split <;> simp

@[simp] theorem State.hdAdvance_fuse {n hold target} : (s.hdAdvance n hold target).fuse = s.fuse := by simp [State.hdAdvance]
@[simp] theorem State.hdPinset_fuse {n w} : (s.hdPinset n w).fuse = s.fuse := by simp [State.hdPinset]

@[simp] theorem State.hdEnd_fuse {r : HdRes} {n w} : (State.hdEnd n w r).fuse = r.state.fuse := by
  unfold State.hdEnd
  split <;> simp

@[simp] theorem State.hdIssue_fuse {n op fetchBad body} (h : ∀ a u, Part.fuse.same u (body a u).state) :
    (s.hdIssue n op fetchBad body).fuse = s.fuse := by
  simp only [same_fuse_iff] at h
  simp [State.hdIssue, h]

@[simp] theorem State.hdFlag_fuse {n b} : (s.hdFlag n b).fuse = s.fuse := rfl
@[simp] theorem hdNopBody_fuse {arg} : (hdNopBody arg s).state.fuse = s.fuse := by simp [hdNopBody]
@[simp] theorem hdSampleBody_fuse {n pins arg} : (hdSampleBody n pins arg s).state.fuse = s.fuse := by simp [hdSampleBody]
@[simp] theorem hdDriveBody_fuse {n arg} : (hdDriveBody n arg s).state.fuse = s.fuse := by simp [hdDriveBody]
@[simp] theorem State.awaitCount_fuse {n arg k} : (s.awaitCount n arg k).fuse = s.fuse := by simp [State.awaitCount]
@[simp] theorem State.awaitEnd_fuse {n arg} : (s.awaitEnd n arg).fuse = s.fuse := rfl

@[simp] theorem hdAwaitBody_fuse {n before now arg} : (hdAwaitBody n before now arg s).state.fuse = s.fuse := by
  simp [hdAwaitBody]

@[simp] theorem hdCountBody_fuse {n arg} : (hdCountBody n arg s).state.fuse = s.fuse := by
  unfold hdCountBody
  split <;> simp

@[simp] theorem hdShiftBody_fuse {n arg} : (hdShiftBody n arg s).state.fuse = s.fuse := by
  unfold hdShiftBody
  dsimp only
  (repeat' split) <;> simp

@[simp] theorem hdEmitBody_fuse {n arg} : (hdEmitBody n arg s).state.fuse = s.fuse := by simp [hdEmitBody]

@[simp] theorem hdTakeBody_fuse {n arg} : (hdTakeBody n arg s).state.fuse = s.fuse := by
  unfold hdTakeBody
  (repeat' split) <;> simp

@[simp] theorem hdBranchBody_fuse {n pins arg} : (hdBranchBody n pins arg s).state.fuse = s.fuse := by
  unfold hdBranchBody
  split <;> simp

@[simp] theorem hdMatchBody_fuse {n pins arg} : (hdMatchBody n pins arg s).state.fuse = s.fuse := by
  unfold hdMatchBody
  split <;> simp

@[simp] theorem hdTimeoutBody_fuse {n arg} : (hdTimeoutBody n arg s).state.fuse = s.fuse := by simp [hdTimeoutBody]
@[simp] theorem hdSignalBody_fuse {n arg} : (hdSignalBody n arg s).state.fuse = s.fuse := by simp [hdSignalBody]

@[simp] theorem execHeddleNop_fuse {n fetchBad} : (stateOf s (execHeddleNop n fetchBad s)).fuse = s.fuse := by
  simp [execHeddleNop]

@[simp] theorem execSample_fuse {n pins fetchBad} : (stateOf s (execSample n pins fetchBad s)).fuse = s.fuse := by
  simp [execSample]

@[simp] theorem execDrive_fuse {n fetchBad} : (stateOf s (execDrive n fetchBad s)).fuse = s.fuse := by simp [execDrive]

@[simp] theorem execAwait_fuse {n before now fetchBad} : (stateOf s (execAwait n before now fetchBad s)).fuse = s.fuse := by
  simp [execAwait]

@[simp] theorem execCount_fuse {n fetchBad} : (stateOf s (execCount n fetchBad s)).fuse = s.fuse := by simp [execCount]
@[simp] theorem execShift_fuse {n fetchBad} : (stateOf s (execShift n fetchBad s)).fuse = s.fuse := by simp [execShift]
@[simp] theorem execEmit_fuse {n fetchBad} : (stateOf s (execEmit n fetchBad s)).fuse = s.fuse := by simp [execEmit]
@[simp] theorem execTake_fuse {n fetchBad} : (stateOf s (execTake n fetchBad s)).fuse = s.fuse := by simp [execTake]

@[simp] theorem execBranch_fuse {n pins fetchBad} : (stateOf s (execBranch n pins fetchBad s)).fuse = s.fuse := by
  simp [execBranch]

@[simp] theorem execMatch_fuse {n pins fetchBad} : (stateOf s (execMatch n pins fetchBad s)).fuse = s.fuse := by simp [execMatch]
@[simp] theorem execTimeout_fuse {n fetchBad} : (stateOf s (execTimeout n fetchBad s)).fuse = s.fuse := by simp [execTimeout]
@[simp] theorem execSignal_fuse {n fetchBad} : (stateOf s (execSignal n fetchBad s)).fuse = s.fuse := by simp [execSignal]
@[simp] theorem State.hdExpire_fuse {n} : (s.hdExpire n).fuse = s.fuse := by simp [State.hdExpire]

@[simp] theorem execAwaitConditionMet_fuse {n cycles before now} :
    (stateOf s (execAwaitConditionMet n cycles before now s)).fuse = s.fuse := by
  simp [execAwaitConditionMet]

@[simp] theorem execHeddleStallRelease_fuse {n cycles} : (stateOf s (execHeddleStallRelease n cycles s)).fuse = s.fuse := by
  unfold execHeddleStallRelease
  dsimp only
  (repeat' split) <;> simp

@[simp] theorem execHeddleTExpiry_fuse {n} : (stateOf s (execHeddleTExpiry n s)).fuse = s.fuse := by simp [execHeddleTExpiry]

@[simp] theorem execHeddleTimeCompare_fuse {n} : (stateOf s (execHeddleTimeCompare n s)).fuse = s.fuse := by
  simp [execHeddleTimeCompare]

@[simp] theorem State.hdAngle_fuse {n} : (s.hdAngle n).fuse = s.fuse := by simp [State.hdAngle]
@[simp] theorem execHeddleEnable_fuse {n wtr} : (stateOf s (execHeddleEnable n wtr s)).fuse = s.fuse := by simp [execHeddleEnable]

@[simp] theorem execHeddleDisable_fuse {n wtr} : (stateOf s (execHeddleDisable n wtr s)).fuse = s.fuse := by
  simp [execHeddleDisable]

@[simp] theorem execRestart_fuse {n wtr} : (stateOf s (execRestart n wtr s)).fuse = s.fuse := by simp [execRestart]
@[simp] theorem execFlush_fuse {n wtr} : (stateOf s (execFlush n wtr s)).fuse = s.fuse := by simp [execFlush]

@[simp] theorem execSplitWrite_fuse {n wtr split} : (stateOf s (execSplitWrite n wtr split s)).fuse = s.fuse := by
  simp [execSplitWrite]

@[simp] theorem State.tickHeddle_fuse {n} : (s.tickHeddle n).fuse = s.fuse := rfl
@[simp] theorem State.tickHeddles_fuse : s.tickHeddles.fuse = s.fuse := by simp [State.tickHeddles]

@[simp] theorem execHeddleDivWrite_fuse {n wtr d} : (stateOf s (execHeddleDivWrite n wtr d s)).fuse = s.fuse := by
  simp [execHeddleDivWrite]

@[simp] theorem execRegionWrite_fuse {n wtr base len start wrap} :
    (stateOf s (execRegionWrite n wtr base len start wrap s)).fuse = s.fuse := by
  simp [execRegionWrite]

@[simp] theorem State.putSlotByte_fuse {n k b} : (s.putSlotByte n k b).fuse = s.fuse := rfl

@[simp] theorem execSlotmapWrite_fuse {n wtr hi v} : (stateOf s (execSlotmapWrite n wtr hi v s)).fuse = s.fuse := by
  simp [execSlotmapWrite]

@[simp] theorem execProgramWordWrite_fuse {b w wtr v} : (stateOf s (execProgramWordWrite b w wtr v s)).fuse = s.fuse := by
  simp [execProgramWordWrite]

@[simp] theorem execTxqWrite_fuse {n wtr v} : (stateOf s (execTxqWrite n wtr v s)).fuse = s.fuse := by simp [execTxqWrite]

@[simp] theorem execRxqRead_fuse {n} : (stateOf s (execRxqRead n s)).fuse = s.fuse := by
  unfold execRxqRead
  split <;> simp

@[simp] theorem execTtargetWrite_fuse {n wtr v} : (stateOf s (execTtargetWrite n wtr v s)).fuse = s.fuse := by
  simp [execTtargetWrite]

@[simp] theorem execBypassWrite_fuse {wtr v} : (stateOf s (execBypassWrite wtr v s)).fuse = s.fuse := by
  unfold execBypassWrite
  rw [stateOf_next]
  refine each_fuse fun u k => ?_
  rw [same_fuse_iff]
  split <;> simp

@[simp] theorem execDaliCurrentLimit_fuse {i} : (stateOf s (execDaliCurrentLimit i s)).fuse = s.fuse := by
  simp [execDaliCurrentLimit]

/-! ### PowerStage -/

@[simp] theorem State.grTryStart_fuse {g} : (s.grTryStart g).fuse = s.fuse := by simp [State.grTryStart]
@[simp] theorem execGroupStart_fuse {g} : (stateOf s (execGroupStart g s)).fuse = s.fuse := by simp [execGroupStart]
@[simp] theorem execGroupStop_fuse {g} : (stateOf s (execGroupStop g s)).fuse = s.fuse := by simp [execGroupStop]
@[simp] theorem execGroupPark_fuse {g} : (stateOf s (execGroupPark g s)).fuse = s.fuse := by simp [execGroupPark]
@[simp] theorem State.grClear_fuse {g} : (s.grClear g).fuse = s.fuse := by simp [State.grClear]
@[simp] theorem execGroupClear_fuse {g} : (stateOf s (execGroupClear g s)).fuse = s.fuse := by simp [execGroupClear]

@[simp] theorem execStartConditionsMet_fuse {g} : (stateOf s (execStartConditionsMet g s)).fuse = s.fuse := by
  simp [execStartConditionsMet]

@[simp] theorem execPrecheckDone_fuse {g vout vin isen} : (stateOf s (execPrecheckDone g vout vin isen s)).fuse = s.fuse := by
  simp [execPrecheckDone]

@[simp] theorem execSoftstartDone_fuse {g} : (stateOf s (execSoftstartDone g s)).fuse = s.fuse := by simp [execSoftstartDone]
@[simp] theorem execGroupRetry_fuse {g} : (stateOf s (execGroupRetry g s)).fuse = s.fuse := by simp [execGroupRetry]
@[simp] theorem execRampdownDone_fuse {g} : (stateOf s (execRampdownDone g s)).fuse = s.fuse := by simp [execRampdownDone]
@[simp] theorem State.dropPhase_fuse {g n} : (s.dropPhase g n).fuse = s.fuse := by simp [State.dropPhase]

@[simp] theorem execLoopStep_fuse {g} : (stateOf s (execLoopStep g s)).fuse = s.fuse := by
  unfold execLoopStep
  extract_lets +onlyGivenNames s0 v phases vo vi cur
  have h0 : s0.fuse = s.fuse := State.wakePcp_fuse
  clear_value s0 v phases vo vi cur
  rw [stateOf_next]
  split
  · rfl
  split
  · simp [h0]
  split
  · split
    · simp [h0]
    extract_lets +onlyGivenNames cs mv miv off a swap v0 s1 ref per law hold duty keep win v1 s2 trims s3 s4 release
        s5 mean de de' s6
    have h3 : s3.fuse = s.fuse := by simp [s3, s2, s1, h0]
    clear_value s3
    have h6 : s6.fuse = s.fuse := by simp [s6, s5, s4, h3]
    clear_value s6
    split
    · exact h6
    · split
      · simp [h6]
      · split <;> simp [h6]
    · simp [h6]
  · simp [h0]

@[simp] theorem execPwmSyncEvent_fuse {g} : (stateOf s (execPwmSyncEvent g s)).fuse = s.fuse := by simp [execPwmSyncEvent]
@[simp] theorem execPhaseRotation_fuse {g} : (stateOf s (execPhaseRotation g s)).fuse = s.fuse := by simp [execPhaseRotation]

@[simp] theorem execDutyWrite_fuse {n v} : (stateOf s (execDutyWrite n v s)).fuse = s.fuse := by
  unfold execDutyWrite
  split <;> simp

@[simp] theorem State.truncate_fuse {g n} : (s.truncate g n).fuse = s.fuse := by simp [State.truncate]

@[simp] theorem execTripLineEdge_fuse {t} : (stateOf s (execTripLineEdge t s)).fuse = s.fuse := by
  unfold execTripLineEdge
  dsimp only
  split <;> simp

@[simp] theorem execGateDriverFault_fuse {n active} : (stateOf s (execGateDriverFault n active s)).fuse = s.fuse := by
  unfold execGateDriverFault
  (repeat' split) <;> simp

@[simp] theorem execZcdEdge_fuse {n} : (stateOf s (execZcdEdge n s)).fuse = s.fuse := by
  unfold execZcdEdge
  split <;> simp

@[simp] theorem State.seqTrigger_fuse {k} : (s.seqTrigger k).fuse = s.fuse := by simp [State.seqTrigger]
@[simp] theorem execSeqGo_fuse {k} : (stateOf s (execSeqGo k s)).fuse = s.fuse := by simp [execSeqGo]
@[simp] theorem execSeqPwmTrigger_fuse {k} : (stateOf s (execSeqPwmTrigger k s)).fuse = s.fuse := by simp [execSeqPwmTrigger]
@[simp] theorem execSeqTimeTrigger_fuse {k} : (stateOf s (execSeqTimeTrigger k s)).fuse = s.fuse := by simp [execSeqTimeTrigger]

@[simp] theorem execSequenceDone_fuse {k} : (stateOf s (execSequenceDone k s)).fuse = s.fuse := by
  unfold execSequenceDone
  extract_lets +onlyGivenNames s1 s2
  have h1 : s1.fuse = s.fuse := each_fuse fun u t => by
    rw [same_fuse_iff]
    dsimp only
    split <;> simp
  simp [s2, h1]

@[simp] theorem execAdcOffsetCalibration_fuse {c code busy} :
    (stateOf s (execAdcOffsetCalibration c code busy s)).fuse = s.fuse := by
  simp [execAdcOffsetCalibration]

@[simp] theorem execPcpWake_fuse : (stateOf s (execPcpWake s)).fuse = s.fuse := by simp [execPcpWake]
@[simp] theorem State.grSync_fuse {g} : (s.grSync g).fuse = s.fuse := by simp [State.grSync]
@[simp] theorem State.seqAngle_fuse {k} : (s.seqAngle k).fuse = s.fuse := by simp [State.seqAngle]

/-! ### Treadle -/

@[simp] theorem State.trdTo_fuse {st} : (s.trdTo st).fuse = s.fuse := rfl
@[simp] theorem State.angSeg_fuse : s.angSeg.fuse = s.fuse := rfl
@[simp] theorem State.putInc_fuse {n} : (s.putInc n).fuse = s.fuse := rfl
@[simp] theorem State.setInc_fuse {n} : (s.setInc n).fuse = s.fuse := rfl
@[simp] theorem State.spread_fuse {num den} : (s.spread num den).fuse = s.fuse := rfl
@[simp] theorem State.angMove_fuse {d} : (s.angMove d).fuse = s.fuse := rfl
@[simp] theorem State.tickTreadle_fuse : s.tickTreadle.fuse = s.fuse := by simp [State.tickTreadle]
@[simp] theorem State.aevAdvance_fuse {n k} : (s.aevAdvance n k).fuse = s.fuse := rfl

@[simp] theorem State.aevFires_fuse {n late} : (s.aevFires n late).fuse = s.fuse := by
  unfold State.aevFires
  extract_lets +onlyGivenNames s1 _ s2 d
  have h2 : s2.fuse = s.fuse := by
    have h1 : s1.fuse = s.fuse := State.wrIf_fuse.trans ((State.wr_fuse ..).trans (State.wr_fuse ..))
    clear_value s1
    unfold s2
    split
    · exact State.interruptWeaver_fuse.trans (withTrd_fuse.trans h1)
    · exact h1
  clear_value s2 d
  split
  · exact (State.wr_fuse ..).trans h2
  split
  · exact (State.wr_fuse ..).trans (State.aevAdvance_fuse.trans h2)
  · exact State.aevAdvance_fuse.trans h2

@[simp] theorem State.aevDeliver_fuse {tcode tidx} : (s.aevDeliver tcode tidx).fuse = s.fuse := by
  unfold State.aevDeliver
  split <;> simp

@[simp] theorem State.aevFireAll_fuse {l late} : (s.aevFireAll l late).fuse = s.fuse := by
  unfold State.aevFireAll
  simp

@[simp] theorem State.aevResume_fuse : s.aevResume.fuse = s.fuse := by
  refine each_fuse fun u n => ?_
  rw [same_fuse_iff]
  split
  · rfl
  split
  · exact (State.wr_fuse ..).trans (State.wr_fuse ..)
  · exact State.aevAdvance_fuse

@[simp] theorem State.angStep_fuse {d} : (s.angStep d).fuse = s.fuse := by simp [State.angStep]

@[simp] theorem State.aevWrite_fuse {n reg v} : (s.aevWrite n reg v).fuse = s.fuse := by
  unfold State.aevWrite
  split <;> simp

@[simp] theorem State.seqCheck_fuse : s.seqCheck.fuse = s.fuse := by simp [State.seqCheck]
@[simp] theorem State.seqCycle_fuse {ang} : (s.seqCycle ang).fuse = s.fuse := by simp [State.seqCycle]
@[simp] theorem State.xtsPut_fuse {ang back cand} : (s.xtsPut ang back cand).fuse = s.fuse := by simp [State.xtsPut]
@[simp] theorem State.lockAt_fuse {w} : (s.lockAt w).fuse = s.fuse := rfl
@[simp] theorem State.relock_fuse : s.relock.fuse = s.fuse := rfl
@[simp] theorem State.slewOn_fuse {e} : (s.slewOn e).fuse = s.fuse := by simp [State.slewOn]

@[simp] theorem State.runDone_fuse {t sum e mgr} : (s.runDone t sum e mgr).fuse = s.fuse := by
  unfold State.runDone
  extract_lets +onlyGivenNames s1 _ s2 d s3 s4 map s5
  have h2 : s2.fuse = s.fuse := by simp [s2, s1]
  have h5 : s5.fuse = s.fuse := by simp [s5, s4, s3, h2]
  simp [h2, h5]

@[simp] theorem State.runAdd_fuse {t e mgr} : (s.runAdd t e mgr).fuse = s.fuse := by simp [State.runAdd]
@[simp] theorem State.acceptLocked_fuse {t e ang} : (s.acceptLocked t e ang).fuse = s.fuse := by simp [State.acceptLocked]
@[simp] theorem State.acceptSlew_fuse {t e} : (s.acceptSlew t e).fuse = s.fuse := by simp [State.acceptSlew]
@[simp] theorem State.ms0Crossing_fuse {back mgr} : (s.ms0Crossing back mgr).fuse = s.fuse := by simp [State.ms0Crossing]

@[simp] theorem execMs0Crossing_fuse {edge low high} : (stateOf s (execMs0Crossing edge low high s)).fuse = s.fuse := by
  unfold execMs0Crossing
  (repeat' split) <;> simp

@[simp] theorem State.toHoldover_fuse : s.toHoldover.fuse = s.fuse := rfl
@[simp] theorem execWindowMiss_fuse : (stateOf s (execWindowMiss s)).fuse = s.fuse := by simp [execWindowMiss]
@[simp] theorem execAcquireTimeout_fuse : (stateOf s (execAcquireTimeout s)).fuse = s.fuse := by simp [execAcquireTimeout]

@[simp] theorem execMsPhaseCrossing_fuse {k} : (stateOf s (execMsPhaseCrossing k s)).fuse = s.fuse := by
  unfold execMsPhaseCrossing
  (repeat' split) <;> simp

@[simp] theorem execInputPresenceUpdate_fuse : (stateOf s (execInputPresenceUpdate s)).fuse = s.fuse := by
  simp [execInputPresenceUpdate]

theorem State.stepCommand_fuse : ∀ u ∈ s.stepCommand, u.fuse = s.fuse := by simp [State.stepCommand]

@[simp] theorem execStepCmd_fuse : (stateOf s (execStepCmd s)).fuse = s.fuse := by
  unfold execStepCmd
  split
  next e => simpa using State.stepCommand_fuse _ e
  next => simp

@[simp] theorem execAevArm_fuse {n reg v} : (stateOf s (execAevArm n reg v s)).fuse = s.fuse := by simp [execAevArm]
@[simp] theorem execAevFire_fuse : (stateOf s (execAevFire s)).fuse = s.fuse := by simp [execAevFire]

@[simp] theorem State.xtsPop_fuse : s.xtsPop.fuse = s.fuse := by
  unfold State.xtsPop
  split <;> simp

@[simp] theorem execXtspop_fuse : (stateOf s (execXtspop s)).fuse = s.fuse := by simp [execXtspop]
@[simp] theorem State.treadleStart_fuse : s.treadleStart.fuse = s.fuse := rfl

/-! ### Uart -/

@[simp] theorem State.setUa_fuse {n u} : (s.setUa n u).fuse = s.fuse := rfl
@[simp] theorem State.uaWake_fuse {n} : (s.uaWake n).fuse = s.fuse := by simp [State.uaWake]
@[simp] theorem State.uaSetTx_fuse {n q} : (s.uaSetTx n q).fuse = s.fuse := by simp [State.uaSetTx]
@[simp] theorem State.uaSetRx_fuse {n q} : (s.uaSetRx n q).fuse = s.fuse := by simp [State.uaSetRx]

@[simp] theorem State.uaApply_fuse {n} : (s.uaApply n).fuse = s.fuse := by
  unfold State.uaApply
  dsimp only
  (repeat' split) <;> simp

@[simp] theorem State.uaDisable_fuse {n} : (s.uaDisable n).fuse = s.fuse := rfl

@[simp] theorem execUartTxWrite_fuse {n wtr b} : (stateOf s (execUartTxWrite n wtr b s)).fuse = s.fuse := by
  simp [execUartTxWrite]

@[simp] theorem execUartRxRead_fuse {n} : (stateOf s (execUartRxRead n s)).fuse = s.fuse := by
  unfold execUartRxRead
  split <;> simp

@[simp] theorem execTxflush_fuse {n wtr} : (stateOf s (execTxflush n wtr s)).fuse = s.fuse := by simp [execTxflush]
@[simp] theorem execRxflush_fuse {n wtr} : (stateOf s (execRxflush n wtr s)).fuse = s.fuse := by simp [execRxflush]

@[simp] theorem execUartConfigWrite_fuse {n wtr cfg receiving} :
    (stateOf s (execUartConfigWrite n wtr cfg receiving s)).fuse = s.fuse := by
  unfold execUartConfigWrite
  (repeat' split) <;> simp

@[simp] theorem State.uaStart_fuse {n} : (s.uaStart n).fuse = s.fuse := by
  unfold State.uaStart
  split <;> simp

@[simp] theorem execUartTransmitStart_fuse {n} : (stateOf s (execUartTransmitStart n s)).fuse = s.fuse := by
  simp [execUartTransmitStart]

@[simp] theorem execUartCharacterSent_fuse {n} : (stateOf s (execUartCharacterSent n s)).fuse = s.fuse := by
  simp [execUartCharacterSent]

@[simp] theorem execUartDeRelease_fuse {n} : (stateOf s (execUartDeRelease n s)).fuse = s.fuse := by simp [execUartDeRelease]

@[simp] theorem execUartCharacterReceived_fuse {n data framing parity brk} :
    (stateOf s (execUartCharacterReceived n data framing parity brk s)).fuse = s.fuse := by
  simp [execUartCharacterReceived]

@[simp] theorem execUartIdle_fuse {n} : (stateOf s (execUartIdle n s)).fuse = s.fuse := by simp [execUartIdle]

/-! ### OdRead -/

@[simp] theorem State.regSense_fuse {base} : (s.regSense base).fuse = s.fuse := by simp [State.regSense]
@[simp] theorem State.snapRead_fuse {c sub} : (s.snapRead c sub).2.fuse = s.fuse := rfl
@[simp] theorem State.odTake_fuse {c i sub m} : (s.odTake c i sub m).2.fuse = s.fuse := by simp [State.odTake]

/-! ### Images -/

@[simp] theorem State.reverted_fuse : s.reverted.fuse = s.fuse := rfl
@[simp] theorem State.slotTo_fuse {k st} : (s.slotTo k st).fuse = s.fuse := rfl
@[simp] theorem State.slotErr_fuse {k d} : (s.slotErr k d).fuse = s.fuse := rfl
@[simp] theorem State.clearShuttle_fuse {n} : (s.clearShuttle n).fuse = s.fuse := by simp [State.clearShuttle]
@[simp] theorem State.clearWords_fuse {b off n} : (s.clearWords b off n).fuse = s.fuse := rfl
@[simp] theorem State.slotFree_fuse {k} : (s.slotFree k).fuse = s.fuse := by simp [State.slotFree]

@[simp] theorem State.loadCheck_fuse {k src im} : (s.loadCheck k src im).2.fuse = s.fuse := by
  unfold State.loadCheck
  split <;> simp

@[simp] theorem State.loadVerify_fuse {k} : (s.loadVerify k).2.fuse = s.fuse := by
  unfold State.loadVerify
  split <;> simp

@[simp] theorem State.putTagged_fuse {b off w} : (s.putTagged b off w).fuse = s.fuse := rfl
@[simp] theorem State.putCode_fuse {b code} : (s.putCode b code).fuse = s.fuse := by simp [State.putCode]
@[simp] theorem State.putProg_fuse {b base n ws} : (s.putProg b base n ws).fuse = s.fuse := by simp [State.putProg]
@[simp] theorem State.putWords_fuse {b off ws} : (s.putWords b off ws).fuse = s.fuse := by simp [State.putWords]

@[simp] theorem State.takeJournaled_fuse {k im} : (s.takeJournaled k im).fuse = s.fuse := by
  refine each_fuse fun u d => ?_
  rw [same_fuse_iff]
  dsimp only
  split
  · split <;> simp
  · rfl

@[simp] theorem State.loadPlace_fuse {k} : (s.loadPlace k).fuse = s.fuse := by
  unfold State.loadPlace
  split <;> simp

@[simp] theorem State.loadStart_fuse {k} : (s.loadStart k).fuse = s.fuse := by
  unfold State.loadStart
  split <;> simp

@[simp] theorem State.loadRest_fuse {k} : (s.loadRest k).2.fuse = s.fuse := by simp [State.loadRest]
@[simp] theorem State.loadNow_fuse {k src im} : (s.loadNow k src im).2.fuse = s.fuse := by simp [State.loadNow]
@[simp] theorem State.haltThreads_fuse {k} : (s.haltThreads k).fuse = s.fuse := by simp [State.haltThreads]
@[simp] theorem State.closeSessions_fuse {k} : (s.closeSessions k).fuse = s.fuse := by simp [State.closeSessions]
@[simp] theorem State.channelsSafe_fuse {k} : (s.channelsSafe k).fuse = s.fuse := by simp [State.channelsSafe]
@[simp] theorem State.slotQuiet_fuse {k} : (s.slotQuiet k).fuse = s.fuse := by simp [State.slotQuiet]
@[simp] theorem State.slotQuiesce_fuse {k} : (s.slotQuiesce k).fuse = s.fuse := by simp [State.slotQuiesce]

@[simp] theorem State.imageFault_fuse {n j code} : (s.imageFault n j code).fuse = s.fuse := by
  unfold State.imageFault
  split <;> simp

@[simp] theorem State.stageReturn_fuse : s.stageReturn.fuse = s.fuse := rfl
@[simp] theorem State.imageSettle_fuse {i} : (s.imageSettle i).fuse = s.fuse := by simp [State.imageSettle]
@[simp] theorem State.storeFail_fuse {i k d} : (s.storeFail i k d).fuse = s.fuse := by simp [State.storeFail]
@[simp] theorem State.stepLoad_fuse {i k src} : (s.stepLoad i k src).fuse = s.fuse := by simp [State.stepLoad]
@[simp] theorem State.stepUnload_fuse {i k} : (s.stepUnload i k).fuse = s.fuse := by simp [State.stepUnload]

@[simp] theorem State.stepStore_fuse {i k failed} : (s.stepStore i k failed).fuse = s.fuse := by
  unfold State.stepStore
  split <;> simp

@[simp] theorem State.stepTable_fuse {i k value failed} : (s.stepTable i k value failed).fuse = s.fuse := by
  simp [State.stepTable]

@[simp] theorem State.stepImage_fuse {i failed} : (s.stepImage i failed).fuse = s.fuse := by simp [State.stepImage]
@[simp] theorem execShwake_fuse {t w} : (stateOf s (execShwake t w s)).fuse = s.fuse := by simp [execShwake]
@[simp] theorem execImageRestart_fuse {k} : (stateOf s (execImageRestart k s)).fuse = s.fuse := by simp [execImageRestart]

/-! ### Power -/

@[simp] theorem State.powerTo_fuse {st} : (s.powerTo st).fuse = s.fuse := rfl

@[simp] theorem State.tearHead_fuse : s.tearHead.fuse = s.fuse := by
  unfold State.tearHead
  split <;> simp

@[simp] theorem State.dieOff_fuse : s.dieOff.fuse = s.fuse := by simp [State.dieOff]
@[simp] theorem State.rest_fuse : s.rest.fuse = s.fuse := rfl
@[simp] theorem State.wakeStart_fuse {src} : (s.wakeStart src).fuse = s.fuse := rfl
@[simp] theorem State.wakeCall_fuse {src} : (s.wakeCall src).fuse = s.fuse := by simp [State.wakeCall]
@[simp] theorem State.wakeTo_fuse {n} : (s.wakeTo n).fuse = s.fuse := rfl
@[simp] theorem State.failRecord_fuse {step} : (s.failRecord step).fuse = s.fuse := rfl
@[simp] theorem State.wakeFail_fuse {step} : (s.wakeFail step).fuse = s.fuse := by simp [State.wakeFail]

@[simp] theorem State.fillStaging_fuse {k} : (State.fillStaging k s).fuse = s.fuse := by
  induction k generalizing s with
  | zero => rfl
  | succ k ih =>
    unfold State.fillStaging
    split
    · rfl
    · split
      · exact ih
      · rfl

@[simp] theorem State.sdStart_fuse {t} : (s.sdStart t).fuse = s.fuse := by simp [State.sdStart]
@[simp] theorem State.enterS5_fuse {last} : (s.enterS5 last).fuse = s.fuse := by simp [State.enterS5]
@[simp] theorem State.jumpS5_fuse {t} : (s.jumpS5 t).fuse = s.fuse := by simp [State.jumpS5]
@[simp] theorem State.loomDrain_fuse : s.loomDrain.fuse = s.fuse := by simp [State.loomDrain]
@[simp] theorem State.resume_fuse : s.resume.fuse = s.fuse := by simp [State.resume]
@[simp] theorem State.enterS4_fuse : s.enterS4.fuse = s.fuse := by simp [State.enterS4]
@[simp] theorem State.resumeRecord_fuse : s.resumeRecord.fuse = s.fuse := rfl
@[simp] theorem State.endS4_fuse {incomplete} : (s.endS4 incomplete).fuse = s.fuse := by simp [State.endS4]
@[simp] theorem State.endS6_fuse : s.endS6.fuse = s.fuse := by simp [State.endS6]
@[simp] theorem State.sdCommand_fuse {restart} : (s.sdCommand restart).2.fuse = s.fuse := by simp [State.sdCommand]
@[simp] theorem State.sdcmdWrite_fuse {code} : (s.sdcmdWrite code).2.fuse = s.fuse := by simp [State.sdcmdWrite]
@[simp] theorem execLockstepMismatch_fuse : (stateOf s (execLockstepMismatch s)).fuse = s.fuse := by simp [execLockstepMismatch]
@[simp] theorem State.clockLost_fuse {own run} : (s.clockLost own run).fuse = s.fuse := by simp [State.clockLost]
@[simp] theorem execRefclkLost_fuse : (stateOf s (execRefclkLost s)).fuse = s.fuse := by simp [execRefclkLost]
@[simp] theorem execRefclkOutOfRange_fuse : (stateOf s (execRefclkOutOfRange s)).fuse = s.fuse := by simp [execRefclkOutOfRange]
@[simp] theorem execPllUnlock_fuse : (stateOf s (execPllUnlock s)).fuse = s.fuse := by simp [execPllUnlock]
@[simp] theorem execVbatPresent_fuse : (stateOf s (execVbatPresent s)).fuse = s.fuse := by simp [execVbatPresent]
@[simp] theorem State.coolingOn_fuse : s.coolingOn.fuse = s.fuse := by simp [State.coolingOn]

@[simp] theorem execMainFeedPresent_fuse {vhv} : (stateOf s (execMainFeedPresent vhv s)).fuse = s.fuse := by
  simp [execMainFeedPresent]

@[simp] theorem execMainFeedLost_fuse : (stateOf s (execMainFeedLost s)).fuse = s.fuse := by simp [execMainFeedLost]
@[simp] theorem execWakeEvent_fuse {src} : (stateOf s (execWakeEvent src s)).fuse = s.fuse := by simp [execWakeEvent]

@[simp] theorem execCanWake_fuse {n c} : (stateOf s (execCanWake n c s)).fuse = s.fuse := by
  unfold execCanWake
  extract_lets +onlyGivenNames x
  clear_value x
  simp
  intro _ _ _
  exact stateOf_fuse execWakeEvent_fuse rfl

@[simp] theorem execCompanionRegulatorsInRegulation_fuse : (stateOf s (execCompanionRegulatorsInRegulation s)).fuse = s.fuse := by
  simp [execCompanionRegulatorsInRegulation]

@[simp] theorem execPgCoreHigh_fuse {vsel18} : (stateOf s (execPgCoreHigh vsel18 s)).fuse = s.fuse := by simp [execPgCoreHigh]
@[simp] theorem execRefclkInRange_fuse : (stateOf s (execRefclkInRange s)).fuse = s.fuse := by simp [execRefclkInRange]
@[simp] theorem execPll0Lock_fuse : (stateOf s (execPll0Lock s)).fuse = s.fuse := by simp [execPll0Lock]

@[simp] theorem execFuseCheck_fuse {differ} : (stateOf s (execFuseCheck differ s)).fuse = s.fuse := by
  unfold execFuseCheck
  (repeat' split) <;> simp

@[simp] theorem execStrapSampleRound_fuse {a b c} : (stateOf s (execStrapSampleRound a b c s)).fuse = s.fuse := by
  simp [execStrapSampleRound]

@[simp] theorem execWakeStepTimeout_fuse : (stateOf s (execWakeStepTimeout s)).fuse = s.fuse := by simp [execWakeStepTimeout]

@[simp] theorem execWakeAttemptRestart_fuse : (stateOf s (execWakeAttemptRestart s)).fuse = s.fuse := by
  simp [execWakeAttemptRestart]

@[simp] theorem execRefclkBack_fuse : (stateOf s (execRefclkBack s)).fuse = s.fuse := by simp [execRefclkBack]
@[simp] theorem execResetNLow_fuse : (stateOf s (execResetNLow s)).fuse = s.fuse := by simp [execResetNLow]
@[simp] theorem execResetNRelease_fuse : (stateOf s (execResetNRelease s)).fuse = s.fuse := by simp [execResetNRelease]
@[simp] theorem execVhvFail_fuse : (stateOf s (execVhvFail s)).fuse = s.fuse := by simp [execVhvFail]
@[simp] theorem execPgCoreWarning_fuse : (stateOf s (execPgCoreWarning s)).fuse = s.fuse := by simp [execPgCoreWarning]
@[simp] theorem execShutdownPowerOff_fuse : (stateOf s (execShutdownPowerOff s)).fuse = s.fuse := by simp [execShutdownPowerOff]
@[simp] theorem execShutdownRestart_fuse : (stateOf s (execShutdownRestart s)).fuse = s.fuse := by simp [execShutdownRestart]

@[simp] theorem execShutdownStepComplete_fuse : (stateOf s (execShutdownStepComplete s)).fuse = s.fuse := by
  simp [execShutdownStepComplete]

@[simp] theorem execRampCapExpired_fuse : (stateOf s (execRampCapExpired s)).fuse = s.fuse := by simp [execRampCapExpired]
@[simp] theorem execS4BoundReached_fuse : (stateOf s (execS4BoundReached s)).fuse = s.fuse := by simp [execS4BoundReached]
@[simp] theorem execVhvReturned_fuse : (stateOf s (execVhvReturned s)).fuse = s.fuse := by simp [execVhvReturned]

@[simp] theorem execOffIntervalEnd_fuse : (stateOf s (execOffIntervalEnd s)).fuse = s.fuse := by
  unfold execOffIntervalEnd
  (repeat' split) <;> simp

/-! ### Operands -/

@[simp] theorem State.setG_fuse {i n w} : (s.setG i n w).fuse = s.fuse := rfl
@[simp] theorem State.setFlags_fuse {i f} : (s.setFlags i f).fuse = s.fuse := rfl
@[simp] theorem State.setV_fuse {i b} : (s.setV i b).fuse = s.fuse := by simp [State.setV]
@[simp] theorem State.setP_fuse {i b} : (s.setP i b).fuse = s.fuse := rfl
@[simp] theorem State.freeTagged_fuse : s.freeTagged.2.fuse = s.fuse := rfl
@[simp] theorem State.trapEnter_fuse {i code tpc w} : (s.trapEnter i code tpc w).fuse = s.fuse := rfl
@[simp] theorem State.doubleTrap_fuse {i code tpc} : (s.doubleTrap i code tpc).fuse = s.fuse := by simp [State.doubleTrap]
@[simp] theorem State.takeTrap_fuse {i code tpc w} : (s.takeTrap i code tpc w).fuse = s.fuse := by simp [State.takeTrap]
@[simp] theorem State.fetchFails_fuse {i len} : (s.fetchFails i len).2.fuse = s.fuse := by simp [State.fetchFails]

@[simp] theorem State.issue_fuse {d op enc opc body} (h : ∀ u, Part.fuse.same u (body u).state) :
    (s.issue d op enc opc body).fuse = s.fuse := by
  unfold State.issue
  extract_lets i t len next f
  have hf : f.2.fuse = s.fuse := by simp [f]
  have hb : (body f.2).state.fuse = s.fuse := (same_fuse_iff.1 (h _)).trans hf
  clear_value f
  generalize body f.2 = r at hb
  cases r <;> simp only [EurRes.state] at hb <;> simp [hf, hb]

theorem issue_next_fuse {d op enc opc body} (h : ∀ u, Part.fuse.same u (body u).state) :
    (stateOf s (.next (s.issue d op enc opc body))).fuse = s.fuse :=
  State.issue_fuse h

@[simp] theorem State.withAddr_fuse {op baseTag has k} (h : ∀ a, Part.fuse.same s (k a).state) :
    (s.withAddr op baseTag has k).state.fuse = s.fuse := by
  simp only [same_fuse_iff] at h
  simp [State.withAddr, h]

@[simp] theorem State.withWord_fuse {op a k} (h : ∀ w u, Part.fuse.same u (k w u).state) :
    (s.withWord op a k).state.fuse = s.fuse := by
  simp only [same_fuse_iff] at h
  simp [State.withWord, h]

@[simp] theorem State.storeWord'_fuse {op a w hit} : (s.storeWord' op a w hit).fuse = s.fuse := by simp [State.storeWord']

@[simp] theorem State.withB_fuse {op dflt k} (h : ∀ w u, Part.fuse.same u (k w u).state) :
    (s.withB op dflt k).state.fuse = s.fuse := by
  simp only [same_fuse_iff] at h
  simp [State.withB, h]

@[simp] theorem State.withPair_fuse {op a dflt pair k} (h : ∀ t w u, Part.fuse.same u (k t w u).state) :
    (s.withPair op a dflt pair k).state.fuse = s.fuse := by
  simp only [same_fuse_iff] at h
  unfold State.withPair
  dsimp only
  rw [EurRes.state_ite_fuse, EurRes.state_ite_fuse, State.withB_fuse fun b u => ?_]
  · simp
  · rw [same_fuse_iff]
    split
    · simp
    · split <;> simp [h]

@[simp] theorem State.withSrc_fuse {op w nilOk ok k} (h : Part.fuse.same s k.state) :
    (s.withSrc op w nilOk ok k).state.fuse = s.fuse := by
  simp only [same_fuse_iff] at h
  simp [State.withSrc, h]

/-! ### EurArith -/

@[simp] theorem State.setWide_fuse {i n t v} : (s.setWide i n t v).fuse = s.fuse := rfl

@[simp] theorem State.withWide_fuse {op ok k} (h : ∀ t a b, Part.fuse.same s (k t a b).state) :
    (s.withWide op ok k).state.fuse = s.fuse := by
  simp only [same_fuse_iff] at h
  unfold State.withWide
  dsimp only
  split
  · simp
  · split <;> simp [h]

@[simp] theorem State.alu_fuse {op pair f} : (s.alu op pair f).state.fuse = s.fuse := by simp [State.alu]
@[simp] theorem State.aluPlain_fuse {op pair f} : (s.aluPlain op pair f).state.fuse = s.fuse := by simp [State.aluPlain]
@[simp] theorem execEuAdd_fuse {op} : (stateOf s (execEuAdd op s)).fuse = s.fuse := by simp [execEuAdd]
@[simp] theorem execEuSub_fuse {op} : (stateOf s (execEuSub op s)).fuse = s.fuse := by simp [execEuSub]
@[simp] theorem execEuAdds_fuse {op} : (stateOf s (execEuAdds op s)).fuse = s.fuse := by simp [execEuAdds]
@[simp] theorem execEuSubs_fuse {op} : (stateOf s (execEuSubs op s)).fuse = s.fuse := by simp [execEuSubs]
@[simp] theorem execEuMul_fuse {op} : (stateOf s (execEuMul op s)).fuse = s.fuse := by simp [execEuMul]
@[simp] theorem execEuDiv_fuse {op} : (stateOf s (execEuDiv op s)).fuse = s.fuse := by simp [execEuDiv]
@[simp] theorem execEuRem_fuse {op} : (stateOf s (execEuRem op s)).fuse = s.fuse := by simp [execEuRem]
@[simp] theorem execEuCmp_fuse {op} : (stateOf s (execEuCmp op s)).fuse = s.fuse := by simp [execEuCmp]
@[simp] theorem execEuMin_fuse {op} : (stateOf s (execEuMin op s)).fuse = s.fuse := by simp [execEuMin]
@[simp] theorem execEuMax_fuse {op} : (stateOf s (execEuMax op s)).fuse = s.fuse := by simp [execEuMax]
@[simp] theorem execEuAnd_fuse {op} : (stateOf s (execEuAnd op s)).fuse = s.fuse := by simp [execEuAnd]
@[simp] theorem execEuOr_fuse {op} : (stateOf s (execEuOr op s)).fuse = s.fuse := by simp [execEuOr]
@[simp] theorem execEuXor_fuse {op} : (stateOf s (execEuXor op s)).fuse = s.fuse := by simp [execEuXor]
@[simp] theorem execEuTst_fuse {op} : (stateOf s (execEuTst op s)).fuse = s.fuse := by simp [execEuTst]
@[simp] theorem State.shift_fuse {op k ok} : (s.shift op k ok).state.fuse = s.fuse := by simp [State.shift]
@[simp] theorem execEuShl_fuse {op} : (stateOf s (execEuShl op s)).fuse = s.fuse := by simp [execEuShl]
@[simp] theorem execEuShr_fuse {op} : (stateOf s (execEuShr op s)).fuse = s.fuse := by simp [execEuShr]
@[simp] theorem execEuSar_fuse {op} : (stateOf s (execEuSar op s)).fuse = s.fuse := by simp [execEuSar]
@[simp] theorem execEuRol_fuse {op} : (stateOf s (execEuRol op s)).fuse = s.fuse := by simp [execEuRol]

@[simp] theorem State.unary_fuse {op ok f} (h : ∀ t w u, Part.fuse.same u (f t w u).2) :
    (s.unary op ok f).state.fuse = s.fuse := by
  simp only [same_fuse_iff] at h
  simp [State.unary, h]

@[simp] theorem execEuNeg_fuse {op} : (stateOf s (execEuNeg op s)).fuse = s.fuse := by simp [execEuNeg]
@[simp] theorem execEuAbs_fuse {op} : (stateOf s (execEuAbs op s)).fuse = s.fuse := by simp [execEuAbs]
@[simp] theorem execEuNot_fuse {op} : (stateOf s (execEuNot op s)).fuse = s.fuse := by simp [execEuNot]
@[simp] theorem execEuBswap_fuse {op} : (stateOf s (execEuBswap op s)).fuse = s.fuse := by simp [execEuBswap]
@[simp] theorem execEuClz_fuse {op} : (stateOf s (execEuClz op s)).fuse = s.fuse := by simp [execEuClz]
@[simp] theorem execEuMknil_fuse {op} : (stateOf s (execEuMknil op s)).fuse = s.fuse := by simp [execEuMknil]
@[simp] theorem execEuCvtf_fuse {op} : (stateOf s (execEuCvtf op s)).fuse = s.fuse := by simp [execEuCvtf]
@[simp] theorem execEuCvti_fuse {op} : (stateOf s (execEuCvti op s)).fuse = s.fuse := by simp [execEuCvti]

@[simp] theorem execEuMov_fuse {op} : (stateOf s (execEuMov op s)).fuse = s.fuse := by
  refine issue_next_fuse fun u => ?_
  simp

@[simp] theorem execEuTagof_fuse {op} : (stateOf s (execEuTagof op s)).fuse = s.fuse := by simp [execEuTagof]
@[simp] theorem execEuTageq_fuse {op} : (stateOf s (execEuTageq op s)).fuse = s.fuse := by simp [execEuTageq]
@[simp] theorem execEuRetag_fuse {op} : (stateOf s (execEuRetag op s)).fuse = s.fuse := by simp [execEuRetag]
@[simp] theorem execEuSetp_fuse {op} : (stateOf s (execEuSetp op s)).fuse = s.fuse := by simp [execEuSetp]
@[simp] theorem execEuMac_fuse {op} : (stateOf s (execEuMac op s)).fuse = s.fuse := by simp [execEuMac]
@[simp] theorem execEuMacr_fuse {op} : (stateOf s (execEuMacr op s)).fuse = s.fuse := by simp [execEuMacr]
@[simp] theorem execEuClracc_fuse {op} : (stateOf s (execEuClracc op s)).fuse = s.fuse := by simp [execEuClracc]
@[simp] theorem execEuClamp_fuse {op} : (stateOf s (execEuClamp op s)).fuse = s.fuse := by simp [execEuClamp]

/-! ### EurMemory -/

@[simp] theorem execEuLd_fuse {op} : (stateOf s (execEuLd op s)).fuse = s.fuse := by
  refine issue_next_fuse fun u => State.withAddr_fuse fun a => ?_
  simp

@[simp] theorem State.storeAt_fuse {op a w hit k} (h : ∀ u, Part.fuse.same u (k u).state) :
    (s.storeAt op a w hit k).state.fuse = s.fuse := by
  simp only [same_fuse_iff] at h
  simp [State.storeAt, h]

@[simp] theorem execEuSt_fuse {op} : (stateOf s (execEuSt op s)).fuse = s.fuse := by
  refine issue_next_fuse fun u => ?_
  dsimp only
  rw [same_fuse_iff]
  split
  · refine State.withSrc_fuse <| State.withSrc_fuse <| State.withAddr_fuse fun a => ?_
    simp
  · refine State.withSrc_fuse ?_
    simp

@[simp] theorem State.withStack_fuse {op a k} (h : ∀ a, Part.fuse.same s (k a).state) :
    (s.withStack op a k).state.fuse = s.fuse := by
  simp only [same_fuse_iff] at h
  simp [State.withStack, h]

@[simp] theorem execEuPush_fuse {op} : (stateOf s (execEuPush op s)).fuse = s.fuse := by
  refine issue_next_fuse fun u => State.withSrc_fuse ?_
  simp

@[simp] theorem execEuPop_fuse {op} : (stateOf s (execEuPop op s)).fuse = s.fuse := by
  refine issue_next_fuse fun u => ?_
  simp

@[simp] theorem State.withPacket_fuse {op n k} (h : ∀ a, Part.fuse.same s (k a).state) :
    (s.withPacket op n k).state.fuse = s.fuse := by
  simp only [same_fuse_iff] at h
  simp [State.withPacket, h]

@[simp] theorem State.packetRead_fuse {op a n} : (s.packetRead op a n).2.2.fuse = s.fuse := by simp [State.packetRead]
@[simp] theorem State.packetWrite_fuse {op a n v} : (s.packetWrite op a n v).2.fuse = s.fuse := by simp [State.packetWrite]
@[simp] theorem State.packetLoad_fuse {op n} : (s.packetLoad op n).state.fuse = s.fuse := by simp [State.packetLoad]
@[simp] theorem State.packetStore_fuse {op n} : (s.packetStore op n).state.fuse = s.fuse := by simp [State.packetStore]
@[simp] theorem execEuLdp_fuse {op} : (stateOf s (execEuLdp op s)).fuse = s.fuse := by simp [execEuLdp]
@[simp] theorem execEuStp_fuse {op} : (stateOf s (execEuStp op s)).fuse = s.fuse := by simp [execEuStp]
@[simp] theorem execEuLdph_fuse {op} : (stateOf s (execEuLdph op s)).fuse = s.fuse := by simp [execEuLdph]
@[simp] theorem execEuStph_fuse {op} : (stateOf s (execEuStph op s)).fuse = s.fuse := by simp [execEuStph]

@[simp] theorem State.withLocked_fuse {op k} (h : ∀ a w u, Part.fuse.same u (k a w u).state) :
    (s.withLocked op k).state.fuse = s.fuse := by
  simp only [same_fuse_iff] at h
  simp [State.withLocked, h]

@[simp] theorem State.collided_fuse {op a} : (s.collided op a).fuse = s.fuse := by simp [State.collided]

@[simp] theorem execEuXchg_fuse {op} : (stateOf s (execEuXchg op s)).fuse = s.fuse := by
  refine issue_next_fuse fun u => ?_
  simp

@[simp] theorem execEuXadd_fuse {op} : (stateOf s (execEuXadd op s)).fuse = s.fuse := by
  refine issue_next_fuse fun u => State.withSrc_fuse <| State.withLocked_fuse fun a w u => ?_
  rw [same_fuse_iff, EurRes.state_ite_fuse]
  split
  · simp
  · split <;> simp

@[simp] theorem execEuCas_fuse {op} : (stateOf s (execEuCas op s)).fuse = s.fuse := by
  refine issue_next_fuse fun u => State.withSrc_fuse ?_
  simp

@[simp] theorem repeatIt_fuse {one i n first} (h : ∀ b u, Part.fuse.same u (one b u).state) :
    (repeatIt one i n first s).state.fuse = s.fuse := by
  induction n generalizing s first with
  | zero => rfl
  | succ n ih =>
    have h1 := h first s
    unfold repeatIt
    split
    next e => exact ih.trans (State.setG_fuse.trans (by simpa [e] using h1))
    next => exact h1

@[simp] theorem State.repeated_fuse {op one} (h : ∀ b u, Part.fuse.same u (one b u).state) :
    (s.repeated op one).state.fuse = s.fuse := by
  have h1 : ∀ b, (one b s).state.fuse = s.fuse := fun b => h b s
  simp [State.repeated, h1, repeatIt_fuse h]

@[simp] theorem State.withPointer_fuse {op n tag has k} (h : ∀ a, Part.fuse.same s (k a).state) :
    (s.withPointer op n tag has k).state.fuse = s.fuse := by
  simp only [same_fuse_iff] at h
  simp [State.withPointer, h]

@[simp] theorem State.movePointer_fuse {op n tag a} : (s.movePointer op n tag a).fuse = s.fuse := rfl

@[simp] theorem execEuCopyw_fuse {op} : (stateOf s (execEuCopyw op s)).fuse = s.fuse := by
  refine issue_next_fuse fun u => State.repeated_fuse fun b u => State.withPointer_fuse fun x => State.withPointer_fuse fun y => ?_
  simp

@[simp] theorem execEuFillw_fuse {op} : (stateOf s (execEuFillw op s)).fuse = s.fuse := by
  refine issue_next_fuse fun u => State.repeated_fuse fun b u => State.withPointer_fuse fun x => ?_
  simp

@[simp] theorem execEuCopyp_fuse {op} : (stateOf s (execEuCopyp op s)).fuse = s.fuse := by
  refine issue_next_fuse fun u => State.repeated_fuse fun b u => ?_
  simp

@[simp] theorem execEuCrc32c_fuse {op} : (stateOf s (execEuCrc32c op s)).fuse = s.fuse := by
  refine issue_next_fuse fun u => State.repeated_fuse fun b u => ?_
  simp

/-! ### GrilorLink -/

@[simp] theorem State.glTo_fuse {i st} : (s.glTo i st).fuse = s.fuse := by simp [State.glTo]

@[simp] theorem State.gwAdvance_fuse : s.gwAdvance.fuse = s.fuse := by
  unfold State.gwAdvance
  dsimp only
  (repeat' split) <;> simp

@[simp] theorem State.gwSent_fuse : s.gwSent.fuse = s.fuse := by
  unfold State.gwSent
  split <;> simp

@[simp] theorem State.ackTo_fuse {i a} : (s.ackTo i a).fuse = s.fuse := by simp [State.ackTo]
@[simp] theorem State.ctlSend_fuse {i nak} : (s.ctlSend i nak).fuse = s.fuse := rfl
@[simp] theorem State.rosterPut_fuse {l} : (s.rosterPut l).fuse = s.fuse := by simp [State.rosterPut]
@[simp] theorem State.enumDone_fuse : s.enumDone.fuse = s.fuse := by simp [State.enumDone]
@[simp] theorem State.enumSend_fuse {assigned} : (s.enumSend assigned).fuse = s.fuse := by simp [State.enumSend]
@[simp] theorem State.enumFrom_fuse {p} : (s.enumFrom p).fuse = s.fuse := by simp [State.enumFrom]

@[simp] theorem State.enumPortEnd_fuse : s.enumPortEnd.fuse = s.fuse := by
  unfold State.enumPortEnd
  dsimp only
  split <;> simp

@[simp] theorem State.enumStart_fuse : s.enumStart.fuse = s.fuse := by
  unfold State.enumStart
  dsimp only
  (repeat' split) <;> simp

@[simp] theorem State.enumResp_fuse {port dev side fixedId} : (s.enumResp port dev side fixedId).fuse = s.fuse := by
  unfold State.enumResp
  dsimp only
  (repeat' split) <;> simp

@[simp] theorem State.rosterReset_fuse : s.rosterReset.fuse = s.fuse := by simp [State.rosterReset]

@[simp] theorem State.glDown_fuse {i} : (s.glDown i).fuse = s.fuse := by
  unfold State.glDown
  dsimp only
  (repeat' split) <;> simp

@[simp] theorem State.glReplay_fuse {i} : (s.glReplay i).fuse = s.fuse := by simp [State.glReplay]
@[simp] theorem State.geEnable_fuse {k en} : (s.geEnable k en).fuse = s.fuse := by simp [State.geEnable]
@[simp] theorem State.handoverCmd_fuse : s.handoverCmd.fuse = s.fuse := by simp [State.handoverCmd]

/-! ### Mac -/

@[simp] theorem State.pauseFrame_fuse {p b} : (s.pauseFrame p b).fuse = s.fuse := by simp [State.pauseFrame]
@[simp] theorem State.toLoom_fuse {p b symErr sfd} : (s.toLoom p b symErr sfd).fuse = s.fuse := by simp [State.toLoom]

@[simp] theorem execMacFrameEnd_fuse {p b symErr sfd} : (stateOf s (execMacFrameEnd p b symErr sfd s)).fuse = s.fuse := by
  simp [execMacFrameEnd]

@[simp] theorem execFrameTooLong_fuse {p} : (stateOf s (execFrameTooLong p s)).fuse = s.fuse := by simp [execFrameTooLong]
@[simp] theorem execPauseExpiry_fuse {p} : (stateOf s (execPauseExpiry p s)).fuse = s.fuse := by simp [execPauseExpiry]
@[simp] theorem execLinkUp_fuse {p master level} : (stateOf s (execLinkUp p master level s)).fuse = s.fuse := by simp [execLinkUp]
@[simp] theorem State.linkDown_fuse {p} : (s.linkDown p).fuse = s.fuse := by simp [State.linkDown]
@[simp] theorem execLinkDown_fuse {p} : (stateOf s (execLinkDown p s)).fuse = s.fuse := by simp [execLinkDown]
@[simp] theorem State.macMode_fuse {p mode} : (s.macMode p mode).fuse = s.fuse := by simp [State.macMode]

@[simp] theorem execMacModeWrite_fuse {p mode} : (stateOf s (execMacModeWrite p mode s)).fuse = s.fuse := by
  simp [execMacModeWrite]

@[simp] theorem execPhyControlWord_fuse {p slow half} : (stateOf s (execPhyControlWord p slow half s)).fuse = s.fuse := by
  simp [execPhyControlWord]

@[simp] theorem execPstkRead_fuse {p coincident} : (stateOf s (execPstkRead p coincident s)).fuse = s.fuse := by
  simp [execPstkRead]

@[simp] theorem State.diagStart_fuse : s.diagStart.fuse = s.fuse := rfl
@[simp] theorem execT1lDiagRun_fuse : (stateOf s (execT1lDiagRun s)).fuse = s.fuse := by simp [execT1lDiagRun]
@[simp] theorem execAutoDiag_fuse : (stateOf s (execAutoDiag s)).fuse = s.fuse := by simp [execAutoDiag]

@[simp] theorem execT1lDiagComplete_fuse {result distance} :
    (stateOf s (execT1lDiagComplete result distance s)).fuse = s.fuse := by
  simp [execT1lDiagComplete]

/-! ### RegRead -/

@[simp] theorem State.rcClear_fuse {r i j} : (s.rcClear r i j).fuse = s.fuse := by simp [State.rcClear]

theorem State.regTake_fuse {base i} : ∀ u ∈ s.regTake base i, u.fuse = s.fuse := by
  unfold State.regTake
  dsimp only
  (repeat' split) <;> simp

@[simp] theorem State.regRead_fuse {r i j a} : (s.regRead r i j a).2.fuse = s.fuse := by
  unfold State.regRead
  dsimp only
  split
  next e => simpa using State.regTake_fuse _ e
  next => split <;> simp

@[simp] theorem State.linkCarry_fuse {a crc} : (s.linkCarry a crc).2.fuse = s.fuse := by simp [State.linkCarry]

@[simp] theorem State.expertRead_fuse {a src crc} : (s.expertRead a src crc).2.2.fuse = s.fuse := by
  unfold State.expertRead
  (repeat' split) <;> simp

/-! ### RegWrite -/

@[simp] theorem State.fieldStore_fuse {f v} : (s.fieldStore f v).fuse = s.fuse := by
  unfold State.fieldStore
  split <;> simp

@[simp] theorem State.regStore_fuse {r i j v} : (s.regStore r i j v).fuse = s.fuse := by simp [State.regStore]

@[simp] theorem State.onBit_fuse {v k f} (h : ∀ u, Part.fuse.same u (f u)) : (s.onBit v k f).fuse = s.fuse := by
  simp only [same_fuse_iff] at h
  simp [State.onBit, h]

theorem State.writeSysTime_fuse {r i v w} : ∀ u ∈ s.writeSysTime r i v w, u.fuse = s.fuse := by
  have hstep {u : State} : (u.stepCommand.getD u).fuse = u.fuse := getD_fuse State.stepCommand_fuse rfl
  have hdt {u : State} : (u.dtCommand.getD u).fuse = u.fuse := getD_fuse State.dtCommand_fuse rfl
  unfold State.writeSysTime
  iterate 15 refine forall_mem_ite (by simp [hstep, hdt]) ?_
  simp

theorem State.writeHeddle_fuse {r i v w} : ∀ u ∈ (s.writeHeddle r i v w), u.fuse = s.fuse := by
  unfold State.writeHeddle
  dsimp only
  refine forall_mem_ite ?_ ?_
  · simp
  iterate 12 refine forall_mem_ite (by simp) ?_
  simp

@[simp] theorem State.bobbinEnable_fuse {en} : (s.bobbinEnable en).2.fuse = s.fuse := by simp [State.bobbinEnable]

theorem State.writeLoom_fuse {r i v} : ∀ u ∈ s.writeLoom r i v, u.2.fuse = s.fuse := by
  unfold State.writeLoom
  iterate 15 refine forall_mem_ite (by simp) ?_
  simp

@[simp] theorem State.writeCanCtrl_fuse {r n v w} : (s.writeCanCtrl r n v w).fuse = s.fuse := by
  simp [State.writeCanCtrl]

@[simp] theorem State.writeMoCtl_fuse {r n k v} : (s.writeMoCtl r n k v).fuse = s.fuse := by simp [State.writeMoCtl]

theorem State.writeCan_fuse {r i j v w} : ∀ u ∈ s.writeCan r i j v w, u.fuse = s.fuse := by
  unfold State.writeCan
  dsimp only
  (repeat' split) <;> simp

theorem State.writeStage_fuse {r i v} : ∀ u ∈ (s.writeStage r i v), u.fuse = s.fuse := by
  have hoff {x} : ((s.offsetWrite x).getD s).fuse = s.fuse := getD_fuse State.offsetWrite_fuse rfl
  unfold State.writeStage
  iterate 15 refine forall_mem_ite (by simp [hoff]) ?_
  simp

@[simp] theorem State.regWrite_fuse {r i j v w} : (s.regWrite r i j v w).2.fuse = s.fuse := by
  have hst {j} : (s.regStore r i j v).fuse = s.fuse := State.regStore_fuse
  have hloom : ((s.writeLoom r i v).getD (0, s.regStore r i j v)).2.fuse = s.fuse := getD_snd_fuse State.writeLoom_fuse hst
  simp [State.regWrite, hloom, getD_fuse State.writeSysTime_fuse hst, getD_fuse State.writeCan_fuse hst,
    getD_fuse State.writeHeddle_fuse hst, getD_fuse State.writeStage_fuse hst]

@[simp] theorem State.rawTake_fuse {k v} : (s.rawTake k v).fuse = s.fuse := by
  unfold State.rawTake
  split <;> simp

@[simp] theorem State.jStage_fuse {before r i a} : (s.jStage before r i a).fuse = s.fuse := by simp [State.jStage]
@[simp] theorem State.regWriteJ_fuse {r i j a v w} : (s.regWriteJ r i j a v w).2.fuse = s.fuse := by simp [State.regWriteJ]

@[simp] theorem State.expertWrite_fuse {a v w src crc} : (s.expertWrite a v w src crc).2.fuse = s.fuse := by
  unfold State.expertWrite
  (repeat' split) <;> simp

@[simp] theorem execRegisterWrite_fuse {a v w} : (stateOf s (execRegisterWrite a v w s)).fuse = s.fuse := by
  simp [execRegisterWrite]

@[simp] theorem execRcRegisterRead_fuse {a} : (stateOf s (execRcRegisterRead a s)).fuse = s.fuse := by simp [execRcRegisterRead]

@[simp] theorem execCompanionRegisterAccess_fuse {a v w crc} :
    (stateOf s (execCompanionRegisterAccess a v w crc s)).fuse = s.fuse := by
  unfold execCompanionRegisterAccess
  split <;> simp

/-! ### EurSystem -/

@[simp] theorem execEuNop_fuse {op} : (stateOf s (execEuNop op s)).fuse = s.fuse := by simp [execEuNop]
@[simp] theorem execEuHalt_fuse {op} : (stateOf s (execEuHalt op s)).fuse = s.fuse := by simp [execEuHalt]
@[simp] theorem execEuRet_fuse {op} : (stateOf s (execEuRet op s)).fuse = s.fuse := by simp [execEuRet]
@[simp] theorem execEuWait_fuse {op} : (stateOf s (execEuWait op s)).fuse = s.fuse := by simp [execEuWait]
@[simp] theorem execEuRtt_fuse {op} : (stateOf s (execEuRtt op s)).fuse = s.fuse := by simp [execEuRtt]
@[simp] theorem State.branch_fuse {d op} : (s.branch d op).state.fuse = s.fuse := by simp [State.branch]
@[simp] theorem execEuB_fuse {op} : (stateOf s (execEuB op s)).fuse = s.fuse := by simp [execEuB]

@[simp] theorem execEuCall_fuse {op} : (stateOf s (execEuCall op s)).fuse = s.fuse := by
  refine issue_next_fuse fun u => ?_
  rw [same_fuse_iff]
  split
  next e => simpa [e] using State.branch_fuse (s := u) (d := { form := .s, modes := [.reg, .i16, .i32] }) (op := op)
  next => exact State.branch_fuse

@[simp] theorem execEuLoop_fuse {op} : (stateOf s (execEuLoop op s)).fuse = s.fuse := by simp [execEuLoop]
@[simp] theorem execEuBnil_fuse {op} : (stateOf s (execEuBnil op s)).fuse = s.fuse := by simp [execEuBnil]
@[simp] theorem execEuSwt_fuse {op} : (stateOf s (execEuSwt op s)).fuse = s.fuse := by simp [execEuSwt]
@[simp] theorem execEuLdang_fuse {op} : (stateOf s (execEuLdang op s)).fuse = s.fuse := by simp [execEuLdang]
@[simp] theorem execEuLdtime_fuse {op} : (stateOf s (execEuLdtime op s)).fuse = s.fuse := by simp [execEuLdtime]
@[simp] theorem execEuWaituntil_fuse {op} : (stateOf s (execEuWaituntil op s)).fuse = s.fuse := by simp [execEuWaituntil]

@[simp] theorem execWaituntilReached_fuse {i} : (stateOf s (execWaituntilReached i s)).fuse = s.fuse := by
  unfold execWaituntilReached
  dsimp only
  split <;> simp

@[simp] theorem execEuMfsr_fuse {op} : (stateOf s (execEuMfsr op s)).fuse = s.fuse := by simp [execEuMfsr]
@[simp] theorem execEuMtsr_fuse {op} : (stateOf s (execEuMtsr op s)).fuse = s.fuse := by simp [execEuMtsr]

@[simp] theorem State.withIo_fuse {op k} (h : ∀ a w, Part.fuse.same s (k a w).state) : (s.withIo op k).state.fuse = s.fuse := by
  simp only [same_fuse_iff] at h
  unfold State.withIo
  refine State.withSrc_fuse ?_
  rw [same_fuse_iff]
  split <;> simp [h]

@[simp] theorem execEuIold_fuse {op} : (stateOf s (execEuIold op s)).fuse = s.fuse := by simp [execEuIold]

@[simp] theorem execEuIost_fuse {op} : (stateOf s (execEuIost op s)).fuse = s.fuse := by
  refine issue_next_fuse fun u => State.withSrc_fuse <| State.withSrc_fuse <| State.withSrc_fuse ?_
  simp

/-! ### LargeSend -/

@[simp] theorem State.buildSegments_fuse {slot q kind mss n t d k i} :
    (s.buildSegments slot q kind mss n t d k i).2.fuse = s.fuse := by
  induction k generalizing s i with
  | zero => rfl
  | succ k ih => simp [State.buildSegments, ih]

@[simp] theorem State.largeBuild_fuse {i} : (s.largeBuild i).fuse = s.fuse := by
  unfold State.largeBuild
  dsimp only
  split <;> simp

@[simp] theorem State.largeQueue_fuse {i} : (s.largeQueue i).fuse = s.fuse := by
  unfold State.largeQueue
  dsimp only
  rw [State.stepDone_fuse]
  refine each_fuse fun u x => ?_
  rw [same_fuse_iff]
  split <;> simp

@[simp] theorem State.largeSent_fuse {i} : (s.largeSent i).fuse = s.fuse := by simp [State.largeSent]
@[simp] theorem State.stepLarge_fuse {i} : (s.stepLarge i).fuse = s.fuse := by simp [State.stepLarge]
@[simp] theorem State.largeSettle_fuse {i} : (s.largeSettle i).fuse = s.fuse := by simp [State.largeSettle]

/-! ### TicketAccess -/

@[simp] theorem State.resultRead_fuse {c h} : (s.resultRead c h).2.fuse = s.fuse := by
  unfold State.resultRead
  split <;> simp

@[simp] theorem State.resultConsume_fuse {c h} : (s.resultConsume c h).2.fuse = s.fuse := by
  unfold State.resultConsume
  split <;> simp

@[simp] theorem State.retireAt_fuse {i} : (s.retireAt i).2.fuse = s.fuse := by simp [State.retireAt]

@[simp] theorem State.retire_fuse {c h} : (s.retire c h).2.fuse = s.fuse := by
  unfold State.retire
  split <;> simp

@[simp] theorem State.retireBy_fuse {c h} : (s.retireBy c h).2.fuse = s.fuse := by simp [State.retireBy]
@[simp] theorem State.settle_fuse {i} : (s.settle i).fuse = s.fuse := by simp [State.settle]
@[simp] theorem State.abortQueued_fuse {i} : (s.abortQueued i).2.fuse = s.fuse := by simp [State.abortQueued]

@[simp] theorem State.abortBy_fuse {c h} : (s.abortBy c h).2.fuse = s.fuse := by
  unfold State.abortBy
  split <;> simp

/-! ### OdApply -/

@[simp] theorem State.clearMask_fuse {l mask} : (s.clearMask l mask).fuse = s.fuse := by simp [State.clearMask]

@[simp] theorem State.eachBit_fuse {n mask f} (h : ∀ u k, Part.fuse.same u (f u k)) : (s.eachBit n mask f).fuse = s.fuse :=
  each_fuse h

@[simp] theorem State.ctxApply_fuse {k sub v} : (s.ctxApply k sub v).fuse = s.fuse := rfl
@[simp] theorem State.act2_fuse {c i sub v} : (s.act2 c i sub v).fuse = s.fuse := by simp [State.act2]

@[simp] theorem State.act3_fuse {i sub n} : (s.act3 i sub n).fuse = s.fuse := by
  have hstep : (s.stepCommand.getD s).fuse = s.fuse := getD_fuse State.stepCommand_fuse rfl
  have hdt : (s.dtCommand.getD s).fuse = s.fuse := getD_fuse State.dtCommand_fuse rfl
  simp [State.act3, hstep, hdt]

@[simp] theorem State.thresholds_fuse {n} : (s.thresholds n).fuse = s.fuse := by simp [State.thresholds]
@[simp] theorem State.groupApply_fuse {g sub n} : (s.groupApply g sub n).fuse = s.fuse := by simp [State.groupApply]
@[simp] theorem State.unitBit_fuse {f k n} : (s.unitBit f k n).fuse = s.fuse := rfl

@[simp] theorem State.act4_fuse {i sub v} : (s.act4 i sub v).fuse = s.fuse := by
  have hwr2 {u : State} {a b : Field} {x y} : ((u.wr a x).wr b y).fuse = u.fuse := (State.wr_fuse ..).trans (State.wr_fuse ..)
  unfold State.act4
  extract_lets +onlyGivenNames n _ k s1 t put m
  have h1 : s1.fuse = s.fuse := by
    unfold s1
    split
    · exact State.unitBit_fuse
    split
    · exact State.unitBit_fuse
    · rfl
  have hput {u : State} {f w x} : (put u f w x).fuse = u.fuse := State.wr_fuse ..
  clear_value put s1
  split
  · simp
  split
  · simp
  split
  · simp
  split
  · exact State.setGr_fuse
  split
  · simp [h1]
  split
  · exact hput.trans hput
  split
  · exact State.wr_fuse ..
  split
  · split
    · exact hwr2
    · rfl
  split
  · split
    · exact hwr2
    · split
      · exact State.wr_fuse ..
      · rfl
  · rfl

@[simp] theorem State.act5_fuse {i sub n} : (s.act5 i sub n).fuse = s.fuse := by simp [State.act5]

@[simp] theorem State.tableApply_fuse {group old new} : (s.tableApply group old new).fuse = s.fuse := by
  unfold State.tableApply
  dsimp only
  (repeat' split) <;> simp

@[simp] theorem State.vlanApply_fuse {old new} : (s.vlanApply old new).fuse = s.fuse := by simp [State.vlanApply]

@[simp] theorem State.tgateApply_fuse {p b} : (s.tgateApply p b).fuse = s.fuse := by
  simp [State.tgateApply]

@[simp] theorem State.agateApply_fuse {p b} : (s.agateApply p b).fuse = s.fuse := by
  simp [State.agateApply]

@[simp] theorem State.weightsApply_fuse {p n} : (s.weightsApply p n).fuse = s.fuse := by simp [State.weightsApply]
@[simp] theorem State.act6_fuse {i sub old v} : (s.act6 i sub old v).fuse = s.fuse := by simp [State.act6]

@[simp] theorem State.act8_fuse {i sub v} : (s.act8 i sub v).fuse = s.fuse := by
  have hoff {x} : ((s.offsetWrite x).getD s).fuse = s.fuse := getD_fuse State.offsetWrite_fuse rfl
  simp [State.act8, hoff]

@[simp] theorem State.act9_fuse {i sub n} : (s.act9 i sub n).fuse = s.fuse := by simp [State.act9]
@[simp] theorem State.windowApply_fuse {c sub n} : (s.windowApply c sub n).fuse = s.fuse := rfl

@[simp] theorem State.homeStore_fuse {i sub m v} : (s.homeStore i sub m v).fuse = s.fuse := by
  unfold State.homeStore
  (repeat' split) <;> simp

@[simp] theorem State.odApply_fuse {c key v0} : (s.odApply c key v0).fuse = s.fuse := by
  unfold State.odApply
  dsimp only
  split <;> simp

/-! ### OdServer -/

@[simp] theorem State.hostAnswer_fuse {status rdata} : (s.hostAnswer status rdata).fuse = s.fuse := rfl
@[simp] theorem State.odReply_fuse {c code v h side} : (s.odReply c code v h side).fuse = s.fuse := by simp [State.odReply]

@[simp] theorem State.serve_fuse {c f} (h : ∀ u, Part.fuse.same u (f u)) : (s.serve c f).fuse = s.fuse := by
  simp only [same_fuse_iff] at h
  simp [State.serve, h]

@[simp] theorem State.takeToken_fuse {c} : (s.takeToken c).2.fuse = s.fuse := by simp [State.takeToken]
@[simp] theorem State.refuseOd_fuse {c code side} : (s.refuseOd c code side).fuse = s.fuse := by simp [State.refuseOd]
@[simp] theorem State.accessOpen_fuse {c ticket} : (s.accessOpen c ticket).2.fuse = s.fuse := by simp [State.accessOpen]

@[simp] theorem State.admitFor_fuse {c t fails} : (s.admitFor c t fails).fuse = s.fuse := by
  unfold State.admitFor
  dsimp only
  split
  · simp
  split
  next => simp
  next s1 h e =>
    have h1 : s1.fuse = s.fuse := State.admitTicket_fuse _ e
    simp [h1]

@[simp] theorem State.windowData_fuse {c a w crc} : (s.windowData c a w crc).2.2.fuse = s.fuse := by
  unfold State.windowData
  split <;> simp

@[simp] theorem State.refuseData_fuse {c code} : (s.refuseData c code).fuse = s.fuse := by simp [State.refuseData]
@[simp] theorem State.poisonFound_fuse {key m} : (s.poisonFound key m).fuse = s.fuse := by simp [State.poisonFound]

@[simp] theorem State.odFetch_fuse {c i sub found addr} : (s.odFetch c i sub found addr).2.2.fuse = s.fuse := by
  unfold State.odFetch
  split <;> simp

@[simp] theorem State.odRead_fuse {c i sub found} : (s.odRead c i sub found).fuse = s.fuse := by simp [State.odRead]
@[simp] theorem State.captureReads_fuse {order keys} : (s.captureReads order keys).fuse = s.fuse := by simp [State.captureReads]
@[simp] theorem State.touchExpert_fuse {c keys} : (s.touchExpert c keys).fuse = s.fuse := by simp [State.touchExpert]
@[simp] theorem State.refusedWrite_fuse {c e code} : (s.refusedWrite c e code).fuse = s.fuse := by simp [State.refusedWrite]
@[simp] theorem State.writeNow_fuse {c key v} : (s.writeNow c key v).fuse = s.fuse := by simp [State.writeNow]

@[simp] theorem State.odWrite_fuse {c l multi bad} : (s.odWrite c l multi bad).fuse = s.fuse := by
  refine State.serve_fuse fun u => ?_
  rw [same_fuse_iff]
  dsimp only
  split
  · simp
  split
  · simp
  · split <;> split <;> simp

@[simp] theorem State.odReadMulti_fuse {c keys rows} : (s.odReadMulti c keys rows).fuse = s.fuse := by simp [State.odReadMulti]
@[simp] theorem execOdRead_fuse {c i sub found} : (stateOf s (execOdRead c i sub found s)).fuse = s.fuse := by simp [execOdRead]
@[simp] theorem execOdWrite_fuse {c i sub v} : (stateOf s (execOdWrite c i sub v s)).fuse = s.fuse := by simp [execOdWrite]
@[simp] theorem execMultiRead_fuse {c l} : (stateOf s (execMultiRead c l s)).fuse = s.fuse := by simp [execMultiRead]
@[simp] theorem execMultiWrite_fuse {c l} : (stateOf s (execMultiWrite c l s)).fuse = s.fuse := by simp [execMultiWrite]
@[simp] theorem execExpertUnlock_fuse {c key} : (stateOf s (execExpertUnlock c key s)).fuse = s.fuse := by simp [execExpertUnlock]

@[simp] theorem execUnlockBlockEnd_fuse : (stateOf s (execUnlockBlockEnd s)).fuse = s.fuse := by
  unfold execUnlockBlockEnd
  split <;> simp

@[simp] theorem execExpertUnlockExpiry_fuse {c} : (stateOf s (execExpertUnlockExpiry c s)).fuse = s.fuse := by
  simp [execExpertUnlockExpiry]

@[simp] theorem execExpertRelock_fuse {c} : (stateOf s (execExpertRelock c s)).fuse = s.fuse := by simp [execExpertRelock]

@[simp] theorem execExpertWindowData_fuse {c v crc} : (stateOf s (execExpertWindowData c v crc s)).fuse = s.fuse := by
  simp [execExpertWindowData]

@[simp] theorem execConfigLock_fuse {c v} : (stateOf s (execConfigLock c v s)).fuse = s.fuse := by simp [execConfigLock]

@[simp] theorem execRestoreDefaults_fuse {c mask} : (stateOf s (execRestoreDefaults c mask s)).fuse = s.fuse := by
  simp [execRestoreDefaults]

@[simp] theorem execLoad_fuse {c slot src} : (stateOf s (execLoad c slot src s)).fuse = s.fuse := by simp [execLoad]
@[simp] theorem execUnload_fuse {c slot} : (stateOf s (execUnload c slot s)).fuse = s.fuse := by simp [execUnload]
@[simp] theorem execStore_fuse {c store} : (stateOf s (execStore c store s)).fuse = s.fuse := by simp [execStore]
@[simp] theorem execTable_fuse {c set value} : (stateOf s (execTable c set value s)).fuse = s.fuse := by simp [execTable]

@[simp] theorem execFuseProgram_fuse {c word mask} : (stateOf s (execFuseProgram c word mask s)).fuse = s.fuse := by
  simp [execFuseProgram]

@[simp] theorem execFullNow_fuse {c} : (stateOf s (execFullNow c s)).fuse = s.fuse := by simp [execFullNow]
@[simp] theorem execVerify_fuse {c} : (stateOf s (execVerify c s)).fuse = s.fuse := by simp [execVerify]
@[simp] theorem execClearFailing_fuse {c} : (stateOf s (execClearFailing c s)).fuse = s.fuse := by simp [execClearFailing]

@[simp] theorem execCardingRun_fuse {c mask algo bgs destructive} :
    (stateOf s (execCardingRun c mask algo bgs destructive s)).fuse = s.fuse := by
  simp [execCardingRun]

@[simp] theorem execLargeSend_fuse {c h kind hdr payload mss ctl} :
    (stateOf s (execLargeSend c h kind hdr payload mss ctl s)).fuse = s.fuse := by
  simp [execLargeSend]

@[simp] theorem execFanBaselineRun_fuse {c} : (stateOf s (execFanBaselineRun c s)).fuse = s.fuse := by simp [execFanBaselineRun]

@[simp] theorem execGateway_fuse {c w ref op tag v} : (stateOf s (execGateway c w ref op tag v s)).fuse = s.fuse := by
  simp [execGateway]

@[simp] theorem execSessionOpen_fuse {k reach profile} : (stateOf s (execSessionOpen k reach profile s)).fuse = s.fuse := by
  unfold execSessionOpen
  (repeat' split) <;> simp

@[simp] theorem execSessionClose_fuse {c} : (stateOf s (execSessionClose c s)).fuse = s.fuse := by simp [execSessionClose]
@[simp] theorem execDrainTimeout_fuse {c} : (stateOf s (execDrainTimeout c s)).fuse = s.fuse := by simp [execDrainTimeout]

/-! ### Journal -/

@[simp] theorem State.journalNote_fuse {before} : (s.journalNote before).fuse = s.fuse := by simp [State.journalNote]

@[simp] theorem State.fullSync_fuse : s.fullSync.fuse = s.fuse := by
  unfold State.fullSync
  split <;> simp

@[simp] theorem State.fullFails_fuse : s.fullFails.fuse = s.fuse := by
  unfold State.fullFails
  split <;> simp

@[simp] theorem State.copyStart_fuse : s.copyStart.fuse = s.fuse := by simp [State.copyStart]
@[simp] theorem State.fullStart_fuse : s.fullStart.fuse = s.fuse := by simp [State.fullStart]
@[simp] theorem State.fullCheck_fuse : s.fullCheck.fuse = s.fuse := by simp [State.fullCheck]
@[simp] theorem State.jvalPut_fuse {l} : (s.jvalPut l).fuse = s.fuse := rfl
@[simp] theorem State.applyItems_fuse {c l} : (s.applyItems c l).fuse = s.fuse := by simp [State.applyItems]

@[simp] theorem State.windowStep_fuse {t} : (s.windowStep t).2.fuse = s.fuse := by
  unfold State.windowStep
  split <;> simp

@[simp] theorem State.writeDone_fuse {i} : (s.writeDone i).fuse = s.fuse := by simp [State.writeDone]
@[simp] theorem State.writeStep_fuse {i k} : (s.writeStep i k).fuse = s.fuse := by simp [State.writeStep]
@[simp] theorem State.writeStart_fuse {i} : (s.writeStart i).fuse = s.fuse := by simp [State.writeStart]
@[simp] theorem State.valueCommitted_fuse {h k} : (s.valueCommitted h k).fuse = s.fuse := by simp [State.valueCommitted]
@[simp] theorem State.admitCommitted_fuse {h} : (s.admitCommitted h).fuse = s.fuse := by simp [State.admitCommitted]
@[simp] theorem State.baselineIn_fuse : s.baselineIn.fuse = s.fuse := by simp [State.baselineIn]
@[simp] theorem State.finalRecord_fuse {h} : (s.finalRecord h).fuse = s.fuse := by simp [State.finalRecord]
@[simp] theorem State.stepRecord_fuse {h tag v} : (s.stepRecord h tag v).fuse = s.fuse := by simp [State.stepRecord]

@[simp] theorem State.mirroredEffect_fuse {b} : (s.mirroredEffect b).fuse = s.fuse := by
  unfold State.mirroredEffect
  split <;> simp

@[simp] theorem State.recordEffect_fuse {b} : (s.recordEffect b).fuse = s.fuse := by
  unfold State.recordEffect
  (repeat' split) <;> simp

@[simp] theorem State.acknowledge_fuse {b} : (s.acknowledge b).fuse = s.fuse := by simp [State.acknowledge]

@[simp] theorem State.commitHead_fuse : s.commitHead.fuse = s.fuse := by
  unfold State.commitHead
  split <;> simp

@[simp] theorem State.switchOver_fuse : s.switchOver.fuse = s.fuse := by simp [State.switchOver]
@[simp] theorem State.abandon_fuse : s.abandon.fuse = s.fuse := by simp [State.abandon]

@[simp] theorem State.copyRecords_fuse {n} : (State.copyRecords n s).fuse = s.fuse := by
  induction n generalizing s with
  | zero => rfl
  | succ n ih =>
    unfold State.copyRecords
    dsimp only
    split <;> simp [ih]

@[simp] theorem State.copyPage_fuse : s.copyPage.fuse = s.fuse := by simp [State.copyPage]

@[simp] theorem State.eraseDone_fuse : s.eraseDone.fuse = s.fuse := by
  unfold State.eraseDone
  split <;> simp

@[simp] theorem State.dropRestore_fuse {l} : (s.dropRestore l).fuse = s.fuse := rfl

@[simp] theorem State.giveUp_fuse {code b} : (s.giveUp code b).fuse = s.fuse := by
  unfold State.giveUp
  split <;> simp

@[simp] theorem State.clearUnledgered_fuse : s.clearUnledgered.fuse = s.fuse := by simp [State.clearUnledgered]
@[simp] theorem State.noBolts_fuse : s.noBolts.fuse = s.fuse := by simp [State.noBolts]
@[simp] theorem State.boltFails_fuse {k cause seq} : (s.boltFails k cause seq).fuse = s.fuse := by simp [State.boltFails]

@[simp] theorem execJournalRecordCommit_fuse : (stateOf s (execJournalRecordCommit s)).fuse = s.fuse := by
  simp [execJournalRecordCommit]

@[simp] theorem execStagingRoomFreed_fuse : (stateOf s (execStagingRoomFreed s)).fuse = s.fuse := by simp [execStagingRoomFreed]

@[simp] theorem execJournalFullTimeout_fuse : (stateOf s (execJournalFullTimeout s)).fuse = s.fuse := by
  unfold execJournalFullTimeout
  dsimp only
  (repeat' split) <;> simp

@[simp] theorem State.failedWrite_fuse {k r readback page} : (s.failedWrite k r readback page).fuse = s.fuse := by
  simp [State.failedWrite]

@[simp] theorem State.copyFailure_fuse {r readback page} : (s.copyFailure r readback page).fuse = s.fuse := by
  simp [State.copyFailure]

@[simp] theorem State.headFailure_fuse {r rest readback page} : (s.headFailure r rest readback page).fuse = s.fuse := by
  simp [State.headFailure]

@[simp] theorem execJournalProgramFailure_fuse {copy readback page} :
    (stateOf s (execJournalProgramFailure copy readback page s)).fuse = s.fuse := by
  unfold execJournalProgramFailure
  (repeat' split) <;> simp

@[simp] theorem execJournalEraseFailure_fuse : (stateOf s (execJournalEraseFailure s)).fuse = s.fuse := by
  unfold execJournalEraseFailure
  (repeat' split) <;> simp

@[simp] theorem execFullingPageProgram_fuse : (stateOf s (execFullingPageProgram s)).fuse = s.fuse := by
  simp [execFullingPageProgram]

@[simp] theorem execFullingErase_fuse : (stateOf s (execFullingErase s)).fuse = s.fuse := by simp [execFullingErase]

/-! ### Tickets -/

@[simp] theorem State.fullNowStart_fuse {i} : (s.fullNowStart i).fuse = s.fuse := by simp [State.fullNowStart]

@[simp] theorem State.gatewayStart_fuse {i} : (s.gatewayStart i).fuse = s.fuse := by
  unfold State.gatewayStart
  dsimp only
  split <;> simp

@[simp] theorem State.typeStart_fuse {i} : (s.typeStart i).fuse = s.fuse := by simp [State.typeStart]

@[simp] theorem execTicketExecutorStart_fuse {i} : (stateOf s (execTicketExecutorStart i s)).fuse = s.fuse := by
  simp [execTicketExecutorStart]

@[simp] theorem State.snapshot_fuse {c addr l} : (s.snapshot c addr l).2.2.fuse = s.fuse := by
  induction l generalizing s with
  | nil => rfl
  | cons e l ih =>
    unfold State.snapshot
    extract_lets +onlyGivenNames r
    have hr : r.2.2.fuse = s.fuse := by simp [r]
    split
    · exact hr
    · exact ih.trans hr

@[simp] theorem State.stepRead_fuse {i} : (s.stepRead i).fuse = s.fuse := by simp [State.stepRead]
@[simp] theorem State.stepRestore_fuse {i} : (s.stepRestore i).fuse = s.fuse := by simp [State.stepRestore]
@[simp] theorem State.clearErase_fuse {i failed} : (s.clearErase i failed).fuse = s.fuse := by simp [State.clearErase]
@[simp] theorem State.clearCopy_fuse {i} : (s.clearCopy i).fuse = s.fuse := by simp [State.clearCopy]
@[simp] theorem State.stepJournalOp_fuse {i failed} : (s.stepJournalOp i failed).fuse = s.fuse := by simp [State.stepJournalOp]
@[simp] theorem State.handOver_fuse {i im} : (s.handOver i im).fuse = s.fuse := by simp [State.handOver]

@[simp] theorem execFanEffortWindow_fuse {effort stable} : (stateOf s (execFanEffortWindow effort stable s)).fuse = s.fuse := by
  unfold execFanEffortWindow
  split <;> simp

@[simp] theorem execOrphanAutoRetire_fuse {i} : (stateOf s (execOrphanAutoRetire i s)).fuse = s.fuse := by
  simp [execOrphanAutoRetire]

/-! ### Mount -/

@[simp] theorem State.restoreLedger_fuse {l} : (s.restoreLedger l).fuse = s.fuse := by simp [State.restoreLedger]

@[simp] theorem State.takeValue_fuse {p : Items × State} {e} : (State.takeValue p e).2.fuse = p.2.fuse := by
  unfold State.takeValue
  (repeat' split) <;> simp

@[simp] theorem State.takeValues_fuse {l} : (s.takeValues l).fuse = s.fuse := by
  simp [State.takeValues]

@[simp] theorem State.w8Defaults_fuse : s.w8Defaults.fuse = s.fuse := by simp [State.w8Defaults]
@[simp] theorem State.formatFails_fuse {k cause} : (s.formatFails k cause).fuse = s.fuse := by simp [State.formatFails]
@[simp] theorem State.formatBolt_fuse {k} : (s.formatBolt k).fuse = s.fuse := by simp [State.formatBolt]
@[simp] theorem State.format_fuse {failA failB} : (s.format failA failB).fuse = s.fuse := by simp [State.format]

@[simp] theorem State.mountApply_fuse {l} : (s.mountApply l).fuse = s.fuse := by
  unfold State.mountApply
  dsimp only
  refine (each_fuse fun u r => ?_).trans ((each_fuse fun u r => ?_).trans ?_)
  · rw [same_fuse_iff]
    split <;> simp
  · rw [same_fuse_iff]
    split <;> simp
  · simp

@[simp] theorem State.mountWaits_fuse {seq} : (s.mountWaits seq).fuse = s.fuse := by simp [State.mountWaits]
@[simp] theorem State.mountCommit_fuse {seq} : (s.mountCommit seq).fuse = s.fuse := by simp [State.mountCommit]
@[simp] theorem State.mountTorn_fuse {seq} : (s.mountTorn seq).fuse = s.fuse := by simp [State.mountTorn]
@[simp] theorem State.mountWrite_fuse {fails} : (s.mountWrite fails).fuse = s.fuse := by simp [State.mountWrite]
@[simp] theorem State.findBolts_fuse : s.findBolts.fuse = s.fuse := rfl

@[simp] theorem execJournalMount_fuse {failA failB mountFails} :
    (stateOf s (execJournalMount failA failB mountFails s)).fuse = s.fuse := by
  unfold execJournalMount
  dsimp only
  (repeat' split) <;> simp

/-! ### Wake -/

@[simp] theorem State.firmwareFrom_fuse {im src} : (s.firmwareFrom im src).fuse = s.fuse := by
  unfold State.firmwareFrom
  split <;> simp

@[simp] theorem execWeaverFirmwareVerify_fuse : (stateOf s (execWeaverFirmwareVerify s)).fuse = s.fuse := by
  unfold execWeaverFirmwareVerify
  (repeat' split) <;> simp

@[simp] theorem State.loadSet_fuse : (s.loadSet).fuse = s.fuse := by
  refine each_fuse fun u k => ?_
  rw [same_fuse_iff]
  split <;> simp

@[simp] theorem State.wakeRecord_fuse : s.wakeRecord.fuse = s.fuse := rfl
@[simp] theorem State.enterRun_fuse : s.enterRun.fuse = s.fuse := by simp [State.enterRun]
@[simp] theorem State.enterLimp_fuse : s.enterLimp.fuse = s.fuse := rfl
@[simp] theorem execImageSetLoad_fuse : (stateOf s (execImageSetLoad s)).fuse = s.fuse := by simp [execImageSetLoad]

/-! ### Grilor -/

@[simp] theorem State.glRecv_fuse {h f} (hf : ∀ u, Part.fuse.same u (f u)) : (s.glRecv h f).fuse = s.fuse := by
  simp only [same_fuse_iff] at hf
  simp [State.glRecv, hf]

@[simp] theorem State.glForward_fuse {i f} : (s.glForward i f).fuse = s.fuse := by
  unfold State.glForward
  (repeat' split) <;> simp

@[simp] theorem State.glDeliver_fuse {h b f} (hf : ∀ u, Part.fuse.same u (f u)) : (s.glDeliver h b f).fuse = s.fuse := by
  simp only [same_fuse_iff] at hf
  simp [State.glDeliver, hf]

@[simp] theorem execBlockLock_fuse {i} : (stateOf s (execBlockLock i s)).fuse = s.fuse := by simp [execBlockLock]
@[simp] theorem State.mirrorTo_fuse {m} : (s.mirrorTo m).fuse = s.fuse := rfl
@[simp] theorem State.releaseHeld_fuse : s.releaseHeld.fuse = s.fuse := by simp [State.releaseHeld]
@[simp] theorem State.mirrorLost_fuse : s.mirrorLost.fuse = s.fuse := by simp [State.mirrorLost]
@[simp] theorem State.mirrorStart_fuse : s.mirrorStart.fuse = s.fuse := by simp [State.mirrorStart]
@[simp] theorem State.claim_fuse {sync} : (s.claim sync).fuse = s.fuse := by simp [State.claim]
@[simp] theorem State.standBy_fuse {m} : (s.standBy m).fuse = s.fuse := rfl

@[simp] theorem State.twinInit_fuse : s.twinInit.fuse = s.fuse := by
  unfold State.twinInit
  split <;> simp

@[simp] theorem State.takeTickets_fuse : s.takeTickets.2.fuse = s.fuse := by simp [State.takeTickets]
@[simp] theorem State.takeover_fuse : s.takeover.fuse = s.fuse := by simp [State.takeover]
@[simp] theorem State.bootAsk_fuse {i} : (s.bootAsk i).fuse = s.fuse := by simp [State.bootAsk]
@[simp] theorem State.mirrorUp_fuse {i} : (s.mirrorUp i).fuse = s.fuse := by simp [State.mirrorUp]
@[simp] theorem execGrilorLinkUp_fuse {i} : (stateOf s (execGrilorLinkUp i s)).fuse = s.fuse := by simp [execGrilorLinkUp]
@[simp] theorem execGrilorLinkDown_fuse {i} : (stateOf s (execGrilorLinkDown i s)).fuse = s.fuse := by simp [execGrilorLinkDown]
@[simp] theorem execGlAck_fuse {i ack crcOk} : (stateOf s (execGlAck i ack crcOk s)).fuse = s.fuse := by simp [execGlAck]
@[simp] theorem execGlNak_fuse {i ack crcOk} : (stateOf s (execGlNak i ack crcOk s)).fuse = s.fuse := by simp [execGlNak]
@[simp] theorem execReplayTimeout_fuse {i} : (stateOf s (execReplayTimeout i s)).fuse = s.fuse := by simp [execReplayTimeout]
@[simp] theorem execGlKeepalive_fuse {k h} : (stateOf s (execGlKeepalive k h s)).fuse = s.fuse := by simp [execGlKeepalive]
@[simp] theorem execKeepaliveSend_fuse {k} : (stateOf s (execKeepaliveSend k s)).fuse = s.fuse := by simp [execKeepaliveSend]

@[simp] theorem execKeepaliveTimeout_fuse {k} : (stateOf s (execKeepaliveTimeout k s)).fuse = s.fuse := by
  unfold execKeepaliveTimeout
  split <;> simp

@[simp] theorem execDelayMeasurement_fuse {i} : (stateOf s (execDelayMeasurement i s)).fuse = s.fuse := by
  simp [execDelayMeasurement]

@[simp] theorem execDelayReq_fuse {h turnaround} : (stateOf s (execDelayReq h turnaround s)).fuse = s.fuse := by
  simp [execDelayReq]

@[simp] theorem execDelayResp_fuse {h turnaround} : (stateOf s (execDelayResp h turnaround s)).fuse = s.fuse := by
  unfold execDelayResp
  rw [stateOf_next]
  refine State.glRecv_fuse fun u => ?_
  rw [same_fuse_iff]
  dsimp only
  split <;> simp

@[simp] theorem execSyncSend_fuse : (stateOf s (execSyncSend s)).fuse = s.fuse := by simp [execSyncSend]
@[simp] theorem State.syncServo_fuse {t} : (s.syncServo t).fuse = s.fuse := by simp [State.syncServo]

@[simp] theorem execGlSync_fuse {h sec ns corr residence} : (stateOf s (execGlSync h sec ns corr residence s)).fuse = s.fuse := by
  simp [execGlSync]

@[simp] theorem execGlCross_fuse {h sec ns ang} : (stateOf s (execGlCross h sec ns ang s)).fuse = s.fuse := by simp [execGlCross]

@[simp] theorem State.enumWorker_fuse {i walk pos assigned f} : (s.enumWorker i walk pos assigned f).fuse = s.fuse := by
  unfold State.enumWorker
  split <;> simp

@[simp] theorem execGlEnum_fuse {h walk pos assigned} : (stateOf s (execGlEnum h walk pos assigned s)).fuse = s.fuse := by
  simp [execGlEnum]

@[simp] theorem execGlEnumResp_fuse {h device side fixedId} :
    (stateOf s (execGlEnumResp h device side fixedId s)).fuse = s.fuse := by
  simp [execGlEnumResp]

@[simp] theorem execEnumerate_fuse : (stateOf s (execEnumerate s)).fuse = s.fuse := by simp [execEnumerate]
@[simp] theorem execEnumRespTimeout_fuse : (stateOf s (execEnumRespTimeout s)).fuse = s.fuse := by simp [execEnumRespTimeout]
@[simp] theorem execRosterReset_fuse : (stateOf s (execRosterReset s)).fuse = s.fuse := by simp [execRosterReset]

@[simp] theorem State.gwServe_fuse {i key op tag val} : (s.gwServe i key op tag val).fuse = s.fuse := by
  unfold State.gwServe
  dsimp only
  (repeat' split) <;> simp

@[simp] theorem execGlData_fuse {h m} : (stateOf s (execGlData h m s)).fuse = s.fuse := by
  unfold execGlData
  split <;> simp

@[simp] theorem execGatewayTimeout_fuse : (stateOf s (execGatewayTimeout s)).fuse = s.fuse := by
  unfold execGatewayTimeout
  split <;> simp

@[simp] theorem execGlBoot_fuse {h m} : (stateOf s (execGlBoot h m s)).fuse = s.fuse := by
  unfold execGlBoot
  rw [stateOf_next]
  refine State.glRecv_fuse fun u => State.glDeliver_fuse fun u => ?_
  rw [same_fuse_iff]
  split <;> simp

@[simp] theorem execHeartbeatSend_fuse : (stateOf s (execHeartbeatSend s)).fuse = s.fuse := by simp [execHeartbeatSend]

@[simp] theorem execGlHeartbeat_fuse {h side st mirror seq sec ns ang} :
    (stateOf s (execGlHeartbeat h side st mirror seq sec ns ang s)).fuse = s.fuse := by
  unfold execGlHeartbeat
  split
  · rfl
  rw [stateOf_next]
  refine State.glRecv_fuse fun u => ?_
  extract_lets s1 _ s2
  have h2 : s2.fuse = u.fuse := by simp [s2, s1]
  clear_value s2
  simp [h2]

@[simp] theorem execHeartbeatMiss_fuse : (stateOf s (execHeartbeatMiss s)).fuse = s.fuse := by simp [execHeartbeatMiss]
@[simp] theorem execGlHandover_fuse {h} : (stateOf s (execGlHandover h s)).fuse = s.fuse := by simp [execGlHandover]
@[simp] theorem execHandoverCommand_fuse : (stateOf s (execHandoverCommand s)).fuse = s.fuse := by simp [execHandoverCommand]

@[simp] theorem execTwinOwnChange_fuse {peer} : (stateOf s (execTwinOwnChange peer s)).fuse = s.fuse := by
  simp [execTwinOwnChange]

@[simp] theorem execTwinInitTimeout_fuse : (stateOf s (execTwinInitTimeout s)).fuse = s.fuse := by simp [execTwinInitTimeout]

@[simp] theorem State.mirrorIn_fuse {b} : (s.mirrorIn b).fuse = s.fuse := by
  unfold State.mirrorIn
  (repeat' split) <;> simp

@[simp] theorem execGlMirror_fuse {h m} : (stateOf s (execGlMirror h m s)).fuse = s.fuse := by
  unfold execGlMirror
  (repeat' split) <;> simp

@[simp] theorem execGlMirrorAck_fuse {h} : (stateOf s (execGlMirrorAck h s)).fuse = s.fuse := by
  unfold execGlMirrorAck
  rw [stateOf_next, ite_fuse]
  split
  · rfl
  refine State.glRecv_fuse fun u => ?_
  rw [same_fuse_iff]
  split <;> simp

@[simp] theorem execMirrorAckTimeout_fuse : (stateOf s (execMirrorAckTimeout s)).fuse = s.fuse := by simp [execMirrorAckTimeout]
@[simp] theorem State.mirrorAdopt_fuse : s.mirrorAdopt.fuse = s.fuse := by simp [State.mirrorAdopt]
@[simp] theorem execMirrorSyncDone_fuse : (stateOf s (execMirrorSyncDone s)).fuse = s.fuse := by simp [execMirrorSyncDone]

/-! ### HostPort -/

@[simp] theorem State.statusReply_fuse {c status rdata} : (s.statusReply c status rdata).fuse = s.fuse := by
  simp [State.statusReply]

@[simp] theorem State.ticketCommand_fuse {c f} (h : ∀ u, Part.fuse.same u (f u).2.2) : (s.ticketCommand c f).fuse = s.fuse := by
  simp only [same_fuse_iff] at h
  simp [State.ticketCommand, h]

@[simp] theorem execRetire_fuse {c h} : (stateOf s (execRetire c h s)).fuse = s.fuse := by simp [execRetire]
@[simp] theorem execAbort_fuse {c h} : (stateOf s (execAbort c h s)).fuse = s.fuse := by simp [execAbort]
@[simp] theorem execResultRead_fuse {c h} : (stateOf s (execResultRead c h s)).fuse = s.fuse := by simp [execResultRead]
@[simp] theorem execResultConsume_fuse {c h} : (stateOf s (execResultConsume c h s)).fuse = s.fuse := by simp [execResultConsume]

@[simp] theorem execResultData_fuse {c h} : (stateOf s (execResultData c h s)).fuse = s.fuse := by
  unfold execResultData
  rw [stateOf_next]
  refine State.ticketCommand_fuse fun u => ?_
  rw [same_fuse_iff]
  dsimp only
  split <;> simp

@[simp] theorem execTicketState_fuse {c h} : (stateOf s (execTicketState c h s)).fuse = s.fuse := by
  unfold execTicketState
  rw [stateOf_next]
  refine State.ticketCommand_fuse fun u => ?_
  rw [same_fuse_iff]
  split <;> rfl

@[simp] theorem State.hostCommand_fuse {f} (h : ∀ u, Part.fuse.same u (f u)) : (s.hostCommand f).fuse = s.fuse := by
  simp only [same_fuse_iff] at h
  simp [State.hostCommand, h]

@[simp] theorem execStatus_fuse : (stateOf s (execStatus s)).fuse = s.fuse := by simp [execStatus]
@[simp] theorem execIntRead_fuse : (stateOf s (execIntRead s)).fuse = s.fuse := by simp [execIntRead]
@[simp] theorem execIntEnable_fuse {v} : (stateOf s (execIntEnable v s)).fuse = s.fuse := by simp [execIntEnable]
@[simp] theorem execResend_fuse : (stateOf s (execResend s)).fuse = s.fuse := by simp [execResend]
@[simp] theorem State.domainStage_fuse {total first} : (s.domainStage total first).fuse = s.fuse := by simp [State.domainStage]

@[simp] theorem execDomainOpen_fuse {i sub up total first} :
    (stateOf s (execDomainOpen i sub up total first s)).fuse = s.fuse := by
  simp [execDomainOpen]

@[simp] theorem State.domainCommand_fuse {f} (h : ∀ u, Part.fuse.same u (f u)) : (s.domainCommand f).fuse = s.fuse := by
  simp only [same_fuse_iff] at h
  simp [State.domainCommand, h]

@[simp] theorem execDomainPut_fuse {h k b} : (stateOf s (execDomainPut h k b s)).fuse = s.fuse := by
  unfold execDomainPut
  rw [stateOf_next]
  refine State.domainCommand_fuse fun u => ?_
  rw [same_fuse_iff]
  split <;> simp

@[simp] theorem execDomainGet_fuse {h _k} : (stateOf s (execDomainGet h _k s)).fuse = s.fuse := by
  unfold execDomainGet
  rw [stateOf_next]
  refine State.domainCommand_fuse fun u => ?_
  rw [same_fuse_iff]
  split <;> simp

@[simp] theorem execUnknownCommand_fuse {req crc} : (stateOf s (execUnknownCommand req crc s)).fuse = s.fuse := by
  unfold execUnknownCommand
  dsimp only
  (repeat' split) <;> simp

@[simp] theorem execHostRequestDiscarded_fuse : (stateOf s (execHostRequestDiscarded s)).fuse = s.fuse := by
  simp [execHostRequestDiscarded]

@[simp] theorem execHostAccessTimeout_fuse : (stateOf s (execHostAccessTimeout s)).fuse = s.fuse := by
  simp [execHostAccessTimeout]

/-! ### OdNet -/

@[simp] theorem State.netWrite_fuse {k c l} : (s.netWrite k c l).fuse = s.fuse := by simp [State.netWrite]
@[simp] theorem State.netRefuse_fuse {c code ticket} : (s.netRefuse c code ticket).fuse = s.fuse := by simp [State.netRefuse]

@[simp] theorem State.netRead_fuse {k c key} : (s.netRead k c key).fuse = s.fuse := by
  unfold State.netRead
  dsimp only
  (repeat' split) <;> simp

@[simp] theorem State.netReads_fuse {k c keys} : (s.netReads k c keys).fuse = s.fuse := by simp [State.netReads]

@[simp] theorem execNetworkRequest_fuse {k c r} : (stateOf s (execNetworkRequest k c r s)).fuse = s.fuse := by
  unfold execNetworkRequest
  (repeat' split) <;> simp

/-! ### Wiring -/

@[simp] theorem State.rsShow_fuse {n c} : (s.rsShow n c).fuse = s.fuse := by simp [State.rsShow]

@[simp] theorem execRs485LineMeasurement_fuse {n a b} : (stateOf s (execRs485LineMeasurement n a b s)).fuse = s.fuse := by
  simp [execRs485LineMeasurement]

/-! ### Dispatch -/

/-! ### Idle -/

@[simp] theorem State.idle_fuse : s.idle.fuse = s.fuse := by simp [State.idle]

/-! ### The step of a FUSE_PROGRAM ticket -/

/-- Above a clear bit `k` the sum with `2 ^ k` has no carry. -/

theorem div_add_two_pow_of_clear {n k : Nat} (hk : n.testBit k = false) : (n + 2 ^ k) / 2 ^ (k + 1) = n / 2 ^ (k + 1) := by
  rw [Nat.testBit_eq_decide_div_mod_eq, decide_eq_false_iff_not] at hk
  rw [pow_succ, ← Nat.div_div_eq_div_mul, ← Nat.div_div_eq_div_mul, Nat.add_div_right _ (Nat.two_pow_pos k)]
  omega

theorem testBit_setBit_true {n k j : Nat} : (setBit n k true).testBit j = (n.testBit j || decide (j = k)) := by
  unfold setBit
  rw [bitOf_eq_testBit]
  cases hk : n.testBit k with
  | true =>
    rcases eq_or_ne j k with rfl | hjk
    · simp [hk]
    · simp [hjk]
  | false =>
    simp only [Bool.false_eq_true, if_false, if_true]
    rcases Nat.lt_trichotomy j k with hjk | rfl | hjk
    · simp [Nat.add_comm n, Nat.testBit_two_pow_add_gt hjk, hjk.ne]
    · simp [Nat.add_comm n, Nat.testBit_two_pow_add_eq, hk]
    · obtain ⟨d, rfl⟩ := Nat.exists_eq_add_of_le' hjk
      rw [← Nat.testBit_div_two_pow, div_add_two_pow_of_clear hk, Nat.testBit_div_two_pow]
      simp
      omega

theorem and_setBit_true {n k : Nat} : n &&& setBit n k true = n := by
  refine Nat.eq_of_testBit_eq fun j => ?_
  rw [Nat.testBit_and, testBit_setBit_true]
  simpa using Or.inl

/-- A fold whose every step keeps the bits that are set keeps them all. -/

theorem and_foldl {α : Type} {f : Nat → α → Nat} (h : ∀ n a, n &&& f n a = n) (l : List α) (n : Nat) : n &&& l.foldl f n = n := by
  induction l generalizing n with
  | nil => exact Nat.and_self n
  | cons a l ih =>
    calc n &&& l.foldl f (f n a) = (n &&& f n a) &&& l.foldl f (f n a) := by rw [h]
      _ = n := by rw [Nat.and_assoc, ih, h]

theorem and_setBits {n m a : Nat} {l : List Nat} :
    n &&& l.foldl (fun f k => if bitOf m k then setBit f (a + k) true else f) n = n := by
  refine and_foldl (fun n k => ?_) l n
  split
  · exact and_setBit_true
  · exact Nat.and_self n

theorem State.stepFuse_keeps_set_fuses {i failed} : s.fuse &&& (s.stepFuse i failed).fuse = s.fuse := by
  unfold State.stepFuse
  dsimp only
  split
  · simp
  split
  · rw [State.stepDone_fuse]
    exact and_setBits
  · split <;> simp

/-- The second step of FUSE_PROGRAM only compares (R104). -/

theorem State.stepFuse_fuse_of_step {i failed} (h : (s.ticket i).step ≠ 0) : (s.stepFuse i failed).fuse = s.fuse := by
  simp [State.stepFuse, h]

theorem State.typeStep_fuse_of_type {i f} (h : (s.ticket i).type ≠ 7) : (s.typeStep i f).fuse = s.fuse := by
  unfold State.typeStep
  simp [h]

theorem State.typeStep_of_fuseProgram {i f} (h : (s.ticket i).type = 7) : s.typeStep i f = s.stepFuse i (f == .failed) := by
  unfold State.typeStep
  simp [h]

theorem State.typeStep_keeps_set_fuses {i f} : s.fuse &&& (s.typeStep i f).fuse = s.fuse := by
  by_cases h : (s.ticket i).type = 7
  · rw [State.typeStep_of_fuseProgram h]
    exact State.stepFuse_keeps_set_fuses
  · rw [State.typeStep_fuse_of_type h, Nat.and_self]

theorem State.typeStep_fuse_of_not_program {i f} (h : ¬((s.ticket i).type = 7 ∧ (s.ticket i).step = 0)) :
    (s.typeStep i f).fuse = s.fuse := by
  by_cases ht : (s.ticket i).type = 7
  · rw [State.typeStep_of_fuseProgram ht]
    exact State.stepFuse_fuse_of_step fun hs => h ⟨ht, hs⟩
  · exact State.typeStep_fuse_of_type ht

theorem execTicketStepComplete_fuse_cases {i f} :
    (stateOf s (execTicketStepComplete i f s)).fuse = s.fuse ∨
      (stateOf s (execTicketStepComplete i f s)).fuse = (s.typeStep i f).fuse := by
  unfold execTicketStepComplete
  split
  · exact .inl rfl
  · exact .inr (by simp)

/-! ### The dispatcher -/

/-- Each other command's arm of the dispatcher is one of the functions above. -/

theorem exec_fuse_of_ne_ticketStepComplete {c : Instr} (h : ∀ i f, c ≠ .ticketStepComplete i f) :
    (stateOf s (exec c s)).fuse = s.fuse := by
  cases c
  case ticketStepComplete i f => exact absurd rfl (h i f)
  all_goals simp [exec]

theorem exec_keeps_set_fuses {c : Instr} : s.fuse &&& (stateOf s (exec c s)).fuse = s.fuse := by
  by_cases hc : ∃ i f, c = .ticketStepComplete i f
  · obtain ⟨i, f, rfl⟩ := hc
    rcases execTicketStepComplete_fuse_cases (s := s) (i := i) (f := f) with h | h
    · exact (congrArg _ h).trans (Nat.and_self _)
    · exact (congrArg _ h).trans State.typeStep_keeps_set_fuses
  · rw [exec_fuse_of_ne_ticketStepComplete fun i f h => hc ⟨i, f, h⟩, Nat.and_self]

theorem exec_fuse_ne {c : Instr} (h : (stateOf s (exec c s)).fuse ≠ s.fuse) :
    ∃ (i : Fin 128) (f : StepFact), c = .ticketStepComplete i f ∧ (s.ticket i).type = 7 ∧ (s.ticket i).step = 0 := by
  by_contra hno
  push Not at hno
  refine h ?_
  by_cases hc : ∃ i f, c = .ticketStepComplete i f
  · obtain ⟨i, f, rfl⟩ := hc
    have hstep : (s.typeStep i f).fuse = s.fuse := State.typeStep_fuse_of_not_program fun ⟨ht, hs⟩ => hno i f rfl ht hs
    rcases execTicketStepComplete_fuse_cases (s := s) (i := i) (f := f) with h | h
    · exact h
    · exact h.trans hstep
  · exact exec_fuse_of_ne_ticketStepComplete fun i f h => hc ⟨i, f, h⟩

end

/-- Settles O58, by the frame of the fuses over every function of the model and the fold of `State.stepFuse`, which only sets bits. -/

theorem fusesOnlySet : Obligations.FusesOnlySet := by
  unfold Obligations.FusesOnlySet
  intro c s t h
  have ht : t = stateOf s (exec c s) := by rw [h, stateOf_next]
  rw [ht]
  exact ⟨exec_keeps_set_fuses, exec_fuse_ne⟩

end Sys2Proof.Machine


/-! ## Scope: the mains angle of the Treadle, its angle events, and full FIFOs -/

namespace Sys2Proof.Machine

/-! ### What changes no register field of the Treadle -/

/-- The key from which on the register fields of the angle event units lie. -/
def aevKeys : Nat := 0x40010100 * 32

/-- The key from which on the register fields of the blocks behind the Treadle lie. -/
def treadleEnd : Nat := 0x40011000 * 32

/-- Of the register fields below key `b` only those listed change, and beside the register file only the parts listed. -/
def KeepsBelow (b : Nat) (fs : List Field) (l : List Part) (s t : State) : Prop :=
  (∀ f : Field, f.key < b → f.key ∈ fs.map Field.key ∨ t.rd f = s.rd f) ∧ Keeps (.regs :: l) s t

/-- The fields of every instance of a register lie no lower than those of its first. -/
theorem Field.le_key_at {b : Nat} {f : Field} (h : b ≤ f.key) (i : Nat) : b ≤ (f.at i).key :=
  h.trans (Nat.add_le_add_right (Nat.mul_le_mul_right 32 (Nat.le_add_right ..)) _)

theorem Field.le_key_at2 {b : Nat} {f : Field} (h : b ≤ f.key) (i j : Nat) : b ≤ (f.at2 i j).key :=
  (Field.le_key_at h i).trans (Nat.add_le_add_right (Nat.mul_le_mul_right 32 (Nat.le_add_right ..)) _)

section
variable {b : Nat} {fs : List Field} {l : List Part} {s t u : State}

theorem KeepsBelow.refl (b : Nat) (fs : List Field) (l : List Part) (s : State) : KeepsBelow b fs l s s :=
  ⟨fun _ _ => .inr rfl, Keeps.refl _ s⟩

theorem KeepsBelow.trans (h : KeepsBelow b fs l s t) (k : KeepsBelow b fs l t u) : KeepsBelow b fs l s u := by
  refine ⟨fun f hf => ?_, h.2.trans k.2⟩
  rcases h.1 f hf with h | h
  · exact .inl h
  · exact (k.1 f hf).imp_right fun k => k.trans h

theorem KeepsBelow.mono {c : Nat} {gs : List Field} {m : List Part} (h : KeepsBelow b fs l s t) (hb : c ≤ b)
    (hf : ∀ f ∈ fs, f ∈ gs) (hl : ∀ p ∈ l, p ∈ m) : KeepsBelow c gs m s t := by
  refine ⟨fun f hfc => (h.1 f (hfc.trans_le hb)).imp_left fun hm => ?_, h.2.mono fun p hp => ?_⟩
  · obtain ⟨g, hg, hk⟩ := List.mem_map.1 hm
    exact List.mem_map.2 ⟨g, hf g hg, hk⟩
  · exact (List.mem_cons.1 hp).elim (fun e => e ▸ List.mem_cons_self) fun hp => List.mem_cons_of_mem _ (hl p hp)

theorem KeepsBut.below (h : KeepsBut fs l s t) (b : Nat) : KeepsBelow b fs l s t := ⟨fun f _ => h.1 f, h.2⟩

/-- A field below the bound that is not listed reads as before. -/
theorem KeepsBelow.rd (h : KeepsBelow b fs l s t) (f : Field) (hf : f.key < b) (hm : f.key ∉ fs.map Field.key) : t.rd f = s.rd f :=
  (h.1 f hf).resolve_left hm

theorem KeepsBelow.wr (h : KeepsBelow b fs l s t) (f : Field) (v : Nat) (hf : f ∈ fs) : KeepsBelow b fs l s (t.wr f v) :=
  h.trans (((KeepsBut.refl fs l t).wr f v hf).below b)

/-- A field from the bound on may be written. -/
theorem KeepsBelow.wrFrom (h : KeepsBelow b fs l s t) (f : Field) (v : Nat) (hf : b ≤ f.key) : KeepsBelow b fs l s (t.wr f v) :=
  h.trans ⟨fun g hg => .inr (t.rd_wr_ne f g v (by omega)), (t.wr_keeps f v).mono (by simp)⟩

theorem KeepsBelow.wrAt {f : Field} {i v : Nat} (h : KeepsBelow b fs l s t) (hf : b ≤ f.key) :
    KeepsBelow b fs l s (t.wr (f.at i) v) := h.wrFrom _ v (Field.le_key_at hf i)

theorem KeepsBelow.wrAt2 {f : Field} {i j v : Nat} (h : KeepsBelow b fs l s t) (hf : b ≤ f.key) :
    KeepsBelow b fs l s (t.wr (f.at2 i j) v) := h.wrFrom _ v (Field.le_key_at2 hf i j)

theorem KeepsBelow.wrIfFrom (h : KeepsBelow b fs l s t) (c : Bool) (f : Field) (v : Nat) (hf : b ≤ f.key) :
    KeepsBelow b fs l s (t.wrIf c f v) := by
  cases c
  · exact h
  · exact h.wrFrom f v hf

theorem KeepsBelow.wrIf (h : KeepsBelow b fs l s t) (c : Bool) (f : Field) (v : Nat) (hf : f ∈ fs) :
    KeepsBelow b fs l s (t.wrIf c f v) := by
  cases c
  · exact h
  · exact h.wr f v hf

theorem KeepsBelow.part {m : List Part} (h : KeepsBelow b fs l s t) (k : Keeps m t u) (hm : m ⊆ l) (hr : Part.regs ∉ m) :
    KeepsBelow b fs l s u :=
  h.trans ((((KeepsBut.refl fs m t).part k hr).below b).mono le_rfl (fun _ hf => hf) fun _ hp => hm hp)

theorem KeepsBelow.ite {c : Prop} [Decidable c] (ht : KeepsBelow b fs l s t) (hu : KeepsBelow b fs l s u) :
    KeepsBelow b fs l s (if c then t else u) := by
  split
  · exact ht
  · exact hu

theorem KeepsBelow.each {α : Type} (f : State → α → State) (xs : List α)
    (hstep : ∀ x ∈ xs, ∀ t, KeepsBelow b fs l s t → KeepsBelow b fs l s (f t x)) (h : KeepsBelow b fs l s t) :
    KeepsBelow b fs l s (t.each xs f) := by
  induction xs generalizing t with
  | nil => exact h
  | cons x xs ih => exact ih (fun y hy => hstep y (List.mem_cons_of_mem _ hy)) (hstep x List.mem_cons_self t h)

end

/-! ### What reaches the units beside the Treadle (R193, R872, R996) -/

theorem State.setGr_keeps (s : State) (g : Nat) (v : Group) : Keeps [.pwm] s (s.setGr g v) :=
  fun p => by cases p <;> simp [Part.same, State.setGr]

theorem State.setHd_keeps (s : State) (n : Nat) (h : Heddle) : Keeps [.hed] s (s.setHd n h) :=
  fun p => by cases p <;> simp [Part.same, State.setHd]

theorem State.setEg_keeps (s : State) (p : Nat) (e : Egress) : Keeps [.loom] s (s.setEg p e) :=
  fun q => by cases q <;> simp [Part.same, State.setEg]

theorem State.setCn_keeps (s : State) (n : Nat) (u : CanUnit) : Keeps [.can] s (s.setCn n u) :=
  fun p => by cases p <;> simp [Part.same, State.setCn]

theorem State.setTpo_keeps (s : State) (n : Nat) (u : TpoUnit) : Keeps [.time] s (s.setTpo n u) := State.time_keeps s _

theorem State.mark_keeps (s : State) (m : Mark) : Keeps [.marks] s (s.mark m) :=
  fun p => by cases p <;> simp [Part.same]

theorem State.converting_keeps (s : State) (n : Nat) : Keeps [.pwm] s { s with pwm := { s.pwm with converting := n } } :=
  fun p => by cases p <;> simp [Part.same]

section
variable {fs : List Field} {l : List Part} {s t : State}

theorem KeepsBelow.grRamp (h : KeepsBelow treadleEnd fs l s t) (g : Nat) (hl : [.pwm] ⊆ l) :
    KeepsBelow treadleEnd fs l s (t.grRamp g) :=
  .ite ((h.part (t.setGr_keeps g _) hl (by simp)).wrAt (by decide)) h

/-- The power stages that react to SEQ_MISMATCH ramp down. -/
theorem KeepsBelow.grSequence (h : KeepsBelow treadleEnd fs l s t) (hl : [.pwm] ⊆ l) :
    KeepsBelow treadleEnd fs l s t.grSequence :=
  .ite h (.each _ _ (fun g _ _ hu => .ite ((hu.grRamp g hl).part (State.setGr_keeps _ g _) hl (by simp)) hu) h)

/-- CROSS goes to the links. -/
theorem KeepsBelow.crossSend (h : KeepsBelow treadleEnd fs l s t) (ang back : Nat) (hl : [.gl] ⊆ l) :
    KeepsBelow treadleEnd fs l s (t.crossSend ang back) :=
  .each _ _ (fun i _ u hu => hu.part (u.glSend_keeps i _) hl (by simp)) h

/-- The angle lists of the ports are placed anew (R691). -/
theorem KeepsBelow.rePlaceAngle (h : KeepsBelow treadleEnd fs l s t) : KeepsBelow treadleEnd fs l s t.rePlaceAngle :=
  .each _ _ (fun p _ _ hu => .ite hu (hu.wrAt (by decide))) h

end

/-- The parts in which an angle event shows itself at its target (Table 03-3). -/
def eventParts : List Part := [.pwm, .hed, .loom, .can, .marks, .time, .threads]

section
variable {fs : List Field} {s t : State}

theorem KeepsBelow.seqTrigger (h : KeepsBelow treadleEnd fs eventParts s t) (k : Nat) :
    KeepsBelow treadleEnd fs eventParts s (t.seqTrigger k) :=
  .ite (h.wrAt (by decide))
    (h.part (t.converting_keeps _) (by simp [eventParts]) (by simp))

theorem KeepsBelow.hdAngle (h : KeepsBelow treadleEnd fs eventParts s t) (n : Nat) :
    KeepsBelow treadleEnd fs eventParts s (t.hdAngle n) :=
  .ite (h.wrAt (by decide))
    (h.part (t.setHd_keeps n _) (by simp [eventParts]) (by simp))

theorem KeepsBelow.agRestart (h : KeepsBelow treadleEnd fs eventParts s t) (p : Nat) :
    KeepsBelow treadleEnd fs eventParts s (t.agRestart p) := by
  unfold State.agRestart
  extract_lets e s1
  have h1 : KeepsBelow treadleEnd fs eventParts s s1 := by
    unfold s1
    split
    · exact h
    · exact (h.part (t.setEg_keeps p _) (by simp [eventParts]) (by simp)).wrAt (by decide)
  exact (h1.part (s1.setEg_keeps p _) (by simp [eventParts]) (by simp)).wrAt (by decide)

theorem KeepsBelow.wake (h : KeepsBelow treadleEnd fs eventParts s t) (i : Nat) :
    KeepsBelow treadleEnd fs eventParts s (t.wake i) := h.part (t.wake_keeps i) (by simp [eventParts]) (by simp)

theorem KeepsBelow.setCn (h : KeepsBelow treadleEnd fs eventParts s t) (n : Nat) (u : CanUnit) :
    KeepsBelow treadleEnd fs eventParts s (t.setCn n u) := h.part (t.setCn_keeps n u) (by simp [eventParts]) (by simp)

theorem KeepsBelow.mark (h : KeepsBelow treadleEnd fs eventParts s t) (m : Mark) :
    KeepsBelow treadleEnd fs eventParts s (t.mark m) := h.part (t.mark_keeps m) (by simp [eventParts]) (by simp)

theorem KeepsBelow.cellMissed (h : KeepsBelow treadleEnd fs eventParts s t) (n c : Nat) :
    KeepsBelow treadleEnd fs eventParts s (t.cellMissed n c) :=
  (h.wrAt2 (by decide)).wrAt (by decide)

theorem KeepsBelow.moFail (h : KeepsBelow treadleEnd fs eventParts s t) (n k : Nat) :
    KeepsBelow treadleEnd fs eventParts s (t.moFail n k) := by
  have hfail : KeepsBelow treadleEnd fs eventParts s ((t.moClear n k).wr (Reg.CAN_MO_CTL_TX_FAIL.at2 n k) 1) :=
    ((h.wrAt2 (by decide)).wrAt2 (by decide)).wrAt2 (by decide)
  exact .ite (hfail.wake _) hfail

theorem KeepsBelow.columnEnd (h : KeepsBelow treadleEnd fs eventParts s t) (n : Nat) :
    KeepsBelow treadleEnd fs eventParts s (t.columnEnd n) := by
  unfold State.columnEnd
  extract_lets s1 s2
  have h1 : KeepsBelow treadleEnd fs eventParts s s1 := by
    unfold s1
    split
    · exact h.cellMissed n _
    · exact h
  have h2 : KeepsBelow treadleEnd fs eventParts s s2 := by
    unfold s2
    split
    · exact .ite (h1.cellMissed n _) ((h1.cellMissed n _).moFail n _)
    · exact h1
  exact h2.setCn n _

theorem KeepsBelow.evalCell (h : KeepsBelow treadleEnd fs eventParts s t) (n j : Nat) :
    KeepsBelow treadleEnd fs eventParts s (t.evalCell n j) := by
  have hdata (k w : Nat) : treadleEnd ≤ (moDataField n k w).key := by
    unfold moDataField
    split
    · exact Field.le_key_at2 (by decide) _ _
    · exact Field.le_key_at2 (by decide) _ _
  exact .ite ((((h.mark _).wrFrom _ _ (hdata _ _)).wrAt2 (by decide)).setCn n _)
    ((h.mark _).setCn n _)

theorem KeepsBelow.ttStart (h : KeepsBelow treadleEnd fs eventParts s t) (n : Nat) (cyc : Option Nat) :
    KeepsBelow treadleEnd fs eventParts s (t.ttStart n cyc) := by
  unfold State.ttStart
  extract_lets run col s1 cut s2 next s3
  have h2 : KeepsBelow treadleEnd fs eventParts s s2 := .wrIfFrom (.ite (h.columnEnd n) h) _ _ 1
    (Field.le_key_at (by decide) _)
  have h3 : KeepsBelow treadleEnd fs eventParts s s3 :=
    (((h2.wrAt (by decide)).wrAt (by decide)).wrAt (by decide)).wrAt (by decide)
  exact .ite h (((h3.mark _).setCn n _).evalCell n 0)

/-- An angle event changes no field of the Treadle at its target (R193, Table 03-3). -/
theorem KeepsBelow.aevDeliver (h : KeepsBelow treadleEnd fs eventParts s t) (tcode tidx : Nat) :
    KeepsBelow treadleEnd fs eventParts s (t.aevDeliver tcode tidx) := by
  unfold State.aevDeliver
  split
  · exact .ite (.ite (h.part (t.setGr_keeps _ _) (by simp [eventParts]) (by simp)) h) h
  · exact .ite (.ite (h.seqTrigger tidx) h) h
  · exact .ite (h.hdAngle tidx) h
  · exact .ite (h.agRestart tidx) h
  · exact .ite (.ite (h.ttStart tidx none) h) h
  · exact .ite (.ite (.ite h (h.part (t.setTpo_keeps _ _) (by simp [eventParts]) (by simp))) h) h
  · exact h.wake _
  · exact h

end

/-! ### Angle event units (R186 to R196) -/

/-- The parts in which the firing of angle event units shows itself, with those of the targets. -/
def fireParts : List Part := .trd :: eventParts

/-- Of the Treadle beside its registers only the interrupts presented change. -/
def IrqOnly (s t : State) : Prop := ∃ q, t.trd = { s.trd with irq := q }

theorem IrqOnly.trans {s t u : State} (h : IrqOnly s t) (k : IrqOnly t u) : IrqOnly s u := by
  obtain ⟨p, hp⟩ := h
  obtain ⟨q, hq⟩ := k
  exact ⟨q, by rw [hq, hp]⟩

theorem IrqOnly.each {α : Type} {s t : State} (f : State → α → State) (xs : List α) (h : IrqOnly s t)
    (hstep : ∀ u x, IrqOnly u (f u x)) : IrqOnly s (t.each xs f) := by
  induction xs generalizing t with
  | nil => exact h
  | cons x xs ih => exact ih (h.trans (hstep t x))

theorem Keeps.each {α : Type} {l : List Part} {s : State} (f : State → α → State) (xs : List α)
    (hstep : ∀ u x, Keeps l u (f u x)) : Keeps l s (s.each xs f) := by
  induction xs generalizing s with
  | nil => exact Keeps.refl l s
  | cons x xs ih => exact (hstep s x).trans ih

theorem State.trd_keeps (s : State) (x : TreadleState) : Keeps [.trd] s { s with trd := x } :=
  fun p => by cases p <;> simp [Part.same]

@[simp] theorem State.wrIf_trd (s : State) (c : Bool) (f : Field) (v : Nat) : (s.wrIf c f v).trd = s.trd := by cases c <;> rfl

theorem State.interruptWeaver_keeps (s : State) : Keeps [.threads] s s.interruptWeaver :=
  (s.wake_keeps 0).trans ((s.wake 0).wake_keeps 1)

@[simp] theorem State.interruptWeaver_trd (s : State) : s.interruptWeaver.trd = s.trd :=
  (s.interruptWeaver_keeps .trd).resolve_left (by simp)

@[simp] theorem State.aevAdvance_trd (s : State) (n k : Nat) : (s.aevAdvance n k).trd = s.trd := rfl

theorem State.aevFires_irqOnly (s : State) (n : Nat) (late : Bool) : IrqOnly s (s.aevFires n late) := by
  unfold State.aevFires
  extract_lets +onlyGivenNames s1 _ s2 d
  have h1 : s1.trd = s.trd := (State.wrIf_trd ..).trans ((State.wr_trd ..).trans (State.wr_trd ..))
  clear_value s1
  have h2 : IrqOnly s s2 := by
    unfold s2
    split
    · exact ⟨s1.trd.irq ++ [n], by rw [State.interruptWeaver_trd, ← h1]⟩
    · exact ⟨s.trd.irq, h1⟩
  clear_value s2 d
  unfold IrqOnly at h2 ⊢
  split
  · rwa [State.wr_trd]
  split
  · rwa [State.wr_trd, State.aevAdvance_trd]
  · rwa [State.aevAdvance_trd]

section
variable {fs : List Field} {s t : State}

theorem KeepsBelow.aevAdvance (h : KeepsBelow aevKeys fs fireParts s t) (n k : Nat) :
    KeepsBelow aevKeys fs fireParts s (t.aevAdvance n k) := h.wrAt (by decide)

theorem KeepsBelow.aevFires (h : KeepsBelow aevKeys fs fireParts s t) (n : Nat) (late : Bool) :
    KeepsBelow aevKeys fs fireParts s (t.aevFires n late) := by
  unfold State.aevFires
  extract_lets s1 _ s2 d
  have h1 : KeepsBelow aevKeys fs fireParts s s1 :=
    ((h.wrAt (by decide)).wrAt (by decide)).wrIfFrom late _ 1
      (Field.le_key_at (by decide) _)
  have h2 : KeepsBelow aevKeys fs fireParts s s2 :=
    .ite ((h1.part (s1.trd_keeps _) (by simp [fireParts]) (by simp)).part (State.interruptWeaver_keeps _)
      (by simp [fireParts, eventParts]) (by simp)) h1
  exact .ite (h2.wrAt (by decide))
    (.ite ((h2.aevAdvance n _).wrAt (by decide)) (h2.aevAdvance n 1))

theorem KeepsBelow.aevFireAll (h : KeepsBelow aevKeys fs fireParts s t) (l : List Nat) (late : Bool) :
    KeepsBelow aevKeys fs fireParts s (t.aevFireAll l late) :=
  .each _ _ (fun _ _ u hu => hu.trans ((((KeepsBelow.refl treadleEnd fs eventParts u).aevDeliver _ _).mono (by decide)
      (fun _ hf => hf) fun _ hp => List.mem_cons_of_mem _ hp)))
    (.each _ _ (fun n _ _ hu => hu.aevFires n late) (h.part (t.trd_keeps _) (by simp [fireParts]) (by simp)))

theorem KeepsBelow.aevResume (h : KeepsBelow aevKeys fs fireParts s t) : KeepsBelow aevKeys fs fireParts s t.aevResume :=
  .each _ _ (fun n _ _ hu => .ite hu (.ite
    ((hu.wrAt (by decide)).wrAt (by decide)) (hu.aevAdvance n _))) h

end

theorem State.aevFireAll_irqOnly (s : State) (l : List Nat) (late : Bool) : IrqOnly s (s.aevFireAll l late) :=
  .each _ _ (.each _ _ ⟨_, rfl⟩ fun u n => u.aevFires_irqOnly n late) fun u x =>
    ⟨u.trd.irq, (((KeepsBelow.refl treadleEnd [] eventParts u).aevDeliver _ _).2 .trd).resolve_left (by simp [eventParts])⟩

/-- On leaving ACQUIRE the units write registers alone (R191). -/
theorem State.aevResume_keeps (s : State) : Keeps [.regs] s s.aevResume := by
  refine Keeps.each _ _ fun u n => ?_
  split
  · exact Keeps.refl _ u
  split
  · exact (u.wr_keeps _ _).trans (State.wr_keeps _ _ _)
  · exact u.wr_keeps _ _

/-! ### Phase sequence (R180 to R184) -/

/-- SEQ_MISMATCH and the reaction of the power stages. -/
theorem State.seqCheck_keeps (s : State) : KeepsBelow treadleEnd [Reg.TREADLE_STAT_SEQ_MISMATCH] [.pwm] s s.seqCheck :=
  .ite (((KeepsBelow.refl _ _ _ s).wr _ 1 (by simp)).grSequence (by simp)) (KeepsBelow.refl _ _ _ s)

@[simp] theorem State.seqCheck_trd (s : State) : s.seqCheck.trd = s.trd := (s.seqCheck_keeps.2 .trd).resolve_left (by simp)

/-- The end of a cycle shows its verdict in SEQUENCE. -/
theorem State.seqCycle_keeps (s : State) (ang : Nat) :
    KeepsBelow treadleEnd [Reg.TREADLE_STAT_SEQ, Reg.TREADLE_STAT_SEQ_MISMATCH] [.trd, .pwm] s (s.seqCycle ang) := by
  unfold State.seqCycle
  extract_lets +onlyGivenNames _ _ v n s0 _ s1
  have h := KeepsBelow.refl treadleEnd [Reg.TREADLE_STAT_SEQ, Reg.TREADLE_STAT_SEQ_MISMATCH] [.trd, .pwm] s
  have h1 : KeepsBelow treadleEnd [Reg.TREADLE_STAT_SEQ, Reg.TREADLE_STAT_SEQ_MISMATCH] [.trd, .pwm] s s1 :=
    .ite ((h.wr _ 0 (by simp)).part (State.trd_keeps _ _) (by simp) (by simp))
      (.ite h ((h.wrIf _ _ v (by simp)).part (State.trd_keeps _ _) (by simp) (by simp)))
  exact (h1.part (s1.trd_keeps _) (by simp) (by simp)).trans ((State.seqCheck_keeps _).mono le_rfl (by simp) (by simp))

/-- The end of a cycle counts its verdict and begins the next cycle at the crossing. -/
theorem State.seqCycle_trd (s : State) (ang : Nat) : ∃ v n, (s.seqCycle ang).trd =
    { s.trd with verdict := v, verdictCount := n, refAng := some ang, ms1 := none, ms2 := none } := by
  unfold State.seqCycle
  extract_lets +onlyGivenNames _ _ v n s0 _ s1
  have h0 : s0.trd = s.trd := State.wrIf_trd ..
  have h1 : ∃ v n, s1.trd = { s.trd with verdict := v, verdictCount := n } := by
    unfold s1
    split
    · exact ⟨0, 0, rfl⟩
    split
    · exact ⟨_, _, rfl⟩
    · exact ⟨v, n, by rw [← h0]⟩
  obtain ⟨v, n, h⟩ := h1
  exact ⟨v, n, by rw [State.seqCheck_trd, h]⟩

/-! ### A crossing on its way into regulation (R170, R171, R197) -/

/-- The record of a crossing (R197). -/
def State.xtsRec (s : State) (ang back : Nat) (cand : Bool) : XtsRec :=
  { ang := ang, aSec := clockSec (s.domBack 0 back), aNs := clockSub (s.domBack 0 back), bSec := clockSec (s.domBack 1 back),
    bNs := clockSub (s.domBack 1 back), cand := cand, aOk := s.domValid 0, bOk := s.domValid 1 }

theorem State.xtsPut_trd (s : State) (ang back : Nat) (cand : Bool) : (s.xtsPut ang back cand).trd =
    { s.trd with xts := (if 16 ≤ s.trd.xts.length then s.trd.xts.drop 1 else s.trd.xts) ++ [s.xtsRec ang back cand],
                 newest := some (s.xtsRec ang back cand) } := by
  rw [State.xtsPut, State.wrIf_trd]
  simp only [decide_eq_true_eq, State.xtsRec]

theorem State.xtsPut_keeps (s : State) (ang back : Nat) (cand : Bool) :
    KeepsBelow treadleEnd [Reg.TREADLE_STAT_XTS_OVF] [.trd] s (s.xtsPut ang back cand) :=
  ((KeepsBelow.refl _ _ _ s).part (s.trd_keeps _) (by simp) (by simp)).wrIf _ _ _ (by simp)

theorem State.xtsPut_ovf (s : State) (ang back : Nat) (cand : Bool) (h : 16 ≤ s.trd.xts.length) :
    (s.xtsPut ang back cand).rd Reg.TREADLE_STAT_XTS_OVF = 1 := by
  rw [State.xtsPut, decide_eq_true h, State.wrIf_true, State.rd_wr_same]
  rfl

/-- A crossing that is recorded, and ends a cycle of the phase sequence. -/
def State.recorded (s : State) (ang back : Nat) (cand : Bool) : State := (s.xtsPut ang back cand).seqCycle ang

/-- What the record of a crossing and the end of its cycle may change of the Treadle's registers. -/
def recordFields : List Field := [Reg.TREADLE_STAT_XTS_OVF, Reg.TREADLE_STAT_SEQ, Reg.TREADLE_STAT_SEQ_MISMATCH]

theorem State.recorded_keeps (s : State) (ang back : Nat) (cand : Bool) :
    KeepsBelow treadleEnd recordFields [.trd, .pwm] s (s.recorded ang back cand) :=
  ((s.xtsPut_keeps ang back cand).mono le_rfl (by simp [recordFields]) (by simp)).trans
    ((State.seqCycle_keeps _ ang).mono le_rfl (by simp [recordFields]) (by simp))

theorem State.recorded_trd (s : State) (ang back : Nat) (cand : Bool) : ∃ v n, (s.recorded ang back cand).trd =
    { (s.xtsPut ang back cand).trd with verdict := v, verdictCount := n, refAng := some ang, ms1 := none, ms2 := none } :=
  State.seqCycle_trd _ ang

/-- A crossing that is accepted is recorded, and sent to the workers (R996). -/
def State.accepted (s : State) (ang back : Nat) : State := (s.recorded ang back false).crossSend ang back

theorem State.accepted_keeps (s : State) (ang back : Nat) :
    KeepsBelow treadleEnd recordFields [.trd, .pwm, .gl] s (s.accepted ang back) :=
  ((s.recorded_keeps ang back false).mono le_rfl (fun _ hf => hf) (by simp)).crossSend ang back (by simp)

theorem State.accepted_trd (s : State) (ang back : Nat) : (s.accepted ang back).trd = (s.recorded ang back false).trd :=
  (((KeepsBelow.refl treadleEnd [] [.gl] (s.recorded ang back false)).crossSend ang back (by simp)).2 .trd).resolve_left (by simp)

/-- In ACQUIRE and HOLDOVER a crossing is taken into a candidate run. -/
theorem State.ms0Crossing_candidate {s : State} (h : s.trdSt = 0 ∨ s.trdSt = 2) (back : Nat) (mgr : Option Nat) :
    s.ms0Crossing back mgr =
      (s.recorded (s.angBack back) back true).runAdd (s.cycle - back) (s.phaseErr (s.angBack back)) mgr := if_pos h

/-- Outside its acceptance window a crossing is only counted. -/
theorem State.ms0Crossing_rejected {s : State} {back : Nat} (h : ¬(s.trdSt = 0 ∨ s.trdSt = 2))
    (hw : s.inWindow (s.cycle - back) (s.phaseErr (s.angBack back)) (s.angBack back) = false) (mgr : Option Nat) :
    s.ms0Crossing back mgr = s.inc Reg.TREADLE_CNT_REJECT := (if_neg h).trans (if_pos (by simp [hw]))

/-- Within its acceptance window a crossing is accepted. -/
theorem State.ms0Crossing_accepted {s : State} {back : Nat} (h : ¬(s.trdSt = 0 ∨ s.trdSt = 2))
    (hw : s.inWindow (s.cycle - back) (s.phaseErr (s.angBack back)) (s.angBack back) = true) (mgr : Option Nat) :
    s.ms0Crossing back mgr =
      if s.trdSt = 1 then
        (s.accepted (s.angBack back) back).acceptLocked (s.cycle - back) (s.phaseErr (s.angBack back)) (s.angBack back)
      else (s.accepted (s.angBack back) back).acceptSlew (s.cycle - back) (s.phaseErr (s.angBack back)) :=
  (if_neg h).trans (if_neg (by simp [hw]))

/-- MS0_CROSSING takes the crossing that its source has found. -/
theorem exec_ms0Crossing {s : State} {edge low high back : Nat} (hs : s.trdSees = true) (hf : s.angleFollows = false)
    (hb : s.ms0Back edge low high = some back) :
    exec (.ms0Crossing edge low high) s = .next ((s.msTake 0).ms0Crossing back none) := by
  change execMs0Crossing edge low high s = _
  simp [execMs0Crossing, hs, hf, hb]

/-! ### What regulation leaves of the cross-timestamps (R197, R199) -/

/-- The cross-timestamp FIFO and its flag are as before. -/
structure KeepsRecords (s t : State) : Prop where
  ovf : t.rd Reg.TREADLE_STAT_XTS_OVF = s.rd Reg.TREADLE_STAT_XTS_OVF
  xts : t.trd.xts = s.trd.xts

section
variable {s t u : State}

theorem KeepsRecords.refl (s : State) : KeepsRecords s s := ⟨rfl, rfl⟩

theorem KeepsRecords.ite {c : Prop} [Decidable c] (ht : KeepsRecords s t) (hu : KeepsRecords s u) :
    KeepsRecords s (if c then t else u) := by
  split
  · exact ht
  · exact hu

theorem KeepsRecords.wr (h : KeepsRecords s t) (f : Field) (v : Nat) (hf : Reg.TREADLE_STAT_XTS_OVF.key ≠ f.key) :
    KeepsRecords s (t.wr f v) := ⟨(t.rd_wr_ne f _ v hf).trans h.ovf, h.xts⟩

theorem KeepsRecords.withTrd (h : KeepsRecords s t) {x : TreadleState} (hx : x.xts = t.trd.xts) :
    KeepsRecords s { t with trd := x } := ⟨h.ovf, hx.trans h.xts⟩

theorem KeepsRecords.below {b : Nat} {fs : List Field} {l : List Part} (h : KeepsRecords s t) (k : KeepsBelow b fs l t u)
    (hb : Reg.TREADLE_STAT_XTS_OVF.key < b) (hf : Reg.TREADLE_STAT_XTS_OVF.key ∉ fs.map Field.key)
    (hx : u.trd.xts = t.trd.xts) : KeepsRecords s u := ⟨(k.rd _ hb hf).trans h.ovf, hx.trans h.xts⟩

theorem IrqOnly.xts (h : IrqOnly s t) : t.trd.xts = s.trd.xts := by
  obtain ⟨q, hq⟩ := h
  rw [hq]

theorem KeepsRecords.putInc (h : KeepsRecords s t) (n : Nat) : KeepsRecords s (t.putInc n) :=
  (h.wr _ (clampInc n) (by decide)).withTrd rfl

theorem KeepsRecords.setInc (h : KeepsRecords s t) (n : Nat) : KeepsRecords s (t.setInc n) :=
  (h.withTrd (by rfl)).putInc n

theorem KeepsRecords.spread (h : KeepsRecords s t) (num den : Int) : KeepsRecords s (t.spread num den) :=
  (h.withTrd (by rfl)).putInc _

theorem KeepsRecords.trdTo (h : KeepsRecords s t) (st : Nat) : KeepsRecords s (t.trdTo st) :=
  ((h.wr _ st (by decide)).wr _ _ (by decide)).wr _ _ (by decide)

theorem KeepsRecords.lockAt (h : KeepsRecords s t) (w : Nat) : KeepsRecords s (t.lockAt w) := (h.trdTo 1).withTrd rfl

theorem KeepsRecords.relock (h : KeepsRecords s t) : KeepsRecords s t.relock := (h.lockAt _).wr _ 1 (by decide)

theorem KeepsRecords.slewOn (h : KeepsRecords s t) (e : Int) : KeepsRecords s (t.slewOn e) := .ite h.relock (h.spread _ 1)

theorem KeepsRecords.angMove (h : KeepsRecords s t) (d : Int) : KeepsRecords s (t.angMove d) := h.withTrd rfl

theorem KeepsRecords.rePlaceAngle (h : KeepsRecords s t) : KeepsRecords s t.rePlaceAngle :=
  have hk := (KeepsBelow.refl treadleEnd [] [] t).rePlaceAngle
  h.below hk (by decide) (by simp) (congrArg _ ((hk.2 .trd).resolve_left (by simp)))

theorem KeepsRecords.seqCheck (h : KeepsRecords s t) : KeepsRecords s t.seqCheck :=
  h.below t.seqCheck_keeps (by decide) (by decide) (congrArg _ t.seqCheck_trd)

theorem KeepsRecords.aevResume (h : KeepsRecords s t) : KeepsRecords s t.aevResume :=
  h.below (KeepsBelow.refl aevKeys [] fireParts t).aevResume (by decide) (by simp)
    (congrArg _ ((t.aevResume_keeps .trd).resolve_left (by simp)))

theorem KeepsRecords.angStep (h : KeepsRecords s t) (d : Int) : KeepsRecords s (t.angStep d) :=
  have hmove := (h.angMove d).rePlaceAngle
  .ite (hmove.below ((KeepsBelow.refl aevKeys [] fireParts _).aevFireAll _ true) (by decide) (by simp)
    (State.aevFireAll_irqOnly _ _ true).xts) hmove

theorem KeepsRecords.acceptLocked (h : KeepsRecords s t) (n : Nat) (e : Int) (ang : Nat) :
    KeepsRecords s (t.acceptLocked n e ang) := by
  unfold State.acceptLocked
  extract_lets +onlyGivenNames _ s1 g inc s2
  have h1 : KeepsRecords s s1 := h.withTrd rfl
  have h2 : KeepsRecords s s2 := h1.setInc _
  clear_value s1 s2
  exact .ite (h1.angStep _).relock ((h2.withTrd (by rfl)).spread _ _)

theorem KeepsRecords.acceptSlew (h : KeepsRecords s t) (n : Nat) (e : Int) : KeepsRecords s (t.acceptSlew n e) := by
  unfold State.acceptSlew
  extract_lets +onlyGivenNames k s1 _ s2
  have h1 : KeepsRecords s s1 := h.setInc _
  clear_value s1
  have h2 : KeepsRecords s s2 := h1.withTrd rfl
  clear_value s2
  exact .ite (h2.angStep _).relock (h2.slewOn e)

/-- A candidate run that is complete leaves ACQUIRE or HOLDOVER, and no record. -/
theorem KeepsRecords.runDone (h : KeepsRecords s t) (n sum : Nat) (e : Int) (mgr : Option Nat) :
    KeepsRecords s (t.runDone n sum e mgr) := by
  unfold State.runDone
  extract_lets +onlyGivenNames s1 _ s2 d s3 s4 map s5
  have h2 : KeepsRecords s s2 := (h.setInc (incFor sum 3)).withTrd rfl
  have h5 : KeepsRecords s s5 :=
    ((KeepsRecords.ite ((h2.angMove d).wr _ _ (by decide)) (h2.angMove d)).wr _ (b2n map) (by decide)).rePlaceAngle
  clear_value s2 s5
  exact .ite (h5.lockAt _).aevResume.seqCheck (.ite (h2.angStep _).relock ((h2.trdTo 3).slewOn e))

theorem KeepsRecords.runAdd (h : KeepsRecords s t) (n : Nat) (e : Int) (mgr : Option Nat) : KeepsRecords s (t.runAdd n e mgr) :=
  .ite (h.runDone _ _ _ _) (h.withTrd rfl)

end

/-! ### Full FIFOs (O54) -/

/-- A crossing whose record finds the FIFO full puts it in place of the oldest. -/
theorem State.recorded_full (s : State) (ang back : Nat) (cand : Bool) (h : 16 ≤ s.trd.xts.length) :
    let t := s.recorded ang back cand
    t.rd Reg.TREADLE_STAT_XTS_OVF = 1 ∧ t.trd.xts = s.trd.xts.drop 1 ++ [s.xtsRec ang back cand] := by
  obtain ⟨v, n, htrd⟩ := s.recorded_trd ang back cand
  refine ⟨?_, ?_⟩
  · exact (((s.xtsPut ang back cand).seqCycle_keeps ang).rd _ (by decide) (by decide)).trans (s.xtsPut_ovf ang back cand h)
  · rw [htrd, State.xtsPut_trd, if_pos h]

/-- Where a crossing is not rejected, its record stays as it was put. -/
theorem State.ms0Crossing_recorded {s : State} {back : Nat}
    (h : s.trdSt = 0 ∨ s.trdSt = 2 ∨ s.inWindow (s.cycle - back) (s.phaseErr (s.angBack back)) (s.angBack back) = true)
    (mgr : Option Nat) : ∃ cand, KeepsRecords (s.recorded (s.angBack back) back cand) (s.ms0Crossing back mgr) := by
  by_cases hst : s.trdSt = 0 ∨ s.trdSt = 2
  · rw [State.ms0Crossing_candidate hst]
    exact ⟨true, (KeepsRecords.refl _).runAdd _ _ _⟩
  · rw [State.ms0Crossing_accepted hst (by tauto)]
    have hsent : KeepsRecords (s.recorded (s.angBack back) back false) (s.accepted (s.angBack back) back) :=
      (KeepsRecords.refl _).below ((KeepsBelow.refl treadleEnd [] [.gl] _).crossSend _ _ (by simp)) (by decide) (by simp)
        (congrArg _ (s.accepted_trd _ _))
    exact ⟨false, .ite (hsent.acceptLocked _ _ _) (hsent.acceptSlew _ _)⟩

/-- An edge that TPI_CAPTURE takes and whose FIFO is full is discarded. -/
theorem exec_tpiCapture_full {s : State} {n : Fin 8} {rising : Bool}
    (hedge : s.rd (Reg.TIME_TPI_CFG_EDGE.at n) = 3 ∨ s.rd (Reg.TIME_TPI_CFG_EDGE.at n) = (if rising then 1 else 2))
    (hlast : s.time.tpiEdge.get 0 n = 0 ∨
      s.time.tpiEdge.get 0 n + 60 ≤ s.cycle - s.rd (Reg.TIME_TPI_CFG_FILT.at n) * 30 + 1)
    (hfull : 4 ≤ (s.tpiFifo n).length) : ∃ x : Store Nat, exec (.tpiCapture n rising) s =
      .next (State.wr { s with time := { s.time with tpiEdge := x } } (Reg.TIME_TPI_CFG_OVF.at n) 1) := by
  refine ⟨_, congrArg Host.Outcome.next ((if_neg ?_).trans ((if_neg ?_).trans (if_pos hfull)))⟩
  · rcases hedge with h | h
    · simp [h]
    · cases rising <;> simp [h]
  · omega

/-- Settles O54: a capture that is discarded writes OVF and the instant of its edge; the record of a crossing takes the place of the
oldest, and nothing that regulation then does touches the records. -/
theorem fullFifos : Obligations.FullFifos := by
  refine ⟨fun s n rising hedge hlast hfull => ?_, fun s edge low high back hs hf hb hst hfull => ?_⟩
  · obtain ⟨x, hexec⟩ := exec_tpiCapture_full hedge hlast hfull
    refine ⟨_, hexec, State.rd_wr_same _ _ 1, rfl, ?_⟩
    exact ((KeepsBut.refl _ _ s).part (s.time_keeps _) (by simp)).wr _ 1 (by simp)
  · refine ⟨_, exec_ms0Crossing hs hf hb, ?_⟩
    obtain ⟨cand, hovf, hxts⟩ := State.ms0Crossing_recorded (s := s.msTake 0) hst none
    obtain ⟨hset, hput⟩ := (s.msTake 0).recorded_full ((s.msTake 0).angBack back) back cand hfull
    rw [hovf, hxts, hput]
    refine ⟨hset, ?_, List.dropLast_concat⟩
    rw [List.length_append, List.length_drop]
    exact Nat.sub_add_cancel (Nat.le_trans (by decide) hfull)

/-! ### INC and the states of the Treadle (R165, R169, R177) -/

theorem clampInc_lt (n : Nat) : clampInc n < 2 ^ 32 := Nat.lt_of_le_of_lt (Nat.min_le_left ..) (by decide)

@[simp] theorem State.putInc_inc (s : State) (n : Nat) : (s.putInc n).rd Reg.TREADLE_INC_INC = clampInc n :=
  (s.rd_wr_same Reg.TREADLE_INC_INC (clampInc n)).trans (Nat.mod_eq_of_lt (clampInc_lt n))

theorem State.putInc_keepsBut (s : State) (n : Nat) : KeepsBut [Reg.TREADLE_INC_INC] [.trd] s (s.putInc n) :=
  ((KeepsBut.refl _ _ s).wr _ _ (by simp)).part (State.trd_keeps _ _) (by simp)

theorem State.setInc_keepsBut (s : State) (n : Nat) : KeepsBut [Reg.TREADLE_INC_INC] [.trd] s (s.setInc n) :=
  ((KeepsBut.refl _ _ s).part (State.trd_keeps _ _) (by simp)).trans (State.putInc_keepsBut _ n)

theorem State.spread_keepsBut (s : State) (num den : Int) : KeepsBut [Reg.TREADLE_INC_INC] [.trd] s (s.spread num den) :=
  ((KeepsBut.refl _ _ s).part (State.trd_keeps _ _) (by simp)).trans (State.putInc_keepsBut _ _)

theorem State.trdTo_trdSt (s : State) (st : Nat) (h : st < 4) : (s.trdTo st).trdSt = st := by
  refine (State.rd_wr_ne _ _ _ _ (by decide)).trans ((State.rd_wr_ne _ _ _ _ (by decide)).trans ?_)
  exact (s.rd_wr_same Reg.TREADLE_STAT_STATE st).trans (Nat.mod_eq_of_lt h)

/-- The fields that the entry of a state of the Treadle writes. -/
def stateFields : List Field := [Reg.TREADLE_STAT_STATE, Reg.TREADLE_STAT_HOLDOVER, Reg.TREADLE_STAT_ANG_VALID]

theorem State.trdTo_keepsBut (s : State) (st : Nat) : KeepsBut stateFields [] s (s.trdTo st) :=
  (((KeepsBut.refl _ _ s).wr _ _ (by simp [stateFields])).wr _ _ (by simp [stateFields])).wr _ _ (by simp [stateFields])

theorem State.relock_trdSt (s : State) : s.relock.trdSt = 1 :=
  (State.rd_wr_ne _ _ _ _ (by decide)).trans (s.trdTo_trdSt 1 (by decide))

/-- A step of ANG moves ANG, and the units that it passes present their interrupts (R178). -/
theorem State.angStep_irqOnly (s : State) (d : Int) : IrqOnly (s.angMove d) (s.angStep d) := by
  have hplaced : IrqOnly (s.angMove d) (s.angMove d).rePlaceAngle :=
    ⟨_, ((KeepsBelow.refl treadleEnd [] [] (s.angMove d)).rePlaceAngle.2 .trd).resolve_left (by simp)⟩
  unfold State.angStep
  extract_lets s2
  split
  · exact hplaced.trans (s2.aevFireAll_irqOnly _ true)
  · exact hplaced

theorem IrqOnly.last {s t : State} (h : IrqOnly s t) : t.trd.last = s.trd.last := by
  obtain ⟨q, hq⟩ := h
  rw [hq]

/-- A step of ANG and LOCKED again (R178): the time of the crossing stays. -/
theorem State.relock_angStep (s : State) (d : Int) :
    let t := (s.angStep d).relock
    t.trdSt = 1 ∧ t.rd Reg.TREADLE_STAT_RELOCKED = 1 ∧ t.trd.stepPending = false ∧ t.trd.last = s.trd.last :=
  ⟨State.relock_trdSt _, State.rd_wr_same _ _ 1, rfl, (s.angStep_irqOnly d).last⟩

/-! ### An accepted crossing (R168, R177, R178) -/

/-- INC without the phase that is being spread, as a crossing in LOCKED at time `n` corrects it by its error `e` with gain divisor `g`. -/
def State.lockedInc (s : State) (n : Nat) (e : Int) (ang g : Nat) : State :=
  let s1 : State := { s with trd := { s.trd with winIndex := some (s.winOf ang), consec := 0, last := n } }
  let s2 := s1.setInc (roundDiv ((s.trd.base : Int) * (8 * (g : Int) * 65536 - e)) (8 * (g : Int) * 65536)).toNat
  { s2 with trd := { s2.trd with incAccept := s2.trd.base } }

theorem State.acceptLocked_noStep {s : State} (h : s.trd.stepPending = false) (n : Nat) (e : Int) (ang : Nat) :
    s.acceptLocked n e ang = (s.lockedInc n e ang (2 ^ (6 - s.rd Reg.TREADLE_CTRL_GAIN))).spread (-e)
      ((2 ^ (6 - s.rd Reg.TREADLE_CTRL_GAIN) : Nat) : Int) := if_neg (by simp [h])

/-- The time and the base of INC that a crossing in LOCKED leaves. -/
theorem State.lockedInc_trd (s : State) (n : Nat) (e : Int) (ang g : Nat) :
    let t := s.lockedInc n e ang g
    t.trd.base = clampInc (roundDiv ((s.trd.base : Int) * (8 * (g : Int) * 65536 - e)) (8 * (g : Int) * 65536)).toNat ∧
      t.trd.last = n ∧ t.trd.consec = 0 ∧ t.trd.newest = s.trd.newest := ⟨rfl, rfl, rfl, rfl⟩

/-- A phase change that is spread changes INC for the length of a cycle (R168). -/
theorem State.spread_inc (s : State) (num den : Int) : (s.spread num den).rd Reg.TREADLE_INC_INC =
    clampInc ((s.trd.base : Int) + roundDiv (num * (s.trd.base : Int)) (65536 * den)).toNat := State.putInc_inc _ _

theorem State.spread_trd (s : State) (num den : Int) : ∃ l, (s.spread num den).trd =
    { s.trd with corrLeft := 2 ^ 48 / max 1 s.trd.base, segs := l } := ⟨_, rfl⟩

theorem State.lockedInc_keepsBut (s : State) (n : Nat) (e : Int) (ang g : Nat) :
    KeepsBut [Reg.TREADLE_INC_INC] [.trd] s (s.lockedInc n e ang g) :=
  (((KeepsBut.refl _ _ s).part (s.trd_keeps _) (by simp)).trans (State.setInc_keepsBut _ _)).part (State.trd_keeps _ _) (by simp)

/-- The track and INC as a crossing in SLEW at time `n` measures them over the cycles since the last accepted one. -/
def State.slewMeasured (s : State) (n : Nat) : State :=
  let s1 := s.setInc (incFor (n - s.trd.last) (s.trd.consec + 1))
  { s1 with trd := { s1.trd with track := (n - s.trd.last) / (s.trd.consec + 1), last := n, consec := 0, incAccept := s1.trd.base } }

theorem State.slewMeasured_keepsBut (s : State) (n : Nat) : KeepsBut [Reg.TREADLE_INC_INC] [.trd] s (s.slewMeasured n) :=
  (s.setInc_keepsBut _).part (State.trd_keeps _ _) (by simp)

theorem State.acceptSlew_noStep {s : State} (h : s.trd.stepPending = false) (n : Nat) (e : Int) :
    s.acceptSlew n e = (s.slewMeasured n).slewOn e := if_neg (by simp [h])

/-- SLEW ends where the error lies within ±16 ac, and goes on where it does not (R177). -/
theorem State.slewOn_outcome (s : State) (e : Int) :
    let t := s.slewOn e
    t.trdSt = (if -16 ≤ e ∧ e ≤ 16 then 1 else s.trdSt) ∧ t.trd.base = s.trd.base ∧ t.trd.last = s.trd.last ∧
      (s.trd.consec = 0 → t.trd.consec = 0) := by
  unfold State.slewOn
  split
  · exact ⟨State.relock_trdSt _, rfl, rfl, fun _ => rfl⟩
  · exact ⟨((s.spread_keepsBut _ 1).1 Reg.TREADLE_STAT_STATE).resolve_left (by decide), rfl, rfl, id⟩

/-- With a step command that waits, ANG steps to the crossing at once. -/
theorem State.acceptLocked_steps {s : State} (h : s.trd.stepPending = true) (n : Nat) (e : Int) (ang : Nat) :
    ∃ (w : State) (d : Int), w.trd.last = n ∧ s.acceptLocked n e ang = (w.angStep d).relock :=
  ⟨{ s with trd := { s.trd with winIndex := some (s.winOf ang), consec := 0, last := n } }, -e, rfl, if_pos h⟩

theorem State.acceptSlew_steps {s : State} (h : s.trd.stepPending = true) (n : Nat) (e : Int) :
    ∃ (w : State) (d : Int), w.trd.last = n ∧ s.acceptSlew n e = (w.angStep d).relock :=
  ⟨s.slewMeasured n, -e, rfl, if_pos h⟩

/-- The first crossing of a candidate run (R170). -/
theorem State.runAdd_first {s : State} (h : s.trd.run = []) (n : Nat) (e : Int) (mgr : Option Nat) :
    s.runAdd n e mgr = { s with trd := { s.trd with run := [n] } } := by
  simp [State.runAdd, h]

/-! ### MS0_CROSSING (R168, R170, R171, R177, R178) -/

/-- What regulation reads of an accepted crossing is as before the crossing. -/
theorem State.accepted_regulation (s : State) (ang back : Nat) :
    let t := s.accepted ang back
    t.trdSt = s.trdSt ∧ t.rd Reg.TREADLE_CTRL_GAIN = s.rd Reg.TREADLE_CTRL_GAIN ∧ t.trd.base = s.trd.base ∧
      t.trd.last = s.trd.last ∧ t.trd.consec = s.trd.consec ∧ t.trd.stepPending = s.trd.stepPending ∧
      t.trd.newest.map (·.ang) = some ang := by
  have hkeep := s.accepted_keeps ang back
  obtain ⟨v, n, htrd⟩ := s.recorded_trd ang back false
  rw [State.xtsPut_trd, ← State.accepted_trd] at htrd
  exact ⟨hkeep.rd _ (by decide) (by decide), hkeep.rd _ (by decide) (by decide), by rw [htrd], by rw [htrd], by rw [htrd],
    by rw [htrd], by rw [htrd]; rfl⟩

/-- An accepted crossing in LOCKED, or in SLEW. -/
theorem exec_ms0Crossing_accepted {s : State} {edge low high back : Nat} (hs : s.trdSees = true) (hf : s.angleFollows = false)
    (hb : s.ms0Back edge low high = some back) (hst : s.trdSt = 1 ∨ s.trdSt = 3)
    (hw : s.inWindow (s.cycle - back) (s.phaseErr (s.angBack back)) (s.angBack back) = true) :
    exec (.ms0Crossing edge low high) s = .next (if s.trdSt = 1 then
      ((s.msTake 0).accepted (s.angBack back) back).acceptLocked (s.cycle - back) (s.phaseErr (s.angBack back)) (s.angBack back)
      else ((s.msTake 0).accepted (s.angBack back) back).acceptSlew (s.cycle - back) (s.phaseErr (s.angBack back))) :=
  (exec_ms0Crossing hs hf hb).trans
    (congrArg _ (State.ms0Crossing_accepted (s := s.msTake 0) (show ¬(s.trdSt = 0 ∨ s.trdSt = 2) by omega) hw none))

theorem ms0Crossing_locked (s : State) (edge low high back : Nat) (hs : s.trdSees = true) (hf : s.angleFollows = false)
    (hb : s.ms0Back edge low high = some back) (hst : s.trdSt = 1) (hp : s.trd.stepPending = false)
    (hw : s.inWindow (s.cycle - back) (s.phaseErr (s.angBack back)) (s.angBack back) = true) :
    Answers (.ms0Crossing edge low high) s fun t =>
      t.trd.base = clampInc (roundDiv ((s.trd.base : Int) *
        (8 * ((2 ^ (6 - s.rd Reg.TREADLE_CTRL_GAIN) : Nat) : Int) * 65536 - s.phaseErr (s.angBack back)))
        (8 * ((2 ^ (6 - s.rd Reg.TREADLE_CTRL_GAIN) : Nat) : Int) * 65536)).toNat ∧
      t.rd Reg.TREADLE_INC_INC = clampInc ((t.trd.base : Int) + roundDiv (-s.phaseErr (s.angBack back) * (t.trd.base : Int))
        (65536 * ((2 ^ (6 - s.rd Reg.TREADLE_CTRL_GAIN) : Nat) : Int))).toNat ∧
      t.trd.corrLeft = 2 ^ 48 / max 1 t.trd.base ∧ t.trd.last = s.cycle - back ∧ t.trd.consec = 0 ∧ t.trdSt = 1 ∧
      t.trd.newest.map (·.ang) = some (s.angBack back) ∧ t.time = s.time ∧ t.mem = s.mem := by
  refine ⟨_, (exec_ms0Crossing_accepted hs hf hb (.inl hst) hw).trans (congrArg _ (if_pos hst)), ?_⟩
  have hkeep := (s.msTake 0).accepted_keeps (s.angBack back) back
  obtain ⟨hstate, hgain, hbase, -, -, hpend, hnew⟩ := (s.msTake 0).accepted_regulation (s.angBack back) back
  generalize (s.msTake 0).accepted (s.angBack back) back = u at *
  generalize s.cycle - back = n at *
  generalize s.phaseErr (s.angBack back) = e at *
  generalize s.angBack back = ang at *
  rw [State.acceptLocked_noStep (hpend.trans hp), show u.rd Reg.TREADLE_CTRL_GAIN = s.rd Reg.TREADLE_CTRL_GAIN from hgain]
  generalize 2 ^ (6 - s.rd Reg.TREADLE_CTRL_GAIN) = g
  obtain ⟨hlbase, hlast, hconsec, hlnew⟩ := u.lockedInc_trd n e ang g
  have hinc := (u.lockedInc_keepsBut n e ang g).trans ((u.lockedInc n e ang g).spread_keepsBut (-e) g)
  obtain ⟨l, hspread⟩ := (u.lockedInc n e ang g).spread_trd (-e) g
  beta_reduce
  rw [State.spread_inc, hspread]
  refine ⟨hlbase.trans ?_, rfl, rfl, hlast, hconsec, ?_, ?_, ?_, ?_⟩
  · rw [hbase]; rfl
  · exact ((hinc.1 Reg.TREADLE_STAT_STATE).resolve_left (by decide)).trans (hstate.trans hst)
  · exact (congrArg _ hlnew).trans hnew
  · exact ((hinc.2 .time).resolve_left (by simp)).trans ((hkeep.2 .time).resolve_left (by simp))
  · exact ((hinc.2 .mem).resolve_left (by simp)).trans ((hkeep.2 .mem).resolve_left (by simp))

/-- A step command that waits is executed at the accepted crossing (R178). -/
theorem ms0Crossing_steps (s : State) (edge low high back : Nat) (hs : s.trdSees = true) (hf : s.angleFollows = false)
    (hb : s.ms0Back edge low high = some back) (hst : s.trdSt = 1 ∨ s.trdSt = 3) (hp : s.trd.stepPending = true)
    (hw : s.inWindow (s.cycle - back) (s.phaseErr (s.angBack back)) (s.angBack back) = true) :
    Answers (.ms0Crossing edge low high) s fun t =>
      t.trdSt = 1 ∧ t.rd Reg.TREADLE_STAT_RELOCKED = 1 ∧ t.trd.stepPending = false ∧ t.trd.last = s.cycle - back := by
  refine ⟨_, exec_ms0Crossing_accepted hs hf hb hst hw, ?_⟩
  obtain ⟨-, -, -, -, -, hpend, -⟩ := (s.msTake 0).accepted_regulation (s.angBack back) back
  have hsteps : ∃ (w : State) (d : Int), w.trd.last = s.cycle - back ∧ (if s.trdSt = 1 then
      ((s.msTake 0).accepted (s.angBack back) back).acceptLocked (s.cycle - back) (s.phaseErr (s.angBack back)) (s.angBack back)
      else ((s.msTake 0).accepted (s.angBack back) back).acceptSlew (s.cycle - back) (s.phaseErr (s.angBack back))) =
      (w.angStep d).relock := by
    split
    · exact State.acceptLocked_steps (hpend.trans hp) _ _ _
    · exact State.acceptSlew_steps (hpend.trans hp) _ _
  obtain ⟨w, d, hlast, heq⟩ := hsteps
  rw [heq]
  obtain ⟨hstate, hflag, hdone, hkept⟩ := w.relock_angStep d
  exact ⟨hstate, hflag, hdone, hkept.trans hlast⟩

theorem ms0Crossing_slew (s : State) (edge low high back : Nat) (hs : s.trdSees = true) (hf : s.angleFollows = false)
    (hb : s.ms0Back edge low high = some back) (hst : s.trdSt = 3) (hp : s.trd.stepPending = false)
    (hw : s.inWindow (s.cycle - back) (s.phaseErr (s.angBack back)) (s.angBack back) = true) :
    Answers (.ms0Crossing edge low high) s fun t =>
      t.trdSt = (if -16 ≤ s.phaseErr (s.angBack back) ∧ s.phaseErr (s.angBack back) ≤ 16 then 1 else 3) ∧
      t.trd.base = clampInc (incFor (s.cycle - back - s.trd.last) (s.trd.consec + 1)) ∧ t.trd.last = s.cycle - back ∧
      t.trd.consec = 0 := by
  refine ⟨_, (exec_ms0Crossing_accepted hs hf hb (.inr hst) hw).trans (congrArg _ (if_neg (by omega))), ?_⟩
  obtain ⟨hstate, -, -, hlast, hconsec, hpend, -⟩ := (s.msTake 0).accepted_regulation (s.angBack back) back
  generalize (s.msTake 0).accepted (s.angBack back) back = u at *
  generalize s.cycle - back = n at *
  generalize s.phaseErr (s.angBack back) = e at *
  rw [State.acceptSlew_noStep (hpend.trans hp)]
  obtain ⟨hend, hbase, htime, hmiss⟩ := (u.slewMeasured n).slewOn_outcome e
  have hkept : (u.slewMeasured n).trdSt = 3 :=
    (((u.slewMeasured_keepsBut n).1 Reg.TREADLE_STAT_STATE).resolve_left (by decide)).trans (hstate.trans hst)
  refine ⟨hkept ▸ hend, hbase.trans ?_, htime, hmiss rfl⟩
  change clampInc (incFor (n - u.trd.last) (u.trd.consec + 1)) = _
  rw [hlast, hconsec]
  rfl

theorem State.msTake_keeps (s : State) (k : Nat) : Keeps [.trd] s (s.msTake k) := s.trd_keeps _

theorem ms0Crossing_rejected (s : State) (edge low high back : Nat) (hs : s.trdSees = true) (hf : s.angleFollows = false)
    (hb : s.ms0Back edge low high = some back) (hst : s.trdSt = 1 ∨ s.trdSt = 3)
    (hw : s.inWindow (s.cycle - back) (s.phaseErr (s.angBack back)) (s.angBack back) = false) :
    Answers (.ms0Crossing edge low high) s fun t =>
      t.rd Reg.TREADLE_CNT_REJECT =
        satInc (2 ^ Reg.TREADLE_CNT_REJECT.w - 1) (s.rd Reg.TREADLE_CNT_REJECT) % 2 ^ Reg.TREADLE_CNT_REJECT.w ∧
      t.trd = (s.msTake 0).trd ∧ KeepsBut [Reg.TREADLE_CNT_REJECT] [.trd] s t :=
  ⟨_, (exec_ms0Crossing hs hf hb).trans
      (congrArg _ (State.ms0Crossing_rejected (s := s.msTake 0) (show ¬(s.trdSt = 0 ∨ s.trdSt = 2) by omega) hw none)),
    State.rd_wr_same _ _ _, rfl, ((KeepsBut.refl _ _ s).part (s.msTake_keeps 0) (by simp)).wr _ _ (by simp)⟩

/-- The first crossing in ACQUIRE or HOLDOVER begins a candidate run. -/
theorem ms0Crossing_first (s : State) (edge low high back : Nat) (hs : s.trdSees = true) (hf : s.angleFollows = false)
    (hb : s.ms0Back edge low high = some back) (hst : s.trdSt = 0 ∨ s.trdSt = 2) (hr : s.trd.run = []) :
    Answers (.ms0Crossing edge low high) s fun t =>
      t.trd.run = [s.cycle - back] ∧ t.trdSt = s.trdSt ∧
      t.trd.newest.map (fun r => (r.ang, r.cand)) = some (s.angBack back, true) ∧
      t.rd Reg.TREADLE_INC_INC = s.rd Reg.TREADLE_INC_INC := by
  have hkeep := (s.msTake 0).recorded_keeps (s.angBack back) back true
  obtain ⟨v, n, htrd⟩ := (s.msTake 0).recorded_trd (s.angBack back) back true
  rw [State.xtsPut_trd] at htrd
  have hexec := exec_ms0Crossing hs hf hb
  rw [State.ms0Crossing_candidate (s := s.msTake 0) hst,
    show (s.msTake 0).recorded ((s.msTake 0).angBack back) back true = (s.msTake 0).recorded (s.angBack back) back true from rfl,
    State.runAdd_first (by rw [htrd]; exact hr)] at hexec
  generalize (s.msTake 0).recorded (s.angBack back) back true = u at hexec hkeep htrd
  refine ⟨_, hexec, rfl, hkeep.rd Reg.TREADLE_STAT_STATE (by decide) (by decide), ?_,
    hkeep.rd Reg.TREADLE_INC_INC (by decide) (by decide)⟩
  change u.trd.newest.map _ = _
  rw [htrd]
  rfl

/-! ### HOLDOVER (R172, R173) -/

/-- The fields that the entry of HOLDOVER writes. -/
def holdoverFields : List Field := Reg.TREADLE_HOLD_HOLD :: stateFields

theorem State.toHoldover_keepsBut (s : State) : KeepsBut holdoverFields [.trd] s s.toHoldover :=
  ((((s.trdTo_keepsBut 2).mono (fun _ hf => List.mem_cons_of_mem _ hf) (by simp)).wr _ 0 List.mem_cons_self).part
    (State.trd_keeps _ _) (by simp))

/-- HOLDOVER with ANG valid and HOLD from 0. -/
theorem State.toHoldover_shows (s : State) : s.toHoldover.trdSt = 2 ∧ s.toHoldover.rd Reg.TREADLE_STAT_HOLDOVER = 1 ∧
    s.toHoldover.rd Reg.TREADLE_STAT_ANG_VALID = 1 ∧ s.toHoldover.rd Reg.TREADLE_HOLD_HOLD = 0 := by
  have hwr (f : Field) (hf : f.key ≠ Reg.TREADLE_HOLD_HOLD.key) : s.toHoldover.rd f = (s.trdTo 2).rd f :=
    (s.trdTo 2).rd_wr_ne Reg.TREADLE_HOLD_HOLD f 0 hf
  refine ⟨(hwr _ (by decide)).trans (s.trdTo_trdSt 2 (by decide)), (hwr _ (by decide)).trans ?_, (hwr _ (by decide)).trans ?_,
    State.rd_wr_same _ _ 0⟩
  · exact (State.rd_wr_ne _ _ _ _ (by decide)).trans (State.rd_wr_same _ _ _)
  · exact State.rd_wr_same _ _ _

/-- A miss is counted (R172). -/
def State.missed (s : State) : State :=
  let s1 := s.inc Reg.TREADLE_CNT_MISS
  { s1 with trd := { s1.trd with consec := s.trd.consec + 1 } }

theorem State.missed_keepsBut (s : State) : KeepsBut [Reg.TREADLE_CNT_MISS] [.trd] s s.missed :=
  ((KeepsBut.refl _ _ s).wr _ _ (by simp)).part (State.trd_keeps _ _) (by simp)

theorem exec_windowMiss {s : State} (hr : s.running = true) (hw : s.windowOver = true) (hst : s.trdSt = 1 ∨ s.trdSt = 3) :
    exec .windowMiss s = .next (if s.trd.consec < 2 then s.missed
      else ((s.missed.setInc s.trd.incAccept).wr Reg.TREADLE_STAT_MAINS_LOST 1).toHoldover) :=
  congrArg Host.Outcome.next (if_neg (by rcases hst with h | h <;> simp [hr, hw, h]))

theorem windowMiss_counts (s : State) (hr : s.running = true) (hw : s.windowOver = true) (hst : s.trdSt = 1 ∨ s.trdSt = 3)
    (hc : s.trd.consec < 2) : Answers .windowMiss s fun t =>
      t.rd Reg.TREADLE_CNT_MISS = satInc (2 ^ Reg.TREADLE_CNT_MISS.w - 1) (s.rd Reg.TREADLE_CNT_MISS) % 2 ^ Reg.TREADLE_CNT_MISS.w ∧
      t.trd.consec = s.trd.consec + 1 ∧ t.trdSt = s.trdSt ∧ KeepsBut [Reg.TREADLE_CNT_MISS] [.trd] s t :=
  ⟨_, (exec_windowMiss hr hw hst).trans (congrArg _ (if_pos hc)), State.rd_wr_same _ _ _, rfl,
    (s.missed_keepsBut.1 Reg.TREADLE_STAT_STATE).resolve_left (by decide), s.missed_keepsBut⟩

theorem windowMiss_holdover (s : State) (hr : s.running = true) (hw : s.windowOver = true) (hst : s.trdSt = 1 ∨ s.trdSt = 3)
    (hc : 2 ≤ s.trd.consec) : Answers .windowMiss s fun t =>
      t.trdSt = 2 ∧ t.rd Reg.TREADLE_STAT_HOLDOVER = 1 ∧ t.rd Reg.TREADLE_STAT_ANG_VALID = 1 ∧
      t.rd Reg.TREADLE_STAT_MAINS_LOST = 1 ∧ t.rd Reg.TREADLE_HOLD_HOLD = 0 ∧
      t.rd Reg.TREADLE_INC_INC = clampInc s.trd.incAccept ∧ Keeps [.regs, .trd] s t := by
  refine ⟨_, (exec_windowMiss hr hw hst).trans (congrArg _ (if_neg (by omega))), ?_⟩
  have hinc := s.missed.setInc_keepsBut s.trd.incAccept
  have hval : (s.missed.setInc s.trd.incAccept).rd Reg.TREADLE_INC_INC = clampInc s.trd.incAccept := State.putInc_inc _ _
  generalize s.missed.setInc s.trd.incAccept = u at hinc hval
  obtain ⟨hstate, hhold, hvalid, hzero⟩ := (u.wr Reg.TREADLE_STAT_MAINS_LOST 1).toHoldover_shows
  have hkeep := (u.wr Reg.TREADLE_STAT_MAINS_LOST 1).toHoldover_keepsBut
  refine ⟨hstate, hhold, hvalid, ?_, hzero, ?_, ?_⟩
  · exact ((hkeep.1 _).resolve_left (by decide)).trans (State.rd_wr_same _ _ 1)
  · exact ((hkeep.1 _).resolve_left (by decide)).trans ((State.rd_wr_ne _ _ _ _ (by decide)).trans hval)
  · exact ((s.missed_keepsBut.2.trans hinc.2).trans ((u.wr_keeps _ 1).mono (by simp))).trans hkeep.2

theorem State.clampInc_incNominal (s : State) : clampInc s.incNominal = s.incNominal := by
  unfold State.incNominal
  split <;> rfl

theorem exec_acquireTimeout {s : State} (hst : s.trdSt = 0) (hr : s.running = true) (ha : s.acquireOver = true) :
    exec .acquireTimeout s = .next (s.setInc s.incNominal).toHoldover.aevResume.seqCheck :=
  congrArg Host.Outcome.next (if_neg (by simp [hst, hr, ha]))

/-- A phase sequence that is not known is no mismatch. -/
theorem State.seqCheck_unknown {s : State} (h : s.rd Reg.TREADLE_STAT_SEQ = 0) : s.seqCheck = s := if_neg (by simp [h])

theorem acquireTimeout_holdover (s : State) (hst : s.trdSt = 0) (hr : s.running = true) (ha : s.acquireOver = true) :
    Answers .acquireTimeout s fun t =>
      t.trdSt = 2 ∧ t.rd Reg.TREADLE_STAT_ANG_VALID = 1 ∧ t.rd Reg.TREADLE_HOLD_HOLD = 0 ∧
      t.rd Reg.TREADLE_INC_INC = s.incNominal ∧ t.trd.run = s.trd.run ∧
      (s.rd Reg.TREADLE_STAT_SEQ = 0 → Keeps [.regs, .trd] s t) := by
  refine ⟨_, exec_acquireTimeout hst hr ha, ?_⟩
  have hinc := s.setInc_keepsBut s.incNominal
  have hval : (s.setInc s.incNominal).rd Reg.TREADLE_INC_INC = s.incNominal := (State.putInc_inc _ _).trans s.clampInc_incNominal
  have hrun : (s.setInc s.incNominal).toHoldover.trd.run = s.trd.run := rfl
  generalize s.setInc s.incNominal = u at hinc hval hrun
  obtain ⟨hstate, -, hvalid, hzero⟩ := u.toHoldover_shows
  have hhold := u.toHoldover_keepsBut
  have hresume := (KeepsBelow.refl aevKeys [] fireParts u.toHoldover).aevResume
  have hparts := u.toHoldover.aevResume_keeps
  have hcheck := u.toHoldover.aevResume.seqCheck_keeps
  have hrd (f : Field) (hf : f.key < aevKeys) (hm : f.key ∉ [Reg.TREADLE_STAT_SEQ_MISMATCH].map Field.key) :
      u.toHoldover.aevResume.seqCheck.rd f = u.toHoldover.rd f :=
    (hcheck.rd f (hf.trans (by decide)) hm).trans (hresume.rd f hf (by simp))
  refine ⟨(hrd _ (by decide) (by decide)).trans hstate, (hrd _ (by decide) (by decide)).trans hvalid,
    (hrd _ (by decide) (by decide)).trans hzero, ?_, ?_, fun hseq => ?_⟩
  · exact (hrd _ (by decide) (by decide)).trans (((hhold.1 _).resolve_left (by decide)).trans hval)
  · rw [State.seqCheck_trd, (hparts .trd).resolve_left (by simp), hrun]
  · have hunknown : u.toHoldover.aevResume.rd Reg.TREADLE_STAT_SEQ = 0 :=
      (hresume.rd _ (by decide) (by simp)).trans
        (((hhold.1 _).resolve_left (by decide)).trans (((hinc.1 _).resolve_left (by decide)).trans hseq))
    rw [State.seqCheck_unknown hunknown]
    exact (hinc.2.trans hhold.2).trans (hparts.mono (by simp))

/-! ### MS1 to MS3 and their presence (R162, R180, R185) -/

theorem msPhaseCrossing_ms3 (s : State) (at2 : Nat) (hs : s.trdSees = true) (hf : (s.ms 3).found = some at2)
    (hp : bitOf (s.rd Reg.TREADLE_STAT_PRESENT) 3 = true) : Answers (.msPhaseCrossing 2) s fun t =>
      t.rd Reg.TREADLE_MS3_MS3_PHASE = unsigned 16 (s.phaseErr (s.angAt at2)) ∧ t.trd = (s.msTake 3).trd ∧
      KeepsBut [Reg.TREADLE_MS3_MS3_PHASE] [.trd] s t := by
  have hexec : exec (.msPhaseCrossing 2) s =
      .next ((s.msTake 3).wr Reg.TREADLE_MS3_MS3_PHASE (unsigned 16 (s.phaseErr (s.angAt at2)))) := by
    change execMsPhaseCrossing 2 s = _
    simp [execMsPhaseCrossing, hs, hf, hp]
  have hlt : unsigned 16 (s.phaseErr (s.angAt at2)) < 2 ^ 16 := by
    simp only [unsigned]
    omega
  exact ⟨_, hexec, (State.rd_wr_same _ _ _).trans (Nat.mod_eq_of_lt hlt), rfl,
    ((KeepsBut.refl _ _ s).part (s.msTake_keeps 3) (by simp)).wr _ _ (by simp)⟩

/-- MS1 (0) or MS2 (1) at angle `r` of this cycle, shown in `f` while all inputs are PRESENT. -/
def State.phaseSeen (s : State) (k : Fin 2) (r : Nat) : State :=
  let s1 := (s.msTake (k + 1)).wrIf s.allPresent (if k = 0 then Reg.TREADLE_PHASE_MS1 else Reg.TREADLE_PHASE_MS2) r
  if k = 0 then { s1 with trd := { s1.trd with ms1 := some r } } else { s1 with trd := { s1.trd with ms2 := some r } }

theorem exec_msPhaseCrossing {s : State} {k : Fin 2} {at2 r : Nat} (hs : s.trdSees = true) (hf : (s.ms (k.val + 1)).found = some at2)
    (hr : s.trd.refAng = some r) :
    exec (.msPhaseCrossing ⟨k.val, Nat.lt_of_lt_of_le k.isLt (by decide)⟩) s =
      .next (s.phaseSeen k ((s.angAt at2 + 65536 - r % 65536) % 65536)) := by
  change execMsPhaseCrossing _ s = _
  match k with
  | 0 =>
    have hms : (s.ms 1).found = some at2 := hf
    simp [execMsPhaseCrossing, State.phaseSeen, hs, hms, hr]
  | 1 =>
    have hms : (s.ms 2).found = some at2 := hf
    simp [execMsPhaseCrossing, State.phaseSeen, hs, hms, hr]

/-- The crossing enters this cycle's angles, that of the other input stays. -/
theorem State.phaseSeen_trd (s : State) (k : Fin 2) (r : Nat) : (s.phaseSeen k r).trd =
    if k = 0 then { (s.msTake 1).trd with ms1 := some r } else { (s.msTake 2).trd with ms2 := some r } := by
  match k with
  | 0 => simp [State.phaseSeen]
  | 1 => simp [State.phaseSeen]

theorem State.phaseSeen_keepsBut (s : State) (k : Fin 2) (r : Nat) :
    KeepsBut [Reg.TREADLE_PHASE_MS1, Reg.TREADLE_PHASE_MS2] [.trd] s (s.phaseSeen k r) := by
  unfold State.phaseSeen
  extract_lets s1
  have h1 : KeepsBut [Reg.TREADLE_PHASE_MS1, Reg.TREADLE_PHASE_MS2] [.trd] s s1 :=
    ((KeepsBut.refl _ _ s).part (s.msTake_keeps _) (by simp)).trans
      ((wrIf_keepsBut _ _ _ r).mono (fun f hf => by split at hf <;> simp_all) (by simp))
  split
  · exact h1.part (State.trd_keeps _ _) (by simp)
  · exact h1.part (State.trd_keeps _ _) (by simp)

/-- While MS0, MS1 and MS2 are PRESENT the angle is shown. -/
theorem State.phaseSeen_shows (s : State) (k : Fin 2) {r : Nat} (hr : r < 2 ^ 16) (hp : s.allPresent = true) :
    (s.phaseSeen k r).rd (if k = 0 then Reg.TREADLE_PHASE_MS1 else Reg.TREADLE_PHASE_MS2) = r := by
  unfold State.phaseSeen
  rw [hp, State.wrIf_true]
  match k with
  | 0 => exact (State.rd_wr_same _ Reg.TREADLE_PHASE_MS1 r).trans (Nat.mod_eq_of_lt hr)
  | 1 => exact (State.rd_wr_same _ Reg.TREADLE_PHASE_MS2 r).trans (Nat.mod_eq_of_lt hr)

theorem msPhaseCrossing_angle (s : State) (k : Fin 2) (at2 r : Nat) (hs : s.trdSees = true)
    (hf : (s.ms (k.val + 1)).found = some at2) (hr : s.trd.refAng = some r) :
    Answers (.msPhaseCrossing ⟨k.val, Nat.lt_of_lt_of_le k.isLt (by decide)⟩) s fun t =>
      (if k = 0 then t.trd.ms1 else t.trd.ms2) = some ((s.angAt at2 + 65536 - r % 65536) % 65536) ∧
      (if k = 0 then t.trd.ms2 else t.trd.ms1) = (if k = 0 then s.trd.ms2 else s.trd.ms1) ∧
      (s.allPresent = true → t.rd (if k = 0 then Reg.TREADLE_PHASE_MS1 else Reg.TREADLE_PHASE_MS2) =
        (s.angAt at2 + 65536 - r % 65536) % 65536) ∧
      KeepsBut [Reg.TREADLE_PHASE_MS1, Reg.TREADLE_PHASE_MS2] [.trd] s t := by
  refine ⟨_, exec_msPhaseCrossing hs hf hr, ?_⟩
  have hlt : (s.angAt at2 + 65536 - r % 65536) % 65536 < 2 ^ 16 := Nat.mod_lt _ (by decide)
  generalize (s.angAt at2 + 65536 - r % 65536) % 65536 = q at hlt
  refine ⟨?_, ?_, s.phaseSeen_shows k hlt, s.phaseSeen_keepsBut k q⟩
  · rw [State.phaseSeen_trd]
    split <;> rfl
  · rw [State.phaseSeen_trd]
    split <;> rfl

/-- A mask of the four inputs. -/
def inputMask (f : Nat → Bool) : Nat := ((List.range 4).map (fun k => b2n (f k) * 2 ^ k)).sum

theorem inputMask_bit (f : Nat → Bool) (k : Fin 4) : bitOf (inputMask f % 2 ^ 4) k = f k := by
  have hbits : ∀ (a b c d : Bool) (k : Fin 4),
      bitOf ((b2n a * 2 ^ 0 + (b2n b * 2 ^ 1 + (b2n c * 2 ^ 2 + (b2n d * 2 ^ 3 + 0)))) % 2 ^ 4) k = [a, b, c, d].get k := by decide
  refine (hbits (f 0) (f 1) (f 2) (f 3) k).trans ?_
  match k with
  | 0 | 1 | 2 | 3 => rfl

/-- PRESENT and OPEN as the samples judge them (R162). -/
def State.judged (s : State) : State :=
  (s.wr Reg.TREADLE_STAT_PRESENT (inputMask s.msPresent)).wr Reg.TREADLE_STAT_OPEN (inputMask s.msOpen)

/-- Without MS0, MS1 and MS2 PRESENT the phase sequence is not known (R181). -/
def State.unsequenced (s : State) : State :=
  { s.wr Reg.TREADLE_STAT_SEQ 0 with trd := { s.trd with verdict := 0, verdictCount := 0 } }

theorem State.unsequenced_keepsBut (s : State) : KeepsBut [Reg.TREADLE_STAT_SEQ] [.trd] s s.unsequenced :=
  ((KeepsBut.refl _ _ s).wr _ 0 (by simp)).part (State.trd_keeps _ _) (by simp)

theorem State.unsequenced_seq (s : State) : s.unsequenced.rd Reg.TREADLE_STAT_SEQ = 0 := s.rd_wr_same Reg.TREADLE_STAT_SEQ 0

theorem exec_inputPresenceUpdate {s : State} (hs : s.trdSees = true) :
    exec .inputPresenceUpdate s = .next (if s.judged.allPresent then s.judged else s.judged.unsequenced) :=
  congrArg Host.Outcome.next (if_neg (by simp [hs]))

theorem State.judged_keepsBut (s : State) : KeepsBut [Reg.TREADLE_STAT_PRESENT, Reg.TREADLE_STAT_OPEN] [] s s.judged :=
  ((KeepsBut.refl _ _ s).wr _ _ (by simp)).wr _ _ (by simp)

theorem State.judged_bits (s : State) (k : Fin 4) : bitOf (s.judged.rd Reg.TREADLE_STAT_PRESENT) k = s.msPresent k ∧
    bitOf (s.judged.rd Reg.TREADLE_STAT_OPEN) k = s.msOpen k := by
  rw [State.judged, State.rd_wr_same, State.rd_wr_ne _ _ _ _ (by decide), State.rd_wr_same]
  exact ⟨inputMask_bit _ k, inputMask_bit _ k⟩

theorem inputPresenceUpdate_judges (s : State) (hs : s.trdSees = true) : Answers .inputPresenceUpdate s fun t =>
    (∀ k : Fin 4, bitOf (t.rd Reg.TREADLE_STAT_PRESENT) k = s.msPresent k ∧ bitOf (t.rd Reg.TREADLE_STAT_OPEN) k = s.msOpen k) ∧
    (t.allPresent = false → t.rd Reg.TREADLE_STAT_SEQ = 0) ∧
    (t.allPresent = true → t.rd Reg.TREADLE_STAT_SEQ = s.rd Reg.TREADLE_STAT_SEQ) ∧
    KeepsBut [Reg.TREADLE_STAT_PRESENT, Reg.TREADLE_STAT_OPEN, Reg.TREADLE_STAT_SEQ] [.trd] s t := by
  refine ⟨_, exec_inputPresenceUpdate hs, ?_⟩
  have hbits := s.judged_bits
  have hseq : s.judged.rd Reg.TREADLE_STAT_SEQ = s.rd Reg.TREADLE_STAT_SEQ := (s.judged_keepsBut.1 _).resolve_left (by decide)
  have hkeep : KeepsBut [Reg.TREADLE_STAT_PRESENT, Reg.TREADLE_STAT_OPEN, Reg.TREADLE_STAT_SEQ] [.trd] s s.judged :=
    s.judged_keepsBut.mono (by simp) (by simp)
  generalize s.judged = u at *
  split
  case isTrue hall => exact ⟨hbits, fun h => absurd (hall.symm.trans h) (by simp), fun _ => hseq, hkeep⟩
  case isFalse hall =>
    have hpresent : u.unsequenced.rd Reg.TREADLE_STAT_PRESENT = u.rd Reg.TREADLE_STAT_PRESENT :=
      (u.unsequenced_keepsBut.1 _).resolve_left (by decide)
    have hopen : u.unsequenced.rd Reg.TREADLE_STAT_OPEN = u.rd Reg.TREADLE_STAT_OPEN :=
      (u.unsequenced_keepsBut.1 _).resolve_left (by decide)
    refine ⟨?_, fun _ => u.unsequenced_seq, fun h => ?_, hkeep.trans (u.unsequenced_keepsBut.mono (by simp) (by simp))⟩
    · rwa [hpresent, hopen]
    · rw [State.allPresent, hpresent] at h
      exact absurd h hall

/-! ### A step command (R179) -/

theorem stepCmd_waits (s : State) (he : s.rd Reg.TREADLE_CTRL_STEP_EN ≠ 0) (hst : s.trdSt = 1 ∨ s.trdSt = 3) :
    Answers .stepCmd s fun t => t.trd.stepPending = true ∧ t.od.answer.code = 0 ∧ Keeps [.trd, .od] s t := by
  have hcmd : s.stepCommand = some { s with trd := { s.trd with stepPending := true } } :=
    if_pos (by rcases hst with h | h <;> simp [State.on, he, h])
  have hexec : exec .stepCmd s = .next (State.answer { s with trd := { s.trd with stepPending := true } } 0) := by
    change execStepCmd s = _
    rw [execStepCmd, hcmd]
  exact ⟨_, hexec, rfl, rfl, ((s.trd_keeps _).mono (by simp)).trans ((State.answer_keeps _ 0).mono (by simp))⟩

theorem stepCmd_refused (s : State) (h : s.rd Reg.TREADLE_CTRL_STEP_EN = 0 ∨ s.trdSt = 0 ∨ s.trdSt = 2) :
    Answers .stepCmd s fun t => t.od.answer.code = 0x0B ∧ Keeps [.od] s t := by
  have hcmd : s.stepCommand = none := if_neg (by rcases h with h | h | h <;> simp [State.on, h])
  have hexec : exec .stepCmd s = .next (s.answer 0x0B) := by
    change execStepCmd s = _
    rw [execStepCmd, hcmd]
  exact ⟨_, hexec, rfl, s.answer_keeps 0x0B⟩

/-- Settles O20: each command by the state in which it leaves the Treadle; the phase sequence, CROSS and the units that a step passes
change nothing that regulation reads. -/
theorem mainsAngle : Obligations.MainsAngle :=
  ⟨ms0Crossing_locked, ms0Crossing_steps, ms0Crossing_slew, ms0Crossing_rejected, ms0Crossing_first, windowMiss_counts,
    windowMiss_holdover, acquireTimeout_holdover, msPhaseCrossing_ms3, msPhaseCrossing_angle, inputPresenceUpdate_judges,
    stepCmd_waits, stepCmd_refused⟩

/-! ### A unit with a wide TIDX (O21) -/

/-- A machine in RUN and LOCKED whose unit 4 is armed as a one-shot unit with TCODE 0, and whose field TIDX of five bits holds 96. The
writes of the model, which store a field in its width, do not lead to it. -/
def wideTidx : State :=
  let armed := (atRun.trdTo 1).wr (Reg.TREADLE_AEV_CFG_MODE.at 4) 1
  { armed with regs := armed.regs.set 0 (Reg.TREADLE_AEV_CFG_TIDX.at 4).key 96 }

/-- AEV_FIRE from there reaches Heddle 0, the target of TCODE 3. -/
theorem aevFire_wideTidx : nextOf (exec .aevFire wideTidx) (fun t => (t.hd 0).angLatch) = true := by decide +kernel

/-- Refutes O21: the clause of a quiet unit (TCODE 0, IRQ 0) asks for its frame in every state, and with 96 in TIDX, a field of five bits,
the target TCODE × 32 + TIDX of the unit is that of TCODE 3, so that its firing latches an angle event in Heddle 0. -/
theorem not_angleEvents : ¬ Obligations.AngleEvents := by
  unfold Obligations.AngleEvents
  rintro ⟨-, -, -, -, -, -, hquiet, -⟩
  obtain ⟨t, ht, -, -, -, hkeep⟩ :=
    hquiet wideTidx 4 (by decide +kernel) (by decide +kernel) (by decide +kernel) (by decide +kernel) (by decide +kernel)
  have hhed : t.hed = wideTidx.hed := (hkeep.2 .hed).resolve_left (by simp)
  have hlatch := aevFire_wideTidx
  rw [ht, nextOf, State.hd, hhed] at hlatch
  exact absurd hlatch (by decide +kernel)

end Sys2Proof.Machine


/-! ## Scope: network time, pulse outputs and captures -/

namespace Sys2Proof.Machine

/-- The key from which on the register fields of the pulse outputs lie; those of the clocks lie below it. -/
def pulseKeys : Nat := 0x40020400 * 32

/-! ### Pulse outputs (R254 to R258) -/

@[simp] theorem State.tpo_setTpo (s : State) (n : Nat) (u : TpoUnit) : (s.setTpo n u).tpo n = u := by
  simp [State.tpo, State.setTpo]

theorem State.tpo_setTpo_ne (s : State) {n m : Nat} (u : TpoUnit) (h : m ≠ n) : (s.setTpo n u).tpo m = s.tpo m := by
  simp [State.tpo, State.setTpo, Store.get_set_ne _ _ _ _ h]

@[simp] theorem State.setTpo_tpoRegs (s : State) (n m : Nat) (u : TpoUnit) : (s.setTpo n u).tpoRegs m = s.tpoRegs m := rfl

/-- Nothing changes but pulse output `n` beside its registers. -/
structure OutputMoves (n : Nat) (s t : State) : Prop where
  keeps : Keeps [.time] s t
  time : ∃ p, t.time = { s.time with tpo := p }
  others : ∀ m, m ≠ n → t.tpo m = s.tpo m

section
variable {n : Nat} {s t u : State}

theorem OutputMoves.refl (n : Nat) (s : State) : OutputMoves n s s := ⟨Keeps.refl _ s, ⟨_, rfl⟩, fun _ _ => rfl⟩

theorem OutputMoves.trans (h : OutputMoves n s t) (k : OutputMoves n t u) : OutputMoves n s u := by
  obtain ⟨p, hp⟩ := h.time
  obtain ⟨q, hq⟩ := k.time
  exact ⟨h.keeps.trans k.keeps, ⟨q, by rw [hq, hp]⟩, fun m hm => (k.others m hm).trans (h.others m hm)⟩

theorem State.setTpo_moves (s : State) (n : Nat) (v : TpoUnit) : OutputMoves n s (s.setTpo n v) :=
  ⟨s.setTpo_keeps n v, ⟨_, rfl⟩, fun _ hm => s.tpo_setTpo_ne v hm⟩

theorem State.tpoPulse_moves (s : State) (n : Nat) : OutputMoves n s (s.tpoPulse n) := by
  unfold State.tpoPulse
  split
  · exact .refl n s
  · exact s.setTpo_moves n _

/-- An assert instant, with its pulse or in MODE 0 without. -/
theorem State.tpoServe_moves (s : State) (n i : Nat) : OutputMoves n s (s.tpoServe n i) := by
  unfold State.tpoServe
  extract_lets s1 v
  have h1 : OutputMoves n s s1 := by
    unfold s1
    split
    · exact .refl n s
    · exact s.tpoPulse_moves n
  split
  · exact h1.trans (s1.setTpo_moves n _)
  · exact h1.trans (s1.setTpo_moves n _)

end

/-- What an output shows that asserts at its instant `i`, and then takes the settings written since (R256, R258). -/
theorem State.tpoServe_asserts {s : State} {n : Nat} (hu : (s.tpo n).asserted = false) (hm : s.rd (Reg.TIME_TPO_CFG_MODE.at n) ≠ 0)
    (i : Nat) :
    let v := (s.tpoServe n i).tpo n
    v.asserted = true ∧ v.width = s.rd (Reg.TIME_TPO_WIDTH_V.at n) ∧ v.edge = s.cycle ∧
      (s.tpoRegs n = (s.tpo n).cur → v.lastNs = some i) ∧ (s.tpoRegs n ≠ (s.tpo n).cur → v.cur = s.tpoRegs n) := by
  by_cases hc : s.tpoRegs n = (s.tpo n).cur
  · simp [State.tpoServe, State.tpoPulse, hm, hu, hc]
  · simp [State.tpoServe, State.tpoPulse, State.tpoArm, hm, hu, hc]

theorem tpoAssert_asserts (s : State) (n : Fin 8) (i : Nat) (hl : s.limping = false) (hd : s.tpoDue n = some i)
    (hu : (s.tpo n).asserted = false) (hm : s.rd (Reg.TIME_TPO_CFG_MODE.at n) ≠ 0) : Answers (.tpoAssert n) s fun t =>
      (t.tpo n).asserted = true ∧ (t.tpo n).width = s.rd (Reg.TIME_TPO_WIDTH_V.at n) ∧ (t.tpo n).edge = s.cycle ∧
      (s.tpoRegs n = (s.tpo n).cur → (t.tpo n).lastNs = some i) ∧ (s.tpoRegs n ≠ (s.tpo n).cur → (t.tpo n).cur = s.tpoRegs n) ∧
      (∀ m : Fin 8, m ≠ n → t.tpo m = s.tpo m) ∧ Keeps [.time] s t := by
  have hexec : exec (.tpoAssert n) s = .next (s.tpoServe n i) := by
    change execTpoAssert n s = _
    simp [execTpoAssert, hl, hd]
  obtain ⟨hassert, hwidth, hedge, hlast, hcur⟩ := State.tpoServe_asserts hu hm i
  have hmove := s.tpoServe_moves n i
  exact ⟨_, hexec, hassert, hwidth, hedge, hlast, hcur, fun m hne => hmove.others m (Fin.val_ne_of_ne hne), hmove.keeps⟩

/-- Pulse output `n` deasserts; a MODE 0 written during the pulse takes effect (R258). -/
def State.tpoEnded (s : State) (n : Nat) : State :=
  let s1 := s.setTpo n { s.tpo n with asserted := false }
  if s.rd (Reg.TIME_TPO_CFG_MODE.at n) = 0 then s1.tpoArm n else s1

theorem State.tpoEnded_moves (s : State) (n : Nat) : OutputMoves n s (s.tpoEnded n) := by
  unfold State.tpoEnded
  split
  · exact (s.setTpo_moves n _).trans (State.setTpo_moves _ n _)
  · exact s.setTpo_moves n _

theorem State.tpoEnded_asserted (s : State) (n : Nat) : ((s.tpoEnded n).tpo n).asserted = false := by
  unfold State.tpoEnded
  split
  · simp [State.tpoArm]
  · simp

theorem tpoDeassert_ends (s : State) (n : Fin 8) (hu : (s.tpo n).asserted = true)
    (hw : (s.tpo n).edge + 3 * (s.tpo n).width ≤ s.cycle) : Answers (.tpoDeassert n) s fun t =>
      (t.tpo n).asserted = false ∧ (∀ m : Fin 8, m ≠ n → t.tpo m = s.tpo m) ∧ Keeps [.time] s t := by
  have hexec : exec (.tpoDeassert n) s = .next (s.tpoEnded n) :=
    congrArg Host.Outcome.next (if_neg (by simp [hu, hw]))
  have hmove := s.tpoEnded_moves n
  exact ⟨_, hexec, s.tpoEnded_asserted n, fun m hne => hmove.others m (Fin.val_ne_of_ne hne), hmove.keeps⟩

/-! ### Captures (R261, R263 to R265) -/

@[simp] theorem State.tpiFifo_setTpi (s : State) (n : Nat) (l : List TpiRec) : (s.setTpi n l).tpiFifo n = l := by
  simp [State.tpiFifo, State.setTpi]

theorem State.tpiFifo_setTpi_ne (s : State) {n m : Nat} (l : List TpiRec) (h : m ≠ n) : (s.setTpi n l).tpiFifo m = s.tpiFifo m := by
  simp [State.tpiFifo, State.setTpi, Store.get_set_ne _ _ _ _ h]

theorem State.setTpi_keeps (s : State) (n : Nat) (l : List TpiRec) : Keeps [.time] s (s.setTpi n l) := s.time_keeps _

/-- The edge of input `n` that is captured now is its last one. -/
def State.tpiSeen (s : State) (n : Nat) : State :=
  { s with time := { s.time with
    tpiEdge := s.time.tpiEdge.set 0 n (s.cycle - s.rd (Reg.TIME_TPI_CFG_FILT.at n) * 30 + 1) } }

/-- An edge that EDGE selects, far enough from the last one, enters the FIFO where it has room. -/
theorem exec_tpiCapture {s : State} {n : Fin 8} {rising : Bool}
    (he : s.rd (Reg.TIME_TPI_CFG_EDGE.at n) = 3 ∨ s.rd (Reg.TIME_TPI_CFG_EDGE.at n) = if rising then 1 else 2)
    (hl : s.time.tpiEdge.get 0 n = 0 ∨ s.time.tpiEdge.get 0 n + 60 ≤ s.cycle - s.rd (Reg.TIME_TPI_CFG_FILT.at n) * 30 + 1)
    (hf : (s.tpiFifo n).length < 4) :
    exec (.tpiCapture n rising) s = .next ((s.tpiSeen n).setTpi n
      (s.tpiFifo n ++ [s.tpiRecord rising (s.rd (Reg.TIME_TPI_CFG_FILT.at n) * 30)])) := by
  have hedge : ¬(s.rd (Reg.TIME_TPI_CFG_EDGE.at n) = 0 ∨ (s.rd (Reg.TIME_TPI_CFG_EDGE.at n) = 1 ∧ !rising) ∨
      (s.rd (Reg.TIME_TPI_CFG_EDGE.at n) = 2 ∧ rising)) := by
    cases rising <;> simp at he ⊢ <;> omega
  exact congrArg Host.Outcome.next ((if_neg hedge).trans ((if_neg (by omega)).trans (if_neg (by omega))))

theorem tpiCapture_enters (s : State) (n : Fin 8) (rising : Bool)
    (he : s.rd (Reg.TIME_TPI_CFG_EDGE.at n) = 3 ∨ s.rd (Reg.TIME_TPI_CFG_EDGE.at n) = if rising then 1 else 2)
    (hl : s.time.tpiEdge.get 0 n = 0 ∨ s.time.tpiEdge.get 0 n + 60 ≤ s.cycle - s.rd (Reg.TIME_TPI_CFG_FILT.at n) * 30 + 1)
    (hf : (s.tpiFifo n).length < 4) : Answers (.tpiCapture n rising) s fun t =>
      t.tpiFifo n = s.tpiFifo n ++ [s.tpiRecord rising (s.rd (Reg.TIME_TPI_CFG_FILT.at n) * 30)] ∧
      (∀ m : Fin 8, m ≠ n → t.tpiFifo m = s.tpiFifo m) ∧ Keeps [.time] s t :=
  ⟨_, exec_tpiCapture he hl hf, State.tpiFifo_setTpi _ _ _, fun _ hm => State.tpiFifo_setTpi_ne _ _ (Fin.val_ne_of_ne hm),
    (s.time_keeps _).trans (State.setTpi_keeps _ _ _)⟩

/-- Input `n` shows record `r` in its views, and how many records wait behind it (R263). -/
def State.tpiShow (s : State) (n : Nat) (r : TpiRec) (fill : Nat) : State :=
  let s1 := ((s.wr (Reg.TIME_TPI_ANS_V.at n) r.aNs).wr (Reg.TIME_TPI_ASECLO_V.at n) r.aSec).wr (Reg.TIME_TPI_BNS_V.at n) r.bNs
  let s2 := ((s1.wr (Reg.TIME_TPI_BSECLO_V.at n) r.bSec).wr (Reg.TIME_TPI_DTNS_V.at n) r.dtNs).wr
    (Reg.TIME_TPI_FLAGS_EDGE.at n) (b2n r.rising)
  let s3 := ((s2.wr (Reg.TIME_TPI_FLAGS_VALID.at n) 1).wr (Reg.TIME_TPI_FLAGS_FILL.at n) fill).wr
    (Reg.TIME_TPIX_DTSECLO_V.at n) r.dtSec
  ((s3.wr (Reg.TIME_TPIX_ANG_V.at n) r.ang).wr (Reg.TIME_TPIX_SECHI_ASEC.at n) (r.aSec / 2 ^ 32)).wr
    (Reg.TIME_TPIX_SECHI_BSEC.at n) (r.bSec / 2 ^ 32)

theorem State.tpiPop_cons {s : State} {n : Nat} {r : TpiRec} {rest : List TpiRec} (h : s.tpiFifo n = r :: rest) :
    s.tpiPop n = (s.setTpi n rest).tpiShow n r rest.length := by
  unfold State.tpiPop
  rw [h]
  rfl

/-- What the views of input `n` then show. -/
theorem State.tpiShow_views (s : State) (n : Fin 8) (r : TpiRec) (fill : Nat) :
    let t := s.tpiShow n r fill
    t.rd (Reg.TIME_TPI_FLAGS_VALID.at n) = 1 ∧ t.rd (Reg.TIME_TPI_FLAGS_EDGE.at n) = b2n r.rising ∧
      t.rd (Reg.TIME_TPI_ANS_V.at n) = r.aNs % 2 ^ 32 ∧ t.rd (Reg.TIME_TPIX_ANG_V.at n) = r.ang % 2 ^ 32 := by
  have hbit : b2n r.rising % 2 = b2n r.rising := by cases r.rising <;> rfl
  simp (disch := decide +revert) only [State.tpiShow, State.rd_wr_ne, State.rd_wr_same]
  exact ⟨rfl, hbit, rfl, rfl⟩

/-- The views of a pop change registers alone. -/
theorem State.tpiShow_keeps (s : State) (n : Nat) (r : TpiRec) (fill : Nat) : Keeps [.regs] s (s.tpiShow n r fill) := by
  intro p
  cases p <;> simp [Part.same, State.tpiShow]

theorem tpiPop_shows (s : State) (n : Fin 8) (r : TpiRec) (rest : List TpiRec) (h : s.tpiFifo n = r :: rest) :
    Answers (.tpiPop n) s fun t =>
      t.tpiFifo n = rest ∧ t.rd (Reg.TIME_TPI_FLAGS_VALID.at n) = 1 ∧ t.rd (Reg.TIME_TPI_FLAGS_EDGE.at n) = b2n r.rising ∧
      t.rd (Reg.TIME_TPI_ANS_V.at n) = r.aNs % 2 ^ 32 ∧ t.rd (Reg.TIME_TPIX_ANG_V.at n) = r.ang % 2 ^ 32 ∧
      Keeps [.regs, .time] s t := by
  refine ⟨_, congrArg Host.Outcome.next (State.tpiPop_cons h), ?_⟩
  obtain ⟨hvalid, hedge, hans, hang⟩ := (s.setTpi n rest).tpiShow_views n r rest.length
  exact ⟨s.tpiFifo_setTpi n rest, hvalid, hedge, hans, hang,
    ((s.setTpi_keeps n rest).mono (by simp)).trans ((State.tpiShow_keeps _ n r _).mono (by simp))⟩

/-- A consuming read takes the oldest record (R265). -/
theorem tpiRecordRead_takes (s : State) (n : Fin 8) (r : TpiRec) (rest : List TpiRec) (h : s.tpiFifo n = r :: rest) :
    Answers (.tpiRecordRead n) s fun t =>
      t.tpiFifo n = rest ∧ t.od.answer.value = some (.bytes r.bytes) ∧ t.od.answer.code = 0 ∧ Keeps [.time, .od] s t := by
  have htake : s.tpiTake n = (r.bytes, s.setTpi n rest) := by simp [State.tpiTake, h]
  let u := s.setTpi n rest
  have hexec : exec (.tpiRecordRead n) s =
      .next { u with od := { u.od with answer := { u.od.answer with code := 0, value := some (.bytes r.bytes) } } } := by
    change execTpiRecordRead n s = _
    simp only [execTpiRecordRead, htake, u]
  refine ⟨_, hexec, s.tpiFifo_setTpi n rest, rfl, rfl, fun p => ?_⟩
  cases p <;> simp [Part.same, u, State.setTpi]

/-! ### SNAP (R264) -/

theorem snap_shows (s : State) : Answers .snap s fun t =>
    t.rd (Reg.TIME_DTV_NS_V.at 0) = clockSub s.time.dt % 2 ^ 32 ∧
    t.rd (Reg.TIME_DTV_NS_V.at 1) = clockSub s.time.tda % 2 ^ 32 ∧
    t.rd (Reg.TIME_DTV_NS_V.at 2) = clockSub s.time.tdb % 2 ^ 32 ∧
    t.rd (Reg.TIME_DTV_SECLO_V.at 0) = clockSec s.time.dt % 2 ^ 32 ∧
    t.rd Reg.TIME_ANGV_ANG = s.ang % 2 ^ 32 ∧
    Keeps [.regs] s t := by
  refine ⟨_, rfl, ?_⟩
  simp (disch := decide) only [State.snap, State.rd_wr_ne, State.rd_wr_same]
  exact ⟨rfl, rfl, rfl, rfl, rfl, fun p => by cases p <;> simp [Part.same]⟩

/-! ### What a step of a clock moves (R237, R257) -/

/-- The pulse outputs react, and nothing else: of the registers none below theirs changes, of the time state none but them. -/
structure PulsesMove (s t : State) : Prop where
  keeps : KeepsBelow pulseKeys [] [.time] s t
  time : ∃ p, t.time = { s.time with tpo := p }

section
variable {s t u : State}

theorem PulsesMove.refl (s : State) : PulsesMove s s := ⟨.refl _ _ _ s, _, rfl⟩

theorem PulsesMove.trans (h : PulsesMove s t) (k : PulsesMove t u) : PulsesMove s u := by
  obtain ⟨p, hp⟩ := h.time
  obtain ⟨q, hq⟩ := k.time
  exact ⟨h.keeps.trans k.keeps, q, by rw [hq, hp]⟩

theorem OutputMoves.all {n : Nat} (h : OutputMoves n s t) : PulsesMove s t :=
  ⟨(KeepsBelow.refl _ _ _ s).part h.keeps (by simp) (by simp), h.time⟩

theorem PulsesMove.each {α : Type} (f : State → α → State) (xs : List α) (hstep : ∀ v x, PulsesMove v (f v x)) :
    PulsesMove s (s.each xs f) := by
  induction xs generalizing s with
  | nil => exact .refl s
  | cons x xs ih => exact (hstep s x).trans ih

theorem PulsesMove.dom (h : PulsesMove s t) (x : Nat) : t.dom x = s.dom x := by
  obtain ⟨p, hp⟩ := h.time
  simp [State.dom, hp]

/-- A step of a clock serves the instants that it passes, or waits for them again. -/
theorem State.tpoStep_moves (s : State) (src : Nat) (forward : Bool) : PulsesMove s (s.tpoStep src forward) := by
  refine PulsesMove.each _ _ fun v n => ?_
  dsimp only
  split
  · exact .refl v
  split
  · split
    · exact .refl v
    · obtain ⟨hkeep, htime⟩ := (v.tpoServe_moves n _).all
      exact ⟨hkeep.wrAt (by decide), htime⟩
  split
  · exact .refl v
  · exact (v.setTpo_moves n _).all

end

/-! ### The schedule of a CAN channel that sees device time step (R237, R804) -/

/-- The key from which on the register fields of the CAN channels lie. -/
def canKeys : Nat := 0x40050000 * 32

/-- The parts of the state in which the schedules show themselves. -/
def scheduleParts : List Part := [.can, .marks, .threads]

/-- Nothing changes but the CAN channels and what lies behind them in the register file, the marks and the Shuttles. -/
abbrev CanMoves (s t : State) : Prop := KeepsBelow canKeys [] scheduleParts s t

section
variable {s t : State}

theorem CanMoves.setCn (h : CanMoves s t) (n : Nat) (u : CanUnit) : CanMoves s (t.setCn n u) :=
  h.part (t.setCn_keeps n u) (by simp [scheduleParts]) (by simp)

theorem CanMoves.mark (h : CanMoves s t) (m : Mark) : CanMoves s (t.mark m) :=
  h.part (t.mark_keeps m) (by simp [scheduleParts]) (by simp)

theorem CanMoves.cellMissed (h : CanMoves s t) (n c : Nat) : CanMoves s (t.cellMissed n c) := (h.wrAt2 (by decide)).wrAt (by decide)

theorem CanMoves.exclMiss (h : CanMoves s t) (n c k : Nat) (resend : Bool) : CanMoves s (t.exclMiss n c k resend) := by
  have hmiss := CanMoves.cellMissed h n c
  have hfail : CanMoves s (((t.cellMissed n c).moClear n k).wr (Reg.CAN_MO_CTL_TX_FAIL.at2 n k) 1) :=
    ((hmiss.wrAt2 (by decide)).wrAt2 (by decide)).wrAt2 (by decide)
  exact .ite hmiss (.ite (hfail.part (State.wake_keeps _ _) (by simp [scheduleParts]) (by simp)) hfail)

theorem CanMoves.columnEnd (h : CanMoves s t) (n : Nat) : CanMoves s (t.columnEnd n) := by
  unfold State.columnEnd
  extract_lets s1 s2
  have h1 : CanMoves s s1 := by
    unfold s1
    split
    · exact CanMoves.cellMissed h n _
    · exact h
  have h2 : CanMoves s s2 := by
    unfold s2
    split
    · exact CanMoves.exclMiss h1 n _ _ _
    · exact h1
  exact CanMoves.setCn h2 n _

theorem canKeys_le_moDataField (n k w : Nat) : canKeys ≤ (moDataField n k w).key := by
  unfold moDataField
  split
  · exact Field.le_key_at2 (by decide) _ _
  · exact Field.le_key_at2 (by decide) _ _

theorem CanMoves.evalCell (h : CanMoves s t) (n j : Nat) : CanMoves s (t.evalCell n j) :=
  .ite (CanMoves.setCn (((CanMoves.mark h _).wrFrom _ _ (canKeys_le_moDataField ..)).wrAt2 (by decide)) n _)
    (CanMoves.setCn (CanMoves.mark h _) n _)

theorem CanMoves.ttStart (h : CanMoves s t) (n : Nat) (cyc : Option Nat) : CanMoves s (t.ttStart n cyc) := by
  unfold State.ttStart
  extract_lets run col s1 cut s2 next s3
  have h2 : CanMoves s s2 := .wrIfFrom (.ite (CanMoves.columnEnd h n) h) _ _ 1 (Field.le_key_at (by decide) _)
  have h3 : CanMoves s s3 := (((h2.wrAt (by decide)).wrAt (by decide)).wrAt (by decide)).wrAt (by decide)
  exact .ite h (CanMoves.evalCell (CanMoves.setCn (CanMoves.mark h3 _) n _) n 0)

theorem State.ttStep_canMoves (s : State) (before : Nat) : CanMoves s (s.ttStep before) :=
  .each _ _ (fun n _ _ hu => .ite ((CanMoves.ttStart hu n none).wrAt (by decide)) hu) (.refl _ _ _ s)

end

/-! ### Device time and its source (R228 to R235) -/

@[simp] theorem State.wrIf_time (s : State) (c : Bool) (f : Field) (v : Nat) : (s.wrIf c f v).time = s.time := by cases c <;> rfl

/-- The parts of the state in which a step of device time shows itself. -/
def stepParts : List Part := .time :: scheduleParts

/-- Device time at clock value `c`. -/
def State.setDt (s : State) (c : Nat) : State := { s with time := { s.time with dt := c } }

theorem State.dtSet_eq (s : State) (c : Nat) : s.dtSet c =
    ((s.setDt c).tpoStep 0 (decide (s.time.dt ≤ c))).rePlaceTime.ttStep s.time.dt := rfl

/-- The time gates of the ports are placed anew (R691). -/
theorem State.rePlaceTime_keeps (s : State) : KeepsBelow pulseKeys [] [] s s.rePlaceTime :=
  .each _ _ (fun _ _ _ hu => hu.wrAt (by decide)) (.refl _ _ _ s)

/-- A step of device time changes none of the registers below those of the pulse outputs, and of the time state device time and the
pulse outputs. -/
theorem State.dtSet_outcome (s : State) (c : Nat) :
    KeepsBelow pulseKeys [] stepParts s (s.dtSet c) ∧ ∃ p, (s.dtSet c).time = { s.time with dt := c, tpo := p } := by
  have hset : KeepsBelow pulseKeys [] [.time] s (s.setDt c) := (KeepsBelow.refl _ _ _ s).part (s.time_keeps _) (by simp) (by simp)
  have hpulse := (s.setDt c).tpoStep_moves 0 (decide (s.time.dt ≤ c))
  rw [State.dtSet_eq]
  generalize (s.setDt c).tpoStep 0 (decide (s.time.dt ≤ c)) = u at hpulse
  have hplace := u.rePlaceTime_keeps
  have hcan := u.rePlaceTime.ttStep_canMoves s.time.dt
  constructor
  · have hclock : KeepsBelow pulseKeys [] [.time] s u.rePlaceTime :=
      (hset.trans hpulse.keeps).trans (hplace.mono le_rfl (by simp) (by simp))
    refine (hclock.mono le_rfl (by simp) (by simp [stepParts])).trans ?_
    exact (hcan.mono (by decide) (by simp) fun _ hp => List.mem_cons_of_mem _ hp)
  · obtain ⟨p, hp⟩ := hpulse.time
    exact ⟨p, ((hcan.2 .time).resolve_left (by simp [scheduleParts])).trans
      (((hplace.2 .time).resolve_left (by simp)).trans hp)⟩

/-- A step of device time onto the domain it follows, and its flags (R235). -/
theorem State.dtStep_outcome (s : State) :
    KeepsBelow pulseKeys [Reg.TIME_STAT_DT_STEPPED, Reg.TIME_STAT_ALIGNED] stepParts s s.dtStep ∧
      s.dtStep.rd Reg.TIME_STAT_DT_STEPPED = 1 ∧ s.dtStep.rd Reg.TIME_STAT_ALIGNED = 1 ∧
      ∃ p, s.dtStep.time = { s.time with dt := s.dom s.followed, tpo := p } := by
  obtain ⟨hkeep, htime⟩ := s.dtSet_outcome (s.dom s.followed)
  unfold State.dtStep
  generalize s.dtSet (s.dom s.followed) = u at hkeep htime
  exact ⟨((hkeep.mono le_rfl (by simp) (fun _ hp => hp)).wr _ 1 (by simp)).wr _ 1 (by simp),
    (State.rd_wr_ne _ _ _ _ (by decide)).trans (State.rd_wr_same _ _ 1), State.rd_wr_same _ _ 1, htime⟩

/-- The fields in which a new choice of the source shows itself. -/
def sourceFields : List Field :=
  [Reg.TIME_STAT_SOURCE, Reg.TIME_STAT_ALIGNED, Reg.TIME_STAT_HOLD_ENTERED, Reg.TIME_STAT_SWITCHED, Reg.TIME_STAT_DT_STEPPED]

/-- The clocks of both domains are as before. -/
def KeepsDomains (s t : State) : Prop := t.time.tda = s.time.tda ∧ t.time.tdb = s.time.tdb

/-- The source is chosen again: the clocks of the domains, and every register of theirs, stay. -/
theorem State.reSource_outcome (s : State) :
    KeepsBelow pulseKeys sourceFields stepParts s s.reSource ∧ KeepsDomains s s.reSource := by
  have hsource (v : Nat) : KeepsBelow pulseKeys sourceFields stepParts s ((s.wr Reg.TIME_STAT_SOURCE v).wr Reg.TIME_STAT_ALIGNED 0) :=
    ((KeepsBelow.refl _ _ _ s).wr _ _ (by simp [sourceFields])).wr _ _ (by simp [sourceFields])
  unfold State.reSource
  extract_lets +onlyGivenNames old new s1 _ s2 s3
  split
  · exact ⟨.refl _ _ _ s, rfl, rfl⟩
  split
  · exact ⟨((hsource 3).wr _ 1 (by simp [sourceFields])).part (State.time_keeps _ _) (by simp [stepParts]) (by simp), rfl, rfl⟩
  have hswitch : KeepsBelow pulseKeys sourceFields stepParts s s3 := (hsource new).wrIf _ _ 1 (by simp [sourceFields])
  have htime : s3.time = s.time := State.wrIf_time ..
  clear_value s3
  split
  · obtain ⟨hkeep, -, -, p, hp⟩ := s3.dtStep_outcome
    refine ⟨hswitch.trans (hkeep.mono le_rfl (by simp [sourceFields]) fun _ hp => hp), ?_⟩
    rw [KeepsDomains, hp, htime]
    exact ⟨rfl, rfl⟩
  · rw [KeepsDomains, htime]
    exact ⟨hswitch, rfl, rfl⟩

/-! ### The states and the RATE of a domain (R223 to R226) -/

/-- The field of TIME.STAT that shows the state of domain `x`. -/
def domView (x : Nat) : Field := if x = 0 then Reg.TIME_STAT_A_STATE else Reg.TIME_STAT_B_STATE

/-- The fields in which domain `x` shows that it enters a state. -/
def domFields (x : Nat) : List Field := Reg.TIME_TDX_STATE_STATE.at x :: domView x :: sourceFields

theorem key_state_own (x : Fin 2) : (Reg.TIME_TDX_STATE_STATE.at x).key ≠ (domView x).key ∧
    (Reg.TIME_TDX_STATE_STATE.at x).key < pulseKeys ∧ (Reg.TIME_TDX_STATE_STATE.at x).key ∉ sourceFields.map Field.key := by
  decide +revert

theorem key_state_other (x : Fin 2) : (Reg.TIME_TDX_STATE_STATE.at (1 - x)).key < pulseKeys ∧
    (Reg.TIME_TDX_STATE_STATE.at (1 - x)).key ∉ (domFields x).map Field.key := by decide +revert

/-- Domain `x` enters state `st`, beside what a new choice of the source does. -/
theorem State.domTo_eq (s : State) (x st : Nat) :
    s.domTo x st = ((s.wr (Reg.TIME_TDX_STATE_STATE.at x) st).wr (domView x) st).reSource := rfl

/-- The source may change, the clocks of the domains stay. -/
theorem State.domTo_outcome (s : State) (x : Fin 2) {st : Nat} (h : st < 4) :
    KeepsBelow pulseKeys (domFields x) stepParts s (s.domTo x st) ∧ (s.domTo x st).domState x = st ∧ KeepsDomains s (s.domTo x st) := by
  obtain ⟨hview_ne, hlt, hsource⟩ := key_state_own x
  have hview : KeepsBelow pulseKeys (domFields x) stepParts s ((s.wr (Reg.TIME_TDX_STATE_STATE.at x) st).wr (domView x) st) :=
    ((KeepsBelow.refl _ _ _ s).wr _ _ (by simp [domFields])).wr _ _ (by simp [domFields])
  have hstate : ((s.wr (Reg.TIME_TDX_STATE_STATE.at x) st).wr (domView x) st).domState x = st :=
    (State.rd_wr_ne _ _ _ _ hview_ne).trans
      ((State.rd_wr_same s (Reg.TIME_TDX_STATE_STATE.at x) st).trans (Nat.mod_eq_of_lt h))
  obtain ⟨hkeep, hclocks⟩ := ((s.wr (Reg.TIME_TDX_STATE_STATE.at x) st).wr (domView x) st).reSource_outcome
  rw [State.domTo_eq]
  exact ⟨hview.trans (hkeep.mono le_rfl (fun _ hf => List.mem_cons_of_mem _ (List.mem_cons_of_mem _ hf)) fun _ hp => hp),
    (hkeep.rd _ hlt hsource).trans hstate, hclocks⟩

theorem State.beatNow_keeps (s : State) (x : Nat) : Keeps [.time] s (s.beatNow x) := s.time_keeps _

@[simp] theorem State.beatNow_beat (s : State) (x : Nat) : (s.beatNow x).time.beat.get 0 x = s.cycle := Store.get_set_same _ _ _ _

/-- An allowed state write is an entry of the state; ACQUIRING restarts the heartbeat timer, unless it is entered from LOCKED. -/
theorem State.domStateWrite_allowed {s : State} {x v : Nat} (h : domAllows (s.domState x) v = true) :
    s.domStateWrite x v = (if v = 1 ∧ s.domState x ≠ 2 then s.beatNow x else s).domTo x v := by
  unfold State.domStateWrite
  rw [if_neg (by simp [h])]
  split
  case isTrue hv => rw [hv.1]
  case isFalse => rfl

theorem tdxStateWrite_enters (s : State) (x : Fin 2) (v : Fin 4) (w : Writer) (hw : s.domWriter x w = true) (hl : s.limping = false)
    (ha : domAllows (s.domState x) v = true) : Answers (.tdxStateWrite x v w) s fun t =>
      t.domState x = v ∧ t.domState (1 - x) = s.domState (1 - x) ∧ t.time.tda = s.time.tda ∧ t.time.tdb = s.time.tdb := by
  have hexec : exec (.tdxStateWrite x v w) s =
      .next ((if v.val = 1 ∧ s.domState x ≠ 2 then s.beatNow x else s).domTo x v) :=
    congrArg Host.Outcome.next ((if_pos (by simp [hw, hl])).trans (State.domStateWrite_allowed ha))
  refine ⟨_, hexec, ?_⟩
  have hbeat : KeepsDomains s (if v.val = 1 ∧ s.domState x ≠ 2 then s.beatNow x else s) ∧
      (if v.val = 1 ∧ s.domState x ≠ 2 then s.beatNow x else s).regs = s.regs := by
    split <;> exact ⟨⟨rfl, rfl⟩, rfl⟩
  generalize (if v.val = 1 ∧ s.domState x ≠ 2 then s.beatNow x else s) = u at hbeat
  obtain ⟨⟨hu, hv⟩, hregs⟩ := hbeat
  obtain ⟨hkeep, hstate, ha, hb⟩ := u.domTo_outcome x v.isLt
  obtain ⟨hlt, hmem⟩ := key_state_other x
  have hother : (u.domTo x v).domState (1 - x) = u.domState (1 - x) := hkeep.rd _ hlt hmem
  exact ⟨hstate, hother.trans (by simp [State.domState, State.rd, hregs]), ha.trans hu, hb.trans hv⟩

theorem tdxRateWrite_sets (s : State) (x : Fin 2) (rate : BitVec 40) (w : Writer) (hw : s.domWriter x w = true)
    (hl : s.limping = false) (hs : s.domState x = 1 ∨ s.domState x = 2) : Answers (.tdxRateWrite x rate w) s fun t =>
      t.time.rates.get 0 x = rate.toInt ∧ t.time.rates.get 0 (1 - x) = s.time.rates.get 0 (1 - x) ∧
      t.time.beat.get 0 x = s.cycle ∧ Keeps [.regs, .time] s t := by
  let s2 := ((s.beatNow x).wr (Reg.TIME_TDX_RATELO_RATE.at x) rate.toNat).wr (Reg.TIME_TDX_RATEHI_RATE.at x) (rate.toNat / 2 ^ 32)
  have hexec : exec (.tdxRateWrite x rate w) s =
      .next { s2 with time := { s2.time with rates := s2.time.rates.set 0 x rate.toInt } } :=
    congrArg Host.Outcome.next ((if_pos (by simp [hw, hl])).trans (if_neg (by omega)))
  refine ⟨_, hexec, Store.get_set_same _ _ _ _, Store.get_set_ne _ _ _ _ (by omega), s.beatNow_beat x, ?_⟩
  exact (((((s.beatNow_keeps x).mono (by simp)).trans ((State.wr_keeps _ _ _).mono (by simp))).trans
    ((State.wr_keeps _ _ _).mono (by simp))).trans ((State.time_keeps _ _).mono (by simp)))

/-- In FREE and HOLDOVER a RATE write restarts the heartbeat timer alone. -/
theorem tdxRateWrite_ignored (s : State) (x : Fin 2) (rate : BitVec 40) (w : Writer) (hw : s.domWriter x w = true)
    (hl : s.limping = false) (hs : s.domState x = 0 ∨ s.domState x = 3) : Answers (.tdxRateWrite x rate w) s fun t =>
      t.time.rates = s.time.rates ∧ t.time.beat.get 0 x = s.cycle ∧ Keeps [.time] s t :=
  ⟨_, congrArg Host.Outcome.next ((if_pos (by simp [hw, hl])).trans (if_pos hs)), rfl, s.beatNow_beat x, s.beatNow_keeps x⟩

theorem tdxHeartbeat_restarts (s : State) (x : Fin 2) (w : Writer) (hw : s.domWriter x w = true) (hl : s.limping = false) :
    Answers (.tdxHeartbeat x w) s fun t =>
      t.time.beat.get 0 x = s.cycle ∧ t.time.tda = s.time.tda ∧ t.time.dt = s.time.dt ∧ Keeps [.time] s t :=
  ⟨_, congrArg Host.Outcome.next (if_pos (by simp [hw, hl])), s.beatNow_beat x, rfl, rfl, s.beatNow_keeps x⟩

/-- The flag of TIME.STAT for a domain `x` that was not written for SERVO_TIMEOUT. -/
def timeoutFlag (x : Fin 2) : Field := if x = 0 then Reg.TIME_STAT_A_TIMEOUT else Reg.TIME_STAT_B_TIMEOUT

theorem key_timeoutFlag (x : Fin 2) : (timeoutFlag x).key < pulseKeys ∧ (timeoutFlag x).key ∉ (domFields x).map Field.key := by
  decide +revert

theorem servoTimeout_holdover (s : State) (x : Fin 2) (hs : s.domState x = 2) (hl : s.limping = false)
    (hb : s.time.beat.get 0 x + s.rd Reg.TIME_CTRL_SERVO_TO * 30000000 ≤ s.cycle) : Answers (.servoTimeout x) s fun t =>
      t.domState x = 3 ∧ t.rd (if x = 0 then Reg.TIME_STAT_A_TIMEOUT else Reg.TIME_STAT_B_TIMEOUT) = 1 ∧
      t.time.tda = s.time.tda ∧ t.time.tdb = s.time.tdb := by
  have hexec : exec (.servoTimeout x) s = .next (((s.wr (timeoutFlag x) 1).odInc (0x3110 + x.val) 7 65535).domTo x 3) :=
    congrArg Host.Outcome.next (if_pos ⟨hs, by simp [hl], hb⟩)
  have hflag : ((s.wr (timeoutFlag x) 1).odInc (0x3110 + x.val) 7 65535).rd (timeoutFlag x) = 1 := by
    refine (State.rd_wr_same s (timeoutFlag x) 1).trans ?_
    unfold timeoutFlag
    split <;> rfl
  obtain ⟨hkeep, hstate, hclocks⟩ :=
    ((s.wr (timeoutFlag x) 1).odInc (0x3110 + x.val) 7 65535).domTo_outcome x (st := 3) (by decide)
  obtain ⟨hlt, hmem⟩ := key_timeoutFlag x
  exact ⟨_, hexec, hstate, (hkeep.rd (timeoutFlag x) hlt hmem).trans hflag, hclocks⟩

/-! ### A step and a load of a domain (R222, R233) -/

/-- Domain `x` at clock value `c`. -/
def State.setDom (s : State) (x c : Nat) : State :=
  if x = 0 then { s with time := { s.time with tda := c } } else { s with time := { s.time with tdb := c } }

theorem State.setDom_outcome (s : State) (x : Fin 2) (c : Nat) : (s.setDom x c).dom x = c ∧
    (s.setDom x c).dom (1 - x) = s.dom (1 - x) ∧ (s.setDom x c).time.dt = s.time.dt ∧ Keeps [.time] s (s.setDom x c) := by
  match x with
  | 0 => exact ⟨rfl, rfl, rfl, s.time_keeps _⟩
  | 1 => exact ⟨rfl, rfl, rfl, s.time_keeps _⟩

theorem State.domMove_eq (s : State) (x c : Nat) : s.domMove x c =
    ((s.setDom x c).tpoStep (x + 1) (decide (s.dom x ≤ c))).wrIf (s.dtSource == x + 1 && c != s.dom x) Reg.TIME_STAT_ALIGNED 0 := rfl

/-- The domain moves; the other domain and device time stay. -/
theorem State.domMove_outcome (s : State) (x : Fin 2) (c : Nat) : (s.domMove x c).dom x = c ∧
    (s.domMove x c).dom (1 - x) = s.dom (1 - x) ∧ (s.domMove x c).time.dt = s.time.dt ∧ Keeps [.regs, .time] s (s.domMove x c) := by
  obtain ⟨hsame, hother, hdt, hset⟩ := s.setDom_outcome x c
  have hmove := (s.setDom x c).tpoStep_moves (x + 1) (decide (s.dom x ≤ c))
  rw [State.domMove_eq]
  generalize (s.setDom x c).tpoStep (x + 1) (decide (s.dom x ≤ c)) = u at hmove
  generalize (s.dtSource == x.val + 1 && c != s.dom x) = b
  have hdom (y : Nat) : (u.wrIf b Reg.TIME_STAT_ALIGNED 0).dom y = (s.setDom x c).dom y :=
    Eq.trans (by simp [State.dom]) (hmove.dom y)
  obtain ⟨p, hp⟩ := hmove.time
  refine ⟨(hdom x).trans hsame, (hdom (1 - x)).trans hother, ?_, ?_⟩
  · rw [State.wrIf_time, hp, ← hdt]
  · exact ((hset.mono (by simp)).trans (hmove.keeps.2.mono (by simp))).trans ((wrIf_keepsBut u b _ 0).2.mono (by simp))

theorem tdxStep_moves (s : State) (x : Fin 2) (ns : Word) (w : Writer) (hw : s.domWriter x w = true) (hl : s.limping = false) :
    Answers (.tdxStep x ns w) s fun t =>
      t.dom x = clockAdd (s.dom x) ((signed 32 (s.rd (Reg.TIME_TDX_STEPS_STEPS.at x)) * 1000000000 + ns.toInt) * (unitsPerNs : Int)) ∧
      t.dom (1 - x) = s.dom (1 - x) ∧ t.time.dt = s.time.dt ∧ Keeps [.regs, .time] s t :=
  ⟨_, congrArg Host.Outcome.next (if_pos (by simp [hw, hl])), s.domMove_outcome x _⟩

theorem tdxSet_loads (s : State) (x : Fin 2) (w : Writer) (hw : s.domWriter x w = true) (hl : s.limping = false) :
    Answers (.tdxSet x w) s fun t =>
      t.dom x = clockOf (s.rd (Reg.TIME_TDX_SETSECLO_V.at x) + 2 ^ 32 * s.rd (Reg.TIME_TDX_SETSECHI_V.at x))
        (s.rd (Reg.TIME_TDX_SETNS_V.at x)) ∧
      t.dom (1 - x) = s.dom (1 - x) ∧ t.time.dt = s.time.dt ∧ Keeps [.regs, .time] s t :=
  ⟨_, congrArg Host.Outcome.next (if_pos (by simp [hw, hl])), s.domMove_outcome x _⟩

/-! ### Device time onto its domain (R232, R235, R236) -/

theorem deviceTimeAligned_aligns (s : State) (hf : s.dtFollows = true) (hl : s.limping = false)
    (ha : s.rd Reg.TIME_STAT_ALIGNED = 0) (hlow : -(s.slewUnit : Int) < s.alignError) (hhigh : s.alignError < s.slewUnit) :
    Answers .deviceTimeAligned s fun t =>
      t.time.dt = s.dom s.followed ∧ t.rd Reg.TIME_STAT_ALIGNED = 1 ∧ KeepsBut [Reg.TIME_STAT_ALIGNED] [.time] s t :=
  ⟨((s.setDt (s.dom s.followed)).wr Reg.TIME_STAT_ALIGNED 1),
    congrArg Host.Outcome.next (if_pos ⟨hf, by simp [hl], by simp [State.on, ha], hlow, hhigh⟩), rfl, State.rd_wr_same _ _ 1,
    ((KeepsBut.refl _ _ s).part (s.time_keeps _) (by simp)).wr _ 1 (by simp)⟩

theorem dtStepCmd_steps (s : State) (hf : s.dtFollows = true) (hl : s.limping = false) : Answers .dtStepCmd s fun t =>
    t.time.dt = s.dom s.followed ∧ t.rd Reg.TIME_STAT_ALIGNED = 1 ∧ t.rd Reg.TIME_STAT_DT_STEPPED = 1 ∧ t.od.answer.code = 0 ∧
    t.time.tda = s.time.tda ∧ t.time.tdb = s.time.tdb := by
  have hexec : exec .dtStepCmd s = .next (s.dtStep.answer 0) := by
    change execDtStepCmd s = _
    simp [execDtStepCmd, State.dtCommand, hf, hl]
  obtain ⟨-, hstepped, haligned, p, hp⟩ := s.dtStep_outcome
  generalize s.dtStep = u at *
  have hdomains : KeepsDomains s u := ⟨by rw [hp], by rw [hp]⟩
  exact ⟨_, hexec, congrArg TimeState.dt hp, haligned, hstepped, rfl, hdomains⟩

/-- Where device time follows no domain, and in LIMP, the command is refused. -/
theorem dtStepCmd_refused (s : State) (h : s.dtFollows = false ∨ s.limping = true) : Answers .dtStepCmd s fun t =>
    t.od.answer.code = 0x0B ∧ Keeps [.od] s t := by
  have hcmd : s.dtCommand = none := if_neg (by rcases h with h | h <;> simp [h])
  have hexec : exec .dtStepCmd s = .next (s.answer 0x0B) := by
    change execDtStepCmd s = _
    rw [execDtStepCmd, hcmd]
  exact ⟨_, hexec, rfl, s.answer_keeps 0x0B⟩

/-- Settles O22: the clauses in their order; a choice of the source and a step of a clock reach the pulse outputs, the time gates and the
CAN schedules, and of the clocks and their registers no more than each clause says. -/
theorem timeDomains : Obligations.TimeDomains :=
  ⟨tdxStateWrite_enters, tdxRateWrite_sets, tdxRateWrite_ignored, tdxHeartbeat_restarts, tdxStep_moves, tdxSet_loads,
    servoTimeout_holdover, deviceTimeAligned_aligns, dtStepCmd_steps, dtStepCmd_refused⟩

/-- Settles O23: the clauses in their order; an assert instant moves its own output alone, and the views of a pop are twelve fields with
keys of their own. -/
theorem pulsesAndCaptures : Obligations.PulsesAndCaptures :=
  ⟨snap_shows, tpoAssert_asserts, tpoDeassert_ends, tpiCapture_enters, tpiPop_shows, tpiRecordRead_takes⟩

end Sys2Proof.Machine


/-! ## Scope: accesses of the object dictionary, expert commands, network sessions -/

namespace Sys2Proof.Machine

/-- A next state with a property that `P` excludes: the command does not answer with `P`. -/
theorem not_answers_of_nextOf {c : Instr} {s : State} {P : State → Prop} {q : State → Bool} (hq : nextOf (exec c s) q = true)
    (hP : ∀ t, q t = true → ¬ P t) : ¬ Answers c s P := by
  rintro ⟨t, ht, h⟩
  rw [ht] at hq
  exact hP t hq h

/-! ### A network session that opens a ticket (R325, R353; O13, O15) -/

/-- A machine in RUN that has answered no access yet, whose context 4 is an open session of the image in slot 1 with every right in area
0x2 and a quota of 4 tickets. -/
def sessionRun : State := (worker.wr Reg.SYS_PSTATE_STATE 4).netSession

/-- Slot 0 holds a queued ticket, and no access has been answered. -/
def queuedUnanswered (t : State) : Bool := (t.ticket 0).state == .queued && t.od.answer == {}

theorem code_of_queuedUnanswered {t : State} (h : queuedUnanswered t = true) : t.od.answer.code = 0 := by
  simp only [queuedUnanswered, Bool.and_eq_true, beq_iff_eq] at h
  rw [h.2]

theorem restoreDefaults_sessionRun : nextOf (exec (.restoreDefaults 4 8) sessionRun) queuedUnanswered = true := by decide +kernel

theorem odWrite_sessionRun : nextOf (exec (.odWrite 4 0x2F05 5 (.scalar .uint 4)) sessionRun) queuedUnanswered = true := by
  decide +kernel

/-- Refutes O13: context 4 is a network session, to which PENDING is not answered (R353). Its RESTORE_DEFAULTS passes every check and is
admitted into slot 0, and the answer is left as it was, with code 0; the image is answered when the ticket is final. -/
theorem not_ownTicketCommands : ¬ Obligations.OwnTicketCommands := by
  unfold Obligations.OwnTicketCommands
  rintro ⟨hrestore, -⟩
  refine not_answers_of_nextOf restoreDefaults_sessionRun (fun t ht => ?_)
    (hrestore sessionRun 4 0 8 (by decide +kernel) (by decide +kernel) (by decide +kernel) (by decide +kernel))
  rintro ⟨-, -, -, -, hpending, -⟩
  exact absurd (hpending.symm.trans (code_of_queuedUnanswered ht)) (by decide)

/-- Refutes O15: the clause of the journaled entry 0x2F05:05 asks for the answer PENDING in every context. A network session is not answered
PENDING (R353): its write opens an OD_WRITE ticket in slot 0, and the answer is left as it was, with code 0. -/
theorem not_singleAccess : ¬ Obligations.SingleAccess := by
  unfold Obligations.SingleAccess
  rintro ⟨-, hjournaled, -⟩
  refine not_answers_of_nextOf odWrite_sessionRun (fun t ht => ?_)
    (hjournaled sessionRun 4 5 4 (by decide +kernel) (by decide +kernel) (.inl rfl) (by decide +kernel) (by decide +kernel)
      (by decide +kernel))
  rintro ⟨hpending, -⟩
  exact absurd (hpending.symm.trans (code_of_queuedUnanswered ht)) (by decide)

/-! ### DATA of the expert window without an unlock (R302, R314; O16) -/

/-- A machine in RUN in lifecycle BLANK, in which the host holds every right without an unlock (R302), five cycles after reset. -/
def blankRun : State := { atRun with cycle := 5 }

theorem expertWindowData_blankRun : nextOf (exec (.expertWindowData 1 none 0) blankRun) (fun t => (t.ctx 1).lastUse == 0) = true := by
  decide +kernel

/-- Refutes O16: the last clause says that every DATA access whose checks pass restarts the 600 s of its context. They are those of an unlock
(R314), and the host of a device in lifecycle BLANK needs none: its read at ADDRESS 0 in cycle 5 leaves the cycle of its last expert access
at 0. -/
theorem not_expertCommands : ¬ Obligations.ExpertCommands := by
  unfold Obligations.ExpertCommands
  rintro ⟨-, -, -, -, -, hwindow⟩
  refine not_answers_of_nextOf expertWindowData_blankRun (fun t ht => ?_)
    (hwindow blankRun 1 none 0 (by decide +kernel) (by decide +kernel) (by decide +kernel))
  rintro ⟨-, -, hlast, -⟩
  exact absurd (hlast.symm.trans (eq_of_beq ht)) (by decide)

/-! ### A session that closes with a ticket (R304; O17) -/

/-- A machine in RUN whose image slot 1 runs an image with one session, context 9, which holds the queued ticket in slot 7. -/
def heldSession : State :=
  let loaded := (atRun.slotTo 1 2).setSlot 1 { image := some (anImage { sessions := 1 }), sessions := 1 }
  (loaded.setCtx 9 { state := .opened, image := 1 }).setTicket 7 { state := .queued, type := 1, client := 9, steps := 1 }

theorem sessionClose_heldSession : nextOf (exec (.sessionClose 9) heldSession) (fun t => (t.slot 1).sessions == 0) = true := by
  decide +kernel

/-- Refutes O17: the clause of a session that is closed while it holds a ticket asks that nothing changes but the object dictionary, and the
close takes the session from those that its image slot counts, here from one to none. -/
theorem not_networkAndImages : ¬ Obligations.NetworkAndImages := by
  unfold Obligations.NetworkAndImages
  rintro ⟨-, -, -, -, -, -, -, -, -, -, -, hdraining, -⟩
  refine not_answers_of_nextOf sessionClose_heldSession (fun t ht => ?_)
    (hdraining heldSession 9 (by decide) (by decide +kernel) (by decide +kernel))
  rintro ⟨-, hkeep⟩
  have himg : t.img = heldSession.img := (hkeep .img).resolve_left (by decide)
  rw [State.slot, himg] at ht
  exact absurd ht (by decide +kernel)

end Sys2Proof.Machine

/-! ## Scope: tickets, the host port, and the statements of the journal and the mount that fail -/

namespace Sys2Proof.Machine

/-! ### What answers leave -/

/-- A change of parts within a frame that lists them. -/
theorem Keeps.andThen {l m : List Part} {s t u : State} (h : Keeps l s t) (k : Keeps m t u) (hm : m ⊆ l) : Keeps l s u :=
  h.trans (k.mono fun _ hp => hm hp)

theorem State.drawWord_keeps (s : State) : Keeps [.free] s s.drawWord.2 := fun p => by cases p <;> simp [Part.same, State.drawWord]

theorem State.setTicket_keeps (s : State) (i : Nat) (t : Ticket) : Keeps [.tk] s (s.setTicket i t) :=
  fun p => by cases p <;> simp [Part.same]

theorem State.setCtx_keeps (s : State) (c : Nat) (x : Ctx) : Keeps [.od] s (s.setCtx c x) :=
  fun p => by cases p <;> simp [Part.same, State.setCtx]

theorem State.odAnswer_keeps (s : State) (c code : Nat) (v : Option OdVal) (h : Option Nat) (side : Nat) :
    Keeps [.od] s (s.odAnswer c code v h side) :=
  fun p => by cases p <;> simp [Part.same, State.odAnswer]

theorem State.hostAnswer_keeps (s : State) (status : Nat) (rdata : List Byte) : Keeps [.tk] s (s.hostAnswer status rdata) :=
  fun p => by cases p <;> simp [Part.same, State.hostAnswer]

@[simp] theorem State.ticket_hostAnswer (s : State) (status : Nat) (rdata : List Byte) (j : Nat) :
    (s.hostAnswer status rdata).ticket j = s.ticket j := rfl

/-- The response of the host port carries its CRC over STATUS and RDATA (R391). -/
@[simp] theorem State.resp_hostAnswer (s : State) (status : Nat) (rdata : List Byte) : (s.hostAnswer status rdata).tk.resp =
    { status := status, rdata := rdata, crc := crc8 (BitVec.ofNat 8 status :: rdata) } := rfl

theorem State.statusReply_keeps (s : State) (c status : Nat) (b : List Byte) : Keeps [.od, .tk] s (s.statusReply c status b) := by
  unfold State.statusReply
  split <;> · intro p; cases p <;> simp [Part.same, State.hostAnswer]

@[simp] theorem State.statusReply_code (s : State) (c status : Nat) (b : List Byte) :
    (s.statusReply c status b).od.answer.code = status := by
  unfold State.statusReply
  split <;> rfl

@[simp] theorem State.ticket_statusReply (s : State) (c status : Nat) (b : List Byte) (j : Nat) :
    (s.statusReply c status b).ticket j = s.ticket j := by
  unfold State.statusReply
  split <;> rfl

/-- The host's answer to a ticket command is its response. -/
theorem State.statusReply_resp (s : State) (status : Nat) (b : List Byte) : (s.statusReply 1 status b).tk.resp =
    { status := status, rdata := b, crc := crc8 (BitVec.ofNat 8 status :: b) } := rfl

/-- Any other context has the bytes in its answer of the dictionary. -/
theorem State.statusReply_value (s : State) {c : Nat} (h : c ≠ 1) (status : Nat) (b : List Byte) :
    (s.statusReply c status b).od.answer.value = some (.bytes b) := by
  simp [State.statusReply, h]

/-- What a frame without the tickets leaves. -/
theorem Keeps.ticket {l : List Part} {s t : State} (h : Keeps l s t) (hl : Part.tk ∉ l) (j : Nat) : t.ticket j = s.ticket j := by
  have htk : t.tk = s.tk := (h .tk).resolve_left hl
  simp [State.ticket, htk]

/-- The register fields that a frame without the register file leaves. -/
theorem Keeps.rd {l : List Part} {s t : State} (h : Keeps l s t) (hl : Part.regs ∉ l) (f : Field) : t.rd f = s.rd f := by
  have hregs : t.regs = s.regs := (h .regs).resolve_left hl
  simp [State.rd, hregs]

/-! ### The end of a ticket -/

theorem State.cardEnd_keeps (s : State) (i : Nat) : Keeps [.mem, .regs] s (s.cardEnd i) := by
  unfold State.cardEnd
  split
  · split
    · intro p; cases p <;> simp [Part.same]
    · exact Keeps.refl _ s
  · exact Keeps.refl _ s

theorem State.gl_keeps (s : State) (g : GrilorState) : Keeps [.gl] s { s with gl := g } :=
  fun p => by cases p <;> simp [Part.same]

theorem State.gwAnswer_keeps (s : State) (h code : Nat) : Keeps [.gl] s (s.gwAnswer h code) := by
  unfold State.gwAnswer
  split
  · exact Keeps.refl _ s
  dsimp only
  split
  · exact (s.gl_keeps _).trans (State.glSend_keeps _ _ _)
  · exact s.gl_keeps _

theorem Keeps.ite_snd {α : Type} {c : Prop} [Decidable c] {l : List Part} {s : State} {a b : α × State} (ha : Keeps l s a.2)
    (hb : Keeps l s b.2) : Keeps l s (if c then a else b).2 := by
  split
  · exact ha
  · exact hb

theorem State.toWire_keeps (s : State) (r : MapRow) (v : OdVal) : Keeps [.free] s (s.toWire r v).2 := by
  cases v with
  | bytes b => exact Keeps.refl _ s
  | scalar t n =>
    exact Keeps.ite_snd (Keeps.refl _ s) s.drawWord_keeps

theorem State.toWireAll_keeps (rows : List MapRow) (vals : List OdVal) (s : State) : Keeps [.free] s (s.toWireAll rows vals).2 := by
  induction rows generalizing s vals with
  | nil => exact Keeps.refl _ s
  | cons r rs ih =>
    cases vals with
    | nil => exact Keeps.refl _ s
    | cons v vs => exact (s.toWire_keeps r v).trans (ih vs _)

theorem State.netFinal_keeps (s : State) (i : Nat) : Keeps [.od, .free] s (s.netFinal i) := by
  have hreply (u : State) (c code : Nat) (v : Option OdVal) (hu : Keeps [.od, .free] s u) :
      Keeps [.od, .free] s (u.odAnswer c code v none) := hu.andThen (u.odAnswer_keeps c code v none 0) (by simp)
  unfold State.netFinal
  extract_lets t w
  split
  · exact Keeps.refl _ s
  split
  · exact hreply s _ _ _ (Keeps.refl _ s)
  split
  · exact hreply s _ _ _ (Keeps.refl _ s)
  · exact hreply _ _ _ _ ((s.toWireAll_keeps t.rows t.data).mono (by simp))

/-- The ticket in slot `i` as its end leaves it (R345). -/
def Ticket.ended (t : Ticket) (st : TkState) (code : Nat) (tag : Tag) (v : Nat) : Ticket :=
  { t with state := st, code := code, resTag := tag, resVal := v, stepPending := false, readOnce := false, finalCommitted := false }

/-- The parts that the end of an unledgered ticket changes: its slot, what it releases, and what answers it. -/
def endParts : List Part := [.tk, .mem, .regs, .gl, .od, .free]

/-- The end of an unledgered ticket stages no record (R346): beside the slot it changes only parts that hold no ticket. -/
theorem State.finish_unledgered (s : State) (i : Nat) (st : TkState) (code : Nat) (tag : Tag) (v : Nat)
    (h : (s.ticket i).ledgered = false) :
    Keeps [.regs, .gl, .od, .free] ((s.cardEnd i).setTicket i ((s.ticket i).ended st code tag v)) (s.finish i st code tag v) := by
  unfold State.finish
  extract_lets t t' s1 s2
  have hs2 : s2 = s1 := if_neg (by simp [t, h])
  have hint : Keeps [.regs, .gl, .od, .free] s1 (if t.client = 1 then s1.intBit 0 else s1) := by
    split
    · exact (s1.wr_keeps _ _).mono (by simp)
    · exact Keeps.refl _ s1
  rw [hs2]
  exact (hint.andThen (State.gwAnswer_keeps _ _ _) (by simp)).andThen (State.netFinal_keeps _ i) (by simp)

theorem State.ticket_finish (s : State) (i : Nat) (st : TkState) (code : Nat) (tag : Tag) (v : Nat)
    (h : (s.ticket i).ledgered = false) : (s.finish i st code tag v).ticket i = (s.ticket i).ended st code tag v :=
  ((s.finish_unledgered i st code tag v h).ticket (by simp) i).trans (State.ticket_setTicket _ _ _)

theorem State.ticket_finish_ne (s : State) (i : Nat) (st : TkState) (code : Nat) (tag : Tag) (v : Nat)
    (h : (s.ticket i).ledgered = false) {j : Nat} (hj : j ≠ i) : (s.finish i st code tag v).ticket j = s.ticket j :=
  calc (s.finish i st code tag v).ticket j = _ := (s.finish_unledgered i st code tag v h).ticket (by simp) j
    _ = (s.cardEnd i).ticket j := State.ticket_setTicket_ne _ _ _ _ hj
    _ = s.ticket j := (s.cardEnd_keeps i).ticket (by simp) j

theorem State.finish_keeps (s : State) (i : Nat) (st : TkState) (code : Nat) (tag : Tag) (v : Nat)
    (h : (s.ticket i).ledgered = false) : Keeps endParts s (s.finish i st code tag v) :=
  (((s.cardEnd_keeps i).mono (by simp [endParts])).andThen (State.setTicket_keeps _ _ _) (by simp [endParts])).andThen
    (s.finish_unledgered i st code tag v h) (by simp [endParts])

/-! ### Steps of tickets (R345) -/

/-- The ticket with one more step committed. -/
def Ticket.stepped (t : Ticket) : Ticket := { t with step := t.step + 1, stepPending := false }

/-- A step before the last one of an unledgered ticket that no abort awaits moves the ticket on. -/
theorem State.stepDone_middle (s : State) (i : Nat) (tag : Tag) (v : Nat) (h : (s.ticket i).ledgered = false)
    (hn : (s.ticket i).step + 1 < (s.ticket i).steps) (ha : (s.ticket i).abortPending = false) :
    s.stepDone i tag v = s.setTicket i (s.ticket i).stepped := by
  simp [State.stepDone, State.stepCommitted, Ticket.stepped, h, ha, Nat.not_le.2 hn]

/-- The last step of an unledgered ticket ends it DONE with its result word. -/
theorem State.stepDone_last (s : State) (i : Nat) (tag : Tag) (v : Nat) (h : (s.ticket i).ledgered = false)
    (hn : (s.ticket i).steps ≤ (s.ticket i).step + 1) :
    s.stepDone i tag v = (s.setTicket i (s.ticket i).stepped).finish i .done 0 tag v := by
  simp [State.stepDone, State.stepCommitted, Ticket.stepped, h, hn]

theorem State.ticket_stepDone_last (s : State) (i : Nat) (tag : Tag) (v : Nat) (h : (s.ticket i).ledgered = false)
    (hn : (s.ticket i).steps ≤ (s.ticket i).step + 1) :
    (s.stepDone i tag v).ticket i = (s.ticket i).stepped.ended .done 0 tag v := by
  rw [s.stepDone_last i tag v h hn, State.ticket_finish _ _ _ _ _ _ (by simpa [Ticket.stepped] using h), State.ticket_setTicket]

theorem State.ticket_stepDone_last_ne (s : State) (i : Nat) (tag : Tag) (v : Nat) (h : (s.ticket i).ledgered = false)
    (hn : (s.ticket i).steps ≤ (s.ticket i).step + 1) {j : Nat} (hj : j ≠ i) : (s.stepDone i tag v).ticket j = s.ticket j := by
  rw [s.stepDone_last i tag v h hn, State.ticket_finish_ne _ _ _ _ _ _ (by simpa [Ticket.stepped] using h) hj,
    State.ticket_setTicket_ne _ _ _ _ hj]

theorem State.stepDone_last_keeps (s : State) (i : Nat) (tag : Tag) (v : Nat) (h : (s.ticket i).ledgered = false)
    (hn : (s.ticket i).steps ≤ (s.ticket i).step + 1) : Keeps endParts s (s.stepDone i tag v) := by
  rw [s.stepDone_last i tag v h hn]
  exact ((s.setTicket_keeps _ _).mono (by simp [endParts])).trans
    (State.finish_keeps _ _ _ _ _ _ (by simpa [Ticket.stepped] using h))

/-- The step of a ledgered ticket waits for its STEP record, which is staged (R346). -/
theorem State.stepDone_ledgered (s : State) (i : Nat) (tag : Tag) (v : Nat) (h : (s.ticket i).ledgered = true)
    (hj : s.jr.noJournal = false) : ∃ b, s.stepDone i tag v =
      (s.setTicket i { s.ticket i with stepPending := true, resTag := tag, resVal := v }).stage b := by
  simp only [State.stepDone, h, hj, Bool.and_false, Bool.false_eq_true, if_false, if_true]
  exact ⟨_, rfl⟩

/-- The end of a step releases nothing more where the ticket is neither an image operation nor a LARGE_SEND. -/
theorem State.settle_of_type (s : State) (i : Nat) (h9 : (s.ticket i).type ≠ 9) (hA : (s.ticket i).type ≠ 0x0A) : s.settle i = s := by
  have himage : s.imageSettle i = s := if_pos (.inl h9)
  rw [State.settle, himage]
  exact if_pos (.inl hA)

/-- TICKET_STEP_COMPLETE of a ticket whose step is open takes the step of its type. -/
theorem exec_ticketStepComplete (s : State) (i : Fin 128) (f : StepFact) (ho : s.stepOpen i = true) (hw : s.weaverOn = true) :
    exec (.ticketStepComplete i f) s = .next ((s.typeStep i f).settle i) := by
  change execTicketStepComplete i f s = _
  simp [execTicketStepComplete, ho, hw]

/-! ### Ticket commands of a context (R348 to R355, R397, R398) -/

/-- From RUN on the host port does not answer NOT_READY. -/
theorem State.hostNotReady_false {s : State} (c : Nat) (hp : 4 ≤ s.pstate) : s.hostNotReady c = false := by
  have h3 : s.pstate ≠ 3 := by omega
  simp [State.hostNotReady, h3]

/-- A context that is OPEN or DRAINING is served its ticket commands from RUN on, until S4. -/
theorem State.ticketCommand_served {s : State} {c : Nat} (hp : 4 ≤ s.pstate) (h4 : s.inS4 = false)
    (hc : (s.ctx c).state ∈ [CtxState.opened, .draining]) (f : State → Nat × List Byte × State) :
    s.ticketCommand c f = (f s).2.2.statusReply c (f s).1 (f s).2.1 := by
  have hS4 : ¬(s.pstate = 6 ∧ 4 ≤ s.sdStep) := by simpa [State.inS4] using h4
  unfold State.ticketCommand
  rw [s.hostNotReady_false c hp, if_neg Bool.false_ne_true, if_neg, if_neg]
  · rw [h4]
    rintro (h | ⟨h6, h5⟩)
    · exact Bool.false_ne_true h
    · exact hS4 ⟨h6, by omega⟩
  · rintro (h | h | h)
    · omega
    · rw [h] at hc; simp at hc
    · rw [h] at hc; simp at hc

/-- The status with which a result read answers (R348, R350). -/
def Ticket.readCode (t : Ticket) : Nat := t.status + (if t.readOnce then 0x80 else 0)

/-- RDATA of RESULT_DATA for a final ticket: a byte count and the values that it carries (R397). -/
def Ticket.dataBytes (t : Ticket) : List Byte :=
  if t.carries then leBytes 2 (t.data.flatMap OdVal.rdata).length ++ t.data.flatMap OdVal.rdata else [0, 0]

/-- A ticket that carries data is DONE. -/
theorem Ticket.isFinal_of_carries {t : Ticket} (h : t.carries = true) : t.state.isFinal = true := by
  simp only [Ticket.carries, Bool.and_eq_true, beq_iff_eq] at h
  rw [h.1]
  rfl

/-- A result read of a final ticket answers its result word and marks the ticket read. -/
theorem State.resultRead_final {s : State} {c h i : Nat} (hs : s.slotOf c h = some i) (hf : (s.ticket i).state.isFinal = true) :
    s.resultRead c h = (((s.ticket i).readCode, (s.ticket i).resTag, (s.ticket i).resVal),
      s.setTicket i { s.ticket i with readOnce := true }) := by
  simp [State.resultRead, hs, hf, Ticket.readCode]

theorem State.drained_keeps (s : State) (c : Nat) : Keeps [.od] s (s.drained c) := by
  unfold State.drained
  split
  · exact s.setCtx_keeps _ _
  · exact Keeps.refl _ s

/-- Retiring a ticket frees its slot; a RETIRE record may be staged, and a draining context may become free (R354). -/
theorem State.retireTicket_after (s : State) (i : Nat) : Keeps [.od, .jr, .gl, .marks] (s.setTicket i {}) (s.retireTicket i) := by
  have hretire : Keeps [.jr, .gl, .marks] (s.setTicket i {}) (s.retireSlot i) := by
    unfold State.retireSlot
    dsimp only
    split
    · exact State.stage_keeps _ _
    · exact Keeps.refl _ _
  exact (hretire.mono (by simp)).andThen (State.drained_keeps _ _) (by simp)

@[simp] theorem State.ticket_retireTicket (s : State) (i : Nat) : (s.retireTicket i).ticket i = {} :=
  ((s.retireTicket_after i).ticket (by simp) i).trans (s.ticket_setTicket i {})

theorem State.ticket_retireTicket_ne (s : State) {i j : Nat} (hj : j ≠ i) : (s.retireTicket i).ticket j = s.ticket j :=
  ((s.retireTicket_after i).ticket (by simp) j).trans (s.ticket_setTicket_ne i j {} hj)

theorem State.retireTicket_keeps (s : State) (i : Nat) : Keeps [.od, .tk, .jr, .gl, .marks] s (s.retireTicket i) :=
  ((s.setTicket_keeps i {}).mono (by simp)).andThen (s.retireTicket_after i) (by simp)

section
variable {s : State} {c : Fin 256} {h : Word} {i : Fin 128} (hp : 4 ≤ s.pstate) (h4 : s.inS4 = false)
  (hc : (s.ctx c).state ∈ [CtxState.opened, .draining]) (hs : s.slotOf c h.toNat = some i.val)
include hp h4 hc hs

theorem resultRead_answers (hf : (s.ticket i).state.isFinal = true) : Answers (.resultRead c h) s fun t =>
    t.od.answer.code = (s.ticket i).status + (if (s.ticket i).readOnce then 0x80 else 0) ∧
    (t.ticket i).readOnce = true ∧
    (t.ticket i).resVal = (s.ticket i).resVal ∧
    (∀ j : Fin 128, j ≠ i → t.ticket j = s.ticket j) ∧
    Keeps [.od, .tk] s t := by
  refine ⟨_, congrArg Host.Outcome.next (State.ticketCommand_served hp h4 hc _), ?_⟩
  rw [State.resultRead_final hs hf]
  refine ⟨by simp [Ticket.readCode], by simp, by simp, fun j hj => ?_, ?_⟩
  · rw [State.ticket_statusReply, State.ticket_setTicket_ne _ _ _ _ (Fin.val_ne_of_ne hj)]
  · exact ((s.setTicket_keeps _ _).mono (by simp)).trans (State.statusReply_keeps _ _ _ _)

theorem resultConsume_answers (hf : (s.ticket i).state.isFinal = true) : Answers (.resultConsume c h) s fun t =>
    t.od.answer.code = (s.ticket i).status + (if (s.ticket i).readOnce then 0x80 else 0) ∧
    (t.ticket i).state = .free ∧
    (∀ j : Fin 128, j ≠ i → t.ticket j = s.ticket j) := by
  refine ⟨_, congrArg Host.Outcome.next (State.ticketCommand_served hp h4 hc _), ?_⟩
  simp only [State.resultConsume, State.resultRead_final hs hf, hs, hf, if_true]
  refine ⟨by simp [Ticket.readCode], by simp, fun j hj => ?_⟩
  rw [State.ticket_statusReply, State.ticket_retireTicket_ne _ (Fin.val_ne_of_ne hj),
    State.ticket_setTicket_ne _ _ _ _ (Fin.val_ne_of_ne hj)]

theorem ticketRetire_answers (hf : (s.ticket i).state.isFinal = true) : Answers (.ticketRetire c h) s fun t =>
    t.od.answer.code = 0 ∧
    (t.ticket i).state = .free ∧
    (∀ j : Fin 128, j ≠ i → t.ticket j = s.ticket j) ∧
    Keeps [.od, .tk, .jr, .gl, .marks] s t := by
  refine ⟨_, congrArg Host.Outcome.next (State.ticketCommand_served hp h4 hc _), ?_⟩
  simp only [State.retire, State.retireAt, hs, hf, if_true]
  refine ⟨by simp, by simp, fun j hj => ?_, ?_⟩
  · rw [State.ticket_statusReply, State.ticket_retireTicket_ne _ (Fin.val_ne_of_ne hj)]
  · exact (s.retireTicket_keeps i).andThen (State.statusReply_keeps _ _ _ _) (by simp)

theorem ticketAbort_running (hr : (s.ticket i).state = .running) : Answers (.ticketAbort c h) s fun t =>
    t.od.answer.code = 0x40 ∧
    (t.ticket i).abortPending = true ∧
    (t.ticket i).state = .running ∧
    Keeps [.od, .tk] s t := by
  have habort : s.abortBy c h.toNat = (0x40, s.setTicket i { s.ticket i with abortPending := true }) := by
    simp [State.abortBy, hs, hr]
  refine ⟨_, congrArg Host.Outcome.next (State.ticketCommand_served hp h4 hc _), ?_⟩
  rw [habort]
  exact ⟨by simp, by simp, by simpa using hr,
    ((s.setTicket_keeps _ _).mono (by simp)).trans (State.statusReply_keeps _ _ _ _)⟩

theorem ticketState_answers (b : List Byte) (hb : b = leBytes 1 (s.ticket i).state.toCode ++ leBytes 1 (s.ticket i).type ++
    leBytes 2 (s.ticket i).step ++ leBytes 2 (s.ticket i).steps ++ leBytes 1 (s.ticket i).code) : Answers (.ticketState c h) s fun t =>
    t.od.answer.code = 0 ∧
    (c = 1 → t.tk.resp.rdata = b ∧ t.tk.resp.status = 0 ∧ t.tk.resp.crc = crc8 (0 :: b)) ∧
    (c ≠ 1 → t.od.answer.value = some (.bytes b)) ∧
    (∀ j : Fin 128, t.ticket j = s.ticket j) ∧
    Keeps [.od, .tk] s t := by
  refine ⟨_, congrArg Host.Outcome.next (State.ticketCommand_served hp h4 hc _), ?_⟩
  simp only [hs, ← hb]
  refine ⟨by simp, ?_, fun h1 => State.statusReply_value _ (Fin.val_ne_of_ne h1) _ _, fun j => by simp,
    State.statusReply_keeps _ _ _ _⟩
  rintro rfl
  exact ⟨rfl, rfl, rfl⟩

/-- RESULT_DATA of a final ticket answers its data and marks the ticket read. -/
theorem exec_resultData_final (hf : (s.ticket i).state.isFinal = true)
    (hlen : (s.ticket i).carries = true → ((s.ticket i).data.flatMap OdVal.rdata).length < 65536) :
    exec (.resultData c h) s = .next
      ((s.setTicket i { s.ticket i with readOnce := true }).statusReply c (s.ticket i).readCode (s.ticket i).dataBytes) := by
  refine congrArg Host.Outcome.next ((State.ticketCommand_served hp h4 hc _).trans ?_)
  rw [State.resultRead_final hs hf, hs]
  cases hcarry : (s.ticket i).carries with
  | false => simp [Ticket.dataBytes, hcarry, leBytes]
  | true => simp [Ticket.dataBytes, hcarry, hlen hcarry, -List.length_flatMap]

theorem resultData_answers (hf : (s.ticket i).state.isFinal = true)
    (hlen : (s.ticket i).carries = true → ((s.ticket i).data.flatMap OdVal.rdata).length < 65536) :
    Answers (.resultData c h) s fun t =>
      (c = 1 → t.tk.resp.rdata = (s.ticket i).dataBytes) ∧
      (c ≠ 1 → t.od.answer.value = some (.bytes (s.ticket i).dataBytes)) ∧
      t.od.answer.code = (s.ticket i).status + (if (s.ticket i).readOnce then 0x80 else 0) ∧
      (t.ticket i).readOnce = true ∧
      (∀ j : Fin 128, j ≠ i → t.ticket j = s.ticket j) ∧
      Keeps [.od, .tk] s t := by
  refine ⟨_, exec_resultData_final hp h4 hc hs hf hlen, ?_, fun h1 => State.statusReply_value _ (Fin.val_ne_of_ne h1) _ _,
    by simp [Ticket.readCode], by simp, fun j hj => ?_,
    ((s.setTicket_keeps _ _).mono (by simp)).trans (State.statusReply_keeps _ _ _ _)⟩
  · rintro rfl
    rfl
  · rw [State.ticket_statusReply, State.ticket_setTicket_ne _ _ _ _ (Fin.val_ne_of_ne hj)]

end

/-! ### Starts and steps of tickets by type (O18) -/

/-- The types whose start only sets the ticket RUNNING: every one but those of fulling, Carding, the gateway and the fan baseline. -/
theorem State.typeStart_plain (s : State) (i : Nat) (h : (s.ticket i).type ∈ [1, 2, 3, 6, 7, 9, 0x0A] ∨
    ((s.ticket i).type = 5 ∧ (s.ticket i).params.head? = some 3)) : s.typeStart i = s := by
  rcases h with h | ⟨h5, hop⟩
  · simp only [List.mem_cons, List.not_mem_nil, or_false] at h
    rcases h with h | h | h | h | h | h | h <;> simp [State.typeStart, h]
  · simp [State.typeStart, h5, hop]

theorem ticketExecutorStart_plain (s : State) (i : Fin 128) (hm : s.mayStart i = true) (hw : s.weaverOn = true)
    (hl : (s.ticket i).ledgered = false ∨ ((s.ticket i).firstCommitted = true ∧ s.jr.noJournal = false))
    (ht : (s.ticket i).type ∈ [2, 3, 6, 7, 9, 0x0A] ∨ ((s.ticket i).type = 1 ∧ (s.ticket i).ledgered = false) ∨
      ((s.ticket i).type = 5 ∧ (s.ticket i).params.head? = some 3)) :
    Answers (.ticketExecutorStart i) s fun t =>
      (t.ticket i) = { s.ticket i with state := .running } ∧
      (∀ j : Fin 128, j ≠ i → t.ticket j = s.ticket j) ∧
      Keeps [.tk] s t := by
  have hwrite : ¬((s.ticket i).type = 1 ∧ (s.ticket i).ledgered = true) := by
    rintro ⟨h1, hl1⟩
    rcases ht with h | ⟨-, h⟩ | ⟨h, -⟩
    · simp [h1] at h
    · simp [hl1] at h
    · omega
  have hplain : ((s.setTicket i { s.ticket i with state := .running }).typeStart i) =
      s.setTicket i { s.ticket i with state := .running } := by
    refine State.typeStart_plain _ _ ?_
    simp only [State.ticket_setTicket]
    rcases ht with h | ⟨h, -⟩ | h
    · exact .inl (List.mem_cons_of_mem _ h)
    · exact .inl (by simp [h])
    · exact .inr h
  refine ⟨s.setTicket i { s.ticket i with state := .running }, ?_, by simp, fun j hj => ?_, s.setTicket_keeps _ _⟩
  · change execTicketExecutorStart i s = _
    simp only [execTicketExecutorStart, hm, hw, hwrite, hplain, if_false, Bool.not_true, Bool.or_self, Bool.false_eq_true]
    rcases hl with hl | ⟨hfc, hj⟩
    · simp [hl]
    · simp [hfc, hj]
  · exact State.ticket_setTicket_ne _ _ _ _ (Fin.val_ne_of_ne hj)

/-- Setting the bits of a mask in a run of fuses leaves the others. -/
theorem testBit_setBits (m a n x : Nat) (l : List Nat) :
    (l.foldl (fun f k => if bitOf m k then setBit f (a + k) true else f) n).testBit x =
      (n.testBit x || l.any (fun k => bitOf m k && decide (x = a + k))) := by
  induction l generalizing n with
  | nil => simp
  | cons k l ih =>
    rw [List.foldl_cons, ih, List.any_cons]
    cases bitOf m k with
    | false => simp
    | true => simp [testBit_setBit_true, Bool.or_assoc]

/-- The one byte of a fuse word and the four of its mask read back from the parameters of a FUSE_PROGRAM ticket. -/
theorem paramAt_fuseWord (word : Fin 128) (l : List Nat) : paramAt (evBytes 1 word ++ l) 0 1 = word := by
  have h := word.isLt
  simp [paramAt, evBytes, leBytes, leValue]
  omega

theorem paramAt_fuseMask (word : Fin 128) (mask : Word) : paramAt (evBytes 1 word ++ evBytes 4 mask.toNat) 1 4 = mask.toNat := by
  have h := mask.isLt
  simp [paramAt, evBytes, leBytes, leValue]
  omega

theorem ticketStepComplete_fuseProgram (s : State) (i : Fin 128) (word : Fin 128) (mask : Word) (ho : s.stepOpen i = true)
    (hw : s.weaverOn = true) (hp : s.pstate = 4) (hallow : s.fuseAllows word mask.toNat = true) (ht : (s.ticket i).type = 7)
    (hstep : (s.ticket i).step = 0) (hpar : (s.ticket i).params = evBytes 1 word ++ evBytes 4 mask.toNat) :
    Answers (.ticketStepComplete i .plain) s fun t =>
      ∀ k : Fin 32, bitOf t.fuse (32 * word + k) = (bitOf s.fuse (32 * word + k) || mask.getLsbD k) := by
  refine ⟨_, exec_ticketStepComplete s i _ ho hw, fun k => ?_⟩
  have hfull : mask.toNat &&& 0xFFFFFFFF = mask.toNat := Nat.and_two_pow_sub_one_of_lt_two_pow (n := 32) mask.isLt
  have hfuse : (s.stepFuse i (StepFact.plain == .failed)).fuse =
      (List.range 32).foldl (fun f k => if bitOf mask.toNat k then setBit f (32 * word + k) true else f) s.fuse := by
    simp [State.stepFuse, hp, hallow, hstep, hpar, paramAt_fuseWord, paramAt_fuseMask, hfull]
  have hmask : (List.range 32).any (fun j => bitOf mask.toNat j && decide (32 * word.val + k = 32 * word + j)) = mask.getLsbD k := by
    rw [Bool.eq_iff_iff]
    simp [bitOf_eq_testBit, BitVec.getLsbD]
  rw [State.settle_fuse, State.typeStep_of_fuseProgram ht, hfuse, bitOf_eq_testBit, testBit_setBits, hmask, ← bitOf_eq_testBit]

/-- The last step of an unledgered ticket that is neither an image operation nor a LARGE_SEND ends it DONE, and releases nothing. -/
theorem ticketStepComplete_last {s u : State} {i : Fin 128} {f : StepFact} {tag : Tag} {v : Nat} (ho : s.stepOpen i = true)
    (hw : s.weaverOn = true) (hstep : s.typeStep i f = u.stepDone i tag v) (hl : (u.ticket i).ledgered = false)
    (hn : (u.ticket i).steps ≤ (u.ticket i).step + 1) (h9 : (u.ticket i).type ≠ 9) (hA : (u.ticket i).type ≠ 0x0A) :
    exec (.ticketStepComplete i f) s = .next (u.stepDone i tag v) ∧
      (u.stepDone i tag v).ticket i = (u.ticket i).stepped.ended .done 0 tag v := by
  have hend := u.ticket_stepDone_last i tag v hl hn
  have htype : ((u.stepDone i tag v).ticket i).type = (u.ticket i).type := by rw [hend]; rfl
  refine ⟨?_, hend⟩
  rw [exec_ticketStepComplete s i f ho hw, hstep, State.settle_of_type _ _ (htype ▸ h9) (htype ▸ hA)]

/-- A read of DEFAULT_REVERTS, which no register holds, gives its stored value. -/
theorem State.odFetch_defaultReverts (s : State) (c addr : Nat) (h : s.od.poisoned = []) :
    s.odFetch c 0x2F06 0 false addr = (0, some (s.odPeek c 0x2F06 0 (mU .ro .val)), s) := by
  have hspec : s.odSpec 0x2F06 0 = some (mU .ro .val) := rfl
  have hlink : viaLink 0x2F06 0 (mU .ro .val) = false := by decide
  simp only [State.odFetch, hspec, hlink, h]
  rfl

/-- A snapshot of DEFAULT_REVERTS alone. -/
theorem State.snapshot_defaultReverts (s : State) (c addr : Nat) (h : s.od.poisoned = []) :
    s.snapshot c addr [(odKey 0x2F06 0, .scalar .nil 0)] = (0, [s.odPeek c 0x2F06 0 (mU .ro .val)], s) := by
  have hfetch : s.odFetch c (odKey 0x2F06 0 / 256) (odKey 0x2F06 0 % 256) false addr = _ := s.odFetch_defaultReverts c addr h
  simp only [State.snapshot, if_true, hfetch]

/-- The state in which the step of an OD_READ ticket reads: no device time has been taken for its context (R266). -/
def State.atInstant (s : State) (c : Nat) : State := { s with time := { s.time with snaps := s.time.snaps.set (0, 0) c (0, 0) } }

/-- The state in which an OD_READ ticket has taken one value. -/
def State.readTaken (s : State) (i : Nat) (v : OdVal) : State :=
  (s.atInstant (s.ticket i).client).setTicket i { s.ticket i with data := [v] }

@[simp] theorem State.ticket_readTaken (s : State) (i : Nat) (v : OdVal) :
    (s.readTaken i v).ticket i = { s.ticket i with data := [v] } := State.ticket_setTicket _ _ _

/-- The step of an OD_READ ticket that names DEFAULT_REVERTS alone takes its value and is done. -/
theorem State.stepRead_defaultReverts (s : State) (i : Nat) (hw : s.readWaits i = false)
    (hm : (s.ticket i).members = [(odKey 0x2F06 0, .scalar .nil 0)]) (hpo : s.od.poisoned = []) :
    s.stepRead i = (s.readTaken i (s.odPeek (s.ticket i).client 0x2F06 0 (mU .ro .val))).stepDone i .uint 1 := by
  have hsnap : (s.atInstant (s.ticket i).client).snapshot (s.ticket i).client (s.ticket i).window (s.ticket i).members =
      (0, [(s.atInstant (s.ticket i).client).odPeek (s.ticket i).client 0x2F06 0 (mU .ro .val)], s.atInstant (s.ticket i).client) := by
    rw [hm]
    exact State.snapshot_defaultReverts _ _ _ hpo
  unfold State.stepRead
  extract_lets t time s0 r ticket
  have hr : r = _ := hsnap
  have hticket : ticket = s.ticket i := congrArg (fun x => x.2.2.ticket i) hr
  rw [hw, if_neg Bool.false_ne_true, hticket, hr, if_neg (by simp), show t.members.length = 1 by simp [t, hm]]
  rfl

theorem State.typeStep_read {s : State} {i : Nat} {f : StepFact} (h : (s.ticket i).type = 2) : s.typeStep i f = s.stepRead i :=
  (if_neg (by omega)).trans (if_pos h)

theorem State.typeStep_download {s : State} {i : Nat} {im : Image} (h : (s.ticket i).type = 3) :
    s.typeStep i (.image im) = s.handOver i (some im) :=
  (if_neg (by omega)).trans ((if_neg (by omega)).trans (if_pos h))

theorem State.typeStep_journalOp {s : State} {i : Nat} {f : StepFact} (h : (s.ticket i).type = 5) :
    s.typeStep i f = s.stepJournalOp i (f == .failed) :=
  (if_neg (by omega)).trans ((if_neg (by omega)).trans ((if_neg (by omega)).trans (if_pos h)))

theorem State.typeStep_restore {s : State} {i : Nat} {f : StepFact} (h : (s.ticket i).type = 6) :
    s.typeStep i f = s.stepRestore i :=
  (if_neg (by omega)).trans ((if_neg (by omega)).trans ((if_neg (by omega)).trans ((if_neg (by omega)).trans (if_pos h))))

theorem ticketStepComplete_read (s : State) (i : Fin 128) (ho : s.stepOpen i = true) (hw : s.weaverOn = true)
    (hr : s.readWaits i = false) (ht : (s.ticket i).type = 2) (hn : (s.ticket i).steps = 1) (hl : (s.ticket i).ledgered = false)
    (hm : (s.ticket i).members = [(odKey 0x2F06 0, .scalar .nil 0)]) (hpo : s.od.poisoned = []) :
    Answers (.ticketStepComplete i .plain) s fun t =>
      (t.ticket i).state = .done ∧
      (t.ticket i).data = [s.odPeek (s.ticket i).client 0x2F06 0 (mU .ro .val)] ∧
      (t.ticket i).resVal = 1 := by
  obtain ⟨hexec, hend⟩ := ticketStepComplete_last ho hw ((State.typeStep_read ht).trans (s.stepRead_defaultReverts i hr hm hpo)) (by simpa using hl)
    (by simp [hn]) (by simp [ht]) (by simp [ht])
  refine ⟨_, hexec, ?_⟩
  simp only [hend, State.ticket_readTaken]
  exact ⟨rfl, rfl, rfl⟩

/-- The state in which a download in RUN has handed its image over. -/
def State.handedOver (s : State) (i : Nat) (im : Image) : State :=
  { s with img := { s.img with staged := some { im with bytes := (s.ticket i).bytes } } }

@[simp] theorem State.ticket_handedOver (s : State) (i : Nat) (im : Image) (j : Nat) : (s.handedOver i im).ticket j = s.ticket j := rfl

theorem ticketStepComplete_download (s : State) (i : Fin 128) (im : Image) (ho : s.stepOpen i = true) (hw : s.weaverOn = true)
    (ht : (s.ticket i).type = 3) (hl : (s.ticket i).ledgered = false) (hn : (s.ticket i).step + 1 = (s.ticket i).steps)
    (hp : 4 ≤ s.pstate) : Answers (.ticketStepComplete i (.image im)) s fun t =>
      (t.ticket i).state = .done ∧
      (t.ticket i).resVal = paramAt (s.ticket i).params 0 4 ∧
      t.img.staged = some { im with bytes := (s.ticket i).bytes } ∧
      t.img.store = s.img.store ∧
      (∀ j : Fin 128, j ≠ i → t.ticket j = s.ticket j) := by
  have hp3 : s.pstate ≠ 3 := by omega
  have hstep : s.typeStep i (.image im) = (s.handedOver i im).stepDone i .uint (paramAt (s.ticket i).params 0 4) := by
    simp [State.typeStep_download ht, State.handOver, State.handedOver, hn, hp3]
  have hl' : ((s.handedOver i im).ticket i).ledgered = false := by simpa using hl
  have hn' : ((s.handedOver i im).ticket i).steps ≤ ((s.handedOver i im).ticket i).step + 1 := by simpa using hn.ge
  obtain ⟨hexec, hend⟩ := ticketStepComplete_last ho hw hstep hl' hn' (by simp [ht]) (by simp [ht])
  have himg : ((s.handedOver i im).stepDone i .uint (paramAt (s.ticket i).params 0 4)).img = (s.handedOver i im).img :=
    (State.stepDone_last_keeps _ _ _ _ hl' hn' .img).resolve_left (by decide)
  refine ⟨_, hexec, by rw [hend]; rfl, by rw [hend]; rfl, by rw [himg]; rfl, by rw [himg]; rfl, fun j hj => ?_⟩
  rw [State.ticket_stepDone_last_ne _ _ _ _ hl' hn' (Fin.val_ne_of_ne hj), State.ticket_handedOver]

theorem ticketStepComplete_verify (s : State) (i : Fin 128) (f : StepFact) (ho : s.stepOpen i = true) (hw : s.weaverOn = true)
    (ht : (s.ticket i).type = 5) (hop : (s.ticket i).params.head? = some 2) (hl : (s.ticket i).ledgered = false)
    (hn : (s.ticket i).steps = 1) : Answers (.ticketStepComplete i f) s fun t =>
      (t.ticket i).state = .done ∧
      (t.ticket i).resVal = s.verifyCount i ∧
      t.jr = s.jr ∧
      t.flash = s.flash ∧
      (∀ j : Fin 128, j ≠ i → t.ticket j = s.ticket j) := by
  have hlast : (s.ticket i).steps ≤ (s.ticket i).step + 1 := by omega
  have hstep : s.typeStep i f = s.stepDone i .uint (s.verifyCount i) := by
    simp [State.typeStep_journalOp ht, State.stepJournalOp, hop]
  obtain ⟨hexec, hend⟩ := ticketStepComplete_last ho hw hstep hl hlast (by simp [ht]) (by simp [ht])
  have hkeep := s.stepDone_last_keeps i .uint (s.verifyCount i) hl hlast
  refine ⟨_, hexec, ?_⟩
  simp only [hend]
  exact ⟨rfl, rfl, (hkeep .jr).resolve_left (by decide), (hkeep .flash).resolve_left (by decide),
    fun j hj => s.ticket_stepDone_last_ne _ _ _ hl hlast (Fin.val_ne_of_ne hj)⟩

/-- Staging a record leaves whether the journal has a bolt to write. -/
@[simp] theorem State.stage_noJournal (s : State) (b : JBody) : (s.stage b).jr.noJournal = s.jr.noJournal := by
  have hmirror : ((s.stageLocal b).mirrorRecord b).jr = (s.stageLocal b).jr :=
    ((s.stageLocal b).mirrorRecord_keeps b .jr).resolve_left (by decide)
  unfold State.stage
  split
  · rw [hmirror]
    unfold State.stageLocal
    split
    · rfl
    split <;> rfl
  · rfl

theorem State.stages_keeps (s : State) (l : List Items) :
    Keeps [.jr, .gl, .marks] s (s.each l (fun s x => s.stage (.value 0 0 0 true x))) :=
  Keeps.each _ l fun u _ => u.stage_keeps _

theorem State.stages_noJournal (s : State) (l : List Items) :
    (s.each l (fun s x => s.stage (.value 0 0 0 true x))).jr.noJournal = s.jr.noJournal :=
  List.foldlRecOn l _ (motive := fun u : State => u.jr.noJournal = s.jr.noJournal) rfl fun u hu _ _ => by
    rw [State.stage_noJournal, hu]

/-- The members whose defaults the next step of a RESTORE_DEFAULTS ticket journals: those of the next area named (R321). -/
def State.restoreNext (s : State) (i : Nat) : Items :=
  s.restoreItems (((List.range 16).filter (bitOf (paramAt (s.ticket i).params 0 2))).getD (s.ticket i).step 0)

/-- The state in which a RESTORE_DEFAULTS step has staged the defaults of its area. -/
def State.restoreStaged (s : State) (i : Nat) : State :=
  (s.setTicket i { s.ticket i with members := s.restoreNext i }).each (packItems [] (s.restoreNext i))
    (fun s x => s.stage (.value 0 0 0 true x))

theorem State.restoreStaged_keeps (s : State) (i : Nat) : Keeps [.tk, .jr, .gl, .marks] s (s.restoreStaged i) :=
  ((s.setTicket_keeps _ _).mono (by simp)).andThen (State.stages_keeps _ _) (by simp)

theorem State.ticket_restoreStaged (s : State) (i : Nat) :
    (s.restoreStaged i).ticket i = { s.ticket i with members := s.restoreNext i } :=
  ((State.stages_keeps _ _).ticket (by simp) i).trans (s.ticket_setTicket i _)

theorem State.restoreStaged_noJournal (s : State) (i : Nat) : (s.restoreStaged i).jr.noJournal = s.jr.noJournal := by
  rw [State.restoreStaged, State.stages_noJournal, State.setTicket_jr]

theorem State.stepRestore_eq (s : State) (i : Nat) (hr : s.jr.readOnly = false) :
    ∃ v, s.stepRestore i = (s.restoreStaged i).stepDone i .uint v := by
  unfold State.stepRestore
  extract_lets t areas a l s1 total
  rw [hr, if_neg Bool.false_ne_true]
  exact ⟨total, rfl⟩

/-- RESTORE_DEFAULTS stages the defaults of the next area, and its step waits for its STEP record (R321, R383). -/
theorem State.stepRestore_ledgered (s : State) (i : Nat) (hr : s.jr.readOnly = false) (hj : s.jr.noJournal = false)
    (hl : (s.ticket i).ledgered = true) : Keeps [.tk, .jr, .gl, .marks] s (s.stepRestore i) ∧ ∃ v,
      (s.stepRestore i).ticket i =
        { s.ticket i with members := s.restoreNext i, stepPending := true, resTag := .uint, resVal := v } := by
  obtain ⟨v, hv⟩ := s.stepRestore_eq i hr
  obtain ⟨b, hb⟩ := State.stepDone_ledgered (s.restoreStaged i) i .uint v (by rw [s.ticket_restoreStaged]; exact hl)
    ((s.restoreStaged_noJournal i).trans hj)
  rw [hv, hb, s.ticket_restoreStaged]
  refine ⟨((s.restoreStaged_keeps i).andThen (State.setTicket_keeps _ _ _) (by simp)).andThen (State.stage_keeps _ _) (by simp), v, ?_⟩
  rw [(State.stage_keeps _ _).ticket (by simp), State.ticket_setTicket]

theorem ticketStepComplete_restore (s : State) (i : Fin 128) (f : StepFact) (ho : s.stepOpen i = true) (hw : s.weaverOn = true)
    (hr : s.jr.readOnly = false) (hj : s.jr.noJournal = false) (hl : (s.ticket i).ledgered = true) (ht : (s.ticket i).type = 6) :
    Answers (.ticketStepComplete i f) s fun t =>
      (t.ticket i).stepPending = true ∧
      (t.ticket i).state = .running ∧
      (t.ticket i).step = (s.ticket i).step ∧
      (t.ticket i).members = s.restoreNext i ∧
      t.od.vals = s.od.vals ∧
      KeepsBut [Reg.HOSTPORT_INTSTAT_INTSTAT] [.tk, .jr, .gl, .marks] s t := by
  obtain ⟨hkeep, v, hti⟩ := s.stepRestore_ledgered i hr hj hl
  have hrunning : (s.ticket i).state = .running := by
    simp only [State.stepOpen, Bool.and_eq_true, beq_iff_eq] at ho
    exact ho.1
  refine ⟨_, exec_ticketStepComplete s i f ho hw, ?_⟩
  rw [State.typeStep_restore ht, State.settle_of_type _ _ (by rw [hti]; simp [ht]) (by rw [hti]; simp [ht])]
  exact ⟨by rw [hti], by rw [hti]; exact hrunning, by rw [hti], by rw [hti], congrArg _ ((hkeep .od).resolve_left (by decide)),
    (KeepsBut.refl _ _ s).part hkeep (by decide)⟩

theorem orphanAutoRetire_retires (s : State) (i : Fin 128) (ho : (s.ticket i).orphan = true) (hf : (s.ticket i).state.isFinal = true)
    (hp : s.passed .mount (s.odN 0x2400 5 600 * 1000 * msCycles) = true) : Answers (.orphanAutoRetire i) s fun t =>
      (t.ticket i).state = .free ∧
      (∀ j : Fin 128, j ≠ i → t.ticket j = s.ticket j) :=
  ⟨s.retireTicket i, congrArg Host.Outcome.next (if_pos ⟨ho, hf, hp⟩), by simp,
    fun _ hj => s.ticket_retireTicket_ne (Fin.val_ne_of_ne hj)⟩

/-- Settles O18: a ticket command of a served context by what it does with the slot that the handle names; a step by the end or by the
STEP record that follows it. -/
theorem ticketCommands : Obligations.TicketCommands := by
  unfold Obligations.TicketCommands
  refine ⟨ticketExecutorStart_plain, ?_, ?_, fun s c h i hp h4 hc hs hf => resultRead_answers hp h4 hc hs hf,
    fun s c h i hp h4 hc hs hf => resultConsume_answers hp h4 hc hs hf,
    fun s c h i hp h4 hc hs hf => ticketRetire_answers hp h4 hc hs hf,
    fun s c h i hp h4 hc hs hr => ticketAbort_running hp h4 hc hs hr,
    fun s c h i b hp h4 hc hs hb => ticketState_answers hp h4 hc hs b hb, ?_, ?_, ?_, ?_, ?_,
    fun s i f ho hw _ => ⟨_, exec_ticketStepComplete s i f ho hw, rfl⟩, orphanAutoRetire_retires⟩
  · intro s i word mask ho hw hp hallow ht hstep _ hpar
    exact ticketStepComplete_fuseProgram s i word mask ho hw hp hallow ht hstep hpar
  · intro s i _ ho hw hr ht hn _ hl hm hpo
    exact ticketStepComplete_read s i ho hw hr ht hn hl hm hpo
  · intro s c h i b hp h4 hc hs hcarry hb hlen
    obtain ⟨t, hexec, hresp, hvalue, hrest⟩ := resultData_answers hp h4 hc hs (Ticket.isFinal_of_carries hcarry) fun _ => hb ▸ hlen
    have hbytes : (s.ticket i).dataBytes = leBytes 2 b.length ++ b := by simp [Ticket.dataBytes, hcarry, hb]
    exact ⟨t, hexec, hbytes ▸ hresp, hbytes ▸ hvalue, hrest⟩
  · intro s c h i hp h4 hc hs hcarry hf
    obtain ⟨t, hexec, hresp, hvalue, -, hread, -, hkeep⟩ :=
      resultData_answers hp h4 hc hs hf fun h => absurd h (by simp [hcarry])
    have hbytes : (s.ticket i).dataBytes = [0, 0] := by simp [Ticket.dataBytes, hcarry]
    exact ⟨t, hexec, hbytes ▸ hresp, hbytes ▸ hvalue, hread, hkeep⟩
  · exact fun s i im ho hw ht hl hn hp => ticketStepComplete_download s i im ho hw ht hl hn hp
  · exact fun s i f ho hw hr hj hl ht => ticketStepComplete_restore s i f ho hw hr hj hl ht
  · exact fun s i f ho hw ht hop hl hn => ticketStepComplete_verify s i f ho hw ht hop hl hn

/-! ### The host port (R392 to R400; O19) -/

/-- From RUN on the host port answers. -/
theorem State.portAnswers_of_run {s : State} (hp : 4 ≤ s.pstate) : s.portAnswers = true := by
  simp [State.portAnswers, hp]

/-- From RUN on, until S4, a host command does what it says. -/
theorem State.hostCommand_served {s : State} (hp : 4 ≤ s.pstate) (h4 : s.inS4 = false) (f : State → State) :
    s.hostCommand f = f s := by
  simp [State.hostCommand, State.portAnswers_of_run hp, State.hostNotReady_false 1 hp, h4]

/-- From RUN on a DOMAIN command is a host command: the boot from the host is over. -/
theorem State.hostLoads_false {s : State} (hp : 4 ≤ s.pstate) : s.hostLoads = false := by
  simp [State.hostLoads, State.hostNotReady_false 1 hp]

theorem State.domainCommand_served {s : State} (hp : 4 ≤ s.pstate) (h4 : s.inS4 = false) (f : State → State) :
    s.domainCommand f = f s := by
  simp [State.domainCommand, State.hostLoads_false hp, State.hostCommand_served hp h4]

theorem State.hostAnswer_crc (s : State) (status : Nat) (b : List Byte) : (s.hostAnswer status b).tk.resp.crc =
    crc8 (BitVec.ofNat 8 status :: (s.hostAnswer status b).tk.resp.rdata) := by
  rw [State.resp_hostAnswer]

theorem status_answers (s : State) (hp : 4 ≤ s.pstate) : Answers (.status) s fun t =>
    t.tk.resp.status = 0 ∧
    t.tk.resp.rdata = [BitVec.ofNat 8 s.pstate, BitVec.ofNat 8 s.journalState] ∧
    t.tk.resp.crc = crc8 (0 :: t.tk.resp.rdata) ∧
    Keeps [.tk] s t :=
  ⟨_, congrArg Host.Outcome.next (if_pos (State.portAnswers_of_run hp)), rfl, rfl, s.hostAnswer_crc 0 _, s.hostAnswer_keeps _ _⟩

section
variable {s : State} (hp : 4 ≤ s.pstate) (h4 : s.inS4 = false)
include hp h4

theorem intRead_clears : Answers (.intRead) s fun t =>
    t.tk.resp.status = 0 ∧
    t.tk.resp.rdata = leBytes 2 (s.rd Reg.HOSTPORT_INTSTAT_INTSTAT) ∧
    t.tk.resp.crc = crc8 (0 :: t.tk.resp.rdata) ∧
    t.rd Reg.HOSTPORT_INTSTAT_INTSTAT = 0 ∧
    KeepsBut [Reg.HOSTPORT_INTSTAT_INTSTAT] [.tk] s t := by
  have hclear : KeepsBut [Reg.HOSTPORT_INTSTAT_INTSTAT] [.tk] s (s.wr Reg.HOSTPORT_INTSTAT_INTSTAT 0) :=
    (KeepsBut.refl _ _ s).wr _ 0 List.mem_cons_self
  refine ⟨_, congrArg Host.Outcome.next (State.hostCommand_served hp h4 _), rfl, rfl, State.hostAnswer_crc _ 0 _, ?_,
    hclear.part (State.hostAnswer_keeps _ _ _) (by decide)⟩
  exact ((State.hostAnswer_keeps _ _ _).rd (by decide) _).trans (State.rd_wr_same _ _ _)

theorem resend_keeps : Answers (.resend) s fun t => t.tk.resp = s.tk.resp ∧ Keeps [] s t :=
  ⟨s, congrArg Host.Outcome.next (State.hostCommand_served hp h4 _), rfl, Keeps.refl _ s⟩

theorem hostAccessTimeout_answers : Answers (.hostAccessTimeout) s fun t => t.tk.resp.status = 0x54 ∧ Keeps [.tk] s t :=
  ⟨_, congrArg Host.Outcome.next (State.hostCommand_served hp h4 _), rfl, s.hostAnswer_keeps _ _⟩

/-- A request with a good CRC whose command code is unknown is refused with BAD_COMMAND (R394). -/
theorem unknownCommand_badCommand {req : List Byte} {crc : Byte} (hcrc : crc8 req = crc.toNat)
    (hcode : dataFits (leValue (req.take 1) % 128) (leValue ((req.drop 1).take 3)) (req.drop 4) = none) :
    Answers (.unknownCommand req crc) s fun t => t.tk.resp.status = 0x51 ∧ Keeps [.tk] s t := by
  refine ⟨s.hostAnswer 0x51 [], ?_, rfl, s.hostAnswer_keeps _ _⟩
  change execUnknownCommand req crc s = _
  simp only [execUnknownCommand, State.portAnswers_of_run hp, hcrc, hcode, State.hostCommand_served hp h4, Bool.not_true,
    Bool.false_eq_true, ne_eq, not_true_eq_false, if_false]

/-- A request with a good CRC whose DATA has another length than its command gives it, or more than 4,104 bytes, is refused with
BAD_LENGTH (R394). -/
theorem unknownCommand_badLength {req : List Byte} {crc : Byte} {fits : Bool} (hcrc : crc8 req = crc.toNat)
    (hcode : dataFits (leValue (req.take 1) % 128) (leValue ((req.drop 1).take 3)) (req.drop 4) = some fits)
    (hfits : fits = false ∨ 4104 < (req.drop 4).length) :
    Answers (.unknownCommand req crc) s fun t => t.tk.resp.status = 0x52 ∧ Keeps [.tk] s t := by
  have hbad : ¬(fits && decide ((req.drop 4).length ≤ 4104)) = true := by
    rcases hfits with rfl | h
    · simp
    · simpa [-List.length_drop] using fun _ => h
  refine ⟨s.hostAnswer 0x52 [], ?_, rfl, s.hostAnswer_keeps _ _⟩
  change execUnknownCommand req crc s = _
  simp only [execUnknownCommand, State.portAnswers_of_run hp, hcrc, hcode, hbad, State.hostCommand_served hp h4, Bool.not_true,
    Bool.false_eq_true, ne_eq, not_true_eq_false, if_false]

end

/-- A request whose CRC fails is counted and answered, whether the device runs or wakes (R391). -/
theorem unknownCommand_crcFails (s : State) (req : List Byte) (crc : Byte) (hp : s.portAnswers = true) (hcrc : crc8 req ≠ crc.toNat) :
    Answers (.unknownCommand req crc) s fun t =>
      t.tk.resp.status = 0x50 ∧
      t.rd Reg.HOSTPORT_ERR_CRC_ERRORS = satInc 255 (s.rd Reg.HOSTPORT_ERR_CRC_ERRORS) % 256 ∧
      t.bit Reg.HOSTPORT_INTSTAT_INTSTAT 6 = true ∧
      KeepsBut [Reg.HOSTPORT_ERR_CRC_ERRORS, Reg.HOSTPORT_INTSTAT_INTSTAT] [.tk] s t := by
  have hexec : exec (.unknownCommand req crc) s =
      .next (((s.inc Reg.HOSTPORT_ERR_CRC_ERRORS).intBit 6).hostAnswer 0x50 []) :=
    congrArg Host.Outcome.next ((if_neg (by simp [hp])).trans (if_pos hcrc))
  refine ⟨_, hexec, rfl, ?_, State.bit_wrBit_true _ _ 6 (by decide), ?_⟩
  · calc _ = (s.inc Reg.HOSTPORT_ERR_CRC_ERRORS).rd Reg.HOSTPORT_ERR_CRC_ERRORS := State.rd_wr_ne _ _ _ _ (by decide)
      _ = _ := State.rd_wr_same _ _ _
  · exact (((KeepsBut.refl _ _ s).wr _ _ List.mem_cons_self).intBit 6 (List.mem_cons_of_mem _ List.mem_cons_self)).part
      (State.hostAnswer_keeps _ _ _) (by decide)

theorem hostRequestDiscarded_counts (s : State) (hp : s.portAnswers = true) : Answers (.hostRequestDiscarded) s fun t =>
    t.rd Reg.HOSTPORT_ERR_ABORTED = satInc 255 (s.rd Reg.HOSTPORT_ERR_ABORTED) % 256 ∧
    t.tk.resp = s.tk.resp ∧
    KeepsBut [Reg.HOSTPORT_ERR_ABORTED] [] s t :=
  ⟨_, congrArg Host.Outcome.next (if_pos hp), State.rd_wr_same _ _ _, rfl, (KeepsBut.refl _ _ s).wr _ _ List.mem_cons_self⟩

/-! ### INTEN, the journaled register of the host port -/

/-- HOSTPORT.INTEN. -/
def intenReg : RegSpec := { base := 0x400E0004, fields := [Reg.HOSTPORT_INTEN_INTEN] }

theorem findReg_inten : findReg 0x400E0004 = some (intenReg, 0, 0) := by decide +kernel

/-- A write of INTEN stores its 16 bits. -/
theorem regStore_inten (s : State) (v : BitVec 16) : s.regStore intenReg 0 0 v.toNat = s.wr Reg.HOSTPORT_INTEN_INTEN v.toNat := by
  have hv : fieldOf v.toNat 0 16 = v.toNat := by simp [fieldOf, Nat.mod_eq_of_lt v.isLt]
  simp [State.regStore, intenReg, State.each, State.fieldStore, Reg.HOSTPORT_INTEN_INTEN, Field.at2, Legal.ok, hv]

/-- A write of INTEN over the expert map stores it, and stages the value that it changed (R15). -/
theorem expertWrite_inten (s : State) (v : BitVec 16) (w : Writer) : s.expertWrite 0x400E0004 v.toNat w 2 0 =
    (0, (s.wr Reg.HOSTPORT_INTEN_INTEN v.toNat).jStage s intenReg 0 0x400E0004) := by
  have hv : v.toNat % 2 ^ 32 = v.toNat := Nat.mod_eq_of_lt (by have := v.isLt; omega)
  have hplain : s.regWrite intenReg 0 0 v.toNat w = (0, s.wr Reg.HOSTPORT_INTEN_INTEN v.toNat) := by
    rw [← regStore_inten]
    simp [State.regWrite, State.regRefused, State.writeStage, intenReg, within]
  rw [expertWrite_register s _ _ 2 w (intenReg, 0, 0) (by decide) (by decide) (.inl (by decide)) (by decide) findReg_inten,
    linkCarry_digital s _ 0 (by decide), hv]
  simp only [State.regWriteJ, hplain]
  rfl

theorem intEnable_writes (s : State) (v : BitVec 16) (hp : 4 ≤ s.pstate) (h4 : s.inS4 = false) : Answers (.intEnable v) s fun t =>
    t.rd Reg.HOSTPORT_INTEN_INTEN = v.toNat ∧
    t.tk.resp.status = 0 ∧
    t.tk.resp.rdata = [] ∧
    t.tk.resp.crc = crc8 [0] ∧
    KeepsBut [Reg.HOSTPORT_INTEN_INTEN] [.tk, .jr, .gl, .marks] s t := by
  have hstage : Keeps [.jr, .gl, .marks] (s.wr Reg.HOSTPORT_INTEN_INTEN v.toNat)
      ((s.wr Reg.HOSTPORT_INTEN_INTEN v.toNat).jStage s intenReg 0 0x400E0004) := State.stages_keeps _ _
  refine ⟨_, congrArg Host.Outcome.next (State.hostCommand_served hp h4 _), ?_⟩
  simp only [expertWrite_inten]
  refine ⟨?_, rfl, rfl, rfl, ?_⟩
  · rw [(State.hostAnswer_keeps _ _ _).rd (by decide), hstage.rd (by decide), State.rd_wr_same]
    exact Nat.mod_eq_of_lt v.isLt
  · exact (((KeepsBut.refl _ _ s).wr _ _ List.mem_cons_self).part (hstage.mono (by simp)) (by decide)).part
      ((State.hostAnswer_keeps _ _ _).mono (by simp)) (by decide)

/-! ### Admission of a download (R339, R340, R344) -/

/-- A ticket as its admission into slot `i` leaves it. -/
def State.admitted (s : State) (i : Nat) (t : Ticket) : Ticket :=
  { t with state := .queued, gen := s.jr.epoch * 1024 + s.tk.counts.get 0 i % 1024, order := s.tk.nextOrder, firstStaged := t.ledgered }

/-- The slots with a ticket admitted into slot `i`, before its first record is staged. -/
def State.slotAdmitted (s : State) (i : Nat) (t : Ticket) : State :=
  State.setTicket { s with tk := { s.tk with counts := s.tk.counts.set 0 i (s.tk.counts.get 0 i + 1), nextOrder := s.tk.nextOrder + 1 } }
    i (s.admitted i t)

theorem State.slotAdmitted_keeps (s : State) (i : Nat) (t : Ticket) : Keeps [.tk] s (s.slotAdmitted i t) :=
  fun p => by cases p <;> simp [Part.same, State.slotAdmitted]

@[simp] theorem State.ticket_slotAdmitted (s : State) (i : Nat) (t : Ticket) : (s.slotAdmitted i t).ticket i = s.admitted i t :=
  State.ticket_setTicket _ _ _

theorem State.ticket_slotAdmitted_ne (s : State) (t : Ticket) {i j : Nat} (hj : j ≠ i) : (s.slotAdmitted i t).ticket j = s.ticket j :=
  State.ticket_setTicket_ne _ _ _ _ hj

/-- Admission takes the lowest free slot, answers its handle, and stages the first record of a ledgered ticket. -/
theorem State.admitTicket_free (s : State) (t : Ticket) {i : Nat} (h : s.freeSlot = some i) :
    ∃ u, s.admitTicket t = some (u, (s.slotAdmitted i t).handleOf i) ∧ Keeps [.jr, .gl, .marks] (s.slotAdmitted i t) u := by
  have hhandle : (s.slotAdmitted i t).handleOf i = handleWord t.client (s.admitted i t).gen i := by
    rw [State.handleOf, State.ticket_slotAdmitted]
    rfl
  refine ⟨if t.ledgered then
    (s.slotAdmitted i t).stage (firstRecord (handleWord t.client (s.admitted i t).gen i) (s.admitted i t)) else s.slotAdmitted i t, ?_, ?_⟩
  · rw [hhandle]
    simp only [State.admitTicket, h]
    rfl
  · split
    · exact State.stage_keeps _ _
    · exact Keeps.refl _ _

/-- Admission for a context whose quota has room: slot `i` holds the ticket QUEUED, and PENDING is answered with its handle (R290). -/
theorem State.admitFor_free (s : State) (t : Ticket) {i : Nat} (hq : s.quotaFree 1 = true) (h : s.freeSlot = some i) :
    (s.admitFor 1 t).ticket i = s.admitted i t ∧ (∀ j, j ≠ i → (s.admitFor 1 t).ticket j = s.ticket j) ∧
      (s.admitFor 1 t).od.answer.code = 0x40 ∧ (s.admitFor 1 t).od.answer.handle = some ((s.admitFor 1 t).handleOf i) ∧
      Keeps [.od, .tk, .jr, .gl, .marks] s (s.admitFor 1 t) := by
  obtain ⟨u, hu, hkeep⟩ := s.admitTicket_free t h
  have hroom : ¬ (s.ctx 1).quota ≤ (s.heldBy 1).length := by simpa [State.quotaFree] using hq
  have heq : s.admitFor 1 t = u.odReply 1 0x40 none (some ((s.slotAdmitted i t).handleOf i)) := by
    simp [State.admitFor, hroom, hu]
  have hticket (j : Nat) : (s.admitFor 1 t).ticket j = (s.slotAdmitted i t).ticket j := by
    rw [heq]
    exact hkeep.ticket (by simp) j
  refine ⟨(hticket i).trans (s.ticket_slotAdmitted i t), fun j hj => (hticket j).trans (s.ticket_slotAdmitted_ne t hj), ?_, ?_, ?_⟩
  · rw [heq]; rfl
  · rw [State.handleOf, hticket i, heq]; rfl
  · rw [heq]
    have hreply : Keeps [.od, .tk] u (u.odReply 1 0x40 none (some ((s.slotAdmitted i t).handleOf i))) :=
      ((u.odAnswer_keeps _ _ _ _ _).mono (by simp)).andThen (State.hostAnswer_keeps _ _ _) (by simp)
    exact (((s.slotAdmitted_keeps i t).mono (by simp)).andThen hkeep (by simp)).andThen hreply (by simp)

/-- Checks 1 and 2 of a context that is open and has no token to wait for pass, and change nothing. -/
theorem State.accessOpen_open {s : State} {c : Nat} (h : s.contextOpen c = true) : s.accessOpen c true = (0, s) := by
  simp only [State.contextOpen, Bool.and_eq_true, bne_iff_ne, beq_iff_eq] at h
  obtain ⟨⟨-, h6⟩, hrate⟩ := h
  simp [State.accessOpen, State.takeToken, h6, hrate]

/-- The staging cells of a download are lent, and what an earlier one staged is gone (R581). -/
def State.cellsStaged (s : State) : State := { s with img := { s.img with staged := none, stagedCells := true } }

/-- DOMAIN_OPEN of a download in RUN whose checks pass lends the staging cells and admits its ticket. -/
theorem exec_domainOpen_run (s : State) (total : Word) (first : BitVec 16) (hp : s.pstate = 4) (hc : s.contextOpen 1 = true)
    (he : s.checkEntry 1 0x2202 0 true = 0) (h0 : 0 < total.toNat) (hmax : total.toNat ≤ domainMax) (hs : s.standby = false)
    (hlend : s.stageReturn.cellsLend 2048 = true) : exec (.domainOpen 0x2202 0 false total first) s =
      .next (s.cellsStaged.admitFor 1 (s.domainTicket total.toNat first.toNat)) := by
  have hrun : 4 ≤ s.pstate := hp.ge
  have h4 : s.inS4 = false := by simp [State.inS4, hp]
  have hlen : ¬(total.toNat = 0 ∨ domainMax < total.toNat) := by omega
  have hstage : s.domainStage total.toNat first.toNat = s.cellsStaged.admitFor 1 (s.domainTicket total.toNat first.toNat) :=
    if_neg (by simp [hlend])
  have he' : s.checkEntry 1 (0x2202 : BitVec 16).toNat (0 : Byte).toNat true = 0 := he
  refine congrArg Host.Outcome.next ((if_neg (by simp [State.hostLoads_false hrun])).trans
    ((State.hostCommand_served hrun h4 _).trans ?_))
  simp only [State.accessOpen_open hc, he', hs, hlen, hstage, Bool.not_false, ne_eq, not_true_eq_false, if_false, Bool.false_eq_true]
  exact if_neg (not_not.2 rfl)

theorem domainOpen_run (s : State) (total : Word) (first : BitVec 16) (i : Fin 128) (hp : s.pstate = 4) (hc : s.contextOpen 1 = true)
    (he : s.checkEntry 1 0x2202 0 true = 0) (h0 : 0 < total.toNat) (hmax : total.toNat ≤ domainMax) (hs : s.standby = false)
    (hlend : s.stageReturn.cellsLend 2048 = true) (hq : s.quotaFree 1 = true) (hf : s.freeSlot = some i.val) :
    Answers (.domainOpen 0x2202 0 false total first) s fun t =>
      (t.ticket i).state = .queued ∧
      (t.ticket i).type = 3 ∧
      (t.ticket i).steps = (total.toNat + 4095) / 4096 + 1 ∧
      t.od.answer.code = 0x40 ∧
      t.img.stagedCells = true := by
  obtain ⟨hticket, -, hcode, -, hkeep⟩ :=
    State.admitFor_free s.cellsStaged (s.domainTicket total.toNat first.toNat) (i := i) hq hf
  refine ⟨_, exec_domainOpen_run s total first hp hc he h0 hmax hs hlend, by rw [hticket]; rfl, by rw [hticket]; rfl,
    by rw [hticket]; rfl, hcode, ?_⟩
  exact congrArg ImageState.stagedCells ((hkeep .img).resolve_left (by decide))

theorem domainOpen_load (s : State) (total : Word) (first : BitVec 16) (i : Fin 128) (hl : s.hostLoads = true) (h0 : 0 < total.toNat)
    (hmax : total.toNat ≤ domainMax) (hq : s.quotaFree 1 = true) (hf : s.freeSlot = some i.val) :
    Answers (.domainOpen 0x2202 0 false total first) s fun t =>
      AdmittedAs s t i 3 1 ∧ (t.ticket i).steps = (total.toNat + 4095) / 4096 + 1 := by
  obtain ⟨hticket, hothers, hcode, hhandle, hkeep⟩ :=
    s.admitFor_free (s.domainTicket total.toNat first.toNat) (i := i) hq hf
  refine ⟨_, congrArg Host.Outcome.next ((if_pos (by simp [hl])).trans ((if_neg h0.ne').trans (if_neg hmax.not_gt))), ⟨?_, ?_, ?_, ?_,
    hcode, hhandle, fun j hj => hothers j (Fin.val_ne_of_ne hj), (KeepsBut.refl _ _ s).part hkeep (by decide)⟩, ?_⟩ <;>
  · rw [hticket]
    rfl

theorem domainOpen_endOfSet (s : State) (first : BitVec 16) (hl : s.hostLoads = true) :
    Answers (.domainOpen 0x2202 0 false 0 first) s fun t =>
      t.img.hostImages = s.img.hostImages ++ [none] ∧ t.tk.resp.status = 0 ∧ Keeps [.img, .od, .tk] s t := by
  have himg : Keeps [.img] s { s with img := { s.img with hostImages := s.img.hostImages ++ [none] } } :=
    fun p => by cases p <;> simp [Part.same]
  refine ⟨_, congrArg Host.Outcome.next ((if_pos (by simp [hl])).trans (if_pos rfl)), rfl, rfl, ?_⟩
  exact ((himg.mono (by simp)).andThen (State.odAnswer_keeps _ 1 0 none none 0) (by simp)).andThen (State.hostAnswer_keeps _ _ _)
    (by simp)

/-- A download with the bytes of one more segment. -/
def Ticket.withSegment (t : Ticket) (b : List Byte) : Ticket := { t with data := t.data ++ [.bytes b] }

/-- A segment of the length that the ticket waits for completes its step, which is not the last: the hand-over follows (R344). -/
theorem domainPut_segment (s : State) (h : Word) (k : BitVec 16) (b : List Byte) (i : Fin 128) (hp : 4 ≤ s.pstate) (h4 : s.inS4 = false)
    (hs : s.slotOf 1 h.toNat = some i.val) (ht : (s.ticket i).type = 3) (ho : s.stepOpen i = true)
    (hl : (s.ticket i).ledgered = false) (hk : k.toNat = (s.ticket i).step + 1) (hn : k.toNat < (s.ticket i).steps)
    (ha : (s.ticket i).abortPending = false)
    (hb : b.length = min 4096 (paramAt (s.ticket i).params 0 4 - 4096 * (s.ticket i).step)) : Answers (.domainPut h k b) s fun t =>
      t.tk.resp.status = 0 ∧
      (t.ticket i).step = k.toNat ∧
      (t.ticket i).data = (s.ticket i).data ++ [.bytes b] ∧
      Keeps [.tk] s t := by
  have hdone := State.stepDone_middle (s.setTicket i ((s.ticket i).withSegment b)) i .uint (paramAt (s.ticket i).params 0 4)
    (by rw [State.ticket_setTicket]; exact hl) (by rw [State.ticket_setTicket]; exact hk ▸ hn) (by rw [State.ticket_setTicket]; exact ha)
  rw [State.ticket_setTicket] at hdone
  have hsettle : ((s.setTicket i ((s.ticket i).withSegment b)).setTicket i ((s.ticket i).withSegment b).stepped).settle i =
      (s.setTicket i ((s.ticket i).withSegment b)).setTicket i ((s.ticket i).withSegment b).stepped :=
    State.settle_of_type _ _ (by simp [Ticket.stepped, Ticket.withSegment, ht]) (by simp [Ticket.stepped, Ticket.withSegment, ht])
  have hexec : exec (.domainPut h k b) s = .next
      (((s.setTicket i ((s.ticket i).withSegment b)).setTicket i ((s.ticket i).withSegment b).stepped).hostAnswer 0 []) := by
    refine congrArg Host.Outcome.next ((State.domainCommand_served hp h4 _).trans ?_)
    simp only [hs]
    rw [if_neg (by simp [ht, ho, hk]; omega), if_neg (by simp [hb]), ← hsettle, ← hdone]
    rfl
  refine ⟨_, hexec, rfl, ?_, ?_, ?_⟩
  · rw [State.ticket_hostAnswer, State.ticket_setTicket, hk]
    rfl
  · rw [State.ticket_hostAnswer, State.ticket_setTicket]
    rfl
  · exact ((State.setTicket_keeps _ _ _).trans (State.setTicket_keeps _ _ _)).trans (State.hostAnswer_keeps _ _ _)

/-- No entry accepts an upload: a handle of the host names none (R344). -/
theorem domainGet_refused (s : State) (h : Word) (k : BitVec 16) (i : Nat) (hp : 4 ≤ s.pstate) (h4 : s.inS4 = false)
    (hs : s.slotOf 1 h.toNat = some i) : Answers (.domainGet h k) s fun t => t.tk.resp.status = 0x0B ∧ Keeps [.tk] s t := by
  refine ⟨s.hostAnswer 0x0B [], congrArg Host.Outcome.next ((State.domainCommand_served hp h4 _).trans ?_), rfl,
    s.hostAnswer_keeps _ _⟩
  simp only [hs]

/-- Settles O19: each host command by the response that it leaves; a download by the admission of its ticket and by the steps that its
segments complete. -/
theorem hostPortCommands : Obligations.HostPortCommands := by
  unfold Obligations.HostPortCommands
  exact ⟨status_answers, fun s hp h4 => intRead_clears hp h4, intEnable_writes, fun s hp h4 => resend_keeps hp h4,
    unknownCommand_crcFails, fun s req crc hp h4 hcrc hcode => unknownCommand_badCommand hp h4 hcrc hcode,
    fun s req crc fits hp h4 hcrc hcode hfits => unknownCommand_badLength hp h4 hcrc hcode hfits, hostRequestDiscarded_counts,
    fun s hp h4 => hostAccessTimeout_answers hp h4, domainOpen_run, domainOpen_load, domainOpen_endOfSet, domainPut_segment,
    domainGet_refused⟩

/-! ### The restart cause of a wake that took a second attempt (R124, R125; O7) -/

/-- A machine in W8 after its mount, in the safe ROM: the second attempt of a wake that follows a loss of VHV. -/
def secondAttempt : State :=
  { State.reset with jr := { mountSeq := 1 }, pow := { firstPower := false, attempt := 2, lastTrigger := 1 } }

theorem imageSetLoad_secondAttempt :
    nextOf (exec .imageSetLoad secondAttempt) (fun t => t.rd Reg.SYS_RSTCAUSE_CAUSE == 7) = true := by
  decide +kernel

/-- Refutes O7: the clause of the restart cause names `s.wakeCause` without its argument, which says whether an attempt has failed. It so
compares a number with a function, and the equation elaborates to the function that is that number for both arguments. The cause is not one
number for both: a second attempt after a loss of VHV records 7, and the cause without a failed attempt is 5. -/
theorem not_wakeLoads : ¬ Obligations.WakeLoads := by
  unfold Obligations.WakeLoads
  rintro ⟨-, -, -, -, -, -, -, -, -, -, -, hcause, -⟩
  refine not_answers_of_nextOf imageSetLoad_secondAttempt (fun t ht => ?_)
    (hcause secondAttempt (by decide +kernel) (by decide +kernel) (by decide +kernel) (by decide +kernel))
  rintro ⟨-, hfun, -⟩
  have hfive : t.rd Reg.SYS_RSTCAUSE_CAUSE = 5 := congrFun hfun false
  exact absurd (hfive.symm.trans (eq_of_beq ht)) (by decide)

/-! ### The SWITCH of a copy whose only record is its BOLT_HEAD (R380; O12) -/

/-- A machine in RUN whose copy still holds one record, the BOLT_HEAD of generation 2, and whose standby bolt holds none. -/
def headToCopy : State := { atRun with jr := { phase := .copying, toCopy := [.boltHead 2] } }

theorem fullingPageProgram_headToCopy :
    nextOf (exec .fullingPageProgram headToCopy) (fun t => (t.bolt 1).recs == [⟨1, .boltHead 2⟩, ⟨2, .switch 2⟩]) = true := by
  decide +kernel

/-- Refutes O12: the clause of the switch-over names in the SWITCH record the generation of the standby bolt before the last page. The
model takes it after that page, as a SWITCH must name the generation of its bolt (R368): where the last record of the copy is the BOLT_HEAD
of an empty bolt, the bolt has no generation before it and generation 2 after it. -/
theorem not_journalCommands : ¬ Obligations.JournalCommands := by
  unfold Obligations.JournalCommands
  rintro ⟨-, -, -, -, -, -, -, -, -, hswitch, -⟩
  refine not_answers_of_nextOf fullingPageProgram_headToCopy (fun t ht => ?_)
    (hswitch headToCopy (.boltHead 2) (by decide +kernel) (by decide +kernel) (by decide +kernel) (by decide +kernel)
      (by decide +kernel) (by decide +kernel) (by decide +kernel))
  rintro ⟨-, -, -, hlast⟩
  have hrecs : (t.bolt headToCopy.standbyBolt).recs = [⟨1, .boltHead 2⟩, ⟨2, .switch 2⟩] := eq_of_beq ht
  rw [hrecs] at hlast
  exact absurd hlast (by decide +kernel)

end Sys2Proof.Machine

/-! ## Scope: the accesses of the memory banks, and the word that a read or the scrubber corrects -/

namespace Sys2Proof.Machine

/-! ### What an access leaves beside the memory -/

theorem State.memAnswer_keeps (s : State) (st : MemStatus) (w : MemWord) : Keeps [.mem] s (s.memAnswer st w) :=
  fun p => by cases p <;> simp [Part.same, State.memAnswer]

theorem State.setWord_keeps (s : State) (b off : Nat) (w : MemWord) : Keeps [.mem] s (s.setWord b off w) :=
  fun p => by cases p <;> simp [Part.same, State.setWord]

/-- An access that stores one word and is answered OK leaves every other word. -/
theorem answers_stored {c : Instr} {s : State} {b : Fin 26} {off : Fin 65536} {w : MemWord}
    (h : exec c s = .next ((s.setWord b off w).memAnswer .ok {})) : Answers c s fun t =>
      t.word b off = w ∧ t.mem.answer.status = .ok ∧
        (∀ (d : Fin 26) (o : Fin 65536), (d, o) ≠ (b, off) → t.word d o = s.word d o) ∧ Keeps [.mem] s t := by
  refine ⟨_, h, s.word_setWord_same b off w, rfl, fun d o hne => ?_,
    (s.setWord_keeps b off w).trans (State.memAnswer_keeps _ _ _)⟩
  refine s.word_setWord_ne b d off o w off.isLt o.isLt fun hsame => hne ?_
  exact Prod.ext (Fin.ext hsame.1) (Fin.ext hsame.2)

/-! ### Accesses to a bank that no destructive run holds (R425, R447) -/

section
variable {s : State} {b : Fin 26} {off : Fin 65536}

theorem exec_memoryRead_served (src : Fin 16) (hoff : off < bankWords b) (hfree : s.bankBusy b = false) :
    exec (.memoryRead b off src) s = .next (s.readServed b off src) := by
  change execMemoryRead b off src s = _
  simp [execMemoryRead, hoff, hfree]

theorem exec_wholeWordWrite_served (tag : Tag) (v : BitVec 64) (met : Bool) (hoff : off < bankWords b)
    (hfree : s.bankBusy b = false) : exec (.wholeWordWrite b off tag v met) s = .next (s.writeServed b off tag v met) := by
  change execWholeWordWrite b off tag v met s = _
  simp [execWholeWordWrite, hoff, hfree]

theorem exec_partialWrite_served (p : PartWrite) (src : Fin 16) (met : Bool) (hoff : off < bankWords b)
    (hfree : s.bankBusy b = false) (hfits : writeFits p b = true) :
    exec (.partialWrite b off p src met) s = .next (s.partServed b off src p met) := by
  change execPartialWrite b off p src met s = _
  simp [execPartialWrite, hoff, hfree, hfits]

end

/-! ### Reads (R428 to R430) -/

theorem readServed_clean {s : State} {b off : Nat} (src : Nat) (hp : (s.word b off).poisoned = false)
    (hc : (s.word b off).ecc = .clean) : s.readServed b off src = s.memAnswer .ok (s.word b off) := by
  simp [State.readServed, State.memRead, hp, hc]

theorem readServed_poisoned {s : State} {b off : Nat} (src : Nat) (hp : (s.word b off).poisoned = true) :
    s.readServed b off src =
      s.memAnswer .poisoned { s.word b off with tag := if bankTagged b then .trap else (s.word b off).tag } := by
  simp [State.readServed, State.memRead, hp]

theorem readServed_single {s : State} {b off : Nat} (src : Nat) (hp : (s.word b off).poisoned = false)
    (hc : (s.word b off).ecc = .single) :
    s.readServed b off src = (s.logCe b off src).memAnswer .okCorrected { s.word b off with ecc := .clean } := by
  simp [State.readServed, State.memRead, hp, hc]

/-! ### Writes (R431, R434) -/

/-- While no injection is armed, a whole-word write stores a clean word. -/
theorem memWrite_unarmed {s : State} (b off : Nat) (tag : Tag) (v : BitVec 64) (harm : s.rd Reg.MEM_INJ_ARM = 0) :
    s.memWrite b off tag v = s.setWord b off { tag := tag, val := v } := by
  simp [State.memWrite, State.on, harm]

@[simp] theorem portBMet_alone (s : State) (b : Nat) : s.portBMet b false = s := rfl

/-- Every bank with a second port is tagged memory, so no port-B write meets a write of an untagged bank (R424). -/
theorem portBMet_untagged (s : State) {b : Nat} (met : Bool) (hb : bankTagged b = false) : s.portBMet b met = s := by
  have hport : ¬ b < 8 := fun hlt => by simp [bankTagged, hlt] at hb
  simp [State.portBMet, hport]

theorem writeServed_tagged {s : State} {b : Nat} (off : Nat) {tag : Tag} (v : BitVec 64) (hb : bankTagged b = true)
    (htag : tag ≠ .reserved) (harm : s.rd Reg.MEM_INJ_ARM = 0) : s.writeServed b off tag v false =
      (s.setWord b off { tag := tag, val := BitVec.ofNat 64 (v.toNat % 2 ^ 32) }).memAnswer .ok {} := by
  simp [State.writeServed, hb, htag, memWrite_unarmed _ _ _ _ harm]

theorem writeServed_untagged {s : State} {b : Nat} (off : Nat) (tag : Tag) (v : BitVec 64) (met : Bool)
    (hb : bankTagged b = false) (harm : s.rd Reg.MEM_INJ_ARM = 0) :
    s.writeServed b off tag v met = (s.setWord b off { tag := .nil, val := v }).memAnswer .ok {} := by
  simp [State.writeServed, hb, portBMet_untagged, memWrite_unarmed _ _ _ _ harm]

theorem partServed_clean {s : State} {b off : Nat} {p : PartWrite} (src : Nat) (hp : p ≠ .tag .reserved)
    (hw : (s.word b off).poisoned = false) (hc : (s.word b off).ecc = .clean) :
    s.partServed b off src p false = (s.setWord b off (mergeWord p (s.word b off))).memAnswer .ok {} := by
  simp [State.partServed, hp, State.memPartial, hw, hc]

/-- Settles O8: each access by the state in which it is served; the stores by the one word that they put. -/
theorem memoryAccess : Obligations.MemoryAccess := by
  unfold Obligations.MemoryAccess
  refine ⟨fun s b off src hoff hfree hp hc => ?_, fun s b off src hoff hfree hp => ?_,
    fun s b off tag v hoff hfree hb htag harm => ?_, fun s b off tag v met hoff hfree hb harm => ?_,
    fun s b off p src hoff hfree hfits hp hw hc => ?_⟩
  · have hread := exec_memoryRead_served src hoff hfree
    rw [readServed_clean src hp hc] at hread
    exact ⟨_, hread, rfl, rfl, rfl, s.memAnswer_keeps _ _⟩
  · have hread := exec_memoryRead_served src hoff hfree
    rw [readServed_poisoned src hp] at hread
    exact ⟨_, hread, rfl, rfl, s.memAnswer_keeps _ _⟩
  · exact answers_stored ((exec_wholeWordWrite_served tag v false hoff hfree).trans
      (congrArg _ (writeServed_tagged off v hb htag harm)))
  · exact answers_stored ((exec_wholeWordWrite_served tag v met hoff hfree).trans
      (congrArg _ (writeServed_untagged off tag v met hb harm)))
  · exact answers_stored ((exec_partialWrite_served p src false hoff hfree hfits).trans
      (congrArg _ (partServed_clean src hp hw hc)))

/-! ### The log of a corrected error (R419, R433) -/

section
variable (s : State) (b off src : Nat) (ue : Bool)

theorem rd_errLog_ue : (s.errLog b off src ue).2.rd Reg.MEM_ERRADDR_UE = b2n ue % 2 ^ Reg.MEM_ERRADDR_UE.w := by
  simp (disch := decide) [State.errLog]

theorem rd_errLog_bank : (s.errLog b off src ue).2.rd Reg.MEM_ERRADDR_BANK = b % 2 ^ Reg.MEM_ERRADDR_BANK.w := by
  simp (disch := decide) [State.errLog]

theorem rd_errLog_offset : (s.errLog b off src ue).2.rd Reg.MEM_ERRADDR_OFFSET = off % 2 ^ Reg.MEM_ERRADDR_OFFSET.w := by
  simp (disch := decide) [State.errLog]

theorem rd_errLog_source : (s.errLog b off src ue).2.rd Reg.MEM_ERRSRC_SOURCE = src % 2 ^ Reg.MEM_ERRSRC_SOURCE.w :=
  State.rd_wr_same _ _ _

end

/-- The registers show a corrected error at a word, met by requester `src`. -/
structure ShowsCe (b off src : Nat) (t : State) : Prop where
  ce : t.rd (Reg.MEM_BANK_STAT_CE.at b) = 1
  ue : t.rd Reg.MEM_ERRADDR_UE = 0
  bank : t.rd Reg.MEM_ERRADDR_BANK = b
  offset : t.rd Reg.MEM_ERRADDR_OFFSET = off % 65536
  source : t.rd Reg.MEM_ERRSRC_SOURCE = src

/-- The error registers and the state of the bank, once a corrected error has been written into them. -/
def State.ceWritten (s : State) (b off src : Nat) : State :=
  ((s.errLog b off src false).2.inc (Reg.MEM_BANK_STAT_CE_COUNT.at b)).wr (Reg.MEM_BANK_STAT_CE.at b) 1

theorem ceWritten_mem (s : State) (b off src : Nat) : (s.ceWritten b off src).mem = s.mem := rfl

theorem State.odPutU_keeps (s : State) (i j v : Nat) : Keeps [.od] s (s.odPutU i j v) :=
  fun p => by cases p <;> simp [Part.same, State.odPutU]

/-- After its registers a corrected error of a bank puts its address into the dictionary and may post an event. -/
theorem logCe_keepsBut (s : State) {b : Nat} (off src : Nat) (hb : b < 26) :
    KeepsBut [Reg.HOSTPORT_INTSTAT_INTSTAT] [.od, .tk, .jr, .gl, .marks] (s.ceWritten b off src) (s.logCe b off src) := by
  have hput := (KeepsBut.refl [Reg.HOSTPORT_INTSTAT_INTSTAT] [.od, .tk, .jr, .gl, .marks] (s.ceWritten b off src)).part
    ((State.odPutU_keeps _ (0x2310 + b) 6 off).mono (by simp)) (by simp)
  unfold State.logCe
  extract_lets r data k f s1
  rw [if_neg (by omega)]
  split
  · exact hput.event _ _ _ (by simp) (by simp) (by simp)
  · exact hput

theorem logCe_mem (s : State) {b : Nat} (off src : Nat) (hb : b < 26) : (s.logCe b off src).mem = s.mem :=
  (((logCe_keepsBut s off src hb).2 .mem).resolve_left (by simp)).trans (ceWritten_mem s b off src)

theorem word_logCe (s : State) {b : Nat} (off src : Nat) (hb : b < 26) (c o : Nat) :
    (s.logCe b off src).word c o = s.word c o := word_congr (congrArg MemState.mem (logCe_mem s off src hb)) c o

/-- The bits of MEM.BANK_STAT lie below MEM.ERRADDR and MEM.ERRSRC. -/
theorem bankStat_key_lt {b : Nat} (hb : b < 26) : (Reg.MEM_BANK_STAT_CE_COUNT.at b).key < Reg.MEM_ERRADDR_OFFSET.key ∧
    (Reg.MEM_BANK_STAT_CE.at b).key < (Reg.MEM_BANK_STAT_CE_COUNT.at b).key := by
  simp only [Field.key, Field.at, Reg.MEM_BANK_STAT_CE_COUNT, Reg.MEM_BANK_STAT_CE, Reg.MEM_ERRADDR_OFFSET]
  omega

/-- The state of the bank leaves the fields of the error log. -/
theorem rd_ceWritten (s : State) {b : Nat} (off src : Nat) (hb : b < 26) (f : Field) (hf : Reg.MEM_ERRADDR_OFFSET.key ≤ f.key) :
    (s.ceWritten b off src).rd f = (s.errLog b off src false).2.rd f := by
  obtain ⟨hcount, hce⟩ := bankStat_key_lt hb
  exact (State.rd_wr_ne _ _ _ _ (by omega)).trans (State.rd_wr_ne _ _ _ _ (by omega))

theorem showsCe_ceWritten (s : State) {b : Nat} (off : Nat) {src : Nat} (hb : b < 26) (hsrc : src < 16) :
    ShowsCe b off src (s.ceWritten b off src) where
  ce := State.rd_wr_same _ _ 1
  ue := (rd_ceWritten s off src hb _ (by decide)).trans (rd_errLog_ue _ _ _ _ false)
  bank := (rd_ceWritten s off src hb _ (by decide)).trans
    ((rd_errLog_bank _ _ _ _ _).trans (Nat.mod_eq_of_lt (hb.trans (by decide))))
  offset := (rd_ceWritten s off src hb _ (by decide)).trans (rd_errLog_offset _ _ _ _ _)
  source := (rd_ceWritten s off src hb _ (by decide)).trans ((rd_errLog_source _ _ _ _ _).trans (Nat.mod_eq_of_lt hsrc))

/-- What a state shows of a corrected error depends on no field of the host port. -/
theorem ShowsCe.keeps {b off src : Nat} {l : List Part} {s t : State} (h : ShowsCe b off src s) (hb : b < 26)
    (k : KeepsBut [Reg.HOSTPORT_INTSTAT_INTSTAT] l s t) : ShowsCe b off src t := by
  have hrd (f : Field) (hf : f.key < Reg.HOSTPORT_INTSTAT_INTSTAT.key) : t.rd f = s.rd f :=
    (k.1 f).resolve_left (by simpa using hf.ne)
  have hlast : Reg.MEM_ERRADDR_OFFSET.key < Reg.HOSTPORT_INTSTAT_INTSTAT.key := by decide
  obtain ⟨hcount, hce⟩ := bankStat_key_lt hb
  exact ⟨(hrd _ (by omega)).trans h.ce, (hrd _ (by decide)).trans h.ue, (hrd _ (by decide)).trans h.bank,
    (hrd _ (by decide)).trans h.offset, (hrd _ (by decide)).trans h.source⟩

theorem showsCe_logCe (s : State) {b : Nat} (off : Nat) {src : Nat} (hb : b < 26) (hsrc : src < 16) :
    ShowsCe b off src (s.logCe b off src) :=
  (showsCe_ceWritten s off hb hsrc).keeps hb (logCe_keepsBut s off src hb)

/-! ### The scrubber at a word with a single-bit error (R428, R437) -/

/-- The state in which the scrubber of bank `b` stands at offset `n`. -/
def State.withScrubPos (s : State) (b n : Nat) : State :=
  { s with mem := { s.mem with scrubPos := s.mem.scrubPos.set 0 b n } }

/-- The scrubber stores a word with a single-bit error corrected, logs it as its own (requester 0) and moves on. -/
theorem scrubWord_single {s : State} {b off : Nat} (hoff : s.mem.scrubPos.get 0 b = off) (hp : (s.word b off).poisoned = false)
    (hc : (s.word b off).ecc = .single) : s.scrubWord b false =
      ((s.setWord b off { s.word b off with ecc := .clean }).logCe b off 0).withScrubPos b ((off + 1) % bankWords b) := by
  subst hoff
  simp [State.scrubWord, hp, hc, State.withScrubPos]

/-- What the visit shows is what the log wrote, and the word that it stored stands. -/
theorem scrubWord_corrects {s : State} {b off : Nat} (hb : b < 26) (hoff : s.mem.scrubPos.get 0 b = off)
    (hp : (s.word b off).poisoned = false) (hc : (s.word b off).ecc = .single) :
    (s.scrubWord b false).word b off = { s.word b off with ecc := .clean } ∧ ShowsCe b off 0 (s.scrubWord b false) := by
  rw [scrubWord_single hoff hp hc]
  obtain ⟨hce, hue, hbank, hoffset, hsource⟩ :=
    showsCe_logCe (s.setWord b off { s.word b off with ecc := .clean }) off hb (show 0 < 16 by decide)
  exact ⟨(word_logCe _ off 0 hb b off).trans (s.word_setWord_same b off _), hce, hue, hbank, hoffset, hsource⟩

/-- Settles O10: the read answers a corrected copy, the scrubber stores one, and both log the error in the same way. -/
theorem correctedRead : Obligations.CorrectedRead := by
  unfold Obligations.CorrectedRead
  refine ⟨fun s b off src hoff hfree hp hc => ?_, fun s b hon hfree hp hc => ?_⟩
  · have hread := exec_memoryRead_served src hoff hfree
    rw [readServed_single src hp hc] at hread
    have hmem : (s.logCe b off src).mem.mem = s.mem.mem := congrArg MemState.mem (logCe_mem s off src b.isLt)
    obtain ⟨hce, hue, hbank, hoffset, hsource⟩ := showsCe_logCe s off b.isLt src.isLt
    exact ⟨_, hread, rfl, rfl, hmem, hce, hue, hbank, hoffset.trans (Nat.mod_eq_of_lt off.isLt), hsource⟩
  · have hvisit : exec (.scrubStep ⟨b.val, Nat.lt_of_lt_of_le b.isLt (by decide)⟩ false false) s =
        .next ((s.withDefer (0 * 64 + b) 0).scrubWord b false) := by
      change execScrubStep _ false false s = _
      simp [execScrubStep, hon, hfree, bgSlot_quiet]
    obtain ⟨hword, hshows⟩ := scrubWord_corrects (s := s.withDefer (0 * 64 + b) 0) b.isLt rfl hp hc
    exact ⟨_, hvisit, hword, hshows.ce, hshows.source⟩

end Sys2Proof.Machine

/-! ## Scope: the Eurnafa instructions on registers, and the traps -/

namespace Sys2Proof.Machine

/-! ### What fetches and loads leave (R418, R419) -/

/-- The key from which on the register fields of the memories and of the host port lie. -/
def memKeys : Nat := 0x400C0000 * 32

/-- The parts that a read of memory changes beside registers of the memories and the host port: it logs the error that it meets, and
posts its event. -/
def readParts : List Part := [.free, .od, .tk, .jr, .gl, .marks]

section

variable {s t : State} {fs : List Field} {l : List Part}

theorem KeepsBelow.event (h : KeepsBelow memKeys fs l s t) (hl : [.tk, .jr, .gl, .marks] ⊆ l) (code src : Nat) (data : List Nat) :
    KeepsBelow memKeys fs l s (t.event code src data) := by
  unfold State.event
  extract_lets e
  have hring : Keeps [.tk] t { t with tk := { t.tk with ring := (e :: t.tk.ring).take 256 } } :=
    fun p => by cases p <;> simp [Part.same]
  exact ((h.part hring (by grind) (by simp)).part (State.stage_keeps _ _) (by grind) (by simp)).wrFrom _ _ (by decide)

theorem KeepsBelow.errLog (h : KeepsBelow memKeys fs l s t) (hl : .free ∈ l) (b off src : Nat) (ue : Bool) :
    KeepsBelow memKeys fs l s (t.errLog b off src ue).2 :=
  ((((((h.part t.drawWord_keeps (by simpa) (by simp)).wrFrom _ _ (by decide)).wrFrom _ _ (by decide)).wrFrom _ _
    (by decide)).wrFrom _ _ (by decide)).wrFrom _ _ (by decide))

theorem State.logCe_keepsBelow (s : State) (b off src : Nat) : KeepsBelow memKeys [] readParts s (s.logCe b off src) := by
  have hlog := (KeepsBelow.refl memKeys [] readParts s).errLog (by simp [readParts]) b off src false
  unfold State.logCe
  extract_lets r data k f s1
  split
  · exact ((hlog.wrAt (by decide)).wrAt (by decide)).event (by simp [readParts]) _ _ _
  · have hs1 : KeepsBelow memKeys [] readParts s s1 :=
      ((hlog.wrAt (by decide)).wrAt (by decide)).part (State.odPutU_keeps _ _ _ _) (by simp [readParts]) (by simp)
    exact (hs1.event (by simp [readParts]) _ _ _).ite hs1

theorem State.logUe_keepsBelow (s : State) (b off src : Nat) : KeepsBelow memKeys [] readParts s (s.logUe b off src) := by
  have hlog := (KeepsBelow.refl memKeys [] readParts s).errLog (by simp [readParts]) b off src true
  exact (KeepsBelow.ite ((hlog.wrAt (by decide)).wrAt (by decide)) (((hlog.wrAt (by decide)).wrAt (by decide)).part
    (State.odPutU_keeps _ _ _ _) (by simp [readParts]) (by simp))).event (by simp [readParts]) _ _ _

theorem State.memRead_keepsBelow (s : State) (b off src : Nat) : KeepsBelow memKeys [] readParts s (s.memRead b off src).2.2 := by
  unfold State.memRead
  dsimp only
  split
  · exact KeepsBelow.refl _ _ _ s
  split
  · exact s.logCe_keepsBelow b off src
  · exact KeepsBelow.refl _ _ _ s
  · exact s.logUe_keepsBelow b off src

theorem State.fetchFails_keepsBelow (s : State) (i len : Nat) : KeepsBelow memKeys [] readParts s (s.fetchFails i len).2 := by
  have hloop (step : Bool × State → Nat → Bool × State) (hstep : ∀ a k, KeepsBelow memKeys [] readParts a.2 (step a k).2)
      (l : List Nat) (a : Bool × State) : KeepsBelow memKeys [] readParts a.2 (l.foldl step a).2 := by
    induction l generalizing a with
    | nil => exact KeepsBelow.refl _ _ _ _
    | cons k l ih => exact (hstep a k).trans (ih _)
  unfold State.fetchFails
  dsimp only
  split
  · exact KeepsBelow.refl _ _ _ s
  split
  · exact KeepsBelow.refl _ _ _ s
  · exact hloop _ (fun a k => State.memRead_keepsBelow _ _ _ _) _ _

end

theorem Keeps.threads {l : List Part} {s t : State} (h : Keeps l s t) (hl : Part.threads ∉ l) : t.threads = s.threads :=
  (h .threads).resolve_left hl

@[simp] theorem State.memRead_threads (s : State) (b off src : Nat) : (s.memRead b off src).2.2.threads = s.threads :=
  (s.memRead_keepsBelow b off src).2.threads (by simp [readParts])

@[simp] theorem State.fetched_threads (s : State) (d : EurDesc) (op : EurOp) : (s.fetched d op).threads = s.threads :=
  (s.fetchFails_keepsBelow _ _).2.threads (by simp [readParts])

theorem State.thread_of_threads {s t : State} (h : t.threads = s.threads) (i : Nat) : t.thread i = s.thread i := by
  simp only [State.thread, h]

theorem State.greg_of_threads {s t : State} (h : t.threads = s.threads) (i n : Nat) : t.greg i n = s.greg i n := by
  simp only [State.greg, State.thread_of_threads h]

/-! ### An instruction that runs (R493, R529) -/

variable {s t u : State} {op : EurOp} {th : Thread} {d : EurDesc}

theorem EuRan.refl (hs : s.thread op.thread = th) : EuRan s s op th :=
  ⟨hs, fun _ _ => rfl, Keeps.refl _ s⟩

theorem State.setThread_keeps (s : State) (i : Nat) (x : Thread) : Keeps [.threads] s (s.setThread i x) :=
  fun p => by cases p <;> simp [Part.same]

theorem EuRan.setThread (h : EuRan s t op th) (x : Thread) : EuRan s (t.setThread op.thread x) op x := by
  obtain ⟨_, hothers, hkeeps⟩ := h
  refine ⟨t.thread_setThread _ x, fun j hj => ?_, hkeeps.trans (t.setThread_keeps _ x)⟩
  rw [State.thread_setThread_ne _ _ _ _ (Fin.val_ne_of_ne hj)]
  exact hothers j hj

/-- A change of the instruction's thread by a function of what the thread is. -/
theorem EuRan.update (h : EuRan s t op th) (f : Thread → Thread) :
    EuRan s (t.setThread op.thread (f (t.thread op.thread))) op (f th) := by
  rw [h.1]
  exact h.setThread (f th)

theorem EuRan.setG (h : EuRan s t op th) (n : Nat) (w : TWord) : EuRan s (t.setG op.thread n w) op (th.put n w) :=
  h.update (fun x => x.put n w)

theorem EuRan.setFlags (h : EuRan s t op th) (f : Flags) : EuRan s (t.setFlags op.thread f) op (th.withFlags f) :=
  h.update (fun x => x.withFlags f)

theorem EuRan.setP (h : EuRan s t op th) (b : Bool) : EuRan s (t.setP op.thread b) op { th with p := b } :=
  h.update (fun x => { x with p := b })

theorem EuRan.setV (h : EuRan s t op th) (b : Bool) : EuRan s (t.setV op.thread b) op { th with v := th.v || b } := by
  unfold State.setV
  cases b with
  | true => simpa using h.update (fun x => { x with v := true })
  | false => simpa using h

theorem EuRan.setWide (h : EuRan s t op th) (n : Nat) (tg : Tag) (v : BitVec 64) :
    EuRan s (t.setWide op.thread n tg v) op ((th.put n ⟨tg, v.setWidth 32⟩).put (n + 1) ⟨tg, (v >>> 32).setWidth 32⟩) :=
  (h.setG n _).setG (n + 1) _

/-- What it takes for an instruction to be issued and to execute. -/
theorem euIssues_iff : s.euIssues d op = true ↔ s.mayIssue op.thread = true ∧ op.fetchBad = false ∧
    (s.fetchFails op.thread (eurLen d op)).1 = false ∧ encIllegal d op = false ∧ inProfile d op.thread = true ∧
    ((eurHas op .predT && !(s.thread op.thread).p) || (eurHas op .predF && (s.thread op.thread).p)) = false := by
  simp only [State.euIssues, Bool.and_eq_true, Bool.not_eq_true', Bool.or_eq_false_iff, and_assoc]

/-- The state that an instruction at `pc` leaves, from what its body comes to; `next` is the address of the one that follows. -/
def EurRes.leaves (i : Nat) (pc next : Word) : EurRes → State
  | .done u => u.setThread i { u.thread i with pc := next }
  | .jump u target => u.setThread i { u.thread i with pc := target }
  | .again u => u
  | .trap code w u => u.takeTrap i code pc w
  | .after code w u => (u.setThread i { u.thread i with pc := next }).takeTrap i code next w

/-- An instruction that is issued does what its body does after the fetch. -/
theorem issue_of_euIssues (hi : s.euIssues d op = true) (body : State → EurRes) {enc opc : Bool} (henc : enc = false)
    (hopc : opc = false) :
    s.issue d op enc opc body = (body (s.fetched d op)).leaves op.thread (s.thread op.thread).pc (s.euNext d op) := by
  obtain ⟨hmay, hbad, hfetch, hill, hprof, hpred⟩ := euIssues_iff.mp hi
  simp only [State.issue, hmay, hbad, hfetch, hill, hprof, hpred, henc, hopc, Bool.not_true, Bool.false_eq_true, if_false,
    Bool.or_self]
  rfl

section

variable {c : Instr} {body : State → EurRes} {enc opc : Bool} {src : State}

/-- An instruction whose body completes has run: it goes on at the next instruction. -/
theorem answers_done (hi : s.euIssues d op = true) (hc : exec c s = .next (s.issue d op enc opc body)) (henc : enc = false)
    (hopc : opc = false) (hb : ∃ u, body (s.fetched d op) = .done u ∧ EuRan src u op th) :
    Answers c s fun t => EuRan src t op { th with pc := s.euNext d op } := by
  obtain ⟨u, hu, hran⟩ := hb
  refine ⟨_, hc, ?_⟩
  rw [issue_of_euIssues hi body henc hopc, hu]
  exact hran.update (fun x => { x with pc := s.euNext d op })

end

/-! ### The second operand and the pair of tags (R489, R501, R511, R512) -/

theorem mem_allTags (x : Tag) : x ∈ allTags := by
  cases x <;> decide

section

variable {b : TWord × State} {a : TWord} {dflt tg : Tag} {pair : Tag → Tag → Option Tag}

theorem State.tagWord_threads {n : Nat} (hb : s.tagWord op n = some b) : b.2.threads = s.threads := by
  revert hb
  fun_cases State.tagWord <;> intro hb <;> cases hb <;> exact s.memRead_threads _ _ _

theorem withWord_of_tagWord {n : Nat} (hb : s.tagWord op n = some b) (k : TWord → State → EurRes) :
    s.withWord op n k = k b.1 b.2 := by
  unfold State.withWord
  revert hb
  fun_cases State.tagWord
  case case1 => exact nofun
  case case2 hbusy hres hunch =>
    rintro ⟨⟩
    exact (if_neg hbusy).trans ((if_pos hres).trans (if_pos hunch))
  case case3 => exact nofun
  case case4 hbusy hres =>
    rintro ⟨⟩
    exact (if_neg hbusy).trans (if_neg hres)

theorem withAddr_of_tagAddr {n m : Nat} (hb : s.tagAddr op n = some m) (k : Nat → EurRes) :
    s.withAddr op .ptr (s.spaceHas op n) k = k m := by
  unfold State.tagAddr State.euB at hb
  dsimp only at hb
  rw [Option.ite_none_left_eq_some, not_or] at hb
  obtain ⟨⟨hbase, hspace⟩, hm⟩ := hb
  rw [Option.some_inj] at hm
  subst hm
  unfold State.withAddr
  by_cases hmode : op.mode = .a16 <;> simp_all

theorem withB_of_sourceB (hb : s.sourceB op dflt = some b) (k : TWord → State → EurRes) : s.withB op dflt k = k b.1 b.2 := by
  unfold State.sourceB at hb
  unfold State.withB
  split
  case isTrue hreg =>
    rw [if_pos hreg] at hb
    cases hb
    rfl
  case isFalse hreg =>
    rw [if_neg hreg] at hb
    split
    case isTrue hmem =>
      rw [if_pos hmem] at hb
      obtain ⟨m, haddr, hword⟩ := Option.bind_eq_some_iff.mp hb
      rw [withAddr_of_tagAddr haddr, withWord_of_tagWord hword]
    case isFalse hmem =>
      rw [if_neg hmem] at hb
      cases hb
      rfl

theorem State.sourceB_threads (hb : s.sourceB op dflt = some b) : b.2.threads = s.threads := by
  unfold State.sourceB at hb
  split at hb
  · cases hb
    rfl
  split at hb
  · obtain ⟨m, _, hword⟩ := Option.bind_eq_some_iff.mp hb
    exact State.tagWord_threads hword
  · cases hb
    rfl

/-- A pair of tags that gives a result, or UNCHK, lets the memory operand be read (R529). -/
theorem not_dead_of_resultTag {x y : Tag} (ht : resultTag op (pair x y) = some tg) :
    (!unchecked op && !allTags.any (fun z => (pair x z).isSome)) = false := by
  cases hu : unchecked op with
  | true => rfl
  | false =>
    have hpair : (pair x y).isSome = true := by
      cases hp : pair x y with
      | none => simp [resultTag, hp, hu] at ht
      | some z => rfl
    have hany : allTags.any (fun z => (pair x z).isSome) = true := List.any_eq_true.mpr ⟨y, mem_allTags y, hpair⟩
    simp [hany]

/-- Two operands that raise no trap and whose tags give a result. -/
theorem withPair_of_resultTag (hb : s.sourceB op dflt = some b) (ha : srcTrap op false a = 0) (hB : srcTrap op false b.1 = 0)
    (ht : resultTag op (pair a.tag b.1.tag) = some tg) (k : Tag → TWord → State → EurRes) :
    s.withPair op a dflt pair k = k tg b.1 b.2 := by
  simp only [State.withPair, ha, not_dead_of_resultTag ht, withB_of_sourceB hb, hB, ht, ne_eq, not_true_eq_false, if_false,
    Bool.false_and, Bool.false_eq_true]

end

/-! ### Instructions of two operands -/

section

variable {c : Instr} {body : State → EurRes} {b : TWord × State} {tg : Tag} {pair : Tag → Tag → Option Tag} {dflt : Tag}

theorem State.fetched_thread : (s.fetched d op).thread op.thread = s.euThread op := State.thread_of_threads (s.fetched_threads d op) _

theorem State.fetched_greg (n : Nat) : (s.fetched d op).greg op.thread n = s.greg op.thread n :=
  State.greg_of_threads (s.fetched_threads d op) _ _

/-- Reading the second operand leaves the thread of the instruction. -/
theorem EuRan.source (hb : (s.fetched d op).sourceB op dflt = some b) : EuRan b.2 b.2 op (s.euThread op) :=
  EuRan.refl ((State.thread_of_threads (State.sourceB_threads hb) _).trans State.fetched_thread)

/-- An arithmetic instruction puts the result of `f` in D and writes the four flags (R501, R502). -/
theorem answers_alu (hi : s.euIssues d op = true) (hc : exec c s = .next (s.issue d op false false body))
    (hb : (s.fetched d op).sourceB op (immTag (s.euD op).tag) = some b) (ha : srcTrap op false (s.euD op) = 0)
    (hB : srcTrap op false b.1 = 0) (ht : resultTag op (pair (s.euD op).tag b.1.tag) = some tg)
    (f : TWord → TWord → Word × Flags) (hbody : body (s.fetched d op) = (s.fetched d op).alu op pair f) :
    Answers c s fun t => EuRan b.2 t op { (((s.euThread op).put op.d ⟨tg, (f (s.euD op) b.1).1⟩).withFlags
      (f (s.euD op) b.1).2) with pc := s.euNext d op } := by
  refine answers_done hi hc rfl rfl ?_
  rw [hbody, State.alu, State.fetched_greg]
  exact ⟨_, withPair_of_resultTag hb ha hB ht _, ((EuRan.source hb).setG op.d _).setFlags _⟩

/-- An arithmetic instruction that writes no flag. -/
theorem answers_aluPlain (hi : s.euIssues d op = true) (hc : exec c s = .next (s.issue d op false false body))
    (hb : (s.fetched d op).sourceB op (immTag (s.euD op).tag) = some b) (ha : srcTrap op false (s.euD op) = 0)
    (hB : srcTrap op false b.1 = 0) (ht : resultTag op (pair (s.euD op).tag b.1.tag) = some tg)
    (f : TWord → TWord → Word) (hbody : body (s.fetched d op) = (s.fetched d op).aluPlain op pair f) :
    Answers c s fun t => EuRan b.2 t op { (s.euThread op).put op.d ⟨tg, f (s.euD op) b.1⟩ with pc := s.euNext d op } := by
  refine answers_done hi hc rfl rfl ?_
  rw [hbody, State.aluPlain, State.fetched_greg]
  exact ⟨_, withPair_of_resultTag hb ha hB ht _, (EuRan.source hb).setG op.d _⟩

/-- Of the words of two register pairs under WIDE, none raises a trap. -/
theorem srcTrap_of_wideTag {w : TWord} (h : unchecked op = true ∨ wideTag w.tag = true) : srcTrap op false w = 0 := by
  unfold srcTrap
  split
  · rfl
  · rename_i hu
    have hw : wideTag w.tag = true := h.resolve_left hu
    rcases w with ⟨tag, v⟩
    cases tag <;> simp_all [wideTag]

/-- An instruction that takes a free value changes its thread and the count of free values alone. -/
theorem EuRan.afterFree {u v : State} (h : EuRan v t op th) (hv : Keeps [.free] u v) (hu : u.threads = s.threads) :
    t.thread op.thread = th ∧ (∀ j : Fin 35, j ≠ op.thread → t.thread j = s.thread j) ∧ Keeps [.threads, .free] u t := by
  obtain ⟨hown, hothers, hkeeps⟩ := h
  refine ⟨hown, fun j hj => (hothers j hj).trans (State.thread_of_threads ?_ _), (hv.mono (by simp)).trans (hkeeps.mono (by simp))⟩
  exact (hv.threads (by simp)).trans hu

/-- Register pairs under WIDE with the tags of R499, or under UNCHK. -/
theorem withWide_of_tags (h : unchecked op = true ∨ (wideTag (s.euD op).tag = true ∧
    (s.greg op.thread (op.d + 1)).tag = (s.euD op).tag ∧ (s.euB op).tag = (s.euD op).tag ∧
    (s.greg op.thread (bReg op + 1)).tag = (s.euD op).tag)) (k : Tag → BitVec 64 → BitVec 64 → EurRes) :
    s.withWide op wideTag k =
      k (if wideTag (s.euD op).tag then (s.euD op).tag else .bits) (s.wideVal op.thread op.d) (s.wideVal op.thread (bReg op)) := by
  unfold State.withWide
  extract_lets i d b ws t
  have htraps : ws.find? (fun w => srcTrap op false w != 0) = none := by
    rw [List.find?_eq_none]
    intro w hw
    rw [srcTrap_of_wideTag]
    · simp
    rcases h with hu | ⟨hd, hd1, hb, hb1⟩
    · exact .inl hu
    · rw [List.mem_cons, List.mem_cons, List.mem_cons, List.mem_singleton] at hw
      rcases hw with rfl | rfl | rfl | rfl
      · exact .inr hd
      · exact .inr (hd1 ▸ hd)
      · exact .inr (hb ▸ hd)
      · exact .inr (hb1 ▸ hd)
  rw [htraps]
  dsimp only
  split
  case h_1 w hfind =>
    have hu : unchecked op = true := by
      refine h.resolve_right fun ⟨hd, hd1, hb, hb1⟩ => ?_
      have hnone : ws.find? (fun w => w.tag != t || !wideTag w.tag) = none := by
        rw [List.find?_eq_none]
        simp_all [ws, t, State.euD, State.euB, i, d, b]
      simp [hnone] at hfind
    rw [if_pos hu]
    rfl
  case h_2 hfind =>
    rw [List.find?_eq_none] at hfind
    have hd : wideTag (s.euD op).tag = true := by simpa [State.euD, t] using hfind (s.greg i d) (by simp [ws])
    rw [if_pos hd]
    rfl

theorem State.fetched_greg_d : (s.fetched d op).greg op.thread op.d = s.euD op := State.fetched_greg _

theorem State.fetched_wideVal (n : Nat) : (s.fetched d op).wideVal op.thread n = s.wideVal op.thread n := by
  simp only [State.wideVal, State.fetched_greg]

theorem State.fetched_euD : (s.fetched d op).euD op = s.euD op := State.fetched_greg _

theorem State.fetched_euB : (s.fetched d op).euB op = s.euB op := State.fetched_greg _

/-- An instruction on register pairs under WIDE has the effect `k` of the pairs' tag and values (R499). -/
theorem answers_wide (hi : s.euIssues d op = true) (hc : exec c s = .next (s.issue d op false false body))
    (h : unchecked op = true ∨ (wideTag (s.euD op).tag = true ∧ (s.greg op.thread (op.d + 1)).tag = (s.euD op).tag ∧
      (s.euB op).tag = (s.euD op).tag ∧ (s.greg op.thread (bReg op + 1)).tag = (s.euD op).tag))
    (k : Tag → BitVec 64 → BitVec 64 → EurRes) (hbody : body (s.fetched d op) = (s.fetched d op).withWide op wideTag k)
    (hk : EuRan (s.fetched d op) (s.fetched d op) op (s.euThread op) →
      ∃ u, k (if wideTag (s.euD op).tag then (s.euD op).tag else .bits) (s.wideVal op.thread op.d)
        (s.wideVal op.thread (bReg op)) = .done u ∧ EuRan (s.fetched d op) u op th) :
    Answers c s fun t => EuRan (s.fetched d op) t op { th with pc := s.euNext d op } := by
  refine answers_done hi hc rfl rfl ?_
  rw [hbody, withWide_of_tags (by simpa only [State.fetched_euD, State.fetched_euB, State.fetched_greg] using h),
    State.fetched_euD, State.fetched_wideVal, State.fetched_wideVal]
  exact hk (EuRan.refl State.fetched_thread)

end

/-- Settles O46: each instruction runs on what the rule of its operands gives. -/
theorem eurnafaArithmetic : Obligations.EurnafaArithmetic := by
  refine ⟨fun s op b tg hi hw hb ha hB ht => answers_alu hi rfl hb ha hB ht (fun a b => addFlags a.val b.val) (by simp [hw]),
    fun s op b tg hi hw hb ha hB ht => answers_alu hi rfl hb ha hB ht (fun a b => subFlags a.val b.val) (by simp [hw]),
    fun s op hi hw h => answers_wide hi rfl h _ (if_pos hw) fun hr => ⟨_, rfl, (hr.setWide _ _ _).setFlags _⟩,
    fun s op hi hw h => answers_wide hi rfl h _ (if_pos hw) fun hr => ⟨_, rfl, (hr.setWide _ _ _).setFlags _⟩,
    fun s op hi hw h => answers_wide hi rfl h _ (if_pos hw) fun hr => ⟨_, rfl, hr.setFlags _⟩,
    fun s op b tg hi hb ha hB ht => (answers_alu (c := .euAdds op) hi rfl hb ha hB ht _ rfl :),
    fun s op b tg hi hb ha hB ht => (answers_alu (c := .euSubs op) hi rfl hb ha hB ht _ rfl :),
    fun s op b tg hi hb ha hB ht => ?mul,
    fun s op b tg hi hb ha hB ht hz hfree => ?div,
    fun s op b tg hi hb ha hB ht hz hfix hfree => ?divFree,
    fun s op b tg hi hb ha hB ht hz => ?rem,
    fun s op b tg hi hw hb ha hB ht => ?cmp,
    fun s op b tg hi hb ha hB ht => (answers_aluPlain (c := .euMin op) hi rfl hb ha hB ht _ rfl :),
    fun s op b tg hi hb ha hB ht => (answers_aluPlain (c := .euMax op) hi rfl hb ha hB ht _ rfl :),
    fun s op b tg hi hb ha hB ht => (answers_alu (c := .euAnd op) hi rfl hb ha hB ht _ rfl :),
    fun s op b tg hi hb ha hB ht => (answers_alu (c := .euOr op) hi rfl hb ha hB ht _ rfl :),
    fun s op b tg hi hb ha hB ht => (answers_alu (c := .euXor op) hi rfl hb ha hB ht _ rfl :),
    fun s op b tg hi hb ha hB ht => ?tst,
    fun s op b tg hi hb ha hB ht => ?mac,
    fun s op b tg hi hb ha hB ht => (answers_aluPlain (c := .euClamp op) hi rfl hb ha hB ht _ rfl :)⟩
  case mul =>
    have h := (answers_alu (c := .euMul op) hi rfl hb ha hB ht _ rfl :)
    rwa [State.fetched_thread] at h
  case div =>
    refine answers_done (c := .euDiv op) hi rfl rfl rfl ?_
    simp only [State.fetched_greg_d]
    refine ⟨_, (withPair_of_resultTag hb ha hB ht _).trans ((if_neg hz).trans (if_neg ?_)), ((EuRan.source hb).setG op.d _).setV _⟩
    rcases hfree with h | h <;> simp_all
  case divFree =>
    have hdrawn : EuRan b.2.drawWord.2 b.2.drawWord.2 op (s.euThread op) :=
      EuRan.refl (EuRan.source hb).1
    have hrun := answers_done (c := .euDiv op) (src := b.2.drawWord.2)
      (th := (s.euThread op).put op.d ⟨tg, Config.freeWord b.2.free⟩) hi rfl rfl rfl (by
        simp only [State.fetched_greg_d]
        refine ⟨_, (withPair_of_resultTag hb ha hB ht _).trans ((if_neg hz).trans (if_pos ?_)), hdrawn.setG op.d _⟩
        simpa [hfix] using hfree)
    obtain ⟨t, hexec, hran⟩ := hrun
    exact ⟨t, hexec, hran.afterFree b.2.drawWord_keeps ((State.sourceB_threads hb).trans (s.fetched_threads _ op))⟩
  case rem =>
    refine answers_done (c := .euRem op) hi rfl rfl rfl ?_
    simp only [State.fetched_greg_d]
    exact ⟨_, (withPair_of_resultTag hb ha hB ht _).trans (if_neg hz), (EuRan.source hb).setG op.d _⟩
  case cmp =>
    refine answers_done (c := .euCmp op) hi rfl rfl rfl ?_
    simp only [hw, State.fetched_greg_d]
    exact ⟨_, withPair_of_resultTag hb ha hB ht _, (EuRan.source hb).setFlags _⟩
  case tst =>
    refine answers_done (c := .euTst op) hi rfl rfl rfl ?_
    simp only [State.fetched_greg_d]
    exact ⟨_, withPair_of_resultTag hb ha hB ht _, (EuRan.source hb).setFlags _⟩
  case mac =>
    refine answers_done (c := .euMac op) hi rfl rfl rfl ?_
    simp only [State.fetched_greg_d]
    refine ⟨_, withPair_of_resultTag hb ha hB ht _, ?_⟩
    simp only [(EuRan.source hb).1]
    exact ((EuRan.source hb).setThread _).setV _

end Sys2Proof.Machine

namespace Sys2Proof.Machine

/-! ### Shifts and instructions on one register (R507 to R511, R514, R518) -/

section

variable {s : State} {op : EurOp} {th : Thread} {d : EurDesc} {c : Instr} {body : State → EurRes} {src : State}
  {b : TWord × State} {tg : Tag} {ok : Tag → Bool}

/-- The thread of an instruction after its fetch. -/
theorem EuRan.fetched : EuRan (s.fetched d op) (s.fetched d op) op (s.euThread op) := EuRan.refl State.fetched_thread

/-- A shift puts its result in D and writes C alone (R508). -/
theorem answers_shift (hi : s.euIssues d op = true) (hc : exec c s = .next (s.issue d op false false body))
    (hb : (s.fetched d op).sourceB op .uint = some b) (ha : srcTrap op false (s.euD op) = 0) (hB : srcTrap op false b.1 = 0)
    (ht : resultTag op (if ok (s.euD op).tag = true then some (s.euD op).tag else none) = some tg) (k : Nat)
    (hbody : body (s.fetched d op) = (s.fetched d op).shift op k ok) :
    Answers c s fun t => EuRan b.2 t op { { (s.euThread op).put op.d ⟨tg, (shiftOp k (s.euD op).val b.1.val.toNat).1⟩ with
      c := (shiftOp k (s.euD op).val b.1.val.toNat).2 } with pc := s.euNext d op } := by
  refine answers_done hi hc rfl rfl ?_
  rw [hbody, State.shift, State.fetched_greg_d]
  exact ⟨_, withPair_of_resultTag (pair := fun t _ => if ok t then some t else none) hb ha hB ht _,
    ((EuRan.source hb).setG op.d _).update fun x => { x with c := _ }⟩

/-- A source register that raises no trap and whose tag the instruction accepts. -/
theorem withSrc_of_ok {w : TWord} {nilOk : Bool} (ht : srcTrap op nilOk w = 0) (h : ok w.tag = true ∨ unchecked op = true)
    (k : EurRes) : s.withSrc op w nilOk ok k = k := by
  have hok : ¬(!ok w.tag ∧ !unchecked op) := by
    rcases h with h | h <;> simp [h]
  simp only [State.withSrc, ht, hok, ne_eq, not_true_eq_false, if_false]

/-- An instruction on register D puts there what `f` gives from its tag and value. -/
theorem answers_unary (hi : s.euIssues d op = true) (hc : exec c s = .next (s.issue d op false false body))
    (ha : srcTrap op false (s.euD op) = 0) (hok : ok (s.euD op).tag = true ∨ unchecked op = true)
    (f : Tag → Word → State → TWord × State) (hbody : body (s.fetched d op) = (s.fetched d op).unary op ok f)
    (hf : EuRan src (f (if ok (s.euD op).tag then (s.euD op).tag else .bits) (s.euD op).val (s.fetched d op)).2 op th) :
    Answers c s fun t => EuRan src t op
      { th.put op.d (f (if ok (s.euD op).tag then (s.euD op).tag else .bits) (s.euD op).val (s.fetched d op)).1 with
        pc := s.euNext d op } := by
  refine answers_done hi hc rfl rfl ?_
  rw [hbody, State.unary, State.fetched_greg_d]
  exact ⟨_, withSrc_of_ok ha hok _, hf.setG op.d _⟩

/-- Where NIL is accepted, only a poisoned word raises a trap. -/
theorem srcTrap_of_ne_trap {w : TWord} (h : w.tag ≠ .trap ∨ unchecked op = true) : srcTrap op true w = 0 := by
  rcases h with h | h <;> simp [srcTrap, h]

theorem State.drawBool_keeps (s : State) : Keeps [.free] s s.drawBool.2 := fun p => by
  cases p <;> simp [Part.same, State.drawBool]

end

/-- Settles O47: each instruction runs on what the rule of its register gives. -/
theorem eurnafaRegisters : Obligations.EurnafaRegisters := by
  refine ⟨fun s op b tg hi hb ha hB ht => answers_shift hi rfl hb ha hB ht 0 rfl,
    fun s op b tg hi hb ha hB ht => answers_shift hi rfl hb ha hB ht 1 rfl,
    fun s op b tg hi hb ha hB ht => answers_shift hi rfl hb ha hB ht 2 rfl,
    fun s op b tg hi hb ha hB ht => answers_shift hi rfl hb ha hB ht 3 rfl,
    fun s op hi ha hok hv => ?neg,
    fun s op hi ha hok hv => ?negFree,
    fun s op hi ha hok => (answers_unary (c := .euAbs op) hi rfl ha hok _ rfl (EuRan.fetched.setV _) :),
    fun s op hi ha hok => (answers_unary (c := .euNot op) hi rfl ha hok _ rfl (EuRan.fetched.setFlags _) :),
    fun s op hi ha hok => (answers_unary (c := .euBswap op) hi rfl ha hok _ rfl EuRan.fetched :),
    fun s op hi ha hok => (answers_unary (c := .euClz op) hi rfl ha hok _ rfl EuRan.fetched :),
    fun s op hi ha hok => (answers_unary (c := .euCvtf op) hi rfl ha hok _ rfl (EuRan.fetched.setV _) :),
    fun s op hi ha hok => (answers_unary (c := .euCvti op) hi rfl ha hok _ rfl EuRan.fetched :),
    fun s op hi => answers_done hi rfl rfl rfl ⟨_, rfl, EuRan.fetched.setG _ _⟩,
    fun s op b hi hw hb hok => ?mov,
    fun s op hi hw hok => ?movWide,
    fun s op hi => ?tagof,
    fun s op hi hext => ?tageq,
    fun s op hi htag ha hpath => ?retag,
    fun s op hi hd => ?setp,
    fun s op hi htie => ?macr,
    fun s op hi htie => ?macrTie,
    fun s op hi => answers_done hi rfl rfl rfl ⟨_, rfl, EuRan.fetched.update fun x => { x with acc := 0 }⟩⟩
  case neg =>
    have h := answers_unary (c := .euNeg op) hi rfl ha hok _ rfl (src := s.fetched dDesc op) (th := s.euThread op)
      (by simp only [hv, if_false]; exact EuRan.fetched)
    simp only [hv, if_false] at h
    exact h
  case negFree =>
    have hok' : (fun t : Tag => t == .int || t == .fix) (s.euD op).tag = true ∨ unchecked op = true := by
      simpa [or_assoc] using hok
    have hdrawn : EuRan (s.fetched dDesc op).drawWord.2 (s.fetched dDesc op).drawWord.2 op (s.euThread op) :=
      EuRan.refl State.fetched_thread
    have h := answers_unary (c := .euNeg op) hi rfl ha hok' _ rfl (src := (s.fetched dDesc op).drawWord.2) (th := s.euThread op)
      (by simp only [hv, if_true]; exact hdrawn)
    obtain ⟨t, hexec, hran⟩ := h
    simp only [hv, if_true, Bool.or_eq_true, beq_iff_eq] at hran
    obtain ⟨hown, hothers, hkeeps⟩ := hran.afterFree (State.drawWord_keeps _) (s.fetched_threads _ op)
    exact ⟨t, hexec, hothers, hown, hkeeps⟩
  case mov =>
    refine answers_done (c := .euMov op) hi rfl rfl rfl ⟨_, ?_, (EuRan.source hb).setG op.d b.1⟩
    simp only [hw, Bool.false_eq_true, if_false]
    rw [withB_of_sourceB hb]
    exact withSrc_of_ok (srcTrap_of_ne_trap hok) (.inl rfl) _
  case movWide =>
    have hlo : srcTrap op true (s.euB op) = 0 := srcTrap_of_ne_trap (hok.symm.imp_left And.left)
    have hhi : srcTrap op true (s.greg op.thread (bReg op + 1)) = 0 :=
      srcTrap_of_ne_trap (hok.symm.imp_left fun ⟨htrap, htag⟩ => htag ▸ htrap)
    refine answers_done (c := .euMov op) hi rfl rfl rfl
      ⟨_, ?_, (EuRan.fetched.setG op.d (s.euB op)).setG (op.d + 1) ⟨(s.euB op).tag, (s.greg op.thread (bReg op + 1)).val⟩⟩
    simp only [hw, if_true, State.fetched_greg]
    refine (withSrc_of_ok (ok := fun _ => true) hlo (.inl rfl) _).trans (withSrc_of_ok hhi ?_ _)
    exact hok.symm.imp_left fun ⟨_, htag⟩ => beq_iff_eq.mpr htag
  case tagof =>
    refine answers_done (c := .euTagof op) hi rfl rfl rfl ⟨_, rfl, ?_⟩
    rw [State.fetched_greg]
    exact EuRan.fetched.setG _ _
  case tageq =>
    refine answers_done (c := .euTageq op) hi rfl (by simpa using hext) rfl ⟨_, rfl, ?_⟩
    rw [State.fetched_greg_d]
    exact EuRan.fetched.setP _
  case retag =>
    refine answers_done (c := .euRetag op) hi rfl (by simpa using htag) rfl ⟨_, ?_, EuRan.fetched.setG op.d _⟩
    simp only [State.fetched_greg_d]
    exact withSrc_of_ok ha hpath _
  case setp =>
    refine answers_done (c := .euSetp op) hi rfl (by simpa using hd) rfl ⟨_, rfl, ?_⟩
    rw [State.fetched_thread]
    exact EuRan.fetched.setP _
  case macr =>
    have htie' : decide ((s.euThread op).acc.toInt % 65536 = 32768) = false := decide_eq_false htie
    refine answers_done (c := .euMacr op) hi rfl rfl rfl ⟨_, rfl, ?_⟩
    simp only [State.fetched_thread, htie', Bool.false_eq_true, if_false]
    exact (EuRan.fetched.setG op.d _).update fun x => { x with acc := 0 }
  case macrTie =>
    have htie' : decide ((s.euThread op).acc.toInt % 65536 = 32768) = true := decide_eq_true htie
    have hdrawn : EuRan (s.fetched macrDesc op).drawBool.2 (s.fetched macrDesc op).drawBool.2 op (s.euThread op) :=
      EuRan.refl State.fetched_thread
    obtain ⟨t, hexec, hran⟩ := answers_done (c := .euMacr op) (src := (s.fetched macrDesc op).drawBool.2) hi rfl rfl rfl
      ⟨_, rfl, by
        simp only [State.fetched_thread, htie', if_true]
        exact (hdrawn.setG op.d _).update fun x => { x with acc := 0 }⟩
    obtain ⟨hown, hothers, hkeeps⟩ := hran.afterFree (State.drawBool_keeps _) (s.fetched_threads _ op)
    refine ⟨t, hexec, ?_, hothers, hkeeps⟩
    cases hup : (s.fetched macrDesc op).drawBool.1 with
    | false => exact .inl (hown.trans (by simp [hup]))
    | true => exact .inr (hown.trans (by simp [hup]))

end Sys2Proof.Machine

namespace Sys2Proof.Machine

/-! ### Trap entry (R531) -/

section

variable {s t u : State} {op : EurOp} {d : EurDesc} {c : Instr} {body : State → EurRes} {enc opc : Bool}

/-- The registers that show the last trap. -/
def trapFields : List Field :=
  [Reg.SYS_TRAPCNT_TOTAL, Reg.SYS_TRAPLAST_PROC, Reg.SYS_TRAPLAST_THREAD, Reg.SYS_TRAPLAST_CODE, Reg.SYS_TRAPPC_PC]

theorem procOf_lt (i : Fin 35) : procOf i < 256 ∧ threadNo i < 256 := by
  revert i
  decide

/-- Outside a handler a trap saves what R531 names and enters its handler. -/
theorem takeTrap_trapped (hu : (u.thread op.thread).tactive = false) {code : Nat} (hcode : code < 16) (tpc : Word) (w : TWord) :
    EuTrapped u (u.takeTrap op.thread code tpc w) op code tpc w := by
  have henter : u.takeTrap op.thread code tpc w = u.trapEnter op.thread code tpc w := by
    simp only [State.takeTrap, hu, Bool.false_eq_true, if_false]
  obtain ⟨hproc, hthread⟩ := procOf_lt op.thread
  rw [henter]
  unfold State.trapEnter
  extract_lets th v
  have hput : EuRan u v op _ := (EuRan.refl rfl).setThread _
  refine ⟨hput.1, ?_, ?_, ?_, ?_, hput.2.1, ?_⟩
  · exact (by simp (disch := decide) : _ = procOf op.thread % 2 ^ Reg.SYS_TRAPLAST_PROC.w).trans (Nat.mod_eq_of_lt hproc)
  · exact (by simp (disch := decide) : _ = threadNo op.thread % 2 ^ Reg.SYS_TRAPLAST_THREAD.w).trans (Nat.mod_eq_of_lt hthread)
  · exact (by simp (disch := decide) : _ = code % 2 ^ Reg.SYS_TRAPLAST_CODE.w).trans (Nat.mod_eq_of_lt hcode)
  · exact (State.rd_wr_same _ _ _).trans (Nat.mod_eq_of_lt tpc.isLt)
  · exact ((((((KeepsBut.refl trapFields [.threads] u).part hput.2.2 (by simp)).wr _ _ (by simp [trapFields])).wr _ _
      (by simp [trapFields])).wr _ _ (by simp [trapFields])).wr _ _ (by simp [trapFields])).wr _ _ (by simp [trapFields])

/-- The word that a trap shows where the spec names none is drawn from the free values. -/
theorem State.freeTagged_keeps (s : State) : Keeps [.free] s s.freeTagged.2 :=
  s.drawWord_keeps.trans (State.drawWord_keeps _)

/-- The state `t` after a trap of thread `op.thread` before its instruction did anything. -/
structure TrapsAtStart (s t : State) (op : EurOp) (code : Nat) : Prop where
  cause : (t.thread op.thread).tcause = code
  tpc : (t.thread op.thread).tpc = (s.euThread op).pc
  flags : (t.thread op.thread).tfl = (s.euThread op).fl
  active : (t.thread op.thread).tactive = true
  handler : (t.thread op.thread).pc = (s.euThread op).vbase + BitVec.ofNat 32 (16 * code)
  regs : (t.thread op.thread).g = (s.euThread op).g
  shownCode : t.rd Reg.SYS_TRAPLAST_CODE = code
  shownPc : t.rd Reg.SYS_TRAPPC_PC = (s.euThread op).pc.toNat
  mem : t.mem.mem = s.mem.mem
  others : ∀ j : Fin 35, j ≠ op.thread → t.thread j = s.thread j

/-- A trap with a free word after the fetch. -/
theorem freeTrap_atStart (hs : (s.euThread op).tactive = false) {code : Nat} (hcode : code < 16) :
    TrapsAtStart s ((s.fetched d op).freeTagged.2.takeTrap op.thread code (s.euThread op).pc (s.fetched d op).freeTagged.1) op
      code := by
  have hkeeps : Keeps (.regs :: readParts) s (s.fetched d op).freeTagged.2 :=
    (s.fetchFails_keepsBelow _ _).2.andThen (State.freeTagged_keeps _) (by simp [readParts])
  have hthread (i : Nat) : (s.fetched d op).freeTagged.2.thread i = s.thread i :=
    State.thread_of_threads (hkeeps.threads (by simp [readParts])) i
  have heu : (s.fetched d op).freeTagged.2.euThread op = s.euThread op := hthread _
  have htrap := takeTrap_trapped (u := (s.fetched d op).freeTagged.2) (op := op) ((congrArg _ (hthread _)).trans hs) hcode
    (s.euThread op).pc (s.fetched d op).freeTagged.1
  rw [EuTrapped, heu] at htrap
  obtain ⟨hown, _, _, hcodeShown, hpc, hothers, hframe⟩ := htrap
  have hmem := ((hframe.2 .mem).resolve_left (by simp)).trans ((hkeeps .mem).resolve_left (by simp [readParts]))
  exact ⟨by rw [hown], by rw [hown], by rw [hown], by rw [hown], by rw [hown], by rw [hown], hcodeShown, hpc,
    congrArg MemState.mem hmem, fun j hj => (hothers j hj).trans (hthread j)⟩

/-! ### What an instruction that does not execute comes to (R493, R529) -/

/-- Each Eurnafa command issues its instruction by its encoding (Table 08-7). -/
theorem exec_eurnafa (h : eurnafaOp c = some op) :
    ∃ body, exec c s = .next (s.issue (eurnafaDesc c) op (eurnafaBadOperand c) (eurnafaNoOpcode s c) body) := by
  cases c <;> simp only [eurnafaOp, Option.some.injEq, reduceCtorEq] at h
  all_goals
    subst h
    exact ⟨_, rfl⟩

theorem issue_fetchError (hm : s.mayIssue op.thread = true)
    (h : op.fetchBad = true ∨ (s.fetchFails op.thread (eurLen d op)).1 = true) :
    s.issue d op enc opc body =
      (s.fetched d op).takeTrap op.thread 0xA (s.euThread op).pc ⟨.uint, (s.euThread op).pc⟩ := by
  have h' : (op.fetchBad || (s.fetchFails op.thread (eurLen d op)).1) = true := by simpa using h
  simp only [State.issue, hm, h', Bool.not_true, Bool.false_eq_true, if_false, if_true]
  rfl

theorem issue_illegal (hm : s.mayIssue op.thread = true) (hb : op.fetchBad = false)
    (hf : (s.fetchFails op.thread (eurLen d op)).1 = false) (h : encIllegal d op = true ∨ enc = true) :
    s.issue d op enc opc body =
      (s.fetched d op).freeTagged.2.takeTrap op.thread 1 (s.euThread op).pc (s.fetched d op).freeTagged.1 := by
  have h' : (encIllegal d op || enc) = true := by simpa using h
  simp only [State.issue, hm, hb, hf, h', Bool.not_true, Bool.or_self, Bool.false_eq_true, if_false, if_true]
  rfl

theorem issue_noOpcode (hm : s.mayIssue op.thread = true) (hb : op.fetchBad = false)
    (hf : (s.fetchFails op.thread (eurLen d op)).1 = false) (he : encIllegal d op = false)
    (h : inProfile d op.thread = false ∨ opc = true) :
    s.issue d op false opc body =
      (s.fetched d op).freeTagged.2.takeTrap op.thread 2 (s.euThread op).pc (s.fetched d op).freeTagged.1 := by
  have h' : (!inProfile d op.thread || opc) = true := by simpa using h
  simp only [State.issue, hm, hb, hf, he, h', Bool.not_true, Bool.or_self, Bool.false_eq_true, if_false, if_true]
  rfl

/-- An instruction that is issued and whose body traps. -/
theorem answers_trap (hi : s.euIssues d op = true) (hc : exec c s = .next (s.issue d op false false body)) {code : Nat} {w : TWord}
    (hb : body (s.fetched d op) = .trap code w u) (hu : u.threads = s.threads) (hs : (s.euThread op).tactive = false)
    (hcode : code < 16) : Answers c s fun t => EuTrapped u t op code (s.euThread op).pc w := by
  refine ⟨_, hc, ?_⟩
  rw [issue_of_euIssues hi body rfl rfl, hb]
  exact takeTrap_trapped ((congrArg _ (State.thread_of_threads hu _)).trans hs) hcode _ w

/-! ### Operands that trap (R511, R529) -/

section

variable {b : TWord × State} {a : TWord} {dflt : Tag} {pair : Tag → Tag → Option Tag} {k : Tag → TWord → State → EurRes}

theorem withPair_of_srcTrap (ha : srcTrap op false a ≠ 0) : s.withPair op a dflt pair k = .trap (srcTrap op false a) a s := by
  simp only [State.withPair, if_pos ha]

theorem withPair_of_mismatch (hb : s.sourceB op dflt = some b) (ha : srcTrap op false a = 0) (hB : srcTrap op false b.1 = 0)
    (hu : unchecked op = false) (hany : allTags.any (fun x => (pair a.tag x).isSome) = true) (hp : pair a.tag b.1.tag = none) :
    s.withPair op a dflt pair k = .trap 3 b.1 b.2 := by
  simp [State.withPair, withB_of_sourceB hb, ha, hB, hu, hany, hp, resultTag]

theorem resultTag_of_isSome {x : Option Tag} (h : x.isSome = true) : ∃ tg, resultTag op x = some tg := by
  obtain ⟨tg, rfl⟩ := Option.isSome_iff_exists.mp h
  exact ⟨_, rfl⟩

/-- An address outside the memory that the access addresses (R498). -/
theorem withAddr_of_not_has {baseTag : Tag} {has : Nat → Bool} (h : op.mode = .a16 ∨ (s.euB op).tag = baseTag)
    (hhas : has (if op.mode = .a16 then (op.ext.setWidth 16).toNat else ((s.euB op).val + dispOf op).toNat) = false)
    (k : Nat → EurRes) : s.withAddr op baseTag has k =
      .trap 8 (addrWord (if op.mode = .a16 then (op.ext.setWidth 16).toNat else ((s.euB op).val + dispOf op).toNat)) s := by
  unfold State.withAddr
  split
  case isTrue hmode =>
    rw [if_pos hmode] at hhas
    simp only [hhas, Bool.false_eq_true, if_false]
  case isFalse hmode =>
    have htag : (s.greg op.thread (bReg op)).tag = baseTag := h.resolve_left hmode
    rw [if_neg hmode, State.euB] at hhas
    simp only [hhas, htag, State.euB, ne_eq, not_true_eq_false, false_and, Bool.false_eq_true, if_false]

end

end

/-! ### A double trap of the PCP (R533, R863) -/

section

variable {s : State} {g k : Fin 4}

/-- What the halt of the PCP does to one group: a group that switches faults with PCP_HALT. -/
def State.haltGroup (s : State) (g : Nat) : State := if s.grSwitching g then s.grFaults g 9 else s

/-- Group `g` is in FAULT with PCP_HALT. -/
def State.grHalted (s : State) (g : Nat) : Prop := s.grState g = 5 ∧ s.grFault g = 9

theorem haltGroup_keepsBut (s : State) (g : Nat) :
    KeepsBut (Reg.HOSTPORT_INTSTAT_INTSTAT :: grFields g) [.pwm, .tk, .jr, .gl, .marks, .threads] s (s.haltGroup g) := by
  unfold State.haltGroup
  split
  · exact grFaults_keepsBut s g 9
  · exact KeepsBut.refl _ _ s

/-- A fault of one group leaves the state and the fault of every other. -/
theorem haltGroup_other (h : g ≠ k) : (s.haltGroup k).grState g = s.grState g ∧ (s.haltGroup k).grFault g = s.grFault g := by
  have hkeys : ∀ g k : Fin 4, g ≠ k →
      (Reg.PWM_G_STAT_STATE.at g).key ∉ (Reg.HOSTPORT_INTSTAT_INTSTAT :: grFields k).map Field.key ∧
      (Reg.PWM_G_STAT_FAULT.at g).key ∉ (Reg.HOSTPORT_INTSTAT_INTSTAT :: grFields k).map Field.key := by decide +kernel
  obtain ⟨hstate, hfault⟩ := hkeys g k h
  exact ⟨((haltGroup_keepsBut s k).1 _).resolve_left hstate, ((haltGroup_keepsBut s k).1 _).resolve_left hfault⟩

/-- A group that switches is in FAULT with PCP_HALT once its own turn has come. -/
theorem haltGroup_own (h : s.grSwitching g = true) : (s.haltGroup g).grHalted g := by
  have hrange : 2 ≤ s.grState g ∧ s.grState g ≤ 4 := by simpa [State.grSwitching] using h
  unfold State.haltGroup State.grFaults
  rw [if_pos h, if_neg (by omega)]
  extract_lets retry s1 _ s2
  have hafter : KeepsBut [Reg.HOSTPORT_INTSTAT_INTSTAT] [.tk, .jr, .gl, .marks, .threads] s2
      (s2.event 0x0E01 g (9 :: evBytes 4 (s.gr g).vout)).wakePcp :=
    ((KeepsBut.refl _ _ s2).event _ _ _ (by simp) (by simp) (by simp)).part ((State.wake_keeps _ 34).mono (by simp)) (by simp)
  have hkeys : ∀ g : Fin 4, (Reg.PWM_G_STAT_STATE.at g).key ≠ Reg.HOSTPORT_INTSTAT_INTSTAT.key ∧
      (Reg.PWM_G_STAT_FAULT.at g).key ≠ Reg.HOSTPORT_INTSTAT_INTSTAT.key ∧
      (Reg.PWM_G_STAT_STATE.at g).key ≠ (Reg.PWM_G_STAT_FAULT.at g).key := by decide
  obtain ⟨hstate, hfault, hne⟩ := hkeys g
  constructor
  · calc (s2.event 0x0E01 g (9 :: evBytes 4 (s.gr g).vout)).wakePcp.grState g
        = s1.grState g := (hafter.1 _).resolve_left (by simpa using hstate)
      _ = ((s.grOutputsLow g).grTo g (if retry then 6 else 5)).grState g := State.rd_wr_ne _ _ _ _ hne
      _ = 5 := State.rd_wr_same _ _ 5
  · exact ((hafter.1 _).resolve_left (by simpa using hfault)).trans (State.rd_wr_same _ _ 9)

theorem haltGroup_halted (h : s.grHalted g ∨ (g = k ∧ s.grSwitching g = true)) : (s.haltGroup k).grHalted g := by
  rcases eq_or_ne g k with rfl | hne
  · rcases h with h | h
    · have hrest : s.grSwitching g = false := by simp [State.grSwitching, h.1]
      rwa [State.haltGroup, if_neg (by simp [hrest])]
    · exact haltGroup_own h.2
  · have hg := h.resolve_right fun hk => hne hk.1
    obtain ⟨hstate, hfault⟩ := haltGroup_other (s := s) hne
    exact ⟨hstate.trans hg.1, hfault.trans hg.2⟩

theorem each_haltGroup_halted (l : List (Fin 4)) (s : State) (h : s.grHalted g ∨ (g ∈ l ∧ s.grSwitching g = true)) :
    (s.each (l.map Fin.val) State.haltGroup).grHalted g := by
  induction l generalizing s with
  | nil => exact h.resolve_right fun hg => List.not_mem_nil hg.1
  | cons k l ih =>
    refine ih (s.haltGroup k) ?_
    rcases h with h | ⟨hmem, hsw⟩
    · exact .inl (haltGroup_halted (.inl h))
    · rcases eq_or_ne g k with rfl | hne
      · exact .inl (haltGroup_halted (.inr ⟨rfl, hsw⟩))
      · refine .inr ⟨(List.mem_cons.1 hmem).resolve_left hne, ?_⟩
        rwa [State.grSwitching, (haltGroup_other hne).1]

/-- A PCP that is halted stays halted: its wake is discarded (R526). -/
theorem haltGroup_run (h : (s.thread 34).run = .halted) (g : Nat) : ((s.haltGroup g).thread 34).run = .halted := by
  unfold State.haltGroup State.grFaults
  split
  case isFalse => exact h
  split
  · exact h
  extract_lets retry s1 _ s2
  have hlow : KeepsBut (grFields g) [.pwm] s (s.grOutputsLow g) :=
    (KeepsBut.refl _ _ s).grOutputsLow g (fun _ hf => hf) (by simp) (by simp)
  have hs2 : s2.threads = s.threads := hlow.2.threads (by simp)
  have hevent (u : State) (code src : Nat) (data : List Nat) : (u.event code src data).threads = u.threads :=
    ((KeepsBelow.refl memKeys [] readParts u).event (by simp [readParts]) code src data).2.threads (by simp [readParts])
  have hrun : ((s2.event 0x0E01 g (9 :: evBytes 4 (s.gr g).vout)).thread 34).run = .halted := by
    rw [State.thread_of_threads ((hevent _ _ _ _).trans hs2)]
    exact h
  simp only [State.wakePcp, State.wake, hrun]

theorem each_haltGroup_run (l : List Nat) (s : State) (h : (s.thread 34).run = .halted) :
    ((s.each l State.haltGroup).thread 34).run = .halted := by
  induction l generalizing s with
  | nil => exact h
  | cons g l ih => exact ih _ (haltGroup_run h g)

/-- The PCP halts, and every group that switches faults with PCP_HALT (R863). -/
theorem pcpHalt_halts (h : (s.thread 34).run = .halted) (code : Nat) :
    ((s.pcpHalt code).thread 34).run = .halted ∧ (s.pcpHalt code).rd Reg.PCP_CTRL_HALTED = 1 ∧
      (s.pcpHalt code).rd Reg.PCP_CTRL_RUNNING = 0 ∧
      ∀ g : Fin 4, s.grSwitching g = true → (s.pcpHalt code).grHalted g := by
  unfold State.pcpHalt
  extract_lets s1
  have heach : KeepsBut parkFields [.pwm, .tk, .jr, .gl, .marks, .threads] s1 (s1.each (List.range 4) State.haltGroup) := by
    refine KeepsBut.each _ _ (fun g hg _ u hu => hu.trans ((haltGroup_keepsBut u g).mono (fun f hf => ?_) (by simp)))
      (KeepsBut.refl _ _ s1)
    rcases List.mem_cons.1 hf with rfl | hf
    · exact List.mem_cons_self
    · exact List.mem_cons_of_mem _ (List.mem_flatMap.2 ⟨g, hg, hf⟩)
  have hevent := (KeepsBelow.refl memKeys [] readParts (s1.each (List.range 4) State.haltGroup)).event (by simp [readParts])
    0x0E04 0 [code]
  have hrd (f : Field) (hf : f.key < memKeys) (hp : f.key ∉ parkFields.map Field.key) :
      ((s1.each (List.range 4) State.haltGroup).event 0x0E04 0 [code]).rd f = s1.rd f :=
    (hevent.rd f hf (by simp)).trans ((heach.1 f).resolve_left hp)
  have hkeys : ∀ g : Fin 4, (Reg.PWM_G_STAT_STATE.at g).key < memKeys ∧ (Reg.PWM_G_STAT_FAULT.at g).key < memKeys := by decide
  have hpcp : ∀ g : Fin 4, ∀ f ∈ [Reg.PCP_CTRL_RUNNING, Reg.PCP_CTRL_HALTED, Reg.PCP_CTRL_DOUBLE_TRAP],
      (Reg.PWM_G_STAT_STATE.at g).key ≠ f.key := by decide
  refine ⟨?_, ?_, ?_, fun g hg => ?_⟩
  · refine (congrArg Thread.run (State.thread_of_threads (hevent.2.threads (by simp [readParts])) 34)).trans ?_
    exact each_haltGroup_run _ s1 h
  · exact (hrd _ (by decide) (by decide +kernel)).trans ((State.rd_wr_ne _ _ _ _ (by decide)).trans (State.rd_wr_same _ _ 1))
  · exact (hrd _ (by decide) (by decide +kernel)).trans
      ((State.rd_wr_ne _ _ _ _ (by decide)).trans ((State.rd_wr_ne _ _ _ _ (by decide)).trans (State.rd_wr_same _ _ 0)))
  · have hsame : s1.grState g = s.grState g :=
      (State.rd_wr_ne _ _ _ _ (hpcp g _ (by simp))).trans
        ((State.rd_wr_ne _ _ _ _ (hpcp g _ (by simp))).trans (State.rd_wr_ne _ _ _ _ (hpcp g _ (by simp))))
    have hsw : s1.grSwitching g = true := by rwa [State.grSwitching, hsame]
    obtain ⟨hstate, hfault⟩ := each_haltGroup_halted (List.finRange 4) s1 (.inr ⟨List.mem_finRange g, hsw⟩)
    exact ⟨(hevent.rd _ (hkeys g).1 (by simp)).trans hstate, (hevent.rd _ (hkeys g).2 (by simp)).trans hfault⟩

/-- A double trap of the PCP halts it. -/
theorem doubleTrap_pcp_halts (s : State) (code : Nat) (tpc : Word) :
    ((s.doubleTrap 34 code tpc).thread 34).run = .halted ∧ (s.doubleTrap 34 code tpc).rd Reg.PCP_CTRL_HALTED = 1 ∧
      (s.doubleTrap 34 code tpc).rd Reg.PCP_CTRL_RUNNING = 0 ∧
      ∀ g : Fin 4, s.grSwitching g = true → (s.doubleTrap 34 code tpc).grHalted g := by
  unfold State.doubleTrap
  extract_lets u
  rw [if_neg (by decide), if_neg (by decide)]
  have hu : KeepsBelow memKeys [Reg.SYS_TRAPCNT_DOUBLE] readParts s u :=
    ((KeepsBelow.refl memKeys _ readParts s).wr _ _ (by simp)).event (by simp [readParts]) _ _ _
  have hkeys : ∀ g : Fin 4, (Reg.PWM_G_STAT_STATE.at g).key < memKeys ∧
      (Reg.PWM_G_STAT_STATE.at g).key ∉ [Reg.SYS_TRAPCNT_DOUBLE].map Field.key := by decide
  obtain ⟨hrun, hhalted, hrunning, hgroups⟩ := pcpHalt_halts (s := u.setThread 34 { u.thread 34 with run := .halted })
    (congrArg Thread.run (u.thread_setThread 34 _)) code
  refine ⟨hrun, hhalted, hrunning, fun g hg => hgroups g ?_⟩
  have hsame : u.grState g = s.grState g := hu.rd _ (hkeys g).1 (hkeys g).2
  exact (congrArg (fun n => decide (2 ≤ n) && decide (n ≤ 4)) hsame).trans hg

end

/-- Settles O50: an instruction that fails at its start, in its operands or by its own rule takes its trap. -/
theorem eurnafaTraps : Obligations.EurnafaTraps := by
  refine ⟨fun s op c hc hm hf ht => ?fetch, fun s op c hc hm hb hf h ht => ?illegal, fun s op c hc hm hb hf he hbad h ht => ?noOpcode,
    fun s op b hi hb ha hB hu hany hp ht => ?mismatch, fun s op x hi htag hx hu ht => ?source,
    fun s op b hi hb ha hB hp hz ht => ?zero, fun s op hi hw hbase hu hhas ht => ?address, fun s op hi ht => ?swt,
    fun s op hop hm hb ht => ?double⟩
  case fetch =>
    obtain ⟨body, hexec⟩ := exec_eurnafa (s := s) hc
    refine ⟨_, hexec, ?_⟩
    rw [issue_fetchError hm hf]
    exact takeTrap_trapped ((congrArg _ State.fetched_thread).trans ht) (by decide) _ _
  case illegal =>
    obtain ⟨body, hexec⟩ := exec_eurnafa (s := s) hc
    refine ⟨_, hexec, ?_⟩
    rw [issue_illegal hm hb hf h]
    obtain ⟨hcause, htpc, hfl, hactive, hpc, hg, hcode, hshown, hmem, hothers⟩ := freeTrap_atStart ht (show 1 < 16 by decide)
    exact ⟨hcause, htpc, hfl, hactive, hpc, hg, hcode, hshown, hmem, hothers⟩
  case noOpcode =>
    obtain ⟨body, hexec⟩ := exec_eurnafa (s := s) hc
    refine ⟨_, hexec, ?_⟩
    rw [hbad, issue_noOpcode hm hb hf he h]
    obtain ⟨hcause, htpc, hfl, hactive, hpc, hg, hcode, hshown, hmem, hothers⟩ := freeTrap_atStart ht (show 2 < 16 by decide)
    exact ⟨hcause, htpc, hfl, hactive, hpc, hg, hcode, hshown, hmem, hothers⟩
  case mismatch =>
    refine answers_trap (c := .euAnd op) hi rfl ?_ ((State.sourceB_threads hb).trans (s.fetched_threads _ _)) ht (by decide)
    rw [State.alu, State.fetched_greg_d]
    exact withPair_of_mismatch hb ha hB hu hany hp
  case source =>
    have hsrc : srcTrap op false (s.euD op) = x := by
      rcases hx with rfl | rfl <;> simp [srcTrap, hu, htag]
    refine answers_trap (c := .euAnd op) hi rfl ?_ (s.fetched_threads _ _) ht (by omega)
    rw [State.alu, State.fetched_greg_d]
    exact (withPair_of_srcTrap (by omega)).trans (by rw [hsrc])
  case zero =>
    obtain ⟨tg, htg⟩ := resultTag_of_isSome (op := op) hp
    refine answers_trap (c := .euDiv op) hi rfl ?_ ((State.sourceB_threads hb).trans (s.fetched_threads _ _)) ht (by decide)
    simp only [State.fetched_greg_d]
    exact (withPair_of_resultTag hb ha hB htg _).trans (if_pos hz)
  case address =>
    refine answers_trap (c := .euLd op) hi rfl ?_ (s.fetched_threads _ _) ht (by decide)
    simp only [hw, Bool.false_eq_true, if_false]
    rw [withAddr_of_not_has (by rwa [State.fetched_euB]) (by rwa [State.fetched_euB]), State.fetched_euB]
    rfl
  case swt =>
    refine ⟨_, rfl, ?_⟩
    rw [issue_of_euIssues hi _ rfl rfl]
    have hv : EuRan (s.fetched imm8Desc op) _ op _ := EuRan.fetched.update fun x => { x with pc := s.euNext imm8Desc op }
    have htrap := takeTrap_trapped (op := op) ((congrArg Thread.tactive hv.1).trans ht) (show 0xC < 16 by decide)
      (s.euNext imm8Desc op) (immOf op .uint)
    obtain ⟨hown, _, _, hcode, _⟩ := htrap
    exact ⟨hown.trans (by rw [State.euThread, hv.1]; rfl), hcode⟩
  case double =>
    have h34 : (op.thread : Nat) = 34 := congrArg Fin.val hop
    have hactive : ((s.fetched nDesc op).thread 34).tactive = true :=
      (congrArg Thread.tactive (State.thread_of_threads (s.fetched_threads _ _) 34)).trans ht
    have hkeys : ∀ g : Fin 4, (Reg.PWM_G_STAT_STATE.at g).key < memKeys := by decide
    obtain ⟨hrun, hhalted, hrunning, hgroups⟩ := doubleTrap_pcp_halts (s.fetched nDesc op) 0xA (s.euThread op).pc
    have hmay : s.mayIssue op.thread = true := h34.symm ▸ hm
    refine ⟨_, rfl, ?_⟩
    rw [issue_fetchError hmay (.inl hb), h34, State.takeTrap, if_pos hactive]
    refine ⟨hrun, hhalted, hrunning, fun g hlo hhi => hgroups g ?_⟩
    have hsame : (s.fetched nDesc op).grState g = s.grState g := (s.fetchFails_keepsBelow _ _).rd _ (hkeys g) (by simp)
    simp [State.grSwitching, hsame, hlo, hhi]

end Sys2Proof.Machine

/-! ## Scope: no register holds tag 0xE (R480, R512) -/

namespace Sys2Proof.Machine

section

set_option Elab.async false

variable {s : State}

/-! The registers stand in `threads`. A function that leaves them has its lemma as `(f s).tagsHeld ↔ s.tagsHeld`, which `simp` rewrites
with under any composition. A function that may reset threads (the load and release of an image, the loss of power) or write a register
(the Eurnafa instructions) has it as an implication. The lemmas stand in the order of the model. -/

/-! ### The shapes of the model's functions -/

/-- No general register of these threads holds tag 0xE. -/
def heldIn (threads : Store (Option Thread)) : Prop :=
  ∀ i n : Nat, (((threads.get none i).getD (threadReset i)).g.get TWord.nilWord n).tag ≠ .reserved

@[simp] theorem heldIn_threads : heldIn s.threads ↔ s.tagsHeld := Iff.rfl

@[simp] theorem tagsHeld_mk {regs cycle free marks fuse link linkAnswer pow od tk jr flash trd time mem threads img hed loom can pwm fan
    bk gl readData pending} :
    State.tagsHeld ⟨regs, cycle, free, marks, fuse, link, linkAnswer, pow, od, tk, jr, flash, trd, time, mem, threads, img, hed, loom,
      can, pwm, fan, bk, gl, readData, pending⟩ ↔ heldIn threads := Iff.rfl

/-- A change of a thread that leaves its registers. -/
@[simp] theorem setThread_tagsHeld {i : Nat} {t : Thread} (h : t.g = (s.thread i).g) : (s.setThread i t).tagsHeld ↔ s.tagsHeld := by
  have hg (j n : Nat) : (s.setThread i t).greg j n = s.greg j n := by
    rcases eq_or_ne j i with rfl | hj
    · rw [State.greg, State.thread_setThread, h, State.greg]
    · rw [State.greg, State.thread_setThread_ne _ _ _ _ hj, State.greg]
  simp only [State.tagsHeld, hg]

theorem threadReset_held (i n : Nat) : ((threadReset i).g.get TWord.nilWord n).tag ≠ .reserved :=
  reset_tagsHeld i n

theorem setThread_held {i : Nat} {t : Thread} (hs : s.tagsHeld) (h : ∀ n, (t.g.get TWord.nilWord n).tag ≠ .reserved) :
    (s.setThread i t).tagsHeld := by
  intro j n
  rcases eq_or_ne j i with rfl | hj
  · rw [State.greg, State.thread_setThread]
    exact h n
  · rw [State.greg, State.thread_setThread_ne _ _ _ _ hj]
    exact hs j n

section

variable {c : Prop} {d : Decidable c} {α β : Type}

@[simp] theorem ite_tagsHeld {a b : State} : (if c then a else b).tagsHeld ↔ if c then a.tagsHeld else b.tagsHeld := by
  split <;> rfl

@[simp] theorem ite_fst_tagsHeld {a b : State × α} : (if c then a else b).1.tagsHeld ↔ if c then a.1.tagsHeld else b.1.tagsHeld := by
  split <;> rfl

@[simp] theorem ite_snd_tagsHeld {a b : α × State} : (if c then a else b).2.tagsHeld ↔ if c then a.2.tagsHeld else b.2.tagsHeld := by
  split <;> rfl

@[simp] theorem ite_snd_snd_tagsHeld {a b : α × β × State} :
    (if c then a else b).2.2.tagsHeld ↔ if c then a.2.2.tagsHeld else b.2.2.tagsHeld := by
  split <;> rfl

@[simp] theorem foldl_tagsHeld {l : List α} {f : State → α → State} {s} (h : ∀ u a, (f u a).tagsHeld ↔ u.tagsHeld) :
    (l.foldl f s).tagsHeld ↔ s.tagsHeld := by
  induction l generalizing s with
  | nil => rfl
  | cons a l ih => exact ih.trans (h _ _)

@[simp] theorem foldl_snd_tagsHeld {l : List α} {f : β × State → α → β × State} {s}
    (h : ∀ u a, (f u a).2.tagsHeld ↔ u.2.tagsHeld) : (l.foldl f s).2.tagsHeld ↔ s.2.tagsHeld := by
  induction l generalizing s with
  | nil => rfl
  | cons a l ih => exact ih.trans (h _ _)

@[simp] theorem each_tagsHeld {l : List α} {f : State → α → State} (h : ∀ u a, (f u a).tagsHeld ↔ u.tagsHeld) :
    (s.each l f).tagsHeld ↔ s.tagsHeld :=
  foldl_tagsHeld h

theorem each_held {l : List α} {f : State → α → State} (hs : s.tagsHeld) (h : ∀ u a, u.tagsHeld → (f u a).tagsHeld) :
    (s.each l f).tagsHeld := by
  induction l generalizing s with
  | nil => exact hs
  | cons a l ih => exact ih (h _ _ hs)

theorem foldl_snd_held {l : List α} {f : β × State → α → β × State} {p : β × State} (hp : p.2.tagsHeld)
    (h : ∀ q a, q.2.tagsHeld → (f q a).2.tagsHeld) : (l.foldl f p).2.tagsHeld := by
  induction l generalizing p with
  | nil => exact hp
  | cons a l ih => exact ih (h _ _ hp)

theorem held_ite {a b : State} (ha : a.tagsHeld) (hb : b.tagsHeld) : (if c then a else b).tagsHeld := by
  split
  · exact ha
  · exact hb

theorem getD_tagsHeld {o : Option State} {t : State} {p : Prop} (h : ∀ u ∈ o, u.tagsHeld ↔ p) (ht : t.tagsHeld ↔ p) :
    (o.getD t).tagsHeld ↔ p := by
  cases o with
  | none => exact ht
  | some u => exact h u rfl

theorem getD_snd_tagsHeld {o : Option (Nat × State)} {q : Nat × State} {p : Prop} (h : ∀ u ∈ o, u.2.tagsHeld ↔ p)
    (hp : q.2.tagsHeld ↔ p) : (o.getD q).2.tagsHeld ↔ p := by
  cases o with
  | none => exact hp
  | some u => exact h u rfl

end

@[simp] theorem stateOf_ite_tagsHeld {c : Prop} {d : Decidable c} {a b : Out} :
    (stateOf s (if c then a else b)).tagsHeld ↔ if c then (stateOf s a).tagsHeld else (stateOf s b).tagsHeld := by
  split <;> rfl

@[simp] theorem HdRes.state_ite_tagsHeld {c : Prop} {d : Decidable c} {a b : HdRes} :
    (if c then a else b).state.tagsHeld ↔ if c then a.state.tagsHeld else b.state.tagsHeld := by
  split <;> rfl

@[simp] theorem EurRes.state_ite_tagsHeld {c : Prop} {d : Decidable c} {a b : EurRes} :
    (if c then a else b).state.tagsHeld ↔ if c then a.state.tagsHeld else b.state.tagsHeld := by
  split <;> rfl

@[simp] theorem State.wr_tagsHeld {f v} : (s.wr f v).tagsHeld ↔ s.tagsHeld := Iff.rfl
@[simp] theorem State.mark_tagsHeld {m} : (s.mark m).tagsHeld ↔ s.tagsHeld := Iff.rfl
@[simp] theorem State.drawWord_tagsHeld : s.drawWord.2.tagsHeld ↔ s.tagsHeld := Iff.rfl
@[simp] theorem State.drawBool_tagsHeld : s.drawBool.2.tagsHeld ↔ s.tagsHeld := Iff.rfl
@[simp] theorem State.odPut_tagsHeld {i j v} : (s.odPut i j v).tagsHeld ↔ s.tagsHeld := Iff.rfl
@[simp] theorem State.setGlink_tagsHeld {i l} : (s.setGlink i l).tagsHeld ↔ s.tagsHeld := Iff.rfl
@[simp] theorem State.setTicket_tagsHeld {i t} : (s.setTicket i t).tagsHeld ↔ s.tagsHeld := Iff.rfl
@[simp] theorem State.setSlot_tagsHeld {k v} : (s.setSlot k v).tagsHeld ↔ s.tagsHeld := Iff.rfl
@[simp] theorem State.pktPut_tagsHeld {a b} : (s.pktPut a b).tagsHeld ↔ s.tagsHeld := Iff.rfl

theorem withLoom_tagsHeld {x : LoomState} : ({ s with loom := x } : State).tagsHeld ↔ s.tagsHeld := Iff.rfl
theorem withTrd_tagsHeld {x : TreadleState} : ({ s with trd := x } : State).tagsHeld ↔ s.tagsHeld := Iff.rfl

theorem stateOf_tagsHeld {u : State} {o : Out} (h : (stateOf u o).tagsHeld ↔ u.tagsHeld) (hu : u.tagsHeld ↔ s.tagsHeld) :
    (stateOf s o).tagsHeld ↔ s.tagsHeld := by
  cases o with
  | next t => exact h.trans hu
  | fault => rfl
  | refused => rfl

/-! ### Ops -/

@[simp] theorem State.inc_tagsHeld {f} : (s.inc f).tagsHeld ↔ s.tagsHeld := Iff.rfl
@[simp] theorem State.wrIf_tagsHeld {c f v} : (s.wrIf c f v).tagsHeld ↔ s.tagsHeld := by simp [State.wrIf]
@[simp] theorem State.wrBit_tagsHeld {f k b} : (s.wrBit f k b).tagsHeld ↔ s.tagsHeld := Iff.rfl
@[simp] theorem State.answer_tagsHeld {code} : (s.answer code).tagsHeld ↔ s.tagsHeld := Iff.rfl
@[simp] theorem State.linkFails_tagsHeld : s.linkFails.tagsHeld ↔ s.tagsHeld := Iff.rfl

@[simp] theorem State.overLink_tagsHeld {f} (h : ∀ u, (f u).tagsHeld ↔ u.tagsHeld) : (s.overLink f).tagsHeld ↔ s.tagsHeld := by
  simp [State.overLink, h]

@[simp] theorem State.odPutU_tagsHeld {index sub v} : (s.odPutU index sub v).tagsHeld ↔ s.tagsHeld := Iff.rfl
@[simp] theorem State.odInc_tagsHeld {index sub hi} : (s.odInc index sub hi).tagsHeld ↔ s.tagsHeld := Iff.rfl
@[simp] theorem State.glSend_tagsHeld {i f} : (s.glSend i f).tagsHeld ↔ s.tagsHeld := by simp [State.glSend]
@[simp] theorem State.mirrorRecord_tagsHeld {b} : (s.mirrorRecord b).tagsHeld ↔ s.tagsHeld := by simp [State.mirrorRecord]
@[simp] theorem State.mirrorRw_tagsHeld {items} : (s.mirrorRw items).tagsHeld ↔ s.tagsHeld := by simp [State.mirrorRw]
@[simp] theorem State.stageLocal_tagsHeld {b} : (s.stageLocal b).tagsHeld ↔ s.tagsHeld := by simp [State.stageLocal]
@[simp] theorem State.stage_tagsHeld {b} : (s.stage b).tagsHeld ↔ s.tagsHeld := by simp [State.stage]
@[simp] theorem State.intBit_tagsHeld {k} : (s.intBit k).tagsHeld ↔ s.tagsHeld := Iff.rfl
@[simp] theorem State.event_tagsHeld {code src data} : (s.event code src data).tagsHeld ↔ s.tagsHeld := by simp [State.event]

theorem State.admitTicket_tagsHeld {t} : ∀ u ∈ s.admitTicket t, u.1.tagsHeld ↔ s.tagsHeld := by
  unfold State.admitTicket
  split <;> simp

@[simp] theorem State.cardEnd_tagsHeld {i} : (s.cardEnd i).tagsHeld ↔ s.tagsHeld := by
  unfold State.cardEnd
  split <;> simp

@[simp] theorem State.gwAnswer_tagsHeld {h code} : (s.gwAnswer h code).tagsHeld ↔ s.tagsHeld := by
  unfold State.gwAnswer
  (repeat' split) <;> simp

@[simp] theorem State.odAnswer_tagsHeld {c code v h side} : (s.odAnswer c code v h side).tagsHeld ↔ s.tagsHeld := Iff.rfl

@[simp] theorem State.toWire_tagsHeld {r v} : (s.toWire r v).2.tagsHeld ↔ s.tagsHeld := by
  unfold State.toWire
  split <;> simp

@[simp] theorem State.toWireAll_tagsHeld {rs vs} : (s.toWireAll rs vs).2.tagsHeld ↔ s.tagsHeld := by
  induction rs generalizing s vs with
  | nil => rfl
  | cons r rs ih =>
    cases vs with
    | nil => rfl
    | cons v vs => simp [State.toWireAll, ih]

@[simp] theorem State.netFinal_tagsHeld {i} : (s.netFinal i).tagsHeld ↔ s.tagsHeld := by simp [State.netFinal]
@[simp] theorem State.finish_tagsHeld {i st code tag v} : (s.finish i st code tag v).tagsHeld ↔ s.tagsHeld := by simp [State.finish]
@[simp] theorem State.failTicket_tagsHeld {i code} : (s.failTicket i code).tagsHeld ↔ s.tagsHeld := by simp [State.failTicket]
@[simp] theorem State.retireSlot_tagsHeld {i} : (s.retireSlot i).tagsHeld ↔ s.tagsHeld := by simp [State.retireSlot]

@[simp] theorem State.wake_tagsHeld {i} : (s.wake i).tagsHeld ↔ s.tagsHeld := by
  unfold State.wake
  dsimp only
  split
  all_goals simp

@[simp] theorem State.interruptWeaver_tagsHeld : s.interruptWeaver.tagsHeld ↔ s.tagsHeld := by simp [State.interruptWeaver]
@[simp] theorem State.wakeShuttle_tagsHeld {n} : (s.wakeShuttle n).tagsHeld ↔ s.tagsHeld := by simp [State.wakeShuttle]
@[simp] theorem State.bgSlot_tagsHeld {bit unit fg} : (s.bgSlot bit unit fg).2.tagsHeld ↔ s.tagsHeld := by simp [State.bgSlot]

@[simp] theorem State.pktPutBytes_tagsHeld {k a b} : (State.pktPutBytes k s a b).tagsHeld ↔ s.tagsHeld := by
  induction k generalizing s a b with
  | zero => rfl
  | succ k ih => simp [State.pktPutBytes, ih]

/-! ### Can -/

@[simp] theorem State.setCn_tagsHeld {n u} : (s.setCn n u).tagsHeld ↔ s.tagsHeld := Iff.rfl
@[simp] theorem State.cnTo_tagsHeld {n st} : (s.cnTo n st).tagsHeld ↔ s.tagsHeld := Iff.rfl
@[simp] theorem State.moWake_tagsHeld {n k} : (s.moWake n k).tagsHeld ↔ s.tagsHeld := by simp [State.moWake]
@[simp] theorem State.cnRefuse_tagsHeld {n} : (s.cnRefuse n).tagsHeld ↔ s.tagsHeld := Iff.rfl
@[simp] theorem State.moClear_tagsHeld {n k} : (s.moClear n k).tagsHeld ↔ s.tagsHeld := Iff.rfl
@[simp] theorem State.moFail_tagsHeld {n k} : (s.moFail n k).tagsHeld ↔ s.tagsHeld := by simp [State.moFail]
@[simp] theorem State.moStore_tagsHeld {n k f back} : (s.moStore n k f back).tagsHeld ↔ s.tagsHeld := by simp [State.moStore]
@[simp] theorem State.cnCount_tagsHeld {n tec rec'} : (s.cnCount n tec rec').tagsHeld ↔ s.tagsHeld := by simp [State.cnCount]
@[simp] theorem State.cnStop_tagsHeld {n} : (s.cnStop n).tagsHeld ↔ s.tagsHeld := Iff.rfl
@[simp] theorem State.cnEnd_tagsHeld {n} : (s.cnEnd n).tagsHeld ↔ s.tagsHeld := by simp [State.cnEnd]
@[simp] theorem State.cnTiming_tagsHeld {n} : (s.cnTiming n).tagsHeld ↔ s.tagsHeld := by simp [State.cnTiming]
@[simp] theorem State.cellMissed_tagsHeld {n cell} : (s.cellMissed n cell).tagsHeld ↔ s.tagsHeld := Iff.rfl
@[simp] theorem State.exclMiss_tagsHeld {n cell k resend} : (s.exclMiss n cell k resend).tagsHeld ↔ s.tagsHeld := by simp [State.exclMiss]

@[simp] theorem State.columnEnd_tagsHeld {n} : (s.columnEnd n).tagsHeld ↔ s.tagsHeld := by
  unfold State.columnEnd
  dsimp only
  (repeat' split) <;> simp

@[simp] theorem State.evalCell_tagsHeld {n j} : (s.evalCell n j).tagsHeld ↔ s.tagsHeld := by
  unfold State.evalCell
  dsimp only
  split <;> simp

@[simp] theorem State.ttStart_tagsHeld {n cyc} : (s.ttStart n cyc).tagsHeld ↔ s.tagsHeld := by simp [State.ttStart]
@[simp] theorem State.ttReference_tagsHeld {n f} : (s.ttReference n f).tagsHeld ↔ s.tagsHeld := by simp [State.ttReference]
@[simp] theorem State.cnAngle_tagsHeld {n} : (s.cnAngle n).tagsHeld ↔ s.tagsHeld := by simp [State.cnAngle]
@[simp] theorem State.ttStep_tagsHeld {before} : (s.ttStep before).tagsHeld ↔ s.tagsHeld := by simp [State.ttStep]
@[simp] theorem State.copyWake_tagsHeld {n} : (s.copyWake n).tagsHeld ↔ s.tagsHeld := Iff.rfl
@[simp] theorem State.wakeRate_tagsHeld {n} : (s.wakeRate n).tagsHeld ↔ s.tagsHeld := Iff.rfl
@[simp] theorem execCanStart_tagsHeld {n wtr} : (stateOf s (execCanStart n wtr s)).tagsHeld ↔ s.tagsHeld := by simp [execCanStart]
@[simp] theorem execCanStop_tagsHeld {n} : (stateOf s (execCanStop n s)).tagsHeld ↔ s.tagsHeld := by simp [execCanStop]
@[simp] theorem execCanRecover_tagsHeld {n} : (stateOf s (execCanRecover n s)).tagsHeld ↔ s.tagsHeld := by simp [execCanRecover]
@[simp] theorem execCanSleep_tagsHeld {n} : (stateOf s (execCanSleep n s)).tagsHeld ↔ s.tagsHeld := by simp [execCanSleep]
@[simp] theorem State.recAfter_tagsHeld {n} : (s.recAfter n).2.tagsHeld ↔ s.tagsHeld := by simp [State.recAfter]

@[simp] theorem State.cnOffer_tagsHeld {n f back} : (s.cnOffer n f back).tagsHeld ↔ s.tagsHeld := by
  unfold State.cnOffer
  dsimp only
  (repeat' split) <;> simp

@[simp] theorem execTransmitAttemptStart_tagsHeld {n left} : (stateOf s (execTransmitAttemptStart n left s)).tagsHeld ↔ s.tagsHeld := by
  unfold execTransmitAttemptStart
  (repeat' split) <;> simp

@[simp] theorem execTransmitSuccess_tagsHeld {n back} : (stateOf s (execTransmitSuccess n back s)).tagsHeld ↔ s.tagsHeld := by
  unfold execTransmitSuccess
  split <;> simp

@[simp] theorem State.cnBusOff_tagsHeld {n} : (s.cnBusOff n).tagsHeld ↔ s.tagsHeld := by
  unfold State.cnBusOff
  dsimp only
  split <;> simp

@[simp] theorem execTransmitFailure_tagsHeld {n why} : (stateOf s (execTransmitFailure n why s)).tagsHeld ↔ s.tagsHeld := by
  unfold execTransmitFailure
  dsimp only
  (repeat' split) <;> simp

@[simp] theorem execTxset_tagsHeld {n k} : (stateOf s (execTxset n k s)).tagsHeld ↔ s.tagsHeld := by simp [execTxset]

@[simp] theorem execTxcancel_tagsHeld {n k} : (stateOf s (execTxcancel n k s)).tagsHeld ↔ s.tagsHeld := by
  unfold execTxcancel
  split <;> simp

@[simp] theorem execMoConfigWrite_tagsHeld {n k w} : (stateOf s (execMoConfigWrite n k w s)).tagsHeld ↔ s.tagsHeld := by
  unfold execMoConfigWrite
  split <;> simp

@[simp] theorem execTtTxWindowExpiry_tagsHeld {n} : (stateOf s (execTtTxWindowExpiry n s)).tagsHeld ↔ s.tagsHeld := by
  unfold execTtTxWindowExpiry
  split <;> simp

@[simp] theorem execBusFaultClear_tagsHeld {n} : (stateOf s (execBusFaultClear n s)).tagsHeld ↔ s.tagsHeld := by
  unfold execBusFaultClear
  split <;> simp

/-! ### LoomOps -/

@[simp] theorem State.pstk_tagsHeld {p k} : (s.pstk p k).tagsHeld ↔ s.tagsHeld := by simp [State.pstk]
@[simp] theorem State.setEg_tagsHeld {p e} : (s.setEg p e).tagsHeld ↔ s.tagsHeld := Iff.rfl
@[simp] theorem State.setQset_tagsHeld {q v} : (s.setQset q v).tagsHeld ↔ s.tagsHeld := Iff.rfl
@[simp] theorem State.setFrame_tagsHeld {f v} : (s.setFrame f v).tagsHeld ↔ s.tagsHeld := Iff.rfl

@[simp] theorem State.pickCells_tagsHeld {k l} : (State.pickCells k s l).2.tagsHeld ↔ s.tagsHeld := by
  simp [pickCells_state]

@[simp] theorem State.putCells_tagsHeld {l b} : (State.putCells s l b).tagsHeld ↔ s.tagsHeld := by
  induction l generalizing s b with
  | nil => rfl
  | cons c l ih => simp [State.putCells, ih]

@[simp] theorem State.release_tagsHeld {first} : (s.release first).tagsHeld ↔ s.tagsHeld := by
  unfold State.release
  split <;> simp

@[simp] theorem State.bobLose_tagsHeld : s.bobLose.tagsHeld ↔ s.tagsHeld := Iff.rfl

@[simp] theorem State.bobbin_tagsHeld {bytes port dir verdict tc vid clock ang} :
    (s.bobbin bytes port dir verdict tc vid clock ang).tagsHeld ↔ s.tagsHeld := by
  simp [State.bobbin]

theorem State.complete_tagsHeld {q w} : ∀ t ∈ s.complete q w, t.tagsHeld ↔ s.tagsHeld := by
  unfold State.complete
  dsimp only
  split <;> simp

@[simp] theorem State.endCopy_tagsHeld {first} : (s.endCopy first).tagsHeld ↔ s.tagsHeld := by
  unfold State.endCopy
  split <;> simp

@[simp] theorem State.dropCopy_tagsHeld {port verdict c} : (s.dropCopy port verdict c).tagsHeld ↔ s.tagsHeld := by
  unfold State.dropCopy
  split
  · rfl
  extract_lets +onlyGivenNames s1 _ s2
  have h1 : s1.tagsHeld ↔ s.tagsHeld := State.bobbin_tagsHeld
  have h2 : s2.tagsHeld ↔ s.tagsHeld := by
    unfold s2
    split
    · exact h1
    · split
      · exact h1
      · exact getD_tagsHeld (fun u hu => (complete_tagsHeld u hu).trans h1) h1
  exact State.endCopy_tagsHeld.trans h2

@[simp] theorem State.eventCount_tagsHeld {x} : (s.eventCount x).2.tagsHeld ↔ s.tagsHeld := by
  unfold State.eventCount
  extract_lets e e1
  split
  · exact withLoom_tagsHeld
  · dsimp only
    split
    · rfl
    · exact State.odPut_tagsHeld ..

theorem counted_tagsHeld {o : Option Nat} :
    (match o with
      | some x => s.eventCount x
      | none => (true, s)).2.tagsHeld ↔ s.tagsHeld := by
  cases o with
  | none => rfl
  | some x => exact State.eventCount_tagsHeld

@[simp] theorem State.deliver_tagsHeld {q first} : (s.deliver q first).2.tagsHeld ↔ s.tagsHeld := by
  unfold State.deliver
  split
  · rfl
  extract_lets +onlyGivenNames v c
  have hc : c.2.tagsHeld ↔ s.tagsHeld := counted_tagsHeld
  clear_value c
  extract_lets +onlyGivenNames u e base _ s1 s2
  have h2 : s2.tagsHeld ↔ s.tagsHeld := by simp [s2, s1, u, hc]
  clear_value s2
  simp [hc, h2]

@[simp] theorem State.tgRestart_tagsHeld {p} : (s.tgRestart p).tagsHeld ↔ s.tagsHeld := by
  unfold State.tgRestart
  dsimp only
  split <;> simp

@[simp] theorem State.agRestart_tagsHeld {p} : (s.agRestart p).tagsHeld ↔ s.tagsHeld := by
  unfold State.agRestart
  dsimp only
  split <;> simp

@[simp] theorem State.rePlaceTime_tagsHeld : s.rePlaceTime.tagsHeld ↔ s.tagsHeld := Iff.rfl
@[simp] theorem State.rePlaceAngle_tagsHeld : s.rePlaceAngle.tagsHeld ↔ s.tagsHeld := by simp [State.rePlaceAngle]

@[simp] theorem State.learn_tagsHeld {mac vid port} : (s.learn mac vid port).tagsHeld ↔ s.tagsHeld := by
  unfold State.learn
  split <;> simp

@[simp] theorem State.enqueue_tagsHeld {p tc c} : (s.enqueue p tc c).2.tagsHeld ↔ s.tagsHeld := by
  unfold State.enqueue
  split <;> simp

@[simp] theorem State.forward_tagsHeld {first b port vid prio tcs localOnly} :
    (s.forward first b port vid prio tcs localOnly).2.tagsHeld ↔ s.tagsHeld := by
  simp [State.forward]

/-! ### Time -/

@[simp] theorem State.setTpo_tagsHeld {n u} : (s.setTpo n u).tagsHeld ↔ s.tagsHeld := Iff.rfl
@[simp] theorem State.tpoPulse_tagsHeld {n} : (s.tpoPulse n).tagsHeld ↔ s.tagsHeld := by simp [State.tpoPulse]
@[simp] theorem State.tpoArm_tagsHeld {n} : (s.tpoArm n).tagsHeld ↔ s.tagsHeld := Iff.rfl
@[simp] theorem State.tpoChanged_tagsHeld {n} : (s.tpoChanged n).tagsHeld ↔ s.tagsHeld := by simp [State.tpoChanged]
@[simp] theorem State.tpoServe_tagsHeld {n i} : (s.tpoServe n i).tagsHeld ↔ s.tagsHeld := by simp [State.tpoServe]

@[simp] theorem State.tpoStep_tagsHeld {src forward} : (s.tpoStep src forward).tagsHeld ↔ s.tagsHeld := by
  refine each_tagsHeld fun u n => ?_
  dsimp only
  split
  · rfl
  split
  · split <;> simp
  · simp

@[simp] theorem State.dtSet_tagsHeld {c} : (s.dtSet c).tagsHeld ↔ s.tagsHeld := by simp [State.dtSet]
@[simp] theorem State.dtStep_tagsHeld : s.dtStep.tagsHeld ↔ s.tagsHeld := by simp [State.dtStep]
@[simp] theorem State.reSource_tagsHeld : s.reSource.tagsHeld ↔ s.tagsHeld := by simp [State.reSource]
theorem State.dtCommand_tagsHeld : ∀ u ∈ s.dtCommand, u.tagsHeld ↔ s.tagsHeld := by simp [State.dtCommand]
@[simp] theorem State.domMove_tagsHeld {x c} : (s.domMove x c).tagsHeld ↔ s.tagsHeld := by simp [State.domMove]
@[simp] theorem State.beatNow_tagsHeld {x} : (s.beatNow x).tagsHeld ↔ s.tagsHeld := Iff.rfl
@[simp] theorem State.domTo_tagsHeld {x st} : (s.domTo x st).tagsHeld ↔ s.tagsHeld := by simp [State.domTo]
@[simp] theorem State.domStateWrite_tagsHeld {x v} : (s.domStateWrite x v).tagsHeld ↔ s.tagsHeld := by simp [State.domStateWrite]
@[simp] theorem State.domRateWrite_tagsHeld {x rate} : (s.domRateWrite x rate).tagsHeld ↔ s.tagsHeld := by simp [State.domRateWrite]
@[simp] theorem State.domRateLo_tagsHeld {x v} : (s.domRateLo x v).tagsHeld ↔ s.tagsHeld := by simp [State.domRateLo]
@[simp] theorem State.domStep_tagsHeld {x ns} : (s.domStep x ns).tagsHeld ↔ s.tagsHeld := by simp [State.domStep]
@[simp] theorem State.domSet_tagsHeld {x} : (s.domSet x).tagsHeld ↔ s.tagsHeld := by simp [State.domSet]
@[simp] theorem State.tickTime_tagsHeld : s.tickTime.tagsHeld ↔ s.tagsHeld := Iff.rfl

@[simp] theorem State.timeStart_tagsHeld {cnt} : (s.timeStart cnt).tagsHeld ↔ s.tagsHeld := by
  have h : (s.timeStart cnt).threads = s.threads := by
    unfold State.timeStart
    generalize clockOf _ _ = c
    rfl
  rw [← heldIn_threads, h, heldIn_threads]

@[simp] theorem State.setTpi_tagsHeld {n l} : (s.setTpi n l).tagsHeld ↔ s.tagsHeld := Iff.rfl

@[simp] theorem State.tpiPop_tagsHeld {n} : (s.tpiPop n).tagsHeld ↔ s.tagsHeld := by
  unfold State.tpiPop
  split <;> simp

@[simp] theorem State.tpiTake_tagsHeld {n} : (s.tpiTake n).2.tagsHeld ↔ s.tagsHeld := by
  unfold State.tpiTake
  split <;> simp

@[simp] theorem execDtStepCmd_tagsHeld : (stateOf s (execDtStepCmd s)).tagsHeld ↔ s.tagsHeld := by
  unfold execDtStepCmd
  split
  next e => simpa using State.dtCommand_tagsHeld _ e
  next => simp

@[simp] theorem State.snap_tagsHeld : s.snap.tagsHeld ↔ s.tagsHeld := Iff.rfl

@[simp] theorem execTpoAssert_tagsHeld {n} : (stateOf s (execTpoAssert n s)).tagsHeld ↔ s.tagsHeld := by
  unfold execTpoAssert
  (repeat' split) <;> simp

@[simp] theorem State.tpoAngle_tagsHeld {n} : (s.tpoAngle n).tagsHeld ↔ s.tagsHeld := by simp [State.tpoAngle]

/-! ### Backup -/

@[simp] theorem State.firstPower_tagsHeld {src} : (s.firstPower src).tagsHeld ↔ s.tagsHeld := Iff.rfl
@[simp] theorem State.placeTarget_tagsHeld : s.placeTarget.tagsHeld ↔ s.tagsHeld := Iff.rfl
@[simp] theorem State.alarmFire_tagsHeld {late} : (s.alarmFire late).tagsHeld ↔ s.tagsHeld := by simp [State.alarmFire]
@[simp] theorem State.periodFire_tagsHeld {t} : (s.periodFire t).tagsHeld ↔ s.tagsHeld := by simp [State.periodFire]

@[simp] theorem State.periodCheck_tagsHeld : s.periodCheck.tagsHeld ↔ s.tagsHeld := by
  unfold State.periodCheck
  split <;> simp

@[simp] theorem State.rtcLoad_tagsHeld : s.rtcLoad.tagsHeld ↔ s.tagsHeld := by simp [State.rtcLoad]
@[simp] theorem State.winTick_tagsHeld : s.winTick.tagsHeld ↔ s.tagsHeld := Iff.rfl
@[simp] theorem State.rtcEdge_tagsHeld : s.rtcEdge.tagsHeld ↔ s.tagsHeld := by simp [State.rtcEdge]
@[simp] theorem State.rtcEdgeIf_tagsHeld {c} : (s.rtcEdgeIf c).tagsHeld ↔ s.tagsHeld := by simp [State.rtcEdgeIf]

theorem State.offsetWrite_tagsHeld {v} : ∀ t ∈ s.offsetWrite v, t.tagsHeld ↔ s.tagsHeld := by
  unfold State.offsetWrite
  split <;> simp

@[simp] theorem State.summer_tagsHeld {on} : (s.summer on).1.tagsHeld ↔ s.tagsHeld := by
  unfold State.summer
  dsimp only
  split
  · rfl
  split
  next => rfl
  next e => simpa using offsetWrite_tagsHeld _ e

@[simp] theorem State.rtcSet_tagsHeld : s.rtcSet.tagsHeld ↔ s.tagsHeld := Iff.rfl
@[simp] theorem State.rtcSetTo_tagsHeld {v} : (s.rtcSetTo v).tagsHeld ↔ s.tagsHeld := Iff.rfl
@[simp] theorem State.alarmLo_tagsHeld {v} : (s.alarmLo v).tagsHeld ↔ s.tagsHeld := Iff.rfl
@[simp] theorem State.alarmHi_tagsHeld {v} : (s.alarmHi v).tagsHeld ↔ s.tagsHeld := Iff.rfl
@[simp] theorem State.periodWrite_tagsHeld {v} : (s.periodWrite v).tagsHeld ↔ s.tagsHeld := by simp [State.periodWrite]

@[simp] theorem State.postResumed_tagsHeld : s.postResumed.tagsHeld ↔ s.tagsHeld := by
  unfold State.postResumed
  split <;> simp

@[simp] theorem State.backupW8_tagsHeld : s.backupW8.tagsHeld ↔ s.tagsHeld := by simp [State.backupW8]
@[simp] theorem State.measureOn_tagsHeld : s.measureOn.tagsHeld ↔ s.tagsHeld := Iff.rfl
@[simp] theorem State.measureKeep_tagsHeld : s.measureKeep.tagsHeld ↔ s.tagsHeld := by simp [State.measureKeep]
@[simp] theorem State.tickRtc_tagsHeld : s.tickRtc.tagsHeld ↔ s.tagsHeld := by simp [State.tickRtc]
@[simp] theorem State.cntloRead_tagsHeld : s.cntloRead.tagsHeld ↔ s.tagsHeld := Iff.rfl

@[simp] theorem execLocalOffsetWrite_tagsHeld {v} : (stateOf s (execLocalOffsetWrite v s)).tagsHeld ↔ s.tagsHeld := by
  unfold execLocalOffsetWrite
  rw [stateOf_next]
  refine State.overLink_tagsHeld fun u => ?_
  split
  next e => simpa using State.offsetWrite_tagsHeld _ e
  next => simp

@[simp] theorem State.trimBy_tagsHeld {gain span} : (s.trimBy gain span).tagsHeld ↔ s.tagsHeld := by simp [State.trimBy]

@[simp] theorem execAutoTrim_tagsHeld : (stateOf s (execAutoTrim s)).tagsHeld ↔ s.tagsHeld := by
  unfold execAutoTrim
  (repeat' split) <;> simp

/-! ### Sense -/

@[simp] theorem State.setMs_tagsHeld {k m} : (s.setMs k m).tagsHeld ↔ s.tagsHeld := Iff.rfl
@[simp] theorem State.msSample_tagsHeld {k x} : (s.msSample k x).tagsHeld ↔ s.tagsHeld := Iff.rfl
@[simp] theorem State.msTake_tagsHeld {k} : (s.msTake k).tagsHeld ↔ s.tagsHeld := Iff.rfl

/-! ### DieLink -/

@[simp] theorem State.linkView_tagsHeld : s.linkView.tagsHeld ↔ s.tagsHeld := Iff.rfl

/-! ### Groups -/

@[simp] theorem State.setGr_tagsHeld {g v} : (s.setGr g v).tagsHeld ↔ s.tagsHeld := Iff.rfl
@[simp] theorem State.setPh_tagsHeld {n v} : (s.setPh n v).tagsHeld ↔ s.tagsHeld := Iff.rfl
@[simp] theorem State.wakePcp_tagsHeld : s.wakePcp.tagsHeld ↔ s.tagsHeld := by simp [State.wakePcp]
@[simp] theorem State.grTo_tagsHeld {g st} : (s.grTo g st).tagsHeld ↔ s.tagsHeld := Iff.rfl
@[simp] theorem State.grOutputsLow_tagsHeld {g} : (s.grOutputsLow g).tagsHeld ↔ s.tagsHeld := by simp [State.grOutputsLow]
@[simp] theorem State.grDisable_tagsHeld {g} : (s.grDisable g).tagsHeld ↔ s.tagsHeld := by simp [State.grDisable]
@[simp] theorem State.grPark_tagsHeld {g} : (s.grPark g).tagsHeld ↔ s.tagsHeld := by simp [State.grPark]
@[simp] theorem State.grFaults_tagsHeld {g code} : (s.grFaults g code).tagsHeld ↔ s.tagsHeld := by simp [State.grFaults]
@[simp] theorem State.grRamp_tagsHeld {g} : (s.grRamp g).tagsHeld ↔ s.tagsHeld := by simp [State.grRamp]
@[simp] theorem State.grSequence_tagsHeld : s.grSequence.tagsHeld ↔ s.tagsHeld := by simp [State.grSequence]
@[simp] theorem State.grPrecheck_tagsHeld {g} : (s.grPrecheck g).tagsHeld ↔ s.tagsHeld := by simp [State.grPrecheck]
@[simp] theorem State.pcpHalt_tagsHeld {code} : (s.pcpHalt code).tagsHeld ↔ s.tagsHeld := by simp [State.pcpHalt]
@[simp] theorem State.parkAll_tagsHeld : s.parkAll.tagsHeld ↔ s.tagsHeld := by simp [State.parkAll]
@[simp] theorem State.parkRequest_tagsHeld : s.parkRequest.tagsHeld ↔ s.tagsHeld := by simp [State.parkRequest]
@[simp] theorem State.grStopAll_tagsHeld : s.grStopAll.tagsHeld ↔ s.tagsHeld := by simp [State.grStopAll]
@[simp] theorem State.grResume_tagsHeld : s.grResume.tagsHeld ↔ s.tagsHeld := by simp [State.grResume]
@[simp] theorem State.dutyPut_tagsHeld {n v} : (s.dutyPut n v).tagsHeld ↔ s.tagsHeld := Iff.rfl
@[simp] theorem State.phaseStart_tagsHeld {g n back} : (s.phaseStart g n back).tagsHeld ↔ s.tagsHeld := Iff.rfl
@[simp] theorem State.periodStart_tagsHeld {g pos} : (s.periodStart g pos).tagsHeld ↔ s.tagsHeld := Iff.rfl
@[simp] theorem State.tickGroup_tagsHeld {g} : (s.tickGroup g).tagsHeld ↔ s.tagsHeld := by simp [State.tickGroup]
@[simp] theorem State.tickPwm_tagsHeld : s.tickPwm.tagsHeld ↔ s.tagsHeld := by simp [State.tickPwm]

/-! ### Contexts -/

@[simp] theorem State.setCtx_tagsHeld {c v} : (s.setCtx c v).tagsHeld ↔ s.tagsHeld := Iff.rfl
@[simp] theorem State.unlock_tagsHeld {c key} : (s.unlock c key).2.tagsHeld ↔ s.tagsHeld := by simp [State.unlock]
@[simp] theorem State.relockCtx_tagsHeld {c} : (s.relockCtx c).tagsHeld ↔ s.tagsHeld := Iff.rfl
@[simp] theorem State.touchUnlock_tagsHeld {c} : (s.touchUnlock c).tagsHeld ↔ s.tagsHeld := by simp [State.touchUnlock]
@[simp] theorem State.freeCtx_tagsHeld {c} : (s.freeCtx c).tagsHeld ↔ s.tagsHeld := Iff.rfl
@[simp] theorem State.closeSession_tagsHeld {c} : (s.closeSession c).tagsHeld ↔ s.tagsHeld := by simp [State.closeSession]
@[simp] theorem State.drained_tagsHeld {c} : (s.drained c).tagsHeld ↔ s.tagsHeld := by simp [State.drained]
@[simp] theorem State.retireTicket_tagsHeld {i} : (s.retireTicket i).tagsHeld ↔ s.tagsHeld := by simp [State.retireTicket]

/-! ### Fan -/

@[simp] theorem State.fanTo_tagsHeld {n} : (s.fanTo n).tagsHeld ↔ s.tagsHeld := Iff.rfl
@[simp] theorem State.fanOff_tagsHeld : s.fanOff.tagsHeld ↔ s.tagsHeld := Iff.rfl
@[simp] theorem State.fanFaults_tagsHeld {code} : (s.fanFaults code).tagsHeld ↔ s.tagsHeld := by simp [State.fanFaults]
@[simp] theorem State.fanAttempt_tagsHeld : s.fanAttempt.tagsHeld ↔ s.tagsHeld := by simp [State.fanAttempt]
@[simp] theorem State.fanDuty_tagsHeld {duty iref} : (s.fanDuty duty iref).tagsHeld ↔ s.tagsHeld := by simp [State.fanDuty]
@[simp] theorem execFanDutyWrite_tagsHeld {v} : (stateOf s (execFanDutyWrite v s)).tagsHeld ↔ s.tagsHeld := by simp [execFanDutyWrite]
@[simp] theorem State.fanDemandChange_tagsHeld : s.fanDemandChange.tagsHeld ↔ s.tagsHeld := by simp [State.fanDemandChange]

@[simp] theorem execHallFault_tagsHeld : (stateOf s (execHallFault s)).tagsHeld ↔ s.tagsHeld := by
  unfold execHallFault
  split <;> simp

@[simp] theorem execFanUnderspeedClear_tagsHeld : (stateOf s (execFanUnderspeedClear s)).tagsHeld ↔ s.tagsHeld := by
  unfold execFanUnderspeedClear
  split <;> simp

@[simp] theorem State.fanClear_tagsHeld : s.fanClear.tagsHeld ↔ s.tagsHeld := by simp [State.fanClear]
@[simp] theorem State.fanHold_tagsHeld {held} : (s.fanHold held).tagsHeld ↔ s.tagsHeld := by simp [State.fanHold]
@[simp] theorem State.guardRelease_tagsHeld : s.guardRelease.tagsHeld ↔ s.tagsHeld := by simp [State.guardRelease]
@[simp] theorem State.guardAck_tagsHeld : s.guardAck.tagsHeld ↔ s.tagsHeld := by simp [State.guardAck]

/-! ### Flash -/

@[simp] theorem State.program_tagsHeld {a b} : (s.program a b).tagsHeld ↔ s.tagsHeld := Iff.rfl
@[simp] theorem State.erase_tagsHeld {a n} : (s.erase a n).tagsHeld ↔ s.tagsHeld := Iff.rfl
@[simp] theorem State.putTable_tagsHeld {k t} : (s.putTable k t).tagsHeld ↔ s.tagsHeld := Iff.rfl
@[simp] theorem State.setBolt_tagsHeld {k b} : (s.setBolt k b).tagsHeld ↔ s.tagsHeld := by simp [State.setBolt]
@[simp] theorem State.boltWrite_tagsHeld {k r} : (s.boltWrite k r).tagsHeld ↔ s.tagsHeld := by simp [State.boltWrite]
@[simp] theorem State.tornWrite_tagsHeld {k r n} : (s.tornWrite k r n).tagsHeld ↔ s.tagsHeld := by simp [State.tornWrite]
@[simp] theorem State.boltErase_tagsHeld {k} : (s.boltErase k).tagsHeld ↔ s.tagsHeld := by simp [State.boltErase]
@[simp] theorem State.blockErase_tagsHeld {k n} : (s.blockErase k n).tagsHeld ↔ s.tagsHeld := Iff.rfl

/-! ### Loom -/

@[simp] theorem State.dupCheck_tagsHeld {src seq} : (s.dupCheck src seq).2.tagsHeld ↔ s.tagsHeld := by simp [State.dupCheck]

@[simp] theorem State.loomDecide_tagsHeld {port first f} : (s.loomDecide port first f).2.tagsHeld ↔ s.tagsHeld := by
  unfold State.loomDecide
  dsimp only
  (repeat' split) <;> simp

@[simp] theorem State.pdelayNote_tagsHeld {p f} : (s.pdelayNote p f).tagsHeld ↔ s.tagsHeld := by
  unfold State.pdelayNote
  dsimp only
  split <;> simp

@[simp] theorem State.noBuf_tagsHeld {p b sfd} : (s.noBuf p b sfd).tagsHeld ↔ s.tagsHeld := by simp [State.noBuf]
@[simp] theorem State.popHead_tagsHeld {p t} : (s.popHead p t).tagsHeld ↔ s.tagsHeld := Iff.rfl
@[simp] theorem State.markHeld_tagsHeld {p t} : (s.markHeld p t).tagsHeld ↔ s.tagsHeld := by simp [State.markHeld]

@[simp] theorem State.dwrr_tagsHeld {p n fuel} : (State.dwrr p n fuel s).2.tagsHeld ↔ s.tagsHeld := by
  induction fuel generalizing s with
  | zero => rfl
  | succ k ih => simp [State.dwrr, ih]

@[simp] theorem State.select_tagsHeld {p} : (s.select p).2.tagsHeld ↔ s.tagsHeld := by
  unfold State.select
  dsimp only
  split <;> simp

@[simp] theorem execTransmitOpportunity_tagsHeld {p opening} : (stateOf s (execTransmitOpportunity p opening s)).tagsHeld ↔ s.tagsHeld := by
  unfold execTransmitOpportunity
  extract_lets +onlyGivenNames idle s1
  have h1 : s1.tagsHeld ↔ s.tagsHeld := each_tagsHeld fun u t => by
    split <;> simp
  clear_value s1
  rw [stateOf_next]
  dsimp only
  split
  · exact h1
  split
  · simp [h1]
  split
  · simp [h1]
  · simp [h1]

@[simp] theorem State.txDone_tagsHeld {p f n} : (s.txDone p f n).tagsHeld ↔ s.tagsHeld := by
  unfold State.txDone
  dsimp only
  split
  · rfl
  · rfl
  split
  · rfl
  split
  · simp
  split
  next => simp
  next e => simpa using complete_tagsHeld _ e

@[simp] theorem execFrameTransmitted_tagsHeld {p overrun sfd} : (stateOf s (execFrameTransmitted p overrun sfd s)).tagsHeld ↔ s.tagsHeld := by
  unfold execFrameTransmitted
  dsimp only
  (repeat' split) <;> simp

@[simp] theorem execTgSwap_tagsHeld {p} : (stateOf s (execTgSwap p s)).tagsHeld ↔ s.tagsHeld := by simp [execTgSwap]
@[simp] theorem execAgSwap_tagsHeld {p} : (stateOf s (execAgSwap p s)).tagsHeld ↔ s.tagsHeld := by simp [execAgSwap]

@[simp] theorem execFdbLookup_tagsHeld {group} : (stateOf s (execFdbLookup group s)).tagsHeld ↔ s.tagsHeld := by
  unfold execFdbLookup
  split <;> simp

@[simp] theorem State.fdbPut_tagsHeld {group e} : (s.fdbPut group e).tagsHeld ↔ s.tagsHeld := by simp [State.fdbPut]
@[simp] theorem State.fdbDrop_tagsHeld {group mac vid} : (s.fdbDrop group mac vid).tagsHeld ↔ s.tagsHeld := by simp [State.fdbDrop]
@[simp] theorem execFdbInsert_tagsHeld {group} : (stateOf s (execFdbInsert group s)).tagsHeld ↔ s.tagsHeld := by simp [execFdbInsert]
@[simp] theorem execFdbDelete_tagsHeld {group} : (stateOf s (execFdbDelete group s)).tagsHeld ↔ s.tagsHeld := by simp [execFdbDelete]
@[simp] theorem execFlushFdb_tagsHeld : (stateOf s (execFlushFdb s)).tagsHeld ↔ s.tagsHeld := by simp [execFlushFdb]

@[simp] theorem execNqRxpop_tagsHeld {q} : (stateOf s (execNqRxpop q s)).tagsHeld ↔ s.tagsHeld := by
  unfold execNqRxpop
  split <;> simp

@[simp] theorem execNqAlloc_tagsHeld {q} : (stateOf s (execNqAlloc q s)).tagsHeld ↔ s.tagsHeld := by simp [execNqAlloc]

@[simp] theorem State.sendFrame_tagsHeld {q first f ports tc} : (s.sendFrame q first f ports tc).tagsHeld ↔ s.tagsHeld := by
  simp [State.sendFrame]

@[simp] theorem State.weaverSend_tagsHeld {p b} : (s.weaverSend p b).tagsHeld ↔ s.tagsHeld := by simp [State.weaverSend]

@[simp] theorem State.weaverAnswer_tagsHeld {p b} : (s.weaverAnswer p b).tagsHeld ↔ s.tagsHeld := by
  unfold State.weaverAnswer
  split <;> simp

@[simp] theorem execFrameDecision_tagsHeld {p} : (stateOf s (execFrameDecision p s)).tagsHeld ↔ s.tagsHeld := by
  unfold execFrameDecision
  dsimp only
  (repeat' split) <;> simp

@[simp] theorem execNqTx_tagsHeld {q h} : (stateOf s (execNqTx q h s)).tagsHeld ↔ s.tagsHeld := by
  unfold execNqTx
  split <;> simp

@[simp] theorem execNqFree_tagsHeld {q h} : (stateOf s (execNqFree q h s)).tagsHeld ↔ s.tagsHeld := by
  unfold execNqFree
  split <;> simp

@[simp] theorem execNqCpop_tagsHeld {q} : (stateOf s (execNqCpop q s)).tagsHeld ↔ s.tagsHeld := by
  unfold execNqCpop
  split <;> simp

@[simp] theorem execBobbinRecordWrite_tagsHeld {foreground} : (stateOf s (execBobbinRecordWrite foreground s)).tagsHeld ↔ s.tagsHeld := by
  unfold execBobbinRecordWrite
  split <;> simp

@[simp] theorem State.bobRead_tagsHeld : s.bobRead.2.tagsHeld ↔ s.tagsHeld := by simp [State.bobRead]

/-! ### TicketOps -/

@[simp] theorem State.stepCommitted_tagsHeld {i tag v} : (s.stepCommitted i tag v).tagsHeld ↔ s.tagsHeld := by simp [State.stepCommitted]
@[simp] theorem State.stepDone_tagsHeld {i tag v} : (s.stepDone i tag v).tagsHeld ↔ s.tagsHeld := by simp [State.stepDone]

/-! ### Mem -/

@[simp] theorem State.setWord_tagsHeld {b off w} : (s.setWord b off w).tagsHeld ↔ s.tagsHeld := Iff.rfl
@[simp] theorem State.memAnswer_tagsHeld {st w} : (s.memAnswer st w).tagsHeld ↔ s.tagsHeld := Iff.rfl
@[simp] theorem State.errLog_tagsHeld {b off src ue} : (s.errLog b off src ue).2.tagsHeld ↔ s.tagsHeld := Iff.rfl
@[simp] theorem State.logCe_tagsHeld {b off src} : (s.logCe b off src).tagsHeld ↔ s.tagsHeld := by simp [State.logCe]
@[simp] theorem State.logUe_tagsHeld {b off src} : (s.logUe b off src).tagsHeld ↔ s.tagsHeld := by simp [State.logUe]

@[simp] theorem State.memRead_tagsHeld {b off src} : (s.memRead b off src).2.2.tagsHeld ↔ s.tagsHeld := by
  unfold State.memRead
  dsimp only
  (repeat' split) <;> simp

@[simp] theorem State.memWrite_tagsHeld {b off tag v} : (s.memWrite b off tag v).tagsHeld ↔ s.tagsHeld := by simp [State.memWrite]
@[simp] theorem State.logMerged_tagsHeld {b} : (s.logMerged b).tagsHeld ↔ s.tagsHeld := by simp [State.logMerged]

@[simp] theorem State.memPartial_tagsHeld {b off src p} : (s.memPartial b off src p).2.tagsHeld ↔ s.tagsHeld := by
  unfold State.memPartial
  dsimp only
  (repeat' split) <;> simp

@[simp] theorem State.portBMet_tagsHeld {b met} : (s.portBMet b met).tagsHeld ↔ s.tagsHeld := by simp [State.portBMet]
@[simp] theorem State.clearBank_tagsHeld {b} : (s.clearBank b).tagsHeld ↔ s.tagsHeld := Iff.rfl
@[simp] theorem State.readServed_tagsHeld {b off src} : (s.readServed b off src).tagsHeld ↔ s.tagsHeld := by simp [State.readServed]

@[simp] theorem State.writeServed_tagsHeld {b off tag v met} : (s.writeServed b off tag v met).tagsHeld ↔ s.tagsHeld := by
  simp [State.writeServed]

@[simp] theorem State.partServed_tagsHeld {b off src p met} : (s.partServed b off src p met).tagsHeld ↔ s.tagsHeld := by
  simp [State.partServed]

@[simp] theorem State.serveHeld_tagsHeld {x1} : (s.serveHeld x1).tagsHeld ↔ s.tagsHeld := by
  unfold State.serveHeld
  split <;> simp

@[simp] theorem State.hold_tagsHeld {h} : (s.hold h).tagsHeld ↔ s.tagsHeld := Iff.rfl
@[simp] theorem State.serveAll_tagsHeld : s.serveAll.tagsHeld ↔ s.tagsHeld := by simp [State.serveAll]

@[simp] theorem execMemoryRead_tagsHeld {b off src} : (stateOf s (execMemoryRead b off src s)).tagsHeld ↔ s.tagsHeld := by
  unfold execMemoryRead
  split
  · rfl
  · simp

@[simp] theorem execWholeWordWrite_tagsHeld {b off tag v met} : (stateOf s (execWholeWordWrite b off tag v met s)).tagsHeld ↔ s.tagsHeld := by
  unfold execWholeWordWrite
  split
  · rfl
  · simp

@[simp] theorem execPartialWrite_tagsHeld {b off p src met} : (stateOf s (execPartialWrite b off p src met s)).tagsHeld ↔ s.tagsHeld := by
  unfold execPartialWrite
  split
  · rfl
  · simp

@[simp] theorem State.runOver_tagsHeld {b} : (s.runOver b).tagsHeld ↔ s.tagsHeld := by simp [State.runOver]
@[simp] theorem State.bridgeRead_tagsHeld {b off src} : (s.bridgeRead b off src).2.2.tagsHeld ↔ s.tagsHeld := by simp [State.bridgeRead]
@[simp] theorem State.bridgeWrite_tagsHeld {b off src p} : (s.bridgeWrite b off src p).tagsHeld ↔ s.tagsHeld := by simp [State.bridgeWrite]

@[simp] theorem State.scrubWord_tagsHeld {b beaten} : (s.scrubWord b beaten).tagsHeld ↔ s.tagsHeld := by
  unfold State.scrubWord
  dsimp only
  (repeat' split) <;> simp

@[simp] theorem State.setSpare_tagsHeld {b k x} : (s.setSpare b k x).tagsHeld ↔ s.tagsHeld := Iff.rfl
@[simp] theorem State.spareFails_tagsHeld {b k} : (s.spareFails b k).tagsHeld ↔ s.tagsHeld := by simp [State.spareFails]
@[simp] theorem State.degrade_tagsHeld {b row} : (s.degrade b row).tagsHeld ↔ s.tagsHeld := by simp [State.degrade]

@[simp] theorem State.rowFails_tagsHeld {b row} : (s.rowFails b row).2.tagsHeld ↔ s.tagsHeld := by
  unfold State.rowFails
  dsimp only
  (repeat' split) <;> simp

@[simp] theorem State.cardView_tagsHeld : s.cardView.tagsHeld ↔ s.tagsHeld := by
  unfold State.cardView
  split <;> simp

@[simp] theorem State.cardBank_tagsHeld {r} : (s.cardBank r).tagsHeld ↔ s.tagsHeld := by
  unfold State.cardBank
  split <;> simp

@[simp] theorem State.cardStart_tagsHeld {i} : (s.cardStart i).tagsHeld ↔ s.tagsHeld := by simp [State.cardStart]
@[simp] theorem State.cardBankDone_tagsHeld {r} : (s.cardBankDone r).tagsHeld ↔ s.tagsHeld := by simp [State.cardBankDone]

@[simp] theorem State.cardRow_tagsHeld {b row} : (s.cardRow b row).tagsHeld ↔ s.tagsHeld := by
  refine each_tagsHeld fun u k => ?_
  dsimp only
  split
  · rfl
  split <;> simp

@[simp] theorem State.cardSegment_tagsHeld {r failed} : (s.cardSegment r failed).tagsHeld ↔ s.tagsHeld := by
  unfold State.cardSegment
  split <;> simp

@[simp] theorem execCardingSegmentStep_tagsHeld {fg reads} : (stateOf s (execCardingSegmentStep fg reads s)).tagsHeld ↔ s.tagsHeld := by
  unfold execCardingSegmentStep
  split <;> simp

@[simp] theorem State.marchPass_tagsHeld {b algo bg reads} : (s.marchPass b algo bg reads).2.tagsHeld ↔ s.tagsHeld := by
  simp [State.marchPass]

@[simp] theorem State.marchBank_tagsHeld {b algo bgs reads} : (s.marchBank b algo bgs reads).2.tagsHeld ↔ s.tagsHeld := by
  simp [State.marchBank]

@[simp] theorem execCardingBankMarch_tagsHeld {reads} : (stateOf s (execCardingBankMarch reads s)).tagsHeld ↔ s.tagsHeld := by
  unfold execCardingBankMarch
  split <;> simp

@[simp] theorem State.applyFuses_tagsHeld : s.applyFuses.tagsHeld ↔ s.tagsHeld := by simp [State.applyFuses]
@[simp] theorem State.fusesOnce_tagsHeld : s.fusesOnce.tagsHeld ↔ s.tagsHeld := by simp [State.fusesOnce]

@[simp] theorem State.applyRepair_tagsHeld {b row k action} : (s.applyRepair b row k action).tagsHeld ↔ s.tagsHeld := by
  simp [State.applyRepair]

@[simp] theorem State.remapRepair_tagsHeld {b row k action} : (s.remapRepair b row k action).tagsHeld ↔ s.tagsHeld := by
  unfold State.remapRepair
  (repeat' split) <;> simp

@[simp] theorem State.startMarch_tagsHeld {banks reads} : (s.startMarch banks reads).tagsHeld ↔ s.tagsHeld := by simp [State.startMarch]
@[simp] theorem State.startMarchHeld_tagsHeld : s.startMarchHeld.tagsHeld ↔ s.tagsHeld := by simp [State.startMarchHeld]
@[simp] theorem State.startView_tagsHeld : s.startView.tagsHeld ↔ s.tagsHeld := Iff.rfl

/-! ### GrilorOps -/

@[simp] theorem State.crossSend_tagsHeld {ang back} : (s.crossSend ang back).tagsHeld ↔ s.tagsHeld := by simp [State.crossSend]
@[simp] theorem State.ownDrive_tagsHeld {d} : (s.ownDrive d).tagsHeld ↔ s.tagsHeld := Iff.rfl
@[simp] theorem State.twinS2_tagsHeld : s.twinS2.tagsHeld ↔ s.tagsHeld := by simp [State.twinS2]

/-! ### Heddle -/

@[simp] theorem State.setHd_tagsHeld {n h} : (s.setHd n h).tagsHeld ↔ s.tagsHeld := Iff.rfl
@[simp] theorem State.hdWake_tagsHeld {n} : (s.hdWake n).tagsHeld ↔ s.tagsHeld := by simp [State.hdWake]
@[simp] theorem State.hdSetTx_tagsHeld {n q} : (s.hdSetTx n q).tagsHeld ↔ s.tagsHeld := by simp [State.hdSetTx]
@[simp] theorem State.hdSetRx_tagsHeld {n q} : (s.hdSetRx n q).tagsHeld ↔ s.tagsHeld := by simp [State.hdSetRx]
@[simp] theorem State.hdLevel_tagsHeld {n k b} : (s.hdLevel n k b).tagsHeld ↔ s.tagsHeld := Iff.rfl
@[simp] theorem State.hdCount_tagsHeld {n k} : (s.hdCount n k).tagsHeld ↔ s.tagsHeld := by simp [State.hdCount]
@[simp] theorem State.hdFault_tagsHeld {n code} : (s.hdFault n code).tagsHeld ↔ s.tagsHeld := by simp [State.hdFault]
@[simp] theorem State.hdStop_tagsHeld {n} : (s.hdStop n).tagsHeld ↔ s.tagsHeld := Iff.rfl
@[simp] theorem State.hdEcc_tagsHeld {b} : (s.hdEcc b).tagsHeld ↔ s.tagsHeld := by simp [State.hdEcc]
@[simp] theorem State.hdDeliver_tagsHeld {n w} : (s.hdDeliver n w).tagsHeld ↔ s.tagsHeld := by simp [State.hdDeliver]

@[simp] theorem HdRes.expired_tagsHeld {r : HdRes} : r.expired.state.tagsHeld ↔ r.state.tagsHeld := by
  unfold HdRes.expired
  split <;> simp

@[simp] theorem State.hdAdvance_tagsHeld {n hold target} : (s.hdAdvance n hold target).tagsHeld ↔ s.tagsHeld := by simp [State.hdAdvance]
@[simp] theorem State.hdPinset_tagsHeld {n w} : (s.hdPinset n w).tagsHeld ↔ s.tagsHeld := by simp [State.hdPinset]

@[simp] theorem State.hdEnd_tagsHeld {r : HdRes} {n w} : (State.hdEnd n w r).tagsHeld ↔ r.state.tagsHeld := by
  unfold State.hdEnd
  split <;> simp

@[simp] theorem State.hdIssue_tagsHeld {n op fetchBad body} (h : ∀ a u, (body a u).state.tagsHeld ↔ u.tagsHeld) :
    (s.hdIssue n op fetchBad body).tagsHeld ↔ s.tagsHeld := by
  simp [State.hdIssue, h]

@[simp] theorem State.hdFlag_tagsHeld {n b} : (s.hdFlag n b).tagsHeld ↔ s.tagsHeld := Iff.rfl
@[simp] theorem hdNopBody_tagsHeld {arg} : (hdNopBody arg s).state.tagsHeld ↔ s.tagsHeld := by simp [hdNopBody]
@[simp] theorem hdSampleBody_tagsHeld {n pins arg} : (hdSampleBody n pins arg s).state.tagsHeld ↔ s.tagsHeld := by simp [hdSampleBody]
@[simp] theorem hdDriveBody_tagsHeld {n arg} : (hdDriveBody n arg s).state.tagsHeld ↔ s.tagsHeld := by simp [hdDriveBody]
@[simp] theorem State.awaitCount_tagsHeld {n arg k} : (s.awaitCount n arg k).tagsHeld ↔ s.tagsHeld := by simp [State.awaitCount]
@[simp] theorem State.awaitEnd_tagsHeld {n arg} : (s.awaitEnd n arg).tagsHeld ↔ s.tagsHeld := Iff.rfl

@[simp] theorem hdAwaitBody_tagsHeld {n before now arg} : (hdAwaitBody n before now arg s).state.tagsHeld ↔ s.tagsHeld := by
  simp [hdAwaitBody]

@[simp] theorem hdCountBody_tagsHeld {n arg} : (hdCountBody n arg s).state.tagsHeld ↔ s.tagsHeld := by
  unfold hdCountBody
  split <;> simp

@[simp] theorem hdShiftBody_tagsHeld {n arg} : (hdShiftBody n arg s).state.tagsHeld ↔ s.tagsHeld := by
  unfold hdShiftBody
  dsimp only
  (repeat' split) <;> simp

@[simp] theorem hdEmitBody_tagsHeld {n arg} : (hdEmitBody n arg s).state.tagsHeld ↔ s.tagsHeld := by simp [hdEmitBody]

@[simp] theorem hdTakeBody_tagsHeld {n arg} : (hdTakeBody n arg s).state.tagsHeld ↔ s.tagsHeld := by
  unfold hdTakeBody
  (repeat' split) <;> simp

@[simp] theorem hdBranchBody_tagsHeld {n pins arg} : (hdBranchBody n pins arg s).state.tagsHeld ↔ s.tagsHeld := by
  unfold hdBranchBody
  split <;> simp

@[simp] theorem hdMatchBody_tagsHeld {n pins arg} : (hdMatchBody n pins arg s).state.tagsHeld ↔ s.tagsHeld := by
  unfold hdMatchBody
  split <;> simp

@[simp] theorem hdTimeoutBody_tagsHeld {n arg} : (hdTimeoutBody n arg s).state.tagsHeld ↔ s.tagsHeld := by simp [hdTimeoutBody]
@[simp] theorem hdSignalBody_tagsHeld {n arg} : (hdSignalBody n arg s).state.tagsHeld ↔ s.tagsHeld := by simp [hdSignalBody]
@[simp] theorem State.hdExpire_tagsHeld {n} : (s.hdExpire n).tagsHeld ↔ s.tagsHeld := by simp [State.hdExpire]

@[simp] theorem execHeddleStallRelease_tagsHeld {n cycles} : (stateOf s (execHeddleStallRelease n cycles s)).tagsHeld ↔ s.tagsHeld := by
  unfold execHeddleStallRelease
  dsimp only
  (repeat' split) <;> simp

@[simp] theorem State.hdAngle_tagsHeld {n} : (s.hdAngle n).tagsHeld ↔ s.tagsHeld := by simp [State.hdAngle]
@[simp] theorem execHeddleEnable_tagsHeld {n wtr} : (stateOf s (execHeddleEnable n wtr s)).tagsHeld ↔ s.tagsHeld := by simp [execHeddleEnable]

@[simp] theorem execHeddleDisable_tagsHeld {n wtr} : (stateOf s (execHeddleDisable n wtr s)).tagsHeld ↔ s.tagsHeld := by
  simp [execHeddleDisable]

@[simp] theorem execRestart_tagsHeld {n wtr} : (stateOf s (execRestart n wtr s)).tagsHeld ↔ s.tagsHeld := by simp [execRestart]
@[simp] theorem execFlush_tagsHeld {n wtr} : (stateOf s (execFlush n wtr s)).tagsHeld ↔ s.tagsHeld := by simp [execFlush]

@[simp] theorem execSplitWrite_tagsHeld {n wtr split} : (stateOf s (execSplitWrite n wtr split s)).tagsHeld ↔ s.tagsHeld := by
  simp [execSplitWrite]

@[simp] theorem State.tickHeddle_tagsHeld {n} : (s.tickHeddle n).tagsHeld ↔ s.tagsHeld := Iff.rfl
@[simp] theorem State.tickHeddles_tagsHeld : s.tickHeddles.tagsHeld ↔ s.tagsHeld := by simp [State.tickHeddles]

@[simp] theorem execHeddleDivWrite_tagsHeld {n wtr d} : (stateOf s (execHeddleDivWrite n wtr d s)).tagsHeld ↔ s.tagsHeld := by
  simp [execHeddleDivWrite]

@[simp] theorem execRegionWrite_tagsHeld {n wtr base len start wrap} :
    (stateOf s (execRegionWrite n wtr base len start wrap s)).tagsHeld ↔ s.tagsHeld := by
  simp [execRegionWrite]

@[simp] theorem State.putSlotByte_tagsHeld {n k b} : (s.putSlotByte n k b).tagsHeld ↔ s.tagsHeld := Iff.rfl

@[simp] theorem execSlotmapWrite_tagsHeld {n wtr hi v} : (stateOf s (execSlotmapWrite n wtr hi v s)).tagsHeld ↔ s.tagsHeld := by
  simp [execSlotmapWrite]

@[simp] theorem execProgramWordWrite_tagsHeld {b w wtr v} : (stateOf s (execProgramWordWrite b w wtr v s)).tagsHeld ↔ s.tagsHeld := by
  simp [execProgramWordWrite]

@[simp] theorem execTxqWrite_tagsHeld {n wtr v} : (stateOf s (execTxqWrite n wtr v s)).tagsHeld ↔ s.tagsHeld := by simp [execTxqWrite]

@[simp] theorem execRxqRead_tagsHeld {n} : (stateOf s (execRxqRead n s)).tagsHeld ↔ s.tagsHeld := by
  unfold execRxqRead
  split <;> simp

@[simp] theorem execTtargetWrite_tagsHeld {n wtr v} : (stateOf s (execTtargetWrite n wtr v s)).tagsHeld ↔ s.tagsHeld := by
  simp [execTtargetWrite]

@[simp] theorem execBypassWrite_tagsHeld {wtr v} : (stateOf s (execBypassWrite wtr v s)).tagsHeld ↔ s.tagsHeld := by
  unfold execBypassWrite
  rw [stateOf_next]
  refine each_tagsHeld fun u k => ?_
  split <;> simp

/-! ### PowerStage -/

@[simp] theorem State.grTryStart_tagsHeld {g} : (s.grTryStart g).tagsHeld ↔ s.tagsHeld := by simp [State.grTryStart]
@[simp] theorem State.grClear_tagsHeld {g} : (s.grClear g).tagsHeld ↔ s.tagsHeld := by simp [State.grClear]
@[simp] theorem State.dropPhase_tagsHeld {g n} : (s.dropPhase g n).tagsHeld ↔ s.tagsHeld := by simp [State.dropPhase]

@[simp] theorem execLoopStep_tagsHeld {g} : (stateOf s (execLoopStep g s)).tagsHeld ↔ s.tagsHeld := by
  unfold execLoopStep
  extract_lets +onlyGivenNames s0 v phases vo vi cur
  have h0 : s0.tagsHeld ↔ s.tagsHeld := State.wakePcp_tagsHeld
  clear_value s0 v phases vo vi cur
  rw [stateOf_next]
  split
  · rfl
  split
  · simp [h0]
  split
  · split
    · simp [h0]
    extract_lets +onlyGivenNames cs mv miv off a swap v0 s1 ref per law hold duty keep win v1 s2 trims s3 s4 release
        s5 mean de de' s6
    have h3 : s3.tagsHeld ↔ s.tagsHeld := by simp [s3, s2, s1, h0]
    clear_value s3
    have h6 : s6.tagsHeld ↔ s.tagsHeld := by simp [s6, s5, s4, h3]
    clear_value s6
    split
    · exact h6
    · split
      · simp [h6]
      · split <;> simp [h6]
    · simp [h6]
  · simp [h0]

@[simp] theorem execDutyWrite_tagsHeld {n v} : (stateOf s (execDutyWrite n v s)).tagsHeld ↔ s.tagsHeld := by
  unfold execDutyWrite
  split <;> simp

@[simp] theorem State.truncate_tagsHeld {g n} : (s.truncate g n).tagsHeld ↔ s.tagsHeld := by simp [State.truncate]

@[simp] theorem execTripLineEdge_tagsHeld {t} : (stateOf s (execTripLineEdge t s)).tagsHeld ↔ s.tagsHeld := by
  unfold execTripLineEdge
  dsimp only
  split <;> simp

@[simp] theorem execGateDriverFault_tagsHeld {n active} : (stateOf s (execGateDriverFault n active s)).tagsHeld ↔ s.tagsHeld := by
  unfold execGateDriverFault
  (repeat' split) <;> simp

@[simp] theorem execZcdEdge_tagsHeld {n} : (stateOf s (execZcdEdge n s)).tagsHeld ↔ s.tagsHeld := by
  unfold execZcdEdge
  split <;> simp

@[simp] theorem State.seqTrigger_tagsHeld {k} : (s.seqTrigger k).tagsHeld ↔ s.tagsHeld := by simp [State.seqTrigger]
@[simp] theorem execSeqGo_tagsHeld {k} : (stateOf s (execSeqGo k s)).tagsHeld ↔ s.tagsHeld := by simp [execSeqGo]

@[simp] theorem execSequenceDone_tagsHeld {k} : (stateOf s (execSequenceDone k s)).tagsHeld ↔ s.tagsHeld := by
  unfold execSequenceDone
  extract_lets +onlyGivenNames s1 s2
  have h1 : s1.tagsHeld ↔ s.tagsHeld := each_tagsHeld fun u t => by
    dsimp only
    split <;> simp
  simp [s2, h1]

@[simp] theorem State.grSync_tagsHeld {g} : (s.grSync g).tagsHeld ↔ s.tagsHeld := by simp [State.grSync]
@[simp] theorem State.seqAngle_tagsHeld {k} : (s.seqAngle k).tagsHeld ↔ s.tagsHeld := by simp [State.seqAngle]

/-! ### Treadle -/

@[simp] theorem State.trdTo_tagsHeld {st} : (s.trdTo st).tagsHeld ↔ s.tagsHeld := Iff.rfl
@[simp] theorem State.angSeg_tagsHeld : s.angSeg.tagsHeld ↔ s.tagsHeld := Iff.rfl
@[simp] theorem State.putInc_tagsHeld {n} : (s.putInc n).tagsHeld ↔ s.tagsHeld := Iff.rfl
@[simp] theorem State.setInc_tagsHeld {n} : (s.setInc n).tagsHeld ↔ s.tagsHeld := Iff.rfl
@[simp] theorem State.spread_tagsHeld {num den} : (s.spread num den).tagsHeld ↔ s.tagsHeld := Iff.rfl
@[simp] theorem State.angMove_tagsHeld {d} : (s.angMove d).tagsHeld ↔ s.tagsHeld := Iff.rfl
@[simp] theorem State.tickTreadle_tagsHeld : s.tickTreadle.tagsHeld ↔ s.tagsHeld := by simp [State.tickTreadle]
@[simp] theorem State.aevAdvance_tagsHeld {n k} : (s.aevAdvance n k).tagsHeld ↔ s.tagsHeld := Iff.rfl

@[simp] theorem State.aevFires_tagsHeld {n late} : (s.aevFires n late).tagsHeld ↔ s.tagsHeld := by
  unfold State.aevFires
  extract_lets +onlyGivenNames s1 _ s2 d
  have h2 : s2.tagsHeld ↔ s.tagsHeld := by
    have h1 : s1.tagsHeld ↔ s.tagsHeld := State.wrIf_tagsHeld.trans ((State.wr_tagsHeld ..).trans (State.wr_tagsHeld ..))
    clear_value s1
    unfold s2
    split
    · exact State.interruptWeaver_tagsHeld.trans (withTrd_tagsHeld.trans h1)
    · exact h1
  clear_value s2 d
  split
  · exact (State.wr_tagsHeld ..).trans h2
  split
  · exact (State.wr_tagsHeld ..).trans (State.aevAdvance_tagsHeld.trans h2)
  · exact State.aevAdvance_tagsHeld.trans h2

@[simp] theorem State.aevDeliver_tagsHeld {tcode tidx} : (s.aevDeliver tcode tidx).tagsHeld ↔ s.tagsHeld := by
  unfold State.aevDeliver
  split <;> simp

@[simp] theorem State.aevFireAll_tagsHeld {l late} : (s.aevFireAll l late).tagsHeld ↔ s.tagsHeld := by
  unfold State.aevFireAll
  simp

@[simp] theorem State.aevResume_tagsHeld : s.aevResume.tagsHeld ↔ s.tagsHeld := by
  refine each_tagsHeld fun u n => ?_
  split
  · rfl
  split
  · exact (State.wr_tagsHeld ..).trans (State.wr_tagsHeld ..)
  · exact State.aevAdvance_tagsHeld

@[simp] theorem State.angStep_tagsHeld {d} : (s.angStep d).tagsHeld ↔ s.tagsHeld := by simp [State.angStep]

@[simp] theorem State.aevWrite_tagsHeld {n reg v} : (s.aevWrite n reg v).tagsHeld ↔ s.tagsHeld := by
  unfold State.aevWrite
  split <;> simp

@[simp] theorem State.seqCheck_tagsHeld : s.seqCheck.tagsHeld ↔ s.tagsHeld := by simp [State.seqCheck]
@[simp] theorem State.seqCycle_tagsHeld {ang} : (s.seqCycle ang).tagsHeld ↔ s.tagsHeld := by simp [State.seqCycle]
@[simp] theorem State.xtsPut_tagsHeld {ang back cand} : (s.xtsPut ang back cand).tagsHeld ↔ s.tagsHeld := by simp [State.xtsPut]
@[simp] theorem State.lockAt_tagsHeld {w} : (s.lockAt w).tagsHeld ↔ s.tagsHeld := Iff.rfl
@[simp] theorem State.relock_tagsHeld : s.relock.tagsHeld ↔ s.tagsHeld := Iff.rfl
@[simp] theorem State.slewOn_tagsHeld {e} : (s.slewOn e).tagsHeld ↔ s.tagsHeld := by simp [State.slewOn]

@[simp] theorem State.runDone_tagsHeld {t sum e mgr} : (s.runDone t sum e mgr).tagsHeld ↔ s.tagsHeld := by
  unfold State.runDone
  extract_lets +onlyGivenNames s1 _ s2 d s3 s4 map s5
  have h2 : s2.tagsHeld ↔ s.tagsHeld := by simp [s2, s1]
  have h5 : s5.tagsHeld ↔ s.tagsHeld := by simp [s5, s4, s3, h2]
  simp [h2, h5]

@[simp] theorem State.runAdd_tagsHeld {t e mgr} : (s.runAdd t e mgr).tagsHeld ↔ s.tagsHeld := by simp [State.runAdd]
@[simp] theorem State.acceptLocked_tagsHeld {t e ang} : (s.acceptLocked t e ang).tagsHeld ↔ s.tagsHeld := by simp [State.acceptLocked]
@[simp] theorem State.acceptSlew_tagsHeld {t e} : (s.acceptSlew t e).tagsHeld ↔ s.tagsHeld := by simp [State.acceptSlew]
@[simp] theorem State.ms0Crossing_tagsHeld {back mgr} : (s.ms0Crossing back mgr).tagsHeld ↔ s.tagsHeld := by simp [State.ms0Crossing]

@[simp] theorem execMs0Crossing_tagsHeld {edge low high} : (stateOf s (execMs0Crossing edge low high s)).tagsHeld ↔ s.tagsHeld := by
  unfold execMs0Crossing
  (repeat' split) <;> simp

@[simp] theorem State.toHoldover_tagsHeld : s.toHoldover.tagsHeld ↔ s.tagsHeld := Iff.rfl

@[simp] theorem execMsPhaseCrossing_tagsHeld {k} : (stateOf s (execMsPhaseCrossing k s)).tagsHeld ↔ s.tagsHeld := by
  unfold execMsPhaseCrossing
  (repeat' split) <;> simp

theorem State.stepCommand_tagsHeld : ∀ u ∈ s.stepCommand, u.tagsHeld ↔ s.tagsHeld := by simp [State.stepCommand]

@[simp] theorem execStepCmd_tagsHeld : (stateOf s (execStepCmd s)).tagsHeld ↔ s.tagsHeld := by
  unfold execStepCmd
  split
  next e => simpa using State.stepCommand_tagsHeld _ e
  next => simp

@[simp] theorem State.xtsPop_tagsHeld : s.xtsPop.tagsHeld ↔ s.tagsHeld := by
  unfold State.xtsPop
  split <;> simp

@[simp] theorem State.treadleStart_tagsHeld : s.treadleStart.tagsHeld ↔ s.tagsHeld := Iff.rfl

/-! ### Uart -/

@[simp] theorem State.setUa_tagsHeld {n u} : (s.setUa n u).tagsHeld ↔ s.tagsHeld := Iff.rfl
@[simp] theorem State.uaWake_tagsHeld {n} : (s.uaWake n).tagsHeld ↔ s.tagsHeld := by simp [State.uaWake]
@[simp] theorem State.uaSetTx_tagsHeld {n q} : (s.uaSetTx n q).tagsHeld ↔ s.tagsHeld := by simp [State.uaSetTx]
@[simp] theorem State.uaSetRx_tagsHeld {n q} : (s.uaSetRx n q).tagsHeld ↔ s.tagsHeld := by simp [State.uaSetRx]

@[simp] theorem State.uaApply_tagsHeld {n} : (s.uaApply n).tagsHeld ↔ s.tagsHeld := by
  unfold State.uaApply
  dsimp only
  (repeat' split) <;> simp

@[simp] theorem State.uaDisable_tagsHeld {n} : (s.uaDisable n).tagsHeld ↔ s.tagsHeld := Iff.rfl

@[simp] theorem execUartTxWrite_tagsHeld {n wtr b} : (stateOf s (execUartTxWrite n wtr b s)).tagsHeld ↔ s.tagsHeld := by
  simp [execUartTxWrite]

@[simp] theorem execUartRxRead_tagsHeld {n} : (stateOf s (execUartRxRead n s)).tagsHeld ↔ s.tagsHeld := by
  unfold execUartRxRead
  split <;> simp

@[simp] theorem execTxflush_tagsHeld {n wtr} : (stateOf s (execTxflush n wtr s)).tagsHeld ↔ s.tagsHeld := by simp [execTxflush]
@[simp] theorem execRxflush_tagsHeld {n wtr} : (stateOf s (execRxflush n wtr s)).tagsHeld ↔ s.tagsHeld := by simp [execRxflush]

@[simp] theorem execUartConfigWrite_tagsHeld {n wtr cfg receiving} :
    (stateOf s (execUartConfigWrite n wtr cfg receiving s)).tagsHeld ↔ s.tagsHeld := by
  unfold execUartConfigWrite
  (repeat' split) <;> simp

@[simp] theorem State.uaStart_tagsHeld {n} : (s.uaStart n).tagsHeld ↔ s.tagsHeld := by
  unfold State.uaStart
  split <;> simp

/-! ### OdRead -/

@[simp] theorem State.regSense_tagsHeld {base} : (s.regSense base).tagsHeld ↔ s.tagsHeld := by simp [State.regSense]
@[simp] theorem State.snapRead_tagsHeld {c sub} : (s.snapRead c sub).2.tagsHeld ↔ s.tagsHeld := Iff.rfl
@[simp] theorem State.odTake_tagsHeld {c i sub m} : (s.odTake c i sub m).2.tagsHeld ↔ s.tagsHeld := by simp [State.odTake]

/-! ### Images -/

@[simp] theorem State.reverted_tagsHeld : s.reverted.tagsHeld ↔ s.tagsHeld := Iff.rfl
@[simp] theorem State.slotTo_tagsHeld {k st} : (s.slotTo k st).tagsHeld ↔ s.tagsHeld := Iff.rfl
@[simp] theorem State.slotErr_tagsHeld {k d} : (s.slotErr k d).tagsHeld ↔ s.tagsHeld := Iff.rfl

@[simp] theorem State.clearShuttle_tagsHeld {n} (hs : s.tagsHeld) : (s.clearShuttle n).tagsHeld := by
  simpa [State.clearShuttle] using each_held hs fun u _ hu => setThread_held hu (threadReset_held _)

@[simp] theorem State.clearWords_tagsHeld {b off n} : (s.clearWords b off n).tagsHeld ↔ s.tagsHeld := Iff.rfl

@[simp] theorem State.slotFree_tagsHeld {k} (hs : s.tagsHeld) : (s.slotFree k).tagsHeld := by
  simpa [State.slotFree] using each_held hs fun u _ hu => State.clearShuttle_tagsHeld hu

@[simp] theorem State.loadCheck_tagsHeld {k src im} : (s.loadCheck k src im).2.tagsHeld ↔ s.tagsHeld := by
  unfold State.loadCheck
  split <;> simp

@[simp] theorem State.loadVerify_tagsHeld {k} (hs : s.tagsHeld) : (s.loadVerify k).2.tagsHeld := by
  unfold State.loadVerify
  split <;> simp [hs]

@[simp] theorem State.putTagged_tagsHeld {b off w} : (s.putTagged b off w).tagsHeld ↔ s.tagsHeld := Iff.rfl
@[simp] theorem State.putCode_tagsHeld {b code} : (s.putCode b code).tagsHeld ↔ s.tagsHeld := by simp [State.putCode]
@[simp] theorem State.putProg_tagsHeld {b base n ws} : (s.putProg b base n ws).tagsHeld ↔ s.tagsHeld := by simp [State.putProg]
@[simp] theorem State.putWords_tagsHeld {b off ws} : (s.putWords b off ws).tagsHeld ↔ s.tagsHeld := by simp [State.putWords]

@[simp] theorem State.takeJournaled_tagsHeld {k im} : (s.takeJournaled k im).tagsHeld ↔ s.tagsHeld := by
  refine each_tagsHeld fun u d => ?_
  dsimp only
  split
  · split <;> simp
  · rfl

@[simp] theorem State.loadPlace_tagsHeld {k} (hs : s.tagsHeld) : (s.loadPlace k).tagsHeld := by
  unfold State.loadPlace
  split
  · exact hs
  · simpa using each_held hs fun u e hu => by simp [State.clearShuttle_tagsHeld hu]

@[simp] theorem State.loadStart_tagsHeld {k} (hs : s.tagsHeld) : (s.loadStart k).tagsHeld := by
  unfold State.loadStart
  split
  · exact hs
  · simp only [State.slotTo_tagsHeld, State.setSlot_tagsHeld]
    refine each_held hs fun u e hu => each_held hu fun u j hu => ?_
    split
    · exact hu
    · exact setThread_held hu (threadReset_held _)

@[simp] theorem State.loadRest_tagsHeld {k} (hs : s.tagsHeld) : (s.loadRest k).2.tagsHeld := by
  have hv := State.loadVerify_tagsHeld (k := k) hs
  simp [State.loadRest, hv, State.loadStart_tagsHeld (State.loadPlace_tagsHeld hv)]

@[simp] theorem State.loadNow_tagsHeld {k src im} (hs : s.tagsHeld) : (s.loadNow k src im).2.tagsHeld := by simp [hs, State.loadNow]

@[simp] theorem State.haltThreads_tagsHeld {k} : (s.haltThreads k).tagsHeld ↔ s.tagsHeld :=
  each_tagsHeld fun _ _ => each_tagsHeld fun _ _ => setThread_tagsHeld rfl

@[simp] theorem State.closeSessions_tagsHeld {k} : (s.closeSessions k).tagsHeld ↔ s.tagsHeld := by simp [State.closeSessions]
@[simp] theorem State.channelsSafe_tagsHeld {k} : (s.channelsSafe k).tagsHeld ↔ s.tagsHeld := by simp [State.channelsSafe]
@[simp] theorem State.slotQuiet_tagsHeld {k} : (s.slotQuiet k).tagsHeld ↔ s.tagsHeld := by simp [State.slotQuiet]
@[simp] theorem State.slotQuiesce_tagsHeld {k} : (s.slotQuiesce k).tagsHeld ↔ s.tagsHeld := by simp [State.slotQuiesce]

@[simp] theorem State.imageFault_tagsHeld {n j code} : (s.imageFault n j code).tagsHeld ↔ s.tagsHeld := by
  unfold State.imageFault
  split <;> simp

@[simp] theorem State.stageReturn_tagsHeld : s.stageReturn.tagsHeld ↔ s.tagsHeld := Iff.rfl
@[simp] theorem State.imageSettle_tagsHeld {i} (hs : s.tagsHeld) : (s.imageSettle i).tagsHeld := by simp [hs, State.imageSettle]
@[simp] theorem State.storeFail_tagsHeld {i k d} : (s.storeFail i k d).tagsHeld ↔ s.tagsHeld := by simp [State.storeFail]
@[simp] theorem State.stepLoad_tagsHeld {i k src} (hs : s.tagsHeld) : (s.stepLoad i k src).tagsHeld := by simp [hs, State.stepLoad]
@[simp] theorem State.stepUnload_tagsHeld {i k} (hs : s.tagsHeld) : (s.stepUnload i k).tagsHeld := by simp [hs, State.stepUnload]

@[simp] theorem State.stepStore_tagsHeld {i k failed} : (s.stepStore i k failed).tagsHeld ↔ s.tagsHeld := by
  unfold State.stepStore
  split <;> simp

@[simp] theorem State.stepTable_tagsHeld {i k value failed} : (s.stepTable i k value failed).tagsHeld ↔ s.tagsHeld := by
  simp [State.stepTable]

@[simp] theorem State.stepImage_tagsHeld {i failed} (hs : s.tagsHeld) : (s.stepImage i failed).tagsHeld := by simp [hs, State.stepImage]
@[simp] theorem execShwake_tagsHeld {t w} : (stateOf s (execShwake t w s)).tagsHeld ↔ s.tagsHeld := by simp [execShwake]

/-! ### Power -/

@[simp] theorem State.powerTo_tagsHeld {st} : (s.powerTo st).tagsHeld ↔ s.tagsHeld := Iff.rfl

@[simp] theorem State.tearHead_tagsHeld : s.tearHead.tagsHeld ↔ s.tagsHeld := by
  unfold State.tearHead
  split <;> simp

@[simp] theorem State.dieOff_tagsHeld : s.dieOff.tagsHeld :=
  reset_tagsHeld

@[simp] theorem State.rest_tagsHeld : s.rest.tagsHeld ↔ s.tagsHeld := Iff.rfl
@[simp] theorem State.wakeStart_tagsHeld {src} : (s.wakeStart src).tagsHeld ↔ s.tagsHeld := Iff.rfl
@[simp] theorem State.wakeCall_tagsHeld {src} : (s.wakeCall src).tagsHeld ↔ s.tagsHeld := by simp [State.wakeCall]
@[simp] theorem State.wakeTo_tagsHeld {n} : (s.wakeTo n).tagsHeld ↔ s.tagsHeld := Iff.rfl
@[simp] theorem State.failRecord_tagsHeld {step} : (s.failRecord step).tagsHeld ↔ s.tagsHeld := Iff.rfl
@[simp] theorem State.wakeFail_tagsHeld {step} : (s.wakeFail step).tagsHeld := by simp [State.wakeFail]

@[simp] theorem State.fillStaging_tagsHeld {k} : (State.fillStaging k s).tagsHeld ↔ s.tagsHeld := by
  induction k generalizing s with
  | zero => rfl
  | succ k ih =>
    unfold State.fillStaging
    split
    · rfl
    · split
      · exact ih
      · rfl

@[simp] theorem State.sdStart_tagsHeld {t} : (s.sdStart t).tagsHeld ↔ s.tagsHeld := by simp [State.sdStart]
@[simp] theorem State.enterS5_tagsHeld {last} : (s.enterS5 last).tagsHeld ↔ s.tagsHeld := by simp [State.enterS5]
@[simp] theorem State.jumpS5_tagsHeld {t} : (s.jumpS5 t).tagsHeld ↔ s.tagsHeld := by simp [State.jumpS5]
@[simp] theorem State.loomDrain_tagsHeld : s.loomDrain.tagsHeld ↔ s.tagsHeld := by simp [State.loomDrain]
@[simp] theorem State.resume_tagsHeld : s.resume.tagsHeld ↔ s.tagsHeld := by simp [State.resume]
@[simp] theorem State.enterS4_tagsHeld : s.enterS4.tagsHeld ↔ s.tagsHeld := by simp [State.enterS4]
@[simp] theorem State.resumeRecord_tagsHeld : s.resumeRecord.tagsHeld ↔ s.tagsHeld := Iff.rfl
@[simp] theorem State.endS4_tagsHeld {incomplete} : (s.endS4 incomplete).tagsHeld ↔ s.tagsHeld := by simp [State.endS4]
@[simp] theorem State.endS6_tagsHeld : s.endS6.tagsHeld := by simp [State.endS6]
@[simp] theorem State.sdCommand_tagsHeld {restart} : (s.sdCommand restart).2.tagsHeld ↔ s.tagsHeld := by simp [State.sdCommand]
@[simp] theorem State.sdcmdWrite_tagsHeld {code} : (s.sdcmdWrite code).2.tagsHeld ↔ s.tagsHeld := by simp [State.sdcmdWrite]
@[simp] theorem State.clockLost_tagsHeld {own run} : (s.clockLost own run).tagsHeld ↔ s.tagsHeld := by simp [State.clockLost]
@[simp] theorem State.coolingOn_tagsHeld : s.coolingOn.tagsHeld ↔ s.tagsHeld := by simp [State.coolingOn]
@[simp] theorem execWakeEvent_tagsHeld {src} : (stateOf s (execWakeEvent src s)).tagsHeld ↔ s.tagsHeld := by simp [execWakeEvent]

@[simp] theorem execCanWake_tagsHeld {n c} : (stateOf s (execCanWake n c s)).tagsHeld ↔ s.tagsHeld := by
  unfold execCanWake
  extract_lets +onlyGivenNames x
  clear_value x
  simp
  intro _ _ _
  exact stateOf_tagsHeld execWakeEvent_tagsHeld Iff.rfl

@[simp] theorem execFuseCheck_tagsHeld {differ} (hs : s.tagsHeld) : (stateOf s (execFuseCheck differ s)).tagsHeld := by
  unfold execFuseCheck
  (repeat' split) <;> simp [hs]

@[simp] theorem execOffIntervalEnd_tagsHeld (hs : s.tagsHeld) : (stateOf s (execOffIntervalEnd s)).tagsHeld := by
  unfold execOffIntervalEnd
  (repeat' split) <;> simp [hs]

/-! ### Operands -/

/-- A register write turns tag 0xE into BITS (R512). -/
@[simp] theorem State.setG_tagsHeld {i n w} (hs : s.tagsHeld) : (s.setG i n w).tagsHeld := by
  refine setThread_held hs fun m => ?_
  rw [Store.get_set]
  split
  · split
    · simp
    · assumption
  · exact hs i m

@[simp] theorem State.setFlags_tagsHeld {i f} : (s.setFlags i f).tagsHeld ↔ s.tagsHeld := setThread_tagsHeld rfl
@[simp] theorem State.setV_tagsHeld {i b} : (s.setV i b).tagsHeld ↔ s.tagsHeld := by simp [State.setV]
@[simp] theorem State.setP_tagsHeld {i b} : (s.setP i b).tagsHeld ↔ s.tagsHeld := setThread_tagsHeld rfl
@[simp] theorem State.freeTagged_tagsHeld : s.freeTagged.2.tagsHeld ↔ s.tagsHeld := Iff.rfl

@[simp] theorem State.trapEnter_tagsHeld {i code tpc w} : (s.trapEnter i code tpc w).tagsHeld ↔ s.tagsHeld := by
  simp [State.trapEnter]

@[simp] theorem State.doubleTrap_tagsHeld {i code tpc} : (s.doubleTrap i code tpc).tagsHeld ↔ s.tagsHeld := by
  simp [State.doubleTrap]

@[simp] theorem State.takeTrap_tagsHeld {i code tpc w} : (s.takeTrap i code tpc w).tagsHeld ↔ s.tagsHeld := by simp [State.takeTrap]
@[simp] theorem State.fetchFails_tagsHeld {i len} : (s.fetchFails i len).2.tagsHeld ↔ s.tagsHeld := by simp [State.fetchFails]

theorem State.issue_tagsHeld {d op enc opc body} (hs : s.tagsHeld) (h : ∀ u, u.tagsHeld → (body u).state.tagsHeld) :
    (s.issue d op enc opc body).tagsHeld := by
  unfold State.issue
  extract_lets i t len next f
  have hf : f.2.tagsHeld := by simpa [f] using hs
  have hg : t.g = (f.2.thread i).g :=
    congrArg Thread.g (State.thread_of_threads (State.fetched_threads s d op) i).symm
  have hb : (body f.2).state.tagsHeld := h _ hf
  clear_value f
  generalize body f.2 = r at hb
  cases r <;> simp only [EurRes.state] at hb <;> simp [hs, hf, hb, hg]

theorem issue_next_tagsHeld {d op enc opc body} (hs : s.tagsHeld) (h : ∀ u, u.tagsHeld → (body u).state.tagsHeld) :
    (stateOf s (.next (s.issue d op enc opc body))).tagsHeld :=
  State.issue_tagsHeld hs h

theorem State.withAddr_tagsHeld {op baseTag has k} (hs : s.tagsHeld) (h : ∀ a, (k a).state.tagsHeld) :
    (s.withAddr op baseTag has k).state.tagsHeld := by
  simp [State.withAddr, hs, h]

theorem State.withWord_tagsHeld {op a k} (hs : s.tagsHeld) (h : ∀ w u, u.tagsHeld → (k w u).state.tagsHeld) :
    (s.withWord op a k).state.tagsHeld := by
  have hr : (s.memRead (placeOf op a).1 (placeOf op a).2 (srcOf op.thread)).2.2.tagsHeld := by simpa using hs
  simp [State.withWord, hs, hr, h]

@[simp] theorem State.storeWord'_tagsHeld {op a w hit} : (s.storeWord' op a w hit).tagsHeld ↔ s.tagsHeld := by simp [State.storeWord']

theorem State.withB_tagsHeld {op dflt k} (hs : s.tagsHeld) (h : ∀ w u, u.tagsHeld → (k w u).state.tagsHeld) :
    (s.withB op dflt k).state.tagsHeld := by
  have hm : ∀ a, (s.withWord op a k).state.tagsHeld := fun a => State.withWord_tagsHeld hs h
  have ha := State.withAddr_tagsHeld (op := op) (baseTag := .ptr) (has := s.spaceHas op 1) hs hm
  simp [State.withB, hs, h, ha]

theorem State.withPair_tagsHeld {op a dflt pair k} (hs : s.tagsHeld) (h : ∀ t w u, u.tagsHeld → (k t w u).state.tagsHeld) :
    (s.withPair op a dflt pair k).state.tagsHeld := by
  unfold State.withPair
  dsimp only
  rw [EurRes.state_ite_tagsHeld, EurRes.state_ite_tagsHeld]
  split
  · exact hs
  split
  · exact hs
  refine State.withB_tagsHeld hs fun b u hu => ?_
  split
  · exact hu
  split
  · exact h _ _ _ hu
  · exact hu

theorem State.withSrc_tagsHeld {op w nilOk ok k} (hs : s.tagsHeld) (h : k.state.tagsHeld) :
    (s.withSrc op w nilOk ok k).state.tagsHeld := by
  simp [State.withSrc, hs, h]

/-! ### EurArith -/

@[simp] theorem State.setWide_tagsHeld {i n t v} (hs : s.tagsHeld) : (s.setWide i n t v).tagsHeld := by simp [State.setWide, hs]

theorem State.withWide_tagsHeld {op ok k} (hs : s.tagsHeld) (h : ∀ t a b, (k t a b).state.tagsHeld) :
    (s.withWide op ok k).state.tagsHeld := by
  unfold State.withWide
  dsimp only
  split
  · exact hs
  · split
    · simp [hs, h]
    · exact h _ _ _

theorem State.alu_tagsHeld {op pair f} (hs : s.tagsHeld) : (s.alu op pair f).state.tagsHeld :=
  State.withPair_tagsHeld hs fun _ _ _ hu => by simp [hu]

theorem State.aluPlain_tagsHeld {op pair f} (hs : s.tagsHeld) : (s.aluPlain op pair f).state.tagsHeld :=
  State.withPair_tagsHeld hs fun _ _ _ hu => by simp [hu]

@[simp] theorem execEuAdd_tagsHeld {op} (hs : s.tagsHeld) : (stateOf s (execEuAdd op s)).tagsHeld :=
  issue_next_tagsHeld hs fun u hu => by
    split
    · exact State.withWide_tagsHeld hu fun _ _ _ => by simp [hu]
    · exact State.alu_tagsHeld hu

@[simp] theorem execEuSub_tagsHeld {op} (hs : s.tagsHeld) : (stateOf s (execEuSub op s)).tagsHeld :=
  issue_next_tagsHeld hs fun u hu => by
    split
    · exact State.withWide_tagsHeld hu fun _ _ _ => by simp [hu]
    · exact State.alu_tagsHeld hu

@[simp] theorem execEuAdds_tagsHeld {op} (hs : s.tagsHeld) : (stateOf s (execEuAdds op s)).tagsHeld :=
  issue_next_tagsHeld hs fun _ hu => State.alu_tagsHeld hu

@[simp] theorem execEuSubs_tagsHeld {op} (hs : s.tagsHeld) : (stateOf s (execEuSubs op s)).tagsHeld :=
  issue_next_tagsHeld hs fun _ hu => State.alu_tagsHeld hu

@[simp] theorem execEuMul_tagsHeld {op} (hs : s.tagsHeld) : (stateOf s (execEuMul op s)).tagsHeld :=
  issue_next_tagsHeld hs fun _ hu => State.alu_tagsHeld hu

@[simp] theorem execEuDiv_tagsHeld {op} (hs : s.tagsHeld) : (stateOf s (execEuDiv op s)).tagsHeld :=
  issue_next_tagsHeld hs fun _ hu => State.withPair_tagsHeld hu fun _ _ _ hu => by simp [hu]

@[simp] theorem execEuRem_tagsHeld {op} (hs : s.tagsHeld) : (stateOf s (execEuRem op s)).tagsHeld :=
  issue_next_tagsHeld hs fun _ hu => State.withPair_tagsHeld hu fun _ _ _ hu => by simp [hu]

@[simp] theorem execEuCmp_tagsHeld {op} (hs : s.tagsHeld) : (stateOf s (execEuCmp op s)).tagsHeld :=
  issue_next_tagsHeld hs fun u hu => by
    split
    · exact State.withWide_tagsHeld hu fun _ _ _ => by simp [hu]
    · exact State.withPair_tagsHeld hu fun _ _ _ hu => by simp [hu]

@[simp] theorem execEuMin_tagsHeld {op} (hs : s.tagsHeld) : (stateOf s (execEuMin op s)).tagsHeld :=
  issue_next_tagsHeld hs fun _ hu => State.aluPlain_tagsHeld hu

@[simp] theorem execEuMax_tagsHeld {op} (hs : s.tagsHeld) : (stateOf s (execEuMax op s)).tagsHeld :=
  issue_next_tagsHeld hs fun _ hu => State.aluPlain_tagsHeld hu

@[simp] theorem execEuAnd_tagsHeld {op} (hs : s.tagsHeld) : (stateOf s (execEuAnd op s)).tagsHeld :=
  issue_next_tagsHeld hs fun _ hu => State.alu_tagsHeld hu

@[simp] theorem execEuOr_tagsHeld {op} (hs : s.tagsHeld) : (stateOf s (execEuOr op s)).tagsHeld :=
  issue_next_tagsHeld hs fun _ hu => State.alu_tagsHeld hu

@[simp] theorem execEuXor_tagsHeld {op} (hs : s.tagsHeld) : (stateOf s (execEuXor op s)).tagsHeld :=
  issue_next_tagsHeld hs fun _ hu => State.alu_tagsHeld hu

@[simp] theorem execEuTst_tagsHeld {op} (hs : s.tagsHeld) : (stateOf s (execEuTst op s)).tagsHeld :=
  issue_next_tagsHeld hs fun _ hu => State.withPair_tagsHeld hu fun _ _ _ hu => by simp [hu]

theorem State.shift_tagsHeld {op k ok} (hs : s.tagsHeld) : (s.shift op k ok).state.tagsHeld := by
  unfold State.shift
  exact State.withPair_tagsHeld hs fun _ _ _ hu => by simp [hu]

@[simp] theorem execEuShl_tagsHeld {op} (hs : s.tagsHeld) : (stateOf s (execEuShl op s)).tagsHeld :=
  issue_next_tagsHeld hs fun _ hu => State.shift_tagsHeld hu

@[simp] theorem execEuShr_tagsHeld {op} (hs : s.tagsHeld) : (stateOf s (execEuShr op s)).tagsHeld :=
  issue_next_tagsHeld hs fun _ hu => State.shift_tagsHeld hu

@[simp] theorem execEuSar_tagsHeld {op} (hs : s.tagsHeld) : (stateOf s (execEuSar op s)).tagsHeld :=
  issue_next_tagsHeld hs fun _ hu => State.shift_tagsHeld hu

@[simp] theorem execEuRol_tagsHeld {op} (hs : s.tagsHeld) : (stateOf s (execEuRol op s)).tagsHeld :=
  issue_next_tagsHeld hs fun _ hu => State.shift_tagsHeld hu

theorem State.unary_tagsHeld {op ok f} (hs : s.tagsHeld) (h : ∀ t w, (f t w s).2.tagsHeld) :
    (s.unary op ok f).state.tagsHeld :=
  State.withSrc_tagsHeld hs (State.setG_tagsHeld (h _ _))

@[simp] theorem execEuNeg_tagsHeld {op} (hs : s.tagsHeld) : (stateOf s (execEuNeg op s)).tagsHeld :=
  issue_next_tagsHeld hs fun _ hu => State.unary_tagsHeld hu fun _ _ => by simp [hu]

@[simp] theorem execEuAbs_tagsHeld {op} (hs : s.tagsHeld) : (stateOf s (execEuAbs op s)).tagsHeld :=
  issue_next_tagsHeld hs fun _ hu => State.unary_tagsHeld hu fun _ _ => by simp [hu]

@[simp] theorem execEuNot_tagsHeld {op} (hs : s.tagsHeld) : (stateOf s (execEuNot op s)).tagsHeld :=
  issue_next_tagsHeld hs fun _ hu => State.unary_tagsHeld hu fun _ _ => by simp [hu]

@[simp] theorem execEuBswap_tagsHeld {op} (hs : s.tagsHeld) : (stateOf s (execEuBswap op s)).tagsHeld :=
  issue_next_tagsHeld hs fun _ hu => State.unary_tagsHeld hu fun _ _ => by simp [hu]

@[simp] theorem execEuClz_tagsHeld {op} (hs : s.tagsHeld) : (stateOf s (execEuClz op s)).tagsHeld :=
  issue_next_tagsHeld hs fun _ hu => State.unary_tagsHeld hu fun _ _ => by simp [hu]

@[simp] theorem execEuCvtf_tagsHeld {op} (hs : s.tagsHeld) : (stateOf s (execEuCvtf op s)).tagsHeld :=
  issue_next_tagsHeld hs fun _ hu => State.unary_tagsHeld hu fun _ _ => by simp [hu]

@[simp] theorem execEuCvti_tagsHeld {op} (hs : s.tagsHeld) : (stateOf s (execEuCvti op s)).tagsHeld :=
  issue_next_tagsHeld hs fun _ hu => State.unary_tagsHeld hu fun _ _ => by simp [hu]

@[simp] theorem execEuMknil_tagsHeld {op} (hs : s.tagsHeld) : (stateOf s (execEuMknil op s)).tagsHeld :=
  issue_next_tagsHeld hs fun _ hu => by simp [hu]

@[simp] theorem execEuTagof_tagsHeld {op} (hs : s.tagsHeld) : (stateOf s (execEuTagof op s)).tagsHeld :=
  issue_next_tagsHeld hs fun _ hu => by simp [hu]

@[simp] theorem execEuTageq_tagsHeld {op} (hs : s.tagsHeld) : (stateOf s (execEuTageq op s)).tagsHeld :=
  issue_next_tagsHeld hs fun _ hu => by simp [hu]

@[simp] theorem execEuSetp_tagsHeld {op} (hs : s.tagsHeld) : (stateOf s (execEuSetp op s)).tagsHeld :=
  issue_next_tagsHeld hs fun _ hu => by simp [hu]

@[simp] theorem execEuMacr_tagsHeld {op} (hs : s.tagsHeld) : (stateOf s (execEuMacr op s)).tagsHeld :=
  issue_next_tagsHeld hs fun _ hu => by simp [hu]

@[simp] theorem execEuClracc_tagsHeld {op} (hs : s.tagsHeld) : (stateOf s (execEuClracc op s)).tagsHeld :=
  issue_next_tagsHeld hs fun _ hu => by simp [hu]

@[simp] theorem execEuMov_tagsHeld {op} (hs : s.tagsHeld) : (stateOf s (execEuMov op s)).tagsHeld :=
  issue_next_tagsHeld hs fun u hu => by
    split
    · exact State.withSrc_tagsHeld hu (State.withSrc_tagsHeld hu (by simp [hu]))
    · exact State.withB_tagsHeld hu fun _ _ hv => State.withSrc_tagsHeld hv (by simp [hv])

@[simp] theorem execEuRetag_tagsHeld {op} (hs : s.tagsHeld) : (stateOf s (execEuRetag op s)).tagsHeld :=
  issue_next_tagsHeld hs fun _ hu => State.withSrc_tagsHeld hu (by simp [hu])

@[simp] theorem execEuMac_tagsHeld {op} (hs : s.tagsHeld) : (stateOf s (execEuMac op s)).tagsHeld :=
  issue_next_tagsHeld hs fun _ hu => State.withPair_tagsHeld hu fun _ _ _ hu => by simp [hu]

@[simp] theorem execEuClamp_tagsHeld {op} (hs : s.tagsHeld) : (stateOf s (execEuClamp op s)).tagsHeld :=
  issue_next_tagsHeld hs fun _ hu => State.aluPlain_tagsHeld hu

/-! ### EurMemory -/

@[simp] theorem execEuLd_tagsHeld {op} (hs : s.tagsHeld) : (stateOf s (execEuLd op s)).tagsHeld :=
  issue_next_tagsHeld hs fun u hu => State.withAddr_tagsHeld hu fun a => State.withWord_tagsHeld hu fun w v hv => by
    split
    · exact State.withWord_tagsHeld hv fun _ _ hx => by simp [hx]
    · simp [hv]

theorem State.storeAt_tagsHeld {op a w hit k} (hs : s.tagsHeld) (h : ∀ u, u.tagsHeld → (k u).state.tagsHeld) :
    (s.storeAt op a w hit k).state.tagsHeld := by
  simp [State.storeAt, hs, h]

@[simp] theorem execEuSt_tagsHeld {op} (hs : s.tagsHeld) : (stateOf s (execEuSt op s)).tagsHeld :=
  issue_next_tagsHeld hs fun u hu => by
    dsimp only
    split
    · exact State.withSrc_tagsHeld hu <| State.withSrc_tagsHeld hu <| State.withAddr_tagsHeld hu fun a =>
        State.storeAt_tagsHeld hu fun _ hv => State.storeAt_tagsHeld hv fun _ hx => hx
    · exact State.withSrc_tagsHeld hu <| State.withAddr_tagsHeld hu fun a => State.storeAt_tagsHeld hu fun _ hv => hv

theorem State.withStack_tagsHeld {op a k} (hs : s.tagsHeld) (h : ∀ a, (k a).state.tagsHeld) :
    (s.withStack op a k).state.tagsHeld := by
  simp [State.withStack, hs, h]

@[simp] theorem execEuPush_tagsHeld {op} (hs : s.tagsHeld) : (stateOf s (execEuPush op s)).tagsHeld :=
  issue_next_tagsHeld hs fun _ hu => State.withSrc_tagsHeld hu <| State.withStack_tagsHeld hu fun _ =>
    State.storeAt_tagsHeld hu fun _ hv => State.setG_tagsHeld hv

@[simp] theorem execEuPop_tagsHeld {op} (hs : s.tagsHeld) : (stateOf s (execEuPop op s)).tagsHeld :=
  issue_next_tagsHeld hs fun u hu => State.withStack_tagsHeld hu fun a => State.withWord_tagsHeld hu fun _ _ hv => by simp [hv]

theorem State.withPacket_tagsHeld {op n k} (hs : s.tagsHeld) (h : ∀ a, (k a).state.tagsHeld) :
    (s.withPacket op n k).state.tagsHeld :=
  State.withAddr_tagsHeld hs fun a => by simp [hs, h]

@[simp] theorem State.packetRead_tagsHeld {op a n} : (s.packetRead op a n).2.2.tagsHeld ↔ s.tagsHeld := by simp [State.packetRead]
@[simp] theorem State.packetWrite_tagsHeld {op a n v} : (s.packetWrite op a n v).2.tagsHeld ↔ s.tagsHeld := by simp [State.packetWrite]

theorem State.packetLoad_tagsHeld {op n} (hs : s.tagsHeld) : (s.packetLoad op n).state.tagsHeld :=
  State.withPacket_tagsHeld hs fun a => by simp [hs]

theorem State.packetStore_tagsHeld {op n} (hs : s.tagsHeld) : (s.packetStore op n).state.tagsHeld := by
  unfold State.packetStore
  exact State.withSrc_tagsHeld hs <| State.withPacket_tagsHeld hs fun a => by simp [hs]

@[simp] theorem execEuLdp_tagsHeld {op} (hs : s.tagsHeld) : (stateOf s (execEuLdp op s)).tagsHeld :=
  issue_next_tagsHeld hs fun _ hu => State.packetLoad_tagsHeld hu

@[simp] theorem execEuStp_tagsHeld {op} (hs : s.tagsHeld) : (stateOf s (execEuStp op s)).tagsHeld :=
  issue_next_tagsHeld hs fun _ hu => State.packetStore_tagsHeld hu

@[simp] theorem execEuLdph_tagsHeld {op} (hs : s.tagsHeld) : (stateOf s (execEuLdph op s)).tagsHeld :=
  issue_next_tagsHeld hs fun _ hu => State.packetLoad_tagsHeld hu

@[simp] theorem execEuStph_tagsHeld {op} (hs : s.tagsHeld) : (stateOf s (execEuStph op s)).tagsHeld :=
  issue_next_tagsHeld hs fun _ hu => State.packetStore_tagsHeld hu

theorem State.withLocked_tagsHeld {op k} (hs : s.tagsHeld) (h : ∀ a w u, u.tagsHeld → (k a w u).state.tagsHeld) :
    (s.withLocked op k).state.tagsHeld :=
  State.withAddr_tagsHeld hs fun a => State.withWord_tagsHeld hs fun w u hu => by simp [hu, h]

@[simp] theorem State.collided_tagsHeld {op a} : (s.collided op a).tagsHeld ↔ s.tagsHeld := by simp [State.collided]

@[simp] theorem execEuXchg_tagsHeld {op} (hs : s.tagsHeld) : (stateOf s (execEuXchg op s)).tagsHeld :=
  issue_next_tagsHeld hs fun u hu => State.withSrc_tagsHeld hu <| State.withLocked_tagsHeld hu fun _ _ _ hv => by simp [hv]

@[simp] theorem execEuXadd_tagsHeld {op} (hs : s.tagsHeld) : (stateOf s (execEuXadd op s)).tagsHeld :=
  issue_next_tagsHeld hs fun u hu => State.withSrc_tagsHeld hu <| State.withLocked_tagsHeld hu fun a w v hv => by
    rw [EurRes.state_ite_tagsHeld]
    split
    · exact hv
    · split <;> simp [hv]

@[simp] theorem execEuCas_tagsHeld {op} (hs : s.tagsHeld) : (stateOf s (execEuCas op s)).tagsHeld :=
  issue_next_tagsHeld hs fun u hu => State.withSrc_tagsHeld hu <| State.withSrc_tagsHeld hu <|
    State.withLocked_tagsHeld hu fun _ _ _ hv => by simp [hv]

theorem repeatIt_tagsHeld {one i n first} (hs : s.tagsHeld) (h : ∀ b u, u.tagsHeld → (one b u).state.tagsHeld) :
    (repeatIt one i n first s).state.tagsHeld := by
  induction n generalizing s first with
  | zero => exact hs
  | succ n ih =>
    have h1 := h first s hs
    unfold repeatIt
    split
    next e => exact ih (State.setG_tagsHeld (by simpa [e] using h1))
    next => exact h1

theorem State.repeated_tagsHeld {op one} (hs : s.tagsHeld) (h : ∀ b u, u.tagsHeld → (one b u).state.tagsHeld) :
    (s.repeated op one).state.tagsHeld := by
  have h1 : ∀ b, (one b s).state.tagsHeld := fun b => h b s hs
  simp [hs, State.repeated, h1, repeatIt_tagsHeld hs h]

theorem State.withPointer_tagsHeld {op n tag has k} (hs : s.tagsHeld) (h : ∀ a, (k a).state.tagsHeld) :
    (s.withPointer op n tag has k).state.tagsHeld := by
  simp [State.withPointer, hs, h]

@[simp] theorem State.movePointer_tagsHeld {op n tag a} (hs : s.tagsHeld) : (s.movePointer op n tag a).tagsHeld :=
  State.setG_tagsHeld hs

@[simp] theorem execEuCopyw_tagsHeld {op} (hs : s.tagsHeld) : (stateOf s (execEuCopyw op s)).tagsHeld :=
  issue_next_tagsHeld hs fun u hu => State.repeated_tagsHeld hu fun b u hu => State.withPointer_tagsHeld hu fun x =>
    State.withPointer_tagsHeld hu fun y => State.withWord_tagsHeld hu fun _ _ hv => by
      rw [EurRes.state_ite_tagsHeld]
      split
      · exact hv
      · exact State.storeAt_tagsHeld hv fun _ hx => by simp [hx]

@[simp] theorem execEuFillw_tagsHeld {op} (hs : s.tagsHeld) : (stateOf s (execEuFillw op s)).tagsHeld :=
  issue_next_tagsHeld hs fun _ hu => State.repeated_tagsHeld hu fun _ _ hu => State.withPointer_tagsHeld hu fun _ =>
    State.withSrc_tagsHeld hu <| State.storeAt_tagsHeld hu fun _ hv => State.movePointer_tagsHeld hv

@[simp] theorem execEuCopyp_tagsHeld {op} (hs : s.tagsHeld) : (stateOf s (execEuCopyp op s)).tagsHeld :=
  issue_next_tagsHeld hs fun u hu => State.repeated_tagsHeld hu fun b u hu => State.withPointer_tagsHeld hu fun x =>
    State.withPointer_tagsHeld hu fun y => by simp [hu]

@[simp] theorem execEuCrc32c_tagsHeld {op} (hs : s.tagsHeld) : (stateOf s (execEuCrc32c op s)).tagsHeld :=
  issue_next_tagsHeld hs fun u hu => State.repeated_tagsHeld hu fun b u hu => State.withSrc_tagsHeld hu <|
    State.withPointer_tagsHeld hu fun y => by simp [hu]

/-! ### GrilorLink -/

@[simp] theorem State.glTo_tagsHeld {i st} : (s.glTo i st).tagsHeld ↔ s.tagsHeld := by simp [State.glTo]

@[simp] theorem State.gwAdvance_tagsHeld : s.gwAdvance.tagsHeld ↔ s.tagsHeld := by
  unfold State.gwAdvance
  dsimp only
  (repeat' split) <;> simp

@[simp] theorem State.gwSent_tagsHeld : s.gwSent.tagsHeld ↔ s.tagsHeld := by
  unfold State.gwSent
  split <;> simp

@[simp] theorem State.ackTo_tagsHeld {i a} : (s.ackTo i a).tagsHeld ↔ s.tagsHeld := by simp [State.ackTo]
@[simp] theorem State.ctlSend_tagsHeld {i nak} : (s.ctlSend i nak).tagsHeld ↔ s.tagsHeld := Iff.rfl
@[simp] theorem State.rosterPut_tagsHeld {l} : (s.rosterPut l).tagsHeld ↔ s.tagsHeld := by simp [State.rosterPut]
@[simp] theorem State.enumDone_tagsHeld : s.enumDone.tagsHeld ↔ s.tagsHeld := by simp [State.enumDone]
@[simp] theorem State.enumSend_tagsHeld {assigned} : (s.enumSend assigned).tagsHeld ↔ s.tagsHeld := by simp [State.enumSend]
@[simp] theorem State.enumFrom_tagsHeld {p} : (s.enumFrom p).tagsHeld ↔ s.tagsHeld := by simp [State.enumFrom]

@[simp] theorem State.enumPortEnd_tagsHeld : s.enumPortEnd.tagsHeld ↔ s.tagsHeld := by
  unfold State.enumPortEnd
  dsimp only
  split <;> simp

@[simp] theorem State.enumStart_tagsHeld : s.enumStart.tagsHeld ↔ s.tagsHeld := by
  unfold State.enumStart
  dsimp only
  (repeat' split) <;> simp

@[simp] theorem State.enumResp_tagsHeld {port dev side fixedId} : (s.enumResp port dev side fixedId).tagsHeld ↔ s.tagsHeld := by
  unfold State.enumResp
  dsimp only
  (repeat' split) <;> simp

@[simp] theorem State.rosterReset_tagsHeld : s.rosterReset.tagsHeld ↔ s.tagsHeld := by simp [State.rosterReset]

@[simp] theorem State.glDown_tagsHeld {i} : (s.glDown i).tagsHeld ↔ s.tagsHeld := by
  unfold State.glDown
  dsimp only
  (repeat' split) <;> simp

@[simp] theorem State.glReplay_tagsHeld {i} : (s.glReplay i).tagsHeld ↔ s.tagsHeld := by simp [State.glReplay]
@[simp] theorem State.geEnable_tagsHeld {k en} : (s.geEnable k en).tagsHeld ↔ s.tagsHeld := by simp [State.geEnable]
@[simp] theorem State.handoverCmd_tagsHeld : s.handoverCmd.tagsHeld ↔ s.tagsHeld := by simp [State.handoverCmd]

/-! ### Mac -/

@[simp] theorem State.pauseFrame_tagsHeld {p b} : (s.pauseFrame p b).tagsHeld ↔ s.tagsHeld := by simp [State.pauseFrame]
@[simp] theorem State.toLoom_tagsHeld {p b symErr sfd} : (s.toLoom p b symErr sfd).tagsHeld ↔ s.tagsHeld := by simp [State.toLoom]
@[simp] theorem State.linkDown_tagsHeld {p} : (s.linkDown p).tagsHeld ↔ s.tagsHeld := by simp [State.linkDown]
@[simp] theorem State.macMode_tagsHeld {p mode} : (s.macMode p mode).tagsHeld ↔ s.tagsHeld := by simp [State.macMode]

@[simp] theorem execPstkRead_tagsHeld {p coincident} : (stateOf s (execPstkRead p coincident s)).tagsHeld ↔ s.tagsHeld := by
  simp [execPstkRead]

@[simp] theorem State.diagStart_tagsHeld : s.diagStart.tagsHeld ↔ s.tagsHeld := Iff.rfl
@[simp] theorem execT1lDiagRun_tagsHeld : (stateOf s (execT1lDiagRun s)).tagsHeld ↔ s.tagsHeld := by simp [execT1lDiagRun]

/-! ### RegRead -/

@[simp] theorem State.rcClear_tagsHeld {r i j} : (s.rcClear r i j).tagsHeld ↔ s.tagsHeld := by simp [State.rcClear]

theorem State.regTake_tagsHeld {base i} : ∀ u ∈ s.regTake base i, u.tagsHeld ↔ s.tagsHeld := by
  unfold State.regTake
  dsimp only
  (repeat' split) <;> simp

@[simp] theorem State.regRead_tagsHeld {r i j a} : (s.regRead r i j a).2.tagsHeld ↔ s.tagsHeld := by
  unfold State.regRead
  dsimp only
  split
  next e => simpa using State.regTake_tagsHeld _ e
  next => split <;> simp

@[simp] theorem State.linkCarry_tagsHeld {a crc} : (s.linkCarry a crc).2.tagsHeld ↔ s.tagsHeld := by simp [State.linkCarry]

@[simp] theorem State.expertRead_tagsHeld {a src crc} : (s.expertRead a src crc).2.2.tagsHeld ↔ s.tagsHeld := by
  unfold State.expertRead
  (repeat' split) <;> simp

/-! ### RegWrite -/

@[simp] theorem State.fieldStore_tagsHeld {f v} : (s.fieldStore f v).tagsHeld ↔ s.tagsHeld := by
  unfold State.fieldStore
  split <;> simp

@[simp] theorem State.regStore_tagsHeld {r i j v} : (s.regStore r i j v).tagsHeld ↔ s.tagsHeld := by simp [State.regStore]

@[simp] theorem State.onBit_tagsHeld {v k f} (h : ∀ u, (f u).tagsHeld ↔ u.tagsHeld) : (s.onBit v k f).tagsHeld ↔ s.tagsHeld := by
  simp [State.onBit, h]

theorem State.writeSysTime_tagsHeld {r i v w} : ∀ u ∈ s.writeSysTime r i v w, u.tagsHeld ↔ s.tagsHeld := by
  have hstep {u : State} : (u.stepCommand.getD u).tagsHeld ↔ u.tagsHeld := getD_tagsHeld State.stepCommand_tagsHeld Iff.rfl
  have hdt {u : State} : (u.dtCommand.getD u).tagsHeld ↔ u.tagsHeld := getD_tagsHeld State.dtCommand_tagsHeld Iff.rfl
  unfold State.writeSysTime
  iterate 15 refine forall_mem_ite (by simp [hstep, hdt]) ?_
  simp

theorem State.writeHeddle_tagsHeld {r i v w} : ∀ u ∈ (s.writeHeddle r i v w), u.tagsHeld ↔ s.tagsHeld := by
  unfold State.writeHeddle
  dsimp only
  refine forall_mem_ite ?_ ?_
  · simp
  iterate 12 refine forall_mem_ite (by simp) ?_
  simp

@[simp] theorem State.bobbinEnable_tagsHeld {en} : (s.bobbinEnable en).2.tagsHeld ↔ s.tagsHeld := by simp [State.bobbinEnable]

theorem State.writeLoom_tagsHeld {r i v} : ∀ u ∈ s.writeLoom r i v, u.2.tagsHeld ↔ s.tagsHeld := by
  unfold State.writeLoom
  iterate 15 refine forall_mem_ite (by simp) ?_
  simp

@[simp] theorem State.writeCanCtrl_tagsHeld {r n v w} : (s.writeCanCtrl r n v w).tagsHeld ↔ s.tagsHeld := by
  simp [State.writeCanCtrl]

@[simp] theorem State.writeMoCtl_tagsHeld {r n k v} : (s.writeMoCtl r n k v).tagsHeld ↔ s.tagsHeld := by simp [State.writeMoCtl]

theorem State.writeCan_tagsHeld {r i j v w} : ∀ u ∈ s.writeCan r i j v w, u.tagsHeld ↔ s.tagsHeld := by
  unfold State.writeCan
  dsimp only
  (repeat' split) <;> simp

theorem State.writeStage_tagsHeld {r i v} : ∀ u ∈ (s.writeStage r i v), u.tagsHeld ↔ s.tagsHeld := by
  have hoff {x} : ((s.offsetWrite x).getD s).tagsHeld ↔ s.tagsHeld := getD_tagsHeld State.offsetWrite_tagsHeld Iff.rfl
  unfold State.writeStage
  iterate 15 refine forall_mem_ite (by simp [hoff]) ?_
  simp

@[simp] theorem State.regWrite_tagsHeld {r i j v w} : (s.regWrite r i j v w).2.tagsHeld ↔ s.tagsHeld := by
  have hst {j} : (s.regStore r i j v).tagsHeld ↔ s.tagsHeld := State.regStore_tagsHeld
  have hloom : ((s.writeLoom r i v).getD (0, s.regStore r i j v)).2.tagsHeld ↔ s.tagsHeld := getD_snd_tagsHeld State.writeLoom_tagsHeld hst
  simp [State.regWrite, hloom, getD_tagsHeld State.writeSysTime_tagsHeld hst, getD_tagsHeld State.writeCan_tagsHeld hst,
    getD_tagsHeld State.writeHeddle_tagsHeld hst, getD_tagsHeld State.writeStage_tagsHeld hst]

@[simp] theorem State.rawTake_tagsHeld {k v} : (s.rawTake k v).tagsHeld ↔ s.tagsHeld := by
  unfold State.rawTake
  split <;> simp

@[simp] theorem State.jStage_tagsHeld {before r i a} : (s.jStage before r i a).tagsHeld ↔ s.tagsHeld := by simp [State.jStage]
@[simp] theorem State.regWriteJ_tagsHeld {r i j a v w} : (s.regWriteJ r i j a v w).2.tagsHeld ↔ s.tagsHeld := by simp [State.regWriteJ]

@[simp] theorem State.expertWrite_tagsHeld {a v w src crc} : (s.expertWrite a v w src crc).2.tagsHeld ↔ s.tagsHeld := by
  unfold State.expertWrite
  (repeat' split) <;> simp

@[simp] theorem execCompanionRegisterAccess_tagsHeld {a v w crc} :
    (stateOf s (execCompanionRegisterAccess a v w crc s)).tagsHeld ↔ s.tagsHeld := by
  unfold execCompanionRegisterAccess
  split <;> simp

/-! ### EurSystem -/

@[simp] theorem execEuNop_tagsHeld {op} (hs : s.tagsHeld) : (stateOf s (execEuNop op s)).tagsHeld :=
  issue_next_tagsHeld hs fun _ hu => hu

@[simp] theorem execEuHalt_tagsHeld {op} (hs : s.tagsHeld) : (stateOf s (execEuHalt op s)).tagsHeld :=
  issue_next_tagsHeld hs fun _ hu => by simp [hu]

@[simp] theorem execEuRet_tagsHeld {op} (hs : s.tagsHeld) : (stateOf s (execEuRet op s)).tagsHeld :=
  issue_next_tagsHeld hs fun _ hu => State.withSrc_tagsHeld hu hu

@[simp] theorem execEuWait_tagsHeld {op} (hs : s.tagsHeld) : (stateOf s (execEuWait op s)).tagsHeld :=
  issue_next_tagsHeld hs fun _ hu => by simp [hu]

@[simp] theorem execEuRtt_tagsHeld {op} (hs : s.tagsHeld) : (stateOf s (execEuRtt op s)).tagsHeld :=
  issue_next_tagsHeld hs fun u hu => (setThread_tagsHeld (by rfl)).2 hu

theorem State.branch_tagsHeld {d op} (hs : s.tagsHeld) : (s.branch d op).state.tagsHeld := by
  simp [State.branch, hs, State.withSrc_tagsHeld]

@[simp] theorem execEuB_tagsHeld {op} (hs : s.tagsHeld) : (stateOf s (execEuB op s)).tagsHeld :=
  issue_next_tagsHeld hs fun _ hu => by simp [hu, State.branch_tagsHeld]

@[simp] theorem execEuCall_tagsHeld {op} (hs : s.tagsHeld) : (stateOf s (execEuCall op s)).tagsHeld := by
  refine issue_next_tagsHeld hs fun u hu => ?_
  have hb := State.branch_tagsHeld (d := { form := .s, modes := [.reg, .i16, .i32] }) (op := op) hu
  split
  next e => exact State.setG_tagsHeld (by simpa [e] using hb)
  next => exact hb

@[simp] theorem execEuLoop_tagsHeld {op} (hs : s.tagsHeld) : (stateOf s (execEuLoop op s)).tagsHeld :=
  issue_next_tagsHeld hs fun _ hu => State.withSrc_tagsHeld hu (by simp [hu, State.branch_tagsHeld])

@[simp] theorem execEuBnil_tagsHeld {op} (hs : s.tagsHeld) : (stateOf s (execEuBnil op s)).tagsHeld :=
  issue_next_tagsHeld hs fun _ hu => by simp [hu, State.branch_tagsHeld]

@[simp] theorem execEuSwt_tagsHeld {op} (hs : s.tagsHeld) : (stateOf s (execEuSwt op s)).tagsHeld :=
  issue_next_tagsHeld hs fun _ hu => hu

@[simp] theorem execEuLdang_tagsHeld {op} (hs : s.tagsHeld) : (stateOf s (execEuLdang op s)).tagsHeld :=
  issue_next_tagsHeld hs fun _ hu => by simp [hu]

@[simp] theorem execEuLdtime_tagsHeld {op} (hs : s.tagsHeld) : (stateOf s (execEuLdtime op s)).tagsHeld :=
  issue_next_tagsHeld hs fun _ hu => by simp [hu]

@[simp] theorem execEuWaituntil_tagsHeld {op} (hs : s.tagsHeld) : (stateOf s (execEuWaituntil op s)).tagsHeld :=
  issue_next_tagsHeld hs fun _ hu => State.withSrc_tagsHeld hu (by simp [hu])

@[simp] theorem execWaituntilReached_tagsHeld {i} : (stateOf s (execWaituntilReached i s)).tagsHeld ↔ s.tagsHeld := by
  unfold execWaituntilReached
  dsimp only
  split <;> simp

@[simp] theorem execEuMfsr_tagsHeld {op} (hs : s.tagsHeld) : (stateOf s (execEuMfsr op s)).tagsHeld :=
  issue_next_tagsHeld hs fun _ hu => by simp [hu]

theorem setSpecial_g {t : Thread} {n v} : (t.setSpecial n v).g = t.g := by
  unfold Thread.setSpecial
  split <;> rfl

@[simp] theorem execEuMtsr_tagsHeld {op} (hs : s.tagsHeld) : (stateOf s (execEuMtsr op s)).tagsHeld :=
  issue_next_tagsHeld hs fun _ hu => State.withSrc_tagsHeld hu (by simp [hu, setSpecial_g])

theorem State.withIo_tagsHeld {op k} (hs : s.tagsHeld) (h : ∀ a w, (k a w).state.tagsHeld) : (s.withIo op k).state.tagsHeld := by
  unfold State.withIo
  refine State.withSrc_tagsHeld hs ?_
  split <;> simp [hs, h]

@[simp] theorem execEuIold_tagsHeld {op} (hs : s.tagsHeld) : (stateOf s (execEuIold op s)).tagsHeld :=
  issue_next_tagsHeld hs fun _ hu => State.withIo_tagsHeld hu fun _ _ => by simp [hu]

@[simp] theorem execEuIost_tagsHeld {op} (hs : s.tagsHeld) : (stateOf s (execEuIost op s)).tagsHeld :=
  issue_next_tagsHeld hs fun _ hu => State.withSrc_tagsHeld hu <| State.withSrc_tagsHeld hu <| State.withSrc_tagsHeld hu <|
    State.withIo_tagsHeld hu fun _ _ => by simp [hu]

/-! ### LargeSend -/

@[simp] theorem State.buildSegments_tagsHeld {slot q kind mss n t d k i} :
    (s.buildSegments slot q kind mss n t d k i).2.tagsHeld ↔ s.tagsHeld := by
  induction k generalizing s i with
  | zero => rfl
  | succ k ih => simp [State.buildSegments, ih]

@[simp] theorem State.largeBuild_tagsHeld {i} : (s.largeBuild i).tagsHeld ↔ s.tagsHeld := by
  unfold State.largeBuild
  dsimp only
  split <;> simp

@[simp] theorem State.largeQueue_tagsHeld {i} : (s.largeQueue i).tagsHeld ↔ s.tagsHeld := by
  unfold State.largeQueue
  dsimp only
  rw [State.stepDone_tagsHeld]
  refine each_tagsHeld fun u x => ?_
  split <;> simp

@[simp] theorem State.largeSent_tagsHeld {i} : (s.largeSent i).tagsHeld ↔ s.tagsHeld := by simp [State.largeSent]
@[simp] theorem State.stepLarge_tagsHeld {i} : (s.stepLarge i).tagsHeld ↔ s.tagsHeld := by simp [State.stepLarge]
@[simp] theorem State.largeSettle_tagsHeld {i} : (s.largeSettle i).tagsHeld ↔ s.tagsHeld := by simp [State.largeSettle]

/-! ### TicketAccess -/

@[simp] theorem State.resultRead_tagsHeld {c h} : (s.resultRead c h).2.tagsHeld ↔ s.tagsHeld := by
  unfold State.resultRead
  split <;> simp

@[simp] theorem State.resultConsume_tagsHeld {c h} : (s.resultConsume c h).2.tagsHeld ↔ s.tagsHeld := by
  unfold State.resultConsume
  split <;> simp

@[simp] theorem State.retireAt_tagsHeld {i} : (s.retireAt i).2.tagsHeld ↔ s.tagsHeld := by simp [State.retireAt]

@[simp] theorem State.retire_tagsHeld {c h} : (s.retire c h).2.tagsHeld ↔ s.tagsHeld := by
  unfold State.retire
  split <;> simp

@[simp] theorem State.retireBy_tagsHeld {c h} : (s.retireBy c h).2.tagsHeld ↔ s.tagsHeld := by simp [State.retireBy]
@[simp] theorem State.settle_tagsHeld {i} (hs : s.tagsHeld) : (s.settle i).tagsHeld := by simp [hs, State.settle]
@[simp] theorem State.abortQueued_tagsHeld {i} (hs : s.tagsHeld) : (s.abortQueued i).2.tagsHeld := by simp [hs, State.abortQueued]

@[simp] theorem State.abortBy_tagsHeld {c h} (hs : s.tagsHeld) : (s.abortBy c h).2.tagsHeld := by
  unfold State.abortBy
  split <;> simp [hs]

/-! ### OdApply -/

@[simp] theorem State.clearMask_tagsHeld {l mask} : (s.clearMask l mask).tagsHeld ↔ s.tagsHeld := by simp [State.clearMask]

@[simp] theorem State.eachBit_tagsHeld {n mask f} (h : ∀ u k, (f u k).tagsHeld ↔ u.tagsHeld) : (s.eachBit n mask f).tagsHeld ↔ s.tagsHeld :=
  each_tagsHeld h

@[simp] theorem State.ctxApply_tagsHeld {k sub v} : (s.ctxApply k sub v).tagsHeld ↔ s.tagsHeld := Iff.rfl
@[simp] theorem State.act2_tagsHeld {c i sub v} (hs : s.tagsHeld) : (s.act2 c i sub v).tagsHeld := by simp [hs, State.act2]

@[simp] theorem State.act3_tagsHeld {i sub n} : (s.act3 i sub n).tagsHeld ↔ s.tagsHeld := by
  have hstep : (s.stepCommand.getD s).tagsHeld ↔ s.tagsHeld := getD_tagsHeld State.stepCommand_tagsHeld Iff.rfl
  have hdt : (s.dtCommand.getD s).tagsHeld ↔ s.tagsHeld := getD_tagsHeld State.dtCommand_tagsHeld Iff.rfl
  simp [State.act3, hstep, hdt]

@[simp] theorem State.thresholds_tagsHeld {n} : (s.thresholds n).tagsHeld ↔ s.tagsHeld := by simp [State.thresholds]
@[simp] theorem State.groupApply_tagsHeld {g sub n} : (s.groupApply g sub n).tagsHeld ↔ s.tagsHeld := by simp [State.groupApply]
@[simp] theorem State.unitBit_tagsHeld {f k n} : (s.unitBit f k n).tagsHeld ↔ s.tagsHeld := Iff.rfl

@[simp] theorem State.act4_tagsHeld {i sub v} : (s.act4 i sub v).tagsHeld ↔ s.tagsHeld := by
  have hwr2 {u : State} {a b : Field} {x y} : ((u.wr a x).wr b y).tagsHeld ↔ u.tagsHeld := (State.wr_tagsHeld ..).trans (State.wr_tagsHeld ..)
  unfold State.act4
  extract_lets +onlyGivenNames n _ k s1 t put m
  have h1 : s1.tagsHeld ↔ s.tagsHeld := by
    unfold s1
    split
    · exact State.unitBit_tagsHeld
    split
    · exact State.unitBit_tagsHeld
    · rfl
  have hput {u : State} {f w x} : (put u f w x).tagsHeld ↔ u.tagsHeld := State.wr_tagsHeld ..
  clear_value put s1
  split
  · simp
  split
  · simp
  split
  · simp
  split
  · exact State.setGr_tagsHeld
  split
  · simp [h1]
  split
  · exact hput.trans hput
  split
  · exact State.wr_tagsHeld ..
  split
  · split
    · exact hwr2
    · rfl
  split
  · split
    · exact hwr2
    · split
      · exact State.wr_tagsHeld ..
      · rfl
  · rfl

@[simp] theorem State.act5_tagsHeld {i sub n} : (s.act5 i sub n).tagsHeld ↔ s.tagsHeld := by simp [State.act5]

@[simp] theorem State.tableApply_tagsHeld {group old new} : (s.tableApply group old new).tagsHeld ↔ s.tagsHeld := by
  unfold State.tableApply
  dsimp only
  (repeat' split) <;> simp

@[simp] theorem State.vlanApply_tagsHeld {old new} : (s.vlanApply old new).tagsHeld ↔ s.tagsHeld := by simp [State.vlanApply]

@[simp] theorem State.tgateApply_tagsHeld {p b} : (s.tgateApply p b).tagsHeld ↔ s.tagsHeld := by
  simp [State.tgateApply]

@[simp] theorem State.agateApply_tagsHeld {p b} : (s.agateApply p b).tagsHeld ↔ s.tagsHeld := by
  simp [State.agateApply]

@[simp] theorem State.weightsApply_tagsHeld {p n} : (s.weightsApply p n).tagsHeld ↔ s.tagsHeld := by simp [State.weightsApply]
@[simp] theorem State.act6_tagsHeld {i sub old v} : (s.act6 i sub old v).tagsHeld ↔ s.tagsHeld := by simp [State.act6]

@[simp] theorem State.act8_tagsHeld {i sub v} : (s.act8 i sub v).tagsHeld ↔ s.tagsHeld := by
  have hoff {x} : ((s.offsetWrite x).getD s).tagsHeld ↔ s.tagsHeld := getD_tagsHeld State.offsetWrite_tagsHeld Iff.rfl
  simp [State.act8, hoff]

@[simp] theorem State.act9_tagsHeld {i sub n} : (s.act9 i sub n).tagsHeld ↔ s.tagsHeld := by simp [State.act9]
@[simp] theorem State.windowApply_tagsHeld {c sub n} : (s.windowApply c sub n).tagsHeld ↔ s.tagsHeld := Iff.rfl

@[simp] theorem State.homeStore_tagsHeld {i sub m v} : (s.homeStore i sub m v).tagsHeld ↔ s.tagsHeld := by
  unfold State.homeStore
  (repeat' split) <;> simp

@[simp] theorem State.odApply_tagsHeld {c key v0} (hs : s.tagsHeld) : (s.odApply c key v0).tagsHeld := by
  unfold State.odApply
  dsimp only
  split <;> simp [hs]

/-! ### OdServer -/

@[simp] theorem State.hostAnswer_tagsHeld {status rdata} : (s.hostAnswer status rdata).tagsHeld ↔ s.tagsHeld := Iff.rfl
@[simp] theorem State.odReply_tagsHeld {c code v h side} : (s.odReply c code v h side).tagsHeld ↔ s.tagsHeld := by simp [State.odReply]

@[simp] theorem State.serve_tagsHeld {c f} (h : ∀ u, (f u).tagsHeld ↔ u.tagsHeld) : (s.serve c f).tagsHeld ↔ s.tagsHeld := by
  simp [State.serve, h]

theorem State.serve_held {c f} (hs : s.tagsHeld) (h : ∀ u, u.tagsHeld → (f u).tagsHeld) : (s.serve c f).tagsHeld := by
  simp [State.serve, hs, h]

@[simp] theorem State.takeToken_tagsHeld {c} : (s.takeToken c).2.tagsHeld ↔ s.tagsHeld := by simp [State.takeToken]
@[simp] theorem State.refuseOd_tagsHeld {c code side} : (s.refuseOd c code side).tagsHeld ↔ s.tagsHeld := by simp [State.refuseOd]
@[simp] theorem State.accessOpen_tagsHeld {c ticket} : (s.accessOpen c ticket).2.tagsHeld ↔ s.tagsHeld := by simp [State.accessOpen]

@[simp] theorem State.admitFor_tagsHeld {c t fails} : (s.admitFor c t fails).tagsHeld ↔ s.tagsHeld := by
  unfold State.admitFor
  dsimp only
  split
  · simp
  split
  next => simp
  next s1 h e =>
    have h1 : s1.tagsHeld ↔ s.tagsHeld := State.admitTicket_tagsHeld _ e
    simp [h1]

@[simp] theorem State.windowData_tagsHeld {c a w crc} : (s.windowData c a w crc).2.2.tagsHeld ↔ s.tagsHeld := by
  unfold State.windowData
  split <;> simp

@[simp] theorem State.refuseData_tagsHeld {c code} : (s.refuseData c code).tagsHeld ↔ s.tagsHeld := by simp [State.refuseData]
@[simp] theorem State.poisonFound_tagsHeld {key m} (hs : s.tagsHeld) : (s.poisonFound key m).tagsHeld := by simp [hs, State.poisonFound]

@[simp] theorem State.odFetch_tagsHeld {c i sub found addr} (hs : s.tagsHeld) : (s.odFetch c i sub found addr).2.2.tagsHeld := by
  unfold State.odFetch
  split <;> simp [hs]

@[simp] theorem State.odRead_tagsHeld {c i sub found} (hs : s.tagsHeld) : (s.odRead c i sub found).tagsHeld :=
  State.serve_held hs fun _ hu => by simp [hu]

@[simp] theorem State.captureReads_tagsHeld {order keys} : (s.captureReads order keys).tagsHeld ↔ s.tagsHeld := by simp [State.captureReads]
@[simp] theorem State.touchExpert_tagsHeld {c keys} : (s.touchExpert c keys).tagsHeld ↔ s.tagsHeld := by simp [State.touchExpert]
@[simp] theorem State.refusedWrite_tagsHeld {c e code} : (s.refusedWrite c e code).tagsHeld ↔ s.tagsHeld := by simp [State.refusedWrite]
@[simp] theorem State.writeNow_tagsHeld {c key v} (hs : s.tagsHeld) : (s.writeNow c key v).tagsHeld := by simp [hs, State.writeNow]

@[simp] theorem State.odWrite_tagsHeld {c l multi bad} (hs : s.tagsHeld) : (s.odWrite c l multi bad).tagsHeld := by
  refine State.serve_held hs fun u hu => ?_
  dsimp only
  split
  · simp [hu]
  split
  · simp [hu]
  · split <;> split <;> simp [hu]

@[simp] theorem State.odReadMulti_tagsHeld {c keys rows} : (s.odReadMulti c keys rows).tagsHeld ↔ s.tagsHeld := by simp [State.odReadMulti]

@[simp] theorem execUnlockBlockEnd_tagsHeld : (stateOf s (execUnlockBlockEnd s)).tagsHeld ↔ s.tagsHeld := by
  unfold execUnlockBlockEnd
  split <;> simp

@[simp] theorem execSessionOpen_tagsHeld {k reach profile} : (stateOf s (execSessionOpen k reach profile s)).tagsHeld ↔ s.tagsHeld := by
  unfold execSessionOpen
  (repeat' split) <;> simp

@[simp] theorem execDrainTimeout_tagsHeld {c} (hs : s.tagsHeld) : (stateOf s (execDrainTimeout c s)).tagsHeld := by
  have he := each_held (l := s.heldBy c) hs fun u i (hu : u.tagsHeld) =>
    show ((if (u.ticket i).state.isFinal then u else (u.finish i .aborted 0 .uint (u.ticket i).step).settle i).retireSlot i).tagsHeld by
      simp [hu]
  rw [execDrainTimeout, stateOf_next, ite_tagsHeld]
  split
  · exact hs
  · simpa using he

/-! ### Journal -/

@[simp] theorem State.journalNote_tagsHeld {before} : (s.journalNote before).tagsHeld ↔ s.tagsHeld := by simp [State.journalNote]

@[simp] theorem State.fullSync_tagsHeld : s.fullSync.tagsHeld ↔ s.tagsHeld := by
  unfold State.fullSync
  split <;> simp

@[simp] theorem State.fullFails_tagsHeld : s.fullFails.tagsHeld ↔ s.tagsHeld := by
  unfold State.fullFails
  split <;> simp

@[simp] theorem State.copyStart_tagsHeld : s.copyStart.tagsHeld ↔ s.tagsHeld := by simp [State.copyStart]
@[simp] theorem State.fullStart_tagsHeld : s.fullStart.tagsHeld ↔ s.tagsHeld := by simp [State.fullStart]
@[simp] theorem State.fullCheck_tagsHeld : s.fullCheck.tagsHeld ↔ s.tagsHeld := by simp [State.fullCheck]
@[simp] theorem State.jvalPut_tagsHeld {l} : (s.jvalPut l).tagsHeld ↔ s.tagsHeld := Iff.rfl

@[simp] theorem State.applyItems_tagsHeld {c l} (hs : s.tagsHeld) : (s.applyItems c l).tagsHeld :=
  each_held hs fun _ _ hu => by simp [hu]

@[simp] theorem State.windowStep_tagsHeld {t} : (s.windowStep t).2.tagsHeld ↔ s.tagsHeld := by
  unfold State.windowStep
  split <;> simp

@[simp] theorem State.writeDone_tagsHeld {i} (hs : s.tagsHeld) : (s.writeDone i).tagsHeld := by simp [hs, State.writeDone]
@[simp] theorem State.writeStep_tagsHeld {i k} (hs : s.tagsHeld) : (s.writeStep i k).tagsHeld := by simp [hs, State.writeStep]
@[simp] theorem State.writeStart_tagsHeld {i} (hs : s.tagsHeld) : (s.writeStart i).tagsHeld := by simp [hs, State.writeStart]
@[simp] theorem State.valueCommitted_tagsHeld {h k} (hs : s.tagsHeld) : (s.valueCommitted h k).tagsHeld := by simp [hs, State.valueCommitted]
@[simp] theorem State.admitCommitted_tagsHeld {h} (hs : s.tagsHeld) : (s.admitCommitted h).tagsHeld := by simp [hs, State.admitCommitted]
@[simp] theorem State.baselineIn_tagsHeld : s.baselineIn.tagsHeld ↔ s.tagsHeld := by simp [State.baselineIn]
@[simp] theorem State.finalRecord_tagsHeld {h} : (s.finalRecord h).tagsHeld ↔ s.tagsHeld := by simp [State.finalRecord]
@[simp] theorem State.stepRecord_tagsHeld {h tag v} (hs : s.tagsHeld) : (s.stepRecord h tag v).tagsHeld := by simp [hs, State.stepRecord]

@[simp] theorem State.mirroredEffect_tagsHeld {b} (hs : s.tagsHeld) : (s.mirroredEffect b).tagsHeld := by
  unfold State.mirroredEffect
  split <;> simp [hs]

@[simp] theorem State.recordEffect_tagsHeld {b} (hs : s.tagsHeld) : (s.recordEffect b).tagsHeld := by
  unfold State.recordEffect
  (repeat' split) <;> simp [hs]

@[simp] theorem State.acknowledge_tagsHeld {b} (hs : s.tagsHeld) : (s.acknowledge b).tagsHeld := by simp [hs, State.acknowledge]

@[simp] theorem State.commitHead_tagsHeld (hs : s.tagsHeld) : s.commitHead.tagsHeld := by
  unfold State.commitHead
  split <;> simp [hs]

@[simp] theorem State.switchOver_tagsHeld : s.switchOver.tagsHeld ↔ s.tagsHeld := by simp [State.switchOver]
@[simp] theorem State.abandon_tagsHeld : s.abandon.tagsHeld ↔ s.tagsHeld := by simp [State.abandon]

@[simp] theorem State.copyRecords_tagsHeld {n} : (State.copyRecords n s).tagsHeld ↔ s.tagsHeld := by
  induction n generalizing s with
  | zero => rfl
  | succ n ih =>
    unfold State.copyRecords
    dsimp only
    split <;> simp [ih]

@[simp] theorem State.copyPage_tagsHeld : s.copyPage.tagsHeld ↔ s.tagsHeld := by simp [State.copyPage]

@[simp] theorem State.eraseDone_tagsHeld : s.eraseDone.tagsHeld ↔ s.tagsHeld := by
  unfold State.eraseDone
  split <;> simp

@[simp] theorem State.dropRestore_tagsHeld {l} : (s.dropRestore l).tagsHeld ↔ s.tagsHeld := Iff.rfl

@[simp] theorem State.giveUp_tagsHeld {code b} (hs : s.tagsHeld) : (s.giveUp code b).tagsHeld := by
  unfold State.giveUp
  split <;> simp [hs]

@[simp] theorem State.clearUnledgered_tagsHeld : s.clearUnledgered.tagsHeld ↔ s.tagsHeld := by simp [State.clearUnledgered]

@[simp] theorem State.noBolts_tagsHeld (hs : s.tagsHeld) : s.noBolts.tagsHeld := by
  unfold State.noBolts
  rw [State.fullFails_tagsHeld]
  exact each_held (by simpa using hs) fun _ _ hu => State.giveUp_tagsHeld hu

@[simp] theorem State.boltFails_tagsHeld {k cause seq} (hs : s.tagsHeld) : (s.boltFails k cause seq).tagsHeld := by simp [hs, State.boltFails]

@[simp] theorem execJournalFullTimeout_tagsHeld (hs : s.tagsHeld) : (stateOf s (execJournalFullTimeout s)).tagsHeld := by
  unfold execJournalFullTimeout
  dsimp only
  (repeat' split) <;> simp [hs]

@[simp] theorem State.failedWrite_tagsHeld {k r readback page} : (s.failedWrite k r readback page).tagsHeld ↔ s.tagsHeld := by
  simp [State.failedWrite]

@[simp] theorem State.copyFailure_tagsHeld {r readback page} (hs : s.tagsHeld) : (s.copyFailure r readback page).tagsHeld := by
  simp [hs, State.copyFailure]

@[simp] theorem State.headFailure_tagsHeld {r rest readback page} (hs : s.tagsHeld) : (s.headFailure r rest readback page).tagsHeld := by
  simp [hs, State.headFailure]

@[simp] theorem execJournalProgramFailure_tagsHeld {copy readback page} (hs : s.tagsHeld) :
    (stateOf s (execJournalProgramFailure copy readback page s)).tagsHeld := by
  unfold execJournalProgramFailure
  (repeat' split) <;> simp [hs]

@[simp] theorem execJournalEraseFailure_tagsHeld (hs : s.tagsHeld) : (stateOf s (execJournalEraseFailure s)).tagsHeld := by
  unfold execJournalEraseFailure
  (repeat' split) <;> simp [hs]

/-! ### Tickets -/

@[simp] theorem State.fullNowStart_tagsHeld {i} : (s.fullNowStart i).tagsHeld ↔ s.tagsHeld := by simp [State.fullNowStart]

@[simp] theorem State.gatewayStart_tagsHeld {i} : (s.gatewayStart i).tagsHeld ↔ s.tagsHeld := by
  unfold State.gatewayStart
  dsimp only
  split <;> simp

@[simp] theorem State.typeStart_tagsHeld {i} : (s.typeStart i).tagsHeld ↔ s.tagsHeld := by simp [State.typeStart]

@[simp] theorem State.snapshot_tagsHeld {c addr l} (hs : s.tagsHeld) : (s.snapshot c addr l).2.2.tagsHeld := by
  induction l generalizing s with
  | nil => exact hs
  | cons e l ih =>
    unfold State.snapshot
    extract_lets +onlyGivenNames r
    have hr : r.2.2.tagsHeld := by simp [hs, r]
    split
    · exact hr
    · exact ih hr

@[simp] theorem State.stepRead_tagsHeld {i} (hs : s.tagsHeld) : (s.stepRead i).tagsHeld := by simp [hs, State.stepRead]
@[simp] theorem State.stepRestore_tagsHeld {i} : (s.stepRestore i).tagsHeld ↔ s.tagsHeld := by simp [State.stepRestore]
@[simp] theorem State.clearErase_tagsHeld {i failed} : (s.clearErase i failed).tagsHeld ↔ s.tagsHeld := by simp [State.clearErase]
@[simp] theorem State.clearCopy_tagsHeld {i} : (s.clearCopy i).tagsHeld ↔ s.tagsHeld := by simp [State.clearCopy]
@[simp] theorem State.stepJournalOp_tagsHeld {i failed} : (s.stepJournalOp i failed).tagsHeld ↔ s.tagsHeld := by simp [State.stepJournalOp]
@[simp] theorem State.handOver_tagsHeld {i im} : (s.handOver i im).tagsHeld ↔ s.tagsHeld := by simp [State.handOver]

@[simp] theorem execFanEffortWindow_tagsHeld {effort stable} : (stateOf s (execFanEffortWindow effort stable s)).tagsHeld ↔ s.tagsHeld := by
  unfold execFanEffortWindow
  split <;> simp

/-! ### Mount -/

@[simp] theorem State.restoreLedger_tagsHeld {l} : (s.restoreLedger l).tagsHeld ↔ s.tagsHeld := by simp [State.restoreLedger]

@[simp] theorem State.takeValue_tagsHeld {p : Items × State} {e} (hs : p.2.tagsHeld) : (State.takeValue p e).2.tagsHeld := by
  unfold State.takeValue
  (repeat' split) <;> simp [hs]

@[simp] theorem State.takeValues_tagsHeld {l} (hs : s.tagsHeld) : (s.takeValues l).tagsHeld :=
  foldl_snd_held hs fun _ _ hp => State.takeValue_tagsHeld hp

@[simp] theorem State.w8Defaults_tagsHeld : s.w8Defaults.tagsHeld ↔ s.tagsHeld := by simp [State.w8Defaults]
@[simp] theorem State.formatFails_tagsHeld {k cause} : (s.formatFails k cause).tagsHeld ↔ s.tagsHeld := by simp [State.formatFails]
@[simp] theorem State.formatBolt_tagsHeld {k} : (s.formatBolt k).tagsHeld ↔ s.tagsHeld := by simp [State.formatBolt]
@[simp] theorem State.format_tagsHeld {failA failB} : (s.format failA failB).tagsHeld ↔ s.tagsHeld := by simp [State.format]

@[simp] theorem State.mountApply_tagsHeld {l} (hs : s.tagsHeld) : (s.mountApply l).tagsHeld := by
  unfold State.mountApply
  dsimp only
  refine (each_tagsHeld fun u r => ?_).2 <| (each_tagsHeld fun u r => ?_).2 <| by simp [hs]
  all_goals split <;> simp

@[simp] theorem State.mountWaits_tagsHeld {seq} : (s.mountWaits seq).tagsHeld ↔ s.tagsHeld := by simp [State.mountWaits]
@[simp] theorem State.mountCommit_tagsHeld {seq} : (s.mountCommit seq).tagsHeld ↔ s.tagsHeld := by simp [State.mountCommit]
@[simp] theorem State.mountTorn_tagsHeld {seq} : (s.mountTorn seq).tagsHeld ↔ s.tagsHeld := by simp [State.mountTorn]
@[simp] theorem State.mountWrite_tagsHeld {fails} (hs : s.tagsHeld) : (s.mountWrite fails).tagsHeld := by simp [hs, State.mountWrite]
@[simp] theorem State.findBolts_tagsHeld : s.findBolts.tagsHeld ↔ s.tagsHeld := Iff.rfl

@[simp] theorem execJournalMount_tagsHeld {failA failB mountFails} (hs : s.tagsHeld) :
    (stateOf s (execJournalMount failA failB mountFails s)).tagsHeld := by
  unfold execJournalMount
  dsimp only
  (repeat' split) <;> simp [hs]

/-! ### Wake -/

@[simp] theorem State.firmwareFrom_tagsHeld {im src} : (s.firmwareFrom im src).tagsHeld ↔ s.tagsHeld := by
  unfold State.firmwareFrom
  split <;> simp

@[simp] theorem execWeaverFirmwareVerify_tagsHeld (hs : s.tagsHeld) : (stateOf s (execWeaverFirmwareVerify s)).tagsHeld := by
  unfold execWeaverFirmwareVerify
  (repeat' split) <;> simp [hs]

@[simp] theorem State.loadSet_tagsHeld (hs : s.tagsHeld) : (s.loadSet).tagsHeld := by
  refine each_held hs fun u k hu => ?_
  split <;> simp [hu]

@[simp] theorem State.wakeRecord_tagsHeld : s.wakeRecord.tagsHeld ↔ s.tagsHeld := Iff.rfl
@[simp] theorem State.enterRun_tagsHeld : s.enterRun.tagsHeld ↔ s.tagsHeld := by simp [State.enterRun]
@[simp] theorem State.enterLimp_tagsHeld : s.enterLimp.tagsHeld ↔ s.tagsHeld := Iff.rfl

/-! ### Grilor -/

@[simp] theorem State.glRecv_tagsHeld {h f} (hf : ∀ u, (f u).tagsHeld ↔ u.tagsHeld) : (s.glRecv h f).tagsHeld ↔ s.tagsHeld := by
  simp [State.glRecv, hf]

theorem State.glRecv_held {h f} (hs : s.tagsHeld) (hf : ∀ u, u.tagsHeld → (f u).tagsHeld) : (s.glRecv h f).tagsHeld := by
  simp [State.glRecv, hs, hf]

@[simp] theorem State.glForward_tagsHeld {i f} : (s.glForward i f).tagsHeld ↔ s.tagsHeld := by
  unfold State.glForward
  (repeat' split) <;> simp

@[simp] theorem State.glDeliver_tagsHeld {h b f} (hf : ∀ u, (f u).tagsHeld ↔ u.tagsHeld) : (s.glDeliver h b f).tagsHeld ↔ s.tagsHeld := by
  simp [State.glDeliver, hf]

theorem State.glDeliver_held {h b f} (hs : s.tagsHeld) (hf : ∀ u, u.tagsHeld → (f u).tagsHeld) : (s.glDeliver h b f).tagsHeld := by
  simp [State.glDeliver, hs, hf]

@[simp] theorem State.mirrorTo_tagsHeld {m} : (s.mirrorTo m).tagsHeld ↔ s.tagsHeld := Iff.rfl

@[simp] theorem State.releaseHeld_tagsHeld (hs : s.tagsHeld) : s.releaseHeld.tagsHeld :=
  each_held hs fun _ _ hu => State.recordEffect_tagsHeld hu

@[simp] theorem State.mirrorLost_tagsHeld (hs : s.tagsHeld) : s.mirrorLost.tagsHeld := by simp [hs, State.mirrorLost]
@[simp] theorem State.mirrorStart_tagsHeld (hs : s.tagsHeld) : s.mirrorStart.tagsHeld := by simp [hs, State.mirrorStart]
@[simp] theorem State.claim_tagsHeld {sync} (hs : s.tagsHeld) : (s.claim sync).tagsHeld := by simp [hs, State.claim]
@[simp] theorem State.standBy_tagsHeld {m} : (s.standBy m).tagsHeld ↔ s.tagsHeld := Iff.rfl

@[simp] theorem State.twinInit_tagsHeld (hs : s.tagsHeld) : s.twinInit.tagsHeld := by
  unfold State.twinInit
  split <;> simp [hs]

@[simp] theorem State.takeTickets_tagsHeld : s.takeTickets.2.tagsHeld ↔ s.tagsHeld := by simp [State.takeTickets]
@[simp] theorem State.takeover_tagsHeld (hs : s.tagsHeld) : s.takeover.tagsHeld := by simp [hs, State.takeover]
@[simp] theorem State.bootAsk_tagsHeld {i} : (s.bootAsk i).tagsHeld ↔ s.tagsHeld := by simp [State.bootAsk]
@[simp] theorem State.mirrorUp_tagsHeld {i} (hs : s.tagsHeld) : (s.mirrorUp i).tagsHeld := by simp [hs, State.mirrorUp]

@[simp] theorem execKeepaliveTimeout_tagsHeld {k} : (stateOf s (execKeepaliveTimeout k s)).tagsHeld ↔ s.tagsHeld := by
  unfold execKeepaliveTimeout
  split <;> simp

@[simp] theorem execDelayResp_tagsHeld {h turnaround} : (stateOf s (execDelayResp h turnaround s)).tagsHeld ↔ s.tagsHeld := by
  unfold execDelayResp
  rw [stateOf_next]
  refine State.glRecv_tagsHeld fun u => ?_
  dsimp only
  split <;> simp

@[simp] theorem State.syncServo_tagsHeld {t} : (s.syncServo t).tagsHeld ↔ s.tagsHeld := by simp [State.syncServo]

@[simp] theorem State.enumWorker_tagsHeld {i walk pos assigned f} : (s.enumWorker i walk pos assigned f).tagsHeld ↔ s.tagsHeld := by
  unfold State.enumWorker
  split <;> simp

@[simp] theorem State.gwServe_tagsHeld {i key op tag val} (hs : s.tagsHeld) : (s.gwServe i key op tag val).tagsHeld := by
  unfold State.gwServe
  dsimp only
  (repeat' split) <;> simp [hs]

@[simp] theorem execGlData_tagsHeld {h m} (hs : s.tagsHeld) : (stateOf s (execGlData h m s)).tagsHeld := by
  unfold execGlData
  split
  · exact State.glRecv_held hs fun _ hu => State.glDeliver_held hu fun _ hv => by simp [hv]
  · simp [hs]

@[simp] theorem execGatewayTimeout_tagsHeld : (stateOf s (execGatewayTimeout s)).tagsHeld ↔ s.tagsHeld := by
  unfold execGatewayTimeout
  split <;> simp

@[simp] theorem execGlBoot_tagsHeld {h m} : (stateOf s (execGlBoot h m s)).tagsHeld ↔ s.tagsHeld := by
  unfold execGlBoot
  rw [stateOf_next]
  refine State.glRecv_tagsHeld fun u => State.glDeliver_tagsHeld fun u => ?_
  split <;> simp

@[simp] theorem execGlHeartbeat_tagsHeld {h side st mirror seq sec ns ang} (hs : s.tagsHeld) :
    (stateOf s (execGlHeartbeat h side st mirror seq sec ns ang s)).tagsHeld := by
  unfold execGlHeartbeat
  split
  · exact hs
  rw [stateOf_next]
  refine State.glRecv_held hs fun u hu => ?_
  extract_lets s1 _ s2
  have h2 : s2.tagsHeld := by simp [hu, s2, s1]
  clear_value s2
  simp [h2]

@[simp] theorem execGlHandover_tagsHeld {h} (hs : s.tagsHeld) : (stateOf s (execGlHandover h s)).tagsHeld := by
  rw [execGlHandover, stateOf_next, ite_tagsHeld]
  split
  · exact hs
  · exact State.glRecv_held hs fun u hu => by simp [hu]

@[simp] theorem State.mirrorIn_tagsHeld {b} : (s.mirrorIn b).tagsHeld ↔ s.tagsHeld := by
  unfold State.mirrorIn
  (repeat' split) <;> simp

@[simp] theorem execGlMirror_tagsHeld {h m} (hs : s.tagsHeld) : (stateOf s (execGlMirror h m s)).tagsHeld := by
  rw [execGlMirror, stateOf_next, ite_tagsHeld]
  split
  · exact hs
  refine State.glRecv_held hs fun u hu => ?_
  (repeat' split) <;> simp [hu]

@[simp] theorem execGlMirrorAck_tagsHeld {h} (hs : s.tagsHeld) : (stateOf s (execGlMirrorAck h s)).tagsHeld := by
  unfold execGlMirrorAck
  rw [stateOf_next, ite_tagsHeld]
  split
  · exact hs
  refine State.glRecv_held hs fun u hu => ?_
  split <;> simp [hu]

@[simp] theorem State.mirrorAdopt_tagsHeld (hs : s.tagsHeld) : s.mirrorAdopt.tagsHeld := by simp [hs, State.mirrorAdopt]

/-! ### HostPort -/

@[simp] theorem State.statusReply_tagsHeld {c status rdata} : (s.statusReply c status rdata).tagsHeld ↔ s.tagsHeld := by
  simp [State.statusReply]

@[simp] theorem State.ticketCommand_tagsHeld {c f} (h : ∀ u, (f u).2.2.tagsHeld ↔ u.tagsHeld) : (s.ticketCommand c f).tagsHeld ↔ s.tagsHeld := by
  simp [State.ticketCommand, h]

theorem State.ticketCommand_held {c f} (hs : s.tagsHeld) (h : ∀ u, u.tagsHeld → (f u).2.2.tagsHeld) : (s.ticketCommand c f).tagsHeld := by
  simp [State.ticketCommand, hs, h]

@[simp] theorem execAbort_tagsHeld {c h} (hs : s.tagsHeld) : (stateOf s (execAbort c h s)).tagsHeld := by
  rw [execAbort, stateOf_next]
  exact State.ticketCommand_held hs fun _ hu => by simp [hu]

@[simp] theorem execResultData_tagsHeld {c h} : (stateOf s (execResultData c h s)).tagsHeld ↔ s.tagsHeld := by
  unfold execResultData
  rw [stateOf_next]
  refine State.ticketCommand_tagsHeld fun u => ?_
  dsimp only
  split <;> simp

@[simp] theorem execTicketState_tagsHeld {c h} : (stateOf s (execTicketState c h s)).tagsHeld ↔ s.tagsHeld := by
  unfold execTicketState
  rw [stateOf_next]
  refine State.ticketCommand_tagsHeld fun u => ?_
  split <;> rfl

@[simp] theorem State.hostCommand_tagsHeld {f} (h : ∀ u, (f u).tagsHeld ↔ u.tagsHeld) : (s.hostCommand f).tagsHeld ↔ s.tagsHeld := by
  simp [State.hostCommand, h]

@[simp] theorem State.domainStage_tagsHeld {total first} : (s.domainStage total first).tagsHeld ↔ s.tagsHeld := by simp [State.domainStage]

@[simp] theorem State.domainCommand_tagsHeld {f} (h : ∀ u, (f u).tagsHeld ↔ u.tagsHeld) : (s.domainCommand f).tagsHeld ↔ s.tagsHeld := by
  simp [State.domainCommand, h]

theorem State.domainCommand_held {f} (hs : s.tagsHeld) (h : ∀ u, u.tagsHeld → (f u).tagsHeld) : (s.domainCommand f).tagsHeld := by
  simp [State.domainCommand, State.hostCommand, hs, h]

@[simp] theorem execDomainPut_tagsHeld {h k b} (hs : s.tagsHeld) : (stateOf s (execDomainPut h k b s)).tagsHeld := by
  unfold execDomainPut
  rw [stateOf_next]
  refine State.domainCommand_held hs fun u hu => ?_
  split <;> simp [hu]

@[simp] theorem execDomainGet_tagsHeld {h _k} : (stateOf s (execDomainGet h _k s)).tagsHeld ↔ s.tagsHeld := by
  unfold execDomainGet
  rw [stateOf_next]
  refine State.domainCommand_tagsHeld fun u => ?_
  split <;> simp

@[simp] theorem execUnknownCommand_tagsHeld {req crc} : (stateOf s (execUnknownCommand req crc s)).tagsHeld ↔ s.tagsHeld := by
  unfold execUnknownCommand
  dsimp only
  (repeat' split) <;> simp

/-! ### OdNet -/

@[simp] theorem State.netWrite_tagsHeld {k c l} (hs : s.tagsHeld) : (s.netWrite k c l).tagsHeld := by simp [hs, State.netWrite]
@[simp] theorem State.netRefuse_tagsHeld {c code ticket} : (s.netRefuse c code ticket).tagsHeld ↔ s.tagsHeld := by simp [State.netRefuse]

@[simp] theorem State.netRead_tagsHeld {k c key} (hs : s.tagsHeld) : (s.netRead k c key).tagsHeld := by
  unfold State.netRead
  dsimp only
  (repeat' split) <;> simp [hs]

@[simp] theorem State.netReads_tagsHeld {k c keys} : (s.netReads k c keys).tagsHeld ↔ s.tagsHeld := by simp [State.netReads]

@[simp] theorem execNetworkRequest_tagsHeld {k c r} (hs : s.tagsHeld) : (stateOf s (execNetworkRequest k c r s)).tagsHeld := by
  unfold execNetworkRequest
  (repeat' split) <;> simp [hs]

/-! ### Wiring -/

@[simp] theorem State.rsShow_tagsHeld {n c} : (s.rsShow n c).tagsHeld ↔ s.tagsHeld := by simp [State.rsShow]

/-! ### The dispatcher -/

theorem State.stepFuse_tagsHeld {i failed} : (s.stepFuse i failed).tagsHeld ↔ s.tagsHeld := by
  simp [State.stepFuse]

theorem State.typeStep_tagsHeld {i f} (hs : s.tagsHeld) : (s.typeStep i f).tagsHeld :=
  held_ite (held_ite hs (writeDone_tagsHeld hs)) <|
  held_ite (stepRead_tagsHeld hs) <|
  held_ite (handOver_tagsHeld.2 hs) <|
  held_ite (stepJournalOp_tagsHeld.2 hs) <|
  held_ite (stepRestore_tagsHeld.2 hs) <|
  held_ite (stepFuse_tagsHeld.2 hs) <|
  held_ite (stepImage_tagsHeld hs) <|
  held_ite (stepLarge_tagsHeld.2 hs) hs

@[simp] theorem execTicketStepComplete_tagsHeld {i f} (hs : s.tagsHeld) : (stateOf s (execTicketStepComplete i f s)).tagsHeld := by
  simp [execTicketStepComplete, hs, State.typeStep_tagsHeld]

@[simp] theorem State.idle_tagsHeld : s.idle.tagsHeld ↔ s.tagsHeld := by
  have h : (State.tagsHeld { s with cycle := s.cycle + 1 }) ↔ s.tagsHeld := Iff.rfl
  unfold State.idle
  simp

/-- Each command's arm of the dispatcher is one of the functions above. -/
theorem exec_tagsHeld {c : Instr} (hs : s.tagsHeld) : (stateOf s (exec c s)).tagsHeld := by
  cases c
  all_goals simp [exec, hs,
    execCanBusIdle, execCanRecoveryComplete, execCanFrameReceived, execCanReceiveError, execNewdatClear, execTtCycleStart,
    execTtColumnMark, execRefLost, execTxdTimeout, execBusFault, execTdxStateWrite, execTdxRateWrite, execTdxHeartbeat, execTdxStep,
    execTdxSet, execServoTimeout, execDeviceTimeAligned, execSnap, execTpoDeassert, execTpiCapture, execTpiPop, execTpiRecordRead,
    execRailSwitchover, execRailSwitchBack, execBackupDomainLost, execVbatMeasurement, execOscFail, execOscResume, execCntloRead,
    execRtcSet, execRtcSetEdge, execSummerOn, execSummerOff, execTrimWrite, execTrimCorrection, execRtcSync, execAlarmDisarm,
    execAlarmArm, execAlarmFire, execPeriodWrite, execPeriodicFire, execCounterWrap, execSampleFrame, execLaneFailure,
    execRetrainAttempt, execRetrainAttemptEnd, execFanSpeedLoop, execFallback, execFanDemandChange, execFanLock,
    execFanStartTimeout, execFanStall, execFanRestartWaitEnd, execFanShort, execFanShortResume, execFanOpenPhase,
    execFanAttemptReset, execFanUnderspeed, execFanClear, execAgeingUpdate, execTemperatureUpdate, execGuardAssert,
    execGuardConditionReturn, execGuardCooling, execGuardAck, execGuardReleaseTimer, execPortCellExhausted, execTimeGateEntryChange,
    execAngleGateEntryChange, execFdbAgeing, execBobbinRecord, execScrubStep, execStartupCarding, execHeddleNop, execSample,
    execDrive, execAwait, execCount, execShift, execEmit, execTake, execBranch, execMatch, execTimeout, execSignal,
    execAwaitConditionMet, execHeddleTExpiry, execHeddleTimeCompare, execDaliCurrentLimit, execGroupStart, execGroupStop,
    execGroupPark, execGroupClear, execStartConditionsMet, execPrecheckDone, execSoftstartDone, execGroupRetry, execRampdownDone,
    execPwmSyncEvent, execPhaseRotation, execSeqPwmTrigger, execSeqTimeTrigger, execAdcOffsetCalibration, execPcpWake,
    execWindowMiss, execAcquireTimeout, execInputPresenceUpdate, execAevArm, execAevFire, execXtspop, execUartTransmitStart,
    execUartCharacterSent, execUartDeRelease, execUartCharacterReceived, execUartIdle, execImageRestart, execLockstepMismatch,
    execRefclkLost, execRefclkOutOfRange, execPllUnlock, execVbatPresent, execMainFeedPresent, execMainFeedLost,
    execCompanionRegulatorsInRegulation, execPgCoreHigh, execRefclkInRange, execPll0Lock, execStrapSampleRound, execWakeStepTimeout,
    execWakeAttemptRestart, execRefclkBack, execResetNLow, execResetNRelease, execVhvFail, execPgCoreWarning, execShutdownPowerOff,
    execShutdownRestart, execShutdownStepComplete, execRampCapExpired, execS4BoundReached, execVhvReturned, execMacFrameEnd,
    execFrameTooLong, execPauseExpiry, execLinkUp, execLinkDown, execMacModeWrite, execPhyControlWord, execAutoDiag,
    execT1lDiagComplete, execRegisterWrite, execRcRegisterRead, execOdRead, execOdWrite, execMultiRead, execMultiWrite,
    execExpertUnlock, execExpertUnlockExpiry, execExpertRelock, execExpertWindowData, execConfigLock, execRestoreDefaults, execLoad,
    execUnload, execStore, execTable, execFuseProgram, execFullNow, execVerify, execClearFailing, execCardingRun, execLargeSend,
    execFanBaselineRun, execGateway, execSessionClose, execJournalRecordCommit, execStagingRoomFreed, execFullingPageProgram,
    execFullingErase, execTicketExecutorStart, execOrphanAutoRetire, execImageSetLoad, execBlockLock, execGrilorLinkUp,
    execGrilorLinkDown, execGlAck, execGlNak, execReplayTimeout, execGlKeepalive, execKeepaliveSend, execDelayMeasurement,
    execDelayReq, execSyncSend, execGlSync, execGlCross, execGlEnum, execGlEnumResp, execEnumerate, execEnumRespTimeout,
    execRosterReset, execHeartbeatSend, execHeartbeatMiss, execHandoverCommand, execTwinOwnChange, execTwinInitTimeout,
    execMirrorAckTimeout, execMirrorSyncDone, execRetire, execResultRead, execResultConsume, execStatus, execIntRead, execIntEnable,
    execResend, execDomainOpen, execHostRequestDiscarded, execHostAccessTimeout, execRs485LineMeasurement]

end

/-- Settles O60: registers are written by the Eurnafa instructions, through `State.setG`, which turns tag 0xE into BITS, and by the
reset of threads, which loads NIL and PTR; the frame of the registers over every other function of the model does the rest. -/
theorem noRegisterHoldsReservedTag : Obligations.NoRegisterHoldsReservedTag := by
  intro s t hs hstep
  unfold step at hstep
  split at hstep
  next =>
    obtain rfl := Host.Outcome.next.inj hstep
    exact State.idle_tagsHeld.2 hs
  next c rest _ =>
    have h := exec_tagsHeld (s := { s with pending := rest }) (c := c) hs
    rwa [hstep] at h

end Sys2Proof.Machine

/-! ## Scope: the operations, the waits and the registers of the Heddles, and the UARTs -/

namespace Sys2Proof.Machine

/-! ### Fields of a repeated register -/

/-- Two fields of registers that repeat alike lie apart in every copy of them when they lie apart in the first. -/
theorem Field.key_at_ne {f g : Field} (n : Nat) (hs : g.s1 = f.s1) (h : g.key ≠ f.key) : (g.at n).key ≠ (f.at n).key := by
  simp only [Field.key, Field.at, hs] at h ⊢
  omega

/-- A write of one field of copy `n` leaves the other fields of that copy. -/
theorem State.rd_wr_at (s : State) (f g : Field) (n v : Nat) (hs : g.s1 = f.s1) (h : g.key ≠ f.key) :
    (s.wr (f.at n) v).rd (g.at n) = s.rd (g.at n) := s.rd_wr_ne _ _ v (Field.key_at_ne n hs h)

/-- A field of copy `n` reads as before where only other fields of that copy change. -/
theorem KeepsBut.rd_at {n : Nat} {fs : List Field} {p : List Part} {s t : State} (h : KeepsBut (fs.map (·.at n)) p s t) (g : Field)
    (hg : ∀ f ∈ fs, g.s1 = f.s1 ∧ g.key ≠ f.key) : t.rd (g.at n) = s.rd (g.at n) := by
  refine (h.1 (g.at n)).resolve_left fun hm => ?_
  simp only [List.map_map, List.mem_map, Function.comp_apply] at hm
  obtain ⟨f, hf, hk⟩ := hm
  exact Field.key_at_ne n (hg f hf).1 (hg f hf).2 hk.symm

/-! ### Reading a Heddle back -/

@[simp] theorem State.hd_setHd (s : State) (n : Nat) (h : Heddle) : (s.setHd n h).hd n = h := by simp [State.hd, State.setHd]

theorem State.hd_setHd_ne (s : State) {n m : Nat} (h : Heddle) (hm : m ≠ n) : (s.setHd n h).hd m = s.hd m := by
  simp [State.hd, State.setHd, Store.get_set_ne _ _ _ _ hm]

@[simp] theorem State.rd_setHd (s : State) (n : Nat) (h : Heddle) (f : Field) : (s.setHd n h).rd f = s.rd f := rfl
@[simp] theorem State.hd_wr (s : State) (n : Nat) (f : Field) (v : Nat) : (s.wr f v).hd n = s.hd n := rfl
@[simp] theorem State.setHd_irq (s : State) (n : Nat) (h : Heddle) : (s.setHd n h).hed.irq = s.hed.irq := rfl
@[simp] theorem State.setHd_prog (s : State) (n : Nat) (h : Heddle) : (s.setHd n h).hed.prog = s.hed.prog := rfl
@[simp] theorem State.setHd_uart (s : State) (n : Nat) (h : Heddle) : (s.setHd n h).hed.uart = s.hed.uart := rfl

theorem State.hd_of_hed {s t : State} (h : t.hed = s.hed) (n : Nat) : t.hd n = s.hd n := by simp [State.hd, h]

/-- A wake leaves the Heddles and the UARTs. -/
@[simp] theorem State.wakeShuttle_hed (s : State) (i : Nat) : (s.wakeShuttle i).hed = s.hed :=
  (s.wake_keeps (2 + i) .hed).resolve_left (by simp)

@[simp] theorem State.wakeShuttle_rd (s : State) (i : Nat) (f : Field) : (s.wakeShuttle i).rd f = s.rd f :=
  congrArg (fun r : Store Nat => r.get f.reset f.key) ((s.wake_keeps (2 + i) .regs).resolve_left (by simp))

/-! ### What happens to one Heddle -/

/-- Only Heddle `n` changes among the Heddles, their programs and the UARTs; of the register fields only those of its own that are
listed, and beside them only the parts listed. -/
def OnHeddle (n : Nat) (fs : List Field) (p : List Part) (s t : State) : Prop :=
  t.hed.prog = s.hed.prog ∧ t.hed.uart = s.hed.uart ∧ (∀ m, m ≠ n → t.hd m = s.hd m) ∧
    KeepsBut (fs.map (·.at n)) (.hed :: p) s t

section
variable {n : Nat} {fs gs : List Field} {p q : List Part} {s t u : State}

theorem OnHeddle.refl (n : Nat) (fs : List Field) (p : List Part) (s : State) : OnHeddle n fs p s s :=
  ⟨rfl, rfl, fun _ _ => rfl, KeepsBut.refl _ _ s⟩

theorem OnHeddle.keeps (h : OnHeddle n fs p s t) : KeepsBut (fs.map (·.at n)) (.hed :: p) s t := h.2.2.2

theorem OnHeddle.trans (h : OnHeddle n fs p s t) (k : OnHeddle n fs p t u) : OnHeddle n fs p s u := by
  obtain ⟨hprog, huart, hother, hkeep⟩ := h
  obtain ⟨kprog, kuart, kother, kkeep⟩ := k
  exact ⟨kprog.trans hprog, kuart.trans huart, fun m hm => (kother m hm).trans (hother m hm), hkeep.trans kkeep⟩

theorem OnHeddle.mono (h : OnHeddle n fs p s t) (hf : fs ⊆ gs) (hp : p ⊆ q) : OnHeddle n gs q s t := by
  obtain ⟨hprog, huart, hother, hkeep⟩ := h
  exact ⟨hprog, huart, hother, hkeep.mono (fun _ hm => List.map_subset _ hf hm) (fun _ hm => List.cons_subset_cons _ hp hm)⟩

theorem OnHeddle.wr (h : OnHeddle n fs p s t) (f : Field) (v : Nat) (hf : f ∈ fs) : OnHeddle n fs p s (t.wr (f.at n) v) := by
  obtain ⟨hprog, huart, hother, hkeep⟩ := h
  exact ⟨hprog, huart, hother, hkeep.wr _ v (List.mem_map_of_mem hf)⟩

theorem OnHeddle.part {l : List Part} (h : OnHeddle n fs p s t) (k : Keeps l t u) (he : u.hed = t.hed) (hl : l ⊆ p)
    (hr : Part.regs ∉ l) : OnHeddle n fs p s u := by
  obtain ⟨hprog, huart, hother, hkeep⟩ := h
  refine ⟨by rw [he, hprog], by rw [he, huart], fun m hm => (State.hd_of_hed he m).trans (hother m hm), hkeep.trans ?_⟩
  exact ((KeepsBut.refl [] l t).part k hr).mono (by simp) fun _ hp => List.mem_cons_of_mem _ (hl hp)

theorem OnHeddle.setHd (h : OnHeddle n fs p s t) (hd : Heddle) : OnHeddle n fs p s (t.setHd n hd) := by
  obtain ⟨hprog, huart, hother, hkeep⟩ := h
  refine ⟨hprog, huart, fun m hm => (t.hd_setHd_ne hd hm).trans (hother m hm), hkeep.trans ?_⟩
  exact ((KeepsBut.refl [] [.hed] t).part (t.setHd_keeps n hd) (by simp)).mono (by simp) (by simp)

/-- A field of the Heddle that is not listed reads as before. -/
theorem OnHeddle.rd (h : OnHeddle n fs p s t) (g : Field) (hg : ∀ f ∈ fs, g.s1 = f.s1 ∧ g.key ≠ f.key) :
    t.rd (g.at n) = s.rd (g.at n) := h.keeps.rd_at g hg

theorem OnHeddle.ite {c : Prop} [Decidable c] (ht : OnHeddle n fs p s t) (hu : OnHeddle n fs p s u) :
    OnHeddle n fs p s (if c then t else u) := by
  split
  · exact ht
  · exact hu

end

/-! ### What the shared operations leave of a Heddle -/

section
variable {n : Nat} {fs : List Field} {p : List Part} {s t : State}

@[simp] theorem State.hdWake_hed (s : State) (n : Nat) : (s.hdWake n).hed = s.hed := by
  unfold State.hdWake
  split <;> simp

@[simp] theorem State.hdWake_rd (s : State) (n : Nat) (f : Field) : (s.hdWake n).rd f = s.rd f := by
  unfold State.hdWake
  split <;> simp

@[simp] theorem State.hdWake_hd (s : State) (n m : Nat) : (s.hdWake n).hd m = s.hd m := State.hd_of_hed (s.hdWake_hed n) m

theorem State.hdWake_keeps (s : State) (n : Nat) : Keeps [.threads] s (s.hdWake n) := by
  unfold State.hdWake
  split
  · exact s.wake_keeps _
  · exact Keeps.refl _ s

theorem OnHeddle.hdWake (h : OnHeddle n fs p s t) (hp : Part.threads ∈ p) : OnHeddle n fs p s (t.hdWake n) :=
  h.part (t.hdWake_keeps n) (t.hdWake_hed n) (by simpa using hp) (by simp)

/-- Putting the transmit queue changes the queue and TXFILL, and may wake the bound thread. -/
theorem OnHeddle.hdSetTx (h : OnHeddle n fs p s t) (q : List Nat) (hf : Reg.HEDDLE_STAT_TXFILL ∈ fs) (hp : Part.threads ∈ p) :
    OnHeddle n fs p s (t.hdSetTx n q) :=
  .ite (((h.setHd _).wr _ _ hf).hdWake hp) ((h.setHd _).wr _ _ hf)

theorem OnHeddle.hdSetRx (h : OnHeddle n fs p s t) (q : List Nat) (hf : Reg.HEDDLE_STAT_RXFILL ∈ fs) (hp : Part.threads ∈ p) :
    OnHeddle n fs p s (t.hdSetRx n q) :=
  .ite (((h.setHd _).wr _ _ hf).hdWake hp) ((h.setHd _).wr _ _ hf)

@[simp] theorem State.hdSetTx_hd (s : State) (n : Nat) (q : List Nat) : (s.hdSetTx n q).hd n = { s.hd n with txq := q } := by
  unfold State.hdSetTx
  dsimp only
  split <;> simp

@[simp] theorem State.hdSetRx_hd (s : State) (n : Nat) (q : List Nat) : (s.hdSetRx n q).hd n = { s.hd n with rxq := q } := by
  unfold State.hdSetRx
  dsimp only
  split <;> simp

@[simp] theorem State.hdSetTx_irq (s : State) (n : Nat) (q : List Nat) : (s.hdSetTx n q).hed.irq = s.hed.irq := by
  unfold State.hdSetTx
  dsimp only
  split <;> simp

@[simp] theorem State.hdSetRx_irq (s : State) (n : Nat) (q : List Nat) : (s.hdSetRx n q).hed.irq = s.hed.irq := by
  unfold State.hdSetRx
  dsimp only
  split <;> simp

theorem State.hdSetTx_rd (s : State) (n : Nat) (q : List Nat) (f : Field) :
    (s.hdSetTx n q).rd f = (s.wr (Reg.HEDDLE_STAT_TXFILL.at n) q.length).rd f := by
  unfold State.hdSetTx
  dsimp only
  split
  · exact State.hdWake_rd _ _ _
  · rfl

theorem State.hdSetRx_rd (s : State) (n : Nat) (q : List Nat) (f : Field) :
    (s.hdSetRx n q).rd f = (s.wr (Reg.HEDDLE_STAT_RXFILL.at n) q.length).rd f := by
  unfold State.hdSetRx
  dsimp only
  split
  · exact State.hdWake_rd _ _ _
  · rfl

@[simp] theorem State.hdSetTx_fill (s : State) (n : Nat) (q : List Nat) :
    (s.hdSetTx n q).rd (Reg.HEDDLE_STAT_TXFILL.at n) = q.length % 16 := by
  rw [State.hdSetTx_rd, State.rd_wr_same]
  rfl

@[simp] theorem State.hdSetRx_fill (s : State) (n : Nat) (q : List Nat) :
    (s.hdSetRx n q).rd (Reg.HEDDLE_STAT_RXFILL.at n) = q.length % 16 := by
  rw [State.hdSetRx_rd, State.rd_wr_same]
  rfl

/-! ### T, FLAG and the pinset (R613, R620) -/

/-- FLAG after `k` cycles of T, which sets it where it reaches 0. -/
def State.flagAfter (s : State) (n k : Nat) : Nat :=
  if 0 < (s.hd n).t ∧ (s.hd n).t ≤ k then 1 else s.rd (Reg.HEDDLE_STAT_FLAG.at n)

@[simp] theorem State.hdCount_hd (s : State) (n k : Nat) : (s.hdCount n k).hd n = { s.hd n with t := (s.hd n).t - k } := by
  unfold State.hdCount
  dsimp only
  split
  case isTrue h => rw [h, Nat.zero_sub, ← h]
  split
  case isTrue h => simp [Nat.sub_eq_zero_of_le h]
  case isFalse h => simp

@[simp] theorem State.hdCount_flag (s : State) (n k : Nat) : (s.hdCount n k).rd (Reg.HEDDLE_STAT_FLAG.at n) = s.flagAfter n k := by
  unfold State.hdCount State.flagAfter
  dsimp only
  split
  case isTrue h => simp [h]
  case isFalse h =>
    have hpos : 0 < (s.hd n).t := by omega
    split
    case isTrue hle =>
      rw [if_pos ⟨hpos, hle⟩, State.rd_wr_same]
      rfl
    case isFalse hle => rw [if_neg (by omega), State.rd_setHd]

@[simp] theorem State.hdCount_irq (s : State) (n k : Nat) : (s.hdCount n k).hed.irq = s.hed.irq := by
  unfold State.hdCount
  dsimp only
  split
  · rfl
  · split <;> rfl

theorem OnHeddle.hdCount (h : OnHeddle n fs p s t) (k : Nat) (hf : Reg.HEDDLE_STAT_FLAG ∈ fs) :
    OnHeddle n fs p s (t.hdCount n k) := .ite h (.ite ((h.setHd _).wr _ 1 hf) (h.setHd _))

@[simp] theorem State.hdPinset_hd (s : State) (n w : Nat) : (s.hdPinset n w).hd n =
    { s.hd n with lev := if bitOf w 19 then (s.hd n).lev % 16 + 16 * fieldOf w 15 4 else (s.hd n).lev } := by
  unfold State.hdPinset
  split <;> simp

@[simp] theorem State.hdPinset_rd (s : State) (n w : Nat) (f : Field) : (s.hdPinset n w).rd f = s.rd f := by
  unfold State.hdPinset
  split <;> simp

@[simp] theorem State.hdPinset_irq (s : State) (n w : Nat) : (s.hdPinset n w).hed.irq = s.hed.irq := by
  unfold State.hdPinset
  split <;> rfl

theorem OnHeddle.hdPinset (h : OnHeddle n fs p s t) (w : Nat) : OnHeddle n fs p s (t.hdPinset n w) := .ite (h.setHd _) h

theorem OnHeddle.hdFlag (h : OnHeddle n fs p s t) (b : Bool) (hf : Reg.HEDDLE_STAT_FLAG ∈ fs) : OnHeddle n fs p s (t.hdFlag n b) :=
  h.wr _ _ hf

@[simp] theorem State.hdFlag_flag (s : State) (n : Nat) (b : Bool) :
    (s.hdFlag n b).rd (Reg.HEDDLE_STAT_FLAG.at n) = b2n b := by
  cases b <;> exact State.rd_wr_same _ _ _

@[simp] theorem State.hdFlag_hed (s : State) (n : Nat) (b : Bool) : (s.hdFlag n b).hed = s.hed := rfl
@[simp] theorem State.hdFlag_hd (s : State) (n m : Nat) (b : Bool) : (s.hdFlag n b).hd m = s.hd m := rfl

end

/-! ### An instruction that moves on (R605, R613) -/

/-- The Heddle has counted HOLD and is in RUN at `next`. -/
def State.hdMoved (s : State) (n hold next : Nat) : State :=
  (((s.hdCount n hold).wr (Reg.HEDDLE_STAT_PC.at n) next).wr (Reg.HEDDLE_STAT_STATE.at n) 1).setHd n
    { (s.hdCount n hold).hd n with stalled := false }

theorem hdAdvance_eq (s : State) (n hold : Nat) (target : Option Nat) : s.hdAdvance n hold target =
    if s.rd (Reg.HEDDLE_REGION_LEN.at n) ≤ target.getD (s.hdNext n) then s.hdFault n 2
    else s.hdMoved n hold (target.getD (s.hdNext n)) := rfl

/-- The fields that moving on writes. -/
def hdMoveFields : List Field := [Reg.HEDDLE_STAT_STATE, Reg.HEDDLE_STAT_PC, Reg.HEDDLE_STAT_FLAG]

theorem hdMoved_onHeddle (s : State) (n hold next : Nat) : OnHeddle n hdMoveFields [] s (s.hdMoved n hold next) :=
  ((((OnHeddle.refl ..).hdCount hold (by simp [hdMoveFields])).wr _ _ (by simp [hdMoveFields])).wr _ 1
    (by simp [hdMoveFields])).setHd _

/-- A Heddle that moves on to a word of its region has counted HOLD and is in RUN there. -/
theorem hdAdvance_goesOn (s : State) (n hold : Nat) {target : Option Nat} {next : Nat} (hnext : target.getD (s.hdNext n) = next)
    (hlen : next < s.rd (Reg.HEDDLE_REGION_LEN.at n)) :
    HdGoesOn s (s.hdAdvance n hold target) n next { s.hd n with t := (s.hd n).t - hold, stalled := false } (s.flagAfter n hold) [] [] := by
  subst hnext
  rw [hdAdvance_eq, if_neg (Nat.not_le.2 hlen)]
  obtain ⟨hprog, huart, hother, hkeep⟩ := hdMoved_onHeddle s n hold (target.getD (s.hdNext n))
  refine ⟨?_, ?_, ?_, ?_, hprog, huart, fun m hm => hother m hm, hkeep⟩
  · exact State.rd_wr_same _ (Reg.HEDDLE_STAT_STATE.at n) 1
  · simp (disch := decide) only [State.hdMoved, State.rd_setHd, State.rd_wr_at, State.rd_wr_same]
    rfl
  · simp (disch := decide) only [State.hdMoved, State.rd_setHd, State.rd_wr_at, State.hdCount_flag]
  · simp [State.hdMoved]

/-- What an operation that ends with FLAG listed does before the Heddle moves on belongs to the whole instruction. -/
theorem HdGoesOn.after {n next flag : Nat} {fs : List Field} {p : List Part} {h : Heddle} {s t u : State}
    (hf : OnHeddle n (Reg.HEDDLE_STAT_FLAG :: fs) p s u) (hg : HdGoesOn u t n next h flag [] []) :
    HdGoesOn s t n next h flag (fs.map (·.at n)) p := by
  obtain ⟨hprog, huart, hother, hkeep⟩ := hf
  obtain ⟨gstate, gpc, gflag, ghd, gprog, guart, gother, gkeep⟩ := hg
  refine ⟨gstate, gpc, gflag, ghd, gprog.trans hprog, guart.trans huart, fun m hm => (gother m hm).trans (hother m hm), ?_⟩
  refine (hkeep.mono (fun f hm => ?_) fun _ h => h).trans (gkeep.mono (by simp) (by simp))
  rcases List.mem_cons.1 hm with rfl | hm
  · simp
  · exact List.mem_append_right _ hm

/-! ### The first cycle of an instruction (R612, R613) -/

/-- The state in which an operation of Heddle `n` runs: the pinset has taken effect and T has counted the cycle. -/
def State.hdStart (s : State) (n : Nat) : State := (s.hdPinset n (s.hdWord n)).hdCount n 1

section
variable {n op : Nat} {body : Nat → State → HdRes} {s u : State}

theorem hdStart_onHeddle (s : State) (n : Nat) : OnHeddle n [Reg.HEDDLE_STAT_FLAG] [] s (s.hdStart n) :=
  ((OnHeddle.refl ..).hdPinset _).hdCount 1 (by simp)

theorem hdStart_rd (s : State) (n : Nat) (f : Field) (hs : f.s1 = Reg.HEDDLE_STAT_FLAG.s1) (h : f.key ≠ Reg.HEDDLE_STAT_FLAG.key) :
    (s.hdStart n).rd (f.at n) = s.rd (f.at n) :=
  (hdStart_onHeddle s n).rd f (by simpa using ⟨hs, h⟩)

@[simp] theorem hdStart_hd (s : State) (n : Nat) : (s.hdStart n).hd n =
    { s.hd n with
      t := (s.hd n).t - 1,
      lev := if bitOf (s.hdWord n) 19 then (s.hd n).lev % 16 + 16 * fieldOf (s.hdWord n) 15 4 else (s.hd n).lev } := by
  simp [State.hdStart]

@[simp] theorem hdStart_flag (s : State) (n : Nat) : (s.hdStart n).rd (Reg.HEDDLE_STAT_FLAG.at n) = s.hdFlagFound n := by
  simp only [State.hdStart, State.hdCount_flag, State.flagAfter, State.hdPinset_hd, State.hdPinset_rd, State.hdFlagFound]
  congr 1
  exact propext (by omega)

@[simp] theorem hdStart_irq (s : State) (n : Nat) : (s.hdStart n).hed.irq = s.hed.irq := by simp [State.hdStart]

@[simp] theorem hdStart_hdTxSize (s : State) (n : Nat) : (s.hdStart n).hdTxSize n = s.hdTxSize n :=
  congrArg (2 * ·) (hdStart_rd s n Reg.HEDDLE_CTRL_SPLIT (by decide) (by decide))

@[simp] theorem hdStart_hdRxSize (s : State) (n : Nat) : (s.hdStart n).hdRxSize n = s.hdRxSize n := by
  simp [State.hdRxSize]

@[simp] theorem hdStart_hdCatchLen (s : State) (n : Nat) : (s.hdStart n).hdCatchLen n = s.hdCatchLen n := by
  simp (disch := decide) only [State.hdCatchLen, hdStart_rd]

/-- The level that a slot reads depends on the slot map and the die link alone. -/
theorem OnHeddle.slotReads {fs : List Field} {p : List Part} {s t : State} (h : OnHeddle n fs p s t)
    (hmap : ∀ g ∈ [Reg.HEDDLE_SLOTMAP0_V, Reg.HEDDLE_SLOTMAP1_V], ∀ f ∈ fs, g.s1 = f.s1 ∧ g.key ≠ f.key)
    (hlow : ∀ f ∈ fs, Reg.SYS_DLSTAT_DOWN.key + 1 ≤ f.key) {pins k : Nat} : t.slotReads n pins k = s.slotReads n pins k := by
  have hdown : t.rd Reg.SYS_DLSTAT_DOWN = s.rd Reg.SYS_DLSTAT_DOWN := by
    obtain ⟨-, -, -, hkeep⟩ := h
    refine (hkeep.1 _).resolve_left fun hm => ?_
    simp only [List.map_map, List.mem_map, Function.comp_apply] at hm
    obtain ⟨f, hf, hk⟩ := hm
    exact absurd hk (Nat.ne_of_gt (Field.le_key_at (hlow f hf) n))
  have hbyte : t.slotByte n k = s.slotByte n k := by
    simp only [State.slotByte, h.rd _ (hmap Reg.HEDDLE_SLOTMAP0_V (by simp)), h.rd _ (hmap Reg.HEDDLE_SLOTMAP1_V (by simp))]
  have hon : t.on Reg.SYS_DLSTAT_DOWN = s.on Reg.SYS_DLSTAT_DOWN := by simp only [State.on, hdown]
  simp only [State.slotReads, State.pinReads, hbyte, hon]

@[simp] theorem hdStart_slotReads (s : State) (n pins k : Nat) : (s.hdStart n).slotReads n pins k = s.slotReads n pins k :=
  (hdStart_onHeddle s n).slotReads (by decide) (by decide)

/-- The word at the PC is that of operation `op`: it runs on its argument in its first cycle. -/
theorem hdIssue_runs (hrun : s.hdRuns n op = true) (hop : op < 12) : s.hdIssue n op false body =
    State.hdEnd n (s.hdWord n)
      (if (s.hd n).t = 1 then (body (s.hdArg n) (s.hdStart n)).expired else body (s.hdArg n) (s.hdStart n)) := by
  simp only [State.hdRuns, Bool.and_eq_true, beq_iff_eq] at hrun
  obtain ⟨hstate, hcode⟩ := hrun
  unfold State.hdIssue
  simp only [hstate, hcode, ne_eq, not_true_eq_false, Bool.false_eq_true, if_false, Nat.not_le.2 hop]
  rfl

theorem hdIssue_done {target : Option Nat} (hrun : s.hdRuns n op = true) (hop : op < 12)
    (hbody : body (s.hdArg n) (s.hdStart n) = .done u target) :
    s.hdIssue n op false body = u.hdAdvance n (s.hdHold n) target := by
  rw [hdIssue_runs hrun hop, hbody]
  exact congrArg (State.hdEnd n (s.hdWord n)) (ite_self _)

theorem hdIssue_faults {code : Nat} (hrun : s.hdRuns n op = true) (hop : op < 12)
    (hbody : body (s.hdArg n) (s.hdStart n) = .faults u code) : s.hdIssue n op false body = u.hdFault n code := by
  rw [hdIssue_runs hrun hop, hbody]
  exact congrArg (State.hdEnd n (s.hdWord n)) (ite_self _)

theorem hdIssue_waits (hrun : s.hdRuns n op = true) (hop : op < 12) (ht : (s.hd n).t ≠ 1)
    (hbody : body (s.hdArg n) (s.hdStart n) = .waits u) : s.hdIssue n op false body = u.wr (Reg.HEDDLE_STAT_STATE.at n) 2 := by
  rw [hdIssue_runs hrun hop, hbody, if_neg ht]
  rfl

theorem hdIssue_stalls (hrun : s.hdRuns n op = true) (hop : op < 12) (ht : (s.hd n).t ≠ 1)
    (hbody : body (s.hdArg n) (s.hdStart n) = .stalls u) :
    s.hdIssue n op false body = (u.setHd n { u.hd n with stalled := true }).wr (Reg.HEDDLE_STAT_STATE.at n) 2 := by
  rw [hdIssue_runs hrun hop, hbody, if_neg ht]
  rfl

/-- T that reaches 0 in the first cycle ends a wait or stall that begins in it (R620). -/
theorem hdIssue_expires (hrun : s.hdRuns n op = true) (hop : op < 12) (ht : (s.hd n).t = 1)
    (hbody : body (s.hdArg n) (s.hdStart n) = .waits u ∨ body (s.hdArg n) (s.hdStart n) = .stalls u) :
    s.hdIssue n op false body = u.hdAdvance n (s.hdHold n) none := by
  rw [hdIssue_runs hrun hop, if_pos ht]
  rcases hbody with hbody | hbody <;> rw [hbody] <;> rfl

/-! ### An operation that ends (R613, R620) -/

/-- The fields of a Heddle that an operation may write leave its PC and its region. -/
def keepsRegion (fs : List Field) : Bool :=
  fs.all fun f => [Reg.HEDDLE_STAT_PC, Reg.HEDDLE_REGION_LEN, Reg.HEDDLE_REGION_WRAP].all fun g => g.s1 == f.s1 && g.key != f.key

theorem OnHeddle.rd_region {fs : List Field} {p : List Part} {s t : State} (h : OnHeddle n fs p s t) (hr : keepsRegion fs = true)
    {g : Field} (hg : g ∈ [Reg.HEDDLE_STAT_PC, Reg.HEDDLE_REGION_LEN, Reg.HEDDLE_REGION_WRAP]) :
    t.rd (g.at n) = s.rd (g.at n) := by
  refine h.rd g fun f hf => ?_
  have hgf := List.all_eq_true.1 (List.all_eq_true.1 hr f hf) g hg
  simpa using hgf

theorem OnHeddle.hdNext {fs : List Field} {p : List Part} {s t : State} (h : OnHeddle n fs p s t) (hr : keepsRegion fs = true) :
    t.hdNext n = s.hdNext n := by
  simp only [State.hdNext, h.rd_region hr (g := Reg.HEDDLE_STAT_PC) (by simp),
    h.rd_region hr (g := Reg.HEDDLE_REGION_LEN) (by simp), h.rd_region hr (g := Reg.HEDDLE_REGION_WRAP) (by simp)]

/-- The Heddle moves on after what it has done, within a frame that leaves its PC and its region. -/
theorem OnHeddle.advances {fs : List Field} {p : List Part} {s u : State} {target : Option Nat} {next : Nat}
    (h : OnHeddle n (Reg.HEDDLE_STAT_FLAG :: fs) p s u) (hr : keepsRegion (Reg.HEDDLE_STAT_FLAG :: fs) = true) (hold : Nat)
    (hnext : target.getD (s.hdNext n) = next) (hlen : next < s.rd (Reg.HEDDLE_REGION_LEN.at n)) :
    HdGoesOn s (u.hdAdvance n hold target) n next { u.hd n with t := (u.hd n).t - hold, stalled := false } (u.flagAfter n hold)
      (fs.map (·.at n)) p := by
  rw [← h.hdNext hr] at hnext
  rw [← h.rd_region hr (g := Reg.HEDDLE_REGION_LEN) (by simp)] at hlen
  exact .after h (hdAdvance_goesOn u n hold hnext hlen)

/-- An operation that ends without touching T: the Heddle is what the operation has made of it, and T has counted the instruction. -/
theorem OnHeddle.goesOn {fs : List Field} {p : List Part} {s u : State} {target : Option Nat} {next flag : Nat} {h : Heddle}
    (hframe : OnHeddle n (Reg.HEDDLE_STAT_FLAG :: fs) p (s.hdStart n) u) (hnext : target.getD (s.hdNext n) = next)
    (hlen : next < s.rd (Reg.HEDDLE_REGION_LEN.at n)) (hr : keepsRegion (Reg.HEDDLE_STAT_FLAG :: fs) = true)
    (ht : (u.hd n).t = (s.hd n).t - 1)
    (hh : { u.hd n with t := (s.hd n).t - (1 + s.hdHold n), stalled := false } = h)
    (hflag : u.rd (Reg.HEDDLE_STAT_FLAG.at n) = flag) :
    HdGoesOn s (u.hdAdvance n (s.hdHold n) target) n next h (s.hdFlagThen n flag) (fs.map (·.at n)) p := by
  subst hh hflag
  have hall : OnHeddle n (Reg.HEDDLE_STAT_FLAG :: fs) p s u := ((hdStart_onHeddle s n).mono (by simp) (by simp)).trans hframe
  have hgo := hall.advances hr (s.hdHold n) hnext hlen
  have hflag : u.flagAfter n (s.hdHold n) = s.hdFlagThen n (u.rd (Reg.HEDDLE_STAT_FLAG.at n)) := by
    simp only [State.flagAfter, State.hdFlagThen, ht]
    congr 1
    exact propext (by omega)
  rwa [hflag, ht, Nat.sub_sub] at hgo

end

/-! ### A Heddle that faults (R637, Table 10-5) -/

/-- An event is the newest entry of the ring. -/
theorem event_ring_head (s : State) (code src : Nat) (data : List Nat) :
    ((s.event code src data).tk.ring.head?).map (fun e => (e.code, e.src, e.data)) = some (code, src, data) := by
  have htk (u : State) (b : JBody) : (u.stage b).tk = u.tk := (u.stage_keeps b .tk).resolve_left (by simp)
  simp [State.event, State.intBit, State.wrBit, htk]

theorem event_keepsBut (s : State) (code src : Nat) (data : List Nat) :
    KeepsBut [Reg.HOSTPORT_INTSTAT_INTSTAT] [.tk, .jr, .gl, .marks] s (s.event code src data) :=
  (KeepsBut.refl _ _ s).event code src data (by simp) (by simp) (by simp)

@[simp] theorem event_hed (s : State) (code src : Nat) (data : List Nat) : (s.event code src data).hed = s.hed :=
  ((event_keepsBut s code src data).2 .hed).resolve_left (by simp)

@[simp] theorem event_hd (s : State) (code src m : Nat) (data : List Nat) : (s.event code src data).hd m = s.hd m :=
  State.hd_of_hed (event_hed s code src data) m

/-- An event leaves every field but INTSTAT. -/
theorem event_rd (s : State) (code src : Nat) (data : List Nat) (f : Field) (h : f.key ≠ Reg.HOSTPORT_INTSTAT_INTSTAT.key) :
    (s.event code src data).rd f = s.rd f := ((event_keepsBut s code src data).1 f).resolve_left (by simpa using h)

/-- The fields of a Heddle lie before INTSTAT. -/
theorem key_hd_ne_intstat (f : Field) (n : Fin 16) (hs : f.s1 = 128) (hf : f.key < 0x40080080 * 32) :
    (f.at n).key ≠ Reg.HOSTPORT_INTSTAT_INTSTAT.key := by
  have hn := n.isLt
  have hi : Reg.HOSTPORT_INTSTAT_INTSTAT.key = 0x400e0000 * 32 := rfl
  simp only [Field.key, Field.at, hs] at hf hi ⊢
  omega

/-- The fields that a fault of a Heddle writes. -/
def hdFaultFields : List Field := [Reg.HEDDLE_STAT_STATE, Reg.HEDDLE_STAT_FAULT, Reg.HEDDLE_CTRL_EN]

/-- The registers and the stall of a Heddle that has faulted, before its event. -/
def State.hdFaultRegs (s : State) (n code : Nat) : State :=
  (((s.wr (Reg.HEDDLE_STAT_STATE.at n) 3).wr (Reg.HEDDLE_STAT_FAULT.at n) code).wr (Reg.HEDDLE_CTRL_EN.at n) 0).setHd n
    { s.hd n with stalled := false }

theorem hdFault_eq (s : State) (n code : Nat) :
    s.hdFault n code = (s.hdFaultRegs n code).event 0x0A01 n [code, s.rd (Reg.HEDDLE_STAT_PC.at n)] := rfl

theorem hdFaultRegs_onHeddle (s : State) (n code : Nat) : OnHeddle n hdFaultFields [] s (s.hdFaultRegs n code) :=
  ((((OnHeddle.refl ..).wr _ 3 (by simp [hdFaultFields])).wr _ code (by simp [hdFaultFields])).wr _ 0
    (by simp [hdFaultFields])).setHd _

/-- A fault shows itself in STATE, FAULT and EN, ends a stall and is reported; what its operation did to FLAG stands. -/
theorem hdFault_faulted {s u : State} {n : Fin 16} (code : Nat) (hc : code < 8) {fs : List Field} (h : OnHeddle n fs [] s u)
    (hr : keepsRegion fs = true) : HdFaulted s (u.hdFault n code) n code (fs.map (·.at n)) := by
  have hpc : u.rd (Reg.HEDDLE_STAT_PC.at n) = s.rd (Reg.HEDDLE_STAT_PC.at n) := h.rd_region hr (by simp)
  have hrd (f : Field) (hs : f.s1 = 128) (hf : f.key < 0x40080080 * 32) :
      (u.hdFault n code).rd (f.at n) = (u.hdFaultRegs n code).rd (f.at n) := event_rd _ _ _ _ _ (key_hd_ne_intstat f n hs hf)
  refine ⟨?_, ?_, ?_, ?_, ?_, ?_⟩
  · rw [State.hdState, hrd _ (by decide) (by decide)]
    simp (disch := decide) only [State.hdFaultRegs, State.rd_setHd, State.rd_wr_at, State.rd_wr_same]
    rfl
  · rw [hrd _ (by decide) (by decide)]
    simp (disch := decide) only [State.hdFaultRegs, State.rd_setHd, State.rd_wr_at, State.rd_wr_same]
    exact Nat.mod_eq_of_lt hc
  · rw [hrd _ (by decide) (by decide)]
    exact State.rd_wr_same _ (Reg.HEDDLE_CTRL_EN.at n) 0
  · simp [hdFault_eq, State.hdFaultRegs]
  · rw [hdFault_eq, event_ring_head, hpc]
  · obtain ⟨-, -, -, hkeep⟩ := h
    obtain ⟨-, -, -, kkeep⟩ := hdFaultRegs_onHeddle u n code
    refine ((hkeep.mono (fun _ hm => List.mem_append_right _ hm) (by simp)).trans (kkeep.mono (by simp [hdFaultFields]) (by simp))).event
      _ _ _ (by simp) (by simp) (by simp)

@[simp] theorem hdAdvance_irq (s : State) (n hold : Nat) (target : Option Nat) :
    (s.hdAdvance n hold target).hed.irq = s.hed.irq := by
  rw [hdAdvance_eq]
  split
  · simp [hdFault_eq, State.hdFaultRegs]
  · simp [State.hdMoved]

/-- The fields that the end of an instruction may write beside INTSTAT. -/
def hdEndFields : List Field := hdMoveFields ++ hdFaultFields

/-- The end of an instruction leaves the fields that neither moving on nor a fault writes. -/
theorem hdAdvance_rd (s : State) (n : Fin 16) (hold : Nat) (target : Option Nat) (g : Field) (hs : g.s1 = 128)
    (hlow : g.key < 0x40080080 * 32) (hg : ∀ f ∈ hdEndFields, g.s1 = f.s1 ∧ g.key ≠ f.key) :
    (s.hdAdvance n hold target).rd (g.at n) = s.rd (g.at n) := by
  rw [hdAdvance_eq]
  split
  · rw [hdFault_eq, event_rd _ _ _ _ _ (key_hd_ne_intstat g n hs hlow)]
    exact (hdFaultRegs_onHeddle s n 2).rd g fun f hf => hg f (List.mem_append_right _ hf)
  · exact (hdMoved_onHeddle s n hold _).rd g fun f hf => hg f (List.mem_append_left _ hf)

/-- An operation that faults in its first cycle. -/
theorem hdIssue_faulted {s u : State} {n : Fin 16} {op code : Nat} {body : Nat → State → HdRes} (hrun : s.hdRuns n op = true)
    (hop : op < 12) (hc : code < 8) (hbody : body (s.hdArg n) (s.hdStart n) = .faults u code)
    (hframe : OnHeddle n [Reg.HEDDLE_STAT_FLAG] [] (s.hdStart n) u) :
    HdFaulted s (s.hdIssue n op false body) n code [Reg.HEDDLE_STAT_FLAG.at n] := by
  rw [hdIssue_faults hrun hop hbody]
  exact hdFault_faulted code hc ((hdStart_onHeddle s n).trans hframe) (by decide)

/-! ### What the operations on lanes, pins and counters do (Table 10-3) -/

section
variable {n arg pins : Nat} {s : State}

theorem hdSampleBody_of_full (h5 : fieldOf arg 5 5 = 0) (h3 : bitOf arg 3 = false) (hcn : (s.hd n).cn = 32) :
    hdSampleBody n pins arg s = .done (s.wr (Reg.HEDDLE_STAT_RX_OVF.at n) 1) none := by
  simp [hdSampleBody, h5, h3, hcn]

/-- The catch lane with one more bit. -/
def State.caught (s : State) (n pins arg : Nat) : Nat :=
  setBit (s.hd n).cl (lanePos (bitOf arg 4) (s.hd n).cn) (s.slotReads n pins (arg % 8))

/-- The state in which one more bit has been caught. -/
def State.catches (s : State) (n pins arg : Nat) : State :=
  s.setHd n { s.hd n with cl := s.caught n pins arg, cn := (s.hd n).cn + 1 }

@[simp] theorem State.catches_hd (s : State) (n pins arg : Nat) :
    (s.catches n pins arg).hd n = { s.hd n with cl := s.caught n pins arg, cn := (s.hd n).cn + 1 } := s.hd_setHd n _

@[simp] theorem State.catches_rd (s : State) (n pins arg : Nat) (f : Field) : (s.catches n pins arg).rd f = s.rd f := rfl
@[simp] theorem State.catches_irq (s : State) (n pins arg : Nat) : (s.catches n pins arg).hed.irq = s.hed.irq := rfl
@[simp] theorem State.catches_hdRxSize (s : State) (n pins arg m : Nat) : (s.catches n pins arg).hdRxSize m = s.hdRxSize m := rfl

theorem hdSampleBody_of_room (h5 : fieldOf arg 5 5 = 0) (h3 : bitOf arg 3 = false) (hcn : (s.hd n).cn ≠ 32)
    (hcatch : s.rd (Reg.HEDDLE_CTRL_AUTOCATCH.at n) = 0 ∨ (s.hd n).cn + 1 ≠ s.hdCatchLen n) :
    hdSampleBody n pins arg s = .done (s.catches n pins arg) none := by
  have hno : ¬(s.on (Reg.HEDDLE_CTRL_AUTOCATCH.at n) && (s.hd n).cn + 1 == s.hdCatchLen n) = true := by
    rcases hcatch with h | h <;> simp [State.on, h]
  simp only [hdSampleBody, h5, h3, hcn, ne_eq, not_true_eq_false, Bool.false_eq_true, or_self, if_false, hno]
  rfl

/-- A catch that AUTOCATCH completes goes to the receive queue, and a queue of size 0 faults (R616). -/
theorem hdSampleBody_of_catch (h5 : fieldOf arg 5 5 = 0) (h3 : bitOf arg 3 = false) (hcn : (s.hd n).cn ≠ 32)
    (hauto : s.rd (Reg.HEDDLE_CTRL_AUTOCATCH.at n) ≠ 0) (hlen : (s.hd n).cn + 1 = s.hdCatchLen n) :
    hdSampleBody n pins arg s = if s.hdRxSize n = 0 then .faults (s.catches n pins arg) 4 else
      let u := (s.catches n pins arg).hdDeliver n (s.caught n pins arg)
      .done (u.setHd n { u.hd n with cl := 0, cn := 0 }) none := by
  have hyes : (s.on (Reg.HEDDLE_CTRL_AUTOCATCH.at n) && (s.hd n).cn + 1 == s.hdCatchLen n) = true := by
    simp [State.on, hauto, hlen]
  simp only [hdSampleBody, h5, h3, hcn, ne_eq, not_true_eq_false, Bool.false_eq_true, or_self, if_false, hyes, if_true,
    State.hd_setHd, State.catches, State.caught]

/-- A word for which the receive queue has room is delivered. -/
theorem hdDeliver_of_room (w : Nat) (h : (s.hd n).rxq.length < s.hdRxSize n) : s.hdDeliver n w = s.hdSetRx n ((s.hd n).rxq ++ [w]) :=
  if_pos h

theorem hdDriveBody_of_legal (h : fieldOf arg 4 4 = 0) :
    hdDriveBody n arg s = .done (if bitOf arg 9
      then (s.hdLevel n (arg % 8) (bitOf arg 3)).setHd n
        { (s.hdLevel n (arg % 8) (bitOf arg 3)).hd n with oe := setBit (s.hd n).oe (arg % 8) (bitOf arg 8) }
      else s.hdLevel n (arg % 8) (bitOf arg 3)) none := by
  simp [hdDriveBody, h, State.hdLevel]

@[simp] theorem State.hdLevel_hd (s : State) (n k : Nat) (b : Bool) :
    (s.hdLevel n k b).hd n = { s.hd n with lev := setBit (s.hd n).lev k b } := s.hd_setHd n _

@[simp] theorem State.hdLevel_rd (s : State) (n k : Nat) (b : Bool) (f : Field) : (s.hdLevel n k b).rd f = s.rd f := rfl
@[simp] theorem State.hdLevel_irq (s : State) (n k : Nat) (b : Bool) : (s.hdLevel n k b).hed.irq = s.hed.irq := rfl

theorem hdCountBody_of_load (h : fieldOf arg 8 2 = 0) :
    hdCountBody n arg s = .done (s.wr (Reg.HEDDLE_CNT_CNT.at n) (fieldOf arg 0 8)) none := by
  simp only [hdCountBody, h]

theorem hdCountBody_reload (n : Nat) (s : State) : hdCountBody n 256 s =
    .done (s.wr (Reg.HEDDLE_CNT_CNT.at n) (s.rd (Reg.HEDDLE_CNT_CRELOAD.at n))) none := rfl

theorem hdCountBody_down (n : Nat) (s : State) : hdCountBody n 512 s =
    .done ((s.wr (Reg.HEDDLE_CNT_CNT.at n) (s.rd (Reg.HEDDLE_CNT_CNT.at n) - 1)).hdFlag n
      (decide (s.rd (Reg.HEDDLE_CNT_CNT.at n) ≤ 1))) none := rfl

theorem hdMatchBody_of_pattern (h8 : fieldOf arg 8 2 = 0) (h1 : fieldOf arg 1 7 = 0) : hdMatchBody n pins arg s =
    .done (s.hdFlag n (decide ((s.hd n).cl &&&
        (if bitOf arg 0 then s.rd (Reg.HEDDLE_MASK1_V.at n) else s.rd (Reg.HEDDLE_MASK0_V.at n)) =
      (if bitOf arg 0 then s.rd (Reg.HEDDLE_PAT1_V.at n) else s.rd (Reg.HEDDLE_PAT0_V.at n))))) none := by
  simp only [hdMatchBody, h8, h1, ne_eq, not_true_eq_false, if_false]

theorem hdMatchBody_of_echo (h8 : fieldOf arg 8 2 = 1) (h3 : fieldOf arg 3 5 = 0) : hdMatchBody n pins arg s =
    .done (s.hdFlag n (s.slotReads n pins (arg % 8) != (s.hd n).lastOut)) none := by
  simp only [hdMatchBody, h8, h3, ne_eq, not_true_eq_false, if_false]

theorem hdTimeoutBody_of_legal (h : bitOf arg 9 = false ∨ arg = 512) : hdTimeoutBody n arg s =
    .done (s.setHd n { s.hd n with t := if arg = 512 then s.rd (Reg.HEDDLE_TLOAD_TLOAD.at n) else fieldOf arg 0 9 }) none := by
  rcases h with h | rfl
  · have hne : arg ≠ 512 := by
      rintro rfl
      exact absurd h (by decide)
    simp [hdTimeoutBody, h, hne]
  · rfl

/-- SIGNAL has set its event, woken the bound thread and, where bit 8 asks for it, interrupted the Weaver. -/
def State.signalled (s : State) (n arg : Nat) : State :=
  let u := (s.wrBit (Reg.HEDDLE_EVT_EVENTS.at n) (arg % 16) true).hdWake n
  if bitOf arg 8 then ({ u with hed := { u.hed with irq := setBit u.hed.irq n true } }).interruptWeaver else u

theorem hdSignalBody_of_legal (h4 : fieldOf arg 4 4 = 0) (h9 : bitOf arg 9 = false) :
    hdSignalBody n arg s = .done (s.signalled n arg) none := by
  simp only [hdSignalBody, h4, h9, ne_eq, not_true_eq_false, Bool.false_eq_true, or_self, if_false]
  rfl

/-- A BRANCH of a stated condition goes to its target where the condition holds. -/
theorem hdBranchBody_hdStart (h : fieldOf (s.hdArg n) 7 3 ≠ 7) : hdBranchBody n pins (s.hdArg n) (s.hdStart n) =
    .done (s.hdStart n) (if s.hdTakes n pins then some (fieldOf (s.hdArg n) 0 7) else none) := by
  have hlt : fieldOf (s.hdArg n) 7 3 < 8 := Nat.mod_lt _ (by decide)
  generalize hk : fieldOf (s.hdArg n) 7 3 = k at h hlt
  interval_cases k <;> simp [hdBranchBody, State.hdTakes, hk, State.on] at h ⊢

end

/-! ### The operations on lanes, pins and counters (O33) -/

/-- A command that issues an operation which ends: what the operation has done, with the Heddle moved on. -/
theorem answers_hdIssue {c : Instr} {s u : State} {n op : Nat} {body : Nat → State → HdRes} {target : Option Nat}
    {P : State → Prop} (hc : exec c s = .next (s.hdIssue n op false body)) (hrun : s.hdRuns n op = true) (hop : op < 12)
    (hbody : body (s.hdArg n) (s.hdStart n) = .done u target) (hP : P (u.hdAdvance n (s.hdHold n) target)) : Answers c s P :=
  ⟨_, hc.trans (congrArg Host.Outcome.next (hdIssue_done hrun hop hbody)), hP⟩

section
variable {s : State} {n : Fin 16} {pins : BitVec 64}

theorem heddleNop_goesOn (hrun : s.hdRuns n 0 = true) (hlen : s.hdNext n < s.rd (Reg.HEDDLE_REGION_LEN.at n))
    (harg : s.hdArg n = 0) : Answers (.heddleNop n false) s fun t =>
      HdGoesOn s t n (s.hdNext n) (s.hdBase n) (s.hdFlagThen n (s.hdFlagFound n)) [] [] ∧ t.hed.irq = s.hed.irq := by
  refine answers_hdIssue rfl hrun (by decide) (if_neg (not_not.2 harg)) ⟨?_, by simp⟩
  exact (OnHeddle.refl ..).goesOn (fs := []) rfl hlen (by decide) (by simp) (by simp [State.hdBase]) (by simp)

theorem sample_full (hrun : s.hdRuns n 1 = true) (hlen : s.hdNext n < s.rd (Reg.HEDDLE_REGION_LEN.at n))
    (h5 : fieldOf (s.hdArg n) 5 5 = 0) (h3 : bitOf (s.hdArg n) 3 = false) (hcn : (s.hd n).cn = 32) :
    Answers (.sample n pins false) s fun t =>
      HdGoesOn s t n (s.hdNext n) (s.hdBase n) (s.hdFlagThen n (s.hdFlagFound n)) [Reg.HEDDLE_STAT_RX_OVF.at n] [] ∧
        t.rd (Reg.HEDDLE_STAT_RX_OVF.at n) = 1 ∧ t.hed.irq = s.hed.irq := by
  refine answers_hdIssue rfl hrun (by decide) (hdSampleBody_of_full h5 h3 (by simpa using hcn)) ⟨?_, ?_, by simp⟩
  · exact ((OnHeddle.refl ..).wr _ 1 (by simp)).goesOn (fs := [Reg.HEDDLE_STAT_RX_OVF]) rfl hlen (by decide)
      (by simp) (by simp [State.hdBase]) (by simp (disch := decide) [State.rd_wr_at])
  · rw [hdAdvance_rd _ _ _ _ _ (by decide) (by decide) (by decide), State.rd_wr_same]
    rfl

theorem sample_catches (hrun : s.hdRuns n 1 = true) (hlen : s.hdNext n < s.rd (Reg.HEDDLE_REGION_LEN.at n))
    (h5 : fieldOf (s.hdArg n) 5 5 = 0) (h3 : bitOf (s.hdArg n) 3 = false) (hcn : (s.hd n).cn ≠ 32)
    (hcatch : s.rd (Reg.HEDDLE_CTRL_AUTOCATCH.at n) = 0 ∨ (s.hd n).cn + 1 ≠ s.hdCatchLen n) :
    Answers (.sample n pins false) s fun t =>
      HdGoesOn s t n (s.hdNext n) { s.hdBase n with
          cl := setBit (s.hd n).cl (lanePos (bitOf (s.hdArg n) 4) (s.hd n).cn) (s.slotReads n pins.toNat (s.hdArg n % 8)),
          cn := (s.hd n).cn + 1 } (s.hdFlagThen n (s.hdFlagFound n)) [] [] ∧
        t.hed.irq = s.hed.irq := by
  refine answers_hdIssue rfl hrun (by decide)
    (hdSampleBody_of_room h5 h3 (by simpa using hcn) (by simpa (disch := decide) [hdStart_rd] using hcatch))
    ⟨?_, by simp⟩
  exact ((OnHeddle.refl ..).setHd _).goesOn (fs := []) rfl hlen (by decide) (by simp)
    (by simp [State.caught, State.hdBase]) (by simp)

theorem sample_delivers (hrun : s.hdRuns n 1 = true) (hlen : s.hdNext n < s.rd (Reg.HEDDLE_REGION_LEN.at n))
    (h5 : fieldOf (s.hdArg n) 5 5 = 0) (h3 : bitOf (s.hdArg n) 3 = false) (hcn : (s.hd n).cn ≠ 32)
    (hauto : s.rd (Reg.HEDDLE_CTRL_AUTOCATCH.at n) ≠ 0) (hcatch : (s.hd n).cn + 1 = s.hdCatchLen n)
    (hroom : (s.hd n).rxq.length < s.hdRxSize n) :
    Answers (.sample n pins false) s fun t =>
      HdGoesOn s t n (s.hdNext n) { s.hdBase n with
          cl := 0, cn := 0,
          rxq := (s.hd n).rxq ++
            [setBit (s.hd n).cl (lanePos (bitOf (s.hdArg n) 4) (s.hd n).cn) (s.slotReads n pins.toNat (s.hdArg n % 8))] }
          (s.hdFlagThen n (s.hdFlagFound n)) [Reg.HEDDLE_STAT_RXFILL.at n] [.threads] ∧
        t.rd (Reg.HEDDLE_STAT_RXFILL.at n) = ((s.hd n).rxq.length + 1) % 16 ∧ t.hed.irq = s.hed.irq := by
  have hbody := hdSampleBody_of_catch (n := n) (pins := pins.toNat) (s := s.hdStart n) h5 h3 (by simpa using hcn)
    (by simpa (disch := decide) [hdStart_rd] using hauto) (by simpa using hcatch)
  have hsize : ¬(s.hdStart n).hdRxSize n = 0 := by simp; omega
  have hroom' : (((s.hdStart n).catches n pins.toNat (s.hdArg n)).hd n).rxq.length <
      ((s.hdStart n).catches n pins.toNat (s.hdArg n)).hdRxSize n := by
    simpa using hroom
  rw [if_neg hsize, hdDeliver_of_room _ hroom'] at hbody
  refine answers_hdIssue rfl hrun (by decide) hbody ⟨?_, ?_, by simp⟩
  · exact ((((OnHeddle.refl ..).setHd _).hdSetRx _ (by simp) (by simp)).setHd _).goesOn (fs := [Reg.HEDDLE_STAT_RXFILL]) rfl hlen
      (by decide) (by simp) (by simp [State.caught, State.hdBase])
      (by simp (disch := decide) [State.hdSetRx_rd, State.rd_wr_at])
  · rw [hdAdvance_rd _ _ _ _ _ (by decide) (by decide) (by decide)]
    simp

theorem drive_goesOn (hrun : s.hdRuns n 2 = true) (hlen : s.hdNext n < s.rd (Reg.HEDDLE_REGION_LEN.at n))
    (h4 : fieldOf (s.hdArg n) 4 4 = 0) : Answers (.drive n false) s fun t =>
      HdGoesOn s t n (s.hdNext n) { s.hdBase n with
          lev := setBit (s.hdBase n).lev (s.hdArg n % 8) (bitOf (s.hdArg n) 3),
          oe := if bitOf (s.hdArg n) 9 then setBit (s.hd n).oe (s.hdArg n % 8) (bitOf (s.hdArg n) 8) else (s.hd n).oe }
        (s.hdFlagThen n (s.hdFlagFound n)) [] [] ∧
      t.hed.irq = s.hed.irq := by
  have hbody := hdDriveBody_of_legal (n := n) (s := s.hdStart n) h4
  cases h9 : bitOf (s.hdArg n) 9
  · rw [h9, if_neg (by simp)] at hbody
    refine answers_hdIssue rfl hrun (by decide) hbody ⟨?_, by simp⟩
    exact ((OnHeddle.refl ..).setHd _).goesOn (fs := []) rfl hlen (by decide) (by simp) (by simp [State.hdBase]) (by simp)
  · rw [h9, if_pos rfl] at hbody
    refine answers_hdIssue rfl hrun (by decide) hbody ⟨?_, by simp⟩
    exact (((OnHeddle.refl ..).setHd _).setHd _).goesOn (fs := []) rfl hlen (by decide) (by simp) (by simp [State.hdBase]) (by simp)

theorem count_loads (hrun : s.hdRuns n 4 = true) (hlen : s.hdNext n < s.rd (Reg.HEDDLE_REGION_LEN.at n))
    (h8 : fieldOf (s.hdArg n) 8 2 = 0) : Answers (.count n false) s fun t =>
      HdGoesOn s t n (s.hdNext n) (s.hdBase n) (s.hdFlagThen n (s.hdFlagFound n)) [Reg.HEDDLE_CNT_CNT.at n] [] ∧
        t.rd (Reg.HEDDLE_CNT_CNT.at n) = fieldOf (s.hdArg n) 0 8 ∧ t.hed.irq = s.hed.irq := by
  refine answers_hdIssue rfl hrun (by decide) (hdCountBody_of_load h8) ⟨?_, ?_, by simp⟩
  · exact ((OnHeddle.refl ..).wr _ _ (by simp)).goesOn (fs := [Reg.HEDDLE_CNT_CNT]) rfl hlen (by decide)
      (by simp) (by simp [State.hdBase]) (by simp (disch := decide) [State.rd_wr_at])
  · rw [hdAdvance_rd _ _ _ _ _ (by decide) (by decide) (by decide), State.rd_wr_same]
    exact Nat.mod_eq_of_lt ((Nat.mod_lt _ (by decide)).trans (show 2 ^ 8 < 2 ^ 16 by decide))

theorem count_reloads (hrun : s.hdRuns n 4 = true) (hlen : s.hdNext n < s.rd (Reg.HEDDLE_REGION_LEN.at n))
    (harg : s.hdArg n = 256) : Answers (.count n false) s fun t =>
      HdGoesOn s t n (s.hdNext n) (s.hdBase n) (s.hdFlagThen n (s.hdFlagFound n)) [Reg.HEDDLE_CNT_CNT.at n] [] ∧
        t.rd (Reg.HEDDLE_CNT_CNT.at n) = s.rd (Reg.HEDDLE_CNT_CRELOAD.at n) % 65536 ∧ t.hed.irq = s.hed.irq := by
  refine answers_hdIssue rfl hrun (by decide) (harg ▸ hdCountBody_reload n _) ⟨?_, ?_, by simp⟩
  · exact ((OnHeddle.refl ..).wr _ _ (by simp)).goesOn (fs := [Reg.HEDDLE_CNT_CNT]) rfl hlen (by decide)
      (by simp) (by simp [State.hdBase]) (by simp (disch := decide) [State.rd_wr_at])
  · rw [hdAdvance_rd _ _ _ _ _ (by decide) (by decide) (by decide), State.rd_wr_same, hdStart_rd _ _ _ (by decide) (by decide)]
    rfl

theorem count_down (hrun : s.hdRuns n 4 = true) (hlen : s.hdNext n < s.rd (Reg.HEDDLE_REGION_LEN.at n))
    (harg : s.hdArg n = 512) : Answers (.count n false) s fun t =>
      HdGoesOn s t n (s.hdNext n) (s.hdBase n) (s.hdFlagThen n (b2n (decide (s.rd (Reg.HEDDLE_CNT_CNT.at n) ≤ 1))))
          [Reg.HEDDLE_CNT_CNT.at n] [] ∧
        t.rd (Reg.HEDDLE_CNT_CNT.at n) = (s.rd (Reg.HEDDLE_CNT_CNT.at n) - 1) % 65536 ∧ t.hed.irq = s.hed.irq := by
  have hcnt : (s.hdStart n).rd (Reg.HEDDLE_CNT_CNT.at n) = s.rd (Reg.HEDDLE_CNT_CNT.at n) :=
    hdStart_rd _ _ _ (by decide) (by decide)
  have hbody := hdCountBody_down n (s.hdStart n)
  rw [hcnt] at hbody
  refine answers_hdIssue rfl hrun (by decide) (harg ▸ hbody) ⟨?_, ?_, by simp⟩
  · exact (((OnHeddle.refl ..).wr _ _ (by simp)).hdFlag _ (by simp)).goesOn (fs := [Reg.HEDDLE_CNT_CNT]) rfl hlen (by decide)
      (by simp) (by simp [State.hdBase]) (by simp)
  · rw [hdAdvance_rd _ _ _ _ _ (by decide) (by decide) (by decide), State.hdFlag, State.rd_wr_at _ _ _ _ _ (by decide) (by decide),
      State.rd_wr_same]
    rfl

theorem branch_goesOn (go : Bool) (hrun : s.hdRuns n 8 = true) (hgo : go = s.hdTakes n pins.toNat) (h7 : fieldOf (s.hdArg n) 7 3 ≠ 7)
    (hlen : (if go then fieldOf (s.hdArg n) 0 7 else s.hdNext n) < s.rd (Reg.HEDDLE_REGION_LEN.at n)) :
    Answers (.branch n pins false) s fun t =>
      HdGoesOn s t n (if go then fieldOf (s.hdArg n) 0 7 else s.hdNext n) (s.hdBase n) (s.hdFlagThen n (s.hdFlagFound n)) [] [] ∧
        t.hed.irq = s.hed.irq := by
  refine answers_hdIssue rfl hrun (by decide) (hdBranchBody_hdStart h7) ⟨?_, by simp⟩
  have hnext : (if s.hdTakes n pins.toNat then some (fieldOf (s.hdArg n) 0 7) else none).getD (s.hdNext n) =
      if go then fieldOf (s.hdArg n) 0 7 else s.hdNext n := by
    subst hgo
    split <;> rfl
  exact (OnHeddle.refl ..).goesOn (fs := []) hnext hlen (by decide) (by simp) (by simp [State.hdBase]) (by simp)

/-- A target beyond the region faults with BAD_PC (R605). -/
theorem branch_badPc (hrun : s.hdRuns n 8 = true) (h7 : fieldOf (s.hdArg n) 7 3 = 0)
    (hlen : s.rd (Reg.HEDDLE_REGION_LEN.at n) ≤ fieldOf (s.hdArg n) 0 7) :
    Answers (.branch n pins false) s fun t => HdFaulted s t n 2 [Reg.HEDDLE_STAT_FLAG.at n] := by
  refine answers_hdIssue rfl hrun (by decide) (hdBranchBody_hdStart (by simp [h7])) ?_
  have htakes : s.hdTakes n pins.toNat = true := by simp [State.hdTakes, h7]
  rw [htakes, hdAdvance_eq, if_pos (by simpa (disch := decide) [hdStart_rd] using hlen)]
  exact hdFault_faulted 2 (by decide) (hdStart_onHeddle s n) (by decide)

theorem hdMatch_pattern (hrun : s.hdRuns n 9 = true) (hlen : s.hdNext n < s.rd (Reg.HEDDLE_REGION_LEN.at n))
    (h1 : fieldOf (s.hdArg n) 1 7 = 0) (h8 : fieldOf (s.hdArg n) 8 2 = 0) : Answers (.hdMatch n pins false) s fun t =>
      HdGoesOn s t n (s.hdNext n) (s.hdBase n) (s.hdFlagThen n (b2n (decide ((s.hd n).cl &&&
          (if bitOf (s.hdArg n) 0 then s.rd (Reg.HEDDLE_MASK1_V.at n) else s.rd (Reg.HEDDLE_MASK0_V.at n)) =
        (if bitOf (s.hdArg n) 0 then s.rd (Reg.HEDDLE_PAT1_V.at n) else s.rd (Reg.HEDDLE_PAT0_V.at n)))))) [] [] ∧
      t.hed.irq = s.hed.irq := by
  refine answers_hdIssue rfl hrun (by decide) (hdMatchBody_of_pattern h8 h1) ⟨?_, by simp⟩
  exact ((OnHeddle.refl ..).hdFlag _ (by simp)).goesOn (fs := []) rfl hlen (by decide) (by simp) (by simp [State.hdBase])
    (by simp (disch := decide) [hdStart_rd])

theorem hdMatch_echo (hrun : s.hdRuns n 9 = true) (hlen : s.hdNext n < s.rd (Reg.HEDDLE_REGION_LEN.at n))
    (h3 : fieldOf (s.hdArg n) 3 5 = 0) (h8 : fieldOf (s.hdArg n) 8 2 = 1) : Answers (.hdMatch n pins false) s fun t =>
      HdGoesOn s t n (s.hdNext n) (s.hdBase n)
        (s.hdFlagThen n (b2n (s.slotReads n pins.toNat (s.hdArg n % 8) != (s.hd n).lastOut))) [] [] ∧
      t.hed.irq = s.hed.irq := by
  refine answers_hdIssue rfl hrun (by decide) (hdMatchBody_of_echo h8 h3) ⟨?_, by simp⟩
  exact ((OnHeddle.refl ..).hdFlag _ (by simp)).goesOn (fs := []) rfl hlen (by decide) (by simp) (by simp [State.hdBase]) (by simp)

/-- TIMEOUT loads T, from which its own HOLD already counts. -/
theorem timeout_loads (hrun : s.hdRuns n 10 = true) (hlen : s.hdNext n < s.rd (Reg.HEDDLE_REGION_LEN.at n))
    (harg : bitOf (s.hdArg n) 9 = false ∨ s.hdArg n = 512) : Answers (.timeout n false) s fun t =>
      t.hd n = { s.hdBase n with
        t := (if s.hdArg n = 512 then s.rd (Reg.HEDDLE_TLOAD_TLOAD.at n) else fieldOf (s.hdArg n) 0 9) - s.hdHold n } ∧
      t.hdState n = 1 ∧ t.hed.irq = s.hed.irq ∧
      KeepsBut [Reg.HEDDLE_STAT_STATE.at n, Reg.HEDDLE_STAT_PC.at n, Reg.HEDDLE_STAT_FLAG.at n] [.hed] s t := by
  have hframe : OnHeddle n [Reg.HEDDLE_STAT_FLAG] [] s ((s.hdStart n).setHd n { (s.hdStart n).hd n with
      t := if s.hdArg n = 512 then (s.hdStart n).rd (Reg.HEDDLE_TLOAD_TLOAD.at n) else fieldOf (s.hdArg n) 0 9 }) :=
    (hdStart_onHeddle s n).setHd _
  have hgo := hframe.advances (fs := []) (target := none) (by decide) (s.hdHold n) rfl hlen
  refine answers_hdIssue rfl hrun (by decide) (hdTimeoutBody_of_legal harg) ?_
  obtain ⟨hstate, -, -, hhd, -, -, -, hkeep⟩ := hgo
  refine ⟨hhd.trans ?_, hstate, by simp, hkeep⟩
  simp (disch := decide) [State.hdBase, hdStart_rd]

end

section
variable {s : State} {n : Fin 16}

/-- Of the Heddles only the Weaver interrupts change. -/
theorem OnHeddle.irq {n : Nat} {fs : List Field} {p : List Part} {s t : State} (h : OnHeddle n fs p s t) (i : Nat) :
    OnHeddle n fs p s { t with hed := { t.hed with irq := i } } := by
  obtain ⟨hprog, huart, hother, hkeep⟩ := h
  refine ⟨hprog, huart, hother, hkeep.trans ?_⟩
  exact ((KeepsBut.refl [] [.hed] t).part (fun q => by cases q <;> simp [Part.same]) (by simp)).mono (by simp) (by simp)

@[simp] theorem State.interruptWeaver_hed (s : State) : s.interruptWeaver.hed = s.hed :=
  (s.interruptWeaver_keeps .hed).resolve_left (by simp)

@[simp] theorem State.interruptWeaver_rd (s : State) (f : Field) : s.interruptWeaver.rd f = s.rd f :=
  congrArg (fun r : Store Nat => r.get f.reset f.key) ((s.interruptWeaver_keeps .regs).resolve_left (by simp))

theorem signalled_onHeddle (s : State) (n arg : Nat) :
    OnHeddle n [Reg.HEDDLE_STAT_FLAG, Reg.HEDDLE_EVT_EVENTS] [.threads] s (s.signalled n arg) := by
  have hevent : OnHeddle n [Reg.HEDDLE_STAT_FLAG, Reg.HEDDLE_EVT_EVENTS] [.threads] s
      ((s.wrBit (Reg.HEDDLE_EVT_EVENTS.at n) (arg % 16) true).hdWake n) :=
    ((OnHeddle.refl ..).wr _ _ (by simp)).hdWake (by simp)
  exact .ite ((hevent.irq _).part (State.interruptWeaver_keeps _) (by simp) (by simp) (by simp)) hevent

theorem signalled_rd (s : State) (n arg : Nat) (f : Field) :
    (s.signalled n arg).rd f = (s.wrBit (Reg.HEDDLE_EVT_EVENTS.at n) (arg % 16) true).rd f := by
  unfold State.signalled
  dsimp only
  split
  · rw [State.interruptWeaver_rd]
    exact State.hdWake_rd _ _ _
  · exact State.hdWake_rd _ _ _

theorem signalled_hd (s : State) (n arg : Nat) : (s.signalled n arg).hd n = s.hd n := by
  unfold State.signalled
  dsimp only
  split
  · rw [State.hd_of_hed (State.interruptWeaver_hed _)]
    exact State.hdWake_hd _ _ _
  · exact State.hdWake_hd _ _ _

theorem signalled_irq (s : State) (n arg : Nat) :
    (s.signalled n arg).hed.irq = if bitOf arg 8 then setBit s.hed.irq n true else s.hed.irq := by
  unfold State.signalled
  dsimp only
  split <;> simp [State.wrBit]

theorem signal_goesOn (hrun : s.hdRuns n 11 = true) (hlen : s.hdNext n < s.rd (Reg.HEDDLE_REGION_LEN.at n))
    (h4 : fieldOf (s.hdArg n) 4 4 = 0) (h9 : bitOf (s.hdArg n) 9 = false) : Answers (.signal n false) s fun t =>
      HdGoesOn s t n (s.hdNext n) (s.hdBase n) (s.hdFlagThen n (s.hdFlagFound n)) [Reg.HEDDLE_EVT_EVENTS.at n] [.threads] ∧
        bitOf (t.rd (Reg.HEDDLE_EVT_EVENTS.at n)) (s.hdArg n % 16) = true ∧
        t.hed.irq = (if bitOf (s.hdArg n) 8 then setBit s.hed.irq n true else s.hed.irq) := by
  refine answers_hdIssue rfl hrun (by decide) (hdSignalBody_of_legal h4 h9) ⟨?_, ?_, by simp [signalled_irq]⟩
  · exact (signalled_onHeddle ..).goesOn (fs := [Reg.HEDDLE_EVT_EVENTS]) rfl hlen (by decide) (by simp [signalled_hd])
      (by simp [signalled_hd, State.hdBase]) (by simp (disch := decide) [signalled_rd, State.wrBit, State.rd_wr_at])
  · rw [hdAdvance_rd _ _ _ _ _ (by decide) (by decide) (by decide), signalled_rd]
    exact State.bit_wrBit_true _ _ _ (Nat.mod_lt _ (by decide))

/-! ### Argument bits that an operation does not name (R616) -/

theorem hdCountBody_illegal {n arg : Nat} {s : State} (h : 256 < arg) (h2 : arg ≠ 512) (hlt : arg < 1024) :
    hdCountBody n arg s = .faults s 1 := by
  have hlow : fieldOf arg 0 8 = arg % 256 := by simp [fieldOf]
  have hhigh : fieldOf arg 8 2 = arg / 256 % 4 := rfl
  unfold hdCountBody
  dsimp only
  split
  case h_1 h0 => omega
  case h_2 h1 => exact if_pos (by omega)
  case h_3 h2 => exact if_pos (by omega)
  case h_4 => rfl

theorem hdMatchBody_illegal {n arg pins : Nat} {s : State} (h : 512 ≤ arg) (hlt : arg < 1024) :
    hdMatchBody n pins arg s = .faults s 1 := by
  have hhigh : fieldOf arg 8 2 = arg / 256 % 4 := rfl
  unfold hdMatchBody
  split
  case h_1 h0 => omega
  case h_2 h1 => omega
  case h_3 => rfl

theorem hdTimeoutBody_illegal {n arg : Nat} {s : State} (h : 512 < arg) (hlt : arg < 1024) :
    hdTimeoutBody n arg s = .faults s 1 := by
  have h9 : bitOf arg 9 = true := by
    have hdiv : arg / 512 = 1 := by omega
    simp [bitOf, hdiv]
  have hlow : fieldOf arg 0 9 = arg % 512 := by simp [fieldOf]
  exact (if_pos h9).trans (if_pos (by omega))

theorem hdBranchBody_illegal {n arg pins : Nat} {s : State} (h : fieldOf arg 7 3 = 7) : hdBranchBody n pins arg s = .faults s 1 := by
  simp only [hdBranchBody, h]

/-- An operation whose body refuses its argument faults with ILLEGAL. -/
theorem answers_illegal {c : Instr} {op : Nat} {body : Nat → State → HdRes} (hc : exec c s = .next (s.hdIssue n op false body))
    (hrun : s.hdRuns n op = true) (hop : op < 12) (hbody : body (s.hdArg n) (s.hdStart n) = .faults (s.hdStart n) 1) :
    Answers c s fun t => HdFaulted s t n 1 [Reg.HEDDLE_STAT_FLAG.at n] :=
  ⟨_, hc, hdIssue_faulted hrun hop (by decide) hbody (.refl ..)⟩

/-- An OP code above 11 is no operation (R616). -/
theorem hdIssue_noOperation {op : Nat} {body : Nat → State → HdRes} (hstate : s.hdState n = 1)
    (hop : 12 ≤ fieldOf (s.hdWord n) 20 4) : s.hdIssue n op false body = s.hdFault n 1 := by
  unfold State.hdIssue
  simp only [hstate, ne_eq, not_true_eq_false, Bool.false_eq_true, if_false, hop, if_true]

theorem heddle_illegal {pins : BitVec 64} {c : Instr} (hc : (c = .heddleNop n false ∧ s.hdRuns n 0 = true ∧ s.hdArg n ≠ 0) ∨
    (c = .sample n pins false ∧ s.hdRuns n 1 = true ∧ (fieldOf (s.hdArg n) 5 5 ≠ 0 ∨ bitOf (s.hdArg n) 3 = true)) ∨
    (c = .drive n false ∧ s.hdRuns n 2 = true ∧ fieldOf (s.hdArg n) 4 4 ≠ 0) ∨
    (c = .await n pins pins false ∧ s.hdRuns n 3 = true ∧ awaitLegal (s.hdArg n) = false) ∨
    (c = .count n false ∧ s.hdRuns n 4 = true ∧ 256 < s.hdArg n ∧ s.hdArg n ≠ 512) ∨
    (c = .shift n false ∧ s.hdRuns n 5 = true ∧ fieldOf (s.hdArg n) 5 5 ≠ 0) ∨
    (c = .emit n false ∧ s.hdRuns n 6 = true ∧ fieldOf (s.hdArg n) 2 8 ≠ 0) ∨
    (c = .take n false ∧ s.hdRuns n 7 = true ∧ fieldOf (s.hdArg n) 7 3 ≠ 0) ∨
    (c = .branch n pins false ∧ s.hdRuns n 8 = true ∧ fieldOf (s.hdArg n) 7 3 = 7) ∨
    (c = .hdMatch n pins false ∧ s.hdRuns n 9 = true ∧ 512 ≤ s.hdArg n) ∨
    (c = .timeout n false ∧ s.hdRuns n 10 = true ∧ 512 < s.hdArg n) ∨
    (c = .signal n false ∧ s.hdRuns n 11 = true ∧ (fieldOf (s.hdArg n) 4 4 ≠ 0 ∨ bitOf (s.hdArg n) 9 = true)) ∨
    (c = .drive n false ∧ s.hdState n = 1 ∧ 12 ≤ fieldOf (s.hdWord n) 20 4)) :
    Answers c s fun t => HdFaulted s t n 1 [Reg.HEDDLE_STAT_FLAG.at n] := by
  have hlt : s.hdArg n < 1024 := Nat.mod_lt _ (by decide)
  rcases hc with ⟨rfl, hrun, h⟩ | ⟨rfl, hrun, h⟩ | ⟨rfl, hrun, h⟩ | ⟨rfl, hrun, h⟩ | ⟨rfl, hrun, h, h'⟩ | ⟨rfl, hrun, h⟩ |
    ⟨rfl, hrun, h⟩ | ⟨rfl, hrun, h⟩ | ⟨rfl, hrun, h⟩ | ⟨rfl, hrun, h⟩ | ⟨rfl, hrun, h⟩ | ⟨rfl, hrun, h⟩ | ⟨rfl, hstate, h⟩
  · exact answers_illegal rfl hrun (by decide) (if_pos h)
  · exact answers_illegal rfl hrun (by decide) (if_pos h)
  · exact answers_illegal rfl hrun (by decide) (if_pos h)
  · exact answers_illegal rfl hrun (by decide) (if_pos (by simp [h]))
  · exact answers_illegal rfl hrun (by decide) (hdCountBody_illegal h h' hlt)
  · exact answers_illegal rfl hrun (by decide) (if_pos h)
  · exact answers_illegal rfl hrun (by decide) (if_pos h)
  · exact answers_illegal rfl hrun (by decide) (if_pos h)
  · exact answers_illegal rfl hrun (by decide) (hdBranchBody_illegal h)
  · exact answers_illegal rfl hrun (by decide) (hdMatchBody_illegal h hlt)
  · exact answers_illegal rfl hrun (by decide) (hdTimeoutBody_illegal h hlt)
  · exact answers_illegal rfl hrun (by decide) (if_pos h)
  · exact ⟨_, congrArg Host.Outcome.next (hdIssue_noOperation hstate h),
      hdFault_faulted 1 (by decide) (OnHeddle.refl n [Reg.HEDDLE_STAT_FLAG] [] s) (by decide)⟩

end

/-! ### An uncorrectable fetch (R608) -/

/-- The fields of different Heddles lie apart. -/
theorem key_hd_ne_of_ne {f g : Field} {n m : Nat} (hnm : m ≠ n) (hf : f.s1 = 128) (hg : g.s1 = 128)
    (hfl : 0x40080000 * 32 ≤ f.key) (hfh : f.key < 0x40080080 * 32) (hgl : 0x40080000 * 32 ≤ g.key) (hgh : g.key < 0x40080080 * 32) :
    (g.at m).key ≠ (f.at n).key := by
  simp only [Field.key, Field.at, hf, hg] at *
  omega

/-- The fields of the Heddles lie below those that the Heddles share. -/
theorem key_hd_lt (f : Field) (n : Fin 16) (hs : f.s1 = 128) (hf : f.key < 0x40080080 * 32) : (f.at n).key < 0x40080800 * 32 := by
  have hn := n.isLt
  simp only [Field.key, Field.at, hs] at hf ⊢
  omega

/-- Heddle `m` is FAULTED with ECC and disabled. -/
def State.eccFaulted (s : State) (m : Nat) : Prop :=
  s.hdState m = 3 ∧ s.rd (Reg.HEDDLE_STAT_FAULT.at m) = 3 ∧ s.rd (Reg.HEDDLE_CTRL_EN.at m) = 0

/-- Heddle `m` is in RUN or WAIT. -/
def State.hdActive (s : State) (m : Nat) : Prop := s.hdState m = 1 ∨ s.hdState m = 2

/-- What an uncorrectable fetch does to one Heddle of the block. -/
def State.eccFault (s : State) (m : Nat) : State := if s.hdState m = 1 ∨ s.hdState m = 2 then s.hdFault m 3 else s

theorem hdFault_rd_ne (s : State) {n m : Fin 16} (hm : m ≠ n) (code : Nat) {g : Field} (hg : g ∈ hdFaultFields) :
    (s.hdFault n code).rd (g.at m) = s.rd (g.at m) := by
  have hfields : ∀ f ∈ hdFaultFields, f.s1 = 128 ∧ 0x40080000 * 32 ≤ f.key ∧ f.key < 0x40080080 * 32 := by decide
  obtain ⟨hg1, hgl, hgh⟩ := hfields g hg
  rw [hdFault_eq, event_rd _ _ _ _ _ (key_hd_ne_intstat g m hg1 hgh)]
  obtain ⟨-, -, -, hkeep⟩ := hdFaultRegs_onHeddle s n code
  refine (hkeep.1 _).resolve_left fun hmem => ?_
  simp only [List.map_map, List.mem_map, Function.comp_apply] at hmem
  obtain ⟨f, hf, hk⟩ := hmem
  obtain ⟨hf1, hfl, hfh⟩ := hfields f hf
  exact key_hd_ne_of_ne (fun e => hm (Fin.ext e)) hf1 hg1 hfl hfh hgl hgh hk.symm

theorem hdFault_hd_ne (s : State) {n m : Nat} (hm : m ≠ n) (code : Nat) : (s.hdFault n code).hd m = s.hd m := by
  rw [hdFault_eq, event_hd]
  obtain ⟨-, -, hother, -⟩ := hdFaultRegs_onHeddle s n code
  exact hother m hm

/-- A fault of one Heddle leaves the state of another. -/
theorem eccFault_ne (s : State) {n m : Fin 16} (hm : m ≠ n) :
    (∀ g ∈ hdFaultFields, (s.eccFault n).rd (g.at m) = s.rd (g.at m)) ∧ (s.eccFault n).hd m = s.hd m := by
  unfold State.eccFault
  split
  · exact ⟨fun g hg => hdFault_rd_ne s hm 3 hg, hdFault_hd_ne s (fun e => hm (Fin.ext e)) 3⟩
  · exact ⟨fun _ _ => rfl, rfl⟩

theorem eccFault_same (s : State) (m : Fin 16) (h : s.hdActive m ∨ s.eccFaulted m) : (s.eccFault m).eccFaulted m := by
  unfold State.eccFault
  split
  · obtain ⟨hstate, hfault, hen, -⟩ := hdFault_faulted 3 (by decide) (OnHeddle.refl m [] [] s) (by decide)
    exact ⟨hstate, hfault, hen⟩
  · exact h.resolve_left ‹_›

theorem eccFault_keeps_active (s : State) {n m : Fin 16} (hm : m ≠ n) (h : s.hdActive m) : (s.eccFault n).hdActive m := by
  obtain ⟨hrd, -⟩ := eccFault_ne s hm
  simpa only [State.hdActive, State.hdState, hrd Reg.HEDDLE_STAT_STATE (by simp [hdFaultFields])] using h

theorem eccFault_keeps_faulted (s : State) (n m : Fin 16) (h : s.eccFaulted m) : (s.eccFault n).eccFaulted m := by
  by_cases hm : m = n
  · exact hm ▸ eccFault_same s m (.inr h)
  · obtain ⟨hrd, -⟩ := eccFault_ne s hm
    simpa only [State.eccFaulted, State.hdState, hrd Reg.HEDDLE_STAT_STATE (by simp [hdFaultFields]),
      hrd Reg.HEDDLE_STAT_FAULT (by simp [hdFaultFields]), hrd Reg.HEDDLE_CTRL_EN (by simp [hdFaultFields])] using h

theorem each_eccFault_faulted (m : Fin 16) (l : List (Fin 16)) (s : State) (h : m ∈ l ∧ s.hdActive m ∨ s.eccFaulted m) :
    (s.each l fun s k => s.eccFault k).eccFaulted m := by
  induction l generalizing s with
  | nil => exact h.resolve_left fun h => List.not_mem_nil h.1
  | cons k l ih =>
    refine ih (s.eccFault k) ?_
    rcases h with ⟨hmem, hact⟩ | h
    · by_cases hm : m = k
      · exact .inr (hm ▸ eccFault_same s m (.inl hact))
      · exact .inl ⟨(List.mem_cons.1 hmem).resolve_left hm, eccFault_keeps_active s hm hact⟩
    · exact .inr (eccFault_keeps_faulted s k m h)

theorem each_eccFault_ne (m : Fin 16) (l : List (Fin 16)) (s : State) (h : m ∉ l) :
    (s.each l fun s k => s.eccFault k).hdState m = s.hdState m ∧ (s.each l fun s k => s.eccFault k).hd m = s.hd m := by
  induction l generalizing s with
  | nil => exact ⟨rfl, rfl⟩
  | cons k l ih =>
    obtain ⟨hmk, hml⟩ := not_or.1 (mt List.mem_cons.2 h)
    obtain ⟨hrd, hhd⟩ := eccFault_ne s hmk
    obtain ⟨istate, ihd⟩ := ih (s.eccFault k) hml
    exact ⟨istate.trans (hrd Reg.HEDDLE_STAT_STATE (by simp [hdFaultFields])), ihd.trans hhd⟩

/-- The Heddles of a block. -/
def blockHeddles (b : Fin 2) : List (Fin 16) := (List.finRange 8).map fun k : Fin 8 => ⟨8 * b.val + k.val, by omega⟩

theorem mem_blockHeddles {b : Fin 2} {m : Fin 16} : m ∈ blockHeddles b ↔ m.val / 8 = b := by
  revert b m
  decide

theorem hdEcc_eq (s : State) (b : Fin 2) : s.hdEcc b =
    (s.each (blockHeddles b) fun s k => s.eccFault k).wrBit Reg.HEDDLE_BLOCKSTAT_ECC b true := by
  have hl : blockHeddles b = (List.finRange 8).map fun k : Fin 8 => (⟨8 * b.val + k.val, by omega⟩ : Fin 16) := rfl
  rw [hl, State.each, List.foldl_map]
  rfl

/-- The flag of the block leaves the fields of every Heddle. -/
theorem wrBit_ecc_rd (s : State) (b : Nat) (f : Field) (m : Fin 16) (hs : f.s1 = 128) (hf : f.key < 0x40080080 * 32) :
    (s.wrBit Reg.HEDDLE_BLOCKSTAT_ECC b true).rd (f.at m) = s.rd (f.at m) := by
  refine s.rd_wr_ne _ _ _ ?_
  have hlt := key_hd_lt f m hs hf
  have hecc : Reg.HEDDLE_BLOCKSTAT_ECC.key = 0x40080808 * 32 := rfl
  omega

@[simp] theorem State.wrBit_hd (s : State) (f : Field) (k : Nat) (b : Bool) (m : Nat) : (s.wrBit f k b).hd m = s.hd m := rfl

theorem hdEcc_faults (s : State) (n : Fin 16) :
    bitOf ((s.hdEcc (n / 8)).rd Reg.HEDDLE_BLOCKSTAT_ECC) (n / 8) = true ∧
    (∀ m : Fin 16, m.val / 8 = n.val / 8 → s.hdState m = 1 ∨ s.hdState m = 2 →
      (s.hdEcc (n / 8)).hdState m = 3 ∧ (s.hdEcc (n / 8)).rd (Reg.HEDDLE_STAT_FAULT.at m) = 3 ∧
        (s.hdEcc (n / 8)).rd (Reg.HEDDLE_CTRL_EN.at m) = 0) ∧
    (∀ m : Fin 16, m.val / 8 ≠ n.val / 8 → (s.hdEcc (n / 8)).hdState m = s.hdState m ∧ (s.hdEcc (n / 8)).hd m = s.hd m) := by
  have hb : n.val / 8 < 2 := by omega
  have hrd (f : Field) (m : Fin 16) (hs : f.s1 = 128) (hf : f.key < 0x40080080 * 32) :=
    wrBit_ecc_rd (s.each (blockHeddles ⟨n / 8, hb⟩) fun s k => s.eccFault k) (n / 8) f m hs hf
  rw [hdEcc_eq s ⟨n / 8, hb⟩]
  refine ⟨State.bit_wrBit_true _ _ _ hb, fun m hm hact => ?_, fun m hm => ?_⟩
  · obtain ⟨hstate, hfault, hen⟩ := each_eccFault_faulted m (blockHeddles ⟨n / 8, hb⟩) s (.inl ⟨mem_blockHeddles.2 hm, hact⟩)
    exact ⟨(hrd Reg.HEDDLE_STAT_STATE m (by decide) (by decide)).trans hstate,
      (hrd Reg.HEDDLE_STAT_FAULT m (by decide) (by decide)).trans hfault,
      (hrd Reg.HEDDLE_CTRL_EN m (by decide) (by decide)).trans hen⟩
  · obtain ⟨hstate, hhd⟩ := each_eccFault_ne m (blockHeddles ⟨n / 8, hb⟩) s fun hmem => hm (mem_blockHeddles.1 hmem)
    exact ⟨(hrd Reg.HEDDLE_STAT_STATE m (by decide) (by decide)).trans hstate, (State.wrBit_hd ..).trans hhd⟩

theorem hdIssue_ecc {s : State} {n op : Nat} {body : Nat → State → HdRes} (h : s.hdState n = 1) :
    s.hdIssue n op true body = s.hdEcc (n / 8) := by
  simp [State.hdIssue, h]

theorem heddle_ecc {s : State} {n : Fin 16} {pins : BitVec 64} {c : Instr}
    (hc : c ∈ [Instr.heddleNop n true, .sample n pins true, .drive n true, .await n pins pins true, .count n true, .shift n true,
      .emit n true, .take n true, .branch n pins true, .hdMatch n pins true, .timeout n true, .signal n true])
    (hstate : s.hdState n = 1) : Answers c s fun t =>
      bitOf (t.rd Reg.HEDDLE_BLOCKSTAT_ECC) (n / 8) = true ∧
      (∀ m : Fin 16, m.val / 8 = n.val / 8 → s.hdState m = 1 ∨ s.hdState m = 2 →
        t.hdState m = 3 ∧ t.rd (Reg.HEDDLE_STAT_FAULT.at m) = 3 ∧ t.rd (Reg.HEDDLE_CTRL_EN.at m) = 0) ∧
      (∀ m : Fin 16, m.val / 8 ≠ n.val / 8 → t.hdState m = s.hdState m ∧ t.hd m = s.hd m) := by
  refine ⟨_, ?_, hdEcc_faults s n⟩
  simp only [List.mem_cons, List.not_mem_nil, or_false] at hc
  rcases hc with rfl | rfl | rfl | rfl | rfl | rfl | rfl | rfl | rfl | rfl | rfl | rfl <;>
    exact congrArg Host.Outcome.next (hdIssue_ecc hstate)

/-- Settles O33: each operation by the state in which it has run and from which the Heddle moves on; an argument that an operation
refuses by the fault of its body, and an uncorrectable fetch by the faults of the Heddles of the block one after the other. -/
theorem heddleOperations : Obligations.HeddleOperations :=
  ⟨fun _ _ => heddleNop_goesOn, fun _ _ _ => sample_full, fun _ _ _ => sample_catches, fun _ _ _ => sample_delivers,
    fun _ _ => drive_goesOn, fun _ _ => count_loads, fun _ _ => count_reloads, fun _ _ => count_down, fun _ _ _ => branch_goesOn,
    fun _ _ _ => branch_badPc, fun _ _ _ => hdMatch_pattern, fun _ _ _ => hdMatch_echo, fun _ _ => timeout_loads,
    fun _ _ => signal_goesOn, fun _ _ _ _ => heddle_illegal, fun _ _ _ _ => heddle_ecc⟩

/-! ### A Heddle that waits (R613, R617 to R620) -/

section
variable {n arg k : Nat} {fs : List Field} {p : List Part} {s t u : State}

/-- The instruction ends in a Heddle `h` with `flag` in FLAG. -/
theorem OnHeddle.advancesTo {target : Option Nat} {next hold flag : Nat} {h : Heddle}
    (hframe : OnHeddle n (Reg.HEDDLE_STAT_FLAG :: fs) p s u) (hnext : target.getD (s.hdNext n) = next)
    (hlen : next < s.rd (Reg.HEDDLE_REGION_LEN.at n)) (hr : keepsRegion (Reg.HEDDLE_STAT_FLAG :: fs) = true)
    (hh : { u.hd n with t := (u.hd n).t - hold, stalled := false } = h) (hflag : u.flagAfter n hold = flag) :
    HdGoesOn s (u.hdAdvance n hold target) n next h flag (fs.map (·.at n)) p := by
  subst hh hflag
  exact hframe.advances hr hold hnext hlen

@[simp] theorem State.awaitCount_hed (s : State) (n arg k : Nat) : (s.awaitCount n arg k).hed = s.hed := by
  unfold State.awaitCount
  split <;> rfl

@[simp] theorem State.awaitCount_hd (s : State) (n m arg k : Nat) : (s.awaitCount n arg k).hd m = s.hd m :=
  State.hd_of_hed (s.awaitCount_hed n arg k) m

theorem OnHeddle.awaitCount (h : OnHeddle n fs p s t) (hf : Reg.HEDDLE_CNT_CNT ∈ fs) : OnHeddle n fs p s (t.awaitCount n arg k) :=
  .ite (h.wr _ _ hf) h

theorem awaitCount_onHeddle (s : State) (n arg k : Nat) : OnHeddle n [Reg.HEDDLE_CNT_CNT] [] s (s.awaitCount n arg k) :=
  (OnHeddle.refl ..).awaitCount (by simp)

@[simp] theorem State.awaitCount_flag (s : State) (n arg k : Nat) :
    (s.awaitCount n arg k).rd (Reg.HEDDLE_STAT_FLAG.at n) = s.rd (Reg.HEDDLE_STAT_FLAG.at n) :=
  (awaitCount_onHeddle s n arg k).rd _ (by decide)

@[simp] theorem State.awaitCount_cnt (s : State) (n arg k : Nat) : (s.awaitCount n arg k).rd (Reg.HEDDLE_CNT_CNT.at n) =
    if fieldOf arg 7 3 = 2 then (s.rd (Reg.HEDDLE_CNT_CNT.at n) - k) % 65536 else s.rd (Reg.HEDDLE_CNT_CNT.at n) := by
  unfold State.awaitCount
  split
  · exact State.rd_wr_same _ (Reg.HEDDLE_CNT_CNT.at n) _
  · rfl

@[simp] theorem awaitCount_slotReads (s : State) (n arg k pins j : Nat) :
    (s.awaitCount n arg k).slotReads n pins j = s.slotReads n pins j :=
  (awaitCount_onHeddle s n arg k).slotReads (by decide) (by decide)

@[simp] theorem awaitCount_hdRxSize (s : State) (n arg k : Nat) : (s.awaitCount n arg k).hdRxSize n = s.hdRxSize n := by
  simp only [State.hdRxSize, State.hdTxSize, (awaitCount_onHeddle s n arg k).rd Reg.HEDDLE_CTRL_SPLIT (by decide)]

@[simp] theorem State.awaitEnd_hd (s : State) (n arg : Nat) : (s.awaitEnd n arg).hd n =
    { s.hd n with angLatch := (s.hd n).angLatch && fieldOf arg 7 3 != 3, timeLatch := (s.hd n).timeLatch && fieldOf arg 7 3 != 4 } := by
  simp [State.awaitEnd]

@[simp] theorem State.awaitEnd_flag (s : State) (n arg : Nat) : (s.awaitEnd n arg).rd (Reg.HEDDLE_STAT_FLAG.at n) = 0 :=
  State.hdFlag_flag _ _ _

@[simp] theorem State.awaitEnd_irq (s : State) (n arg : Nat) : (s.awaitEnd n arg).hed.irq = s.hed.irq := rfl

theorem OnHeddle.awaitEnd (h : OnHeddle n fs p s t) (hf : Reg.HEDDLE_STAT_FLAG ∈ fs) : OnHeddle n fs p s (t.awaitEnd n arg) :=
  (h.setHd _).hdFlag _ hf

/-- AWAIT's condition does not depend on what the first cycle has done to T and the pinset. -/
theorem hdStart_awaitMet (s : State) (n before now arg k : Nat) :
    ((s.hdStart n).awaitCount n arg k).awaitMet n before now arg = (s.awaitCount n arg k).awaitMet n before now arg := by
  have hcnt : (s.hdStart n).rd (Reg.HEDDLE_CNT_CNT.at n) = s.rd (Reg.HEDDLE_CNT_CNT.at n) :=
    hdStart_rd _ _ _ (by decide) (by decide)
  simp only [State.awaitMet, awaitCount_slotReads, hdStart_slotReads, State.awaitCount_cnt, hcnt, State.awaitCount_hd, hdStart_hd,
    awaitCount_hdRxSize, hdStart_hdRxSize]

@[simp] theorem hdStart_awaitNoQueue (s : State) (n arg : Nat) : (s.hdStart n).awaitNoQueue n arg = s.awaitNoQueue n arg := by
  simp [State.awaitNoQueue]

variable {before now : Nat}

theorem hdAwaitBody_of_met (hlegal : awaitLegal arg = true) (hqueue : s.awaitNoQueue n arg = false)
    (hmet : (s.awaitCount n arg 1).awaitMet n before now arg = true) :
    hdAwaitBody n before now arg s = .done ((s.awaitCount n arg 1).awaitEnd n arg) none := by
  simp [hdAwaitBody, hlegal, hqueue, hmet]

theorem hdAwaitBody_of_unmet (hlegal : awaitLegal arg = true) (hqueue : s.awaitNoQueue n arg = false)
    (hmet : (s.awaitCount n arg 1).awaitMet n before now arg = false) :
    hdAwaitBody n before now arg s = .waits (s.awaitCount n arg 1) := by
  simp [hdAwaitBody, hlegal, hqueue, hmet]

theorem hdAwaitBody_noQueue (hlegal : awaitLegal arg = true) (hqueue : s.awaitNoQueue n arg = true) :
    hdAwaitBody n before now arg s = .faults s 4 := by
  simp [hdAwaitBody, hlegal, hqueue]

end

section
variable {s : State} {n : Fin 16} {before now : BitVec 64}

theorem await_ends (hrun : s.hdRuns n 3 = true) (hlen : s.hdNext n < s.rd (Reg.HEDDLE_REGION_LEN.at n))
    (hlegal : awaitLegal (s.hdArg n) = true) (hqueue : s.awaitNoQueue n (s.hdArg n) = false)
    (hmet : (s.awaitCount n (s.hdArg n) 1).awaitMet n before.toNat now.toNat (s.hdArg n) = true) :
    Answers (.await n before now false) s fun t =>
      HdGoesOn s t n (s.hdNext n) { s.hdBase n with
          angLatch := (s.hd n).angLatch && fieldOf (s.hdArg n) 7 3 != 3,
          timeLatch := (s.hd n).timeLatch && fieldOf (s.hdArg n) 7 3 != 4 } (s.hdFlagThen n 0) [Reg.HEDDLE_CNT_CNT.at n] [] ∧
        t.hed.irq = s.hed.irq := by
  refine answers_hdIssue rfl hrun (by decide)
    (hdAwaitBody_of_met hlegal (by simpa using hqueue) ((hdStart_awaitMet ..).trans hmet)) ⟨?_, by simp⟩
  exact (((OnHeddle.refl ..).awaitCount (by simp)).awaitEnd (by simp)).goesOn (fs := [Reg.HEDDLE_CNT_CNT]) rfl hlen (by decide)
    (by simp) (by simp [State.hdBase]) (by simp)

theorem await_waits (hrun : s.hdRuns n 3 = true) (hlegal : awaitLegal (s.hdArg n) = true)
    (hqueue : s.awaitNoQueue n (s.hdArg n) = false)
    (hmet : (s.awaitCount n (s.hdArg n) 1).awaitMet n before.toNat now.toNat (s.hdArg n) = false) (ht : (s.hd n).t ≠ 1) :
    Answers (.await n before now false) s fun t =>
      t.hdState n = 2 ∧ t.rd (Reg.HEDDLE_STAT_FLAG.at n) = s.hdFlagFound n ∧ (t.hd n).t = (s.hd n).t - 1 ∧
        t.rd (Reg.HEDDLE_STAT_PC.at n) = s.rd (Reg.HEDDLE_STAT_PC.at n) ∧ t.hed.irq = s.hed.irq ∧
        KeepsBut [Reg.HEDDLE_STAT_STATE.at n, Reg.HEDDLE_STAT_FLAG.at n, Reg.HEDDLE_CNT_CNT.at n] [.hed] s t := by
  have hbody := hdAwaitBody_of_unmet hlegal ((hdStart_awaitNoQueue ..).trans hqueue) ((hdStart_awaitMet ..).trans hmet)
  have hframe : OnHeddle n [Reg.HEDDLE_STAT_STATE, Reg.HEDDLE_STAT_FLAG, Reg.HEDDLE_CNT_CNT] [] s
      (((s.hdStart n).awaitCount n (s.hdArg n) 1).wr (Reg.HEDDLE_STAT_STATE.at n) 2) :=
    ((((hdStart_onHeddle s n).mono (by simp) (by simp)).awaitCount (by simp))).wr _ 2 (by simp)
  refine ⟨_, congrArg Host.Outcome.next (hdIssue_waits hrun (by decide) ht hbody), ?_, ?_, by simp, hframe.rd _ (by decide), by simp,
    hframe.keeps⟩
  · exact State.rd_wr_same _ (Reg.HEDDLE_STAT_STATE.at n) 2
  · simp (disch := decide) [State.rd_wr_at]

/-- The wait has ended: T has counted it, and its condition has cleared FLAG. -/
theorem awaitConditionMet_ends {k : Nat} (hstate : s.hdState n = 2) (hstall : (s.hd n).stalled = false)
    (ht : (s.hd n).t = 0 ∨ k ≤ (s.hd n).t)
    (hmet : (s.awaitCount n (s.hdArg n) k).awaitMet n before.toNat now.toNat (s.hdArg n) = true)
    (hlen : s.hdNext n < s.rd (Reg.HEDDLE_REGION_LEN.at n)) : Answers (.awaitConditionMet n k before now) s fun t =>
      HdGoesOn s t n (s.hdNext n) { s.hd n with
          t := (s.hd n).t - (k + s.hdHold n),
          angLatch := (s.hd n).angLatch && fieldOf (s.hdArg n) 7 3 != 3,
          timeLatch := (s.hd n).timeLatch && fieldOf (s.hdArg n) 7 3 != 4 }
        (if k < (s.hd n).t ∧ (s.hd n).t ≤ k + s.hdHold n then 1 else 0) [Reg.HEDDLE_CNT_CNT.at n] [] ∧
      t.hed.irq = s.hed.irq := by
  have hexec : exec (.awaitConditionMet n k before now) s =
      .next ((((s.awaitCount n (s.hdArg n) k).hdCount n k).awaitEnd n (s.hdArg n)).hdAdvance n (s.hdHold n) none) := by
    change execAwaitConditionMet n k before now s = _
    have hrest : ¬(0 < (s.hd n).t ∧ (s.hd n).t < k) := by omega
    unfold execAwaitConditionMet
    dsimp only
    rw [if_neg (by simp [hstate, hstall]), if_neg hrest, if_neg (by simpa [State.hdArg] using hmet)]
    rfl
  refine ⟨_, hexec, ?_, by simp⟩
  refine ((((OnHeddle.refl ..).awaitCount (by simp)).hdCount _ (by simp)).awaitEnd (by simp)).advancesTo
    (fs := [Reg.HEDDLE_CNT_CNT]) rfl hlen (by decide) ?_ ?_
  · simp [hstall, Nat.sub_sub]
  · simp only [State.flagAfter, State.awaitEnd_hd, State.awaitEnd_flag, State.hdCount_hd, State.awaitCount_hd]
    congr 1
    exact propext (by omega)

theorem hdExpire_goesOn (hlen : s.hdNext n < s.rd (Reg.HEDDLE_REGION_LEN.at n)) :
    HdGoesOn s (s.hdExpire n) n (s.hdNext n) { s.hd n with t := 0, stalled := false } 1 [Reg.HEDDLE_CNT_CNT.at n] [] := by
  refine ((((OnHeddle.refl ..).awaitCount (by simp)).setHd _).hdFlag _ (by simp)).advancesTo
    (fs := [Reg.HEDDLE_CNT_CNT]) rfl hlen (by decide) (by simp) ?_
  simp [State.flagAfter, b2n]

/-- T that expires ends a wait and a stall alike (R620). -/
theorem heddle_expires {k : Nat} {pins : BitVec 64} {c : Instr} (hstate : s.hdState n = 2) (ht : 0 < (s.hd n).t)
    (hc : (c = .awaitConditionMet n k pins pins ∧ (s.hd n).stalled = false ∧ (s.hd n).t < k) ∨
      (c = .heddleStallRelease n k ∧ (s.hd n).stalled = true ∧ (s.hd n).t < k) ∨ c = .heddleTExpiry n)
    (hlen : s.hdNext n < s.rd (Reg.HEDDLE_REGION_LEN.at n)) : Answers c s fun t =>
      HdGoesOn s t n (s.hdNext n) { s.hd n with t := 0, stalled := false } 1 [Reg.HEDDLE_CNT_CNT.at n] [] ∧
        t.hed.irq = s.hed.irq := by
  have hexec : exec c s = .next (s.hdExpire n) := by
    rcases hc with ⟨rfl, hstall, hk⟩ | ⟨rfl, hstall, hk⟩ | rfl
    · change execAwaitConditionMet n k pins pins s = _
      simp [execAwaitConditionMet, hstate, hstall, ht, hk]
    · change execHeddleStallRelease n k s = _
      simp [execHeddleStallRelease, hstate, hstall, ht, hk]
    · change execHeddleTExpiry n s = _
      simp [execHeddleTExpiry, hstate, Nat.ne_of_gt ht]
  exact ⟨_, hexec, hdExpire_goesOn hlen, by simp [State.hdExpire]⟩

theorem heddleTExpiry_inRun (hstate : s.hdState n = 1) (ht : 0 < (s.hd n).t) : Answers (.heddleTExpiry n) s fun t =>
    t.hd n = { s.hd n with t := 0 } ∧ t.rd (Reg.HEDDLE_STAT_FLAG.at n) = 1 ∧ t.hdState n = 1 ∧
      KeepsBut [Reg.HEDDLE_STAT_FLAG.at n] [.hed] s t := by
  have hexec : exec (.heddleTExpiry n) s = .next ((s.setHd n { s.hd n with t := 0 }).hdFlag n true) := by
    change execHeddleTExpiry n s = _
    simp [execHeddleTExpiry, hstate, Nat.ne_of_gt ht]
  have hframe : OnHeddle n [Reg.HEDDLE_STAT_FLAG] [] s ((s.setHd n { s.hd n with t := 0 }).hdFlag n true) :=
    ((OnHeddle.refl ..).setHd _).hdFlag _ (by simp)
  exact ⟨_, hexec, by simp, State.hdFlag_flag _ _ _, (hframe.rd Reg.HEDDLE_STAT_STATE (by decide)).trans hstate, hframe.keeps⟩

theorem heddleTimeCompare_met (harm : (s.hd n).armed = true)
    (hmet : 0 ≤ signed 32 (shortOf s.time.dt + 2 ^ 32 - s.rd (Reg.HEDDLE_TTARGET_V.at n))) :
    Answers (.heddleTimeCompare n) s fun t =>
      (t.hd n).timeLatch = true ∧ (t.hd n).armed = decide (s.rd (Reg.HEDDLE_TPERIOD_V.at n) ≠ 0) ∧
        t.rd (Reg.HEDDLE_TTARGET_V.at n) = (s.rd (Reg.HEDDLE_TTARGET_V.at n) + s.rd (Reg.HEDDLE_TPERIOD_V.at n)) % 2 ^ 32 ∧
        KeepsBut [Reg.HEDDLE_TTARGET_V.at n] [.hed] s t := by
  refine ⟨_, congrArg Host.Outcome.next (if_pos ⟨harm, hmet⟩), by simp, by simp, State.rd_wr_same _ _ _, ?_⟩
  exact (((OnHeddle.refl n [Reg.HEDDLE_TTARGET_V] [] s).setHd _).wr _ _ (by simp)).keeps

end

/-! ### What the operations on the queues do (Table 10-3) -/

section
variable {n arg : Nat} {fs : List Field} {p : List Part} {s t : State}

/-- SHIFT has put the next bit of its lane on its slot. -/
def State.hdPlace (s : State) (n arg : Nat) : State :=
  (s.setHd n { s.hd n with
    lastOut := bitOf (s.hd n).sl (lanePos (bitOf arg 4) (s.hd n).sn) != bitOf arg 3, sn := (s.hd n).sn + 1 }).hdLevel n (arg % 8)
      (bitOf (s.hd n).sl (lanePos (bitOf arg 4) (s.hd n).sn) != bitOf arg 3)

theorem OnHeddle.hdPlace (h : OnHeddle n fs p s t) : OnHeddle n fs p s (t.hdPlace n arg) := (h.setHd _).setHd _

@[simp] theorem State.hdPlace_hd (s : State) (n arg : Nat) : (s.hdPlace n arg).hd n = { s.hd n with
    lastOut := bitOf (s.hd n).sl (lanePos (bitOf arg 4) (s.hd n).sn) != bitOf arg 3,
    sn := (s.hd n).sn + 1,
    lev := setBit (s.hd n).lev (arg % 8) (bitOf (s.hd n).sl (lanePos (bitOf arg 4) (s.hd n).sn) != bitOf arg 3) } := by
  simp [State.hdPlace]

@[simp] theorem State.hdPlace_rd (s : State) (n arg : Nat) (f : Field) : (s.hdPlace n arg).rd f = s.rd f := rfl
@[simp] theorem State.hdPlace_irq (s : State) (n arg : Nat) : (s.hdPlace n arg).hed.irq = s.hed.irq := rfl

/-- SHIFT has loaded a word into its lane. -/
def State.hdLoad (s : State) (n w : Nat) (q : List Nat) : State :=
  (s.hdSetTx n q).setHd n { (s.hdSetTx n q).hd n with sl := w, sn := 0 }

theorem OnHeddle.hdLoad {w : Nat} {q : List Nat} (h : OnHeddle n fs p s t) (hf : Reg.HEDDLE_STAT_TXFILL ∈ fs) (hp : Part.threads ∈ p) :
    OnHeddle n fs p s (t.hdLoad n w q) := (h.hdSetTx q hf hp).setHd _

@[simp] theorem State.hdLoad_hd (s : State) (n w : Nat) (q : List Nat) :
    (s.hdLoad n w q).hd n = { s.hd n with txq := q, sl := w, sn := 0 } := by simp [State.hdLoad]

@[simp] theorem State.hdLoad_rd (s : State) (n w : Nat) (q : List Nat) (f : Field) :
    (s.hdLoad n w q).rd f = (s.wr (Reg.HEDDLE_STAT_TXFILL.at n) q.length).rd f := s.hdSetTx_rd n q f

@[simp] theorem State.hdLoad_irq (s : State) (n w : Nat) (q : List Nat) : (s.hdLoad n w q).hed.irq = s.hed.irq := by
  simp [State.hdLoad]

theorem hdShiftBody_of_bits (h5 : fieldOf arg 5 5 = 0) (hsn : (s.hd n).sn ≠ (s.hd n).slen) :
    hdShiftBody n arg s = .done (s.hdPlace n arg) none := (if_neg (not_not.2 h5)).trans (if_pos hsn)

theorem hdShiftBody_of_word {w : Nat} {q : List Nat} (h5 : fieldOf arg 5 5 = 0) (hsn : (s.hd n).sn = (s.hd n).slen)
    (hsize : s.hdTxSize n ≠ 0) (hq : (s.hd n).txq = w :: q) :
    hdShiftBody n arg s = .done ((s.hdLoad n w q).hdPlace n arg) none := by
  unfold hdShiftBody
  simp only [h5, hsn, hsize, hq, ne_eq, not_true_eq_false, if_false]
  rfl

theorem hdShiftBody_stalls (h5 : fieldOf arg 5 5 = 0) (hsn : (s.hd n).sn = (s.hd n).slen) (hsize : s.hdTxSize n ≠ 0)
    (hq : (s.hd n).txq = []) : hdShiftBody n arg s = .stalls (s.wr (Reg.HEDDLE_STAT_UNDERRUN.at n) 1) := by
  unfold hdShiftBody
  simp only [h5, hsn, hsize, hq, ne_eq, not_true_eq_false, if_false]

theorem hdShiftBody_noQueue (h5 : fieldOf arg 5 5 = 0) (hsn : (s.hd n).sn = (s.hd n).slen) (hsize : s.hdTxSize n = 0) :
    hdShiftBody n arg s = .faults s 4 := by
  unfold hdShiftBody
  simp only [h5, hsn, hsize, ne_eq, not_true_eq_false, if_false, if_true]

/-- EMIT has delivered the catch lane, and cleared it where its argument says so. -/
def State.hdEmitted (s : State) (n arg : Nat) : State :=
  if bitOf arg 0 then (s.hdDeliver n (s.hd n).cl).setHd n { (s.hdDeliver n (s.hd n).cl).hd n with cl := 0, cn := 0 }
  else s.hdDeliver n (s.hd n).cl

theorem hdEmitBody_of_done (h2 : fieldOf arg 2 8 = 0) (hsize : s.hdRxSize n ≠ 0)
    (hroom : (s.hd n).rxq.length < s.hdRxSize n ∨ bitOf arg 1 = true) : hdEmitBody n arg s = .done (s.hdEmitted n arg) none := by
  have hstall : ¬(!bitOf arg 1 && decide (s.hdRxSize n ≤ (s.hd n).rxq.length)) = true := by
    rcases hroom with h | h
    · simp only [Bool.and_eq_true, decide_eq_true_eq, not_and]
      omega
    · simp [h]
  exact (if_neg (not_not.2 h2)).trans ((if_neg hsize).trans (if_neg hstall))

theorem hdEmitBody_stalls (harg : arg ≤ 1) (hsize : s.hdRxSize n ≠ 0) (hfull : s.hdRxSize n ≤ (s.hd n).rxq.length) :
    hdEmitBody n arg s = .stalls s := by
  have hargs : fieldOf arg 2 8 = 0 ∧ bitOf arg 1 = false := by
    interval_cases arg <;> decide
  obtain ⟨h2, h1⟩ := hargs
  exact (if_neg (not_not.2 h2)).trans ((if_neg hsize).trans (if_pos (by simp [h1, hfull])))

theorem hdEmitBody_noQueue (h2 : fieldOf arg 2 8 = 0) (hsize : s.hdRxSize n = 0) : hdEmitBody n arg s = .faults s 4 :=
  (if_neg (not_not.2 h2)).trans (if_pos hsize)

section
variable (hroom : (s.hd n).rxq.length < s.hdRxSize n)
include hroom

theorem hdEmitted_hd_of_room : (s.hdEmitted n arg).hd n = { s.hd n with
    rxq := (s.hd n).rxq ++ [(s.hd n).cl],
    cl := if bitOf arg 0 then 0 else (s.hd n).cl, cn := if bitOf arg 0 then 0 else (s.hd n).cn } := by
  rw [State.hdEmitted, hdDeliver_of_room _ hroom]
  split <;> simp

theorem hdEmitted_rd_of_room (f : Field) : (s.hdEmitted n arg).rd f =
    (s.wr (Reg.HEDDLE_STAT_RXFILL.at n) ((s.hd n).rxq ++ [(s.hd n).cl]).length).rd f := by
  rw [State.hdEmitted, hdDeliver_of_room _ hroom]
  split
  · exact State.hdSetRx_rd _ _ _ _
  · exact State.hdSetRx_rd _ _ _ _

theorem hdEmitted_irq_of_room : (s.hdEmitted n arg).hed.irq = s.hed.irq := by
  rw [State.hdEmitted, hdDeliver_of_room _ hroom]
  split <;> simp

theorem hdEmitted_onHeddle_of_room :
    OnHeddle n [Reg.HEDDLE_STAT_FLAG, Reg.HEDDLE_STAT_RXFILL] [.threads] s (s.hdEmitted n arg) := by
  rw [State.hdEmitted, hdDeliver_of_room _ hroom]
  exact .ite (((OnHeddle.refl ..).hdSetRx _ (by simp) (by simp)).setHd _) ((OnHeddle.refl ..).hdSetRx _ (by simp) (by simp))

end

/-- With no room the word is dropped and RX_OVF says so. -/
theorem hdEmitted_of_full (h : s.hdRxSize n ≤ (s.hd n).rxq.length) : s.hdEmitted n arg =
    if bitOf arg 0 then (s.wr (Reg.HEDDLE_STAT_RX_OVF.at n) 1).setHd n { s.hd n with cl := 0, cn := 0 }
    else s.wr (Reg.HEDDLE_STAT_RX_OVF.at n) 1 := by
  rw [State.hdEmitted, show s.hdDeliver n (s.hd n).cl = s.wr (Reg.HEDDLE_STAT_RX_OVF.at n) 1 from if_neg (Nat.not_lt.2 h)]
  rfl

/-- The shift length that a TAKE sets; one that the spec does not state is the free value of the present count (log entry 20). -/
def State.takeLen (s : State) (l : Nat) : Nat := if l = 0 then 32 else if l ≤ 32 then l else s.drawWord.1.toNat % 32 + 1

/-- The state in which a TAKE loads: a free value has been drawn where its length is not stated. -/
def State.takeDraw (s : State) (l : Nat) : State := if 32 < l then s.drawWord.2 else s

/-- TAKE has loaded a word, a beat of length `l`. -/
def State.hdTaken (s : State) (n l w : Nat) (q : List Nat) : State :=
  ((s.takeDraw l).hdSetTx n q).setHd n { ((s.takeDraw l).hdSetTx n q).hd n with sl := w, sn := 0, slen := s.takeLen l }

@[simp] theorem takeDraw_hed (s : State) (l : Nat) : (s.takeDraw l).hed = s.hed := by
  unfold State.takeDraw
  split <;> rfl

@[simp] theorem takeDraw_hd (s : State) (l m : Nat) : (s.takeDraw l).hd m = s.hd m := State.hd_of_hed (takeDraw_hed s l) m

@[simp] theorem takeDraw_rd (s : State) (l : Nat) (f : Field) : (s.takeDraw l).rd f = s.rd f := by
  unfold State.takeDraw
  split <;> rfl

theorem takeDraw_of_le (s : State) {l : Nat} (h : l ≤ 32) : s.takeDraw l = s := if_neg (Nat.not_lt.2 h)

theorem drawWord_keeps (s : State) : Keeps [.free] s s.drawWord.2 := fun p => by cases p <;> simp [Part.same]

theorem takeLen_of_le (s : State) {l : Nat} (h : l ≤ 32) : s.takeLen l = if l = 0 then 32 else l := by
  simp [State.takeLen, h]

theorem takeLen_bounds (s : State) (l : Nat) : 1 ≤ s.takeLen l ∧ s.takeLen l ≤ 32 := by
  have hfree : s.drawWord.1.toNat % 32 < 32 := Nat.mod_lt _ (by decide)
  unfold State.takeLen
  split
  · decide
  · split <;> omega

@[simp] theorem State.hdTaken_hd (s : State) (n l w : Nat) (q : List Nat) :
    (s.hdTaken n l w q).hd n = { s.hd n with txq := q, sl := w, sn := 0, slen := s.takeLen l } := by simp [State.hdTaken]

@[simp] theorem State.hdTaken_rd (s : State) (n l w : Nat) (q : List Nat) (f : Field) :
    (s.hdTaken n l w q).rd f = (s.wr (Reg.HEDDLE_STAT_TXFILL.at n) q.length).rd f := by
  refine (State.hdSetTx_rd _ n q f).trans ?_
  unfold State.takeDraw
  split <;> rfl

@[simp] theorem State.hdTaken_irq (s : State) (n l w : Nat) (q : List Nat) : (s.hdTaken n l w q).hed.irq = s.hed.irq := by
  simp [State.hdTaken]

theorem hdTaken_onHeddle (s : State) (n l w : Nat) (q : List Nat) :
    OnHeddle n [Reg.HEDDLE_STAT_FLAG, Reg.HEDDLE_STAT_TXFILL] [.free, .threads] s (s.hdTaken n l w q) := by
  have hdraw : OnHeddle n [Reg.HEDDLE_STAT_FLAG, Reg.HEDDLE_STAT_TXFILL] [.free, .threads] s (s.takeDraw l) :=
    .ite ((OnHeddle.refl ..).part (drawWord_keeps s) rfl (by simp) (by simp)) (.refl ..)
  exact (hdraw.hdSetTx q (by simp) (by simp)).setHd _

/-- A beat of a stated length draws no free value. -/
theorem hdTaken_onHeddle_of_le (s : State) (n w : Nat) {l : Nat} (q : List Nat) (hl : l ≤ 32) :
    OnHeddle n [Reg.HEDDLE_STAT_FLAG, Reg.HEDDLE_STAT_TXFILL] [.threads] s (s.hdTaken n l w q) := by
  rw [State.hdTaken, takeDraw_of_le s hl]
  exact ((OnHeddle.refl ..).hdSetTx q (by simp) (by simp)).setHd _

theorem hdTakeBody_of_word {w : Nat} {q : List Nat} (h7 : fieldOf arg 7 3 = 0) (hsize : s.hdTxSize n ≠ 0) (hq : (s.hd n).txq = w :: q) :
    hdTakeBody n arg s = .done (if bitOf arg 6 then (s.hdTaken n (fieldOf arg 0 6) w q).hdFlag n false
      else s.hdTaken n (fieldOf arg 0 6) w q) none := by
  unfold hdTakeBody
  simp only [h7, hsize, hq, ne_eq, not_true_eq_false, if_false]
  rfl

theorem hdTakeBody_of_empty (h7 : fieldOf arg 7 3 = 0) (hsize : s.hdTxSize n ≠ 0) (hq : (s.hd n).txq = []) :
    hdTakeBody n arg s = if bitOf arg 6 then .done (s.hdFlag n true) none else .stalls s := by
  unfold hdTakeBody
  simp only [h7, hsize, hq, ne_eq, not_true_eq_false, if_false]

theorem hdTakeBody_noQueue (h7 : fieldOf arg 7 3 = 0) (hsize : s.hdTxSize n = 0) : hdTakeBody n arg s = .faults s 4 :=
  (if_neg (not_not.2 h7)).trans (if_pos hsize)

/-- Bit 6 of TAKE's argument, where no bit above it is set. -/
theorem take_argument (h : fieldOf arg 6 4 ≤ 1) : fieldOf arg 7 3 = 0 ∧ bitOf arg 6 = decide (fieldOf arg 6 4 = 1) := by
  have h64 : fieldOf arg 6 4 = arg / 64 % 16 := rfl
  have h128 : fieldOf arg 7 3 = arg / 128 % 8 := rfl
  refine ⟨by omega, decide_eq_decide.2 ?_⟩
  change arg / 64 % 2 = 1 ↔ _
  omega

end

/-! ### The operations on the queues (R613, R615, R629) -/

section
variable {s : State} {n : Fin 16}

theorem shift_places (hrun : s.hdRuns n 5 = true) (hlen : s.hdNext n < s.rd (Reg.HEDDLE_REGION_LEN.at n))
    (h5 : fieldOf (s.hdArg n) 5 5 = 0) (hsn : (s.hd n).sn ≠ (s.hd n).slen) : Answers (.shift n false) s fun t =>
      HdGoesOn s t n (s.hdNext n) { s.hdBase n with
          lastOut := bitOf (s.hd n).sl (lanePos (bitOf (s.hdArg n) 4) (s.hd n).sn) != bitOf (s.hdArg n) 3,
          sn := (s.hd n).sn + 1,
          lev := setBit (s.hdBase n).lev (s.hdArg n % 8)
            (bitOf (s.hd n).sl (lanePos (bitOf (s.hdArg n) 4) (s.hd n).sn) != bitOf (s.hdArg n) 3) }
        (s.hdFlagThen n (s.hdFlagFound n)) [] [] ∧
      t.hed.irq = s.hed.irq := by
  refine answers_hdIssue rfl hrun (by decide) (hdShiftBody_of_bits h5 (by simpa using hsn)) ⟨?_, by simp⟩
  exact (OnHeddle.refl ..).hdPlace.goesOn (fs := []) rfl hlen (by decide) (by simp) (by simp [State.hdBase]) (by simp)

theorem shift_loads {w : Nat} {q : List Nat} (hrun : s.hdRuns n 5 = true)
    (hlen : s.hdNext n < s.rd (Reg.HEDDLE_REGION_LEN.at n)) (h5 : fieldOf (s.hdArg n) 5 5 = 0) (hsn : (s.hd n).sn = (s.hd n).slen)
    (hsize : s.hdTxSize n ≠ 0) (hq : (s.hd n).txq = w :: q) : Answers (.shift n false) s fun t =>
      HdGoesOn s t n (s.hdNext n) { s.hdBase n with
          txq := q, sl := w, sn := 1,
          lastOut := bitOf w (lanePos (bitOf (s.hdArg n) 4) 0) != bitOf (s.hdArg n) 3,
          lev := setBit (s.hdBase n).lev (s.hdArg n % 8) (bitOf w (lanePos (bitOf (s.hdArg n) 4) 0) != bitOf (s.hdArg n) 3) }
        (s.hdFlagThen n (s.hdFlagFound n)) [Reg.HEDDLE_STAT_TXFILL.at n] [.threads] ∧
      t.rd (Reg.HEDDLE_STAT_TXFILL.at n) = q.length % 16 ∧ t.hed.irq = s.hed.irq := by
  refine answers_hdIssue rfl hrun (by decide)
    (hdShiftBody_of_word h5 (by simpa using hsn) (by simpa using hsize) ((congrArg Heddle.txq (hdStart_hd s n)).trans hq))
    ⟨?_, ?_, by simp⟩
  · exact ((OnHeddle.refl ..).hdLoad (by simp) (by simp)).hdPlace.goesOn (fs := [Reg.HEDDLE_STAT_TXFILL]) rfl hlen
      (by decide) (by simp) (by simp [State.hdBase]) (by simp (disch := decide) [State.rd_wr_at])
  · rw [hdAdvance_rd _ _ _ _ _ (by decide) (by decide) (by decide), State.hdPlace_rd, State.hdLoad_rd, State.rd_wr_same]
    rfl

/-- A stall leaves the Heddle in WAIT at its instruction. -/
theorem hdIssue_stalled {c : Instr} {u : State} {op : Nat} {body : Nat → State → HdRes} {fs : List Field}
    (hc : exec c s = .next (s.hdIssue n op false body)) (hrun : s.hdRuns n op = true) (hop : op < 12) (ht : (s.hd n).t ≠ 1)
    (hbody : body (s.hdArg n) (s.hdStart n) = .stalls u)
    (hframe : OnHeddle n (Reg.HEDDLE_STAT_STATE :: Reg.HEDDLE_STAT_FLAG :: fs) [] (s.hdStart n) u)
    (hfs : ∀ f ∈ fs, Reg.HEDDLE_STAT_PC.s1 = f.s1 ∧ Reg.HEDDLE_STAT_PC.key ≠ f.key) :
    ∃ t, exec c s = .next t ∧ t = (u.setHd n { u.hd n with stalled := true }).wr (Reg.HEDDLE_STAT_STATE.at n) 2 ∧
      t.hdState n = 2 ∧ (t.hd n).stalled = true ∧ t.rd (Reg.HEDDLE_STAT_PC.at n) = s.rd (Reg.HEDDLE_STAT_PC.at n) ∧
      KeepsBut ([Reg.HEDDLE_STAT_STATE.at n, Reg.HEDDLE_STAT_FLAG.at n] ++ fs.map (·.at n)) [.hed] s t := by
  have hall : OnHeddle n (Reg.HEDDLE_STAT_STATE :: Reg.HEDDLE_STAT_FLAG :: fs) [] s
      ((u.setHd n { u.hd n with stalled := true }).wr (Reg.HEDDLE_STAT_STATE.at n) 2) :=
    ((((hdStart_onHeddle s n).mono (by simp) (by simp)).trans hframe).setHd _).wr _ 2 (by simp)
  refine ⟨_, hc.trans (congrArg Host.Outcome.next (hdIssue_stalls hrun hop ht hbody)), rfl, ?_, by simp, hall.rd _ ?_, hall.keeps⟩
  · exact State.rd_wr_same _ (Reg.HEDDLE_STAT_STATE.at n) 2
  · intro f hf
    rcases List.mem_cons.1 hf with rfl | hf
    · decide
    rcases List.mem_cons.1 hf with rfl | hf
    · decide
    · exact hfs f hf

theorem shift_stalls (hrun : s.hdRuns n 5 = true) (h5 : fieldOf (s.hdArg n) 5 5 = 0) (hsn : (s.hd n).sn = (s.hd n).slen)
    (hsize : s.hdTxSize n ≠ 0) (hq : (s.hd n).txq = []) (ht : (s.hd n).t ≠ 1) : Answers (.shift n false) s fun t =>
      t.hdState n = 2 ∧ (t.hd n).stalled = true ∧ t.rd (Reg.HEDDLE_STAT_UNDERRUN.at n) = 1 ∧
        t.rd (Reg.HEDDLE_STAT_PC.at n) = s.rd (Reg.HEDDLE_STAT_PC.at n) ∧
        KeepsBut [Reg.HEDDLE_STAT_STATE.at n, Reg.HEDDLE_STAT_FLAG.at n, Reg.HEDDLE_STAT_UNDERRUN.at n] [.hed] s t := by
  obtain ⟨t, hexec, hr, hstate, hstall, hpc, hkeep⟩ := hdIssue_stalled (c := .shift n false) (fs := [Reg.HEDDLE_STAT_UNDERRUN]) rfl
    hrun (by decide) ht
    (hdShiftBody_stalls h5 (by simpa using hsn) (by simpa using hsize) ((congrArg Heddle.txq (hdStart_hd s n)).trans hq))
    ((OnHeddle.refl ..).wr _ 1 (by simp)) (by decide)
  refine ⟨t, hexec, hstate, hstall, ?_, hpc, hkeep⟩
  rw [hr, State.rd_wr_at _ _ _ _ _ (by decide) (by decide), State.rd_setHd, State.rd_wr_same]
  rfl

theorem emit_delivers (hrun : s.hdRuns n 6 = true) (hlen : s.hdNext n < s.rd (Reg.HEDDLE_REGION_LEN.at n))
    (h2 : fieldOf (s.hdArg n) 2 8 = 0) (hroom : (s.hd n).rxq.length < s.hdRxSize n) : Answers (.emit n false) s fun t =>
      HdGoesOn s t n (s.hdNext n) { s.hdBase n with
          rxq := (s.hd n).rxq ++ [(s.hd n).cl],
          cl := if bitOf (s.hdArg n) 0 then 0 else (s.hd n).cl,
          cn := if bitOf (s.hdArg n) 0 then 0 else (s.hd n).cn }
        (s.hdFlagThen n (s.hdFlagFound n)) [Reg.HEDDLE_STAT_RXFILL.at n] [.threads] ∧
      t.rd (Reg.HEDDLE_STAT_RXFILL.at n) = ((s.hd n).rxq.length + 1) % 16 ∧ t.hed.irq = s.hed.irq := by
  have hroom' : ((s.hdStart n).hd n).rxq.length < (s.hdStart n).hdRxSize n := by simpa using hroom
  refine answers_hdIssue rfl hrun (by decide) (hdEmitBody_of_done h2 (Nat.ne_of_gt (Nat.zero_lt_of_lt hroom')) (.inl hroom'))
    ⟨?_, ?_, by simp [hdEmitted_irq_of_room hroom']⟩
  · exact (hdEmitted_onHeddle_of_room hroom').goesOn (fs := [Reg.HEDDLE_STAT_RXFILL]) rfl hlen (by decide)
      (by simp [hdEmitted_hd_of_room hroom']) (by simp [hdEmitted_hd_of_room hroom', State.hdBase])
      (by simp (disch := decide) [hdEmitted_rd_of_room hroom', State.rd_wr_at])
  · rw [hdAdvance_rd _ _ _ _ _ (by decide) (by decide) (by decide), hdEmitted_rd_of_room hroom', State.rd_wr_same]
    simp
    rfl

theorem emit_drops (hrun : s.hdRuns n 6 = true) (hlen : s.hdNext n < s.rd (Reg.HEDDLE_REGION_LEN.at n))
    (h2 : fieldOf (s.hdArg n) 2 8 = 0) (hsize : s.hdRxSize n ≠ 0) (hfull : s.hdRxSize n ≤ (s.hd n).rxq.length)
    (h1 : bitOf (s.hdArg n) 1 = true) : Answers (.emit n false) s fun t =>
      HdGoesOn s t n (s.hdNext n) { s.hdBase n with
          cl := if bitOf (s.hdArg n) 0 then 0 else (s.hd n).cl,
          cn := if bitOf (s.hdArg n) 0 then 0 else (s.hd n).cn }
        (s.hdFlagThen n (s.hdFlagFound n)) [Reg.HEDDLE_STAT_RX_OVF.at n] [] ∧
      t.rd (Reg.HEDDLE_STAT_RX_OVF.at n) = 1 ∧ t.hed.irq = s.hed.irq := by
  have hbody := hdEmitBody_of_done (n := n) (s := s.hdStart n) h2 (by simpa using hsize) (.inr h1)
  rw [hdEmitted_of_full (by simpa using hfull)] at hbody
  have hframe : OnHeddle n [Reg.HEDDLE_STAT_FLAG, Reg.HEDDLE_STAT_RX_OVF] [] (s.hdStart n)
      ((s.hdStart n).wr (Reg.HEDDLE_STAT_RX_OVF.at n) 1) := (OnHeddle.refl ..).wr _ 1 (by simp)
  have hovf (u : State) (target : Option Nat) (hu : u.rd (Reg.HEDDLE_STAT_RX_OVF.at n) = 1) :
      (u.hdAdvance n (s.hdHold n) target).rd (Reg.HEDDLE_STAT_RX_OVF.at n) = 1 :=
    (hdAdvance_rd _ _ _ _ _ (by decide) (by decide) (by decide)).trans hu
  cases h0 : bitOf (s.hdArg n) 0
  · rw [h0, if_neg (by simp)] at hbody
    refine answers_hdIssue rfl hrun (by decide) hbody ⟨?_, hovf _ _ (State.rd_wr_same _ _ 1), by simp⟩
    exact hframe.goesOn (fs := [Reg.HEDDLE_STAT_RX_OVF]) rfl hlen (by decide) (by simp) (by simp [State.hdBase])
      (by simp (disch := decide) [State.rd_wr_at])
  · rw [h0, if_pos rfl] at hbody
    refine answers_hdIssue rfl hrun (by decide) hbody ⟨?_, hovf _ _ (State.rd_wr_same _ _ 1), by simp⟩
    exact (hframe.setHd _).goesOn (fs := [Reg.HEDDLE_STAT_RX_OVF]) rfl hlen (by decide) (by simp) (by simp [State.hdBase])
      (by simp (disch := decide) [State.rd_wr_at])

theorem txq_hdStart {w : Nat} {q : List Nat} (h : (s.hd n).txq = w :: q) : ((s.hdStart n).hd n).txq = w :: q :=
  (congrArg Heddle.txq (hdStart_hd s n)).trans h

theorem take_loads (hrun : s.hdRuns n 7 = true) (hlen : s.hdNext n < s.rd (Reg.HEDDLE_REGION_LEN.at n))
    (h6 : fieldOf (s.hdArg n) 6 4 = 0) (hl : fieldOf (s.hdArg n) 0 6 ≤ 32) (hsize : s.hdTxSize n ≠ 0) (hq : (s.hd n).txq ≠ []) :
    Answers (.take n false) s fun t =>
      HdGoesOn s t n (s.hdNext n) { s.hdBase n with
          txq := (s.hd n).txq.tail, sl := (s.hd n).txq.headD 0, sn := 0,
          slen := if fieldOf (s.hdArg n) 0 6 = 0 then 32 else fieldOf (s.hdArg n) 0 6 }
        (s.hdFlagThen n (s.hdFlagFound n)) [Reg.HEDDLE_STAT_TXFILL.at n] [.threads] ∧
      t.rd (Reg.HEDDLE_STAT_TXFILL.at n) = (s.hd n).txq.tail.length % 16 ∧ t.hed.irq = s.hed.irq := by
  obtain ⟨w, q, hwq⟩ := List.exists_cons_of_ne_nil hq
  obtain ⟨h7, hbit⟩ := take_argument (h6.trans_le (by decide))
  have hbody := hdTakeBody_of_word h7 ((hdStart_hdTxSize s n).trans_ne hsize) (txq_hdStart hwq)
  rw [hbit, h6, if_neg (by simp)] at hbody
  refine answers_hdIssue rfl hrun (by decide) hbody ⟨?_, ?_, by simp⟩
  · exact (hdTaken_onHeddle_of_le _ _ _ _ hl).goesOn (fs := [Reg.HEDDLE_STAT_TXFILL]) rfl hlen (by decide) (by simp)
      (by simp [State.hdBase, hwq, takeLen_of_le _ hl]) (by simp (disch := decide) [State.rd_wr_at])
  · rw [hdAdvance_rd _ _ _ _ _ (by decide) (by decide) (by decide), State.hdTaken_rd, State.rd_wr_same, hwq]
    rfl

/-- TAKE that does not stall shows in FLAG whether the queue was empty. -/
theorem take_orGoesOn (hrun : s.hdRuns n 7 = true) (hlen : s.hdNext n < s.rd (Reg.HEDDLE_REGION_LEN.at n))
    (h6 : fieldOf (s.hdArg n) 6 4 = 1) (hl : fieldOf (s.hdArg n) 0 6 ≤ 32) (hsize : s.hdTxSize n ≠ 0) :
    Answers (.take n false) s fun t =>
      HdGoesOn s t n (s.hdNext n) (if (s.hd n).txq = [] then s.hdBase n else { s.hdBase n with
          txq := (s.hd n).txq.tail, sl := (s.hd n).txq.headD 0, sn := 0,
          slen := if fieldOf (s.hdArg n) 0 6 = 0 then 32 else fieldOf (s.hdArg n) 0 6 })
        (s.hdFlagThen n (b2n (s.hd n).txq.isEmpty)) [Reg.HEDDLE_STAT_TXFILL.at n] [.threads] ∧
      t.hed.irq = s.hed.irq := by
  obtain ⟨h7, hbit⟩ := take_argument h6.le
  cases hq : (s.hd n).txq with
  | nil =>
    have hbody := hdTakeBody_of_empty h7 ((hdStart_hdTxSize s n).trans_ne hsize) ((congrArg Heddle.txq (hdStart_hd s n)).trans hq)
    rw [hbit, h6, if_pos (by simp)] at hbody
    refine answers_hdIssue rfl hrun (by decide) hbody ⟨?_, by simp⟩
    exact ((OnHeddle.refl ..).hdFlag _ (by simp)).goesOn (fs := [Reg.HEDDLE_STAT_TXFILL]) rfl hlen (by decide) (by simp)
      (by simp [State.hdBase]) (by simp)
  | cons w q =>
    have hbody := hdTakeBody_of_word h7 ((hdStart_hdTxSize s n).trans_ne hsize) (txq_hdStart hq)
    rw [hbit, h6, if_pos (by simp)] at hbody
    refine answers_hdIssue rfl hrun (by decide) hbody ⟨?_, by simp⟩
    exact ((hdTaken_onHeddle_of_le _ _ _ _ hl).hdFlag _ (by simp)).goesOn (fs := [Reg.HEDDLE_STAT_TXFILL]) rfl hlen (by decide)
      (by simp) (by simp [State.hdBase, takeLen_of_le _ hl]) (by simp)

theorem take_free (hrun : s.hdRuns n 7 = true) (hlen : s.hdNext n < s.rd (Reg.HEDDLE_REGION_LEN.at n))
    (h6 : fieldOf (s.hdArg n) 6 4 = 0) (hsize : s.hdTxSize n ≠ 0) (hq : (s.hd n).txq ≠ []) :
    Answers (.take n false) s fun t =>
      (t.hd n).txq = (s.hd n).txq.tail ∧ (t.hd n).sl = (s.hd n).txq.headD 0 ∧ (t.hd n).sn = 0 ∧ 1 ≤ (t.hd n).slen ∧
        (t.hd n).slen ≤ 32 ∧ t.hdState n = 1 ∧
        KeepsBut [Reg.HEDDLE_STAT_STATE.at n, Reg.HEDDLE_STAT_PC.at n, Reg.HEDDLE_STAT_FLAG.at n, Reg.HEDDLE_STAT_TXFILL.at n]
          [.hed, .free, .threads] s t := by
  obtain ⟨w, q, hwq⟩ := List.exists_cons_of_ne_nil hq
  obtain ⟨h7, hbit⟩ := take_argument (h6.trans_le (by decide))
  have hbody := hdTakeBody_of_word h7 ((hdStart_hdTxSize s n).trans_ne hsize) (txq_hdStart hwq)
  rw [hbit, h6, if_neg (by simp)] at hbody
  refine answers_hdIssue rfl hrun (by decide) hbody ?_
  have hgo := (hdTaken_onHeddle (s.hdStart n) n (fieldOf (s.hdArg n) 0 6) w q).goesOn (fs := [Reg.HEDDLE_STAT_TXFILL])
    (target := none) rfl hlen (by decide) (by simp) rfl rfl
  obtain ⟨hstate, -, -, hhd, -, -, -, hkeep⟩ := hgo
  obtain ⟨hlow, hhigh⟩ := takeLen_bounds (s.hdStart n) (fieldOf (s.hdArg n) 0 6)
  rw [hhd, State.hdTaken_hd, hwq]
  exact ⟨rfl, rfl, rfl, hlow, hhigh, hstate, hkeep⟩

end

/-! ### Stalls and their ends (R613, R616, R620) -/

section
variable {s : State} {n : Fin 16}

theorem txq_hdStart_nil (h : (s.hd n).txq = []) : ((s.hdStart n).hd n).txq = [] := (congrArg Heddle.txq (hdStart_hd s n)).trans h

theorem hdEmitBody_hdStart_stalls (harg : s.hdArg n ≤ 1) (hsize : s.hdRxSize n ≠ 0) (hfull : s.hdRxSize n ≤ (s.hd n).rxq.length) :
    hdEmitBody n (s.hdArg n) (s.hdStart n) = .stalls (s.hdStart n) :=
  hdEmitBody_stalls harg (by simpa using hsize) (by simpa using hfull)

theorem hdTakeBody_hdStart_stalls (h6 : fieldOf (s.hdArg n) 6 4 = 0) (hsize : s.hdTxSize n ≠ 0) (hq : (s.hd n).txq = []) :
    hdTakeBody n (s.hdArg n) (s.hdStart n) = .stalls (s.hdStart n) := by
  obtain ⟨h7, hbit⟩ := take_argument (h6.trans_le (by decide))
  rw [hdTakeBody_of_empty h7 ((hdStart_hdTxSize s n).trans_ne hsize) (txq_hdStart_nil hq), hbit, h6]
  rfl

theorem emit_take_stall {c : Instr}
    (hc : (c = .emit n false ∧ s.hdRuns n 6 = true ∧ s.hdArg n ≤ 1 ∧ s.hdRxSize n ≠ 0 ∧ s.hdRxSize n ≤ (s.hd n).rxq.length) ∨
      (c = .take n false ∧ s.hdRuns n 7 = true ∧ fieldOf (s.hdArg n) 6 4 = 0 ∧ s.hdTxSize n ≠ 0 ∧ (s.hd n).txq = []))
    (ht : (s.hd n).t ≠ 1) : Answers c s fun t =>
      t.hdState n = 2 ∧ (t.hd n).stalled = true ∧ t.rd (Reg.HEDDLE_STAT_PC.at n) = s.rd (Reg.HEDDLE_STAT_PC.at n) ∧
        KeepsBut [Reg.HEDDLE_STAT_STATE.at n, Reg.HEDDLE_STAT_FLAG.at n] [.hed] s t := by
  rcases hc with ⟨rfl, hrun, harg, hsize, hfull⟩ | ⟨rfl, hrun, h6, hsize, hq⟩
  · obtain ⟨t, hexec, -, h⟩ := hdIssue_stalled (c := .emit n false) (fs := []) rfl hrun (by decide) ht
      (hdEmitBody_hdStart_stalls harg hsize hfull) (.refl ..) (by simp)
    exact ⟨t, hexec, h⟩
  · obtain ⟨t, hexec, -, h⟩ := hdIssue_stalled (c := .take n false) (fs := []) rfl hrun (by decide) ht
      (hdTakeBody_hdStart_stalls h6 hsize hq) (.refl ..) (by simp)
    exact ⟨t, hexec, h⟩

/-- A wait or stall whose first cycle ends T goes on with FLAG at 1 and no other effect. -/
theorem hdIssue_expired {c : Instr} {u : State} {op : Nat} {body : Nat → State → HdRes}
    (hc : exec c s = .next (s.hdIssue n op false body)) (hrun : s.hdRuns n op = true) (hop : op < 12) (ht : (s.hd n).t = 1)
    (hlen : s.hdNext n < s.rd (Reg.HEDDLE_REGION_LEN.at n))
    (hbody : body (s.hdArg n) (s.hdStart n) = .waits u ∨ body (s.hdArg n) (s.hdStart n) = .stalls u)
    (hframe : OnHeddle n [Reg.HEDDLE_STAT_FLAG, Reg.HEDDLE_CNT_CNT] [] (s.hdStart n) u) (hhed : u.hed = (s.hdStart n).hed)
    (hflag : u.rd (Reg.HEDDLE_STAT_FLAG.at n) = s.hdFlagFound n) : Answers c s fun t =>
      HdGoesOn s t n (s.hdNext n) (s.hdBase n) 1 [Reg.HEDDLE_CNT_CNT.at n] [] ∧ t.hed.irq = s.hed.irq := by
  have hhd : u.hd n = (s.hdStart n).hd n := State.hd_of_hed hhed n
  have hthen : s.hdFlagThen n (s.hdFlagFound n) = 1 := by simp [State.hdFlagThen, State.hdFlagFound, ht]
  refine ⟨_, hc.trans (congrArg Host.Outcome.next (hdIssue_expires hrun hop ht hbody)), ?_, by simp [hhed]⟩
  have hgo := hframe.goesOn (fs := [Reg.HEDDLE_CNT_CNT]) (target := none) (h := s.hdBase n) rfl hlen (by decide) (by simp [hhd])
    (by simp [hhd, State.hdBase]) hflag
  rwa [hthen] at hgo

theorem heddle_firstCycle_expires {before now : BitVec 64} {c : Instr} (ht : (s.hd n).t = 1)
    (hlen : s.hdNext n < s.rd (Reg.HEDDLE_REGION_LEN.at n))
    (hc : (c = .await n before now false ∧ s.hdRuns n 3 = true ∧ awaitLegal (s.hdArg n) = true ∧
        s.awaitNoQueue n (s.hdArg n) = false ∧
        (s.awaitCount n (s.hdArg n) 1).awaitMet n before.toNat now.toNat (s.hdArg n) = false) ∨
      (c = .emit n false ∧ s.hdRuns n 6 = true ∧ s.hdArg n ≤ 1 ∧ s.hdRxSize n ≠ 0 ∧ s.hdRxSize n ≤ (s.hd n).rxq.length) ∨
      (c = .take n false ∧ s.hdRuns n 7 = true ∧ fieldOf (s.hdArg n) 6 4 = 0 ∧ s.hdTxSize n ≠ 0 ∧ (s.hd n).txq = [])) :
    Answers c s fun t =>
      HdGoesOn s t n (s.hdNext n) (s.hdBase n) 1 [Reg.HEDDLE_CNT_CNT.at n] [] ∧ t.hed.irq = s.hed.irq := by
  rcases hc with ⟨rfl, hrun, hlegal, hqueue, hmet⟩ | ⟨rfl, hrun, harg, hsize, hfull⟩ | ⟨rfl, hrun, h6, hsize, hq⟩
  · exact hdIssue_expired rfl hrun (by decide) ht hlen
      (.inl (hdAwaitBody_of_unmet hlegal ((hdStart_awaitNoQueue ..).trans hqueue) ((hdStart_awaitMet ..).trans hmet)))
      ((OnHeddle.refl ..).awaitCount (by simp)) (by simp) (by simp)
  · exact hdIssue_expired rfl hrun (by decide) ht hlen (.inr (hdEmitBody_hdStart_stalls harg hsize hfull)) (.refl ..) rfl (by simp)
  · exact hdIssue_expired rfl hrun (by decide) ht hlen (.inr (hdTakeBody_hdStart_stalls h6 hsize hq)) (.refl ..) rfl (by simp)

/-- An operation that needs a queue of size 0 faults with code 4 (R616). -/
theorem heddle_noQueue {pins : BitVec 64} {c : Instr}
    (hc : (c = .sample n pins false ∧ s.hdRuns n 1 = true ∧ fieldOf (s.hdArg n) 5 5 = 0 ∧ bitOf (s.hdArg n) 3 = false ∧
        (s.hd n).cn ≠ 32 ∧ s.rd (Reg.HEDDLE_CTRL_AUTOCATCH.at n) ≠ 0 ∧ (s.hd n).cn + 1 = s.hdCatchLen n ∧ s.hdRxSize n = 0) ∨
      (c = .await n pins pins false ∧ s.hdRuns n 3 = true ∧ awaitLegal (s.hdArg n) = true ∧ s.awaitNoQueue n (s.hdArg n) = true) ∨
      (c = .shift n false ∧ s.hdRuns n 5 = true ∧ fieldOf (s.hdArg n) 5 5 = 0 ∧ (s.hd n).sn = (s.hd n).slen ∧ s.hdTxSize n = 0) ∨
      (c = .emit n false ∧ s.hdRuns n 6 = true ∧ fieldOf (s.hdArg n) 2 8 = 0 ∧ s.hdRxSize n = 0) ∨
      (c = .take n false ∧ s.hdRuns n 7 = true ∧ fieldOf (s.hdArg n) 7 3 = 0 ∧ s.hdTxSize n = 0)) :
    Answers c s fun t => HdFaulted s t n 4 [Reg.HEDDLE_STAT_FLAG.at n] := by
  rcases hc with ⟨rfl, hrun, h5, h3, hcn, hauto, hcatch, hsize⟩ | ⟨rfl, hrun, hlegal, hqueue⟩ | ⟨rfl, hrun, h5, hsn, hsize⟩ |
    ⟨rfl, hrun, h2, hsize⟩ | ⟨rfl, hrun, h7, hsize⟩
  · have hbody := hdSampleBody_of_catch (n := n) (pins := pins.toNat) (s := s.hdStart n) h5 h3 (by simpa using hcn)
      (by simpa (disch := decide) [hdStart_rd] using hauto) (by simpa using hcatch)
    rw [if_pos ((hdStart_hdRxSize s n).trans hsize)] at hbody
    exact ⟨_, rfl, hdIssue_faulted hrun (by decide) (by decide) hbody ((OnHeddle.refl ..).setHd _)⟩
  · exact ⟨_, rfl, hdIssue_faulted hrun (by decide) (by decide)
      (hdAwaitBody_noQueue hlegal ((hdStart_awaitNoQueue ..).trans hqueue)) (.refl ..)⟩
  · exact ⟨_, rfl, hdIssue_faulted hrun (by decide) (by decide)
      (hdShiftBody_noQueue h5 (by simpa using hsn) ((hdStart_hdTxSize s n).trans hsize)) (.refl ..)⟩
  · exact ⟨_, rfl, hdIssue_faulted hrun (by decide) (by decide)
      (hdEmitBody_noQueue h2 ((hdStart_hdRxSize s n).trans hsize)) (.refl ..)⟩
  · exact ⟨_, rfl, hdIssue_faulted hrun (by decide) (by decide)
      (hdTakeBody_noQueue h7 ((hdStart_hdTxSize s n).trans hsize)) (.refl ..)⟩

/-! ### The release of a stall (R613) -/

/-- The operation that a stall holds back. -/
def State.stallBody (s : State) (n : Nat) (u : State) : HdRes :=
  match fieldOf (s.hdWord n) 20 4 with
  | 5 => hdShiftBody n (s.hdArg n) u
  | 6 => hdEmitBody n (s.hdArg n) u
  | _ => hdTakeBody n (s.hdArg n) u

/-- Whether the queue of a stall allows its operation. -/
def State.stallReady (s : State) (n : Nat) : Bool :=
  if fieldOf (s.hdWord n) 20 4 = 6 then decide ((s.hd n).rxq.length < s.hdRxSize n) else !(s.hd n).txq.isEmpty

/-- A stall whose queue allows it ends in its operation, T having counted the stall. -/
theorem exec_stallRelease {k : Nat} {u : State} (hstate : s.hdState n = 2) (hstall : (s.hd n).stalled = true)
    (ht : (s.hd n).t = 0 ∨ k ≤ (s.hd n).t) (hready : s.stallReady n = true)
    (hbody : s.stallBody n (s.hdCount n k) = .done u none) :
    exec (.heddleStallRelease n k) s = .next (u.hdAdvance n (s.hdHold n) none) := by
  have hrest : ¬(0 < (s.hd n).t ∧ (s.hd n).t < k) := by omega
  change Host.Outcome.next (if s.hdState n ≠ 2 ∨ !(s.hd n).stalled then s else
    if 0 < (s.hd n).t ∧ (s.hd n).t < k then s.hdExpire n else if !s.stallReady n then s
    else State.hdEnd n (s.hdWord n) (s.stallBody n (s.hdCount n k))) = _
  rw [if_neg (by simp [hstate, hstall]), if_neg hrest, if_neg (by simp [hready]), hbody]
  rfl

theorem hdCount_onHeddle (s : State) (n k : Nat) : OnHeddle n [Reg.HEDDLE_STAT_FLAG] [] s (s.hdCount n k) :=
  (OnHeddle.refl ..).hdCount k (by simp)

@[simp] theorem hdCount_hdTxSize (s : State) (n k : Nat) : (s.hdCount n k).hdTxSize n = s.hdTxSize n :=
  congrArg (2 * ·) ((hdCount_onHeddle s n k).rd Reg.HEDDLE_CTRL_SPLIT (by decide))

@[simp] theorem hdCount_hdRxSize (s : State) (n k : Nat) : (s.hdCount n k).hdRxSize n = s.hdRxSize n := by simp [State.hdRxSize]

theorem stallRelease_emits {k : Nat} (hstate : s.hdState n = 2) (hstall : (s.hd n).stalled = true)
    (hop : fieldOf (s.hdWord n) 20 4 = 6) (h2 : fieldOf (s.hdArg n) 2 8 = 0) (ht : (s.hd n).t = 0 ∨ k ≤ (s.hd n).t)
    (hroom : (s.hd n).rxq.length < s.hdRxSize n) (hlen : s.hdNext n < s.rd (Reg.HEDDLE_REGION_LEN.at n)) :
    Answers (.heddleStallRelease n k) s fun t =>
      t.hdState n = 1 ∧ (t.hd n).rxq = (s.hd n).rxq ++ [(s.hd n).cl] ∧ (t.hd n).t = (s.hd n).t - (k + s.hdHold n) ∧
        (t.hd n).stalled = false ∧ t.rd (Reg.HEDDLE_STAT_PC.at n) = s.hdNext n % 128 ∧
        KeepsBut [Reg.HEDDLE_STAT_STATE.at n, Reg.HEDDLE_STAT_PC.at n, Reg.HEDDLE_STAT_FLAG.at n, Reg.HEDDLE_STAT_RXFILL.at n]
          [.hed, .threads] s t := by
  have hroom' : ((s.hdCount n k).hd n).rxq.length < (s.hdCount n k).hdRxSize n := by simpa using hroom
  have hbody : s.stallBody n (s.hdCount n k) = .done ((s.hdCount n k).hdEmitted n (s.hdArg n)) none := by
    simp only [State.stallBody, hop]
    exact hdEmitBody_of_done h2 (Nat.ne_of_gt (Nat.zero_lt_of_lt hroom')) (.inl hroom')
  refine ⟨_, exec_stallRelease hstate hstall ht (by simp [State.stallReady, hop, hroom]) hbody, ?_⟩
  have hframe := ((hdCount_onHeddle s n k).mono (by simp) (by simp)).trans (hdEmitted_onHeddle_of_room (arg := s.hdArg n) hroom')
  obtain ⟨hstate', hpc, -, hhd, -, -, -, hkeep⟩ :=
    hframe.advances (fs := [Reg.HEDDLE_STAT_RXFILL]) (target := none) (by decide) (s.hdHold n) rfl hlen
  beta_reduce
  rw [hhd, hdEmitted_hd_of_room hroom']
  exact ⟨hstate', by simp, by simp [Nat.sub_sub], rfl, hpc, hkeep⟩

theorem stallRelease_loads {k w : Nat} {q : List Nat} (hstate : s.hdState n = 2) (hstall : (s.hd n).stalled = true)
    (hop : (fieldOf (s.hdWord n) 20 4 = 5 ∧ (s.hd n).sn = (s.hd n).slen ∧ fieldOf (s.hdArg n) 5 5 = 0) ∨
      (fieldOf (s.hdWord n) 20 4 = 7 ∧ fieldOf (s.hdArg n) 6 4 = 0))
    (ht : (s.hd n).t = 0 ∨ k ≤ (s.hd n).t) (hsize : s.hdTxSize n ≠ 0) (hq : (s.hd n).txq = w :: q)
    (hlen : s.hdNext n < s.rd (Reg.HEDDLE_REGION_LEN.at n)) : Answers (.heddleStallRelease n k) s fun t =>
      t.hdState n = 1 ∧ (t.hd n).txq = q ∧ (t.hd n).sl = w ∧ (t.hd n).t = (s.hd n).t - (k + s.hdHold n) ∧
        (t.hd n).stalled = false ∧ t.rd (Reg.HEDDLE_STAT_PC.at n) = s.hdNext n % 128 := by
  have hq' : ((s.hdCount n k).hd n).txq = w :: q := (congrArg Heddle.txq (s.hdCount_hd n k)).trans hq
  have hframe : OnHeddle n [Reg.HEDDLE_STAT_FLAG, Reg.HEDDLE_STAT_TXFILL] [.free, .threads] s (s.hdCount n k) :=
    (hdCount_onHeddle s n k).mono (by simp) (by simp)
  rcases hop with ⟨hop, hsn, h5⟩ | ⟨hop, h6⟩
  · have hbody : s.stallBody n (s.hdCount n k) = .done (((s.hdCount n k).hdLoad n w q).hdPlace n (s.hdArg n)) none := by
      simp only [State.stallBody, hop]
      exact hdShiftBody_of_word h5 (by simpa using hsn) (by simpa using hsize) hq'
    refine ⟨_, exec_stallRelease hstate hstall ht (by simp [State.stallReady, hop, hq]) hbody, ?_⟩
    obtain ⟨hstate', hpc, -, hhd, -⟩ := (hframe.hdLoad (by simp) (by simp)).hdPlace.advances (fs := [Reg.HEDDLE_STAT_TXFILL])
      (target := none) (by decide) (s.hdHold n) rfl hlen
    rw [hhd]
    exact ⟨hstate', by simp, by simp, by simp [Nat.sub_sub], rfl, hpc⟩
  · obtain ⟨h7, hbit⟩ := take_argument (h6.trans_le (by decide))
    have hbody : s.stallBody n (s.hdCount n k) = .done ((s.hdCount n k).hdTaken n (fieldOf (s.hdArg n) 0 6) w q) none := by
      simp only [State.stallBody, hop]
      exact (hdTakeBody_of_word h7 (by simpa using hsize) hq').trans (by simp [hbit, h6])
    refine ⟨_, exec_stallRelease hstate hstall ht (by simp [State.stallReady, hop, hq]) hbody, ?_⟩
    obtain ⟨hstate', hpc, -, hhd, -⟩ := (hframe.trans (hdTaken_onHeddle ..)).advances (fs := [Reg.HEDDLE_STAT_TXFILL])
      (target := none) (by decide) (s.hdHold n) rfl hlen
    rw [hhd]
    exact ⟨hstate', by simp, by simp, by simp [Nat.sub_sub], rfl, hpc⟩

end

/-- Settles O34: each wait, stall and use of a queue by the state in which its first cycle leaves the Heddle, and each end of a wait or
stall by what T and the operation make of it before the Heddle moves on. -/
theorem heddleWaits : Obligations.HeddleWaits :=
  ⟨fun _ _ _ _ => await_ends, fun _ _ _ _ => await_waits, fun _ _ _ _ _ => awaitConditionMet_ends, fun _ _ _ _ _ => heddle_expires,
    fun _ _ => heddleTExpiry_inRun, fun _ _ => heddleTimeCompare_met, fun _ _ => shift_places, fun _ _ _ _ => shift_loads,
    fun _ _ => shift_stalls, fun _ _ => emit_delivers, fun _ _ => emit_drops, fun _ _ => take_loads, fun _ _ => take_orGoesOn,
    fun _ _ hrun hlen h6 _ hsize hq => take_free hrun hlen h6 hsize hq, fun _ _ _ => emit_take_stall,
    fun _ _ _ _ _ => heddle_firstCycle_expires, fun _ _ _ _ => heddle_noQueue, fun _ _ _ => stallRelease_emits,
    fun _ _ _ _ _ => stallRelease_loads⟩

/-! ### The registers of a Heddle (R604 to R607, R609, R614, R629 to R632) -/

section
variable {s : State} {n : Fin 16} {wtr : Writer}

theorem heddleEnable_runs (hw : holderAllows (s.heddleHolder n) wtr = true) (hstate : s.hdState n = 0) (hlimp : s.limping = false)
    (husable : regionUsable (s.rd (Reg.HEDDLE_REGION_LEN.at n)) (s.rd (Reg.HEDDLE_REGION_START.at n))
      (s.rd (Reg.HEDDLE_REGION_WRAP.at n)) (s.rd (Reg.HEDDLE_STAT_PC.at n)) = true) : Answers (.heddleEnable n wtr) s fun t =>
      t.hdState n = 1 ∧ t.rd (Reg.HEDDLE_CTRL_EN.at n) = 1 ∧
        t.hd n = { s.hd n with lev := s.rd (Reg.HEDDLE_SAFE_SAFE.at n), oe := s.rd (Reg.HEDDLE_SAFE_SAFE_OE.at n) } ∧
        KeepsBut [Reg.HEDDLE_STAT_STATE.at n, Reg.HEDDLE_CTRL_EN.at n] [.hed] s t := by
  have hexec : exec (.heddleEnable n wtr) s = .next (((s.setHd n { s.hd n with
      lev := s.rd (Reg.HEDDLE_SAFE_SAFE.at n), oe := s.rd (Reg.HEDDLE_SAFE_SAFE_OE.at n) }).wr (Reg.HEDDLE_CTRL_EN.at n) 1).wr
        (Reg.HEDDLE_STAT_STATE.at n) 1) := by
    change execHeddleEnable n wtr s = _
    simp [execHeddleEnable, hw, hstate, hlimp, husable]
  refine ⟨_, hexec, State.rd_wr_same _ (Reg.HEDDLE_STAT_STATE.at n) 1, ?_, by simp, ?_⟩
  · rw [State.rd_wr_at _ _ _ _ _ (by decide) (by decide), State.rd_wr_same]
    rfl
  · exact ((((OnHeddle.refl n [Reg.HEDDLE_STAT_STATE, Reg.HEDDLE_CTRL_EN] [] s).setHd _).wr _ 1 (by simp)).wr _ 1 (by simp)).keeps

theorem heddleEnable_badPc (hw : holderAllows (s.heddleHolder n) wtr = true) (hstate : s.hdState n = 0) (hlimp : s.limping = false)
    (husable : regionUsable (s.rd (Reg.HEDDLE_REGION_LEN.at n)) (s.rd (Reg.HEDDLE_REGION_START.at n))
      (s.rd (Reg.HEDDLE_REGION_WRAP.at n)) (s.rd (Reg.HEDDLE_STAT_PC.at n)) = false) :
    Answers (.heddleEnable n wtr) s fun t => HdFaulted s t n 2 [] := by
  have hexec : exec (.heddleEnable n wtr) s = .next (s.hdFault n 2) := by
    change execHeddleEnable n wtr s = _
    simp [execHeddleEnable, hw, hstate, hlimp, husable]
  exact ⟨_, hexec, hdFault_faulted 2 (by decide) (OnHeddle.refl n [] [] s) (by decide)⟩

theorem heddleDisable_stops (hw : holderAllows (s.heddleHolder n) wtr = true) (hstate : s.hdState n = 1 ∨ s.hdState n = 2) :
    Answers (.heddleDisable n wtr) s fun t =>
      t.hdState n = 0 ∧ t.rd (Reg.HEDDLE_CTRL_EN.at n) = 0 ∧ t.hd n = { s.hd n with stalled := false } ∧
        t.rd (Reg.HEDDLE_STAT_PC.at n) = s.rd (Reg.HEDDLE_STAT_PC.at n) ∧
        KeepsBut [Reg.HEDDLE_STAT_STATE.at n, Reg.HEDDLE_CTRL_EN.at n] [.hed] s t := by
  have hframe : OnHeddle n [Reg.HEDDLE_STAT_STATE, Reg.HEDDLE_CTRL_EN] [] s (s.hdStop n) :=
    (((OnHeddle.refl ..).wr _ 0 (by simp)).wr _ 0 (by simp)).setHd _
  refine ⟨_, congrArg Host.Outcome.next (if_pos ⟨hw, hstate⟩), ?_, ?_, by simp [State.hdStop],
    hframe.rd _ (by decide), hframe.keeps⟩
  · refine (State.rd_setHd ..).trans ((State.rd_wr_at _ _ Reg.HEDDLE_STAT_STATE _ _ (by decide) (by decide)).trans ?_)
    exact State.rd_wr_same _ (Reg.HEDDLE_STAT_STATE.at n) 0
  · exact (State.rd_setHd ..).trans (State.rd_wr_same _ (Reg.HEDDLE_CTRL_EN.at n) 0)

theorem restart_clears (hw : holderAllows (s.heddleHolder n) wtr = true) (hstate : s.hdState n = 0 ∨ s.hdState n = 3) :
    Answers (.restart n wtr) s fun t =>
      t.hdState n = 0 ∧ t.rd (Reg.HEDDLE_STAT_PC.at n) = s.rd (Reg.HEDDLE_REGION_START.at n) % 128 ∧
        t.rd (Reg.HEDDLE_CNT_CNT.at n) = 0 ∧ t.rd (Reg.HEDDLE_STAT_FLAG.at n) = 0 ∧ t.rd (Reg.HEDDLE_STAT_FAULT.at n) = 0 ∧
        t.hd n = { s.hd n with
          sl := 0, cl := 0, cn := 0, slen := 32, sn := 32, t := 0, angLatch := false, timeLatch := false } ∧
        KeepsBut [Reg.HEDDLE_STAT_STATE.at n, Reg.HEDDLE_STAT_PC.at n, Reg.HEDDLE_CNT_CNT.at n, Reg.HEDDLE_STAT_FLAG.at n,
          Reg.HEDDLE_STAT_FAULT.at n] [.hed] s t := by
  refine ⟨_, congrArg Host.Outcome.next (if_pos ⟨hw, hstate⟩), State.rd_wr_same _ (Reg.HEDDLE_STAT_STATE.at n) 0, ?_, ?_, ?_, ?_,
    by simp, ?_⟩
  · simp (disch := decide) only [State.rd_wr_at, State.rd_wr_same]
    rfl
  · simp (disch := decide) only [State.rd_wr_at, State.rd_wr_same]
    rfl
  · simp (disch := decide) only [State.rd_wr_at, State.rd_wr_same]
    rfl
  · simp (disch := decide) only [State.rd_wr_at, State.rd_wr_same]
    rfl
  · exact ((((((OnHeddle.refl n [Reg.HEDDLE_STAT_STATE, Reg.HEDDLE_STAT_PC, Reg.HEDDLE_CNT_CNT, Reg.HEDDLE_STAT_FLAG,
      Reg.HEDDLE_STAT_FAULT] [] s).setHd _).wr _ _ (by simp)).wr _ 0 (by simp)).wr _ 0 (by simp)).wr _ 0 (by simp)).wr _ 0
        (by simp) |>.keeps

/-- Both queues have been emptied. -/
def State.hdFlushed (s : State) (n : Nat) : State := (s.hdSetTx n []).hdSetRx n []

@[simp] theorem hdFlushed_hd (s : State) (n : Nat) : (s.hdFlushed n).hd n = { s.hd n with txq := [], rxq := [] } := by
  simp [State.hdFlushed]

theorem hdFlushed_onHeddle {m : Nat} {fs : List Field} {t : State} (h : OnHeddle m fs [.threads] s t)
    (htx : Reg.HEDDLE_STAT_TXFILL ∈ fs) (hrx : Reg.HEDDLE_STAT_RXFILL ∈ fs) : OnHeddle m fs [.threads] s (t.hdFlushed m) :=
  (h.hdSetTx [] htx (by simp)).hdSetRx [] hrx (by simp)

theorem flush_empties (hw : holderAllows (s.heddleHolder n) wtr = true) : Answers (.flush n wtr) s fun t =>
    (t.hd n).txq = [] ∧ (t.hd n).rxq = [] ∧ t.rd (Reg.HEDDLE_STAT_TXFILL.at n) = 0 ∧ t.rd (Reg.HEDDLE_STAT_RXFILL.at n) = 0 ∧
      KeepsBut [Reg.HEDDLE_STAT_TXFILL.at n, Reg.HEDDLE_STAT_RXFILL.at n] [.hed, .threads] s t := by
  have hexec : exec (.flush n wtr) s = .next (s.hdFlushed n) := congrArg Host.Outcome.next (if_pos hw)
  refine ⟨_, hexec, by simp, by simp, ?_, State.hdSetRx_fill _ _ _, ?_⟩
  · rw [State.hdFlushed, State.hdSetRx_rd, State.rd_wr_at _ _ _ _ _ (by decide) (by decide)]
    exact State.hdSetTx_fill _ _ _
  · exact (hdFlushed_onHeddle (.refl n [Reg.HEDDLE_STAT_TXFILL, Reg.HEDDLE_STAT_RXFILL] _ s) (by simp) (by simp)).keeps

theorem splitWrite_sets (v : Fin 16) (hw : holderAllows (s.heddleHolder n) wtr = true) (hv : v.val ≤ 4) (hstate : s.hdState n = 0) :
    Answers (.splitWrite n wtr v) s fun t =>
      t.hdTxSize n = 2 * v ∧ t.hdRxSize n = 8 - 2 * v ∧ (t.hd n).txq = [] ∧ (t.hd n).rxq = [] ∧
        KeepsBut [Reg.HEDDLE_CTRL_SPLIT.at n, Reg.HEDDLE_STAT_TXFILL.at n, Reg.HEDDLE_STAT_RXFILL.at n] [.hed, .threads] s t := by
  have hexec : exec (.splitWrite n wtr v) s = .next ((s.hdFlushed n).wr (Reg.HEDDLE_CTRL_SPLIT.at n) v.val) :=
    congrArg Host.Outcome.next (if_pos ⟨hw, hv, hstate⟩)
  have hsize : ((s.hdFlushed n).wr (Reg.HEDDLE_CTRL_SPLIT.at n) v.val).hdTxSize n = 2 * v := by
    rw [State.hdTxSize, State.rd_wr_same]
    exact congrArg (2 * ·) (Nat.mod_eq_of_lt v.isLt)
  refine ⟨_, hexec, hsize, congrArg (8 - ·) hsize, by simp, by simp, ?_⟩
  exact ((hdFlushed_onHeddle (.refl n [Reg.HEDDLE_CTRL_SPLIT, Reg.HEDDLE_STAT_TXFILL, Reg.HEDDLE_STAT_RXFILL] _ s)
    (by simp) (by simp)).wr _ _ (by simp)).keeps

theorem splitWrite_refused (v : Fin 16) (h : 4 < v.val ∨ s.hdState n ≠ 0) : Answers (.splitWrite n wtr v) s fun t => t = s :=
  ⟨_, congrArg Host.Outcome.next (if_neg fun ⟨_, hv, hstate⟩ => h.elim (Nat.not_lt.2 hv) (· hstate)), rfl⟩

theorem heddleDivWrite_sets (d : BitVec 24) (hw : holderAllows (s.heddleHolder n) wtr = true) :
    Answers (.heddleDivWrite n wtr d) s fun t =>
      t.rd (Reg.HEDDLE_DIV_D.at n) = (if 256 ≤ d.toNat then d.toNat else s.rd (Reg.HEDDLE_DIV_D.at n)) ∧
        KeepsBut [Reg.HEDDLE_DIV_D.at n] [] s t := by
  by_cases hd : 256 ≤ d.toNat
  · refine ⟨_, congrArg Host.Outcome.next (if_pos ⟨hw, hd⟩), ?_, (KeepsBut.refl _ _ s).wr _ _ (by simp)⟩
    rw [State.rd_wr_same, if_pos hd]
    exact Nat.mod_eq_of_lt d.isLt
  · exact ⟨_, congrArg Host.Outcome.next (if_neg fun h => hd h.2), (if_neg hd).symm, KeepsBut.refl _ _ s⟩

theorem regionWrite_sets {base len start wrap : Nat} (hw : holderAllows (s.heddleHolder n) wtr = true)
    (hstate : s.hdState n = 0 ∨ s.hdState n = 3) (hbase : base < 128) (hlen : len ≤ 128) (hlow : (s.hdRun n).1 ≤ base)
    (hhigh : base + len ≤ (s.hdRun n).1 + (s.hdRun n).2) : Answers (.regionWrite n wtr base len start wrap) s fun t =>
      t.rd (Reg.HEDDLE_REGION_BASE.at n) = base ∧ t.rd (Reg.HEDDLE_REGION_LEN.at n) = len ∧
        t.rd (Reg.HEDDLE_REGION_START.at n) = start % 128 ∧ t.rd (Reg.HEDDLE_REGION_WRAP.at n) = wrap % 128 ∧
        KeepsBut [Reg.HEDDLE_REGION_BASE.at n, Reg.HEDDLE_REGION_LEN.at n, Reg.HEDDLE_REGION_START.at n,
          Reg.HEDDLE_REGION_WRAP.at n] [] s t := by
  have hexec : exec (.regionWrite n wtr base len start wrap) s =
      .next ((((s.wr (Reg.HEDDLE_REGION_BASE.at n) base).wr (Reg.HEDDLE_REGION_LEN.at n) len).wr
        (Reg.HEDDLE_REGION_START.at n) start).wr (Reg.HEDDLE_REGION_WRAP.at n) wrap) := by
    change execRegionWrite n wtr base len start wrap s = _
    have hactive : (s.hdState n == 1 || s.hdState n == 2) = false := by
      rcases hstate with h | h <;> simp [h]
    simp [execRegionWrite, hw, hactive, hbase, hlen, hlow, hhigh]
  refine ⟨_, hexec, ?_, ?_, ?_, State.rd_wr_same _ (Reg.HEDDLE_REGION_WRAP.at n) wrap, ?_⟩
  · simp (disch := decide) only [State.rd_wr_at, State.rd_wr_same]
    exact Nat.mod_eq_of_lt hbase
  · simp (disch := decide) only [State.rd_wr_at, State.rd_wr_same]
    exact Nat.mod_eq_of_lt (Nat.lt_of_le_of_lt hlen (show 128 < 2 ^ 8 by decide))
  · simp (disch := decide) only [State.rd_wr_at, State.rd_wr_same]
    rfl
  · exact ((((KeepsBut.refl _ _ s).wr _ _ (by simp)).wr _ _ (by simp)).wr _ _ (by simp)).wr _ _ (by simp)

/-- A write that would leave a running Heddle without a usable region is refused (R606). -/
theorem regionWrite_refused {base len start wrap : Nat} (hstate : s.hdState n = 1 ∨ s.hdState n = 2)
    (hbad : len = 0 ∨ len ≤ start % 128 ∨ len ≤ wrap % 128 ∨ len ≤ s.rd (Reg.HEDDLE_STAT_PC.at n)) (hw : wtr = .weaver)
    (hbase : base < 128) (hlen : len ≤ 128) : Answers (.regionWrite n wtr base len start wrap) s fun t => t = s := by
  refine ⟨s, ?_, rfl⟩
  change execRegionWrite n wtr base len start wrap s = _
  have hactive : (s.hdState n == 1 || s.hdState n == 2) = true := by
    rcases hstate with h | h <;> simp [h]
  have husable : regionUsable len (start % 128) (wrap % 128) (s.rd (Reg.HEDDLE_STAT_PC.at n)) = false := by
    rw [Bool.eq_false_iff]
    simp only [regionUsable, ne_eq, Bool.and_eq_true, decide_eq_true_eq]
    omega
  simp [execRegionWrite, hw, hactive, hbase, hlen, husable]

theorem txqWrite_takes (v : Word) (hw : holderAllows (s.heddleHolder n) wtr = true) (hroom : (s.hd n).txq.length < s.hdTxSize n) :
    Answers (.txqWrite n wtr v) s fun t =>
      t.hd n = { s.hd n with txq := (s.hd n).txq ++ [v.toNat] } ∧
        t.rd (Reg.HEDDLE_STAT_TXFILL.at n) = ((s.hd n).txq.length + 1) % 16 ∧
        KeepsBut [Reg.HEDDLE_STAT_TXFILL.at n] [.hed] s t := by
  have hexec : exec (.txqWrite n wtr v) s =
      .next ((s.setHd n { s.hd n with txq := (s.hd n).txq ++ [v.toNat] }).wr (Reg.HEDDLE_STAT_TXFILL.at n)
        ((s.hd n).txq ++ [v.toNat]).length) := by
    change execTxqWrite n wtr v s = _
    simp [execTxqWrite, hw, hroom, State.hdSetTx]
  refine ⟨_, hexec, by simp, ?_, ?_⟩
  · rw [State.rd_wr_same, List.length_append]
    rfl
  · exact (((OnHeddle.refl n [Reg.HEDDLE_STAT_TXFILL] [] s).setHd _).wr _ _ (by simp)).keeps

theorem txqWrite_full (v : Word) (hw : holderAllows (s.heddleHolder n) wtr = true) (hfull : s.hdTxSize n ≤ (s.hd n).txq.length) :
    Answers (.txqWrite n wtr v) s fun t =>
      t.rd (Reg.HEDDLE_STAT_TX_OVF.at n) = 1 ∧ KeepsBut [Reg.HEDDLE_STAT_TX_OVF.at n] [] s t := by
  have hexec : exec (.txqWrite n wtr v) s = .next (s.wr (Reg.HEDDLE_STAT_TX_OVF.at n) 1) := by
    change execTxqWrite n wtr v s = _
    simp [execTxqWrite, hw, Nat.not_lt.2 hfull]
  exact ⟨_, hexec, State.rd_wr_same _ (Reg.HEDDLE_STAT_TX_OVF.at n) 1, (KeepsBut.refl _ _ s).wr _ 1 (by simp)⟩

theorem State.readData_keeps (s : State) (v : Word) : Keeps [.readData] s { s with readData := v } :=
  fun p => by cases p <;> simp [Part.same]

/-- A read pops the oldest word; it never fills the queue, so it wakes nothing. -/
theorem rxqRead_pops (s : State) (n : Fin 16) : Answers (.rxqRead n) s fun t =>
    t.readData = BitVec.ofNat 32 ((s.hd n).rxq.headD 0) ∧ (t.hd n).rxq = (s.hd n).rxq.tail ∧
      KeepsBut [Reg.HEDDLE_STAT_RXFILL.at n] [.hed, .readData] s t := by
  cases hq : (s.hd n).rxq with
  | nil =>
    have hexec : exec (.rxqRead n) s = .next { s with readData := 0 } := by
      change execRxqRead n s = _
      simp [execRxqRead, hq]
    exact ⟨_, hexec, rfl, hq, ((KeepsBut.refl _ _ s).part (s.readData_keeps 0) (by simp)).mono (fun _ h => h) (by simp)⟩
  | cons w q =>
    have hexec : exec (.rxqRead n) s = .next { (s.setHd n { s.hd n with rxq := q }).wr (Reg.HEDDLE_STAT_RXFILL.at n) q.length with
        readData := BitVec.ofNat 32 w } := by
      change execRxqRead n s = _
      simp [execRxqRead, hq, State.hdSetRx]
    refine ⟨_, hexec, rfl, by simp [State.hd, State.wr, State.setHd], ?_⟩
    have hpop := ((OnHeddle.refl n [Reg.HEDDLE_STAT_RXFILL] [] s).setHd { s.hd n with rxq := q }).wr Reg.HEDDLE_STAT_RXFILL
      q.length (by simp)
    exact (hpop.keeps.mono (fun _ h => h) (by simp)).part ((State.readData_keeps _ _).mono (by simp)) (by simp)

theorem ttargetWrite_arms (v : Word) (hw : holderAllows (s.heddleHolder n) wtr = true) : Answers (.ttargetWrite n wtr v) s fun t =>
    t.rd (Reg.HEDDLE_TTARGET_V.at n) = v.toNat ∧ (t.hd n).armed = true ∧ KeepsBut [Reg.HEDDLE_TTARGET_V.at n] [.hed] s t := by
  refine ⟨_, congrArg Host.Outcome.next (if_pos hw), ?_, by simp, ?_⟩
  · exact (State.rd_wr_same _ _ _).trans (Nat.mod_eq_of_lt v.isLt)
  · exact (((OnHeddle.refl n [Reg.HEDDLE_TTARGET_V] [] s).setHd _).wr _ _ (by simp)).keeps

/-- A Heddle that another image holds takes no command (R635). -/
theorem heddle_notAllowed {v : Word} {d : BitVec 24} {hi : Bool} {f : Fin 16} {c : Instr}
    (hw : holderAllows (s.heddleHolder n) wtr = false)
    (hc : c ∈ [Instr.heddleEnable n wtr, .heddleDisable n wtr, .restart n wtr, .flush n wtr, .splitWrite n wtr f,
      .heddleDivWrite n wtr d, .slotmapWrite n wtr hi v, .txqWrite n wtr v, .ttargetWrite n wtr v]) :
    Answers c s fun t => t = s := by
  refine ⟨s, ?_, rfl⟩
  simp only [List.mem_cons, List.not_mem_nil, or_false] at hc
  rcases hc with rfl | rfl | rfl | rfl | rfl | rfl | rfl | rfl | rfl
  · exact congrArg Host.Outcome.next (if_pos (by simp [hw]))
  · exact congrArg Host.Outcome.next (if_neg (by simp [hw]))
  · exact congrArg Host.Outcome.next (if_neg (by simp [hw]))
  · exact congrArg Host.Outcome.next (if_neg (by simp [hw]))
  · exact congrArg Host.Outcome.next (if_neg (by simp [hw]))
  · exact congrArg Host.Outcome.next (if_neg (by simp [hw]))
  · exact congrArg Host.Outcome.next (if_pos (by simp [hw]))
  · exact congrArg Host.Outcome.next (if_pos (by simp [hw]))
  · exact congrArg Host.Outcome.next (if_neg (by simp [hw]))

end

/-! ### The bytes of a slot map (R621, R622) -/

theorem bitOf_fieldOf {m lo w i : Nat} (h : i < w) : bitOf (fieldOf m lo w) i = bitOf m (lo + i) := by
  rw [fieldOf, bitOf_mod_two_pow h, bitOf_eq_testBit, bitOf_eq_testBit, Nat.testBit_div_two_pow, Nat.add_comm]

/-- A byte of a 32-bit word replaced leaves its other bytes. -/
theorem fieldOf_replaceByte (r b : Nat) (i j : Fin 4) (hb : b < 256) :
    fieldOf ((r - fieldOf r (8 * j) 8 * 2 ^ (8 * j.val) + b * 2 ^ (8 * j.val)) % 2 ^ 32) (8 * i) 8 =
      if i = j then b else fieldOf r (8 * i) 8 := by
  fin_cases i <;> fin_cases j <;> simp [fieldOf] <;> omega

/-- A 32-bit word is its four bytes. -/
theorem eq_of_bytes {x y : Nat} (hx : x < 2 ^ 32) (hy : y < 2 ^ 32) (h : ∀ i : Fin 4, fieldOf x (8 * i) 8 = fieldOf y (8 * i) 8) :
    x = y := by
  have h0 := h 0
  have h1 := h 1
  have h2 := h 2
  have h3 := h 3
  simp [fieldOf] at h0 h1 h2 h3
  omega

/-- The slot map register of the slots 4 to 7, or of the slots 0 to 3. -/
def slotField (hi : Bool) : Field := if hi then Reg.HEDDLE_SLOTMAP1_V else Reg.HEDDLE_SLOTMAP0_V

/-- The slot of byte `j` of a slot map register. -/
def slotIndex (hi : Bool) (j : Nat) : Nat := if hi then 4 + j else j

theorem slotByte_eq (s : State) (n : Nat) (hi : Bool) (j : Fin 4) :
    s.slotByte n (slotIndex hi j) = fieldOf (s.rd ((slotField hi).at n)) (8 * j) 8 := by
  cases hi
  · exact if_pos j.isLt
  · refine (if_neg (by simp [slotIndex])).trans ?_
    simp [slotIndex, slotField]

theorem putSlotByte_eq (s : State) (n b : Nat) (hi : Bool) (j : Fin 4) : s.putSlotByte n (slotIndex hi j) b =
    s.wr ((slotField hi).at n) (s.rd ((slotField hi).at n) - fieldOf (s.rd ((slotField hi).at n)) (8 * j) 8 * 2 ^ (8 * j.val) +
      b * 2 ^ (8 * j.val)) := by
  have hj : j.val % 4 = j := Nat.mod_eq_of_lt j.isLt
  cases hi
  · simp [State.putSlotByte, slotIndex, slotField, hj]
  · simp [State.putSlotByte, slotIndex, slotField, hj, Nat.add_mod_left]

theorem slotByte_putSlotByte (s : State) (n b : Nat) (hi : Bool) (i j : Fin 4) (hb : b < 256) :
    (s.putSlotByte n (slotIndex hi j) b).slotByte n (slotIndex hi i) = if i = j then b else s.slotByte n (slotIndex hi i) := by
  have hw : ((slotField hi).at n).w = 32 := by cases hi <;> rfl
  rw [slotByte_eq, slotByte_eq, putSlotByte_eq, State.rd_wr_same, hw, fieldOf_replaceByte _ _ _ _ hb]

/-- CLAIM_REFUSED is no slot byte. -/
theorem slotByte_wr_refused (s : State) (n : Nat) (hi : Bool) (j : Fin 4) :
    (s.wr (Reg.HEDDLE_STAT_CLAIM_REFUSED.at n) 1).slotByte n (slotIndex hi j) = s.slotByte n (slotIndex hi j) := by
  rw [slotByte_eq, slotByte_eq]
  cases hi <;> exact congrArg (fieldOf · _ 8) (State.rd_wr_at _ _ _ _ _ (by decide) (by decide))

/-- What SLOTMAP_WRITE does with byte `j`: it is put where its claim is allowed, and refused with CLAIM_REFUSED otherwise. -/
def State.slotWrite (s : State) (n : Nat) (hi : Bool) (v : Nat) (j : Nat) : State :=
  if s.claimOk n (slotIndex hi j) (fieldOf v (8 * j) 8) then s.putSlotByte n (slotIndex hi j) (fieldOf v (8 * j) 8)
  else s.wr (Reg.HEDDLE_STAT_CLAIM_REFUSED.at n) 1

theorem execSlotmapWrite_eq (s : State) (n : Fin 16) (wtr : Writer) (hi : Bool) (v : Word)
    (hw : holderAllows (s.heddleHolder n) wtr = true) : exec (.slotmapWrite n wtr hi v) s =
      .next (s.each (List.finRange 4) fun s j => s.slotWrite n hi v.toNat j) :=
  congrArg Host.Outcome.next (if_neg (by simp [hw]))

section
variable {s : State} {n v : Nat} {hi : Bool}

@[simp] theorem slotWrite_hed (s : State) (n v j : Nat) (hi : Bool) : (s.slotWrite n hi v j).hed = s.hed := by
  unfold State.slotWrite
  split <;> rfl

/-- Another byte of the register is left. -/
theorem slotWrite_ne {i j : Fin 4} (h : i ≠ j) : (s.slotWrite n hi v j).slotByte n (slotIndex hi i) = s.slotByte n (slotIndex hi i) := by
  unfold State.slotWrite
  split
  · rw [slotByte_putSlotByte _ _ _ _ _ _ (fieldOf_lt _ _ 8), if_neg h]
  · exact slotByte_wr_refused s n hi i

theorem slotWrite_accepted {j : Fin 4} (h : bitOf v (8 * j + 6) = false) :
    s.slotWrite n hi v j = s.putSlotByte n (slotIndex hi j) (fieldOf v (8 * j) 8) := by
  refine if_pos ?_
  simp [State.claimOk, bitOf_fieldOf, h]

/-- A claim of a pin above 41 is refused (Table 10-4). -/
theorem slotWrite_refused {j : Fin 4} (h : bitOf v (8 * j + 6) = true) (hpin : 42 ≤ fieldOf v (8 * j) 6) :
    s.slotWrite n hi v j = s.wr (Reg.HEDDLE_STAT_CLAIM_REFUSED.at n) 1 := by
  have hp : fieldOf v (8 * j) 8 % 64 = fieldOf v (8 * j) 6 := Nat.mod_mod_of_dvd _ (by decide)
  refine if_neg ?_
  simp [State.claimOk, bitOf_fieldOf, h, hp, hpin]

/-- CLAIM_REFUSED stays set. -/
theorem slotWrite_keeps_refused (j : Nat) (h : s.rd (Reg.HEDDLE_STAT_CLAIM_REFUSED.at n) = 1) :
    (s.slotWrite n hi v j).rd (Reg.HEDDLE_STAT_CLAIM_REFUSED.at n) = 1 := by
  unfold State.slotWrite
  split
  · unfold State.putSlotByte
    dsimp only
    refine Eq.trans ?_ h
    split <;> exact State.rd_wr_at _ _ _ _ _ (by decide) (by decide)
  · exact State.rd_wr_same _ _ 1

/-- A byte whose claim is refused stays, whatever the other bytes do. -/
theorem each_slotWrite_refused {j : Fin 4} (h : bitOf v (8 * j + 6) = true) (hpin : 42 ≤ fieldOf v (8 * j) 6) (l : List (Fin 4))
    (hl : j ∈ l ∨ s.rd (Reg.HEDDLE_STAT_CLAIM_REFUSED.at n) = 1) :
    (s.each l fun s j => s.slotWrite n hi v j).rd (Reg.HEDDLE_STAT_CLAIM_REFUSED.at n) = 1 ∧
      (s.each l fun s j => s.slotWrite n hi v j).slotByte n (slotIndex hi j) = s.slotByte n (slotIndex hi j) ∧
      (s.each l fun s j => s.slotWrite n hi v j).hed = s.hed := by
  induction l generalizing s with
  | nil => exact ⟨hl.resolve_left List.not_mem_nil, rfl, rfl⟩
  | cons i l ih =>
    have hstep : (j ∈ l ∨ (s.slotWrite n hi v i).rd (Reg.HEDDLE_STAT_CLAIM_REFUSED.at n) = 1) ∧
        (s.slotWrite n hi v i).slotByte n (slotIndex hi j) = s.slotByte n (slotIndex hi j) := by
      by_cases hij : j = i
      · subst hij
        rw [slotWrite_refused h hpin]
        exact ⟨.inr (State.rd_wr_same _ _ 1), slotByte_wr_refused s n hi j⟩
      · exact ⟨hl.imp (fun hm => (List.mem_cons.1 hm).resolve_left hij) (slotWrite_keeps_refused i), slotWrite_ne hij⟩
    obtain ⟨hmem, hbyte⟩ := hstep
    obtain ⟨ihrd, ihbyte, ihhed⟩ := ih hmem
    exact ⟨ihrd, ihbyte.trans hbyte, ihhed.trans (slotWrite_hed ..)⟩

/-- Bytes without a claim are put one after the other. -/
theorem each_slotWrite_accepted (h : ∀ j : Fin 4, bitOf v (8 * j + 6) = false) (i : Fin 4) (l : List (Fin 4)) :
    (s.each l fun s j => s.slotWrite n hi v j).slotByte n (slotIndex hi i) =
      if i ∈ l then fieldOf v (8 * i) 8 else s.slotByte n (slotIndex hi i) := by
  induction l generalizing s with
  | nil => rfl
  | cons j l ih =>
    refine (ih (s := s.slotWrite n hi v j)).trans ?_
    rw [slotWrite_accepted (h j), slotByte_putSlotByte _ _ _ _ _ _ (fieldOf_lt _ _ 8)]
    by_cases hij : i = j
    · simp [hij]
    · simp [hij]

theorem slotWrite_keepsBut (h : ∀ j : Fin 4, bitOf v (8 * j + 6) = false) (l : List (Fin 4)) :
    KeepsBut [(slotField hi).at n] [] s (s.each l fun s j => s.slotWrite n hi v j) := by
  refine KeepsBut.each _ _ (fun j _ s t hk => ?_) (KeepsBut.refl _ _ s)
  rw [slotWrite_accepted (h j), putSlotByte_eq]
  exact hk.wr _ _ (by simp)

/-- The register holds 32 bits once a byte has been put. -/
theorem slotWrite_lt {j : Fin 4} (h : bitOf v (8 * j + 6) = false) : (s.slotWrite n hi v j).rd ((slotField hi).at n) < 2 ^ 32 := by
  have hw : ((slotField hi).at n).w = 32 := by cases hi <;> rfl
  rw [slotWrite_accepted h, putSlotByte_eq, State.rd_wr_same, hw]
  exact Nat.mod_lt _ (by decide)

end

section
variable {s : State} {n : Fin 16} {wtr : Writer} {hi : Bool} {v : Word}

theorem slotField_at (hi : Bool) (n : Nat) :
    (slotField hi).at n = if hi then Reg.HEDDLE_SLOTMAP1_V.at n else Reg.HEDDLE_SLOTMAP0_V.at n := by
  cases hi <;> rfl

theorem slotmapWrite_sets (hw : holderAllows (s.heddleHolder n) wtr = true) (h : ∀ j : Fin 4, bitOf v.toNat (8 * j + 6) = false) :
    Answers (.slotmapWrite n wtr hi v) s fun t =>
      t.rd (if hi then Reg.HEDDLE_SLOTMAP1_V.at n else Reg.HEDDLE_SLOTMAP0_V.at n) = v.toNat ∧
        KeepsBut [if hi then Reg.HEDDLE_SLOTMAP1_V.at n else Reg.HEDDLE_SLOTMAP0_V.at n] [] s t := by
  rw [← slotField_at]
  refine ⟨_, execSlotmapWrite_eq s n wtr hi v hw, ?_, slotWrite_keepsBut h _⟩
  refine eq_of_bytes (slotWrite_lt (h 3)) v.isLt fun i => ?_
  rw [← slotByte_eq]
  exact (each_slotWrite_accepted h i (List.finRange 4)).trans (if_pos (List.mem_finRange i))

theorem slotmapWrite_refuses {j : Fin 4} (hw : holderAllows (s.heddleHolder n) wtr = true) (h : bitOf v.toNat (8 * j + 6) = true)
    (hpin : 42 ≤ fieldOf v.toNat (8 * j) 6) : Answers (.slotmapWrite n wtr hi v) s fun t =>
      t.rd (Reg.HEDDLE_STAT_CLAIM_REFUSED.at n) = 1 ∧
        t.slotByte n (if hi then 4 + j else j) = s.slotByte n (if hi then 4 + j else j) ∧ t.hed = s.hed :=
  ⟨_, execSlotmapWrite_eq s n wtr hi v hw, each_slotWrite_refused h hpin _ (.inl (List.mem_finRange j))⟩

end

/-! ### Program words (R603, R607) -/

section
variable {s : State} {b : Fin 2} {w : Fin 128} {wtr : Writer} {v : BitVec 24}

/-- The active Heddles of block `b` whose region holds word `w`. -/
def State.progHit (s : State) (b w : Nat) : List Nat :=
  (List.range 8).map (8 * b + ·) |>.filter (fun n =>
    (s.hdState n == 1 || s.hdState n == 2) && decide (s.rd (Reg.HEDDLE_REGION_BASE.at n) ≤ w) &&
      decide (w < s.rd (Reg.HEDDLE_REGION_BASE.at n) + s.rd (Reg.HEDDLE_REGION_LEN.at n)))

/-- The Weaver and the gateway reach every word: a word of an active region is refused, another is put. -/
theorem exec_programWordWrite (hw : wtr = .weaver ∨ wtr = .gateway) : exec (.programWordWrite b w wtr v) s =
    .next (if !(s.progHit b w).isEmpty then s.each (s.progHit b w) (fun s n => s.wr (Reg.HEDDLE_STAT_PROG_REFUSED.at n) 1)
      else { s with hed := { s.hed with prog := s.hed.prog.set 0 (b.val * 128 + w.val) v.toNat } }) := by
  rcases hw with rfl | rfl <;> rfl

theorem programWordWrite_puts (hw : wtr = .weaver ∨ wtr = .gateway)
    (hidle : ∀ k : Fin 8, s.hdState (8 * b + k) = 0 ∨ s.hdState (8 * b + k) = 3) : Answers (.programWordWrite b w wtr v) s fun t =>
      t.hed.prog.get 0 (b * 128 + w) = v.toNat ∧ t.hed.units = s.hed.units ∧
        (∀ c : Fin 2, ∀ x : Fin 128, (c ≠ b ∨ x ≠ w) → t.hed.prog.get 0 (c * 128 + x) = s.hed.prog.get 0 (c * 128 + x)) ∧
        Keeps [.hed] s t := by
  have hhit : s.progHit b w = [] := by
    rw [State.progHit, List.filter_eq_nil_iff]
    intro n hn
    simp only [List.mem_map, List.mem_range] at hn
    obtain ⟨k, hk, rfl⟩ := hn
    rcases hidle ⟨k, hk⟩ with h | h <;> simp [h]
  refine ⟨_, (exec_programWordWrite hw).trans (congrArg Host.Outcome.next (if_neg (by simp [hhit]))), Store.get_set_same .., rfl,
    fun c x hne => Store.get_set_ne _ _ _ _ ?_, fun p => by cases p <;> simp [Part.same]⟩
  have hx := x.isLt
  have hw' := w.isLt
  rcases hne with h | h
  · have := fun e => h (Fin.ext e)
    omega
  · have := fun e => h (Fin.ext e)
    omega

theorem progRefused_mono {n : Nat} (l : List Nat) (h : n ∈ l ∨ s.rd (Reg.HEDDLE_STAT_PROG_REFUSED.at n) = 1) :
    (s.each l fun s n => s.wr (Reg.HEDDLE_STAT_PROG_REFUSED.at n) 1).rd (Reg.HEDDLE_STAT_PROG_REFUSED.at n) = 1 ∧
      (s.each l fun s n => s.wr (Reg.HEDDLE_STAT_PROG_REFUSED.at n) 1).hed = s.hed := by
  induction l generalizing s with
  | nil => exact ⟨h.resolve_left List.not_mem_nil, rfl⟩
  | cons m l ih =>
    refine ih (s := s.wr (Reg.HEDDLE_STAT_PROG_REFUSED.at m) 1) ?_
    by_cases hm : n = m
    · subst hm
      exact .inr (State.rd_wr_same _ _ 1)
    · refine h.imp (fun hmem => (List.mem_cons.1 hmem).resolve_left hm) fun h => ?_
      rwa [State.rd_wr_ne _ _ _ _ (key_hd_ne_of_ne hm (by decide) (by decide) (by decide) (by decide) (by decide) (by decide))]

theorem programWordWrite_refuses {k : Fin 8} (hw : wtr = .weaver ∨ wtr = .gateway) (hrun : s.hdState (8 * b + k) = 1)
    (hbase : s.rd (Reg.HEDDLE_REGION_BASE.at (8 * b + k)) ≤ w)
    (hend : w < s.rd (Reg.HEDDLE_REGION_BASE.at (8 * b + k)) + s.rd (Reg.HEDDLE_REGION_LEN.at (8 * b + k))) :
    Answers (.programWordWrite b w wtr v) s fun t =>
      t.rd (Reg.HEDDLE_STAT_PROG_REFUSED.at (8 * b + k)) = 1 ∧ t.hed = s.hed := by
  have hhit : 8 * b.val + k.val ∈ s.progHit b w := by
    refine List.mem_filter.2 ⟨List.mem_map.2 ⟨k, List.mem_range.2 k.isLt, rfl⟩, ?_⟩
    simp [hrun, hbase, hend]
  have hne : (!(s.progHit b w).isEmpty) = true := by
    simpa using List.ne_nil_of_mem hhit
  exact ⟨_, (exec_programWordWrite hw).trans (congrArg Host.Outcome.next (if_pos hne)), progRefused_mono _ (.inl hhit)⟩

end

/-! ### Reading a UART back -/

@[simp] theorem State.ua_setUa (s : State) (n : Nat) (u : UartUnit) : (s.setUa n u).ua n = u := by simp [State.ua, State.setUa]

theorem State.ua_setUa_ne (s : State) {n m : Nat} (u : UartUnit) (hm : m ≠ n) : (s.setUa n u).ua m = s.ua m := by
  simp [State.ua, State.setUa, Store.get_set_ne _ _ _ _ hm]

@[simp] theorem State.rd_setUa (s : State) (n : Nat) (u : UartUnit) (f : Field) : (s.setUa n u).rd f = s.rd f := rfl
@[simp] theorem State.ua_wr (s : State) (n : Nat) (f : Field) (v : Nat) : (s.wr f v).ua n = s.ua n := rfl

theorem State.setUa_keeps (s : State) (n : Nat) (u : UartUnit) : Keeps [.hed] s (s.setUa n u) :=
  fun p => by cases p <;> simp [State.setUa, Part.same]

theorem KeepsBut.setUa {fs : List Field} {p : List Part} {s t : State} (h : KeepsBut fs (.hed :: p) s t) (n : Nat) (u : UartUnit) :
    KeepsBut fs (.hed :: p) s (t.setUa n u) :=
  h.trans (((KeepsBut.refl [] [.hed] t).part (t.setUa_keeps n u) (by simp)).mono (by simp) (by simp))

/-! ### The bypass of the UARTs (R627, R646) -/

/-- A bit of a two-bit number set or cleared. -/
theorem bitOf_setBit_two (m : Nat) (k i : Fin 2) (b : Bool) : bitOf (setBit m k b % 2 ^ 2) i = if i = k then b else bitOf m i := by
  rw [bitOf_mod_two_pow i.isLt]
  cases b <;> fin_cases k <;> fin_cases i <;> simp [setBit, bitOf] <;> split <;> omega

/-- The bypass of channel `k` set or cleared: a set one stops the UART and shows TX_BUSY 0. -/
def State.bypassPut (s : State) (k : Nat) (b : Bool) : State :=
  if b then ((s.wrBit Reg.HEDDLE_BYPASS_RS485 k b).setUa k { s.ua k with sending := none, onBus := false, de := false }).wr
    (Reg.UART_STAT_TX_BUSY.at k) 0
  else s.wrBit Reg.HEDDLE_BYPASS_RS485 k b

/-- What BYPASS_WRITE of image `j` does to channel `k`. -/
def State.bypassStep (s : State) (j : Fin 4) (v : BitVec 2) (k : Nat) : State :=
  match s.fieldHolder (2 + k) with
  | some h => if j.val = h then s.bypassPut k (v.getLsbD k) else s
  | none => s

theorem execBypassWrite_image (s : State) (j : Fin 4) (v : BitVec 2) :
    exec (.bypassWrite (.image j) v) s = .next (s.each [0, 1] fun s k => s.bypassStep j v k) := by
  refine congrArg (fun f => Host.Outcome.next (s.each [0, 1] f)) (funext fun s => funext fun k => ?_)
  unfold State.bypassStep
  cases s.fieldHolder (2 + k) with
  | none => rfl
  | some h =>
    cases hv : v.getLsbD k
    · rfl
    · rfl

/-- The channel of a bypass as BYPASS_WRITE leaves it. -/
def BypassShown (t : State) (k : Fin 2) (b : Bool) : Prop :=
  bitOf (t.rd Reg.HEDDLE_BYPASS_RS485) k = b ∧
    (b = true → (t.ua k).sending = none ∧ (t.ua k).de = false ∧ t.rd (Reg.UART_STAT_TX_BUSY.at k) = 0)

section
variable {s t : State} {j : Fin 4} {v : BitVec 2} {k i : Fin 2} {b : Bool}

/-- BYPASS_RS485 is no field of a UART. -/
theorem key_bypass_ne_busy (k : Fin 2) : Reg.HEDDLE_BYPASS_RS485.key ≠ (Reg.UART_STAT_TX_BUSY.at k).key := by
  fin_cases k <;> decide

theorem key_busy_ne (h : k ≠ i) : (Reg.UART_STAT_TX_BUSY.at k).key ≠ (Reg.UART_STAT_TX_BUSY.at i).key := by
  revert k i
  decide

/-- A bypass put on channel `i` shows in bit `i` of BYPASS_RS485 and leaves the other bit. -/
theorem bitOf_bypassPut (s : State) (i k : Fin 2) (b : Bool) : bitOf ((s.bypassPut i b).rd Reg.HEDDLE_BYPASS_RS485) k =
    if k = i then b else bitOf (s.rd Reg.HEDDLE_BYPASS_RS485) k := by
  have hbit : (s.bypassPut i b).rd Reg.HEDDLE_BYPASS_RS485 = setBit (s.rd Reg.HEDDLE_BYPASS_RS485) i b % 2 ^ 2 := by
    cases b
    · exact State.rd_wr_same _ Reg.HEDDLE_BYPASS_RS485 _
    · exact (State.rd_wr_ne _ _ _ 0 (key_bypass_ne_busy i)).trans (State.rd_wr_same _ Reg.HEDDLE_BYPASS_RS485 _)
  rw [hbit, bitOf_setBit_two]

theorem bypassPut_shown (s : State) (k : Fin 2) (b : Bool) : BypassShown (s.bypassPut k b) k b := by
  refine ⟨(bitOf_bypassPut s k k b).trans (if_pos rfl), ?_⟩
  rintro rfl
  have hua : (s.bypassPut k true).ua k = { s.ua k with sending := none, onBus := false, de := false } := State.ua_setUa ..
  exact ⟨by rw [hua], by rw [hua], State.rd_wr_same _ (Reg.UART_STAT_TX_BUSY.at k) 0⟩

/-- A bypass put on one channel leaves the other one. -/
theorem BypassShown.put (h : BypassShown t k b) (hki : k ≠ i) (c : Bool) : BypassShown (t.bypassPut i c) k b := by
  obtain ⟨hbit, hstop⟩ := h
  have hua : (t.bypassPut i c).ua k = t.ua k := by
    cases c
    · rfl
    · exact State.ua_setUa_ne _ _ (Fin.val_ne_of_ne hki)
  have hbusy : (t.bypassPut i c).rd (Reg.UART_STAT_TX_BUSY.at k) = t.rd (Reg.UART_STAT_TX_BUSY.at k) := by
    cases c
    · exact State.rd_wr_ne _ _ _ _ (key_bypass_ne_busy k).symm
    · exact (State.rd_wr_ne _ _ _ 0 (key_busy_ne hki)).trans (State.rd_wr_ne _ _ _ _ (key_bypass_ne_busy k).symm)
  refine ⟨(bitOf_bypassPut t i k c).trans ((if_neg hki).trans hbit), ?_⟩
  rw [hua, hbusy]
  exact hstop

theorem bypassStep_eq (h : s.fieldHolder (2 + k) = some j.val) : s.bypassStep j v k = s.bypassPut k (v.getLsbD k) := by
  simp [State.bypassStep, h]

/-- A step on a channel either puts its bypass or leaves it. -/
theorem bypassStep_cases (s : State) (j : Fin 4) (v : BitVec 2) (i : Nat) :
    s.bypassStep j v i = s.bypassPut i (v.getLsbD i) ∨ s.bypassStep j v i = s := by
  unfold State.bypassStep
  split
  · split
    · exact .inl rfl
    · exact .inr rfl
  · exact .inr rfl

theorem BypassShown.step (h : BypassShown t k b) (hki : k ≠ i) : BypassShown (t.bypassStep j v i) k b := by
  rcases bypassStep_cases t j v i with he | he <;> rw [he]
  · exact h.put hki _
  · exact h

theorem bypassPut_fieldHolder (s : State) (i m : Nat) (b : Bool) : (s.bypassPut i b).fieldHolder m = s.fieldHolder m := by
  cases b <;> rfl

theorem bypassStep_fieldHolder (s : State) (j : Fin 4) (v : BitVec 2) (i m : Nat) :
    (s.bypassStep j v i).fieldHolder m = s.fieldHolder m := by
  rcases bypassStep_cases s j v i with he | he <;> rw [he]
  exact bypassPut_fieldHolder ..

theorem bypassStep_units (s : State) (j : Fin 4) (v : BitVec 2) (i : Nat) : (s.bypassStep j v i).hed.units = s.hed.units := by
  rcases bypassStep_cases s j v i with he | he <;> rw [he]
  cases v.getLsbD i <;> rfl

theorem bypassStep_keepsBut {fs : List Field} (h : KeepsBut fs [.hed] s t) (hf : Reg.HEDDLE_BYPASS_RS485 ∈ fs)
    (hb : Reg.UART_STAT_TX_BUSY.at i ∈ fs) : KeepsBut fs [.hed] s (t.bypassStep j v i) := by
  rcases bypassStep_cases t j v i with he | he <;> rw [he]
  · cases v.getLsbD i
    · exact h.wr _ _ hf
    · exact ((h.wr _ _ hf).setUa _ _).wr _ 0 hb
  · exact h

/-- The image that holds a channel sets or clears its bypass, whatever the other bit does. -/
theorem bypassWrite_shows (hheld : s.fieldHolder (2 + k) = some j.val) : Answers (.bypassWrite (.image j) v) s fun t =>
    bitOf (t.rd Reg.HEDDLE_BYPASS_RS485) k = v.getLsbD k ∧
      (v.getLsbD k = true → (t.ua k).sending = none ∧ (t.ua k).de = false ∧ t.rd (Reg.UART_STAT_TX_BUSY.at k) = 0) ∧
      t.hed.units = s.hed.units ∧
      KeepsBut [Reg.HEDDLE_BYPASS_RS485, Reg.UART_STAT_TX_BUSY.at 0, Reg.UART_STAT_TX_BUSY.at 1] [.hed] s t := by
  have hshown : BypassShown ((s.bypassStep j v 0).bypassStep j v 1) k (v.getLsbD k) := by
    match k with
    | 0 =>
      refine BypassShown.step (i := 1) ?_ (by decide)
      rw [show s.bypassStep j v 0 = _ from bypassStep_eq (k := 0) hheld]
      exact bypassPut_shown s 0 _
    | 1 =>
      rw [show (s.bypassStep j v 0).bypassStep j v 1 = _ from
        bypassStep_eq (k := 1) ((bypassStep_fieldHolder s j v 0 _).trans hheld)]
      exact bypassPut_shown _ 1 _
  obtain ⟨hbit, hstop⟩ := hshown
  refine ⟨_, execBypassWrite_image s j v, hbit, hstop, (bypassStep_units _ j v 1).trans (bypassStep_units s j v 0), ?_⟩
  exact bypassStep_keepsBut (i := 1) (bypassStep_keepsBut (i := 0) (KeepsBut.refl _ _ s) (by simp) (by simp)) (by simp) (by simp)

/-- No bit changes for the Weaver or the gateway. -/
theorem bypassWrite_notImage {wtr : Writer} (hw : wtr = .weaver ∨ wtr = .gateway) :
    Answers (.bypassWrite wtr v) s fun t => t = s := by
  rcases hw with rfl | rfl
  · exact ⟨s, rfl, rfl⟩
  · exact ⟨s, rfl, rfl⟩

end

/-! ### The current limit of a DALI line (R628) -/

/-- SHORT of DALI line `i`. -/
def daliShort (i : Fin 2) : Field := if i = 0 then Reg.HEDDLE_DALI_STAT_SHORT0 else Reg.HEDDLE_DALI_STAT_SHORT1

theorem execDaliCurrentLimit_eq (i : Fin 2) (s : State) :
    exec (.daliCurrentLimit i) s = .next ((s.wr (daliShort i) 1).event 0x0A02 i []) := by
  fin_cases i <;> rfl

theorem daliShort_shown (i : Fin 2) (s : State) : ((s.wr (daliShort i) 1).event 0x0A02 i []).rd (daliShort i) = 1 := by
  have hkey : (daliShort i).key ≠ Reg.HOSTPORT_INTSTAT_INTSTAT.key := by fin_cases i <;> decide
  rw [event_rd _ _ _ _ _ hkey, State.rd_wr_same]
  fin_cases i <;> rfl

theorem daliCurrentLimit_shows (s : State) (i : Fin 2) : Answers (.daliCurrentLimit i) s fun t =>
    t.rd (daliShort i) = 1 ∧ (t.tk.ring.head?).map (fun e => (e.code, e.src)) = some (0x0A02, i.val) ∧
      KeepsBut [daliShort i, Reg.HOSTPORT_INTSTAT_INTSTAT] [.tk, .jr, .gl, .marks] s t := by
  refine ⟨_, execDaliCurrentLimit_eq i s, daliShort_shown i s, ?_, ?_⟩
  · have hring := congrArg (Option.map fun e : Nat × Nat × List Nat => (e.1, e.2.1)) (event_ring_head (s.wr (daliShort i) 1) 0x0A02 i [])
    rwa [Option.map_map] at hring
  · exact ((KeepsBut.refl _ _ s).wr _ 1 (by simp)).event _ _ _ (by simp) (by simp) (by simp)

/-- Settles O35: each register command of a Heddle by its own lemma; a slot map is put byte by byte, and a bypass channel by channel. -/
theorem heddleControl : Obligations.HeddleControl :=
  ⟨fun _ _ _ => heddleEnable_runs, fun _ _ _ => heddleEnable_badPc, fun _ _ _ => heddleDisable_stops, fun _ _ _ => restart_clears,
    fun _ _ _ => flush_empties, fun _ _ _ => splitWrite_sets, fun _ _ _ => splitWrite_refused, fun _ _ _ => heddleDivWrite_sets,
    fun _ _ _ _ _ _ _ => regionWrite_sets, fun _ _ _ _ _ _ _ => regionWrite_refused, fun _ _ _ _ _ => slotmapWrite_sets,
    fun _ _ _ _ _ _ => slotmapWrite_refuses, fun _ _ _ _ _ => programWordWrite_puts, fun _ _ _ _ _ _ => programWordWrite_refuses,
    fun _ _ _ => txqWrite_takes, fun _ _ _ => txqWrite_full, rxqRead_pops, fun _ _ _ => ttargetWrite_arms,
    fun _ _ _ _ => bypassWrite_shows, fun _ _ _ => bypassWrite_notImage, daliCurrentLimit_shows,
    fun _ _ _ _ _ _ _ _ => heddle_notAllowed⟩

/-! ### What the shared operations leave of a UART -/

section
variable {n : Nat} {fs : List Field} {p : List Part} {s t : State}

@[simp] theorem State.uaWake_hed (s : State) (n : Nat) : (s.uaWake n).hed = s.hed := by
  unfold State.uaWake
  split <;> simp

@[simp] theorem State.uaWake_ua (s : State) (n m : Nat) : (s.uaWake n).ua m = s.ua m := by simp [State.ua]

@[simp] theorem State.uaWake_rd (s : State) (n : Nat) (f : Field) : (s.uaWake n).rd f = s.rd f := by
  unfold State.uaWake
  split <;> simp

theorem KeepsBut.uaWake (h : KeepsBut fs p s t) (n : Nat) (hp : Part.threads ∈ p) : KeepsBut fs p s (t.uaWake n) := by
  unfold State.uaWake
  split
  · exact h.trans (((KeepsBut.refl [] [.threads] t).part (t.wake_keeps _) (by simp)).mono (by simp) (by simpa using hp))
  · exact h

/-- A transmit FIFO that does not get shorter wakes nothing. -/
theorem uaSetTx_of_le {q : List Nat} (h : (s.ua n).tx.length ≤ q.length) :
    s.uaSetTx n q = (s.setUa n { s.ua n with tx := q }).wr (Reg.UART_STAT_TXFILL.at n) q.length :=
  if_neg fun ⟨hlt, _⟩ => Nat.not_lt.2 h hlt

/-- A receive FIFO that does not get longer wakes nothing. -/
theorem uaSetRx_of_le {q : List Nat} (h : q.length ≤ (s.ua n).rx.length) :
    s.uaSetRx n q = (s.setUa n { s.ua n with rx := q }).wr (Reg.UART_STAT_RXFILL.at n) q.length :=
  if_neg fun ⟨hlt, _⟩ => Nat.not_lt.2 h hlt

@[simp] theorem State.uaSetTx_ua (s : State) (n : Nat) (q : List Nat) : (s.uaSetTx n q).ua n = { s.ua n with tx := q } := by
  unfold State.uaSetTx
  dsimp only
  split <;> simp

@[simp] theorem State.uaSetRx_ua (s : State) (n : Nat) (q : List Nat) : (s.uaSetRx n q).ua n = { s.ua n with rx := q } := by
  unfold State.uaSetRx
  dsimp only
  split <;> simp

theorem State.uaSetTx_rd (s : State) (n : Nat) (q : List Nat) (f : Field) :
    (s.uaSetTx n q).rd f = (s.wr (Reg.UART_STAT_TXFILL.at n) q.length).rd f := by
  unfold State.uaSetTx
  dsimp only
  split
  · exact State.uaWake_rd _ _ _
  · rfl

theorem State.uaSetRx_rd (s : State) (n : Nat) (q : List Nat) (f : Field) :
    (s.uaSetRx n q).rd f = (s.wr (Reg.UART_STAT_RXFILL.at n) q.length).rd f := by
  unfold State.uaSetRx
  dsimp only
  split
  · exact State.uaWake_rd _ _ _
  · rfl

theorem State.uaSetTx_fill (s : State) (n : Nat) (q : List Nat) : (s.uaSetTx n q).rd (Reg.UART_STAT_TXFILL.at n) = q.length % 64 :=
  (s.uaSetTx_rd n q _).trans (State.rd_wr_same _ (Reg.UART_STAT_TXFILL.at n) _)

theorem State.uaSetRx_fill (s : State) (n : Nat) (q : List Nat) : (s.uaSetRx n q).rd (Reg.UART_STAT_RXFILL.at n) = q.length % 64 :=
  (s.uaSetRx_rd n q _).trans (State.rd_wr_same _ (Reg.UART_STAT_RXFILL.at n) _)

theorem KeepsBut.uaSetTx (h : KeepsBut fs (.hed :: p) s t) (n : Nat) (q : List Nat) (hf : Reg.UART_STAT_TXFILL.at n ∈ fs)
    (hp : Part.threads ∈ p) : KeepsBut fs (.hed :: p) s (t.uaSetTx n q) := by
  have hput := (h.setUa n { t.ua n with tx := q }).wr _ q.length hf
  unfold State.uaSetTx
  dsimp only
  split
  · exact hput.uaWake n (List.mem_cons_of_mem _ hp)
  · exact hput

/-! ### The writes that wait for the end of a character (R640) -/

/-- The fields of the writes that wait. -/
def uaPendFields : List Field :=
  [Reg.UART_CTRL_EN, Reg.UART_CTRL_DATA8, Reg.UART_CTRL_PARITY, Reg.UART_CTRL_STOP2, Reg.UART_BAUD_BAUDDIV]

/-- The writes of EN and of the format have taken effect. -/
def State.uaPendPut (s : State) (n : Nat) (p : UartPend) : State :=
  (((s.wr (Reg.UART_CTRL_EN.at n) p.en).wr (Reg.UART_CTRL_DATA8.at n) p.data8).wr (Reg.UART_CTRL_PARITY.at n) p.parity).wr
    (Reg.UART_CTRL_STOP2.at n) p.stop2

/-- The waiting writes of UART_CTRL, where there are any, have taken effect. -/
def State.uaCtrlPut (s : State) (n : Nat) : Option UartPend → State
  | none => s
  | some p => s.uaPendPut n p

/-- The waiting write of BAUDDIV, where there is one, has taken effect. -/
def State.uaBaudPut (s : State) (n : Nat) : Option Nat → State
  | none => s
  | some b => s.wr (Reg.UART_BAUD_BAUDDIV.at n) b

theorem uaApply_eq (s : State) (n : Nat) : s.uaApply n =
    ((s.uaCtrlPut n (s.ua n).pend).uaBaudPut n (s.ua n).pendBaud).setUa n { s.ua n with pend := none, pendBaud := none } := by
  cases hpend : (s.ua n).pend <;> cases hbaud : (s.ua n).pendBaud <;>
    simp [State.uaApply, State.uaCtrlPut, State.uaPendPut, State.uaBaudPut, hpend, hbaud]

@[simp] theorem uaApply_ua (s : State) (n : Nat) : (s.uaApply n).ua n = { s.ua n with pend := none, pendBaud := none } := by
  rw [uaApply_eq, State.ua_setUa]

/-- Nothing waits. -/
theorem uaApply_none (hpend : (s.ua n).pend = none) (hbaud : (s.ua n).pendBaud = none) : s.uaApply n = s.setUa n (s.ua n) := by
  simp only [uaApply_eq, hpend, hbaud, State.uaCtrlPut, State.uaBaudPut]
  rw [← hpend, ← hbaud]

theorem uaApply_baud {b : Nat} (hpend : (s.ua n).pend = none) (hbaud : (s.ua n).pendBaud = some b) :
    s.uaApply n = (s.wr (Reg.UART_BAUD_BAUDDIV.at n) b).setUa n { s.ua n with pend := none, pendBaud := none } := by
  rw [uaApply_eq, hpend, hbaud]
  rfl

theorem uaApply_ctrl {u : UartPend} (hpend : (s.ua n).pend = some u) (hbaud : (s.ua n).pendBaud = none) :
    s.uaApply n = (s.uaPendPut n u).setUa n { s.ua n with pend := none, pendBaud := none } := by
  rw [uaApply_eq, hpend, hbaud]
  rfl

theorem uaCtrlPut_keepsBut (s : State) (n : Nat) (p : Option UartPend) :
    KeepsBut (uaPendFields.map (·.at n)) [.hed] s (s.uaCtrlPut n p) := by
  cases p with
  | none => exact KeepsBut.refl _ _ s
  | some p =>
    exact ((((KeepsBut.refl _ _ s).wr (Reg.UART_CTRL_EN.at n) p.en (by simp [uaPendFields])).wr (Reg.UART_CTRL_DATA8.at n) p.data8
      (by simp [uaPendFields])).wr (Reg.UART_CTRL_PARITY.at n) p.parity (by simp [uaPendFields])).wr (Reg.UART_CTRL_STOP2.at n)
        p.stop2 (by simp [uaPendFields])

theorem uaApply_keepsBut (s : State) (n : Nat) : KeepsBut (uaPendFields.map (·.at n)) [.hed] s (s.uaApply n) := by
  have hctrl := uaCtrlPut_keepsBut s n (s.ua n).pend
  rw [uaApply_eq]
  cases (s.ua n).pendBaud with
  | none => exact hctrl.setUa n _
  | some b => exact (hctrl.wr (Reg.UART_BAUD_BAUDDIV.at n) b (by simp [uaPendFields])).setUa n _

/-! ### The start of a character (R643) -/

theorem uaStart_cons {c : Nat} {q : List Nat} (h : (s.ua n).tx = c :: q) : s.uaStart n =
    (((s.uaSetTx n q).setUa n { s.ua n with tx := q, sending := some c, onBus := s.rsMayDrive n, de := true }).wr
      (Reg.UART_STAT_TX_BUSY.at n) 1).wr (Reg.UART_STAT_IDLE.at n) 0 := by
  simp [State.uaStart, h]

theorem uaStart_sends (h : (s.ua n).tx ≠ []) :
    (s.uaStart n).ua n =
        { s.ua n with tx := (s.ua n).tx.tail, sending := (s.ua n).tx.head?, onBus := s.rsMayDrive n, de := true } ∧
      (s.uaStart n).rd (Reg.UART_STAT_TX_BUSY.at n) = 1 ∧ (s.uaStart n).rd (Reg.UART_STAT_IDLE.at n) = 0 ∧
      KeepsBut [Reg.UART_STAT_TXFILL.at n, Reg.UART_STAT_TX_BUSY.at n, Reg.UART_STAT_IDLE.at n] [.hed, .threads] s (s.uaStart n) := by
  obtain ⟨c, q, htx⟩ := List.exists_cons_of_ne_nil h
  rw [uaStart_cons htx, htx]
  refine ⟨State.ua_setUa .., ?_, State.rd_wr_same _ (Reg.UART_STAT_IDLE.at n) 0, ?_⟩
  · rw [State.rd_wr_at _ _ _ _ _ (by decide) (by decide), State.rd_wr_same]
    rfl
  · exact ((((KeepsBut.refl _ _ s).uaSetTx n q (by simp) (by simp)).setUa n _).wr _ 1 (by simp)).wr _ 0 (by simp)

end

/-! ### The FIFOs (R641 to R645) -/

section
variable {s : State} {n : Fin 2} {wtr : Writer}

theorem uartTxWrite_takes {b : Byte} (hw : s.uaAllows n wtr = true) (hroom : (s.ua n).tx.length < 32) :
    Answers (.uartTxWrite n wtr b) s fun t =>
      t.ua n = { s.ua n with tx := (s.ua n).tx ++ [b.toNat] } ∧ t.rd (Reg.UART_STAT_TXFILL.at n) = (s.ua n).tx.length + 1 ∧
        KeepsBut [Reg.UART_STAT_TXFILL.at n] [.hed] s t := by
  have hexec : exec (.uartTxWrite n wtr b) s = .next (s.uaSetTx n ((s.ua n).tx ++ [b.toNat])) := by
    change execUartTxWrite n wtr b s = _
    simp [execUartTxWrite, hw, hroom]
  refine ⟨_, hexec, State.uaSetTx_ua s n _, ?_, ?_⟩
  · rw [State.uaSetTx_fill, List.length_append, List.length_singleton]
    omega
  · rw [uaSetTx_of_le (by simp)]
    exact ((KeepsBut.refl _ _ s).setUa n _).wr _ _ (by simp)

theorem uartTxWrite_full {b : Byte} (hw : s.uaAllows n wtr = true) (hfull : 32 ≤ (s.ua n).tx.length) :
    Answers (.uartTxWrite n wtr b) s fun t =>
      t.rd (Reg.UART_STAT_TX_OVF.at n) = 1 ∧ KeepsBut [Reg.UART_STAT_TX_OVF.at n] [] s t := by
  have hexec : exec (.uartTxWrite n wtr b) s = .next (s.wr (Reg.UART_STAT_TX_OVF.at n) 1) := by
    change execUartTxWrite n wtr b s = _
    simp [execUartTxWrite, hw, Nat.not_lt.2 hfull]
  exact ⟨_, hexec, State.rd_wr_same _ (Reg.UART_STAT_TX_OVF.at n) 1, (KeepsBut.refl _ _ s).wr _ 1 (by simp)⟩

theorem uartRxRead_pops {ch : Nat} {q : List Nat} (h : (s.ua n).rx = ch :: q) : Answers (.uartRxRead n) s fun t =>
    t.readData = BitVec.ofNat 32 (ch + 2048) ∧ t.ua n = { s.ua n with rx := q } ∧
      t.rd (Reg.UART_STAT_RXFILL.at n) = q.length % 64 ∧ KeepsBut [Reg.UART_STAT_RXFILL.at n] [.hed, .readData] s t := by
  have hexec : exec (.uartRxRead n) s = .next { s.uaSetRx n q with readData := BitVec.ofNat 32 (ch + 2048) } := by
    change execUartRxRead n s = _
    simp [execUartRxRead, h]
  have hua (t : State) (v : Word) : State.ua { t with readData := v } n = t.ua n := rfl
  have hrd (t : State) (v : Word) (f : Field) : State.rd { t with readData := v } f = t.rd f := rfl
  refine ⟨_, hexec, rfl, (hua _ _).trans (State.uaSetRx_ua ..), (hrd _ _ _).trans (State.uaSetRx_fill ..), ?_⟩
  rw [uaSetRx_of_le (by simp [h])]
  exact (((KeepsBut.refl _ _ s).setUa n _).wr _ _ (by simp)).part ((State.readData_keeps _ _).mono (by simp)) (by simp)

theorem uartRxRead_empty (h : (s.ua n).rx = []) : Answers (.uartRxRead n) s fun t => t.readData = 0 ∧ Keeps [.readData] s t := by
  have hexec : exec (.uartRxRead n) s = .next { s with readData := 0 } := by
    change execUartRxRead n s = _
    simp [execUartRxRead, h]
  exact ⟨_, hexec, rfl, s.readData_keeps 0⟩

theorem txflush_empties (hw : s.uaAllows n wtr = true) : Answers (.txflush n wtr) s fun t =>
    t.ua n = { s.ua n with tx := [] } ∧ t.rd (Reg.UART_STAT_TXFILL.at n) = 0 ∧
      KeepsBut [Reg.UART_STAT_TXFILL.at n] [.hed, .threads] s t :=
  ⟨_, congrArg Host.Outcome.next (if_pos hw), State.uaSetTx_ua .., State.uaSetTx_fill s n [],
    (KeepsBut.refl _ _ s).uaSetTx n [] (by simp) (by simp)⟩

theorem rxflush_empties (hw : s.uaAllows n wtr = true) : Answers (.rxflush n wtr) s fun t =>
    t.ua n = { s.ua n with rx := [] } ∧ t.rd (Reg.UART_STAT_RXFILL.at n) = 0 ∧
      KeepsBut [Reg.UART_STAT_RXFILL.at n] [.hed] s t := by
  refine ⟨_, congrArg Host.Outcome.next (if_pos hw), State.uaSetRx_ua .., State.uaSetRx_fill s n [], ?_⟩
  rw [uaSetRx_of_le (by simp)]
  exact ((KeepsBut.refl _ _ s).setUa n _).wr _ _ (by simp)

/-! ### The configuration (R640, R641) -/

theorem uartConfigWrite_baud {v : BitVec 24} (hw : s.uaAllows n wtr = true) (hv : 8000 ≤ v.toNat) (hsend : (s.ua n).sending = none)
    (hpend : (s.ua n).pend = none) : Answers (.uartConfigWrite n wtr (.baud v) false) s fun t =>
      t.rd (Reg.UART_BAUD_BAUDDIV.at n) = v.toNat ∧ t.ua n = { s.ua n with pendBaud := none } ∧
        KeepsBut [Reg.UART_BAUD_BAUDDIV.at n] [.hed] s t := by
  have hexec : exec (.uartConfigWrite n wtr (.baud v) false) s =
      .next ((s.setUa n { s.ua n with pendBaud := some v.toNat }).uaApply n) := by
    change execUartConfigWrite n wtr (.baud v) false s = _
    simp [execUartConfigWrite, hw, Nat.not_lt.2 hv, hsend]
  rw [uaApply_baud (b := v.toNat) (by simp [hpend]) (by simp)] at hexec
  refine ⟨_, hexec, ?_, by simp [hpend], (((KeepsBut.refl _ _ s).setUa n _).wr _ _ (by simp)).setUa n _⟩
  exact (State.rd_wr_same _ (Reg.UART_BAUD_BAUDDIV.at n) _).trans (Nat.mod_eq_of_lt v.isLt)

theorem uartConfigWrite_baud_waits {v : BitVec 24} (hw : s.uaAllows n wtr = true) (hv : 8000 ≤ v.toNat) :
    Answers (.uartConfigWrite n wtr (.baud v) true) s fun t =>
      t.ua n = { s.ua n with pendBaud := some v.toNat } ∧ Keeps [.hed] s t := by
  have hexec : exec (.uartConfigWrite n wtr (.baud v) true) s = .next (s.setUa n { s.ua n with pendBaud := some v.toNat }) := by
    change execUartConfigWrite n wtr (.baud v) true s = _
    simp [execUartConfigWrite, hw, Nat.not_lt.2 hv]
  exact ⟨_, hexec, State.ua_setUa .., s.setUa_keeps n _⟩

/-- A divider below 31.25 is no legal value (R18, R641). -/
theorem uartConfigWrite_baud_refused {v : BitVec 24} {r : Bool} (hv : v.toNat < 8000) :
    Answers (.uartConfigWrite n wtr (.baud v) r) s fun t => t = s := by
  refine ⟨s, ?_, rfl⟩
  change execUartConfigWrite n wtr (.baud v) r s = _
  simp [execUartConfigWrite, hv]

/-- The writes of UART_CTRL that take effect at once. -/
def State.uaCtrlNow (s : State) (n w : Nat) : State :=
  ((s.wr (Reg.UART_CTRL_ECHO.at n) (fieldOf w 7 1)).wr (Reg.UART_CTRL_WAKE_EN.at n) (fieldOf w 8 1)).wr (Reg.UART_CTRL_THREAD.at n)
    (fieldOf w 9 5)

/-- The writes of UART_CTRL that wait for the end of a character where networks may run. -/
def State.uaCtrlPend (s : State) (n w : Nat) : UartPend :=
  { en := fieldOf w 0 1, data8 := fieldOf w 3 1,
    parity := if fieldOf w 4 2 = 3 then s.rd (Reg.UART_CTRL_PARITY.at n) else fieldOf w 4 2, stop2 := fieldOf w 6 1 }

theorem exec_uartConfigWrite_ctrl {v : Word} (hw : s.uaAllows n wtr = true) (hsend : (s.ua n).sending = none)
    (hbaud : (s.ua n).pendBaud = none) (hnet : s.netsOff = false) : exec (.uartConfigWrite n wtr (.ctrl v) false) s =
      .next ((((s.uaCtrlNow n v.toNat).setUa n { s.ua n with pend := some (s.uaCtrlPend n v.toNat) }).uaPendPut n
        (s.uaCtrlPend n v.toNat)).setUa n { s.ua n with pend := none }) := by
  have hexec : exec (.uartConfigWrite n wtr (.ctrl v) false) s =
      .next (((s.uaCtrlNow n v.toNat).setUa n { s.ua n with pend := some (s.uaCtrlPend n v.toNat) }).uaApply n) := by
    change execUartConfigWrite n wtr (.ctrl v) false s = _
    simp [execUartConfigWrite, State.uaCtrlNow, State.uaCtrlPend, hw, hsend, hnet]
  rw [hexec, uaApply_ctrl (u := s.uaCtrlPend n v.toNat) (by simp) (by simp [hbaud])]
  simp [hbaud]

theorem uartConfigWrite_ctrl {v : Word} (hw : s.uaAllows n wtr = true) (hsend : (s.ua n).sending = none)
    (hbaud : (s.ua n).pendBaud = none) (hnet : s.netsOff = false) : Answers (.uartConfigWrite n wtr (.ctrl v) false) s fun t =>
      t.rd (Reg.UART_CTRL_EN.at n) = fieldOf v.toNat 0 1 ∧ t.rd (Reg.UART_CTRL_DATA8.at n) = fieldOf v.toNat 3 1 ∧
        t.rd (Reg.UART_CTRL_PARITY.at n) =
          (if fieldOf v.toNat 4 2 = 3 then s.rd (Reg.UART_CTRL_PARITY.at n) % 4 else fieldOf v.toNat 4 2) ∧
        t.rd (Reg.UART_CTRL_STOP2.at n) = fieldOf v.toNat 6 1 ∧ t.rd (Reg.UART_CTRL_ECHO.at n) = fieldOf v.toNat 7 1 ∧
        t.rd (Reg.UART_CTRL_WAKE_EN.at n) = fieldOf v.toNat 8 1 ∧ t.rd (Reg.UART_CTRL_THREAD.at n) = fieldOf v.toNat 9 5 ∧
        t.ua n = { s.ua n with pend := none } := by
  have hbits (lo w : Nat) : fieldOf v.toNat lo w % 2 ^ w = fieldOf v.toNat lo w := Nat.mod_eq_of_lt (fieldOf_lt ..)
  refine ⟨_, exec_uartConfigWrite_ctrl hw hsend hbaud hnet, ?_, ?_, ?_, ?_, ?_, ?_, ?_, State.ua_setUa ..⟩
  all_goals simp (disch := decide) only [State.rd_setUa, State.uaPendPut, State.uaCtrlNow, State.rd_wr_at, State.rd_wr_same]
  · exact hbits 0 1
  · exact hbits 3 1
  · unfold State.uaCtrlPend
    split
    · rfl
    · exact hbits 4 2
  · exact hbits 6 1
  · exact hbits 7 1
  · exact hbits 8 1
  · exact hbits 9 5

/-! ### Transmission (R643) -/

theorem uartTransmitStart_sends (hstart : s.uaMayStart n = true) (hsend : (s.ua n).sending = none) (htx : (s.ua n).tx ≠ []) :
    Answers (.uartTransmitStart n) s fun t =>
      t.ua n = { s.ua n with tx := (s.ua n).tx.tail, sending := (s.ua n).tx.head?, onBus := s.rsMayDrive n, de := true } ∧
        t.rd (Reg.UART_STAT_TX_BUSY.at n) = 1 ∧ t.rd (Reg.UART_STAT_IDLE.at n) = 0 ∧
        KeepsBut [Reg.UART_STAT_TXFILL.at n, Reg.UART_STAT_TX_BUSY.at n, Reg.UART_STAT_IDLE.at n] [.hed, .threads] s t :=
  ⟨_, congrArg Host.Outcome.next (if_pos (by simp [hstart, hsend])), uaStart_sends htx⟩

theorem uartTransmitStart_idle (h : s.uaMayStart n = false ∨ (s.ua n).sending ≠ none ∨ (s.ua n).tx = []) :
    Answers (.uartTransmitStart n) s fun t => t = s := by
  refine ⟨s, congrArg Host.Outcome.next ?_, rfl⟩
  rcases h with h | h | h
  · exact if_neg (by simp [h])
  · exact if_neg (by simp [h])
  · have hnone : s.uaStart n = s := by simp [State.uaStart, h]
    rw [hnone, ite_self]

/-- The character has been sent, and nothing waited for its end. -/
def State.uaSent (s : State) (n : Nat) : State :=
  (s.setUa n { s.ua n with sending := none, onBus := false }).setUa n { s.ua n with sending := none, onBus := false }

theorem exec_uartCharacterSent (hsend : (s.ua n).sending ≠ none) (hpend : (s.ua n).pend = none) (hbaud : (s.ua n).pendBaud = none) :
    exec (.uartCharacterSent n) s = .next (if s.uaMayStart n then (s.uaSent n).uaStart n else s.uaSent n) := by
  have hexec : exec (.uartCharacterSent n) s = .next
      (if ((s.setUa n { s.ua n with sending := none, onBus := false }).uaApply n).uaMayStart n then
        ((s.setUa n { s.ua n with sending := none, onBus := false }).uaApply n).uaStart n
      else (s.setUa n { s.ua n with sending := none, onBus := false }).uaApply n) :=
    congrArg Host.Outcome.next (if_neg (by simpa using hsend))
  rw [hexec, uaApply_none (by simp [hpend]) (by simp [hbaud]), State.ua_setUa]
  rfl

theorem uartCharacterSent_next (hsend : (s.ua n).sending ≠ none) (hpend : (s.ua n).pend = none) (hbaud : (s.ua n).pendBaud = none)
    (hstart : s.uaMayStart n = true) (htx : (s.ua n).tx ≠ []) : Answers (.uartCharacterSent n) s fun t =>
      t.ua n = { s.ua n with tx := (s.ua n).tx.tail, sending := (s.ua n).tx.head?, onBus := s.rsMayDrive n, de := true } ∧
        t.rd (Reg.UART_STAT_TX_BUSY.at n) = 1 := by
  have hua : (s.uaSent n).ua n = { s.ua n with sending := none, onBus := false } := State.ua_setUa ..
  obtain ⟨hnext, hbusy, -, -⟩ := uaStart_sends (s := s.uaSent n) (n := n) (by rwa [hua])
  refine ⟨_, (exec_uartCharacterSent hsend hpend hbaud).trans (congrArg Host.Outcome.next (if_pos hstart)), ?_, hbusy⟩
  rw [hnext, hua]
  rfl

theorem uartCharacterSent_last (hsend : (s.ua n).sending ≠ none) (hpend : (s.ua n).pend = none) (hbaud : (s.ua n).pendBaud = none)
    (htx : (s.ua n).tx = []) : Answers (.uartCharacterSent n) s fun t =>
      t.ua n = { s.ua n with sending := none, onBus := false } ∧ Keeps [.hed] s t := by
  have hnone : (s.uaSent n).uaStart n = s.uaSent n := by simp [State.uaStart, State.uaSent, htx]
  refine ⟨s.uaSent n, (exec_uartCharacterSent hsend hpend hbaud).trans (congrArg Host.Outcome.next ?_), State.ua_setUa ..,
    (s.setUa_keeps n _).trans (State.setUa_keeps _ n _)⟩
  rw [hnone, ite_self]

theorem uartDeRelease_falls (hde : (s.ua n).de = true) (hsend : (s.ua n).sending = none) (htx : (s.ua n).tx = []) :
    Answers (.uartDeRelease n) s fun t =>
      t.ua n = { s.ua n with de := false } ∧ t.rd (Reg.UART_STAT_TX_BUSY.at n) = 0 ∧
        KeepsBut [Reg.UART_STAT_TX_BUSY.at n] [.hed] s t :=
  ⟨_, congrArg Host.Outcome.next (if_pos (by simp [hde, hsend, htx])), State.ua_setUa ..,
    State.rd_wr_same _ (Reg.UART_STAT_TX_BUSY.at n) 0, ((KeepsBut.refl _ _ s).setUa n _).wr _ 0 (by simp)⟩

end

/-! ### Reception (R640, R642, R644, R645) -/

/-- The end of a received character: the writes that waited take effect where none is being sent. -/
def State.uaRxEnd (s : State) (n : Nat) (idle : Bool) : State := if idle then s.uaApply n else s

theorem uaRxEnd_ua (s : State) (n : Nat) (idle : Bool) :
    ((s.uaRxEnd n idle).ua n).rx = (s.ua n).rx ∧ ((s.uaRxEnd n idle).ua n).tx = (s.ua n).tx := by
  cases idle
  · exact ⟨rfl, rfl⟩
  · rw [show s.uaRxEnd n true = s.uaApply n from rfl, uaApply_ua]
    exact ⟨rfl, rfl⟩

theorem uaRxEnd_rd (s : State) (n : Nat) (idle : Bool) (g : Field) (hg : ∀ f ∈ uaPendFields, g.s1 = f.s1 ∧ g.key ≠ f.key) :
    (s.uaRxEnd n idle).rd (g.at n) = s.rd (g.at n) := by
  cases idle
  · rfl
  · exact (uaApply_keepsBut s n).rd_at g hg

/-- A character with its flags has been put into the receive FIFO and its flags shown. -/
def State.uaShown (s : State) (n c : Nat) (fr par brk : Bool) : State :=
  ((((s.wr (Reg.UART_STAT_IDLE.at n) 0).uaSetRx n ((s.ua n).rx ++ [c])).wrIf fr (Reg.UART_STAT_FRAMING_SEEN.at n) 1).wrIf par
    (Reg.UART_STAT_PARITY_SEEN.at n) 1).wrIf brk (Reg.UART_STAT_BREAK_SEEN.at n) 1

/-- A character with a flag also wakes the bound thread. -/
def State.uaStored (s : State) (n c : Nat) (fr par brk : Bool) : State :=
  if fr || par || brk then (s.uaShown n c fr par brk).uaWake n else s.uaShown n c fr par brk

@[simp] theorem State.wrIf_ua (s : State) (c : Bool) (f : Field) (v n : Nat) : (s.wrIf c f v).ua n = s.ua n := by cases c <;> rfl

theorem uaStored_ua (s : State) (n c : Nat) (fr par brk : Bool) :
    (s.uaStored n c fr par brk).ua n = { s.ua n with rx := (s.ua n).rx ++ [c] } := by
  have hshown : (s.uaShown n c fr par brk).ua n = { s.ua n with rx := (s.ua n).rx ++ [c] } := by simp [State.uaShown]
  unfold State.uaStored
  split
  · rw [State.uaWake_ua, hshown]
  · exact hshown

theorem uaStored_rd (s : State) (n c : Nat) (fr par brk : Bool) (f : Field) :
    (s.uaStored n c fr par brk).rd f = (s.uaShown n c fr par brk).rd f := by
  unfold State.uaStored
  split
  · exact State.uaWake_rd ..
  · rfl

theorem State.rd_wrIf_at (s : State) (c : Bool) (f g : Field) (n v : Nat) (hs : g.s1 = f.s1) (h : g.key ≠ f.key) :
    (s.wrIf c (f.at n) v).rd (g.at n) = s.rd (g.at n) := by
  cases c
  · rfl
  · exact s.rd_wr_at f g n v hs h

theorem uaShown_idle (s : State) (n c : Nat) (fr par brk : Bool) :
    (s.uaShown n c fr par brk).rd (Reg.UART_STAT_IDLE.at n) = 0 := by
  simp (disch := decide) only [State.uaShown, State.rd_wrIf_at, State.uaSetRx_rd, State.rd_wr_at, State.rd_wr_same]
  exact Nat.zero_mod _

theorem uaShown_framing (s : State) (n c : Nat) (par brk : Bool) :
    (s.uaShown n c true par brk).rd (Reg.UART_STAT_FRAMING_SEEN.at n) = 1 := by
  simp (disch := decide) only [State.uaShown, State.rd_wrIf_at, State.wrIf_true]
  exact State.rd_wr_same _ (Reg.UART_STAT_FRAMING_SEEN.at n) 1

theorem uaShown_break (s : State) (n c : Nat) (fr par : Bool) :
    (s.uaShown n c fr par true).rd (Reg.UART_STAT_BREAK_SEEN.at n) = 1 :=
  State.rd_wr_same _ (Reg.UART_STAT_BREAK_SEEN.at n) 1

section
variable {s : State} {n : Fin 2} {d : Byte} {fr par brk : Bool}

/-- The word of a received character: its data and its flags (R642). -/
def State.uaRxWord (s : State) (n : Nat) (d : Byte) (fr par brk : Bool) : Nat :=
  (if s.on (Reg.UART_CTRL_DATA8.at n) then d.toNat else d.toNat % 128) + 2 ^ 8 * b2n fr +
    2 ^ 9 * b2n (par && s.on (Reg.UART_CTRL_PARITY.at n)) + 2 ^ 10 * b2n brk

/-- An enabled UART takes a character that it did not send itself, or any with ECHO. -/
theorem exec_uartCharacterReceived (hen : s.rd (Reg.UART_CTRL_EN.at n) ≠ 0)
    (hecho : (s.ua n).de = false ∨ s.rd (Reg.UART_CTRL_ECHO.at n) ≠ 0) : exec (.uartCharacterReceived n d fr par brk) s =
      .next ((if (s.ua n).rx.length < 32 then
          s.uaStored n (s.uaRxWord n d fr par brk) fr (par && s.on (Reg.UART_CTRL_PARITY.at n)) brk
        else (s.wr (Reg.UART_STAT_IDLE.at n) 0).wr (Reg.UART_STAT_OVERRUN.at n) 1).uaRxEnd n (s.ua n).sending.isNone) := by
  refine congrArg Host.Outcome.next (if_neg ?_)
  rcases hecho with h | h <;> simp [State.on, hen, h]

theorem uartCharacterReceived_stored (hen : s.rd (Reg.UART_CTRL_EN.at n) ≠ 0)
    (hecho : (s.ua n).de = false ∨ s.rd (Reg.UART_CTRL_ECHO.at n) ≠ 0) (hroom : (s.ua n).rx.length < 32) :
    Answers (.uartCharacterReceived n d fr par brk) s fun t =>
      (t.ua n).rx = (s.ua n).rx ++ [(if s.rd (Reg.UART_CTRL_DATA8.at n) ≠ 0 then d.toNat else d.toNat % 128) + 256 * b2n fr +
        512 * b2n (par && decide (s.rd (Reg.UART_CTRL_PARITY.at n) ≠ 0)) + 1024 * b2n brk] ∧
        (fr = true → t.rd (Reg.UART_STAT_FRAMING_SEEN.at n) = 1) ∧ (brk = true → t.rd (Reg.UART_STAT_BREAK_SEEN.at n) = 1) ∧
        t.rd (Reg.UART_STAT_IDLE.at n) = 0 ∧ (t.ua n).tx = (s.ua n).tx := by
  have hexec := exec_uartCharacterReceived (d := d) (fr := fr) (par := par) (brk := brk) hen hecho
  rw [if_pos hroom] at hexec
  refine ⟨_, hexec, ?_, ?_, ?_, ?_, ?_⟩
  · rw [(uaRxEnd_ua ..).1, uaStored_ua]
    simp [State.uaRxWord, State.on]
  · rintro rfl
    rw [uaRxEnd_rd _ _ _ _ (by decide), uaStored_rd, uaShown_framing]
  · rintro rfl
    rw [uaRxEnd_rd _ _ _ _ (by decide), uaStored_rd, uaShown_break]
  · rw [uaRxEnd_rd _ _ _ _ (by decide), uaStored_rd, uaShown_idle]
  · rw [(uaRxEnd_ua ..).2, uaStored_ua]

theorem uartCharacterReceived_overrun (hen : s.rd (Reg.UART_CTRL_EN.at n) ≠ 0)
    (hecho : (s.ua n).de = false ∨ s.rd (Reg.UART_CTRL_ECHO.at n) ≠ 0) (hfull : 32 ≤ (s.ua n).rx.length) :
    Answers (.uartCharacterReceived n d fr par brk) s fun t =>
      t.rd (Reg.UART_STAT_OVERRUN.at n) = 1 ∧ (t.ua n).rx = (s.ua n).rx := by
  have hexec := exec_uartCharacterReceived (d := d) (fr := fr) (par := par) (brk := brk) hen hecho
  rw [if_neg (Nat.not_lt.2 hfull)] at hexec
  refine ⟨_, hexec, ?_, (uaRxEnd_ua ..).1⟩
  rw [uaRxEnd_rd _ _ _ _ (by decide)]
  exact State.rd_wr_same _ (Reg.UART_STAT_OVERRUN.at n) 1

theorem uartCharacterReceived_ignored
    (h : s.rd (Reg.UART_CTRL_EN.at n) = 0 ∨ ((s.ua n).de = true ∧ s.rd (Reg.UART_CTRL_ECHO.at n) = 0)) :
    Answers (.uartCharacterReceived n d fr par brk) s fun t => t = s := by
  refine ⟨s, congrArg Host.Outcome.next (if_pos ?_), rfl⟩
  rcases h with h | ⟨hde, hecho⟩
  · simp [State.on, h]
  · simp [State.on, hde, hecho]

theorem uartIdle_shows (hde : (s.ua n).de = false) (hidle : s.rd (Reg.UART_STAT_IDLE.at n) = 0) : Answers (.uartIdle n) s fun t =>
    t.rd (Reg.UART_STAT_IDLE.at n) = 1 ∧ t.rd (Reg.UART_STAT_IDLE_EVENT.at n) = 1 ∧
      KeepsBut [Reg.UART_STAT_IDLE.at n, Reg.UART_STAT_IDLE_EVENT.at n] [.threads] s t := by
  refine ⟨_, congrArg Host.Outcome.next (if_neg (by simp [State.on, hde, hidle])), ?_, ?_, ?_⟩
  · rw [State.uaWake_rd, State.rd_wr_at _ _ _ _ _ (by decide) (by decide), State.rd_wr_same]
    rfl
  · rw [State.uaWake_rd, State.rd_wr_same]
    rfl
  · exact (((KeepsBut.refl _ _ s).wr _ 1 (by simp)).wr _ 1 (by simp)).uaWake n (by simp)

end

/-- Settles O36: each command of a UART by its own lemma; the FIFO lemmas say when a change wakes the bound thread, and `uaApply_eq`
what the end of a character brings into effect. -/
theorem uarts : Obligations.Uarts :=
  ⟨fun _ _ _ _ => uartTxWrite_takes, fun _ _ _ _ => uartTxWrite_full, fun _ _ _ _ => uartRxRead_pops, fun _ _ => uartRxRead_empty,
    fun _ _ _ => txflush_empties, fun _ _ _ => rxflush_empties, fun _ _ _ _ => uartConfigWrite_baud,
    fun _ _ _ _ => uartConfigWrite_baud_waits, fun _ _ _ _ _ => uartConfigWrite_baud_refused, fun _ _ _ _ => uartConfigWrite_ctrl,
    fun _ _ => uartTransmitStart_sends, fun _ _ => uartTransmitStart_idle, fun _ _ => uartCharacterSent_next,
    fun _ _ => uartCharacterSent_last, fun _ _ => uartDeRelease_falls, fun _ _ _ _ _ _ => uartCharacterReceived_stored,
    fun _ _ _ _ _ _ => uartCharacterReceived_overrun, fun _ _ _ _ _ _ => uartCharacterReceived_ignored, fun _ _ => uartIdle_shows⟩

end Sys2Proof.Machine
